-- ==== Sys2Proof/Word.lean ====
section
/-!
DEFINITION. The plain words of the model: bytes, 32-bit register words and the few widths the spec's own words name.
-/

namespace Sys2Proof

/-- A byte of an image, a frame or a memory. -/
abbrev Byte := BitVec 8

/-- A register word (R412). -/
abbrev Word := BitVec 32

/-- A grain: marker M (bit 9), odd parity P (bit 8), byte D (bits 7 to 0) (R53, Table 03-1). -/
abbrev Grain := BitVec 10

/-- A tributary address, 24 bits (R8, Table 00-5). -/
abbrev TA := BitVec 24

end Sys2Proof
end

