-- ==== Sys2Proof/Syntax.lean ====
section
/-!
DEFINITION. The commands of the SQ-4128: one constructor for each row of spec/opcode_table.json, in the table's order. The
table gives a row no operands and no bits; the operands here are what the row's rules need to be told from outside (which
unit, which host port, the value written, what was received or measured).
-/

namespace Sys2Proof

/-- A host port (R388). -/
inductive Port where
  | a | b
deriving DecidableEq, Repr

/-- The copy of a per-port register that the port reaches (R419). -/
def Port.toNat : Port → Nat
  | .a => 0
  | .b => 1

/-- What a host has written to a port's configuration space beside its enables (R388, R390): the maximum payload size (128, 256 or 512
bytes) and the words of BAR0, BAR2 and BAR3. -/
structure PciCfg where
  mps  : Fin 3
  bar0 : Word
  bar2 : Word
  bar3 : Word
deriving DecidableEq, Repr

/-- A read of so many bytes, or a write of bytes, a byte that is not enabled standing as none (R411). -/
inductive MemOp where
  | read (n : Nat)
  | write (bytes : List (Option Byte))
deriving DecidableEq, Repr

/-- What a check of stored bits finds (R70, R311, R325): a word's error is an event outside the model's control. -/
inductive Ecc where
  | ok
  | correctable
  | uncorrectable
deriving DecidableEq, Repr

/-- What befalls a grain that arrives at the write side of a region, none of it under the model's control: a gather-table word fails its
check, and, of a grain of Pour, what the check of the memory it is read from and of its staging word finds, whether its word comes late,
and the bits upset where it crosses into the region; and the bits upset in the slot store since the last access: physical bank, word, bit. -/
structure CellFaults where
  gather : Bool
  errs   : List (Nat × Ecc)
  sram   : Ecc
  late   : Bool
  flip   : Grain
  ups    : List (Nat × Nat × Nat)
deriving DecidableEq, Repr

/-- What the grains of a period that begins will show, where nothing in the state foretells it: a negative justification, a positive one,
and the offset of the path start (R136). -/
structure Ahead where
  neg   : Bool
  pos   : Bool
  start : Option Nat
deriving DecidableEq, Repr

/-- One command of the block (opcode_table.json). -/
inductive Instr where
  -- Bench image
  /-- START with SOURCE 0 loads an image of BENCH_LEN bytes from the staging window; it is ignored while busy. (R43). -/
  | benchStartStaging (p : Port)
  /-- START with SOURCE 1 loads an image from flash slot 0. (R43). -/
  | benchStartSlot0 (p : Port)
  /-- START with SOURCE 2 loads an image from flash slot 1. (R43). -/
  | benchStartSlot1 (p : Port)
  /-- START with SOURCE 3 is refused before any read with code FIELD and step 0, and counts on PKG.BENCH. (R440). -/
  | benchStartInvalidSource (p : Port)
  /-- The 64-byte header has been read and is checked at steps 1 and 2; a refusal ends the read. (R46). -/
  | imageHeaderRead (flash : List Byte)
  /-- The whole image has been read and is validated in the order of Table 02-10. (R46). -/
  | imageReadDone (flash : List Byte) (again : List (List Byte)) (rom : Bool)
  /-- At the next frame boundary after a full image is accepted at run time, all outputs are forced, MSP groups are deleted, open transactions are aborted and start-up runs from step 9. (R48). -/
  | fullRebenchApply
  /-- At frame FN_A, region g's outputs are forced to MS-AIS and dependent tributaries carry path AIS. (R49). -/
  | regionRebenchApply
  /-- The region island and clusters have stopped and POWER has been applied (step 5). (R49). -/
  | regionPowerApplied
  /-- The region PLL locks (step 6). (R49). -/
  | regionPllLocked
  /-- The region's slab banks and gather table have been cleared (step 7). (R49). -/
  | regionSlabsCleared
  /-- LINKS has been applied and the SerDes of the region's powered LUs adapted (step 8). (R49). -/
  | regionLinksApplied
  /-- At the first FN that is a multiple of 4 and at least 4 frames after step 8, the region MAP commits and STATE becomes ACTIVE. (R49). -/
  | regionMapCommit
  /-- A re-bench step that overruns its bound sets STATE FAILED, counts on PKG.BENCH and keeps the region forced. (R51). -/
  | regionRebenchTimeout
  -- LU retirement
  /-- Writing a DIE_UNIT_RETIRE bit to 1 forces the LU's output within 500 ns, fails its ingress tributaries at source and refuses transactions that name it. (R24). -/
  | luRetire (p : Port) (n : Fin 128)
  /-- Writing a retire bit to 0 schedules the LU's return to service at the next frame boundary. (R24). -/
  | luUnretire (p : Port) (n : Fin 128)
  /-- At the frame boundary after an un-retire, the LU's outputs follow the active map. (R24). -/
  | luUnretireApply (n : Fin 128)
  -- Line links
  /-- A received line frame is descrambled and its section overhead checked and accepted. (R110). -/
  | lineFrameReceive (n : Fin 128) (frame : List Byte)
  /-- In SEARCH, a framing pattern at a new position opens a candidate while a slot is free. (R103). -/
  | framingPatternSighted (n : Fin 128) (pos : Nat)
  /-- A candidate's confirmation time arrives, and the pattern and B1 qualification decide whether it is confirmed or closed. (R103).
  `b1ok` tells that B1 agrees, or on a TG link that the header CRC does (R214). -/
  | candidateConfirmTime (n : Fin 128) (k : Fin 4) (present b1ok : Bool)
  /-- With no transition for LOS_SET, or with signal detect low, LOS is set and the framer goes to SEARCH. (R118). `low` tells that signal
  detect is low, and `quiet` for how many ns there has been no transition. -/
  | losDeclare (n : Fin 128) (low : Bool) (quiet : Nat)
  /-- Transitions and signal detect present for 125 us clear LOS. (R118). `clean` gives for how many ns they have been, without a break. -/
  | losClear (n : Fin 128) (clean : Nat)
  /-- OOF held for LOF_SET frames sets LOF. (R118). -/
  | lofDeclare (n : Fin 128)
  /-- IF held for LOF_CLR frames clears LOF. (R118). -/
  | lofClear (n : Fin 128)
  /-- 256 frames without an S1 acceptance while the value changes set S1_UNSTABLE. (R113). -/
  | s1UnstableDeclare (n : Fin 128)
  /-- 64 frames without a valid beacon message clear BEACON_VALID. (R116). -/
  | beaconValidTimeout (n : Fin 128)
  /-- A BER block ends, and MS-EXC or MS-DEG is set or cleared. (R119). -/
  | berBlockEnd (n : Fin 128) (sd : Bool)
  /-- A rate under trial fails to lock within 2 ms or to frame within 1 ms, and the search moves to the next rate. (R100). `lock` gives
  after how many ns of the trial receive clock recovery locked, if it did. -/
  | rateTryTimeout (n : Fin 128) (lock : Option Nat)
  /-- LOS or LOF held for 100 ms restarts the rate search with FOUND kept. (R100). -/
  | rateSearchAutoRestart (n : Fin 128)
  /-- A host write of LU_SEC_RATE.RESTART restarts the rate search. (R100). -/
  | rateSearchRestart (p : Port) (n : Fin 128)
  /-- At the frame boundary after FOUND changes, the transmit rate changes. (R101). -/
  | txRateChange (n : Fin 128)
  /-- A write of RESYNC puts the framer in SEARCH, closes all candidates and sets OOF. (R103). -/
  | framerResync (p : Port) (n : Fin 128)
  /-- A change of TRACE_FMT clears the accepted trace and RS-TIM and restarts acceptance. (R114). -/
  | traceFmtChange (p : Port) (n : Fin 128) (fmt : Fin 4)
  /-- A change of SF_EXP or SD_EXP restarts its block and keeps the defect until that block ends. (R119). -/
  | berThresholdChange (p : Port) (n : Fin 128) (sf sd : Fin 16)
  -- Pointers and paths
  /-- A write of LU_PATH_STRUCT word 1 checks the word pair and schedules it, or ignores it and sets STRUCT_REJ. (R125). -/
  | structWrite (p : Port) (n : Fin 128) (a : Fin 64) (v : Word)
  /-- At the first boundary with FN a multiple of 4, at least one frame on, pending structure pairs apply in AUG-1 order and are checked again. (R125). -/
  | structApply (n : Fin 128)
  /-- An AU or TU pointer word received in its period yields one indication to its interpreter. (R130). -/
  | pointerIndication (a3 : Bool) (t : TA) (w : BitVec 16) (members : List (BitVec 16)) (fall : Nat)
  /-- Once per period, a realigner whose fill reaches an edge of its window makes a system-frame justification. (R134). `drift` is by how many
  bytes more the store has received than sent since the last period judged. -/
  | realignPeriod (a3 : Bool) (t : TA) (drift : Int)
  /-- The H4 sequence of a VC with TUG-2s moves its multiframe alignment between IM and OOM. (R135). -/
  | h4MultiframeCheck (a3 : Bool) (t : TA) (v : Fin 4)
  /-- OOM held for 8 frames sets LOM and holds the TUs inside in LOP. (R135). -/
  | lomDeclare (a3 : Bool) (t : TA)
  /-- Per period, the egress generator sends the pointer for the delivered grains by the rules of R136. (R136). -/
  | pointerGenerate (a3 : Bool) (t : TA) (ahead : Ahead)
  /-- A path's overhead in its period is monitored: BIP, REI, labels, traces and RDI. (R139). -/
  | pathOverheadReceive (a3 : Bool) (t : TA) (j a g bip : Byte)
  /-- A write of ENABLE=1 zeroes WR and RD, or is refused with ERR when the ring is misplaced. (R150). -/
  | journalEnable (p : Port) (d : Fin 4) (size : Fin 32)
  /-- A host write of DIE_JRN_RD frees ring slots, and is ignored if out of range. (R152). -/
  | journalRdWrite (p : Port) (d : Fin 4) (v : Word)
  /-- GO with WRITE=0 loads IND_DATA0-3 with the path's configuration and state. (R154). -/
  | pathIndRead (p : Port) (n : Fin 128) (a3 : Bool) (t : TA)
  /-- GO with WRITE=1 writes IND_DATA0 to the path's CFG. (R154). -/
  | pathIndWrite (p : Port) (n : Fin 128) (a3 : Bool) (t : TA)
  /-- The per-path access completes within 2 us and sets DONE, or sets ERR for no such path. (R154). -/
  | pathIndDone (n : Fin 128)
  /-- Writing LU_PATH_TCAP_CTRL with ARM=1 arms a trace capture for the named path. (R155). -/
  | traceCaptureArm (p : Port) (n : Fin 128) (a3 : Bool) (t : TA)
  -- Concatenated groups
  /-- READ loads the group and member registers for the group and member index. (R174). -/
  | grpRead (p : Port) (d : Fin 4) (g : Fin 1024) (i : Fin 256)
  /-- DEFINE takes the group header, moving FREE or DEFINED to DEFINED. (R174). -/
  | grpDefine (p : Port) (d : Fin 4) (g : Fin 1024)
  /-- SET_MEMBER sets member i's ingress TA, and its egress TA in TERMINATE mode. (R174). -/
  | grpSetMember (p : Port) (d : Fin 4) (g : Fin 1024) (i : Fin 256)
  /-- ACTIVATE checks the group in the order of Table 07-9 and reserves its pages, or refuses. (R175). -/
  | grpActivate (p : Port) (d : Fin 4) (g : Fin 1024)
  /-- DELETE schedules the group's removal at the first FN that is a multiple of 4 and at least 2 frames ahead. (R174). -/
  | grpDelete (p : Port) (d : Fin 4) (g : Fin 1024)
  /-- ADD puts source member i of an LCAS group into ADD. (R174). -/
  | grpAdd (p : Port) (d : Fin 4) (g : Fin 1024) (i : Fin 256)
  /-- REMOVE puts source member i of an LCAS group into IDLE. (R174). -/
  | grpRemove (p : Port) (d : Fin 4) (g : Fin 1024) (i : Fin 256)
  /-- OP 7 is refused with FIELD. (R175). -/
  | grpOpInvalid (p : Port) (d : Fin 4) (g : Fin 1024) (i : Fin 256)
  /-- The effect frame begins: the group becomes ACTIVE, monitoring starts and equalised connections switch over. (R174). -/
  | grpEffect (d : Fin 4) (g : Fin 1024)
  /-- The deletion takes effect, pages are released and connections return to the realigner. (R174). -/
  | grpDeleteEffect (d : Fin 4) (g : Fin 1024)
  /-- Once every unfailed member is aligned and 4 further frames pass, the deskew output stops carrying AIS. (R174). -/
  | grpAligned (d : Fin 4) (g : Fin 1024)
  /-- A member's VCAT control packet is received, checked by CRC and its MFI, SQ, CTRL, MST and RS-Ack used. (R165). -/
  | vcatControlPacket (d : Fin 4) (g : Fin 1024) (i : Fin 256) (aligned : Bool) (h : List Byte)
  /-- Member leads are measured against the reference, LOA is set or cleared and outputs follow a reference change. (R170). -/
  | deskewLeadMeasure (d : Fin 4) (g : Fin 1024) (arrivals : List Nat)
  /-- A member failed without a break for HOLDOFF is reported FAIL. (R168). -/
  | lcasHoldoffExpire (d : Fin 4) (g : Fin 1024) (i : Fin 256)
  /-- A member that has stayed unfailed for WTR is reported OK. (R168). -/
  | lcasWtrExpire (d : Fin 4) (g : Fin 1024) (i : Fin 256)
  /-- No MST OK within RSACK_TO returns the member to IDLE and sets ADD_FAIL. (R169). -/
  | lcasAddTimeout (d : Fin 4) (g : Fin 1024)
  /-- At the next multiframe boundary, the payload widens or narrows and SQs renumber. (R169). -/
  | lcasMultiframeBoundary (d : Fin 4) (g : Fin 1024)
  -- Multiplex section protection
  /-- ACTIVATE checks the group by Table 08-7 and enters PENDING, or sets CODE. (R189). -/
  | mspActivate (p : Port) (g k : Fin 8)
  /-- DELETE enters DELETING unless a live transaction holds a SEL_CMD for the group. (R189). -/
  | mspDelete (p : Port) (g k : Fin 8)
  /-- OP 0 or 3 is refused with FIELD. (R189). -/
  | mspOpInvalid (p : Port) (g k : Fin 8) (op3 : Bool)
  /-- The effect frame begins, and the group goes PENDING to ACTIVE or DELETING to FREE. (R189). -/
  | mspEffectFrame (g k : Fin 8)
  /-- A write to MSP configuration is stored while FREE, and otherwise ignored with WR_REJ. (R189). -/
  | mspConfigWrite (p : Port) (g k : Fin 8) (which : Fin 4) (v : Word)
  /-- An SF or SD condition held for HOLDOFF becomes a request. (R182). -/
  | mspHoldoffExpire (g k : Fin 8) (c : Fin 15) (sd : Bool)
  /-- The MSP wait-to-restore expires and the request becomes NR. (R187). -/
  | mspWtrExpire (g k : Fin 8)
  /-- EXER is removed 1 s after it takes effect, and EXER_RESULT is recorded. (R200). -/
  | mspExerEnd (g k : Fin 8)
  /-- A K-byte mismatch or agreement held for 50 ms sets or clears FOP_PM or FOP_CM. (R188). -/
  | fopTimerExpire (g k : Fin 8) (cm : Bool)
  -- Subnetwork connection protection
  /-- A selector re-evaluates within 10 us of a change of its criteria, command or timers. (R195). -/
  | sncpEvaluate (a3 : Bool) (t : TA)
  /-- A source condition held for HOLDOFF enters selection. (R192). -/
  | sncpHoldoffExpire (a3 : Bool) (t : TA) (i : Fin 4)
  /-- The selector's WTR expires and it reverts to SOURCE. (R194). -/
  | sncpWtrExpire (a3 : Bool) (t : TA)
  /-- GO loads SNCP_IND_DATA0-1 for the named selector within 2 us, or sets ERR. (R207). -/
  | sncpIndRead (p : Port) (d : Fin 4) (a3 : Bool) (t : TA)
  /-- A read of SNCP_LOG_DATA0 removes the oldest log entry and latches it. (R207). -/
  | sncpLogPop (p : Port) (d : Fin 4)
  -- Timing
  /-- Writing ENABLE=1 moves a reference from DISABLED to FAILED. (R237). -/
  | refEnable (p : Port) (r : Fin 16) (v : Word)
  /-- Writing ENABLE=0 moves a reference to DISABLED and discards WTR. (R237). -/
  | refDisable (p : Port) (r : Fin 16) (v : Word)
  /-- ACT_N periods without an edge fail the reference; if it is selected, the Main DPLL holds within 1 us. (R235). -/
  | refActivityLoss (r : Fin 16)
  /-- The next edge restores a reference's activity. (R235). -/
  | refActivityReturn (r : Fin 16)
  /-- A completed frequency gate writes TIME_REF_FOFF and moves qualification by the accept and reject limits. (R236). -/
  | refGateResult (r : Fin 16) (off : Word)
  /-- WTR expires and the reference becomes QUALIFIED. (R237). -/
  | refWtrExpire (r : Fin 16)
  /-- A reference agreeing within half of DISPUTE_LIM for 10 s becomes undisputed. (R243). -/
  | disputeClear (r : Fin 16)
  /-- CMD AUTO selects automatically by rank from the next boundary. (R242). -/
  | mainCmdAuto (p : Port) (r : Fin 32)
  /-- CMD FORCE selects REF whenever it is QUALIFIED. (R242). -/
  | mainCmdForce (p : Port) (r : Fin 32)
  /-- CMD MANUAL selects REF when it is selectable with the best QL rank. (R242). -/
  | mainCmdManual (p : Port) (r : Fin 32)
  /-- CMD HOLDOVER chooses no reference. (R242). -/
  | mainCmdHoldover (p : Port) (r : Fin 32)
  /-- CMD FREERUN puts the Main DPLL in FREERUN. (R246). -/
  | mainCmdFreerun (p : Port) (r : Fin 32)
  /-- Phase and frequency held within bounds for 2 s move ACQUIRE to LOCKED. (R246). -/
  | dpllLockAchieved (d : Fin 4)
  /-- Phase error within 50 ps for 1 s after build-out clears SWITCHING. (R249). -/
  | switchingClear
  /-- OSC_IN lost moves the PLLs to the backup oscillator and all DPLLs to FREERUN, and counts TIME.OSC. (R253). -/
  | oscInLoss
  /-- An accepted SYNC_IN edge is timestamped and its offset updates MISS and SYNC_ERR. (R258). -/
  | syncInEdge (ps : Fin 1000)
  /-- 2.5 s without an accepted edge sets SYNC_LOS. (R258). -/
  | syncLosTimeout
  /-- A write of ALIGN arms an epoch alignment at the next edge, or is refused with REJ. (R259). -/
  | syncAlign (p : Port) (v : Word)
  /-- A write of SET_SEC arms a seconds setting at the next second boundary, or is refused. (R259). -/
  | syncSetSec (p : Port) (v : Word)
  /-- At the next second boundary, the seconds are set to TB_SET, unless refused on a recheck. (R259). -/
  | setSecApply
  /-- A read of TIME_TB_W0 latches W1, W2 and TB_FN. (R417). -/
  | tbSnapshotRead (p : Port) (sub : Fin 1024)
  -- Performance monitoring
  /-- READ loads the current quarter and CFG of a binned entity. (R279). -/
  | pmRead (p : Port) (d : Fin 4) (layer : Fin 4) (a3 : Bool) (t : TA)
  /-- ENABLE allocates the lowest free slot to the entity. (R272). -/
  | pmEnable (p : Port) (d : Fin 4) (layer : Fin 4) (a3 : Bool) (t : TA)
  /-- DISABLE frees one entity's slot. (R272). -/
  | pmDisable (p : Port) (d : Fin 4) (layer : Fin 4) (a3 : Bool) (t : TA)
  /-- ENABLE_LU bins every unbinned entity of the LU and sets AUTO, or is refused whole with NOSLOT. (R272). -/
  | pmEnableLu (p : Port) (d : Fin 4) (layer : Fin 4) (a3 : Bool) (t : TA)
  /-- DISABLE_LU frees all the LU's slots and clears AUTO. (R272). -/
  | pmDisableLu (p : Port) (d : Fin 4) (layer : Fin 4) (a3 : Bool) (t : TA)
  /-- SET_CFG writes an entity's PROFILE, TCA_EN and BIDIR. (R279). -/
  | pmSetCfg (p : Port) (d : Fin 4) (layer : Fin 4) (a3 : Bool) (t : TA)
  /-- OP 6-7 or LAYER 3 is refused with FIELD. (R279). -/
  | pmOpInvalid (p : Port) (d : Fin 4) (seven : Bool) (layer : Fin 4) (a3 : Bool) (t : TA)
  /-- A write of DAY_OFS takes effect at the next quarter boundary, where the day in progress closes. (R267). -/
  | pmDayOfsWrite (p : Port) (d : Fin 4) (v : Word)
  /-- A read of PM_TCA_DATA0 removes the oldest TCA entry and latches it. (R278). -/
  | pmTcaPop (p : Port) (d : Fin 4)
  /-- A read of a counter's LO register loads the reading port's HI snapshot. (R274): a memory read by a port of n bytes of BAR0, which may
  name that register or any other (R391); `sub` is the fraction of the present ns, for the time base. -/
  | counterLoRead (p : Port) (addr : BitVec 28) (n : Nat) (sub : Fin 1024)
  -- Skim
  /-- ADD adds one tap to a job. (R285). -/
  | skimTapAdd (p : Port) (d : Fin 4) (j : Fin 8) (code : Fin 8)
  /-- REMOVE removes one tap from a job. (R285). -/
  | skimTapRemove (p : Port) (d : Fin 4) (j : Fin 8) (code : Fin 8)
  /-- FETCH_ADD starts fetching a tap list from BAR2. (R285). -/
  | skimTapFetchAdd (p : Port) (d : Fin 4) (j : Fin 8) (count : Fin 1048576)
  /-- CLEAR removes all taps of the job. (R285). -/
  | skimTapClear (p : Port) (d : Fin 4) (j : Fin 8)
  /-- The tap list fetch ends, adding all entries or none and reporting the failing index. (R285). -/
  | skimTapFetchDone (d : Fin 4) (errs : List (Nat × Ecc))
  /-- DEFINE moves a FREE job to DEFINED and clears its taps, counts and flags. (R292). -/
  | skimJobDefine (p : Port) (d : Fin 4) (j : Fin 8)
  /-- START checks Table 12-18 and enters PENDING with START_FN fixed. (R292). -/
  | skimJobStart (p : Port) (d : Fin 4) (j : Fin 8)
  /-- START with ASAP sets START_FN to FN_a+2. (R292). -/
  | skimJobStartAsap (p : Port) (d : Fin 4) (j : Fin 8)
  /-- STOP ends the job with a flush, or sets LATE_STOP in DONE or STOPPED. (R293). -/
  | skimJobStop (p : Port) (d : Fin 4) (j : Fin 8)
  /-- TRIGGER sets the trigger instant of an ARMED job. (R290). -/
  | skimJobTrigger (p : Port) (d : Fin 4) (j : Fin 8)
  /-- RELEASE frees a DONE or STOPPED job and its taps. (R292). -/
  | skimJobRelease (p : Port) (d : Fin 4) (j : Fin 8)
  /-- OP 6-7, or an operation not valid in the state, sets OP_REFUSED. (R292). -/
  | skimJobOpInvalid (p : Port) (d : Fin 4) (j : Fin 8) (op : Fin 8)
  /-- At START_FN, the job enters ARMED or RUNNING and every source begins. (R292). -/
  | skimJobBegin (d : Fin 4) (j : Fin 8)
  /-- A tapped grain enters its source's forming record. (R286). -/
  | skimGrainTap (d : Fin 4) (w : Word) (idx : Fin 1048576) (g : Grain) (bad : Bool) (ts : BitVec 96)
  /-- A TIME trigger fires when the time base reaches the frame start plus offset. (R290). -/
  | skimTriggerTime (d : Fin 4) (j : Fin 8)
  /-- FLUSH frames since a record's first grain close the record. (R287). -/
  | skimFlushTimeout (d : Fin 4) (j : Fin 8)
  /-- A record finishes writing into the ring, WR advances and ring policy, FULL or POST end apply. (R288). -/
  | skimRecordWritten (d : Fin 4) (j : Fin 8) (sram : List (Nat × Ecc))
  /-- At STOP_FN, with STOP_FN_EN set, the job ends with a flush. (R292). -/
  | skimStopFn (d : Fin 4) (j : Fin 8)
  /-- A host write of SKIM_JOB_RD frees ring slots unless draining or out of range. (R289). -/
  | skimRdWrite (p : Port) (d : Fin 4) (j : Fin 8) (v : Word)
  /-- A write of DQ_POST posts drain descriptors. (R296). -/
  | drainDescriptorPost (p : Port) (d : Fin 4) (j : Fin 8) (v : Word)
  /-- A descriptor completes: RD advances, word 3 is written and DQ_DONE increments. (R297). -/
  | drainCopyDone (d : Fin 4) (j : Fin 8) (ok : Bool) (errs : List (Nat × Ecc))
  /-- Writing DRAIN_EN 0 then 1 clears DRAIN_HALT and resumes draining. (R297). -/
  | drainEnableWrite (p : Port) (d : Fin 4) (j : Fin 8) (en : Bool)
  /-- READ loads an analyser's counts and state into DATA0-4 from one instant. (R299). -/
  | skimPrbsRead (p : Port) (d : Fin 4) (i : Fin 8192)
  /-- WRITE binds or configures an analyser. (R299). -/
  | skimPrbsWrite (p : Port) (d : Fin 4) (i : Fin 8192)
  /-- CLEAR zeroes an analyser's counts and WRAP flags. (R299). -/
  | skimPrbsClear (p : Port) (d : Fin 4) (i : Fin 8192)
  /-- OP 3 is refused with FIELD. (R308). -/
  | skimPrbsOpInvalid (p : Port) (d : Fin 4) (i : Fin 8192)
  -- Pour
  /-- ADD adds one target to a Pour job. (R300). -/
  | pourTgtAdd (p : Port) (d : Fin 4) (j : Fin 8) (code : Fin 8)
  /-- REMOVE removes one target. (R300). -/
  | pourTgtRemove (p : Port) (d : Fin 4) (j : Fin 8) (code : Fin 8)
  /-- FETCH_ADD starts fetching a target list. (R300). -/
  | pourTgtFetchAdd (p : Port) (d : Fin 4) (j : Fin 8) (count : Fin 1048576)
  /-- CLEAR removes all targets of the job. (R300). -/
  | pourTgtClear (p : Port) (d : Fin 4) (j : Fin 8)
  /-- The target list fetch ends, all or nothing. (R300). -/
  | pourTgtFetchDone (p : Port) (d : Fin 4) (errs : List (Nat × Ecc))
  /-- DEFINE moves a FREE Pour job to DEFINED. (R304). -/
  | pourJobDefine (p : Port) (d : Fin 4) (j : Fin 8)
  /-- START checks Table 12-21 and enters PENDING with START_FN fixed. (R304). -/
  | pourJobStart (p : Port) (d : Fin 4) (j : Fin 8)
  /-- START with ASAP sets START_FN to the next multiple of 4 at least FN_a+2. (R304). -/
  | pourJobStartAsap (p : Port) (d : Fin 4) (j : Fin 8)
  /-- STOP sets the end instant, or stops a PENDING job, or sets LATE_STOP. (R304). -/
  | pourJobStop (p : Port) (d : Fin 4) (j : Fin 8)
  /-- RELEASE frees a DONE or STOPPED job. (R304). -/
  | pourJobRelease (p : Port) (d : Fin 4) (j : Fin 8)
  /-- OP 4, OP 6-7, or an operation not valid in the state, sets OP_REFUSED. (R309). -/
  | pourJobOpInvalid (p : Port) (d : Fin 4) (j : Fin 8) (op : Fin 8)
  /-- At START_FN, the job plays and takes over its targets' cells. (R303). -/
  | pourJobBegin (d : Fin 4) (j : Fin 8)
  /-- The release frame begins, the targets return to the map and the job becomes DONE or STOPPED. (R304). -/
  | pourReleaseFrame (d : Fin 4) (j : Fin 8)
  /-- A write of ARM starts injection at the next block boundary, or is refused with FIELD. (R306). -/
  | pourInjectArm (p : Port) (d : Fin 4) (j : Fin 8) (what : Fin 16) (mode : Fin 4) (bits : Byte)
  /-- After WAIT periods, a script step's pointer action is taken in every target. (R307). -/
  | pourScriptStep (d : Fin 4) (j : Fin 8) (errs : List (Nat × Ecc))
  -- Work banks
  /-- A master accesses a work-bank word, admitted by its owner. (R312). -/
  | wbAccess (m : Fin 19) (d : Fin 4) (b : Fin 42) (off : Fin 262144) (op : MemOp) (ecc : Ecc) (other : Option (List (Option Byte)))
  /-- Writing a new OWNER starts a handover, or is refused under R315. (R314). -/
  | wbOwnerWrite (by_ : Option Port) (d : Fin 4) (b : Fin 42) (v : Word)
  /-- The old owner's accesses have completed and the bank becomes the new owner's. (R314). -/
  | wbHandoverDone (d : Fin 4) (b : Fin 42)
  /-- A bank handed over from SIEVE finishes zeroing and goes to its new owner. (R322). -/
  | wbSieveZeroDone (d : Fin 4) (b : Fin 42)
  /-- CLAIM with URGENT=0 returns a borrowed bank within 1 us, keeping the pass position. (R319). -/
  | wbClaimNormal (p : Port) (d : Fin 4) (b : Fin 42)
  /-- CLAIM with URGENT=1 returns a borrowed bank within 100 ns and abandons the pass. (R319). -/
  | wbClaimUrgent (p : Port) (d : Fin 4) (b : Fin 42)
  /-- Writing RETIRED=1 retires the bank. (R323). -/
  | wbRetire (p : Port) (d : Fin 4) (b : Fin 42)
  /-- Writing RETIRED=0 starts the bank's return as a zeroed NONE bank. (R323). -/
  | wbUnretire (p : Port) (d : Fin 4) (b : Fin 42)
  /-- The returned bank has been zeroed and becomes a NONE bank. (R323). -/
  | wbUnretireDone (d : Fin 4) (b : Fin 42)
  /-- A lendable bank idle for LEND_IDLE is borrowed by SIEVEd. (R317). -/
  | sieveBorrow (d : Fin 4) (b : Fin 42)
  /-- SIEVEd marches one 64-word group of the bank under test. (R318). -/
  | sieveGroupStep (d : Fin 4) (b : Fin 42) (fails : List (Fin 64))
  -- DRAM, BAR2 and the matrix
  /-- A DRAM request is served in precedence order and checked by SECDED. (R325). -/
  | dramAccess (m : Fin 19) (d : Fin 4) (o : Fin 17179869184) (op : MemOp) (errs : List (Nat × Ecc))
  /-- SIEVEd patrols every line of the stack once per PATROL_H hours. (R325). -/
  | dramPatrolRead (d : Fin 4) (line : Fin 268435456) (errs : List (Fin 8 × Ecc))
  /-- A host BAR2 request acts only when wholly in an admitting bank or partition, and otherwise gets Unsupported Request. (R411). -/
  | bar2Request (p : Port) (a : Nat) (op : MemOp) (errs : List (Nat × Ecc))
  /-- A master request crosses the bus matrix under its mode and ID limits. (R331). -/
  | matrixRequest (m : Fin 19) (t : Fin 11) (write response : Bool)
  /-- Writing a MATRIX_MRST bit resets that master. (R332). -/
  | matrixMasterReset (p : Port) (m : Fin 19)
  /-- The master reset ends, MATRIX_RSTm is written and an event counts. (R332). -/
  | matrixResetDone (m : Fin 19) (wrBeats rdBeats : Nat)
  -- Transactions and maps
  /-- OPEN moves a FREE slot to OPEN and clears its status. (R87). -/
  | txnOpen (p : Port) (k : Fin 8)
  /-- OPEN with MIRROR opens the same slot on the mate, or refuses. (R94). -/
  | txnOpenMirror (p : Port) (k : Fin 8)
  /-- CLOSE checks COMMIT_FN for alignment, range and lead, then enters BUILDING or BUILT. (R88). -/
  | txnClose (p : Port) (k : Fin 8)
  /-- CLOSE with ASAP picks the smallest valid COMMIT_FN. (R89). -/
  | txnCloseAsap (p : Port) (k : Fin 8)
  /-- ABORT aborts before the seal, or is refused with LATE_ABORT at or after it. (R92). -/
  | txnAbort (p : Port) (k : Fin 8)
  /-- RELEASE returns a terminal slot to FREE once CLEANING is 0. (R87). -/
  | txnRelease (p : Port) (k : Fin 8)
  /-- OP 5-7, or an operation not listed for the state, sets OP_REFUSED. (R87). -/
  | txnOpInvalid (p : Port) (k : Fin 8)
  /-- A write of TXN_REC3 appends the port's record, checked in the order of Table 04-7. (R95). -/
  | txnRecordAppend (p : Port) (k : Fin 8) (v : Word)
  /-- A write of TXN_FN is stored in OPEN, and otherwise sets OP_REFUSED. (R87). -/
  | txnFnWrite (p : Port) (k : Fin 8) (v : Word)
  /-- GO starts fetching COUNT records from BAR2, or sets OP_REFUSED. (R86). -/
  | txnFetchStart (p : Port) (k : Fin 8) (n : Fin 1048576)
  /-- A fetched record is appended and checked, and the fetch ends after the last. (R86). -/
  | txnFetchRecord (k : Fin 8) (ecc : Ecc × Ecc)
  /-- A record has been built on every die it touches; the last one moves the slot to BUILT. (R85). -/
  | mapRecordBuilt (k : Fin 8) (map : Option (Fin 4))
  /-- At the start of COMMIT_FN-2, a BUILT transaction is sealed and union dispatch installed. (R91). -/
  | txnSeal (k : Fin 8) (seq : Bool)
  /-- At the start of COMMIT_FN, tagged shadow entries become active and selectors and merges take effect. (R90). -/
  | txnCommit (k : Fin 8) (xchk : Bool)
  /-- At COMMIT_FN+1, union dispatch is withdrawn. (R91). -/
  | unionDispatchWithdraw (k : Fin 8)
  /-- The shadow copy again equals the active copy for the transaction's entries. (R91). -/
  | shadowSyncDone (k : Fin 8)
  /-- The restore of claimed shadow entries ends and CLEANING clears. (R87). -/
  | txnRestoreDone (k : Fin 8)
  /-- A write of TXN_MIRROR_CTRL.ENABLE is ignored while any slot is live. (R94). -/
  | mirrorEnableWrite (p : Port) (v : Word)
  /-- A mirrored record, CLOSE, abort, BUILT report, seal or acknowledgement arrives over the mate link. (R94). -/
  | mateTxnReceive (kind : Fin 10) (k : Fin 8) (w0 w1 w2 w3 : Word)
  /-- A mate without the seal by COMMIT_FN-1 refuses its copy with MATE. (R94). -/
  | mateSealTimeout (k : Fin 8)
  /-- No seal acknowledgement by COMMIT_FN-1 sets MATE_UNCONF and counts PAIR.MIRROR. (R94). -/
  | mateAckTimeout (k : Fin 8)
  /-- GO with SEL 0 reads the active map entry. (R98). -/
  | mapDiagActive (p : Port) (d : Fin 4) (a3 : Bool) (t : TA)
  /-- GO with SEL 1 reads the shadow map entry. (R98). -/
  | mapDiagShadow (p : Port) (d : Fin 4) (a3 : Bool) (t : TA)
  /-- GO with SEL 2 reads the dispatch entry of an ingress TA. (R98). -/
  | mapDiagDispatch (p : Port) (d : Fin 4) (a3 : Bool) (t : TA)
  /-- GO with SEL 3 reads the gather entry. (R98). -/
  | mapDiagGather (p : Port) (d : Fin 4) (a3 : Bool) (t : TA)
  /-- The diagnostic read completes within 20 us and sets DONE, or ERR. (R98). -/
  | mapDiagDone (d : Fin 4)
  -- Slot store diagnostics
  /-- GO starts a diagnostic read of a slab word, or is refused with ERR. (R73). -/
  | slabDiagRead (p : Port) (g : Fin 8) (b : Fin 128) (w : Fin 16384)
  /-- The slab read completes within 250 us, filling DATA0-2 and setting DONE. (R73). -/
  | slabDiagDone (g : Fin 8)
  /-- Writing ARM arms a one-shot ECC injection on the addressed word. (R73). -/
  | slabEccInjArm (p : Port) (g : Fin 8) (a b : Fin 128)
  /-- A host write to RG_SLAB_SPAREk assigns or returns a spare, or is ignored with SPARE_REJ. (R71). -/
  | slabSpareWrite (p : Port) (g : Fin 8) (k : Fin 2) (v : Word)
  /-- The spare replaces the bank from the next start of its write window. (R71). -/
  | slabSpareApply (g : Fin 8) (k : Fin 2)
  -- Events
  /-- A severity window ends before N, and WCOUNT returns to 0. (R339). -/
  | eventWindowExpire (b : Fin 175) (src : Fin 32)
  /-- With AUTO set, a quiet window of WINDOW_MS releases the source from severity. (R340). -/
  | severeAutoRelease (b : Fin 175) (src : Fin 32)
  /-- A host write of 1 to EVT_SEVERE clears severity when the live bit is 0 and the class is not GRAVE, and otherwise sets CLR_REJ. (R340). -/
  | severeClear (p : Port) (b : Fin 175) (v : Word)
  /-- At the first FN that is a multiple of 4 after the last forcing source clears, the outputs follow the map again. (R345). -/
  | safeRelease
  /-- A fenced LU or cluster restarts its islands at the first FN that is a multiple of 4. (R348). -/
  | fenceRestart (b : Fin 175)
  /-- A write of EVT_CFG stores N and AUTO and the CLASS, or sets CFG_REJ. (R341). -/
  | evtCfgWrite (p : Port) (b : Fin 175) (src : Fin 32) (v : Word)
  /-- A write of EVT_FORCE counts one event, refused for GRAVE sources outside test mode. (R354). -/
  | evtForce (p : Port) (b : Fin 175) (v : Word)
  /-- ACK clears PENDING, which sets again if an enabled sticky bit remains. (R353). -/
  | evtAck (p : Port) (b : Fin 175)
  /-- BRST resets the block's counters and status, and the engines selected in ENGINES. (R355). -/
  | blockReset (p : Port) (b : Fin 175) (port : Fin 4) (engines : Fin 16)
  /-- Writing VALID=1 clears the first-source record and OVF. (R351). -/
  | firstRecordClear (p : Port) (b : Option (Fin 175))
  /-- A write of FAULT_HOLD holds or releases FAULT_N. (R350). -/
  | faultHoldWrite (p : Port) (hold : Bool)
  /-- FAULT_N rises 2.0-2.5 us after the last severe transition. (R350). -/
  | faultPulseEnd
  /-- A host read of RG_SLAB_ECC_LAST, WB_ERR_LAST or DRAM_ERR_LAST clears its UE bit, so the register may again be loaded by the next error. (R70). -/
  | errLastRead (p : Port) (k : Fin 3) (u : Fin 8)
  -- Sensing and calibration
  /-- Every point is sampled every 62.5 us and MON_VOLT updates. (R358). -/
  | voltageSample (q : Fin 32) (raw : BitVec 16) (ok : Bool)
  /-- Each temperature sensor is read every 1 ms. (R360). -/
  | tempSample (i : Fin 16) (raw : BitVec 16) (ok trimFail : Bool)
  /-- A ring oscillator is measured hourly, DEGR and PROC update and PKG.AGING may count. (R361). -/
  | agingMeasure (g : Fin 8) (freq : Nat) (env : Int × Nat)
  /-- A common-mode probe every 100 ms classifies the far-end termination. (R362). -/
  | termProbe (n : Fin 128) (c : Fin 4)
  /-- START begins a CABLE run on a retired LU, or is refused. (R364). -/
  | tdrCableStart (p : Port) (n : Fin 128) (vf : BitVec 10)
  /-- The CABLE run ends, reporting LENGTH, LOAD_OHM and NO_END. (R364). -/
  | tdrCableDone (n : Fin 128) (found : Option (Nat × Int))
  /-- A TRACE run measures a lane's one-way delay, updates the pair delays and may count PKG.TDR. (R365). -/
  | tdrTraceRun (lane : Fin 129) (res : Option Nat)
  /-- A write of a rail window is stored, with critical windows limited to narrowing. (R359). -/
  | monRailWindowWrite (p : Port) (r : Fin 7) (crit : Bool) (v : Word)
  /-- LOAD copies the calibration store into staging. (R369). -/
  | calLoad (p : Port)
  /-- RECAL measures the named parts into staging, or is refused with COND. (R369). -/
  | calRecal (p : Port) (parts : BitVec 6) (ageOk : Bool)
  /-- ARM enables one COMMIT within 1 ms. (R370). -/
  | calArm (p : Port)
  /-- COMMIT writes a valid staging set into the store, or is refused with NOT_ARMED or IMAGE. (R370). -/
  | calCommit (p : Port)
  /-- OP 5-7 is refused with FIELD, and any operation while BUSY is refused with BUSY. (R371). -/
  | calOpInvalid (p : Port) (op : Fin 3)
  /-- The LOAD copy ends. (R369). -/
  | calLoadDone
  /-- The RECAL measurements end, within 60 s. (R369). -/
  | calRecalDone (res : Option (List (Nat × Byte)))
  /-- The store write ends, the At-once parts apply and PKG.CAL counts. (R370). -/
  | calCommitDone
  /-- An ARM not followed by COMMIT within 1 ms lapses. (R370). -/
  | calArmExpire
  -- Host interface
  /-- A host write to a register with no row of its own acts under its access type. (R412). -/
  | registerWrite (p : Port) (addr : BitVec 28) (data : List (Option Byte))
  /-- A port link loss or uncorrectable error counts on PKG.HOSTA or PKG.HOSTB. (R394). -/
  | pcieLinkDown (p : Port) (loss : Bool)
  /-- The sending port writes outbox data, rejected while FULL or by the receiver. (R396). -/
  | mboxDataWrite (p : Port) (box : Port) (i : Fin 16) (v : Word)
  /-- SEND sets FULL and sends vector 175 to the receiving port. (R396). -/
  | mboxSend (p : Port) (box : Port)
  /-- ACK clears FULL, sets ACKED and sends vector 175 to the sender. (R396). -/
  | mboxAck (p : Port) (box : Port)
  /-- GO with WRITE=0 runs a flash operation into the buffer, or is refused. (R398). -/
  | spiRead (p : Port) (addrBytes : Fin 4) (dummy : Fin 16) (opcode : Byte) (len : Fin 512)
  /-- GO with WRITE=1 runs a flash operation from the buffer, or is refused. (R398). -/
  | spiWrite (p : Port) (addrBytes : Fin 4) (dummy : Fin 16) (opcode : Byte) (len : Fin 512)
  /-- The SPI operation ends and DONE is set. (R398). -/
  | spiDone (data : List Byte) (fail : Bool)
  /-- Command 0x01 sets the SMBus byte pointer. (R400). -/
  | smbSetPointer (v : BitVec 16) (pec : Option Byte)
  /-- Command 0x02 reads 8 registers and advances the pointer by 32. (R400). -/
  | smbBlockRead
  /-- Command 0x03 reads one register and advances the pointer by 4. (R400). -/
  | smbReadRegister
  /-- Command 0x04 writes an allowed monitor register, or is discarded and counted in WR_REJ or PEC_ERR. (R401). -/
  | smbWriteRegister (v : Word) (pec : Option Byte)
  /-- Any other command byte is NACKed. (R400). -/
  | smbUnknownCommand
  /-- SCL held low 25-35 ms makes the device abandon the transfer and count PKG.SMBUS. (R399). -/
  | smbSclTimeout
  -- Boundary scan
  /-- TRST_N low or power-on resets the TAP and selects IDCODE. (R402). -/
  | tapReset
  /-- EXTEST makes the balls follow the boundary-scan register. (R405). -/
  | extest (cells : List Bool)
  /-- SAMPLE/PRELOAD selects the boundary-scan register without disturbing the balls. (R405). -/
  | samplePreload (cells : List Bool)
  /-- IDCODE selects the 32-bit identification register. (R403). -/
  | idcode
  /-- CLAMP holds the balls at the scan values and selects bypass. (R405). -/
  | clamp
  /-- HIGHZ floats the outputs and selects bypass. (R405). -/
  | highz
  /-- EXTEST_PULSE performs the IEEE 1149.6 AC test on the lanes. (R405). -/
  | extestPulse (cells : List Bool)
  /-- EXTEST_TRAIN performs the IEEE 1149.6 pulse-train test on the lanes. (R405). -/
  | extestTrain (cells : List Bool)
  /-- FACTORY_TEST with the TEST_MODE strap high enters factory test mode, and otherwise acts as BYPASS. (R406). -/
  | factoryTest
  /-- BYPASS, or any unlisted opcode, selects the bypass register. (R402). -/
  | bypass (op : BitVec 8)
  -- Faults at the edge of the package
  /-- An LU's transmit PLL unlocks or its receive CDR fails with signal present; the live condition of LUn.SERDES begins and an event counts. (R337). -/
  | serdesFault (n : Fin 128)
  /-- The SerDes fault clears and the live condition of LUn.SERDES ends, which allows a host clear or AUTO release of its severity. (R340). -/
  | serdesFaultEnd (n : Fin 128)
  /-- A host port's link completes training after a loss; the HOSTA or HOSTB live condition 'Link down' ends and the port serves requests again. (R394). -/
  | pcieLinkUp (p : Port) (rate : Fin 5) (w : Fin 4)
  /-- A configuration write to a port changes its power state, Bus Master Enable, MSI-X enable or function mask, and pending MSI-X messages are sent or held accordingly. (R390). -/
  | pcieConfigWrite (p : Port) (d3hot bme msixOn : Bool) (rest : Bool × PciCfg)
  /-- The Time DPLL stops meeting R255; TB_LOCK clears and one event counts on TIME.TB. (R247). -/
  | tbLockLoss
  /-- The level read back on FAULT_N differs from the level driven for 1 us; the PKG.FAULT_PIN live condition begins and an event counts. (R337). -/
  | faultPinMismatch
  /-- The FAULT_N read-back agrees with the driven level again and the PKG.FAULT_PIN live condition ends. (R340). -/
  | faultPinMismatchEnd
  /-- A configuration register fails its parity check, is reloaded from its protected copy and PKG.REG counts one event. (R347). -/
  | registerParityError
  -- Power, reset and start-up
  /-- The rails ramp up and the device holds itself in power-on reset until every measurement point is inside its warning window. (R376). -/
  | powerOn
  /-- Power-on reset ends once OSC_IN runs or after 10 ms, falling back to the backup oscillator when OSC_IN is absent. (R376). -/
  | porEnd (osc side test : Bool) (boot : BitVec 3)
  /-- The rails are removed in reverse order; this is the only way to leave GRAVE. (R375). -/
  | powerOff
  /-- A low level on RESET_N held for 1 us idles every transmitter, releases YOKE and answers BAR requests with Unsupported Request, unless a COMMIT holds the reset back or the package is in GRAVE. (R380). -/
  | resetNAssert
  /-- A RESET_N held back during a calibration COMMIT is carried out when the store write ends, and HELD is set. (R379). -/
  | resetNHoldRelease (side test : Bool) (boot : BitVec 3)
  /-- RESET_N rises, which fixes T0, samples the straps and starts the start-up sequence. (R376). -/
  | resetNDeassert (side test : Bool) (boot : BitVec 3)
  /-- PERST_A_N or PERST_B_N low holds its host port in reset while the other port and all traffic run on. (R381). -/
  | perstAssert (p : Port)
  /-- A rise of a PERST line retrains that port within 100 ms and releases its pending MSI-X messages. (R381). -/
  | perstDeassert (p : Port)
  /-- A function-level reset of a port acts as a fall and rise of that port's PERST line. (R393). -/
  | functionLevelReset (p : Port)
  /-- The package PLL locks, and the calibration store is read and checked. (R383). -/
  | packagePllLock (rom : Bool)
  /-- The monitors start, the package blocks answer, FN 0 begins, and DRAM training, SRAM clearing and the image read all start. (R383). -/
  | startupServicesUp (lead : Nat)
  /-- All die SRAM has been zeroed with correct check bits. (R386). -/
  | sramClearDone
  /-- All four DRAM stacks are trained and stack zeroing begins. (R383). -/
  | dramTrainDone
  /-- A stack fails training: INIT_DONE stays 0 and PKG.MEMCLR counts. (R386). -/
  | dramTrainFail (d : Fin 4)
  /-- 1 s after step 5 with a failed stack, STATE becomes FAILED and the package holds the state of R45. (R386). -/
  | dramTrainFailTimeout
  /-- Every stack has been zeroed, INIT_DONE is set and a waiting DRAM section may apply. (R383). -/
  | dramZeroDone
  /-- A memory clearing passes its time bound; PKG.MEMCLR counts and the clearing continues. (R386). -/
  | memclrOverrun
  /-- LINKS has been applied and the SerDes adapted, so termination probes, TRACE runs and frame search begin. (R383). -/
  | linksAdapted
  /-- At the first FN that is a multiple of 4 and at least 4 frames after LINKS, the MAP commits, STATE becomes ACTIVE and severity is enabled. (R384). -/
  | startupMapCommit
  -- Crossings, clocks and the frame
  /-- A grain crosses an asynchronous handshake boundary between two islands. (R13). -/
  | grainCrossing (b : Fin 4) (u : Fin 128) (k : Fin 17) (i : Option Nat) (g : Grain)
  /-- A package, die or region PLL, or a cluster transmit clock, loses lock and its live condition begins. (R337). -/
  | pllLockLoss (k : Fin 4) (i : Fin 32)
  /-- The PLL relocks and its live condition ends, which may allow a severity clear. (R337). -/
  | pllRelock (k : Fin 4) (i : Fin 32)
  /-- The housekeeper watchdog expires; the housekeeper restarts from the bench store and PKG.HK counts. (R337). -/
  | hkWatchdogExpire (ecc : Ecc)
  /-- A grain leaving its realigner is sent once to each die that holds a region needing it. (R58). -/
  | grainDispatch (n : Fin 128) (p : Fin 155520) (raw map : Bool) (b : Byte) (errs : List (Nat × Ecc))
  /-- A Seam block arrives at the receiving die and is checked against its check code. (R59). -/
  | seamBlockReceive (d : Fin 4) (k : Fin 3) (ok1 ok2 : Bool) (grains : List Nat) (lane : Option (Fin 66))
  /-- An arriving grain is written into each egress cell whose gather entry selects its source for the egress frame. (R60). -/
  | cellWrite (g : Fin 8) (l : Fin 128) (p : Fin 155520) (pour : Bool) (x : CellFaults)
  /-- The read side reads an egress link's cells at tau(p)+38 ns, with substitution by precedence. (R62). -/
  | cellRead (n : Fin 128) (w : Fin 19440) (ups : List (Nat × Nat × Nat))
  /-- A system frame boundary: the slab index rotates and the per-frame decisions are made. (R65). -/
  | frameBoundary (xchk : Bool)
  /-- At the second boundary after a section or line defect is declared or cleared, the failure at source and MS-RDI start or end. (R120). -/
  | consequentActionApply (n : Fin 128)
  /-- A path's failure at source starts or ends at the boundary that R147 gives. (R147). -/
  | pathFailApply (a3 : Bool) (t : TA)
  /-- A second of the time base ends, and the per-second evaluations run. (R264). -/
  | secondBoundary (freq phase : Int)
  /-- The quarter closes at the end of second 900(Q+1)+8, and its records are written. (R269). -/
  | pmQuarterClose
  /-- The bin writes end, PM_LAST_Q and PM_LAST_D update, and Dd.PM_BIN counts. (R269). -/
  | pmBinWriteDone (d : Fin 4) (sram : Bool)
  -- Tagged-grain links and the redundant pair
  /-- A TG frame is descrambled, its header and blocks checked and its TG defects evaluated. (R215). -/
  | tgFrameReceive (n : Fin 128) (bits : List Byte) (first : Int) (pipe : Nat)
  /-- A mate-link frame is received: link state, theta, shadow CRCs and pair flags are taken. (R222). -/
  | mateFrameReceive (framed : Bool) (hdr : List Byte) (theta : Int) (arb shadow mirror : Bool) (dly : List (BitVec 16)) (s1s : List (Fin 16)) (cf : Word) (crcs : List (Nat × Word)) (yoke : Bool)
  /-- A received TAKE makes a deselected holder answer ACK and become agreed. (R224). -/
  | mateTakeReceive (f : Word)
  /-- An ACK received before frame HO_FN-1 makes the selected package agreed, and it pulls YOKE low. (R224). -/
  | mateAckReceive (f : Word)
  /-- A received REFUSE drops the handover proposal. (R225). -/
  | mateRefuseReceive (f : Word)
  /-- A level of ARB_SEL_N held for 1 us is accepted, which may start or refuse a handover. (R219). -/
  | arbSelChange (low : Bool)
  /-- A selected package sends TAKE once ALIGNED, or after 100 ms unaligned. (R224). -/
  | hoTakeSend
  /-- At frame FN_h, each agreed package changes every output in its window. (R224). -/
  | hoSwitch
  /-- At FN_h plus 1 us, the outgoing side releases the yoke and the roles swap. (R224). -/
  | hoYokeRelease (low : Bool)
  /-- A selected package takes the yoke after YOKE has been high 10 us (A) or 20 us (B) with the mate down. (R226). -/
  | yokeTakeUnplanned (high : Nat)
  /-- A deselected holder that gets no TAKE within 100 ms keeps driving and counts PAIR.ARB. (R226). -/
  | hoTakeWaitTimeout
  /-- ALIGNED is set after |delta| has stayed within 60 ps for 1 s, and cleared above 80 ps. (R223). -/
  | alignQualify
deriving DecidableEq, Repr

end Sys2Proof
end

