-- ==== Sys2Proof/Decode.lean ====
section
/-!
DEFINITION. Words that spell commands. spec/opcode_table.json gives no row any bits: the block takes commands, not encoded
words, so no word spells one.
-/

namespace Sys2Proof

/-- The command that a word spells by the table's bits: none, for every word, because no row of the table gives bits. -/
def decodeTableWord (_nbits _w : Nat) : Option Instr := none

end Sys2Proof
end

