-- ==== Sys2Proof/Config.lean ====
section
/-!
DEFINITION. What a package fixes at manufacture, and the free values: constants with no body, of which nothing can be
evaluated or assumed (notes/assumptions/2.md, 5.md).
-/

namespace Sys2Proof

/-- The fitted code: true for the SQ-4128-64, false for the SQ-4128-32 (R1, Table 00-1). -/
opaque Config.is64 : Bool

/-- Silicon stepping (R403, R421), a factory value. -/
opaque Config.stepping : BitVec 4

/-- The 64-bit package serial number (R389, R421), a factory value. -/
opaque Config.serial : BitVec 64

/-- DRAM_STATUS.SPARE_FREE of die d as set at manufacture (R334), a factory value. -/
opaque Config.dramSpares : Nat → BitVec 16

/-- The HKFW public key in package ROM (R40): the two coordinates of a point on P-384. The spec does not print it. -/
opaque Config.hkfwKey : BitVec 384 × BitVec 384

/-- Byte i of the content that the factory wrote into the calibration store, where R367 does not fix it (Table 15-4). -/
opaque Config.calByte : Nat → BitVec 8

/-- Byte i of the nominal set in package ROM, laid out as the store (R368): a factory value. -/
opaque Config.romByte : Nat → BitVec 8

/-- What the entries of a calibration set stand for: Table 15-4 gives their places and sizes and not their formats (notes/assumptions/7.md).
The delay offset in ps of a TDR lane; the reading in mV of a raw voltage sample and in 1/16 degree C of a raw temperature, by the gain and
offset of its monitor; the aging baseline F0 of a region, and a measured frequency normalised to 60 degrees C and 750 mV by the region's
coefficients, from the temperature in 1/16 degree C and the voltage in mV at which it was measured. -/
opaque Config.calTdr : List (BitVec 8) → Nat
opaque Config.calVolt : List (BitVec 8) → BitVec 16 → BitVec 16
opaque Config.calTemp : List (BitVec 8) → BitVec 16 → BitVec 16
opaque Config.calBase : List (BitVec 8) → Nat
opaque Config.calNorm : List (BitVec 8) → Nat → Int → Nat → Nat

/-- The design value of a region's normalised frequency (R361), a factory value. -/
opaque Config.designFreq : Nat

/-- A free value: what the spec leaves open, drawn afresh for each value of the draw counter of the state. -/
opaque Config.free : Nat → Nat

/-- The signal balls that the boundary-scan register covers (R404, Tables 19-5, 19-7 and 19-8); p and b name Host Port B where true. -/
inductive Ball where
  | resetN | perstN (b : Bool) | boot (k : Fin 3) | side | testMode | arbSelN | refIn (k : Fin 8) | syncIn | oscIn
  | health | syncOut | stationOut (k : Fin 4) | spiClk | spiCsN | spiIo (k : Fin 4) | yoke | faultN | smbScl | smbSda
  | laneTx (n : Fin 128) | laneRx (n : Fin 128) | pcieTx (b : Bool) (lane : Fin 8) | pcieRx (b : Bool) (lane : Fin 8) | refclk (b : Bool)
  | mateTx | mateRx
deriving DecidableEq, Repr

/-- Where a ball's cell lies in the boundary-scan register: the BSDL file gives it, and the spec does not (R404; notes/assumptions/105.md). -/
opaque Config.scanCell : Ball → Nat

/-- The eight check bits that the slot store's SECDED code puts beside 80 data bits (R64): the spec does not give the code. -/
opaque Config.slabEcc : BitVec 80 → BitVec 8

/-- Partition units of 256 MiB per die (Table 00-1). -/
def Config.dramUnits : Nat := if Config.is64 then 64 else 32

end Sys2Proof
end

