-- ==== Sys2Proof/Machine/State.lean ====
section
/-!
DEFINITION. The state of the SQ-4128 as plain data.
-/

namespace Sys2Proof.Machine

/-- The kinds of register block of Table 18-1, and the event register set that blocks of Table 14-1 carry. -/
inductive Blk where
  | pkg | txn | time | pair | bench | cal | mon | matrix | hostif | evtsum
  | die | region | cluster | lu | skim | pour | wb | map | pm | seam | evt
deriving DecidableEq, Repr

/-- A place in a fixed order of the kinds of block, for the canonical form of the register store. -/
def Blk.code : Blk → Nat
  | .pkg => 0 | .txn => 1 | .time => 2 | .pair => 3 | .bench => 4 | .cal => 5 | .mon => 6 | .matrix => 7 | .hostif => 8
  | .evtsum => 9 | .die => 10 | .region => 11 | .cluster => 12 | .lu => 13 | .skim => 14 | .pour => 15 | .wb => 16
  | .map => 17 | .pm => 18 | .seam => 19 | .evt => 20

/-- A register: its block, the instance of the block, its offset there, and which port's copy it is (0 for a shared register). -/
structure RegId where
  blk  : Blk
  inst : Nat
  off  : Nat
  held : Nat
deriving DecidableEq, Repr

/-- The access types of Table 18-3. -/
inductive Access where
  | ro | rw | rw1c | wo | rws
deriving DecidableEq, Repr

/-- A field of a register: lowest bit, width, access type, reset value. -/
structure Fld where
  lo  : Nat
  w   : Nat
  acc : Access
  rst : Nat
deriving DecidableEq, Repr

/-- A register, or a family of registers, of a block: offset, one or two index ranges, per-port or not, fields. -/
structure RegDef where
  off  : Nat
  s1   : Nat
  c1   : Nat
  s2   : Nat
  c2   : Nat
  held : Bool
  fields : List Fld
deriving DecidableEq, Repr

/-- A command's faults. -/
inductive Fault where
  /-- No command raises it: the spec names no stop of the block. It stands so that the type is not empty. Safe. -/
  | none
deriving DecidableEq, Repr

/-- What the model does not run. -/
inductive Refusal where
  /-- Raised by an arm of exec whose meaning is not written yet. Safe. -/
  | notModelled (mnemonic : String)
deriving DecidableEq, Repr

/-- Three indices that name a unit inside a store (link, position, slot and the like). -/
structure K3 where
  a : Nat
  b : Nat
  c : Nat
deriving DecidableEq, Repr

/-- What runs against a limit stated in time. A timer's deadline is held in ns since power-on (notes/assumptions/3.md). -/
inductive TimerKind where
  /-- Severity window of an event source (R339): event block, source. -/
  | evWindow
  /-- Start of the quiet time of a severe source (R340): event block, source. -/
  | evQuiet
  /-- Hold-off of an MSP condition (R182): 8 g + k, channel, 0 for SF and 1 for SD. -/
  | mspHold
  /-- Wait-to-restore of an MSP group (R187): 8 g + k. -/
  | mspWtr
  /-- The second of an exercise (R200): 8 g + k. -/
  | mspExer
  /-- LOF_SET from the setting of OOF (0), and LOF_CLR from IF (1) (Table 05-5): LU. -/
  | lof
  /-- The 100 ms of LOS or LOF of a rate-search LU (R100): LU. -/
  | rateHold
  /-- The 64 frames of BEACON_VALID (R116): LU. -/
  | beacon
  /-- The 3 ms at most of a rate under trial (R100): LU. -/
  | rateTry
  /-- The 50 ms of FOP_PM (0) or FOP_CM (1) (R188): 8 g + k, defect. -/
  | mspFop
  /-- Hold-off of a selector's condition (R192): egress name, bit of COND. -/
  | sncHold
  /-- Wait-to-restore of a selector (R194): egress name. -/
  | sncWtr
  /-- Hold-off of a failed LCAS member (R168): group, member. -/
  | lcasHold
  /-- Wait-to-restore of an LCAS member (R168): group, member. -/
  | lcasWtr
  /-- RSACK_TO of the ADD in progress (R169): group. -/
  | lcasAdd
  /-- Wait-to-restore of a reference (R237): reference. -/
  | refWtr
  /-- The gate of a reference that is in progress (R236): reference. -/
  | refGate
  /-- The 10 s of agreement of a DISPUTED reference (R243): reference. -/
  | dispute
  /-- The 2.5 s without an accepted SYNC_IN edge (R258). -/
  | syncLos
  /-- The 100 ms of a selected package that is not aligned (0), or of a deselected holder without a TAKE (1) (R224, R226). -/
  | hoWait
  /-- The 1 ms after an accepted ARM (R370). -/
  | calArm
  /-- The second for which |delta| has stayed at most 60 ps (R223). -/
  | align
  /-- The bound of the present step of a region re-bench (R51). -/
  | rebench
  /-- The second after step 5 of a start-up with a failed stack (R386). -/
  | dramFail
  /-- The 2.0 us after the latest severe transition (R350). -/
  | faultPulse
  /-- The bound of a clearing that is in progress (Table 16-6): 0 SRAM, 1 DRAM training, 2 whole DRAM stacks, 3 a work bank, with die and
  bank. -/
  | memclr
deriving DecidableEq, Repr

/-- A timer: its kind and the unit it runs for. -/
structure TKey where
  kind : TimerKind
  k    : K3
deriving DecidableEq, Repr

/-- A place in a fixed order of the kinds of timer. -/
def TimerKind.code : TimerKind → Nat
  | .evWindow => 0
  | .evQuiet => 1
  | .mspHold => 2
  | .mspWtr => 3
  | .mspExer => 4
  | .lof => 5
  | .rateHold => 6
  | .beacon => 7
  | .mspFop => 8
  | .sncHold => 9
  | .sncWtr => 10
  | .lcasHold => 11
  | .lcasWtr => 12
  | .lcasAdd => 13
  | .refWtr => 14
  | .dispute => 15
  | .syncLos => 16
  | .hoWait => 17
  | .calArm => 18
  | .align => 19
  | .rebench => 20
  | .dramFail => 21
  | .faultPulse => 22
  | .rateTry => 23
  | .refGate => 24
  | .memclr => 25

/-- What the last command answered to whoever sent it. -/
inductive Completion where
  /-- Nothing is answered (a pin, a line or an engine moved). -/
  | none
  /-- A write taken, or a command carried out. -/
  | done
  /-- Register data. -/
  | word (w : Word)
  /-- Memory data. -/
  | bytes (l : List Byte)
  /-- An SMBus block read: its data, and the packet error check that ends it (R399, R400). -/
  | block (l : List Byte) (pec : Byte)
  /-- What the boundary-scan register captured, shifted out (R404). -/
  | bits (l : List Bool)
  /-- Memory data with the PCIe poisoned bit set (R311). -/
  | poisoned (l : List Byte)
  /-- Unsupported Request (R391, R409, R411). -/
  | ur
  /-- The error response of the matrix or of a bank to a master other than a host port (R331, R313). -/
  | error
  /-- An SMBus NACK (R399, R400). -/
  | nack
deriving DecidableEq, Repr

/-- A posted memory write that the device sends upstream (R394): an MSI-X message or data of a Skim drain copy. -/
inductive HostWrite where
  /-- MSI-X vector v of port p, with the address and data of its table entry. -/
  | msix (p : Port) (vector : Nat) (addr : BitVec 64) (data : Word)
  /-- Drain data. -/
  | drain (p : Port) (addr : BitVec 64) (data : List Byte)
deriving DecidableEq, Repr

/-- The state of a host port beyond its registers (R378, R390, R393, R394, R395). -/
structure PortCfg where
  /-- The PERST line is low. -/
  perst : Bool
  /-- Power state D3hot; otherwise D0. -/
  d3hot : Bool
  /-- Bus Master Enable. -/
  bme : Bool
  /-- MSI-X Enable. -/
  msixOn : Bool
  /-- MSI-X function mask. -/
  funcMask : Bool
  /-- Payload size and BARs. -/
  pci : PciCfg
deriving DecidableEq, Repr

/-- A SAFE or FENCE reaction in force (R344, R348): the source that took it, the detail of its event, whether it is a FENCE,
and, once its source has left severity, the earliest uptime frame whose start can be the release boundary (R345). -/
structure SafeForce where
  blk      : Nat
  src      : Nat
  detail   : Word
  fence    : Bool
  released : Option Nat
deriving DecidableEq, Repr

/-- A severe transition under RETIRE whose retirement is still to be carried out (R346). -/
structure Due where
  blk    : Nat
  src    : Nat
  detail : Word
deriving DecidableEq, Repr

/-- Partition units of a die's DRAM (Table 02-8). -/
structure DramParts where
  capture : Nat
  pattern : Nat
  deskew  : Nat
  pmhist  : Nat
  scratch : Nat
deriving DecidableEq, Repr

/-- A connection record: four words (R75, Table 04-1). -/
structure Rec where
  w0 : Word
  w1 : Word
  w2 : Word
  w3 : Word
deriving DecidableEq, Repr

/-- A transaction slot beyond its registers. -/
structure TxnSlot where
  /-- Records accepted, in append order (R82). -/
  recs : List Rec
  /-- How many of them are still queued for building (R85); records are built in order. -/
  unbuilt : Nat
  /-- Records of a fetch still to come (R86). -/
  fetchLeft : Nat
  /-- BAR2 address of the next record of the fetch. -/
  fetchAddr : Nat
  /-- The mate has reported BUILT (R94). -/
  mateBuilt : Bool
  /-- The seal of the originating side has arrived (R94). -/
  sealRx : Bool
  /-- The mate has acknowledged the seal (R94). -/
  mateAck : Bool
  /-- The originating side has released its slot while this copy was still restoring. -/
  relDue : Bool
  /-- The fetch in progress began before the slot's last RELEASE: its records are discarded (R87). -/
  stale : Bool
deriving DecidableEq, Repr

/-- Power of the package (R375, R376, R380). -/
inductive Pwr where
  /-- The rails are off. -/
  | off
  /-- Power-on reset holds. -/
  | por
  /-- RESET_N is low, or power-on reset has ended and RESET_N has not risen yet. -/
  | reset
  /-- From T0 on. -/
  | run
deriving DecidableEq, Repr

/-- A bench image that passed validation (R30 to R42): its scope, region and IMAGE_ID, and its section bodies by TYPE. -/
structure Img where
  full   : Bool
  region : Nat
  id     : Word
  sects  : List (Nat × List Byte)
deriving DecidableEq, Repr

/-- A load in progress (R43 to R46). -/
structure Load where
  /-- 0 the staging window, 1 and 2 the flash slots. -/
  source : Nat
  /-- Started by the start-up sequence. -/
  boot : Bool
  /-- A refusal makes the device load slot 1 (R45). -/
  fallback : Bool
  /-- Slot 0 of this load was refused. -/
  fell : Bool
  /-- The header, once it has passed steps 1 and 2. -/
  header : Option (List Byte)
deriving DecidableEq, Repr

/-- How far an accepted image has taken effect (R47 to R49, Table 16-4, Table 02-11). -/
inductive Stage where
  /-- Full or region scope: waiting for its frame boundary. -/
  | waiting
  /-- Full scope: the sections to SLAB have taken effect; DRAM waits for step 6. -/
  | slabSet
  /-- Full scope: the sections to HKFW have taken effect. -/
  | hkSet
  /-- Region scope: outputs forced (step 4). -/
  | forced
  /-- Region scope: POWER applied (step 5). -/
  | powered
  /-- Region scope: PLL locked (step 6). -/
  | locked
  /-- Region scope: memories cleared (step 7). -/
  | cleared
  /-- LINKS applied; the MAP waits for its frame. -/
  | linksSet
deriving DecidableEq, Repr

/-- An accepted image on its way to ACTIVE. -/
structure Applying where
  img   : Img
  /-- Part of a start-up. -/
  boot  : Bool
  stage : Stage
  /-- Earliest uptime frame of the next step that falls on a frame boundary. -/
  after : Nat
deriving DecidableEq, Repr

/-- What a package sends its mate about transactions, and receives from it (R94). -/
inductive MateMsg where
  | opn (k : Nat)
  | record (k : Nat) (r : Rec)
  | close (k : Nat) (fn : Nat)
  | abort (k : Nat)
  | release (k : Nat)
  /-- Refused, for the record with this index where it is tied to one (R95). -/
  | refused (k : Nat) (idx : Option Nat)
  | aborted (k : Nat)
  | built (k : Nat)
  | sealed (k : Nat)
  | sealAck (k : Nat)
deriving DecidableEq, Repr

/-- A frame on MATE_TX (R222): its header with HCRC; where the free values begin that fill its block area, whose format no rule gives; and the
shadow CRCs that the area carries, with their FN (R227). -/
structure MateTx where
  head   : List Byte
  area   : Nat
  shadow : Option (Nat × List (Nat × Word))
deriving DecidableEq, Repr

/-- What a master asks of the matrix (R328, R329): a request that is followed by its count alone, bytes of one word of a work bank, bytes of a
DRAM stack, or a BAR2 request of a host port. -/
inductive MxAcc where
  | req (target : Nat)
  | bank (d b off : Nat) (op : MemOp) (ecc : Ecc) (other : Option (List (Option Byte)))
  | dram (d o : Nat) (op : MemOp) (errs : List (Nat × Ecc))
  | cmd (i : Instr)
  | bar2 (p : Port) (a : Nat) (op : MemOp) (errs : List (Nat × Ecc))
deriving DecidableEq, Repr

/-- An access that waits at its master (R329, R330). -/
structure MxWait where
  master : Nat
  acc    : MxAcc
deriving DecidableEq, Repr

/-- An outstanding request: its master, its target and its 6-bit ID (R329). -/
structure MxOut where
  master : Nat
  target : Nat
  id     : Nat
deriving DecidableEq, Repr

/-- An access that waits for a handover of its bank to end (Table 13-2, step 4), with the ID of its request. -/
structure WbWait where
  master : Nat
  die    : Nat
  bank   : Nat
  id     : Nat
  acc    : MxAcc
deriving DecidableEq, Repr

/-- An MSP group beyond its registers. -/
structure MspSt where
  /-- Earliest uptime frame of its effect frame (R189). -/
  eff : Nat
  /-- Channel in wait-to-restore; 0 none (R187). -/
  wtr : Nat
  /-- Do not revert (R187). -/
  dnr : Bool
  /-- Requests of conditions at the last controller step, SF in bits 14:0 and SD in bits 30:16 (R183). -/
  prev : Word
  /-- An RR naming the exercised channel was accepted (R200). -/
  exerOk : Bool
  /-- The group has become ACTIVE (Table 08-6). -/
  act : Bool
deriving DecidableEq, Repr


/-- Counts of one second of a binned entity (R264, Table 11-1). -/
structure PmSec where
  ne : Nat
  fe : Nat
  cv : Nat
  pjDetInc : Nat
  pjDetDec : Nat
  pjGenInc : Nat
  pjGenDec : Nat
  neDef : Bool
  feDef : Bool
deriving DecidableEq, Repr

/-- A bin in progress: parameters of words 2 to 14 of Table 11-2, unsaturated, SUSPECT, and the parameters whose threshold has been
crossed in it (R277). -/
structure PmBin where
  neES : Nat
  neSES : Nat
  neBBE : Nat
  neUAS : Nat
  feES : Nat
  feSES : Nat
  feBBE : Nat
  feUAS : Nat
  pj0 : Nat
  pj1 : Nat
  pj2 : Nat
  pj3 : Nat
  cv : Nat
  suspect : Bool
  crossed : List Nat
deriving DecidableEq, Repr

/-- A binned entity (R263 to R270). -/
structure PmEnt where
  slot : Nat
  /-- PROFILE, TCA_EN and BIDIR in bits 31:27. -/
  cfg : Word
  /-- The second in progress. -/
  now : PmSec
  /-- Seconds not committed yet, oldest first. -/
  pend : List PmSec
  /-- Near end unavailable. -/
  neUn : Bool
  /-- Far end unavailable. -/
  feUn : Bool
  quarter : PmBin
  day : PmBin
  /-- The bins that follow the quarter in progress are SUSPECT (R268). -/
  late : Bool
deriving DecidableEq, Repr

/-- A byte-wise trace under acceptance (R114, R143): bytes received, newest first, and the accepted message. -/
structure TraceRx where
  hist : List Byte
  acc : Option (List Byte)
deriving DecidableEq, Repr

/-- Receive and transmit side of a link unit's section layer beyond its registers (05). -/
structure LuSec where
  /-- The framer is in IF (Table 05-2). -/
  inFrame : Bool
  /-- Bit position of the alignment in the frame period. -/
  align : Nat
  /-- Open candidates: slot, bit position, confirmations (R103). -/
  cands : List (Nat × Nat × Nat)
  /-- Consecutive errored framing patterns. -/
  errRun : Nat
  /-- Rate under trial of a rate search: 0 STM-64 to 3 STM-1 (R100). -/
  trial : Nat
  /-- BIP-8 of the last frame received (R110). -/
  bip8 : Option Byte
  /-- BIP-24N of the last frame received (R111). -/
  bip24 : Option (List Byte)
  /-- B2 violations of the last frame checked. -/
  viol : Nat
  /-- K1 last received, and in how many consecutive frames. -/
  k1 : Nat × Nat
  /-- K2 bits 1 to 5 likewise. -/
  k2 : Nat × Nat
  /-- Consecutive frames with K2 bits 6 to 8 at 0b111, and otherwise. -/
  aisRun : Nat × Nat
  /-- Consecutive frames with K2 bits 6 to 8 at 0b110, and otherwise. -/
  rdiRun : Nat × Nat
  /-- S1 bits 5 to 8 last received, and in how many consecutive frames. -/
  s1 : Nat × Nat
  /-- Consecutive frames without an S1 acceptance (R113). -/
  s1Wait : Nat
  j0 : TraceRx
  /-- Beacon message bytes received in order, and the last message taken (R116). -/
  bcn : List Byte
  bcnLast : Option (List Byte)
  /-- Frames and B2 violations of the present SF block and of the present SD block (R119). -/
  sf : Nat × Nat
  sd : Nat × Nat
  /-- Ingress tributaries are failed at source, and MS-RDI is sent, by the consequent actions in effect (R120). -/
  fail : Bool
  rdi : Bool
  /-- The actions in effect differed from their causes at the last system frame boundary already (R120). -/
  actLate : Bool
  /-- PERS code of the transmit rate of a rate-search LU, and the uptime frame in which what it should be changed last (R101). -/
  txRate : Nat
  rateUp : Nat
  /-- The rate of the present frame is one that the search has found (R101). -/
  txFound : Bool
  /-- TX_SCR_OFF and RX_DESCR_OFF as they stood at the last frame boundary of their direction (R107). -/
  txOff : Bool
  rxOff : Bool
  /-- Of the last frame sent: BIP-8 of the scrambled frame, BIP-24N, and next J0 and beacon byte. -/
  txB1 : Byte
  txB2 : List Byte
  txJ0 : Nat
  txBcn : Nat
deriving DecidableEq, Repr

/-- A path of an ingress structure beyond what its LU's registers show (06). -/
structure PathSt where
  /-- CFG of Table 06-15. -/
  cfg : Word
  /-- Pointer state of the head or of the single pointer: 0 NORM, 1 AIS, 2 LOP (Table 06-5). -/
  ptr : Nat
  /-- Accepted offset. -/
  off : Nat
  /-- Periods since the last accepted change, up to 3. -/
  since : Nat
  /-- Value of the last NEW_POINT and how many times in a row. -/
  new : Nat × Nat
  ndfRun : Nat
  invRun : Nat
  aisRun : Nat
  /-- Members of an AU-4-Nc: consecutive AIS frames, consecutive frames with neither indication nor AIS, and state (R132). -/
  members : List (Nat × Nat × Nat)
  /-- Multiframe alignment (R135): last H4 bits 7 and 8, OOM, consecutive frames out of or in sequence, frames of OOM, LOM. -/
  h4 : Nat
  oom : Bool
  h4Run : Nat
  oomFrames : Nat
  lom : Bool
  /-- Label last received and how many times in a row; a label has been accepted since the last restart. -/
  lab : Nat × Nat
  labOk : Bool
  accLabel : Nat
  trace : TraceRx
  traceSig : Word
  /-- Consecutive periods with RDI at 1 and at 0; RDI as filtered. -/
  rdiRun : Nat × Nat
  rdi : Bool
  /-- Errored blocks of the second; consecutive bad and not bad seconds; DEG (R145). -/
  secErr : Nat
  degRun : Nat × Nat
  deg : Bool
  /-- B3 violations of the last frame (R140). -/
  viol : Nat
  /-- Failed at source, as in effect (R147), and the system frame boundaries, up to 2, since when its causes say otherwise. -/
  failed : Bool
  failRun : Nat
  /-- Elastic store fill, as of the last period judged (R134). -/
  fill : Nat
  /-- Offset of the path start in its system frame or multiframe before the justifications of `justs`; none until it has been placed. -/
  start : Option Nat
  /-- What the realigner does in the latest periods judged, newest first: the period, and 0 nothing, 1 a negative justification, 2 a
  positive one. -/
  justs : List (Nat × Nat)
  /-- Period of the last justification or recentring. -/
  moved : Option Nat
  /-- Of a VC with TUG-2s: the frame of the system multiframe in which its ingress multiframe begins (R135). -/
  phase : Nat
  /-- Far-end bit errors that G1 has reported since monitoring began (R144). -/
  feBits : Nat
  /-- CFG as last written, until it governs from the next period (R154). -/
  cfgNext : Option Word
deriving DecidableEq, Repr

/-- An egress pointer generator (R136). -/
structure GenSt where
  /-- Outgoing offset P; none while path AIS is sent. -/
  p : Option Nat
  /-- Pointer word of the present period. -/
  word : Nat
  /-- The period that it describes, by the uptime frame in which that began. -/
  per : Option Nat
deriving DecidableEq, Repr

/-- A journal record on its way to the ring: LU, words 0 to 2 of Table 06-10, and NS (R151). -/
structure JrnRec where
  lu : Nat
  w0 : Word
  w1 : Word
  fn : Word
  ns : Nat
deriving DecidableEq, Repr

/-- A word of a slab bank (Table 03-4): its 80 data bits, which of the 88 stored bits have flipped since the word was written, the
cells filled and the cells read for the egress frame `ef` (an uptime frame). -/
structure SlabWord where
  data : BitVec 80
  flip : BitVec 88
  ef : Nat
  filled : List Nat
  gone : Bool
deriving DecidableEq, Repr

/-- An SNCP selector (R190 to R200). -/
structure SncSt where
  /-- ALT_TA is selected. -/
  alt : Bool
  /-- Rank of the governing request (Table 08-10). -/
  rank : Nat
  /-- Held command code (Table 08-13); 0 none. -/
  cmd : Nat
  dropped : Bool
  /-- Conditions after hold-off: bit 3 SF_S, bit 2 SD_S, bit 1 SF_A, bit 0 SD_A. -/
  cond : Nat
  /-- Uptime frame and offset in ns of the last change of selection (R196). -/
  chg : Option (Nat × Nat)
deriving DecidableEq, Repr

/-- What an egress member's control packet carries from its start to its end (Tables 07-3, 07-4). -/
structure CtlTx where
  ctrl : Nat
  sq   : Nat
  rs   : Nat
  mst  : Nat
deriving DecidableEq, Repr

/-- A member of a virtual group (R159, R165 to R170). -/
structure GrpMem where
  /-- AU3 bit and TA of the ingress member; none while the entry is empty. -/
  ing : Option Word
  /-- AU3 bit and TA of the egress member (TERMINATE). -/
  eg : Word
  /-- Multiframe indicator last received. -/
  mfi : Option Nat
  /-- Consecutive frames, or strings, out of sequence and in sequence. -/
  seq : Nat × Nat
  /-- Frames for which the multiframe has been out of sequence. -/
  held : Nat
  vlom : Bool
  sqm : Bool
  loa : Bool
  /-- Measurements in a row with the lead inside F_D. -/
  loaOk : Nat
  /-- SQ last read, and in how many readings. -/
  sqr : Nat × Nat
  sqAcc : Nat
  /-- CTRL and RS-Ack of the last control packet that passed. -/
  ctrl : Nat
  rsAck : Bool
  /-- GIDs of the latest multiframes whose packets passed, newest first, with the number of the multiframe. -/
  gids : List (Nat × Bool)
  /-- SINK and SRC of Table 07-13, and the SQ sent. -/
  sink : Nat
  src : Nat
  srcSq : Nat
  addFail : Bool
  lead : Nat
  /-- Failed, as last evaluated (R166). -/
  failed : Bool
deriving DecidableEq, Repr

/-- Payload that a Pour job gives the containers numbered `vc` of the egress members of a group: the index of its first byte, the bulk bytes
of the container that went before the play began, and the members that carry it, in SQ order. -/
structure GrpSpan where
  vc   : Nat
  base : Nat
  skip : Nat
  car  : List Nat
deriving DecidableEq, Repr

/-- What plays on a Pour target, or is sent on an egress member of a TERMINATE group (R169, R300 to R307). -/
structure PourTgt where
  /-- List entry of R285, and as at the start N of the link, or the positions of a group's members, and the NC code of a kind 1. -/
  tap : Word
  n : Nat
  nc : Nat
  /-- Index of the egress member, the seed of its group's GID, and what the control packet in progress carries. -/
  mem : Option Nat
  gid : Nat
  ctl : CtlTx
  /-- Next byte of the container, counted from its J1 or V5. -/
  cnt : Nat
  /-- Containers begun. -/
  vcs : Nat
  /-- Outgoing offset. -/
  p : Nat
  /-- Content delivered: bulk bytes, frame bytes or grains; and as the present pointer period began. -/
  k : Nat
  k0 : Nat
  /-- PRBS register. -/
  sr : Nat
  /-- BIP over the container being sent, and over the one before. -/
  bip : Nat
  bipPrev : Nat
  /-- Blocks since the injection began, and WHAT and BITS with which the present block is injected, if it is (R306). -/
  inj : Option Nat
  injNow : Option (Nat × Nat)
  /-- Payload of a GROUP target, newest container first. -/
  spans : List GrpSpan
deriving DecidableEq, Repr

/-- A virtual group (R159 to R175). -/
structure Grp where
  /-- 0 FREE, 1 DEFINED, 2 PENDING, 3 ACTIVE. -/
  st : Nat
  cfg0 : Word
  cfg1 : Word
  mem : List GrpMem
  pages : Nat
  /-- Uptime frame of the effect of ACTIVATE. -/
  eff : Nat
  failed : Bool
  loa : Bool
  gidm : Bool
  /-- Multiframes in a row in which the GIDs of the aligned members disagree, and agree. -/
  gidRun : Nat × Nat
  aligned : Bool
  /-- Uptime frame from which every unfailed member has been aligned. -/
  alignUp : Option Nat
  carrying : Nat
  spread : Nat
  /-- Member of the ADD or REMOVE in progress. -/
  busy : Option Nat
  /-- RS-Ack that the sink sends, and the member and the multiframe at which a change of SQ numbering was seen last (R168). -/
  rsAckTx : Bool
  rsAt : Option (Nat × Nat)
  /-- Source members that carry payload, as of the last multiframe boundary, and SQs that its next renumbering closes. -/
  pay : List Nat
  gaps : List Nat
  /-- Reference member (R170). -/
  ref : Nat
  /-- Containers being sent on the egress members (R169). -/
  eg : List PourTgt
deriving DecidableEq, Repr

/-- Receive side of a TG link beyond its registers (R215, R216). Runs are of consecutive frames that set, and that clear, a defect. -/
structure TgRx where
  hdr  : Nat × Nat
  skew : Nat × Nat
  blk  : Nat × Nat
  void : Nat × Nat
  /-- CAP last received, and in how many passing headers. -/
  cap : Word × Nat
  /-- A frame has been received in the present system frame, and every copy of content in it was valid and in window. -/
  got : Bool
  full : Bool
  /-- Lateness of the last frame received, in ns: arrival of its first FAW bit at the end of the receive pipeline, less the start of the frame
  FN that its header names (R201). -/
  late : Int
deriving DecidableEq, Repr

/-- A grain on its way to the write sides of a die (R58): the die, the ingress name and position under which it was dispatched, the
uptime frame in which it left its realigner, how far into that frame in ps where that is not the time of its position (R217), which
sources it serves (a whole link, tributaries), whether it left a deskew, and the regions of the die that still take it. -/
structure FabGrain where
  die  : Nat
  link : Nat
  pos  : Nat
  dep  : Nat
  leave : Option Nat
  whole : Bool
  trib : Bool
  eq   : Bool
  regs : List Nat
  g    : Grain
deriving DecidableEq, Repr
/-- A Skim record, forming or closed (R286). -/
structure SkRec where
  /-- Tap code and SOURCE. -/
  code : Nat
  src : Nat
  seq : Nat
  /-- FN, uptime frame, INDEX and timestamp of the first grain. -/
  fn : Nat
  up : Nat
  idx : Nat
  ts : List Word
  /-- Index and timestamp of the first grain with M = 1. -/
  mark : Option (Nat × List Word)
  /-- Index of the source's first grain at or after the trigger instant. -/
  trig : Option Nat
  /-- Grains, newest first. -/
  grains : List Grain
  last : Bool
  flushed : Bool
  /-- Closed while its job was ARMED. -/
  pre : Bool
deriving DecidableEq, Repr

/-- A source of a Skim job (R284, R294). -/
structure SkSrc where
  code : Nat
  n : Nat
  /-- It holds a forming buffer. -/
  buf : Bool
  form : Option SkRec
  /-- Grains in the dropped record now being counted. -/
  dropRun : Option Nat
  /-- SEQs of the records dropped since the last one written. -/
  drops : List Nat
  /-- A record has been written since the start. -/
  wrote : Bool
  /-- A record holds TRIG. -/
  marked : Bool
deriving DecidableEq, Repr

/-- A Skim job beyond its registers (R284 to R297). -/
structure SkJob where
  /-- Taps as list entries of R285, each with N of its link and the NC code of a kind 1 as at the start. -/
  taps : List (Word × Nat × Nat)
  srcs : List SkSrc
  /-- Closed records that wait to be written, oldest first. -/
  staged : List SkRec
  seq : Nat
  /-- Records that have closed after the trigger instant. -/
  after : Nat
  trigSeq : Bool
  /-- A drop has been counted on SKIM_LOSS since the last record written. -/
  dropEv : Bool
  /-- Last grains of the tap of a PATTERN trigger, newest first. -/
  pat : List Grain
  /-- The next drain descriptor goes to Host Port B, with DRAIN_PORT 2. -/
  turnB : Bool
deriving DecidableEq, Repr

/-- A PRBS analyser (R299). -/
structure Prbs where
  /-- EN, POLY, INVERT and TAP as in SKIM_PRBS_CFG, and the binding as in SKIM_PRBS_TA. -/
  cfg : Word
  ta : Word
  sync : Bool
  /-- Byte of the container that came last; none until one has started. -/
  cnt : Option Nat
  /-- Sequence register, bits loaded into it, and correct predictions in HUNT. -/
  sr : Nat
  loaded : Nat
  good : Nat
  /-- Errors of the last 1,024 compared bits, newest in bit 0, and how many they are. -/
  win : Nat
  winErr : Nat
  bits : Nat
  errs : Nat
  losses : Nat
  bitsWrap : Bool
  errsWrap : Bool
deriving DecidableEq, Repr

/-- A Pour job beyond its registers (R300 to R307). -/
structure PourJob where
  tgts : List PourTgt
  /-- START_FN, fixed at START. -/
  start : Nat
  /-- Uptime frame that begins at the end instant or first after it, and the ns of the end instant in its frame (R304). -/
  endUp : Option Nat
  endNs : Nat
  /-- An underrun has been counted on POUR since the start. -/
  under : Bool
  /-- Pointer periods since the last script action, or since the start frame. -/
  scrWait : Nat
  /-- OP and ARG of the script action of the present period; 0 none. -/
  act : Nat × Nat
  /-- Jumps made by each LOOP step. -/
  loops : List (Nat × Nat)
deriving DecidableEq, Repr

/-- A fetch of a tap or target list (R285): job, entries, BAR2 address, and the port whose registers gave it. -/
structure ListFetch where
  job : Nat
  count : Nat
  addr : Nat
  port : Port
deriving DecidableEq, Repr

/-- A calibration set: the factory's, or zeros, with the bytes written over it (R367). -/
structure CalBuf where
  factory : Bool
  bytes : List (Nat × Byte)
deriving DecidableEq, Repr

/-- A command that the SPI master sends to the boot flash (R397, R398): the bytes sent (opcode, address, and data of a write), the dummy
clocks, the bus clock in MHz, and how many bytes are read back. -/
structure SpiCmd where
  bytes : List Byte
  dummy : Nat
  mhz   : Nat
  read  : Nat
deriving DecidableEq, Repr

/-- A flash operation on the SPI bus (R398): the CTRL word of its GO, and the bytes that the device sends. -/
structure SpiOp where
  ctrl : Word
  sent : List Byte
deriving DecidableEq, Repr

/-- Power and resets (13, 16). -/
structure PowerState where
  /-- Power and reset of the package. -/
  pwr : Pwr
  /-- The RESET_N line is low. -/
  rstLow : Bool
  /-- A reset is held back for a calibration COMMIT (R379). -/
  rstHeld : Bool
  /-- The reset in progress is one that RESET_N began, not power-on (R387). -/
  warm : Bool
  /-- OSC_IN runs. -/
  oscIn : Bool
  /-- Time from T0 to step 3 of Table 16-4, in ns. -/
  lead : Nat
  /-- Uptime frame of step 3. -/
  upStart : Nat
deriving DecidableEq, Repr

/-- Images and what they set (02, 16). -/
structure BenchState where
  /-- The load in progress. -/
  load : Option Load
  /-- The accepted image on its way to ACTIVE. -/
  applying : Option Applying
  /-- A full bench image is ACTIVE (R45, R219). -/
  fullActive : Bool
  /-- Regions whose re-bench FAILED and that stay forced (R51). -/
  rgFailed : List Nat
  /-- Personality of each LU (Table 02-6) of the image in effect; unlisted: OFF. -/
  pers : List (Nat × Nat)
  /-- EQ_PRESET of each LU (R34). -/
  eqPreset : List (Nat × Nat)
  /-- Slab depth of each die, 2 or 3 (R36); unlisted: none set yet. -/
  depth : List (Nat × Nat)
  /-- DRAM partitions of each die (R37). -/
  dram : List (Nat × DramParts)
  /-- WBOWN byte of bank b of die d at 48 d + b (R38). -/
  wbDefault : List (Nat × Nat)
  /-- Regions whose outputs a region re-bench forces (R25, R49). -/
  rbForced : List Nat
  /-- A full re-bench forces every output (R48). -/
  fullForced : Bool
  /-- LUs whose return to service waits for the next frame boundary, with the uptime frame that begins there (R24). -/
  unretire : List (Nat × Nat)
  /-- Dies whose stack has failed training (R386). -/
  dramBad : List Nat
  /-- Training of the stacks has ended on all four dies (Table 16-4 step 5). -/
  dramTrained : Bool
deriving DecidableEq, Repr

/-- Connection maps and transactions (04). -/
structure MapState where
  /-- Active map entries by EG_AU3 and EGRESS_TA (R79). -/
  actMap : List (Nat × Option Rec)
  /-- Active merges: SOURCE link and ALT link (R96). -/
  merges : List (Nat × Nat)
  /-- Transaction slots beyond their registers (R87). -/
  txns : List (Nat × TxnSlot)
  /-- Egress entries that carry path AIS after a commit with HIT, and how many frames are left (R90). -/
  hitAis : List (Nat × Nat)
  /-- Union dispatch in force (R66, R91): slot, commit frame, and the entries of the old and the new map that the slot's records touch. -/
  unionHold : List (Nat × Word × List Rec)
  /-- Diagnostic map reads in progress: die, and the CTRL word of its GO (R98). -/
  mapDiag : List (Nat × Word)
  /-- Records of committed transactions whose shadow entries are still to be made equal (R91 step 8). -/
  syncing : List (Nat × List Rec)
  /-- Messages sent to the mate, newest first. -/
  mateOut : List MateMsg
deriving DecidableEq, Repr

/-- Work banks and the matrix (13). -/
structure BankState where
  /-- Next word group of the pass that SIEVEd keeps for bank b of die d, at 64 d + b (R319). -/
  sievePos : List (Nat × Nat)
  /-- New owner code of bank b of die d while its handover is pending, at 64 d + b (R314). -/
  wbNew : List (Nat × Nat)
  /-- Accesses of the new owner that wait for the end of a handover. -/
  wbWait : List WbWait
  /-- Instant in ns of uptime of the owner's last access to bank b of die d, or of the end of its last pass, at 64 d + b (R317). -/
  wbLast : List (Nat × Nat)
  /-- Retired banks on their way back, as 64 d + b (R323). -/
  wbReturning : List Nat
  /-- Outstanding requests, oldest first (R329). -/
  mxOut : List MxOut
  /-- Accesses that wait at their master, oldest first (R329, R330). -/
  mxWait : List MxWait
deriving DecidableEq, Repr

/-- Protection (08). -/
structure ProtState where
  /-- MSP groups beyond their registers, at 8 g + k. -/
  msp : List (Nat × MspSt)
  /-- Selectors that have left their starting state, by EG_AU3 and EGRESS_TA (R197). -/
  snc : List (Nat × SncSt)
  /-- Switch log of each die, oldest first (R198). -/
  sncLog : List (Nat × List (Word × Word × Word))
  /-- Dies that have lost switch-log entries since the last one stored. -/
  sncLost : List Nat
  /-- Dies that have stored switch-log entries in the present frame. -/
  sncStored : List Nat
deriving DecidableEq, Repr

/-- Performance monitoring (11). -/
structure PmState where
  /-- Binned entities, by LAYER, AU3 and TA (R263). -/
  pm : List (Nat × PmEnt)
  /-- LUs whose AUTO is 1 (R272). -/
  pmAuto : List Nat
  /-- CFG that the ENABLE_LU of an LU carried (R272). -/
  pmAutoCfg : List (Nat × Word)
  /-- DAY_OFS in effect on each die, and as it stood at the last quarter boundary (R267). -/
  pmOfs : List (Nat × Nat × Nat)
  /-- A quarter whose last second has been committed and which is still to be closed (R269). -/
  pmDue : Option Nat
  /-- The quarter whose bins are in progress (R267, R269). -/
  pmQ : Nat
  /-- Dies whose closing records are being written: quarter and day closed (R269). -/
  pmClose : List (Nat × Nat × Option Int)
  /-- TCA log of each die, oldest first (R278). -/
  tcaLog : List (Nat × List (Word × Word × Word))
  /-- Dies whose last TCA entry was lost. -/
  tcaLost : List Nat
  /-- Dies that have stored TCA entries in the present second. -/
  tcaStored : List Nat
deriving DecidableEq, Repr

/-- Line links, pointers and paths (05, 06). -/
structure LineState where
  /-- Section layer of each LU beyond its registers. -/
  sec : List (Nat × LuSec)
  /-- Frame that each LU sent last, as it stood on the line (R117). -/
  lineOut : List (Nat × List Byte)
  /-- Ingress paths that have left their starting state, by AU3 and TA. -/
  paths : List (Nat × PathSt)
  /-- LU_PATH_STRUCT word 0 held until word 1 is written, at 64 n + a (R125). -/
  structW0 : List (Nat × Word)
  /-- Pending structure pairs: earliest uptime frame, 64 n + a, word 0, word 1 (R125). -/
  structPend : List (Nat × Nat × Word × Word)
  /-- Egress pointer generators, by EG_AU3 and TA (R136). -/
  gens : List (Nat × GenSt)
  /-- B3 over the last VC that each AU sent which the LU originates, by EG_AU3 and TA (R140). -/
  hoB3 : List (Nat × Nat)
  /-- Per-path accesses in progress: LU, control word, data (R154). -/
  pathInd : List (Nat × Word × Word)
  /-- LUs with journal records written in the present frame (R153). -/
  jrnDirty : List Nat
  /-- Dies that have lost journal records since the last record written (R152). -/
  jrnLoss : List Nat
  /-- Staging buffer of each die's journal, oldest record first (R151). -/
  jrnStage : List (Nat × List JrnRec)
deriving DecidableEq, Repr

/-- The slot store, the fabric and TG links (03, 09). -/
structure StoreState where
  /-- Words of the slab banks by region, physical bank and word (R64). -/
  slabs : List (Nat × SlabWord)
  /-- Spare k of region g in use, at 2 g + k: logical bank + 1 (R71). -/
  spareOn : List (Nat × Nat)
  /-- Spare of region g that was assigned last (R71). -/
  spareLast : List (Nat × Nat)
  /-- Address of the diagnostic read in progress of region g, + 1 (R73). -/
  slabDiag : List (Nat × Nat)
  /-- Grains delivered by the read side in the present frame, by link and position (R62). -/
  txGrains : List (Nat × Grain)
  /-- Grains with M = 1 that the read side delivered in the last 8 frames: uptime frame, and link and position as in txGrains (R136). -/
  txMarks : List (Nat × Nat)
  /-- Grains dispatched and not written yet, oldest first (R58). -/
  fabric : List FabGrain
  /-- Receive side of each TG link (R215). -/
  tg : List (Nat × TgRx)
deriving DecidableEq, Repr

/-- Concatenated groups (07). -/
structure GroupState where
  /-- Groups that are not FREE, by package number (R160). -/
  grps : List (Nat × Grp)
  /-- Deleted groups until their deletion takes effect: package number, uptime frame, the group (R174). -/
  grpGone : List (Nat × Nat × Grp)
  /-- Dies with a GRP_CHANGED bit set in the present frame (R176). -/
  grpDirty : List Nat
  /-- Grains held in the deskew buffer of a member (its name): uptime frame, position, grain (R170). -/
  deskew : List (Nat × List (Nat × Nat × Grain))
deriving DecidableEq, Repr

/-- Timing (10). -/
structure TimeState where
  /-- CFG0 and CFG1 of each reference as in effect (R262). -/
  refEff : List (Nat × Word × Word)
  /-- References for which an S1 has been accepted since they last left FAILED (R239). -/
  refS1 : List Nat
  /-- The Main DPLL holds the holdover estimate until the next boundary (R241). -/
  mainHold : Bool
  /-- CMD of TIME_MAIN_CMD as read at the last frame boundary (R241, R242). -/
  mainCmdIn : Nat
  /-- Samples of the Main DPLL's mean output frequency, newest first (R248). -/
  hist : List Int
  /-- Consecutive seconds with a sample. -/
  histRun : Nat
  /-- S1 bits 5 to 8 of each LU in the frame being sent (R260); unlisted: 0b1011. -/
  s1Out : List (Nat × Nat)
  /-- Those of the frame that starts at the next boundary. -/
  s1Next : List (Nat × Nat)
  /-- S1 bits 5 to 8 that the mate gives for each LU (R260); unlisted: 0b1111. -/
  mateS1 : List (Nat × Nat)
  /-- Instant on clk of the last accepted SYNC_IN edge (R258). -/
  syncLast : Option Nat
  /-- Consecutive accepted edges within WIN, up to 3. -/
  syncOk : Nat
  /-- SYNC_OUT pulsed at the last frame boundary (R257). -/
  syncOut : Bool
  /-- Uptime frame of the last second boundary. -/
  secUp : Nat
deriving DecidableEq, Repr

/-- The pair (09). -/
structure PairState where
  /-- The pair's roles let the package drive its outputs (R219). -/
  drive : Bool
  /-- Since when: uptime frame and ns in it; an output is driven from its next window position (R226). -/
  driveAt : Nat × Nat
  /-- The ARB_SEL_N line is low: the level last held for 1 us, which a package under reset takes up at T0 (R219, R380). -/
  arbLow : Bool
  /-- The present wait of a deselected holder for a TAKE has ended without one, and has counted its event on PAIR.ARB (R225, R226). -/
  hoWaited : Bool
  /-- The mate pulls YOKE low, as last seen (R221). -/
  yokeMate : Bool
  /-- The frame last sent on MATE_TX (R222). -/
  mateTx : Option MateTx
  /-- Shadow CRCs of the mate for frames that this package has still to send, newest first (R227). -/
  shadowRx : List (Nat × List (Nat × Word))
  /-- TAKE in force: FN_h, and whether this package sent it (R224). -/
  hoTake : Option (Nat × Bool)
  /-- Agreed handover: FN_h, and whether this package is the outgoing one (R224). -/
  hoAgreed : Option (Nat × Bool)
  /-- The outputs of the agreed handover have changed, and the yoke is still to be released. -/
  hoDone : Bool
  /-- HO_OP and HO_FN of the mate header (Table 09-2). -/
  hoOp : Nat × Nat
  /-- Mate frames in a row that do not meet R222, up to 3. -/
  mateBad : Nat
  /-- Mate frames in a row that report ACTIVE = 0, up to 2 (R226). -/
  mateIdle : Nat
  /-- Mate frames in a row in which both packages report ACTIVE, up to 3 (R221). -/
  bothAct : Nat
  /-- Mate frames in a row in which both packages report ARB_SEL_N low, up to 3 (R225). -/
  bothSel : Nat
  /-- SHADOW_EN of the mate (R227). -/
  mateShadow : Bool
  /-- The package's last measured theta in ps (R222), which its mate header carries as PHASE. -/
  theta : Int
  /-- CRCs of the frames sent in the last two frames, by FN and LU (R227). -/
  shadow : List (Nat × List (Nat × Word))
deriving DecidableEq, Repr

/-- Skim and Pour (12). -/
structure SkimState where
  /-- Skim jobs beyond their registers, at 8 d + j. -/
  skJobs : List (Nat × SkJob)
  /-- Tap list fetch in progress on each die. -/
  skFetch : List (Nat × Option ListFetch)
  /-- PRBS analysers, at 8192 d + i. -/
  prbs : List (Nat × Prbs)
  /-- Dies with a SKIM_PRBS_CHANGED bit set in the present frame (R299). -/
  prbsDirty : List Nat
  /-- Pour jobs beyond their registers, at 8 d + j. -/
  pourJobs : List (Nat × PourJob)
  /-- Target list fetch in progress on each die, at 2 d and 2 d + 1 for the ports. -/
  pourFetch : List (Nat × Option ListFetch)
deriving DecidableEq, Repr

/-- Sensing and calibration (15). -/
structure SenseState where
  /-- The calibration store (R367; notes/assumptions/7.md). -/
  calStore : CalBuf
  /-- The staging buffer (R369). -/
  calStage : CalBuf
  /-- Operation in progress: 0 none, 1 LOAD, 2 RECAL, 4 COMMIT (R371). -/
  calRun : Nat
  /-- PARTS of the RECAL in progress. -/
  calParts : Nat
  /-- The set that the COMMIT in progress writes (R370). -/
  calNew : CalBuf
  /-- The set read at power-on, whose parts marked "Next power-on" are in force (Table 15-4): none before that read, and none inside where the
  set was not valid and the nominal values of the ROM stand for it (R368). -/
  calBoot : Option (Option CalBuf)
  /-- The 64 bytes of SerDes settings that each lane took at the last application of LINKS, 128 MATE_TX and 129 MATE_RX (Table 15-4, R34). -/
  eqSet : List (Nat × List Byte)
  /-- The last reading of each temperature sensor, in 1/16 degree C (R360). -/
  temps : List (Nat × Int)
  /-- Last samples of each measurement point, newest first, up to 16 (R358). -/
  volt : List (Nat × List Nat)
  /-- Regions whose DEGR has reached AGE_MARGIN and has not fallen back (R361). -/
  aged : List Nat
  /-- Twice the mean temperature of each region at its last trim, in 1/16 degree C; none before the first (R360). -/
  trim : List (Nat × Option Int)
  /-- Last accepted TRACE result of each lane, + 1 (R365). -/
  trace : List (Nat × Nat)
  /-- LUs with a transmit PLL unlock or a receive CDR failure present (Table 14-5). -/
  serdesBad : List Nat
deriving DecidableEq, Repr

/-- Host and management interfaces (17). -/
structure HostState where
  /-- The PERST lines of Host Ports A and B are low (R381). -/
  perstLow : Bool × Bool
  /-- Commands that the SPI master has sent to the boot flash since T0, newest first (R397, R398). -/
  spiLog : List SpiCmd
  /-- Flash operation in progress (R398). -/
  spiRun : Option SpiOp
  /-- Flash address and length of the HKFW section of the image accepted last at full scope, and of the one in effect; none where it came from the
  staging window (R347). -/
  hkNext : Option (Nat × Nat)
  hkFrom : Option (Nat × Nat)
  /-- The HKFW section is to be read again once the SPI bus is free (R347, R398). -/
  hkAsk : Bool
  /-- Instant on clk, plus 1, at which the first-source record of an event block, and of the package (175), was latched (R351). -/
  firstClk : List (Nat × Nat)
  /-- SMBus byte pointer (R400; notes/assumptions/19.md). -/
  smbPtr : BitVec 16
  /-- Current TAP instruction (R402). -/
  tapIr : BitVec 8
  /-- What the instruction register captured and shifted out at the last instruction loaded (R402); none since the last TAP reset. -/
  tapIrOut : Option (BitVec 8)
  /-- Values last shifted into the boundary-scan register (R404). -/
  scan : List Bool
deriving DecidableEq, Repr

/-- The state of the block: what every part of it shares, and the state of each part. -/
structure State extends PowerState, BenchState, MapState, BankState, ProtState, PmState, LineState, StoreState, GroupState,
    TimeState, PairState, SkimState, SenseState, HostState where
  /-- The commands that wait, first in, first out. -/
  pending : List Instr
  /-- What the last command answered. -/
  resp : Completion
  /-- The model's own: how many free values have been drawn (notes/assumptions/2.md). -/
  draw : Nat
  /-- Memory bytes that are not 0: work banks and DRAM at their BAR2 addresses, the staging window at 2^37. -/
  mem : List Host.Cell
  /-- The model's own: ns since power-on; timers are deadlines on it (notes/assumptions/3.md). -/
  clk : Nat
  /-- The model's own: system frame boundaries since power-on. -/
  up : Nat
  /-- System frames since the time-base epoch; FN is this modulo 2^32, and the time base follows it (R254, R255). -/
  frames : Nat
  /-- Offset into the present frame in ns, 0 to 124,999. -/
  ns : Nat
  /-- The registers that differ from their power-on value, in canonical order. -/
  regs : List (RegId × Word)
  /-- Counter snapshots: the LO register with the port in held (R274). -/
  snaps : List (RegId × Word)
  /-- Running timers and their deadlines. -/
  timers : List (TKey × Option Nat)
  /-- Host Port A. -/
  portA : PortCfg
  /-- Host Port B. -/
  portB : PortCfg
  /-- Posted writes sent upstream, newest first. -/
  hostWrites : List HostWrite
  /-- Sources may turn severe (R342). -/
  sevOn : Bool
  /-- MODE.FENCE of the image in effect (R41). -/
  fence : Bool
  /-- Reactions in force (R344, R348). -/
  safe : List SafeForce
  /-- Retirements still to be carried out (R346). -/
  due : List Due
deriving DecidableEq, Repr

/-- The state right after a power-on reset: the instant T0 of Table 16-4 (R376, R378, R383), the straps low
(notes/assumptions/4.md) and every store at its reset contents. -/
def State.reset : State where
  pending := []
  resp := .none
  draw := 0
  pwr := .run
  rstLow := false
  rstHeld := false
  warm := false
  oscIn := true
  lead := 0
  upStart := 0
  mem := []
  clk := 0
  up := 0
  frames := 0
  ns := 0
  regs := []
  snaps := []
  timers := []
  portA := ⟨false, false, false, false, false, ⟨0, 0, 0, 0⟩⟩
  portB := ⟨false, false, false, false, false, ⟨0, 0, 0, 0⟩⟩
  hostWrites := []
  sevOn := false
  fence := false
  safe := []
  due := []
  load := none
  applying := none
  fullActive := false
  rgFailed := []
  pers := []
  eqPreset := []
  depth := []
  dram := []
  wbDefault := []
  rbForced := []
  fullForced := false
  unretire := []
  dramBad := []
  dramTrained := false
  actMap := []
  merges := []
  txns := []
  hitAis := []
  unionHold := []
  mapDiag := []
  syncing := []
  mateOut := []
  sievePos := []
  wbNew := []
  wbWait := []
  wbLast := []
  wbReturning := []
  mxOut := []
  mxWait := []
  msp := []
  pm := []
  pmAuto := []
  pmAutoCfg := []
  pmOfs := []
  pmDue := none
  pmQ := 0
  pmClose := []
  tcaLog := []
  tcaLost := []
  tcaStored := []
  sec := []
  lineOut := []
  paths := []
  structW0 := []
  structPend := []
  gens := []
  hoB3 := []
  pathInd := []
  jrnDirty := []
  jrnLoss := []
  jrnStage := []
  slabs := []
  spareOn := []
  spareLast := []
  slabDiag := []
  txGrains := []
  txMarks := []
  snc := []
  sncLog := []
  sncLost := []
  sncStored := []
  grps := []
  grpGone := []
  grpDirty := []
  deskew := []
  fabric := []
  tg := []
  refEff := []
  refS1 := []
  mainHold := false
  mainCmdIn := 0
  hist := []
  histRun := 0
  s1Out := []
  s1Next := []
  mateS1 := []
  syncLast := none
  syncOk := 0
  syncOut := false
  secUp := 0
  drive := false
  driveAt := (0, 0)
  arbLow := false
  hoWaited := false
  yokeMate := false
  mateTx := none
  shadowRx := []
  hoTake := none
  hoAgreed := none
  hoDone := false
  hoOp := (0, 0)
  mateBad := 3
  mateIdle := 0
  bothAct := 0
  bothSel := 0
  mateShadow := false
  theta := 0
  shadow := []
  skJobs := []
  skFetch := []
  prbs := []
  prbsDirty := []
  pourJobs := []
  pourFetch := []
  calStore := ⟨true, []⟩
  calStage := ⟨false, []⟩
  calBoot := none
  eqSet := []
  temps := []
  calRun := 0
  calParts := 0
  calNew := ⟨false, []⟩
  volt := []
  aged := []
  trim := []
  trace := []
  serdesBad := []
  perstLow := (false, false)
  spiLog := []
  spiRun := none
  hkNext := none
  hkFrom := none
  hkAsk := false
  firstClk := []
  smbPtr := 0
  tapIr := 0x02
  tapIrOut := none
  scan := []

end Sys2Proof.Machine
end

