-- ==== Sys2Proof/Machine/Fields.lean ====
section
/-!
DEFINITION. The fields of the registers, as the register tables of spec/ give them: lowest bit, width, access type
(Table 18-3) and reset value. A reset entry that is no value (Bench, Strap, Factory, a dash) stands as 0 here; Machine/RegTable.lean
gives such registers their value (R413).
-/

namespace Sys2Proof.Machine

-- DIE_UNIT_RETIRE (01-7)
abbrev F.DIE_UNIT_RETIRE_LU_RETIRE : Fld := ⟨0, 32, .rws, 0x0⟩
-- DIE_UNIT_STATE (01-8)
abbrev F.DIE_UNIT_STATE_RG_LOCK : Fld := ⟨24, 2, .ro, 0x0⟩
abbrev F.DIE_UNIT_STATE_RG_POWER : Fld := ⟨22, 2, .ro, 0x0⟩
abbrev F.DIE_UNIT_STATE_SEAM_SPARE_USED2 : Fld := ⟨20, 2, .ro, 0x0⟩
abbrev F.DIE_UNIT_STATE_SEAM_SPARE_USED1 : Fld := ⟨18, 2, .ro, 0x0⟩
abbrev F.DIE_UNIT_STATE_SEAM_SPARE_USED0 : Fld := ⟨16, 2, .ro, 0x0⟩
abbrev F.DIE_UNIT_STATE_CL_LOCK : Fld := ⟨8, 8, .ro, 0x0⟩
abbrev F.DIE_UNIT_STATE_CL_POWER : Fld := ⟨0, 8, .ro, 0x0⟩
-- BENCH_CTRL (02-12)
abbrev F.BENCH_CTRL_SOURCE : Fld := ⟨1, 2, .rw, 0x0⟩
abbrev F.BENCH_CTRL_START : Fld := ⟨0, 1, .wo, 0x0⟩
-- BENCH_STATUS (02-13)
abbrev F.BENCH_STATUS_FALLBACK : Fld := ⟨20, 1, .ro, 0x0⟩
abbrev F.BENCH_STATUS_START_IGNORED : Fld := ⟨19, 1, .rw1c, 0x0⟩
abbrev F.BENCH_STATUS_REGION : Fld := ⟨16, 3, .ro, 0x0⟩
abbrev F.BENCH_STATUS_SCOPE : Fld := ⟨15, 1, .ro, 0x0⟩
abbrev F.BENCH_STATUS_LAST_SOURCE : Fld := ⟨12, 3, .ro, 0x0⟩
abbrev F.BENCH_STATUS_REREADS : Fld := ⟨8, 4, .ro, 0x0⟩
abbrev F.BENCH_STATUS_STATE : Fld := ⟨0, 4, .ro, 0x0⟩
-- BENCH_REFUSE (02-14)
abbrev F.BENCH_REFUSE_STEP : Fld := ⟨24, 8, .ro, 0x0⟩
abbrev F.BENCH_REFUSE_SECT_TYPE : Fld := ⟨8, 16, .ro, 0x0⟩
abbrev F.BENCH_REFUSE_CODE : Fld := ⟨0, 8, .ro, 0x0⟩
-- BENCH_REFUSE_OFFSET (02-15)
abbrev F.BENCH_REFUSE_OFFSET_OFFSET : Fld := ⟨0, 32, .ro, 0x0⟩
-- BENCH_LEN (02-16)
abbrev F.BENCH_LEN_LENGTH : Fld := ⟨0, 25, .rw, 0x0⟩
-- BENCH_ACTIVE_ID (02-17)
abbrev F.BENCH_ACTIVE_ID_ID : Fld := ⟨0, 32, .ro, 0x0⟩
-- BENCH_HKFW_VER (02-17)
abbrev F.BENCH_HKFW_VER_ID : Fld := ⟨0, 32, .ro, 0x0⟩
-- BENCH_REGION_ID (02-17)
abbrev F.BENCH_REGION_ID_ID : Fld := ⟨0, 32, .ro, 0x0⟩
-- RG_SLAB_STATUS (03-10)
abbrev F.RG_SLAB_STATUS_SPARE_REJ : Fld := ⟨16, 1, .rw1c, 0x0⟩
abbrev F.RG_SLAB_STATUS_SPARE_FREE : Fld := ⟨14, 2, .ro, 0x2⟩
abbrev F.RG_SLAB_STATUS_DEPTH : Fld := ⟨12, 2, .ro, 0x0⟩
abbrev F.RG_SLAB_STATUS_SLAB_READ : Fld := ⟨0, 2, .ro, 0x0⟩
-- RG_SLAB_SPARE (03-11)
abbrev F.RG_SLAB_SPARE_VALID : Fld := ⟨31, 1, .rws, 0x0⟩
abbrev F.RG_SLAB_SPARE_ORIGIN : Fld := ⟨30, 1, .ro, 0x0⟩
abbrev F.RG_SLAB_SPARE_LOGICAL : Fld := ⟨0, 7, .rws, 0x0⟩
-- RG_SLAB_CE_LO (03-12)
abbrev F.RG_SLAB_CE_LO_COUNT : Fld := ⟨0, 32, .ro, 0x0⟩
-- RG_SLAB_CE_HI (03-12)
abbrev F.RG_SLAB_CE_HI_COUNT : Fld := ⟨0, 16, .ro, 0x0⟩
-- RG_SLAB_UE_LO (03-12)
abbrev F.RG_SLAB_UE_LO_COUNT : Fld := ⟨0, 32, .ro, 0x0⟩
-- RG_SLAB_UE_HI (03-12)
abbrev F.RG_SLAB_UE_HI_COUNT : Fld := ⟨0, 16, .ro, 0x0⟩
-- RG_SLAB_LATE_LO (03-12)
abbrev F.RG_SLAB_LATE_LO_COUNT : Fld := ⟨0, 32, .ro, 0x0⟩
-- RG_SLAB_LATE_HI (03-12)
abbrev F.RG_SLAB_LATE_HI_COUNT : Fld := ⟨0, 16, .ro, 0x0⟩
-- RG_XING_PARITY_LO (03-12)
abbrev F.RG_XING_PARITY_LO_COUNT : Fld := ⟨0, 32, .ro, 0x0⟩
-- RG_XING_PARITY_HI (03-12)
abbrev F.RG_XING_PARITY_HI_COUNT : Fld := ⟨0, 16, .ro, 0x0⟩
-- RG_SLAB_ECC_LAST (03-13)
abbrev F.RG_SLAB_ECC_LAST_UE : Fld := ⟨31, 1, .ro, 0x0⟩
abbrev F.RG_SLAB_ECC_LAST_LOGICAL : Fld := ⟨24, 7, .ro, 0x0⟩
abbrev F.RG_SLAB_ECC_LAST_WORD : Fld := ⟨10, 14, .ro, 0x0⟩
abbrev F.RG_SLAB_ECC_LAST_BIT : Fld := ⟨0, 7, .ro, 0x0⟩
-- RG_SLAB_DIAG_ADDR (03-14)
abbrev F.RG_SLAB_DIAG_ADDR_GO : Fld := ⟨31, 1, .wo, 0x0⟩
abbrev F.RG_SLAB_DIAG_ADDR_LOGICAL : Fld := ⟨24, 7, .rw, 0x0⟩
abbrev F.RG_SLAB_DIAG_ADDR_WORD : Fld := ⟨10, 14, .rw, 0x0⟩
-- RG_SLAB_DIAG_STATUS (03-14)
abbrev F.RG_SLAB_DIAG_STATUS_DONE : Fld := ⟨31, 1, .rw1c, 0x0⟩
abbrev F.RG_SLAB_DIAG_STATUS_BUSY : Fld := ⟨30, 1, .ro, 0x0⟩
abbrev F.RG_SLAB_DIAG_STATUS_ERR : Fld := ⟨29, 1, .rw1c, 0x0⟩
abbrev F.RG_SLAB_DIAG_STATUS_ECC_BAD : Fld := ⟨28, 1, .ro, 0x0⟩
abbrev F.RG_SLAB_DIAG_STATUS_SLAB : Fld := ⟨26, 2, .ro, 0x0⟩
abbrev F.RG_SLAB_DIAG_STATUS_FN_LOW : Fld := ⟨0, 16, .ro, 0x0⟩
-- RG_SLAB_DIAG_DATA0 (03-15)
abbrev F.RG_SLAB_DIAG_DATA0_WORD_LO : Fld := ⟨0, 32, .ro, 0x0⟩
-- RG_SLAB_DIAG_DATA1 (03-15)
abbrev F.RG_SLAB_DIAG_DATA1_WORD_MID : Fld := ⟨0, 32, .ro, 0x0⟩
-- RG_SLAB_DIAG_DATA2 (03-15)
abbrev F.RG_SLAB_DIAG_DATA2_ECC : Fld := ⟨16, 8, .ro, 0x0⟩
abbrev F.RG_SLAB_DIAG_DATA2_WORD_HI : Fld := ⟨0, 16, .ro, 0x0⟩
-- RG_SLAB_ECC_INJ (03-15)
abbrev F.RG_SLAB_ECC_INJ_ARM : Fld := ⟨31, 1, .rw, 0x0⟩
abbrev F.RG_SLAB_ECC_INJ_BIT_B : Fld := ⟨8, 7, .rw, 0x7f⟩
abbrev F.RG_SLAB_ECC_INJ_BIT_A : Fld := ⟨0, 7, .rw, 0x0⟩
-- TXN_SUMMARY (04-9)
abbrev F.TXN_SUMMARY_NOTIFY : Fld := ⟨24, 8, .rw, 0x0⟩
abbrev F.TXN_SUMMARY_TERMINAL : Fld := ⟨16, 8, .ro, 0x0⟩
abbrev F.TXN_SUMMARY_LIVE : Fld := ⟨8, 8, .ro, 0x0⟩
abbrev F.TXN_SUMMARY_FREE : Fld := ⟨0, 8, .ro, 0xff⟩
-- TXN_MIRROR_CTRL (04-10)
abbrev F.TXN_MIRROR_CTRL_MATE_OK : Fld := ⟨1, 1, .ro, 0x0⟩
abbrev F.TXN_MIRROR_CTRL_ENABLE : Fld := ⟨0, 1, .rw, 0x0⟩
-- TXN_LAST_COMMIT_FN (04-11)
abbrev F.TXN_LAST_COMMIT_FN_FN : Fld := ⟨0, 32, .ro, 0x0⟩
-- TXN_CMD (04-12)
abbrev F.TXN_CMD_ASAP : Fld := ⟨9, 1, .wo, 0x0⟩
abbrev F.TXN_CMD_MIRROR : Fld := ⟨8, 1, .wo, 0x0⟩
abbrev F.TXN_CMD_OP : Fld := ⟨0, 3, .wo, 0x0⟩
-- TXN_FN (04-13)
abbrev F.TXN_FN_COMMIT_FN : Fld := ⟨0, 32, .rw, 0x0⟩
-- TXN_STATUS (04-14)
abbrev F.TXN_STATUS_CODE : Fld := ⟨24, 8, .ro, 0x0⟩
abbrev F.TXN_STATUS_ABORT_CAUSE : Fld := ⟨21, 3, .ro, 0x0⟩
abbrev F.TXN_STATUS_LATE_ABORT : Fld := ⟨20, 1, .ro, 0x0⟩
abbrev F.TXN_STATUS_CLEANING : Fld := ⟨19, 1, .ro, 0x0⟩
abbrev F.TXN_STATUS_MATE_UNCONF : Fld := ⟨18, 1, .ro, 0x0⟩
abbrev F.TXN_STATUS_ORIGIN : Fld := ⟨17, 1, .ro, 0x0⟩
abbrev F.TXN_STATUS_MIRROR : Fld := ⟨16, 1, .ro, 0x0⟩
abbrev F.TXN_STATUS_OP_REFUSED : Fld := ⟨15, 1, .rw1c, 0x0⟩
abbrev F.TXN_STATUS_STATE : Fld := ⟨0, 4, .ro, 0x0⟩
-- TXN_COUNT (04-15)
abbrev F.TXN_COUNT_DISCARDED : Fld := ⟨20, 12, .ro, 0x0⟩
abbrev F.TXN_COUNT_RECORDS : Fld := ⟨0, 20, .ro, 0x0⟩
-- TXN_ERR_INDEX (04-15)
abbrev F.TXN_ERR_INDEX_INDEX : Fld := ⟨0, 32, .ro, 0xffffffff⟩
-- TXN_FETCH_LO (04-16)
abbrev F.TXN_FETCH_LO_ADDR_LO : Fld := ⟨4, 28, .rw, 0x0⟩
-- TXN_FETCH_HI (04-16)
abbrev F.TXN_FETCH_HI_ADDR_HI : Fld := ⟨0, 5, .rw, 0x0⟩
-- TXN_FETCH_CTRL (04-16)
abbrev F.TXN_FETCH_CTRL_GO : Fld := ⟨31, 1, .wo, 0x0⟩
abbrev F.TXN_FETCH_CTRL_BUSY : Fld := ⟨30, 1, .ro, 0x0⟩
abbrev F.TXN_FETCH_CTRL_COUNT : Fld := ⟨0, 20, .rw, 0x0⟩
-- TXN_REC (04-17)
abbrev F.TXN_REC_WORD : Fld := ⟨0, 32, .wo, 0x0⟩
-- TXN_REC3 (04-17)
abbrev F.TXN_REC3_WORD : Fld := ⟨0, 32, .wo, 0x0⟩
-- TXN_EVENT_FN (04-18)
abbrev F.TXN_EVENT_FN_FN : Fld := ⟨0, 32, .ro, 0x0⟩
-- TXN_ABORT_FN (04-18)
abbrev F.TXN_ABORT_FN_FN : Fld := ⟨0, 32, .ro, 0x0⟩
-- TXN_ABORT_NS (04-18)
abbrev F.TXN_ABORT_NS_NS : Fld := ⟨0, 17, .ro, 0x0⟩
-- MAP_STATUS (04-19)
abbrev F.MAP_STATUS_BUSY : Fld := ⟨20, 1, .ro, 0x0⟩
abbrev F.MAP_STATUS_QUEUE : Fld := ⟨0, 20, .ro, 0x0⟩
-- MAP_BUILT_LO (04-19)
abbrev F.MAP_BUILT_LO_COUNT : Fld := ⟨0, 32, .ro, 0x0⟩
-- MAP_BUILT_HI (04-19)
abbrev F.MAP_BUILT_HI_COUNT : Fld := ⟨0, 16, .ro, 0x0⟩
-- MAP_DIAG_CTRL (04-20)
abbrev F.MAP_DIAG_CTRL_GO : Fld := ⟨31, 1, .wo, 0x0⟩
abbrev F.MAP_DIAG_CTRL_SEL : Fld := ⟨25, 2, .rw, 0x0⟩
abbrev F.MAP_DIAG_CTRL_AU3 : Fld := ⟨24, 1, .rw, 0x0⟩
abbrev F.MAP_DIAG_CTRL_TA : Fld := ⟨0, 24, .rw, 0x0⟩
-- MAP_DIAG_STATUS (04-20)
abbrev F.MAP_DIAG_STATUS_DONE : Fld := ⟨31, 1, .rw1c, 0x0⟩
abbrev F.MAP_DIAG_STATUS_ERR : Fld := ⟨30, 1, .rw1c, 0x0⟩
abbrev F.MAP_DIAG_STATUS_COVERED : Fld := ⟨29, 1, .ro, 0x0⟩
abbrev F.MAP_DIAG_STATUS_CLAIM : Fld := ⟨0, 4, .ro, 0xf⟩
-- MAP_DIAG_DATA (04-21)
abbrev F.MAP_DIAG_DATA_WORD : Fld := ⟨0, 32, .ro, 0x0⟩
-- LU_SEC_CTRL (05-7)
abbrev F.LU_SEC_CTRL_BEACON_TX : Fld := ⟨15, 1, .rw, 0x0⟩
abbrev F.LU_SEC_CTRL_TIM_AIS : Fld := ⟨14, 1, .rw, 0x0⟩
abbrev F.LU_SEC_CTRL_TIM_MON : Fld := ⟨13, 1, .rw, 0x0⟩
abbrev F.LU_SEC_CTRL_EXC_AIS : Fld := ⟨12, 1, .rw, 0x0⟩
abbrev F.LU_SEC_CTRL_TRACE_FMT : Fld := ⟨10, 2, .rw, 0x1⟩
abbrev F.LU_SEC_CTRL_B1_QUALIFY : Fld := ⟨9, 1, .rw, 0x0⟩
abbrev F.LU_SEC_CTRL_TX_RDI_OFF : Fld := ⟨8, 1, .rw, 0x0⟩
abbrev F.LU_SEC_CTRL_OOF_EXTRA : Fld := ⟨6, 2, .rw, 0x0⟩
abbrev F.LU_SEC_CTRL_CONFIRM : Fld := ⟨4, 2, .rw, 0x0⟩
abbrev F.LU_SEC_CTRL_TX_SCR_OFF : Fld := ⟨3, 1, .rw, 0x0⟩
abbrev F.LU_SEC_CTRL_RX_DESCR_OFF : Fld := ⟨2, 1, .rw, 0x0⟩
abbrev F.LU_SEC_CTRL_RESYNC : Fld := ⟨0, 1, .wo, 0x0⟩
-- LU_SEC_RATE (05-7)
abbrev F.LU_SEC_RATE_SEARCHING : Fld := ⟨31, 1, .ro, 0x0⟩
abbrev F.LU_SEC_RATE_FOUND_VALID : Fld := ⟨30, 1, .ro, 0x0⟩
abbrev F.LU_SEC_RATE_FOUND : Fld := ⟨24, 4, .ro, 0x0⟩
abbrev F.LU_SEC_RATE_TX_DEFAULT : Fld := ⟨20, 4, .rw, 0x1⟩
abbrev F.LU_SEC_RATE_RESTART : Fld := ⟨0, 1, .wo, 0x0⟩
-- LU_SEC_TIMERS (05-8)
abbrev F.LU_SEC_TIMERS_S1_FILT : Fld := ⟨28, 4, .rw, 0x8⟩
abbrev F.LU_SEC_TIMERS_K_FILT : Fld := ⟨26, 2, .rw, 0x0⟩
abbrev F.LU_SEC_TIMERS_LOS_SET : Fld := ⟨16, 10, .rw, 0x1f4⟩
abbrev F.LU_SEC_TIMERS_LOF_SET : Fld := ⟨8, 8, .rw, 0x18⟩
abbrev F.LU_SEC_TIMERS_LOF_CLR : Fld := ⟨0, 8, .rw, 0x18⟩
-- LU_SEC_BER (05-8)
abbrev F.LU_SEC_BER_SD_EXP : Fld := ⟨4, 4, .rw, 0x6⟩
abbrev F.LU_SEC_BER_SF_EXP : Fld := ⟨0, 4, .rw, 0x3⟩
-- LU_SEC_STATUS (05-9)
abbrev F.LU_SEC_STATUS_BEACON_NEW : Fld := ⟨16, 1, .ro, 0x0⟩
abbrev F.LU_SEC_STATUS_RATE_NEW : Fld := ⟨15, 1, .ro, 0x0⟩
abbrev F.LU_SEC_STATUS_S1_NEW : Fld := ⟨14, 1, .ro, 0x0⟩
abbrev F.LU_SEC_STATUS_K_NEW : Fld := ⟨13, 1, .ro, 0x0⟩
abbrev F.LU_SEC_STATUS_J0_NEW : Fld := ⟨12, 1, .ro, 0x0⟩
abbrev F.LU_SEC_STATUS_BEACON_VALID : Fld := ⟨9, 1, .ro, 0x0⟩
abbrev F.LU_SEC_STATUS_S1_UNSTABLE : Fld := ⟨8, 1, .ro, 0x0⟩
abbrev F.LU_SEC_STATUS_MS_DEG : Fld := ⟨7, 1, .ro, 0x0⟩
abbrev F.LU_SEC_STATUS_MS_EXC : Fld := ⟨6, 1, .ro, 0x0⟩
abbrev F.LU_SEC_STATUS_MS_RDI : Fld := ⟨5, 1, .ro, 0x0⟩
abbrev F.LU_SEC_STATUS_MS_AIS : Fld := ⟨4, 1, .ro, 0x0⟩
abbrev F.LU_SEC_STATUS_RS_TIM : Fld := ⟨3, 1, .ro, 0x0⟩
abbrev F.LU_SEC_STATUS_LOF : Fld := ⟨2, 1, .ro, 0x0⟩
abbrev F.LU_SEC_STATUS_OOF : Fld := ⟨1, 1, .ro, 0x0⟩
abbrev F.LU_SEC_STATUS_LOS : Fld := ⟨0, 1, .ro, 0x0⟩
-- LU_SEC_STICKY (05-9)
abbrev F.LU_SEC_STICKY_BEACON_NEW : Fld := ⟨16, 1, .rw1c, 0x0⟩
abbrev F.LU_SEC_STICKY_RATE_NEW : Fld := ⟨15, 1, .rw1c, 0x0⟩
abbrev F.LU_SEC_STICKY_S1_NEW : Fld := ⟨14, 1, .rw1c, 0x0⟩
abbrev F.LU_SEC_STICKY_K_NEW : Fld := ⟨13, 1, .rw1c, 0x0⟩
abbrev F.LU_SEC_STICKY_J0_NEW : Fld := ⟨12, 1, .rw1c, 0x0⟩
abbrev F.LU_SEC_STICKY_BEACON_VALID : Fld := ⟨9, 1, .rw1c, 0x0⟩
abbrev F.LU_SEC_STICKY_S1_UNSTABLE : Fld := ⟨8, 1, .rw1c, 0x0⟩
abbrev F.LU_SEC_STICKY_MS_DEG : Fld := ⟨7, 1, .rw1c, 0x0⟩
abbrev F.LU_SEC_STICKY_MS_EXC : Fld := ⟨6, 1, .rw1c, 0x0⟩
abbrev F.LU_SEC_STICKY_MS_RDI : Fld := ⟨5, 1, .rw1c, 0x0⟩
abbrev F.LU_SEC_STICKY_MS_AIS : Fld := ⟨4, 1, .rw1c, 0x0⟩
abbrev F.LU_SEC_STICKY_RS_TIM : Fld := ⟨3, 1, .rw1c, 0x0⟩
abbrev F.LU_SEC_STICKY_LOF : Fld := ⟨2, 1, .rw1c, 0x0⟩
abbrev F.LU_SEC_STICKY_OOF : Fld := ⟨1, 1, .rw1c, 0x0⟩
abbrev F.LU_SEC_STICKY_LOS : Fld := ⟨0, 1, .rw1c, 0x0⟩
-- LU_SEC_EVMASK (05-9)
abbrev F.LU_SEC_EVMASK_BEACON_NEW : Fld := ⟨16, 1, .rw, 0x0⟩
abbrev F.LU_SEC_EVMASK_RATE_NEW : Fld := ⟨15, 1, .rw, 0x1⟩
abbrev F.LU_SEC_EVMASK_S1_NEW : Fld := ⟨14, 1, .rw, 0x0⟩
abbrev F.LU_SEC_EVMASK_K_NEW : Fld := ⟨13, 1, .rw, 0x0⟩
abbrev F.LU_SEC_EVMASK_J0_NEW : Fld := ⟨12, 1, .rw, 0x0⟩
abbrev F.LU_SEC_EVMASK_BEACON_VALID : Fld := ⟨9, 1, .rw, 0x0⟩
abbrev F.LU_SEC_EVMASK_S1_UNSTABLE : Fld := ⟨8, 1, .rw, 0x1⟩
abbrev F.LU_SEC_EVMASK_MS_DEG : Fld := ⟨7, 1, .rw, 0x1⟩
abbrev F.LU_SEC_EVMASK_MS_EXC : Fld := ⟨6, 1, .rw, 0x1⟩
abbrev F.LU_SEC_EVMASK_MS_RDI : Fld := ⟨5, 1, .rw, 0x1⟩
abbrev F.LU_SEC_EVMASK_MS_AIS : Fld := ⟨4, 1, .rw, 0x1⟩
abbrev F.LU_SEC_EVMASK_RS_TIM : Fld := ⟨3, 1, .rw, 0x1⟩
abbrev F.LU_SEC_EVMASK_LOF : Fld := ⟨2, 1, .rw, 0x1⟩
abbrev F.LU_SEC_EVMASK_OOF : Fld := ⟨1, 1, .rw, 0x1⟩
abbrev F.LU_SEC_EVMASK_LOS : Fld := ⟨0, 1, .rw, 0x1⟩
-- LU_SEC_FRAME (05-10)
abbrev F.LU_SEC_FRAME_CAND : Fld := ⟨28, 4, .ro, 0x0⟩
abbrev F.LU_SEC_FRAME_B1_DROPS : Fld := ⟨8, 8, .ro, 0x0⟩
abbrev F.LU_SEC_FRAME_ACQUIRED : Fld := ⟨0, 8, .ro, 0x0⟩
-- LU_SEC_KTX (05-10)
abbrev F.LU_SEC_KTX_MSP : Fld := ⟨16, 1, .ro, 0x0⟩
abbrev F.LU_SEC_KTX_K1 : Fld := ⟨8, 8, .rw, 0x0⟩
abbrev F.LU_SEC_KTX_K2 : Fld := ⟨0, 8, .rw, 0x0⟩
-- LU_SEC_KRX (05-10)
abbrev F.LU_SEC_KRX_K1_ACC : Fld := ⟨8, 8, .ro, 0x0⟩
abbrev F.LU_SEC_KRX_K2_ACC : Fld := ⟨0, 8, .ro, 0x0⟩
-- LU_SEC_S1 (05-10)
abbrev F.LU_SEC_S1_S1_TX_OVR : Fld := ⟨16, 1, .rw, 0x0⟩
abbrev F.LU_SEC_S1_S1_TX : Fld := ⟨8, 8, .rw, 0x0⟩
abbrev F.LU_SEC_S1_S1_ACC : Fld := ⟨0, 8, .ro, 0x0⟩
-- LU_SEC_OHSRC (05-11)
abbrev F.LU_SEC_OHSRC_K : Fld := ⟨14, 2, .rw, 0x0⟩
abbrev F.LU_SEC_OHSRC_J0 : Fld := ⟨12, 2, .rw, 0x0⟩
abbrev F.LU_SEC_OHSRC_E1 : Fld := ⟨10, 2, .rw, 0x0⟩
abbrev F.LU_SEC_OHSRC_F1 : Fld := ⟨8, 2, .rw, 0x0⟩
abbrev F.LU_SEC_OHSRC_DCC_R : Fld := ⟨6, 2, .rw, 0x0⟩
abbrev F.LU_SEC_OHSRC_DCC_M : Fld := ⟨4, 2, .rw, 0x0⟩
abbrev F.LU_SEC_OHSRC_E2 : Fld := ⟨2, 2, .rw, 0x0⟩
abbrev F.LU_SEC_OHSRC_NAT : Fld := ⟨0, 2, .rw, 0x0⟩
-- LU_SEC_OHFILL (05-11)
abbrev F.LU_SEC_OHFILL_Z0 : Fld := ⟨24, 8, .rw, 0xcc⟩
abbrev F.LU_SEC_OHFILL_DCC : Fld := ⟨16, 8, .rw, 0x0⟩
abbrev F.LU_SEC_OHFILL_OW : Fld := ⟨8, 8, .rw, 0x0⟩
abbrev F.LU_SEC_OHFILL_F1 : Fld := ⟨0, 8, .rw, 0x0⟩
-- LU_SEC_BEACON_USER (05-11)
abbrev F.LU_SEC_BEACON_USER_USER : Fld := ⟨0, 32, .rw, 0x0⟩
-- LU_SEC_B1_LO (05-12)
abbrev F.LU_SEC_B1_LO_COUNT : Fld := ⟨0, 32, .ro, 0x0⟩
-- LU_SEC_B1_HI (05-12)
abbrev F.LU_SEC_B1_HI_COUNT : Fld := ⟨0, 16, .ro, 0x0⟩
-- LU_SEC_B2_LO (05-12)
abbrev F.LU_SEC_B2_LO_COUNT : Fld := ⟨0, 32, .ro, 0x0⟩
-- LU_SEC_B2_HI (05-12)
abbrev F.LU_SEC_B2_HI_COUNT : Fld := ⟨0, 16, .ro, 0x0⟩
-- LU_SEC_REI_LO (05-12)
abbrev F.LU_SEC_REI_LO_COUNT : Fld := ⟨0, 32, .ro, 0x0⟩
-- LU_SEC_REI_HI (05-12)
abbrev F.LU_SEC_REI_HI_COUNT : Fld := ⟨0, 16, .ro, 0x0⟩
-- LU_SEC_OOF_LO (05-12)
abbrev F.LU_SEC_OOF_LO_COUNT : Fld := ⟨0, 32, .ro, 0x0⟩
-- LU_SEC_OOF_HI (05-12)
abbrev F.LU_SEC_OOF_HI_COUNT : Fld := ⟨0, 16, .ro, 0x0⟩
-- LU_SEC_J0_EXP (05-12)
abbrev F.LU_SEC_J0_EXP_BYTES : Fld := ⟨0, 32, .rw, 0x0⟩
-- LU_SEC_J0_ACC (05-12)
abbrev F.LU_SEC_J0_ACC_BYTES : Fld := ⟨0, 32, .ro, 0x0⟩
-- LU_SEC_J0_TX (05-12)
abbrev F.LU_SEC_J0_TX_BYTES : Fld := ⟨0, 32, .rw, 0x0⟩
-- LU_SEC_BEACON_RX (05-12)
abbrev F.LU_SEC_BEACON_RX_BYTES : Fld := ⟨0, 32, .ro, 0x0⟩
-- LU_PATH_CTRL (06-11)
abbrev F.LU_PATH_CTRL_STRUCT_REJ : Fld := ⟨15, 1, .rw1c, 0x0⟩
abbrev F.LU_PATH_CTRL_J1TX_IDX : Fld := ⟨8, 6, .rw, 0x0⟩
abbrev F.LU_PATH_CTRL_J1TX_64 : Fld := ⟨2, 1, .rw, 0x0⟩
abbrev F.LU_PATH_CTRL_SS_CHECK : Fld := ⟨1, 1, .rw, 0x1⟩
abbrev F.LU_PATH_CTRL_JRN_EN : Fld := ⟨0, 1, .rw, 0x1⟩
-- LU_PATH_PROFILE (06-12)
abbrev F.LU_PATH_PROFILE_DEGM : Fld := ⟨28, 4, .rw, 0x7⟩
abbrev F.LU_PATH_PROFILE_DEGTHR : Fld := ⟨21, 7, .rw, 0x1e⟩
abbrev F.LU_PATH_PROFILE_RDI_FILT : Fld := ⟨18, 3, .rw, 0x2⟩
abbrev F.LU_PATH_PROFILE_LBL_FILT : Fld := ⟨15, 3, .rw, 0x2⟩
abbrev F.LU_PATH_PROFILE_UNEQ_AIS : Fld := ⟨14, 1, .rw, 0x0⟩
abbrev F.LU_PATH_PROFILE_PLM_AIS : Fld := ⟨13, 1, .rw, 0x0⟩
abbrev F.LU_PATH_PROFILE_TIM_AIS : Fld := ⟨12, 1, .rw, 0x0⟩
abbrev F.LU_PATH_PROFILE_TIM_MON : Fld := ⟨11, 1, .rw, 0x0⟩
abbrev F.LU_PATH_PROFILE_J1_64 : Fld := ⟨10, 1, .rw, 0x0⟩
-- LU_PATH_STRUCT0 (06-13)
abbrev F.LU_PATH_STRUCT0_MODE : Fld := ⟨29, 3, .rw, 0x1⟩
abbrev F.LU_PATH_STRUCT0_NC : Fld := ⟨27, 2, .rw, 0x0⟩
abbrev F.LU_PATH_STRUCT0_TUG2MAP : Fld := ⟨24, 3, .rw, 0x0⟩
abbrev F.LU_PATH_STRUCT0_TU2TYPE_0 : Fld := ⟨0, 14, .rw, 0x0⟩
-- LU_PATH_STRUCT1 (06-13)
abbrev F.LU_PATH_STRUCT1_TU2TYPE_2 : Fld := ⟨14, 14, .rw, 0x0⟩
abbrev F.LU_PATH_STRUCT1_TU2TYPE_1 : Fld := ⟨0, 14, .rw, 0x0⟩
-- LU_PATH_IND_CTRL (06-14)
abbrev F.LU_PATH_IND_CTRL_GO : Fld := ⟨31, 1, .wo, 0x0⟩
abbrev F.LU_PATH_IND_CTRL_WRITE : Fld := ⟨30, 1, .rw, 0x0⟩
abbrev F.LU_PATH_IND_CTRL_AU3 : Fld := ⟨24, 1, .rw, 0x0⟩
abbrev F.LU_PATH_IND_CTRL_TA : Fld := ⟨0, 24, .rw, 0x0⟩
-- LU_PATH_IND_STATUS (06-14)
abbrev F.LU_PATH_IND_STATUS_DONE : Fld := ⟨31, 1, .rw1c, 0x0⟩
abbrev F.LU_PATH_IND_STATUS_ERR : Fld := ⟨30, 1, .rw1c, 0x0⟩
-- LU_PATH_TCAP_CTRL (06-14)
abbrev F.LU_PATH_TCAP_CTRL_ARM : Fld := ⟨31, 1, .rw, 0x0⟩
abbrev F.LU_PATH_TCAP_CTRL_CAPTURED : Fld := ⟨30, 1, .rw1c, 0x0⟩
abbrev F.LU_PATH_TCAP_CTRL_AU3 : Fld := ⟨24, 1, .rw, 0x0⟩
abbrev F.LU_PATH_TCAP_CTRL_TA : Fld := ⟨0, 24, .rw, 0x0⟩
-- LU_PATH_IND_DATA0 (06-15)
abbrev F.LU_PATH_IND_DATA0_PROFILE : Fld := ⟨30, 2, .rw, 0x0⟩
abbrev F.LU_PATH_IND_DATA0_TRACE_EXP : Fld := ⟨29, 1, .rw, 0x0⟩
abbrev F.LU_PATH_IND_DATA0_TRACE_IDX : Fld := ⟨23, 6, .rw, 0x0⟩
abbrev F.LU_PATH_IND_DATA0_EXP_LABEL : Fld := ⟨0, 8, .rw, 0x0⟩
-- LU_PATH_IND_DATA1 (06-15)
abbrev F.LU_PATH_IND_DATA1_DEFECTS : Fld := ⟨16, 16, .ro, 0x0⟩
abbrev F.LU_PATH_IND_DATA1_ACC_LABEL : Fld := ⟨8, 8, .ro, 0x0⟩
abbrev F.LU_PATH_IND_DATA1_PTR_STATE : Fld := ⟨6, 2, .ro, 0x2⟩
-- LU_PATH_IND_DATA2 (06-15)
abbrev F.LU_PATH_IND_DATA2_OUT_PTR : Fld := ⟨16, 10, .ro, 0x3ff⟩
abbrev F.LU_PATH_IND_DATA2_IN_PTR : Fld := ⟨0, 10, .ro, 0x0⟩
-- LU_PATH_IND_DATA3 (06-15)
abbrev F.LU_PATH_IND_DATA3_TRACE_SIG : Fld := ⟨0, 32, .ro, 0x0⟩
-- LU_PATH_PJ_INC_LO (06-16)
abbrev F.LU_PATH_PJ_INC_LO_COUNT : Fld := ⟨0, 32, .ro, 0x0⟩
-- LU_PATH_PJ_INC_HI (06-16)
abbrev F.LU_PATH_PJ_INC_HI_COUNT : Fld := ⟨0, 16, .ro, 0x0⟩
-- LU_PATH_PJ_DEC_LO (06-16)
abbrev F.LU_PATH_PJ_DEC_LO_COUNT : Fld := ⟨0, 32, .ro, 0x0⟩
-- LU_PATH_PJ_DEC_HI (06-16)
abbrev F.LU_PATH_PJ_DEC_HI_COUNT : Fld := ⟨0, 16, .ro, 0x0⟩
-- LU_PATH_NDF_LO (06-16)
abbrev F.LU_PATH_NDF_LO_COUNT : Fld := ⟨0, 32, .ro, 0x0⟩
-- LU_PATH_NDF_HI (06-16)
abbrev F.LU_PATH_NDF_HI_COUNT : Fld := ⟨0, 16, .ro, 0x0⟩
-- LU_PATH_GEN_PJ_LO (06-16)
abbrev F.LU_PATH_GEN_PJ_LO_COUNT : Fld := ⟨0, 32, .ro, 0x0⟩
-- LU_PATH_GEN_PJ_HI (06-16)
abbrev F.LU_PATH_GEN_PJ_HI_COUNT : Fld := ⟨0, 16, .ro, 0x0⟩
-- LU_PATH_GEN_NDF_LO (06-16)
abbrev F.LU_PATH_GEN_NDF_LO_COUNT : Fld := ⟨0, 32, .ro, 0x0⟩
-- LU_PATH_GEN_NDF_HI (06-16)
abbrev F.LU_PATH_GEN_NDF_HI_COUNT : Fld := ⟨0, 16, .ro, 0x0⟩
-- LU_PATH_STRAY_LO (06-16)
abbrev F.LU_PATH_STRAY_LO_COUNT : Fld := ⟨0, 32, .ro, 0x0⟩
-- LU_PATH_STRAY_HI (06-16)
abbrev F.LU_PATH_STRAY_HI_COUNT : Fld := ⟨0, 16, .ro, 0x0⟩
-- LU_PATH_TCAP (R156)
abbrev F.LU_PATH_TCAP_BYTES : Fld := ⟨0, 32, .ro, 0x0⟩
-- LU_PATH_TRACE (R156)
abbrev F.LU_PATH_TRACE_BYTES : Fld := ⟨0, 32, .rw, 0x0⟩
-- DIE_JRN_CTRL (06-17)
abbrev F.DIE_JRN_CTRL_ENABLE : Fld := ⟨31, 1, .rw, 0x0⟩
abbrev F.DIE_JRN_CTRL_ERR : Fld := ⟨30, 1, .rw1c, 0x0⟩
abbrev F.DIE_JRN_CTRL_SIZE_LOG2 : Fld := ⟨0, 5, .rw, 0xc⟩
-- DIE_JRN_BASE_LO (06-17)
abbrev F.DIE_JRN_BASE_LO_ADDR_LO : Fld := ⟨12, 20, .rw, 0x0⟩
-- DIE_JRN_BASE_HI (06-17)
abbrev F.DIE_JRN_BASE_HI_ADDR_HI : Fld := ⟨0, 5, .rw, 0x0⟩
-- DIE_JRN_WR (06-17)
abbrev F.DIE_JRN_WR_COUNT : Fld := ⟨0, 32, .ro, 0x0⟩
-- DIE_JRN_RD (06-17)
abbrev F.DIE_JRN_RD_COUNT : Fld := ⟨0, 32, .rw, 0x0⟩
-- DIE_JRN_LOST_LO (06-17)
abbrev F.DIE_JRN_LOST_LO_COUNT : Fld := ⟨0, 32, .ro, 0x0⟩
-- DIE_JRN_LOST_HI (06-17)
abbrev F.DIE_JRN_LOST_HI_COUNT : Fld := ⟨0, 32, .ro, 0x0⟩
-- GRP_CMD (07-10)
abbrev F.GRP_CMD_GO : Fld := ⟨31, 1, .wo, 0x0⟩
abbrev F.GRP_CMD_OP : Fld := ⟨28, 3, .rw, 0x0⟩
abbrev F.GRP_CMD_GROUP : Fld := ⟨18, 10, .rw, 0x0⟩
abbrev F.GRP_CMD_INDEX : Fld := ⟨8, 8, .rw, 0x0⟩
-- GRP_STATUS (07-10)
abbrev F.GRP_STATUS_DONE : Fld := ⟨31, 1, .rw1c, 0x0⟩
abbrev F.GRP_STATUS_BUSY : Fld := ⟨30, 1, .ro, 0x0⟩
abbrev F.GRP_STATUS_CODE : Fld := ⟨16, 8, .ro, 0x0⟩
-- GRP_CFG0 (07-11)
abbrev F.GRP_CFG0_MODE : Fld := ⟨30, 2, .rw, 0x0⟩
abbrev F.GRP_CFG0_TYPE : Fld := ⟨28, 2, .rw, 0x0⟩
abbrev F.GRP_CFG0_LCAS : Fld := ⟨27, 1, .rw, 0x0⟩
abbrev F.GRP_CFG0_X : Fld := ⟨18, 9, .rw, 0x0⟩
abbrev F.GRP_CFG0_DMAX : Fld := ⟨9, 9, .rw, 0x0⟩
-- GRP_CFG1 (07-11)
abbrev F.GRP_CFG1_HOLDOFF : Fld := ⟨25, 7, .rw, 0x0⟩
abbrev F.GRP_CFG1_WTR : Fld := ⟨17, 8, .rw, 0x1e⟩
abbrev F.GRP_CFG1_RSACK_TO : Fld := ⟨13, 4, .rw, 0x2⟩
abbrev F.GRP_CFG1_SRC_LABEL : Fld := ⟨0, 8, .rw, 0x0⟩
-- GRP_MEMBER (07-12)
abbrev F.GRP_MEMBER_AU3 : Fld := ⟨24, 1, .rw, 0x0⟩
abbrev F.GRP_MEMBER_TA : Fld := ⟨0, 24, .rw, 0x0⟩
-- GRP_MEMBER_EG (07-12)
abbrev F.GRP_MEMBER_EG_AU3 : Fld := ⟨24, 1, .rw, 0x0⟩
abbrev F.GRP_MEMBER_EG_TA : Fld := ⟨0, 24, .rw, 0x0⟩
-- GRP_MSTATE (07-13)
abbrev F.GRP_MSTATE_VLOM : Fld := ⟨31, 1, .ro, 0x0⟩
abbrev F.GRP_MSTATE_SQM : Fld := ⟨30, 1, .ro, 0x0⟩
abbrev F.GRP_MSTATE_LOA : Fld := ⟨29, 1, .ro, 0x0⟩
abbrev F.GRP_MSTATE_PATH_FAIL : Fld := ⟨28, 1, .ro, 0x0⟩
abbrev F.GRP_MSTATE_SINK : Fld := ⟨26, 2, .ro, 0x0⟩
abbrev F.GRP_MSTATE_SRC : Fld := ⟨23, 3, .ro, 0x0⟩
abbrev F.GRP_MSTATE_ADD_FAIL : Fld := ⟨22, 1, .ro, 0x0⟩
abbrev F.GRP_MSTATE_SQ_ACC : Fld := ⟨14, 8, .ro, 0x0⟩
abbrev F.GRP_MSTATE_LEAD : Fld := ⟨0, 12, .ro, 0x0⟩
-- GRP_GSTATE (07-13)
abbrev F.GRP_GSTATE_STATE : Fld := ⟨30, 2, .ro, 0x0⟩
abbrev F.GRP_GSTATE_FAILED : Fld := ⟨29, 1, .ro, 0x0⟩
abbrev F.GRP_GSTATE_LOA : Fld := ⟨28, 1, .ro, 0x0⟩
abbrev F.GRP_GSTATE_GIDM : Fld := ⟨27, 1, .ro, 0x0⟩
abbrev F.GRP_GSTATE_ALIGNED : Fld := ⟨26, 1, .ro, 0x0⟩
abbrev F.GRP_GSTATE_CARRYING : Fld := ⟨17, 9, .ro, 0x0⟩
abbrev F.GRP_GSTATE_SPREAD : Fld := ⟨0, 12, .ro, 0x0⟩
-- GRP_DESKEW_FREE (07-14)
abbrev F.GRP_DESKEW_FREE_PAGES : Fld := ⟨0, 23, .ro, 0x0⟩
-- GRP_DESKEW_TOTAL (07-14)
abbrev F.GRP_DESKEW_TOTAL_PAGES : Fld := ⟨0, 23, .ro, 0x0⟩
-- GRP_DESKEW_REQ (07-14)
abbrev F.GRP_DESKEW_REQ_PAGES : Fld := ⟨0, 23, .ro, 0x0⟩
-- GRP_COUNT (07-14)
abbrev F.GRP_COUNT_GROUPS : Fld := ⟨16, 11, .ro, 0x0⟩
-- GRP_CHANGED (07-14)
abbrev F.GRP_CHANGED_CHANGED : Fld := ⟨0, 32, .rw1c, 0x0⟩
-- GRP_CRC_LO (07-14)
abbrev F.GRP_CRC_LO_COUNT : Fld := ⟨0, 32, .ro, 0x0⟩
-- GRP_CRC_HI (07-14)
abbrev F.GRP_CRC_HI_COUNT : Fld := ⟨0, 16, .ro, 0x0⟩
-- MSP_CFG (08-14)
abbrev F.MSP_CFG_ARCH : Fld := ⟨30, 1, .rw, 0x0⟩
abbrev F.MSP_CFG_DIR : Fld := ⟨29, 1, .rw, 0x0⟩
abbrev F.MSP_CFG_REVERT : Fld := ⟨28, 1, .rw, 0x0⟩
abbrev F.MSP_CFG_EXTRA : Fld := ⟨27, 1, .rw, 0x0⟩
abbrev F.MSP_CFG_N : Fld := ⟨23, 4, .rw, 0x1⟩
abbrev F.MSP_CFG_PROT : Fld := ⟨19, 4, .rw, 0x0⟩
abbrev F.MSP_CFG_HOLDOFF : Fld := ⟨12, 7, .rw, 0x0⟩
abbrev F.MSP_CFG_WTR : Fld := ⟨4, 8, .rw, 0x1e⟩
-- MSP_CHAN0 (08-14)
abbrev F.MSP_CHAN0_CH1_TO_CH8 : Fld := ⟨0, 32, .rw, 0x0⟩
-- MSP_CHAN1 (08-14)
abbrev F.MSP_CHAN1_CH9_TO_CH14 : Fld := ⟨0, 24, .rw, 0x0⟩
-- MSP_PRIO (08-14)
abbrev F.MSP_PRIO_HIGH : Fld := ⟨1, 14, .rw, 0x3fff⟩
-- MSP_CMD (08-15)
abbrev F.MSP_CMD_GO : Fld := ⟨31, 1, .wo, 0x0⟩
abbrev F.MSP_CMD_OP : Fld := ⟨29, 2, .rw, 0x0⟩
-- MSP_STATUS (08-15)
abbrev F.MSP_STATUS_STATE : Fld := ⟨30, 2, .ro, 0x0⟩
abbrev F.MSP_STATUS_CODE : Fld := ⟨24, 6, .ro, 0x0⟩
abbrev F.MSP_STATUS_WR_REJ : Fld := ⟨23, 1, .rw1c, 0x0⟩
abbrev F.MSP_STATUS_FOP_PM : Fld := ⟨22, 1, .ro, 0x0⟩
abbrev F.MSP_STATUS_FOP_CM : Fld := ⟨21, 1, .ro, 0x0⟩
abbrev F.MSP_STATUS_FOP_IV : Fld := ⟨20, 1, .ro, 0x0⟩
abbrev F.MSP_STATUS_UNI_FALLBACK : Fld := ⟨19, 1, .ro, 0x0⟩
abbrev F.MSP_STATUS_SEL_CHAN : Fld := ⟨15, 4, .ro, 0x0⟩
abbrev F.MSP_STATUS_BRIDGE_CHAN : Fld := ⟨11, 4, .ro, 0x0⟩
abbrev F.MSP_STATUS_EXT_CMD : Fld := ⟨8, 3, .ro, 0x0⟩
abbrev F.MSP_STATUS_EXT_CHAN : Fld := ⟨4, 4, .ro, 0x0⟩
abbrev F.MSP_STATUS_EXER_RESULT : Fld := ⟨2, 2, .ro, 0x0⟩
abbrev F.MSP_STATUS_CMD_DROPPED : Fld := ⟨1, 1, .rw1c, 0x0⟩
-- MSP_APS (08-16)
abbrev F.MSP_APS_K1_TX : Fld := ⟨24, 8, .ro, 0x0⟩
abbrev F.MSP_APS_K2_TX : Fld := ⟨16, 8, .ro, 0x0⟩
abbrev F.MSP_APS_K1_RX : Fld := ⟨8, 8, .ro, 0x0⟩
abbrev F.MSP_APS_K2_RX : Fld := ⟨0, 8, .ro, 0x0⟩
-- MSP_REQ (08-16)
abbrev F.MSP_REQ_LOCAL_REQ : Fld := ⟨28, 4, .ro, 0x0⟩
abbrev F.MSP_REQ_LOCAL_CHAN : Fld := ⟨24, 4, .ro, 0x0⟩
abbrev F.MSP_REQ_REMOTE_REQ : Fld := ⟨20, 4, .ro, 0x0⟩
abbrev F.MSP_REQ_REMOTE_CHAN : Fld := ⟨16, 4, .ro, 0x0⟩
abbrev F.MSP_REQ_WIN_REQ : Fld := ⟨12, 4, .ro, 0x0⟩
abbrev F.MSP_REQ_WIN_CHAN : Fld := ⟨8, 4, .ro, 0x0⟩
-- MSP_LOCKW (08-16)
abbrev F.MSP_LOCKW_LOCKED : Fld := ⟨1, 14, .ro, 0x0⟩
-- MSP_TIMER (08-16)
abbrev F.MSP_TIMER_HOLD_LEFT : Fld := ⟨16, 8, .ro, 0x0⟩
abbrev F.MSP_TIMER_WTR_LEFT : Fld := ⟨0, 12, .ro, 0x0⟩
-- MSP_COND (08-16)
abbrev F.MSP_COND_SD : Fld := ⟨16, 15, .ro, 0x0⟩
abbrev F.MSP_COND_SF : Fld := ⟨0, 15, .ro, 0x0⟩
-- MSP_SW_LO (08-16)
abbrev F.MSP_SW_LO_COUNT : Fld := ⟨0, 32, .ro, 0x0⟩
-- MSP_SW_HI (08-16)
abbrev F.MSP_SW_HI_COUNT : Fld := ⟨0, 16, .ro, 0x0⟩
-- SNCP_IND_CTRL (08-17)
abbrev F.SNCP_IND_CTRL_GO : Fld := ⟨31, 1, .wo, 0x0⟩
abbrev F.SNCP_IND_CTRL_AU3 : Fld := ⟨24, 1, .rw, 0x0⟩
abbrev F.SNCP_IND_CTRL_TA : Fld := ⟨0, 24, .rw, 0x0⟩
-- SNCP_IND_STATUS (08-17)
abbrev F.SNCP_IND_STATUS_DONE : Fld := ⟨31, 1, .rw1c, 0x0⟩
abbrev F.SNCP_IND_STATUS_ERR : Fld := ⟨30, 1, .rw1c, 0x0⟩
-- SNCP_IND_DATA0 (08-17)
abbrev F.SNCP_IND_DATA0_REQ : Fld := ⟨28, 4, .ro, 0x0⟩
abbrev F.SNCP_IND_DATA0_ALT : Fld := ⟨27, 1, .ro, 0x0⟩
abbrev F.SNCP_IND_DATA0_COND : Fld := ⟨23, 4, .ro, 0x0⟩
abbrev F.SNCP_IND_DATA0_EXT_CMD : Fld := ⟨20, 3, .ro, 0x0⟩
abbrev F.SNCP_IND_DATA0_CMD_DROPPED : Fld := ⟨19, 1, .ro, 0x0⟩
-- SNCP_IND_DATA1 (08-17)
abbrev F.SNCP_IND_DATA1_HOLD_LEFT : Fld := ⟨16, 8, .ro, 0x0⟩
abbrev F.SNCP_IND_DATA1_WTR_LEFT : Fld := ⟨0, 12, .ro, 0x0⟩
-- SNCP_LOG_STATUS (08-17)
abbrev F.SNCP_LOG_STATUS_COUNT : Fld := ⟨0, 10, .ro, 0x0⟩
-- SNCP_LOG_DATA0 (08-17)
abbrev F.SNCP_LOG_DATA0_VALID : Fld := ⟨31, 1, .ro, 0x0⟩
abbrev F.SNCP_LOG_DATA0_ALT : Fld := ⟨30, 1, .ro, 0x0⟩
abbrev F.SNCP_LOG_DATA0_REASON : Fld := ⟨26, 4, .ro, 0x0⟩
abbrev F.SNCP_LOG_DATA0_AU3 : Fld := ⟨24, 1, .ro, 0x0⟩
abbrev F.SNCP_LOG_DATA0_TA : Fld := ⟨0, 24, .ro, 0x0⟩
-- SNCP_LOG_DATA1 (08-17)
abbrev F.SNCP_LOG_DATA1_FN : Fld := ⟨0, 32, .ro, 0x0⟩
-- SNCP_LOG_DATA2 (08-17)
abbrev F.SNCP_LOG_DATA2_NS : Fld := ⟨0, 17, .ro, 0x0⟩
-- SNCP_LOG_LOST_LO (08-17)
abbrev F.SNCP_LOG_LOST_LO_COUNT : Fld := ⟨0, 32, .ro, 0x0⟩
-- SNCP_LOG_LOST_HI (08-17)
abbrev F.SNCP_LOG_LOST_HI_COUNT : Fld := ⟨0, 32, .ro, 0x0⟩
-- MRG_STATUS (08-18)
abbrev F.MRG_STATUS_ACTIVE : Fld := ⟨31, 1, .ro, 0x0⟩
abbrev F.MRG_STATUS_PARTNER : Fld := ⟨26, 5, .ro, 0x0⟩
abbrev F.MRG_STATUS_FEED_S_OK : Fld := ⟨25, 1, .ro, 0x0⟩
abbrev F.MRG_STATUS_FEED_A_OK : Fld := ⟨24, 1, .ro, 0x0⟩
abbrev F.MRG_STATUS_OOW_S : Fld := ⟨23, 1, .rw1c, 0x0⟩
abbrev F.MRG_STATUS_OOW_A : Fld := ⟨22, 1, .rw1c, 0x0⟩
-- MRG_SKEW (08-18)
abbrev F.MRG_SKEW_SKEW : Fld := ⟨0, 24, .ro, 0x0⟩
-- MRG_INV_S_LO (08-18)
abbrev F.MRG_INV_S_LO_COUNT : Fld := ⟨0, 32, .ro, 0x0⟩
-- MRG_INV_S_HI (08-18)
abbrev F.MRG_INV_S_HI_COUNT : Fld := ⟨0, 16, .ro, 0x0⟩
-- MRG_INV_A_LO (08-18)
abbrev F.MRG_INV_A_LO_COUNT : Fld := ⟨0, 32, .ro, 0x0⟩
-- MRG_INV_A_HI (08-18)
abbrev F.MRG_INV_A_HI_COUNT : Fld := ⟨0, 16, .ro, 0x0⟩
-- MRG_OOW_LO (08-18)
abbrev F.MRG_OOW_LO_COUNT : Fld := ⟨0, 32, .ro, 0x0⟩
-- MRG_OOW_HI (08-18)
abbrev F.MRG_OOW_HI_COUNT : Fld := ⟨0, 16, .ro, 0x0⟩
-- PAIR_CTRL (09-8)
abbrev F.PAIR_CTRL_HO_LEAD : Fld := ⟨12, 4, .rw, 0x3⟩
abbrev F.PAIR_CTRL_SHADOW_EN : Fld := ⟨2, 1, .rw, 0x1⟩
abbrev F.PAIR_CTRL_ALIGN_EN : Fld := ⟨1, 1, .rw, 0x1⟩
abbrev F.PAIR_CTRL_SW_OK : Fld := ⟨0, 1, .rw, 0x0⟩
-- PAIR_STATUS (09-8)
abbrev F.PAIR_STATUS_ROLE : Fld := ⟨30, 2, .ro, 0x0⟩
abbrev F.PAIR_STATUS_SIDE : Fld := ⟨29, 1, .ro, 0x0⟩
abbrev F.PAIR_STATUS_ARB_SEL : Fld := ⟨28, 1, .ro, 0x0⟩
abbrev F.PAIR_STATUS_YOKE_LOW : Fld := ⟨27, 1, .ro, 0x0⟩
abbrev F.PAIR_STATUS_YOKE_HELD : Fld := ⟨26, 1, .ro, 0x0⟩
abbrev F.PAIR_STATUS_HEALTH : Fld := ⟨25, 1, .ro, 0x0⟩
abbrev F.PAIR_STATUS_MATE_UP : Fld := ⟨24, 1, .ro, 0x0⟩
abbrev F.PAIR_STATUS_MATE_ACTIVE : Fld := ⟨23, 1, .ro, 0x0⟩
abbrev F.PAIR_STATUS_ALIGNED : Fld := ⟨22, 1, .ro, 0x0⟩
abbrev F.PAIR_STATUS_HO_STATE : Fld := ⟨20, 2, .ro, 0x0⟩
-- PAIR_HO_FN (09-9)
abbrev F.PAIR_HO_FN_FN : Fld := ⟨0, 32, .ro, 0x0⟩
-- PAIR_OFFSET (09-9)
abbrev F.PAIR_OFFSET_DELTA : Fld := ⟨0, 32, .ro, 0x0⟩
-- PAIR_HEALTH_CAUSE (09-9)
abbrev F.PAIR_HEALTH_CAUSE_CAUSE : Fld := ⟨0, 5, .ro, 0x19⟩
-- PAIR_MATE_DLY (09-9)
abbrev F.PAIR_MATE_DLY_D_TX : Fld := ⟨16, 16, .rw, 0x0⟩
abbrev F.PAIR_MATE_DLY_D_RX : Fld := ⟨0, 16, .rw, 0x0⟩
-- PAIR_SHADOW_LU (09-9)
abbrev F.PAIR_SHADOW_LU_LU : Fld := ⟨0, 7, .ro, 0x0⟩
-- PAIR_LU_DLY (09-10)
abbrev F.PAIR_LU_DLY_DLY : Fld := ⟨16, 16, .rw, 0x0⟩
abbrev F.PAIR_LU_DLY_MATE_DLY : Fld := ⟨0, 16, .ro, 0x0⟩
-- PAIR_HO_PLANNED_LO (09-10)
abbrev F.PAIR_HO_PLANNED_LO_COUNT : Fld := ⟨0, 32, .ro, 0x0⟩
-- PAIR_HO_PLANNED_HI (09-10)
abbrev F.PAIR_HO_PLANNED_HI_COUNT : Fld := ⟨0, 16, .ro, 0x0⟩
-- PAIR_HO_UNPLANNED_LO (09-10)
abbrev F.PAIR_HO_UNPLANNED_LO_COUNT : Fld := ⟨0, 32, .ro, 0x0⟩
-- PAIR_HO_UNPLANNED_HI (09-10)
abbrev F.PAIR_HO_UNPLANNED_HI_COUNT : Fld := ⟨0, 16, .ro, 0x0⟩
-- PAIR_SHADOW_MISS_LO (09-10)
abbrev F.PAIR_SHADOW_MISS_LO_COUNT : Fld := ⟨0, 32, .ro, 0x0⟩
-- PAIR_SHADOW_MISS_HI (09-10)
abbrev F.PAIR_SHADOW_MISS_HI_COUNT : Fld := ⟨0, 16, .ro, 0x0⟩
-- LU_TG_CTRL (09-11)
abbrev F.LU_TG_CTRL_BLK_THR : Fld := ⟨0, 8, .rw, 0x10⟩
-- LU_TG_STATUS (09-11)
abbrev F.LU_TG_STATUS_CAP_NEW : Fld := ⟨6, 1, .ro, 0x0⟩
abbrev F.LU_TG_STATUS_VOID_RX : Fld := ⟨5, 1, .ro, 0x0⟩
abbrev F.LU_TG_STATUS_BLK_EXC : Fld := ⟨4, 1, .ro, 0x0⟩
abbrev F.LU_TG_STATUS_FN_SKEW : Fld := ⟨3, 1, .ro, 0x0⟩
abbrev F.LU_TG_STATUS_HDR_ERR : Fld := ⟨2, 1, .ro, 0x0⟩
abbrev F.LU_TG_STATUS_FAILED : Fld := ⟨1, 1, .ro, 0x0⟩
-- LU_TG_STICKY (09-11)
abbrev F.LU_TG_STICKY_CAP_NEW : Fld := ⟨6, 1, .rw1c, 0x0⟩
abbrev F.LU_TG_STICKY_VOID_RX : Fld := ⟨5, 1, .rw1c, 0x0⟩
abbrev F.LU_TG_STICKY_BLK_EXC : Fld := ⟨4, 1, .rw1c, 0x0⟩
abbrev F.LU_TG_STICKY_FN_SKEW : Fld := ⟨3, 1, .rw1c, 0x0⟩
abbrev F.LU_TG_STICKY_HDR_ERR : Fld := ⟨2, 1, .rw1c, 0x0⟩
abbrev F.LU_TG_STICKY_FAILED : Fld := ⟨1, 1, .rw1c, 0x0⟩
-- LU_TG_EVMASK (09-11)
abbrev F.LU_TG_EVMASK_CAP_NEW : Fld := ⟨6, 1, .rw, 0x0⟩
abbrev F.LU_TG_EVMASK_VOID_RX : Fld := ⟨5, 1, .rw, 0x1⟩
abbrev F.LU_TG_EVMASK_BLK_EXC : Fld := ⟨4, 1, .rw, 0x1⟩
abbrev F.LU_TG_EVMASK_FN_SKEW : Fld := ⟨3, 1, .rw, 0x1⟩
abbrev F.LU_TG_EVMASK_HDR_ERR : Fld := ⟨2, 1, .rw, 0x1⟩
abbrev F.LU_TG_EVMASK_FAILED : Fld := ⟨1, 1, .rw, 0x1⟩
-- LU_TG_RX0 (09-11)
abbrev F.LU_TG_RX0_FN : Fld := ⟨0, 32, .ro, 0x0⟩
-- LU_TG_RX1 (09-11)
abbrev F.LU_TG_RX1_FLAGS : Fld := ⟨24, 8, .ro, 0x0⟩
abbrev F.LU_TG_RX1_SRC : Fld := ⟨16, 8, .ro, 0x0⟩
-- LU_TG_RX2 (09-11)
abbrev F.LU_TG_RX2_CAP : Fld := ⟨0, 32, .ro, 0x0⟩
-- LU_TG_BLK_LO (09-11)
abbrev F.LU_TG_BLK_LO_COUNT : Fld := ⟨0, 32, .ro, 0x0⟩
-- LU_TG_BLK_HI (09-11)
abbrev F.LU_TG_BLK_HI_COUNT : Fld := ⟨0, 16, .ro, 0x0⟩
-- LU_TG_HDR_LO (09-11)
abbrev F.LU_TG_HDR_LO_COUNT : Fld := ⟨0, 32, .ro, 0x0⟩
-- LU_TG_HDR_HI (09-11)
abbrev F.LU_TG_HDR_HI_COUNT : Fld := ⟨0, 16, .ro, 0x0⟩
-- LU_TG_VOID_LO (09-11)
abbrev F.LU_TG_VOID_LO_COUNT : Fld := ⟨0, 32, .ro, 0x0⟩
-- LU_TG_VOID_HI (09-11)
abbrev F.LU_TG_VOID_HI_COUNT : Fld := ⟨0, 16, .ro, 0x0⟩
-- TIME_CTRL (10-11)
abbrev F.TIME_CTRL_DISPUTE_LIM : Fld := ⟨16, 10, .rw, 0x14⟩
abbrev F.TIME_CTRL_HOLD_QL : Fld := ⟨12, 4, .rw, 0xb⟩
abbrev F.TIME_CTRL_NOQL_S1 : Fld := ⟨8, 4, .rw, 0xf⟩
abbrev F.TIME_CTRL_QL_OPT : Fld := ⟨1, 1, .rw, 0x0⟩
abbrev F.TIME_CTRL_QL_EN : Fld := ⟨0, 1, .rw, 0x1⟩
-- TIME_STATUS (10-12)
abbrev F.TIME_STATUS_MAIN_STATE : Fld := ⟨29, 3, .ro, 0x0⟩
abbrev F.TIME_STATUS_SWITCHING : Fld := ⟨28, 1, .ro, 0x0⟩
abbrev F.TIME_STATUS_HIST_VALID : Fld := ⟨27, 1, .ro, 0x0⟩
abbrev F.TIME_STATUS_MAIN_REF : Fld := ⟨19, 5, .ro, 0x1f⟩
abbrev F.TIME_STATUS_MAIN_QL : Fld := ⟨15, 4, .ro, 0x0⟩
abbrev F.TIME_STATUS_STN_STATE : Fld := ⟨12, 3, .ro, 0x0⟩
abbrev F.TIME_STATUS_AUX_STATE : Fld := ⟨9, 3, .ro, 0x0⟩
abbrev F.TIME_STATUS_TB_LOCK : Fld := ⟨8, 1, .ro, 0x0⟩
-- TIME_MAIN_CFG (10-13)
abbrev F.TIME_MAIN_CFG_BW : Fld := ⟨29, 3, .rw, 0x2⟩
abbrev F.TIME_MAIN_CFG_FSLEW : Fld := ⟨16, 11, .rw, 0x3e8⟩
abbrev F.TIME_MAIN_CFG_HIST_GUARD : Fld := ⟨12, 4, .rw, 0x1⟩
abbrev F.TIME_MAIN_CFG_HIST_WIN : Fld := ⟨0, 12, .rw, 0x3c⟩
-- TIME_MAIN_CMD (10-13)
abbrev F.TIME_MAIN_CMD_CMD : Fld := ⟨5, 3, .rw, 0x0⟩
abbrev F.TIME_MAIN_CMD_REF : Fld := ⟨0, 5, .rw, 0x0⟩
-- TIME_MAIN_HOLD (10-13)
abbrev F.TIME_MAIN_HOLD_HOLD_FREQ : Fld := ⟨0, 32, .ro, 0x0⟩
-- TIME_MAIN_PHASE (10-13)
abbrev F.TIME_MAIN_PHASE_PHASE : Fld := ⟨0, 32, .ro, 0x0⟩
-- TIME_MAIN_FREQ (10-13)
abbrev F.TIME_MAIN_FREQ_FREQ : Fld := ⟨0, 32, .ro, 0x0⟩
-- TIME_STN_CFG (10-14)
abbrev F.TIME_STN_CFG_SRC : Fld := ⟨11, 5, .rw, 0x10⟩
abbrev F.TIME_STN_CFG_BW : Fld := ⟨8, 3, .rw, 0x0⟩
abbrev F.TIME_STN_CFG_QL_MIN : Fld := ⟨0, 4, .rw, 0xb⟩
-- TIME_AUX_CFG (10-14)
abbrev F.TIME_AUX_CFG_SRC : Fld := ⟨11, 5, .rw, 0x10⟩
abbrev F.TIME_AUX_CFG_BW : Fld := ⟨8, 3, .rw, 0x2⟩
-- TIME_STN_OUT (10-14)
abbrev F.TIME_STN_OUT_ENABLE : Fld := ⟨31, 1, .rw, 0x0⟩
abbrev F.TIME_STN_OUT_DRIVER : Fld := ⟨30, 1, .rw, 0x0⟩
abbrev F.TIME_STN_OUT_SQUELCH_EN : Fld := ⟨29, 1, .rw, 0x1⟩
abbrev F.TIME_STN_OUT_SQUELCHED : Fld := ⟨28, 1, .ro, 0x0⟩
abbrev F.TIME_STN_OUT_FREQ : Fld := ⟨0, 4, .rw, 0x2⟩
-- TIME_SYNC_CTRL (10-15)
abbrev F.TIME_SYNC_CTRL_ALIGN : Fld := ⟨31, 1, .wo, 0x0⟩
abbrev F.TIME_SYNC_CTRL_SET_SEC : Fld := ⟨30, 1, .wo, 0x0⟩
abbrev F.TIME_SYNC_CTRL_OUT_MODE : Fld := ⟨28, 2, .rw, 0x1⟩
abbrev F.TIME_SYNC_CTRL_IN_MODE : Fld := ⟨26, 2, .rw, 0x0⟩
abbrev F.TIME_SYNC_CTRL_WIN : Fld := ⟨16, 10, .rw, 0xa⟩
-- TIME_SYNC_STATUS (10-15)
abbrev F.TIME_SYNC_STATUS_ALIGN_PEND : Fld := ⟨31, 1, .ro, 0x0⟩
abbrev F.TIME_SYNC_STATUS_SET_PEND : Fld := ⟨30, 1, .ro, 0x0⟩
abbrev F.TIME_SYNC_STATUS_REJ : Fld := ⟨29, 1, .rw1c, 0x0⟩
abbrev F.TIME_SYNC_STATUS_SYNC_LOS : Fld := ⟨28, 1, .ro, 0x0⟩
abbrev F.TIME_SYNC_STATUS_SYNC_ERR : Fld := ⟨27, 1, .ro, 0x0⟩
abbrev F.TIME_SYNC_STATUS_MISS : Fld := ⟨0, 8, .ro, 0x0⟩
-- TIME_SYNC_OFS (10-15)
abbrev F.TIME_SYNC_OFS_OFS : Fld := ⟨0, 32, .ro, 0x0⟩
-- TIME_TB_W0 (10-16)
abbrev F.TIME_TB_W0_NS_LO : Fld := ⟨18, 14, .ro, 0x0⟩
abbrev F.TIME_TB_W0_SUBNS : Fld := ⟨8, 10, .ro, 0x0⟩
-- TIME_TB_W1 (10-16)
abbrev F.TIME_TB_W1_SEC_LO : Fld := ⟨16, 16, .ro, 0x0⟩
abbrev F.TIME_TB_W1_NS_HI : Fld := ⟨0, 16, .ro, 0x0⟩
-- TIME_TB_W2 (10-16)
abbrev F.TIME_TB_W2_SEC_HI : Fld := ⟨0, 32, .ro, 0x0⟩
-- TIME_TB_FN (10-16)
abbrev F.TIME_TB_FN_FN : Fld := ⟨0, 32, .ro, 0x0⟩
-- TIME_TB_SET_LO (10-16)
abbrev F.TIME_TB_SET_LO_SEC_LO : Fld := ⟨0, 32, .rw, 0x0⟩
-- TIME_TB_SET_HI (10-16)
abbrev F.TIME_TB_SET_HI_SEC_HI : Fld := ⟨0, 16, .rw, 0x0⟩
-- TIME_REF_CFG0 (10-17)
abbrev F.TIME_REF_CFG0_ENABLE : Fld := ⟨31, 1, .rw, 0x0⟩
abbrev F.TIME_REF_CFG0_LOCKOUT : Fld := ⟨30, 1, .rw, 0x0⟩
abbrev F.TIME_REF_CFG0_PRIORITY : Fld := ⟨26, 4, .rw, 0x0⟩
abbrev F.TIME_REF_CFG0_QL_SRC : Fld := ⟨25, 1, .rw, 0x0⟩
abbrev F.TIME_REF_CFG0_QL_CFG : Fld := ⟨21, 4, .rw, 0xf⟩
abbrev F.TIME_REF_CFG0_LU : Fld := ⟨14, 7, .rw, 0x0⟩
abbrev F.TIME_REF_CFG0_FREQ : Fld := ⟨10, 4, .rw, 0x2⟩
abbrev F.TIME_REF_CFG0_WTR : Fld := ⟨0, 10, .rw, 0x12c⟩
-- TIME_REF_CFG1 (10-17)
abbrev F.TIME_REF_CFG1_REJECT : Fld := ⟨22, 10, .rw, 0x78⟩
abbrev F.TIME_REF_CFG1_ACCEPT : Fld := ⟨12, 10, .rw, 0x5c⟩
abbrev F.TIME_REF_CFG1_ACT_N : Fld := ⟨4, 8, .rw, 0x4⟩
abbrev F.TIME_REF_CFG1_GATE : Fld := ⟨0, 2, .rw, 0x1⟩
-- TIME_REF_STATUS (10-17)
abbrev F.TIME_REF_STATUS_QSTATE : Fld := ⟨30, 2, .ro, 0x0⟩
abbrev F.TIME_REF_STATUS_ACTIVE : Fld := ⟨29, 1, .ro, 0x0⟩
abbrev F.TIME_REF_STATUS_IN_ACCEPT : Fld := ⟨28, 1, .ro, 0x0⟩
abbrev F.TIME_REF_STATUS_SELECTABLE : Fld := ⟨27, 1, .ro, 0x0⟩
abbrev F.TIME_REF_STATUS_DISPUTED : Fld := ⟨26, 1, .ro, 0x0⟩
abbrev F.TIME_REF_STATUS_QL_EFF : Fld := ⟨22, 4, .ro, 0xf⟩
abbrev F.TIME_REF_STATUS_QL_INV : Fld := ⟨21, 1, .ro, 0x0⟩
abbrev F.TIME_REF_STATUS_WTR_LEFT : Fld := ⟨0, 10, .ro, 0x0⟩
-- TIME_REF_FOFF (10-17)
abbrev F.TIME_REF_FOFF_FOFF : Fld := ⟨0, 32, .ro, 0x0⟩
-- PM_CTRL (11-5)
abbrev F.PM_CTRL_DAY_OFS : Fld := ⟨0, 7, .rw, 0x0⟩
-- PM_CAP (11-5)
abbrev F.PM_CAP_SLOTS : Fld := ⟨0, 18, .ro, 0x0⟩
-- PM_USED (11-5)
abbrev F.PM_USED_SLOTS : Fld := ⟨0, 18, .ro, 0x0⟩
-- PM_LAST_Q (11-5)
abbrev F.PM_LAST_Q_Q : Fld := ⟨0, 32, .ro, 0x0⟩
-- PM_LAST_D (11-5)
abbrev F.PM_LAST_D_D : Fld := ⟨0, 32, .ro, 0x0⟩
-- PM_NOSLOT_LO (11-5)
abbrev F.PM_NOSLOT_LO_COUNT : Fld := ⟨0, 32, .ro, 0x0⟩
-- PM_NOSLOT_HI (11-5)
abbrev F.PM_NOSLOT_HI_COUNT : Fld := ⟨0, 32, .ro, 0x0⟩
-- PM_IND_CTRL (11-6)
abbrev F.PM_IND_CTRL_GO : Fld := ⟨31, 1, .wo, 0x0⟩
abbrev F.PM_IND_CTRL_OP : Fld := ⟨28, 3, .rw, 0x0⟩
abbrev F.PM_IND_CTRL_LAYER : Fld := ⟨26, 2, .rw, 0x0⟩
abbrev F.PM_IND_CTRL_AU3 : Fld := ⟨24, 1, .rw, 0x0⟩
abbrev F.PM_IND_CTRL_TA : Fld := ⟨0, 24, .rw, 0x0⟩
-- PM_IND_CFG (11-6)
abbrev F.PM_IND_CFG_PROFILE : Fld := ⟨29, 3, .rw, 0x0⟩
abbrev F.PM_IND_CFG_TCA_EN : Fld := ⟨28, 1, .rw, 0x0⟩
abbrev F.PM_IND_CFG_BIDIR : Fld := ⟨27, 1, .rw, 0x1⟩
-- PM_IND_STATUS (11-6)
abbrev F.PM_IND_STATUS_DONE : Fld := ⟨31, 1, .rw1c, 0x0⟩
abbrev F.PM_IND_STATUS_BUSY : Fld := ⟨30, 1, .ro, 0x0⟩
abbrev F.PM_IND_STATUS_CODE : Fld := ⟨26, 4, .ro, 0x0⟩
abbrev F.PM_IND_STATUS_SLOT : Fld := ⟨0, 18, .ro, 0x0⟩
-- PM_IND_DATA (11-6)
abbrev F.PM_IND_DATA_WORD : Fld := ⟨0, 32, .ro, 0x0⟩
-- PM_TCA_STATUS (11-7)
abbrev F.PM_TCA_STATUS_COUNT : Fld := ⟨0, 11, .ro, 0x0⟩
-- PM_TCA_DATA0 (11-7)
abbrev F.PM_TCA_DATA0_VALID : Fld := ⟨31, 1, .ro, 0x0⟩
abbrev F.PM_TCA_DATA0_PARAM : Fld := ⟨27, 4, .ro, 0x0⟩
abbrev F.PM_TCA_DATA0_LAYER : Fld := ⟨25, 2, .ro, 0x0⟩
abbrev F.PM_TCA_DATA0_AU3 : Fld := ⟨24, 1, .ro, 0x0⟩
abbrev F.PM_TCA_DATA0_TA : Fld := ⟨0, 24, .ro, 0x0⟩
-- PM_TCA_DATA1 (11-7)
abbrev F.PM_TCA_DATA1_BIN : Fld := ⟨0, 32, .ro, 0x0⟩
-- PM_TCA_DATA2 (11-7)
abbrev F.PM_TCA_DATA2_VALUE : Fld := ⟨0, 32, .ro, 0x0⟩
-- PM_TCA_PROF (11-7)
abbrev F.PM_TCA_PROF_THR : Fld := ⟨0, 32, .rw, 0x0⟩
-- PM_TCA_LOST_LO (11-7)
abbrev F.PM_TCA_LOST_LO_COUNT : Fld := ⟨0, 32, .ro, 0x0⟩
-- PM_TCA_LOST_HI (11-7)
abbrev F.PM_TCA_LOST_HI_COUNT : Fld := ⟨0, 32, .ro, 0x0⟩
-- SKIM_STATUS (12-13)
abbrev F.SKIM_STATUS_LIVE : Fld := ⟨24, 8, .ro, 0x0⟩
abbrev F.SKIM_STATUS_SOURCES : Fld := ⟨16, 8, .ro, 0x0⟩
abbrev F.SKIM_STATUS_RATE : Fld := ⟨0, 16, .ro, 0x0⟩
-- SKIM_TAP_CTRL (12-13)
abbrev F.SKIM_TAP_CTRL_GO : Fld := ⟨31, 1, .wo, 0x0⟩
abbrev F.SKIM_TAP_CTRL_OP : Fld := ⟨29, 2, .rw, 0x0⟩
abbrev F.SKIM_TAP_CTRL_JOB : Fld := ⟨26, 3, .rw, 0x0⟩
abbrev F.SKIM_TAP_CTRL_TAP : Fld := ⟨23, 3, .rw, 0x0⟩
abbrev F.SKIM_TAP_CTRL_COUNT : Fld := ⟨0, 20, .rw, 0x0⟩
-- SKIM_TAP_TA (12-13)
abbrev F.SKIM_TAP_TA_AU3 : Fld := ⟨24, 1, .rw, 0x0⟩
abbrev F.SKIM_TAP_TA_TA : Fld := ⟨0, 24, .rw, 0x0⟩
-- SKIM_TAP_STATUS (12-13)
abbrev F.SKIM_TAP_STATUS_DONE : Fld := ⟨31, 1, .rw1c, 0x0⟩
abbrev F.SKIM_TAP_STATUS_BUSY : Fld := ⟨30, 1, .ro, 0x0⟩
abbrev F.SKIM_TAP_STATUS_CODE : Fld := ⟨24, 6, .ro, 0x0⟩
abbrev F.SKIM_TAP_STATUS_INDEX : Fld := ⟨0, 20, .ro, 0x0⟩
-- SKIM_TAP_FETCH_LO (12-13)
abbrev F.SKIM_TAP_FETCH_LO_ADDR_LO : Fld := ⟨2, 30, .rw, 0x0⟩
-- SKIM_TAP_FETCH_HI (12-13)
abbrev F.SKIM_TAP_FETCH_HI_ADDR_HI : Fld := ⟨0, 5, .rw, 0x0⟩
-- SKIM_JOB_CMD (12-14)
abbrev F.SKIM_JOB_CMD_ASAP : Fld := ⟨9, 1, .wo, 0x0⟩
abbrev F.SKIM_JOB_CMD_OP : Fld := ⟨0, 3, .wo, 0x0⟩
-- SKIM_JOB_CFG (12-14)
abbrev F.SKIM_JOB_CFG_POLICY : Fld := ⟨31, 1, .rw, 0x0⟩
abbrev F.SKIM_JOB_CFG_TRIG : Fld := ⟨28, 3, .rw, 0x0⟩
abbrev F.SKIM_JOB_CFG_DRAIN_EN : Fld := ⟨27, 1, .rw, 0x0⟩
abbrev F.SKIM_JOB_CFG_DRAIN_PORT : Fld := ⟨25, 2, .rw, 0x0⟩
abbrev F.SKIM_JOB_CFG_STOP_FN_EN : Fld := ⟨24, 1, .rw, 0x0⟩
abbrev F.SKIM_JOB_CFG_FLUSH : Fld := ⟨0, 16, .rw, 0x0⟩
-- SKIM_JOB_STATUS (12-14)
abbrev F.SKIM_JOB_STATUS_STATE : Fld := ⟨29, 3, .ro, 0x0⟩
abbrev F.SKIM_JOB_STATUS_END_CAUSE : Fld := ⟨26, 3, .ro, 0x0⟩
abbrev F.SKIM_JOB_STATUS_CODE : Fld := ⟨20, 6, .ro, 0x0⟩
abbrev F.SKIM_JOB_STATUS_LATE_STOP : Fld := ⟨19, 1, .ro, 0x0⟩
abbrev F.SKIM_JOB_STATUS_OP_REFUSED : Fld := ⟨18, 1, .rw1c, 0x0⟩
abbrev F.SKIM_JOB_STATUS_DRAIN_HALT : Fld := ⟨17, 1, .ro, 0x0⟩
abbrev F.SKIM_JOB_STATUS_TRIGGERED : Fld := ⟨16, 1, .ro, 0x0⟩
abbrev F.SKIM_JOB_STATUS_TRIG_SRC : Fld := ⟨14, 2, .ro, 0x0⟩
-- SKIM_JOB_START_FN (12-15)
abbrev F.SKIM_JOB_START_FN_FN : Fld := ⟨0, 32, .rw, 0x0⟩
-- SKIM_JOB_STOP_FN (12-15)
abbrev F.SKIM_JOB_STOP_FN_FN : Fld := ⟨0, 32, .rw, 0x0⟩
-- SKIM_JOB_RING_LO (12-15)
abbrev F.SKIM_JOB_RING_LO_ADDR_LO : Fld := ⟨12, 20, .rw, 0x0⟩
-- SKIM_JOB_RING_HI (12-15)
abbrev F.SKIM_JOB_RING_HI_ADDR_HI : Fld := ⟨0, 5, .rw, 0x0⟩
-- SKIM_JOB_RING_SIZE (12-15)
abbrev F.SKIM_JOB_RING_SIZE_SIZE : Fld := ⟨0, 23, .rw, 0x0⟩
-- SKIM_JOB_PRE (12-15)
abbrev F.SKIM_JOB_PRE_PRE : Fld := ⟨0, 23, .rw, 0x0⟩
-- SKIM_JOB_POST (12-15)
abbrev F.SKIM_JOB_POST_POST : Fld := ⟨0, 23, .rw, 0x0⟩
-- SKIM_JOB_TRIG (12-15)
abbrev F.SKIM_JOB_TRIG_PARAM : Fld := ⟨0, 32, .rw, 0x0⟩
-- SKIM_JOB_WR (12-15)
abbrev F.SKIM_JOB_WR_COUNT : Fld := ⟨0, 32, .ro, 0x0⟩
-- SKIM_JOB_RD (12-15)
abbrev F.SKIM_JOB_RD_COUNT : Fld := ⟨0, 32, .rw, 0x0⟩
-- SKIM_JOB_TRIG_TS (12-16)
abbrev F.SKIM_JOB_TRIG_TS_TS : Fld := ⟨0, 32, .ro, 0x0⟩
-- SKIM_JOB_TRIG_SEQ (12-16)
abbrev F.SKIM_JOB_TRIG_SEQ_SEQ : Fld := ⟨0, 32, .ro, 0x0⟩
-- SKIM_JOB_DROP_LO (12-16)
abbrev F.SKIM_JOB_DROP_LO_COUNT : Fld := ⟨0, 32, .ro, 0x0⟩
-- SKIM_JOB_DROP_HI (12-16)
abbrev F.SKIM_JOB_DROP_HI_COUNT : Fld := ⟨0, 32, .ro, 0x0⟩
-- SKIM_JOB_OVER_LO (12-16)
abbrev F.SKIM_JOB_OVER_LO_COUNT : Fld := ⟨0, 32, .ro, 0x0⟩
-- SKIM_JOB_OVER_HI (12-16)
abbrev F.SKIM_JOB_OVER_HI_COUNT : Fld := ⟨0, 32, .ro, 0x0⟩
-- SKIM_JOB_DROPG_LO (12-16)
abbrev F.SKIM_JOB_DROPG_LO_COUNT : Fld := ⟨0, 32, .ro, 0x0⟩
-- SKIM_JOB_DROPG_HI (12-16)
abbrev F.SKIM_JOB_DROPG_HI_COUNT : Fld := ⟨0, 32, .ro, 0x0⟩
-- SKIM_JOB_LOAD (12-16)
abbrev F.SKIM_JOB_LOAD_SOURCES : Fld := ⟨24, 8, .ro, 0x0⟩
abbrev F.SKIM_JOB_LOAD_RATE : Fld := ⟨0, 16, .ro, 0x0⟩
-- SKIM_JOB_DQ_LO (12-17)
abbrev F.SKIM_JOB_DQ_LO_ADDR_LO : Fld := ⟨4, 28, .rw, 0x0⟩
-- SKIM_JOB_DQ_HI (12-17)
abbrev F.SKIM_JOB_DQ_HI_ADDR_HI : Fld := ⟨0, 5, .rw, 0x0⟩
-- SKIM_JOB_DQ_CTRL (12-17)
abbrev F.SKIM_JOB_DQ_CTRL_SIZE_LOG2 : Fld := ⟨0, 5, .rw, 0x4⟩
-- SKIM_JOB_DQ_POST (12-17)
abbrev F.SKIM_JOB_DQ_POST_COUNT : Fld := ⟨0, 32, .rw, 0x0⟩
-- SKIM_JOB_DQ_DONE (12-17)
abbrev F.SKIM_JOB_DQ_DONE_COUNT : Fld := ⟨0, 32, .ro, 0x0⟩
-- SKIM_PRBS_CTRL (12-17)
abbrev F.SKIM_PRBS_CTRL_GO : Fld := ⟨31, 1, .wo, 0x0⟩
abbrev F.SKIM_PRBS_CTRL_OP : Fld := ⟨29, 2, .rw, 0x0⟩
abbrev F.SKIM_PRBS_CTRL_INDEX : Fld := ⟨0, 13, .rw, 0x0⟩
-- SKIM_PRBS_CFG (12-17)
abbrev F.SKIM_PRBS_CFG_EN : Fld := ⟨31, 1, .rw, 0x0⟩
abbrev F.SKIM_PRBS_CFG_POLY : Fld := ⟨28, 3, .rw, 0x0⟩
abbrev F.SKIM_PRBS_CFG_INVERT : Fld := ⟨27, 1, .rw, 0x0⟩
abbrev F.SKIM_PRBS_CFG_TAP : Fld := ⟨24, 3, .rw, 0x0⟩
-- SKIM_PRBS_TA (12-17)
abbrev F.SKIM_PRBS_TA_AU3 : Fld := ⟨24, 1, .rw, 0x0⟩
abbrev F.SKIM_PRBS_TA_TA : Fld := ⟨0, 24, .rw, 0x0⟩
-- SKIM_PRBS_STATUS (12-17)
abbrev F.SKIM_PRBS_STATUS_DONE : Fld := ⟨31, 1, .rw1c, 0x0⟩
abbrev F.SKIM_PRBS_STATUS_BUSY : Fld := ⟨30, 1, .ro, 0x0⟩
abbrev F.SKIM_PRBS_STATUS_CODE : Fld := ⟨24, 6, .ro, 0x0⟩
-- SKIM_PRBS_DATA4 (12-17)
abbrev F.SKIM_PRBS_DATA4_LOSSES : Fld := ⟨16, 16, .ro, 0x0⟩
abbrev F.SKIM_PRBS_DATA4_ERR_WRAP : Fld := ⟨2, 1, .ro, 0x0⟩
abbrev F.SKIM_PRBS_DATA4_BITS_WRAP : Fld := ⟨1, 1, .ro, 0x0⟩
abbrev F.SKIM_PRBS_DATA4_SYNC : Fld := ⟨0, 1, .ro, 0x0⟩
-- SKIM_PRBS_DATA0 (12-17)
abbrev F.SKIM_PRBS_DATA0_BITS : Fld := ⟨0, 32, .ro, 0x0⟩
-- SKIM_PRBS_DATA1 (12-17)
abbrev F.SKIM_PRBS_DATA1_BITS : Fld := ⟨0, 16, .ro, 0x0⟩
-- SKIM_PRBS_DATA2 (12-17)
abbrev F.SKIM_PRBS_DATA2_ERRORS : Fld := ⟨0, 32, .ro, 0x0⟩
-- SKIM_PRBS_DATA3 (12-17)
abbrev F.SKIM_PRBS_DATA3_ERRORS : Fld := ⟨0, 16, .ro, 0x0⟩
-- SKIM_PRBS_CHANGED (R308)
abbrev F.SKIM_PRBS_CHANGED_CHANGED : Fld := ⟨0, 32, .rw1c, 0x0⟩
-- POUR_TGT_CTRL (R309)
abbrev F.POUR_TGT_CTRL_GO : Fld := ⟨31, 1, .wo, 0x0⟩
abbrev F.POUR_TGT_CTRL_OP : Fld := ⟨29, 2, .rw, 0x0⟩
abbrev F.POUR_TGT_CTRL_JOB : Fld := ⟨26, 3, .rw, 0x0⟩
abbrev F.POUR_TGT_CTRL_TAP : Fld := ⟨23, 3, .rw, 0x0⟩
abbrev F.POUR_TGT_CTRL_COUNT : Fld := ⟨0, 20, .rw, 0x0⟩
-- POUR_TGT_TA (R309)
abbrev F.POUR_TGT_TA_AU3 : Fld := ⟨24, 1, .rw, 0x0⟩
abbrev F.POUR_TGT_TA_TA : Fld := ⟨0, 24, .rw, 0x0⟩
-- POUR_TGT_STATUS (R309)
abbrev F.POUR_TGT_STATUS_DONE : Fld := ⟨31, 1, .rw1c, 0x0⟩
abbrev F.POUR_TGT_STATUS_BUSY : Fld := ⟨30, 1, .ro, 0x0⟩
abbrev F.POUR_TGT_STATUS_CODE : Fld := ⟨24, 6, .ro, 0x0⟩
abbrev F.POUR_TGT_STATUS_INDEX : Fld := ⟨0, 20, .ro, 0x0⟩
-- POUR_TGT_FETCH_LO (R309)
abbrev F.POUR_TGT_FETCH_LO_ADDR_LO : Fld := ⟨2, 30, .rw, 0x0⟩
-- POUR_TGT_FETCH_HI (R309)
abbrev F.POUR_TGT_FETCH_HI_ADDR_HI : Fld := ⟨0, 5, .rw, 0x0⟩
-- POUR_STATUS (12-19)
abbrev F.POUR_STATUS_LIVE : Fld := ⟨24, 8, .ro, 0x0⟩
abbrev F.POUR_STATUS_RATE : Fld := ⟨0, 16, .ro, 0x0⟩
-- POUR_JOB_CFG (12-19)
abbrev F.POUR_JOB_CFG_SOURCE : Fld := ⟨30, 2, .rw, 0x0⟩
abbrev F.POUR_JOB_CFG_FMT : Fld := ⟨28, 2, .rw, 0x0⟩
abbrev F.POUR_JOB_CFG_POLY : Fld := ⟨25, 3, .rw, 0x0⟩
abbrev F.POUR_JOB_CFG_INVERT : Fld := ⟨24, 1, .rw, 0x0⟩
abbrev F.POUR_JOB_CFG_OH_CALC : Fld := ⟨23, 1, .rw, 0x1⟩
abbrev F.POUR_JOB_CFG_FIXED : Fld := ⟨0, 8, .rw, 0x0⟩
-- POUR_JOB_LOOP (12-19)
abbrev F.POUR_JOB_LOOP_PLAYS : Fld := ⟨0, 32, .rw, 0x1⟩
-- POUR_JOB_START_FN (12-19)
abbrev F.POUR_JOB_START_FN_FN : Fld := ⟨0, 32, .rw, 0x0⟩
-- POUR_JOB_STATUS (12-19)
abbrev F.POUR_JOB_STATUS_STATE : Fld := ⟨29, 3, .ro, 0x0⟩
abbrev F.POUR_JOB_STATUS_END_CAUSE : Fld := ⟨26, 3, .ro, 0x0⟩
abbrev F.POUR_JOB_STATUS_CODE : Fld := ⟨20, 6, .ro, 0x0⟩
abbrev F.POUR_JOB_STATUS_LATE_STOP : Fld := ⟨19, 1, .ro, 0x0⟩
abbrev F.POUR_JOB_STATUS_OP_REFUSED : Fld := ⟨18, 1, .rw1c, 0x0⟩
abbrev F.POUR_JOB_STATUS_UNDERRUN : Fld := ⟨17, 1, .rw1c, 0x0⟩
-- POUR_JOB_PLAYED (12-19)
abbrev F.POUR_JOB_PLAYED_COUNT : Fld := ⟨0, 32, .ro, 0x0⟩
-- POUR_JOB_LOAD (12-19)
abbrev F.POUR_JOB_LOAD_TARGETS : Fld := ⟨18, 14, .ro, 0x0⟩
abbrev F.POUR_JOB_LOAD_RATE : Fld := ⟨0, 16, .ro, 0x0⟩
-- POUR_JOB_CMD (12-19)
abbrev F.POUR_JOB_CMD_ASAP : Fld := ⟨9, 1, .wo, 0x0⟩
abbrev F.POUR_JOB_CMD_OP : Fld := ⟨0, 3, .wo, 0x0⟩
-- POUR_JOB_UNDER_LO (12-19)
abbrev F.POUR_JOB_UNDER_LO_COUNT : Fld := ⟨0, 32, .ro, 0x0⟩
-- POUR_JOB_UNDER_HI (12-19)
abbrev F.POUR_JOB_UNDER_HI_COUNT : Fld := ⟨0, 32, .ro, 0x0⟩
-- POUR_JOB_PAT_LO (12-20)
abbrev F.POUR_JOB_PAT_LO_ADDR_LO : Fld := ⟨2, 30, .rw, 0x0⟩
-- POUR_JOB_PAT_HI (12-20)
abbrev F.POUR_JOB_PAT_HI_ADDR_HI : Fld := ⟨0, 5, .rw, 0x0⟩
-- POUR_JOB_PAT_LEN (12-20)
abbrev F.POUR_JOB_PAT_LEN_WORDS : Fld := ⟨0, 30, .rw, 0x0⟩
-- POUR_JOB_POH (12-20)
abbrev F.POUR_JOB_POH_OFFSET : Fld := ⟨22, 10, .rw, 0x0⟩
abbrev F.POUR_JOB_POH_J_64 : Fld := ⟨21, 1, .rw, 0x0⟩
abbrev F.POUR_JOB_POH_J_IDX : Fld := ⟨15, 6, .rw, 0x0⟩
abbrev F.POUR_JOB_POH_LABEL : Fld := ⟨0, 8, .rw, 0x1⟩
-- POUR_JOB_INJ (12-20)
abbrev F.POUR_JOB_INJ_ARM : Fld := ⟨31, 1, .rw, 0x0⟩
abbrev F.POUR_JOB_INJ_WHAT : Fld := ⟨27, 4, .rw, 0x0⟩
abbrev F.POUR_JOB_INJ_MODE : Fld := ⟨25, 2, .rw, 0x0⟩
abbrev F.POUR_JOB_INJ_BITS : Fld := ⟨0, 8, .rw, 0x1⟩
-- POUR_JOB_INJ_CNT (12-20)
abbrev F.POUR_JOB_INJ_CNT_PERIOD : Fld := ⟨16, 16, .rw, 0x1⟩
abbrev F.POUR_JOB_INJ_CNT_COUNT : Fld := ⟨0, 16, .rw, 0x1⟩
-- POUR_JOB_SCR_LO (12-20)
abbrev F.POUR_JOB_SCR_LO_ADDR_LO : Fld := ⟨2, 30, .rw, 0x0⟩
-- POUR_JOB_SCR_HI (12-20)
abbrev F.POUR_JOB_SCR_HI_ADDR_HI : Fld := ⟨0, 5, .rw, 0x0⟩
-- POUR_JOB_SCR_CTRL (12-20)
abbrev F.POUR_JOB_SCR_CTRL_SCR_EN : Fld := ⟨31, 1, .rw, 0x0⟩
abbrev F.POUR_JOB_SCR_CTRL_SCRIPT_DONE : Fld := ⟨30, 1, .ro, 0x0⟩
abbrev F.POUR_JOB_SCR_CTRL_STEP : Fld := ⟨16, 10, .ro, 0x0⟩
abbrev F.POUR_JOB_SCR_CTRL_STEPS : Fld := ⟨0, 11, .rw, 0x1⟩
-- WB_OWN (13-5)
abbrev F.WB_OWN_PRESENT : Fld := ⟨31, 1, .ro, 0x0⟩
abbrev F.WB_OWN_RETIRED : Fld := ⟨30, 1, .rws, 0x0⟩
abbrev F.WB_OWN_PENDING : Fld := ⟨29, 1, .ro, 0x0⟩
abbrev F.WB_OWN_ON_LOAN : Fld := ⟨28, 1, .ro, 0x0⟩
abbrev F.WB_OWN_LEND : Fld := ⟨27, 1, .rw, 0x0⟩
abbrev F.WB_OWN_CLAIM : Fld := ⟨26, 1, .wo, 0x0⟩
abbrev F.WB_OWN_URGENT : Fld := ⟨25, 1, .wo, 0x0⟩
abbrev F.WB_OWN_OWNER : Fld := ⟨0, 3, .rw, 0x0⟩
-- WB_STATUS (13-6)
abbrev F.WB_STATUS_OWN_REJ : Fld := ⟨31, 1, .rw1c, 0x0⟩
abbrev F.WB_STATUS_REJ_CAUSE : Fld := ⟨28, 3, .ro, 0x0⟩
abbrev F.WB_STATUS_REJ_BANK : Fld := ⟨22, 6, .ro, 0x0⟩
abbrev F.WB_STATUS_BANKS : Fld := ⟨0, 6, .ro, 0x0⟩
-- WB_VIOL_LAST (13-6)
abbrev F.WB_VIOL_LAST_VALID : Fld := ⟨31, 1, .rw1c, 0x0⟩
abbrev F.WB_VIOL_LAST_MASTER : Fld := ⟨26, 5, .ro, 0x0⟩
abbrev F.WB_VIOL_LAST_BANK : Fld := ⟨20, 6, .ro, 0x0⟩
-- WB_ERR_LAST (13-7)
abbrev F.WB_ERR_LAST_UE : Fld := ⟨31, 1, .ro, 0x0⟩
abbrev F.WB_ERR_LAST_BANK : Fld := ⟨15, 6, .ro, 0x0⟩
abbrev F.WB_ERR_LAST_WORD : Fld := ⟨0, 15, .ro, 0x0⟩
-- WB_CE_LO (13-7)
abbrev F.WB_CE_LO_COUNT : Fld := ⟨0, 32, .ro, 0x0⟩
-- WB_CE_HI (13-7)
abbrev F.WB_CE_HI_COUNT : Fld := ⟨0, 16, .ro, 0x0⟩
-- WB_UE_LO (13-7)
abbrev F.WB_UE_LO_COUNT : Fld := ⟨0, 32, .ro, 0x0⟩
-- WB_UE_HI (13-7)
abbrev F.WB_UE_HI_COUNT : Fld := ⟨0, 16, .ro, 0x0⟩
-- WB_VIOL_LO (13-7)
abbrev F.WB_VIOL_LO_COUNT : Fld := ⟨0, 32, .ro, 0x0⟩
-- WB_VIOL_HI (13-7)
abbrev F.WB_VIOL_HI_COUNT : Fld := ⟨0, 16, .ro, 0x0⟩
-- WB_RACE_LO (13-7)
abbrev F.WB_RACE_LO_COUNT : Fld := ⟨0, 32, .ro, 0x0⟩
-- WB_RACE_HI (13-7)
abbrev F.WB_RACE_HI_COUNT : Fld := ⟨0, 16, .ro, 0x0⟩
-- SIEVE_CTRL (13-8)
abbrev F.SIEVE_CTRL_EN : Fld := ⟨31, 1, .rw, 0x1⟩
abbrev F.SIEVE_CTRL_LEND_IDLE : Fld := ⟨8, 12, .rw, 0x64⟩
abbrev F.SIEVE_CTRL_PATROL_H : Fld := ⟨0, 8, .rw, 0x18⟩
-- SIEVE_STATUS (13-8)
abbrev F.SIEVE_STATUS_BUSY : Fld := ⟨31, 1, .ro, 0x0⟩
abbrev F.SIEVE_STATUS_BANK : Fld := ⟨25, 6, .ro, 0x3f⟩
-- SIEVE_FAULT_LAST (13-8)
abbrev F.SIEVE_FAULT_LAST_VALID : Fld := ⟨31, 1, .rw1c, 0x0⟩
abbrev F.SIEVE_FAULT_LAST_BANK : Fld := ⟨15, 6, .ro, 0x0⟩
abbrev F.SIEVE_FAULT_LAST_WORD : Fld := ⟨0, 15, .ro, 0x0⟩
-- SIEVE_PASS_LO (13-8)
abbrev F.SIEVE_PASS_LO_COUNT : Fld := ⟨0, 32, .ro, 0x0⟩
-- SIEVE_PASS_HI (13-8)
abbrev F.SIEVE_PASS_HI_COUNT : Fld := ⟨0, 16, .ro, 0x0⟩
-- SIEVE_ABANDON_LO (13-8)
abbrev F.SIEVE_ABANDON_LO_COUNT : Fld := ⟨0, 32, .ro, 0x0⟩
-- SIEVE_ABANDON_HI (13-8)
abbrev F.SIEVE_ABANDON_HI_COUNT : Fld := ⟨0, 16, .ro, 0x0⟩
-- SIEVE_FAULT_LO (13-8)
abbrev F.SIEVE_FAULT_LO_COUNT : Fld := ⟨0, 32, .ro, 0x0⟩
-- SIEVE_FAULT_HI (13-8)
abbrev F.SIEVE_FAULT_HI_COUNT : Fld := ⟨0, 16, .ro, 0x0⟩
-- DRAM_STATUS (13-9)
abbrev F.DRAM_STATUS_INIT_DONE : Fld := ⟨31, 1, .ro, 0x0⟩
abbrev F.DRAM_STATUS_SPARE_FREE : Fld := ⟨0, 16, .ro, 0x0⟩
-- DRAM_ERR_LAST (13-9)
abbrev F.DRAM_ERR_LAST_UE : Fld := ⟨31, 1, .ro, 0x0⟩
abbrev F.DRAM_ERR_LAST_LINE : Fld := ⟨0, 28, .ro, 0x0⟩
-- DRAM_CE_LO (13-9)
abbrev F.DRAM_CE_LO_COUNT : Fld := ⟨0, 32, .ro, 0x0⟩
-- DRAM_CE_HI (13-9)
abbrev F.DRAM_CE_HI_COUNT : Fld := ⟨0, 16, .ro, 0x0⟩
-- DRAM_UE_LO (13-9)
abbrev F.DRAM_UE_LO_COUNT : Fld := ⟨0, 32, .ro, 0x0⟩
-- DRAM_UE_HI (13-9)
abbrev F.DRAM_UE_HI_COUNT : Fld := ⟨0, 16, .ro, 0x0⟩
-- MATRIX_MODE (13-10)
abbrev F.MATRIX_MODE_KEEP : Fld := ⟨0, 19, .ro, 0x0⟩
-- MATRIX_MRST (13-10)
abbrev F.MATRIX_MRST_RESET : Fld := ⟨0, 19, .wo, 0x0⟩
-- MATRIX_MRST_BUSY (13-10)
abbrev F.MATRIX_MRST_BUSY_BUSY : Fld := ⟨0, 19, .ro, 0x0⟩
-- MATRIX_DENY_LAST (13-10)
abbrev F.MATRIX_DENY_LAST_VALID : Fld := ⟨31, 1, .rw1c, 0x0⟩
abbrev F.MATRIX_DENY_LAST_MASTER : Fld := ⟨26, 5, .ro, 0x0⟩
abbrev F.MATRIX_DENY_LAST_TARGET : Fld := ⟨22, 4, .ro, 0x0⟩
-- MATRIX_OUT (13-10)
abbrev F.MATRIX_OUT_COUNT : Fld := ⟨0, 7, .ro, 0x0⟩
-- MATRIX_RST_BEATS (13-10)
abbrev F.MATRIX_RST_BEATS_WR_BEATS : Fld := ⟨16, 16, .ro, 0x0⟩
abbrev F.MATRIX_RST_BEATS_RD_BEATS : Fld := ⟨0, 16, .ro, 0x0⟩
-- MATRIX_RST_FN (13-10)
abbrev F.MATRIX_RST_FN_FN : Fld := ⟨0, 32, .ro, 0x0⟩
-- MATRIX_DENY_LO (13-10)
abbrev F.MATRIX_DENY_LO_COUNT : Fld := ⟨0, 32, .ro, 0x0⟩
-- MATRIX_DENY_HI (13-10)
abbrev F.MATRIX_DENY_HI_COUNT : Fld := ⟨0, 16, .ro, 0x0⟩
-- EVT_CTRL (14-14)
abbrev F.EVT_CTRL_PORT : Fld := ⟨30, 2, .rw, 0x0⟩
abbrev F.EVT_CTRL_ACK : Fld := ⟨29, 1, .wo, 0x0⟩
abbrev F.EVT_CTRL_BRST : Fld := ⟨28, 1, .wo, 0x0⟩
abbrev F.EVT_CTRL_ENGINES : Fld := ⟨24, 4, .rw, 0x0⟩
abbrev F.EVT_CTRL_CLR_REJ : Fld := ⟨3, 1, .rw1c, 0x0⟩
abbrev F.EVT_CTRL_FORCE_REJ : Fld := ⟨2, 1, .rw1c, 0x0⟩
abbrev F.EVT_CTRL_CFG_REJ : Fld := ⟨1, 1, .rw1c, 0x0⟩
abbrev F.EVT_CTRL_PENDING : Fld := ⟨0, 1, .ro, 0x0⟩
-- EVT_LIVE (14-15)
abbrev F.EVT_LIVE_LIVE : Fld := ⟨0, 32, .ro, 0x0⟩
-- EVT_STICKY (14-15)
abbrev F.EVT_STICKY_STICKY : Fld := ⟨0, 32, .rw1c, 0x0⟩
-- EVT_SEVERE (14-15)
abbrev F.EVT_SEVERE_SEVERE : Fld := ⟨0, 32, .rw1c, 0x0⟩
-- EVT_ENABLE (14-15)
abbrev F.EVT_ENABLE_ENABLE : Fld := ⟨0, 32, .rw, 0x0⟩
-- EVT_FORCE (14-15)
abbrev F.EVT_FORCE_FORCE : Fld := ⟨0, 32, .wo, 0x0⟩
-- EVT_FIRST0 (14-15)
abbrev F.EVT_FIRST0_VALID : Fld := ⟨31, 1, .rw1c, 0x0⟩
abbrev F.EVT_FIRST0_OVF : Fld := ⟨30, 1, .ro, 0x0⟩
abbrev F.EVT_FIRST0_CLASS : Fld := ⟨27, 3, .ro, 0x0⟩
abbrev F.EVT_FIRST0_SOURCE : Fld := ⟨0, 5, .ro, 0x0⟩
-- EVT_FIRST1 (14-15)
abbrev F.EVT_FIRST1_FN : Fld := ⟨0, 32, .ro, 0x0⟩
-- EVT_FIRST2 (14-15)
abbrev F.EVT_FIRST2_NS : Fld := ⟨0, 17, .ro, 0x0⟩
-- EVT_FIRST3 (14-15)
abbrev F.EVT_FIRST3_DETAIL : Fld := ⟨0, 32, .ro, 0x0⟩
-- EVT_CFG (14-16)
abbrev F.EVT_CFG_CLASS : Fld := ⟨29, 3, .rw, 0x0⟩
abbrev F.EVT_CFG_AUTO : Fld := ⟨28, 1, .rw, 0x0⟩
abbrev F.EVT_CFG_N : Fld := ⟨8, 8, .rw, 0x0⟩
abbrev F.EVT_CFG_WCOUNT : Fld := ⟨0, 8, .ro, 0x0⟩
-- EVT_WIN (14-16)
abbrev F.EVT_WIN_WINDOW_MS : Fld := ⟨0, 22, .rw, 0x0⟩
-- EVT_DETAIL (14-16)
abbrev F.EVT_DETAIL_DETAIL : Fld := ⟨0, 32, .ro, 0x0⟩
-- EVT_TOTAL_LO (14-16)
abbrev F.EVT_TOTAL_LO_COUNT : Fld := ⟨0, 32, .ro, 0x0⟩
-- EVT_TOTAL_HI (14-16)
abbrev F.EVT_TOTAL_HI_COUNT : Fld := ⟨0, 16, .ro, 0x0⟩
-- EVT_SUM_STATUS (14-18)
abbrev F.EVT_SUM_STATUS_GRAVE : Fld := ⟨31, 1, .ro, 0x0⟩
abbrev F.EVT_SUM_STATUS_TEST_MODE : Fld := ⟨30, 1, .ro, 0x0⟩
abbrev F.EVT_SUM_STATUS_FAULT_LOW : Fld := ⟨29, 1, .ro, 0x0⟩
abbrev F.EVT_SUM_STATUS_PULSE : Fld := ⟨28, 1, .ro, 0x0⟩
abbrev F.EVT_SUM_STATUS_FAULT_HOLD : Fld := ⟨27, 1, .rw, 0x0⟩
-- EVT_SUM_PEND (14-18)
abbrev F.EVT_SUM_PEND_PEND : Fld := ⟨0, 32, .ro, 0x0⟩
-- EVT_SUM_SEVERE (14-18)
abbrev F.EVT_SUM_SEVERE_SEVERE : Fld := ⟨0, 32, .ro, 0x0⟩
-- EVT_PKG_FIRST0 (14-18)
abbrev F.EVT_PKG_FIRST0_VALID : Fld := ⟨31, 1, .rw1c, 0x0⟩
abbrev F.EVT_PKG_FIRST0_OVF : Fld := ⟨30, 1, .ro, 0x0⟩
abbrev F.EVT_PKG_FIRST0_CLASS : Fld := ⟨27, 3, .ro, 0x0⟩
abbrev F.EVT_PKG_FIRST0_BLOCK : Fld := ⟨8, 8, .ro, 0x0⟩
abbrev F.EVT_PKG_FIRST0_SOURCE : Fld := ⟨0, 5, .ro, 0x0⟩
-- EVT_GRAVE0 (14-18)
abbrev F.EVT_GRAVE0_VALID : Fld := ⟨31, 1, .ro, 0x0⟩
abbrev F.EVT_GRAVE0_BLOCK : Fld := ⟨8, 8, .ro, 0x0⟩
abbrev F.EVT_GRAVE0_SOURCE : Fld := ⟨0, 5, .ro, 0x0⟩
-- EVT_PKG_FIRST1 (14-18)
abbrev F.EVT_PKG_FIRST1_FN : Fld := ⟨0, 32, .ro, 0x0⟩
-- EVT_GRAVE1 (14-18)
abbrev F.EVT_GRAVE1_FN : Fld := ⟨0, 32, .ro, 0x0⟩
-- EVT_PKG_FIRST2 (14-18)
abbrev F.EVT_PKG_FIRST2_NS : Fld := ⟨0, 17, .ro, 0x0⟩
-- EVT_GRAVE2 (14-18)
abbrev F.EVT_GRAVE2_NS : Fld := ⟨0, 17, .ro, 0x0⟩
-- EVT_FAULT_PULSES_LO (14-18)
abbrev F.EVT_FAULT_PULSES_LO_COUNT : Fld := ⟨0, 32, .ro, 0x0⟩
-- EVT_FAULT_PULSES_HI (14-18)
abbrev F.EVT_FAULT_PULSES_HI_COUNT : Fld := ⟨0, 16, .ro, 0x0⟩
-- MON_CTRL (15-5)
abbrev F.MON_CTRL_PAIR_AUTO : Fld := ⟨9, 1, .rw, 0x1⟩
abbrev F.MON_CTRL_TDR_TOL : Fld := ⟨0, 8, .rw, 0x14⟩
-- MON_STATUS (15-5)
abbrev F.MON_STATUS_SELF_FAIL : Fld := ⟨31, 1, .ro, 0x0⟩
-- MON_VOLT (15-5)
abbrev F.MON_VOLT_WARN : Fld := ⟨31, 1, .ro, 0x0⟩
abbrev F.MON_VOLT_CRIT : Fld := ⟨30, 1, .ro, 0x0⟩
abbrev F.MON_VOLT_MV : Fld := ⟨0, 16, .ro, 0x0⟩
-- MON_RAIL_WARN (15-5)
abbrev F.MON_RAIL_WARN_LOW : Fld := ⟨16, 16, .rw, 0x0⟩
abbrev F.MON_RAIL_WARN_HIGH : Fld := ⟨0, 16, .rw, 0x0⟩
-- MON_RAIL_CRIT (15-5)
abbrev F.MON_RAIL_CRIT_LOW : Fld := ⟨16, 16, .rw, 0x0⟩
abbrev F.MON_RAIL_CRIT_HIGH : Fld := ⟨0, 16, .rw, 0x0⟩
-- MON_TEMP (15-5)
abbrev F.MON_TEMP_WARN : Fld := ⟨31, 1, .ro, 0x0⟩
abbrev F.MON_TEMP_CRIT : Fld := ⟨30, 1, .ro, 0x0⟩
abbrev F.MON_TEMP_TEMP : Fld := ⟨0, 16, .ro, 0x0⟩
-- MON_TEMP_LIM (15-5)
abbrev F.MON_TEMP_LIM_WARN : Fld := ⟨24, 8, .rw, 0x64⟩
abbrev F.MON_TEMP_LIM_CRIT : Fld := ⟨16, 8, .rw, 0x6e⟩
-- MON_AGE (15-5)
abbrev F.MON_AGE_NOBASE : Fld := ⟨31, 1, .ro, 0x1⟩
abbrev F.MON_AGE_PROC : Fld := ⟨16, 15, .ro, 0x0⟩
abbrev F.MON_AGE_DEGR : Fld := ⟨0, 16, .ro, 0x0⟩
-- MON_AGE_MARGIN (15-5)
abbrev F.MON_AGE_MARGIN_MARGIN : Fld := ⟨0, 7, .rw, 0x1e⟩
-- LU_SENSE_CTRL (15-6)
abbrev F.LU_SENSE_CTRL_START : Fld := ⟨31, 1, .wo, 0x0⟩
abbrev F.LU_SENSE_CTRL_VF : Fld := ⟨0, 10, .rw, 0x2bc⟩
-- LU_SENSE_STATUS (15-6)
abbrev F.LU_SENSE_STATUS_BUSY : Fld := ⟨31, 1, .ro, 0x0⟩
abbrev F.LU_SENSE_STATUS_DONE : Fld := ⟨30, 1, .rw1c, 0x0⟩
abbrev F.LU_SENSE_STATUS_CODE : Fld := ⟨27, 3, .ro, 0x0⟩
abbrev F.LU_SENSE_STATUS_NO_END : Fld := ⟨26, 1, .ro, 0x0⟩
abbrev F.LU_SENSE_STATUS_TERM_NEW : Fld := ⟨25, 1, .rw1c, 0x0⟩
abbrev F.LU_SENSE_STATUS_PARTNER_NEW : Fld := ⟨24, 1, .rw1c, 0x0⟩
abbrev F.LU_SENSE_STATUS_TERM : Fld := ⟨0, 3, .ro, 0x0⟩
-- LU_TDR_CABLE (15-6)
abbrev F.LU_TDR_CABLE_LENGTH : Fld := ⟨0, 15, .ro, 0x0⟩
-- LU_TDR_LOAD (15-6)
abbrev F.LU_TDR_LOAD_LOAD_OHM : Fld := ⟨0, 12, .ro, 0x0⟩
-- LU_TDR_TRACE (15-6)
abbrev F.LU_TDR_TRACE_DELAY : Fld := ⟨0, 14, .ro, 0x0⟩
-- LU_PARTNER0 (15-6)
abbrev F.LU_PARTNER0_KIND : Fld := ⟨30, 2, .ro, 0x0⟩
abbrev F.LU_PARTNER0_LOOP : Fld := ⟨29, 1, .ro, 0x0⟩
abbrev F.LU_PARTNER0_SIDE : Fld := ⟨28, 1, .ro, 0x0⟩
abbrev F.LU_PARTNER0_CAP : Fld := ⟨20, 8, .ro, 0x0⟩
abbrev F.LU_PARTNER0_RATE : Fld := ⟨16, 4, .ro, 0x0⟩
abbrev F.LU_PARTNER0_PEER_LU : Fld := ⟨0, 7, .ro, 0x0⟩
-- LU_PARTNER1 (15-6)
abbrev F.LU_PARTNER1_SERIAL : Fld := ⟨0, 32, .ro, 0x0⟩
-- CAL_CTRL (15-7)
abbrev F.CAL_CTRL_VIEW : Fld := ⟨1, 1, .rw, 0x0⟩
abbrev F.CAL_CTRL_PAGE : Fld := ⟨0, 1, .rw, 0x0⟩
-- CAL_CMD (15-7)
abbrev F.CAL_CMD_AGE_OK : Fld := ⟨9, 1, .wo, 0x0⟩
abbrev F.CAL_CMD_PARTS : Fld := ⟨3, 6, .wo, 0x0⟩
abbrev F.CAL_CMD_OP : Fld := ⟨0, 3, .wo, 0x0⟩
-- CAL_STATUS (15-7)
abbrev F.CAL_STATUS_VALID : Fld := ⟨31, 1, .ro, 0x0⟩
abbrev F.CAL_STATUS_BUSY : Fld := ⟨30, 1, .ro, 0x0⟩
abbrev F.CAL_STATUS_DONE : Fld := ⟨29, 1, .rw1c, 0x0⟩
abbrev F.CAL_STATUS_CODE : Fld := ⟨26, 3, .ro, 0x0⟩
abbrev F.CAL_STATUS_ORIGIN : Fld := ⟨0, 1, .ro, 0x0⟩
-- CAL_SET_COUNT (15-7)
abbrev F.CAL_SET_COUNT_COUNT : Fld := ⟨0, 32, .ro, 0x0⟩
-- PKG_RST_CAUSE (16-7)
abbrev F.PKG_RST_CAUSE_POR : Fld := ⟨31, 1, .rw1c, 0x1⟩
abbrev F.PKG_RST_CAUSE_RESET_N : Fld := ⟨30, 1, .rw1c, 0x0⟩
abbrev F.PKG_RST_CAUSE_PERST_A : Fld := ⟨29, 1, .rw1c, 0x0⟩
abbrev F.PKG_RST_CAUSE_PERST_B : Fld := ⟨28, 1, .rw1c, 0x0⟩
abbrev F.PKG_RST_CAUSE_HELD : Fld := ⟨27, 1, .rw1c, 0x0⟩
-- PKG_START (16-7)
abbrev F.PKG_START_SIDE : Fld := ⟨31, 1, .ro, 0x0⟩
abbrev F.PKG_START_TEST_MODE : Fld := ⟨30, 1, .ro, 0x0⟩
abbrev F.PKG_START_BOOT : Fld := ⟨27, 3, .ro, 0x0⟩
abbrev F.PKG_START_STEP : Fld := ⟨20, 4, .ro, 0x1⟩
abbrev F.PKG_START_ELAPSED : Fld := ⟨0, 20, .ro, 0x0⟩
-- HOSTIF_PORT_STATUS (17-6)
abbrev F.HOSTIF_PORT_STATUS_ME : Fld := ⟨31, 1, .ro, 0x0⟩
abbrev F.HOSTIF_PORT_STATUS_B_UP : Fld := ⟨15, 1, .ro, 0x0⟩
abbrev F.HOSTIF_PORT_STATUS_B_SPEED : Fld := ⟨12, 3, .ro, 0x0⟩
abbrev F.HOSTIF_PORT_STATUS_B_WIDTH : Fld := ⟨8, 4, .ro, 0x0⟩
abbrev F.HOSTIF_PORT_STATUS_A_UP : Fld := ⟨7, 1, .ro, 0x0⟩
abbrev F.HOSTIF_PORT_STATUS_A_SPEED : Fld := ⟨4, 3, .ro, 0x0⟩
abbrev F.HOSTIF_PORT_STATUS_A_WIDTH : Fld := ⟨0, 4, .ro, 0x0⟩
-- HOSTIF_ERR (17-6)
abbrev F.HOSTIF_ERR_MBOX_REJ_B : Fld := ⟨5, 1, .rw1c, 0x0⟩
abbrev F.HOSTIF_ERR_MBOX_REJ_A : Fld := ⟨4, 1, .rw1c, 0x0⟩
abbrev F.HOSTIF_ERR_BME_FAIL_B : Fld := ⟨3, 1, .rw1c, 0x0⟩
abbrev F.HOSTIF_ERR_BME_FAIL_A : Fld := ⟨2, 1, .rw1c, 0x0⟩
abbrev F.HOSTIF_ERR_BAD_SIZE_B : Fld := ⟨1, 1, .rw1c, 0x0⟩
abbrev F.HOSTIF_ERR_BAD_SIZE_A : Fld := ⟨0, 1, .rw1c, 0x0⟩
-- HOSTIF_MBOX_AB_DATA (17-7)
abbrev F.HOSTIF_MBOX_AB_DATA_WORD : Fld := ⟨0, 32, .rw, 0x0⟩
-- HOSTIF_MBOX_BA_DATA (17-7)
abbrev F.HOSTIF_MBOX_BA_DATA_WORD : Fld := ⟨0, 32, .rw, 0x0⟩
-- HOSTIF_MBOX_CTRL (17-7)
abbrev F.HOSTIF_MBOX_CTRL_SEND_BA : Fld := ⟨13, 1, .wo, 0x0⟩
abbrev F.HOSTIF_MBOX_CTRL_ACK_BA : Fld := ⟨12, 1, .wo, 0x0⟩
abbrev F.HOSTIF_MBOX_CTRL_FULL_BA : Fld := ⟨11, 1, .ro, 0x0⟩
abbrev F.HOSTIF_MBOX_CTRL_ACKED_BA : Fld := ⟨10, 1, .rw1c, 0x0⟩
abbrev F.HOSTIF_MBOX_CTRL_SEND_AB : Fld := ⟨3, 1, .wo, 0x0⟩
abbrev F.HOSTIF_MBOX_CTRL_ACK_AB : Fld := ⟨2, 1, .wo, 0x0⟩
abbrev F.HOSTIF_MBOX_CTRL_FULL_AB : Fld := ⟨1, 1, .ro, 0x0⟩
abbrev F.HOSTIF_MBOX_CTRL_ACKED_AB : Fld := ⟨0, 1, .rw1c, 0x0⟩
-- HOSTIF_SPI_CTRL (17-8)
abbrev F.HOSTIF_SPI_CTRL_GO : Fld := ⟨31, 1, .wo, 0x0⟩
abbrev F.HOSTIF_SPI_CTRL_WRITE : Fld := ⟨30, 1, .rw, 0x0⟩
abbrev F.HOSTIF_SPI_CTRL_ADDR_BYTES : Fld := ⟨28, 2, .rw, 0x0⟩
abbrev F.HOSTIF_SPI_CTRL_DUMMY : Fld := ⟨24, 4, .rw, 0x0⟩
abbrev F.HOSTIF_SPI_CTRL_OPCODE : Fld := ⟨16, 8, .rw, 0x0⟩
abbrev F.HOSTIF_SPI_CTRL_LEN : Fld := ⟨0, 9, .rw, 0x0⟩
-- HOSTIF_SPI_ADDR (17-8)
abbrev F.HOSTIF_SPI_ADDR_ADDR : Fld := ⟨0, 32, .rw, 0x0⟩
-- HOSTIF_SPI_STATUS (17-8)
abbrev F.HOSTIF_SPI_STATUS_DONE : Fld := ⟨31, 1, .rw1c, 0x0⟩
abbrev F.HOSTIF_SPI_STATUS_BUSY : Fld := ⟨30, 1, .ro, 0x0⟩
abbrev F.HOSTIF_SPI_STATUS_CODE : Fld := ⟨28, 2, .ro, 0x0⟩
abbrev F.HOSTIF_SPI_STATUS_PORT : Fld := ⟨27, 1, .ro, 0x0⟩
-- HOSTIF_SPI_DATA (17-8)
abbrev F.HOSTIF_SPI_DATA_BYTES : Fld := ⟨0, 32, .rw, 0x0⟩
-- HOSTIF_SMB_CTRL (17-8)
abbrev F.HOSTIF_SMB_CTRL_WR_EN : Fld := ⟨0, 1, .rw, 0x0⟩
-- HOSTIF_SMB_STATUS (17-8)
abbrev F.HOSTIF_SMB_STATUS_PEC_ERR : Fld := ⟨8, 8, .ro, 0x0⟩
abbrev F.HOSTIF_SMB_STATUS_WR_REJ : Fld := ⟨0, 8, .ro, 0x0⟩
-- HOSTIF_MSIX_TABLE (R395)
abbrev F.HOSTIF_MSIX_TABLE_WORD : Fld := ⟨0, 32, .rw, 0x0⟩
-- HOSTIF_PBA (R395)
abbrev F.HOSTIF_PBA_PEND : Fld := ⟨0, 32, .ro, 0x0⟩
-- PKG_ID (18-4)
abbrev F.PKG_ID_PART : Fld := ⟨16, 16, .ro, 0x4128⟩
abbrev F.PKG_ID_STEPPING : Fld := ⟨12, 4, .ro, 0x0⟩
abbrev F.PKG_ID_CODE : Fld := ⟨0, 8, .ro, 0x0⟩
-- PKG_VER (18-4)
abbrev F.PKG_VER_MAP_MAJOR : Fld := ⟨24, 8, .ro, 0x1⟩
abbrev F.PKG_VER_MAP_MINOR : Fld := ⟨16, 8, .ro, 0x0⟩
abbrev F.PKG_VER_BENCH_VER : Fld := ⟨8, 8, .ro, 0x1⟩
abbrev F.PKG_VER_TG_VER : Fld := ⟨0, 8, .ro, 0x1⟩
-- PKG_SERIAL_LO (18-4)
abbrev F.PKG_SERIAL_LO_SERIAL : Fld := ⟨0, 32, .ro, 0x0⟩
-- PKG_SERIAL_HI (18-4)
abbrev F.PKG_SERIAL_HI_SERIAL : Fld := ⟨0, 32, .ro, 0x0⟩
-- PKG_DRAM (18-4)
abbrev F.PKG_DRAM_READY : Fld := ⟨28, 4, .ro, 0x0⟩
abbrev F.PKG_DRAM_UNITS : Fld := ⟨0, 8, .ro, 0x0⟩
-- PKG_SCRATCH (18-4)
abbrev F.PKG_SCRATCH_VALUE : Fld := ⟨0, 32, .rw, 0x0⟩
-- SEAM_STATUS (18-5)
abbrev F.SEAM_STATUS_UP : Fld := ⟨31, 1, .ro, 0x0⟩
abbrev F.SEAM_STATUS_SPARE_USED : Fld := ⟨22, 2, .ro, 0x0⟩
abbrev F.SEAM_STATUS_LANES_OK : Fld := ⟨0, 7, .ro, 0x0⟩
-- SEAM_RETIRED_0 (18-5)
abbrev F.SEAM_RETIRED_0_LANES : Fld := ⟨0, 32, .ro, 0x0⟩
-- SEAM_RETIRED_1 (18-5)
abbrev F.SEAM_RETIRED_1_LANES : Fld := ⟨0, 32, .ro, 0x0⟩
-- SEAM_RETIRED_2 (18-5)
abbrev F.SEAM_RETIRED_2_LANES : Fld := ⟨0, 2, .ro, 0x0⟩
-- SEAM_REPLAY_LO (18-5)
abbrev F.SEAM_REPLAY_LO_COUNT : Fld := ⟨0, 32, .ro, 0x0⟩
-- SEAM_REPLAY_HI (18-5)
abbrev F.SEAM_REPLAY_HI_COUNT : Fld := ⟨0, 16, .ro, 0x0⟩
-- SEAM_PARITY_LO (18-5)
abbrev F.SEAM_PARITY_LO_COUNT : Fld := ⟨0, 32, .ro, 0x0⟩
-- SEAM_PARITY_HI (18-5)
abbrev F.SEAM_PARITY_HI_COUNT : Fld := ⟨0, 16, .ro, 0x0⟩
-- SEAM_LOST_LO (18-5)
abbrev F.SEAM_LOST_LO_COUNT : Fld := ⟨0, 32, .ro, 0x0⟩
-- SEAM_LOST_HI (18-5)
abbrev F.SEAM_LOST_HI_COUNT : Fld := ⟨0, 16, .ro, 0x0⟩
-- CL_XING_PARITY_LO (R423)
abbrev F.CL_XING_PARITY_LO_COUNT : Fld := ⟨0, 32, .ro, 0x0⟩
-- CL_XING_PARITY_HI (R423)
abbrev F.CL_XING_PARITY_HI_COUNT : Fld := ⟨0, 16, .ro, 0x0⟩
-- DIE_TAP_PARITY_LO (R423)
abbrev F.DIE_TAP_PARITY_LO_COUNT : Fld := ⟨0, 32, .ro, 0x0⟩
-- DIE_TAP_PARITY_HI (R423)
abbrev F.DIE_TAP_PARITY_HI_COUNT : Fld := ⟨0, 16, .ro, 0x0⟩
-- PKG_CNT_WRAP_BLK (R275)
abbrev F.PKG_CNT_WRAP_BLK_WRAP : Fld := ⟨0, 32, .ro, 0x0⟩
-- CNT_WRAP (11-4)
abbrev F.CNT_WRAP_WRAP : Fld := ⟨0, 32, .rw1c, 0x0⟩
-- CNT_WRAP_EN (11-4)
abbrev F.CNT_WRAP_EN_EN : Fld := ⟨0, 32, .rw, 0x0⟩

end Sys2Proof.Machine
end

