-- ==== Sys2Proof/Machine/RegLists.lean ====
section
/-!
DEFINITION. The register tables: for each block the registers that spec/ assigns in it, each with its offset, its one or
two index ranges (stride and count) and its fields. Reset values and access types of a whole register follow from them (R412 to R414).
-/

namespace Sys2Proof.Machine

/-- Registers of the die block, part 1. -/
def regTable_die0 : List RegDef := [
  ⟨0x100, 0x4, 1, 0x4, 1, false,
    [F.DIE_UNIT_RETIRE_LU_RETIRE]⟩,
  ⟨0x104, 0x4, 1, 0x4, 1, false,
    [F.DIE_UNIT_STATE_RG_LOCK, F.DIE_UNIT_STATE_RG_POWER, F.DIE_UNIT_STATE_SEAM_SPARE_USED2, F.DIE_UNIT_STATE_SEAM_SPARE_USED1, F.DIE_UNIT_STATE_SEAM_SPARE_USED0, F.DIE_UNIT_STATE_CL_LOCK, F.DIE_UNIT_STATE_CL_POWER]⟩,
  ⟨0x200, 0x4, 1, 0x4, 1, false,
    [F.DIE_JRN_CTRL_ENABLE, F.DIE_JRN_CTRL_ERR, F.DIE_JRN_CTRL_SIZE_LOG2]⟩,
  ⟨0x204, 0x4, 1, 0x4, 1, false,
    [F.DIE_JRN_BASE_LO_ADDR_LO]⟩,
  ⟨0x208, 0x4, 1, 0x4, 1, false,
    [F.DIE_JRN_BASE_HI_ADDR_HI]⟩,
  ⟨0x20c, 0x4, 1, 0x4, 1, false,
    [F.DIE_JRN_WR_COUNT]⟩,
  ⟨0x210, 0x4, 1, 0x4, 1, false,
    [F.DIE_JRN_RD_COUNT]⟩,
  ⟨0x218, 0x4, 1, 0x4, 1, false,
    [F.DIE_JRN_LOST_LO_COUNT]⟩,
  ⟨0x21c, 0x4, 1, 0x4, 1, false,
    [F.DIE_JRN_LOST_HI_COUNT]⟩,
  ⟨0x400, 0x4, 1, 0x4, 1, false,
    [F.GRP_CMD_GO, F.GRP_CMD_OP, F.GRP_CMD_GROUP, F.GRP_CMD_INDEX]⟩,
  ⟨0x404, 0x4, 1, 0x4, 1, true,
    [F.GRP_STATUS_DONE, F.GRP_STATUS_BUSY, F.GRP_STATUS_CODE]⟩,
  ⟨0x408, 0x4, 1, 0x4, 1, true,
    [F.GRP_CFG0_MODE, F.GRP_CFG0_TYPE, F.GRP_CFG0_LCAS, F.GRP_CFG0_X, F.GRP_CFG0_DMAX]⟩,
  ⟨0x40c, 0x4, 1, 0x4, 1, true,
    [F.GRP_CFG1_HOLDOFF, F.GRP_CFG1_WTR, F.GRP_CFG1_RSACK_TO, F.GRP_CFG1_SRC_LABEL]⟩,
  ⟨0x410, 0x4, 1, 0x4, 1, true,
    [F.GRP_MEMBER_AU3, F.GRP_MEMBER_TA]⟩,
  ⟨0x414, 0x4, 1, 0x4, 1, true,
    [F.GRP_MEMBER_EG_AU3, F.GRP_MEMBER_EG_TA]⟩,
  ⟨0x418, 0x4, 1, 0x4, 1, false,
    [F.GRP_MSTATE_VLOM, F.GRP_MSTATE_SQM, F.GRP_MSTATE_LOA, F.GRP_MSTATE_PATH_FAIL, F.GRP_MSTATE_SINK, F.GRP_MSTATE_SRC, F.GRP_MSTATE_ADD_FAIL, F.GRP_MSTATE_SQ_ACC, F.GRP_MSTATE_LEAD]⟩,
  ⟨0x41c, 0x4, 1, 0x4, 1, false,
    [F.GRP_GSTATE_STATE, F.GRP_GSTATE_FAILED, F.GRP_GSTATE_LOA, F.GRP_GSTATE_GIDM, F.GRP_GSTATE_ALIGNED, F.GRP_GSTATE_CARRYING, F.GRP_GSTATE_SPREAD]⟩,
  ⟨0x420, 0x4, 1, 0x4, 1, false,
    [F.GRP_DESKEW_FREE_PAGES]⟩,
  ⟨0x424, 0x4, 1, 0x4, 1, false,
    [F.GRP_DESKEW_TOTAL_PAGES]⟩,
  ⟨0x428, 0x4, 1, 0x4, 1, false,
    [F.GRP_DESKEW_REQ_PAGES]⟩]

/-- Registers of the die block, part 2. -/
def regTable_die1 : List RegDef := [
  ⟨0x42c, 0x4, 1, 0x4, 1, false,
    [F.GRP_COUNT_GROUPS]⟩,
  ⟨0x500, 0x4, 32, 0x4, 1, false,
    [F.GRP_CHANGED_CHANGED]⟩,
  ⟨0x430, 0x4, 1, 0x4, 1, false,
    [F.GRP_CRC_LO_COUNT]⟩,
  ⟨0x434, 0x4, 1, 0x4, 1, false,
    [F.GRP_CRC_HI_COUNT]⟩,
  ⟨0xc00, 0x4, 1, 0x4, 1, false,
    [F.SNCP_IND_CTRL_GO, F.SNCP_IND_CTRL_AU3, F.SNCP_IND_CTRL_TA]⟩,
  ⟨0xc04, 0x4, 1, 0x4, 1, false,
    [F.SNCP_IND_STATUS_DONE, F.SNCP_IND_STATUS_ERR]⟩,
  ⟨0xc08, 0x4, 1, 0x4, 1, false,
    [F.SNCP_IND_DATA0_REQ, F.SNCP_IND_DATA0_ALT, F.SNCP_IND_DATA0_COND, F.SNCP_IND_DATA0_EXT_CMD, F.SNCP_IND_DATA0_CMD_DROPPED]⟩,
  ⟨0xc0c, 0x4, 1, 0x4, 1, false,
    [F.SNCP_IND_DATA1_HOLD_LEFT, F.SNCP_IND_DATA1_WTR_LEFT]⟩,
  ⟨0xc20, 0x4, 1, 0x4, 1, false,
    [F.SNCP_LOG_STATUS_COUNT]⟩,
  ⟨0xc24, 0x4, 1, 0x4, 1, false,
    [F.SNCP_LOG_DATA0_VALID, F.SNCP_LOG_DATA0_ALT, F.SNCP_LOG_DATA0_REASON, F.SNCP_LOG_DATA0_AU3, F.SNCP_LOG_DATA0_TA]⟩,
  ⟨0xc28, 0x4, 1, 0x4, 1, false,
    [F.SNCP_LOG_DATA1_FN]⟩,
  ⟨0xc2c, 0x4, 1, 0x4, 1, false,
    [F.SNCP_LOG_DATA2_NS]⟩,
  ⟨0xc30, 0x4, 1, 0x4, 1, false,
    [F.SNCP_LOG_LOST_LO_COUNT]⟩,
  ⟨0xc34, 0x4, 1, 0x4, 1, false,
    [F.SNCP_LOG_LOST_HI_COUNT]⟩,
  ⟨0xd00, 0x20, 32, 0x20, 1, false,
    [F.MRG_STATUS_ACTIVE, F.MRG_STATUS_PARTNER, F.MRG_STATUS_FEED_S_OK, F.MRG_STATUS_FEED_A_OK, F.MRG_STATUS_OOW_S, F.MRG_STATUS_OOW_A]⟩,
  ⟨0xd04, 0x20, 32, 0x20, 1, false,
    [F.MRG_SKEW_SKEW]⟩,
  ⟨0xd08, 0x20, 32, 0x20, 1, false,
    [F.MRG_INV_S_LO_COUNT]⟩,
  ⟨0xd0c, 0x20, 32, 0x20, 1, false,
    [F.MRG_INV_S_HI_COUNT]⟩,
  ⟨0xd10, 0x20, 32, 0x20, 1, false,
    [F.MRG_INV_A_LO_COUNT]⟩,
  ⟨0xd14, 0x20, 32, 0x20, 1, false,
    [F.MRG_INV_A_HI_COUNT]⟩]

/-- Registers of the die block, part 3. -/
def regTable_die2 : List RegDef := [
  ⟨0xd18, 0x20, 32, 0x20, 1, false,
    [F.MRG_OOW_LO_COUNT]⟩,
  ⟨0xd1c, 0x20, 32, 0x20, 1, false,
    [F.MRG_OOW_HI_COUNT]⟩,
  ⟨0x1100, 0x4, 1, 0x4, 1, false,
    [F.DRAM_STATUS_INIT_DONE, F.DRAM_STATUS_SPARE_FREE]⟩,
  ⟨0x1118, 0x4, 1, 0x4, 1, false,
    [F.DRAM_ERR_LAST_UE, F.DRAM_ERR_LAST_LINE]⟩,
  ⟨0x1108, 0x4, 1, 0x4, 1, false,
    [F.DRAM_CE_LO_COUNT]⟩,
  ⟨0x110c, 0x4, 1, 0x4, 1, false,
    [F.DRAM_CE_HI_COUNT]⟩,
  ⟨0x1110, 0x4, 1, 0x4, 1, false,
    [F.DRAM_UE_LO_COUNT]⟩,
  ⟨0x1114, 0x4, 1, 0x4, 1, false,
    [F.DRAM_UE_HI_COUNT]⟩,
  ⟨0x180, 0x4, 1, 0x4, 1, false,
    [F.DIE_TAP_PARITY_LO_COUNT]⟩,
  ⟨0x184, 0x4, 1, 0x4, 1, false,
    [F.DIE_TAP_PARITY_HI_COUNT]⟩]

def regTable_die : List RegDef := regTable_die0 ++ regTable_die1 ++ regTable_die2

/-- Registers of the bench block. -/
def regTable_bench0 : List RegDef := [
  ⟨0x0, 0x4, 1, 0x4, 1, false,
    [F.BENCH_CTRL_SOURCE, F.BENCH_CTRL_START]⟩,
  ⟨0x4, 0x4, 1, 0x4, 1, false,
    [F.BENCH_STATUS_FALLBACK, F.BENCH_STATUS_START_IGNORED, F.BENCH_STATUS_REGION, F.BENCH_STATUS_SCOPE, F.BENCH_STATUS_LAST_SOURCE, F.BENCH_STATUS_REREADS, F.BENCH_STATUS_STATE]⟩,
  ⟨0x8, 0x4, 1, 0x4, 1, false,
    [F.BENCH_REFUSE_STEP, F.BENCH_REFUSE_SECT_TYPE, F.BENCH_REFUSE_CODE]⟩,
  ⟨0xc, 0x4, 1, 0x4, 1, false,
    [F.BENCH_REFUSE_OFFSET_OFFSET]⟩,
  ⟨0x10, 0x4, 1, 0x4, 1, false,
    [F.BENCH_LEN_LENGTH]⟩,
  ⟨0x14, 0x4, 1, 0x4, 1, false,
    [F.BENCH_ACTIVE_ID_ID]⟩,
  ⟨0x18, 0x4, 1, 0x4, 1, false,
    [F.BENCH_HKFW_VER_ID]⟩,
  ⟨0x20, 0x4, 8, 0x4, 1, false,
    [F.BENCH_REGION_ID_ID]⟩]

def regTable_bench : List RegDef := regTable_bench0

/-- Registers of the region block, part 1. -/
def regTable_region0 : List RegDef := [
  ⟨0x400, 0x4, 1, 0x4, 1, false,
    [F.RG_SLAB_STATUS_SPARE_REJ, F.RG_SLAB_STATUS_SPARE_FREE, F.RG_SLAB_STATUS_DEPTH, F.RG_SLAB_STATUS_SLAB_READ]⟩,
  ⟨0x408, 0x4, 2, 0x4, 1, false,
    [F.RG_SLAB_SPARE_VALID, F.RG_SLAB_SPARE_ORIGIN, F.RG_SLAB_SPARE_LOGICAL]⟩,
  ⟨0x410, 0x4, 1, 0x4, 1, false,
    [F.RG_SLAB_CE_LO_COUNT]⟩,
  ⟨0x414, 0x4, 1, 0x4, 1, false,
    [F.RG_SLAB_CE_HI_COUNT]⟩,
  ⟨0x418, 0x4, 1, 0x4, 1, false,
    [F.RG_SLAB_UE_LO_COUNT]⟩,
  ⟨0x41c, 0x4, 1, 0x4, 1, false,
    [F.RG_SLAB_UE_HI_COUNT]⟩,
  ⟨0x420, 0x4, 1, 0x4, 1, false,
    [F.RG_SLAB_LATE_LO_COUNT]⟩,
  ⟨0x424, 0x4, 1, 0x4, 1, false,
    [F.RG_SLAB_LATE_HI_COUNT]⟩,
  ⟨0x428, 0x4, 1, 0x4, 1, false,
    [F.RG_XING_PARITY_LO_COUNT]⟩,
  ⟨0x42c, 0x4, 1, 0x4, 1, false,
    [F.RG_XING_PARITY_HI_COUNT]⟩,
  ⟨0x430, 0x4, 1, 0x4, 1, false,
    [F.RG_SLAB_ECC_LAST_UE, F.RG_SLAB_ECC_LAST_LOGICAL, F.RG_SLAB_ECC_LAST_WORD, F.RG_SLAB_ECC_LAST_BIT]⟩,
  ⟨0x480, 0x4, 1, 0x4, 1, false,
    [F.RG_SLAB_DIAG_ADDR_GO, F.RG_SLAB_DIAG_ADDR_LOGICAL, F.RG_SLAB_DIAG_ADDR_WORD]⟩,
  ⟨0x484, 0x4, 1, 0x4, 1, false,
    [F.RG_SLAB_DIAG_STATUS_DONE, F.RG_SLAB_DIAG_STATUS_BUSY, F.RG_SLAB_DIAG_STATUS_ERR, F.RG_SLAB_DIAG_STATUS_ECC_BAD, F.RG_SLAB_DIAG_STATUS_SLAB, F.RG_SLAB_DIAG_STATUS_FN_LOW]⟩,
  ⟨0x488, 0x4, 1, 0x4, 1, false,
    [F.RG_SLAB_DIAG_DATA0_WORD_LO]⟩,
  ⟨0x48c, 0x4, 1, 0x4, 1, false,
    [F.RG_SLAB_DIAG_DATA1_WORD_MID]⟩,
  ⟨0x490, 0x4, 1, 0x4, 1, false,
    [F.RG_SLAB_DIAG_DATA2_ECC, F.RG_SLAB_DIAG_DATA2_WORD_HI]⟩,
  ⟨0x4a0, 0x4, 1, 0x4, 1, false,
    [F.RG_SLAB_ECC_INJ_ARM, F.RG_SLAB_ECC_INJ_BIT_B, F.RG_SLAB_ECC_INJ_BIT_A]⟩,
  ⟨0x1000, 0x40, 8, 0x40, 1, false,
    [F.MSP_CFG_ARCH, F.MSP_CFG_DIR, F.MSP_CFG_REVERT, F.MSP_CFG_EXTRA, F.MSP_CFG_N, F.MSP_CFG_PROT, F.MSP_CFG_HOLDOFF, F.MSP_CFG_WTR]⟩,
  ⟨0x1004, 0x40, 8, 0x40, 1, false,
    [F.MSP_CHAN0_CH1_TO_CH8]⟩,
  ⟨0x1008, 0x40, 8, 0x40, 1, false,
    [F.MSP_CHAN1_CH9_TO_CH14]⟩]

/-- Registers of the region block, part 2. -/
def regTable_region1 : List RegDef := [
  ⟨0x100c, 0x40, 8, 0x40, 1, false,
    [F.MSP_PRIO_HIGH]⟩,
  ⟨0x1010, 0x40, 8, 0x40, 1, false,
    [F.MSP_CMD_GO, F.MSP_CMD_OP]⟩,
  ⟨0x1014, 0x40, 8, 0x40, 1, false,
    [F.MSP_STATUS_STATE, F.MSP_STATUS_CODE, F.MSP_STATUS_WR_REJ, F.MSP_STATUS_FOP_PM, F.MSP_STATUS_FOP_CM, F.MSP_STATUS_FOP_IV, F.MSP_STATUS_UNI_FALLBACK, F.MSP_STATUS_SEL_CHAN, F.MSP_STATUS_BRIDGE_CHAN, F.MSP_STATUS_EXT_CMD, F.MSP_STATUS_EXT_CHAN, F.MSP_STATUS_EXER_RESULT, F.MSP_STATUS_CMD_DROPPED]⟩,
  ⟨0x1018, 0x40, 8, 0x40, 1, false,
    [F.MSP_APS_K1_TX, F.MSP_APS_K2_TX, F.MSP_APS_K1_RX, F.MSP_APS_K2_RX]⟩,
  ⟨0x101c, 0x40, 8, 0x40, 1, false,
    [F.MSP_REQ_LOCAL_REQ, F.MSP_REQ_LOCAL_CHAN, F.MSP_REQ_REMOTE_REQ, F.MSP_REQ_REMOTE_CHAN, F.MSP_REQ_WIN_REQ, F.MSP_REQ_WIN_CHAN]⟩,
  ⟨0x1020, 0x40, 8, 0x40, 1, false,
    [F.MSP_LOCKW_LOCKED]⟩,
  ⟨0x1024, 0x40, 8, 0x40, 1, false,
    [F.MSP_TIMER_HOLD_LEFT, F.MSP_TIMER_WTR_LEFT]⟩,
  ⟨0x1030, 0x40, 8, 0x40, 1, false,
    [F.MSP_COND_SD, F.MSP_COND_SF]⟩,
  ⟨0x1028, 0x40, 8, 0x40, 1, false,
    [F.MSP_SW_LO_COUNT]⟩,
  ⟨0x102c, 0x40, 8, 0x40, 1, false,
    [F.MSP_SW_HI_COUNT]⟩]

def regTable_region : List RegDef := regTable_region0 ++ regTable_region1

/-- Registers of the txn block. -/
def regTable_txn0 : List RegDef := [
  ⟨0x0, 0x4, 1, 0x4, 1, false,
    [F.TXN_SUMMARY_NOTIFY, F.TXN_SUMMARY_TERMINAL, F.TXN_SUMMARY_LIVE, F.TXN_SUMMARY_FREE]⟩,
  ⟨0x4, 0x4, 1, 0x4, 1, false,
    [F.TXN_MIRROR_CTRL_MATE_OK, F.TXN_MIRROR_CTRL_ENABLE]⟩,
  ⟨0x8, 0x4, 1, 0x4, 1, false,
    [F.TXN_LAST_COMMIT_FN_FN]⟩,
  ⟨0x100, 0x40, 8, 0x40, 1, false,
    [F.TXN_CMD_ASAP, F.TXN_CMD_MIRROR, F.TXN_CMD_OP]⟩,
  ⟨0x104, 0x40, 8, 0x40, 1, false,
    [F.TXN_FN_COMMIT_FN]⟩,
  ⟨0x108, 0x40, 8, 0x40, 1, false,
    [F.TXN_STATUS_CODE, F.TXN_STATUS_ABORT_CAUSE, F.TXN_STATUS_LATE_ABORT, F.TXN_STATUS_CLEANING, F.TXN_STATUS_MATE_UNCONF, F.TXN_STATUS_ORIGIN, F.TXN_STATUS_MIRROR, F.TXN_STATUS_OP_REFUSED, F.TXN_STATUS_STATE]⟩,
  ⟨0x10c, 0x40, 8, 0x40, 1, false,
    [F.TXN_COUNT_DISCARDED, F.TXN_COUNT_RECORDS]⟩,
  ⟨0x110, 0x40, 8, 0x40, 1, false,
    [F.TXN_ERR_INDEX_INDEX]⟩,
  ⟨0x114, 0x40, 8, 0x40, 1, false,
    [F.TXN_FETCH_LO_ADDR_LO]⟩,
  ⟨0x118, 0x40, 8, 0x40, 1, false,
    [F.TXN_FETCH_HI_ADDR_HI]⟩,
  ⟨0x11c, 0x40, 8, 0x40, 1, false,
    [F.TXN_FETCH_CTRL_GO, F.TXN_FETCH_CTRL_BUSY, F.TXN_FETCH_CTRL_COUNT]⟩,
  ⟨0x120, 0x40, 8, 0x4, 3, true,
    [F.TXN_REC_WORD]⟩,
  ⟨0x12c, 0x40, 8, 0x40, 1, false,
    [F.TXN_REC3_WORD]⟩,
  ⟨0x130, 0x40, 8, 0x40, 1, false,
    [F.TXN_EVENT_FN_FN]⟩,
  ⟨0x134, 0x40, 8, 0x40, 1, false,
    [F.TXN_ABORT_FN_FN]⟩,
  ⟨0x138, 0x40, 8, 0x40, 1, false,
    [F.TXN_ABORT_NS_NS]⟩]

def regTable_txn : List RegDef := regTable_txn0

/-- Registers of the map block. -/
def regTable_map0 : List RegDef := [
  ⟨0x0, 0x4, 1, 0x4, 1, false,
    [F.MAP_STATUS_BUSY, F.MAP_STATUS_QUEUE]⟩,
  ⟨0x4, 0x4, 1, 0x4, 1, false,
    [F.MAP_BUILT_LO_COUNT]⟩,
  ⟨0x8, 0x4, 1, 0x4, 1, false,
    [F.MAP_BUILT_HI_COUNT]⟩,
  ⟨0x10, 0x4, 1, 0x4, 1, false,
    [F.MAP_DIAG_CTRL_GO, F.MAP_DIAG_CTRL_SEL, F.MAP_DIAG_CTRL_AU3, F.MAP_DIAG_CTRL_TA]⟩,
  ⟨0x14, 0x4, 1, 0x4, 1, false,
    [F.MAP_DIAG_STATUS_DONE, F.MAP_DIAG_STATUS_ERR, F.MAP_DIAG_STATUS_COVERED, F.MAP_DIAG_STATUS_CLAIM]⟩,
  ⟨0x20, 0x4, 4, 0x4, 1, false,
    [F.MAP_DIAG_DATA_WORD]⟩]

def regTable_map : List RegDef := regTable_map0

/-- Registers of the lu block, part 1. -/
def regTable_lu0 : List RegDef := [
  ⟨0x0, 0x4, 1, 0x4, 1, false,
    [F.LU_SEC_CTRL_BEACON_TX, F.LU_SEC_CTRL_TIM_AIS, F.LU_SEC_CTRL_TIM_MON, F.LU_SEC_CTRL_EXC_AIS, F.LU_SEC_CTRL_TRACE_FMT, F.LU_SEC_CTRL_B1_QUALIFY, F.LU_SEC_CTRL_TX_RDI_OFF, F.LU_SEC_CTRL_OOF_EXTRA, F.LU_SEC_CTRL_CONFIRM, F.LU_SEC_CTRL_TX_SCR_OFF, F.LU_SEC_CTRL_RX_DESCR_OFF, F.LU_SEC_CTRL_RESYNC]⟩,
  ⟨0x4, 0x4, 1, 0x4, 1, false,
    [F.LU_SEC_RATE_SEARCHING, F.LU_SEC_RATE_FOUND_VALID, F.LU_SEC_RATE_FOUND, F.LU_SEC_RATE_TX_DEFAULT, F.LU_SEC_RATE_RESTART]⟩,
  ⟨0x8, 0x4, 1, 0x4, 1, false,
    [F.LU_SEC_TIMERS_S1_FILT, F.LU_SEC_TIMERS_K_FILT, F.LU_SEC_TIMERS_LOS_SET, F.LU_SEC_TIMERS_LOF_SET, F.LU_SEC_TIMERS_LOF_CLR]⟩,
  ⟨0xc, 0x4, 1, 0x4, 1, false,
    [F.LU_SEC_BER_SD_EXP, F.LU_SEC_BER_SF_EXP]⟩,
  ⟨0x10, 0x4, 1, 0x4, 1, false,
    [F.LU_SEC_STATUS_BEACON_NEW, F.LU_SEC_STATUS_RATE_NEW, F.LU_SEC_STATUS_S1_NEW, F.LU_SEC_STATUS_K_NEW, F.LU_SEC_STATUS_J0_NEW, F.LU_SEC_STATUS_BEACON_VALID, F.LU_SEC_STATUS_S1_UNSTABLE, F.LU_SEC_STATUS_MS_DEG, F.LU_SEC_STATUS_MS_EXC, F.LU_SEC_STATUS_MS_RDI, F.LU_SEC_STATUS_MS_AIS, F.LU_SEC_STATUS_RS_TIM, F.LU_SEC_STATUS_LOF, F.LU_SEC_STATUS_OOF, F.LU_SEC_STATUS_LOS]⟩,
  ⟨0x14, 0x4, 1, 0x4, 1, false,
    [F.LU_SEC_STICKY_BEACON_NEW, F.LU_SEC_STICKY_RATE_NEW, F.LU_SEC_STICKY_S1_NEW, F.LU_SEC_STICKY_K_NEW, F.LU_SEC_STICKY_J0_NEW, F.LU_SEC_STICKY_BEACON_VALID, F.LU_SEC_STICKY_S1_UNSTABLE, F.LU_SEC_STICKY_MS_DEG, F.LU_SEC_STICKY_MS_EXC, F.LU_SEC_STICKY_MS_RDI, F.LU_SEC_STICKY_MS_AIS, F.LU_SEC_STICKY_RS_TIM, F.LU_SEC_STICKY_LOF, F.LU_SEC_STICKY_OOF, F.LU_SEC_STICKY_LOS]⟩,
  ⟨0x18, 0x4, 1, 0x4, 1, false,
    [F.LU_SEC_EVMASK_BEACON_NEW, F.LU_SEC_EVMASK_RATE_NEW, F.LU_SEC_EVMASK_S1_NEW, F.LU_SEC_EVMASK_K_NEW, F.LU_SEC_EVMASK_J0_NEW, F.LU_SEC_EVMASK_BEACON_VALID, F.LU_SEC_EVMASK_S1_UNSTABLE, F.LU_SEC_EVMASK_MS_DEG, F.LU_SEC_EVMASK_MS_EXC, F.LU_SEC_EVMASK_MS_RDI, F.LU_SEC_EVMASK_MS_AIS, F.LU_SEC_EVMASK_RS_TIM, F.LU_SEC_EVMASK_LOF, F.LU_SEC_EVMASK_OOF, F.LU_SEC_EVMASK_LOS]⟩,
  ⟨0x1c, 0x4, 1, 0x4, 1, false,
    [F.LU_SEC_FRAME_CAND, F.LU_SEC_FRAME_B1_DROPS, F.LU_SEC_FRAME_ACQUIRED]⟩,
  ⟨0x20, 0x4, 1, 0x4, 1, false,
    [F.LU_SEC_KTX_MSP, F.LU_SEC_KTX_K1, F.LU_SEC_KTX_K2]⟩,
  ⟨0x24, 0x4, 1, 0x4, 1, false,
    [F.LU_SEC_KRX_K1_ACC, F.LU_SEC_KRX_K2_ACC]⟩,
  ⟨0x28, 0x4, 1, 0x4, 1, false,
    [F.LU_SEC_S1_S1_TX_OVR, F.LU_SEC_S1_S1_TX, F.LU_SEC_S1_S1_ACC]⟩,
  ⟨0x2c, 0x4, 1, 0x4, 1, false,
    [F.LU_SEC_OHSRC_K, F.LU_SEC_OHSRC_J0, F.LU_SEC_OHSRC_E1, F.LU_SEC_OHSRC_F1, F.LU_SEC_OHSRC_DCC_R, F.LU_SEC_OHSRC_DCC_M, F.LU_SEC_OHSRC_E2, F.LU_SEC_OHSRC_NAT]⟩,
  ⟨0x30, 0x4, 1, 0x4, 1, false,
    [F.LU_SEC_OHFILL_Z0, F.LU_SEC_OHFILL_DCC, F.LU_SEC_OHFILL_OW, F.LU_SEC_OHFILL_F1]⟩,
  ⟨0x34, 0x4, 1, 0x4, 1, false,
    [F.LU_SEC_BEACON_USER_USER]⟩,
  ⟨0x40, 0x4, 1, 0x4, 1, false,
    [F.LU_SEC_B1_LO_COUNT]⟩,
  ⟨0x44, 0x4, 1, 0x4, 1, false,
    [F.LU_SEC_B1_HI_COUNT]⟩,
  ⟨0x48, 0x4, 1, 0x4, 1, false,
    [F.LU_SEC_B2_LO_COUNT]⟩,
  ⟨0x4c, 0x4, 1, 0x4, 1, false,
    [F.LU_SEC_B2_HI_COUNT]⟩,
  ⟨0x50, 0x4, 1, 0x4, 1, false,
    [F.LU_SEC_REI_LO_COUNT]⟩,
  ⟨0x54, 0x4, 1, 0x4, 1, false,
    [F.LU_SEC_REI_HI_COUNT]⟩]

/-- Registers of the lu block, part 2. -/
def regTable_lu1 : List RegDef := [
  ⟨0x58, 0x4, 1, 0x4, 1, false,
    [F.LU_SEC_OOF_LO_COUNT]⟩,
  ⟨0x5c, 0x4, 1, 0x4, 1, false,
    [F.LU_SEC_OOF_HI_COUNT]⟩,
  ⟨0x100, 0x4, 16, 0x4, 1, false,
    [F.LU_SEC_J0_EXP_BYTES]⟩,
  ⟨0x140, 0x4, 16, 0x4, 1, false,
    [F.LU_SEC_J0_ACC_BYTES]⟩,
  ⟨0x180, 0x4, 16, 0x4, 1, false,
    [F.LU_SEC_J0_TX_BYTES]⟩,
  ⟨0x1c0, 0x4, 4, 0x4, 1, false,
    [F.LU_SEC_BEACON_RX_BYTES]⟩,
  ⟨0xa00, 0x4, 1, 0x4, 1, false,
    [F.LU_PATH_CTRL_STRUCT_REJ, F.LU_PATH_CTRL_J1TX_IDX, F.LU_PATH_CTRL_J1TX_64, F.LU_PATH_CTRL_SS_CHECK, F.LU_PATH_CTRL_JRN_EN]⟩,
  ⟨0xa10, 0x4, 4, 0x4, 1, false,
    [F.LU_PATH_PROFILE_DEGM, F.LU_PATH_PROFILE_DEGTHR, F.LU_PATH_PROFILE_RDI_FILT, F.LU_PATH_PROFILE_LBL_FILT, F.LU_PATH_PROFILE_UNEQ_AIS, F.LU_PATH_PROFILE_PLM_AIS, F.LU_PATH_PROFILE_TIM_AIS, F.LU_PATH_PROFILE_TIM_MON, F.LU_PATH_PROFILE_J1_64]⟩,
  ⟨0x800, 0x8, 64, 0x8, 1, false,
    [F.LU_PATH_STRUCT0_MODE, F.LU_PATH_STRUCT0_NC, F.LU_PATH_STRUCT0_TUG2MAP, F.LU_PATH_STRUCT0_TU2TYPE_0]⟩,
  ⟨0x804, 0x8, 64, 0x8, 1, false,
    [F.LU_PATH_STRUCT1_TU2TYPE_2, F.LU_PATH_STRUCT1_TU2TYPE_1]⟩,
  ⟨0xa20, 0x4, 1, 0x4, 1, false,
    [F.LU_PATH_IND_CTRL_GO, F.LU_PATH_IND_CTRL_WRITE, F.LU_PATH_IND_CTRL_AU3, F.LU_PATH_IND_CTRL_TA]⟩,
  ⟨0xa24, 0x4, 1, 0x4, 1, false,
    [F.LU_PATH_IND_STATUS_DONE, F.LU_PATH_IND_STATUS_ERR]⟩,
  ⟨0xa40, 0x4, 1, 0x4, 1, false,
    [F.LU_PATH_TCAP_CTRL_ARM, F.LU_PATH_TCAP_CTRL_CAPTURED, F.LU_PATH_TCAP_CTRL_AU3, F.LU_PATH_TCAP_CTRL_TA]⟩,
  ⟨0xa28, 0x4, 1, 0x4, 1, false,
    [F.LU_PATH_IND_DATA0_PROFILE, F.LU_PATH_IND_DATA0_TRACE_EXP, F.LU_PATH_IND_DATA0_TRACE_IDX, F.LU_PATH_IND_DATA0_EXP_LABEL]⟩,
  ⟨0xa2c, 0x4, 1, 0x4, 1, false,
    [F.LU_PATH_IND_DATA1_DEFECTS, F.LU_PATH_IND_DATA1_ACC_LABEL, F.LU_PATH_IND_DATA1_PTR_STATE]⟩,
  ⟨0xa30, 0x4, 1, 0x4, 1, false,
    [F.LU_PATH_IND_DATA2_OUT_PTR, F.LU_PATH_IND_DATA2_IN_PTR]⟩,
  ⟨0xa34, 0x4, 1, 0x4, 1, false,
    [F.LU_PATH_IND_DATA3_TRACE_SIG]⟩,
  ⟨0xa80, 0x4, 1, 0x4, 1, false,
    [F.LU_PATH_PJ_INC_LO_COUNT]⟩,
  ⟨0xa84, 0x4, 1, 0x4, 1, false,
    [F.LU_PATH_PJ_INC_HI_COUNT]⟩,
  ⟨0xa88, 0x4, 1, 0x4, 1, false,
    [F.LU_PATH_PJ_DEC_LO_COUNT]⟩]

/-- Registers of the lu block, part 3. -/
def regTable_lu2 : List RegDef := [
  ⟨0xa8c, 0x4, 1, 0x4, 1, false,
    [F.LU_PATH_PJ_DEC_HI_COUNT]⟩,
  ⟨0xa90, 0x4, 1, 0x4, 1, false,
    [F.LU_PATH_NDF_LO_COUNT]⟩,
  ⟨0xa94, 0x4, 1, 0x4, 1, false,
    [F.LU_PATH_NDF_HI_COUNT]⟩,
  ⟨0xa98, 0x4, 1, 0x4, 1, false,
    [F.LU_PATH_GEN_PJ_LO_COUNT]⟩,
  ⟨0xa9c, 0x4, 1, 0x4, 1, false,
    [F.LU_PATH_GEN_PJ_HI_COUNT]⟩,
  ⟨0xaa0, 0x4, 1, 0x4, 1, false,
    [F.LU_PATH_GEN_NDF_LO_COUNT]⟩,
  ⟨0xaa4, 0x4, 1, 0x4, 1, false,
    [F.LU_PATH_GEN_NDF_HI_COUNT]⟩,
  ⟨0xaa8, 0x4, 1, 0x4, 1, false,
    [F.LU_PATH_STRAY_LO_COUNT]⟩,
  ⟨0xaac, 0x4, 1, 0x4, 1, false,
    [F.LU_PATH_STRAY_HI_COUNT]⟩,
  ⟨0xb00, 0x4, 16, 0x4, 1, false,
    [F.LU_PATH_TCAP_BYTES]⟩,
  ⟨0x1000, 0x4, 1024, 0x4, 1, false,
    [F.LU_PATH_TRACE_BYTES]⟩,
  ⟨0x2000, 0x4, 1, 0x4, 1, false,
    [F.LU_TG_CTRL_BLK_THR]⟩,
  ⟨0x2004, 0x4, 1, 0x4, 1, false,
    [F.LU_TG_STATUS_CAP_NEW, F.LU_TG_STATUS_VOID_RX, F.LU_TG_STATUS_BLK_EXC, F.LU_TG_STATUS_FN_SKEW, F.LU_TG_STATUS_HDR_ERR, F.LU_TG_STATUS_FAILED]⟩,
  ⟨0x2008, 0x4, 1, 0x4, 1, false,
    [F.LU_TG_STICKY_CAP_NEW, F.LU_TG_STICKY_VOID_RX, F.LU_TG_STICKY_BLK_EXC, F.LU_TG_STICKY_FN_SKEW, F.LU_TG_STICKY_HDR_ERR, F.LU_TG_STICKY_FAILED]⟩,
  ⟨0x200c, 0x4, 1, 0x4, 1, false,
    [F.LU_TG_EVMASK_CAP_NEW, F.LU_TG_EVMASK_VOID_RX, F.LU_TG_EVMASK_BLK_EXC, F.LU_TG_EVMASK_FN_SKEW, F.LU_TG_EVMASK_HDR_ERR, F.LU_TG_EVMASK_FAILED]⟩,
  ⟨0x2010, 0x4, 1, 0x4, 1, false,
    [F.LU_TG_RX0_FN]⟩,
  ⟨0x2014, 0x4, 1, 0x4, 1, false,
    [F.LU_TG_RX1_FLAGS, F.LU_TG_RX1_SRC]⟩,
  ⟨0x2018, 0x4, 1, 0x4, 1, false,
    [F.LU_TG_RX2_CAP]⟩,
  ⟨0x2020, 0x4, 1, 0x4, 1, false,
    [F.LU_TG_BLK_LO_COUNT]⟩,
  ⟨0x2024, 0x4, 1, 0x4, 1, false,
    [F.LU_TG_BLK_HI_COUNT]⟩]

/-- Registers of the lu block, part 4. -/
def regTable_lu3 : List RegDef := [
  ⟨0x2028, 0x4, 1, 0x4, 1, false,
    [F.LU_TG_HDR_LO_COUNT]⟩,
  ⟨0x202c, 0x4, 1, 0x4, 1, false,
    [F.LU_TG_HDR_HI_COUNT]⟩,
  ⟨0x2030, 0x4, 1, 0x4, 1, false,
    [F.LU_TG_VOID_LO_COUNT]⟩,
  ⟨0x2034, 0x4, 1, 0x4, 1, false,
    [F.LU_TG_VOID_HI_COUNT]⟩,
  ⟨0x2200, 0x4, 1, 0x4, 1, false,
    [F.LU_SENSE_CTRL_START, F.LU_SENSE_CTRL_VF]⟩,
  ⟨0x2204, 0x4, 1, 0x4, 1, false,
    [F.LU_SENSE_STATUS_BUSY, F.LU_SENSE_STATUS_DONE, F.LU_SENSE_STATUS_CODE, F.LU_SENSE_STATUS_NO_END, F.LU_SENSE_STATUS_TERM_NEW, F.LU_SENSE_STATUS_PARTNER_NEW, F.LU_SENSE_STATUS_TERM]⟩,
  ⟨0x2208, 0x4, 1, 0x4, 1, false,
    [F.LU_TDR_CABLE_LENGTH]⟩,
  ⟨0x220c, 0x4, 1, 0x4, 1, false,
    [F.LU_TDR_LOAD_LOAD_OHM]⟩,
  ⟨0x2210, 0x4, 1, 0x4, 1, false,
    [F.LU_TDR_TRACE_DELAY]⟩,
  ⟨0x2214, 0x4, 1, 0x4, 1, false,
    [F.LU_PARTNER0_KIND, F.LU_PARTNER0_LOOP, F.LU_PARTNER0_SIDE, F.LU_PARTNER0_CAP, F.LU_PARTNER0_RATE, F.LU_PARTNER0_PEER_LU]⟩,
  ⟨0x2218, 0x4, 1, 0x4, 1, false,
    [F.LU_PARTNER1_SERIAL]⟩]

def regTable_lu : List RegDef := regTable_lu0 ++ regTable_lu1 ++ regTable_lu2 ++ regTable_lu3

/-- Registers of the pair block. -/
def regTable_pair0 : List RegDef := [
  ⟨0x0, 0x4, 1, 0x4, 1, false,
    [F.PAIR_CTRL_HO_LEAD, F.PAIR_CTRL_SHADOW_EN, F.PAIR_CTRL_ALIGN_EN, F.PAIR_CTRL_SW_OK]⟩,
  ⟨0x4, 0x4, 1, 0x4, 1, false,
    [F.PAIR_STATUS_ROLE, F.PAIR_STATUS_SIDE, F.PAIR_STATUS_ARB_SEL, F.PAIR_STATUS_YOKE_LOW, F.PAIR_STATUS_YOKE_HELD, F.PAIR_STATUS_HEALTH, F.PAIR_STATUS_MATE_UP, F.PAIR_STATUS_MATE_ACTIVE, F.PAIR_STATUS_ALIGNED, F.PAIR_STATUS_HO_STATE]⟩,
  ⟨0x8, 0x4, 1, 0x4, 1, false,
    [F.PAIR_HO_FN_FN]⟩,
  ⟨0xc, 0x4, 1, 0x4, 1, false,
    [F.PAIR_OFFSET_DELTA]⟩,
  ⟨0x10, 0x4, 1, 0x4, 1, false,
    [F.PAIR_HEALTH_CAUSE_CAUSE]⟩,
  ⟨0x14, 0x4, 1, 0x4, 1, false,
    [F.PAIR_MATE_DLY_D_TX, F.PAIR_MATE_DLY_D_RX]⟩,
  ⟨0x18, 0x4, 1, 0x4, 1, false,
    [F.PAIR_SHADOW_LU_LU]⟩,
  ⟨0x400, 0x4, 128, 0x4, 1, false,
    [F.PAIR_LU_DLY_DLY, F.PAIR_LU_DLY_MATE_DLY]⟩,
  ⟨0x20, 0x4, 1, 0x4, 1, false,
    [F.PAIR_HO_PLANNED_LO_COUNT]⟩,
  ⟨0x24, 0x4, 1, 0x4, 1, false,
    [F.PAIR_HO_PLANNED_HI_COUNT]⟩,
  ⟨0x28, 0x4, 1, 0x4, 1, false,
    [F.PAIR_HO_UNPLANNED_LO_COUNT]⟩,
  ⟨0x2c, 0x4, 1, 0x4, 1, false,
    [F.PAIR_HO_UNPLANNED_HI_COUNT]⟩,
  ⟨0x30, 0x4, 1, 0x4, 1, false,
    [F.PAIR_SHADOW_MISS_LO_COUNT]⟩,
  ⟨0x34, 0x4, 1, 0x4, 1, false,
    [F.PAIR_SHADOW_MISS_HI_COUNT]⟩]

def regTable_pair : List RegDef := regTable_pair0

/-- Registers of the time block, part 1. -/
def regTable_time0 : List RegDef := [
  ⟨0x0, 0x4, 1, 0x4, 1, false,
    [F.TIME_CTRL_DISPUTE_LIM, F.TIME_CTRL_HOLD_QL, F.TIME_CTRL_NOQL_S1, F.TIME_CTRL_QL_OPT, F.TIME_CTRL_QL_EN]⟩,
  ⟨0x4, 0x4, 1, 0x4, 1, false,
    [F.TIME_STATUS_MAIN_STATE, F.TIME_STATUS_SWITCHING, F.TIME_STATUS_HIST_VALID, F.TIME_STATUS_MAIN_REF, F.TIME_STATUS_MAIN_QL, F.TIME_STATUS_STN_STATE, F.TIME_STATUS_AUX_STATE, F.TIME_STATUS_TB_LOCK]⟩,
  ⟨0x10, 0x4, 1, 0x4, 1, false,
    [F.TIME_MAIN_CFG_BW, F.TIME_MAIN_CFG_FSLEW, F.TIME_MAIN_CFG_HIST_GUARD, F.TIME_MAIN_CFG_HIST_WIN]⟩,
  ⟨0x14, 0x4, 1, 0x4, 1, false,
    [F.TIME_MAIN_CMD_CMD, F.TIME_MAIN_CMD_REF]⟩,
  ⟨0x18, 0x4, 1, 0x4, 1, false,
    [F.TIME_MAIN_HOLD_HOLD_FREQ]⟩,
  ⟨0x1c, 0x4, 1, 0x4, 1, false,
    [F.TIME_MAIN_PHASE_PHASE]⟩,
  ⟨0x20, 0x4, 1, 0x4, 1, false,
    [F.TIME_MAIN_FREQ_FREQ]⟩,
  ⟨0x30, 0x4, 1, 0x4, 1, false,
    [F.TIME_STN_CFG_SRC, F.TIME_STN_CFG_BW, F.TIME_STN_CFG_QL_MIN]⟩,
  ⟨0x34, 0x4, 1, 0x4, 1, false,
    [F.TIME_AUX_CFG_SRC, F.TIME_AUX_CFG_BW]⟩,
  ⟨0x40, 0x4, 4, 0x4, 1, false,
    [F.TIME_STN_OUT_ENABLE, F.TIME_STN_OUT_DRIVER, F.TIME_STN_OUT_SQUELCH_EN, F.TIME_STN_OUT_SQUELCHED, F.TIME_STN_OUT_FREQ]⟩,
  ⟨0x60, 0x4, 1, 0x4, 1, false,
    [F.TIME_SYNC_CTRL_ALIGN, F.TIME_SYNC_CTRL_SET_SEC, F.TIME_SYNC_CTRL_OUT_MODE, F.TIME_SYNC_CTRL_IN_MODE, F.TIME_SYNC_CTRL_WIN]⟩,
  ⟨0x64, 0x4, 1, 0x4, 1, false,
    [F.TIME_SYNC_STATUS_ALIGN_PEND, F.TIME_SYNC_STATUS_SET_PEND, F.TIME_SYNC_STATUS_REJ, F.TIME_SYNC_STATUS_SYNC_LOS, F.TIME_SYNC_STATUS_SYNC_ERR, F.TIME_SYNC_STATUS_MISS]⟩,
  ⟨0x68, 0x4, 1, 0x4, 1, false,
    [F.TIME_SYNC_OFS_OFS]⟩,
  ⟨0x70, 0x4, 1, 0x4, 1, false,
    [F.TIME_TB_W0_NS_LO, F.TIME_TB_W0_SUBNS]⟩,
  ⟨0x74, 0x4, 1, 0x4, 1, false,
    [F.TIME_TB_W1_SEC_LO, F.TIME_TB_W1_NS_HI]⟩,
  ⟨0x78, 0x4, 1, 0x4, 1, false,
    [F.TIME_TB_W2_SEC_HI]⟩,
  ⟨0x7c, 0x4, 1, 0x4, 1, false,
    [F.TIME_TB_FN_FN]⟩,
  ⟨0x80, 0x4, 1, 0x4, 1, false,
    [F.TIME_TB_SET_LO_SEC_LO]⟩,
  ⟨0x84, 0x4, 1, 0x4, 1, false,
    [F.TIME_TB_SET_HI_SEC_HI]⟩,
  ⟨0x100, 0x20, 16, 0x20, 1, false,
    [F.TIME_REF_CFG0_ENABLE, F.TIME_REF_CFG0_LOCKOUT, F.TIME_REF_CFG0_PRIORITY, F.TIME_REF_CFG0_QL_SRC, F.TIME_REF_CFG0_QL_CFG, F.TIME_REF_CFG0_LU, F.TIME_REF_CFG0_FREQ, F.TIME_REF_CFG0_WTR]⟩]

/-- Registers of the time block, part 2. -/
def regTable_time1 : List RegDef := [
  ⟨0x104, 0x20, 16, 0x20, 1, false,
    [F.TIME_REF_CFG1_REJECT, F.TIME_REF_CFG1_ACCEPT, F.TIME_REF_CFG1_ACT_N, F.TIME_REF_CFG1_GATE]⟩,
  ⟨0x108, 0x20, 16, 0x20, 1, false,
    [F.TIME_REF_STATUS_QSTATE, F.TIME_REF_STATUS_ACTIVE, F.TIME_REF_STATUS_IN_ACCEPT, F.TIME_REF_STATUS_SELECTABLE, F.TIME_REF_STATUS_DISPUTED, F.TIME_REF_STATUS_QL_EFF, F.TIME_REF_STATUS_QL_INV, F.TIME_REF_STATUS_WTR_LEFT]⟩,
  ⟨0x10c, 0x20, 16, 0x20, 1, false,
    [F.TIME_REF_FOFF_FOFF]⟩]

def regTable_time : List RegDef := regTable_time0 ++ regTable_time1

/-- Registers of the pm block. -/
def regTable_pm0 : List RegDef := [
  ⟨0x0, 0x4, 1, 0x4, 1, false,
    [F.PM_CTRL_DAY_OFS]⟩,
  ⟨0x4, 0x4, 1, 0x4, 1, false,
    [F.PM_CAP_SLOTS]⟩,
  ⟨0x8, 0x4, 1, 0x4, 1, false,
    [F.PM_USED_SLOTS]⟩,
  ⟨0xc, 0x4, 1, 0x4, 1, false,
    [F.PM_LAST_Q_Q]⟩,
  ⟨0x10, 0x4, 1, 0x4, 1, false,
    [F.PM_LAST_D_D]⟩,
  ⟨0x18, 0x4, 1, 0x4, 1, false,
    [F.PM_NOSLOT_LO_COUNT]⟩,
  ⟨0x1c, 0x4, 1, 0x4, 1, false,
    [F.PM_NOSLOT_HI_COUNT]⟩,
  ⟨0x20, 0x4, 1, 0x4, 1, true,
    [F.PM_IND_CTRL_GO, F.PM_IND_CTRL_OP, F.PM_IND_CTRL_LAYER, F.PM_IND_CTRL_AU3, F.PM_IND_CTRL_TA]⟩,
  ⟨0x24, 0x4, 1, 0x4, 1, true,
    [F.PM_IND_CFG_PROFILE, F.PM_IND_CFG_TCA_EN, F.PM_IND_CFG_BIDIR]⟩,
  ⟨0x28, 0x4, 1, 0x4, 1, false,
    [F.PM_IND_STATUS_DONE, F.PM_IND_STATUS_BUSY, F.PM_IND_STATUS_CODE, F.PM_IND_STATUS_SLOT]⟩,
  ⟨0x40, 0x4, 16, 0x4, 1, false,
    [F.PM_IND_DATA_WORD]⟩,
  ⟨0x100, 0x4, 1, 0x4, 1, false,
    [F.PM_TCA_STATUS_COUNT]⟩,
  ⟨0x104, 0x4, 1, 0x4, 1, false,
    [F.PM_TCA_DATA0_VALID, F.PM_TCA_DATA0_PARAM, F.PM_TCA_DATA0_LAYER, F.PM_TCA_DATA0_AU3, F.PM_TCA_DATA0_TA]⟩,
  ⟨0x108, 0x4, 1, 0x4, 1, false,
    [F.PM_TCA_DATA1_BIN]⟩,
  ⟨0x10c, 0x4, 1, 0x4, 1, false,
    [F.PM_TCA_DATA2_VALUE]⟩,
  ⟨0x200, 0x40, 8, 0x4, 16, false,
    [F.PM_TCA_PROF_THR]⟩,
  ⟨0x110, 0x4, 1, 0x4, 1, false,
    [F.PM_TCA_LOST_LO_COUNT]⟩,
  ⟨0x114, 0x4, 1, 0x4, 1, false,
    [F.PM_TCA_LOST_HI_COUNT]⟩]

def regTable_pm : List RegDef := regTable_pm0

/-- Registers of the skim block, part 1. -/
def regTable_skim0 : List RegDef := [
  ⟨0x0, 0x4, 1, 0x4, 1, false,
    [F.SKIM_STATUS_LIVE, F.SKIM_STATUS_SOURCES, F.SKIM_STATUS_RATE]⟩,
  ⟨0x10, 0x4, 1, 0x4, 1, true,
    [F.SKIM_TAP_CTRL_GO, F.SKIM_TAP_CTRL_OP, F.SKIM_TAP_CTRL_JOB, F.SKIM_TAP_CTRL_TAP, F.SKIM_TAP_CTRL_COUNT]⟩,
  ⟨0x14, 0x4, 1, 0x4, 1, true,
    [F.SKIM_TAP_TA_AU3, F.SKIM_TAP_TA_TA]⟩,
  ⟨0x18, 0x4, 1, 0x4, 1, false,
    [F.SKIM_TAP_STATUS_DONE, F.SKIM_TAP_STATUS_BUSY, F.SKIM_TAP_STATUS_CODE, F.SKIM_TAP_STATUS_INDEX]⟩,
  ⟨0x1c, 0x4, 1, 0x4, 1, true,
    [F.SKIM_TAP_FETCH_LO_ADDR_LO]⟩,
  ⟨0x20, 0x4, 1, 0x4, 1, true,
    [F.SKIM_TAP_FETCH_HI_ADDR_HI]⟩,
  ⟨0x100, 0x80, 8, 0x80, 1, false,
    [F.SKIM_JOB_CMD_ASAP, F.SKIM_JOB_CMD_OP]⟩,
  ⟨0x104, 0x80, 8, 0x80, 1, false,
    [F.SKIM_JOB_CFG_POLICY, F.SKIM_JOB_CFG_TRIG, F.SKIM_JOB_CFG_DRAIN_EN, F.SKIM_JOB_CFG_DRAIN_PORT, F.SKIM_JOB_CFG_STOP_FN_EN, F.SKIM_JOB_CFG_FLUSH]⟩,
  ⟨0x134, 0x80, 8, 0x80, 1, false,
    [F.SKIM_JOB_STATUS_STATE, F.SKIM_JOB_STATUS_END_CAUSE, F.SKIM_JOB_STATUS_CODE, F.SKIM_JOB_STATUS_LATE_STOP, F.SKIM_JOB_STATUS_OP_REFUSED, F.SKIM_JOB_STATUS_DRAIN_HALT, F.SKIM_JOB_STATUS_TRIGGERED, F.SKIM_JOB_STATUS_TRIG_SRC]⟩,
  ⟨0x108, 0x80, 8, 0x80, 1, false,
    [F.SKIM_JOB_START_FN_FN]⟩,
  ⟨0x10c, 0x80, 8, 0x80, 1, false,
    [F.SKIM_JOB_STOP_FN_FN]⟩,
  ⟨0x110, 0x80, 8, 0x80, 1, false,
    [F.SKIM_JOB_RING_LO_ADDR_LO]⟩,
  ⟨0x114, 0x80, 8, 0x80, 1, false,
    [F.SKIM_JOB_RING_HI_ADDR_HI]⟩,
  ⟨0x118, 0x80, 8, 0x80, 1, false,
    [F.SKIM_JOB_RING_SIZE_SIZE]⟩,
  ⟨0x11c, 0x80, 8, 0x80, 1, false,
    [F.SKIM_JOB_PRE_PRE]⟩,
  ⟨0x120, 0x80, 8, 0x80, 1, false,
    [F.SKIM_JOB_POST_POST]⟩,
  ⟨0x124, 0x80, 8, 0x4, 4, false,
    [F.SKIM_JOB_TRIG_PARAM]⟩,
  ⟨0x138, 0x80, 8, 0x80, 1, false,
    [F.SKIM_JOB_WR_COUNT]⟩,
  ⟨0x13c, 0x80, 8, 0x80, 1, false,
    [F.SKIM_JOB_RD_COUNT]⟩,
  ⟨0x140, 0x80, 8, 0x4, 3, false,
    [F.SKIM_JOB_TRIG_TS_TS]⟩]

/-- Registers of the skim block, part 2. -/
def regTable_skim1 : List RegDef := [
  ⟨0x14c, 0x80, 8, 0x80, 1, false,
    [F.SKIM_JOB_TRIG_SEQ_SEQ]⟩,
  ⟨0x150, 0x80, 8, 0x80, 1, false,
    [F.SKIM_JOB_DROP_LO_COUNT]⟩,
  ⟨0x154, 0x80, 8, 0x80, 1, false,
    [F.SKIM_JOB_DROP_HI_COUNT]⟩,
  ⟨0x158, 0x80, 8, 0x80, 1, false,
    [F.SKIM_JOB_OVER_LO_COUNT]⟩,
  ⟨0x15c, 0x80, 8, 0x80, 1, false,
    [F.SKIM_JOB_OVER_HI_COUNT]⟩,
  ⟨0x160, 0x80, 8, 0x80, 1, false,
    [F.SKIM_JOB_DROPG_LO_COUNT]⟩,
  ⟨0x164, 0x80, 8, 0x80, 1, false,
    [F.SKIM_JOB_DROPG_HI_COUNT]⟩,
  ⟨0x17c, 0x80, 8, 0x80, 1, false,
    [F.SKIM_JOB_LOAD_SOURCES, F.SKIM_JOB_LOAD_RATE]⟩,
  ⟨0x168, 0x80, 8, 0x80, 1, false,
    [F.SKIM_JOB_DQ_LO_ADDR_LO]⟩,
  ⟨0x16c, 0x80, 8, 0x80, 1, false,
    [F.SKIM_JOB_DQ_HI_ADDR_HI]⟩,
  ⟨0x170, 0x80, 8, 0x80, 1, false,
    [F.SKIM_JOB_DQ_CTRL_SIZE_LOG2]⟩,
  ⟨0x174, 0x80, 8, 0x80, 1, false,
    [F.SKIM_JOB_DQ_POST_COUNT]⟩,
  ⟨0x178, 0x80, 8, 0x80, 1, false,
    [F.SKIM_JOB_DQ_DONE_COUNT]⟩,
  ⟨0x40, 0x4, 1, 0x4, 1, true,
    [F.SKIM_PRBS_CTRL_GO, F.SKIM_PRBS_CTRL_OP, F.SKIM_PRBS_CTRL_INDEX]⟩,
  ⟨0x44, 0x4, 1, 0x4, 1, true,
    [F.SKIM_PRBS_CFG_EN, F.SKIM_PRBS_CFG_POLY, F.SKIM_PRBS_CFG_INVERT, F.SKIM_PRBS_CFG_TAP]⟩,
  ⟨0x48, 0x4, 1, 0x4, 1, true,
    [F.SKIM_PRBS_TA_AU3, F.SKIM_PRBS_TA_TA]⟩,
  ⟨0x4c, 0x4, 1, 0x4, 1, false,
    [F.SKIM_PRBS_STATUS_DONE, F.SKIM_PRBS_STATUS_BUSY, F.SKIM_PRBS_STATUS_CODE]⟩,
  ⟨0x60, 0x4, 1, 0x4, 1, false,
    [F.SKIM_PRBS_DATA4_LOSSES, F.SKIM_PRBS_DATA4_ERR_WRAP, F.SKIM_PRBS_DATA4_BITS_WRAP, F.SKIM_PRBS_DATA4_SYNC]⟩,
  ⟨0x50, 0x4, 1, 0x4, 1, false,
    [F.SKIM_PRBS_DATA0_BITS]⟩,
  ⟨0x54, 0x4, 1, 0x4, 1, false,
    [F.SKIM_PRBS_DATA1_BITS]⟩]

/-- Registers of the skim block, part 3. -/
def regTable_skim2 : List RegDef := [
  ⟨0x58, 0x4, 1, 0x4, 1, false,
    [F.SKIM_PRBS_DATA2_ERRORS]⟩,
  ⟨0x5c, 0x4, 1, 0x4, 1, false,
    [F.SKIM_PRBS_DATA3_ERRORS]⟩,
  ⟨0x600, 0x4, 256, 0x4, 1, false,
    [F.SKIM_PRBS_CHANGED_CHANGED]⟩]

def regTable_skim : List RegDef := regTable_skim0 ++ regTable_skim1 ++ regTable_skim2

/-- Registers of the pour block, part 1. -/
def regTable_pour0 : List RegDef := [
  ⟨0x10, 0x4, 1, 0x4, 1, true,
    [F.POUR_TGT_CTRL_GO, F.POUR_TGT_CTRL_OP, F.POUR_TGT_CTRL_JOB, F.POUR_TGT_CTRL_TAP, F.POUR_TGT_CTRL_COUNT]⟩,
  ⟨0x14, 0x4, 1, 0x4, 1, true,
    [F.POUR_TGT_TA_AU3, F.POUR_TGT_TA_TA]⟩,
  ⟨0x18, 0x4, 1, 0x4, 1, true,
    [F.POUR_TGT_STATUS_DONE, F.POUR_TGT_STATUS_BUSY, F.POUR_TGT_STATUS_CODE, F.POUR_TGT_STATUS_INDEX]⟩,
  ⟨0x1c, 0x4, 1, 0x4, 1, true,
    [F.POUR_TGT_FETCH_LO_ADDR_LO]⟩,
  ⟨0x20, 0x4, 1, 0x4, 1, true,
    [F.POUR_TGT_FETCH_HI_ADDR_HI]⟩,
  ⟨0x0, 0x4, 1, 0x4, 1, false,
    [F.POUR_STATUS_LIVE, F.POUR_STATUS_RATE]⟩,
  ⟨0x104, 0x80, 8, 0x80, 1, false,
    [F.POUR_JOB_CFG_SOURCE, F.POUR_JOB_CFG_FMT, F.POUR_JOB_CFG_POLY, F.POUR_JOB_CFG_INVERT, F.POUR_JOB_CFG_OH_CALC, F.POUR_JOB_CFG_FIXED]⟩,
  ⟨0x108, 0x80, 8, 0x80, 1, false,
    [F.POUR_JOB_LOOP_PLAYS]⟩,
  ⟨0x10c, 0x80, 8, 0x80, 1, false,
    [F.POUR_JOB_START_FN_FN]⟩,
  ⟨0x134, 0x80, 8, 0x80, 1, false,
    [F.POUR_JOB_STATUS_STATE, F.POUR_JOB_STATUS_END_CAUSE, F.POUR_JOB_STATUS_CODE, F.POUR_JOB_STATUS_LATE_STOP, F.POUR_JOB_STATUS_OP_REFUSED, F.POUR_JOB_STATUS_UNDERRUN]⟩,
  ⟨0x138, 0x80, 8, 0x80, 1, false,
    [F.POUR_JOB_PLAYED_COUNT]⟩,
  ⟨0x13c, 0x80, 8, 0x80, 1, false,
    [F.POUR_JOB_LOAD_TARGETS, F.POUR_JOB_LOAD_RATE]⟩,
  ⟨0x100, 0x80, 8, 0x80, 1, false,
    [F.POUR_JOB_CMD_ASAP, F.POUR_JOB_CMD_OP]⟩,
  ⟨0x140, 0x80, 8, 0x80, 1, false,
    [F.POUR_JOB_UNDER_LO_COUNT]⟩,
  ⟨0x144, 0x80, 8, 0x80, 1, false,
    [F.POUR_JOB_UNDER_HI_COUNT]⟩,
  ⟨0x110, 0x80, 8, 0x80, 1, false,
    [F.POUR_JOB_PAT_LO_ADDR_LO]⟩,
  ⟨0x114, 0x80, 8, 0x80, 1, false,
    [F.POUR_JOB_PAT_HI_ADDR_HI]⟩,
  ⟨0x118, 0x80, 8, 0x80, 1, false,
    [F.POUR_JOB_PAT_LEN_WORDS]⟩,
  ⟨0x11c, 0x80, 8, 0x80, 1, false,
    [F.POUR_JOB_POH_OFFSET, F.POUR_JOB_POH_J_64, F.POUR_JOB_POH_J_IDX, F.POUR_JOB_POH_LABEL]⟩,
  ⟨0x120, 0x80, 8, 0x80, 1, false,
    [F.POUR_JOB_INJ_ARM, F.POUR_JOB_INJ_WHAT, F.POUR_JOB_INJ_MODE, F.POUR_JOB_INJ_BITS]⟩]

/-- Registers of the pour block, part 2. -/
def regTable_pour1 : List RegDef := [
  ⟨0x124, 0x80, 8, 0x80, 1, false,
    [F.POUR_JOB_INJ_CNT_PERIOD, F.POUR_JOB_INJ_CNT_COUNT]⟩,
  ⟨0x128, 0x80, 8, 0x80, 1, false,
    [F.POUR_JOB_SCR_LO_ADDR_LO]⟩,
  ⟨0x12c, 0x80, 8, 0x80, 1, false,
    [F.POUR_JOB_SCR_HI_ADDR_HI]⟩,
  ⟨0x130, 0x80, 8, 0x80, 1, false,
    [F.POUR_JOB_SCR_CTRL_SCR_EN, F.POUR_JOB_SCR_CTRL_SCRIPT_DONE, F.POUR_JOB_SCR_CTRL_STEP, F.POUR_JOB_SCR_CTRL_STEPS]⟩]

def regTable_pour : List RegDef := regTable_pour0 ++ regTable_pour1

/-- Registers of the wb block, part 1. -/
def regTable_wb0 : List RegDef := [
  ⟨0x0, 0x4, 42, 0x4, 1, false,
    [F.WB_OWN_PRESENT, F.WB_OWN_RETIRED, F.WB_OWN_PENDING, F.WB_OWN_ON_LOAN, F.WB_OWN_LEND, F.WB_OWN_CLAIM, F.WB_OWN_URGENT, F.WB_OWN_OWNER]⟩,
  ⟨0x100, 0x4, 1, 0x4, 1, false,
    [F.WB_STATUS_OWN_REJ, F.WB_STATUS_REJ_CAUSE, F.WB_STATUS_REJ_BANK, F.WB_STATUS_BANKS]⟩,
  ⟨0x104, 0x4, 1, 0x4, 1, false,
    [F.WB_VIOL_LAST_VALID, F.WB_VIOL_LAST_MASTER, F.WB_VIOL_LAST_BANK]⟩,
  ⟨0x108, 0x4, 1, 0x4, 1, false,
    [F.WB_ERR_LAST_UE, F.WB_ERR_LAST_BANK, F.WB_ERR_LAST_WORD]⟩,
  ⟨0x200, 0x4, 1, 0x4, 1, false,
    [F.WB_CE_LO_COUNT]⟩,
  ⟨0x204, 0x4, 1, 0x4, 1, false,
    [F.WB_CE_HI_COUNT]⟩,
  ⟨0x208, 0x4, 1, 0x4, 1, false,
    [F.WB_UE_LO_COUNT]⟩,
  ⟨0x20c, 0x4, 1, 0x4, 1, false,
    [F.WB_UE_HI_COUNT]⟩,
  ⟨0x210, 0x4, 1, 0x4, 1, false,
    [F.WB_VIOL_LO_COUNT]⟩,
  ⟨0x214, 0x4, 1, 0x4, 1, false,
    [F.WB_VIOL_HI_COUNT]⟩,
  ⟨0x300, 0x8, 42, 0x8, 1, false,
    [F.WB_RACE_LO_COUNT]⟩,
  ⟨0x304, 0x8, 42, 0x8, 1, false,
    [F.WB_RACE_HI_COUNT]⟩,
  ⟨0x500, 0x4, 1, 0x4, 1, false,
    [F.SIEVE_CTRL_EN, F.SIEVE_CTRL_LEND_IDLE, F.SIEVE_CTRL_PATROL_H]⟩,
  ⟨0x504, 0x4, 1, 0x4, 1, false,
    [F.SIEVE_STATUS_BUSY, F.SIEVE_STATUS_BANK]⟩,
  ⟨0x508, 0x4, 1, 0x4, 1, false,
    [F.SIEVE_FAULT_LAST_VALID, F.SIEVE_FAULT_LAST_BANK, F.SIEVE_FAULT_LAST_WORD]⟩,
  ⟨0x510, 0x4, 1, 0x4, 1, false,
    [F.SIEVE_PASS_LO_COUNT]⟩,
  ⟨0x514, 0x4, 1, 0x4, 1, false,
    [F.SIEVE_PASS_HI_COUNT]⟩,
  ⟨0x518, 0x4, 1, 0x4, 1, false,
    [F.SIEVE_ABANDON_LO_COUNT]⟩,
  ⟨0x51c, 0x4, 1, 0x4, 1, false,
    [F.SIEVE_ABANDON_HI_COUNT]⟩,
  ⟨0x520, 0x4, 1, 0x4, 1, false,
    [F.SIEVE_FAULT_LO_COUNT]⟩]

/-- Registers of the wb block, part 2. -/
def regTable_wb1 : List RegDef := [
  ⟨0x524, 0x4, 1, 0x4, 1, false,
    [F.SIEVE_FAULT_HI_COUNT]⟩]

def regTable_wb : List RegDef := regTable_wb0 ++ regTable_wb1

/-- Registers of the matrix block. -/
def regTable_matrix0 : List RegDef := [
  ⟨0x0, 0x4, 1, 0x4, 1, false,
    [F.MATRIX_MODE_KEEP]⟩,
  ⟨0x4, 0x4, 1, 0x4, 1, false,
    [F.MATRIX_MRST_RESET]⟩,
  ⟨0x8, 0x4, 1, 0x4, 1, false,
    [F.MATRIX_MRST_BUSY_BUSY]⟩,
  ⟨0xc, 0x4, 1, 0x4, 1, false,
    [F.MATRIX_DENY_LAST_VALID, F.MATRIX_DENY_LAST_MASTER, F.MATRIX_DENY_LAST_TARGET]⟩,
  ⟨0x80, 0x4, 19, 0x4, 1, false,
    [F.MATRIX_OUT_COUNT]⟩,
  ⟨0x100, 0x8, 19, 0x8, 1, false,
    [F.MATRIX_RST_BEATS_WR_BEATS, F.MATRIX_RST_BEATS_RD_BEATS]⟩,
  ⟨0x104, 0x8, 19, 0x8, 1, false,
    [F.MATRIX_RST_FN_FN]⟩,
  ⟨0x10, 0x4, 1, 0x4, 1, false,
    [F.MATRIX_DENY_LO_COUNT]⟩,
  ⟨0x14, 0x4, 1, 0x4, 1, false,
    [F.MATRIX_DENY_HI_COUNT]⟩]

def regTable_matrix : List RegDef := regTable_matrix0

/-- Registers of the evt block. -/
def regTable_evt0 : List RegDef := [
  ⟨0x0, 0x4, 1, 0x4, 1, false,
    [F.EVT_CTRL_PORT, F.EVT_CTRL_ACK, F.EVT_CTRL_BRST, F.EVT_CTRL_ENGINES, F.EVT_CTRL_CLR_REJ, F.EVT_CTRL_FORCE_REJ, F.EVT_CTRL_CFG_REJ, F.EVT_CTRL_PENDING]⟩,
  ⟨0x4, 0x4, 1, 0x4, 1, false,
    [F.EVT_LIVE_LIVE]⟩,
  ⟨0x8, 0x4, 1, 0x4, 1, false,
    [F.EVT_STICKY_STICKY]⟩,
  ⟨0xc, 0x4, 1, 0x4, 1, false,
    [F.EVT_SEVERE_SEVERE]⟩,
  ⟨0x10, 0x4, 1, 0x4, 1, false,
    [F.EVT_ENABLE_ENABLE]⟩,
  ⟨0x14, 0x4, 1, 0x4, 1, false,
    [F.EVT_FORCE_FORCE]⟩,
  ⟨0x18, 0x4, 1, 0x4, 1, false,
    [F.EVT_FIRST0_VALID, F.EVT_FIRST0_OVF, F.EVT_FIRST0_CLASS, F.EVT_FIRST0_SOURCE]⟩,
  ⟨0x1c, 0x4, 1, 0x4, 1, false,
    [F.EVT_FIRST1_FN]⟩,
  ⟨0x20, 0x4, 1, 0x4, 1, false,
    [F.EVT_FIRST2_NS]⟩,
  ⟨0x24, 0x4, 1, 0x4, 1, false,
    [F.EVT_FIRST3_DETAIL]⟩,
  ⟨0x100, 0x8, 32, 0x8, 1, false,
    [F.EVT_CFG_CLASS, F.EVT_CFG_AUTO, F.EVT_CFG_N, F.EVT_CFG_WCOUNT]⟩,
  ⟨0x104, 0x8, 32, 0x8, 1, false,
    [F.EVT_WIN_WINDOW_MS]⟩,
  ⟨0x300, 0x4, 32, 0x4, 1, false,
    [F.EVT_DETAIL_DETAIL]⟩,
  ⟨0x200, 0x8, 32, 0x8, 1, false,
    [F.EVT_TOTAL_LO_COUNT]⟩,
  ⟨0x204, 0x8, 32, 0x8, 1, false,
    [F.EVT_TOTAL_HI_COUNT]⟩]

def regTable_evt : List RegDef := regTable_evt0

/-- Registers of the evtsum block. -/
def regTable_evtsum0 : List RegDef := [
  ⟨0x0, 0x4, 1, 0x4, 1, false,
    [F.EVT_SUM_STATUS_GRAVE, F.EVT_SUM_STATUS_TEST_MODE, F.EVT_SUM_STATUS_FAULT_LOW, F.EVT_SUM_STATUS_PULSE, F.EVT_SUM_STATUS_FAULT_HOLD]⟩,
  ⟨0x10, 0x4, 6, 0x4, 1, false,
    [F.EVT_SUM_PEND_PEND]⟩,
  ⟨0x30, 0x4, 6, 0x4, 1, false,
    [F.EVT_SUM_SEVERE_SEVERE]⟩,
  ⟨0x50, 0x4, 1, 0x4, 1, false,
    [F.EVT_PKG_FIRST0_VALID, F.EVT_PKG_FIRST0_OVF, F.EVT_PKG_FIRST0_CLASS, F.EVT_PKG_FIRST0_BLOCK, F.EVT_PKG_FIRST0_SOURCE]⟩,
  ⟨0x60, 0x4, 1, 0x4, 1, false,
    [F.EVT_GRAVE0_VALID, F.EVT_GRAVE0_BLOCK, F.EVT_GRAVE0_SOURCE]⟩,
  ⟨0x54, 0x4, 1, 0x4, 1, false,
    [F.EVT_PKG_FIRST1_FN]⟩,
  ⟨0x64, 0x4, 1, 0x4, 1, false,
    [F.EVT_GRAVE1_FN]⟩,
  ⟨0x58, 0x4, 1, 0x4, 1, false,
    [F.EVT_PKG_FIRST2_NS]⟩,
  ⟨0x68, 0x4, 1, 0x4, 1, false,
    [F.EVT_GRAVE2_NS]⟩,
  ⟨0x70, 0x4, 1, 0x4, 1, false,
    [F.EVT_FAULT_PULSES_LO_COUNT]⟩,
  ⟨0x74, 0x4, 1, 0x4, 1, false,
    [F.EVT_FAULT_PULSES_HI_COUNT]⟩]

def regTable_evtsum : List RegDef := regTable_evtsum0

/-- Registers of the mon block. -/
def regTable_mon0 : List RegDef := [
  ⟨0x0, 0x4, 1, 0x4, 1, false,
    [F.MON_CTRL_PAIR_AUTO, F.MON_CTRL_TDR_TOL]⟩,
  ⟨0x4, 0x4, 1, 0x4, 1, false,
    [F.MON_STATUS_SELF_FAIL]⟩,
  ⟨0x100, 0x4, 32, 0x4, 1, false,
    [F.MON_VOLT_WARN, F.MON_VOLT_CRIT, F.MON_VOLT_MV]⟩,
  ⟨0x200, 0x8, 7, 0x8, 1, false,
    [F.MON_RAIL_WARN_LOW, F.MON_RAIL_WARN_HIGH]⟩,
  ⟨0x204, 0x8, 7, 0x8, 1, false,
    [F.MON_RAIL_CRIT_LOW, F.MON_RAIL_CRIT_HIGH]⟩,
  ⟨0x300, 0x4, 16, 0x4, 1, false,
    [F.MON_TEMP_WARN, F.MON_TEMP_CRIT, F.MON_TEMP_TEMP]⟩,
  ⟨0x340, 0x4, 1, 0x4, 1, false,
    [F.MON_TEMP_LIM_WARN, F.MON_TEMP_LIM_CRIT]⟩,
  ⟨0x380, 0x4, 8, 0x4, 1, false,
    [F.MON_AGE_NOBASE, F.MON_AGE_PROC, F.MON_AGE_DEGR]⟩,
  ⟨0x3a0, 0x4, 1, 0x4, 1, false,
    [F.MON_AGE_MARGIN_MARGIN]⟩]

def regTable_mon : List RegDef := regTable_mon0

/-- Registers of the cal block. -/
def regTable_cal0 : List RegDef := [
  ⟨0x0, 0x4, 1, 0x4, 1, false,
    [F.CAL_CTRL_VIEW, F.CAL_CTRL_PAGE]⟩,
  ⟨0x4, 0x4, 1, 0x4, 1, false,
    [F.CAL_CMD_AGE_OK, F.CAL_CMD_PARTS, F.CAL_CMD_OP]⟩,
  ⟨0x8, 0x4, 1, 0x4, 1, false,
    [F.CAL_STATUS_VALID, F.CAL_STATUS_BUSY, F.CAL_STATUS_DONE, F.CAL_STATUS_CODE, F.CAL_STATUS_ORIGIN]⟩,
  ⟨0xc, 0x4, 1, 0x4, 1, false,
    [F.CAL_SET_COUNT_COUNT]⟩]

def regTable_cal : List RegDef := regTable_cal0

/-- Registers of the pkg block. -/
def regTable_pkg0 : List RegDef := [
  ⟨0x40, 0x4, 1, 0x4, 1, false,
    [F.PKG_RST_CAUSE_POR, F.PKG_RST_CAUSE_RESET_N, F.PKG_RST_CAUSE_PERST_A, F.PKG_RST_CAUSE_PERST_B, F.PKG_RST_CAUSE_HELD]⟩,
  ⟨0x44, 0x4, 1, 0x4, 1, false,
    [F.PKG_START_SIDE, F.PKG_START_TEST_MODE, F.PKG_START_BOOT, F.PKG_START_STEP, F.PKG_START_ELAPSED]⟩,
  ⟨0x0, 0x4, 1, 0x4, 1, false,
    [F.PKG_ID_PART, F.PKG_ID_STEPPING, F.PKG_ID_CODE]⟩,
  ⟨0x4, 0x4, 1, 0x4, 1, false,
    [F.PKG_VER_MAP_MAJOR, F.PKG_VER_MAP_MINOR, F.PKG_VER_BENCH_VER, F.PKG_VER_TG_VER]⟩,
  ⟨0x8, 0x4, 1, 0x4, 1, false,
    [F.PKG_SERIAL_LO_SERIAL]⟩,
  ⟨0xc, 0x4, 1, 0x4, 1, false,
    [F.PKG_SERIAL_HI_SERIAL]⟩,
  ⟨0x10, 0x4, 1, 0x4, 1, false,
    [F.PKG_DRAM_READY, F.PKG_DRAM_UNITS]⟩,
  ⟨0x20, 0x4, 1, 0x4, 1, false,
    [F.PKG_SCRATCH_VALUE]⟩,
  ⟨0x100, 0x4, 6, 0x4, 1, false,
    [F.PKG_CNT_WRAP_BLK_WRAP]⟩]

def regTable_pkg : List RegDef := regTable_pkg0

/-- Registers of the hostif block. -/
def regTable_hostif0 : List RegDef := [
  ⟨0x0, 0x4, 1, 0x4, 1, false,
    [F.HOSTIF_PORT_STATUS_ME, F.HOSTIF_PORT_STATUS_B_UP, F.HOSTIF_PORT_STATUS_B_SPEED, F.HOSTIF_PORT_STATUS_B_WIDTH, F.HOSTIF_PORT_STATUS_A_UP, F.HOSTIF_PORT_STATUS_A_SPEED, F.HOSTIF_PORT_STATUS_A_WIDTH]⟩,
  ⟨0x4, 0x4, 1, 0x4, 1, false,
    [F.HOSTIF_ERR_MBOX_REJ_B, F.HOSTIF_ERR_MBOX_REJ_A, F.HOSTIF_ERR_BME_FAIL_B, F.HOSTIF_ERR_BME_FAIL_A, F.HOSTIF_ERR_BAD_SIZE_B, F.HOSTIF_ERR_BAD_SIZE_A]⟩,
  ⟨0x100, 0x4, 16, 0x4, 1, false,
    [F.HOSTIF_MBOX_AB_DATA_WORD]⟩,
  ⟨0x140, 0x4, 16, 0x4, 1, false,
    [F.HOSTIF_MBOX_BA_DATA_WORD]⟩,
  ⟨0x180, 0x4, 1, 0x4, 1, false,
    [F.HOSTIF_MBOX_CTRL_SEND_BA, F.HOSTIF_MBOX_CTRL_ACK_BA, F.HOSTIF_MBOX_CTRL_FULL_BA, F.HOSTIF_MBOX_CTRL_ACKED_BA, F.HOSTIF_MBOX_CTRL_SEND_AB, F.HOSTIF_MBOX_CTRL_ACK_AB, F.HOSTIF_MBOX_CTRL_FULL_AB, F.HOSTIF_MBOX_CTRL_ACKED_AB]⟩,
  ⟨0x200, 0x4, 1, 0x4, 1, false,
    [F.HOSTIF_SPI_CTRL_GO, F.HOSTIF_SPI_CTRL_WRITE, F.HOSTIF_SPI_CTRL_ADDR_BYTES, F.HOSTIF_SPI_CTRL_DUMMY, F.HOSTIF_SPI_CTRL_OPCODE, F.HOSTIF_SPI_CTRL_LEN]⟩,
  ⟨0x204, 0x4, 1, 0x4, 1, false,
    [F.HOSTIF_SPI_ADDR_ADDR]⟩,
  ⟨0x208, 0x4, 1, 0x4, 1, false,
    [F.HOSTIF_SPI_STATUS_DONE, F.HOSTIF_SPI_STATUS_BUSY, F.HOSTIF_SPI_STATUS_CODE, F.HOSTIF_SPI_STATUS_PORT]⟩,
  ⟨0x300, 0x4, 64, 0x4, 1, false,
    [F.HOSTIF_SPI_DATA_BYTES]⟩,
  ⟨0x220, 0x4, 1, 0x4, 1, false,
    [F.HOSTIF_SMB_CTRL_WR_EN]⟩,
  ⟨0x224, 0x4, 1, 0x4, 1, false,
    [F.HOSTIF_SMB_STATUS_PEC_ERR, F.HOSTIF_SMB_STATUS_WR_REJ]⟩,
  ⟨0x1000, 0x10, 176, 0x4, 4, true,
    [F.HOSTIF_MSIX_TABLE_WORD]⟩,
  ⟨0x2000, 0x4, 6, 0x4, 1, true,
    [F.HOSTIF_PBA_PEND]⟩]

def regTable_hostif : List RegDef := regTable_hostif0

/-- Registers of the seam block. -/
def regTable_seam0 : List RegDef := [
  ⟨0x0, 0x100, 3, 0x100, 1, false,
    [F.SEAM_STATUS_UP, F.SEAM_STATUS_SPARE_USED, F.SEAM_STATUS_LANES_OK]⟩,
  ⟨0x4, 0x100, 3, 0x100, 1, false,
    [F.SEAM_RETIRED_0_LANES]⟩,
  ⟨0x8, 0x100, 3, 0x100, 1, false,
    [F.SEAM_RETIRED_1_LANES]⟩,
  ⟨0xc, 0x100, 3, 0x100, 1, false,
    [F.SEAM_RETIRED_2_LANES]⟩,
  ⟨0x10, 0x100, 3, 0x100, 1, false,
    [F.SEAM_REPLAY_LO_COUNT]⟩,
  ⟨0x14, 0x100, 3, 0x100, 1, false,
    [F.SEAM_REPLAY_HI_COUNT]⟩,
  ⟨0x18, 0x100, 3, 0x100, 1, false,
    [F.SEAM_PARITY_LO_COUNT]⟩,
  ⟨0x1c, 0x100, 3, 0x100, 1, false,
    [F.SEAM_PARITY_HI_COUNT]⟩,
  ⟨0x20, 0x100, 3, 0x100, 1, false,
    [F.SEAM_LOST_LO_COUNT]⟩,
  ⟨0x24, 0x100, 3, 0x100, 1, false,
    [F.SEAM_LOST_HI_COUNT]⟩]

def regTable_seam : List RegDef := regTable_seam0

/-- Registers of the cluster block. -/
def regTable_cluster0 : List RegDef := [
  ⟨0x0, 0x4, 1, 0x4, 1, false,
    [F.CL_XING_PARITY_LO_COUNT]⟩,
  ⟨0x4, 0x4, 1, 0x4, 1, false,
    [F.CL_XING_PARITY_HI_COUNT]⟩]

def regTable_cluster : List RegDef := regTable_cluster0

/-- Registers of the any block. -/
def regTable_any0 : List RegDef := [
  ⟨0xf000, 0x4, 40, 0x4, 1, false,
    [F.CNT_WRAP_WRAP]⟩,
  ⟨0xf100, 0x4, 40, 0x4, 1, false,
    [F.CNT_WRAP_EN_EN]⟩]

/-- The LO registers of the counters of a block (R273, R274): offset, strides and counts, and whether the counter has 64 bits. -/
def counterTable : Blk → List (RegDef × Bool)
  | .die => [(⟨0x218, 0x4, 1, 0x4, 1, false, []⟩, true),
      (⟨0x430, 0x4, 1, 0x4, 1, false, []⟩, false),
      (⟨0xc30, 0x4, 1, 0x4, 1, false, []⟩, true),
      (⟨0xd08, 0x20, 32, 0x4, 1, false, []⟩, false),
      (⟨0xd10, 0x20, 32, 0x4, 1, false, []⟩, false),
      (⟨0xd18, 0x20, 32, 0x4, 1, false, []⟩, false),
      (⟨0x1108, 0x4, 1, 0x4, 1, false, []⟩, false),
      (⟨0x1110, 0x4, 1, 0x4, 1, false, []⟩, false),
      (⟨0x180, 0x4, 1, 0x4, 1, false, []⟩, false)]
  | .bench => []
  | .region => [(⟨0x410, 0x4, 1, 0x4, 1, false, []⟩, false),
      (⟨0x418, 0x4, 1, 0x4, 1, false, []⟩, false),
      (⟨0x420, 0x4, 1, 0x4, 1, false, []⟩, false),
      (⟨0x428, 0x4, 1, 0x4, 1, false, []⟩, false),
      (⟨0x1028, 0x40, 8, 0x4, 1, false, []⟩, false)]
  | .txn => []
  | .map => [(⟨0x4, 0x4, 1, 0x4, 1, false, []⟩, false)]
  | .lu => [(⟨0x40, 0x4, 1, 0x4, 1, false, []⟩, false),
      (⟨0x48, 0x4, 1, 0x4, 1, false, []⟩, false),
      (⟨0x50, 0x4, 1, 0x4, 1, false, []⟩, false),
      (⟨0x58, 0x4, 1, 0x4, 1, false, []⟩, false),
      (⟨0xa80, 0x4, 1, 0x4, 1, false, []⟩, false),
      (⟨0xa88, 0x4, 1, 0x4, 1, false, []⟩, false),
      (⟨0xa90, 0x4, 1, 0x4, 1, false, []⟩, false),
      (⟨0xa98, 0x4, 1, 0x4, 1, false, []⟩, false),
      (⟨0xaa0, 0x4, 1, 0x4, 1, false, []⟩, false),
      (⟨0xaa8, 0x4, 1, 0x4, 1, false, []⟩, false),
      (⟨0x2020, 0x4, 1, 0x4, 1, false, []⟩, false),
      (⟨0x2028, 0x4, 1, 0x4, 1, false, []⟩, false),
      (⟨0x2030, 0x4, 1, 0x4, 1, false, []⟩, false)]
  | .pair => [(⟨0x20, 0x4, 1, 0x4, 1, false, []⟩, false),
      (⟨0x28, 0x4, 1, 0x4, 1, false, []⟩, false),
      (⟨0x30, 0x4, 1, 0x4, 1, false, []⟩, false)]
  | .time => []
  | .pm => [(⟨0x18, 0x4, 1, 0x4, 1, false, []⟩, true),
      (⟨0x110, 0x4, 1, 0x4, 1, false, []⟩, true)]
  | .skim => [(⟨0x150, 0x80, 8, 0x4, 1, false, []⟩, true),
      (⟨0x158, 0x80, 8, 0x4, 1, false, []⟩, true),
      (⟨0x160, 0x80, 8, 0x4, 1, false, []⟩, true)]
  | .pour => [(⟨0x140, 0x80, 8, 0x4, 1, false, []⟩, true)]
  | .wb => [(⟨0x200, 0x4, 1, 0x4, 1, false, []⟩, false),
      (⟨0x208, 0x4, 1, 0x4, 1, false, []⟩, false),
      (⟨0x210, 0x4, 1, 0x4, 1, false, []⟩, false),
      (⟨0x300, 0x8, 42, 0x4, 1, false, []⟩, false),
      (⟨0x510, 0x4, 1, 0x4, 1, false, []⟩, false),
      (⟨0x518, 0x4, 1, 0x4, 1, false, []⟩, false),
      (⟨0x520, 0x4, 1, 0x4, 1, false, []⟩, false)]
  | .matrix => [(⟨0x10, 0x4, 1, 0x4, 1, false, []⟩, false)]
  | .evt => [(⟨0x200, 0x8, 32, 0x4, 1, false, []⟩, false)]
  | .evtsum => [(⟨0x70, 0x4, 1, 0x4, 1, false, []⟩, false)]
  | .mon => []
  | .cal => []
  | .pkg => []
  | .hostif => []
  | .seam => [(⟨0x10, 0x100, 3, 0x4, 1, false, []⟩, false),
      (⟨0x18, 0x100, 3, 0x4, 1, false, []⟩, false),
      (⟨0x20, 0x100, 3, 0x4, 1, false, []⟩, false)]
  | .cluster => [(⟨0x0, 0x4, 1, 0x4, 1, false, []⟩, false)]

end Sys2Proof.Machine
end

