-- ==== Sys2Proof/Machine/RegNames.lean ====
section
/-!
DEFINITION. The names of the registers: one for each register of the register tables of spec/ (files 01 to 18), with the
block it lies in and its offset there (R408). An index operand (slot, job, word) comes after the instance. A register
that the device holds for each host port (R419, R395) takes the port first.
-/

namespace Sys2Proof.Machine

abbrev R.DIE_UNIT_RETIRE (d : Nat) : RegId := ⟨.die, d, 0x100, 0⟩
abbrev R.DIE_UNIT_STATE (d : Nat) : RegId := ⟨.die, d, 0x104, 0⟩
abbrev R.BENCH_CTRL : RegId := ⟨.bench, 0, 0x0, 0⟩
abbrev R.BENCH_STATUS : RegId := ⟨.bench, 0, 0x4, 0⟩
abbrev R.BENCH_REFUSE : RegId := ⟨.bench, 0, 0x8, 0⟩
abbrev R.BENCH_REFUSE_OFFSET : RegId := ⟨.bench, 0, 0xc, 0⟩
abbrev R.BENCH_LEN : RegId := ⟨.bench, 0, 0x10, 0⟩
abbrev R.BENCH_ACTIVE_ID : RegId := ⟨.bench, 0, 0x14, 0⟩
abbrev R.BENCH_HKFW_VER : RegId := ⟨.bench, 0, 0x18, 0⟩
abbrev R.BENCH_REGION_ID (i : Nat) : RegId := ⟨.bench, 0, 0x20 + 0x4 * i, 0⟩
abbrev R.RG_SLAB_STATUS (g : Nat) : RegId := ⟨.region, g, 0x400, 0⟩
abbrev R.RG_SLAB_SPARE (g : Nat) (i : Nat) : RegId := ⟨.region, g, 0x408 + 0x4 * i, 0⟩
abbrev R.RG_SLAB_CE_LO (g : Nat) : RegId := ⟨.region, g, 0x410, 0⟩
abbrev R.RG_SLAB_CE_HI (g : Nat) : RegId := ⟨.region, g, 0x414, 0⟩
abbrev R.RG_SLAB_UE_LO (g : Nat) : RegId := ⟨.region, g, 0x418, 0⟩
abbrev R.RG_SLAB_UE_HI (g : Nat) : RegId := ⟨.region, g, 0x41c, 0⟩
abbrev R.RG_SLAB_LATE_LO (g : Nat) : RegId := ⟨.region, g, 0x420, 0⟩
abbrev R.RG_SLAB_LATE_HI (g : Nat) : RegId := ⟨.region, g, 0x424, 0⟩
abbrev R.RG_XING_PARITY_LO (g : Nat) : RegId := ⟨.region, g, 0x428, 0⟩
abbrev R.RG_XING_PARITY_HI (g : Nat) : RegId := ⟨.region, g, 0x42c, 0⟩
abbrev R.RG_SLAB_ECC_LAST (g : Nat) : RegId := ⟨.region, g, 0x430, 0⟩
abbrev R.RG_SLAB_DIAG_ADDR (g : Nat) : RegId := ⟨.region, g, 0x480, 0⟩
abbrev R.RG_SLAB_DIAG_STATUS (g : Nat) : RegId := ⟨.region, g, 0x484, 0⟩
abbrev R.RG_SLAB_DIAG_DATA0 (g : Nat) : RegId := ⟨.region, g, 0x488, 0⟩
abbrev R.RG_SLAB_DIAG_DATA1 (g : Nat) : RegId := ⟨.region, g, 0x48c, 0⟩
abbrev R.RG_SLAB_DIAG_DATA2 (g : Nat) : RegId := ⟨.region, g, 0x490, 0⟩
abbrev R.RG_SLAB_ECC_INJ (g : Nat) : RegId := ⟨.region, g, 0x4a0, 0⟩
abbrev R.TXN_SUMMARY : RegId := ⟨.txn, 0, 0x0, 0⟩
abbrev R.TXN_MIRROR_CTRL : RegId := ⟨.txn, 0, 0x4, 0⟩
abbrev R.TXN_LAST_COMMIT_FN : RegId := ⟨.txn, 0, 0x8, 0⟩
abbrev R.TXN_CMD (i : Nat) : RegId := ⟨.txn, 0, 0x100 + 0x40 * i, 0⟩
abbrev R.TXN_FN (i : Nat) : RegId := ⟨.txn, 0, 0x104 + 0x40 * i, 0⟩
abbrev R.TXN_STATUS (i : Nat) : RegId := ⟨.txn, 0, 0x108 + 0x40 * i, 0⟩
abbrev R.TXN_COUNT (i : Nat) : RegId := ⟨.txn, 0, 0x10c + 0x40 * i, 0⟩
abbrev R.TXN_ERR_INDEX (i : Nat) : RegId := ⟨.txn, 0, 0x110 + 0x40 * i, 0⟩
abbrev R.TXN_FETCH_LO (i : Nat) : RegId := ⟨.txn, 0, 0x114 + 0x40 * i, 0⟩
abbrev R.TXN_FETCH_HI (i : Nat) : RegId := ⟨.txn, 0, 0x118 + 0x40 * i, 0⟩
abbrev R.TXN_FETCH_CTRL (i : Nat) : RegId := ⟨.txn, 0, 0x11c + 0x40 * i, 0⟩
abbrev R.TXN_REC (p : Port) (i : Nat) (j : Nat) : RegId := ⟨.txn, 0, 0x120 + 0x40 * i + 0x4 * j, p.toNat⟩
abbrev R.TXN_REC3 (i : Nat) : RegId := ⟨.txn, 0, 0x12c + 0x40 * i, 0⟩
abbrev R.TXN_EVENT_FN (i : Nat) : RegId := ⟨.txn, 0, 0x130 + 0x40 * i, 0⟩
abbrev R.TXN_ABORT_FN (i : Nat) : RegId := ⟨.txn, 0, 0x134 + 0x40 * i, 0⟩
abbrev R.TXN_ABORT_NS (i : Nat) : RegId := ⟨.txn, 0, 0x138 + 0x40 * i, 0⟩
abbrev R.MAP_STATUS (d : Nat) : RegId := ⟨.map, d, 0x0, 0⟩
abbrev R.MAP_BUILT_LO (d : Nat) : RegId := ⟨.map, d, 0x4, 0⟩
abbrev R.MAP_BUILT_HI (d : Nat) : RegId := ⟨.map, d, 0x8, 0⟩
abbrev R.MAP_DIAG_CTRL (d : Nat) : RegId := ⟨.map, d, 0x10, 0⟩
abbrev R.MAP_DIAG_STATUS (d : Nat) : RegId := ⟨.map, d, 0x14, 0⟩
abbrev R.MAP_DIAG_DATA (d : Nat) (i : Nat) : RegId := ⟨.map, d, 0x20 + 0x4 * i, 0⟩
abbrev R.LU_SEC_CTRL (n : Nat) : RegId := ⟨.lu, n, 0x0, 0⟩
abbrev R.LU_SEC_RATE (n : Nat) : RegId := ⟨.lu, n, 0x4, 0⟩
abbrev R.LU_SEC_TIMERS (n : Nat) : RegId := ⟨.lu, n, 0x8, 0⟩
abbrev R.LU_SEC_BER (n : Nat) : RegId := ⟨.lu, n, 0xc, 0⟩
abbrev R.LU_SEC_STATUS (n : Nat) : RegId := ⟨.lu, n, 0x10, 0⟩
abbrev R.LU_SEC_STICKY (n : Nat) : RegId := ⟨.lu, n, 0x14, 0⟩
abbrev R.LU_SEC_EVMASK (n : Nat) : RegId := ⟨.lu, n, 0x18, 0⟩
abbrev R.LU_SEC_FRAME (n : Nat) : RegId := ⟨.lu, n, 0x1c, 0⟩
abbrev R.LU_SEC_KTX (n : Nat) : RegId := ⟨.lu, n, 0x20, 0⟩
abbrev R.LU_SEC_KRX (n : Nat) : RegId := ⟨.lu, n, 0x24, 0⟩
abbrev R.LU_SEC_S1 (n : Nat) : RegId := ⟨.lu, n, 0x28, 0⟩
abbrev R.LU_SEC_OHSRC (n : Nat) : RegId := ⟨.lu, n, 0x2c, 0⟩
abbrev R.LU_SEC_OHFILL (n : Nat) : RegId := ⟨.lu, n, 0x30, 0⟩
abbrev R.LU_SEC_BEACON_USER (n : Nat) : RegId := ⟨.lu, n, 0x34, 0⟩
abbrev R.LU_SEC_B1_LO (n : Nat) : RegId := ⟨.lu, n, 0x40, 0⟩
abbrev R.LU_SEC_B1_HI (n : Nat) : RegId := ⟨.lu, n, 0x44, 0⟩
abbrev R.LU_SEC_B2_LO (n : Nat) : RegId := ⟨.lu, n, 0x48, 0⟩
abbrev R.LU_SEC_B2_HI (n : Nat) : RegId := ⟨.lu, n, 0x4c, 0⟩
abbrev R.LU_SEC_REI_LO (n : Nat) : RegId := ⟨.lu, n, 0x50, 0⟩
abbrev R.LU_SEC_REI_HI (n : Nat) : RegId := ⟨.lu, n, 0x54, 0⟩
abbrev R.LU_SEC_OOF_LO (n : Nat) : RegId := ⟨.lu, n, 0x58, 0⟩
abbrev R.LU_SEC_OOF_HI (n : Nat) : RegId := ⟨.lu, n, 0x5c, 0⟩
abbrev R.LU_SEC_J0_EXP (n : Nat) (i : Nat) : RegId := ⟨.lu, n, 0x100 + 0x4 * i, 0⟩
abbrev R.LU_SEC_J0_ACC (n : Nat) (i : Nat) : RegId := ⟨.lu, n, 0x140 + 0x4 * i, 0⟩
abbrev R.LU_SEC_J0_TX (n : Nat) (i : Nat) : RegId := ⟨.lu, n, 0x180 + 0x4 * i, 0⟩
abbrev R.LU_SEC_BEACON_RX (n : Nat) (i : Nat) : RegId := ⟨.lu, n, 0x1c0 + 0x4 * i, 0⟩
abbrev R.LU_PATH_CTRL (n : Nat) : RegId := ⟨.lu, n, 0xa00, 0⟩
abbrev R.LU_PATH_PROFILE (n : Nat) (i : Nat) : RegId := ⟨.lu, n, 0xa10 + 0x4 * i, 0⟩
abbrev R.LU_PATH_STRUCT0 (n : Nat) (i : Nat) : RegId := ⟨.lu, n, 0x800 + 0x8 * i, 0⟩
abbrev R.LU_PATH_STRUCT1 (n : Nat) (i : Nat) : RegId := ⟨.lu, n, 0x804 + 0x8 * i, 0⟩
abbrev R.LU_PATH_IND_CTRL (n : Nat) : RegId := ⟨.lu, n, 0xa20, 0⟩
abbrev R.LU_PATH_IND_STATUS (n : Nat) : RegId := ⟨.lu, n, 0xa24, 0⟩
abbrev R.LU_PATH_TCAP_CTRL (n : Nat) : RegId := ⟨.lu, n, 0xa40, 0⟩
abbrev R.LU_PATH_IND_DATA0 (n : Nat) : RegId := ⟨.lu, n, 0xa28, 0⟩
abbrev R.LU_PATH_IND_DATA1 (n : Nat) : RegId := ⟨.lu, n, 0xa2c, 0⟩
abbrev R.LU_PATH_IND_DATA2 (n : Nat) : RegId := ⟨.lu, n, 0xa30, 0⟩
abbrev R.LU_PATH_IND_DATA3 (n : Nat) : RegId := ⟨.lu, n, 0xa34, 0⟩
abbrev R.LU_PATH_PJ_INC_LO (n : Nat) : RegId := ⟨.lu, n, 0xa80, 0⟩
abbrev R.LU_PATH_PJ_INC_HI (n : Nat) : RegId := ⟨.lu, n, 0xa84, 0⟩
abbrev R.LU_PATH_PJ_DEC_LO (n : Nat) : RegId := ⟨.lu, n, 0xa88, 0⟩
abbrev R.LU_PATH_PJ_DEC_HI (n : Nat) : RegId := ⟨.lu, n, 0xa8c, 0⟩
abbrev R.LU_PATH_NDF_LO (n : Nat) : RegId := ⟨.lu, n, 0xa90, 0⟩
abbrev R.LU_PATH_NDF_HI (n : Nat) : RegId := ⟨.lu, n, 0xa94, 0⟩
abbrev R.LU_PATH_GEN_PJ_LO (n : Nat) : RegId := ⟨.lu, n, 0xa98, 0⟩
abbrev R.LU_PATH_GEN_PJ_HI (n : Nat) : RegId := ⟨.lu, n, 0xa9c, 0⟩
abbrev R.LU_PATH_GEN_NDF_LO (n : Nat) : RegId := ⟨.lu, n, 0xaa0, 0⟩
abbrev R.LU_PATH_GEN_NDF_HI (n : Nat) : RegId := ⟨.lu, n, 0xaa4, 0⟩
abbrev R.LU_PATH_STRAY_LO (n : Nat) : RegId := ⟨.lu, n, 0xaa8, 0⟩
abbrev R.LU_PATH_STRAY_HI (n : Nat) : RegId := ⟨.lu, n, 0xaac, 0⟩
abbrev R.LU_PATH_TCAP (n : Nat) (i : Nat) : RegId := ⟨.lu, n, 0xb00 + 0x4 * i, 0⟩
abbrev R.LU_PATH_TRACE (n : Nat) (i : Nat) : RegId := ⟨.lu, n, 0x1000 + 0x4 * i, 0⟩
abbrev R.DIE_JRN_CTRL (d : Nat) : RegId := ⟨.die, d, 0x200, 0⟩
abbrev R.DIE_JRN_BASE_LO (d : Nat) : RegId := ⟨.die, d, 0x204, 0⟩
abbrev R.DIE_JRN_BASE_HI (d : Nat) : RegId := ⟨.die, d, 0x208, 0⟩
abbrev R.DIE_JRN_WR (d : Nat) : RegId := ⟨.die, d, 0x20c, 0⟩
abbrev R.DIE_JRN_RD (d : Nat) : RegId := ⟨.die, d, 0x210, 0⟩
abbrev R.DIE_JRN_LOST_LO (d : Nat) : RegId := ⟨.die, d, 0x218, 0⟩
abbrev R.DIE_JRN_LOST_HI (d : Nat) : RegId := ⟨.die, d, 0x21c, 0⟩
abbrev R.GRP_CMD (d : Nat) : RegId := ⟨.die, d, 0x400, 0⟩
abbrev R.GRP_STATUS (p : Port) (d : Nat) : RegId := ⟨.die, d, 0x404, p.toNat⟩
abbrev R.GRP_CFG0 (p : Port) (d : Nat) : RegId := ⟨.die, d, 0x408, p.toNat⟩
abbrev R.GRP_CFG1 (p : Port) (d : Nat) : RegId := ⟨.die, d, 0x40c, p.toNat⟩
abbrev R.GRP_MEMBER (p : Port) (d : Nat) : RegId := ⟨.die, d, 0x410, p.toNat⟩
abbrev R.GRP_MEMBER_EG (p : Port) (d : Nat) : RegId := ⟨.die, d, 0x414, p.toNat⟩
abbrev R.GRP_MSTATE (d : Nat) : RegId := ⟨.die, d, 0x418, 0⟩
abbrev R.GRP_GSTATE (d : Nat) : RegId := ⟨.die, d, 0x41c, 0⟩
abbrev R.GRP_DESKEW_FREE (d : Nat) : RegId := ⟨.die, d, 0x420, 0⟩
abbrev R.GRP_DESKEW_TOTAL (d : Nat) : RegId := ⟨.die, d, 0x424, 0⟩
abbrev R.GRP_DESKEW_REQ (d : Nat) : RegId := ⟨.die, d, 0x428, 0⟩
abbrev R.GRP_COUNT (d : Nat) : RegId := ⟨.die, d, 0x42c, 0⟩
abbrev R.GRP_CHANGED (d : Nat) (i : Nat) : RegId := ⟨.die, d, 0x500 + 0x4 * i, 0⟩
abbrev R.GRP_CRC_LO (d : Nat) : RegId := ⟨.die, d, 0x430, 0⟩
abbrev R.GRP_CRC_HI (d : Nat) : RegId := ⟨.die, d, 0x434, 0⟩
abbrev R.MSP_CFG (g : Nat) (i : Nat) : RegId := ⟨.region, g, 0x1000 + 0x40 * i, 0⟩
abbrev R.MSP_CHAN0 (g : Nat) (i : Nat) : RegId := ⟨.region, g, 0x1004 + 0x40 * i, 0⟩
abbrev R.MSP_CHAN1 (g : Nat) (i : Nat) : RegId := ⟨.region, g, 0x1008 + 0x40 * i, 0⟩
abbrev R.MSP_PRIO (g : Nat) (i : Nat) : RegId := ⟨.region, g, 0x100c + 0x40 * i, 0⟩
abbrev R.MSP_CMD (g : Nat) (i : Nat) : RegId := ⟨.region, g, 0x1010 + 0x40 * i, 0⟩
abbrev R.MSP_STATUS (g : Nat) (i : Nat) : RegId := ⟨.region, g, 0x1014 + 0x40 * i, 0⟩
abbrev R.MSP_APS (g : Nat) (i : Nat) : RegId := ⟨.region, g, 0x1018 + 0x40 * i, 0⟩
abbrev R.MSP_REQ (g : Nat) (i : Nat) : RegId := ⟨.region, g, 0x101c + 0x40 * i, 0⟩
abbrev R.MSP_LOCKW (g : Nat) (i : Nat) : RegId := ⟨.region, g, 0x1020 + 0x40 * i, 0⟩
abbrev R.MSP_TIMER (g : Nat) (i : Nat) : RegId := ⟨.region, g, 0x1024 + 0x40 * i, 0⟩
abbrev R.MSP_COND (g : Nat) (i : Nat) : RegId := ⟨.region, g, 0x1030 + 0x40 * i, 0⟩
abbrev R.MSP_SW_LO (g : Nat) (i : Nat) : RegId := ⟨.region, g, 0x1028 + 0x40 * i, 0⟩
abbrev R.MSP_SW_HI (g : Nat) (i : Nat) : RegId := ⟨.region, g, 0x102c + 0x40 * i, 0⟩
abbrev R.SNCP_IND_CTRL (d : Nat) : RegId := ⟨.die, d, 0xc00, 0⟩
abbrev R.SNCP_IND_STATUS (d : Nat) : RegId := ⟨.die, d, 0xc04, 0⟩
abbrev R.SNCP_IND_DATA0 (d : Nat) : RegId := ⟨.die, d, 0xc08, 0⟩
abbrev R.SNCP_IND_DATA1 (d : Nat) : RegId := ⟨.die, d, 0xc0c, 0⟩
abbrev R.SNCP_LOG_STATUS (d : Nat) : RegId := ⟨.die, d, 0xc20, 0⟩
abbrev R.SNCP_LOG_DATA0 (d : Nat) : RegId := ⟨.die, d, 0xc24, 0⟩
abbrev R.SNCP_LOG_DATA1 (d : Nat) : RegId := ⟨.die, d, 0xc28, 0⟩
abbrev R.SNCP_LOG_DATA2 (d : Nat) : RegId := ⟨.die, d, 0xc2c, 0⟩
abbrev R.SNCP_LOG_LOST_LO (d : Nat) : RegId := ⟨.die, d, 0xc30, 0⟩
abbrev R.SNCP_LOG_LOST_HI (d : Nat) : RegId := ⟨.die, d, 0xc34, 0⟩
abbrev R.MRG_STATUS (d : Nat) (i : Nat) : RegId := ⟨.die, d, 0xd00 + 0x20 * i, 0⟩
abbrev R.MRG_SKEW (d : Nat) (i : Nat) : RegId := ⟨.die, d, 0xd04 + 0x20 * i, 0⟩
abbrev R.MRG_INV_S_LO (d : Nat) (i : Nat) : RegId := ⟨.die, d, 0xd08 + 0x20 * i, 0⟩
abbrev R.MRG_INV_S_HI (d : Nat) (i : Nat) : RegId := ⟨.die, d, 0xd0c + 0x20 * i, 0⟩
abbrev R.MRG_INV_A_LO (d : Nat) (i : Nat) : RegId := ⟨.die, d, 0xd10 + 0x20 * i, 0⟩
abbrev R.MRG_INV_A_HI (d : Nat) (i : Nat) : RegId := ⟨.die, d, 0xd14 + 0x20 * i, 0⟩
abbrev R.MRG_OOW_LO (d : Nat) (i : Nat) : RegId := ⟨.die, d, 0xd18 + 0x20 * i, 0⟩
abbrev R.MRG_OOW_HI (d : Nat) (i : Nat) : RegId := ⟨.die, d, 0xd1c + 0x20 * i, 0⟩
abbrev R.PAIR_CTRL : RegId := ⟨.pair, 0, 0x0, 0⟩
abbrev R.PAIR_STATUS : RegId := ⟨.pair, 0, 0x4, 0⟩
abbrev R.PAIR_HO_FN : RegId := ⟨.pair, 0, 0x8, 0⟩
abbrev R.PAIR_OFFSET : RegId := ⟨.pair, 0, 0xc, 0⟩
abbrev R.PAIR_HEALTH_CAUSE : RegId := ⟨.pair, 0, 0x10, 0⟩
abbrev R.PAIR_MATE_DLY : RegId := ⟨.pair, 0, 0x14, 0⟩
abbrev R.PAIR_SHADOW_LU : RegId := ⟨.pair, 0, 0x18, 0⟩
abbrev R.PAIR_LU_DLY (i : Nat) : RegId := ⟨.pair, 0, 0x400 + 0x4 * i, 0⟩
abbrev R.PAIR_HO_PLANNED_LO : RegId := ⟨.pair, 0, 0x20, 0⟩
abbrev R.PAIR_HO_PLANNED_HI : RegId := ⟨.pair, 0, 0x24, 0⟩
abbrev R.PAIR_HO_UNPLANNED_LO : RegId := ⟨.pair, 0, 0x28, 0⟩
abbrev R.PAIR_HO_UNPLANNED_HI : RegId := ⟨.pair, 0, 0x2c, 0⟩
abbrev R.PAIR_SHADOW_MISS_LO : RegId := ⟨.pair, 0, 0x30, 0⟩
abbrev R.PAIR_SHADOW_MISS_HI : RegId := ⟨.pair, 0, 0x34, 0⟩
abbrev R.LU_TG_CTRL (n : Nat) : RegId := ⟨.lu, n, 0x2000, 0⟩
abbrev R.LU_TG_STATUS (n : Nat) : RegId := ⟨.lu, n, 0x2004, 0⟩
abbrev R.LU_TG_STICKY (n : Nat) : RegId := ⟨.lu, n, 0x2008, 0⟩
abbrev R.LU_TG_EVMASK (n : Nat) : RegId := ⟨.lu, n, 0x200c, 0⟩
abbrev R.LU_TG_RX0 (n : Nat) : RegId := ⟨.lu, n, 0x2010, 0⟩
abbrev R.LU_TG_RX1 (n : Nat) : RegId := ⟨.lu, n, 0x2014, 0⟩
abbrev R.LU_TG_RX2 (n : Nat) : RegId := ⟨.lu, n, 0x2018, 0⟩
abbrev R.LU_TG_BLK_LO (n : Nat) : RegId := ⟨.lu, n, 0x2020, 0⟩
abbrev R.LU_TG_BLK_HI (n : Nat) : RegId := ⟨.lu, n, 0x2024, 0⟩
abbrev R.LU_TG_HDR_LO (n : Nat) : RegId := ⟨.lu, n, 0x2028, 0⟩
abbrev R.LU_TG_HDR_HI (n : Nat) : RegId := ⟨.lu, n, 0x202c, 0⟩
abbrev R.LU_TG_VOID_LO (n : Nat) : RegId := ⟨.lu, n, 0x2030, 0⟩
abbrev R.LU_TG_VOID_HI (n : Nat) : RegId := ⟨.lu, n, 0x2034, 0⟩
abbrev R.TIME_CTRL : RegId := ⟨.time, 0, 0x0, 0⟩
abbrev R.TIME_STATUS : RegId := ⟨.time, 0, 0x4, 0⟩
abbrev R.TIME_MAIN_CFG : RegId := ⟨.time, 0, 0x10, 0⟩
abbrev R.TIME_MAIN_CMD : RegId := ⟨.time, 0, 0x14, 0⟩
abbrev R.TIME_MAIN_HOLD : RegId := ⟨.time, 0, 0x18, 0⟩
abbrev R.TIME_MAIN_PHASE : RegId := ⟨.time, 0, 0x1c, 0⟩
abbrev R.TIME_MAIN_FREQ : RegId := ⟨.time, 0, 0x20, 0⟩
abbrev R.TIME_STN_CFG : RegId := ⟨.time, 0, 0x30, 0⟩
abbrev R.TIME_AUX_CFG : RegId := ⟨.time, 0, 0x34, 0⟩
abbrev R.TIME_STN_OUT (i : Nat) : RegId := ⟨.time, 0, 0x40 + 0x4 * i, 0⟩
abbrev R.TIME_SYNC_CTRL : RegId := ⟨.time, 0, 0x60, 0⟩
abbrev R.TIME_SYNC_STATUS : RegId := ⟨.time, 0, 0x64, 0⟩
abbrev R.TIME_SYNC_OFS : RegId := ⟨.time, 0, 0x68, 0⟩
abbrev R.TIME_TB_W0 : RegId := ⟨.time, 0, 0x70, 0⟩
abbrev R.TIME_TB_W1 : RegId := ⟨.time, 0, 0x74, 0⟩
abbrev R.TIME_TB_W2 : RegId := ⟨.time, 0, 0x78, 0⟩
abbrev R.TIME_TB_FN : RegId := ⟨.time, 0, 0x7c, 0⟩
abbrev R.TIME_TB_SET_LO : RegId := ⟨.time, 0, 0x80, 0⟩
abbrev R.TIME_TB_SET_HI : RegId := ⟨.time, 0, 0x84, 0⟩
abbrev R.TIME_REF_CFG0 (i : Nat) : RegId := ⟨.time, 0, 0x100 + 0x20 * i, 0⟩
abbrev R.TIME_REF_CFG1 (i : Nat) : RegId := ⟨.time, 0, 0x104 + 0x20 * i, 0⟩
abbrev R.TIME_REF_STATUS (i : Nat) : RegId := ⟨.time, 0, 0x108 + 0x20 * i, 0⟩
abbrev R.TIME_REF_FOFF (i : Nat) : RegId := ⟨.time, 0, 0x10c + 0x20 * i, 0⟩
abbrev R.PM_CTRL (d : Nat) : RegId := ⟨.pm, d, 0x0, 0⟩
abbrev R.PM_CAP (d : Nat) : RegId := ⟨.pm, d, 0x4, 0⟩
abbrev R.PM_USED (d : Nat) : RegId := ⟨.pm, d, 0x8, 0⟩
abbrev R.PM_LAST_Q (d : Nat) : RegId := ⟨.pm, d, 0xc, 0⟩
abbrev R.PM_LAST_D (d : Nat) : RegId := ⟨.pm, d, 0x10, 0⟩
abbrev R.PM_NOSLOT_LO (d : Nat) : RegId := ⟨.pm, d, 0x18, 0⟩
abbrev R.PM_NOSLOT_HI (d : Nat) : RegId := ⟨.pm, d, 0x1c, 0⟩
abbrev R.PM_IND_CTRL (p : Port) (d : Nat) : RegId := ⟨.pm, d, 0x20, p.toNat⟩
abbrev R.PM_IND_CFG (p : Port) (d : Nat) : RegId := ⟨.pm, d, 0x24, p.toNat⟩
abbrev R.PM_IND_STATUS (d : Nat) : RegId := ⟨.pm, d, 0x28, 0⟩
abbrev R.PM_IND_DATA (d : Nat) (i : Nat) : RegId := ⟨.pm, d, 0x40 + 0x4 * i, 0⟩
abbrev R.PM_TCA_STATUS (d : Nat) : RegId := ⟨.pm, d, 0x100, 0⟩
abbrev R.PM_TCA_DATA0 (d : Nat) : RegId := ⟨.pm, d, 0x104, 0⟩
abbrev R.PM_TCA_DATA1 (d : Nat) : RegId := ⟨.pm, d, 0x108, 0⟩
abbrev R.PM_TCA_DATA2 (d : Nat) : RegId := ⟨.pm, d, 0x10c, 0⟩
abbrev R.PM_TCA_PROF (d : Nat) (i : Nat) (j : Nat) : RegId := ⟨.pm, d, 0x200 + 0x40 * i + 0x4 * j, 0⟩
abbrev R.PM_TCA_LOST_LO (d : Nat) : RegId := ⟨.pm, d, 0x110, 0⟩
abbrev R.PM_TCA_LOST_HI (d : Nat) : RegId := ⟨.pm, d, 0x114, 0⟩
abbrev R.SKIM_STATUS (d : Nat) : RegId := ⟨.skim, d, 0x0, 0⟩
abbrev R.SKIM_TAP_CTRL (p : Port) (d : Nat) : RegId := ⟨.skim, d, 0x10, p.toNat⟩
abbrev R.SKIM_TAP_TA (p : Port) (d : Nat) : RegId := ⟨.skim, d, 0x14, p.toNat⟩
abbrev R.SKIM_TAP_STATUS (d : Nat) : RegId := ⟨.skim, d, 0x18, 0⟩
abbrev R.SKIM_TAP_FETCH_LO (p : Port) (d : Nat) : RegId := ⟨.skim, d, 0x1c, p.toNat⟩
abbrev R.SKIM_TAP_FETCH_HI (p : Port) (d : Nat) : RegId := ⟨.skim, d, 0x20, p.toNat⟩
abbrev R.SKIM_JOB_CMD (d : Nat) (i : Nat) : RegId := ⟨.skim, d, 0x100 + 0x80 * i, 0⟩
abbrev R.SKIM_JOB_CFG (d : Nat) (i : Nat) : RegId := ⟨.skim, d, 0x104 + 0x80 * i, 0⟩
abbrev R.SKIM_JOB_STATUS (d : Nat) (i : Nat) : RegId := ⟨.skim, d, 0x134 + 0x80 * i, 0⟩
abbrev R.SKIM_JOB_START_FN (d : Nat) (i : Nat) : RegId := ⟨.skim, d, 0x108 + 0x80 * i, 0⟩
abbrev R.SKIM_JOB_STOP_FN (d : Nat) (i : Nat) : RegId := ⟨.skim, d, 0x10c + 0x80 * i, 0⟩
abbrev R.SKIM_JOB_RING_LO (d : Nat) (i : Nat) : RegId := ⟨.skim, d, 0x110 + 0x80 * i, 0⟩
abbrev R.SKIM_JOB_RING_HI (d : Nat) (i : Nat) : RegId := ⟨.skim, d, 0x114 + 0x80 * i, 0⟩
abbrev R.SKIM_JOB_RING_SIZE (d : Nat) (i : Nat) : RegId := ⟨.skim, d, 0x118 + 0x80 * i, 0⟩
abbrev R.SKIM_JOB_PRE (d : Nat) (i : Nat) : RegId := ⟨.skim, d, 0x11c + 0x80 * i, 0⟩
abbrev R.SKIM_JOB_POST (d : Nat) (i : Nat) : RegId := ⟨.skim, d, 0x120 + 0x80 * i, 0⟩
abbrev R.SKIM_JOB_TRIG (d : Nat) (i : Nat) (j : Nat) : RegId := ⟨.skim, d, 0x124 + 0x80 * i + 0x4 * j, 0⟩
abbrev R.SKIM_JOB_WR (d : Nat) (i : Nat) : RegId := ⟨.skim, d, 0x138 + 0x80 * i, 0⟩
abbrev R.SKIM_JOB_RD (d : Nat) (i : Nat) : RegId := ⟨.skim, d, 0x13c + 0x80 * i, 0⟩
abbrev R.SKIM_JOB_TRIG_TS (d : Nat) (i : Nat) (j : Nat) : RegId := ⟨.skim, d, 0x140 + 0x80 * i + 0x4 * j, 0⟩
abbrev R.SKIM_JOB_TRIG_SEQ (d : Nat) (i : Nat) : RegId := ⟨.skim, d, 0x14c + 0x80 * i, 0⟩
abbrev R.SKIM_JOB_DROP_LO (d : Nat) (i : Nat) : RegId := ⟨.skim, d, 0x150 + 0x80 * i, 0⟩
abbrev R.SKIM_JOB_DROP_HI (d : Nat) (i : Nat) : RegId := ⟨.skim, d, 0x154 + 0x80 * i, 0⟩
abbrev R.SKIM_JOB_OVER_LO (d : Nat) (i : Nat) : RegId := ⟨.skim, d, 0x158 + 0x80 * i, 0⟩
abbrev R.SKIM_JOB_OVER_HI (d : Nat) (i : Nat) : RegId := ⟨.skim, d, 0x15c + 0x80 * i, 0⟩
abbrev R.SKIM_JOB_DROPG_LO (d : Nat) (i : Nat) : RegId := ⟨.skim, d, 0x160 + 0x80 * i, 0⟩
abbrev R.SKIM_JOB_DROPG_HI (d : Nat) (i : Nat) : RegId := ⟨.skim, d, 0x164 + 0x80 * i, 0⟩
abbrev R.SKIM_JOB_LOAD (d : Nat) (i : Nat) : RegId := ⟨.skim, d, 0x17c + 0x80 * i, 0⟩
abbrev R.SKIM_JOB_DQ_LO (d : Nat) (i : Nat) : RegId := ⟨.skim, d, 0x168 + 0x80 * i, 0⟩
abbrev R.SKIM_JOB_DQ_HI (d : Nat) (i : Nat) : RegId := ⟨.skim, d, 0x16c + 0x80 * i, 0⟩
abbrev R.SKIM_JOB_DQ_CTRL (d : Nat) (i : Nat) : RegId := ⟨.skim, d, 0x170 + 0x80 * i, 0⟩
abbrev R.SKIM_JOB_DQ_POST (d : Nat) (i : Nat) : RegId := ⟨.skim, d, 0x174 + 0x80 * i, 0⟩
abbrev R.SKIM_JOB_DQ_DONE (d : Nat) (i : Nat) : RegId := ⟨.skim, d, 0x178 + 0x80 * i, 0⟩
abbrev R.SKIM_PRBS_CTRL (p : Port) (d : Nat) : RegId := ⟨.skim, d, 0x40, p.toNat⟩
abbrev R.SKIM_PRBS_CFG (p : Port) (d : Nat) : RegId := ⟨.skim, d, 0x44, p.toNat⟩
abbrev R.SKIM_PRBS_TA (p : Port) (d : Nat) : RegId := ⟨.skim, d, 0x48, p.toNat⟩
abbrev R.SKIM_PRBS_STATUS (d : Nat) : RegId := ⟨.skim, d, 0x4c, 0⟩
abbrev R.SKIM_PRBS_DATA4 (d : Nat) : RegId := ⟨.skim, d, 0x60, 0⟩
abbrev R.SKIM_PRBS_DATA0 (d : Nat) : RegId := ⟨.skim, d, 0x50, 0⟩
abbrev R.SKIM_PRBS_DATA1 (d : Nat) : RegId := ⟨.skim, d, 0x54, 0⟩
abbrev R.SKIM_PRBS_DATA2 (d : Nat) : RegId := ⟨.skim, d, 0x58, 0⟩
abbrev R.SKIM_PRBS_DATA3 (d : Nat) : RegId := ⟨.skim, d, 0x5c, 0⟩
abbrev R.SKIM_PRBS_CHANGED (d : Nat) (i : Nat) : RegId := ⟨.skim, d, 0x600 + 0x4 * i, 0⟩
abbrev R.POUR_TGT_CTRL (p : Port) (d : Nat) : RegId := ⟨.pour, d, 0x10, p.toNat⟩
abbrev R.POUR_TGT_TA (p : Port) (d : Nat) : RegId := ⟨.pour, d, 0x14, p.toNat⟩
abbrev R.POUR_TGT_STATUS (p : Port) (d : Nat) : RegId := ⟨.pour, d, 0x18, p.toNat⟩
abbrev R.POUR_TGT_FETCH_LO (p : Port) (d : Nat) : RegId := ⟨.pour, d, 0x1c, p.toNat⟩
abbrev R.POUR_TGT_FETCH_HI (p : Port) (d : Nat) : RegId := ⟨.pour, d, 0x20, p.toNat⟩
abbrev R.POUR_STATUS (d : Nat) : RegId := ⟨.pour, d, 0x0, 0⟩
abbrev R.POUR_JOB_CFG (d : Nat) (i : Nat) : RegId := ⟨.pour, d, 0x104 + 0x80 * i, 0⟩
abbrev R.POUR_JOB_LOOP (d : Nat) (i : Nat) : RegId := ⟨.pour, d, 0x108 + 0x80 * i, 0⟩
abbrev R.POUR_JOB_START_FN (d : Nat) (i : Nat) : RegId := ⟨.pour, d, 0x10c + 0x80 * i, 0⟩
abbrev R.POUR_JOB_STATUS (d : Nat) (i : Nat) : RegId := ⟨.pour, d, 0x134 + 0x80 * i, 0⟩
abbrev R.POUR_JOB_PLAYED (d : Nat) (i : Nat) : RegId := ⟨.pour, d, 0x138 + 0x80 * i, 0⟩
abbrev R.POUR_JOB_LOAD (d : Nat) (i : Nat) : RegId := ⟨.pour, d, 0x13c + 0x80 * i, 0⟩
abbrev R.POUR_JOB_CMD (d : Nat) (i : Nat) : RegId := ⟨.pour, d, 0x100 + 0x80 * i, 0⟩
abbrev R.POUR_JOB_UNDER_LO (d : Nat) (i : Nat) : RegId := ⟨.pour, d, 0x140 + 0x80 * i, 0⟩
abbrev R.POUR_JOB_UNDER_HI (d : Nat) (i : Nat) : RegId := ⟨.pour, d, 0x144 + 0x80 * i, 0⟩
abbrev R.POUR_JOB_PAT_LO (d : Nat) (i : Nat) : RegId := ⟨.pour, d, 0x110 + 0x80 * i, 0⟩
abbrev R.POUR_JOB_PAT_HI (d : Nat) (i : Nat) : RegId := ⟨.pour, d, 0x114 + 0x80 * i, 0⟩
abbrev R.POUR_JOB_PAT_LEN (d : Nat) (i : Nat) : RegId := ⟨.pour, d, 0x118 + 0x80 * i, 0⟩
abbrev R.POUR_JOB_POH (d : Nat) (i : Nat) : RegId := ⟨.pour, d, 0x11c + 0x80 * i, 0⟩
abbrev R.POUR_JOB_INJ (d : Nat) (i : Nat) : RegId := ⟨.pour, d, 0x120 + 0x80 * i, 0⟩
abbrev R.POUR_JOB_INJ_CNT (d : Nat) (i : Nat) : RegId := ⟨.pour, d, 0x124 + 0x80 * i, 0⟩
abbrev R.POUR_JOB_SCR_LO (d : Nat) (i : Nat) : RegId := ⟨.pour, d, 0x128 + 0x80 * i, 0⟩
abbrev R.POUR_JOB_SCR_HI (d : Nat) (i : Nat) : RegId := ⟨.pour, d, 0x12c + 0x80 * i, 0⟩
abbrev R.POUR_JOB_SCR_CTRL (d : Nat) (i : Nat) : RegId := ⟨.pour, d, 0x130 + 0x80 * i, 0⟩
abbrev R.WB_OWN (d : Nat) (i : Nat) : RegId := ⟨.wb, d, 0x0 + 0x4 * i, 0⟩
abbrev R.WB_STATUS (d : Nat) : RegId := ⟨.wb, d, 0x100, 0⟩
abbrev R.WB_VIOL_LAST (d : Nat) : RegId := ⟨.wb, d, 0x104, 0⟩
abbrev R.WB_ERR_LAST (d : Nat) : RegId := ⟨.wb, d, 0x108, 0⟩
abbrev R.WB_CE_LO (d : Nat) : RegId := ⟨.wb, d, 0x200, 0⟩
abbrev R.WB_CE_HI (d : Nat) : RegId := ⟨.wb, d, 0x204, 0⟩
abbrev R.WB_UE_LO (d : Nat) : RegId := ⟨.wb, d, 0x208, 0⟩
abbrev R.WB_UE_HI (d : Nat) : RegId := ⟨.wb, d, 0x20c, 0⟩
abbrev R.WB_VIOL_LO (d : Nat) : RegId := ⟨.wb, d, 0x210, 0⟩
abbrev R.WB_VIOL_HI (d : Nat) : RegId := ⟨.wb, d, 0x214, 0⟩
abbrev R.WB_RACE_LO (d : Nat) (i : Nat) : RegId := ⟨.wb, d, 0x300 + 0x8 * i, 0⟩
abbrev R.WB_RACE_HI (d : Nat) (i : Nat) : RegId := ⟨.wb, d, 0x304 + 0x8 * i, 0⟩
abbrev R.SIEVE_CTRL (d : Nat) : RegId := ⟨.wb, d, 0x500, 0⟩
abbrev R.SIEVE_STATUS (d : Nat) : RegId := ⟨.wb, d, 0x504, 0⟩
abbrev R.SIEVE_FAULT_LAST (d : Nat) : RegId := ⟨.wb, d, 0x508, 0⟩
abbrev R.SIEVE_PASS_LO (d : Nat) : RegId := ⟨.wb, d, 0x510, 0⟩
abbrev R.SIEVE_PASS_HI (d : Nat) : RegId := ⟨.wb, d, 0x514, 0⟩
abbrev R.SIEVE_ABANDON_LO (d : Nat) : RegId := ⟨.wb, d, 0x518, 0⟩
abbrev R.SIEVE_ABANDON_HI (d : Nat) : RegId := ⟨.wb, d, 0x51c, 0⟩
abbrev R.SIEVE_FAULT_LO (d : Nat) : RegId := ⟨.wb, d, 0x520, 0⟩
abbrev R.SIEVE_FAULT_HI (d : Nat) : RegId := ⟨.wb, d, 0x524, 0⟩
abbrev R.DRAM_STATUS (d : Nat) : RegId := ⟨.die, d, 0x1100, 0⟩
abbrev R.DRAM_ERR_LAST (d : Nat) : RegId := ⟨.die, d, 0x1118, 0⟩
abbrev R.DRAM_CE_LO (d : Nat) : RegId := ⟨.die, d, 0x1108, 0⟩
abbrev R.DRAM_CE_HI (d : Nat) : RegId := ⟨.die, d, 0x110c, 0⟩
abbrev R.DRAM_UE_LO (d : Nat) : RegId := ⟨.die, d, 0x1110, 0⟩
abbrev R.DRAM_UE_HI (d : Nat) : RegId := ⟨.die, d, 0x1114, 0⟩
abbrev R.MATRIX_MODE : RegId := ⟨.matrix, 0, 0x0, 0⟩
abbrev R.MATRIX_MRST : RegId := ⟨.matrix, 0, 0x4, 0⟩
abbrev R.MATRIX_MRST_BUSY : RegId := ⟨.matrix, 0, 0x8, 0⟩
abbrev R.MATRIX_DENY_LAST : RegId := ⟨.matrix, 0, 0xc, 0⟩
abbrev R.MATRIX_OUT (i : Nat) : RegId := ⟨.matrix, 0, 0x80 + 0x4 * i, 0⟩
abbrev R.MATRIX_RST_BEATS (i : Nat) : RegId := ⟨.matrix, 0, 0x100 + 0x8 * i, 0⟩
abbrev R.MATRIX_RST_FN (i : Nat) : RegId := ⟨.matrix, 0, 0x104 + 0x8 * i, 0⟩
abbrev R.MATRIX_DENY_LO : RegId := ⟨.matrix, 0, 0x10, 0⟩
abbrev R.MATRIX_DENY_HI : RegId := ⟨.matrix, 0, 0x14, 0⟩
abbrev R.EVT_CTRL (b : Nat) : RegId := ⟨.evt, b, 0x0, 0⟩
abbrev R.EVT_LIVE (b : Nat) : RegId := ⟨.evt, b, 0x4, 0⟩
abbrev R.EVT_STICKY (b : Nat) : RegId := ⟨.evt, b, 0x8, 0⟩
abbrev R.EVT_SEVERE (b : Nat) : RegId := ⟨.evt, b, 0xc, 0⟩
abbrev R.EVT_ENABLE (b : Nat) : RegId := ⟨.evt, b, 0x10, 0⟩
abbrev R.EVT_FORCE (b : Nat) : RegId := ⟨.evt, b, 0x14, 0⟩
abbrev R.EVT_FIRST0 (b : Nat) : RegId := ⟨.evt, b, 0x18, 0⟩
abbrev R.EVT_FIRST1 (b : Nat) : RegId := ⟨.evt, b, 0x1c, 0⟩
abbrev R.EVT_FIRST2 (b : Nat) : RegId := ⟨.evt, b, 0x20, 0⟩
abbrev R.EVT_FIRST3 (b : Nat) : RegId := ⟨.evt, b, 0x24, 0⟩
abbrev R.EVT_CFG (b : Nat) (i : Nat) : RegId := ⟨.evt, b, 0x100 + 0x8 * i, 0⟩
abbrev R.EVT_WIN (b : Nat) (i : Nat) : RegId := ⟨.evt, b, 0x104 + 0x8 * i, 0⟩
abbrev R.EVT_DETAIL (b : Nat) (i : Nat) : RegId := ⟨.evt, b, 0x300 + 0x4 * i, 0⟩
abbrev R.EVT_TOTAL_LO (b : Nat) (i : Nat) : RegId := ⟨.evt, b, 0x200 + 0x8 * i, 0⟩
abbrev R.EVT_TOTAL_HI (b : Nat) (i : Nat) : RegId := ⟨.evt, b, 0x204 + 0x8 * i, 0⟩
abbrev R.EVT_SUM_STATUS : RegId := ⟨.evtsum, 0, 0x0, 0⟩
abbrev R.EVT_SUM_PEND (i : Nat) : RegId := ⟨.evtsum, 0, 0x10 + 0x4 * i, 0⟩
abbrev R.EVT_SUM_SEVERE (i : Nat) : RegId := ⟨.evtsum, 0, 0x30 + 0x4 * i, 0⟩
abbrev R.EVT_PKG_FIRST0 : RegId := ⟨.evtsum, 0, 0x50, 0⟩
abbrev R.EVT_GRAVE0 : RegId := ⟨.evtsum, 0, 0x60, 0⟩
abbrev R.EVT_PKG_FIRST1 : RegId := ⟨.evtsum, 0, 0x54, 0⟩
abbrev R.EVT_GRAVE1 : RegId := ⟨.evtsum, 0, 0x64, 0⟩
abbrev R.EVT_PKG_FIRST2 : RegId := ⟨.evtsum, 0, 0x58, 0⟩
abbrev R.EVT_GRAVE2 : RegId := ⟨.evtsum, 0, 0x68, 0⟩
abbrev R.EVT_FAULT_PULSES_LO : RegId := ⟨.evtsum, 0, 0x70, 0⟩
abbrev R.EVT_FAULT_PULSES_HI : RegId := ⟨.evtsum, 0, 0x74, 0⟩
abbrev R.MON_CTRL : RegId := ⟨.mon, 0, 0x0, 0⟩
abbrev R.MON_STATUS : RegId := ⟨.mon, 0, 0x4, 0⟩
abbrev R.MON_VOLT (i : Nat) : RegId := ⟨.mon, 0, 0x100 + 0x4 * i, 0⟩
abbrev R.MON_RAIL_WARN (i : Nat) : RegId := ⟨.mon, 0, 0x200 + 0x8 * i, 0⟩
abbrev R.MON_RAIL_CRIT (i : Nat) : RegId := ⟨.mon, 0, 0x204 + 0x8 * i, 0⟩
abbrev R.MON_TEMP (i : Nat) : RegId := ⟨.mon, 0, 0x300 + 0x4 * i, 0⟩
abbrev R.MON_TEMP_LIM : RegId := ⟨.mon, 0, 0x340, 0⟩
abbrev R.MON_AGE (i : Nat) : RegId := ⟨.mon, 0, 0x380 + 0x4 * i, 0⟩
abbrev R.MON_AGE_MARGIN : RegId := ⟨.mon, 0, 0x3a0, 0⟩
abbrev R.LU_SENSE_CTRL (n : Nat) : RegId := ⟨.lu, n, 0x2200, 0⟩
abbrev R.LU_SENSE_STATUS (n : Nat) : RegId := ⟨.lu, n, 0x2204, 0⟩
abbrev R.LU_TDR_CABLE (n : Nat) : RegId := ⟨.lu, n, 0x2208, 0⟩
abbrev R.LU_TDR_LOAD (n : Nat) : RegId := ⟨.lu, n, 0x220c, 0⟩
abbrev R.LU_TDR_TRACE (n : Nat) : RegId := ⟨.lu, n, 0x2210, 0⟩
abbrev R.LU_PARTNER0 (n : Nat) : RegId := ⟨.lu, n, 0x2214, 0⟩
abbrev R.LU_PARTNER1 (n : Nat) : RegId := ⟨.lu, n, 0x2218, 0⟩
abbrev R.CAL_CTRL : RegId := ⟨.cal, 0, 0x0, 0⟩
abbrev R.CAL_CMD : RegId := ⟨.cal, 0, 0x4, 0⟩
abbrev R.CAL_STATUS : RegId := ⟨.cal, 0, 0x8, 0⟩
abbrev R.CAL_SET_COUNT : RegId := ⟨.cal, 0, 0xc, 0⟩
abbrev R.PKG_RST_CAUSE : RegId := ⟨.pkg, 0, 0x40, 0⟩
abbrev R.PKG_START : RegId := ⟨.pkg, 0, 0x44, 0⟩
abbrev R.HOSTIF_PORT_STATUS : RegId := ⟨.hostif, 0, 0x0, 0⟩
abbrev R.HOSTIF_ERR : RegId := ⟨.hostif, 0, 0x4, 0⟩
abbrev R.HOSTIF_MBOX_AB_DATA (i : Nat) : RegId := ⟨.hostif, 0, 0x100 + 0x4 * i, 0⟩
abbrev R.HOSTIF_MBOX_BA_DATA (i : Nat) : RegId := ⟨.hostif, 0, 0x140 + 0x4 * i, 0⟩
abbrev R.HOSTIF_MBOX_CTRL : RegId := ⟨.hostif, 0, 0x180, 0⟩
abbrev R.HOSTIF_SPI_CTRL : RegId := ⟨.hostif, 0, 0x200, 0⟩
abbrev R.HOSTIF_SPI_ADDR : RegId := ⟨.hostif, 0, 0x204, 0⟩
abbrev R.HOSTIF_SPI_STATUS : RegId := ⟨.hostif, 0, 0x208, 0⟩
abbrev R.HOSTIF_SPI_DATA (i : Nat) : RegId := ⟨.hostif, 0, 0x300 + 0x4 * i, 0⟩
abbrev R.HOSTIF_SMB_CTRL : RegId := ⟨.hostif, 0, 0x220, 0⟩
abbrev R.HOSTIF_SMB_STATUS : RegId := ⟨.hostif, 0, 0x224, 0⟩
abbrev R.HOSTIF_MSIX_TABLE (p : Port) (i : Nat) (j : Nat) : RegId := ⟨.hostif, 0, 0x1000 + 0x10 * i + 0x4 * j, p.toNat⟩
abbrev R.HOSTIF_PBA (p : Port) (i : Nat) : RegId := ⟨.hostif, 0, 0x2000 + 0x4 * i, p.toNat⟩
abbrev R.PKG_ID : RegId := ⟨.pkg, 0, 0x0, 0⟩
abbrev R.PKG_VER : RegId := ⟨.pkg, 0, 0x4, 0⟩
abbrev R.PKG_SERIAL_LO : RegId := ⟨.pkg, 0, 0x8, 0⟩
abbrev R.PKG_SERIAL_HI : RegId := ⟨.pkg, 0, 0xc, 0⟩
abbrev R.PKG_DRAM : RegId := ⟨.pkg, 0, 0x10, 0⟩
abbrev R.PKG_SCRATCH : RegId := ⟨.pkg, 0, 0x20, 0⟩
abbrev R.SEAM_STATUS (d : Nat) (i : Nat) : RegId := ⟨.seam, d, 0x0 + 0x100 * i, 0⟩
abbrev R.SEAM_RETIRED_0 (d : Nat) (i : Nat) : RegId := ⟨.seam, d, 0x4 + 0x100 * i, 0⟩
abbrev R.SEAM_RETIRED_1 (d : Nat) (i : Nat) : RegId := ⟨.seam, d, 0x8 + 0x100 * i, 0⟩
abbrev R.SEAM_RETIRED_2 (d : Nat) (i : Nat) : RegId := ⟨.seam, d, 0xc + 0x100 * i, 0⟩
abbrev R.SEAM_REPLAY_LO (d : Nat) (i : Nat) : RegId := ⟨.seam, d, 0x10 + 0x100 * i, 0⟩
abbrev R.SEAM_REPLAY_HI (d : Nat) (i : Nat) : RegId := ⟨.seam, d, 0x14 + 0x100 * i, 0⟩
abbrev R.SEAM_PARITY_LO (d : Nat) (i : Nat) : RegId := ⟨.seam, d, 0x18 + 0x100 * i, 0⟩
abbrev R.SEAM_PARITY_HI (d : Nat) (i : Nat) : RegId := ⟨.seam, d, 0x1c + 0x100 * i, 0⟩
abbrev R.SEAM_LOST_LO (d : Nat) (i : Nat) : RegId := ⟨.seam, d, 0x20 + 0x100 * i, 0⟩
abbrev R.SEAM_LOST_HI (d : Nat) (i : Nat) : RegId := ⟨.seam, d, 0x24 + 0x100 * i, 0⟩
abbrev R.CL_XING_PARITY_LO (c : Nat) : RegId := ⟨.cluster, c, 0x0, 0⟩
abbrev R.CL_XING_PARITY_HI (c : Nat) : RegId := ⟨.cluster, c, 0x4, 0⟩
abbrev R.DIE_TAP_PARITY_LO (d : Nat) : RegId := ⟨.die, d, 0x180, 0⟩
abbrev R.DIE_TAP_PARITY_HI (d : Nat) : RegId := ⟨.die, d, 0x184, 0⟩
abbrev R.PKG_CNT_WRAP_BLK (i : Nat) : RegId := ⟨.pkg, 0, 0x100 + 0x4 * i, 0⟩
/-- CNT_WRAP (11-4): the counter-wrap word w of the register block k, instance x. -/
abbrev R.CNT_WRAP (k : Blk) (x w : Nat) : RegId := ⟨k, x, 0xf000 + 4 * w, 0⟩
/-- CNT_WRAP_EN (11-4): the counter-wrap word w of the register block k, instance x. -/
abbrev R.CNT_WRAP_EN (k : Blk) (x w : Nat) : RegId := ⟨k, x, 0xf100 + 4 * w, 0⟩

end Sys2Proof.Machine
end

