-- ==== Sys2Proof/Machine/RegTable.lean ====
section
/-!
DEFINITION. Reading the register tables: which registers exist, what each reads after power-on, and which of its bits
have which access type (R408, R409, R412 to R414).
-/

namespace Sys2Proof.Machine

/-- The registers of a kind of block. -/
def blockTable : Blk → List RegDef
  | .pkg => regTable_pkg | .txn => regTable_txn | .time => regTable_time | .pair => regTable_pair
  | .bench => regTable_bench | .cal => regTable_cal | .mon => regTable_mon | .matrix => regTable_matrix
  | .hostif => regTable_hostif | .evtsum => regTable_evtsum | .die => regTable_die | .region => regTable_region
  | .cluster => regTable_cluster | .lu => regTable_lu | .skim => regTable_skim | .pour => regTable_pour
  | .wb => regTable_wb | .map => regTable_map | .pm => regTable_pm | .seam => regTable_seam | .evt => regTable_evt

/-- The offset lies on a register of this entry. -/
def RegDef.covers (d : RegDef) (off : Nat) : Bool :=
  let x := off - d.off
  let rest := x % d.s1
  decide (d.off ≤ off) && decide (x / d.s1 < d.c1) && decide (rest / d.s2 < d.c2) && decide (rest % d.s2 = 0)

/-- The register entry at an offset of a kind of block, the counter-wrap words of R275 included. -/
def findReg (k : Blk) (off : Nat) : Option RegDef :=
  match (blockTable k).find? (fun d => d.covers off) with
  | some d => some d
  | none => if k = .evt then none else regTable_any0.find? (fun d => d.covers off)

/-- The bits of a field, in place. -/
def Fld.mask (f : Fld) : Word := BitVec.ofNat 32 (2 ^ f.lo * (2 ^ f.w - 1))

/-- The bits of a register whose fields have one of the access types given. -/
def RegDef.mask (d : RegDef) (p : Access → Bool) : Word :=
  (d.fields.filter (fun f => p f.acc)).foldl (fun m f => m ||| f.mask) 0

/-- The reset value of a register by its fields. -/
def RegDef.rst (d : RegDef) : Word :=
  d.fields.foldl (fun m f => m ||| BitVec.ofNat 32 (2 ^ f.lo * f.rst)) 0

/-- Default rail windows, warning and critical, LOW in bits 31:16 and HIGH in bits 15:0 (Table 15-2). -/
def railWarn : List (Nat × Nat) :=
  [(728, 772), (776, 824), (873, 927), (1164, 1236), (1746, 1854), (1067, 1133), (1746, 1854)]
def railCrit : List (Nat × Nat) :=
  [(713, 787), (760, 840), (855, 945), (1140, 1260), (1710, 1890), (1045, 1155), (1710, 1890)]

/-- A window as MON_RAILr_WARN and MON_RAILr_CRIT lay it out (Table 15-5). -/
def railWord (w : Nat × Nat) : Word := BitVec.ofNat 32 (65536 * w.1 + w.2)

/-- What a register reads after power-on (R412, R413): its fields' reset values; for the entries that Reset shows as Factory,
a table reference or a dash, the value named in notes/assumptions/5.md and 6.md. The vectors of the MSI-X tables are masked (notes/assumptions/20.md). -/
def resetVal (r : RegId) : Word :=
  match r.blk with
  | .pkg =>
      if r.off = 0 then 0x41280000 ||| (Config.stepping.setWidth 32 <<< 12) ||| (if Config.is64 then 0x64 else 0x32)
      else if r.off = 8 then Config.serial.setWidth 32
      else if r.off = 0xc then (Config.serial >>> 32).setWidth 32
      else if r.off = 0x10 then BitVec.ofNat 32 Config.dramUnits
      else ((findReg .pkg r.off).map RegDef.rst).getD 0
  | .mon =>
      if r.off / 8 % 64 < 7 ∧ 0x200 ≤ r.off ∧ r.off < 0x238 then
        if r.off % 8 = 0 then railWord (railWarn.getD ((r.off - 0x200) / 8) (0, 0))
        else railWord (railCrit.getD ((r.off - 0x200) / 8) (0, 0))
      else ((findReg .mon r.off).map RegDef.rst).getD 0
  | .hostif =>
      if 0x1000 ≤ r.off ∧ r.off < 0x1B00 ∧ r.off % 16 = 12 then 1 else ((findReg .hostif r.off).map RegDef.rst).getD 0
  | .seam =>
      if r.off % 0x100 = 0 ∧ r.off < 0x300 then 0x80000042
      else ((findReg .seam r.off).map RegDef.rst).getD 0
  | .die =>
      if r.off = 0x1100 then (Config.dramSpares r.inst).setWidth 32 else ((findReg .die r.off).map RegDef.rst).getD 0
  | k => ((findReg k r.off).map RegDef.rst).getD 0

end Sys2Proof.Machine
end

