-- ==== Sys2Proof/Machine/Ops.lean ====
section
/-!
DEFINITION. The named operations over stores, registers, memory, timers and counters.
-/

namespace Sys2Proof.Machine

-- Sparse stores: a list of entries in canonical order; an unlisted key holds its default

/-- What a store holds for a key; `d` gives what an unlisted key holds. -/
def look {κ β : Type} [DecidableEq κ] (d : κ → β) : List (κ × β) → κ → β
  | [], k => d k
  | (k', v) :: t, k => if k' = k then v else look d t k

/-- The entries whose key is not `k`. -/
def drop {κ β : Type} [DecidableEq κ] (k : κ) : List (κ × β) → List (κ × β)
  | [] => []
  | e :: t => if e.1 = k then drop k t else e :: drop k t

/-- Puts an entry in front of the first one of higher code. -/
def place {κ β : Type} (code : κ → Nat) (e : κ × β) : List (κ × β) → List (κ × β)
  | [] => [e]
  | f :: t => if code e.1 < code f.1 then e :: f :: t else f :: place code e t

/-- Writes a key; writing its default removes the entry. -/
def store {κ β : Type} [DecidableEq κ] [DecidableEq β] (code : κ → Nat) (d : κ → β) (m : List (κ × β)) (k : κ) (v : β) :
    List (κ × β) :=
  if v = d k then drop k m else place code (k, v) (drop k m)

/-- The canonical form: codes strictly rising, no entry equal to what the unlisted key holds. -/
def storeWf {κ β : Type} [DecidableEq β] (code : κ → Nat) (d : κ → β) : List (κ × β) → Bool
  | [] => true
  | e :: t => decide (e.2 ≠ d e.1) && t.all (fun f => decide (code e.1 < code f.1)) && storeWf code d t

/-- A numbering of pairs of numbers, one number for each pair. -/
def npair (a b : Nat) : Nat := if a < b then b * b + a else a * a + a + b

/-- The place of a register in the canonical order. -/
def RegId.code (r : RegId) : Nat := npair (npair r.blk.code r.inst) (npair r.off r.held)

def K3.code (k : K3) : Nat := npair k.a (npair k.b k.c)

-- Registers

/-- The word of a field inside a register word. -/
def fget (w : Word) (f : Fld) : Nat := w.toNat / 2 ^ f.lo % 2 ^ f.w

/-- A register word with one field set to `v` modulo the field's width. -/
def fset (w : Word) (f : Fld) (v : Nat) : Word :=
  (w &&& ~~~(BitVec.ofNat 32 (2 ^ f.w - 1) <<< f.lo)) ||| (BitVec.ofNat 32 (v % 2 ^ f.w) <<< f.lo)

/-- The word a register holds. -/
def State.rd (s : State) (r : RegId) : Word := look resetVal s.regs r

/-- Puts a word into a register, whatever its access types. -/
def State.wr (s : State) (r : RegId) (v : Word) : State :=
  { s with regs := store RegId.code resetVal s.regs r v }

/-- One field of a register. -/
def State.get (s : State) (r : RegId) (f : Fld) : Nat := fget (s.rd r) f

/-- Puts one field of a register. -/
def State.put (s : State) (r : RegId) (f : Fld) (v : Nat) : State := s.wr r (fset (s.rd r) f v)

/-- A one-bit field as a truth value. -/
def State.flag (s : State) (r : RegId) (f : Fld) : Bool := s.get r f == 1

/-- Bit i of a register. -/
def State.bit (s : State) (r : RegId) (i : Nat) : Bool := (s.rd r).toNat.testBit i

/-- Sets bit i of a register. -/
def State.setBit (s : State) (r : RegId) (i : Nat) : State := s.wr r (s.rd r ||| ((1 : Word) <<< i))

/-- Clears bit i of a register. -/
def State.clrBit (s : State) (r : RegId) (i : Nat) : State := s.wr r (s.rd r &&& ~~~((1 : Word) <<< i))

/-- Puts bit i of a register. -/
def State.putBit (s : State) (r : RegId) (i : Nat) (b : Bool) : State := if b then s.setBit r i else s.clrBit r i

/-- A write of 1 bits clears them (RW1C, R412). -/
def State.w1c (s : State) (r : RegId) (v : Word) : State := s.wr r (s.rd r &&& ~~~v)

/-- Adds one to a field, up to its largest value. -/
def State.satInc (s : State) (r : RegId) (f : Fld) : State :=
  if s.get r f < 2 ^ f.w - 1 then s.put r f (s.get r f + 1) else s

-- Time

/-- FN of the present frame (R255). -/
def State.fn (s : State) : Nat := s.frames % 2 ^ 32

/-- Frame numbers apart, counted forward from a to b, modulo 2^32. -/
def fnDelta (a b : Nat) : Nat := (b + 2 ^ 32 - a % 2 ^ 32) % 2 ^ 32

/-- Frames in so many milliseconds: 8 system frames of 125 us each (R65). -/
def msFrames (ms : Nat) : Nat := 8 * ms

def State.timer (s : State) (k : TKey) : Option Nat := look (fun _ => none) s.timers k

def TKey.code (k : TKey) : Nat := npair k.kind.code k.k.code

/-- Starts, or restarts, a timer that runs out after so many ns. -/
def State.startTimerNs (s : State) (k : TKey) (ns : Nat) : State :=
  { s with timers := store TKey.code (fun _ => none) s.timers k (some (s.clk + ns)) }

/-- Starts, or restarts, a timer that runs out after so many frame times. -/
def State.startTimer (s : State) (k : TKey) (frames : Nat) : State := s.startTimerNs k (125000 * frames)

/-- The bound of a clearing of kind k, of a bank b of die d where that is what is cleared (Table 16-6). -/
def clearKey (k d b : Nat) : TKey := ⟨.memclr, ⟨k, d, b⟩⟩

/-- Stops a timer. -/
def State.stopTimer (s : State) (k : TKey) : State :=
  { s with timers := store TKey.code (fun _ => none) s.timers k none }

/-- The timer runs and its time is up. -/
def State.timerDone (s : State) (k : TKey) : Bool :=
  match s.timer k with
  | some d => decide (d ≤ s.clk)
  | none => false

/-- The timer runs. -/
def State.timerOn (s : State) (k : TKey) : Bool := (s.timer k).isSome

/-- Frame times left of a running timer, rounded up; 0 when it is not running. -/
def State.timerLeft (s : State) (k : TKey) : Nat :=
  match s.timer k with
  | some d => (d - s.clk + 124999) / 125000
  | none => 0

-- The time base (R254 to R256)

/-- Seconds of the time base, 48 bits. -/
def State.tbSec (s : State) : Nat := s.frames / 8000 % 2 ^ 48

/-- Nanoseconds of the time base. -/
def State.tbNs (s : State) : Nat := 125000 * (s.frames % 8000) + s.ns

/-- A timestamp of the present ns and a fraction in 1/1,024 ns (Table 10-9). -/
def State.stamp (s : State) (sub : Nat) : List Word :=
  let sec := s.tbSec
  let ns := s.tbNs
  [BitVec.ofNat 32 (2 ^ 18 * (ns % 2 ^ 14) + 2 ^ 8 * (sub % 1024)), BitVec.ofNat 32 (2 ^ 16 * (sec % 2 ^ 16) + ns / 2 ^ 14), BitVec.ofNat 32 (sec / 2 ^ 16)]

-- Free values

/-- Draws a free value (notes/assumptions/2.md). -/
def State.freeNat (s : State) : Nat := Config.free s.draw
def State.drawn (s : State) : State := { s with draw := s.draw + 1 }

-- Host ports

def State.port (s : State) : Port → PortCfg
  | .a => s.portA
  | .b => s.portB

/-- A port held in reset: its configuration space at its reset values, the payload size at 128 bytes (notes/assumptions/107.md). -/
def PortCfg.down : PortCfg := ⟨true, false, false, false, false, ⟨0, 0, 0, 0⟩⟩

/-- The maximum payload of the port's writes, in bytes (Table 17-1). -/
def PortCfg.payload (c : PortCfg) : Nat := 128 * 2 ^ c.pci.mps.val

/-- What a read of BAR i returns, the expansion ROM BAR being the sixth (R390): the address bits that the BAR's size leaves to the host
(256 MiB, and 128 GiB over BAR2 and BAR3), and its type. -/
def PortCfg.bar (c : PortCfg) : Nat → Word
  | 0 => c.pci.bar0 &&& 0xF0000000
  | 2 => 0x0000000C
  | 3 => c.pci.bar3 &&& 0xFFFFFFE0
  | _ => 0

def State.setPort (s : State) (p : Port) (c : PortCfg) : State :=
  match p with
  | .a => { s with portA := c }
  | .b => { s with portB := c }

/-- Step of Table 16-4 reached. -/
def State.startStep (s : State) : Nat := s.get R.PKG_START F.PKG_START_STEP

/-- The start-up has passed step 3: the monitors run, and the registers answer (R383). -/
def State.services (s : State) : Bool := s.pwr == .run && decide (3 ≤ s.startStep)

/-- The link of a host port is up (Table 17-6). -/
def State.linkUp (s : State) : Port → Bool
  | .a => s.flag R.HOSTIF_PORT_STATUS F.HOSTIF_PORT_STATUS_A_UP
  | .b => s.flag R.HOSTIF_PORT_STATUS F.HOSTIF_PORT_STATUS_B_UP

/-- A request of the port reaches the device's registers and memories: the package answers (R380), the port is out of reset
(R381), its link is up, it is in D0 (R390), and its master is not under reset, in which it issues nothing (R332; notes/assumptions/88.md). -/
def State.answers (s : State) (p : Port) : Bool :=
  decide (3 ≤ s.startStep) && s.linkUp p && !(s.port p).perst && !(s.port p).d3hot && !s.bit R.MATRIX_MRST_BUSY p.toNat

/-- The outcome of a command that ran. -/
abbrev Out := Host.Outcome State Fault Refusal

/-- What the command answers. -/
def State.answer (s : State) (c : Completion) : State := { s with resp := c }

/-- The master has requests outstanding at a target other than t. -/
def State.outElse (s : State) (m t : Nat) : Bool := s.mxOut.any (fun e => e.master == m && e.target != t)

/-- A request may go to its target now (R329, R330), and no earlier one of its master waits at a bank of that target. -/
def State.mxMayIssue (s : State) (m t : Nat) : Bool :=
  decide (s.get (R.MATRIX_OUT m) F.MATRIX_OUT_COUNT < 64) && !(s.bit R.MATRIX_MODE m && s.outElse m t)
    && !s.wbWait.any (fun w => w.master == m && 1 + w.die == t)

/-- The target of a host port's command (Table 13-4): CAL, BSTORE for the staging window, or REG. -/
def regTarget : Instr → Nat
  | .registerWrite _ a _ | .counterLoRead _ a _ _ =>
      if 0x50000 ≤ a.toNat ∧ a.toNat < 0x60000 then 9 else if 0x2000000 ≤ a.toNat ∧ a.toNat < 0x3000000 then 10 else 0
  | .calLoad _ | .calRecal _ _ _ | .calArm _ | .calCommit _ | .calOpInvalid _ _ => 9
  | _ => 0

/-- A command of the port waits at its master, behind earlier requests or while R329 or R330 holds it there. -/
def State.regWaits (s : State) (p : Port) (i : Instr) : Bool :=
  !s.mxMayIssue p.toNat (regTarget i) || s.mxWait.any (fun w => w.master == p.toNat)

/-- A request that a host port sends: where the port is not answered the request completes with Unsupported Request and
changes nothing (R380, R381, R390, R332). -/
def hostCmd (p : Port) (f : State → State) (s : State) : State :=
  if s.answers p then f (s.answer .done) else s.answer .ur

/-- A command that a host port gives in registers, as `hostCmd`; while the matrix holds the port's requests it waits there (R329, R330;
notes/assumptions/87.md). -/
def hostReg (p : Port) (i : Instr) (f : State → State) (s : State) : State :=
  hostCmd p (fun t => if t.regWaits p i then { t.answer .none with mxWait := t.mxWait ++ [⟨p.toNat, .cmd i⟩] } else f t) s

-- Counters: LO at the register, HI beside it (R273 to R276)

/-- A counter: its LO and HI registers. -/
structure Ctr where
  lo : RegId
  hi : RegId
deriving DecidableEq, Repr

/-- The 48-bit value of an error-event counter. -/
def State.ctr (s : State) (c : Ctr) : Nat := 2 ^ 32 * ((s.rd c.hi).toNat % 2 ^ 16) + (s.rd c.lo).toNat

/-- The 64-bit value of a loss counter. -/
def State.ctr64 (s : State) (c : Ctr) : Nat := 2 ^ 32 * (s.rd c.hi).toNat + (s.rd c.lo).toNat

def State.setCtr (s : State) (c : Ctr) (v : Nat) : State :=
  (s.wr c.hi (BitVec.ofNat 32 (v / 2 ^ 32))).wr c.lo (BitVec.ofNat 32 v)

/-- Adds to a 64-bit saturating loss counter (Table 11-3). -/
def State.addLoss (s : State) (c : Ctr) (n : Nat) : State :=
  let v := s.ctr64 c + n
  s.setCtr c (if v < 2 ^ 64 then v else 2 ^ 64 - 1)

/-- The counter-wrap word and bit of an error-event counter, by its offset in its register block (R275). The event
register set lies at +0x2400 of its block (R408). -/
def wrapPlace (r : RegId) : RegId × Nat :=
  let (k, x, o) : Blk × Nat × Nat :=
    if r.blk = .evt then
      (if r.inst = 0 then (.pkg, 0, r.off + 0x2400) else if r.inst = 1 then (.pair, 0, r.off + 0x2400)
       else if r.inst = 2 then (.time, 0, r.off + 0x2400) else if r.inst < 7 then (.die, r.inst - 3, r.off + 0x2400)
       else if r.inst < 15 then (.region, r.inst - 7, r.off + 0x2400)
       else if r.inst < 47 then (.cluster, r.inst - 15, r.off + 0x2400) else (.lu, r.inst - 47, r.off + 0x2400))
    else (r.blk, r.inst, r.off)
  (R.CNT_WRAP k x (o / 8 / 32), o / 8 % 32)

/-- Adds to a 48-bit counter; on a wrap sets its WRAP bit. The second part tells whether a wrap event is due (R275). -/
def State.addRaw (s : State) (c : Ctr) (n : Nat) : State × Bool :=
  let v := s.ctr c + n
  if v < 2 ^ 48 then (s.setCtr c v, false)
  else
    let (w, i) := wrapPlace c.lo
    let s1 := (s.setCtr c (v % 2 ^ 48)).setBit w i
    (s1, s1.bit { w with off := w.off + 0x100 } i)

-- Memory (R15, R37, R310, R410): bytes at their BAR2 addresses; the staging window (R43) at 2^37

/-- The canonical form of the memory: addresses strictly rising, no byte listed that reads 0 unlisted. -/
def Memory.wf (m : List Host.Cell) : Bool := storeWf id (fun _ => 0) m

/-- A byte that nothing has written reads 0 (R327, R386, R46). -/
def State.ldb (s : State) (a : Nat) : Byte := look (fun _ => 0) s.mem a

/-- Writes one byte, in the canonical form of the memory. -/
def State.stb (s : State) (a : Nat) (b : Byte) : State := { s with mem := store id (fun _ => 0) s.mem a b }

/-- Reads n bytes. -/
def State.ld (s : State) (a : Nat) : Nat → List Byte
  | 0 => []
  | n + 1 => s.ldb a :: s.ld (a + 1) n

/-- Writes bytes one after another. -/
def State.st (s : State) (a : Nat) : List Byte → State
  | [] => s
  | b :: t => (s.stb a b).st (a + 1) t

/-- Bytes of a little-endian word. -/
def wordBytes (w : Word) : List Byte := [w.setWidth 8, (w >>> 8).setWidth 8, (w >>> 16).setWidth 8, (w >>> 24).setWidth 8]

/-- Zeroes every byte whose address satisfies p (R327, R386). -/
def State.zeroMem (s : State) (p : Nat → Bool) : State := { s with mem := s.mem.filter (fun e => !p e.1) }

def stagingBase : Nat := 2 ^ 37

/-- BAR2 address of work bank b of die d (R310). -/
def wbBase (d b : Nat) : Nat := 0x10000000 * d + 0x40000 * b

/-- BAR2 address of the DRAM of die d (R410). -/
def dramBase (d : Nat) : Nat := 0x1000000000 + 0x400000000 * d

/-- Bytes of a partition unit. -/
def unitBytes : Nat := 0x10000000

/-- A BAR2 address out of its two registers. -/
def State.addrAt (s : State) (lo hi : RegId) : Nat := 2 ^ 32 * ((s.rd hi).toNat % 32) + (s.rd lo).toNat

-- Resets of stored registers

/-- Keeps of each stored register the bits of `keep` and gives the others their reset value. -/
def State.resetRegs (s : State) (keep : RegId → Word) : State :=
  { s with regs := s.regs.filterMap (fun e =>
      let v := (e.2 &&& keep e.1) ||| (resetVal e.1 &&& ~~~(keep e.1))
      if v = resetVal e.1 then none else some (e.1, v)) }

/-- The bits of a register whose access types satisfy p. -/
def accMask (r : RegId) (p : Access → Bool) : Word := ((findReg r.blk r.off).map (fun d => d.mask p)).getD 0

/-- The register is held for each port apart (R419). -/
def isHeld (r : RegId) : Bool := ((findReg r.blk r.off).map RegDef.held).getD false

/-- The LO register of a counter: none if it is not one, else whether it has 64 bits. -/
def counterAt (k : Blk) (off : Nat) : Option Bool :=
  ((counterTable k).find? (fun d => d.1.covers off)).map (fun d => d.2)

/-- The register is one half of a counter. -/
def isCounter (r : RegId) : Bool := (counterAt r.blk r.off).isSome || (counterAt r.blk (r.off - 4)).isSome && decide (4 ≤ r.off)

-- Small arithmetic

/-- The nearest value of a range (R124, R156, R262, R372). -/
def clampNat (lo hi v : Nat) : Nat := if v < lo then lo else if hi < v then hi else v

/-- Two's complement reading of the low n bits. -/
def sInt (n : Nat) (v : Nat) : Int := if v % 2 ^ n < 2 ^ (n - 1) then (v % 2 ^ n : Nat) else (v % 2 ^ n : Nat) - (2 ^ n : Nat)

/-- The low 32 bits of an integer in two's complement. -/
def wordOfInt (i : Int) : Word := BitVec.ofInt 32 i

/-- Ceiling of a division. -/
def cdiv (a b : Nat) : Nat := (a + b - 1) / b

end Sys2Proof.Machine
end

