-- ==== Sys2Proof/Machine/Flags.lean ====
section
/-!
DEFINITION. Events: counting, severity, first-source records, FAULT_N, PENDING and MSI-X, and the reactions that need no
other unit (14_faults.md).
-/

namespace Sys2Proof.Machine

-- Event blocks (Table 14-1)

def evPkg : Nat := 0
def evPair : Nat := 1
def evTime : Nat := 2
def evDie (d : Nat) : Nat := 3 + d
def evRegion (g : Nat) : Nat := 7 + g
def evCluster (c : Nat) : Nat := 15 + c
def evLu (n : Nat) : Nat := 47 + n

/-- Number of event blocks (Table 14-1). -/
def evBlocks : Nat := 175

/-- Sources of an event block (Table 14-1). -/
def evSources (b : Nat) : Nat :=
  if b = 0 then 32 else if b = 1 then 8 else if b = 2 then 24 else if b < 7 then 24 else if b < 15 then 8
  else if b < 47 then 1 else 3

/-- Class codes (Table 14-6). -/
def clsNote : Nat := 0
def clsRetry : Nat := 1
def clsSafe : Nat := 2
def clsRetire : Nat := 3
def clsGrave : Nat := 7

/-- Factory classification of a source: class, N, window in ms (Tables 14-2 to 14-5; R337 gives what a table leaves out). -/
def factory (b s : Nat) : Nat × Nat × Nat :=
  let note := (clsNote, 255, 1)
  let note1 := (clsNote, 1, 1000)
  let grave := (clsGrave, 1, 1)
  if b = 0 then
    match s with
    | 1 | 5 | 6 | 11 | 12 | 16 | 18 | 19 | 22 | 23 | 24 => note1
    | 4 => (clsRetry, 3, 60000)
    | 7 => (clsRetry, 16, 1000)
    | 8 | 9 | 15 | 17 | 20 | 21 => grave
    | 10 => (clsRetry, 4, 1000)
    | _ => note
  else if b = 1 then (if s = 6 then (clsNote, 16, 1000) else note)
  else if b = 2 then (if s = 23 then grave else note)
  else if b < 7 then
    match s with
    | 0 => (clsSafe, 64, 1000)
    | 1 => (clsRetry, 255, 1000)
    | 2 => (clsRetire, 4, 1000)
    | 3 => (clsSafe, 1, 1)
    | 5 => (clsRetry, 16, 1000)
    | 18 => (clsRetire, 16, 1000)
    | 19 => (clsRetire, 1, 1)
    | 20 => (clsRetire, 8, 1000)
    | 22 => (clsRetry, 16, 1000)
    | 23 => (clsSafe, 1, 1)
    | _ => note
  else if b < 15 then
    match s with
    | 0 => (clsSafe, 64, 1000)
    | 2 => (clsRetire, 16, 1000)
    | 5 => (clsRetry, 16, 1000)
    | 6 => (clsSafe, 1, 1)
    | 7 => note1
    | _ => note
  else if b < 47 then (clsSafe, 64, 1000)
  else if s = 2 then (clsSafe, 8, 1000) else note

-- Named sources

def srcTXN : Nat := 0
def srcBENCH : Nat := 1
def srcCNT_WRAP : Nat := 2
def srcPkgMATRIX : Nat := 3
def srcHK : Nat := 4
def srcHK_RUN : Nat := 5
def srcCAL : Nat := 6
def srcBSTORE : Nat := 7
def srcSEQ : Nat := 8
def srcPLL : Nat := 9
def srcREG : Nat := 10
def srcHOSTA : Nat := 11
def srcHOSTB : Nat := 12
def srcSPI : Nat := 13
def srcSMBUS : Nat := 14
def srcTEMP_CRIT : Nat := 15
def srcVOLT : Nat := 16
def srcVOLT_CRIT : Nat := 17
def srcAGING : Nat := 18
def srcTDR : Nat := 19
def srcXCHK : Nat := 20
def srcROM : Nat := 21
def srcFAULT_PIN : Nat := 22
def srcMEMCLR : Nat := 24
def srcMATE_LINK : Nat := 0
def srcMIRROR : Nat := 1
def srcYOKE : Nat := 2
def srcARB : Nat := 3
def srcHANDOVER : Nat := 4
def srcALIGN : Nat := 5
def srcSHADOW : Nat := 6
def srcHEALTH : Nat := 7
def srcMAIN : Nat := 16
def srcSWITCH : Nat := 17
def srcDISPUTE : Nat := 18
def srcSTATION : Nat := 19
def srcAUX : Nat := 20
def srcTB : Nat := 21
def srcSYNC_IN : Nat := 22
def srcOSC : Nat := 23
def srcSEAM_PARITY : Nat := 0
def srcSEAM_REPLAY : Nat := 1
def srcSEAM_LANE : Nat := 2
def srcSEAM_DOWN : Nat := 3
def srcTAP_PARITY : Nat := 4
def srcMAP : Nat := 5
def srcJRN_LOSS : Nat := 6
def srcVCAT : Nat := 7
def srcSNCP : Nat := 8
def srcMERGE : Nat := 9
def srcPM_BIN : Nat := 10
def srcPM_SLOT : Nat := 11
def srcPM_TCA : Nat := 12
def srcSKIM : Nat := 13
def srcSKIM_LOSS : Nat := 14
def srcSKIM_DRAIN : Nat := 15
def srcPRBS : Nat := 16
def srcPOUR : Nat := 17
def srcWB : Nat := 18
def srcSIEVE : Nat := 19
def srcDRAM : Nat := 20
def srcDieMATRIX : Nat := 21
def srcSRAM : Nat := 22
def srcDieCLOCK : Nat := 23
def srcXING_PARITY : Nat := 0
def srcSLAB_LATE : Nat := 1
def srcSLAB_ECC : Nat := 2
def srcSLAB_SPARE : Nat := 3
def srcMSP : Nat := 4
def srcGATHER : Nat := 5
def srcRgCLOCK : Nat := 6
def srcTEMP : Nat := 7
def srcTX : Nat := 0
def srcSECTION : Nat := 0
def srcPATH : Nat := 1
def srcSERDES : Nat := 2

-- MSI-X (R353, R390, R394, R395)

/-- The port may send the vector now. -/
def State.msixReady (s : State) (p : Port) (v : Nat) : Bool :=
  let c := s.port p
  !c.perst && !c.d3hot && c.bme && c.msixOn && !c.funcMask && s.linkUp p
    && !(s.bit (R.HOSTIF_MSIX_TABLE p v 3) 0)

/-- Sends a vector to one port, or leaves its pending bit set in the port's PBA. -/
def State.msixTo (s : State) (p : Port) (v : Nat) : State :=
  if s.msixReady p v then
    let addr := (s.rd (R.HOSTIF_MSIX_TABLE p v 1)).setWidth 64 <<< 32 ||| (s.rd (R.HOSTIF_MSIX_TABLE p v 0)).setWidth 64
    { s with hostWrites := .msix p v addr (s.rd (R.HOSTIF_MSIX_TABLE p v 2)) :: s.hostWrites }.clrBit
      (R.HOSTIF_PBA p (v / 32)) (v % 32)
  else s.setBit (R.HOSTIF_PBA p (v / 32)) (v % 32)

/-- Sends every pending vector of the port that may be sent now (R353). -/
def State.msixFlush (s : State) (p : Port) : State :=
  (List.range 176).foldl
    (fun t v => if t.bit (R.HOSTIF_PBA p (v / 32)) (v % 32) && t.msixReady p v then t.msixTo p v else t) s

/-- A block's vector, to the ports that EVT_CTRL.PORT selects. -/
def State.evSend (s : State) (b : Nat) : State :=
  match s.get (R.EVT_CTRL b) F.EVT_CTRL_PORT with
  | 0 => s.msixTo .a b
  | 1 => s.msixTo .b b
  | 2 => (s.msixTo .a b).msixTo .b b
  | _ => s

/-- Sets PENDING; the step from 0 to 1 sends the vector. -/
def State.setPending (s : State) (b : Nat) : State :=
  if s.flag (R.EVT_CTRL b) F.EVT_CTRL_PENDING then s
  else (s.put (R.EVT_CTRL b) F.EVT_CTRL_PENDING 1).evSend b

-- FAULT_N (R350)

def State.grave (s : State) : Bool := s.flag R.EVT_SUM_STATUS F.EVT_SUM_STATUS_GRAVE

def ctrFaultPulses : Ctr := ⟨R.EVT_FAULT_PULSES_LO, R.EVT_FAULT_PULSES_HI⟩

def faultKey : TKey := ⟨.faultPulse, ⟨0, 0, 0⟩⟩

/-- A severe transition pulses FAULT_N, except in GRAVE. A transition during a pulse makes it longer and counts no second one;
the transition that enters GRAVE counts its fall as a pulse (notes/assumptions/11.md). -/
def State.faultPulse (s : State) : State :=
  if s.grave then s
  else
    let s1 := s.startTimerNs faultKey 2000
    if s.flag R.EVT_SUM_STATUS F.EVT_SUM_STATUS_PULSE then s1
    else ((s1.put R.EVT_SUM_STATUS F.EVT_SUM_STATUS_PULSE 1).put R.EVT_SUM_STATUS F.EVT_SUM_STATUS_FAULT_LOW 1
          |>.addRaw ctrFaultPulses 1).1

-- First-source records (R351)

/-- The record k was latched at this instant: of two transitions of one cycle the lower block, and then the lower source, is latched
(notes/assumptions/113.md). -/
def State.latchedNow (s : State) (k : Nat) : Bool := look (fun _ => 0) s.firstClk k == s.clk + 1

def State.latching (s : State) (k : Nat) : State := { s with firstClk := store id (fun _ => 0) s.firstClk k (s.clk + 1) }

/-- The record of a block: OVF marks a transition that it does not hold, or that another of the same cycle took the place of. -/
def State.latchFirst (s0 : State) (b src cls : Nat) (detail : Word) : State :=
  let held := s0.flag (R.EVT_FIRST0 b) F.EVT_FIRST0_VALID
  let s := if held then s0.put (R.EVT_FIRST0 b) F.EVT_FIRST0_OVF 1 else s0.latching b
  if held && !(s0.latchedNow b && decide (src < s0.get (R.EVT_FIRST0 b) F.EVT_FIRST0_SOURCE)) then s
  else
    ((((((s.put (R.EVT_FIRST0 b) F.EVT_FIRST0_VALID 1).put (R.EVT_FIRST0 b) F.EVT_FIRST0_CLASS cls).put
      (R.EVT_FIRST0 b) F.EVT_FIRST0_SOURCE src).wr (R.EVT_FIRST1 b) (BitVec.ofNat 32 s.fn)).put
      (R.EVT_FIRST2 b) F.EVT_FIRST2_NS s.ns).wr (R.EVT_FIRST3 b) detail)

/-- The record of the package. -/
def State.latchPkgFirst (s0 : State) (b src cls : Nat) : State :=
  let held := s0.flag R.EVT_PKG_FIRST0 F.EVT_PKG_FIRST0_VALID
  let s := if held then s0.put R.EVT_PKG_FIRST0 F.EVT_PKG_FIRST0_OVF 1 else s0.latching 175
  let place := 256 * s0.get R.EVT_PKG_FIRST0 F.EVT_PKG_FIRST0_BLOCK + s0.get R.EVT_PKG_FIRST0 F.EVT_PKG_FIRST0_SOURCE
  if held && !(s0.latchedNow 175 && decide (256 * b + src < place)) then s
  else
    ((((((s.put R.EVT_PKG_FIRST0 F.EVT_PKG_FIRST0_VALID 1).put R.EVT_PKG_FIRST0 F.EVT_PKG_FIRST0_CLASS cls).put
      R.EVT_PKG_FIRST0 F.EVT_PKG_FIRST0_BLOCK b).put R.EVT_PKG_FIRST0 F.EVT_PKG_FIRST0_SOURCE src).wr
      R.EVT_PKG_FIRST1 (BitVec.ofNat 32 s.fn)).put R.EVT_PKG_FIRST2 F.EVT_PKG_FIRST2_NS s.ns)

-- Reactions

/-- Entry to GRAVE (R349): the record of the first grave transition, FAULT_N low. -/
def State.enterGrave (s : State) (b src : Nat) : State :=
  if s.grave then s
  else
    (((((s.put R.EVT_SUM_STATUS F.EVT_SUM_STATUS_GRAVE 1).put R.EVT_SUM_STATUS F.EVT_SUM_STATUS_FAULT_LOW 1).put
      R.EVT_SUM_STATUS F.EVT_SUM_STATUS_FAULT_HOLD 1)).wr R.EVT_GRAVE0
      (BitVec.ofNat 32 (2 ^ 31 + 256 * b + src))).wr R.EVT_GRAVE1 (BitVec.ofNat 32 s.fn) |>.put R.EVT_GRAVE2
      F.EVT_GRAVE2_NS s.ns

/-- A source with a retirement target (Table 14-10). -/
def hasTarget (b src : Nat) : Bool :=
  if b < 3 then false
  else if b < 7 then src = srcSEAM_LANE || src = srcWB || src = srcSIEVE || src = srcDRAM
  else if b < 15 then src = srcSLAB_ECC
  else true

/-- CL_LOCK of the cluster of event block b, whose transmit island runs or not; nothing for another block (R29). -/
def State.clusterRuns (s : State) (b : Nat) (on : Bool) : State :=
  if 15 ≤ b ∧ b < 47 then s.putBit (R.DIE_UNIT_STATE ((b - 15) / 8)) (8 + (b - 15) % 8) on else s

/-- The SAFE reaction, or FENCE in fence mode, which stops a cluster's transmit island (R29, R344, R348). -/
def State.safeReact (s : State) (b src : Nat) (detail : Word) : State :=
  { (if s.fence then s.clusterRuns b false else s) with safe := ⟨b, src, detail, s.fence, none⟩ :: s.safe }

/-- The class reaction of Table 14-6 at a severe transition. -/
def State.react (s : State) (b src cls : Nat) (detail : Word) : State :=
  if cls = clsGrave then s.enterGrave b src
  else if cls = clsSafe then s.safeReact b src detail
  else if cls = clsRetire then
    (if hasTarget b src then { s with due := s.due ++ [⟨b, src, detail⟩] } else s.safeReact b src detail)
  else s

def evWindowKey (b src : Nat) : TKey := ⟨.evWindow, ⟨b, src, 0⟩⟩
def evQuietKey (b src : Nat) : TKey := ⟨.evQuiet, ⟨b, src, 0⟩⟩

/-- A source turns severe (R339, R343): WCOUNT to 0, window closed, records, FAULT_N, PENDING, class reaction. -/
def State.turnSevere (s : State) (b src : Nat) : State :=
  let cls := s.get (R.EVT_CFG b src) F.EVT_CFG_CLASS
  let detail := s.rd (R.EVT_DETAIL b src)
  let s1 := ((s.setBit (R.EVT_SEVERE b) src).put (R.EVT_CFG b src) F.EVT_CFG_WCOUNT 0).stopTimer (evWindowKey b src)
  let s2 := (s1.startTimer (evQuietKey b src) 0).latchFirst b src cls detail |>.latchPkgFirst b src cls
  let s4 := s2.faultPulse.react b src cls detail
  if s4.bit (R.EVT_ENABLE b) src then s4.setPending b else s4

def ctrEvTotal (b src : Nat) : Ctr := ⟨R.EVT_TOTAL_LO b src, R.EVT_TOTAL_HI b src⟩

/-- One event on a source, without the wrap event of its counter: R338 and R339. `toward` is false for an event that does
not count toward N (Table 14-4, Dd.WB). The second part tells whether a wrap event is due. -/
def State.eventRaw (s : State) (b src : Nat) (detail : Word) (toward : Bool) : State × Bool :=
  let (s0, w) := s.addRaw (ctrEvTotal b src) 1
  let s1 := (s0.setBit (R.EVT_STICKY b) src).wr (R.EVT_DETAIL b src) detail
  let s2 := if s1.bit (R.EVT_ENABLE b) src then s1.setPending b else s1
  if s2.bit (R.EVT_SEVERE b) src then (s2.startTimer (evQuietKey b src) 0, w)
  else if !s2.sevOn || !toward then (s2, w)
  else
    let n := s2.get (R.EVT_CFG b src) F.EVT_CFG_WCOUNT + 1
    if s2.get (R.EVT_CFG b src) F.EVT_CFG_N ≤ n then (s2.turnSevere b src, w)
    else
      let s3 := s2.put (R.EVT_CFG b src) F.EVT_CFG_WCOUNT n
      let s4 := if n = 1 then s3.startTimer (evWindowKey b src) (msFrames (s3.get (R.EVT_WIN b src) F.EVT_WIN_WINDOW_MS)) else s3
      (s4, w)

-- Skim triggers that follow events and defects (R290, R291)

/-- An ARMED Skim job whose trigger is of this kind. -/
def State.skWaits (s : State) (d j kind : Nat) : Bool :=
  s.get (R.SKIM_JOB_STATUS d j) F.SKIM_JOB_STATUS_STATE == 3 && s.get (R.SKIM_JOB_CFG d j) F.SKIM_JOB_CFG_TRIG == kind

/-- The ARMED jobs, as die and job, whose trigger is of this kind and meets a condition. -/
def State.skWaiting (s : State) (kind : Nat) (p : Nat → Nat → Bool) : List (Nat × Nat) :=
  (List.range 32).filterMap (fun x => if s.skWaits (x / 8) (x % 8) kind && p (x / 8) (x % 8) then some (x / 8, x % 8) else none)

/-- The trigger instant of a job is set: it enters POST. -/
def State.skFire (s : State) (d j by_ : Nat) (ts : List Word) : State :=
  let r := R.SKIM_JOB_STATUS d j
  ((((((s.put r F.SKIM_JOB_STATUS_STATE 5).put r F.SKIM_JOB_STATUS_TRIGGERED 1).put r F.SKIM_JOB_STATUS_TRIG_SRC by_).wr
    (R.SKIM_JOB_TRIG_TS d j 0) (ts.getD 0 0)).wr (R.SKIM_JOB_TRIG_TS d j 1) (ts.getD 1 0)).wr (R.SKIM_JOB_TRIG_TS d j 2) (ts.getD 2 0))

/-- A timestamp of now; the fraction of the ns is a free value. -/
def State.stampNow (s : State) : State × List Word := (s.drawn, s.stamp s.freeNat)

/-- Counts events one after another, each with those it causes: a wrap of its EVT_TOTAL counts on PKG.CNT_WRAP (R275), and a Skim job
that waits for the source triggers, its change of state and its trigger counting one event each on Dd.SKIM (R290, R292). -/
def State.eventLoop : Nat → List (Nat × Nat × Word × Bool) → State → State
  | n + 1, (b, src, detail, toward) :: l, s =>
      let (s1, w) := s.eventRaw b src detail toward
      let hit := s1.skWaiting 3 (fun d j => (s1.rd (R.SKIM_JOB_TRIG d j 0)).toNat % 2 ^ 16 == 256 * b + src)
      let s2 := hit.foldl (fun (t : State) e => let (u, ts) := t.stampNow; u.skFire e.1 e.2 0 ts) s1
      let more := (if w then [(evPkg, srcCNT_WRAP, (0 : Word), true)] else [])
        ++ hit.flatMap (fun e => [(evDie e.1, srcSKIM, (0 : Word), true), (evDie e.1, srcSKIM, (0 : Word), true)])
      State.eventLoop n (l ++ more) s2
  | _, _, s => s

/-- One event on a source (R338), with the events it causes. -/
def State.event' (s : State) (b src : Nat) (detail : Word) (toward : Bool) : State :=
  State.eventLoop 256 [(b, src, detail, toward)] s

/-- One event on a source, counting toward severity. -/
def State.event (s : State) (b src : Nat) (detail : Word) : State := s.event' b src detail true

/-- One event on a source whose DETAIL is 0 (Table 14-17). -/
def State.ev (s : State) (b src : Nat) : State := s.event b src 0

/-- One event on a source if its condition is met. -/
def State.evIf (s : State) (c : Bool) (b src : Nat) : State := if c then s.ev b src else s

/-- A Skim job's trigger condition is met, or its TRIGGER command has come. -/
def State.skTrig (s : State) (d j by_ : Nat) (ts : List Word) : State :=
  ((s.skFire d j by_ ts).ev (evDie d) srcSKIM).ev (evDie d) srcSKIM

/-- A list entry of R285. -/
def tapWord (code : Nat) (a3 : Bool) (t : TA) : Word := BitVec.ofNat 32 (2 ^ 25 * code + (if a3 then 2 ^ 24 else 0) + t.toNat)

/-- The defect bits of a path or a link go from `old` to `now`: DEFECT triggers (Table 12-5). -/
def State.skDefect (s : State) (tap : Word) (old now : Nat) : State :=
  let hit := s.skWaiting 2 (fun d j =>
    let mask := (s.rd (R.SKIM_JOB_TRIG d j 0)).toNat % 2 ^ 16
    let diff := if s.bit (R.SKIM_JOB_TRIG d j 1) 0 then old ^^^ now else now &&& (old ^^^ now)
    s.rd (R.SKIM_JOB_TRIG d j 2) == tap && (diff &&& mask) != 0)
  hit.foldl (fun (t : State) e => let (u, ts) := t.stampNow; u.skTrig e.1 e.2 0 ts) s

/-- Adds to a 48-bit error-event counter, with the wrap event of R275. -/
def State.addCtr (s : State) (c : Ctr) (n : Nat) : State :=
  let (s1, w) := s.addRaw c n
  if w then s1.ev evPkg srcCNT_WRAP else s1

/-- A live condition begins (R338, R339): the live bit rises, and its onset turns the source severe at once. -/
def State.liveOn (s : State) (b src : Nat) : State :=
  if s.bit (R.EVT_LIVE b) src then s
  else
    let s1 := s.setBit (R.EVT_LIVE b) src
    if s1.sevOn && !(s1.bit (R.EVT_SEVERE b) src) then s1.turnSevere b src else s1

/-- A live condition ends: the quiet window of R340 begins. -/
def State.liveOff (s : State) (b src : Nat) : State :=
  if s.bit (R.EVT_LIVE b) src then (s.clrBit (R.EVT_LIVE b) src).startTimer (evQuietKey b src) 0 else s

/-- A source leaves severity (R340): its bit clears, and the outputs it forces wait for a frame boundary after this instant (R345). -/
def State.leaveSevere (s : State) (b src : Nat) : State :=
  let s1 := (s.clrBit (R.EVT_SEVERE b) src).stopTimer (evQuietKey b src)
  { s1 with safe := s1.safe.map (fun f => if f.blk = b ∧ f.src = src ∧ f.released = none then { f with released := some (s.up + 1) } else f) }

/-- Frames of quiet that a severe source has had since its last event or the end of its live condition (R340). -/
def State.quietFrames (s : State) (b src : Nat) : Nat :=
  match s.timer (evQuietKey b src) with
  | some t => (s.clk - t) / 125000
  | none => 0

/-- AUTO releases a severe source after a quiet window (R340); a source of class GRAVE never leaves severity. -/
def State.autoRelease (s : State) (b src : Nat) : State :=
  if s.bit (R.EVT_SEVERE b) src && !(s.bit (R.EVT_LIVE b) src) && s.flag (R.EVT_CFG b src) F.EVT_CFG_AUTO
      && s.get (R.EVT_CFG b src) F.EVT_CFG_CLASS != clsGrave
      && decide (msFrames (s.get (R.EVT_WIN b src) F.EVT_WIN_WINDOW_MS) ≤ s.quietFrames b src)
  then s.leaveSevere b src else s

/-- A host write of 1 to a source's bit of EVT_SEVERE (R340): ignored, and CLR_REJ set, while its live bit is 1 or its class is GRAVE,
severe or not. -/
def State.hostClear (s : State) (b src : Nat) : State :=
  if s.bit (R.EVT_LIVE b) src || s.get (R.EVT_CFG b src) F.EVT_CFG_CLASS == clsGrave then
    s.put (R.EVT_CTRL b) F.EVT_CTRL_CLR_REJ 1
  else if s.bit (R.EVT_SEVERE b) src then s.leaveSevere b src
  else s

/-- Classification of a source by an accepted image: EVTCLASS entry or factory (R341). -/
def State.classify (s : State) (b src : Nat) (e : Nat × Nat × Nat × Bool) : State :=
  let (cls, n, win, en) := e
  let auto := if cls = clsNote ∨ cls = clsRetry then 1 else 0
  (((s.put (R.EVT_CFG b src) F.EVT_CFG_CLASS cls).put (R.EVT_CFG b src) F.EVT_CFG_AUTO auto).put (R.EVT_CFG b src)
    F.EVT_CFG_N n).put (R.EVT_WIN b src) F.EVT_WIN_WINDOW_MS win |>.putBit (R.EVT_ENABLE b) src en

-- HEALTH (R220, Table 09-5)

/-- The causes that hold HEALTH low, from the state. -/
def State.healthCauses (s : State) : Nat :=
  let st := s.get R.TIME_STATUS F.TIME_STATUS_MAIN_STATE
  (if s.fullActive then 0 else 1) + (if s.grave then 2 else 0) + (if s.rgFailed.isEmpty then 0 else 4)
    + (if 2 ≤ st then 0 else 8) + (if s.flag R.PAIR_CTRL F.PAIR_CTRL_SW_OK then 0 else 16)

/-- HEALTH follows its causes; each change of the output counts one event on PAIR.HEALTH. -/
def State.updHealth (s : State) : State :=
  let c := s.healthCauses
  let h := if c = 0 then 1 else 0
  let s1 := s.put R.PAIR_HEALTH_CAUSE F.PAIR_HEALTH_CAUSE_CAUSE c
  if s.get R.PAIR_STATUS F.PAIR_STATUS_HEALTH = h then s1
  else (s1.put R.PAIR_STATUS F.PAIR_STATUS_HEALTH h).ev evPair srcHEALTH

end Sys2Proof.Machine
end

