-- ==== Sys2Proof/Machine/Operands.lean ====
section
/-!
DEFINITION. The operand forms: tributary addresses, connection records, units and their numbering (R8, R10, R75 to R77).
-/

namespace Sys2Proof.Machine

-- Numbering (Table 01-1)

def luDie (n : Nat) : Nat := n / 32
def luRegion (n : Nat) : Nat := n / 16
def luCluster (n : Nat) : Nat := n / 4

-- Tributary addresses (Table 00-5)

def taLink (t : TA) : Nat := t.toNat / 2 ^ 17
def taAug (t : TA) : Nat := t.toNat / 2 ^ 11 % 64
def taTug3 (t : TA) : Nat := t.toNat / 2 ^ 9 % 4
def taTug2 (t : TA) : Nat := t.toNat / 2 ^ 6 % 8
def taTu (t : TA) : Nat := t.toNat / 2 ^ 4 % 4
def taKind (t : TA) : Nat := t.toNat % 16

/-- The TA of given fields. -/
def mkTA (link aug tug3 tug2 tu kind : Nat) : TA :=
  BitVec.ofNat 24 (2 ^ 17 * link + 2 ^ 11 * aug + 2 ^ 9 * tug3 + 2 ^ 6 * tug2 + 2 ^ 4 * tu + kind)

/-- The whole link n (kind 0). -/
def linkTA (n : Nat) : TA := mkTA n 0 3 7 3 0

/-- N of an NC code (Table 04-1); 4 for code 0, where no N is given. -/
def ncN : Nat → Nat
  | 2 => 16
  | 3 => 64
  | _ => 4

/-- The sub-fields below the link fit the kind (Table 04-3, without the link's rate). `nc` gives N of a kind 1. -/
def taFits (t : TA) (nc : Nat) : Bool :=
  match taKind t with
  | 0 => taAug t == 0 && taTug3 t == 3 && taTug2 t == 7 && taTu t == 3
  | 1 => taAug t % ncN nc == 0 && taTug3 t == 3 && taTug2 t == 7 && taTu t == 3
  | 2 => taTug3 t == 3 && taTug2 t == 7 && taTu t == 3
  | 3 => taTug3 t != 3 && taTug2 t == 7 && taTu t == 3
  | 4 => taTug3 t != 3 && taTug2 t == 7 && taTu t == 3
  | 5 => taTug3 t != 3 && taTug2 t != 7 && taTu t == 3
  | 6 => taTug3 t != 3 && taTug2 t != 7 && taTu t != 3
  | 7 => taTug3 t != 3 && taTug2 t != 7
  | _ => false

/-- The AUG-1 lies within a link of N_link (Table 04-3). -/
def taInRate (t : TA) (nc nlink : Nat) : Bool :=
  match taKind t with
  | 0 => true
  | 1 => decide (taAug t + ncN nc ≤ nlink)
  | _ => decide (taAug t < nlink)

/-- Columns of a TU-2, TU-12 or TU-11 within its TUG-2 (R57). -/
def tuColumns (kind tu : Nat) : List Nat :=
  match kind with
  | 6 => [tu, tu + 3, tu + 6, tu + 9]
  | 7 => [tu, tu + 4, tu + 8]
  | _ => List.range 12

/-- Two tributaries of one link overlap (R81): they share a byte column, or one contains the other, or they lie in AU-3 and
AU-4 form in one AUG-1. Each is given with its EG_AU3 and its NC code. -/
def taOverlap (a3 : Bool) (a : TA) (anc : Nat) (b3 : Bool) (b : TA) (bnc : Nat) : Bool :=
  let span (t : TA) (nc : Nat) : Nat × Nat :=
    if taKind t = 1 then (taAug t, taAug t + ncN nc) else (taAug t, taAug t + 1)
  let (alo, ahi) := span a anc
  let (blo, bhi) := span b bnc
  taLink a == taLink b &&
    (taKind a == 0 || taKind b == 0 ||
      (decide (alo < bhi) && decide (blo < ahi) &&
        (taKind a == 1 || taKind b == 1 || a3 != b3 || taTug3 a == 3 || taTug3 b == 3 ||
          (taTug3 a == taTug3 b &&
            (taTug2 a == 7 || taTug2 b == 7 ||
              (taTug2 a == taTug2 b &&
                (tuColumns (taKind a) (taTu a)).any (fun c => (tuColumns (taKind b) (taTu b)).contains c)))))))

-- Connection records (Table 04-1)

def bitsOf (w : Word) (hi lo : Nat) : Nat := w.toNat / 2 ^ lo % 2 ^ (hi + 1 - lo)

def Rec.typ (r : Rec) : Nat := bitsOf r.w0 31 28
def Rec.egAu3 (r : Rec) : Bool := r.w0.toNat.testBit 24
def Rec.eg (r : Rec) : TA := r.w0.setWidth 24
def Rec.hit (r : Rec) : Bool := r.w1.toNat.testBit 31
def Rec.snc (r : Rec) : Nat := bitsOf r.w1 29 28
def Rec.revert (r : Rec) : Bool := r.w1.toNat.testBit 27
def Rec.nc (r : Rec) : Nat := bitsOf r.w1 26 24
def Rec.src (r : Rec) : TA := r.w1.setWidth 24
def Rec.holdoff (r : Rec) : Nat := bitsOf r.w2 30 24
def Rec.alt (r : Rec) : TA := r.w2.setWidth 24
def Rec.wtr (r : Rec) : Nat := bitsOf r.w3 31 24
def Rec.unconn (r : Rec) : Nat := bitsOf r.w3 23 16
def Rec.cmd (r : Rec) : Nat := bitsOf r.w3 15 8

def tyConnect : Nat := 0
def tyDisconnect : Nat := 1
def tySelCmd : Nat := 2
def tyMerge : Nat := 3
def tyUnmerge : Nat := 4

/-- The entry has a selector (R190). -/
def Rec.hasSnc (r : Rec) : Bool := r.typ == tyConnect && (r.snc == 1 || r.snc == 2)

/-- The name of an egress tributary in the map: EG_AU3 above EGRESS_TA. -/
def egName (a3 : Bool) (t : TA) : Nat := (if a3 then 2 ^ 24 else 0) + t.toNat

def Rec.key (r : Rec) : Nat := egName r.egAu3 r.eg

/-- Little-endian record words out of 16 bytes (R75). -/
def le32 (b : List Byte) : Word :=
  BitVec.ofNat 32 ((b.getD 0 0).toNat + 2 ^ 8 * (b.getD 1 0).toNat + 2 ^ 16 * (b.getD 2 0).toNat + 2 ^ 24 * (b.getD 3 0).toNat)

def recOfBytes (b : List Byte) : Rec := ⟨le32 b, le32 (b.drop 4), le32 (b.drop 8), le32 (b.drop 12)⟩

-- Link personality and rate (Tables 02-6, 05-1)

def persTG : Nat := 11

/-- N of a fixed line personality, 64 for a TG link (R77). -/
def persN : Nat → Option Nat
  | 1 | 5 => some 1
  | 2 | 6 => some 4
  | 3 | 7 => some 16
  | 4 | 8 | 11 => some 64
  | _ => none

def State.persOf (s : State) (n : Nat) : Nat := look (fun _ => 0) s.pers n

/-- The PERS code of the rate of link n under personality p: p itself, or the rate last found for a rate search (R95, R100). -/
def State.rateUnder (s : State) (n p : Nat) : Nat :=
  if p = 9 ∨ p = 10 then
    (if s.flag (R.LU_SEC_RATE n) F.LU_SEC_RATE_FOUND_VALID then s.get (R.LU_SEC_RATE n) F.LU_SEC_RATE_FOUND else 0)
  else p

/-- The PERS code of the rate a link runs at. -/
def State.rateCode (s : State) (n : Nat) : Nat := s.rateUnder n (s.persOf n)

/-- N_link of a link's present rate (R77); none for OFF and for a rate search with no rate found. -/
def State.nLink (s : State) (n : Nat) : Option Nat := persN (s.rateCode n)

def State.isTG (s : State) (n : Nat) : Bool := s.persOf n == persTG

/-- A line personality (Table 02-6). -/
def State.isLine (s : State) (n : Nat) : Bool := decide (1 ≤ s.persOf n) && decide (s.persOf n ≤ 10)

/-- A SONET personality. -/
def State.isSonet (s : State) (n : Nat) : Bool :=
  let p := s.persOf n
  (decide (5 ≤ p) && decide (p ≤ 8)) || p == 10

-- Power, depth, retirement

def State.regionPowered (s : State) (g : Nat) : Bool :=
  (s.get (R.DIE_UNIT_STATE (g / 2)) F.DIE_UNIT_STATE_RG_POWER).testBit (g % 2)

def State.clusterPowered (s : State) (c : Nat) : Bool :=
  (s.get (R.DIE_UNIT_STATE (c / 8)) F.DIE_UNIT_STATE_CL_POWER).testBit (c % 8)

def State.depthOf (s : State) (d : Nat) : Nat := look (fun _ => 0) s.depth d

/-- LU n is retired, or its return waits for the next frame boundary (R24). -/
def State.retiredLU (s : State) (n : Nat) : Bool :=
  s.bit (R.DIE_UNIT_RETIRE (n / 32)) (n % 32) || s.unretire.any (fun u => u.1 == n)

def State.partsOf (s : State) (d : Nat) : DramParts := look (fun _ => ⟨0, 0, 0, 0, 0⟩) s.dram d

-- The map

def State.entry (s : State) (key : Nat) : Option Rec := look (fun _ => none) s.actMap key

def State.setEntry (s : State) (key : Nat) (r : Option Rec) : State :=
  { s with actMap := store id (fun _ => none) s.actMap key r }

/-- Entries of the active map. -/
def State.entries (s : State) : List Rec := s.actMap.filterMap (fun e => e.2)

def emptySlot : TxnSlot := ⟨[], 0, 0, 0, false, false, false, false, false⟩
def State.slot (s : State) (k : Nat) : TxnSlot := look (fun _ => emptySlot) s.txns k
def State.setSlot (s : State) (k : Nat) (t : TxnSlot) : State :=
  { s with txns := store id (fun _ => emptySlot) s.txns k t }

/-- Region g is under re-bench: from the acceptance frame FN_A of its image until release, or FAILED (R49, R51, Table 02-11). -/
def State.underRebench (s : State) (g : Nat) : Bool :=
  s.rgFailed.contains g || (match s.applying with
    | some a => !a.img.full && a.img.region == g && a.stage != .waiting
    | none => false)

/-- Region g awaits or undergoes re-bench: its image has passed validation, which found no group and no job in the region (Table 02-10, step
10), and none may enter it any more (notes/assumptions/80.md). -/
def State.benchClaims (s : State) (g : Nat) : Bool :=
  s.underRebench g || (match s.applying with
    | some a => !a.img.full && a.img.region == g
    | none => false)

/-- The transmit island of cluster c is stopped in fence mode (Table 14-11). -/
def State.clusterStopped (s : State) (c : Nat) : Bool := s.safe.any (fun f => f.fence && f.blk == evCluster c)

/-- The receive island of LU n is stopped in fence mode (Table 14-11): only a reaction of the LU itself stops it. -/
def State.rxStopped (s : State) (n : Nat) : Bool := s.safe.any (fun f => f.fence && f.blk == evLu n)

-- MSP groups, as far as other units ask (R177, R189)

/-- Local link of channel c of MSP group k of region g; channel 0 is the protection link. -/
def State.mspLink (s : State) (g k c : Nat) : Nat :=
  16 * g + (if c = 0 then s.get (R.MSP_CFG g k) F.MSP_CFG_PROT
    else if c ≤ 8 then (s.rd (R.MSP_CHAN0 g k)).toNat / 2 ^ (4 * (c - 1)) % 16
    else (s.rd (R.MSP_CHAN1 g k)).toNat / 2 ^ (4 * (c - 9)) % 16)

def State.mspN (s : State) (g k : Nat) : Nat := s.get (R.MSP_CFG g k) F.MSP_CFG_N
def State.mspState (s : State) (g k : Nat) : Nat := s.get (R.MSP_STATUS g k) F.MSP_STATUS_STATE

/-- The channel that link n has in group k of region g. -/
def State.mspChannel (s : State) (g k n : Nat) : Option Nat :=
  (List.range (s.mspN g k + 1)).find? (fun c => s.mspLink g k c == n)

/-- The group and channel of link n among the groups of its region in one of the states given. -/
def State.mspOf (s : State) (states : List Nat) (n : Nat) : Option (Nat × Nat × Nat) :=
  (List.range 8).findSome? (fun k =>
    if states.contains (s.mspState (luRegion n) k) then
      (s.mspChannel (luRegion n) k n).map (fun c => (luRegion n, k, c))
    else none)

end Sys2Proof.Machine
end

