-- ==== Sys2Proof/Machine/PourOps.lean ====
section
/-!
DEFINITION. Entries of tap and target lists (R285), and the end instant of a Pour job, which other units can bring about (R304).
-/

namespace Sys2Proof.Machine

-- Fields of a list entry (R285)

def tapCode (w : Word) : Nat := bitsOf w 27 25
def tapAu3 (w : Word) : Bool := w.toNat.testBit 24
def tapTA (w : Word) : TA := w.setWidth 24
/-- Package number of the group that a GROUP entry of die d names. -/
def tapGrp (d : Nat) (w : Word) : Nat := 1024 * d + w.toNat % 1024
/-- LU number of an entry, or its local group number (SOURCE of Table 12-3). -/
def tapUnit (w : Word) : Nat := if tapCode w = 4 then w.toNat % 1024 else taLink (tapTA w)

-- Pour jobs

def poFREE : Nat := 0
def poDEFINED : Nat := 1
def poPENDING : Nat := 2
def poPLAYING : Nat := 3
def poENDING : Nat := 4
def poDONE : Nat := 5
def poSTOPPED : Nat := 6

def emptyPour : PourJob := ⟨[], 0, none, 0, false, 0, (0, 0), []⟩
def freshTgt (w : Word) : PourTgt := ⟨w, 0, 0, none, 0, ⟨0, 0, 0, 0⟩, 0, 0, 0, 0, 0, 0, 0, 0, none, none, []⟩
def State.pour (s : State) (d j : Nat) : PourJob := look (fun _ => emptyPour) s.pourJobs (8 * d + j)
def State.setPour (s : State) (d j : Nat) (x : PourJob) : State :=
  { s with pourJobs := store id (fun _ => emptyPour) s.pourJobs (8 * d + j) x }
def State.poSt (s : State) (d j : Nat) : Nat := s.get (R.POUR_JOB_STATUS d j) F.POUR_JOB_STATUS_STATE
def State.poStatus (s : State) (d j : Nat) (f : Fld) (v : Nat) : State := s.put (R.POUR_JOB_STATUS d j) f v

/-- The end instant of a PLAYING job. -/
def State.pourEnd (s : State) (d j cause : Nat) : State :=
  if s.poSt d j ≠ poPLAYING then s
  else
    (((s.setPour d j { s.pour d j with endUp := some (if s.ns = 0 then s.up else s.up + 1), endNs := s.ns }).poStatus d j F.POUR_JOB_STATUS_STATE poENDING).poStatus d j
      F.POUR_JOB_STATUS_END_CAUSE cause).ev (evDie d) srcPOUR

/-- Job j of die d reads bytes from lo up to hi: its pattern, or its script. -/
def State.pourReads (s : State) (d j lo hi : Nat) : Bool :=
  let meets (a n : Nat) : Bool := decide (a < hi) && decide (lo < a + n)
  (s.get (R.POUR_JOB_CFG d j) F.POUR_JOB_CFG_SOURCE == 2
    && meets (s.addrAt (R.POUR_JOB_PAT_LO d j) (R.POUR_JOB_PAT_HI d j)) (4 * s.get (R.POUR_JOB_PAT_LEN d j) F.POUR_JOB_PAT_LEN_WORDS))
  || (s.flag (R.POUR_JOB_SCR_CTRL d j) F.POUR_JOB_SCR_CTRL_SCR_EN
    && meets (s.addrAt (R.POUR_JOB_SCR_LO d j) (R.POUR_JOB_SCR_HI d j)) (4 * s.get (R.POUR_JOB_SCR_CTRL d j) F.POUR_JOB_SCR_CTRL_STEPS))

/-- A change of owner of bank b ends every job of the die that reads it. -/
def State.pourBank (s : State) (d b : Nat) : State :=
  (List.range 8).foldl (fun t j => if t.pourReads d j (wbBase d b) (wbBase d b + 0x40000) then t.pourEnd d j 4 else t) s

end Sys2Proof.Machine
end

