-- ==== Sys2Proof/Machine/BankOps.lean ====
section
/-!
DEFINITION. What masters do to work banks, to the DRAM partitions and through the bus matrix (R310 to R313, R316, R319, R323 to R325,
R328 to R332): one operation per kind of access, which every command and every engine uses.
-/

namespace Sys2Proof

/-- The addresses an operation at a names. -/
def MemOp.addrs (a : Nat) : MemOp → List Nat
  | .read n => (List.range n).map (fun i => a + i)
  | .write l => (l.zipIdx).filterMap (fun e => e.1.map (fun _ => a + e.2))

def MemOp.isWrite : MemOp → Bool
  | .read _ => false
  | .write _ => true

/-- The master number of a host port (R39). -/
def Port.master : Port → Nat
  | .a => 0
  | .b => 1

end Sys2Proof

namespace Sys2Proof.Machine

-- Masters and targets (R39, Table 13-4)

def mHOSTA : Nat := 0
def mHOSTB : Nat := 1
def mHK : Nat := 2
def mSKIM (d : Nat) : Nat := 3 + d
def mPOUR (d : Nat) : Nat := 7 + d
def mMAP (d : Nat) : Nat := 11 + d
def mSIEVE (d : Nat) : Nat := 15 + d

/-- Event source of a master's denials and resets (R331, R332). -/
def matrixSrc (m : Nat) : Nat × Nat := if m < 3 then (evPkg, srcPkgMATRIX) else (evDie ((m - 3) % 4), srcDieMATRIX)

/-- Table 13-4. -/
def matrixPath (m t : Nat) (write : Bool) : Bool :=
  if m < 2 then true
  else if m = 2 then t < 5 || t = 9 || (t = 10 && !write)
  else t = 1 + (m - 3) % 4 || t = 5 + (m - 3) % 4

/-- A request that fails: Unsupported Request for a host port, an error response for any other master (R313, R331). -/
def State.failAnswer (s : State) (m : Nat) : State := s.answer (if m < 2 then .ur else .error)

/-- A denied request (R331). -/
def State.matrixDeny (s : State) (m t : Nat) : State :=
  let s1 := s.addCtr ⟨R.MATRIX_DENY_LO, R.MATRIX_DENY_HI⟩ 1
  let s2 := ((s1.put R.MATRIX_DENY_LAST F.MATRIX_DENY_LAST_VALID 1).put R.MATRIX_DENY_LAST F.MATRIX_DENY_LAST_MASTER m).put
    R.MATRIX_DENY_LAST F.MATRIX_DENY_LAST_TARGET t
  s2.ev (matrixSrc m).1 (matrixSrc m).2

-- Bytes

/-- Writes the enabled bytes. -/
def State.stMasked (s : State) (a : Nat) : List (Option Byte) → State
  | [] => s
  | none :: t => s.stMasked (a + 1) t
  | some b :: t => (s.stb a b).stMasked (a + 1) t

/-- Carries out an operation of master m on memory, and its answer: of a read that finds a word uncorrectable, the data poisoned for a host
port, and an error response for any other master (R311, R325). -/
def State.memOp (s : State) (m a : Nat) (op : MemOp) (bad : Bool) : State :=
  match op with
  | .read n => s.answer (if !bad then .bytes (s.ld a n) else if m < 2 then .poisoned (s.ld a n) else .error)
  | .write l => s.stMasked a l

-- Work banks

def State.bankExists (s : State) (d b : Nat) : Bool := s.flag (R.WB_OWN d b) F.WB_OWN_PRESENT
def State.bankRetired (s : State) (d b : Nat) : Bool := s.flag (R.WB_OWN d b) F.WB_OWN_RETIRED || s.wbReturning.contains (64 * d + b)
def State.bankPending (s : State) (d b : Nat) : Bool := s.flag (R.WB_OWN d b) F.WB_OWN_PENDING
def State.bankOwner (s : State) (d b : Nat) : Nat := s.get (R.WB_OWN d b) F.WB_OWN_OWNER

/-- The owner code admits the master to bank b of die d (Table 13-1). -/
def ownerAdmits (code m d : Nat) (off : Nat) (op : MemOp) : Bool :=
  match code with
  | 1 => m = mHOSTA || m = mHOSTB
      || (m = mSKIM d && (op.addrs off).all (fun a => if op.isWrite then 12 ≤ a % 16 else a % 16 < 12))
  | 2 => m = mSKIM d
  | 3 => m = mPOUR d
  | 4 => m = mMAP d
  | 5 => m = mSIEVE d
  | 6 => m = mHK
  | _ => false

def State.bankTouched (s : State) (d b : Nat) : State :=
  { s with wbLast := store id (fun _ => 0) s.wbLast (64 * d + b) s.clk }

/-- What an access that the owner does not admit counts (R313); it is no step toward severity (Table 14-4). -/
def State.bankViol (s : State) (m d b : Nat) : State :=
  let s1 := s.addCtr ⟨R.WB_VIOL_LO d, R.WB_VIOL_HI d⟩ 1
  let s2 := ((s1.put (R.WB_VIOL_LAST d) F.WB_VIOL_LAST_VALID 1).put (R.WB_VIOL_LAST d) F.WB_VIOL_LAST_MASTER m).put
    (R.WB_VIOL_LAST d) F.WB_VIOL_LAST_BANK b
  s2.event' (evDie d) srcWB (BitVec.ofNat 32 b) false

/-- An access that the owner does not admit: it counts, and its request fails (R313). -/
def State.bankViolation (s : State) (m d b : Nat) : State := (s.bankViol m d b).failAnswer m

/-- What the check of a word read from a bank counts (R311). -/
def State.bankEcc (s : State) (d b w : Nat) : Ecc → State
  | .ok => s
  | .correctable => (s.addCtr ⟨R.WB_CE_LO d, R.WB_CE_HI d⟩ 1).event (evDie d) srcWB (BitVec.ofNat 32 b)
  | .uncorrectable =>
      ((((s.addCtr ⟨R.WB_UE_LO d, R.WB_UE_HI d⟩ 1).put (R.WB_ERR_LAST d) F.WB_ERR_LAST_UE 1).put (R.WB_ERR_LAST d)
        F.WB_ERR_LAST_BANK b).put (R.WB_ERR_LAST d) F.WB_ERR_LAST_WORD w).event (evDie d) srcWB (BitVec.ofNat 32 b)

-- Claims of SIEVEd's banks (R319, R323)

/-- SIEVEd has no bank under test any more, if it was b. -/
def State.sieveEnd (s : State) (d b : Nat) : State :=
  let s1 := s.put (R.WB_OWN d b) F.WB_OWN_ON_LOAN 0
  if s1.get (R.SIEVE_STATUS d) F.SIEVE_STATUS_BANK = b then
    (s1.put (R.SIEVE_STATUS d) F.SIEVE_STATUS_BUSY 0).put (R.SIEVE_STATUS d) F.SIEVE_STATUS_BANK 0x3F
  else s1

/-- The group of bank b at which the pass resumes. -/
def State.sieveAt (s : State) (d b : Nat) : Nat := look (fun _ => 0) s.sievePos (64 * d + b)
def State.setSieveAt (s : State) (d b g : Nat) : State :=
  { s with sievePos := store id (fun _ => 0) s.sievePos (64 * d + b) g }

/-- An urgent claim (R319): SIEVEd gives the bank up and abandons the pass; a bank with no lender (R320) is given up too, and
no claim is counted. A bank that is not under test keeps the place at which its pass resumes. -/
def State.sieveAbandon (s : State) (d b : Nat) : State :=
  if s.flag (R.WB_OWN d b) F.WB_OWN_ON_LOAN then
    ((s.sieveEnd d b).setSieveAt d b 0).addCtr ⟨R.SIEVE_ABANDON_LO d, R.SIEVE_ABANDON_HI d⟩ 1
  else if s.flag (R.SIEVE_STATUS d) F.SIEVE_STATUS_BUSY && s.get (R.SIEVE_STATUS d) F.SIEVE_STATUS_BANK == b then
    (s.sieveEnd d b).setSieveAt d b 0
  else s

/-- The master may access the bank now. -/
def State.bankAdmits (s : State) (m d b off : Nat) (op : MemOp) : Bool :=
  s.bankExists d b && !s.bankRetired d b && !s.bankPending d b && ownerAdmits (s.bankOwner d b) m d off op

/-- The master is the new owner's and waits for the handover (Table 13-2). -/
def State.bankWaits (s : State) (m d b off : Nat) (op : MemOp) : Bool :=
  s.bankExists d b && !s.bankRetired d b && s.bankPending d b && ownerAdmits (look (fun _ => 0) s.wbNew (64 * d + b)) m d off op

/-- An access of the lender's masters ends a loan, and the bank has been used (R317, R319). -/
def State.bankUse (s : State) (d b : Nat) : State :=
  (if s.flag (R.WB_OWN d b) F.WB_OWN_ON_LOAN then s.sieveAbandon d b else s).bankTouched d b

/-- An operation reads a word of memory: every read does, and a write that leaves bytes of a word as they are, which are merged (R311). -/
def readsWord (op : MemOp) (a : Nat) : Bool :=
  match op with
  | .read _ => true
  | .write l => l.any Option.isNone || a % 8 != 0 || l.length % 8 != 0

/-- What the check of the words that an operation reads finds; a write of whole words reads none. -/
def foundBy (op : MemOp) (a : Nat) (ecc : Ecc) : Ecc := if readsWord op a then ecc else .ok

-- DRAM

/-- The partition of die d that holds byte offset o of its stack: 0 CAPTURE, 1 PATTERN, 2 DESKEW, 3 PMHIST, 4 SCRATCH; none
where no partition covers it (R37, R2). -/
def State.partAt (s : State) (d o : Nat) : Option Nat :=
  let p := s.partsOf d
  let u := o / unitBytes
  let e0 := p.capture
  let e1 := e0 + p.pattern
  let e2 := e1 + p.deskew
  let e3 := e2 + p.pmhist
  let e4 := e3 + p.scratch
  if Config.dramUnits ≤ u then none
  else if u < e0 then some 0 else if u < e1 then some 1 else if u < e2 then some 2 else if u < e3 then some 3
  else if u < e4 then some 4 else none

/-- Byte offset at which partition k of die d starts (R37). -/
def State.partStart (s : State) (d k : Nat) : Nat :=
  let p := s.partsOf d
  unitBytes * (match k with
    | 0 => 0
    | 1 => p.capture
    | 2 => p.capture + p.pattern
    | 3 => p.capture + p.pattern + p.deskew
    | _ => p.capture + p.pattern + p.deskew + p.pmhist)

/-- Table 13-3: master m of die d may make the access to partition k. -/
def partAdmits (m k : Nat) (write : Bool) : Bool :=
  if m < 2 then (k = 0 || k = 1 || k = 4 || !write)
  else if m = 2 then false
  else if m < 7 then (k = 0 || k = 4)
  else if m < 11 then (!write && (k = 1 || k = 4))
  else if m < 15 then (!write && k = 4)
  else !write

/-- What the check of a DRAM word counts (R325). -/
def State.dramEcc (s : State) (d line : Nat) : Ecc → State
  | .ok => s
  | .correctable => (s.addCtr ⟨R.DRAM_CE_LO d, R.DRAM_CE_HI d⟩ 1).event (evDie d) srcDRAM (BitVec.ofNat 32 line)
  | .uncorrectable =>
      (((s.addCtr ⟨R.DRAM_UE_LO d, R.DRAM_UE_HI d⟩ 1).put (R.DRAM_ERR_LAST d) F.DRAM_ERR_LAST_UE 1).put (R.DRAM_ERR_LAST d)
        F.DRAM_ERR_LAST_LINE line).event (evDie d) srcDRAM (BitVec.ofNat 32 line)

-- BAR2 (R410, R411)

/-- Where a BAR2 address lies. -/
inductive Bar2Unit where
  | bank (d b off : Nat)
  | dram (d off : Nat)
  | none
deriving DecidableEq, Repr

def bar2Unit (a : Nat) : Bar2Unit :=
  if a < 0x40000000 then
    (if a % 0x10000000 / 0x40000 < 42 then .bank (a / 0x10000000) (a % 0x10000000 / 0x40000) (a % 0x40000) else .none)
  else if a < 0x1000000000 then .none
  else if a < 0x2000000000 then .dram (a / 0x400000000 - 4) (a % 0x400000000)
  else .none

/-- A byte of a request is admitted (R312, R324). -/
def State.bar2Admits (s : State) (m : Nat) (write : Bool) (a : Nat) : Bool :=
  match bar2Unit a with
  | .bank d b off => s.bankAdmits m d b off (if write then .write [some 0] else .read 1)
  | .dram d off => match s.partAt d off with
    | some k => partAdmits m k write
    | none => false
  | .none => false

/-- What a refused byte counts: a violation of an existing bank (R313), a denial of a partition (R331), else nothing. -/
def State.bar2Refusal (s : State) (m : Nat) (a : Nat) : State :=
  match bar2Unit a with
  | .bank d b _ => if s.bankExists d b then s.bankViolation m d b else s
  | .dram d off => if (s.partAt d off).isSome then s.matrixDeny m (5 + d) else s
  | .none => s

/-- Errors found in the words that a read touches (R311, R325): the address of each, and what was found. -/
def State.bar2Ecc (s : State) (e : Nat × Ecc) : State :=
  match bar2Unit e.1 with
  | .bank d b off => s.bankEcc d b (off / 8) e.2
  | .dram d off => s.dramEcc d (off / 64) e.2
  | .none => s

/-- An owner's access to a bank (R317, R319). -/
def State.bar2Use (s : State) (a : Nat) : State :=
  match bar2Unit a with
  | .bank d b _ => s.bankUse d b
  | _ => s

/-- The 64-bit words of `errs` that an operation at a reads, each once, with what its check finds. -/
def errsFound (op : MemOp) (a : Nat) (errs : List (Nat × Ecc)) : List (Nat × Ecc) :=
  (errs.filter (fun e => readsWord op a && (op.addrs a).any (fun x => x / 8 == e.1 / 8))).foldl
    (fun (l : List (Nat × Ecc)) e => if l.any (fun x => x.1 / 8 == e.1 / 8) then l else l ++ [e]) []

def anyBad (errs : List (Nat × Ecc)) : Bool := errs.any (fun e => e.2 == .uncorrectable)

-- Engines

/-- The target of a BAR2 address (Table 13-4). -/
def bar2Target (a : Nat) : Option Nat :=
  match bar2Unit a with
  | .bank d _ _ => some (1 + d)
  | .dram d _ => some (5 + d)
  | .none => none

/-- A byte that an engine may reach: on a path of Table 13-4, with the owner's or the partition's leave. -/
def State.engineReach (s : State) (m : Nat) (write : Bool) (a : Nat) : Bool :=
  (match bar2Target a with
    | some t => matrixPath m t write
    | none => false) && s.bar2Admits m write a

/-- What an engine's refused byte counts: a denial where the matrix has no path or the partition does not admit it (R331), else a
violation of the bank (R313). -/
def State.engineRefusal (s : State) (m : Nat) (write : Bool) (a : Nat) : State :=
  match bar2Unit a with
  | .bank d b _ => if matrixPath m (1 + d) write then s.bankViolation m d b else s.matrixDeny m (1 + d)
  | .dram d _ => s.matrixDeny m (5 + d)
  | .none => s

/-- An engine's operation at BAR2 address a, up to its transfer of bytes: what it counts, and whether it succeeds. `errs` gives what the
check finds in words that it reads (R311, R313, R319, R325). An engine whose master is under reset issues nothing (R332). -/
def State.engineOp (s : State) (m a : Nat) (op : MemOp) (errs : List (Nat × Ecc)) : State × Bool :=
  if s.bit R.MATRIX_MRST_BUSY m then (s, false)
  else
    match (op.addrs a).find? (fun x => !s.engineReach m op.isWrite x) with
    | some x => (s.engineRefusal m op.isWrite x, false)
    | none =>
        let hit := errsFound op a errs
        (hit.foldl State.bar2Ecc ((op.addrs a).foldl State.bar2Use s), !anyBad hit)

/-- The bank of a byte of a request that waits for a handover. -/
def State.bar2Waits (s : State) (m : Nat) (write : Bool) (a : Nat) : Option (Nat × Nat) :=
  match bar2Unit a with
  | .bank d b off => if s.bankWaits m d b off (if write then .write [some 0] else .read 1) then some (d, b) else none
  | _ => none

/-- An engine's operation at a waits: the matrix holds its master's requests (R329, R330), or its bank is about to be its own (Table 13-2,
step 4). What the engine does next waits with it (notes/assumptions/87.md). -/
def State.engineWaits (s : State) (m a : Nat) (op : MemOp) : Bool :=
  !s.bit R.MATRIX_MRST_BUSY m &&
    (((match bar2Target a with
        | some t => !s.mxMayIssue m t
        | none => false) || s.mxWait.any (fun w => w.master == m))
      || ((op.addrs a).any (fun x => (s.bar2Waits m op.isWrite x).isSome)
        && (op.addrs a).all (fun x => s.engineReach m op.isWrite x || (s.bar2Waits m op.isWrite x).isSome)))

-- Requests of the matrix

/-- IDs of the outstanding requests of master m. -/
def State.mxIds (s : State) (m : Nat) : List Nat := (s.mxOut.filter (fun e => e.master == m)).map MxOut.id

/-- Outstanding requests of master m at target t. -/
def State.outAt (s : State) (m t : Nat) : Nat := (s.mxOut.filter (fun e => e.master == m && e.target == t)).length

/-- A 6-bit ID that no other outstanding request of the master holds (R329). Which one is open: a free value, or the least ID that is not in
use where that value is (notes/assumptions/87.md). -/
def freshId (used : List Nat) (v : Nat) : Nat :=
  if used.contains (v % 64) then ((List.range 64).find? (fun i => !used.contains i)).getD 0 else v % 64

/-- MATRIX_OUT follows the requests of master m. -/
def State.mxShow (s : State) (m : Nat) : State := s.put (R.MATRIX_OUT m) F.MATRIX_OUT_COUNT ((s.mxIds m).length)

/-- A request of master m goes to target t, with its ID. -/
def State.mxIssue (s : State) (m t : Nat) : State :=
  { s.drawn with mxOut := s.mxOut ++ [MxOut.mk m t (freshId (s.mxIds m) s.freeNat)] }.mxShow m

/-- The ID of the request that master m issued last. -/
def State.mxLast (s : State) (m : Nat) : Nat := ((s.mxIds m).getLast?).getD 0

/-- The request of master m with ID i is over, and its ID retired. -/
def State.mxRetire (s : State) (m i : Nat) : State :=
  { s with mxOut := s.mxOut.filter (fun e => !(e.master == m && e.id == i)) }.mxShow m

/-- The oldest request of master m at target t is over: responses return in issue order (R329). -/
def State.mxRespond (s : State) (m t : Nat) : State :=
  match s.mxOut.find? (fun e => e.master == m && e.target == t) with
  | some e => s.mxRetire m e.id
  | none => s

-- Accesses

/-- The access waits at bank b of die d for the end of a handover; its request stays outstanding. -/
def State.bankWait (s : State) (m d b : Nat) (acc : MxAcc) : State :=
  let s1 := s.mxIssue m (1 + d)
  { s1 with wbWait := s1.wbWait ++ [⟨m, d, b, s1.mxLast m, acc⟩] }

/-- One access of a master to bytes of one word of a bank (R311 to R313, R316, R319); `other` holds bytes that Host Port B writes into the
same word in the same cycle as Host Port A's write. -/
def State.bankAccess (s : State) (m d b off : Nat) (op : MemOp) (ecc : Ecc) (other : Option (List (Option Byte))) : State :=
  if !matrixPath m (1 + d) op.isWrite then (s.matrixDeny m (1 + d)).failAnswer m
  else if !s.bankExists d b && decide (m < 2) then s.answer .ur
  else if s.bankWaits m d b off op then s.bankWait m d b (.bank d b off op ecc other)
  else if !s.bankAdmits m d b off op then s.bankViolation m d b
  else
    let found := foundBy op off ecc
    let s1 := ((s.bankUse d b).bankEcc d b (off / 8) found).memOp m (wbBase d b + off) op (found == .uncorrectable)
    match other with
    | some l =>
        if m = mHOSTA ∧ op.isWrite ∧ s.bankAdmits mHOSTB d b off (.write l) ∧ s.bit R.MATRIX_MRST_BUSY mHOSTB = false then
          (s1.stMasked (wbBase d b + off / 8 * 8) l).addCtr ⟨R.WB_RACE_LO d b, R.WB_RACE_HI d b⟩ 1
        else s1
    | none => s1

/-- A request of a master at byte offset o of the stack of die d (R324, R325, R331); `errs` gives the words in which a check finds an error,
each by an offset in it. -/
def State.dramAccess (s : State) (m d o : Nat) (op : MemOp) (errs : List (Nat × Ecc)) : State :=
  let parts := (op.addrs o).map (fun a => s.partAt d a)
  if !matrixPath m (5 + d) op.isWrite then (s.matrixDeny m (5 + d)).failAnswer m
  else if parts.any Option.isNone then (if m < 2 then s.answer .ur else (s.matrixDeny m (5 + d)).failAnswer m)
  else if !(parts.all (fun k => partAdmits m (k.getD 0) op.isWrite)) then (s.matrixDeny m (5 + d)).failAnswer m
  else
    let hit := errsFound op o errs
    (hit.foldl (fun t e => t.dramEcc d (e.1 / 64) e.2) s).memOp m (dramBase d + o) op (anyBad hit)

/-- A BAR2 request of a host port (R411). -/
def State.bar2 (s : State) (p : Port) (a : Nat) (op : MemOp) (errs : List (Nat × Ecc)) : State :=
  let m := p.master
  let addrs := op.addrs a
  match addrs.find? (fun x => !s.bar2Admits m op.isWrite x && (s.bar2Waits m op.isWrite x).isNone) with
  | some x => ((s.bar2Refusal m x).answer .ur)
  | none =>
    match addrs.findSome? (fun x => s.bar2Waits m op.isWrite x) with
    | some (d, b) => (s.answer .none).bankWait m d b (.bar2 p a op errs)
    | none =>
        let hit := errsFound op a errs
        let s1 := hit.foldl State.bar2Ecc (addrs.foldl State.bar2Use s)
        s1.memOp m a op (anyBad hit)

/-- The target of an access. -/
def MxAcc.target : MxAcc → Option Nat
  | .req t => some t
  | .bank d _ _ _ _ _ => some (1 + d)
  | .dram d _ _ _ => some (5 + d)
  | .cmd i => some (regTarget i)
  | .bar2 _ a _ _ => bar2Target a

/-- An access of master m that has been let through the matrix; a host port's command in registers is run by the step (`State.idle`). -/
def State.perform (s : State) (m : Nat) : MxAcc → State
  | .req t => s.mxIssue m t
  | .bank d b off op ecc other => s.bankAccess m d b off op ecc other
  | .dram d o op errs => s.dramAccess m d o op errs
  | .cmd _ => s
  | .bar2 p a op errs => s.bar2 p a op errs

/-- An access waits at its master: behind earlier ones, or while R329 or R330 holds it there. -/
def State.waitsAt (s : State) (m : Nat) (acc : MxAcc) : Bool :=
  match acc.target with
  | none => false
  | some t => !s.mxMayIssue m t || s.mxWait.any (fun w => w.master == m)

/-- A master issues an access, which may be held at its master; while the master is under reset it issues nothing (R332). -/
def State.access (s : State) (m : Nat) (acc : MxAcc) : State :=
  if s.bit R.MATRIX_MRST_BUSY m then s.answer .none
  else if s.waitsAt m acc then { s.answer .none with mxWait := s.mxWait ++ [⟨m, acc⟩] }
  else s.perform m acc

/-- The access is a command in registers. -/
def MxAcc.isCmd : MxAcc → Bool
  | .cmd _ => true
  | _ => false

/-- Issues the master's waiting accesses, in issue order, as far as they may go. -/
def State.mxDrain : Nat → Nat → State → State
  | 0, _, s => s
  | f + 1, m, s =>
    match s.mxWait.find? (fun w => w.master == m) with
    | some w =>
        if w.acc.isCmd then s
        else if s.mxMayIssue m (w.acc.target.getD 0) then State.mxDrain f m ({ s with mxWait := s.mxWait.erase w }.perform m w.acc) else s
    | none => s

/-- A request of master m has ended: those that waited behind it go on. -/
def State.mxNext (s : State) (m : Nat) : State := State.mxDrain s.mxWait.length m s

/-- Accesses that waited for bank b of die d go on, in order (Table 13-2, step 4): of the new owner they proceed, and where the bank is gone
they fail under R313. -/
def State.wakeBank (s : State) (d b : Nat) : State :=
  let (mine, rest) := s.wbWait.partition (fun w => w.die == d && w.bank == b)
  let s1 := mine.foldl (fun t w => (t.mxRetire w.master w.id).perform w.master w.acc) { s with wbWait := rest }
  mine.foldl (fun t w => t.mxNext w.master) s1

/-- Requests that no longer wait for anything are issued. -/
def State.mxGoOn (s : State) : State := if s.mxWait.isEmpty then s else (List.range 19).foldl (fun t m => t.mxNext m) s

/-- The accesses that wait for bank b of die d fail, since it is retired (R313, R323); what waits behind them in the matrix goes on
with the passage of time. -/
def State.failBank (s : State) (d b : Nat) : State :=
  (s.wbWait.filter (fun w => w.die == d && w.bank == b)).foldl (fun t w => (t.mxRetire w.master w.id).bankViolation w.master d b)
    { s with wbWait := s.wbWait.filter (fun w => !(w.die == d && w.bank == b)) }

/-- A reset of master m begins: its waiting requests are dropped (R332). -/
def State.mxReset (s : State) (m : Nat) : State :=
  { s.setBit R.MATRIX_MRST_BUSY m with
    mxWait := s.mxWait.filter (fun w => w.master != m), wbWait := s.wbWait.filter (fun w => w.master != m) }

/-- The reset of master m has ended: none of its requests is outstanding. -/
def State.mxClear (s : State) (m : Nat) : State :=
  { s.clrBit R.MATRIX_MRST_BUSY m with mxOut := s.mxOut.filter (fun e => e.master != m) }.mxShow m

/-- Retires a work bank (R323): Pour jobs that read it end (R304), and accesses that wait for it fail. -/
def State.retireBank (s : State) (d b : Nat) : State :=
  if s.flag (R.WB_OWN d b) F.WB_OWN_RETIRED then s
  else
    ((((((s.sieveAbandon d b).pourBank d b).put (R.WB_OWN d b) F.WB_OWN_RETIRED 1).put (R.WB_OWN d b) F.WB_OWN_OWNER 0).put
      (R.WB_OWN d b) F.WB_OWN_PENDING 0).stopTimer (clearKey 3 d b)).failBank d b

end Sys2Proof.Machine
end

