-- ==== Sys2Proof/Machine/Refs.lean ====
section
/-!
DEFINITION. References: their configuration in effect, quality levels, ranks and qualification states (R231 to R240, R243).
-/

namespace Sys2Proof.Machine

/-- Writes the RW bits of a register. -/
def State.wrRW (s : State) (r : RegId) (v : Word) : State :=
  let m := accMask r (fun a => a == .rw)
  s.wr r ((s.rd r &&& ~~~m) ||| (v &&& m))

/-- Brings a field to the nearest value of its range (R124, R262). -/
def State.clampFld (s : State) (r : RegId) (f : Fld) (lo hi : Nat) : State := s.put r f (clampNat lo hi (s.get r f))

-- Configuration in effect (R262)

def refDflt (r : Nat) : Word × Word := (resetVal (R.TIME_REF_CFG0 r), resetVal (R.TIME_REF_CFG1 r))
def State.refCfg (s : State) (r : Nat) : Word × Word := look refDflt s.refEff r
def State.rc0 (s : State) (r : Nat) (f : Fld) : Nat := fget (s.refCfg r).1 f
def State.rc1 (s : State) (r : Nat) (f : Fld) : Nat := fget (s.refCfg r).2 f

def State.qState (s : State) (r : Nat) : Nat := s.get (R.TIME_REF_STATUS r) F.TIME_REF_STATUS_QSTATE
def State.refActive (s : State) (r : Nat) : Bool := s.flag (R.TIME_REF_STATUS r) F.TIME_REF_STATUS_ACTIVE
def State.refDisputed (s : State) (r : Nat) : Bool := s.flag (R.TIME_REF_STATUS r) F.TIME_REF_STATUS_DISPUTED
def State.refQl (s : State) (r : Nat) : Nat := s.get (R.TIME_REF_STATUS r) F.TIME_REF_STATUS_QL_EFF

/-- Offset of the last completed gate, in 10^-13 units. -/
def State.refOff (s : State) (r : Nat) : Int := (s.rd (R.TIME_REF_FOFF r)).toInt

def refWtrKey (r : Nat) : TKey := ⟨.refWtr, ⟨r, 0, 0⟩⟩
def refGateKey (r : Nat) : TKey := ⟨.refGate, ⟨r, 0, 0⟩⟩
def disputeKey (r : Nat) : TKey := ⟨.dispute, ⟨r, 0, 0⟩⟩

-- Quality levels (Table 10-5)

/-- The rank of a QL in the set that QL_OPT selects. -/
def qlRank (opt2 : Bool) (q : Nat) : Option Nat :=
  if opt2 then
    match q with
    | 1 => some 1 | 0 => some 2 | 7 => some 3 | 4 => some 4 | 13 => some 5 | 10 => some 6 | 12 => some 7 | 14 => some 8
    | _ => none
  else
    match q with
    | 2 => some 1 | 4 => some 2 | 8 => some 3 | 11 => some 4
    | _ => none

def State.qlEn (s : State) : Bool := s.flag R.TIME_CTRL F.TIME_CTRL_QL_EN
def State.qlOpt2 (s : State) : Bool := s.flag R.TIME_CTRL F.TIME_CTRL_QL_OPT

/-- QL_EFF as R239 gives it now. -/
def State.qlNow (s : State) (r : Nat) : Nat :=
  if 8 ≤ r ∧ s.rc0 r F.TIME_REF_CFG0_QL_SRC = 1 ∧ s.isLine (s.rc0 r F.TIME_REF_CFG0_LU) = true then
    (if s.refS1.contains r then s.get (R.LU_SEC_S1 (s.rc0 r F.TIME_REF_CFG0_LU)) F.LU_SEC_S1_S1_ACC % 16 else 15)
  else s.rc0 r F.TIME_REF_CFG0_QL_CFG

/-- A reference is selectable (R240), its QL as QL_EFF shows it. -/
def State.selectable (s : State) (r : Nat) : Bool :=
  s.qState r == 3 && s.rc0 r F.TIME_REF_CFG0_LOCKOUT == 0 && s.rc0 r F.TIME_REF_CFG0_PRIORITY != 0
    && (!s.qlEn || (qlRank s.qlOpt2 (s.refQl r)).isSome)

/-- The QL part of a rank: the same for all while QL_EN = 0. -/
def State.qlPart (s : State) (r : Nat) : Nat := if s.qlEn then (qlRank s.qlOpt2 (s.refQl r)).getD 15 else 0

/-- The rank of a reference as one number: QL rank first, then priority. -/
def State.refRank (s : State) (r : Nat) : Nat := s.qlPart r * 16 + s.rc0 r F.TIME_REF_CFG0_PRIORITY

/-- The chosen reference. -/
def State.mainRef (s : State) : Option Nat :=
  let v := s.get R.TIME_STATUS F.TIME_STATUS_MAIN_REF
  if v < 16 then some v else none

def State.setDisputed (s : State) (r : Nat) (b : Bool) : State :=
  if s.refDisputed r = b then s
  else ((s.put (R.TIME_REF_STATUS r) F.TIME_REF_STATUS_DISPUTED (if b then 1 else 0)).stopTimer (disputeKey r)).ev evTime r

/-- SELECTABLE follows R240; a reference that is not selectable is not DISPUTED (R243). -/
def State.showSelectable (s : State) (r : Nat) : State :=
  let sel := s.selectable r
  let s1 := s.put (R.TIME_REF_STATUS r) F.TIME_REF_STATUS_SELECTABLE (if sel then 1 else 0)
  if sel then s1 else s1.setDisputed r false

/-- QL_EFF, QL_INV, SELECTABLE and MAIN_QL follow; a change of QL_EFF or QL_INV counts one event (R239). -/
def State.refShow (s : State) (r : Nat) : State :=
  let q := s.qlNow r
  let inv := if (qlRank s.qlOpt2 q).isNone ∧ q ≠ 15 then 1 else 0
  let st := R.TIME_REF_STATUS r
  let s1 :=
    if s.refQl r = q ∧ s.get st F.TIME_REF_STATUS_QL_INV = inv then s
    else ((s.put st F.TIME_REF_STATUS_QL_EFF q).put st F.TIME_REF_STATUS_QL_INV inv).ev evTime r
  let s2 := if s1.mainRef = some r then s1.put R.TIME_STATUS F.TIME_STATUS_MAIN_QL q else s1
  s2.showSelectable r

def State.refShowAll (s : State) : State := (List.range 16).foldl (fun t r => t.refShow r) s

/-- An S1 has been accepted on LU n (R239): it counts for the references that have left FAILED. -/
def State.refsS1 (s : State) (n : Nat) : State :=
  (List.range 8).foldl (fun t i =>
    let r := 8 + i
    if t.rc0 r F.TIME_REF_CFG0_LU = n ∧ 2 ≤ t.qState r then
      ({ t with refS1 := if t.refS1.contains r then t.refS1 else r :: t.refS1 }).refShow r
    else t) s

-- Qualification (Table 10-3)

/-- A reference enters a state: one event on TIME.REFr; WTR starts on entry to WTR and is discarded on leaving it. -/
def State.toQState (s : State) (r q : Nat) : State :=
  let old := s.qState r
  if old = q then s
  else
    let st := R.TIME_REF_STATUS r
    let s0 := if old = 1 ∧ 2 ≤ q then { s with refS1 := s.refS1.filter (fun x => x != r) } else s
    let wtr := s0.rc0 r F.TIME_REF_CFG0_WTR
    let s1 := if q = 2 then (s0.startTimerNs (refWtrKey r) (10 ^ 9 * wtr)).put st F.TIME_REF_STATUS_WTR_LEFT wtr
      else (s0.stopTimer (refWtrKey r)).put st F.TIME_REF_STATUS_WTR_LEFT 0
    ((s1.put st F.TIME_REF_STATUS_QSTATE q).ev evTime r).refShow r

/-- FAILED on a loss of activity or a gate result beyond reject. -/
def State.refFail (s : State) (r : Nat) : State := if 2 ≤ s.qState r then s.toQState r 1 else s

/-- A REF_IN with a reserved frequency code is held FAILED (R232). -/
def State.refReserved (s : State) (r : Nat) : Bool := decide (r < 8) && decide (9 ≤ s.rc0 r F.TIME_REF_CFG0_FREQ)

/-- The Main DPLL is locked to the reference or pulls in to it. -/
def State.mainUses (s : State) (r : Nat) : Bool :=
  s.mainRef == some r && (s.get R.TIME_STATUS F.TIME_STATUS_MAIN_STATE == 1 || s.get R.TIME_STATUS F.TIME_STATUS_MAIN_STATE == 2)

/-- GATE of reference r, in ns (Table 10-4). -/
def State.gateNs (s : State) (r : Nat) : Nat :=
  match s.rc1 r F.TIME_REF_CFG1_GATE with
  | 0 => 10 ^ 7
  | 1 => 10 ^ 8
  | 2 => 10 ^ 9
  | _ => 10 ^ 11

/-- A gate of reference r begins (R236; notes/assumptions/97.md). -/
def State.gateBegin (s : State) (r : Nat) : State := s.startTimerNs (refGateKey r) (s.gateNs r)

/-- Activity is lost: the gate in progress yields no result, the reference fails, and if it is the one selected the Main DPLL holds (R235,
R236, R241). -/
def State.refLose (s : State) (r : Nat) : State :=
  let s1 := ((s.put (R.TIME_REF_STATUS r) F.TIME_REF_STATUS_ACTIVE 0).stopTimer (refGateKey r)).refFail r
  if s.mainUses r then { s1 with mainHold := true } else s1

/-- Activity is present again, and a gate begins. -/
def State.refRegain (s : State) (r : Nat) : State := (s.put (R.TIME_REF_STATUS r) F.TIME_REF_STATUS_ACTIVE 1).gateBegin r

end Sys2Proof.Machine
end

