-- ==== Sys2Proof/Machine/LuOps.lean ====
section
/-!
DEFINITION. What follows a link unit at once: the conditions of its protection group (R182) and the LINE_REFs that name it (R233, R235).
-/

namespace Sys2Proof.Machine

-- Bits of LU_SEC_STATUS (Table 05-9)

def sLOS : Nat := 0
def sOOF : Nat := 1
def sLOF : Nat := 2
def sRS_TIM : Nat := 3
def sMS_AIS : Nat := 4
def sMS_RDI : Nat := 5
def sMS_EXC : Nat := 6
def sMS_DEG : Nat := 7
def sS1_UNSTABLE : Nat := 8
def sBEACON_VALID : Nat := 9
def sJ0_NEW : Nat := 12
def sK_NEW : Nat := 13
def sS1_NEW : Nat := 14
def sRATE_NEW : Nat := 15
def sBEACON_NEW : Nat := 16

def State.secBit (s : State) (n i : Nat) : Bool := s.bit (R.LU_SEC_STATUS n) i

/-- A rate-search personality (R100). -/
def State.searches (s : State) (n : Nat) : Bool := s.persOf n == 9 || s.persOf n == 10

def State.searching (s : State) (n : Nat) : Bool := s.flag (R.LU_SEC_RATE n) F.LU_SEC_RATE_SEARCHING

/-- FAILED of a TG link, in LU_TG_STATUS (R216). -/
def tFAILED : Nat := 1

-- The group of a link (R177, R189)

def emptyMsp : MspSt := ⟨0, 0, false, 0, false, false⟩
def State.mspSt (s : State) (g k : Nat) : MspSt := look (fun _ => emptyMsp) s.msp (8 * g + k)
def State.setMspSt (s : State) (g k : Nat) (m : MspSt) : State :=
  { s with msp := store id (fun _ => emptyMsp) s.msp (8 * g + k) m }

def mspHoldKey (g k c sd : Nat) : TKey := ⟨.mspHold, ⟨8 * g + k, c, sd⟩⟩

/-- The group that acts on link n, and the link's channel: an ACTIVE group, or one in DELETING that was ACTIVE (Table 08-6). -/
def State.mspActing (s : State) (n : Nat) : Option (Nat × Nat × Nat) :=
  (s.mspOf [2, 3] n).filter (fun m => (s.mspSt m.1 m.2.1).act)

-- Feeds (R179, R204)

/-- The LU that feeds the ingress names of link n: the protection LU while its group's selector selects it. -/
def State.feedLU (s : State) (n : Nat) : Nat :=
  match s.mspActing n with
  | some (g, k, c) => if c ≠ 0 ∧ s.get (R.MSP_STATUS g k) F.MSP_STATUS_SEL_CHAN = c then s.mspLink g k 0 else n
  | none => n

/-- Link n is the ALT link of an active merge. -/
def State.isMergeAlt (s : State) (n : Nat) : Bool := s.merges.any (fun m => m.2 == n)

/-- The ALT link of the active merge whose SOURCE link is n. -/
def State.mergeAlt (s : State) (n : Nat) : Option Nat := (s.merges.find? (fun m => m.1 == n)).map (fun m => m.2)

/-- The TA with its link replaced. -/
def onLink (t : TA) (n : Nat) : TA := mkTA n (taAug t) (taTug3 t) (taTug2 t) (taTu t) (taKind t)

/-- The ingress names under which the grains of LU n are dispatched: a working link whose group selects protection is silent, the
protection LU gives that link's names too (R179), and an ALT feed gives the names of its SOURCE link (R203, R204). -/
def State.feedNames (s : State) (n : Nat) : List Nat :=
  match s.merges.find? (fun m => m.2 == n) with
  | some m => [m.1]
  | none =>
    match s.mspActing n with
    | some (g, k, c) =>
        let sel := s.get (R.MSP_STATUS g k) F.MSP_STATUS_SEL_CHAN
        if c = 0 then (if sel = 0 then [n] else [n, s.mspLink g k sel]) else if sel = c then [] else [n]
    | none => [n]

/-- The LUs whose grains arrive under the names of link n. -/
def State.memFeeds (s : State) (n : Nat) : List Nat :=
  match s.mergeAlt n with
  | some m => [n, m]
  | none => [s.feedLU n]

-- Conditions (R182, Table 08-3)

def State.secFlag (s : State) (n : Nat) (f : Fld) : Bool := s.flag (R.LU_SEC_STATUS n) f

def State.mspSf (s : State) (n : Nat) : Bool :=
  s.secFlag n F.LU_SEC_STATUS_LOS || s.secFlag n F.LU_SEC_STATUS_LOF || s.secFlag n F.LU_SEC_STATUS_MS_AIS
    || s.secFlag n F.LU_SEC_STATUS_MS_EXC
    || (s.secFlag n F.LU_SEC_STATUS_RS_TIM && s.flag (R.LU_SEC_CTRL n) F.LU_SEC_CTRL_TIM_AIS) || s.retiredLU n

def State.mspSd (s : State) (n : Nat) : Bool := s.secFlag n F.LU_SEC_STATUS_MS_DEG && !s.mspSf n

/-- One condition of one channel against its hold-off: it enters MSP_COND after holding for HOLDOFF, and leaves at once. -/
def State.mspCond (s : State) (g k c sd : Nat) (raw : Bool) : State :=
  let bit := 16 * sd + c
  let key := mspHoldKey g k c sd
  if !raw then (s.clrBit (R.MSP_COND g k) bit).stopTimer key
  else if s.bit (R.MSP_COND g k) bit then s
  else if s.get (R.MSP_CFG g k) F.MSP_CFG_HOLDOFF = 0 then s.setBit (R.MSP_COND g k) bit
  else if s.timerOn key then s
  else s.startTimer key (msFrames 100 * s.get (R.MSP_CFG g k) F.MSP_CFG_HOLDOFF)

/-- Takes the conditions of every link of an ACTIVE group. -/
def State.mspConds (s : State) (g k : Nat) : State :=
  (List.range (s.mspN g k + 1)).foldl (fun t c =>
    (t.mspCond g k c 0 (t.mspSf (t.mspLink g k c))).mspCond g k c 1 (t.mspSd (t.mspLink g k c))) s

/-- Takes the conditions of the group that link n is in, after a change of the link's conditions. -/
def State.mspTouch (s : State) (n : Nat) : State :=
  match s.mspOf [2] n with
  | some (g, k, _) => s.mspConds g k
  | none => s

-- Activity of LINE_REFs (R233)

/-- The LU gives no recovered clock to a LINE_REF. -/
def State.lineRefDead (s : State) (n : Nat) : Bool :=
  s.persOf n == 0 || s.retiredLU n || s.secBit n sLOS || s.secBit n sLOF || s.secBit n sMS_AIS || s.searching n
    || (s.isTG n && s.bit (R.LU_TG_STATUS n) tFAILED)

/-- The LU that reference r names, for a LINE_REF. -/
def State.refLU (s : State) (r : Nat) : Nat := s.rc0 r F.TIME_REF_CFG0_LU

/-- Brings the activity of LINE_REF r to what R233 gives. -/
def State.lineRefFollow (s : State) (r : Nat) : State :=
  if r < 8 ∨ s.qState r = 0 then s
  else
    let dead := s.lineRefDead (s.refLU r)
    if dead then (if s.refActive r then s.refLose r else s) else if s.refActive r then s else s.refRegain r

/-- The LINE_REFs that name LU n follow it (R235). -/
def State.lineRefTouch (s : State) (n : Nat) : State :=
  (List.range 16).foldl (fun t r => if t.refLU r = n then t.lineRefFollow r else t) s

/-- A condition of LU n has changed: its protection group and the references that name it follow. -/
def State.luTouch (s : State) (n : Nat) : State := (s.mspTouch n).lineRefTouch n

end Sys2Proof.Machine
end

