-- ==== Sys2Proof/Machine/Admit.lean ====
section
/-!
DEFINITION. Admission of connection records: the checks of Table 04-7 in their order, with the codes of Table 04-8
(R76 to R78, R81 to R83, R90, R95, R96, R199, R204, R205).
-/

namespace Sys2Proof.Machine

-- Refusal codes (Table 04-8)

def rcFIELD : Nat := 0x01
def rcTA_RANGE : Nat := 0x02
def rcPERSONALITY : Nat := 0x03
def rcUNPOWERED : Nat := 0x04
def rcRETIRED : Nat := 0x05
def rcREBENCH : Nat := 0x06
def rcKIND_MISMATCH : Nat := 0x07
def rcDUP_EGRESS : Nat := 0x08
def rcCLAIMED : Nat := 0x09
def rcSTRUCTURE : Nat := 0x0A
def rcSELECTOR : Nat := 0x0B
def rcMERGE_DEPTH : Nat := 0x0C
def rcSLAB_DEPTH : Nat := 0x0D
def rcCOUNT : Nat := 0x0E
def rcFETCH : Nat := 0x0F
def rcFN_ALIGN : Nat := 0x10
def rcFN_RANGE : Nat := 0x11
def rcLEAD : Nat := 0x12
def rcLATE_BUILD : Nat := 0x13
def rcMATE : Nat := 0x14

/-- What a record is checked against: the structure in force, or the one an image declares (R42, R95). -/
structure Adm where
  /-- Personality of a link. -/
  pers : Nat → Nat
  /-- N_link of a link's present rate. -/
  rate : Nat → Option Nat
  /-- Region power. -/
  powered : Nat → Bool
  /-- Retired link (R24). -/
  retired : Nat → Bool
  /-- Region under re-bench (R49). -/
  rebench : Nat → Bool
  /-- Slab depth of a die. -/
  depth : Nat → Nat
  /-- Active map entries. -/
  active : List Rec
  /-- Active merges, SOURCE and ALT link. -/
  merges : List (Nat × Nat)
  /-- Records of the other live transactions, whose claims hold (R81). -/
  others : List Rec
  /-- The source exists in the ingress structure (R83), the NC code given for a kind 1. -/
  exists' : TA → Nat → Bool
  /-- NC code of the AU-4-Nc head that the ingress structure holds at the AUG-1 of a source. -/
  headNc : TA → Option Nat
  /-- ACTIVE MSP group of a link: whether it is 1:N, and the channel (R199). -/
  msp : Nat → Option (Bool × Nat)

/-- The path of a source exists in the ingress structure of its AUG-1 and is a connection source (R83, R126, R127). -/
def State.srcExists (s : State) (t : TA) (nc : Nat) : Bool :=
  let r0 := R.LU_PATH_STRUCT0 (taLink t) (taAug t)
  let r1 := R.LU_PATH_STRUCT1 (taLink t) (taAug t)
  let mode := s.get r0 F.LU_PATH_STRUCT0_MODE
  let tug2 := (s.get r0 F.LU_PATH_STRUCT0_TUG2MAP).testBit (taTug3 t)
  let types := if taTug3 t = 0 then s.get r0 F.LU_PATH_STRUCT0_TU2TYPE_0
    else if taTug3 t = 1 then s.get r1 F.LU_PATH_STRUCT1_TU2TYPE_1 else s.get r1 F.LU_PATH_STRUCT1_TU2TYPE_2
  let typ := types / 2 ^ (2 * taTug2 t) % 4
  match taKind t with
  | 0 => true
  | 1 => mode == 4 && s.get r0 F.LU_PATH_STRUCT0_NC == nc
  | 2 => mode == 1
  | 3 => mode == 3 && !tug2
  | 4 => mode == 2 && !tug2
  | 5 => (mode == 2 || mode == 3) && tug2 && typ == 2
  | 6 => (mode == 2 || mode == 3) && tug2 && typ == 0
  | 7 => (mode == 2 || mode == 3) && tug2 && typ == 1
  | _ => false

/-- NC code of the AU-4-Nc whose head is the AUG-1 of a source. -/
def State.srcHead (s : State) (t : TA) : Option Nat :=
  let r0 := R.LU_PATH_STRUCT0 (taLink t) (taAug t)
  if s.get r0 F.LU_PATH_STRUCT0_MODE = 4 then some (s.get r0 F.LU_PATH_STRUCT0_NC) else none

/-- The source lies in an AU-3 (R83). -/
def State.srcAu3 (s : State) (t : TA) : Bool :=
  taKind t == 3 || (decide (5 ≤ taKind t) && s.get (R.LU_PATH_STRUCT0 (taLink t) (taAug t)) F.LU_PATH_STRUCT0_MODE == 3)

-- Fields (check order 2)

def Rec.connOK (r : Rec) : Bool :=
  bitsOf r.w0 27 25 == 0 && bitsOf r.w1 30 30 == 0 && bitsOf r.w2 31 31 == 0 && bitsOf r.w3 23 0 == 0
    && r.snc != 3 && decide (r.holdoff ≤ 100)
    && (if taKind r.eg = 1 then decide (1 ≤ r.nc) && decide (r.nc ≤ 3) else r.nc == 0)
    && (r.snc != 0 || (r.w2 == 0 && r.wtr == 0))
    && taFits r.eg r.nc && taFits r.src r.nc && (r.snc == 0 || taFits r.alt r.nc)

def Rec.discOK (r : Rec) (nc : Nat) : Bool :=
  bitsOf r.w0 27 25 == 0 && r.w1 == 0 && r.w2 == 0 && bitsOf r.w3 31 24 == 0 && bitsOf r.w3 15 0 == 0
    && decide (r.unconn ≤ 1) && taFits r.eg nc

def Rec.selOK (r : Rec) (nc : Nat) : Bool :=
  bitsOf r.w0 27 25 == 0 && r.w1 == 0 && r.w2 == 0 && bitsOf r.w3 31 16 == 0 && bitsOf r.w3 7 0 == 0
    && decide (r.cmd ≤ 7) && taFits r.eg nc

def Rec.mergeOK (r : Rec) : Bool :=
  bitsOf r.w0 27 24 == 0 && bitsOf r.w1 31 24 == 0 && bitsOf r.w2 31 24 == 0 && r.w3 == 0
    && r.eg == r.src && taKind r.src == 0 && taFits r.src 0
    && (if r.typ = tyMerge then taKind r.alt == 0 && taFits r.alt 0 else r.w2 == 0)

/-- NC code of the egress name of a record: its own for a CONNECT, else that of the active entry it names (0 where there is none). -/
def Adm.egNc (a : Adm) (r : Rec) : Nat :=
  if r.typ = tyConnect then r.nc
  else ((a.active.find? (fun e => e.key == r.key)).map Rec.nc).getD 0

def Adm.fieldsOK (a : Adm) (r : Rec) : Bool :=
  match r.typ with
  | 0 => r.connOK
  | 1 => r.discOK (a.egNc r)
  | 2 => r.selOK (a.egNc r)
  | 3 => r.mergeOK
  | 4 => r.mergeOK
  | _ => false

/-- The tributaries a record names, its egress first. -/
def Rec.named (r : Rec) : List TA :=
  match r.typ with
  | 0 => if r.snc = 0 then [r.eg, r.src] else [r.eg, r.src, r.alt]
  | 3 => [r.eg, r.alt]
  | _ => [r.eg]

/-- The sources a CONNECT names. -/
def Rec.sources (r : Rec) : List TA :=
  if r.typ = tyConnect then (if r.snc = 0 then [r.src] else [r.src, r.alt]) else []

/-- A personality refusal of check order 4. -/
def Adm.badPers (a : Adm) (r : Rec) : Bool :=
  let off := r.named.any (fun t => a.pers (taLink t) == 0)
  let norate := r.named.any (fun t => taKind t != 0 && (a.rate (taLink t)).isNone)
  let tg (t : TA) : Bool := a.pers (taLink t) == persTG
  let mix := r.typ == tyConnect && taKind r.eg == 0 &&
    r.sources.any (fun t => taKind t == 0 && (a.rate (taLink t) != a.rate (taLink r.eg) || tg t != tg r.eg))
  let notTG := (r.typ == tyMerge || r.typ == tyUnmerge) && r.named.any (fun t => !tg t)
  off || norate || mix || notTG

/-- Kinds and EG_AU3 fit (check order 8, R78). -/
def Rec.kindsOK (r : Rec) : Bool :=
  let k := taKind r.eg
  let au3 := if r.typ = tyConnect ∨ r.typ = tyDisconnect ∨ r.typ = tySelCmd then
      (if k = 3 then r.egAu3 else if k ≤ 4 then !r.egAu3 else true) else true
  let fits := r.sources.all (fun t => if k = 3 ∨ k = 4 then taKind t == 3 || taKind t == 4 else taKind t == k)
  au3 && fits

/-- Same NC: the source of a kind-1 egress is not the head of a group of another size (check order 8, Table 04-4). -/
def Adm.sameNc (a : Adm) (r : Rec) : Bool :=
  taKind r.eg != 1 || r.sources.all (fun t => match a.headNc t with
    | some c => c == r.nc
    | none => true)

-- Claims (R81)

def Rec.isConn (r : Rec) : Bool := r.typ == tyConnect || r.typ == tyDisconnect

/-- Two egress names overlap, each with its NC code. -/
def Adm.over (a : Adm) (x y : Rec) : Bool := taOverlap x.egAu3 x.eg (a.egNc x) y.egAu3 y.eg (a.egNc y)

/-- What a CONNECT or DISCONNECT claims: its own egress and every active entry it overlaps. -/
def Adm.footprint (a : Adm) (r : Rec) : List Rec := r :: a.active.filter (fun e => a.over e r)

/-- The entries that a SEL_CMD, MERGE or UNMERGE claims, by name. -/
def Adm.pointClaims (a : Adm) (r : Rec) : List Nat :=
  if r.typ = tySelCmd then [r.key]
  else if r.typ = tyMerge then [r.eg.toNat, r.alt.toNat]
  else r.eg.toNat :: (a.merges.filter (fun m => m.1 == taLink r.eg)).map (fun m => (linkTA m.2).toNat)

/-- Two claims conflict (R81). -/
def Adm.conflict (a : Adm) (x y : Rec) : Bool :=
  if x.isConn && y.isConn then (a.footprint x).any (fun e => (a.footprint y).any (fun f => a.over e f))
  else if x.isConn then (a.footprint x).any (fun e => (a.pointClaims y).contains e.key)
  else if y.isConn then (a.footprint y).any (fun e => (a.pointClaims x).contains e.key)
  else (a.pointClaims x).any (fun k => (a.pointClaims y).contains k)

-- Structure (check order 11)

/-- The merges as the earlier records of a transaction leave them. -/
def mergesAfter (ms : List (Nat × Nat)) (earlier : List Rec) : List (Nat × Nat) :=
  earlier.foldl (fun m r =>
    if r.typ = tyMerge then m ++ [(taLink r.src, taLink r.alt)]
    else if r.typ = tyUnmerge then m.filter (fun e => e.1 != taLink r.src) else m) ms

def merged (ms : List (Nat × Nat)) (n : Nat) : Bool := ms.any (fun m => m.1 == n || m.2 == n)

def Adm.structureBad (a : Adm) (earlier : List Rec) (r : Rec) : Bool :=
  let ms := mergesAfter a.merges earlier
  let clash := earlier.any (fun e => a.conflict e r && !(e.typ == tyUnmerge && r.typ == tyMerge))
  let absent := r.sources.any (fun t => !a.exists' t r.nc || ms.any (fun m => m.2 == taLink t))
  let mergeBad := r.typ == tyMerge &&
    (luDie (taLink r.src) != luDie (taLink r.alt) || taLink r.src == taLink r.alt
      || merged ms (taLink r.src) || merged ms (taLink r.alt))
  let unmergeBad := r.typ == tyUnmerge && !(a.merges.any (fun m => m.1 == taLink r.src))
  clash || absent || mergeBad || unmergeBad

/-- Check order 12: the target of a SEL_CMD, then its code (R199). -/
def Adm.selCode (a : Adm) (r : Rec) : Option Nat :=
  if r.typ ≠ tySelCmd then none
  else
    if a.active.any (fun e => e.key == r.key && e.hasSnc) then
      (if r.cmd = 6 ∨ r.cmd = 7 then some rcFIELD else none)
    else match (if taKind r.eg = 0 then a.msp (taLink r.eg) else none) with
      | some (oneN, c) =>
          if (r.cmd = 3 ∨ r.cmd = 5) ∧ oneN then some rcFIELD
          else if r.cmd = 7 ∧ !oneN then some rcFIELD
          else if (r.cmd = 2 ∨ r.cmd = 4 ∨ r.cmd = 6 ∨ r.cmd = 7) ∧ c = 0 then some rcFIELD
          else none
      | none => some rcSELECTOR

/-- Check order 13 (R96, R205). An active CONNECT that an earlier record of the transaction replaces or clears takes no source any more
(R82). -/
def Adm.mergeDepthBad (a : Adm) (earlier : List Rec) (r : Rec) : Bool :=
  let ms := mergesAfter a.merges earlier
  let stays := a.active.filter (fun e => !earlier.any (fun x => x.isConn && a.over e x))
  let conns := (stays ++ earlier).filter (fun e => e.typ == tyConnect)
  if r.typ = tyMerge then
    let mine (n : Nat) : Bool := n == taLink r.src || n == taLink r.alt
    a.depth (luDie (taLink r.src)) == 2
      || conns.any (fun e => a.depth (luDie (taLink e.eg)) == 2 && e.sources.any (fun t => mine (taLink t)))
      || conns.any (fun e => e.snc != 0 && e.sources.any (fun t => mine (taLink t))
          && e.sources.all (fun t => mine (taLink t) || merged ms (taLink t)))
  else if r.typ = tyConnect then
    (a.depth (luDie (taLink r.eg)) == 2 && r.sources.any (fun t => merged ms (taLink t)))
      || (r.snc != 0 && r.sources.all (fun t => merged ms (taLink t)))
  else false

/-- A CONNECT that replaces an active CONNECT across dies on a 2-slab egress die (R90). -/
def Adm.crossReplace (a : Adm) (r : Rec) : Bool :=
  r.typ == tyConnect && a.depth (luDie (taLink r.eg)) == 2 &&
    a.active.any (fun e => e.key == r.key && e.typ == tyConnect
      && (r.sources ++ e.sources).any (fun t => luDie (taLink t) != luDie (taLink r.eg)))

/-- The checks of Table 04-7 on a record, orders 1 to 14, given the records before it. DUP_EGRESS asks for a repeat of EGRESS_TA and EG_AU3
alike, the name of the egress entry; an EGRESS_TA repeated with the other EG_AU3 is a conflict of claims (notes/assumptions/89.md). -/
def Adm.check (a : Adm) (earlier : List Rec) (r : Rec) : Option Nat :=
  if 524288 ≤ earlier.length then some rcCOUNT
  else if !a.fieldsOK r then some rcFIELD
  else if r.named.any (fun t => match a.rate (taLink t) with
      | some n => !taInRate t (a.egNc r) n
      | none => false) then some rcTA_RANGE
  else if a.badPers r then some rcPERSONALITY
  else if r.named.any (fun t => !a.powered (luRegion (taLink t))) then some rcUNPOWERED
  else if r.named.any (fun t => a.retired (taLink t)) then some rcRETIRED
  else if r.named.any (fun t => a.rebench (luRegion (taLink t))) then some rcREBENCH
  else if !(r.kindsOK && a.sameNc r) then some rcKIND_MISMATCH
  else if earlier.any (fun e => e.key == r.key) then some rcDUP_EGRESS
  else if a.others.any (fun e => a.conflict e r) then some rcCLAIMED
  else if a.structureBad earlier r then some rcSTRUCTURE
  else match a.selCode r with
    | some c => some c
    | none =>
        if a.mergeDepthBad earlier r then some rcMERGE_DEPTH
        else if a.crossReplace r && !r.hit then some rcSLAB_DEPTH
        else none

/-- Checks the records of a map one after another; the index and code of the first refused (R42). -/
def Adm.checkAll (a : Adm) (earlier : List Rec) : List Rec → Option (Nat × Nat)
  | [] => none
  | r :: t =>
    match a.check earlier r with
    | some c => some (earlier.length, c)
    | none => a.checkAll (earlier ++ [r]) t

end Sys2Proof.Machine
end

