-- ==== Sys2Proof/Machine/TxnOps.lean ====
section
/-!
DEFINITION. The shared operations of transaction slots: states, refusal, abort and restore, the record queues
(R85, R87, R91, R92, R94).
-/

namespace Sys2Proof.Machine

def txFREE : Nat := 0
def txOPEN : Nat := 1
def txBUILDING : Nat := 2
def txBUILT : Nat := 3
def txSEALED : Nat := 4
def txCOMMITTED : Nat := 5
def txABORTED : Nat := 6
def txREFUSED : Nat := 7

def State.txnState (s : State) (k : Nat) : Nat := s.get (R.TXN_STATUS k) F.TXN_STATUS_STATE

/-- A live slot: OPEN, BUILDING, BUILT or SEALED (Table 04-9). -/
def State.txnLive (s : State) (k : Nat) : Bool := decide (1 ≤ s.txnState k) && decide (s.txnState k ≤ 4)

/-- The slot's claims hold: it is live, or its restore runs (Table 04-5). -/
def State.txnClaims (s : State) (k : Nat) : Bool := s.txnLive k || s.flag (R.TXN_STATUS k) F.TXN_STATUS_CLEANING

/-- An event on PKG.TXN when the slot's NOTIFY bit is set (Table 04-9). -/
def State.txnNotify (s : State) (k : Nat) : State := if s.bit R.TXN_SUMMARY (24 + k) then s.ev evPkg srcTXN else s

/-- A change of state: TXN_EVENT_FN, and the event of R97 for a terminal state. -/
def State.setTxn (s : State) (k st : Nat) : State :=
  let s1 := (s.put (R.TXN_STATUS k) F.TXN_STATUS_STATE st).wr (R.TXN_EVENT_FN k) (BitVec.ofNat 32 s.fn)
  if 5 ≤ st then s1.txnNotify k else s1

/-- An operation that does not apply (R87). -/
def State.opRefused (s : State) (k : Nat) : State := s.put (R.TXN_STATUS k) F.TXN_STATUS_OP_REFUSED 1

/-- Dies of the tributaries a record names, and of the sources of an active entry that it replaces or clears (R85). -/
def State.recDies (s : State) (r : Rec) : List Nat :=
  let own := (r.named ++ (if r.typ = tyUnmerge then [] else r.sources)).map (fun t => luDie (taLink t))
  let old := if r.isConn then
      (s.entries.filter (fun e => taOverlap e.egAu3 e.eg e.nc r.egAu3 r.eg r.nc)).flatMap
        (fun e => e.sources.map (fun t => luDie (taLink t)))
    else []
  (own ++ old).eraseDups

/-- Records of a slot still queued for building. -/
def TxnSlot.queue (t : TxnSlot) : List Rec := t.recs.drop (t.recs.length - t.unbuilt)

/-- Records queued on die d (R85, R98). -/
def State.queued (s : State) (d : Nat) : Nat :=
  ((List.range 8).map (fun k => (((s.slot k).queue).filter (fun r => (s.recDies r).contains d)).length)).foldl (· + ·) 0

/-- A restore runs on die d. -/
def State.restoring (s : State) (d : Nat) : Bool :=
  (List.range 8).any (fun k => s.flag (R.TXN_STATUS k) F.TXN_STATUS_CLEANING
    && (s.slot k).recs.any (fun r => (s.recDies r).contains d))

/-- MAP_STATUS of every die (Table 04-19). -/
def State.updQueue (s : State) : State :=
  (List.range 4).foldl (fun t d =>
    (t.put (R.MAP_STATUS d) F.MAP_STATUS_QUEUE (s.queued d)).put (R.MAP_STATUS d) F.MAP_STATUS_BUSY
      (if 0 < s.queued d ∨ s.restoring d then 1 else 0)) s

/-- Begins the restore of the slot's shadow entries (Table 04-5); with no record accepted there is nothing to restore, and it ends at once. A fetch in progress delivers the rest of its records to a slot
that is no longer OPEN, which discards them. -/
def State.beginRestore (s : State) (k : Nat) : State :=
  ((s.setSlot k { s.slot k with unbuilt := 0 }).put (R.TXN_STATUS k) F.TXN_STATUS_CLEANING
    (if (s.slot k).recs.isEmpty then 0 else 1)).updQueue

def State.mirrored (s : State) (k : Nat) : Bool := s.flag (R.TXN_STATUS k) F.TXN_STATUS_MIRROR
def State.originMate (s : State) (k : Nat) : Bool := s.flag (R.TXN_STATUS k) F.TXN_STATUS_ORIGIN

/-- Sends the mate a message. -/
def State.toMate (s : State) (m : MateMsg) : State := { s with mateOut := m :: s.mateOut }

/-- Refuses a transaction with a code (R87), for the record with index `idx` where the check is tied to one; a mirrored one tells the mate
(R94). -/
def State.refuseFor (s : State) (k code : Nat) (idx : Option Nat) : State :=
  let s1 := ((s.put (R.TXN_STATUS k) F.TXN_STATUS_CODE code).setTxn k txREFUSED).beginRestore k
  if s.mirrored k then s1.toMate (.refused k idx) else s1

/-- Refuses a transaction with a code, for no one record. -/
def State.refuseTxn (s : State) (k code : Nat) : State := s.refuseFor k code none

/-- Refuses a transaction for a record: the record's index (Table 04-15). -/
def State.refuseRec (s : State) (k code idx : Nat) : State :=
  (s.wr (R.TXN_ERR_INDEX k) (BitVec.ofNat 32 idx)).refuseFor k code (some idx)

/-- Aborts a transaction before its seal (R92). -/
def State.abortTxn (s : State) (k cause : Nat) : State :=
  ((s.put (R.TXN_STATUS k) F.TXN_STATUS_ABORT_CAUSE cause).setTxn k txABORTED).beginRestore k

/-- Slots in OPEN, BUILDING or BUILT that hold a record of which p holds are refused (Table 04-5). In GRAVE no slot changes
state (Table 14-12). -/
def State.refuseHolding (s : State) (code : Nat) (p : Rec → Bool) : State :=
  if s.grave then s
  else
    (List.range 8).foldl (fun t k =>
      if 1 ≤ t.txnState k ∧ t.txnState k ≤ 3 ∧ (t.slot k).recs.any p then t.refuseTxn k code else t) s

/-- The record names link n as an egress or as a source (R24). -/
def Rec.namesLink (r : Rec) (n : Nat) : Bool := (r.named ++ r.sources).any (fun t => taLink t == n)

/-- The record names a tributary of region g (R49). -/
def Rec.namesRegion (r : Rec) (g : Nat) : Bool := (r.named ++ r.sources).any (fun t => luRegion (taLink t) == g)

/-- The acceptance of a region re-bench falls due at this frame boundary and the slot holds a record that names the region (R49, Table 02-11). -/
def State.benchTakes (s : State) (k : Nat) : Bool :=
  match s.applying with
  | some a => !a.img.full && a.stage == .waiting && decide (a.after ≤ s.up) && (s.slot k).recs.any (fun r => r.namesRegion a.img.region)
  | none => false

/-- A full re-bench aborts every live transaction and discards its claims (Table 04-5); in GRAVE no slot changes state (Table 14-12). -/
def State.abortAll (s : State) : State :=
  if s.grave then s
  else
  ((List.range 8).foldl (fun t k =>
    if t.txnLive k then
      ((t.put (R.TXN_STATUS k) F.TXN_STATUS_ABORT_CAUSE 4).setTxn k txABORTED).setSlot k { t.slot k with unbuilt := 0, recs := [] }
    else t) s).updQueue

end Sys2Proof.Machine
end

