-- ==== Sys2Proof/Machine/Retire.lean ====
section
/-!
DEFINITION. Retirement: link units (R24), slab banks (R71, R72), Seam lanes (R19), work banks (R323), DRAM rows (R326), and
the settling of severe transitions under RETIRE (R346).
-/

namespace Sys2Proof.Machine

-- Link units

/-- Retires LU n (R24): its bit, and the refusal of open transactions that name it. -/
def State.retireLU (s : State) (n : Nat) : State :=
  (({ s.setBit (R.DIE_UNIT_RETIRE (n / 32)) (n % 32) with unretire := s.unretire.filter (fun u => u.1 != n) }).luTouch n).refuseHolding
    rcRETIRED (fun r => r.namesLink n)

/-- Ends a CABLE run on an LU that returns to service (R364): ABORTED, and PKG.HK_RUN counts. -/
def State.tdrAbort (s : State) (n : Nat) : State :=
  if s.flag (R.LU_SENSE_STATUS n) F.LU_SENSE_STATUS_BUSY then
    (((s.put (R.LU_SENSE_STATUS n) F.LU_SENSE_STATUS_BUSY 0).put (R.LU_SENSE_STATUS n) F.LU_SENSE_STATUS_DONE 1).put
      (R.LU_SENSE_STATUS n) F.LU_SENSE_STATUS_CODE 3).ev evPkg srcHK_RUN
  else s

/-- Schedules the LU's return for the next frame boundary (R24). -/
def State.unretireLU (s : State) (n : Nat) : State :=
  if s.bit (R.DIE_UNIT_RETIRE (n / 32)) (n % 32) then
    ({ s.clrBit (R.DIE_UNIT_RETIRE (n / 32)) (n % 32) with unretire := (n, s.up + 1) :: s.unretire }).tdrAbort n
  else s

/-- A write of DIE_UNIT_RETIRE of die d (R24, R28). -/
def State.writeRetire (s : State) (d : Nat) (v : Word) : State :=
  (List.range 32).foldl (fun t j =>
    if v.toNat.testBit j = s.bit (R.DIE_UNIT_RETIRE d) j then t
    else if v.toNat.testBit j then t.retireLU (32 * d + j) else t.unretireLU (32 * d + j)) s

-- Slab banks

/-- Spare slab banks of region g that replace no logical bank. -/
def State.freeSpare (s : State) (g : Nat) : Option Nat :=
  [0, 1].find? (fun k => !s.flag (R.RG_SLAB_SPARE g k) F.RG_SLAB_SPARE_VALID)

def State.updSpareFree (s : State) (g : Nat) : State :=
  s.put (R.RG_SLAB_STATUS g) F.RG_SLAB_STATUS_SPARE_FREE
    (([0, 1].filter (fun k => !s.flag (R.RG_SLAB_SPARE g k) F.RG_SLAB_SPARE_VALID)).length)

/-- Spare k is the one of region g that was assigned last. -/
def State.spareTaken (s : State) (g k : Nat) : State := { s with spareLast := store id (fun _ => 0) s.spareLast g k }

/-- Hardware assigns a free spare to a logical bank, or finds none; either counts RGg.SLAB_SPARE (R71, R72). -/
def State.assignSpare (s : State) (g bank : Nat) : State :=
  match s.freeSpare g with
  | some k =>
      (((((s.put (R.RG_SLAB_SPARE g k) F.RG_SLAB_SPARE_VALID 1).put (R.RG_SLAB_SPARE g k) F.RG_SLAB_SPARE_ORIGIN 1).put
        (R.RG_SLAB_SPARE g k) F.RG_SLAB_SPARE_LOGICAL bank).updSpareFree g).spareTaken g k).ev (evRegion g) srcSLAB_SPARE
  | none => s.ev (evRegion g) srcSLAB_SPARE

-- Seam lanes

/-- The RETIRED register of lane i of Seam port k of die d, and its bit (Table 18-5). -/
def seamLane (d k i : Nat) : RegId × Nat :=
  if i < 32 then (R.SEAM_RETIRED_0 d k, i) else if i < 64 then (R.SEAM_RETIRED_1 d k, i - 32) else (R.SEAM_RETIRED_2 d k, i - 64)

def State.laneRetired (s : State) (d k i : Nat) : Bool := s.bit (seamLane d k i).1 (seamLane d k i).2

/-- Lanes of the direction in service, spares included (Table 18-5). -/
def State.lanesOk (s : State) (d k : Nat) : Nat := ((List.range 66).filter (fun i => !s.laneRetired d k i)).length

/-- Spares that serve a data position: as many as there are retired data lanes, up to the sound spares (R19). -/
def State.sparesUsed (s : State) (d k : Nat) : Nat :=
  min ((List.range 64).filter (fun i => s.laneRetired d k i)).length
    ([64, 65].filter (fun i => !s.laneRetired d k i)).length

def dieSpareFld : Nat → Fld
  | 0 => F.DIE_UNIT_STATE_SEAM_SPARE_USED0
  | 1 => F.DIE_UNIT_STATE_SEAM_SPARE_USED1
  | _ => F.DIE_UNIT_STATE_SEAM_SPARE_USED2

/-- DETAIL of a whole Seam direction (Table 14-17). -/
def seamDetail (k lane : Nat) : Word := BitVec.ofNat 32 (256 * k + lane)

/-- Retires a receive lane (R19): onto a spare, or the direction goes out of service and Dd.SEAM_DOWN counts. -/
def State.retireLane (s : State) (d k i : Nat) : State :=
  if s.laneRetired d k i then s
  else
    let s1 := s.setBit (seamLane d k i).1 (seamLane d k i).2
    let s2 := ((s1.put (R.SEAM_STATUS d k) F.SEAM_STATUS_LANES_OK (s1.lanesOk d k)).put (R.SEAM_STATUS d k)
      F.SEAM_STATUS_SPARE_USED (s1.sparesUsed d k)).put (R.DIE_UNIT_STATE d) (dieSpareFld k) (s1.sparesUsed d k)
    if s2.lanesOk d k < 64 ∧ s2.flag (R.SEAM_STATUS d k) F.SEAM_STATUS_UP then
      ((s2.put (R.SEAM_STATUS d k) F.SEAM_STATUS_UP 0).event (evDie d) srcSEAM_DOWN (seamDetail k 0x7F)).liveOn (evDie d) srcSEAM_DOWN
    else s2

-- DRAM rows

/-- Moves a row to a spare row; with none free the row stays and Dd.DRAM counts once more (R326), which, its source being severe, does
not count toward N (R339). -/
def State.spareRow (s : State) (d : Nat) : State :=
  if 0 < s.get (R.DRAM_STATUS d) F.DRAM_STATUS_SPARE_FREE then
    s.put (R.DRAM_STATUS d) F.DRAM_STATUS_SPARE_FREE (s.get (R.DRAM_STATUS d) F.DRAM_STATUS_SPARE_FREE - 1)
  else s.event' (evDie d) srcDRAM (s.rd (R.EVT_DETAIL (evDie d) srcDRAM)) false

-- Settling (R346, Table 14-10)

/-- A retirement with no spare left for it: no free spare slab bank (R72), no free spare row (R326). -/
def State.noSpare (s : State) (u : Due) : Bool :=
  if u.blk < 7 then u.src == srcDRAM && s.get (R.DRAM_STATUS (u.blk - 3)) F.DRAM_STATUS_SPARE_FREE == 0
  else decide (u.blk < 15) && (s.freeSpare (u.blk - 7)).isNone

/-- Carries out one retirement; the source then leaves severity (R340). A source whose retirement cannot be carried out takes the SAFE
reaction, or FENCE in fence mode (R348; notes/assumptions/13.md). -/
def State.retireTarget (s : State) (u : Due) : State :=
  let b := u.blk
  let d := b - 3
  let none' := s.noSpare u
  let s1 :=
    if b < 7 then
      (if u.src = srcSEAM_LANE then s.retireLane d (u.detail.toNat / 256 % 4) (u.detail.toNat % 128)
       else if u.src = srcWB then s.retireBank d (s.get (R.WB_ERR_LAST d) F.WB_ERR_LAST_BANK)
       else if u.src = srcSIEVE then s.retireBank d (s.get (R.SIEVE_FAULT_LAST d) F.SIEVE_FAULT_LAST_BANK)
       else s.spareRow d)
    else if b < 15 then s.assignSpare (b - 7) (s.get (R.RG_SLAB_ECC_LAST (b - 7)) F.RG_SLAB_ECC_LAST_LOGICAL)
    else if b < 47 then [0, 1, 2, 3].foldl (fun t i => t.retireLU (4 * (b - 15) + i)) s
    else s.retireLU (b - 47)
  (if none' then s1.safeReact b u.src u.detail else s1).leaveSevere b u.src

/-- Carries out the retirements that are due, with fuel for those that they cause in turn. -/
def State.settleN : Nat → State → State
  | 0, s => s
  | f + 1, s =>
    match s.due with
    | [] => s
    | u :: t => State.settleN f ({ s with due := t }.retireTarget u)

/-- Carries out the retirements that are due (R346). -/
def State.settle (s : State) : State := State.settleN (s.due.length + 64) s

/-- HEALTH and SYNC_OUT fall on entry to GRAVE (R220, Table 14-12). -/
def State.graveHealth (s : State) : State :=
  if s.grave && !s.bit R.PAIR_HEALTH_CAUSE 1 then { s with syncOut := false }.updHealth else s

/-- The next state of a command that may raise events: retirements due are carried out (R346), and HEALTH falls in GRAVE. -/
def done (s : State) : Out := .next s.settle.graveHealth

-- Commands

/-- LU_RETIRE: a DIE_UNIT_RETIRE bit written to 1 (R24). -/
def execLuRetire (p : Port) (n : Fin 128) (s : State) : Out := done (hostReg p (.luRetire p n) (fun t => t.retireLU n) s)

/-- LU_UNRETIRE: a DIE_UNIT_RETIRE bit written to 0 (R24). -/
def execLuUnretire (p : Port) (n : Fin 128) (s : State) : Out := done (hostReg p (.luUnretire p n) (fun t => t.unretireLU n) s)

/-- LU_UNRETIRE_APPLY: at the frame boundary the LU's outputs follow the active map again (R24); a CABLE run that began since is abandoned
(R364). -/
def execLuUnretireApply (n : Fin 128) (s : State) : Out :=
  if s.ns ≠ 0 then .next s
  else
    let s1 := { s with unretire := s.unretire.filter (fun u => u.1 != n.val || decide (s.up < u.2)) }.luTouch n
    done (if s1.retiredLU n then s1 else s1.tdrAbort n)

end Sys2Proof.Machine
end

