-- ==== Sys2Proof/Machine/Bank.lean ====
section
/-!
DEFINITION. Work banks, SIEVE, DRAM and the bus matrix (13_memory_matrix.md).
-/

namespace Sys2Proof.Machine

/-- WB_ACCESS: a master accesses bytes of one word; `other` holds bytes that Host Port B writes into the same word in the
same cycle as Host Port A's write (R316). -/
def execWbAccess (m : Fin 19) (d : Fin 4) (b : Fin 42) (off : Fin 262144) (op : MemOp) (ecc : Ecc)
    (other : Option (List (Option Byte))) (s : State) : Out :=
  done ((s.answer .none).access m (.bank d b off op ecc other))

-- Owner writes (R314, R315, R319, R323)

/-- A refused write of WB_OWN. -/
def State.ownReject (s : State) (d b cause : Nat) : State :=
  ((s.put (R.WB_STATUS d) F.WB_STATUS_OWN_REJ 1).put (R.WB_STATUS d) F.WB_STATUS_REJ_CAUSE cause).put
    (R.WB_STATUS d) F.WB_STATUS_REJ_BANK b

/-- The cause that refuses a handover of the bank to a code (R315), 0 for none; `hk` for a write of the housekeeper. -/
def State.ownCause (s : State) (d b code : Nat) (hk : Bool) : Nat :=
  if s.bankPending d b then 1
  else if code = 5 ∨ code = 7 then 2
  else if s.bankRetired d b ∨ !s.bankExists d b then 3
  else if hk ∧ s.bankOwner d b ≠ 6 then 4
  else 0

/-- Starts the return of a retired bank (R323). -/
def State.unretireBank (s : State) (d b : Nat) : State :=
  if s.flag (R.WB_OWN d b) F.WB_OWN_RETIRED then
    { s.put (R.WB_OWN d b) F.WB_OWN_RETIRED 0 with wbReturning := (64 * d + b) :: s.wbReturning }.startTimerNs (clearKey 3 d b) 30000
  else s

/-- A claim (R319). -/
def State.claimBank (s : State) (d b : Nat) (urgent : Bool) : State :=
  if s.flag (R.WB_OWN d b) F.WB_OWN_ON_LOAN then (if urgent then s.sieveAbandon d b else s.sieveEnd d b) else s

/-- A write of WB_OWNb of die d by a host port, or by the housekeeper (R314, R315, R319, R323). -/
def State.writeOwn (s : State) (hk : Bool) (d b : Nat) (v : Word) : State :=
  if 42 ≤ b then s
  else
    let code := fget v F.WB_OWN_OWNER
    let hand := code ≠ s.bankOwner d b
    if hand ∧ s.ownCause d b code hk ≠ 0 then s.ownReject d b (s.ownCause d b code hk)
    else
      let s1 := s.put (R.WB_OWN d b) F.WB_OWN_LEND (fget v F.WB_OWN_LEND)
      let s2 := if hand then
          let s3 : State := { ((s1.sieveAbandon d b).put (R.WB_OWN d b) F.WB_OWN_PENDING 1).pourBank d b with
                                wbNew := store id (fun _ => 0) s1.wbNew (64 * d + b) code }
          if s.bankOwner d b = 5 then s3.startTimerNs (clearKey 3 d b) 30000 else s3
        else if fget v F.WB_OWN_CLAIM = 1 then s1.claimBank d b (fget v F.WB_OWN_URGENT = 1) else s1
      if fget v F.WB_OWN_RETIRED = 1 then s2.retireBank d b else s2.unretireBank d b

/-- WB_OWNER_WRITE: a host port, or the housekeeper, writes WB_OWNb; under reset the housekeeper issues nothing (R332). -/
def execWbOwnerWrite (by_ : Option Port) (d : Fin 4) (b : Fin 42) (v : Word) (s : State) : Out :=
  match by_ with
  | some p => done (hostReg p (.wbOwnerWrite (some p) d b v) (fun t => t.writeOwn false d b v) s)
  | none => if s.bit R.MATRIX_MRST_BUSY mHK then .next s else done (s.writeOwn true d b v)

/-- Ends a handover. -/
def State.endHandover (s : State) (d b : Nat) : State :=
  ({ (s.put (R.WB_OWN d b) F.WB_OWN_OWNER (look (fun _ => 0) s.wbNew (64 * d + b))).put (R.WB_OWN d b) F.WB_OWN_PENDING 0 with
    wbNew := store id (fun _ => 0) s.wbNew (64 * d + b) 0 }.stopTimer (clearKey 3 d b)).wakeBank d b

/-- WB_HANDOVER_DONE: step 2 of Table 13-2, which ends a handover from an owner other than SIEVE. -/
def execWbHandoverDone (d : Fin 4) (b : Fin 42) (s : State) : Out :=
  if s.bankPending d b ∧ s.bankOwner d b ≠ 5 then done (s.endHandover d b) else .next s

/-- The bytes of bank b of die d. -/
def inBank (d b a : Nat) : Bool := decide (wbBase d b ≤ a) && decide (a < wbBase d b + 0x40000)

/-- WB_SIEVE_ZERO_DONE: step 3 of Table 13-2, for a handover from SIEVE (R322). -/
def execWbSieveZeroDone (d : Fin 4) (b : Fin 42) (s : State) : Out :=
  if s.bankPending d b ∧ s.bankOwner d b = 5 then done ((s.zeroMem (inBank d b)).endHandover d b) else .next s

/-- WB_CLAIM_NORMAL (R319). -/
def execWbClaimNormal (p : Port) (d : Fin 4) (b : Fin 42) (s : State) : Out :=
  done (hostReg p (.wbClaimNormal p d b) (fun t => t.claimBank d b false) s)

/-- WB_CLAIM_URGENT (R319). -/
def execWbClaimUrgent (p : Port) (d : Fin 4) (b : Fin 42) (s : State) : Out :=
  done (hostReg p (.wbClaimUrgent p d b) (fun t => t.claimBank d b true) s)

/-- WB_RETIRE: RETIRED written to 1 (R323). -/
def execWbRetire (p : Port) (d : Fin 4) (b : Fin 42) (s : State) : Out := done (hostReg p (.wbRetire p d b) (fun t => t.retireBank d b) s)

/-- WB_UNRETIRE: RETIRED written to 0 (R323). -/
def execWbUnretire (p : Port) (d : Fin 4) (b : Fin 42) (s : State) : Out := .next (hostReg p (.wbUnretire p d b) (fun t => t.unretireBank d b) s)

/-- WB_UNRETIRE_DONE: the bank is back, zeroed, owned by NONE (R323). -/
def execWbUnretireDone (d : Fin 4) (b : Fin 42) (s : State) : Out :=
  if s.wbReturning.contains (64 * d + b) then
    .next ((({ s with wbReturning := s.wbReturning.filter (fun x => x != 64 * d + b) }.zeroMem (inBank d b)).put (R.WB_OWN d b)
      F.WB_OWN_OWNER 0).stopTimer (clearKey 3 d b))
  else .next s

-- SIEVE

/-- A bank that has no owner of its own to serve is under test: SIEVEd tests one such bank at a time (R317, R320). -/
def State.sieveTests (s : State) (d : Nat) : Bool :=
  s.flag (R.SIEVE_STATUS d) F.SIEVE_STATUS_BUSY && s.bankOwner d (s.get (R.SIEVE_STATUS d) F.SIEVE_STATUS_BANK) != 5

/-- SIEVE_STATUS shows bank b under test. -/
def State.sieveShow (s : State) (d b : Nat) : State :=
  (s.put (R.SIEVE_STATUS d) F.SIEVE_STATUS_BUSY 1).put (R.SIEVE_STATUS d) F.SIEVE_STATUS_BANK b

/-- SIEVE_BORROW: SIEVEd takes a lent bank that has been idle for LEND_IDLE, or a NONE bank (R317, R320). -/
def execSieveBorrow (d : Fin 4) (b : Fin 42) (s : State) : Out :=
  let o := s.bankOwner d b
  let free := s.flag (R.SIEVE_CTRL d) F.SIEVE_CTRL_EN && !s.sieveTests d && s.bankExists d b && !s.bankRetired d b && !s.bankPending d b
    && !s.bit R.MATRIX_MRST_BUSY (mSIEVE d)
  let idle := decide (1000 * (s.get (R.SIEVE_CTRL d) F.SIEVE_CTRL_LEND_IDLE) ≤ s.clk - look (fun _ => 0) s.wbLast (64 * d + b))
  let lent := (o == 1 || o == 2 || o == 3 || o == 4 || o == 6) && s.flag (R.WB_OWN d b) F.WB_OWN_LEND && idle
  if free && (lent || o == 0) then
    let s1 := s.sieveShow d b
    .next (if o = 0 then s1 else s1.put (R.WB_OWN d b) F.WB_OWN_ON_LOAN 1)
  else .next s

/-- A word that fails the march (R321). -/
def State.sieveFault (s : State) (d b w : Nat) : State :=
  ((((s.addCtr ⟨R.SIEVE_FAULT_LO d, R.SIEVE_FAULT_HI d⟩ 1).put (R.SIEVE_FAULT_LAST d) F.SIEVE_FAULT_LAST_VALID 1).put
    (R.SIEVE_FAULT_LAST d) F.SIEVE_FAULT_LAST_BANK b).put (R.SIEVE_FAULT_LAST d) F.SIEVE_FAULT_LAST_WORD w).event (evDie d) srcSIEVE
    (BitVec.ofNat 32 b)

/-- A non-transparent march leaves in group g of bank b contents that the spec does not give (R322): a free value. -/
def State.marched (s : State) (d b g : Nat) : State :=
  s.drawn.st (wbBase d b + 512 * g) ((List.range 512).map (fun i => BitVec.ofNat 8 (s.freeNat / 256 ^ i)))

/-- SIEVE_GROUP_STEP: SIEVEd marches one 64-word group of a bank under test, or of a bank it owns; `fails` names the words of
the group that fail (R318, R321, R322). With EN at 0 it tests nothing (Table 13-8). SIEVE_STATUS shows a bank that SIEVEd owns while it
tests no other (notes/assumptions/88.md). -/
def execSieveGroupStep (d : Fin 4) (b : Fin 42) (fails : List (Fin 64)) (s : State) : Out :=
  let own := s.bankExists d b && !s.bankRetired d b && s.bankOwner d b == 5 && !s.bankPending d b
  let mine := s.sieveTests d && s.get (R.SIEVE_STATUS d) F.SIEVE_STATUS_BANK == b.val
  if s.flag (R.SIEVE_CTRL d) F.SIEVE_CTRL_EN && !s.bit R.MATRIX_MRST_BUSY (mSIEVE d) && (own || mine) then
    let g := s.sieveAt d b
    let s0 := if own then (if s.sieveTests d then s.marched d b g else (s.marched d b g).sieveShow d b) else s
    let s1 := fails.foldl (fun t w => t.sieveFault d b (64 * g + w)) s0
    if g + 1 < 512 then done (s1.setSieveAt d b (g + 1))
    else
      let s2 := (s1.setSieveAt d b 0).addCtr ⟨R.SIEVE_PASS_LO d, R.SIEVE_PASS_HI d⟩ 1
      done (if own then s2 else (s2.sieveEnd d b).bankTouched d b)
  else .next s

-- DRAM and BAR2

/-- DRAM_ACCESS: a master's request at byte offset o of the stack of die d (R324, R325, R331). -/
def execDramAccess (m : Fin 19) (d : Fin 4) (o : Fin 17179869184) (op : MemOp) (errs : List (Nat × Ecc)) (s : State) : Out :=
  done ((s.answer .none).access m (.dram d o op errs))

/-- DRAM_PATROL_READ: SIEVEd reads a 64-byte line of the stack; `errs` gives the words of the line in which the check finds an error (R325). -/
def execDramPatrolRead (d : Fin 4) (line : Fin 268435456) (errs : List (Fin 8 × Ecc)) (s : State) : Out :=
  if s.flag (R.SIEVE_CTRL d) F.SIEVE_CTRL_EN && !s.bit R.MATRIX_MRST_BUSY (mSIEVE d) then
    done ((errsFound (.read 64) (64 * line.val) (errs.map (fun e => (64 * line.val + 8 * e.1.val, e.2)))).foldl (fun t e => t.dramEcc d line e.2) s)
  else .next s

/-- BAR2_REQUEST: errs gives the words read in which a check finds an error. -/
def execBar2Request (p : Port) (a : Nat) (op : MemOp) (errs : List (Nat × Ecc)) (s : State) : Out :=
  done (hostCmd p (fun t => t.access p.master (.bar2 p a op errs)) s)

/-- MATRIX_REQUEST: a master issues a request (response = false), or the response to one of its requests at that target returns
(R328 to R331). -/
def execMatrixRequest (m : Fin 19) (t : Fin 11) (write response : Bool) (s : State) : Out :=
  if response then (if s.outAt m t = 0 then .next s else done ((s.mxRespond m t).mxNext m))
  else if s.bit R.MATRIX_MRST_BUSY m then .next s
  else if !matrixPath m t write then done ((s.matrixDeny m t).failAnswer m)
  else .next (s.access m (.req t))

/-- MATRIX_RESET_DONE: the reset of master m ends, with the beats it discarded (R332). -/
def execMatrixResetDone (m : Fin 19) (wrBeats rdBeats : Nat) (s : State) : Out :=
  if s.bit R.MATRIX_MRST_BUSY m then
    let s2 := (((s.mxClear m).put (R.MATRIX_RST_BEATS m) F.MATRIX_RST_BEATS_WR_BEATS (min wrBeats 65535)).put
      (R.MATRIX_RST_BEATS m) F.MATRIX_RST_BEATS_RD_BEATS (min rdBeats 65535)).wr (R.MATRIX_RST_FN m) (BitVec.ofNat 32 s.fn)
    done (s2.ev (matrixSrc m).1 (matrixSrc m).2)
  else .next s

end Sys2Proof.Machine
end

