-- ==== Sys2Proof/Machine/Crypto.lean ====
section
/-!
DEFINITION. The checks over image bytes that the spec names by their standards: CRC-32 of IEEE 802.3 (R31), SHA-384 (R31, R40)
and the ECDSA verification on curve P-384 of FIPS 186-4 (R40). SHA-384 and P-384 are written from FIPS 180-4 and FIPS 186-4,
which R40 names (notes/assumptions/17.md).
-/

namespace Sys2Proof.Machine

-- CRC-32 (R31): reflected polynomial 0xEDB88320

def crc32Bit (c : BitVec 32) : BitVec 32 := if c.getLsbD 0 then (c >>> 1) ^^^ 0xEDB88320 else c >>> 1

def crc32Byte (c : BitVec 32) (b : Byte) : BitVec 32 :=
  let x := c ^^^ b.setWidth 32
  crc32Bit (crc32Bit (crc32Bit (crc32Bit (crc32Bit (crc32Bit (crc32Bit (crc32Bit x)))))))

/-- CRC-32 of a byte string (R31). -/
def crc32 (l : List Byte) : BitVec 32 := (l.foldl crc32Byte 0xFFFFFFFF) ^^^ 0xFFFFFFFF

-- SHA-384

/-- The prime numbers below n, in order. -/
def primesBelow (n : Nat) : List Nat := (List.range n).filter (fun p => decide (2 ≤ p) && (List.range p).all (fun d => decide (d < 2) || p % d != 0))

/-- The largest number not above a given one whose k-th power is at most x, among those that differ from `r` in the low bits only. -/
def rootFrom (k x : Nat) : Nat → Nat → Nat
  | 0, r => r
  | i + 1, r => rootFrom k x i (if (r + 2 ^ i) ^ k ≤ x then r + 2 ^ i else r)

/-- The first 64 bits of the fraction of the k-th root of p: how FIPS 180-4 forms its constants. -/
def rootFraction (k p : Nat) : BitVec 64 := BitVec.ofNat 64 (rootFrom k (p * 2 ^ (64 * k)) 70 0)

/-- The round constants: the cube roots of the first 80 primes. -/
def shaConst : List (BitVec 64) := (primesBelow 410).map (rootFraction 3)

/-- The chaining words, kept as two histories of four words each, latest first: the words that FIPS 180-4 calls a to d, and e to h. -/
structure ShaHist where
  a : List (BitVec 64)
  e : List (BitVec 64)
deriving DecidableEq, Repr

/-- The starting words of SHA-384: the square roots of the ninth to the sixteenth prime. -/
def sha384Start : ShaHist :=
  let r := ((primesBelow 54).drop 8).map (rootFraction 2)
  ⟨r.take 4, r.drop 4⟩

/-- A number from big-endian bytes. -/
def be (l : List Byte) : Nat := l.foldl (fun n b => 256 * n + b.toNat) 0

/-- A number as n big-endian bytes. -/
def toBe : Nat → Nat → List Byte
  | 0, _ => []
  | n + 1, v => toBe n (v / 256) ++ [BitVec.ofNat 8 v]

/-- The padded message: a 1 bit, zeros, and the length in bits as 128 bits. -/
def shaPad (l : List Byte) : List Byte :=
  l ++ [0x80] ++ List.replicate ((239 - l.length % 128) % 128) 0 ++ toBe 16 (8 * l.length)

/-- A string cut into pieces of k bytes, with fuel for the number of pieces. -/
def chunks {α : Type} (k : Nat) : Nat → List α → List (List α)
  | 0, _ => []
  | f + 1, l => if l.isEmpty then [] else l.take k :: chunks k f (l.drop k)

/-- A word turned right by each of some amounts, the results added without carry. -/
def turns (x : BitVec 64) (by_ : List Nat) : BitVec 64 := by_.foldl (fun y n => y ^^^ x.rotateRight n) 0

/-- The word that enters the window of the last 16 message words, latest first. -/
def shaEnter (win : List (BitVec 64)) : BitVec 64 :=
  let old (i : Nat) : BitVec 64 := win.getD (i - 1) 0
  old 16 + (turns (old 15) [1, 8] ^^^ old 15 >>> 7) + old 7 + (turns (old 2) [19, 61] ^^^ old 2 >>> 6)

/-- What one message word, with its constant, puts in front of both histories. -/
def ShaHist.push (s : ShaHist) (kw : BitVec 64) : ShaHist :=
  let at_ (l : List (BitVec 64)) (i : Nat) : BitVec 64 := l.getD i 0
  let pick := at_ s.e 2 ^^^ (at_ s.e 0 &&& (at_ s.e 1 ^^^ at_ s.e 2))
  let most := (at_ s.a 0 &&& at_ s.a 1) ||| (at_ s.a 2 &&& (at_ s.a 0 ||| at_ s.a 1))
  let inn := kw + at_ s.e 3 + turns (at_ s.e 0) [14, 18, 41] + pick
  ⟨(inn + most + turns (at_ s.a 0) [28, 34, 39]) :: s.a.take 3, (inn + at_ s.a 3) :: s.e.take 3⟩

/-- The rounds of a block: one for each constant left, over the window of message words; `left` holds those of the block not used yet. -/
def shaRounds : List (BitVec 64) → List (BitVec 64) → List (BitVec 64) → ShaHist → ShaHist
  | [], _, _, s => s
  | k :: ks, w :: left, win, s => shaRounds ks left (w :: win) (s.push (k + w))
  | k :: ks, [], win, s =>
      let w := shaEnter win
      shaRounds ks [] (w :: win.take 15) (s.push (k + w))

/-- One block of 128 bytes. -/
def shaBlock (s : ShaHist) (block : List Byte) : ShaHist :=
  let t := shaRounds shaConst ((chunks 8 16 block).map (fun c => BitVec.ofNat 64 (be c))) [] s
  ⟨List.zipWith (· + ·) s.a t.a, List.zipWith (· + ·) s.e t.e⟩

/-- SHA-384 of a byte string, 48 bytes. -/
def sha384 (l : List Byte) : List Byte :=
  let m := shaPad l
  let s := (chunks 128 (m.length / 128) m).foldl shaBlock sha384Start
  ((s.a ++ s.e).take 6).flatMap (fun h => toBe 8 h.toNat)

-- P-384

def p384p : Nat := 2 ^ 384 - 2 ^ 128 - 2 ^ 96 + 2 ^ 32 - 1
def p384n : Nat :=
  0xFFFFFFFFFFFFFFFFFFFFFFFFFFFFFFFFFFFFFFFFFFFFFFFFC7634D81F4372DDF581A0DB248B0A77AECEC196ACCC52973
def p384g : Nat × Nat :=
  (0xAA87CA22BE8B05378EB1C71EF320AD746E1D3B628BA79B9859F741E082542A385502F25DBF55296C3A545E3872760AB7,
   0x3617DE4A96262C6F5D9E98BF9292DC29F8F41DBD289A147CE9DA3113B5F0B8C00A60B1CE1D7E819D7A431D7C90EA0E5F)

/-- b to the power e modulo m, with fuel for the bits of e. -/
def powMod (m : Nat) : Nat → Nat → Nat → Nat
  | 0, _, _ => 1 % m
  | f + 1, b, e => powMod m f (b * b % m) (e / 2) * (if e % 2 = 1 then b else 1) % m

/-- The inverse modulo a prime m. -/
def invMod (m b : Nat) : Nat := powMod m 384 b (m - 2)

/-- The sum of two points of the curve; none is the point at infinity. -/
def p384Add (P Q : Option (Nat × Nat)) : Option (Nat × Nat) :=
  match P, Q with
  | none, q => q
  | p, none => p
  | some (x1, y1), some (x2, y2) =>
      if x1 = x2 ∧ (y1 + y2) % p384p = 0 then none
      else
        let l := if x1 = x2 then (3 * x1 * x1 + (p384p - 3)) * invMod p384p (2 * y1 % p384p) % p384p
                 else (y2 + p384p - y1) * invMod p384p ((x2 + p384p - x1) % p384p) % p384p
        let x3 := (l * l + 2 * p384p - x1 - x2) % p384p
        some (x3, (l * (x1 + p384p - x3) + p384p - y1) % p384p)

/-- A multiple of a point, with fuel for the bits of k. -/
def p384Mul : Nat → Nat → Option (Nat × Nat) → Option (Nat × Nat)
  | 0, _, _ => none
  | f + 1, k, P => p384Add (if k % 2 = 1 then P else none) (p384Mul f (k / 2) (p384Add P P))

/-- ECDSA verification on P-384 of a SHA-384 digest, with r and s in range (R40). -/
def ecdsaOK (key : Nat × Nat) (digest r s : Nat) : Bool :=
  if r = 0 ∨ s = 0 ∨ p384n ≤ r ∨ p384n ≤ s then false
  else
    let w := invMod p384n s
    match p384Add (p384Mul 384 (digest * w % p384n) (some p384g)) (p384Mul 384 (r * w % p384n) (some key)) with
    | some (x, _) => x % p384n == r
    | none => false

end Sys2Proof.Machine
end

