-- ==== Sys2Proof/Machine/Msp.lean ====
section
/-!
DEFINITION. Linear multiplex-section protection (R177 to R189, R199, R200, R206).
-/

namespace Sys2Proof.Machine

def mspWtrKey (g k : Nat) : TKey := ⟨.mspWtr, ⟨8 * g + k, 0, 0⟩⟩
def mspExerKey (g k : Nat) : TKey := ⟨.mspExer, ⟨8 * g + k, 0, 0⟩⟩
def mspFopKey (g k w : Nat) : TKey := ⟨.mspFop, ⟨8 * g + k, w, 0⟩⟩

/-- The earliest uptime frame whose start is at least n frames from now. -/
def State.inFrames (s : State) (n : Nat) : Nat := s.up + n + (if s.ns = 0 then 0 else 1)

def State.arch1n (s : State) (g k : Nat) : Bool := s.flag (R.MSP_CFG g k) F.MSP_CFG_ARCH
def State.bidir (s : State) (g k : Nat) : Bool := s.flag (R.MSP_CFG g k) F.MSP_CFG_DIR
def State.mspRevert (s : State) (g k : Nat) : Bool := s.arch1n g k || s.flag (R.MSP_CFG g k) F.MSP_CFG_REVERT

/-- A change of an RO field of MSP_STATUS that counts one event on RGg.MSP (R188, R206). -/
def State.mspField (s : State) (g k : Nat) (f : Fld) (v : Nat) : State :=
  if s.get (R.MSP_STATUS g k) f = v then s else (s.put (R.MSP_STATUS g k) f v).ev (evRegion g) srcMSP

/-- A change of SEL_CHAN counts in MSP_SW too (Table 08-16). -/
def State.mspSelect (s : State) (g k c : Nat) : State :=
  if s.get (R.MSP_STATUS g k) F.MSP_STATUS_SEL_CHAN = c then s
  else (s.mspField g k F.MSP_STATUS_SEL_CHAN c).addCtr ⟨R.MSP_SW_LO g k, R.MSP_SW_HI g k⟩ 1

-- Requests (Table 08-1, R183, R184)

/-- Rank of a K1 request code with its channel. -/
def k1Rank (code chan : Nat) : Nat :=
  match code with
  | 15 => 1 | 14 => 3 | 13 => if chan = 0 then 2 else 4 | 12 => 5 | 11 => 6 | 10 => 7 | 8 => 8 | 6 => 9 | 4 => 10 | 2 => 11
  | 1 => 12 | _ => 13

/-- The first of two requests, by rank and then channel; the left one when they are equal. -/
def k1First (a b : Nat × Nat) : Nat × Nat :=
  if k1Rank b.1 b.2 < k1Rank a.1 a.2 ∨ (k1Rank b.1 b.2 = k1Rank a.1 a.2 ∧ b.2 < a.2) then b else a

def State.lockedOut (s : State) (g k c : Nat) : Bool := s.bit (R.MSP_LOCKW g k) c

/-- The request of the held external command (Table 08-13). -/
def State.extReq (s : State) (g k : Nat) : List (Nat × Nat) :=
  let c := s.get (R.MSP_STATUS g k) F.MSP_STATUS_EXT_CHAN
  let on (q : Nat × Nat) : List (Nat × Nat) := if s.lockedOut g k c ∧ c ≠ 0 then [] else [q]
  match s.get (R.MSP_STATUS g k) F.MSP_STATUS_EXT_CMD with
  | 1 => [(15, 0)]
  | 2 => on (14, c)
  | 3 => [(14, 0)]
  | 4 => on (8, c)
  | 5 => [(8, 0)]
  | 6 => on (4, c)
  | _ => []

/-- Channel c is high priority; in 1+1 every working request is (R183). -/
def State.highPrio (s : State) (g k c : Nat) : Bool := !s.arch1n g k || s.bit (R.MSP_PRIO g k) c

/-- Requests of conditions after hold-off (R183). -/
def State.condReqs (s : State) (g k : Nat) : List (Nat × Nat) :=
  (List.range (s.mspN g k + 1)).flatMap (fun c =>
    if c ≠ 0 ∧ s.lockedOut g k c then []
    else
      (if s.bit (R.MSP_COND g k) c then [(if c = 0 ∨ s.highPrio g k c then 13 else 12, c)] else [])
        ++ (if s.bit (R.MSP_COND g k) (16 + c) then [(if c = 0 ∨ s.highPrio g k c then 11 else 10, c)] else []))

def State.anyFop (s : State) (g k : Nat) : Bool :=
  s.flag (R.MSP_STATUS g k) F.MSP_STATUS_FOP_PM || s.flag (R.MSP_STATUS g k) F.MSP_STATUS_FOP_CM
    || s.flag (R.MSP_STATUS g k) F.MSP_STATUS_FOP_IV

def State.k1Rx (s : State) (g k : Nat) : Nat := s.get (R.LU_SEC_KRX (s.mspLink g k 0)) F.LU_SEC_KRX_K1_ACC
def State.k2Rx (s : State) (g k : Nat) : Nat := s.get (R.LU_SEC_KRX (s.mspLink g k 0)) F.LU_SEC_KRX_K2_ACC

/-- The remote request, where it counts (R184). -/
def State.remoteReq (s : State) (g k : Nat) : Option (Nat × Nat) :=
  if s.bidir g k && !s.anyFop g k && (s.k1Rx g k / 16 != 2) then some (s.k1Rx g k / 16, s.k1Rx g k % 16) else none

/-- A request of rank 1 to 8 is present, local or a remote one that wins (R187). -/
def State.strongReq (s : State) (g k : Nat) : Bool :=
  (s.extReq g k ++ s.condReqs g k ++ (s.remoteReq g k).toList).any (fun q => decide (k1Rank q.1 q.2 ≤ 8))

-- Leaving a switch (R187)

/-- The conditions that are requests: a working channel that is locked out raises none (R183). -/
def State.mspReqs (s : State) (g k : Nat) : Word :=
  let out := s.rd (R.MSP_LOCKW g k) &&& 0x7FFE
  s.rd (R.MSP_COND g k) &&& ~~~(out ||| out <<< 16)

/-- The SF or SD request of channel c has ended since the last controller step: its condition has ended, or it has been locked out. -/
def State.endedReq (s : State) (g k c : Nat) : Bool :=
  let was := (s.mspSt g k).prev
  let now := s.mspReqs g k
  (was.getLsbD c || was.getLsbD (16 + c)) && !now.getLsbD c && !now.getLsbD (16 + c)

def State.mspLeave (s : State) (g k : Nat) : State :=
  let m := s.mspSt g k
  let sel := s.get (R.MSP_STATUS g k) F.MSP_STATUS_SEL_CHAN
  let was := s.get (R.MSP_REQ g k) F.MSP_REQ_LOCAL_REQ
  if s.strongReq g k then (s.stopTimer (mspWtrKey g k)).setMspSt g k { m with wtr := 0, dnr := false }
  else if sel ≠ 0 ∧ s.endedReq g k sel then
    if s.mspRevert g k then
      (if s.get (R.MSP_CFG g k) F.MSP_CFG_WTR = 0 then s
       else (s.startTimer (mspWtrKey g k) (msFrames 10000 * s.get (R.MSP_CFG g k) F.MSP_CFG_WTR)).setMspSt g k { m with wtr := sel })
    else s.setMspSt g k { m with dnr := true }
  else if !s.mspRevert g k ∧ sel ≠ 0 ∧ (was = 14 ∨ was = 8 ∨ (was = 13 ∧ s.get (R.MSP_REQ g k) F.MSP_REQ_LOCAL_CHAN = 0)) then
    s.setMspSt g k { m with dnr := true }
  else if sel = 0 then s.setMspSt g k { m with dnr := false }
  else s

/-- The local request (R183). -/
def State.localReq (s : State) (g k : Nat) : Nat × Nat :=
  let m := s.mspSt g k
  (s.extReq g k ++ s.condReqs g k ++ (if m.wtr ≠ 0 then [(6, m.wtr)] else []) ++ (if m.dnr then [(1, 1)] else [])).foldl
    k1First (0, 0)

/-- The winning request, and whether it is the remote one (R184). -/
def winReq (loc : Nat × Nat) (rem : Option (Nat × Nat)) : (Nat × Nat) × Bool :=
  match rem with
  | some r => if k1First loc r = loc then (loc, false) else (r, true)
  | none => (loc, false)

-- External commands (R199, R200)

/-- Ends the held command. -/
def State.mspUnhold (s : State) (g k : Nat) : State :=
  ((s.put (R.MSP_STATUS g k) F.MSP_STATUS_EXT_CMD 0).put (R.MSP_STATUS g k) F.MSP_STATUS_EXT_CHAN 0).stopTimer (mspExerKey g k)

/-- MS and EXER are dropped when a request of higher rank is present (R200). -/
def State.mspDrop (s : State) (g k : Nat) (win : Nat × Nat) : State :=
  let cmd := s.get (R.MSP_STATUS g k) F.MSP_STATUS_EXT_CMD
  let rank := if cmd = 4 ∨ cmd = 5 then 8 else if cmd = 6 then 10 else 0
  if k1Rank win.1 win.2 < rank then (s.mspUnhold g k).put (R.MSP_STATUS g k) F.MSP_STATUS_CMD_DROPPED 1 else s

/-- A committed SEL_CMD for channel c of a group (Table 08-13). -/
def State.mspCommand (s : State) (g k c cmd : Nat) : State :=
  if cmd = 0 then (let t := s.mspUnhold g k; if c = 0 then t else t.clrBit (R.MSP_LOCKW g k) c)
  else if cmd = 7 then s.setBit (R.MSP_LOCKW g k) c
  else
    let s1 := ((s.mspUnhold g k).put (R.MSP_STATUS g k) F.MSP_STATUS_EXT_CMD cmd).put (R.MSP_STATUS g k) F.MSP_STATUS_EXT_CHAN
      (if cmd = 1 ∨ cmd = 3 ∨ cmd = 5 then 0 else c)
    if cmd = 6 then
      ((s1.put (R.MSP_STATUS g k) F.MSP_STATUS_EXER_RESULT 0).startTimer (mspExerKey g k) (msFrames 1000)).setMspSt g k
        { s1.mspSt g k with exerOk := false }
    else s1

-- Protocol defects (Table 08-5)

/-- Accepted K1 is invalid for the group. -/
def State.k1Invalid (s : State) (g k : Nat) : Bool :=
  let code := s.k1Rx g k / 16
  let c := s.k1Rx g k % 16
  code == 9 || code == 7 || code == 5 || code == 3 || (decide (s.mspN g k < c) && c != 15) || (c == 15 && !s.arch1n g k)

def State.pmRaw (s : State) (g k : Nat) : Bool :=
  let k2 := s.k2Rx g k
  (k2 / 8 % 2 != (if s.arch1n g k then 1 else 0)) || (k2 % 8 == (if s.bidir g k then 4 else 5))

def State.cmRaw (s : State) (g k : Nat) : Bool :=
  let c := s.get (R.MSP_APS g k) F.MSP_APS_K1_TX % 16
  let r := s.k2Rx g k / 16
  s.bidir g k && !(r == c || (s.arch1n g k && c == 0 && r == 15))

def fopFld (w : Nat) : Fld := if w = 0 then F.MSP_STATUS_FOP_PM else F.MSP_STATUS_FOP_CM

/-- The 50 ms of a defect run while its condition differs from it. -/
def State.fopWatch (s : State) (g k w : Nat) (raw : Bool) : State :=
  if raw = s.flag (R.MSP_STATUS g k) (fopFld w) then s.stopTimer (mspFopKey g k w)
  else if s.timerOn (mspFopKey g k w) then s
  else s.startTimer (mspFopKey g k w) (msFrames 50)

def State.mspFops (s : State) (g k : Nat) : State :=
  let s1 := (s.fopWatch g k 0 (s.pmRaw g k)).fopWatch g k 1 (s.cmRaw g k)
  let s2 := s1.mspField g k F.MSP_STATUS_FOP_IV (if s1.k1Invalid g k then 1 else 0)
  s2.put (R.MSP_STATUS g k) F.MSP_STATUS_UNI_FALLBACK (if s2.bidir g k && s2.anyFop g k then 1 else 0)

-- The controller step (R185, Table 08-4)

/-- K1 to send, bridge and selector channel. -/
def State.mspOutput (s : State) (g k : Nat) (loc : Nat × Nat) (win : Nat × Nat) (remote : Bool) : (Nat × Nat) × Nat × Nat :=
  let uni := !s.bidir g k || s.anyFop g k
  let rk (q : Nat × Nat) : Nat := k1Rank q.1 q.2
  let rx : Nat × Nat := if s.flag (R.MSP_STATUS g k) F.MSP_STATUS_FOP_IV then (0, 0) else (s.k1Rx g k / 16, s.k1Rx g k % 16)
  let w : Nat × Nat := if uni then loc else win
  let k1 : Nat × Nat := if uni then loc else if remote ∧ rk win ≤ 10 then (2, win.2) else win
  if s.arch1n g k then
    let bridge :=
      if uni then (if rk rx ≤ 9 ∧ 1 ≤ rx.2 ∧ rx.2 ≤ 14 then rx.2 else 0)
      else if 1 ≤ win.2 ∧ win.2 ≤ 14 ∧ rk win ≤ 9 ∧ (remote ∨ rx = (2, win.2)) then win.2 else 0
    let sel := if 1 ≤ w.2 ∧ w.2 ≤ 14 ∧ rk w ≤ 9 ∧ s.k2Rx g k / 16 = w.2 then w.2 else 0
    (k1, bridge, sel)
  else (k1, 1, if rk w ≤ 9 ∨ rk w = 12 then w.2 else 0)

/-- K2 to send (Table 08-2), before R121. -/
def State.mspK2 (s : State) (g k : Nat) (k1 : Nat × Nat) (bridge : Nat) : Nat :=
  let top := if !s.arch1n g k then k1.2 else if bridge ≠ 0 then bridge
    else if s.flag (R.MSP_CFG g k) F.MSP_CFG_EXTRA then 15 else 0
  top * 16 + (if s.arch1n g k then 8 else 0) + (if s.bidir g k then 5 else 4)

/-- What is left of the group's timers (Table 08-16). -/
def State.mspTimers (s : State) (g k : Nat) : State :=
  let holds := (List.range (s.mspN g k + 1)).flatMap (fun c => [s.timerLeft (mspHoldKey g k c 0), s.timerLeft (mspHoldKey g k c 1)])
  (s.put (R.MSP_TIMER g k) F.MSP_TIMER_HOLD_LEFT (cdiv (holds.foldl max 0) 800)).put (R.MSP_TIMER g k) F.MSP_TIMER_WTR_LEFT
    (cdiv (s.timerLeft (mspWtrKey g k)) 8000)

def State.mspStep (s : State) (g k : Nat) : State :=
  let s1 := ((s.mspConds g k).mspFops g k).mspLeave g k
  let w0 := winReq (s1.localReq g k) (s1.remoteReq g k)
  let s2 := s1.mspDrop g k w0.1
  let loc := s2.localReq g k
  let rem := s2.remoteReq g k
  let (win, remote) := winReq loc rem
  let (k1, bridge, sel) := s2.mspOutput g k loc win remote
  let k2 := s2.mspK2 g k k1 bridge
  let r := (s2.k1Rx g k / 16, s2.k1Rx g k % 16)
  let s3 := s2.wr (R.MSP_REQ g k) (BitVec.ofNat 32 (2 ^ 28 * loc.1 + 2 ^ 24 * loc.2 + 2 ^ 20 * r.1 + 2 ^ 16 * r.2 + 2 ^ 12 * win.1
    + 2 ^ 8 * win.2))
  let s4 := s3.wr (R.MSP_APS g k) (BitVec.ofNat 32 (2 ^ 24 * (k1.1 * 16 + k1.2) + 2 ^ 16 * k2 + 2 ^ 8 * (s3.k1Rx g k) + s3.k2Rx g k))
  let exer := s4.get (R.MSP_STATUS g k) F.MSP_STATUS_EXT_CMD = 6 ∧
    s4.k1Rx g k = 2 * 16 + s4.get (R.MSP_STATUS g k) F.MSP_STATUS_EXT_CHAN
  let s5 := s4.setMspSt g k { s4.mspSt g k with
    prev := s4.mspReqs g k, exerOk := (s4.mspSt g k).exerOk || exer }
  ((s5.mspField g k F.MSP_STATUS_BRIDGE_CHAN bridge).mspSelect g k sel).mspTimers g k

/-- Every ACTIVE group, at a frame boundary (R185). -/
def State.mspStepAll (s : State) : State :=
  (List.range 64).foldl (fun t i => if t.mspState (i / 8) (i % 8) = 2 then t.mspStep (i / 8) (i % 8) else t) s

-- Group states (R189, Table 08-6)

/-- Ends a group: selector on working, bridge released, nothing held. -/
def State.mspFree (s : State) (g k : Nat) : State :=
  let s1 := ((((s.mspSelect g k 0).mspField g k F.MSP_STATUS_BRIDGE_CHAN 0).mspField g k F.MSP_STATUS_FOP_PM 0).mspField g k
    F.MSP_STATUS_FOP_CM 0).mspField g k F.MSP_STATUS_FOP_IV 0
  let s2 := ((((s1.mspUnhold g k).put (R.MSP_STATUS g k) F.MSP_STATUS_UNI_FALLBACK 0).wr (R.MSP_LOCKW g k) 0).wr (R.MSP_COND g k)
    0).wr (R.MSP_REQ g k) 0
  let s3 := (((s2.wr (R.MSP_APS g k) 0).wr (R.MSP_TIMER g k) 0).stopTimer (mspWtrKey g k)).setMspSt g k emptyMsp
  let s4 := [0, 1].foldl (fun t w => t.stopTimer (mspFopKey g k w)) s3
  let s5 := (List.range 15).foldl (fun t c => (t.stopTimer (mspHoldKey g k c 0)).stopTimer (mspHoldKey g k c 1)) s4
  let s6 := (List.range (s5.mspN g k + 1)).foldl (fun t c => t.put (R.LU_SEC_KTX (t.mspLink g k c)) F.LU_SEC_KTX_MSP 0) s5
  s6.mspField g k F.MSP_STATUS_STATE 0

/-- A full re-bench deletes every group (R48, Table 08-6). -/
def State.mspFreeAll (s : State) : State :=
  (List.range 64).foldl (fun t i => if t.mspState (i / 8) (i % 8) ≠ 0 then t.mspFree (i / 8) (i % 8) else t) s

/-- The refusal of an ACTIVATE (Table 08-7), 0 when every check passes. -/
def State.mspCode (s : State) (g k : Nat) : Nat :=
  let n := s.mspN g k
  let a := s.arch1n g k
  let links := (List.range (n + 1)).map (fun c => s.mspLink g k c)
  let pers := links.map (fun m => s.persOf m)
  if n = 0 ∨ 14 < n ∨ (1 < n ∧ !a) ∨ (a ∧ s.flag (R.MSP_CFG g k) F.MSP_CFG_REVERT) ∨ (!a ∧ s.flag (R.MSP_CFG g k) F.MSP_CFG_EXTRA)
      ∨ 100 < s.get (R.MSP_CFG g k) F.MSP_CFG_HOLDOFF ∨ ¬links.Nodup then 1
  else if s.mspState g k ≠ 0 then 2
  else if pers.any (fun x => x == 0 || decide (8 < x) || x != s.persOf (s.mspLink g k 0)) then 3
  else if links.any (fun m => (s.mspOf [1, 2, 3] m).isSome) then 4
  else if links.any (fun m => s.retiredLU m) then 5
  else if s.benchClaims g then 6
  else 0

def State.mspSetCode (s : State) (g k c : Nat) : State := s.put (R.MSP_STATUS g k) F.MSP_STATUS_CODE c

def State.mspActivate (s : State) (g k : Nat) : State :=
  let c := s.mspCode g k
  let s1 := s.mspSetCode g k c
  if c ≠ 0 then s1
  else (s1.setMspSt g k { emptyMsp with eff := s1.inFrames 2 }).mspField g k F.MSP_STATUS_STATE 1

/-- A live transaction holds a SEL_CMD for the group (Table 08-6). -/
def State.mspClaimed (s : State) (g k : Nat) : Bool :=
  (List.range 8).any (fun i => s.txnLive i && (s.slot i).recs.any (fun r =>
    r.typ == tySelCmd && taKind r.eg == 0 && luRegion (taLink r.eg) == g && (s.mspChannel g k (taLink r.eg)).isSome))

def State.mspDelete (s : State) (g k : Nat) : State :=
  if (s.mspState g k = 1 ∨ s.mspState g k = 2) ∧ !s.mspClaimed g k then
    ((s.mspSetCode g k 0).setMspSt g k { s.mspSt g k with eff := s.inFrames 2 }).mspField g k F.MSP_STATUS_STATE 3
  else s.mspSetCode g k 2

/-- The effect frame begins (Table 08-6). -/
def State.mspEffect (s : State) (g k : Nat) : State :=
  if s.mspState g k = 3 then s.mspFree g k
  else
    let s1 := (List.range (s.mspN g k + 1)).foldl (fun t c => t.put (R.LU_SEC_KTX (t.mspLink g k c)) F.LU_SEC_KTX_MSP 1) s
    let s2 := (((s1.mspUnhold g k).wr (R.MSP_LOCKW g k) 0).put (R.MSP_STATUS g k) F.MSP_STATUS_EXER_RESULT 0).setMspSt g k { emptyMsp with act := true }
    (s2.mspField g k F.MSP_STATUS_STATE 2).mspStep g k

-- Commands

/-- MSP_ACTIVATE: GO with OP = 1. -/
def execMspActivate (p : Port) (g k : Fin 8) (s : State) : Out :=
  done (hostReg p (.mspActivate p g k) (fun t => (t.put (R.MSP_CMD g k) F.MSP_CMD_OP 1).mspActivate g k) s)

/-- MSP_DELETE: GO with OP = 2. -/
def execMspDelete (p : Port) (g k : Fin 8) (s : State) : Out :=
  done (hostReg p (.mspDelete p g k) (fun t => (t.put (R.MSP_CMD g k) F.MSP_CMD_OP 2).mspDelete g k) s)

/-- MSP_OP_INVALID: GO with OP = 0, or with OP = 3, refused with FIELD (Table 08-7). -/
def execMspOpInvalid (p : Port) (g k : Fin 8) (op3 : Bool) (s : State) : Out :=
  .next (hostReg p (.mspOpInvalid p g k op3) (fun t => (t.put (R.MSP_CMD g k) F.MSP_CMD_OP (if op3 then 3 else 0)).mspSetCode g k 1) s)

/-- MSP_EFFECT_FRAME: the effect frame of an ACTIVATE or a DELETE begins. -/
def execMspEffectFrame (g k : Fin 8) (s : State) : Out :=
  if (s.mspState g k = 1 ∨ s.mspState g k = 3) ∧ s.fn % 4 = 0 ∧ s.ns = 0 ∧ (s.mspSt g k).eff ≤ s.up then done (s.mspEffect g k) else .next s

/-- A write of a configuration register: 0 CFG, 1 CHAN0, 2 CHAN1, 3 PRIO (R189). -/
def State.mspConfig (s : State) (g k : Nat) (which : Nat) (v : Word) : State :=
  if s.mspState g k ≠ 0 then s.put (R.MSP_STATUS g k) F.MSP_STATUS_WR_REJ 1
  else
    let r := match which with
      | 0 => R.MSP_CFG g k
      | 1 => R.MSP_CHAN0 g k
      | 2 => R.MSP_CHAN1 g k
      | _ => R.MSP_PRIO g k
    s.wr r (v &&& accMask r (fun a => a == .rw))

/-- MSP_CONFIG_WRITE. -/
def execMspConfigWrite (p : Port) (g k : Fin 8) (which : Fin 4) (v : Word) (s : State) : Out :=
  .next (hostReg p (.mspConfigWrite p g k which v) (fun t => t.mspConfig g k which v) s)

/-- MSP_HOLDOFF_EXPIRE: a condition of channel c has held for HOLDOFF (R182). -/
def execMspHoldoffExpire (g k : Fin 8) (c : Fin 15) (sd : Bool) (s : State) : Out :=
  let key := mspHoldKey g k c (if sd then 1 else 0)
  if s.timerDone key then .next ((s.stopTimer key).setBit (R.MSP_COND g k) ((if sd then 16 else 0) + c)) else .next s

/-- MSP_WTR_EXPIRE: wait-to-restore ends with NR (R187). -/
def execMspWtrExpire (g k : Fin 8) (s : State) : Out :=
  if s.timerDone (mspWtrKey g k) then
    .next ((s.stopTimer (mspWtrKey g k)).setMspSt g k { s.mspSt g k with wtr := 0 })
  else .next s

/-- MSP_EXER_END: an exercise ends 1 s after it took effect (R200). -/
def execMspExerEnd (g k : Fin 8) (s : State) : Out :=
  if s.timerDone (mspExerKey g k) then
    .next ((s.mspUnhold g k).put (R.MSP_STATUS g k) F.MSP_STATUS_EXER_RESULT (if (s.mspSt g k).exerOk then 1 else 2))
  else .next s

/-- FOP_TIMER_EXPIRE: the condition of FOP_PM (false) or FOP_CM (true) has been otherwise for 50 ms (R188). -/
def execFopTimerExpire (g k : Fin 8) (cm : Bool) (s : State) : Out :=
  let w := if cm then 1 else 0
  if s.timerDone (mspFopKey g k w) then
    let s1 := (s.stopTimer (mspFopKey g k w)).mspField g k (fopFld w) (if s.flag (R.MSP_STATUS g k) (fopFld w) then 0 else 1)
    done (s1.put (R.MSP_STATUS g k) F.MSP_STATUS_UNI_FALLBACK (if s1.bidir g k && s1.anyFop g k then 1 else 0))
  else .next s

end Sys2Proof.Machine
end

