-- ==== Sys2Proof/Machine/GroupOps.lean ====
section
/-!
DEFINITION. Virtual concatenation groups as they stand: headers, members, the groups that run (R159, R174), and the defects of a member
that its path suspends (R165).
-/

namespace Sys2Proof.Machine

-- Groups

def freeGrp : Grp := ⟨0, 0, 0, [], 0, 0, false, false, false, (0, 0), false, none, 0, 0, none, false, none, [], [], 0, []⟩
def emptyMem : GrpMem := ⟨none, 0, none, (0, 0), 0, false, false, false, 0, (0, 0), 0, 5, false, [], 0, 0, 0, false, 0, false⟩

def State.grp (s : State) (x : Nat) : Grp := look (fun _ => freeGrp) s.grps x

def Grp.mode (g : Grp) : Nat := fget g.cfg0 F.GRP_CFG0_MODE
def Grp.typ (g : Grp) : Nat := fget g.cfg0 F.GRP_CFG0_TYPE
def Grp.lcas (g : Grp) : Bool := fget g.cfg0 F.GRP_CFG0_LCAS == 1
def Grp.x (g : Grp) : Nat := fget g.cfg0 F.GRP_CFG0_X
/-- F_D, in frames (R170). -/
def Grp.fd (g : Grp) : Nat := 8 * fget g.cfg0 F.GRP_CFG0_DMAX
def Grp.member (g : Grp) (i : Nat) : GrpMem := g.mem.getD i emptyMem
def Grp.setMem (g : Grp) (i : Nat) (f : GrpMem → GrpMem) : Grp := { g with mem := g.mem.modify i f }

def grpDie (x : Nat) : Nat := x / 1024

def memAu3 (w : Word) : Bool := w.toNat.testBit 24
def memTA (w : Word) : TA := w.setWidth 24

/-- What GRP_CHANGED watches (Table 07-14). -/
def Grp.visible (g : Grp) : List Nat :=
  let n (b : Bool) : Nat := if b then 1 else 0
  [g.st, n g.failed, n g.loa, n g.gidm, n g.aligned, g.carrying]
    ++ g.mem.flatMap (fun m => [n m.vlom, n m.sqm, n m.loa, m.sink, m.src])

/-- Nothing that GRP_CHANGED watches differs; a member that one of the two lacks has no defect and is IDLE. -/
def sameVisible (g h : Grp) : Bool :=
  (List.range (max g.visible.length h.visible.length)).all (fun i => g.visible.getD i 0 == h.visible.getD i 0)

/-- Group number x has gone from g to h: a change that GRP_CHANGED watches sets its bit (R176). -/
def State.grpMark (s : State) (x : Nat) (g h : Grp) : State :=
  let d := grpDie x
  if sameVisible g h then s
  else
    let s1 := s.setBit (R.GRP_CHANGED d (x % 1024 / 32)) (x % 32)
    { s1 with grpDirty := if s1.grpDirty.contains d then s1.grpDirty else d :: s1.grpDirty }

/-- Puts a group. -/
def State.setGrp (s : State) (x : Nat) (g : Grp) : State :=
  { s with grps := store id (fun _ => freeGrp) s.grps x g }.grpMark x (s.grp x) g

/-- The group of number x that was deleted while ACTIVE and whose deletion has yet to take effect (R174). -/
def State.departed (s : State) (x : Nat) : Option Grp := (s.grpGone.find? (fun e => e.1 == x && e.2.2.st == 3)).map (fun e => e.2.2)

/-- Group x as it runs: the deleted one until its deletion takes effect, or the one that is defined. -/
def State.runGrp (s : State) (x : Nat) : Grp := (s.departed x).getD (s.grp x)

def State.setRun (s : State) (x : Nat) (g : Grp) : State :=
  match s.departed x with
  | some h => { s with grpGone := s.grpGone.map (fun (e : Nat × Nat × Grp) => if e.1 = x ∧ e.2.2.st = 3 then (e.1, e.2.1, g) else e) }.grpMark x h g
  | none => s.setGrp x g

/-- The groups that run. -/
def State.running (s : State) : List (Nat × Grp) :=
  s.grps.filter (fun e => e.2.st == 3) ++ (s.grpGone.filter (fun e => e.2.2.st == 3)).map (fun e => (e.1, e.2.2))

/-- A member whose defects are cleared and not evaluated: its multiframe and its SQ are to be found anew. -/
def GrpMem.cleared (m : GrpMem) : GrpMem :=
  { m with mfi := none, seq := (0, 0), held := 0, vlom := false, sqm := false, loa := false, loaOk := 0, sqr := (0, 0), gids := [] }

/-- The members at ingress tributary t lose their defects. -/
def State.memClear (s : State) (a3 : Bool) (t : TA) : State :=
  let w := some (BitVec.ofNat 32 (egName a3 t))
  (s.running.filter (fun e => e.2.mem.any (fun m => m.ing == w))).foldl (fun u e =>
    u.setRun e.1 { e.2 with mem := e.2.mem.map (fun m => if m.ing = w then m.cleared else m) }) s

end Sys2Proof.Machine
end

