-- ==== Sys2Proof/Machine/PmOps.lean ====
section
/-!
DEFINITION. What line links and paths deliver to performance monitoring during a second (R149, R263, R264, Table 11-1).
-/

namespace Sys2Proof.Machine

/-- The name of an entity: LAYER, AU3 bit and TA (R263). -/
def pmKey (layer : Nat) (a3 : Bool) (t : TA) : Nat := 2 ^ 25 * layer + egName a3 t

def pmLayer (k : Nat) : Nat := k / 2 ^ 25
def pmTA (k : Nat) : TA := BitVec.ofNat 24 k
def pmAu3 (k : Nat) : Bool := k.testBit 24
def pmLink (k : Nat) : Nat := taLink (pmTA k)

def State.pmEnt (s : State) (k : Nat) : Option PmEnt := (s.pm.find? (fun e => e.1 == k)).map (fun e => e.2)

/-- Changes the entity if it is binned. -/
def State.pmUpd (s : State) (k : Nat) (f : PmEnt → PmEnt) : State :=
  { s with pm := s.pm.map (fun e => if e.1 = k then (e.1, f e.2) else e) }

def PmEnt.updNow (e : PmEnt) (f : PmSec → PmSec) : PmEnt := { e with now := f e.now }

/-- An errored block, with its bit errors or failed blocks (near end). -/
def State.pmNear (s : State) (k blocks cv : Nat) : State :=
  s.pmUpd k (fun e => e.updNow (fun a => { a with ne := a.ne + blocks, cv := a.cv + cv }))

/-- A far-end errored block; none is counted in a near-end defect second (R264). -/
def State.pmFar (s : State) (k : Nat) : State := s.pmUpd k (fun e => e.updNow (fun a => { a with fe := a.fe + 1 }))

/-- A near-end defect is present (R264). -/
def State.pmNeDef (s : State) (k : Nat) : State := s.pmUpd k (fun e => e.updNow (fun a => { a with neDef := true }))

/-- A far-end defect is present. -/
def State.pmFeDef (s : State) (k : Nat) : State := s.pmUpd k (fun e => e.updNow (fun a => { a with feDef := true }))

/-- A justification of the path: 0 detected positive, 1 detected negative, 2 generated positive, 3 generated negative. -/
def State.pmPj (s : State) (k i : Nat) : State :=
  s.pmUpd k (fun e => e.updNow (fun a =>
    match i with
    | 0 => { a with pjDetInc := a.pjDetInc + 1 }
    | 1 => { a with pjDetDec := a.pjDetDec + 1 }
    | 2 => { a with pjGenInc := a.pjGenInc + 1 }
    | _ => { a with pjGenDec := a.pjGenDec + 1 }))

def secKey (n : Nat) : Nat := pmKey 1 false (linkTA n)
def msKey (n : Nat) : Nat := pmKey 2 false (linkTA n)

-- Slots (R270, R272)

/-- Slots of the PMHIST partition of die d (R272). -/
def State.pmCap (s : State) (d : Nat) : Nat := min 262143 ((s.partsOf d).pmhist * unitBytes / 6656)

/-- Entities binned on die d. -/
def State.pmOn (s : State) (d : Nat) : List (Nat × PmEnt) := s.pm.filter (fun e => luDie (pmLink e.1) == d)

/-- PM_CAP and PM_USED of die d. -/
def State.pmShow (s : State) (d : Nat) : State :=
  (s.put (R.PM_CAP d) F.PM_CAP_SLOTS (s.pmCap d)).put (R.PM_USED d) F.PM_USED_SLOTS (s.pmOn d).length

/-- The lowest free slot of die d (R272). -/
def State.pmFreeSlot (s : State) (d : Nat) : Option Nat :=
  (List.range (min (s.pmCap d) ((s.pmOn d).length + 1))).find? (fun i => !((s.pmOn d).any (fun e => e.2.slot == i)))

/-- BAR2 address of slot i of die d. -/
def State.pmSlotAt (s : State) (d i : Nat) : Nat := dramBase d + s.partStart d 3 + 6656 * i

/-- Writes every record of a slot with KIND = 3 (R270). -/
def State.pmEmptySlot (s : State) (d i : Nat) : State :=
  let a := s.pmSlotAt d i
  (List.range 104).foldl (fun t r => t.stb (a + 64 * r + 3) 0xC0)
    (s.zeroMem (fun x => decide (a ≤ x) && decide (x < a + 6656)))

def noSec : PmSec := ⟨0, 0, 0, 0, 0, 0, 0, false, false⟩
def emptyBin (suspect : Bool) : PmBin := ⟨0, 0, 0, 0, 0, 0, 0, 0, 0, 0, 0, 0, 0, suspect, []⟩

/-- The present second belongs to a quarter after the one whose bins are in progress, which still wait for their last seconds (R269). -/
def State.pmAhead (s : State) : Bool := s.tbSec / 900 != s.pmQ

/-- Bins an entity: its bins in progress, and those of the present second, are SUSPECT, since it was enabled after they began (R268). -/
def State.pmBind (s : State) (k i : Nat) (cfg : Word) : State :=
  let d := luDie (pmLink k)
  let s1 := s.pmEmptySlot d i
  State.pmShow { s1 with pm := s1.pm ++ [(k, PmEnt.mk i cfg noSec [] false false (emptyBin true) (emptyBin true) s.pmAhead)] } d

/-- Frees the slot of every entity of which q holds (R272). -/
def State.pmFree (s : State) (q : Nat → Bool) : State :=
  [0, 1, 2, 3].foldl (fun (t : State) d => t.pmShow d) { s with pm := s.pm.filter (fun e => !q e.1) }

/-- AUTO binning of a created path (R272). -/
def State.pmAutoBind (s : State) (a3 : Bool) (t : TA) : State :=
  let n := taLink t
  let d := luDie n
  let k := pmKey 0 a3 t
  if !s.pmAuto.contains n || (s.pmEnt k).isSome then s
  else
    match s.pmFreeSlot d with
    | some i => s.pmBind k i (look (fun _ => 0x08000000) s.pmAutoCfg n)
    | none => (s.addLoss ⟨R.PM_NOSLOT_LO d, R.PM_NOSLOT_HI d⟩ 1).ev (evDie d) srcPM_SLOT

/-- The bins of the present second become SUSPECT (R268). -/
def State.pmSuspect (s : State) (k : Nat) : State :=
  if s.pmAhead then s.pmUpd k (fun e => { e with late := true })
  else s.pmUpd k (fun e => { e with quarter := { e.quarter with suspect := true }, day := { e.day with suspect := true } })

end Sys2Proof.Machine
end

