-- ==== Sys2Proof/Machine/Trib.lean ====
section
/-!
DEFINITION. Where the bytes of a tributary lie in the system frame (R56, R57, R128, Table 06-3), the cells of the slot store (R64), and
the paths of an ingress structure (R126, R127).
-/

namespace Sys2Proof.Machine

/-- Bytes of a frame of order N (Table 05-1). -/
def frameBytes (n : Nat) : Nat := 2430 * n

/-- Time of position p of a link of order N after the frame boundary, in ns rounded down (R56). -/
def tauNs (n p : Nat) : Nat := 125000 * p / (2430 * n)

/-- VC-3 column of TUG-2 column index i = 7 q + m (R128). -/
def au3Col (i : Nat) : Nat := 1 + i + i / 28

/-- The index i of a column v of a VC-3 in an AU-3; none for the path overhead column and the fixed stuff. -/
def au3Idx (v : Nat) : Option Nat :=
  if v = 0 ∨ v = 29 ∨ v = 58 then none else some (v - 1 - (if 29 ≤ v then 1 else 0) - (if 58 ≤ v then 1 else 0))

/-- The column of a VC-3 in an AU-3 that carries column v of its 85; the AU-3 has fixed stuff in columns 29 and 58. -/
def vc3Col (v : Nat) : Nat := v + (if 29 ≤ v then 1 else 0) + (if 57 ≤ v then 1 else 0)

/-- The index of a negative justification opportunity beside the columns of a tributary. -/
def negIdx : Nat := 100000

/-- Place of column q of a TUG-2 within a TU. -/
def tuPlace (kind tu q : Nat) : Option Nat := (tuColumns kind tu).findIdx? (fun c => c == q)

/-- Row and column of position p of a link of order N within a tributary: a column of the tributary counted from 0, or `negIdx` and
up for its negative justification opportunity. None where the position is not the tributary's. -/
def trLocate (a3 : Bool) (t : TA) (nc n p : Nat) : Option (Nat × Nat) :=
  let r := p / (270 * n)
  let c := p % (270 * n)
  let a := taAug t
  let inVc := decide (9 * n ≤ c)
  let k := (c - 9 * n) / n
  let x := (c - 9 * n) % n
  let tug2 (i : Nat) : Option (Nat × Nat) :=
    if i % 7 = taTug2 t then (tuPlace (taKind t) (taTu t) (i / 7)).map (fun j => (r, j)) else none
  match taKind t with
  | 0 => some (r, c)
  | 3 =>
      if !inVc then (if r = 3 ∧ c = n * (6 + taTug3 t) + a then some (r, negIdx) else none)
      else if x = a ∧ k % 3 = taTug3 t then some (r, k / 3) else none
  | 4 =>
      if !inVc || x != a || decide (k < 3) || (k - 3) % 3 != taTug3 t then none
      else
        let j := (k - 3) / 3
        if j = 0 then (if r = 2 then some (r, negIdx) else none) else some (r, vc3Col (j - 1))
  | 1 | 2 =>
      let w := if taKind t = 1 then ncN nc else 1
      if !inVc then
        (if r = 3 ∧ 6 * n ≤ c ∧ a ≤ (c - 6 * n) % n ∧ (c - 6 * n) % n < a + w then
          some (r, negIdx + (c - 6 * n) / n * w + ((c - 6 * n) % n - a)) else none)
      else if a ≤ x ∧ x < a + w then some (r, k * w + (x - a)) else none
  | _ =>
      if !inVc || x != a then none
      else if a3 then (if k % 3 = taTug3 t then (au3Idx (k / 3)).bind tug2 else none)
      else if k < 3 ∨ (k - 3) % 3 ≠ taTug3 t ∨ (k - 3) / 3 < 2 then none
      else tug2 ((k - 3) / 3 - 2)

/-- The position on a link of order N of a row and column of a tributary, as `trLocate` names them. -/
def trPlace (a3 : Bool) (t : TA) (nc n : Nat) (rc : Nat × Nat) : Option Nat :=
  let a := taAug t
  let pos (r c : Nat) : Option Nat := some (270 * n * r + c)
  let vc (r k : Nat) : Option Nat := pos r (9 * n + n * k + a)
  let r := rc.1
  let i := rc.2
  match taKind t with
  | 0 => pos r i
  | 3 => if i = negIdx then pos 3 (n * (6 + taTug3 t) + a) else vc r (3 * i + taTug3 t)
  | 4 =>
      if i = negIdx then vc 2 (3 + taTug3 t)
      else if i = 29 ∨ i = 58 then none
      else vc r (3 + 3 * (1 + (i - (if 29 < i then 1 else 0) - (if 58 < i then 1 else 0))) + taTug3 t)
  | 1 | 2 =>
      let w := if taKind t = 1 then ncN nc else 1
      if negIdx ≤ i then pos 3 (6 * n + (i - negIdx) / w * n + a + (i - negIdx) % w)
      else pos r (9 * n + n * (i / w) + a + i % w)
  | _ =>
      match (tuColumns (taKind t) (taTu t))[i]? with
      | none => none
      | some q =>
        let x := 7 * q + taTug2 t
        if a3 then vc r (3 * au3Col x + taTug3 t) else vc r (3 + 3 * (2 + x) + taTug3 t)

/-- The egress position that takes the grain of a source position (R60). -/
def trMap (sa3 : Bool) (src : TA) (ns : Nat) (ea3 : Bool) (eg : TA) (ne nc p : Nat) : Option Nat :=
  (trLocate sa3 src nc ns p).bind (fun rc => trPlace ea3 eg nc ne rc)

-- What a position is to a tributary (R281, Tables 06-3 and 12-2)

/-- What a position is to a tributary. -/
inductive Slot where
  /-- It carries a pointer byte at the tap. -/
  | ptr
  /-- Negative justification opportunity. -/
  | neg
  /-- Positive justification opportunity. -/
  | pos
  /-- Container byte. -/
  | pay
  /-- Fixed stuff of a TU-3 pointer column. -/
  | fix
deriving DecidableEq, Repr

/-- What position p of a link of order n is to a tributary, in frame ph of the multiframe; none where it is not the tributary's. -/
def slotAt (a3 : Bool) (t : TA) (nc n p ph : Nat) : Option Slot :=
  let r := p / (270 * n)
  let c := p % (270 * n)
  let k := (c - 9 * n) / n
  if taKind t = 4 ∧ 9 * n ≤ c ∧ (c - 9 * n) % n = taAug t ∧ k = 3 + taTug3 t then
    some (if r < 2 then .ptr else if r = 2 then .neg else .fix)
  else
    (trLocate a3 t nc n p).map (fun x =>
      let w := if taKind t = 1 then ncN nc else 1
      if negIdx ≤ x.2 then .neg
      else match taKind t with
        | 1 | 2 => if x.1 = 3 ∧ x.2 < 3 * w then .pos else .pay
        | 3 => if x.1 = 3 ∧ x.2 = 0 then .pos else .pay
        | 4 => if x.1 = 2 ∧ x.2 = 0 then .pos else .pay
        | 0 => .pay
        | _ =>
          if x.1 ≠ 0 ∨ 2 ≤ x.2 then .pay
          else if x.2 = 0 then (if ph = 2 then .neg else .ptr)
          else if ph = 2 then .pos else .pay)

/-- Columns of a tributary of kind 5 to 7. -/
def tuWidth (t : TA) : Nat := (tuColumns (taKind t) (taTu t)).length

/-- Offset of the path that starts at position p of a link of order n, in frame ph of the multiframe (Tables 03-2 and 06-3); none where no
path of the tributary can start. -/
def startOff (a3 : Bool) (t : TA) (nc n p ph : Nat) : Option Nat :=
  (trLocate a3 t nc n p).bind (fun x =>
    let r := x.1
    let i := x.2
    if negIdx ≤ i then none
    else match taKind t with
      | 0 => none
      | 1 | 2 =>
          let w := if taKind t = 1 then ncN nc else 1
          if i % (3 * w) = 0 then some ((r + 6) % 9 * 87 + i / (3 * w)) else none
      | 3 => some ((r + 6) % 9 * 87 + i)
      | 4 => some ((r + 7) % 9 * 85 + (i - (if 29 < i then 1 else 0) - (if 58 < i then 1 else 0)))
      | _ => if r = 0 ∧ i = 0 then none else some ((ph + 3) % 4 * (9 * tuWidth t - 1) + (r * tuWidth t + i - 1)))

-- Containers (R282, Table 12-2)

/-- Bytes of a container, bytes from the start of the period to offset 0, and bytes per unit of offset, of a kind. -/
def vcGeom (kind nc : Nat) : Nat × Nat × Nat :=
  match kind with
  | 1 => (2349 * ncN nc, 783 * ncN nc, 3 * ncN nc)
  | 2 => (2349, 783, 3)
  | 3 => (783, 261, 1)
  | 4 => (765, 170, 1)
  | 5 => (428, 107, 1)
  | 6 => (140, 35, 1)
  | _ => (104, 26, 1)

/-- Byte of the container that the first container position of a period carries when the path starts at offset p. -/
def vcFirst (kind nc p : Nat) : Nat :=
  let (l, lead, u) := vcGeom kind nc
  (l - (lead + u * p) % l) % l

/-- What a byte of a container is. -/
inductive VcByte where
  /-- Path overhead byte i, in order from J1 or V5. -/
  | poh (i : Nat)
  | stuff
  /-- Bulk payload byte i of the container. -/
  | bulk (i : Nat)
deriving DecidableEq, Repr

def vcClass (kind nc i : Nat) : VcByte :=
  match kind with
  | 1 | 2 =>
      let w := if kind = 1 then ncN nc else 1
      let c := i % (261 * w)
      if c = 0 then .poh (i / (261 * w)) else if c < w then .stuff else .bulk (i / (261 * w) * (260 * w) + (c - w))
  | 3 =>
      let c := i % 87
      if c = 0 then .poh (i / 87) else if c = 29 ∨ c = 58 then .stuff
      else .bulk (i / 87 * 84 + (c - 1 - (if 29 < c then 1 else 0) - (if 58 < c then 1 else 0)))
  | 4 => if i % 85 = 0 then .poh (i / 85) else .bulk (i / 85 * 84 + (i % 85 - 1))
  | _ =>
      let q := (vcGeom kind nc).1 / 4
      if i % q = 0 then .poh (i / q) else .bulk (i / q * (q - 1) + (i % q - 1))

/-- Bulk payload bytes of a container (Table 12-2). -/
def vcBulk (kind nc : Nat) : Nat :=
  match kind with
  | 1 => 2340 * ncN nc
  | 2 => 2340
  | 3 | 4 => 756
  | 5 => 424
  | 6 => 136
  | _ => 100

/-- P of an unequipped tributary (R136 rule 6). -/
def uneqP (kind : Nat) : Nat := if kind ≤ 3 then 522 else if kind = 4 then 595 else 0

-- Bytes of TUs

/-- Row, column and frame of the multiframe of the byte at offset q of a TU-2, TU-12 or TU-11. -/
def tuByte (t : TA) (q : Nat) : Nat × Nat × Nat :=
  let l := 9 * tuWidth t - 1
  ((q % l + 1) / tuWidth t, (q % l + 1) % tuWidth t, (q / l + 1) % 4)

-- Cells (R64)

/-- Logical bank of position p of local link l in slab x. -/
def cellBank (x l p : Nat) : Nat := 32 * x + 2 * l + p / 77760

def cellWord (p : Nat) : Nat := p % 77760 / 8

def cellLane (p : Nat) : Nat := p % 8

-- Ingress structures

def State.structMode (s : State) (n a : Nat) : Nat := s.get (R.LU_PATH_STRUCT0 n a) F.LU_PATH_STRUCT0_MODE

/-- TU2TYPE of TUG-2 m of TUG-3 or AU-3 t out of a pair of structure words. -/
def tu2type (w0 w1 : Word) (t m : Nat) : Nat :=
  (if t = 0 then fget w0 F.LU_PATH_STRUCT0_TU2TYPE_0
   else if t = 1 then fget w1 F.LU_PATH_STRUCT1_TU2TYPE_1 else fget w1 F.LU_PATH_STRUCT1_TU2TYPE_2) / 2 ^ (2 * m) % 4

/-- Kind of a TU2TYPE code (Table 06-13). -/
def tuKind : Nat → Nat
  | 0 => 6
  | 1 => 7
  | _ => 5

/-- The paths that a pair of structure words gives AUG-1 a of link n: AU3 bit and TA (R127). -/
def augPaths (n a : Nat) (w0 w1 : Word) : List (Bool × TA) :=
  let mode := fget w0 F.LU_PATH_STRUCT0_MODE
  let tug (a3 : Bool) (t : Nat) : List (Bool × TA) :=
    (List.range 7).flatMap (fun m =>
      let k := tuKind (tu2type w0 w1 t m)
      (List.range (if k = 6 then 3 else if k = 7 then 4 else 1)).map
        (fun u => (a3, mkTA n a t m (if k = 5 then 3 else u) k)))
  let isTug (t : Nat) : Bool := (fget w0 F.LU_PATH_STRUCT0_TUG2MAP).testBit t
  match mode with
  | 1 => [(false, mkTA n a 3 7 3 2)]
  | 2 => (false, mkTA n a 3 7 3 2) :: [0, 1, 2].flatMap (fun t => if isTug t then tug false t else [(false, mkTA n a t 7 3 4)])
  | 3 => [0, 1, 2].flatMap (fun t => (true, mkTA n a t 7 3 3) :: (if isTug t then tug true t else []))
  | 4 => [(false, mkTA n a 3 7 3 1)]
  | _ => []

/-- The paths of AUG-1 a of link n as in effect. -/
def State.augPathsOf (s : State) (n a : Nat) : List (Bool × TA) :=
  augPaths n a (s.rd (R.LU_PATH_STRUCT0 n a)) (s.rd (R.LU_PATH_STRUCT1 n a))

/-- The paths of LU n: those of the AUG-1s within its rate (R125). -/
def State.luPaths (s : State) (n : Nat) : List (Bool × TA) :=
  if s.persOf n = 0 then [] else
  match s.nLink n with
  | some k => (List.range k).flatMap (fun a => s.augPathsOf n a)
  | none => []

/-- The TA with the AU3 bit names a path of the ingress structure (R154). -/
def State.isPath (s : State) (a3 : Bool) (t : TA) : Bool :=
  (match s.nLink (taLink t) with
   | some k => decide (taAug t < k)
   | none => false) && (s.augPathsOf (taLink t) (taAug t)).contains (a3, t)

/-- The AUG-1 that holds position p of a link of order n, or the head whose member it is. -/
def State.augHolding (s : State) (n k p : Nat) : Nat :=
  let a := p % (270 * k) % k
  if s.structMode n a = 5 then
    ((List.range a).find? (fun h => s.structMode n h == 4 &&
      decide (a < h + ncN (s.get (R.LU_PATH_STRUCT0 n h) F.LU_PATH_STRUCT0_NC)))).getD a
  else a

/-- The innermost path of LU n's structure that holds position p: AU3 bit, TA, NC code, and what the position is to it. -/
def State.pathHolding (s : State) (n p : Nat) : Option (Bool × TA × Nat × Slot) :=
  match s.nLink n with
  | none => none
  | some k =>
    let a := s.augHolding n k p
    let nc := s.get (R.LU_PATH_STRUCT0 n a) F.LU_PATH_STRUCT0_NC
    ((s.augPathsOf n a).filterMap (fun e => (slotAt e.1 e.2 nc k p (s.fn % 4)).map (fun sl => (e.1, e.2, nc, sl)))).getLast?

/-- The high-order path that contains a low-order path or a TU-3 (R146). -/
def container (a3 : Bool) (t : TA) : Option (Bool × TA) :=
  if taKind t ≤ 3 then none
  else if a3 then some (true, mkTA (taLink t) (taAug t) (taTug3 t) 7 3 3)
  else some (false, mkTA (taLink t) (taAug t) 3 7 3 2)

/-- A path with TUG-2s inside it, whose H4 carries the multiframe (R135). -/
def State.hasTug2 (s : State) (a3 : Bool) (t : TA) : Bool :=
  let m := s.get (R.LU_PATH_STRUCT0 (taLink t) (taAug t)) F.LU_PATH_STRUCT0_TUG2MAP
  if taKind t = 2 then s.structMode (taLink t) (taAug t) = 2 && m != 0
  else if taKind t = 3 then a3 && m.testBit (taTug3 t) else false

end Sys2Proof.Machine
end

