-- ==== Sys2Proof/Machine/Path.lean ====
section
/-!
DEFINITION. Pointer interpretation, realignment, path monitoring, the defect journal and per-path access (06_pointers_paths.md).
-/

namespace Sys2Proof.Machine

-- Path states

def freshPath : PathSt :=
  ⟨0, 2, 0, 3, (0, 0), 0, 0, 0, [], 0, false, 0, 0, false, (0, 0), false, 0, ⟨[], none⟩, 0, (0, 0), false, 0, (0, 0), false, 0, false, 0,
    8, none, [], none, 0, 0, none⟩

def State.path (s : State) (a3 : Bool) (t : TA) : PathSt := look (fun _ => freshPath) s.paths (egName a3 t)
def State.setPath (s : State) (a3 : Bool) (t : TA) (x : PathSt) : State :=
  { s with paths := store id (fun _ => freshPath) s.paths (egName a3 t) x }

/-- The line holds every interpreter of the LU in LOP and suspends its path defects (R133, R146). -/
def State.lineHeld (s : State) (n : Nat) : Bool :=
  s.flag (R.LU_SEC_STATUS n) F.LU_SEC_STATUS_LOS || s.flag (R.LU_SEC_STATUS n) F.LU_SEC_STATUS_LOF
    || s.flag (R.LU_SEC_STATUS n) F.LU_SEC_STATUS_MS_AIS || s.flag (R.LU_SEC_RATE n) F.LU_SEC_RATE_SEARCHING

/-- The worst of the head's and the members' states, LOP before AIS before NORM (R132). -/
def PathSt.state (x : PathSt) : Nat := x.members.foldl (fun m e => max m e.2.2) x.ptr

/-- Pointer state of a path: 0 NORM, 1 AIS, 2 LOP; always NORM on a TG link, which has no pointers. -/
def State.ptrState (s : State) (a3 : Bool) (t : TA) : Nat := if s.isTG (taLink t) then 0 else (s.path a3 t).state

def bAIS : Nat := 0
def bLOP : Nat := 1
def bLOM : Nat := 2
def bUNEQ : Nat := 3
def bPLM : Nat := 4
def bTIM : Nat := 5
def bRDI : Nat := 6
def bDEG : Nat := 7
def bFAILED : Nat := 8
def bLABEL_NEW : Nat := 9
def bTRACE_NEW : Nat := 10
def bRESTART : Nat := 11

-- Profiles (Table 06-12)

def State.profile (s : State) (n : Nat) (x : PathSt) (f : Fld) : Nat :=
  s.get (R.LU_PATH_PROFILE n (fget x.cfg ⟨30, 2, .rw, 0⟩)) f

/-- The profile of the path has this bit. -/
def State.profBit (s : State) (n : Nat) (x : PathSt) (f : Fld) : Bool := s.profile n x f == 1

-- Traces (R114, R143)

/-- CRC-7 of R114 over the bytes, most significant bit first: x^7 + x^3 + 1. -/
def crc7Byte (c : Nat) (b : Byte) : Nat :=
  (List.range 8).foldl (fun c i => let top := (c / 64 % 2) ^^^ (b.toNat / 2 ^ (7 - i) % 2); (c * 2 % 128) ^^^ (if top = 1 then 9 else 0)) c

def crc7 (l : List Byte) : Nat := l.foldl crc7Byte 0

/-- A 16-byte message in its order of storage: byte 0 alone has bit 7, and the CRC-7 in its bits 6:0 checks. -/
def msg16OK (l : List Byte) : Bool :=
  match l with
  | b :: r => decide (l.length = 16) && b.toNat.testBit 7 && r.all (fun x => !x.toNat.testBit 7)
      && crc7 (0x80 :: r) == b.toNat % 128
  | [] => false

/-- A 64-byte message in its order of storage: one pair 0x0D, 0x0A, as its bytes 62 and 63. -/
def msg64OK (l : List Byte) : Bool :=
  decide (l.length = 64) && ((List.range 63).filter (fun i => l.getD i 0 == 0x0D && l.getD (i + 1) 0 == 0x0A)) == [62]

/-- Period of a trace format: 0 one byte, 1 sixteen, 2 sixty-four. -/
def traceLen : Nat → Nat
  | 0 => 1
  | 1 => 16
  | _ => 64

/-- One byte of a trace arrives. The second part is the message, when one is accepted: three equal periods that end with this byte,
aligned as stored (R114). -/
def traceStep (fmt : Nat) (x : TraceRx) (b : Byte) : TraceRx × Option (List Byte) :=
  let n := traceLen fmt
  let h := (b :: x.hist).take (3 * n)
  let m := (h.take n).reverse
  let ok := decide (h.length = 3 * n) && (h.drop n).take n == h.take n && h.drop (2 * n) == h.take n
    && (if fmt = 0 then true else if fmt = 1 then msg16OK m else msg64OK m)
  if ok then (⟨h, some m⟩, some m) else (⟨h, x.acc⟩, none)

/-- The bytes of a message that are compared (R114), bit 7 of a 16-byte message taken as 0 (R143). -/
def traceCmp (fmt : Nat) (m : List Byte) : List Byte :=
  match fmt with
  | 0 => m.take 1
  | 1 => (m.drop 1).map (fun b => b &&& 0x7F)
  | _ => m.take 62

/-- Signature of a message (R143). -/
def traceSig (fmt : Nat) (m : List Byte) : Word := crc32 (traceCmp fmt m)

/-- Bytes of a row of registers that holds a message, n bytes from register r on. -/
def State.msgBytes (s : State) (r : RegId) (n : Nat) : List Byte :=
  ((List.range ((n + 3) / 4)).flatMap (fun i => wordBytes (s.rd { r with off := r.off + 4 * i }))).take n

/-- Writes a message into a row of registers. -/
def State.putMsg (s : State) (r : RegId) (m : List Byte) : State :=
  (List.range ((m.length + 3) / 4)).foldl (fun t i => t.wr { r with off := r.off + 4 * i } (le32 (m.drop (4 * i)))) s

/-- Trace format of a path: 16 bytes for J2, and for J1 unless the profile's J1_64 is 1. -/
def State.pathFmt (s : State) (t : TA) (x : PathSt) : Nat :=
  if 5 ≤ taKind t then 1 else if s.profBit (taLink t) x F.LU_PATH_PROFILE_J1_64 then 2 else 1

/-- Entry i of the trace table (R156). -/
def traceEntry (n i : Nat) : RegId := R.LU_PATH_TRACE n (16 * i)

/-- Expected signature (R143). -/
def State.expSig (s : State) (t : TA) (x : PathSt) : Word :=
  let f := s.pathFmt t x
  traceSig f (s.msgBytes (traceEntry (taLink t) (fget x.cfg ⟨23, 6, .rw, 0⟩)) (traceLen f))

-- Defects (R142 to R146)

/-- Why the label and trace of the path are suspended, if they are: the line, the containing VC, or the path's own pointer (R146). -/
def State.suspended (s : State) (a3 : Bool) (t : TA) : Bool :=
  s.lineHeld (taLink t) || s.ptrState a3 t != 0 ||
    (match container a3 t with
     | some (c3, c) => s.ptrState c3 c != 0 || (s.path c3 c).lom || ((s.path c3 c).labOk && (s.path c3 c).accLabel == 0)
     | none => false)

/-- PLM by R142. -/
def plmOf (t : TA) (x : PathSt) : Bool :=
  let e := if 5 ≤ taKind t then x.cfg.toNat % 8 else x.cfg.toNat % 256
  x.labOk && x.cfg.toNat % 256 != 0 && x.accLabel != e && x.accLabel != 0 && x.accLabel != 1 && e != 1

/-- TIM by R143. -/
def State.timOf (s : State) (t : TA) (x : PathSt) : Bool :=
  s.profBit (taLink t) x F.LU_PATH_PROFILE_TIM_MON && x.cfg.toNat.testBit 29 && x.trace.acc.isSome && x.traceSig != s.expSig t x

/-- The live bits of Table 06-9, FAILED included. -/
def State.pathBits (s : State) (a3 : Bool) (t : TA) : Nat :=
  let x := s.path a3 t
  let b (i : Nat) (v : Bool) : Nat := if v then 2 ^ i else 0
  let st := s.ptrState a3 t
  let outer := s.lineHeld (taLink t) || (match container a3 t with
     | some (c3, c) => s.ptrState c3 c != 0 || (s.path c3 c).lom || ((s.path c3 c).labOk && (s.path c3 c).accLabel == 0)
     | none => false)
  let d :=
    if outer then 0
    else if st = 1 then b bAIS true
    else if st = 2 then b bLOP true
    else if x.labOk && x.accLabel == 0 then b bLOM x.lom + b bUNEQ true
    else b bLOM x.lom + b bPLM (plmOf t x) + b bTIM (s.timOf t x) + b bRDI x.rdi + b bDEG x.deg
  d + b bFAILED x.failed

/-- A cause of failure at source (R147). -/
def State.pathCause (s : State) (a3 : Bool) (t : TA) : Bool :=
  let x := s.path a3 t
  let d := s.pathBits a3 t
  s.ptrState a3 t != 0 || x.lom || (look (fun _ => false) (s.sec.map (fun e => (e.1, e.2.fail))) (taLink t))
    || (d.testBit bUNEQ && s.profBit (taLink t) x F.LU_PATH_PROFILE_UNEQ_AIS)
    || (d.testBit bTIM && s.profBit (taLink t) x F.LU_PATH_PROFILE_TIM_AIS)
    || (d.testBit bPLM && s.profBit (taLink t) x F.LU_PATH_PROFILE_PLM_AIS)
    || (match container a3 t with
        | some (c3, c) => (s.path c3 c).failed
        | none => false)

-- The journal (R150 to R153)

def jrnSize (s : State) (d : Nat) : Nat := 2 ^ s.get (R.DIE_JRN_CTRL d) F.DIE_JRN_CTRL_SIZE_LOG2

def jrnBase (s : State) (d : Nat) : Nat := 2 ^ 32 * (s.rd (R.DIE_JRN_BASE_HI d)).toNat + (s.rd (R.DIE_JRN_BASE_LO d)).toNat

/-- A record is lost (R152). -/
def State.jrnLose (s : State) (d : Nat) : State :=
  let s1 := s.addLoss ⟨R.DIE_JRN_LOST_LO d, R.DIE_JRN_LOST_HI d⟩ 1
  if s1.jrnLoss.contains d then s1 else { s1 with jrnLoss := d :: s1.jrnLoss }.ev (evDie d) srcJRN_LOSS

def State.staged (s : State) (d : Nat) : List JrnRec := look (fun _ => []) s.jrnStage d
def State.setStaged (s : State) (d : Nat) (l : List JrnRec) : State := { s with jrnStage := store id (fun _ => []) s.jrnStage d l }

/-- A path of LU n gives a journal record: it enters the staging buffer of 4,096 records, or is lost (R150 to R152). -/
def State.jrnWrite (s : State) (a3 : Bool) (t : TA) (now changed : Nat) : State :=
  let n := taLink t
  let d := luDie n
  if !s.flag (R.LU_PATH_CTRL n) F.LU_PATH_CTRL_JRN_EN || !s.flag (R.DIE_JRN_CTRL d) F.DIE_JRN_CTRL_ENABLE then s
  else if 4096 ≤ (s.staged d).length then s.jrnLose d
  else s.setStaged d (s.staged d ++ [⟨n, BitVec.ofNat 32 ((if a3 then 2 ^ 31 else 0) + t.toNat), BitVec.ofNat 32 (2 ^ 16 * now + changed),
    BitVec.ofNat 32 s.fn, s.ns⟩])

/-- Writes a record into the ring of die d, or loses it (R150 to R152). -/
def State.jrnPut (s : State) (d : Nat) (x : JrnRec) : State :=
  let wr := (s.rd (R.DIE_JRN_WR d)).toNat
  if fnDelta (s.rd (R.DIE_JRN_RD d)).toNat wr = jrnSize s d then s.jrnLose d
  else
    let loss := if s.jrnLoss.contains d then 2 ^ 31 else 0
    let s1 := (s.st (jrnBase s d + 16 * (wr % jrnSize s d)) ([x.w0, x.w1, x.fn, BitVec.ofNat 32 (loss + x.ns)].flatMap wordBytes)).wr
      (R.DIE_JRN_WR d) (BitVec.ofNat 32 (wr + 1))
    { s1 with jrnLoss := s1.jrnLoss.filter (fun y => y != d)
              jrnDirty := if s1.jrnDirty.contains x.lu then s1.jrnDirty else x.lu :: s1.jrnDirty }

/-- The oldest staged record of die d leaves for the ring. -/
def State.jrnStep (s : State) (d : Nat) : State :=
  match s.staged d with
  | [] => s
  | x :: l => (s.setStaged d l).jrnPut d x

/-- 1 ns of writing: a record for each die, of the 64 records per us at least that R151 asks (notes/assumptions/82.md). -/
def State.jrnTick (s : State) : State := [0, 1, 2, 3].foldl (fun t d => t.jrnStep d) s

/-- What is staged is written by the end of its frame. -/
def State.jrnFlush (s : State) : State :=
  [0, 1, 2, 3].foldl (fun t d => (t.staged d).foldl (fun u _ => u.jrnStep d) t) s

-- Following changes

/-- The defects of a group's member at ingress tributary t are cleared and not evaluated (R146, R165): on every LU that feeds its name. -/
def State.memSuspended (s : State) (a3 : Bool) (t : TA) : Bool :=
  (s.memFeeds (taLink t)).all (fun f =>
    let u := onLink t f
    s.suspended a3 u || ((s.path a3 u).labOk && (s.path a3 u).accLabel == 0))

/-- Paths inside a path. -/
def State.inside (s : State) (a3 : Bool) (t : TA) : List (Bool × TA) :=
  (s.augPathsOf (taLink t) (taAug t)).filter (fun e => container e.1 e.2 == some (a3, t))

/-- Brings a path in line with what holds or suspends it (R133, R135, R146). -/
def State.settlePath (s : State) (a3 : Bool) (t : TA) : State :=
  let x := s.path a3 t
  let line := s.lineHeld (taLink t)
  let lom := match container a3 t with
    | some (c3, c) => (s.path c3 c).lom
    | none => false
  let x1 := if (line || lom) && !s.isTG (taLink t) then
      { x with ptr := 2, new := (0, 0), ndfRun := 0, invRun := 0, aisRun := 0, members := x.members.map (fun _ => (0, 0, 0)) }
    else x
  let s1 := if x1 = x then s else s.setPath a3 t x1
  let own := line || s1.ptrState a3 t != 0
  let x2 := if own then { x1 with oom := false, h4Run := 0, oomFrames := 0, lom := false, viol := 0 } else x1
  let x3 := if s1.suspended a3 t then
      { x2 with labOk := false, lab := (0, 0), trace := ⟨[], none⟩, rdi := false, rdiRun := (0, 0), deg := false, degRun := (0, 0) }
    else if x2.labOk && x2.accLabel == 0 then { x2 with rdi := false, rdiRun := (0, 0), deg := false, degRun := (0, 0) }
    else x2
  let s2 := if x3 = x then s1 else s1.setPath a3 t x3
  (s2.feedNames (taLink t)).foldl (fun u n => if u.memSuspended a3 (onLink t n) then u.memClear a3 (onLink t n) else u) s2

/-- PM sees the defects of a path now (Table 11-1). -/
def State.pmPath (s : State) (a3 : Bool) (t : TA) : State :=
  let k := pmKey 0 a3 t
  if (s.pmEnt k).isNone then s
  else
    let d := s.pathBits a3 t
    let near := d.testBit bAIS || d.testBit bLOP || d.testBit bUNEQ || d.testBit bTIM || d.testBit bPLM || s.suspended a3 t
    let s1 := if near then s.pmNeDef k else s
    if d.testBit bRDI then s1.pmFeDef k else s1

/-- Carries out a change that may move the bits of some paths: settles each, then journals every path whose bits have changed, with
the indications of the change (R150, R151), containers before the paths inside them. -/
def State.watchPaths (s : State) (ks : List (Bool × TA)) (ind : Nat) (f : State → State) : State :=
  let old := ks.map (fun k => (k, s.pathBits k.1 k.2))
  let s1 := ks.foldl (fun u k => u.settlePath k.1 k.2) (f s)
  old.foldl (fun u e =>
    let now := u.pathBits e.1.1 e.1.2
    let ch := (e.2 ^^^ now) ||| (if some e.1 = ks.head? then ind else 0)
    let v := if ch = 0 then u
      else (u.jrnWrite e.1.1 e.1.2 now ch).skDefect (tapWord 0 e.1.1 e.1.2) e.2 (now ||| (if some e.1 = ks.head? then ind else 0))
    v.pmPath e.1.1 e.1.2) s1

/-- A change of one path, which may move the paths inside it. -/
def State.changePath (s : State) (a3 : Bool) (t : TA) (ind : Nat) (f : PathSt → PathSt) : State :=
  s.watchPaths ((a3, t) :: s.inside a3 t) ind (fun u => u.setPath a3 t (f (u.path a3 t)))

/-- A change that may move the bits of any path of LU n: a write of its profiles or of its trace table (R142, R143, R150). -/
def State.watchLu (s : State) (n : Nat) (f : State → State) : State := s.watchPaths (s.luPaths n) 0 f

/-- The path at the start of a period: a CFG written since the last one governs from this one on (R154). What that changes is of one instant
with what the period brings, and forms one journal record with it (R151). -/
def PathSt.governed (x : PathSt) : PathSt := { x with cfg := x.cfgNext.getD x.cfg, cfgNext := none }

-- Ingress structure (R125, R126)

/-- The structure words of an LU as a list over its AUG-1s. -/
def State.structOf (s : State) (n : Nat) : List (Word × Word) :=
  (List.range 64).map (fun a => (s.rd (R.LU_PATH_STRUCT0 n a), s.rd (R.LU_PATH_STRUCT1 n a)))

def modeOf (w : Word × Word) : Nat := fget w.1 F.LU_PATH_STRUCT0_MODE
def modeWord (m : Nat) : Word × Word := (BitVec.ofNat 32 (2 ^ 29 * m), 0)

/-- A pair passes R126 on a structure. -/
def structOK (l : List (Word × Word)) (a : Nat) (w : Word × Word) : Bool :=
  let m := modeOf w
  let nc := fget w.1 F.LU_PATH_STRUCT0_NC
  decide (m ≤ 4) && (m != 4 || (nc != 0 && a % ncN nc == 0 && decide (a + ncN nc ≤ 64)))
    && ((List.range 3).all (fun t => (List.range 7).all (fun i => tu2type w.1 w.2 t i != 3)))
    && (fget w.1 F.LU_PATH_STRUCT0_TUG2MAP == 0 || m == 2 || m == 3)
    && modeOf (l.getD a (modeWord 1)) != 5

/-- A structure after a pair has taken effect. -/
def structSet (l : List (Word × Word)) (a : Nat) (w : Word × Word) : List (Word × Word) :=
  let old := l.getD a (modeWord 1)
  let l1 := if modeOf old = 4 then
      l.zipIdx.map (fun e => if a < e.2 ∧ e.2 < a + ncN (fget old.1 F.LU_PATH_STRUCT0_NC) then modeWord 0 else e.1)
    else l
  let l2 := l1.set a w
  if modeOf w = 4 then
    l2.zipIdx.map (fun e => if a < e.2 ∧ e.2 < a + ncN (fget w.1 F.LU_PATH_STRUCT0_NC) then modeWord 5 else e.1)
  else l2

/-- Puts a pending pair behind every one of its own or a lower AUG-1: pairs take effect in AUG-1 order. -/
def insPend (e : Nat × Nat × Word × Word) : List (Nat × Nat × Word × Word) → List (Nat × Nat × Word × Word)
  | [] => [e]
  | f :: t => if e.2.1 < f.2.1 then e :: f :: t else f :: insPend e t

/-- Uptime frame of the boundary at which a pending pair takes effect: the first FN = 0 mod 4 from its earliest frame on (R125). -/
def State.structDue (s : State) (e : Nat × Nat × Word × Word) : Nat := e.1 + (4 - (s.frames + e.1 + 3 * s.up) % 4) % 4

/-- Puts a pending pair behind every one that takes effect no later. -/
def State.insDue (s : State) (e : Nat × Nat × Word × Word) : List (Nat × Nat × Word × Word) → List (Nat × Nat × Word × Word)
  | [] => [e]
  | f :: t => if s.structDue e < s.structDue f then e :: f :: t else f :: s.insDue e t

/-- The structure that LU n will have once its pending pairs have taken effect, boundary after boundary and in AUG-1 order at each (R125). -/
def State.structSoon (s : State) (n : Nat) : List (Word × Word) :=
  (s.structPend.foldl (fun l e => s.insDue e l) []).foldl (fun l e =>
    if e.2.1 / 64 = n ∧ structOK l (e.2.1 % 64) e.2.2 then structSet l (e.2.1 % 64) e.2.2 else l) (s.structOf n)

/-- A write of LU_PATH_STRUCT word 1 (R125). With no word 0 held it is paired with the word 0 in effect (DESIGN CHOICE,
notes/assumptions/104.md). -/
def State.writeStruct1 (s : State) (n a : Nat) (v : Word) : State :=
  let w0 := (s.structW0.find? (fun e => e.1 == 64 * n + a)).map (fun e => e.2) |>.getD (s.rd (R.LU_PATH_STRUCT0 n a))
  let w := (w0, v &&& accMask (R.LU_PATH_STRUCT1 n a) (fun x => x == .rw))
  let s1 := { s with structW0 := s.structW0.filter (fun e => e.1 != 64 * n + a) }
  if structOK (s1.structSoon n) a w then
    { s1 with structPend := insPend (s1.up + 1 + (if s1.ns = 0 then 0 else 1), 64 * n + a, w) s1.structPend }
  else s1.put (R.LU_PATH_CTRL n) F.LU_PATH_CTRL_STRUCT_REJ 1

/-- A write of word 0 is held until word 1 is written (R125). -/
def State.writeStruct0 (s : State) (n a : Nat) (v : Word) : State :=
  { s with structW0 := (64 * n + a, v &&& accMask (R.LU_PATH_STRUCT0 n a) (fun x => x == .rw)) ::
      s.structW0.filter (fun e => e.1 != 64 * n + a) }

/-- Restarts a path: fresh state, and a RESTART record (R125). -/
def State.restartPath (s : State) (a3 : Bool) (t : TA) : State :=
  let failed := (s.path a3 t).failed
  (s.watchPaths [(a3, t)] (2 ^ bRESTART) (fun u => u.setPath a3 t { freshPath with failed := failed })).pmSuspect (pmKey 0 a3 t)

/-- Gives LU n a structure: AUG-1s whose structure changes have their paths restarted (R125) and binned (R272). -/
def State.applyStruct (s : State) (n : Nat) (l : List (Word × Word)) : State :=
  let old := s.structOf n
  let ch := (List.range 64).filter (fun a => old.getD a (modeWord 1) != l.getD a (modeWord 1))
  let before := ch.flatMap (fun a => s.augPathsOf n a)
  let s1 := ch.foldl (fun u a =>
    (u.wr (R.LU_PATH_STRUCT0 n a) (l.getD a (modeWord 1)).1).wr (R.LU_PATH_STRUCT1 n a) (l.getD a (modeWord 1)).2) s
  let after := ch.flatMap (fun a => s1.augPathsOf n a)
  let gone := before.filter (fun e => !after.contains e)
  let s2 := gone.foldl (fun u e => u.setPath e.1 e.2 freshPath) s1
  let s3 := s2.pmFree (fun k => gone.any (fun e => pmKey 0 e.1 e.2 == k))
  let s4 := (after.filter (fun e => s3.isPath e.1 e.2)).foldl (fun u e => u.restartPath e.1 e.2) s3
  (after.filter (fun e => s4.isPath e.1 e.2 && !before.contains e)).foldl (fun u e => (u.pmAutoBind e.1 e.2).pmPath e.1 e.2) s4

/-- Pending pairs of LU n take effect in AUG-1 order, each checked again (R125). -/
def State.structApply (s : State) (n : Nat) : State :=
  let due := s.structPend.filter (fun e => e.2.1 / 64 == n && decide (e.1 ≤ s.up))
  let s1 := { s with structPend := s.structPend.filter (fun e => !(e.2.1 / 64 == n && decide (e.1 ≤ s.up))) }
  due.foldl (fun u e =>
    if structOK (u.structOf n) (e.2.1 % 64) e.2.2 then u.applyStruct n (structSet (u.structOf n) (e.2.1 % 64) e.2.2)
    else u.put (R.LU_PATH_CTRL n) F.LU_PATH_CTRL_STRUCT_REJ 1) s1

/-- STRUCT_WRITE. -/
def execStructWrite (p : Port) (n : Fin 128) (a : Fin 64) (v : Word) (s : State) : Out :=
  .next (hostReg p (.structWrite p n a v) (fun t => t.writeStruct1 n a v) s)

/-- STRUCT_APPLY. -/
def execStructApply (n : Fin 128) (s : State) : Out := if s.fn % 4 = 0 then done (s.structApply n) else .next s

-- Pointer interpretation (R130, R131)

/-- Largest offset of a kind (Table 06-2). -/
def maxOff : Nat → Nat
  | 4 => 764
  | 5 => 427
  | 6 => 139
  | 7 => 103
  | _ => 782

/-- The indications of Table 06-4. -/
inductive PtrInd where
  | ais | norm | inc | dec | ndf (v : Nat) | new (v : Nat) | inv
deriving DecidableEq, Repr

/-- SS bits of a TU kind (Table 06-2). -/
def tuSS : Nat → Nat
  | 5 => 0
  | 6 => 2
  | _ => 3

/-- Bits at 1 among the low n of a number. -/
def popc (n v : Nat) : Nat := ((List.range n).filter (fun i => v.testBit i)).length

/-- Bits of a word that match. -/
def matching (n a b : Nat) : Nat := n - popc n (a ^^^ b)

/-- I bits and D bits of the ten offset bits. -/
def iMask : Nat := 0x2AA
def dMask : Nat := 0x155

/-- The indication that a pointer word yields (Table 06-4); `since` counts the periods since the last accepted change, this one
included. -/
def ptrIndication (kind : Nat) (ssCheck : Bool) (x : PathSt) (since w : Nat) : PtrInd :=
  let v := w % 1024
  let ndf := w / 4096
  let i := popc 10 ((v ^^^ x.off) &&& iMask)
  let d := popc 10 ((v ^^^ x.off) &&& dMask)
  if w = 0xFFFF then .ais
  else if ssCheck && decide (5 ≤ kind) && w / 1024 % 4 != tuSS kind then .inv
  else if 3 ≤ matching 4 ndf 9 then (if v ≤ maxOff kind then .ndf v else .inv)
  else if matching 4 ndf 6 < 3 then .inv
  else if x.ptr ≠ 0 then (if v ≤ maxOff kind then .new v else .inv)
  else if v = x.off then .norm
  else if 3 ≤ i ∧ d < 3 then (if 3 ≤ since then .inc else .inv)
  else if 3 ≤ d ∧ i < 3 then (if 3 ≤ since then .dec else .inv)
  else if v ≤ maxOff kind then .new v else .inv

-- Realignment (R134)

/-- Frames of a pointer period (Table 06-2). -/
def periodLen (kind : Nat) : Nat := if kind ≤ 4 then 1 else 4

/-- The pointer period of a kind that holds uptime frame u, by the uptime frame in which it begins: a system frame, or a system multiframe
(R129; notes/assumptions/83.md). -/
def State.periodAt (s : State) (kind u : Nat) : Nat := if kind ≤ 4 then u else u - (s.frames + u + 3 * s.up) % 4

/-- An offset after a justification: 1 negative, 2 positive. -/
def shiftOff (kind o j : Nat) : Nat :=
  match j with
  | 1 => if o = 0 then maxOff kind else o - 1
  | 2 => if o = maxOff kind then 0 else o + 1
  | _ => o

/-- The last offset of a period in order of time: a path start there leaves the period under a positive justification (Table 06-3). -/
def lastOff (kind : Nat) : Nat := if kind ≤ 3 then 521 else if kind = 4 then 594 else 3 * ((maxOff kind + 1) / 4) - 1

/-- The byte at offset q of a period follows the period's justification opportunities (Table 06-3). -/
def afterOpp (kind q : Nat) : Bool :=
  if kind ≤ 3 then decide (q < 522)
  else if kind = 4 then decide (q < 595)
  else decide ((maxOff kind + 1) / 4 ≤ q) && decide (q < 3 * ((maxOff kind + 1) / 4))

/-- The justification of period p: 0 none, 1 negative, 2 positive. -/
def PathSt.justIn (x : PathSt) (p : Nat) : Nat := ((x.justs.find? (fun e => e.1 == p)).map (fun e => e.2)).getD 0

/-- Offset of the path start as period p begins. -/
def PathSt.startIn (x : PathSt) (kind p : Nat) : Option Nat :=
  x.start.map (fun o => (x.justs.filter (fun e => decide (e.1 < p))).foldl (fun o e => shiftOff kind o e.2) o)

/-- Offset at which a path start lies in period p; none where the period's justification moves it out of the period. -/
def PathSt.startAt (x : PathSt) (kind p : Nat) : Option Nat :=
  (x.startIn kind p).bind (fun q =>
    if afterOpp kind q then (let q' := shiftOff kind q (x.justIn p); if x.justIn p = 0 ∨ afterOpp kind q' = true then some q' else none)
    else some q)

/-- Offsets of all path starts of period p, in order of time: a start at the period's first byte is followed by a second one at its last where
the period has a negative justification. -/
def PathSt.startsAt (x : PathSt) (kind p : Nat) : List Nat :=
  (x.startAt kind p).toList ++
    (match x.startIn kind p with
     | some q => if x.justIn p = 1 ∧ afterOpp kind q = false ∧ shiftOff kind q 1 = lastOff kind then [lastOff kind] else []
     | none => [])

/-- Bytes of a justification: 3 for an AU-4, 3N for an AU-4-Nc, 1 for the others. -/
def justUnit (kind nc : Nat) : Nat := if kind = 1 then 3 * ncN nc else if kind = 2 then 3 else 1

/-- Accepts an offset: the realigner empties, and its path start is still to be placed (R131, R134). -/
def PathSt.accept (x : PathSt) (v : Nat) : PathSt :=
  { x with ptr := 0, off := v, since := 0, new := (0, 0), ndfRun := 0, invRun := 0, aisRun := 0, start := none }

/-- Recentres a path in period p: the start lies at the accepted offset, counted from where the ingress multiframe begins and moved by
the `fall` of the received frame against the system frame (R134, R135). -/
def PathSt.recentre (x : PathSt) (kind phase p fall : Nat) : PathSt :=
  let len := maxOff kind + 1
  { x with fill := 8, start := some ((x.off + (if kind ≤ 4 then 0 else phase * (len / 4)) + fall) % len), justs := [], moved := some p }

/-- What an indication counts: justifications and new offsets (Table 06-5). -/
inductive PtrCount where
  | none | pos | neg | ndf
deriving DecidableEq, Repr

/-- Table 06-5. -/
def ptrStep (kind : Nat) (x0 : PathSt) (ind : PtrInd) : PathSt × PtrCount :=
  let x := { x0 with since := min 3 (x0.since + 1) }
  let clear := { x with new := (0, 0), ndfRun := 0, invRun := 0, aisRun := 0 }
  let run (y : PathSt) : PathSt × PtrCount := if 8 ≤ y.invRun ∧ y.ptr ≠ 2 then ({ y with ptr := 2, invRun := 0 }, .none) else (y, .none)
  match ind with
  | .ais =>
      let n := x.aisRun + 1
      if 3 ≤ n ∧ x.ptr ≠ 1 then ({ clear with ptr := 1, aisRun := n }, .none) else ({ clear with aisRun := n }, .none)
  | .norm => (clear, .none)
  | .inc => ({ clear with off := if x.off = maxOff kind then 0 else x.off + 1, since := 0 }, .pos)
  | .dec => ({ clear with off := if x.off = 0 then maxOff kind else x.off - 1, since := 0 }, .neg)
  | .ndf v =>
      if x.ptr = 2 then (clear, .none)
      else if x.ptr = 1 then (x.accept v, .none)
      else if 8 ≤ x.ndfRun + 1 then ({ clear with ptr := 2 }, .none)
      else ({ x.accept v with ndfRun := x.ndfRun + 1 }, .ndf)
  | .new v =>
      let n := if x.new.2 ≠ 0 ∧ x.new.1 = v then x.new.2 + 1 else 1
      if 3 ≤ n then (x.accept v, if x.ptr = 0 then .ndf else .none)
      else run { x with new := (v, n), ndfRun := 0, aisRun := 0, invRun := x.invRun + 1 }
  | .inv => run { x with new := (0, 0), ndfRun := 0, aisRun := 0, invRun := x.invRun + 1 }

/-- One frame of a member of an AU-4-Nc (R132). The rule gives no exit from a member's AIS or LOP; here the first frame with the indication
brings it back to NORM (DESIGN CHOICE, notes/assumptions/84.md). -/
def memberStep (e : Nat × Nat × Nat) (w : Nat) : Nat × Nat × Nat :=
  if w = 0xFFFF then (e.1 + 1, 0, if 3 ≤ e.1 + 1 then 1 else e.2.2)
  else if w &&& 0xF3FF = 0x93FF then (0, 0, 0)
  else (0, e.2.1 + 1, if 8 ≤ e.2.1 + 1 then 2 else e.2.2)

/-- The members of a head, stepped. -/
def membersStep : List (Nat × Nat × Nat) → List (BitVec 16) → List (Nat × Nat × Nat)
  | _, [] => []
  | [], w :: t => memberStep (0, 0, 0) w.toNat :: membersStep [] t
  | e :: u, w :: t => memberStep e w.toNat :: membersStep u t

def ctrPjInc (n : Nat) : Ctr := ⟨R.LU_PATH_PJ_INC_LO n, R.LU_PATH_PJ_INC_HI n⟩
def ctrPjDec (n : Nat) : Ctr := ⟨R.LU_PATH_PJ_DEC_LO n, R.LU_PATH_PJ_DEC_HI n⟩
def ctrNdf (n : Nat) : Ctr := ⟨R.LU_PATH_NDF_LO n, R.LU_PATH_NDF_HI n⟩

/-- The interpreter is held in LOP (R133, R135). -/
def State.ptrHeld (s : State) (a3 : Bool) (t : TA) : Bool :=
  s.lineHeld (taLink t) || (match container a3 t with
    | some (c3, c) => (s.path c3 c).lom
    | none => false)

/-- Frame of the system multiframe in which the ingress multiframe of a path's container begins (R135). -/
def State.phaseOf (s : State) (a3 : Bool) (t : TA) : Nat :=
  match container a3 t with
  | some (c3, c) => (s.path c3 c).phase
  | none => 0

/-- One period of a pointer interpreter; a path that enters NORM, or accepts an offset in it, is recentred. -/
def State.pointerIn (s : State) (a3 : Bool) (t : TA) (w : BitVec 16) (members : List (BitVec 16)) (fall : Nat) : State :=
  let n := taLink t
  let x := (s.path a3 t).governed
  let ind := ptrIndication (taKind t) (s.flag (R.LU_PATH_CTRL n) F.LU_PATH_CTRL_SS_CHECK) x (min 3 (x.since + 1)) w.toNat
  let (y, c) := ptrStep (taKind t) x ind
  let y1 := if taKind t = 1 then { y with members := membersStep x.members members } else y
  let y2 := if y1.state = 0 ∧ (x.state ≠ 0 ∨ y1.start = none) then
      y1.recentre (taKind t) (s.phaseOf a3 t) (s.periodAt (taKind t) s.up) fall
    else y1
  let s1 := s.changePath a3 t 0 (fun _ => y2)
  match c with
  | .none => s1
  | .pos => (s1.addCtr (ctrPjInc n) 1).pmPj (pmKey 0 a3 t) 0
  | .neg => (s1.addCtr (ctrPjDec n) 1).pmPj (pmKey 0 a3 t) 1
  | .ndf => s1.addCtr (ctrNdf n) 1

/-- POINTER_INDICATION: the pointer word of a path's period, and those of the members of an AU-4-Nc; `fall` is how far, in units of offset,
the received frame lies from the system frame, which the realigner needs where it places a path start. -/
def execPointerIndication (a3 : Bool) (t : TA) (w : BitVec 16) (members : List (BitVec 16)) (fall : Nat) (s : State) : Out :=
  if s.isPath a3 t && !s.isTG (taLink t) && !s.ptrHeld a3 t && !s.rxStopped (taLink t) then
    done (s.pointerIn a3 t w members fall)
  else .next s

/-- The justification that a fill calls for in period p, when the path has kept still in the 3 periods before (R134). -/
def PathSt.wants (x : PathSt) (kind p fill : Nat) : Nat :=
  let free := match x.moved with
    | none => true
    | some m => decide (m + 4 * periodLen kind ≤ p)
  if !free then 0 else if 12 ≤ fill then 1 else if fill ≤ 4 then 2 else 0

/-- A period's decision on a store that holds `fill` bytes joins the two latest; the justification of an older one has moved the start. -/
def PathSt.judge (x : PathSt) (kind nc p fill : Nat) : PathSt :=
  let j := x.wants kind p fill
  let keep := x.justs.take 1
  { x with
    fill := if j = 1 then fill - justUnit kind nc else if j = 2 then fill + justUnit kind nc else fill
    start := x.start.map (fun o => (x.justs.drop 1).foldl (fun o e => shiftOff kind o e.2) o)
    justs := (p, j) :: keep
    moved := if j = 0 then x.moved else some p }

/-- Bytes in the elastic store of a realigner that has received so many more than it has sent since it was looked at last. -/
def PathSt.filled (x : PathSt) (drift : Int) : Nat := (x.fill + drift).toNat

/-- REALIGN_PERIOD: a realigner judges, once, the period that follows the present one, by the fill of its elastic store, which `drift` has
moved since the last period judged (R134; the worked example of R138 has the fill before the period; notes/assumptions/83.md). -/
def execRealignPeriod (a3 : Bool) (t : TA) (drift : Int) (s : State) : Out :=
  if s.isPath a3 t && !s.isTG (taLink t) && s.ptrState a3 t == 0 && !s.rxStopped (taLink t) then
    let x := s.path a3 t
    let kind := taKind t
    let p := s.periodAt kind s.up + periodLen kind
    if x.justs.any (fun e => e.1 == p) then .next s
    else .next (s.setPath a3 t (x.judge kind (s.get (R.LU_PATH_STRUCT0 (taLink t) (taAug t)) F.LU_PATH_STRUCT0_NC) p (x.filled drift)))
  else .next s

/-- The marker that a realigner gives the byte at position p of LU n (R54, R134). In AIS and LOP it gives none. -/
def State.markAt (s : State) (n p : Nat) : Bool :=
  match s.pathHolding n p with
  | none => false
  | some (a3, t, nc, sl) =>
    let x := s.path a3 t
    let kind := taKind t
    let per := s.periodAt kind s.up
    let here := startOff a3 t nc ((s.nLink n).getD 0) p (s.fn % 4)
    let start := here.any (x.startsAt kind per).contains
    s.ptrState a3 t == 0 && (match sl with
      | .neg => x.justIn per == 1
      | .pos => x.justIn per == 2 || start
      | .pay => start
      | _ => false)

-- Multiframe alignment (R135)

/-- One frame of H4 bits 7 and 8. -/
def h4Step (x : PathSt) (v : Nat) : PathSt :=
  let inSeq := v == (x.h4 + 1) % 4
  if x.oom then
    (if inSeq then
      (if 2 ≤ x.h4Run + 1 then { x with h4 := v, oom := false, h4Run := 0, oomFrames := 0, lom := false }
       else { x with h4 := v, h4Run := x.h4Run + 1, oomFrames := x.oomFrames + 1 })
     else { x with h4 := v, h4Run := 0, oomFrames := x.oomFrames + 1 })
  else if inSeq then { x with h4 := v, h4Run := 0 }
  else if 2 ≤ x.h4Run + 1 then { x with h4 := v, oom := true, h4Run := 0, oomFrames := 0 }
  else { x with h4 := v, h4Run := x.h4Run + 1 }

/-- H4_MULTIFRAME_CHECK: the H4 of a frame of a VC with TUG-2s. Bits 7 and 8 at 1 mark the frame that carries V1; while in IM they say which
frame of the system multiframe that is. -/
def execH4MultiframeCheck (a3 : Bool) (t : TA) (v : Fin 4) (s : State) : Out :=
  if s.isPath a3 t && s.hasTug2 a3 t && !s.lineHeld (taLink t) && s.ptrState a3 t == 0 && !s.rxStopped (taLink t) then
    done (s.changePath a3 t 0 (fun x => let y := h4Step x v; if y.oom then y else { y with phase := (s.frames + 5 - v.val) % 4 }))
  else .next s

/-- LOM_DECLARE: OOM has held for 8 frames. -/
def execLomDeclare (a3 : Bool) (t : TA) (s : State) : Out :=
  let x := s.path a3 t
  if s.isPath a3 t && !s.rxStopped (taLink t) && x.oom && decide (8 ≤ x.oomFrames) && !x.lom then done (s.changePath a3 t 0 (fun y => { y with lom := true }))
  else .next s

-- Path overhead (R139 to R145)

/-- Label filter: (value, run) after one more label. -/
def runStep (e : Nat × Nat) (v : Nat) : Nat × Nat := if e.2 ≠ 0 ∧ e.1 = v then (v, e.2 + 1) else (v, 1)

/-- RDI filter. -/
def rdiStep (filt : Nat) (x : PathSt) (b : Bool) : PathSt :=
  let r := if b then (x.rdiRun.1 + 1, 0) else (0, x.rdiRun.2 + 1)
  { x with rdiRun := r, rdi := if filt ≤ r.1 then true else if filt ≤ r.2 then false else x.rdi }

/-- The trace capture of R155, when its path accepts a message. -/
def State.traceCapture (s : State) (a3 : Bool) (t : TA) (m : List Byte) : State :=
  let n := taLink t
  let r := R.LU_PATH_TCAP_CTRL n
  if s.flag r F.LU_PATH_TCAP_CTRL_ARM && (s.rd r).toNat % 2 ^ 25 == egName a3 t then
    ((s.putMsg (R.LU_PATH_TCAP n 0) (m ++ List.replicate (64 - m.length) 0)).put r F.LU_PATH_TCAP_CTRL_ARM 0).put r
      F.LU_PATH_TCAP_CTRL_CAPTURED 1
  else s

/-- Label, trace and RDI of one period of a path whose label is not suspended, with the CFG that governs it. -/
def State.ohAccept (s : State) (a3 : Bool) (t : TA) (j : Byte) (label : Nat) (rdi : Bool) : State :=
  let n := taLink t
  let x := (s.path a3 t).governed
  let lab := runStep x.lab label
  let lacc := decide (s.profile n x F.LU_PATH_PROFILE_LBL_FILT + 3 ≤ lab.2)
  let lnew := lacc && label != x.accLabel
  let fmt := s.pathFmt t x
  let (tr, msg) := traceStep fmt x.trace j
  let sig := match msg with
    | some m => traceSig fmt m
    | none => x.traceSig
  let tnew := msg.isSome && sig != x.traceSig
  let y := { x with lab := lab, labOk := x.labOk || lacc, accLabel := if lacc then label else x.accLabel, trace := tr, traceSig := sig }
  let y1 := if y.labOk && y.accLabel == 0 then y else rdiStep (s.profile n x F.LU_PATH_PROFILE_RDI_FILT + 3) y rdi
  let s1 := s.changePath a3 t ((if lnew then 2 ^ bLABEL_NEW else 0) + (if tnew then 2 ^ bTRACE_NEW else 0)) (fun _ => y1)
  match msg with
  | some m => s1.traceCapture a3 t m
  | none => s1

/-- One period of path overhead: trace byte, C2 or V5, G1 (high order), and the bits in which the BIP differs (R144). -/
def State.pathOh (s : State) (a3 : Bool) (t : TA) (j a g bip : Byte) : State :=
  let k := pmKey 0 a3 t
  let lo := decide (5 ≤ taKind t)
  let errs := if lo then popc 2 bip.toNat else popc 8 bip.toNat
  let rei := if lo then a.toNat / 32 % 2 else (if g.toNat / 16 ≤ 8 then g.toNat / 16 else 0)
  let s1 := s.setPath a3 t { s.path a3 t with
    viol := errs, secErr := (s.path a3 t).secErr + (if errs = 0 then 0 else 1), feBits := (s.path a3 t).feBits + (if lo then 0 else rei) }
  let s2 := if errs = 0 then s1 else s1.pmNear k 1 errs
  let s3 := if rei = 0 then s2 else s2.pmFar k
  if s3.suspended a3 t then s3.changePath a3 t 0 PathSt.governed
  else if lo then s3.ohAccept a3 t j (a.toNat / 2 % 8) (a.toNat % 2 == 1)
  else s3.ohAccept a3 t j a.toNat (g.toNat / 8 % 2 == 1)

/-- PATH_OVERHEAD_RECEIVE. -/
def execPathOverheadReceive (a3 : Bool) (t : TA) (j a g bip : Byte) (s : State) : Out :=
  if s.isPath a3 t && s.ptrState a3 t == 0 && !s.rxStopped (taLink t) then done (s.pathOh a3 t j a g bip) else .next s

/-- A path's failure at source comes to say what its causes say (R147). -/
def State.failFollows (s : State) (a3 : Bool) (t : TA) : State :=
  let c := s.pathCause a3 t
  s.watchPaths [(a3, t)] 0 (fun u => u.setPath a3 t { u.path a3 t with failed := c, failRun := 0 })

/-- The failure at source of a path of kind 5 to 7 may change now: at a boundary with FN = 0 mod 4, at or after the second one since its causes
changed (R147). -/
def State.lowFailDue (s : State) (a3 : Bool) (t : TA) : Bool := s.ns == 0 && s.fn % 4 == 0 && decide (2 ≤ (s.path a3 t).failRun)

/-- A system frame boundary for a path: its failure at source, which its causes have left behind since the boundary before, follows them, for a
path of kind 5 to 7 once FN = 0 mod 4 (R147). -/
def State.pathTurn (s : State) (a3 : Bool) (t : TA) : State :=
  let x := s.path a3 t
  if x.failed = s.pathCause a3 t then (if x.failRun = 0 then s else s.setPath a3 t { x with failRun := 0 })
  else
    let s1 := s.setPath a3 t { x with failRun := min 2 (x.failRun + 1) }
    if (if taKind t ≤ 4 then decide (1 ≤ x.failRun) else s1.lowFailDue a3 t) then s1.failFollows a3 t else s1

/-- A system frame boundary for every path, containers before the paths inside them. -/
def State.pathBoundary (s : State) : State :=
  (s.pers.flatMap (fun e => s.luPaths e.1)).foldl (fun u q => u.pathTurn q.1 q.2) s

/-- PATH_FAIL_APPLY on a path: its failure at source follows its causes at once, or, for kinds 5 to 7, where it is due (R147). -/
def State.pathFail (s : State) (a3 : Bool) (t : TA) : State :=
  if s.isPath a3 t && (decide (taKind t ≤ 4) || s.lowFailDue a3 t) then s.failFollows a3 t else s

-- DEG (R145)

/-- A second of the time base ends for a path; a stopped receive island judges none (Table 14-11). -/
def State.degSecond (s : State) (a3 : Bool) (t : TA) : State :=
  let n := taLink t
  let x := s.path a3 t
  let blocks := if 5 ≤ taKind t then 2000 else 8000
  let bad := decide (s.profile n x F.LU_PATH_PROFILE_DEGTHR * blocks ≤ 100 * x.secErr)
  let m := s.profile n x F.LU_PATH_PROFILE_DEGM
  let r := if bad then (x.degRun.1 + 1, 0) else (0, x.degRun.2 + 1)
  let eval := !s.suspended a3 t && !(x.labOk && x.accLabel == 0) && !s.rxStopped n
  s.changePath a3 t 0 (fun y =>
    if eval then { y with secErr := 0, degRun := r, deg := if m ≤ r.1 then true else if m ≤ r.2 then false else y.deg }
    else { y with secErr := 0 })

-- Journal commands (R150, R152)

/-- The ring lies within the die's SCRATCH partition. -/
def State.jrnFits (s : State) (d : Nat) : Bool :=
  let lo := dramBase d + s.partStart d 4
  (s.partsOf d).scratch != 0 && decide (lo ≤ jrnBase s d)
    && decide (jrnBase s d + 16 * jrnSize s d ≤ lo + (s.partsOf d).scratch * unitBytes)

/-- A write of DIE_JRN_CTRL (R150). -/
def State.writeJrnCtrl (s : State) (d : Nat) (v : Word) : State :=
  let r := R.DIE_JRN_CTRL d
  let on := s.flag r F.DIE_JRN_CTRL_ENABLE
  let s1 := if fget v F.DIE_JRN_CTRL_ERR = 1 then s.put r F.DIE_JRN_CTRL_ERR 0 else s
  let s2 := if on then s1 else s1.put r F.DIE_JRN_CTRL_SIZE_LOG2 (clampNat 12 24 (fget v F.DIE_JRN_CTRL_SIZE_LOG2))
  if fget v F.DIE_JRN_CTRL_ENABLE = 0 then (s2.put r F.DIE_JRN_CTRL_ENABLE 0).setStaged d []
  else if on then s2
  else if s2.jrnFits d then ((s2.put r F.DIE_JRN_CTRL_ENABLE 1).wr (R.DIE_JRN_WR d) 0).wr (R.DIE_JRN_RD d) 0
  else s2.put r F.DIE_JRN_CTRL_ERR 1

/-- A write of DIE_JRN_RD (R152). -/
def State.writeJrnRd (s : State) (d : Nat) (v : Word) : State :=
  if fnDelta v.toNat (s.rd (R.DIE_JRN_WR d)).toNat ≤ jrnSize s d then s.wr (R.DIE_JRN_RD d) v else s

/-- JOURNAL_ENABLE: a write of DIE_JRN_CTRL with ENABLE = 1 and the SIZE_LOG2 given. -/
def execJournalEnable (p : Port) (d : Fin 4) (size : Fin 32) (s : State) : Out :=
  .next (hostReg p (.journalEnable p d size) (fun t => t.writeJrnCtrl d (BitVec.ofNat 32 (2 ^ 31 + size.val))) s)

/-- JOURNAL_RD_WRITE. -/
def execJournalRdWrite (p : Port) (d : Fin 4) (v : Word) (s : State) : Out := .next (hostReg p (.journalRdWrite p d v) (fun t => t.writeJrnRd d v) s)

-- Per-path access (R154, R155)

/-- GO written to LU_PATH_IND_CTRL. -/
def State.pathGo (s : State) (n : Nat) (v : Word) : State :=
  let s1 := s.wr (R.LU_PATH_IND_CTRL n) (v &&& accMask (R.LU_PATH_IND_CTRL n) (fun a => a == .rw))
  { s1 with pathInd := s1.pathInd ++ [(n, s1.rd (R.LU_PATH_IND_CTRL n), s1.rd (R.LU_PATH_IND_DATA0 n))] }

/-- A control word of LU_PATH_IND_CTRL and registers of its layout. -/
def indWord (op : Nat) (a3 : Bool) (t : TA) : Word := BitVec.ofNat 32 (2 ^ 30 * op + egName a3 t)

/-- PATH_IND_READ: GO with WRITE = 0. -/
def execPathIndRead (p : Port) (n : Fin 128) (a3 : Bool) (t : TA) (s : State) : Out :=
  .next (hostReg p (.pathIndRead p n a3 t) (fun u => u.pathGo n (indWord 0 a3 t)) s)

/-- PATH_IND_WRITE: GO with WRITE = 1. -/
def execPathIndWrite (p : Port) (n : Fin 128) (a3 : Bool) (t : TA) (s : State) : Out :=
  .next (hostReg p (.pathIndWrite p n a3 t) (fun u => u.pathGo n (indWord 1 a3 t)) s)

/-- The state of a path as IND_DATA1 to IND_DATA3 give it (Table 06-15). -/
def State.pathStat (s : State) (a3 : Bool) (t : TA) : Word × Word × Word :=
  let x := s.path a3 t
  let ptr := if s.isTG (taLink t) then 3 else x.state
  let out := ((s.gens.find? (fun e => e.1 == egName a3 t)).bind (fun e => e.2.p)).getD 0x3FF
  (BitVec.ofNat 32 (2 ^ 16 * (s.pathBits a3 t) + 2 ^ 8 * x.accLabel + 2 ^ 6 * ptr), BitVec.ofNat 32 (2 ^ 16 * out + x.off), x.traceSig)

/-- CFG bits that exist (Table 06-15). -/
def cfgMask : Word := 0xFF8000FF

/-- Completes the oldest access of LU n. -/
def State.pathIndDone (s : State) (n : Nat) : State :=
  match s.pathInd.find? (fun e => e.1 == n) with
  | none => s
  | some (_, c, v) =>
    let a3 := c.toNat.testBit 24
    let t : TA := c.setWidth 24
    let s1 := ({ s with pathInd := s.pathInd.eraseP (fun e => e.1 == n) }).put (R.LU_PATH_IND_STATUS n) F.LU_PATH_IND_STATUS_DONE 1
    if !(taLink t == n && s.isPath a3 t) then s1.put (R.LU_PATH_IND_STATUS n) F.LU_PATH_IND_STATUS_ERR 1
    else if c.toNat.testBit 30 then s1.setPath a3 t { s1.path a3 t with cfgNext := some (v &&& cfgMask) }
    else
      let (a, b, d) := s1.pathStat a3 t
      (((s1.wr (R.LU_PATH_IND_DATA0 n) ((s1.path a3 t).cfgNext.getD (s1.path a3 t).cfg)).wr (R.LU_PATH_IND_DATA1 n) a).wr (R.LU_PATH_IND_DATA2 n) b).wr
        (R.LU_PATH_IND_DATA3 n) d

/-- PATH_IND_DONE. -/
def execPathIndDone (n : Fin 128) (s : State) : Out := done (s.pathIndDone n)

/-- TRACE_CAPTURE_ARM: LU_PATH_TCAP_CTRL written with ARM = 1 (R155). -/
def execTraceCaptureArm (p : Port) (n : Fin 128) (a3 : Bool) (t : TA) (s : State) : Out :=
  .next (hostReg p (.traceCaptureArm p n a3 t) (fun u =>
    let r := R.LU_PATH_TCAP_CTRL n
    u.wr r ((u.rd r &&& 0x40000000) ||| BitVec.ofNat 32 (2 ^ 31 + egName a3 t))) s)

end Sys2Proof.Machine
end

