-- ==== Sys2Proof/Machine/Section.lean ====
section
/-!
DEFINITION. The receive side of line links: framer, section overhead, defects, rate search (05_line_framing.md), and the partner summary
of R366.
-/

namespace Sys2Proof.Machine

def emptySec : LuSec :=
  ⟨false, 0, [], 0, 0, none, none, 0, (0, 0), (0, 0), (0, 0), (0, 0), (0, 0), 0, ⟨[], none⟩, [], none, (0, 0), (0, 0), false, false, false,
    0, 0, false, false, false, 0, [], 0, 0⟩

def State.secSt (s : State) (n : Nat) : LuSec := look (fun _ => emptySec) s.sec n
def State.setSec (s : State) (n : Nat) (x : LuSec) : State := { s with sec := store id (fun _ => emptySec) s.sec n x }
def State.updSec (s : State) (n : Nat) (f : LuSec → LuSec) : State := s.setSec n (f (s.secSt n))

def lofKey (n w : Nat) : TKey := ⟨.lof, ⟨n, w, 0⟩⟩
def rateHoldKey (n : Nat) : TKey := ⟨.rateHold, ⟨n, 0, 0⟩⟩
def rateTryKey (n : Nat) : TKey := ⟨.rateTry, ⟨n, 0, 0⟩⟩
def beaconKey (n : Nat) : TKey := ⟨.beacon, ⟨n, 0, 0⟩⟩

/-- PERS code of trial i of a search: STM-64 first (R100). -/
def trialCode (sonet : Bool) (i : Nat) : Nat := (if sonet then 4 else 0) + (4 - i % 4)

/-- N of the rate at which the LU receives now. -/
def State.rxN (s : State) (n : Nat) : Option Nat :=
  if s.searching n then persN (trialCode (s.persOf n == 10) (s.secSt n).trial) else s.nLink n

/-- Sticky bit and event of R122. -/
def State.secInd (s : State) (n i : Nat) : State :=
  let s1 := s.setBit (R.LU_SEC_STICKY n) i
  if s1.bit (R.LU_SEC_EVMASK n) i then s1.ev (evLu n) srcSECTION else s1

/-- PM sees the section defects of an LU now (Table 11-1). -/
def State.pmSection (s : State) (n : Nat) : State :=
  if s.isLine n then
    let base := s.secBit n sLOS || s.secBit n sOOF || s.secBit n sLOF
    let s1 := if base then (s.pmNeDef (secKey n)).pmNeDef (msKey n) else s
    let s2 := if s.secBit n sMS_AIS then s1.pmNeDef (msKey n) else s1
    if s.secBit n sMS_RDI then s2.pmFeDef (msKey n) else s2
  else s

/-- A live bit takes a value (R122): sticky bit and event on a change; paths follow LOS, LOF and MS-AIS (R133, R146), and MSP its
conditions (R182), as do the references that name the LU (R235). -/
def State.secSet (s : State) (n i : Nat) (v : Bool) : State :=
  if s.secBit n i = v then s
  else
    let s1 := if i = sLOS ∨ i = sLOF ∨ i = sMS_AIS then
        s.watchPaths (s.luPaths n) 0 (fun t => t.putBit (R.LU_SEC_STATUS n) i v)
      else s.putBit (R.LU_SEC_STATUS n) i v
    let s2 := (s1.secInd n i).skDefect (tapWord 2 false (linkTA n)) (if v then 0 else 2 ^ i) (if v then 2 ^ i else 0)
    (s2.pmSection n).luTouch n

-- TG links (R215, R216)

def tHDR_ERR : Nat := 2
def tFN_SKEW : Nat := 3
def tBLK_EXC : Nat := 4
def tVOID_RX : Nat := 5
def tCAP_NEW : Nat := 6

def emptyTg : TgRx := ⟨(0, 0), (0, 0), (0, 0), (0, 0), (0, 0), false, false, 0⟩
def State.tgSt (s : State) (n : Nat) : TgRx := look (fun _ => emptyTg) s.tg n
def State.setTg (s : State) (n : Nat) (x : TgRx) : State := { s with tg := store id (fun _ => emptyTg) s.tg n x }

/-- Sticky bit and event of R122 in the TG registers. -/
def State.tgInd (s : State) (n i : Nat) : State :=
  let s1 := s.setBit (R.LU_TG_STICKY n) i
  if s1.bit (R.LU_TG_EVMASK n) i then s1.ev (evLu n) srcSECTION else s1

def State.tgSet (s : State) (n i : Nat) (v : Bool) : State :=
  if s.bit (R.LU_TG_STATUS n) i = v then s else (s.putBit (R.LU_TG_STATUS n) i v).tgInd n i

/-- While LOS or LOF is set the other TG defects are cleared; FAILED follows all of them (R215, R216). -/
def State.tgSettle (s : State) (n : Nat) : State :=
  if !s.isTG n then s
  else
    let dark := s.secBit n sLOS || s.secBit n sLOF
    let s1 := if dark then
        ([tHDR_ERR, tFN_SKEW, tBLK_EXC, tVOID_RX].foldl (fun t i => t.tgSet n i false) s).setTg n
          { s.tgSt n with hdr := (0, 0), skew := (0, 0), blk := (0, 0), void := (0, 0) }
      else s
    let failed := dark || [tHDR_ERR, tFN_SKEW, tBLK_EXC, tVOID_RX].any (fun i => s1.bit (R.LU_TG_STATUS n) i)
    let s2 := (s1.tgSet n tFAILED failed).lineRefTouch n
    if failed then s2.pmNeDef (secKey n) else s2

-- Partner (R366)

/-- KIND, and the identity that the partner gives: SIDE, LU, CAP and SERIAL. -/
def State.partnerSeen (s : State) (n : Nat) : Nat × Nat × Nat × Nat × Word :=
  let b := s.msgBytes (R.LU_SEC_BEACON_RX n 0) 16
  let idn := (b.getD 4 0).toNat
  if s.persOf n = 0 ∨ s.secBit n sLOS then (0, 0, 0, 0, 0)
  else if !(if s.searches n then s.flag (R.LU_SEC_RATE n) F.LU_SEC_RATE_FOUND_VALID else (s.secSt n).inFrame) then (0, 0, 0, 0, 0)
  else if s.secBit n sBEACON_VALID then
    (2, idn / 128, idn % 128, (b.getD 9 0).toNat, (b.drop 5).take 4 |>.reverse |> le32)
  else (1, 0, 0, 0, 0)

/-- LU_PARTNER0 and LU_PARTNER1 take what is known; a change of KIND or LOOP sets PARTNER_NEW. -/
def State.putPartner (s : State) (n : Nat) (k side lu cap : Nat) (ser : Word) : State :=
  let loop := if 2 ≤ k ∧ ser = Config.serial.setWidth 32 then 1 else 0
  let rate := if k = 1 ∨ k = 2 then s.rateCode n else 0
  let r := R.LU_PARTNER0 n
  let ch := s.get r F.LU_PARTNER0_KIND != k || s.get r F.LU_PARTNER0_LOOP != loop
  let s1 := (s.wr r (BitVec.ofNat 32 (2 ^ 30 * k + 2 ^ 29 * loop + 2 ^ 28 * side + 2 ^ 20 * cap + 2 ^ 16 * rate + lu))).wr
    (R.LU_PARTNER1 n) ser
  if ch then s1.put (R.LU_SENSE_STATUS n) F.LU_SENSE_STATUS_PARTNER_NEW 1 else s1

/-- The summary follows the section layer; that of a TG link in IF follows its headers (TG_FRAME_RECEIVE). -/
def State.partner (s : State) (n : Nat) : State :=
  if s.isTG n then (if s.secBit n sLOS || !(s.secSt n).inFrame then s.putPartner n 0 0 0 0 0 else s)
  else
    let (k, side, lu, cap, ser) := s.partnerSeen n
    s.putPartner n k side lu cap ser

-- The framer (R103)

/-- FRAME.CAND shows the open candidates. -/
def State.showCands (s : State) (n : Nat) : State :=
  s.put (R.LU_SEC_FRAME n) F.LU_SEC_FRAME_CAND ((s.secSt n).cands.foldl (fun m c => m ||| 2 ^ c.1) 0)

/-- OOF is set, and LOF_SET begins to run: with the value that it has now, so that a write of LU_SEC_TIMERS governs the next run; so does
LOF_CLR as the framer reaches IF (DESIGN CHOICE, notes/assumptions/91.md). -/
def State.setOof (s : State) (n : Nat) : State :=
  let s1 := if s.secBit n sOOF then s
    else s.startTimer (lofKey n 0) (s.get (R.LU_SEC_TIMERS n) F.LU_SEC_TIMERS_LOF_SET)
  (s1.stopTimer (lofKey n 1)).secSet n sOOF true

/-- The row "Any" of Table 05-2; what is known of the partner follows (R366). -/
def State.toSearch (s : State) (n : Nat) : State :=
  (((s.updSec n (fun x => { x with inFrame := false, cands := [], errRun := 0 })).showCands n).setOof n).partner n

/-- Opens a candidate with no confirmation in the lowest free slot. -/
def LuSec.openCand (x : LuSec) (pos : Nat) : LuSec :=
  match [0, 1, 2, 3].find? (fun k => !x.cands.any (fun c => c.1 == k)) with
  | some k => { x with cands := x.cands ++ [(k, pos, 0)] }
  | none => x

/-- The time of LOS or LOF of a rate-search LU runs (R100). -/
def State.rateHold (s : State) (n : Nat) : State :=
  if s.secBit n sLOS || s.secBit n sLOF then
    (if s.timerOn (rateHoldKey n) then s else s.startTimer (rateHoldKey n) (msFrames 100))
  else s.stopTimer (rateHoldKey n)

/-- SEARCHING takes a value; the paths of the LU follow (R133), and so do the references that name it (R233, R235). -/
def State.setSearching (s : State) (n : Nat) (v : Bool) : State :=
  (s.watchPaths (s.luPaths n) 0 (fun t => t.put (R.LU_SEC_RATE n) F.LU_SEC_RATE_SEARCHING (if v then 1 else 0))).lineRefTouch n

/-- The rate under trial has framed (R100). -/
def State.rateFound (s : State) (n : Nat) : State :=
  if s.searching n then
    let c := trialCode (s.persOf n == 10) (s.secSt n).trial
    (((((s.setSearching n false).stopTimer (rateTryKey n)).updSec n (fun x => { x with rateUp := s.up })).put (R.LU_SEC_RATE n)
      F.LU_SEC_RATE_FOUND c).put (R.LU_SEC_RATE n) F.LU_SEC_RATE_FOUND_VALID 1).secInd n sRATE_NEW
  else s

/-- The framer reaches IF at a candidate (Table 05-2). At another alignment than before, the parities of the frame before are not those of a
frame at this one, and the first frame is checked for neither B1 nor B2 (DESIGN CHOICE, notes/assumptions/91.md). -/
def State.acquire (s : State) (n pos : Nat) : State :=
  let x := s.secSt n
  let x1 := { x with inFrame := true, cands := [], errRun := 0, align := pos }
  let x2 := if pos = x.align then x1 else { x1 with bip8 := none, bip24 := none }
  let s1 := ((s.setSec n x2).showCands n).satInc (R.LU_SEC_FRAME n) F.LU_SEC_FRAME_ACQUIRED
  let s2 := ((s1.stopTimer (lofKey n 0)).startTimer (lofKey n 1) (s1.get (R.LU_SEC_TIMERS n) F.LU_SEC_TIMERS_LOF_CLR)).secSet n sOOF false
  (s2.rateFound n).partner n

/-- FRAMING_PATTERN_SIGHTED: the framing pattern ended at bit position `pos` of the frame period. -/
def execFramingPatternSighted (n : Fin 128) (pos : Nat) (s : State) : Out :=
  let x := s.secSt n
  if s.persOf n != 0 && !s.rxStopped n && !x.inFrame && !s.secBit n sLOS && !x.cands.any (fun c => c.2.1 == pos) then
    .next ((s.setSec n (x.openCand pos)).showCands n)
  else .next s

/-- CANDIDATE_CONFIRM_TIME: the confirmation time of candidate k; whether the pattern is present there, and whether B1 agrees
(R103, R104), in whose place the header CRC stands on a TG link (R214). -/
def execCandidateConfirmTime (n : Fin 128) (k : Fin 4) (present b1ok : Bool) (s : State) : Out :=
  let x := s.secSt n
  match x.cands.find? (fun c => c.1 == k.val) with
  | none => .next s
  | some (_, pos, conf) =>
    if s.rxStopped n || s.secBit n sLOS || x.inFrame then .next s
    else
      let b1 := b1ok || (!s.isTG n && !s.flag (R.LU_SEC_CTRL n) F.LU_SEC_CTRL_B1_QUALIFY)
      let c := 2 + s.get (R.LU_SEC_CTRL n) F.LU_SEC_CTRL_CONFIRM
      if present && b1 then
        (if c ≤ conf + 1 then done (s.acquire n pos)
         else .next (s.setSec n { x with cands := x.cands.map (fun e => if e.1 = k.val then (e.1, e.2.1, conf + 1) else e) }))
      else
        let s1 := (s.setSec n { x with cands := x.cands.filter (fun e => e.1 != k.val) }).showCands n
        .next (if present && !s.isTG n then s1.satInc (R.LU_SEC_FRAME n) F.LU_SEC_FRAME_B1_DROPS else s1)

/-- FRAMER_RESYNC: RESYNC written. -/
def execFramerResync (p : Port) (n : Fin 128) (s : State) : Out :=
  done (hostReg p (.framerResync p n) (fun t => if t.persOf n = 0 then t else t.toSearch n) s)

-- LOS and LOF (Table 05-5)

/-- LOS_SET in ns. -/
def State.losSet (s : State) (n : Nat) : Nat := 100 * s.get (R.LU_SEC_TIMERS n) F.LU_SEC_TIMERS_LOS_SET

/-- LOS_DECLARE: signal detect is low, or there has been no transition for `quiet` ns. -/
def execLosDeclare (n : Fin 128) (low : Bool) (quiet : Nat) (s : State) : Out :=
  if s.persOf n != 0 && !s.rxStopped n && !s.secBit n sLOS && (low || decide (s.losSet n ≤ quiet)) then done (((((s.secSet n sLOS true).toSearch n).rateHold n).partner n).tgSettle n) else .next s

/-- RX_DESCR_OFF as written governs the frames received from here on (R107). -/
def State.latchRx (s : State) (n : Nat) : State :=
  s.updSec n (fun x => { x with rxOff := s.flag (R.LU_SEC_CTRL n) F.LU_SEC_CTRL_RX_DESCR_OFF })

/-- TX_SCR_OFF as written governs the frames sent from here on (R107). -/
def State.latchTx (s : State) (n : Nat) : State :=
  s.updSec n (fun x => { x with txOff := s.flag (R.LU_SEC_CTRL n) F.LU_SEC_CTRL_TX_SCR_OFF })

/-- LOS_CLEAR: transitions and signal detect have been present for `clean` ns. -/
def execLosClear (n : Fin 128) (clean : Nat) (s : State) : Out :=
  if s.persOf n != 0 && !s.rxStopped n && s.secBit n sLOS && decide (125000 ≤ clean) then
    done (((((s.secSet n sLOS false).latchRx n).rateHold n).partner n).tgSettle n)
  else .next s

/-- LOF_DECLARE: OOF has held for LOF_SET frames. -/
def State.lofDeclare (s : State) (n : Nat) : State :=
  let s1 := (s.stopTimer (lofKey n 0)).secSet n sLOF true
  ([sRS_TIM, sMS_AIS, sMS_RDI, sMS_EXC, sMS_DEG].foldl (fun t i => t.secSet n i false) s1).rateHold n

def execLofDeclare (n : Fin 128) (s : State) : Out :=
  if s.secBit n sOOF && !s.rxStopped n && !s.secBit n sLOF && s.timerDone (lofKey n 0) then done ((s.lofDeclare n).tgSettle n) else .next s

/-- Every count of consecutive frames or messages starts again (R118). -/
def LuSec.restart (x : LuSec) : LuSec :=
  { x with k1 := (0, 0), k2 := (0, 0), aisRun := (0, 0), rdiRun := (0, 0), s1 := (0, 0), s1Wait := 0, j0 := ⟨[], x.j0.acc⟩, sf := (0, 0),
           sd := (0, 0) }

/-- RS-TIM follows the accepted trace (R114). While LOS is set it keeps its state, but TIM_MON written to 0 clears it then too: the text of
R118 and Table 05-5 say both, and the table is followed (DEDUCED, notes/assumptions/91.md). -/
def State.secTim (s : State) (n : Nat) : State :=
  let fmt := s.get (R.LU_SEC_CTRL n) F.LU_SEC_CTRL_TRACE_FMT
  let tim := match (s.secSt n).j0.acc with
    | some m => s.flag (R.LU_SEC_CTRL n) F.LU_SEC_CTRL_TIM_MON &&
        traceCmp fmt m != traceCmp fmt (s.msgBytes (R.LU_SEC_J0_EXP n 0) (traceLen fmt))
    | none => false
  if s.persOf n = 0 then s
  else if s.secBit n sLOS && s.flag (R.LU_SEC_CTRL n) F.LU_SEC_CTRL_TIM_MON then s
  else s.secSet n sRS_TIM (tim && !s.secBit n sLOF)

/-- LOF_CLEAR: IF has held for LOF_CLR frames, and LOS is not set. -/
def execLofClear (n : Fin 128) (s : State) : Out :=
  if s.secBit n sLOF && !s.rxStopped n && (s.secSt n).inFrame && !s.secBit n sLOS && s.timerDone (lofKey n 1) then
    done ((((s.stopTimer (lofKey n 1)).updSec n LuSec.restart).secSet n sLOF false).rateHold n |>.secTim n |>.tgSettle n)
  else .next s

-- Rate search (R100, R101)

/-- A trial begins at rate i, with 2 ms to lock and 1 ms more to frame. -/
def State.tryRate (s : State) (n i : Nat) : State :=
  ((s.updSec n (fun x => { x with trial := i })).startTimerNs (rateTryKey n) 3000000).toSearch n

/-- The search starts again with FOUND kept. -/
def State.rateRestart (s : State) (n : Nat) : State := (s.setSearching n true).tryRate n 0

/-- The trial of a rate is over: 2 ms without lock, or 1 ms after a lock within the 2 ms (R100). -/
def State.trialOver (s : State) (n : Nat) (lock : Option Nat) : Bool :=
  match s.timer (rateTryKey n), lock with
  | some d, none => decide (d ≤ s.clk + 1000000)
  | some d, some l => decide (l ≤ 2000000) && decide (d + l ≤ s.clk + 2000000)
  | none, _ => false

/-- RATE_TRY_TIMEOUT: the search moves to the next rate. -/
def execRateTryTimeout (n : Fin 128) (lock : Option Nat) (s : State) : Out :=
  if s.searching n && !s.rxStopped n && s.trialOver n lock then done (s.tryRate n (((s.secSt n).trial + 1) % 4)) else .next s

/-- RATE_SEARCH_AUTO_RESTART. -/
def execRateSearchAutoRestart (n : Fin 128) (s : State) : Out :=
  if s.searches n && !s.rxStopped n && s.timerDone (rateHoldKey n) then
    done ((s.startTimer (rateHoldKey n) (msFrames 100)).rateRestart n)
  else .next s

/-- RATE_SEARCH_RESTART: RESTART written. -/
def execRateSearchRestart (p : Port) (n : Fin 128) (s : State) : Out :=
  done (hostReg p (.rateSearchRestart p n) (fun t => if t.searches n then t.rateRestart n else t) s)

/-- The transmit rate that R101 gives. -/
def State.wantTx (s : State) (n : Nat) : Nat :=
  let d := s.get (R.LU_SEC_RATE n) F.LU_SEC_RATE_TX_DEFAULT
  let base := if s.persOf n = 10 then 4 else 0
  if s.flag (R.LU_SEC_RATE n) F.LU_SEC_RATE_FOUND_VALID then s.get (R.LU_SEC_RATE n) F.LU_SEC_RATE_FOUND
  else if base + 1 ≤ d ∧ d ≤ base + 4 then d else base + 1

/-- A rate has been found, so that MS-AIS is sent no longer (R101, R117). -/
def State.rateValid (s : State) (n : Nat) : Bool := s.flag (R.LU_SEC_RATE n) F.LU_SEC_RATE_FOUND_VALID

/-- The transmit rate follows (R101). A change that the search made puts the framer in SEARCH (Table 05-2); one that a write of TX_DEFAULT
made does not. The first frame at another rate has no frame of its rate before it, whose parity it could carry, and B1 and B2 are 0 in it
(DESIGN CHOICE, notes/assumptions/91.md). -/
def State.txRateStep (s : State) (n : Nat) : State :=
  if !s.searches n then s
  else
    let s0 := s.updSec n (fun x => { x with txFound := s.rateValid n })
    if s.wantTx n = (s.secSt n).txRate then s0
    else
      let s1 := s0.updSec n (fun x => { x with txRate := s.wantTx n, txB1 := 0, txB2 := [] })
      if s.rateValid n then s1.toSearch n else s1

/-- N of the rate at which LU n sends the present frame (R101); none for OFF, and where the search had found no rate as the frame began. -/
def State.outN (s : State) (n : Nat) : Option Nat :=
  if s.searches n then (if (s.secSt n).txFound then persN (s.secSt n).txRate else none) else persN (s.persOf n)

/-- N of the rate at which LU n sends uptime frame ef: of a frame to come, the rate that is found now. -/
def State.outNAt (s : State) (n ef : Nat) : Option Nat := if ef ≤ s.up then s.outN n else s.nLink n

/-- TX_RATE_CHANGE: at the boundary after the change of FOUND the transmit rate follows, where FRAME_BOUNDARY has not carried it out yet. -/
def execTxRateChange (n : Fin 128) (s : State) : Out :=
  if s.ns = 0 ∧ (s.secSt n).rateUp < s.up then done (s.txRateStep n) else .next s

-- Scrambling (R106)

/-- The scrambler's byte from a state of seven bits, and its next state: 1 + x^6 + x^7. -/
def scrStep : Nat → BitVec 7 → Nat → Nat × BitVec 7
  | 0, st, acc => (acc, st)
  | k + 1, st, acc =>
    let o := st.getLsbD 6
    let nb := o ^^ st.getLsbD 5
    scrStep k ((st <<< 1) ||| (if nb then 1 else 0)) (2 * acc + (if o then 1 else 0))

/-- Scrambles bytes from a state. -/
def scrFrom (st : BitVec 7) : List Byte → List Byte
  | [] => []
  | b :: t => let (k, st') := scrStep 8 st 0; (b ^^^ BitVec.ofNat 8 k) :: scrFrom st' t

/-- Scrambles, or descrambles, a frame of order N: every byte after the first row of section overhead. -/
def scramble (n : Nat) (f : List Byte) : List Byte := f.take (9 * n) ++ scrFrom 0x7F (f.drop (9 * n))

-- Parities (R110, R111)

/-- BIP-8 of bytes. -/
def bip8 (l : List Byte) : Byte := l.foldl (fun a b => a ^^^ b) 0

/-- Adds bytes to a BIP of k interleaved bytes, from interleave position i on. -/
def bipInto (k : Nat) : Nat → List Byte → List Byte → List Byte
  | _, acc, [] => acc
  | i, acc, b :: t => bipInto k ((i + 1) % k) (acc.set i (acc.getD i 0 ^^^ b)) t

/-- A frame without rows 1 to 3 of its section overhead. -/
def noRsoh (n : Nat) (f : List Byte) : List Byte :=
  ((List.range 3).flatMap (fun r => (f.drop (270 * n * r + 9 * n)).take (261 * n))) ++ f.drop (810 * n)

/-- BIP-24N of a frame. -/
def bip24 (n : Nat) (f : List Byte) : List Byte := bipInto (3 * n) 0 (List.replicate (3 * n) 0) (noRsoh n f)

/-- Bits that differ between two lists of bytes. -/
def bitErrs (a b : List Byte) : Nat := (List.zipWith (fun x y => popc 8 (x ^^^ y).toNat) a b).foldl (· + ·) 0

/-- Byte of row r, column c of a frame of order N, both from 0. -/
def ohByte (n : Nat) (f : List Byte) (r c : Nat) : Byte := f.getD (270 * n * r + c) 0

/-- Cap of M1 (R111). -/
def m1Cap (n : Nat) : Nat := min 255 (24 * n)

-- One received frame (R102 to R119)

/-- OOF_N (R103). -/
def State.oofN (s : State) (n : Nat) : Nat := 4 + s.get (R.LU_SEC_CTRL n) F.LU_SEC_CTRL_OOF_EXTRA

def ctrB1 (n : Nat) : Ctr := ⟨R.LU_SEC_B1_LO n, R.LU_SEC_B1_HI n⟩
def ctrB2 (n : Nat) : Ctr := ⟨R.LU_SEC_B2_LO n, R.LU_SEC_B2_HI n⟩
def ctrREI (n : Nat) : Ctr := ⟨R.LU_SEC_REI_LO n, R.LU_SEC_REI_HI n⟩
def ctrOOF (n : Nat) : Ctr := ⟨R.LU_SEC_OOF_LO n, R.LU_SEC_OOF_HI n⟩

/-- The framing pattern at the alignment (R102). -/
def framingOK (k : Nat) (f : List Byte) : Bool := (f.drop (3 * k - 3)).take 6 == [0xF6, 0xF6, 0xF6, 0x28, 0x28, 0x28]

/-- The framing pattern of a frame received in IF. -/
def State.rxFraming (s : State) (n k : Nat) (f : List Byte) : State :=
  let x := s.secSt n
  if !x.inFrame then s
  else if framingOK k f then s.setSec n { x with errRun := 0 }
  else if x.errRun + 1 < s.oofN n then s.setSec n { x with errRun := x.errRun + 1 }
  else
    let x1 := { x with inFrame := false, errRun := 0, cands := [] }
    (((s.setSec n (x1.openCand x.align)).showCands n).setOof n).addCtr (ctrOOF n) 1

/-- B1 (R110): `line` as received, `f` descrambled. -/
def State.rxB1 (s : State) (n k : Nat) (line f : List Byte) : State :=
  let x := s.secSt n
  let e := match x.bip8 with
    | some b => if x.inFrame then popc 8 (b ^^^ ohByte k f 1 0).toNat else 0
    | none => 0
  let s1 := s.setSec n { x with bip8 := some (bip8 line) }
  if e = 0 then s1 else (s1.addCtr (ctrB1 n) e).pmNear (secKey n) 1 e

/-- B2 (R111, R119). -/
def State.rxB2 (s : State) (n k : Nat) (f : List Byte) : State :=
  let x := s.secSt n
  let e := match x.bip24 with
    | some b => bitErrs b ((f.drop (1080 * k)).take (3 * k))
    | none => 0
  let quiet := s.secBit n sLOF || s.secBit n sMS_AIS
  let blk (p : Nat × Nat) : Nat × Nat := if quiet then (0, 0) else (p.1 + 1, p.2 + e)
  let s1 := s.setSec n { x with bip24 := some (bip24 k f), viol := e, sf := blk x.sf, sd := blk x.sd }
  if e = 0 then s1
  else
    let s2 := s1.addCtr (ctrB2 n) e
    if x.inFrame then s2.pmNear (msKey n) 1 e else s2

/-- M1 (R111). -/
def State.rxM1 (s : State) (n k : Nat) (f : List Byte) : State :=
  let v := (ohByte k f 8 (3 * k + 2)).toNat
  if v = 0 ∨ m1Cap k < v then s
  else
    let s1 := s.addCtr (ctrREI n) v
    if (s.secSt n).inFrame then s1.pmFar (msKey n) else s1

/-- K_FILT in frames (R124). -/
def State.kFilt (s : State) (n : Nat) : Nat := 3 + s.get (R.LU_SEC_TIMERS n) F.LU_SEC_TIMERS_K_FILT

/-- K2_ACC bits 2 to 0: bits 6 to 8 as last received (Table 05-10), which no defect suspends. -/
def State.rxK2last (s : State) (n k : Nat) (f : List Byte) : State :=
  s.put (R.LU_SEC_KRX n) F.LU_SEC_KRX_K2_ACC (s.get (R.LU_SEC_KRX n) F.LU_SEC_KRX_K2_ACC / 8 * 8 + (ohByte k f 4 (6 * k)).toNat % 8)

/-- K1 and K2 bits 1 to 5 (R112). -/
def State.rxK (s : State) (n k : Nat) (f : List Byte) : State :=
  let x := s.secSt n
  let k1 := (ohByte k f 4 (3 * k)).toNat
  let k2 := (ohByte k f 4 (6 * k)).toNat
  let r1 := runStep x.k1 k1
  let r2 := runStep x.k2 (k2 / 8)
  let a1 := s.get (R.LU_SEC_KRX n) F.LU_SEC_KRX_K1_ACC
  let a2 := s.get (R.LU_SEC_KRX n) F.LU_SEC_KRX_K2_ACC
  let n1 := if s.kFilt n ≤ r1.2 then k1 else a1
  let n2 := if s.kFilt n ≤ r2.2 then k2 / 8 else a2 / 8
  let s1 := ((s.setSec n { x with k1 := r1, k2 := r2 }).put (R.LU_SEC_KRX n) F.LU_SEC_KRX_K1_ACC n1).put (R.LU_SEC_KRX n)
    F.LU_SEC_KRX_K2_ACC (n2 * 8 + s.get (R.LU_SEC_KRX n) F.LU_SEC_KRX_K2_ACC % 8)
  if n1 ≠ a1 ∨ n2 ≠ a2 / 8 then s1.secInd n sK_NEW else s1

/-- MS-AIS and MS-RDI from K2 bits 6 to 8 (R118). -/
def State.rxK2low (s : State) (n k : Nat) (f : List Byte) : State :=
  let x := s.secSt n
  let v := (ohByte k f 4 (6 * k)).toNat % 8
  let ra := if v = 7 then (x.aisRun.1 + 1, 0) else (0, x.aisRun.2 + 1)
  let rr := if v = 6 then (x.rdiRun.1 + 1, 0) else (0, x.rdiRun.2 + 1)
  let s1 := s.setSec n { x with aisRun := ra, rdiRun := rr }
  let ais := if s.kFilt n ≤ ra.1 then true else if s.kFilt n ≤ ra.2 then false else s.secBit n sMS_AIS
  let s2 := s1.secSet n sMS_AIS ais
  if ais then [sMS_RDI, sMS_EXC, sMS_DEG].foldl (fun t i => t.secSet n i false) s2
  else s2.secSet n sMS_RDI (if s.kFilt n ≤ rr.1 then true else if s.kFilt n ≤ rr.2 then false else s.secBit n sMS_RDI)

/-- S1 (R113). A byte with the accepted bits 5 to 8 and other bits 1 to 4 is no new S1, and S1_ACC keeps the byte accepted first
(notes/assumptions/91.md). -/
def State.rxS1 (s : State) (n k : Nat) (f : List Byte) : State :=
  let x := s.secSt n
  let b := (ohByte k f 8 0).toNat
  let r := runStep x.s1 (b % 16)
  let acc := decide (s.get (R.LU_SEC_TIMERS n) F.LU_SEC_TIMERS_S1_FILT ≤ r.2)
  let s1 := s.setSec n { x with s1 := r, s1Wait := if acc then 0 else x.s1Wait + 1 }
  if !acc then s1
  else
    let s2 := s1.secSet n sS1_UNSTABLE false
    if s2.get (R.LU_SEC_S1 n) F.LU_SEC_S1_S1_ACC % 16 = b % 16 then s2.refsS1 n
    else ((s2.put (R.LU_SEC_S1 n) F.LU_SEC_S1_S1_ACC b).secInd n sS1_NEW).refsS1 n

/-- J0 (R114). -/
def State.rxJ0 (s : State) (n k : Nat) (f : List Byte) : State :=
  let x := s.secSt n
  let (tr, msg) := traceStep (s.get (R.LU_SEC_CTRL n) F.LU_SEC_CTRL_TRACE_FMT) x.j0 (ohByte k f 0 (6 * k))
  let s1 := s.setSec n { x with j0 := tr }
  match msg with
  | none => s1
  | some m =>
    let full := m ++ List.replicate (64 - m.length) 0
    let s2 := if s1.msgBytes (R.LU_SEC_J0_ACC n 0) 64 = full then s1 else (s1.putMsg (R.LU_SEC_J0_ACC n 0) full).secInd n sJ0_NEW
    s2.secTim n

/-- CRC-8 of R115 of bytes: x^8 + x^2 + x + 1. -/
def crc8 (l : List Byte) : Byte :=
  l.foldl (fun c b => (List.range 8).foldl (fun x _ => if x.getLsbD 7 then (x <<< 1) ^^^ 7 else x <<< 1) (c ^^^ b)) 0

/-- The beacon (R116). -/
def State.rxBeacon (s : State) (n k : Nat) (f : List Byte) : State :=
  let x := s.secSt n
  let b := ohByte k f 0 (7 * k)
  let i := ohByte k f 0 (7 * k + 1)
  let l := if i = 0xB0 then [b] else if i = BitVec.ofNat 8 (0xB0 + x.bcn.length) ∧ x.bcn ≠ [] then x.bcn ++ [b] else []
  let broke := (l == [] || (l.length == 1 && x.bcn != []))
  if l.length < 16 then s.setSec n { x with bcn := l, bcnLast := if broke then none else x.bcnLast }
  else if crc8 (l.take 15) ≠ l.getD 15 0 then s.setSec n { x with bcn := [], bcnLast := none }
  else
    let s1 := s.setSec n { x with bcn := [], bcnLast := some l }
    let s2 := if s1.secBit n sBEACON_VALID then s1.startTimer (beaconKey n) 64 else s1
    if x.bcnLast ≠ some l then s2
    else
      (((s2.putMsg (R.LU_SEC_BEACON_RX n 0) l).startTimer (beaconKey n) 64).secSet n sBEACON_VALID true).secInd n sBEACON_NEW

/-- f at BER = 10^-x, in units of 10^-30 rounded down (R119: (1 - e^(-1602/10^x)) / 2). -/
def berFraction : Nat → Nat
  | 3 => 399253435758679363244824231288
  | 4 => 74013311374921129699212755265
  | 5 => 7946181147145919326780464210
  | 6 => 800358741477760671614040468
  | 7 => 80093584332601212711525730
  | 8 => 8009935840242613561831585
  | 9 => 800999358399342614796782
  | _ => 80099993583990342614920

/-- v violations of order N in w frames reach a BER of 10^-x. The fraction is irrational, so that none is met exactly. -/
def berReached (k w v x : Nat) : Bool := decide (berFraction x * (24 * k * w) < 10 ^ 30 * v)

/-- Block length of exponent x (Table 05-6). -/
def berFrames (x : Nat) : Nat := 8 ^ (x - 1)

/-- The end of an SF or SD block (R119); neither defect is evaluated while LOS, LOF or MS-AIS is set (R118). -/
def State.berEnd (s : State) (n k : Nat) (sd : Bool) : State :=
  let x := s.secSt n
  let e := s.get (R.LU_SEC_BER n) (if sd then F.LU_SEC_BER_SD_EXP else F.LU_SEC_BER_SF_EXP)
  let b := if sd then x.sd else x.sf
  let bit := if sd then sMS_DEG else sMS_EXC
  let s1 := s.setSec n (if sd then { x with sd := (0, 0) } else { x with sf := (0, 0) })
  if [sLOS, sLOF, sMS_AIS].any (fun i => s.secBit n i) then s1
  else if berReached k (berFrames e) b.2 e then s1.secSet n bit true
  else if berReached k (berFrames e) b.2 (e + 1) then s1 else s1.secSet n bit false

/-- The SF block or the SD block has its full number of frames. -/
def State.berFull (s : State) (n : Nat) (sd : Bool) : Bool :=
  let x := s.secSt n
  decide (berFrames (s.get (R.LU_SEC_BER n) (if sd then F.LU_SEC_BER_SD_EXP else F.LU_SEC_BER_SF_EXP)) ≤ (if sd then x.sd else x.sf).1)

/-- The blocks that end with the present frame. -/
def State.berStep (s : State) (n k : Nat) : State :=
  [false, true].foldl (fun t sd => if t.berFull n sd then t.berEnd n k sd else t) s

/-- LINE_FRAME_RECEIVE's effect: a frame as it stands on the line, at the framer's alignment or flywheel. -/
def State.lineFrame (s : State) (n k : Nat) (line : List Byte) : State :=
  let f := if (s.secSt n).rxOff then line else scramble k line
  let s1 := ((((s.rxFraming n k f).rxB1 n k line f).rxB2 n k f)).rxM1 n k f |>.rxK2last n k f
  let s2 := if s1.secBit n sLOF then s1 else (((s1.rxK n k f).rxK2low n k f).rxS1 n k f).rxJ0 n k f
  (((s2.berStep n k).rxBeacon n k f).latchRx n).partner n

/-- LINE_FRAME_RECEIVE. -/
def execLineFrameReceive (n : Fin 128) (frame : List Byte) (s : State) : Out :=
  match s.rxN n with
  | none => .next s
  | some k =>
    if s.isLine n && !s.rxStopped n && !s.secBit n sLOS && frame.length == frameBytes k then done (s.lineFrame n k frame) else .next s

-- Timed ends

/-- S1_UNSTABLE_DECLARE (R113). -/
def execS1UnstableDeclare (n : Fin 128) (s : State) : Out :=
  if s.isLine n && !s.rxStopped n && decide (256 ≤ (s.secSt n).s1Wait) then done (s.secSet n sS1_UNSTABLE true) else .next s

/-- BEACON_VALID_TIMEOUT (R116). -/
def execBeaconValidTimeout (n : Fin 128) (s : State) : Out :=
  if s.secBit n sBEACON_VALID && !s.rxStopped n && s.timerDone (beaconKey n) then
    done (((s.stopTimer (beaconKey n)).secSet n sBEACON_VALID false).partner n)
  else .next s

/-- BER_BLOCK_END: the SF block (false) or the SD block (true) has its full number of frames, and its end is still to be judged. -/
def execBerBlockEnd (n : Fin 128) (sd : Bool) (s : State) : Out :=
  match s.rxN n with
  | none => .next s
  | some k => if s.berFull n sd && !s.rxStopped n then done (s.berEnd n k sd) else .next s

-- Consequent actions (R120)

/-- The causes in the first column of R120. -/
def State.secFailCause (s : State) (n : Nat) : Bool :=
  s.secBit n sLOS || s.secBit n sLOF || s.secBit n sMS_AIS || (s.secBit n sRS_TIM && s.flag (R.LU_SEC_CTRL n) F.LU_SEC_CTRL_TIM_AIS)
    || (s.secBit n sMS_EXC && s.flag (R.LU_SEC_CTRL n) F.LU_SEC_CTRL_EXC_AIS) || s.searching n

/-- The causes marked under MS-RDI. -/
def State.secRdiCause (s : State) (n : Nat) : Bool :=
  s.secBit n sLOS || s.secBit n sLOF || s.secBit n sMS_AIS || (s.secBit n sRS_TIM && s.flag (R.LU_SEC_CTRL n) F.LU_SEC_CTRL_TIM_AIS)

/-- The actions that their causes ask of LU n now: failure at source, and MS-RDI; a TG link fails with its link (R216). -/
def State.wantActs (s : State) (n : Nat) : Bool × Bool :=
  if s.isLine n then (s.secFailCause n, s.secRdiCause n)
  else if s.isTG n then (s.flag (R.LU_TG_STATUS n) F.LU_TG_STATUS_FAILED, (s.secSt n).rdi)
  else ((s.secSt n).fail, (s.secSt n).rdi)

/-- The actions follow their causes. -/
def State.applyActs (s : State) (n : Nat) : State :=
  s.updSec n (fun x => { x with fail := (s.wantActs n).1, rdi := (s.wantActs n).2, actLate := false })

/-- CONSEQUENT_ACTION_APPLY: the actions of LU n follow their causes before the boundary at which they must. -/
def execConsequentActionApply (n : Fin 128) (s : State) : Out := .next (s.applyActs n)

/-- A system frame boundary: actions that differed from their causes at the boundary before follow them, since this is the second one at the
latest (R120). -/
def State.actsStep (s : State) (n : Nat) : State :=
  let x := s.secSt n
  if (x.fail, x.rdi) = s.wantActs n then s.updSec n (fun y => { y with actLate := false })
  else if x.actLate then s.applyActs n
  else s.updSec n (fun y => { y with actLate := true })

/-- What a system frame boundary decides for the section layer of every LU: transmit rate, scrambling, consequent actions. -/
def State.secBoundary (s : State) : State :=
  s.pers.foldl (fun t e => ((t.txRateStep e.1).latchTx e.1).actsStep e.1) s

-- Register writes (R124)

/-- A write of LU_SEC_CTRL: a change of TRACE_FMT clears the accepted trace and RS-TIM (R114), and the criteria of MSP follow TIM_AIS (R182). -/
def State.writeSecCtrl (s : State) (n : Nat) (v : Word) : State :=
  let r := R.LU_SEC_CTRL n
  let old := s.get r F.LU_SEC_CTRL_TRACE_FMT
  let fmt := if fget v F.LU_SEC_CTRL_TRACE_FMT = 3 then old else fget v F.LU_SEC_CTRL_TRACE_FMT
  let s1 := ((s.wr r (v &&& accMask r (fun a => a == .rw))).put r F.LU_SEC_CTRL_CONFIRM (min 2 (fget v F.LU_SEC_CTRL_CONFIRM))).put r
    F.LU_SEC_CTRL_TRACE_FMT fmt
  let s2 := if fmt = old then s1.secTim n
    else ((s1.updSec n (fun x => { x with j0 := ⟨[], none⟩ })).putMsg (R.LU_SEC_J0_ACC n 0) (List.replicate 64 0)).secSet n sRS_TIM false
  let s3 := s2.luTouch n
  if fget v F.LU_SEC_CTRL_RESYNC = 1 ∧ s3.persOf n ≠ 0 then s3.toSearch n else s3

/-- TRACE_FMT_CHANGE: LU_SEC_CTRL written with another TRACE_FMT (R114). -/
def execTraceFmtChange (p : Port) (n : Fin 128) (fmt : Fin 4) (s : State) : Out :=
  done (hostReg p (.traceFmtChange p n fmt) (fun t => t.writeSecCtrl n (fset (t.rd (R.LU_SEC_CTRL n)) F.LU_SEC_CTRL_TRACE_FMT fmt)) s)

/-- A write of LU_SEC_BER (R119). -/
def State.writeSecBer (s : State) (n : Nat) (v : Word) : State :=
  let r := R.LU_SEC_BER n
  let sf := clampNat 3 5 (fget v F.LU_SEC_BER_SF_EXP)
  let sd := clampNat 5 9 (fget v F.LU_SEC_BER_SD_EXP)
  let s1 := if sf = s.get r F.LU_SEC_BER_SF_EXP then s else s.updSec n (fun x => { x with sf := (0, 0) })
  let s2 := if sd = s.get r F.LU_SEC_BER_SD_EXP then s1 else s1.updSec n (fun x => { x with sd := (0, 0) })
  (s2.put r F.LU_SEC_BER_SF_EXP sf).put r F.LU_SEC_BER_SD_EXP sd

/-- BER_THRESHOLD_CHANGE. -/
def execBerThresholdChange (p : Port) (n : Fin 128) (sf sd : Fin 16) (s : State) : Out :=
  .next (hostReg p (.berThresholdChange p n sf sd) (fun t => t.writeSecBer n (BitVec.ofNat 32 (sd.val * 16 + sf.val))) s)

/-- A write of LU_SEC_TIMERS. -/
def State.writeSecTimers (s : State) (n : Nat) (v : Word) : State :=
  let r := R.LU_SEC_TIMERS n
  ((((s.put r F.LU_SEC_TIMERS_S1_FILT (clampNat 3 15 (fget v F.LU_SEC_TIMERS_S1_FILT))).put r F.LU_SEC_TIMERS_K_FILT
    (min 2 (fget v F.LU_SEC_TIMERS_K_FILT))).put r F.LU_SEC_TIMERS_LOS_SET (clampNat 23 1000 (fget v F.LU_SEC_TIMERS_LOS_SET))).put r
    F.LU_SEC_TIMERS_LOF_SET (clampNat 4 80 (fget v F.LU_SEC_TIMERS_LOF_SET))).put r F.LU_SEC_TIMERS_LOF_CLR
    (clampNat 4 80 (fget v F.LU_SEC_TIMERS_LOF_CLR))

/-- A write of LU_SEC_RATE. -/
def State.writeSecRate (s : State) (n : Nat) (v : Word) : State :=
  let s1 := (s.put (R.LU_SEC_RATE n) F.LU_SEC_RATE_TX_DEFAULT (fget v F.LU_SEC_RATE_TX_DEFAULT)).updSec n (fun x => { x with rateUp := s.up })
  if fget v F.LU_SEC_RATE_RESTART = 1 ∧ s1.searches n then s1.rateRestart n else s1

-- Applying a personality (R100, R118, Table 05-2)

/-- A personality of OFF holds LU_SEC_STATUS at 0: live bits that were 1 change, with their sticky bits, and nothing is counted (R122). -/
def State.secOff (s : State) (n : Nat) : State :=
  let old := s.rd (R.LU_SEC_STATUS n)
  let s1 := s.watchPaths (s.luPaths n) 0 (fun t => (t.wr (R.LU_SEC_STATUS n) 0).wr (R.LU_SEC_STICKY n) (t.rd (R.LU_SEC_STICKY n) ||| old))
  (s1.skDefect (tapWord 2 false (linkTA n)) old.toNat 0).luTouch n

/-- An LU without the TG personality has none of the defects of Table 09-3: bits that were 1 change, with their sticky bits, and nothing is
counted (R122, R230; notes/assumptions/98.md). -/
def State.tgOff (s : State) (n : Nat) : State :=
  if s.isTG n then s
  else ((s.wr (R.LU_TG_STICKY n) (s.rd (R.LU_TG_STICKY n) ||| s.rd (R.LU_TG_STATUS n))).wr (R.LU_TG_STATUS n) 0).setTg n emptyTg

/-- The personality of LU n takes effect. BEACON_VALID and its 64 frames go on from one personality to another. A fixed personality shows its
own code in FOUND, which then holds no found rate, so that FOUND_VALID is cleared (notes/assumptions/91.md). -/
def State.applyPers (s : State) (n pers : Nat) : State :=
  let s0 := { s with pers := store id (fun _ => 0) s.pers n pers }.tgOff n
  let s1 := ((s0.setSec n emptySec).put (R.LU_SEC_FRAME n) F.LU_SEC_FRAME_B1_DROPS 0).put (R.LU_SEC_FRAME n) F.LU_SEC_FRAME_ACQUIRED 0
  let s2 := [lofKey n 0, lofKey n 1, rateHoldKey n, rateTryKey n].foldl (fun t k => t.stopTimer k) s1
  if pers = 0 then
    (((s2.stopTimer (beaconKey n)).put (R.LU_SEC_RATE n) F.LU_SEC_RATE_SEARCHING 0).secOff n).partner n
  else
    let s3 := (if pers ≤ 8 then (s2.put (R.LU_SEC_RATE n) F.LU_SEC_RATE_FOUND pers).put (R.LU_SEC_RATE n) F.LU_SEC_RATE_FOUND_VALID 0
      else s2).latchRx n |>.latchTx n
    let s4 := if pers = 9 ∨ pers = 10 then (s3.rateRestart n).updSec n (fun x => { x with txRate := s3.wantTx n, rateUp := s3.up, txFound := s3.rateValid n })
      else (s3.put (R.LU_SEC_RATE n) F.LU_SEC_RATE_SEARCHING 0).toSearch n
    ((((s4.lofDeclare n).partner n).setTg n emptyTg).tgSettle n).luTouch n

end Sys2Proof.Machine
end

