-- ==== Sys2Proof/Machine/Output.lean ====
section
/-!
DEFINITION. What feeds an ingress name, when a source has failed for an egress die, and what an output carries in place of its
cells (R20, R24, R25, R62, R80, R179 to R181, R204, R344).
-/

namespace Sys2Proof.Machine

-- Units (Table 14-8)

/-- The reaction forces the output of LU n. -/
def SafeForce.covers (f : SafeForce) (n : Nat) : Bool :=
  if 47 ≤ f.blk then n == f.blk - 47
  else if 15 ≤ f.blk then luCluster n == f.blk - 15
  else if 7 ≤ f.blk then luRegion n == f.blk - 7
  else if 3 ≤ f.blk then f.src != srcSEAM_PARITY && f.src != srcSEAM_DOWN && luDie n == f.blk - 3
  else true

/-- The reaction fails the ingress tributaries of LU n at source for the egress tributaries of die de. -/
def SafeForce.fails (f : SafeForce) (de n : Nat) : Bool :=
  if 47 ≤ f.blk then n == f.blk - 47
  else if 15 ≤ f.blk then false
  else if 7 ≤ f.blk then luRegion n == f.blk - 7
  else if 3 ≤ f.blk then
    (if f.src = srcSEAM_PARITY ∨ f.src = srcSEAM_DOWN then
       de == f.blk - 3 && luDie n == (f.blk - 3 + 1 + f.detail.toNat / 256 % 4) % 4
     else luDie n == f.blk - 3)
  else false

/-- The output of LU n is forced (R62 item 1, Table 14-12). -/
def State.outForced (s : State) (n : Nat) : Bool :=
  s.grave || s.fullForced || s.retiredLU n || s.rbForced.contains (luRegion n) || s.safe.any (fun f => f.covers n)

/-- The transmitter of LU n is stopped in fence mode (Table 14-11). -/
def State.fenced (s : State) (n : Nat) : Bool := s.safe.any (fun f => f.fence && decide (7 ≤ f.blk) && f.covers n)

/-- The island of region g is stopped in fence mode (Table 14-11). -/
def State.regionStopped (s : State) (g : Nat) : Bool := s.safe.any (fun f => f.fence && f.blk == evRegion g)

/-- Seam port of die de on which die ds arrives (R18). -/
def seamPort (de ds : Nat) : Nat := (ds + 3 - de) % 4

/-- The Seam direction from die ds into die de is in service; a die needs none for its own grains (R19). -/
def State.seamUp (s : State) (ds de : Nat) : Bool := ds == de || s.flag (R.SEAM_STATUS de (seamPort de ds)) F.SEAM_STATUS_UP

-- Failure at source (R62 item 2)

/-- A Seam direction into die de that the grains of LU f need is out of service, under a reaction of Dd.SEAM_DOWN in force (R19): the
reaction fails every direction that is out, not only the one whose loss made the source severe. -/
def State.seamFailed (s : State) (de f : Nat) : Bool :=
  !s.seamUp (luDie f) de && s.safe.any (fun x => x.blk == evDie de && x.src == srcSEAM_DOWN)

/-- The unit that feeds from LU f has failed, whatever the path: retired, in a region that is re-benched, or failed by a reaction. -/
def State.unitFailed (s : State) (de f : Nat) : Bool :=
  s.retiredLU f || s.fullForced || s.rbForced.contains (luRegion f) || s.safe.any (fun x => x.fails de f) || s.seamFailed de f

/-- The path exists in the ingress structure of its link (R83). -/
def State.present (s : State) (t : TA) (nc : Nat) : Bool :=
  taKind t == 0 || (s.srcExists t nc && (match s.nLink (taLink t) with
    | some k => taInRate t nc k
    | none => false))

/-- The protection link's own ingress tributaries are failed while its extra traffic is pre-empted (R181). -/
def State.extraFailed (s : State) (n : Nat) : Bool :=
  match s.mspActing n with
  | some (g, k, 0) =>
      let work (c : Nat) : Bool := decide (1 ≤ c) && decide (c ≤ 14)
      s.arch1n g k && s.flag (R.MSP_CFG g k) F.MSP_CFG_EXTRA &&
        (work (s.get (R.MSP_STATUS g k) F.MSP_STATUS_SEL_CHAN) || work (s.get (R.MSP_STATUS g k) F.MSP_STATUS_BRIDGE_CHAN)
          || work (s.get (R.MSP_REQ g k) F.MSP_REQ_WIN_CHAN) || work (s.k2Rx g k / 16))
  | _ => false

/-- Source t as fed by LU f has failed, as seen by die de. -/
def State.feedFailed (s : State) (de f : Nat) (t : TA) (nc : Nat) : Bool :=
  let u := onLink t f
  s.unitFailed de f || (s.secSt f).fail || s.searching f || !s.present u nc || s.extraFailed (taLink t)
    || (taKind t != 0 && (s.path (s.srcAu3 u) u).failed)

/-- An LU that feeds source t lies in a region that is re-benched (R25). -/
def State.srcBenched (s : State) (t : TA) : Bool :=
  let n := taLink t
  s.rbForced.contains (luRegion (s.feedLU n)) || (match s.mergeAlt n with
    | some m => s.rbForced.contains (luRegion m)
    | none => false)

/-- Source t has failed, as seen by die de: on both feeds, if it is merged (R204). -/
def State.srcFailed (s : State) (de : Nat) (t : TA) (nc : Nat) : Bool :=
  let n := taLink t
  if s.isMergeAlt n then true
  else
    match s.mergeAlt n with
    | some m => s.feedFailed de n t nc && s.feedFailed de m t nc
    | none => s.feedFailed de (s.feedLU n) t nc

-- Members of groups (R166, R170)

/-- The member's path is failed at source: on every LU that feeds its name (R179, R204). -/
def State.memPathFail (s : State) (d : Nat) (m : GrpMem) : Bool :=
  match m.ing with
  | some w => (s.memFeeds (taLink (memTA w))).all (fun f => s.feedFailed d f (memTA w) 0)
  | none => true

def State.memFailed (s : State) (d : Nat) (g : Grp) (m : GrpMem) : Bool :=
  s.memPathFail d m || m.vlom || (m.sqm && !g.lcas) || (m.loa && g.lcas)

/-- A member with multiframe alignment, whose lead can be measured (R170). -/
def State.memAligned (s : State) (d : Nat) (m : GrpMem) : Bool := m.mfi.isSome && !m.vlom && !s.memPathFail d m

/-- The running groups that give member t its deskewed grains (R162). -/
def State.equaliser (s : State) (a3 : Bool) (t : TA) : Option (Nat × Grp × GrpMem) :=
  let w := some (BitVec.ofNat 32 (egName a3 t))
  s.running.findSome? (fun e => if e.2.mode = 2 then (e.2.mem.find? (fun m => m.ing == w)).map (fun m => (e.1, e.2, m)) else none)

/-- A source leaves the deskew as path AIS: its group is not aligned yet, or the member is failed (R166, R174). -/
def State.deskewAis (s : State) (t : TA) : Bool :=
  match s.equaliser (s.srcAu3 t) t with
  | some (x, g, m) => !g.aligned || s.memFailed (grpDie x) g m
  | none => false

-- Selection and substitution

def emptySnc : SncSt := ⟨false, 9, 0, false, 0, none⟩
def State.sncSt (s : State) (k : Nat) : SncSt := look (fun _ => emptySnc) s.snc k
def State.setSnc (s : State) (k : Nat) (x : SncSt) : State := { s with snc := store id (fun _ => emptySnc) s.snc k x }

/-- The source an entry selects. -/
def State.selected (s : State) (r : Rec) : TA := if r.hasSnc && (s.sncSt r.key).alt then r.alt else r.src

/-- The four cases of a gather entry (Table 04-21). -/
inductive Gather where
  | follow | pathAis | unequipped | forced
deriving DecidableEq, Repr

/-- What the read side does with the cells of an entry for LU n, which its words are given to (R62), in its order of precedence; a member of an
EQUALISE group can leave the deskew as path AIS (R166). Whether an output is forced is asked of the LU that sends (R24 item 1): a bridge
gives the protection LU the content of a working link whose own LU is retired (DEDUCED, notes/assumptions/103.md). -/
def State.gatherOn (s : State) (n : Nat) (r : Rec) : Gather :=
  if s.outForced n then .forced
  else if 0 < look (fun _ => 0) s.hitAis r.key then .pathAis
  else if r.typ = tyConnect then (if s.srcFailed (luDie n) (s.selected r) r.nc || s.deskewAis (s.selected r) then .pathAis else .follow)
  else if r.unconn = 1 then .pathAis
  else .unequipped

/-- The same for the LU of the entry's own link. -/
def State.gather (s : State) (r : Rec) : Gather := s.gatherOn (taLink r.eg) r

/-- The link whose cells LU n transmits: a protection link transmits what its bridge gives it (R180); none for the unequipped content
of an idle 1:N protection link. -/
def State.bridgedFrom (s : State) (n : Nat) : Option Nat :=
  match s.mspActing n with
  | some (g, k, 0) =>
      let b := s.get (R.MSP_STATUS g k) F.MSP_STATUS_BRIDGE_CHAN
      if !s.arch1n g k then some (s.mspLink g k 1)
      else if 1 ≤ b ∧ b ≤ 14 then some (s.mspLink g k b)
      else if s.flag (R.MSP_CFG g k) F.MSP_CFG_EXTRA then some n
      else none
  | _ => some n

/-- The balls follow the boundary-scan register (R405). -/
def State.scanDrives (s : State) : Bool := [(0x00 : BitVec 8), 0x03, 0x04, 0x08, 0x09].contains s.tapIr

/-- The cells of OSC_IN and SYNC_IN only observe, as do those of the other inputs; the link lanes, the PCIe lanes and the mate link have
IEEE 1149.6 cells (R404). -/
def ballDrives : Ball → Bool
  | .health | .syncOut | .stationOut _ | .spiClk | .spiCsN | .spiIo _ | .yoke | .faultN | .smbSda | .laneTx _ | .pcieTx _ _ | .mateTx => true
  | _ => false

def ballAc : Ball → Bool
  | .laneTx _ | .laneRx _ | .pcieTx _ _ | .pcieRx _ _ | .mateTx | .mateRx => true
  | _ => false

/-- The level that the core gives a ball, or sees on it, where the model holds one. -/
def State.coreBall (s : State) : Ball → Option Bool
  | .resetN => some (!s.rstLow)
  | .perstN b => some (!(if b then s.perstLow.2 else s.perstLow.1))
  | .arbSelN => some (!s.arbLow)
  | .health => some (s.flag R.PAIR_STATUS F.PAIR_STATUS_HEALTH)
  | .syncOut => some s.syncOut
  | .yoke => some (!s.flag R.PAIR_STATUS F.PAIR_STATUS_YOKE_HELD)
  | .faultN => some (!s.flag R.EVT_SUM_STATUS F.EVT_SUM_STATUS_FAULT_LOW)
  | _ => none

/-- The level on an output ball: what the core gives it, or, while the boundary-scan register drives the balls, its cell's value; none where
HIGHZ lets the ball go (R405). YOKE, HEALTH and FAULT_N are among them. -/
def State.ball (s : State) (b : Ball) : Option Bool :=
  if s.scanDrives && ballDrives b then (if s.tapIr = 0x04 then none else s.scan[Config.scanCell b]?) else s.coreBall b

/-- The balls whose levels the model holds. -/
def heldBalls : List Ball := [.resetN, .perstN false, .perstN true, .arbSelN, .health, .syncOut, .yoke, .faultN]

/-- What n cells of the boundary-scan register capture: the levels that the model holds, and free values for all others (R404). -/
def State.scanCapture (s : State) (n : Nat) : List Bool :=
  (List.range n).map (fun i => ((heldBalls.find? (fun b => Config.scanCell b == i)).bind s.coreBall).getD ((Config.free (s.draw + i)).testBit 0))

/-- The package's own pull on the wire YOKE (R221, R405). -/
def State.yokePull (s : State) : Bool := s.ball .yoke == some false

/-- The package drives its outputs (R219). -/
def State.driving (s : State) : Bool := s.fullActive && s.drive

end Sys2Proof.Machine
end

