-- ==== Sys2Proof/Machine/Group.lean ====
section
/-!
DEFINITION. Virtual concatenation groups, LCAS and deskew (07_concatenation.md).
-/

namespace Sys2Proof.Machine

-- Groups

/-- DESKEW pages of die d, and how many are reserved: by its groups, and by deleted ones until their effect (R171). -/
def State.pagesTotal (s : State) (d : Nat) : Nat := 65536 * (s.partsOf d).deskew
def State.pagesUsed (s : State) (d : Nat) : Nat :=
  ((s.grps.filter (fun e => grpDie e.1 == d)).map (fun e => e.2.pages)).foldl (· + ·) 0
    + ((s.grpGone.filter (fun e => grpDie e.1 == d)).map (fun e => e.2.2.pages)).foldl (· + ·) 0

/-- GRP_DESKEW_FREE, GRP_DESKEW_TOTAL and GRP_COUNT of die d. -/
def State.grpShow (s : State) (d : Nat) : State :=
  ((s.put (R.GRP_DESKEW_FREE d) F.GRP_DESKEW_FREE_PAGES (s.pagesTotal d - s.pagesUsed d)).put (R.GRP_DESKEW_TOTAL d)
    F.GRP_DESKEW_TOTAL_PAGES (s.pagesTotal d)).put (R.GRP_COUNT d) F.GRP_COUNT_GROUPS
    ((s.grps.filter (fun e => grpDie e.1 == d && e.2.st != 0)).length)

-- Members (R165, R166)

def holdKey (x i : Nat) : TKey := ⟨.lcasHold, ⟨x, i, 0⟩⟩
def wtrKey (x i : Nat) : TKey := ⟨.lcasWtr, ⟨x, i, 0⟩⟩
def addKey (x : Nat) : TKey := ⟨.lcasAdd, ⟨x, 0, 0⟩⟩

def ctFIXED : Nat := 0
def ctADD : Nat := 1
def ctNORM : Nat := 2
def ctEOS : Nat := 3
def ctIDLE : Nat := 5
def ctDNU : Nat := 15

/-- The hold-off of member i (R168): it runs from the member's failure, and its end is kept until the failure is over. -/
def State.holdStep (s : State) (x i : Nat) (f : Bool) : State :=
  let g := s.runGrp x
  let hold := fget g.cfg1 F.GRP_CFG1_HOLDOFF
  if !f then s.stopTimer (holdKey x i)
  else if hold = 0 ∨ (g.member i).failed = true then s
  else s.startTimer (holdKey x i) (msFrames 100 * hold)

/-- Takes the member's failure into the report of the sink (R168): SINK is IDLE while CTRL IDLE is received. -/
def State.sinkStep (s : State) (x i : Nat) : State :=
  let g := s.runGrp x
  let m := g.member i
  let f := s.memFailed (grpDie x) g m
  let wtr := fget g.cfg1 F.GRP_CFG1_WTR
  let set (t : State) (v : Nat) : State := t.setRun x ((t.runGrp x).setMem i (fun m => { m with sink := v, failed := f }))
  if g.mode ≠ 3 ∨ !g.lcas then set s m.sink
  else
    let s1 := s.holdStep x i f
    let lasting := f && !s1.timerOn (holdKey x i)
    if m.ctrl = ctIDLE then set (s1.stopTimer (wtrKey x i)) 0
    else if m.sink ≠ 2 then set s1 (if lasting then 2 else 1)
    else if f then set (s1.stopTimer (wtrKey x i)) 2
    else if wtr = 0 then set s1 1
    else if s1.timerOn (wtrKey x i) then set s1 2 else set (s1.startTimer (wtrKey x i) (msFrames 10000 * wtr)) 2

/-- The member is sent with payload by an LCAS source, or by a source without LCAS, which sends CTRL FIXED (R167, R168). -/
def GrpMem.sends (m : GrpMem) : Bool := m.ctrl == ctFIXED || m.ctrl == ctNORM || m.ctrl == ctEOS

/-- Members that carry payload. -/
def State.carry (s : State) (x : Nat) (g : Grp) : Nat :=
  if g.lcas then
    (if g.mode = 3 then (g.mem.filter (fun m => m.sink == 1 && m.sends)).length
     else (g.mem.filter (fun m => m.sends && !s.memFailed (grpDie x) g m)).length)
  else if g.loa || g.mem.any (fun m => s.memFailed (grpDie x) g m) then 0 else g.x

/-- Every unfailed member is aligned, and there is one (Table 07-8). -/
def State.grpAlignedNow (s : State) (x : Nat) (g : Grp) : Bool :=
  let live := g.mem.filter (fun m => !s.memFailed (grpDie x) g m)
  !live.isEmpty && live.all (fun m => s.memAligned (grpDie x) m)

/-- Brings an ACTIVE group in line with its members. -/
def State.grpEval (s : State) (x : Nat) : State :=
  if (s.runGrp x).st ≠ 3 then s
  else
    let s1 := (List.range (s.runGrp x).mem.length).foldl (fun t i => t.sinkStep x i) s
    let g := s1.runGrp x
    let c := s1.carry x g
    let failed := if g.lcas then g.gidm || c == 0 else g.loa || g.mem.any (fun m => s1.memFailed (grpDie x) g m)
    let al := if s1.grpAlignedNow x g then some (g.alignUp.getD s1.up) else none
    s1.setRun x { g with carrying := c, failed := failed, alignUp := al }

/-- The groups that hold an ingress member. -/
def State.grpsOf (s : State) (a3 : Bool) (t : TA) : List Nat :=
  (s.running.filter (fun e => e.2.mem.any (fun m => m.ing == some (BitVec.ofNat 32 (egName a3 t))))).map (fun e => e.1)

/-- A frame begins: whatever fails or restores a member besides its path is seen (R166). -/
def State.grpFrame (s : State) : State := s.running.foldl (fun t e => t.grpEval e.1) s

/-- Members that give the payload of a TERMINATE group, in SQ order (R161, R166, R168). -/
def State.sinkOrder (_ : State) (g : Grp) : List Nat :=
  let all := List.range g.mem.length
  if g.mode ≠ 3 ∨ g.aligned = false then []
  else if g.lcas then
    ((all.filter (fun i => (g.member i).sink == 1 && (g.member i).sends)).map (fun i => ((g.member i).sqAcc, i))).mergeSort
      (fun a b => decide (a.1 ≤ b.1)) |>.map (fun e => e.2)
  else if g.failed then [] else all

/-- PATH_FAIL_APPLY: a path's failure at source, as its groups see it too (R147, R166). -/
def execPathFailApply (a3 : Bool) (t : TA) (s : State) : Out :=
  let s1 := s.pathFail a3 t
  done ((s1.grpsOf a3 t).foldl (fun u x => u.grpEval x) s1)

-- Commands (R174, R175)

def grFIELD : Nat := 1
def grSTATE : Nat := 2
def grMEMBER_KIND : Nat := 3
def grMEMBER_DIE : Nat := 4
def grMEMBER_DUP : Nat := 5
def grUNPOWERED : Nat := 6
def grRETIRED : Nat := 7
def grREBENCH : Nat := 8
def grLIMIT : Nat := 9
def grDESKEW_NONE : Nat := 10
def grDESKEW_SPACE : Nat := 11
def grLCAS_ONLY : Nat := 12
def grBUSY : Nat := 13

/-- Member kinds of a TYPE, X_max, and bytes per member per frame of a kind (Table 07-1). -/
def grpKinds : Nat → List Nat
  | 0 => [2]
  | 1 => [3, 4]
  | 2 => [6]
  | _ => [7]

def grpXMax (typ : Nat) : Nat := if typ ≤ 1 then 256 else 64

def bpf : Nat → Nat
  | 2 => 2349
  | 3 => 783
  | 4 => 765
  | 6 => 35
  | _ => 26

/-- INDEX of a command. -/
def State.grpIndex (s : State) (d i : Nat) : State := s.put (R.GRP_CMD d) F.GRP_CMD_INDEX i

/-- OP and GROUP of a command in GRP_CMD; a command that names no member leaves INDEX as it is. -/
def State.grpCmd (s : State) (d op x : Nat) : State := (s.put (R.GRP_CMD d) F.GRP_CMD_OP op).put (R.GRP_CMD d) F.GRP_CMD_GROUP (x % 1024)

/-- The command's word, and its result for the port (Table 07-10). -/
def State.grpDone (s : State) (p : Port) (d op x code : Nat) : State :=
  let s1 := s.grpCmd d op x
  (s1.put (R.GRP_STATUS p d) F.GRP_STATUS_CODE code).put (R.GRP_STATUS p d) F.GRP_STATUS_DONE 1

/-- Pages that a group needs (R171). -/
def Grp.need (g : Grp) : Nat :=
  if g.mode = 1 then 0
  else (g.mem.map (fun m => cdiv (bpf (taKind (memTA (m.ing.getD 0))) * (g.fd + 6)) 4096)).foldl (· + ·) 0

/-- Every tributary a group names, ingress and, in TERMINATE mode, egress. -/
def Grp.ins (g : Grp) : List Word := g.mem.filterMap (fun m => m.ing)
def Grp.outs (g : Grp) : List Word := if g.mode = 3 then g.mem.map (fun m => m.eg) else []

/-- The first check of Table 07-9 that an ACTIVATE fails. Only a DEFINED group has a header to be checked; every other is refused with STATE
(R174). -/
def State.activateCode (s : State) (x : Nat) : Nat :=
  let d := grpDie x
  let g := s.grp x
  let kinds := grpKinds g.typ
  let ins := g.ins
  let outs := g.outs
  let links := (ins ++ outs).map (fun w => taLink (memTA w))
  let others := (s.grps.filter (fun e => e.1 != x && decide (2 ≤ e.2.st))).map (fun e => e.2)
  let badKind (m : GrpMem) : Bool :=
    match m.ing with
    | none => true
    | some w => !kinds.contains (taKind (memTA w)) || !taFits (memTA w) 0 || !s.srcExists (memTA w) 0
        || memAu3 w != s.srcAu3 (memTA w) || (g.mode == 3 && (!kinds.contains (taKind (memTA m.eg)) || !taFits (memTA m.eg) 0))
  if g.st ≠ 1 then grSTATE
  else if g.mode = 0 ∨ g.x = 0 ∨ grpXMax g.typ < g.x ∨ fget g.cfg0 F.GRP_CFG0_DMAX = 0 ∨ 256 < fget g.cfg0 F.GRP_CFG0_DMAX
      ∨ 100 < fget g.cfg1 F.GRP_CFG1_HOLDOFF ∨ fget g.cfg1 F.GRP_CFG1_RSACK_TO = 0 then grFIELD
  else if g.mem.any badKind then grMEMBER_KIND
  else if links.any (fun n => luDie n != d) then grMEMBER_DIE
  else if ins.eraseDups.length ≠ ins.length ∨ outs.eraseDups.length ≠ outs.length
      ∨ others.any (fun o => o.ins.any ins.contains || o.outs.any outs.contains) then grMEMBER_DUP
  else if links.any (fun n => !s.regionPowered (luRegion n) || s.persOf n == 0) then grUNPOWERED
  else if links.any s.retiredLU then grRETIRED
  else if links.any (fun n => s.benchClaims (luRegion n)) then grREBENCH
  else if 65536 < (((s.grps.filter (fun e => grpDie e.1 == d && e.2.st != 0)).map (fun e => e.2.mem.length)).foldl (· + ·) 0) then grLIMIT
  else if g.mode ≠ 1 ∧ (s.partsOf d).deskew = 0 then grDESKEW_NONE
  else if s.pagesTotal d - s.pagesUsed d < g.need then grDESKEW_SPACE
  else 0

/-- The uptime frame of the first FN = 0 mod 4 at least n frames from now. -/
def State.fnFour (s : State) (n : Nat) : Nat :=
  let a := s.inFrames n
  a + (4 - (s.fn + (a - s.up)) % 4) % 4

/-- DEFINE takes the port's header (Table 07-8). -/
def State.grpDefine (s : State) (p : Port) (d x : Nat) : State :=
  let g := s.grp x
  if 2 ≤ g.st then s.grpDone p d 1 x grSTATE
  else
    let c0 := s.rd (R.GRP_CFG0 p d)
    let n := fget c0 F.GRP_CFG0_X
    let mem := if g.st = 1 ∧ g.x ≤ n then g.mem ++ List.replicate (n - g.mem.length) emptyMem else List.replicate n emptyMem
    ((s.setGrp x { freeGrp with st := 1, cfg0 := c0, cfg1 := s.rd (R.GRP_CFG1 p d), mem := mem }).grpShow d).grpDone p d 1 x 0

/-- SET_MEMBER takes the port's member words. -/
def State.grpSetMember (s : State) (p : Port) (d x i : Nat) : State :=
  let g := s.grp x
  if g.st ≠ 1 then s.grpDone p d 2 x (if g.st = 0 ∨ i < g.x then grSTATE else grFIELD)
  else if g.x ≤ i then s.grpDone p d 2 x grFIELD
  else
    let w := s.rd (R.GRP_MEMBER p d)
    let e := if g.mode = 3 then s.rd (R.GRP_MEMBER_EG p d) else 0
    (s.setGrp x (g.setMem i (fun _ => { emptyMem with ing := some w, eg := e }))).grpDone p d 2 x 0

/-- ACTIVATE reserves the group's pages whole, or is refused (R175). -/
def State.grpActivate (s : State) (p : Port) (d x : Nat) : State :=
  let c := s.activateCode x
  let g := s.grp x
  if c = 0 then
    ((s.setGrp x { g with st := 2, pages := g.need, eff := s.fnFour 2 }).grpShow d).grpDone p d 3 x 0
  else
    let s1 := if c = grDESKEW_SPACE then s.put (R.GRP_DESKEW_REQ d) F.GRP_DESKEW_REQ_PAGES g.need else s
    s1.grpDone p d 3 x c

/-- DELETE: the group is FREE; it runs on, and its pages stay reserved, until the effect frame. -/
def State.grpDelete (s : State) (p : Port) (d x : Nat) : State :=
  let g := s.grp x
  if g.st = 0 then s.grpDone p d 4 x grSTATE
  else ({ s.setGrp x freeGrp with grpGone := s.grpGone ++ [(x, s.fnFour 2, g)] }.grpShow d).grpDone p d 4 x 0

/-- SQs in use by the source. -/
def Grp.nextSq (g : Grp) : Nat := (g.mem.filter (fun m => m.src != 0)).foldl (fun n m => max n (m.srcSq + 1)) 0

/-- What refuses an ADD or a REMOVE (Table 07-8), for an ADD where the member is not IDLE. -/
def Grp.lcasCode (g : Grp) (i : Nat) (want : Nat → Bool) : Nat :=
  if g.st ≠ 0 ∧ g.x ≤ i then grFIELD
  else if g.st ≠ 3 then grSTATE
  else if !g.lcas then grLCAS_ONLY
  else if g.busy.isSome then grBUSY
  else if !want (g.member i).src then grSTATE
  else 0

/-- ADD: source member i enters ADD (Table 07-7). -/
def State.grpAdd (s : State) (p : Port) (d x i : Nat) : State :=
  let g := s.grp x
  let c := g.lcasCode i (fun v => v == 0)
  if c ≠ 0 then s.grpDone p d 5 x c
  else
    let g1 := { g.setMem i (fun m => { m with src := 1, srcSq := g.nextSq, addFail := false }) with busy := some i }
    (((s.setGrp x g1).startTimer (addKey x) (msFrames 1000 * fget g.cfg1 F.GRP_CFG1_RSACK_TO))).grpDone p d 5 x 0

/-- REMOVE: source member i enters IDLE, and the SQs above its own close up at the next multiframe boundary. A member that is IDLE already stays
so, and nothing closes up. -/
def State.grpRemove (s : State) (p : Port) (d x i : Nat) : State :=
  let g := s.grp x
  let c := g.lcasCode i (fun _ => true)
  if c ≠ 0 ∨ (g.member i).src = 0 then s.grpDone p d 6 x c
  else
    let g1 := { g.setMem i (fun m => { m with src := 0 }) with busy := some i, gaps := g.gaps ++ [(g.member i).srcSq] }
    (s.setGrp x g1).grpDone p d 6 x 0

def b2n (b : Bool) : Nat := if b then 1 else 0

/-- READ loads the port's header and member registers and the state of the group and of member i. -/
def State.grpRead (s : State) (p : Port) (d x i : Nat) : State :=
  let g := s.grp x
  if g.st ≠ 0 ∧ g.x ≤ i then s.grpDone p d 0 x grFIELD
  else
    let m := g.member i
    let w := s.memPathFail d m && g.st == 3
    let s1 := (((s.wr (R.GRP_CFG0 p d) g.cfg0).wr (R.GRP_CFG1 p d) g.cfg1).wr (R.GRP_MEMBER p d) (m.ing.getD 0)).wr
      (R.GRP_MEMBER_EG p d) m.eg
    let ms := 2 ^ 31 * (b2n m.vlom) + 2 ^ 30 * (b2n m.sqm) + 2 ^ 29 * (b2n m.loa) + 2 ^ 28 * (b2n w) + 2 ^ 26 * m.sink + 2 ^ 23 * m.src
      + 2 ^ 22 * (b2n m.addFail) + 2 ^ 14 * m.sqAcc + min 4095 m.lead
    let gs := 2 ^ 30 * g.st + 2 ^ 29 * (b2n g.failed) + 2 ^ 28 * (b2n g.loa) + 2 ^ 27 * (b2n g.gidm) + 2 ^ 26 * (b2n g.aligned)
      + 2 ^ 17 * g.carrying + min 4095 g.spread
    ((s1.wr (R.GRP_MSTATE d) (BitVec.ofNat 32 ms)).wr (R.GRP_GSTATE d) (BitVec.ofNat 32 gs)).grpDone p d 0 x 0

/-- GRP_READ. -/
def execGrpRead (p : Port) (d : Fin 4) (g : Fin 1024) (i : Fin 256) (s : State) : Out :=
  .next (hostReg p (.grpRead p d g i) (fun t => (t.grpIndex d i).grpRead p d (1024 * d + g) i) s)

/-- GRP_DEFINE. -/
def execGrpDefine (p : Port) (d : Fin 4) (g : Fin 1024) (s : State) : Out :=
  .next (hostReg p (.grpDefine p d g) (fun t => t.grpDefine p d (1024 * d + g)) s)

/-- GRP_SET_MEMBER. -/
def execGrpSetMember (p : Port) (d : Fin 4) (g : Fin 1024) (i : Fin 256) (s : State) : Out :=
  .next (hostReg p (.grpSetMember p d g i) (fun t => (t.grpIndex d i).grpSetMember p d (1024 * d + g) i) s)

/-- GRP_ACTIVATE. -/
def execGrpActivate (p : Port) (d : Fin 4) (g : Fin 1024) (s : State) : Out :=
  .next (hostReg p (.grpActivate p d g) (fun t => t.grpActivate p d (1024 * d + g)) s)

/-- GRP_DELETE. -/
def execGrpDelete (p : Port) (d : Fin 4) (g : Fin 1024) (s : State) : Out :=
  .next (hostReg p (.grpDelete p d g) (fun t => t.grpDelete p d (1024 * d + g)) s)

/-- GRP_ADD. -/
def execGrpAdd (p : Port) (d : Fin 4) (g : Fin 1024) (i : Fin 256) (s : State) : Out :=
  .next (hostReg p (.grpAdd p d g i) (fun t => (t.grpIndex d i).grpAdd p d (1024 * d + g) i) s)

/-- GRP_REMOVE. -/
def execGrpRemove (p : Port) (d : Fin 4) (g : Fin 1024) (i : Fin 256) (s : State) : Out :=
  .next (hostReg p (.grpRemove p d g i) (fun t => (t.grpIndex d i).grpRemove p d (1024 * d + g) i) s)

/-- GRP_OP_INVALID: OP 7. -/
def execGrpOpInvalid (p : Port) (d : Fin 4) (g : Fin 1024) (i : Fin 256) (s : State) : Out :=
  .next (hostReg p (.grpOpInvalid p d g i) (fun t => (t.grpIndex d i).grpDone p d 7 (1024 * d + g) grFIELD) s)

-- Effect frames (Table 07-8)

/-- A group as it is when its effect frame begins: without LCAS every source member carries payload. -/
def Grp.begin (g : Grp) : Grp :=
  { g with st := 3, pay := if g.lcas then [] else List.range g.mem.length
           mem := g.mem.zipIdx.map (fun e =>
             { emptyMem with ing := e.1.ing, eg := e.1.eg, src := if g.mode = 3 ∧ !g.lcas then 2 else 0, srcSq := e.2 }) }

/-- The job that plays on group x, in one of the states given, with its GROUP target. -/
def State.grpJob (s : State) (x : Nat) (states : List Nat) : Option (Nat × PourTgt) :=
  let d := grpDie x
  (List.range 8).findSome? (fun j =>
    if states.contains (s.poSt d j) then ((s.pour d j).tgts.find? (fun t => tapCode t.tap == 4 && tapGrp d t.tap == x)).map (fun t => (j, t))
    else none)

/-- CTRL that a source member sends (Table 07-7). -/
def srcCtrl (g : Grp) (m : GrpMem) : Nat :=
  if !g.lcas then 0 else match m.src with
    | 1 => ctADD
    | 2 => ctNORM
    | 3 => ctEOS
    | 4 => ctDNU
    | _ => ctIDLE

/-- MST of members b to b + 7, member b first; a bit at 1 reports FAIL. -/
def Grp.mstTx (g : Grp) (b : Nat) : Nat :=
  if !g.lcas then 0
  else (List.range 8).foldl (fun v i => 2 * v + (if (g.member (b + i)).sink = 1 then 0 else 1)) 0

/-- What the control packet numbered n of egress member i carries, taken as the packet begins: its CRC is over what it sends (R163, R164). -/
def Grp.ctlNow (g : Grp) (i n : Nat) : CtlTx :=
  let m := g.member i
  ⟨srcCtrl g m, if g.lcas then m.srcSq else i, if g.lcas && g.rsAckTx then 1 else 0, g.mstTx (8 * (if g.typ ≤ 1 then n % 32 else n % 8))⟩

/-- Frames, or multiframes, of a control packet (R163, R164). -/
def Grp.packetLen (g : Grp) : Nat := if g.typ ≤ 1 then 16 else 32

/-- Path offset at which an egress member starts: OFFSET of the job that plays on its group (R302), or that of an originated VC without a
job (R136 rule 6; notes/assumptions/93.md). -/
def State.memOffset (s : State) (x kind : Nat) : Nat :=
  match s.grpJob x [poPLAYING] with
  | some (j, _) => s.get (R.POUR_JOB_POH (grpDie x) j) F.POUR_JOB_POH_OFFSET
  | none => uneqP kind

/-- The egress members of a TERMINATE group begin to be sent (R169), in step, from a multiframe and a GID that are free. -/
def State.egBegin (s : State) (x : Nat) : State :=
  let g := s.grp x
  if g.mode ≠ 3 then s
  else
    let mk (e : GrpMem × Nat) : PourTgt :=
      let kind := taKind (memTA e.1.eg)
      let off := s.memOffset x kind
      { freshTgt (BitVec.ofNat 32 (2 ^ 27 + x % 1024)) with mem := some e.2, cnt := vcFirst kind 0 off, p := off,
                                                            gid := 1 + Config.free s.draw % (2 ^ 15 - 1), vcs := Config.free (s.draw + 1) % 4096
                                                            ctl := g.ctlNow e.2 ((Config.free (s.draw + 1) % 4096 - 1) / g.packetLen) }
    { s.setGrp x { g with eg := g.mem.zipIdx.map mk } with draw := s.draw + 2 }

/-- Deletions of group x that take effect in the present frame: the group runs no longer, and its pages are released (R171, R174). -/
def State.grpLeave (s : State) (x : Nat) : State :=
  let due (e : Nat × Nat × Grp) : Bool := e.1 == x && decide (e.2.1 ≤ s.up)
  let s1 := (s.grpGone.filter (fun e => due e && e.2.2.st == 3)).foldl (fun t e =>
    (List.range e.2.2.mem.length).foldl (fun t i => (t.stopTimer (holdKey x i)).stopTimer (wtrKey x i)) (t.stopTimer (addKey x))) s
  { s1 with grpGone := s1.grpGone.filter (fun e => !due e) }.grpShow (grpDie x)

/-- GRP_EFFECT. -/
def execGrpEffect (d : Fin 4) (g : Fin 1024) (s : State) : Out :=
  let x := 1024 * d.val + g.val
  if (s.grp x).st = 2 ∧ (s.grp x).eff ≤ s.up then
    let s1 := s.grpLeave x
    done (((s1.setGrp x (s1.grp x).begin).egBegin x).grpEval x)
  else .next s

/-- GRP_DELETE_EFFECT. The egress members of the group are the map's again: unequipped where it has no entry for them (Table 07-7, R80;
notes/assumptions/92.md). -/
def execGrpDeleteEffect (d : Fin 4) (g : Fin 1024) (s : State) : Out := done (s.grpLeave (1024 * d.val + g.val))

/-- GRP_ALIGNED: every unfailed member has been aligned for 4 further frames. -/
def execGrpAligned (d : Fin 4) (g : Fin 1024) (s : State) : Out :=
  let x := 1024 * d.val + g.val
  let y := s.runGrp x
  match y.alignUp with
  | some f => if y.st = 3 ∧ 2 ≤ y.mode ∧ f + 4 ≤ s.up then .next (s.setRun x { y with aligned := true }) else .next s
  | none => .next s

-- Control packets (R163 to R169)

/-- One bit into a CRC register of w bits. -/
def crcBit (w poly c : Nat) (b : Bool) : Nat :=
  let top := c.testBit (w - 1)
  (c * 2 % 2 ^ w) ^^^ (if top != b then poly else 0)

/-- CRC over the n low bits of v, most significant first. -/
def crcOf (w poly v : Nat) : Nat → Nat
  | 0 => 0
  | n + 1 => crcBit w poly (crcOf w poly (v / 2) n) (v.testBit 0)

/-- What a control packet carries. -/
structure Packet where
  /-- The CRC checks, or the far end has no LCAS: its control fields and its CRC are all 0 (R167; notes/assumptions/100.md). -/
  ok   : Bool
  sq   : Nat
  ctrl : Nat
  gid  : Bool
  rs   : Bool
  mst  : Nat
  /-- First member that the MST bits report. -/
  base : Nat
  /-- Number of the multiframe or string. -/
  num  : Nat

/-- The 16 H4 bytes of one multiframe (Table 07-3). -/
def packetHo (h : List Byte) : Packet :=
  let hi (i : Nat) : Nat := (h.getD i 0).toNat / 16
  let mfi2 := hi 0 * 16 + hi 1
  let none := [2, 3, 4, 5, 6, 7, 8, 9, 10, 11, 12, 13].all (fun i => hi i == 0)
  ⟨none || crcOf 8 7 (be (h.take 8)) 64 == hi 8 * 16 + hi 9, hi 14 * 16 + hi 15, hi 2, hi 3 % 2 == 1, hi 12 % 2 == 1, hi 10 * 16 + hi 11,
    8 * (mfi2 % 32), mfi2⟩

/-- The 32-bit string of K4 bit 2 (Table 07-4). -/
def packetLo (h : List Byte) : Packet :=
  let w := be (h.take 4)
  ⟨w % 2 ^ 21 == 0 || crcOf 3 3 (w / 8 % 2 ^ 18) 18 == w % 8, w / 2 ^ 21 % 64, w / 2 ^ 17 % 16, w.testBit 16, w.testBit 11, w / 8 % 256,
    8 * (w / 2 ^ 27 % 8), w / 2 ^ 27⟩

/-- One frame of a high-order member, or one string of a low-order one, against the multiframe sequence. -/
def GrpMem.seqStep (m : GrpMem) (ho good : Bool) (now : Nat) : GrpMem :=
  let run := if good then (0, m.seq.2 + 1) else (m.seq.1 + 1, 0)
  let out := decide (2 ≤ run.1) || (decide (0 < m.held) && run.2 < 2)
  let held := if out then m.held + 1 else 0
  let vlom := if run.2 ≥ 2 then false else if ho then m.vlom || decide (8 ≤ held) else m.vlom || decide (2 ≤ run.1)
  { m with mfi := some now, seq := run, held := held, vlom := vlom }

/-- A high-order member's 16 frames. -/
def GrpMem.seqHo (m : GrpMem) (h : List Byte) : GrpMem :=
  h.foldl (fun m b =>
    let lo := b.toNat % 16
    match m.mfi with
    | none => { m with mfi := some lo }
    | some v =>
      let e := (v + 1) % 4096
      let good := lo == e % 16 && (if lo = 0 then b.toNat / 16 == e / 256 else if lo = 1 then b.toNat / 16 == e / 16 % 16 else true)
      let now := if lo = 0 then 256 * (b.toNat / 16) + e / 16 % 16 * 16 else if lo = 1 then 256 * (e / 256) + b.toNat / 16 * 16 + 1
        else e / 16 * 16 + lo
      m.seqStep true good now) m

/-- A low-order member's string; `aligned` is the alignment of K4 bit 1. -/
def GrpMem.seqLo (m : GrpMem) (aligned : Bool) (h : List Byte) : GrpMem :=
  let v := be (h.take 4) / 2 ^ 27
  if !aligned then { m with mfi := none, seq := (0, 0), vlom := true }
  else
    match m.mfi with
    | none => { m with mfi := some v, seq := (0, 1) }
    | some e => m.seqStep false (v == (e + 1) % 32) v

/-- An SQ reading: accepted after three equal ones (R165). -/
def GrpMem.readSq (m : GrpMem) (sq : Nat) : GrpMem :=
  let n := if m.sqr.2 ≠ 0 ∧ m.sqr.1 = sq then m.sqr.2 + 1 else 1
  { m with sqr := (sq, n), sqAcc := if 3 ≤ n then sq else m.sqAcc }

/-- A received MST moves a source member (Table 07-7). An MST bit of 0 is OK and of 1 is FAIL, as in G.7042. -/
def Grp.mstStep (g : Grp) (j : Nat) (fail : Bool) : Grp :=
  let m := g.member j
  let others := g.mem.zipIdx.filter (fun e => e.2 != j)
  match m.src with
  | 1 =>
      if fail then g
      else
        let l : List GrpMem := g.mem.map (fun e => if e.src = 3 then { e with src := 2 } else e)
        { g with mem := l.modify j (fun e => { e with src := 3 }), busy := if g.busy = some j then none else g.busy }
  | 2 | 3 => if fail then g.setMem j (fun e => { e with src := 4 }) else g
  | 4 =>
      if fail then g
      else g.setMem j (fun e => { e with src := if others.all (fun o => o.1.src == 0 || decide (o.1.srcSq < e.srcSq)) then 3 else 2 })
  | _ => g

/-- Multiframes, or strings, in the 512 ms after which their numbers repeat (Table 07-1). -/
def Grp.mfMod (g : Grp) : Nat := if g.typ ≤ 1 then 256 else 32

/-- A member has received multiframe n or a later one, less than half the cycle on. -/
def Grp.reached (g : Grp) (m : GrpMem) (n : Nat) : Bool :=
  match m.mfi with
  | some v => decide (((if g.typ ≤ 1 then v / 16 else v) + g.mfMod - n) % g.mfMod < g.mfMod / 2)
  | none => false

/-- The packet of multiframe n of member i has passed, with GID v: once the last of the aligned members has reached that multiframe, the
GIDs that they gave in it agree or disagree (Table 07-5). -/
def Grp.gidStep (g : Grp) (i n : Nat) (v : Bool) : Grp :=
  let others := (g.mem.zipIdx.filter (fun e => e.2 != i && e.1.mfi.isSome && !e.1.vlom)).map (fun e => e.1)
  if others.any (fun m => !g.reached m n) then g
  else
  let dis := others.any (fun m => (m.gids.find? (fun e => e.1 == n)).any (fun e => e.2 != v))
  let run := if dis then (g.gidRun.1 + 1, 0) else (0, g.gidRun.2 + 1)
  { g with gidRun := run, gidm := if 3 ≤ run.1 then true else if 3 ≤ run.2 then false else g.gidm }

/-- The sink sees a change of SQ numbering at member i in multiframe n: RS-Ack toggles, once for all members whose SQ changes in that
multiframe (R168; notes/assumptions/49.md). -/
def Grp.renumbered (g : Grp) (i n : Nat) (changed : Bool) : Grp :=
  let old := match g.rsAt with
    | some (j, a) => if j = i ∧ g.mfMod / 2 ≤ (n + g.mfMod - a) % g.mfMod then none else g.rsAt
    | none => none
  if !changed then { g with rsAt := old }
  else if old.any (fun e => e.2 == n && e.1 != i) then g
  else { g with rsAt := some (i, n), rsAckTx := !g.rsAckTx }

/-- A control packet of member i of an ACTIVE group. Without LCAS the received control fields are ignored apart from SQ, and with it a packet
that fails its CRC is ignored (R165, R167). -/
def State.vcatPacket (s : State) (x i : Nat) (aligned : Bool) (h : List Byte) : State :=
  let g := s.runGrp x
  let m := g.member i
  let d := grpDie x
  match m.ing with
  | none => s
  | some w =>
    if s.memSuspended (memAu3 w) (memTA w) then (s.setRun x (g.setMem i GrpMem.cleared)).grpEval x
    else
      let ho := decide (g.typ ≤ 1)
      let pk := if ho then packetHo h else packetLo h
      let ok := !g.lcas || pk.ok
      let m0 := if ho then m.seqHo h else m.seqLo aligned h
      let m1 := if ok then m0.readSq pk.sq else m0
      let m2 := { m1 with sqm := !g.lcas && (if 3 ≤ m1.sqr.2 then m1.sqAcc != i else m.sqm) }
      let m3 := if pk.ok ∧ g.lcas then
          { m2 with ctrl := pk.ctrl, rsAck := pk.rs, gids := ((pk.num, pk.gid) :: m2.gids.filter (fun e => e.1 != pk.num)).take (g.mfMod / 2) }
        else m2
      let g1 := (g.setMem i (fun _ => m3)).renumbered i pk.num (g.lcas && m2.sqAcc != m.sqAcc)
      let g2 := if pk.ok ∧ g.lcas then g1.gidStep i pk.num pk.gid else g1
      let g3 : Grp := if pk.ok ∧ g.lcas ∧ g.mode = 3 then
          (List.range 8).foldl (fun a b => a.mstStep (pk.base + b) (pk.mst.testBit (7 - b))) g2
        else g2
      let s1 := if ok then s else s.addCtr ⟨R.GRP_CRC_LO d, R.GRP_CRC_HI d⟩ 1
      let s2 := if g.busy.isSome ∧ g3.busy.isNone then s1.stopTimer (addKey x) else s1
      (s2.setRun x g3).grpEval x

/-- VCAT_CONTROL_PACKET: the 16 H4 bytes of a multiframe, or the 32-bit string of K4 bit 2 as 4 bytes. -/
def execVcatControlPacket (d : Fin 4) (g : Fin 1024) (i : Fin 256) (aligned : Bool) (h : List Byte) (s : State) : Out :=
  let x := 1024 * d.val + g.val
  if (s.runGrp x).st = 3 then done (s.vcatPacket x i aligned h) else .next s

/-- Leads from the arrival times, in ns, of the start of one MFI on each member (R170). -/
def State.leads (s : State) (x : Nat) (arr : List Nat) : State :=
  let g := s.runGrp x
  let d := grpDie x
  let meas := g.mem.zipIdx.filter (fun e => s.memAligned d e.1 && decide (e.2 < arr.length))
  let last := meas.foldl (fun n e => max n (arr.getD e.2 0)) 0
  let lead (e : GrpMem × Nat) : Nat := (last - arr.getD e.2 0) / 125000
  let spread := meas.foldl (fun n e => max n (lead e)) 0
  let mem := g.mem.zipIdx.map (fun e =>
    if meas.any (fun u => u.2 == e.2) then
      let l := lead e
      let ok := if l ≤ g.fd then e.1.loaOk + 1 else 0
      { e.1 with lead := l, loaOk := ok, loa := g.lcas && (if g.fd < l then true else if 2 ≤ ok then false else e.1.loa) }
    else e.1)
  let gok := spread ≤ g.fd && mem.all (fun m => m.loaOk == 0 || decide (2 ≤ m.loaOk))
  let gl := !g.lcas && (if g.fd < spread then true else if gok then false else g.loa)
  let ref := ((meas.find? (fun e => arr.getD e.2 0 == last)).map (fun e => e.2)).getD g.ref
  (s.setRun x { g with mem := mem, spread := spread, loa := gl, ref := ref }).grpEval x

/-- DESKEW_LEAD_MEASURE, in every mode (Table 07-2). -/
def execDeskewLeadMeasure (d : Fin 4) (g : Fin 1024) (arrivals : List Nat) (s : State) : Out :=
  let x := 1024 * d.val + g.val
  if (s.runGrp x).st = 3 then done (s.leads x arrivals) else .next s

/-- LCAS_HOLDOFF_EXPIRE: the member is reported FAIL, unless it receives CTRL IDLE. -/
def execLcasHoldoffExpire (d : Fin 4) (g : Fin 1024) (i : Fin 256) (s : State) : Out :=
  let x := 1024 * d.val + g.val
  if s.timerDone (holdKey x i) then
    done ((s.stopTimer (holdKey x i)).grpEval x)
  else .next s

/-- LCAS_WTR_EXPIRE: the member is reported OK. -/
def execLcasWtrExpire (d : Fin 4) (g : Fin 1024) (i : Fin 256) (s : State) : Out :=
  let x := 1024 * d.val + g.val
  if s.timerDone (wtrKey x i) then
    done (((s.stopTimer (wtrKey x i)).setRun x ((s.runGrp x).setMem i (fun m => { m with sink := 1 }))).grpEval x)
  else .next s

/-- LCAS_ADD_TIMEOUT: the member returns to IDLE. -/
def execLcasAddTimeout (d : Fin 4) (g : Fin 1024) (s : State) : Out :=
  let x := 1024 * d.val + g.val
  let y := s.runGrp x
  match y.busy with
  | some j =>
      if s.timerDone (addKey x) ∧ (y.member j).src = 1 then
        .next ((s.stopTimer (addKey x)).setRun x { y.setMem j (fun m => { m with src := 0, addFail := true }) with busy := none })
      else .next s
  | none => .next s

/-- The next multiframe boundary: payload takes its members, and SQs above a removed one close up (Table 07-7). -/
def Grp.boundary (g : Grp) : Grp :=
  let mem := g.gaps.foldl (fun l q => l.map (fun m => if m.src ≠ 0 ∧ q < m.srcSq then { m with srcSq := m.srcSq - 1 } else m)) g.mem
  let pay := (mem.zipIdx.filter (fun e => e.1.src == 2 || e.1.src == 3)).map (fun e => e.2)
  { g with mem := mem, gaps := [], pay := if g.lcas then pay else g.pay
           busy := match g.busy with
             | some j => if (g.member j).src = 1 then some j else none
             | none => none }

/-- LCAS_MULTIFRAME_BOUNDARY. -/
def execLcasMultiframeBoundary (d : Fin 4) (g : Fin 1024) (s : State) : Out :=
  let x := 1024 * d.val + g.val
  if (s.runGrp x).st = 3 ∧ (s.runGrp x).mode = 3 then .next (s.setRun x (s.runGrp x).boundary) else .next s

end Sys2Proof.Machine
end

