-- ==== Sys2Proof/Machine/Deskew.lean ====
section
/-!
DEFINITION. Grains and their markers (R53, R54, R136), and the deskew of virtual groups: what leaves it on each member, and the payload that
the sink of a TERMINATE group takes from it (R55, R161, R166, R168, R170, R211).
-/

namespace Sys2Proof.Machine

-- Grains

/-- The substitute grain (R55). -/
def subGrain : Grain := 0x1FF

/-- The void grain (R211). -/
def voidGrain : Grain := 0x300

/-- Ones of M, P and D together are odd (R53). -/
def oddParity (g : Grain) : Bool := (List.range 10).foldl (fun b i => b != g.getLsbD i) false

/-- A grain of a byte with its marker. -/
def mkGrain (m : Bool) (d : Byte) : Grain :=
  let x : Grain := (if m then 0x200 else 0) ||| d.setWidth 10
  if oddParity x then x else x ||| 0x100

-- Markers (R54, R136)

/-- The marked grains of a period of a tributary: its opportunities, its path starts in order with those at a positive opportunity told
apart, and markers where Table 03-2 gives them no meaning. -/
structure Marks where
  neg    : Bool
  opp    : Nat
  starts : List (Nat × Bool)
  stray  : Nat

/-- One more grain with M = 1, at position p in frame ph of the multiframe. -/
def Marks.add (x : Marks) (a3 : Bool) (t : TA) (nc k p ph : Nat) : Marks :=
  let st (x : Marks) (opp : Bool) : Marks := match startOff a3 t nc k p ph with
    | some o => { x with starts := x.starts ++ [(o, opp)] }
    | none => if opp then x else { x with stray := x.stray + 1 }
  match slotAt a3 t nc k p ph with
  | none => x
  | some .neg => { x with neg := true }
  | some .pos => st { x with opp := x.opp + 1 } true
  | some .pay => st x false
  | some _ => { x with stray := x.stray + 1 }

/-- What the marks of a period say, and how many of them are ignored; `p` is the offset at which the path started before. A positive
opportunity of several bytes is stuff when two of them or more are marked. Both meanings of M = 1 meet at one of a single byte: it is stuff
where a path start is marked beside it, or where the stuff moves the start at p out of the period, and else a path start (DEDUCED,
notes/assumptions/86.md). -/
def Marks.read (x : Marks) (kind : Nat) (p : Option Nat) : Ahead × Nat :=
  let pos := if kind ≤ 2 then decide (2 ≤ x.opp) else x.opp == 1 && (x.starts.any (fun e => !e.2) || p == some (lastOff kind))
  let starts := if pos then x.starts.filter (fun e => !e.2) else x.starts
  (⟨x.neg, pos, (starts.head?).map (fun e => e.1)⟩, x.stray + (starts.length - 1))

-- What the deskew holds (R170)

/-- The grains held for a member, oldest first: uptime frame, position, grain. -/
def State.heldFor (s : State) (a3 : Bool) (t : TA) : List (Nat × Nat × Grain) := look (fun _ => []) s.deskew (egName a3 t)

/-- Frame of the system multiframe of uptime frame f. -/
def State.mfOf (s : State) (f : Nat) : Nat := (s.frames + f + 3 * s.up) % 4

/-- The markers held of a member in the pointer period of uptime frame f. -/
def State.heldMarks (s : State) (a3 : Bool) (t : TA) (f : Nat) : Marks :=
  let k := (s.nLink (taLink t)).getD 0
  let first (g : Nat) : Nat := if taKind t ≤ 4 then g else g - s.mfOf g
  ((s.heldFor a3 t).filter (fun e => e.2.2.getLsbD 9 && first e.1 == first f)).foldl (fun (x : Marks) e =>
    x.add a3 t 0 k e.2.1 (s.mfOf e.1)) ⟨false, 0, [], 0⟩

/-- What the markers held of a member say of the pointer period of uptime frame f. -/
def State.heldRead (s : State) (a3 : Bool) (t : TA) (f : Nat) : Ahead :=
  let before := (s.heldMarks a3 t (f - periodLen (taKind t))).starts.head?
  ((s.heldMarks a3 t f).read (taKind t) (before.map (fun e => e.1))).1

/-- A byte of a container held in the deskew: where it came from, and whether the container starts with it. -/
structure HeldByte where
  up    : Nat
  pos   : Nat
  start : Bool
  byte  : Byte
deriving DecidableEq, Repr

/-- The container bytes held for a member, oldest first: payload positions, and opportunities that carry payload. -/
def State.heldBytes (s : State) (a3 : Bool) (t : TA) : List HeldByte :=
  let k := (s.nLink (taLink t)).getD 0
  (s.heldFor a3 t).filterMap (fun e =>
    let m := e.2.2.getLsbD 9
    let x : HeldByte := ⟨e.1, e.2.1, m, e.2.2.setWidth 8⟩
    match slotAt a3 t 0 k e.2.1 (s.mfOf e.1) with
    | some .pay => some x
    | some .neg => if m then some { x with start := false } else none
    | some .pos => if (s.heldRead a3 t e.1).pos then none else some x
    | _ => none)

/-- The containers of a run of bytes. -/
def containers (l : List HeldByte) : List (List HeldByte) :=
  (l.foldr (fun x (a : List HeldByte × List (List HeldByte)) => if x.start then ([], (x :: a.1) :: a.2) else (x :: a.1, a.2)) ([], [])).2

/-- When a byte of a member of kind 2 to 7 arrived, in 155,520ths of a frame: its row and column in the tributary. -/
def State.heldTime (s : State) (a3 : Bool) (t : TA) (x : HeldByte) : Nat :=
  let rc := (trLocate a3 t 0 ((s.nLink (taLink t)).getD 0) x.pos).getD (0, 0)
  155520 * x.up + 17280 * rc.1 + rc.2

/-- The ingress member of index i. -/
def Grp.ingress (g : Grp) (i : Nat) : Option (Bool × TA) := ((g.member i).ing).map (fun w => (memAu3 w, memTA w))

/-- The container of member i with the MFI of the reference's container that arrived at time r: the one that arrived its lead before. -/
def State.alignedVc (s : State) (g : Grp) (i r : Nat) : Option (List HeldByte) :=
  (g.ingress i).bind (fun n => (containers (s.heldBytes n.1 n.2)).find? (fun c => match c with
    | x :: _ =>
      let a := s.heldTime n.1 n.2 x + 155520 * (g.member i).lead
      decide (a ≤ r) && decide (r < a + 155520)
    | [] => false))

/-- The byte of a container of kind k2 that has the place of byte b of one of kind k1: the two kinds of a VC-3 differ by the stuff columns 29
and 58 of the one in an AU-3 (R128). -/
def sameByte (k1 k2 b : Nat) : Nat :=
  if k1 = 3 ∧ k2 = 4 then b / 87 * 85 + (b % 87 - (if 29 < b % 87 then 1 else 0) - (if 58 < b % 87 then 1 else 0))
  else if k1 = 4 ∧ k2 = 3 then b / 85 * 87 + vc3Col (b % 85)
  else b

/-- The grain that leaves the deskew in the present frame at position p of member i: the byte of its container that has the place which the
reference's bytes had 4 frames ago, with the reference's markers. A stuff column that the reference's kind lacks follows the column before
it. -/
def State.deskewOut (s : State) (g : Grp) (i p : Nat) : Grain :=
  match g.ingress i, g.ingress g.ref with
  | some (a3, t), some (ra, rt) =>
    let order (u : TA) : Nat := (s.nLink (taLink u)).getD 0
    let rc := trLocate a3 t 0 (order t) p
    let stuff := taKind t == 3 && taKind rt == 4 && rc.any (fun e => e.2 == 29 || e.2 == 58)
    match (rc.map (fun e => if stuff then (e.1, e.2 - 1) else e)).bind (trPlace ra rt 0 (order rt)) with
    | none => subGrain
    | some q =>
      let here (e : Nat × Nat) : Bool := e.1 + 4 == s.up && e.2 == q
      match (s.heldFor ra rt).find? (fun e => here (e.1, e.2.1)) with
      | none => subGrain
      | some (_, _, r) =>
        let found := (containers (s.heldBytes ra rt)).findSome? (fun c => (c.findIdx? (fun x => here (x.up, x.pos))).map (fun b => (c, b)))
        let m := r.getLsbD 9 && !stuff
        match found with
        | none => mkGrain m 0
        | some (c, b) =>
          let b' := sameByte (taKind rt) (taKind t) b + (if stuff then 1 else 0)
          match (c.head?).bind (fun x => (s.alignedVc g i (s.heldTime ra rt x)).bind (fun v => v[b']?)) with
          | some y => mkGrain m y.byte
          | none => subGrain
  | _, _ => subGrain

/-- A grain of LU n enters the deskew of every member of a running EQUALISE or TERMINATE group at whose position it lies. It is kept for the
largest lead, F_D frames, the 4 frames of R170, and the multiframes at the ends of a container. -/
def State.deskewIn (s : State) (n p : Nat) (g : Grain) : State :=
  let k := (s.nLink n).getD 0
  s.running.foldl (fun u e =>
    if e.2.mode < 2 then u
    else
      (e.2.ins.filter (fun w => taLink (memTA w) == n && (trLocate (memAu3 w) (memTA w) 0 k p).isSome)).foldl (fun v w =>
        let name := egName (memAu3 w) (memTA w)
        let kept := (look (fun _ => []) v.deskew name).filter (fun x => decide (v.up < x.1 + e.2.fd + 16) && !(x.1 == v.up && x.2.1 == p))
        { v with deskew := store id (fun _ => []) v.deskew name (kept ++ [(v.up, p, g)]) }) u) s

/-- The grain that a source gives the fabric at position p: of an equalised member, the one that leaves the deskew, or a substitute while the
member leaves as path AIS (R166) or where the word read from DRAM is uncorrectable (R325). -/
def State.deskewed (s : State) (a3 : Bool) (t : TA) (p : Nat) (bad : Bool) (g : Grain) : Grain :=
  match s.equaliser a3 t with
  | none => g
  | some (_, y, m) => if bad || s.deskewAis t then subGrain else s.deskewOut y ((y.mem.findIdx? (fun x => x.ing == m.ing)).getD 0) p

-- The sink's payload (R161, R281)

/-- Byte i of the payload that a TERMINATE group delivers in the present frame: which member carried it, and as it was held. The bytes of the
containers that leave the deskew are interleaved over the members in SQ order; a multiframe's bytes of low-order members are counted in
its four frames alike (notes/assumptions/94.md). -/
def State.sinkByte (s : State) (x i : Nat) : Option (Nat × HeldByte) :=
  let g := s.runGrp x
  let car := s.sinkOrder g
  let w := max 1 car.length
  match g.ingress g.ref, car[i % w]? with
  | some (ra, rt), some m =>
    let kind := taKind rt
    let low := decide (5 ≤ kind)
    let ph := if low then s.mfOf s.up else 0
    let own := taKind (((g.ingress m).map (fun n => n.2)).getD 0)
    let want := (if low then vcBulk kind 0 / 4 * ph else 0) + i / w
    let first := s.up - ph - 4
    let c := (containers (s.heldBytes ra rt)).find? (fun c => match c with
      | y :: _ => decide (first ≤ y.up) && decide (y.up ≤ first + (if low then 3 else 0))
      | [] => false)
    (c.bind List.head?).bind (fun y => (s.alignedVc g m (s.heldTime ra rt y)).bind (fun v =>
      ((List.range (vcGeom own 0).1).find? (fun b => vcClass own 0 b == .bulk want)).bind (fun b => (v[b]?).map (fun z => (m, z)))))
  | _, _ => none

end Sys2Proof.Machine
end

