-- ==== Sys2Proof/Machine/Sncp.lean ====
section
/-!
DEFINITION. Subnetwork connection protection selectors (R190 to R200, R207).
-/

namespace Sys2Proof.Machine

def sncHoldKey (k i : Nat) : TKey := ⟨.sncHold, ⟨k, i, 0⟩⟩
def sncWtrKey (k : Nat) : TKey := ⟨.sncWtr, ⟨k, 0, 0⟩⟩

/-- The active entry with a selector at an egress name. -/
def State.selector (s : State) (k : Nat) : Option Rec := (s.entry k).filter Rec.hasSnc

-- Criteria (Table 08-9)

/-- SF and SD of source t on the LU that feeds it, for an egress tributary of die de; `n2` is SNC/N. -/
def State.judge (s : State) (de f : Nat) (n2 : Bool) (t : TA) (nc : Nat) : Bool × Bool :=
  let u := onLink t f
  let a3 := s.srcAu3 u
  let isP := taKind t != 0
  let d := if isP then s.pathBits a3 u else 0
  let outer := match container a3 u with
    | some (c3, c) => isP && (s.ptrState c3 c != 0 || (s.path c3 c).lom)
    | none => false
  let line := s.isLine f &&
    (s.secBit f sLOS || s.secBit f sLOF || s.secBit f sMS_AIS || s.secBit f sMS_EXC || s.searching f
      || (s.secBit f sRS_TIM && s.flag (R.LU_SEC_CTRL f) F.LU_SEC_CTRL_TIM_AIS))
  let tg := s.isTG f && s.flag (R.LU_TG_STATUS f) F.LU_TG_STATUS_FAILED
  let sf := line || tg || (isP && s.ptrState a3 u != 0) || outer || s.unitFailed de f || !s.present u nc
    || !s.seamUp (luDie f) de || (n2 && (d.testBit bUNEQ || d.testBit bTIM))
    || (d.testBit bPLM && s.profBit f (s.path a3 u) F.LU_PATH_PROFILE_PLM_AIS)
  (sf, (s.isLine f && s.secBit f sMS_DEG) || (n2 && d.testBit bDEG))

/-- SF and SD of a source: a merged one is judged by its failure on both feeds (R204). -/
def State.srcCond (s : State) (r : Rec) (t : TA) : Bool × Bool :=
  let de := luDie (taLink r.eg)
  if s.isMergeAlt (taLink t) || (s.mergeAlt (taLink t)).isSome then (s.srcFailed de t r.nc, false)
  else s.judge de (s.feedLU (taLink t)) (r.snc == 2) t r.nc

-- Hold-off (R192)

def SncSt.bit (x : SncSt) (i : Nat) : Bool := x.cond.testBit i
def SncSt.putBit (x : SncSt) (i : Nat) (v : Bool) : SncSt :=
  { x with cond := (if x.cond.testBit i then x.cond - 2 ^ i else x.cond) + (if v then 2 ^ i else 0) }

/-- One condition against its hold-off. -/
def State.sncCond (s : State) (r : Rec) (i : Nat) (raw : Bool) : State :=
  let k := r.key
  let x := s.sncSt k
  if !raw then (s.setSnc k (x.putBit i false)).stopTimer (sncHoldKey k i)
  else if x.bit i then s
  else if r.holdoff = 0 then s.setSnc k (x.putBit i true)
  else if s.timerOn (sncHoldKey k i) then s
  else s.startTimer (sncHoldKey k i) (msFrames 100 * r.holdoff)

/-- Takes the conditions of both sources. -/
def State.sncConds (s : State) (r : Rec) : State :=
  let a := s.srcCond r r.src
  let b := s.srcCond r r.alt
  (((s.sncCond r 3 a.1).sncCond r 2 a.2).sncCond r 1 b.1).sncCond r 0 b.2

-- Requests (Tables 08-10 and 08-11)

/-- Requests of rank 1 to 6 that are present. -/
def SncSt.present (x : SncSt) (rank : Nat) : Bool :=
  match rank with
  | 1 => x.cmd == 1
  | 2 => x.bit 1
  | 3 => x.cmd == 2 || x.cmd == 3
  | 4 => x.bit 3
  | 5 => x.bit 2 || x.bit 0
  | 6 => x.cmd == 4 || x.cmd == 5
  | _ => false

/-- The highest-ranked request of rank 1 to 6 that is present. -/
def SncSt.top (x : SncSt) : Option Nat := [1, 2, 3, 4, 5, 6].find? x.present

/-- What a rank selects. -/
def SncSt.select (x : SncSt) : Nat → Bool
  | 3 => x.cmd == 2
  | 4 | 7 | 8 => true
  | 5 => if x.bit 2 && !x.bit 0 then true else if x.bit 0 && !x.bit 2 then false else x.alt
  | 6 => x.cmd == 4
  | _ => false

-- The switch log (R198)

def State.sncLogOf (s : State) (d : Nat) : List (Word × Word × Word) := look (fun _ => []) s.sncLog d
def State.setSncLog (s : State) (d : Nat) (l : List (Word × Word × Word)) : State :=
  { s with sncLog := store id (fun _ => []) s.sncLog d l }.put (R.SNCP_LOG_STATUS d) F.SNCP_LOG_STATUS_COUNT l.length

/-- One entry of the switch log of the egress die. -/
def State.sncLogWrite (s : State) (k : Nat) (alt : Bool) (rank : Nat) : State :=
  let d := luDie (taLink (BitVec.ofNat 24 k))
  let l := s.sncLogOf d
  if 512 ≤ l.length then
    let s1 := s.addLoss ⟨R.SNCP_LOG_LOST_LO d, R.SNCP_LOG_LOST_HI d⟩ 1
    if s1.sncLost.contains d then s1 else { s1 with sncLost := d :: s1.sncLost }.ev (evDie d) srcSNCP
  else
    let e := (BitVec.ofNat 32 (2 ^ 31 + (if alt then 2 ^ 30 else 0) + 2 ^ 26 * rank + k), BitVec.ofNat 32 s.fn, BitVec.ofNat 32 s.ns)
    let s1 := s.setSncLog d (l ++ [e])
    { s1 with sncLost := s1.sncLost.filter (fun x => x != d)
              sncStored := if s1.sncStored.contains d then s1.sncStored else d :: s1.sncStored }

/-- The selector judges its requests and selects (R193, R194, R200). -/
def State.sncSelect (s : State) (r : Rec) : State :=
  let k := r.key
  let x0 := s.sncSt k
  let x := match x0.top with
    | some q => if x0.present 6 && decide (q < 6) then { x0 with cmd := 0, dropped := true } else x0
    | none => x0
  let begins := x.top.isNone && (x.rank == 4 || x.rank == 5) && x.alt && r.revert && r.wtr != 0
  let s1 := if begins then s.startTimer (sncWtrKey k) (msFrames 10000 * r.wtr)
    else if x.top.isSome then s.stopTimer (sncWtrKey k) else s
  let rank := match x.top with
    | some q => q
    | none => if s1.timerOn (sncWtrKey k) then 7 else if !r.revert && x.alt then 8 else 9
  let alt := x.select rank
  let s2 := s1.setSnc k { x with alt := alt, rank := rank, chg := if alt = x.alt then x.chg else some (s.up, s.ns) }
  if alt = x.alt then s2 else s2.sncLogWrite k alt rank

/-- The selector at an egress name, if there is one, re-evaluates. -/
def State.sncEval (s : State) (k : Nat) : State :=
  match s.selector k with
  | some r => (s.sncConds r).sncSelect r
  | none => s

/-- A selector ends: its timers stop and its state is forgotten. -/
def State.sncEnd (s : State) (k : Nat) : State :=
  ([0, 1, 2, 3].foldl (fun t i => t.stopTimer (sncHoldKey k i)) (s.setSnc k emptySnc)).stopTimer (sncWtrKey k)

/-- A command of Table 08-13 reaches a selector. -/
def State.sncCommand (s : State) (k cmd : Nat) : State := s.setSnc k { s.sncSt k with cmd := cmd, dropped := false }

/-- SNCP_EVALUATE (R195). -/
def execSncpEvaluate (a3 : Bool) (t : TA) (s : State) : Out := done (s.sncEval (egName a3 t))

/-- SNCP_HOLDOFF_EXPIRE: condition i of COND enters selection (R192). -/
def execSncpHoldoffExpire (a3 : Bool) (t : TA) (i : Fin 4) (s : State) : Out :=
  let k := egName a3 t
  if s.timerDone (sncHoldKey k i) then
    done (((s.stopTimer (sncHoldKey k i)).setSnc k ((s.sncSt k).putBit i true)).sncEval k)
  else .next s

/-- SNCP_WTR_EXPIRE: the selector reverts (R194). -/
def execSncpWtrExpire (a3 : Bool) (t : TA) (s : State) : Out :=
  let k := egName a3 t
  if s.timerDone (sncWtrKey k) then done ((s.stopTimer (sncWtrKey k)).sncEval k) else .next s

-- Registers (R207)

/-- Longest hold-off of a selector that is running, in 100 ms rounded up. -/
def State.sncHoldLeft (s : State) (k : Nat) : Nat :=
  ([0, 1, 2, 3].map (fun i => cdiv (s.timerLeft (sncHoldKey k i)) (msFrames 100))).foldl max 0

/-- A GO with SNCP_IND_CTRL. -/
def State.sncRead (s : State) (d : Nat) (a3 : Bool) (t : TA) : State :=
  let k := egName a3 t
  let s0 := (s.put (R.SNCP_IND_CTRL d) F.SNCP_IND_CTRL_AU3 (if a3 then 1 else 0)).put (R.SNCP_IND_CTRL d) F.SNCP_IND_CTRL_TA t.toNat
  let s1 := s0.put (R.SNCP_IND_STATUS d) F.SNCP_IND_STATUS_DONE 1
  if (s.selector k).isNone ∨ luDie (taLink t) ≠ d then s1.put (R.SNCP_IND_STATUS d) F.SNCP_IND_STATUS_ERR 1
  else
    let x := s.sncSt k
    let r0 := R.SNCP_IND_DATA0 d
    ((((((s1.put r0 F.SNCP_IND_DATA0_REQ x.rank).put r0 F.SNCP_IND_DATA0_ALT (if x.alt then 1 else 0)).put r0
      F.SNCP_IND_DATA0_COND x.cond).put r0 F.SNCP_IND_DATA0_EXT_CMD x.cmd).put r0 F.SNCP_IND_DATA0_CMD_DROPPED
      (if x.dropped then 1 else 0)).put (R.SNCP_IND_DATA1 d) F.SNCP_IND_DATA1_HOLD_LEFT (s.sncHoldLeft k)).put
      (R.SNCP_IND_DATA1 d) F.SNCP_IND_DATA1_WTR_LEFT (cdiv (s.timerLeft (sncWtrKey k)) (msFrames 1000))

/-- SNCP_IND_READ. -/
def execSncpIndRead (p : Port) (d : Fin 4) (a3 : Bool) (t : TA) (s : State) : Out :=
  .next (hostReg p (.sncpIndRead p d a3 t) (fun u => u.sncRead d a3 t) s)

/-- A read of SNCP_LOG_DATA0 takes the oldest entry; VALID reads 0 when the log was empty. -/
def State.sncPop (s : State) (d : Nat) : State :=
  match s.sncLogOf d with
  | [] => let s1 := s.put (R.SNCP_LOG_DATA0 d) F.SNCP_LOG_DATA0_VALID 0; (s1.answer (.word (s1.rd (R.SNCP_LOG_DATA0 d))))
  | e :: l =>
    let s1 := (((s.setSncLog d l).wr (R.SNCP_LOG_DATA0 d) e.1).wr (R.SNCP_LOG_DATA1 d) e.2.1).wr (R.SNCP_LOG_DATA2 d) e.2.2
    (s1.answer (.word e.1))

/-- SNCP_LOG_POP. -/
def execSncpLogPop (p : Port) (d : Fin 4) (s : State) : Out := .next (hostReg p (.sncpLogPop p d) (fun u => u.sncPop d) s)

end Sys2Proof.Machine
end

