-- ==== Sys2Proof/Machine/Txn.lean ====
section
/-!
DEFINITION. Transactions and connection maps (R82 to R98, R199, R205).
-/

namespace Sys2Proof.Machine

-- Admission of records (R95)

/-- What a record of slot k is checked against. -/
def State.adm (s : State) (k : Nat) : Adm where
  pers := s.persOf
  rate := s.nLink
  powered := s.regionPowered
  retired := s.retiredLU
  rebench := s.underRebench
  depth := s.depthOf
  active := s.entries
  merges := s.merges
  others := ((List.range 8).filter (fun j => j != k && s.txnClaims j)).flatMap (fun j => (s.slot j).recs)
  exists' := s.srcExists
  headNc := s.srcHead
  msp := fun n => (s.mspOf [2] n).map (fun m => (s.arch1n m.1 m.2.1, m.2.2))

/-- Counts a record that is discarded (R87). -/
def State.discard (s : State) (k : Nat) : State := s.satInc (R.TXN_COUNT k) F.TXN_COUNT_DISCARDED

/-- The slot takes records: OPEN, or a fetch that began in OPEN and runs on after CLOSE. -/
def State.takesRec (s : State) (k : Nat) (fetched : Bool) : Bool :=
  s.txnState k == txOPEN || (fetched && s.txnState k == txBUILDING)

/-- The slot takes what its fetch in progress delivers. -/
def State.takesFetch (s : State) (k : Nat) : Bool := s.takesRec k true && !(s.slot k).stale

/-- Accepts a record, or refuses the transaction (Table 04-5). A record that the originating side refuses itself is not forwarded, and that side
keeps its own code (DEDUCED, notes/assumptions/46.md). In GRAVE a record that fails a check is discarded, since no slot
changes state (Table 14-12). -/
def State.append (s : State) (k : Nat) (r : Rec) (fetched : Bool) : State :=
  if !s.takesRec k fetched then s.discard k
  else
    let t := s.slot k
    match (s.adm k).check t.recs r with
    | some c => if s.grave then s.discard k else s.refuseRec k c t.recs.length
    | none =>
        let s1 := (s.setSlot k { t with recs := t.recs ++ [r], unbuilt := t.unbuilt + 1 }).put (R.TXN_COUNT k) F.TXN_COUNT_RECORDS
          (t.recs.length + 1)
        (if s1.mirrored k && !s1.originMate k then s1.toMate (.record k r) else s1).updQueue

/-- The slot is a copy that the mate opened: host writes other than ABORT do not apply (R94). -/
def State.copyOfMate (s : State) (k : Nat) : Bool := s.originMate k && s.txnState k != txFREE

-- TXN_CMD

/-- Nothing of a transaction is left; a fetch in progress runs on, and its records are discarded (R87; notes/assumptions/46.md). -/
def TxnSlot.cleared (t : TxnSlot) : TxnSlot :=
  if t.fetchLeft = 0 then emptySlot else { emptySlot with fetchLeft := t.fetchLeft, fetchAddr := t.fetchAddr, stale := true }

/-- The slot enters OPEN with its status cleared (Table 04-5). -/
def State.openSlot (s : State) (k : Nat) : State :=
  ((((s.wr (R.TXN_STATUS k) (s.rd (R.TXN_STATUS k) &&& 0x0000FFFF)).wr (R.TXN_COUNT k) 0).wr (R.TXN_ERR_INDEX k) 0xFFFFFFFF).setSlot k
    (s.slot k).cleared).setTxn k txOPEN

/-- Mirroring is enabled on both packages (Table 04-10). -/
def State.mirrorOn (s : State) : Bool :=
  s.flag R.TXN_MIRROR_CTRL F.TXN_MIRROR_CTRL_ENABLE && s.flag R.TXN_MIRROR_CTRL F.TXN_MIRROR_CTRL_MATE_OK

/-- The slot is one that this side opens while mirroring is on (R94). -/
def State.ownSlot (s : State) (k : Nat) : Bool :=
  !s.mirrorOn || (if s.flag R.PAIR_STATUS F.PAIR_STATUS_SIDE then decide (4 ≤ k) else decide (k < 4))

def State.txnOpen (s : State) (k : Nat) (mirror : Bool) : State :=
  if s.grave || s.txnState k != txFREE || !s.ownSlot k then s.opRefused k
  else if !mirror then s.openSlot k
  else if !s.flag R.TXN_MIRROR_CTRL F.TXN_MIRROR_CTRL_ENABLE then s.opRefused k
  else
    let s1 := s.openSlot k
    if s.flag R.TXN_MIRROR_CTRL F.TXN_MIRROR_CTRL_MATE_OK then
      (s1.put (R.TXN_STATUS k) F.TXN_STATUS_MIRROR 1).toMate (.opn k)
    else s1.refuseTxn k rcMATE

/-- Records still queued or still being fetched count toward the build bound on every die (R88). -/
def State.buildQueue (s : State) (d : Nat) : Nat :=
  s.queued d + ((List.range 8).map (fun k => (s.slot k).fetchLeft)).foldl (· + ·) 0

/-- L of R88, in ns. -/
def State.buildBound (s : State) (k : Nat) : Nat :=
  1000 * (10 + (([0, 1, 2, 3].map (fun d => cdiv (s.buildQueue d) 64)).foldl max 0) + (if s.mirrored k then 20 else 0))

/-- Least frames from now to a commit frame that R88 lets pass. -/
def State.leastLead (s : State) (k : Nat) : Nat := max 4 (cdiv (s.buildBound k + s.ns) 125000 + 2)

/-- The first check of R88 that a commit frame fails. -/
def State.fnCheck (s : State) (k fnc : Nat) : Option Nat :=
  let delta := fnDelta s.fn fnc
  if fnc % 4 ≠ 0 then some rcFN_ALIGN
  else if 2 ^ 31 - 1 < delta then some rcFN_RANGE
  else if delta < s.leastLead k then some rcLEAD
  else none

/-- The commit frame that ASAP chooses (R89). -/
def State.asapFn (s : State) (k : Nat) : Nat := (s.fn + s.leastLead k + 3) / 4 * 4 % 2 ^ 32

/-- Records of the slot's own transaction are still being fetched. -/
def State.fetching (s : State) (k : Nat) : Bool := decide (0 < (s.slot k).fetchLeft) && !(s.slot k).stale

/-- Nothing of the slot is queued or being fetched, and the mate has reported BUILT. -/
def State.allBuilt (s : State) (k : Nat) : Bool :=
  let t := s.slot k
  decide (t.unbuilt = 0) && !s.fetching k && (!s.mirrored k || s.originMate k || t.mateBuilt)

/-- The slot enters BUILT when it may; a mate's copy reports it. -/
def State.tryBuilt (s : State) (k : Nat) : State :=
  if s.txnState k = txBUILDING ∧ s.allBuilt k ∧ !s.grave then
    let s1 := s.setTxn k txBUILT
    if s1.mirrored k && s1.originMate k then s1.toMate (.built k) else s1
  else s

/-- The mate of a mirrored transaction is told of its CLOSE, once every record has been forwarded: with a fetch in progress, at its end (R94;
notes/assumptions/90.md). -/
def State.tellClose (s : State) (k : Nat) : State :=
  if s.mirrored k && !s.originMate k && !s.fetching k then s.toMate (.close k (s.rd (R.TXN_FN k)).toNat) else s

/-- CLOSE with its commit frame in TXN_FN. A mirrored slot is BUILDING until the mate's BUILT report, with nothing queued here too (DEDUCED,
notes/assumptions/46.md). -/
def State.txnClose (s : State) (k : Nat) (asap : Bool) : State :=
  if s.grave || s.txnState k != txOPEN || s.copyOfMate k then s.opRefused k
  else
    let s1 := if asap then s.wr (R.TXN_FN k) (BitVec.ofNat 32 (s.asapFn k)) else s
    match s1.fnCheck k (s1.rd (R.TXN_FN k)).toNat with
    | some c => s1.refuseTxn k c
    | none =>
        let s2 := s1.tellClose k
        if s2.allBuilt k then s2.setTxn k txBUILT else s2.setTxn k txBUILDING

/-- An ABORT at the acceptance point of R92, with its cause code. -/
def State.txnAbort (s : State) (k cause : Nat) : State :=
  let st := s.txnState k
  if st = txFREE then s.opRefused k
  else if st = txABORTED ∨ st = txREFUSED then s
  else
    let s1 := (s.wr (R.TXN_ABORT_FN k) (BitVec.ofNat 32 s.fn)).put (R.TXN_ABORT_NS k) F.TXN_ABORT_NS_NS s.ns
    if st = txSEALED ∨ st = txCOMMITTED then (s1.put (R.TXN_STATUS k) F.TXN_STATUS_LATE_ABORT 1).txnNotify k
    else
      let s2 := s1.abortTxn k cause
      if s2.mirrored k then s2.toMate (.aborted k) else s2

/-- An ABORT that a host port writes: on a mate's copy it is forwarded (R94). -/
def State.hostAbort (s : State) (p : Port) (k : Nat) : State :=
  if s.grave then s.opRefused k
  else if s.copyOfMate k && decide (s.txnState k ≤ 5) then s.toMate (.abort k)
  else s.txnAbort k (match p with | .a => 1 | .b => 2)

/-- The slot becomes FREE. -/
def State.freeSlot (s : State) (k : Nat) : State := (s.setTxn k txFREE).setSlot k (s.slot k).cleared

def State.txnRelease (s : State) (k : Nat) : State :=
  if s.grave || s.txnState k < 5 || s.flag (R.TXN_STATUS k) F.TXN_STATUS_CLEANING || s.copyOfMate k then s.opRefused k
  else
    let s1 := if s.mirrored k then s.toMate (.release k) else s
    s1.freeSlot k

/-- TXN_OPEN. -/
def execTxnOpen (p : Port) (k : Fin 8) (s : State) : Out := .next (hostReg p (.txnOpen p k) (fun t => t.txnOpen k false) s)

/-- TXN_OPEN_MIRROR. -/
def execTxnOpenMirror (p : Port) (k : Fin 8) (s : State) : Out := done (hostReg p (.txnOpenMirror p k) (fun t => t.txnOpen k true) s)

/-- TXN_CLOSE. -/
def execTxnClose (p : Port) (k : Fin 8) (s : State) : Out := done (hostReg p (.txnClose p k) (fun t => t.txnClose k false) s)

/-- TXN_CLOSE_ASAP. -/
def execTxnCloseAsap (p : Port) (k : Fin 8) (s : State) : Out := done (hostReg p (.txnCloseAsap p k) (fun t => t.txnClose k true) s)

/-- TXN_ABORT. -/
def execTxnAbort (p : Port) (k : Fin 8) (s : State) : Out := done (hostReg p (.txnAbort p k) (fun t => t.hostAbort p k) s)

/-- TXN_RELEASE. -/
def execTxnRelease (p : Port) (k : Fin 8) (s : State) : Out := .next (hostReg p (.txnRelease p k) (fun t => t.txnRelease k) s)

/-- TXN_OP_INVALID. -/
def execTxnOpInvalid (p : Port) (k : Fin 8) (s : State) : Out := .next (hostReg p (.txnOpInvalid p k) (fun t => t.opRefused k) s)

-- Records, TXN_FN and fetches

/-- A write of TXN_REC3 appends the port's record (R86). -/
def State.hostRecord (s : State) (p : Port) (k : Nat) (v : Word) : State :=
  if s.copyOfMate k then s.opRefused k
  else s.append k ⟨s.rd (R.TXN_REC p k 0), s.rd (R.TXN_REC p k 1), s.rd (R.TXN_REC p k 2), v⟩ false

/-- TXN_RECORD_APPEND. -/
def execTxnRecordAppend (p : Port) (k : Fin 8) (v : Word) (s : State) : Out := done (hostReg p (.txnRecordAppend p k v) (fun t => t.hostRecord p k v) s)

/-- A write of TXN_FN (Table 04-13). -/
def State.writeTxnFn (s : State) (k : Nat) (v : Word) : State :=
  if s.txnState k = txOPEN ∧ !s.copyOfMate k then s.wr (R.TXN_FN k) v else s.opRefused k

/-- TXN_FN_WRITE. -/
def execTxnFnWrite (p : Port) (k : Fin 8) (v : Word) (s : State) : Out := .next (hostReg p (.txnFnWrite p k v) (fun t => t.writeTxnFn k v) s)

/-- Bytes a to a + 16 n of BAR2 lie in one work bank owned by MAP, or in the SCRATCH partition of one die (R86). -/
def State.fetchable (s : State) (a n : Nat) : Bool :=
  let z := a + 16 * n - 1
  if a < 0x40000000 then
    let d := a / 0x10000000
    let b := a % 0x10000000 / 0x40000
    z / 0x40000 == a / 0x40000 && decide (b < 42) && s.bankExists d b && !s.bankRetired d b && !s.bankPending d b && s.bankOwner d b == 4
  else if a < 0x1000000000 then false
  else
    let d := a / 0x400000000 - 4
    decide (d < 4) && decide (z < dramBase d + 0x400000000) && s.partAt d (a - dramBase d) == some 4
      && s.partAt d (z - dramBase d) == some 4

/-- Ends a fetch. -/
def State.fetchEnd (s : State) (k : Nat) : State :=
  (s.setSlot k { s.slot k with fetchLeft := 0, stale := false }).put (R.TXN_FETCH_CTRL k) F.TXN_FETCH_CTRL_BUSY 0

/-- A GO of TXN_FETCH_CTRL; a count of 0 leaves nothing to fetch, and one above 524,288, which Table 04-16 does not admit, is fetched as
written, until the record count refuses the transaction (notes/assumptions/46.md). -/
def State.fetchStart (s : State) (k n : Nat) : State :=
  let r := R.TXN_FETCH_CTRL k
  if s.flag r F.TXN_FETCH_CTRL_BUSY || s.txnState k != txOPEN || s.copyOfMate k then s.opRefused k
  else
    let s1 := s.put r F.TXN_FETCH_CTRL_COUNT n
    let a := 2 ^ 32 * ((s.rd (R.TXN_FETCH_HI k)).toNat % 32) + (s.rd (R.TXN_FETCH_LO k)).toNat / 16 * 16
    if n = 0 then s1
    else if !s1.fetchable a n then (if s1.grave then s1 else s1.refuseTxn k rcFETCH)
    else (s1.setSlot k { s1.slot k with fetchLeft := n, fetchAddr := a }).put r F.TXN_FETCH_CTRL_BUSY 1

/-- TXN_FETCH_START. -/
def execTxnFetchStart (p : Port) (k : Fin 8) (n : Fin 1048576) (s : State) : Out := done (hostReg p (.txnFetchStart p k n) (fun t => t.fetchStart k n) s)

/-- The MAP master of the die that holds a BAR2 address (R324). -/
def mapMaster (a : Nat) : Nat := mMAP (((bar2Target a).getD 0 + 3) % 4)

/-- A fetch fails (R313): the transaction is refused with FETCH if it still takes its records. -/
def State.fetchFail (s : State) (k : Nat) : State :=
  let s1 := s.fetchEnd k
  if s.grave || !s.takesFetch k then s1 else s1.refuseTxn k rcFETCH

/-- One record of a fetch arrives; `ecc` is what the checks of its two 64-bit words find. While its read waits no record arrives. A record is discarded when its slot no longer takes it, and
an access that fails ends the fetch (R87, R311, R313, R325). -/
def State.fetchRecord (s : State) (k : Nat) (ecc : Ecc × Ecc) : State :=
  let t := s.slot k
  let a := t.fetchAddr
  if t.fetchLeft = 0 ∨ s.engineWaits (mapMaster a) a (.read 16) then s
  else
    let (s1, ok) := s.engineOp (mapMaster a) a (.read 16) [(a, ecc.1), (a + 8, ecc.2)]
    if !ok then s1.fetchFail k
    else
      let s2 := s1.setSlot k { t with fetchLeft := t.fetchLeft - 1, fetchAddr := a + 16 }
      let s3 := if t.fetchLeft = 1 then s2.fetchEnd k else s2
      if !s.takesFetch k then s3.discard k
      else
        let s4 := s3.append k (recOfBytes (s.ld a 16)) true
        (if t.fetchLeft = 1 ∧ s4.txnState k = txBUILDING then s4.tellClose k else s4).tryBuilt k

/-- TXN_FETCH_RECORD; `ecc` is what the checks of the two words read find. -/
def execTxnFetchRecord (k : Fin 8) (ecc : Ecc × Ecc) (s : State) : Out := done (s.fetchRecord k ecc)

/-- A record of the slot has been built on every die it touches (R85). -/
def State.recBuilt (s : State) (k : Nat) : State :=
  let t := s.slot k
  match t.queue with
  | [] => s
  | r :: _ =>
    let s1 := (s.recDies r).foldl (fun u d => u.addCtr ⟨R.MAP_BUILT_LO d, R.MAP_BUILT_HI d⟩ 1) s
    ((s1.setSlot k { t with unbuilt := t.unbuilt - 1 }).updQueue).tryBuilt k

/-- MAP_RECORD_BUILT; with `map`, the map store of that die raises Dd.MAP (Table 14-4). -/
def execMapRecordBuilt (k : Fin 8) (map : Option (Fin 4)) (s : State) : Out :=
  done (match map with
    | some d => (s.recBuilt k).ev (evDie d) srcMAP
    | none => s.recBuilt k)

-- Maps (R79, R81, R90)

/-- NC code of the egress name of a record (Table 04-1): a DISCONNECT takes that of the active entry it names. -/
def State.recNc (s : State) (r : Rec) : Nat :=
  if r.typ = tyConnect then r.nc else ((s.entry r.key).map Rec.nc).getD 0

/-- Active entries that a CONNECT or DISCONNECT overlaps. -/
def State.overlapped (s : State) (r : Rec) : List Rec :=
  s.entries.filter (fun e => taOverlap e.egAu3 e.eg e.nc r.egAu3 r.eg (s.recNc r))

/-- The entry that a record leaves in the map: a DISCONNECT keeps the NC code of the entry that it clears, so that it covers the same AUG-1s
(R78, R80). -/
def State.entryOf (s : State) (r : Rec) : Rec :=
  if r.typ = tyDisconnect then { r with w1 := BitVec.ofNat 32 (2 ^ 24 * s.recNc r) } else r

/-- The map after a CONNECT or DISCONNECT: the entries it overlaps are cleared. -/
def State.mapRec (s : State) (r : Rec) : State :=
  if r.isConn then ((s.overlapped r).foldl (fun t e => t.setEntry e.key none) s).setEntry r.key (some (s.entryOf r)) else s

/-- The entry of an egress tributary: the one of its name, else a larger one that it overlaps, which for a name of kind 1 can be of kind 1
itself (R98). A TU-12 entry that takes part of a TU-11's
columns without holding all of them is such an entry (notes/assumptions/47.md). -/
def State.covering (s : State) (a3 : Bool) (t : TA) : Option Rec :=
  match s.entry (egName a3 t) with
  | some e => some e
  | none => s.entries.find? (fun e => (decide (taKind e.eg < taKind t) || (taKind e.eg == 1 && taKind t == 1))
      && (taKind e.eg == 0 || e.egAu3 == a3) && taOverlap e.egAu3 e.eg e.nc a3 t 0)

/-- The active map as the built records of live transactions would leave it: the shadow copy. -/
def State.shadowMap (s : State) : State :=
  ((List.range 8).filter (fun k => s.txnLive k)).foldl (fun t k =>
    let x := s.slot k
    (x.recs.take (x.recs.length - x.unbuilt)).foldl (fun u r => u.mapRec r) t) s

-- Seal and commit (R91)

/-- The present frame is the given one, or a later one within half the range of FN. -/
def State.reached (s : State) (f : Nat) : Bool := decide (fnDelta f s.fn < 2 ^ 31)

def State.commitFn (s : State) (k : Nat) : Nat := (s.rd (R.TXN_FN k)).toNat

/-- Frame number n frames before f. -/
def fnBefore (f n : Nat) : Nat := (f + 2 ^ 32 - n) % 2 ^ 32

/-- The entries of the old and the new map that a slot's records touch, for the union dispatch (R66). -/
def State.unionRecs (s : State) (k : Nat) : List Rec :=
  (s.slot k).recs.flatMap (fun r => if r.isConn then r :: s.overlapped r else [])

/-- The seal of slot k at S. Where a region re-bench accepts at this same boundary a slot that names its region is refused (R49). A mirrored
slot that fails on both counts, its own records unbuilt and the mate's report missing, is refused with LATE_BUILD (DESIGN CHOICE,
notes/assumptions/90.md). -/
def State.seal (s : State) (k : Nat) : State :=
  let st := s.txnState k
  if s.grave || s.copyOfMate k || !s.reached (fnBefore (s.commitFn k) 2) then s
  else if (st = txBUILT ∨ st = txBUILDING) ∧ s.benchTakes k = true then s.refuseTxn k rcREBENCH
  else if st = txBUILT then
    let s1 := { s.setTxn k txSEALED with unionHold := s.unionHold ++ [(k, s.rd (R.TXN_FN k), s.unionRecs k)] }
    if s1.mirrored k then s1.toMate (.sealed k) else s1
  else if st = txBUILDING then
    (if s.mirrored k ∧ (s.slot k).unbuilt = 0 ∧ !s.fetching k then s.refuseTxn k rcMATE else s.refuseTxn k rcLATE_BUILD)
  else s

/-- TXN_SEAL; with `seq`, the sequencer raises PKG.SEQ (Table 14-2). What is due has been sealed at the frame boundary already (R92). -/
def execTxnSeal (k : Fin 8) (seq : Bool) (s : State) : Out := done ((s.evIf seq evPkg srcSEQ).seal k)

/-- The selector of a CONNECT keeps its state when the entry that it replaces has the same SNC, SOURCE_TA and ALT_TA (R84). -/
def State.keepsSel (s : State) (r : Rec) : Bool :=
  match s.entry r.key with
  | some e => r.hasSnc && e.hasSnc && e.snc == r.snc && e.src == r.src && e.alt == r.alt
  | none => false

/-- FEED_S_OK or FEED_A_OK of SOURCE link j of die d; each change counts one event on Dd.MERGE (R208). -/
def State.setFeed (s : State) (d j : Nat) (f : Fld) (b : Bool) : State :=
  if s.flag (R.MRG_STATUS d j) f = b then s else (s.put (R.MRG_STATUS d j) f (if b then 1 else 0)).ev (evDie d) srcMERGE

/-- MRG_STATUS of a merge that starts or ends (Table 08-18). -/
def State.mrgShow (s : State) (n m : Nat) (on : Bool) : State :=
  let r := R.MRG_STATUS (luDie n) (n % 32)
  if on then (s.put r F.MRG_STATUS_ACTIVE 1).put r F.MRG_STATUS_PARTNER (m % 32)
  else (((s.put r F.MRG_STATUS_ACTIVE 0).put r F.MRG_STATUS_PARTNER 0).setFeed (luDie n) (n % 32) F.MRG_STATUS_FEED_S_OK false).setFeed
    (luDie n) (n % 32) F.MRG_STATUS_FEED_A_OK false

/-- A record takes effect at its commit frame (R84, R90, R197, R199, R205). -/
def State.commitRec (s : State) (r : Rec) : State :=
  if r.isConn then
    let keep := s.keepsSel r
    let gone := (s.overlapped r).filter (fun e => !(keep && e.key == r.key))
    let s1 := (gone.foldl (fun t e => t.sncEnd e.key) s).mapRec r
    let s2 := if r.hasSnc && !keep then (s1.setSnc r.key emptySnc).sncConds r else s1
    if r.typ = tyConnect ∧ r.hit ∧ (s.adm 8).crossReplace r then
      { s2 with hitAis := store id (fun _ => 0) s2.hitAis r.key 4 }
    else { s2 with hitAis := store id (fun _ => 0) s2.hitAis r.key 0 }
  else if r.typ = tySelCmd then
    (match (if taKind r.eg = 0 ∧ s.entries.any (fun e => e.key == r.key && e.hasSnc) = false then s.mspOf [2] (taLink r.eg) else none) with
     | some (g, k, c) => s.mspCommand g k c r.cmd
     | none => s.sncCommand r.key r.cmd)
  else if r.typ = tyMerge then
    { s with merges := s.merges ++ [(taLink r.src, taLink r.alt)] }.mrgShow (taLink r.src) (taLink r.alt) true
  else
    { s with merges := s.merges.filter (fun m => m.1 != taLink r.src) }.mrgShow (taLink r.src) 0 false

/-- The commit frame of a sealed transaction has come (R91). -/
def State.commitDue (s : State) (k : Nat) : Bool := !s.grave && s.txnState k == txSEALED && s.reached (s.commitFn k)

def State.commitTxn (s : State) (k : Nat) : State :=
  if !s.commitDue k then s
  else
    let rs := (s.slot k).recs
    let s1 := (rs.foldl (fun t r => t.commitRec r) s).setTxn k txCOMMITTED
    { s1.wr R.TXN_LAST_COMMIT_FN (s.rd (R.TXN_FN k)) with syncing := s1.syncing ++ [(k, rs)] }

/-- Refuses a slot because of what the mate says or does not say; `idx` is the record's index, 0xFFFFFFFF for none (R95). -/
def State.refuseByMate (s : State) (k : Nat) (idx : Word) : State :=
  if s.grave || !(decide (1 ≤ s.txnState k) && decide (s.txnState k ≤ 3)) then s
  else (((s.wr (R.TXN_ERR_INDEX k) idx).put (R.TXN_STATUS k) F.TXN_STATUS_CODE rcMATE).setTxn k txREFUSED).beginRestore k

/-- The start of COMMIT_FN - 1 has come (R94). -/
def State.mateLimit (s : State) (k : Nat) : Bool := s.reached (fnBefore (s.commitFn k) 1)

/-- A mate's copy that has not received the seal by the start of COMMIT_FN - 1 (R94 item 5). -/
def State.mateSealDue (s : State) (k : Nat) : State :=
  if s.copyOfMate k && (s.txnState k == txBUILDING || s.txnState k == txBUILT) && s.mateLimit k then s.refuseByMate k 0xFFFFFFFF else s

/-- A sealed transaction without the mate's acknowledgement at the start of COMMIT_FN - 1 (R94 item 6). -/
def State.mateAckDue (s : State) (k : Nat) : State :=
  if s.mirrored k && !s.originMate k && (s.txnState k == txSEALED || s.txnState k == txCOMMITTED) && !(s.slot k).mateAck
      && s.mateLimit k && !s.flag (R.TXN_STATUS k) F.TXN_STATUS_MATE_UNCONF then
    (s.put (R.TXN_STATUS k) F.TXN_STATUS_MATE_UNCONF 1).ev evPair srcMIRROR
  else s

/-- What a frame boundary decides about the transactions, slot by slot: seals at S, the mate's limit at the start of COMMIT_FN - 1, commits at
COMMIT_FN (R91, R92, R94). -/
def State.txnBoundary (s : State) : State :=
  (List.range 8).foldl (fun t k => (((t.seal k).mateSealDue k).mateAckDue k).commitTxn k) s

/-- TXN_COMMIT; with `xchk`, the dies disagree (PKG.XCHK, Table 14-2). What is due has been committed at the frame boundary already (R91);
a commit at a boundary goes before the steps of the MSP controllers there (R185). -/
def execTxnCommit (k : Fin 8) (xchk : Bool) (s : State) : Out :=
  let t := s.commitTxn k
  done ((if s.commitDue k && s.ns == 0 then t.mspStepAll else t).evIf xchk evPkg srcXCHK)

/-- UNION_DISPATCH_WITHDRAW: from the start of the frame after the commit frame dispatch follows the new map alone. -/
def execUnionDispatchWithdraw (k : Fin 8) (s : State) : Out :=
  .next { s with unionHold := s.unionHold.filter (fun u => !(u.1 == k.val && s.reached ((u.2.1.toNat + 1) % 2 ^ 32))) }

/-- SHADOW_SYNC_DONE: step 8 of Table 04-6. -/
def execShadowSyncDone (k : Fin 8) (s : State) : Out :=
  if s.unionHold.any (fun u => u.1 == k.val) then .next s
  else .next { s with syncing := s.syncing.filter (fun e => e.1 != k.val) }

/-- TXN_RESTORE_DONE: the claims are released. -/
def execTxnRestoreDone (k : Fin 8) (s : State) : Out :=
  if !s.flag (R.TXN_STATUS k) F.TXN_STATUS_CLEANING then .next s
  else
    let s1 := ((s.put (R.TXN_STATUS k) F.TXN_STATUS_CLEANING 0).setSlot k { s.slot k with recs := [], unbuilt := 0 }).updQueue
    .next (if (s.slot k).relDue && !s.grave then s1.freeSlot k else s1)

-- Mirroring (R94)

/-- A write of TXN_MIRROR_CTRL. -/
def State.writeMirror (s : State) (v : Word) : State :=
  if (List.range 8).any (fun k => s.txnLive k) then s
  else s.put R.TXN_MIRROR_CTRL F.TXN_MIRROR_CTRL_ENABLE (v.toNat % 2)

/-- MIRROR_ENABLE_WRITE. -/
def execMirrorEnableWrite (p : Port) (v : Word) (s : State) : Out := .next (hostReg p (.mirrorEnableWrite p v) (fun t => t.writeMirror v) s)

/-- What arrives over the mate link about slot k, by kind: 0 OPEN, 1 record, 2 CLOSE, 3 ABORT written on the mate, 4 RELEASE,
5 refused, 6 aborted, 7 BUILT, 8 seal, 9 seal acknowledgement. Its words are a record's, or in the first the commit frame of a CLOSE or the
index of a refused record. A record that follows the CLOSE takes a BUILT copy back to BUILDING, and a seal or its acknowledgement that comes
after the start of COMMIT_FN - 1 is too late (notes/assumptions/90.md). -/
def State.mateTxn (s : State) (kind k : Nat) (w0 w1 w2 w3 : Word) : State :=
  match kind with
  | 0 =>
      if s.txnState k = txFREE ∧ !s.grave then
        ((s.openSlot k).put (R.TXN_STATUS k) F.TXN_STATUS_MIRROR 1).put (R.TXN_STATUS k) F.TXN_STATUS_ORIGIN 1
      else s.toMate (.refused k none)
  | 1 =>
      if s.copyOfMate k then
        ((if s.txnState k = txBUILT ∧ !s.grave then s.setTxn k txBUILDING else s).append k ⟨w0, w1, w2, w3⟩ true)
      else s
  | 2 =>
      if s.copyOfMate k && s.txnState k == txOPEN && !s.grave then ((s.wr (R.TXN_FN k) w0).setTxn k txBUILDING).tryBuilt k else s
  | 3 => if s.mirrored k && !s.originMate k && !s.grave then s.txnAbort k 3 else s
  | 4 =>
      if !s.copyOfMate k || s.txnState k < 5 || s.grave then s
      else if s.flag (R.TXN_STATUS k) F.TXN_STATUS_CLEANING then s.setSlot k { s.slot k with relDue := true }
      else s.freeSlot k
  | 5 => if s.mirrored k then s.refuseByMate k w0 else s
  | 6 =>
      if s.copyOfMate k && decide (s.txnState k ≤ 3) && !s.grave then s.abortTxn k 3 else s
  | 7 => if s.mirrored k && !s.originMate k then (s.setSlot k { s.slot k with mateBuilt := true }).tryBuilt k else s
  | 8 =>
      if s.copyOfMate k && s.txnState k == txBUILT && !s.grave && s.mateLimit k then s.refuseByMate k 0xFFFFFFFF
      else if s.copyOfMate k && s.txnState k == txBUILT && !s.grave then
        ({ s.setTxn k txSEALED with unionHold := s.unionHold ++ [(k, s.rd (R.TXN_FN k), s.unionRecs k)] }.setSlot k
          { s.slot k with sealRx := true }).toMate (.sealAck k)
      else s
  | 9 => if s.mirrored k && !s.originMate k && !s.mateLimit k then s.setSlot k { s.slot k with mateAck := true } else s
  | _ => s

/-- MATE_TXN_RECEIVE. -/
def execMateTxnReceive (kind : Fin 10) (k : Fin 8) (w0 w1 w2 w3 : Word) (s : State) : Out := done (s.mateTxn kind k w0 w1 w2 w3)

/-- MATE_SEAL_TIMEOUT: a mate's copy without the seal at the start of COMMIT_FN - 1. -/
def execMateSealTimeout (k : Fin 8) (s : State) : Out := done (s.mateSealDue k)

/-- MATE_ACK_TIMEOUT: a sealed transaction without the mate's acknowledgement at the start of COMMIT_FN - 1. -/
def execMateAckTimeout (k : Fin 8) (s : State) : Out := done (s.mateAckDue k)

/-- A host write of TXN_REC0 to TXN_REC2, of TXN_FETCH_LO or _HI, or of TXN_FETCH_CTRL without GO: on a mate's copy it sets OP_REFUSED and
stores nothing (R94 item 3). -/
def State.writeSlotReg (s : State) (k : Nat) (f : State → State) : State := if s.copyOfMate k then s.opRefused k else f s

-- Diagnostic reads (R98)

/-- Regions that hold an egress tributary with source or alternate t. -/
def regionsOf (rs : List Rec) (t : TA) : Nat :=
  ((List.range 8).filter (fun g => rs.any (fun r => r.sources.contains t && luRegion (taLink r.eg) == g))).foldl (fun m g => m + 2 ^ g) 0

/-- The slot that claims an egress entry; 0xF where none does. -/
def State.claimant (s : State) (a3 : Bool) (t : TA) : Nat :=
  let q : Rec := ⟨BitVec.ofNat 32 (2 ^ 28 * tyDisconnect + egName a3 t), 0, 0, 0⟩
  ((List.range 8).find? (fun k => s.txnClaims k && (s.slot k).recs.any (fun r =>
    if r.isConn then ((s.adm k).footprint r).any (fun e => (s.adm k).over e q) else ((s.adm k).pointClaims r).contains q.key))).getD 15

/-- NC code that fits a kind-1 name: the one of its own entry, the smallest where a larger entry covers it, or that of the ingress structure. -/
def State.ncFor (s : State) (a3 : Bool) (t : TA) : Nat :=
  match s.entry (egName a3 t), s.covering a3 t with
  | some e, _ => e.nc
  | none, some _ => 0
  | none, none => s.get (R.LU_PATH_STRUCT0 (taLink t) (taAug t)) F.LU_PATH_STRUCT0_NC

/-- The TA names an egress position on die d that SEL 0, 1 and 3 can read. -/
def State.diagTA (s : State) (d : Nat) (a3 : Bool) (t : TA) : Bool :=
  luDie (taLink t) == d && taFits t (s.ncFor a3 t) && (taKind t != 3 || a3) && (decide (5 ≤ taKind t) || taKind t == 3 || !a3)

/-- A GO is refused at once: the TA is not on the die, or not valid for SEL (Table 04-20). -/
def State.diagErr (s : State) (d sel : Nat) (a3 : Bool) (t : TA) : Bool :=
  if sel = 2 then !(luDie (taLink t) == d && taFits t (s.get (R.LU_PATH_STRUCT0 (taLink t) (taAug t)) F.LU_PATH_STRUCT0_NC)
      && (taKind t == 0 || s.isPath a3 t))
  else !(s.diagTA d a3 t)

/-- A GO of MAP_DIAG_CTRL. -/
def State.diagGo (s : State) (d sel : Nat) (a3 : Bool) (t : TA) : State :=
  let w := BitVec.ofNat 32 (2 ^ 25 * sel + egName a3 t)
  let s1 := s.wr (R.MAP_DIAG_CTRL d) w
  let st := R.MAP_DIAG_STATUS d
  if s.diagErr d sel a3 t then
    { (s1.put st F.MAP_DIAG_STATUS_ERR 1).put st F.MAP_DIAG_STATUS_DONE 1 with mapDiag := s.mapDiag.filter (fun e => e.1 != d) }
  else { s1 with mapDiag := (d, w) :: s.mapDiag.filter (fun e => e.1 != d) }

/-- MAP_DIAG_ACTIVE. -/
def execMapDiagActive (p : Port) (d : Fin 4) (a3 : Bool) (t : TA) (s : State) : Out := .next (hostReg p (.mapDiagActive p d a3 t) (fun u => u.diagGo d 0 a3 t) s)

/-- MAP_DIAG_SHADOW. -/
def execMapDiagShadow (p : Port) (d : Fin 4) (a3 : Bool) (t : TA) (s : State) : Out := .next (hostReg p (.mapDiagShadow p d a3 t) (fun u => u.diagGo d 1 a3 t) s)

/-- MAP_DIAG_DISPATCH. -/
def execMapDiagDispatch (p : Port) (d : Fin 4) (a3 : Bool) (t : TA) (s : State) : Out := .next (hostReg p (.mapDiagDispatch p d a3 t) (fun u => u.diagGo d 2 a3 t) s)

/-- MAP_DIAG_GATHER. -/
def execMapDiagGather (p : Port) (d : Fin 4) (a3 : Bool) (t : TA) (s : State) : Out := .next (hostReg p (.mapDiagGather p d a3 t) (fun u => u.diagGo d 3 a3 t) s)

/-- An entry as DATA0 to DATA3, in the layout of Table 04-1, in which word 1 of a DISCONNECT is 0; a position with no entry reads 0. -/
def entryWords : Option Rec → List Word
  | some r => [r.w0, if r.typ = tyDisconnect then 0 else r.w1, r.w2, r.w3]
  | none => [0, 0, 0, 0]

/-- MODE of Table 04-21. -/
def Gather.code : Gather → Nat
  | .follow => 0
  | .pathAis => 1
  | .unequipped => 2
  | .forced => 3

/-- The words of a gather entry. -/
def State.gatherWords (s : State) (a3 : Bool) (t : TA) : List Word :=
  match s.covering a3 t with
  | some r =>
      let alt := r.hasSnc && (s.sncSt r.key).alt
      [BitVec.ofNat 32 (2 ^ 30 * (s.gather r).code + (if alt then 2 ^ 29 else 0)
        + (if r.typ = tyConnect then (s.selected r).toNat else 0)), 0, 0, 0]
  | none => [BitVec.ofNat 32 (2 ^ 30 * (if s.outForced (taLink t) then 3 else 2)), 0, 0, 0]

/-- The words of a dispatch entry: names of a working link whose group selects protection are dispatched all the same (R179). -/
def State.dispatchWords (s : State) (t : TA) : List Word :=
  let un := (s.unionHold.flatMap (fun u => u.2.2)) ++ s.entries
  let on := !s.unionHold.isEmpty
  [BitVec.ofNat 32 ((if on then 2 ^ 31 + 256 * (regionsOf un t) else 0) + regionsOf s.entries t), 0, 0, 0]

def State.putData (s : State) (d : Nat) (l : List Word) : State :=
  [0, 1, 2, 3].foldl (fun t i => t.wr (R.MAP_DIAG_DATA d i) (l.getD i 0)) s

/-- The read in progress on die d completes. -/
def State.diagDone (s : State) (d : Nat) : State :=
  match s.mapDiag.find? (fun e => e.1 == d) with
  | none => s
  | some (_, w) =>
    let sel := bitsOf w 26 25
    let a3 := w.toNat.testBit 24
    let t : TA := w.setWidth 24
    let st := R.MAP_DIAG_STATUS d
    let s0 := { s with mapDiag := s.mapDiag.filter (fun e => e.1 != d) }
    let m := if sel = 1 then s.shadowMap else s
    let words := if sel ≤ 1 then entryWords (m.covering a3 t) else if sel = 2 then s.dispatchWords t else s.gatherWords a3 t
    let cov := decide (sel ≤ 1) && (m.entry (egName a3 t)).isNone && (m.covering a3 t).isSome
    (((s0.putData d words).put st F.MAP_DIAG_STATUS_COVERED (if cov then 1 else 0)).put st F.MAP_DIAG_STATUS_CLAIM
      (if sel = 2 then 15 else s.claimant a3 t)).put st F.MAP_DIAG_STATUS_DONE 1

/-- MAP_DIAG_DONE. -/
def execMapDiagDone (d : Fin 4) (s : State) : Out := .next (s.diagDone d)

end Sys2Proof.Machine
end

