-- ==== Sys2Proof/Machine/Fabric.lean ====
section
/-!
DEFINITION. The path of a grain up to the write side: crossings, dispatch and Seams (R13, R14, R55, R58, R59, R66, R170, R179, R204).
-/

namespace Sys2Proof.Machine

-- Dispatch (R58, R66)

/-- Entries that dispatch serves: those of the active map, and of old and new maps while union dispatch is in force. -/
def State.served (s : State) : List Rec := s.entries ++ s.unionHold.flatMap (fun u => u.2.2)

/-- Sources and alternates of an entry in which position p of link l lies. -/
def State.sourcesAt (s : State) (r : Rec) (l p : Nat) : List TA :=
  match s.nLink l with
  | none => []
  | some k => r.sources.filter (fun t => taLink t == l && (trLocate (s.srcAu3 t) t r.nc k p).isSome)

/-- How a grain leaves its LU: the uptime frame, the instant in it where that is not the time of the grain's position, and the sources it
serves: a whole link (kind 0), tributaries. -/
structure Leave where
  dep : Nat
  at' : Option Nat
  whole : Bool
  trib : Bool
  /-- The deskew's word is uncorrectable (R325). -/
  bad : Bool

/-- The grain serves source t. -/
def servesKind (whole trib : Bool) (t : TA) : Bool := if taKind t = 0 then whole else trib

/-- Takes a grain of name l, position p, to the dies that need it, and into the deskew of the groups that hold it: the entries whose source
leaves a deskew take the grain that leaves it then. -/
def State.dispatchName (s : State) (n l p : Nat) (x : Leave) (g : Grain) : State :=
  let ds := luDie n
  let rs := s.served
  let srcs (r : Rec) : List TA := (s.sourcesAt r l p).filter (servesKind x.whole x.trib)
  let put (t : State) (eq : Bool) (g : Grain) (pick : TA → Bool) : State :=
    [0, 1, 2, 3].foldl (fun u d =>
      let regs := ([2 * d, 2 * d + 1].filter (fun y => rs.any (fun r => luRegion (taLink r.eg) == y && (srcs r).any pick)))
      if regs.isEmpty || !s.seamUp ds d then u
      else { u with fabric := u.fabric ++ [⟨d, l, p, x.dep, x.at', x.whole, x.trib, eq, regs, g⟩] }) t
  let eqs := (rs.flatMap (fun r => (srcs r).filter (fun t => (s.equaliser (s.srcAu3 t) t).isSome))).eraseDups
  let s1 := if x.trib then s.deskewIn l p g else s
  eqs.foldl (fun u t => put u true (s1.deskewed (s.srcAu3 t) t p x.bad g) (fun x => x == t)) (put s1 false g (fun t => !eqs.contains t))

/-- A grain of LU n leaves for the write sides; none leaves while its region's islands, or its own, are stopped in fence mode
(Table 14-11). -/
def State.dispatch (s : State) (n p : Nat) (x : Leave) (g : Grain) : State :=
  if s.rxStopped n || s.regionStopped (luRegion n) then s
  else (s.feedNames n).foldl (fun u l => u.dispatchName n l p x g) s

/-- GRAIN_DISPATCH: the byte b of position p leaves line LU n as a grain: `raw`, a byte of the received frame for whole-link connections
(kind 0), which pass no realigner; otherwise a byte that leaves a realigner, with the marker that this gives it (R54). A TG link's grains
leave as its frames arrive (TG_FRAME_RECEIVE). With `map`, a dispatch-table word fails its check and is corrected or rebuilt; `errs` gives
what the check finds in the words that the deskew reads from DRAM (R325). -/
def execGrainDispatch (n : Fin 128) (p : Fin 155520) (raw map : Bool) (b : Byte) (errs : List (Nat × Ecc)) (s : State) : Out :=
  match s.nLink n with
  | some k =>
    if s.isTG n || !decide (p.val < frameBytes k) then .next s
    else
      let d := luDie n
      let hit := errs.filter (fun e => bar2Unit e.1 == .dram d (e.1 - dramBase d) && s.partAt d (e.1 - dramBase d) == some 2)
      done (((hit.foldl State.bar2Ecc s).dispatch n p ⟨s.up, none, raw, !raw, anyBad hit⟩ (mkGrain (!raw && s.markAt n p) b)).evIf map
        (evDie d) srcMAP)
  | none => .next s

-- Crossings (R13, R14)

/-- The boundaries at which a crossing can be checked, with the counters that count a failure (Table 03-12, R423). -/
inductive Boundary where
  /-- A boundary of region g: with local LU i, or 0xF for a Seam or die-common boundary. -/
  | region (g i : Nat)
  /-- Cluster to LU boundary of LU n. -/
  | cluster (n : Nat)
  /-- Receive side of Seam port k of die d. -/
  | seam (d k : Nat)
  /-- Tap boundary to Skim of die d. -/
  | tap (d : Nat)

/-- Counts a crossing-parity failure at a boundary. -/
def State.parityFail (s : State) : Boundary → State
  | .region g i => (s.addCtr ⟨R.RG_XING_PARITY_LO g, R.RG_XING_PARITY_HI g⟩ 1).event (evRegion g) srcXING_PARITY (BitVec.ofNat 32 i)
  | .cluster n => (s.addCtr ⟨R.CL_XING_PARITY_LO (luCluster n), R.CL_XING_PARITY_HI (luCluster n)⟩ 1).event (evCluster (luCluster n)) srcTX
      (BitVec.ofNat 32 (n % 16))
  | .seam d k => (s.addCtr ⟨R.SEAM_PARITY_LO d k, R.SEAM_PARITY_HI d k⟩ 1).event (evDie d) srcSEAM_PARITY (seamDetail k 0x7F)
  | .tap d => (s.addCtr ⟨R.DIE_TAP_PARITY_LO d, R.DIE_TAP_PARITY_HI d⟩ 1).ev (evDie d) srcTAP_PARITY

/-- What the receiving side of a boundary takes: a grain that fails its parity is replaced (R14). -/
def crossed (g : Grain) : Grain := if oddParity g then g else subGrain

/-- The boundary that b, u and k name. -/
def boundaryOf (b u k : Nat) : Boundary :=
  match b with
  | 0 => .region (u % 8) (min k 15)
  | 1 => .cluster (u % 128)
  | 2 => .seam (u % 4) (k % 3)
  | _ => .tap (u % 4)

/-- The grain of position p that LU n gave its region last, the raw byte or the grain of a realigner, arrives there as g: so do all that is
made of it, its copies for the dies and the one that enters a deskew. -/
def State.crossLu (s : State) (n p : Nat) (raw : Bool) (g : Grain) : State :=
  let names := s.feedNames n
  let mine (f : FabGrain) : Bool := names.contains f.link && f.pos == p && !f.eq && (if raw then f.whole else f.trib)
  let last := (s.fabric.filter mine).foldl (fun m f => max m f.dep) 0
  let held (l : List (Nat × Nat × Grain)) : List (Nat × Nat × Grain) :=
    let at' := (l.filter (fun x => x.2.1 == p)).foldl (fun m x => max m x.1) 0
    l.map (fun (x : Nat × Nat × Grain) => if x.2.1 = p ∧ x.1 = at' then (x.1, p, crossed g) else x)
  { s with
    fabric := s.fabric.map (fun f => if mine f && f.dep == last then { f with g := crossed g } else f)
    deskew := if raw then s.deskew
      else s.deskew.map (fun e => if names.contains (taLink (BitVec.ofNat 24 e.1)) then (e.1, held e.2) else e) }

/-- Dispatched grain i arrives in region y as g: a grain that both regions of a die take goes on as it was to the other one. -/
def State.crossRegion (s : State) (y i : Nat) (g : Grain) : State :=
  { s with fabric := (s.fabric.mapIdx (fun j e =>
      if j = i ∧ e.regs.contains y = true then
        (if e.regs.all (fun z => z == y) then [{ e with g := crossed g }]
         else [{ e with regs := e.regs.filter (fun z => z != y) }, { e with regs := [y], g := crossed g }])
      else [e])).flatten }

/-- Dispatched grain i arrives in die d as g. -/
def State.crossSeam (s : State) (d i : Nat) (g : Grain) : State :=
  { s with fabric := s.fabric.mapIdx (fun j e => if j = i ∧ e.die = d then { e with g := crossed g } else e) }

/-- GRAIN_CROSSING: a grain arrives as g at a boundary: 0 region u with local LU k (16: Seam or die-common boundary), 1 cluster boundary
of LU u, 2 receive side of Seam port k of die u, 3 tap boundary of die u. `i` names the grain. Where it leaves an LU that is its position
there, counted from 155,520 for a raw byte, and at boundary 1 its position on LU u; at a Seam, and where it enters a region from one, its
place among the dispatched grains. A grain on its way to Skim, or from Pour, has no such name (none). -/
def execGrainCrossing (b : Fin 4) (u : Fin 128) (k : Fin 17) (i : Option Nat) (g : Grain) (s : State) : Out :=
  let s1 := match i with
    | none => s
    | some i =>
      match b.val with
      | 0 => if k.val = 16 then s.crossRegion (u.val % 8) i g
             else s.crossLu (16 * (u.val % 8) + k.val) (i % 155520) (decide (155520 ≤ i)) g
      | 1 => { s with txGrains := s.txGrains.map (fun e => if e.1 = 155520 * u.val + i then (e.1, crossed g) else e) }
      | 2 => s.crossSeam (u.val % 4) i g
      | _ => s
  if oddParity g then .next s1 else done (s1.parityFail (boundaryOf b u k))

-- Seams (R59)

/-- SEAM_BLOCK_RECEIVE: a block arrives on port k of die d: its first check, the check of its replay, the places of its grains among the
dispatched grains, and a lane whose lane check has now failed in 8 blocks within 1 ms (Table 14-4). -/
def execSeamBlockReceive (d : Fin 4) (k : Fin 3) (ok1 ok2 : Bool) (grains : List Nat) (lane : Option (Fin 66)) (s : State) : Out :=
  if !s.flag (R.SEAM_STATUS d k) F.SEAM_STATUS_UP then .next s
  else
    let s1 := if ok1 then s
      else (s.addCtr ⟨R.SEAM_REPLAY_LO d k, R.SEAM_REPLAY_HI d k⟩ 1).event (evDie d) srcSEAM_REPLAY (seamDetail k 0x7F)
    let mine (j : Nat) (e : FabGrain) : Bool := grains.contains j && e.die == d.val && luDie e.link == (d.val + 1 + k.val) % 4
    let s2 := if ok1 || ok2 then s1
      else
        let kept : List FabGrain := (s1.fabric.mapIdx (fun j e => if mine j e then [] else [e])).flatten
        { s1 with fabric := kept }.addCtr ⟨R.SEAM_LOST_LO d k, R.SEAM_LOST_HI d k⟩ 1
    let s3 := match lane with
      | some x => s2.event (evDie d) srcSEAM_LANE (seamDetail k x)
      | none => s2
    done s3

end Sys2Proof.Machine
end

