-- ==== Sys2Proof/Machine/Tap.lean ====
section
/-!
DEFINITION. What Skim and Pour share: taps and targets, their positions and rates, where lists, patterns and rings may lie, what plays on an
egress link (R169, R303), and the PRBS sequences (R280 to R285, R298).
-/

namespace Sys2Proof.Machine

-- Positions (Table 12-2)

/-- Positions per frame of a kind (Table 12-2); `n` is N of the link for kind 0. -/
def kindPositions (kind nc n : Nat) : Nat :=
  match kind with
  | 0 => 2430 * n
  | 1 => 2352 * ncN nc
  | 2 => 2352
  | 3 => 784
  | 4 => 774
  | 5 => 108
  | 6 => 36
  | _ => 27

/-- N of the link that an entry names (R56): that of its rate, which a rate search has found; where it has found none yet, the positions of
a whole link are those of an STM-64, as its rate is counted (DESIGN CHOICE, notes/assumptions/59.md). -/
def State.tapN (s : State) (w : Word) : Nat :=
  let n := taLink (tapTA w)
  (s.nLink n).getD (if s.searches n then 64 else 0)

/-- NC code of an entry of kind 1: that of the ingress structure, or of the active map entry. -/
def State.tapNc (s : State) (w : Word) : Nat :=
  let t := tapTA w
  if taKind t ≠ 1 then 0
  else if tapCode w = 0 then s.get (R.LU_PATH_STRUCT0 (taLink t) (taAug t)) F.LU_PATH_STRUCT0_NC
  else match s.entry (egName (tapAu3 w) t) with
    | some r => r.nc
    | none => 0

/-- What fixes the positions of an entry when its job starts (R283): N of its link, or the positions of a group's members, X times those of
one; and its NC code. -/
def State.tapFix (s : State) (d : Nat) (w : Word) : Nat × Nat :=
  if tapCode w = 4 then
    let g := s.grp (tapGrp d w)
    (g.x * (match g.ins with
      | m :: _ => kindPositions (taKind (memTA m)) 0 0
      | [] => 0), 0)
  else (s.tapN w, s.tapNc w)

/-- Tap rate, in grains per second, of an entry whose positions are so fixed (R283): a rate-search link is counted as STM-64. -/
def State.fixedRate (s : State) (w : Word) (x : Nat × Nat) : Nat :=
  8000 * (if tapCode w = 4 then x.1 else kindPositions (taKind (tapTA w)) x.2 (if s.searches (taLink (tapTA w)) then 64 else x.1))

/-- Tap rate of an entry at present. -/
def State.tapRate (s : State) (d : Nat) (w : Word) : Nat := s.fixedRate w (s.tapFix d w)

-- Admission of an entry (Tables 12-18 and 12-21)

/-- The entry names something that the engine may act on; `codes` are the engine's tap codes (R280). -/
def State.tapKind (s : State) (d : Nat) (codes : List Nat) (w : Word) : Bool :=
  let t := tapTA w
  codes.contains (tapCode w) &&
    (if tapCode w = 4 then (s.grp (tapGrp d w)).st != 0 && (s.grp (tapGrp d w)).mode == 3
     else luDie (taLink t) == d &&
      (match tapCode w with
       | 0 => taKind t != 0 && s.isPath (tapAu3 w) t
       | 1 => taKind t != 0 && taFits t (s.tapNc w) && (match s.nLink (taLink t) with
          | some k => taInRate t (s.tapNc w) k
          | none => false)
       | _ => taKind t == 0 && taFits t 0))

/-- Reserved bits of an entry (R280, R285). -/
def tapField (w : Word) : Bool :=
  bitsOf w 31 28 == 0 && (tapCode w != 4 || decide (w.toNat % 2 ^ 25 < 1024)) &&
    (tapCode w != 2 && tapCode w != 3 || !tapAu3 w)

/-- Two entries of one tap code meet. -/
def State.tapMeets (s : State) (v w : Word) : Bool :=
  tapCode v == tapCode w &&
    (if tapCode v = 4 then tapUnit v == tapUnit w
     else taOverlap (tapAu3 v) (tapTA v) (s.tapNc v) (tapAu3 w) (tapTA w) (s.tapNc w))

/-- LUs that an entry needs: its own, or those of its group's members. -/
def State.tapLus (s : State) (d : Nat) (w : Word) : List Nat :=
  if tapCode w = 4 then
    let g := s.grp (tapGrp d w)
    (g.ins ++ g.outs).map (fun m => taLink (memTA m))
  else [taLink (tapTA w)]

/-- UNPOWERED of Tables 12-18 and 12-21. -/
def State.tapDark (s : State) (d : Nat) (w : Word) : Bool :=
  (s.tapLus d w).any (fun n => !s.regionPowered (luRegion n) || s.benchClaims (luRegion n) || s.persOf n == 0)

-- Placement

/-- The n bytes at a lie in one work bank of die d with this owner code. -/
def State.inOwned (s : State) (d code a n : Nat) : Bool :=
  (List.range 42).any (fun b => s.bankExists d b && !s.bankRetired d b && !s.bankPending d b && s.bankOwner d b == code
    && decide (wbBase d b ≤ a) && decide (a + n ≤ wbBase d b + 0x40000))

/-- Units of partition k of die d. -/
def State.partUnits (s : State) (d k : Nat) : Nat :=
  let p := s.partsOf d
  match k with
  | 0 => p.capture
  | 1 => p.pattern
  | 2 => p.deskew
  | 3 => p.pmhist
  | _ => p.scratch

/-- The n bytes at a lie in partition k of die d. -/
def State.inPart (s : State) (d k a n : Nat) : Bool :=
  let lo := dramBase d + s.partStart d k
  decide (lo ≤ a) && decide (a + n ≤ lo + s.partUnits d k * unitBytes)

/-- A 32-bit word of memory. -/
def State.ldw (s : State) (a : Nat) : Word := le32 (s.ld a 4)

def State.stw (s : State) (a : Nat) (w : Word) : State := s.st a (wordBytes w)

/-- START_FN lies from lo to 2^31 - 1 frames after now. -/
def State.startOK (s : State) (lo fn : Nat) : Bool :=
  let n := fnDelta s.fn fn
  decide (lo ≤ n) && decide (n < 2 ^ 31)

-- Reading lists and patterns (R311, R313, R325)

/-- An engine reads one 32-bit word: what the access counts, and the word; none where it fails. -/
def State.engineWord (s : State) (m a : Nat) (errs : List (Nat × Ecc)) : State × Option Word :=
  let (s1, ok) := s.engineOp m a (.read 4) errs
  (s1, if ok then some (s.ldw a) else none)

/-- An engine reads n words from a: all of them, or the index of the first that fails. The two halves of a 64-bit word are one access. -/
def State.engineWords (m a : Nat) (errs : List (Nat × Ecc)) : Nat → State → State × (List Word ⊕ Nat)
  | 0, s => (s, .inl [])
  | n + 1, s =>
    match State.engineWords m a errs n s with
    | (s1, .inr i) => (s1, .inr i)
    | (s1, .inl l) =>
      match (if n ≠ 0 ∧ (a + 4 * n) % 8 = 4 then (s1, some (s1.ldw (a + 4 * n))) else s1.engineWord m (a + 4 * n) errs) with
      | (s2, some w) => (s2, .inl (l ++ [w]))
      | (s2, none) => (s2, .inr n)

-- What plays on an egress link (R169, R303)

/-- Content that takes the place of the map's on a tributary or on a whole link (kind 0): the job that gives it, and the target; an egress
member of a group, which a job may give its payload. -/
structure Play where
  job : Option Nat
  x   : PourTgt
  a3  : Bool
  t   : TA

/-- The targets and egress members on link n of the jobs in one of the states given, and of the groups that run. -/
def State.playsIn (s : State) (states : List Nat) (n : Nat) : List Play :=
  let d := luDie n
  (List.range 8).flatMap (fun j =>
    if states.contains (s.poSt d j) then
      ((s.pour d j).tgts.filter (fun x => (tapCode x.tap == 1 || tapCode x.tap == 3) && taLink (tapTA x.tap) == n)).map (fun x =>
        Play.mk (some j) x (tapAu3 x.tap) (tapTA x.tap))
    else [])
  ++ (s.running.filter (fun e => e.2.mode == 3 && grpDie e.1 == d)).flatMap (fun e =>
    (e.2.eg.filterMap (fun x => x.mem.map (fun m => (x, (e.2.member m).eg)))).filterMap (fun y =>
      if taLink (memTA y.2) = n then some (Play.mk ((s.grpJob e.1 states).map (fun q => q.1)) y.1 (memAu3 y.2) (memTA y.2)) else none))

/-- What plays on link n. -/
def State.plays (s : State) (n : Nat) : List Play := s.playsIn [poPLAYING, poENDING] n

/-- The whole-link target that plays on link n. -/
def State.linkPlay (s : State) (n : Nat) : Option Play := (s.plays n).find? (fun e => taKind e.t == 0)

/-- What plays on tributary (a3, t). -/
def State.playOn (s : State) (a3 : Bool) (t : TA) : Option Play := (s.plays (taLink t)).find? (fun e => e.a3 == a3 && e.t == t)

/-- What position p of its link is to the content that plays there. -/
def State.playSlot (s : State) (e : Play) (p : Nat) : Option Slot :=
  let k := if e.x.mem.isSome then (s.outN (taLink e.t)).getD 0 else e.x.n
  if k = 0 then none
  else if taKind e.t = 0 then (if p < frameBytes k then some .pay else none)
  else slotAt e.a3 e.t e.x.nc k p (s.fn % 4)

/-- What plays at position p of link n, and what the position is to it. -/
def State.playAt (s : State) (states : List Nat) (n p : Nat) : Option (Play × Slot) :=
  (s.playsIn states n).findSome? (fun e => (s.playSlot e p).map (fun sl => (e, sl)))

/-- The job that plays is past its end instant: what is read for its targets from then on is unequipped, or MS-AIS (R304). -/
def State.playEnded (s : State) (n : Nat) (e : Play) : Bool :=
  match e.job with
  | some j => s.poSt (luDie n) j == poENDING
  | none => false

/-- The end instant of the job that plays lies before the present frame, which holds none of its content. -/
def State.playOver (s : State) (n : Nat) (e : Play) : Bool :=
  s.playEnded n e && (match e.job with
    | some j => (s.pour (luDie n) j).endUp.all (fun u => decide (u ≤ s.up))
    | none => false)

/-- Position p of LU n, of order k, falls after the end instant of the job that plays. -/
def State.playPast (s : State) (n k p : Nat) (e : Play) : Bool :=
  s.playOver n e || (s.playEnded n e && (match e.job with
    | some j => decide ((s.pour (luDie n) j).endNs ≤ tauNs k p)
    | none => false))

/-- The block that plays is injected with WHAT (R306). -/
def Play.injects (e : Play) (what : Nat) : Bool := e.job.isSome && e.x.injNow.any (fun i => i.1 == what)

/-- The class of the next byte of a container: its place, where the byte is a container's, and the place of the last byte, from that of the
byte before. A marked positive opportunity is stuff, but for the path start that a whole container calls for (R54, R282). -/
def vcNext (kind nc : Nat) (at' : Option Nat) (sl : Slot) (m : Bool) : Option Nat × Option Nat :=
  let len := (vcGeom kind nc).1
  let next := at'.map (fun c => (c + 1) % len)
  match sl with
  | .pay => if m then (some 0, some 0) else (next, next)
  | .neg => if m then (next, next) else (none, at')
  | .pos => if !m then (next, next) else if next = some 0 then (some 0, some 0) else (none, at')
  | _ => (none, at')

-- PRBS (R298)

/-- Degree, and the other tap, of a sequence (Table 12-8). -/
def prbsPoly : Nat → Nat × Nat
  | 0 => (9, 5)
  | 1 => (11, 9)
  | 2 => (15, 14)
  | 3 => (20, 3)
  | 4 => (23, 18)
  | _ => (31, 28)

/-- Next bit of a sequence whose last bits are `sr`, the newest in bit 0. -/
def prbsNext (poly sr : Nat) : Bool := sr.testBit ((prbsPoly poly).1 - 1) != sr.testBit ((prbsPoly poly).2 - 1)

/-- The register after one bit. -/
def prbsShift (poly sr : Nat) (b : Bool) : Nat := (2 * sr + (if b then 1 else 0)) % 2 ^ (prbsPoly poly).1

/-- The next n bits of a sequence as a number, most significant first, and the register after them. -/
def prbsBits (poly : Nat) : Nat → Nat × Nat → Nat × Nat
  | 0, x => x
  | n + 1, (v, sr) =>
      let b := prbsNext poly sr
      prbsBits poly n (2 * v + (if b then 1 else 0), prbsShift poly sr b)

end Sys2Proof.Machine
end

