-- ==== Sys2Proof/Machine/Skim.lean ====
section
/-!
DEFINITION. Skim: tap lists, jobs, records, the ring, triggers, the drain, and the PRBS analysers (R284 to R299, 12_skim_pour.md).
-/

namespace Sys2Proof.Machine

def skFREE : Nat := 0
def skDEFINED : Nat := 1
def skPENDING : Nat := 2
def skARMED : Nat := 3
def skRUNNING : Nat := 4
def skPOST : Nat := 5
def skDONE : Nat := 6
def skSTOPPED : Nat := 7

def emptySk : SkJob := ⟨[], [], [], 0, 0, false, false, [], false⟩
def State.sk (s : State) (d j : Nat) : SkJob := look (fun _ => emptySk) s.skJobs (8 * d + j)
def State.setSk (s : State) (d j : Nat) (x : SkJob) : State :=
  { s with skJobs := store id (fun _ => emptySk) s.skJobs (8 * d + j) x }
def State.updSk (s : State) (d j : Nat) (f : SkJob → SkJob) : State := s.setSk d j (f (s.sk d j))
def SkJob.updSrc (x : SkJob) (i : Nat) (f : SkSrc → SkSrc) : SkJob := { x with srcs := x.srcs.modify i f }

def State.skSt (s : State) (d j : Nat) : Nat := s.get (R.SKIM_JOB_STATUS d j) F.SKIM_JOB_STATUS_STATE
/-- PENDING to POST. -/
def State.skLive (s : State) (d j : Nat) : Bool := decide (skPENDING ≤ s.skSt d j) && decide (s.skSt d j ≤ skPOST)
/-- States in which the job is configured and its taps change (R285, R292). -/
def skIdle (st : Nat) : Bool := st == skDEFINED || st == skDONE || st == skSTOPPED
def State.skStatus (s : State) (d j : Nat) (f : Fld) (v : Nat) : State := s.put (R.SKIM_JOB_STATUS d j) f v
def State.skRefused (s : State) (d j : Nat) : State := s.skStatus d j F.SKIM_JOB_STATUS_OP_REFUSED 1

/-- Sources of a list of taps (R284). -/
def skSources (l : List Word) : List (Nat × Nat) := (l.map (fun w => (tapCode w, tapUnit w))).eraseDups

def SkJob.words (x : SkJob) : List Word := x.taps.map (fun e => e.1)

/-- Tap rate of a job in grains per second: of a live job, at the positions fixed when it started (R283). -/
def State.skRate (s : State) (d j : Nat) : Nat :=
  ((s.sk d j).taps.map (fun e => if s.skLive d j then s.fixedRate e.1 e.2 else s.tapRate d e.1)).sum

/-- SKIM_JOB_LOAD, and SKIM_STATUS over the live jobs of the die. -/
def State.skShow (s : State) (d : Nat) : State :=
  let s1 := (List.range 8).foldl (fun t j =>
    (t.put (R.SKIM_JOB_LOAD d j) F.SKIM_JOB_LOAD_SOURCES (min 255 (skSources (t.sk d j).words).length)).put (R.SKIM_JOB_LOAD d j)
      F.SKIM_JOB_LOAD_RATE (min 65535 (t.skRate d j / 1000000))) s
  let live := (List.range 8).filter (fun j => s1.skLive d j)
  ((s1.put (R.SKIM_STATUS d) F.SKIM_STATUS_LIVE ((live.map (fun j => 2 ^ j)).sum)).put (R.SKIM_STATUS d) F.SKIM_STATUS_SOURCES
    ((live.map (fun j => (skSources (s1.sk d j).words).length)).sum)).put (R.SKIM_STATUS d) F.SKIM_STATUS_RATE
    ((live.map (fun j => s1.skRate d j)).sum / 1000000)

/-- A change of state counts one event (R292). -/
def State.skTo (s : State) (d j st : Nat) : State :=
  ((s.skStatus d j F.SKIM_JOB_STATUS_STATE st).skShow d).ev (evDie d) srcSKIM

-- Tap lists (R285)

/-- The first check that an entry fails, but STATE; 0 none. -/
def State.skTapCode (s : State) (d : Nat) (w : Word) : Nat :=
  if !tapField w then 1
  else if !s.tapKind d [0, 1, 2, 3, 4] w then 3
  else if (List.range 8).any (fun j => (s.sk d j).words.any (fun v => s.tapMeets v w)) then 4
  else if s.tapDark d w then 5
  else 0

/-- SKIM_TAP_STATUS at the end of an operation. -/
def State.skTapDone (s : State) (d code index : Nat) : State :=
  (s.wr (R.SKIM_TAP_STATUS d) (BitVec.ofNat 32 (2 ^ 31 + 2 ^ 24 * code + index % 2 ^ 20))).skShow d

/-- OP and JOB of a command in the port's SKIM_TAP_CTRL; a command that names no TAP or COUNT leaves that field as it is. -/
def State.skTapCtrl (s : State) (p : Port) (d op j : Nat) : State :=
  (s.put (R.SKIM_TAP_CTRL p d) F.SKIM_TAP_CTRL_OP op).put (R.SKIM_TAP_CTRL p d) F.SKIM_TAP_CTRL_JOB j

/-- The entry that the port's registers name, with tap code `code`. -/
def State.skEntry (s : State) (p : Port) (d code : Nat) : Word := (s.rd (R.SKIM_TAP_TA p d) &&& 0x01FFFFFF) ||| BitVec.ofNat 32 (2 ^ 25 * code)

/-- Runs an operation of the tap list unless one is in progress. -/
def State.skTapGo (s : State) (d : Nat) (f : State → State) : State :=
  if s.flag (R.SKIM_TAP_STATUS d) F.SKIM_TAP_STATUS_BUSY then s else f s

/-- Appends an entry to a job's taps. -/
def State.skAddTap (s : State) (d j : Nat) (w : Word) : State := s.updSk d j (fun x => { x with taps := x.taps ++ [(w, 0, 0)] })

/-- ADD. -/
def State.skAdd (s : State) (p : Port) (d j code : Nat) : State :=
  s.skTapGo d (fun t =>
    let w := t.skEntry p d code
    let c := t.skTapCode d w
    if c = 1 then t.skTapDone d 1 0
    else if !skIdle (t.skSt d j) then t.skTapDone d 2 0
    else if c ≠ 0 then t.skTapDone d c 0
    else (t.skAddTap d j w).skTapDone d 0 0)

/-- REMOVE. An entry that the job does not hold leaves it as it is. -/
def State.skRemove (s : State) (p : Port) (d j code : Nat) : State :=
  s.skTapGo d (fun t =>
    let w := t.skEntry p d code
    if !tapField w then t.skTapDone d 1 0
    else if !skIdle (t.skSt d j) then t.skTapDone d 2 0
    else if 4 < code then t.skTapDone d 3 0
    else (t.updSk d j (fun x => { x with taps := x.taps.filter (fun e => e.1 != w) })).skTapDone d 0 0)

/-- CLEAR. -/
def State.skClear (s : State) (d j : Nat) : State :=
  s.skTapGo d (fun t =>
    if !skIdle (t.skSt d j) then t.skTapDone d 2 0
    else (t.updSk d j (fun x => { x with taps := [] })).skTapDone d 0 0)

/-- FETCH_ADD starts. -/
def State.skFetchAdd (s : State) (p : Port) (d j count : Nat) : State :=
  s.skTapGo d (fun t =>
    let a := t.addrAt (R.SKIM_TAP_FETCH_LO p d) (R.SKIM_TAP_FETCH_HI p d)
    if count = 0 ∨ 262143 < count then t.skTapDone d 1 0
    else if !skIdle (t.skSt d j) then t.skTapDone d 2 0
    else if !(t.inOwned d 2 a (4 * count) || t.inPart d 4 a (4 * count)) then t.skTapDone d 6 0
    else { (t.wr (R.SKIM_TAP_STATUS d) 0x40000000) with
           skFetch := store id (fun _ => none) t.skFetch d (some ⟨j, count, a, p⟩) })

/-- Adds entries until one fails: all of them, or the failing index and its code. -/
def State.skAddAll (d j : Nat) : List Word → Nat → State → State ⊕ (Nat × Nat)
  | [], _, s => .inl s
  | w :: l, i, s =>
      let c := s.skTapCode d w
      if c ≠ 0 then .inr (c, i) else State.skAddAll d j l (i + 1) (s.skAddTap d j w)

/-- The fetch ends: all entries, or none; an entry that cannot be read is refused with FETCH (R313). -/
def State.skFetchEnd (s : State) (d : Nat) (errs : List (Nat × Ecc)) : State :=
  match look (fun _ => none) s.skFetch d with
  | none => s
  | some f =>
    let s1 := { s with skFetch := drop d s.skFetch }
    if s.engineWaits (mSKIM d) f.addr (.read (4 * f.count)) then s
    else if !skIdle (s1.skSt d f.job) then s1.skTapDone d 2 0
    else
      match State.engineWords (mSKIM d) f.addr errs f.count s1 with
      | (s2, .inr i) => s2.skTapDone d 6 i
      | (s2, .inl l) =>
        match State.skAddAll d f.job l 0 s2 with
        | .inl t => t.skTapDone d 0 0
        | .inr (c, i) => s2.skTapDone d c i

/-- SKIM_TAP_ADD. -/
def execSkimTapAdd (p : Port) (d : Fin 4) (j : Fin 8) (code : Fin 8) (s : State) : Out :=
  .next (hostReg p (.skimTapAdd p d j code) (fun t => ((t.skTapCtrl p d 0 j).put (R.SKIM_TAP_CTRL p d) F.SKIM_TAP_CTRL_TAP code).skAdd p d j code) s)

/-- SKIM_TAP_REMOVE. -/
def execSkimTapRemove (p : Port) (d : Fin 4) (j : Fin 8) (code : Fin 8) (s : State) : Out :=
  .next (hostReg p (.skimTapRemove p d j code) (fun t => ((t.skTapCtrl p d 1 j).put (R.SKIM_TAP_CTRL p d) F.SKIM_TAP_CTRL_TAP code).skRemove p d j code) s)

/-- SKIM_TAP_FETCH_ADD. -/
def execSkimTapFetchAdd (p : Port) (d : Fin 4) (j : Fin 8) (count : Fin 1048576) (s : State) : Out :=
  .next (hostReg p (.skimTapFetchAdd p d j count) (fun t => ((t.skTapCtrl p d 2 j).put (R.SKIM_TAP_CTRL p d) F.SKIM_TAP_CTRL_COUNT count).skFetchAdd p d j count) s)

/-- SKIM_TAP_CLEAR. -/
def execSkimTapClear (p : Port) (d : Fin 4) (j : Fin 8) (s : State) : Out :=
  .next (hostReg p (.skimTapClear p d j) (fun t => (t.skTapCtrl p d 3 j).skClear d j) s)

/-- SKIM_TAP_FETCH_DONE; `errs` gives what the check finds in the words of the list. -/
def execSkimTapFetchDone (d : Fin 4) (errs : List (Nat × Ecc)) (s : State) : Out := done (s.skFetchEnd d errs)

-- The ring (R286 to R289)

def State.skWR (s : State) (d j : Nat) : Nat := (s.rd (R.SKIM_JOB_WR d j)).toNat
def State.skRD (s : State) (d j : Nat) : Nat := (s.rd (R.SKIM_JOB_RD d j)).toNat
def State.skHeld (s : State) (d j : Nat) : Nat := fnDelta (s.skRD d j) (s.skWR d j)
def State.skSize (s : State) (d j : Nat) : Nat := s.get (R.SKIM_JOB_RING_SIZE d j) F.SKIM_JOB_RING_SIZE_SIZE
def State.skBase (s : State) (d j : Nat) : Nat := s.addrAt (R.SKIM_JOB_RING_LO d j) (R.SKIM_JOB_RING_HI d j)

def ctrSkDrop (d j : Nat) : Ctr := ⟨R.SKIM_JOB_DROP_LO d j, R.SKIM_JOB_DROP_HI d j⟩
def ctrSkOver (d j : Nat) : Ctr := ⟨R.SKIM_JOB_OVER_LO d j, R.SKIM_JOB_OVER_HI d j⟩
def ctrSkDropg (d j : Nat) : Ctr := ⟨R.SKIM_JOB_DROPG_LO d j, R.SKIM_JOB_DROPG_HI d j⟩

/-- RD advances by n, each record counted as overwritten. -/
def State.skOver (s : State) (d j n : Nat) : State :=
  if n = 0 then s else (s.wr (R.SKIM_JOB_RD d j) (BitVec.ofNat 32 (s.skRD d j + n))).addLoss (ctrSkOver d j) n

/-- Payload words (Table 12-4). -/
def skPack : List Grain → List Word
  | a :: b :: c :: t => BitVec.ofNat 32 (3 * 2 ^ 30 + 2 ^ 20 * a.toNat + 2 ^ 10 * b.toNat + c.toNat) :: skPack t
  | [a, b] => [BitVec.ofNat 32 (2 * 2 ^ 30 + 2 ^ 20 * a.toNat + 2 ^ 10 * b.toNat)]
  | [a] => [BitVec.ofNat 32 (2 ^ 30 + 2 ^ 20 * a.toNat)]
  | [] => []

/-- Header words 0 to 14 (Table 12-3); `dropped` counts the source's losses before the record. -/
def SkRec.header (r : SkRec) (j dropped : Nat) : List Word :=
  let b (x : Bool) (i : Nat) : Nat := if x then 2 ^ i else 0
  let ts (l : List Word) : List Word := [l.getD 0 0, l.getD 1 0, l.getD 2 0]
  [BitVec.ofNat 32 (0x5C * 2 ^ 24 + 2 ^ 21 * j + 2 ^ 18 * r.code + 2 ^ 8 * r.src + b r.trig.isSome 7 + b (dropped != 0) 6
     + b r.last 5 + b r.flushed 4),
   BitVec.ofNat 32 r.seq, BitVec.ofNat 32 r.fn, BitVec.ofNat 32 (2 ^ 12 * (r.idx % 2 ^ 20) + r.grains.length)]
  ++ ts r.ts ++ (match r.mark with
    | some (_, l) => ts l
    | none => [0, 0, 0])
  ++ [BitVec.ofNat 32 (2 ^ 20 * (match r.mark with
        | some (i, _) => i
        | none => 0xFFF) + 2 ^ 8 * (r.trig.getD 0xFFF)),
      BitVec.ofNat 32 (min dropped (2 ^ 32 - 1)), 0, 0, 0]

/-- The 1,024 words of a record. -/
def SkRec.words (r : SkRec) (j dropped : Nat) : List Word :=
  let h := r.header j dropped
  let body := skPack r.grains.reverse
  h ++ [crc32 (h.flatMap wordBytes)] ++ body ++ List.replicate (1008 - body.length) 0

-- Records (R286, R287, R291, R294)

/-- Staging buffers of a die in use. -/
def State.skUsed (s : State) (d : Nat) : Nat :=
  ((List.range 8).map (fun j => (s.sk d j).staged.length + ((s.sk d j).srcs.filter (fun x => x.buf)).length)).sum

/-- Source i closes its forming record, which takes the next SEQ. -/
def State.skClose (s : State) (d j i : Nat) (last flushed : Bool) : State :=
  let x := s.sk d j
  match (x.srcs[i]?).bind (fun c => c.form) with
  | none => s
  | some r =>
    let st := s.skSt d j
    let r1 := { r with seq := x.seq, last := last, flushed := flushed, pre := st == skARMED }
    let y := { x.updSrc i (fun c => { c with form := none, buf := false }) with
      staged := x.staged ++ [r1], seq := x.seq + 1, after := if st = skPOST then x.after + 1 else x.after,
      trigSeq := x.trigSeq || r.trig.isSome }
    let s1 := s.setSk d j y
    if r.trig.isSome && !x.trigSeq then s1.wr (R.SKIM_JOB_TRIG_SEQ d j) (BitVec.ofNat 32 x.seq) else s1

/-- The last record of a source that has no grain forming: one that waits to be written takes LAST; a source that has written none
since the start closes one of COUNT 0 (R292), whose FN, INDEX and TS_FIRST no grain gives. -/
def State.skLastOf (s : State) (d j i : Nat) : State :=
  let x := s.sk d j
  match x.srcs[i]? with
  | none => s
  | some c =>
    let mine (r : SkRec) : Bool := r.code == c.code && r.src == c.n
    match (x.staged.filter mine).getLast? with
    | some l => s.setSk d j { x with staged := x.staged.map (fun r => if r.seq = l.seq then { r with last := true } else r) }
    | none =>
      if c.wrote then s
      else
        let f := s.draw
        let ts := [BitVec.ofNat 32 (Config.free (f + 2)), BitVec.ofNat 32 (Config.free (f + 3)), BitVec.ofNat 32 (Config.free (f + 4))]
        let r : SkRec := ⟨c.code, c.n, 0, Config.free f, s.up, Config.free (f + 1), ts, none, none, [], true, true, false⟩
        { s.updSk d j (fun y => y.updSrc i (fun e => { e with form := some r })) with draw := f + 5 }.skClose d j i true true

/-- Closes every forming record of the job, the last of each source marked (R292). -/
def State.skFlush (s : State) (d j : Nat) : State :=
  (List.range (s.sk d j).srcs.length).foldl (fun t i =>
    if (((t.sk d j).srcs[i]?).bind (fun c => c.form)).isSome then t.skClose d j i true true else t.skLastOf d j i) s

/-- The job ends: its new state, END_CAUSE, and the flush; its sources then hold no buffer. -/
def State.skEnd (s : State) (d j st cause : Nat) : State :=
  let s1 := (s.skStatus d j F.SKIM_JOB_STATUS_STATE st).skStatus d j F.SKIM_JOB_STATUS_END_CAUSE cause
  let s2 := (s1.skFlush d j).updSk d j (fun x => { x with srcs := x.srcs.map (fun c => { c with buf := false }) })
  (s2.skShow d).ev (evDie d) srcSKIM

/-- What a close may end: POST records after the trigger instant (R291), or a fill-once ring whose free slots, once the records that
wait are written, would not hold the flush (R289, R292). -/
def State.skAfterClose (s : State) (d j : Nat) : State :=
  let x := s.sk d j
  if s.skSt d j = skPOST then
    (if s.get (R.SKIM_JOB_POST d j) F.SKIM_JOB_POST_POST ≤ x.after then s.skEnd d j skDONE 4 else s)
  else if s.skSt d j = skRUNNING ∧ s.get (R.SKIM_JOB_CFG d j) F.SKIM_JOB_CFG_POLICY = 0
      ∧ s.skSize d j < s.skHeld d j + x.staged.length + x.srcs.length then s.skEnd d j skDONE 3
  else s

/-- The first drop after a record has been written counts one event. -/
def State.skDropEvent (s : State) (d j : Nat) : State :=
  if (s.sk d j).dropEv then s else (s.updSk d j (fun x => { x with dropEv := true })).ev (evDie d) srcSKIM_LOSS

/-- A grain that finds no buffer (R294). -/
def State.skDropGrain (s : State) (d j i : Nat) (run : Option Nat) : State :=
  let s0 := s.addLoss (ctrSkDropg d j) 1
  match run with
  | some (n + 1) =>
      if n + 1 < 3024 then s0.updSk d j (fun x => x.updSrc i (fun c => { c with dropRun := some (n + 2) }))
      else
        ((s0.updSk d j (fun x => { x.updSrc i (fun c => { c with dropRun := some 1, drops := c.drops ++ [x.seq] }) with
          seq := x.seq + 1 })).addLoss (ctrSkDrop d j) 1).skDropEvent d j
  | _ =>
      ((s0.updSk d j (fun x => { x.updSrc i (fun c => { c with dropRun := some 1, drops := c.drops ++ [x.seq] }) with
        seq := x.seq + 1 })).addLoss (ctrSkDrop d j) 1).skDropEvent d j

/-- A grain enters the forming record of source i (R286). -/
def State.skTake (s : State) (d j i idx : Nat) (g : Grain) (ts : List Word) : State :=
  match (s.sk d j).srcs[i]? with
  | none => s
  | some c =>
    if !c.buf && decide (256 ≤ s.skUsed d) then s.skDropGrain d j i c.dropRun
    else
      let r := match c.form with
        | some r => r
        | none => ⟨c.code, c.n, 0, s.fn, s.up, idx, ts, none, none, [], false, false, false⟩
      let n := r.grains.length
      let first := s.flag (R.SKIM_JOB_STATUS d j) F.SKIM_JOB_STATUS_TRIGGERED && !c.marked
      let r1 := { r with grains := g :: r.grains,
                         mark := if r.mark.isNone && g.getLsbD 9 then some (n, ts) else r.mark,
                         trig := if first then some n else r.trig }
      let s1 := s.updSk d j (fun x => x.updSrc i (fun c =>
        { c with buf := true, dropRun := none, form := some r1, marked := c.marked || first }))
      if n + 1 = 3024 then (s1.skClose d j i false false).skAfterClose d j else s1

-- PRBS analysers (R299)

def emptyPrbs : Prbs := ⟨0, 0, false, none, 0, 0, 0, 0, 0, 0, 0, 0, false, false⟩
def State.prbsAt (s : State) (d i : Nat) : Prbs := look (fun _ => emptyPrbs) s.prbs (8192 * d + i)
def State.setPrbs (s : State) (d i : Nat) (x : Prbs) : State :=
  { s with prbs := store id (fun _ => emptyPrbs) s.prbs (8192 * d + i) x }

def Prbs.on (x : Prbs) : Bool := fget x.cfg F.SKIM_PRBS_CFG_EN == 1
def Prbs.poly (x : Prbs) : Nat := fget x.cfg F.SKIM_PRBS_CFG_POLY
/-- The binding, as a list entry. -/
def Prbs.bound (x : Prbs) : Word := (x.ta &&& 0x01FFFFFF) ||| BitVec.ofNat 32 (2 ^ 25 * (fget x.cfg F.SKIM_PRBS_CFG_TAP))

/-- The counts at 0, and their WRAP flags. -/
def Prbs.clear (x : Prbs) : Prbs := { x with bits := 0, errs := 0, losses := 0, bitsWrap := false, errsWrap := false }

/-- Back to HUNT: from SYNC it counts one loss. -/
def Prbs.hunt (x : Prbs) : Prbs :=
  { x with sync := false, loaded := 0, good := 0, win := 0, winErr := 0,
           losses := if x.sync then min 65535 (x.losses + 1) else x.losses }

/-- One received bit, already freed of INVERT; the second part tells of a bit error counted. -/
def Prbs.bit (x : Prbs) (b : Bool) : Prbs × Bool :=
  let k := x.poly
  let next := prbsNext k x.sr
  if x.sync then
    let e := next != b
    let old := x.win.testBit 1023
    let win := (2 * x.win + (if e then 1 else 0)) % 2 ^ 1024
    let n := x.winErr + (if e then 1 else 0) - (if old then 1 else 0)
    let y := { x with sr := prbsShift k x.sr next, win := win, winErr := n, bits := (x.bits + 1) % 2 ^ 48,
                      bitsWrap := x.bitsWrap || x.bits + 1 == 2 ^ 48, errs := (x.errs + (if e then 1 else 0)) % 2 ^ 48,
                      errsWrap := x.errsWrap || (e && x.errs + 1 == 2 ^ 48) }
    (if 256 ≤ n then y.hunt else y, e)
  else if x.loaded < (prbsPoly k).1 then ({ x with sr := prbsShift k x.sr b, loaded := x.loaded + 1 }, false)
  else if next = b then
    let y := { x with sr := prbsShift k x.sr b, good := x.good + 1 }
    (if y.good = 64 then { y with sync := true } else y, false)
  else ({ x with sr := prbsShift k 0 b, loaded := 1, good := 0 }, false)

/-- The bits of a byte, most significant first. -/
def Prbs.byte (x : Prbs) (b : Byte) : Prbs × Bool :=
  let inv := fget x.cfg F.SKIM_PRBS_CFG_INVERT == 1
  [7, 6, 5, 4, 3, 2, 1, 0].foldl (fun e i => let (y, err) := e.1.bit (b.getLsbD i != inv); (y, e.2 || err)) (x, false)

/-- Puts an analyser; a change of SYNC sets its CHANGED bit, and Skim triggers follow (Table 12-5). -/
def State.prbsPut (s : State) (d i : Nat) (x : Prbs) (err : Bool) : State :=
  let old := s.prbsAt d i
  let s1 := s.setPrbs d i x
  let s2 := if old.sync = x.sync then s1
    else { s1.setBit (R.SKIM_PRBS_CHANGED d (i / 32)) (i % 32) with
           prbsDirty := if s1.prbsDirty.contains d then s1.prbsDirty else d :: s1.prbsDirty }
  let lost := old.sync && !x.sync
  let hit := s2.skWaiting 6 (fun e j => e == d && (s2.rd (R.SKIM_JOB_TRIG e j 0)).toNat % 2 ^ 13 == i
    && (if s2.bit (R.SKIM_JOB_TRIG e j 1) 0 then err else lost))
  hit.foldl (fun (t : State) e => let (u, ts) := t.stampNow; u.skTrig e.1 e.2 0 ts) s2

/-- An egress tributary carries path AIS or unequipped (R62, R303, R304, R306). -/
def State.egDark (s : State) (a3 : Bool) (t : TA) : Bool :=
  let n := taLink t
  s.outForced n || (match s.playOn a3 t with
    | some e => s.playEnded n e || e.injects 4 || e.injects 5
    | none => (match s.entry (egName a3 t) with
      | some r => s.gather r != .follow
      | none => true))

/-- The analyser is held in HUNT: its ING path has failed at source, or its EG tributary carries path AIS or unequipped. -/
def State.prbsHeld (s : State) (x : Prbs) : Bool :=
  let w := x.bound
  match tapCode w with
  | 0 => (s.path (tapAu3 w) (tapTA w)).failed || s.lineHeld (taLink (tapTA w))
  | 1 => s.egDark (tapAu3 w) (tapTA w)
  | _ => false

/-- Holds every analyser that is to be held. -/
def State.prbsSettle (s : State) : State :=
  s.prbs.foldl (fun t e =>
    if e.2.on && e.2.sync && t.prbsHeld e.2 then t.prbsPut (e.1 / 8192) (e.1 % 8192) e.2.hunt false else t) s

/-- An analyser at a tributary passes a grain of position p: whether it is bulk payload, from the markers seen since a path start (R282). -/
def State.prbsClass (s : State) (x : Prbs) (w : Word) (p : Nat) (g : Grain) : Prbs × Bool :=
  if tapCode w = 4 then (x, true)
  else
    let kind := taKind (tapTA w)
    let nc := s.tapNc w
    match slotAt (tapAu3 w) (tapTA w) nc (max 1 (s.tapN w)) p (s.fn % 4) with
    | none => (x, false)
    | some sl =>
      let (i, c) := vcNext kind nc x.cnt sl (g.getLsbD 9)
      ({ x with cnt := c }, match i.map (vcClass kind nc) with
        | some (.bulk _) => true
        | _ => false)

/-- An analyser's 48-bit counter, at SKIM + 0x50 or + 0x58, has passed to 0: its WRAP bit, and one event where that is enabled (R273, R275). -/
def State.prbsWrap (s : State) (d off : Nat) (wrapped : Bool) : State :=
  if !wrapped then s
  else
    let (w, i) := wrapPlace ⟨.skim, d, off, 0⟩
    (s.setBit w i).evIf (s.bit { w with off := w.off + 0x100 } i) evPkg srcCNT_WRAP

/-- A grain at a point passes the analyser bound there, which examines the bulk payload bytes. -/
def State.prbsFeed (s : State) (d : Nat) (w : Word) (p : Nat) (g : Grain) : State :=
  s.prbs.foldl (fun t e =>
    if e.1 / 8192 = d ∧ e.2.on = true ∧ e.2.bound = w then
      let (x, bulk) := t.prbsClass e.2 w p g
      if t.prbsHeld x then t.prbsPut d (e.1 % 8192) x.hunt false
      else if bulk then
        let (y, err) := x.byte (g.setWidth 8)
        ((t.prbsPut d (e.1 % 8192) y err).prbsWrap d 0x50 (decide (y.bits < x.bits))).prbsWrap d 0x58 (decide (y.errs < x.errs))
      else t.setPrbs d (e.1 % 8192) x
    else t) s

-- Taking grains (R281, R286, R290)

/-- The grain as the tap takes it; none where the position is not the tap's. -/
def State.skGrain (s : State) (w : Word) (n nc idx : Nat) (g : Grain) : Option Grain :=
  let d : Byte := g.setWidth 8
  let tg := s.isTG (taLink (tapTA w))
  match tapCode w with
  | 0 | 1 => (slotAt (tapAu3 w) (tapTA w) nc n idx (s.fn % 4)).map (fun k => if k = .ptr then voidGrain else g)
  | 2 | 3 => if idx < frameBytes n then some (if tg then g else mkGrain (idx == 0) d) else none
  | _ => none

/-- Byte idx of a GROUP tap's frame as a grain, with the member that carried it: M = 1 on the first payload byte of a frame, or of a
multiframe for low-order members (R281); none where the sink delivers no such byte. -/
def State.skGrpGrain (s : State) (d : Nat) (w : Word) (idx : Nat) : Option (Grain × Nat × HeldByte) :=
  let x := tapGrp d w
  let low := match (s.runGrp x).ins with
    | m :: _ => decide (5 ≤ taKind (memTA m))
    | [] => false
  (s.sinkByte x idx).map (fun e => (mkGrain (idx == 0 && (!low || s.fn % 4 == 0)) e.2.byte, e.1, e.2))

-- Timestamps (R256, R295)

/-- A timestamp in 1,024ths of a nanosecond, and back. -/
def tsUnits (t : BitVec 96) : Nat := ((t >>> 48).toNat * 10 ^ 9 + (t >>> 18).toNat % 2 ^ 30) * 1024 + (t >>> 8).toNat % 1024

def tsWords (u : Nat) : List Word :=
  let ns := u / 1024 % 10 ^ 9
  let sec := u / 1024 / 10 ^ 9
  [BitVec.ofNat 32 (2 ^ 18 * (ns % 2 ^ 14) + 2 ^ 8 * (u % 1024)), BitVec.ofNat 32 (2 ^ 16 * (sec % 2 ^ 16) + ns / 2 ^ 14),
   BitVec.ofNat 32 (sec / 2 ^ 16)]

/-- Time, in ps, that a byte has spent in the realigner of a path: its fill, at the rate of the container's bytes. -/
def State.fillTime (s : State) (a3 : Bool) (t : TA) (nc : Nat) : Nat :=
  let kind := taKind t
  (s.path a3 t).fill * (if kind ≤ 4 then 125000000 else 500000000) / (vcGeom kind nc).1

/-- Time, in ps, that a grain at a tap has spent in the stores of the device, beyond the fixed delay between the balls and the tap: in its
realigner (ING), and in the deskew too (GROUP, of the member that carried it). -/
def State.tapDelay (s : State) (d : Nat) (w : Word) (by' : Option (Nat × HeldByte)) : Nat :=
  match tapCode w, by' with
  | 0, _ => s.fillTime (tapAu3 w) (tapTA w) (s.tapNc w)
  | 4, some (m, b) =>
      (match (s.runGrp (tapGrp d w)).ingress m with
       | some (a3, t) => 1000 * ((s.up - b.up) * 125000 + s.ns - tauNs ((s.nLink (taLink t)).getD 1) b.pos) + s.fillTime a3 t 0
       | none => 0)
  | _, _ => 0

/-- The PATTERN condition on a tap stream, the newest grain first (Table 12-5). -/
def State.skPattern (s : State) (d j : Nat) (pat : List Grain) : Bool :=
  let t0 := (s.rd (R.SKIM_JOB_TRIG d j 0)).toNat
  let mask := (s.rd (R.SKIM_JOB_TRIG d j 1)).toNat
  let len := t0 / 2 ^ 30
  decide (1 ≤ len) && decide (len ≤ pat.length) && (List.range len).all (fun i =>
    let g := (pat.getD (len - 1 - i) 0).toNat
    let sh := 2 ^ (20 - 10 * i)
    (g ^^^ (t0 / sh % 1024)) &&& (mask / sh % 1024) == 0)

/-- A grain of tap w reaches job j of die d. -/
def State.skJobGrain (s : State) (d j : Nat) (w : Word) (idx : Nat) (g : Grain) (ts : List Word) : State :=
  if s.skSt d j < skARMED ∨ skPOST < s.skSt d j then s
  else
    match (s.sk d j).taps.find? (fun e => e.1 == w) with
    | none => s
    | some (_, n, nc) =>
      match (if tapCode w = 4 then some g else s.skGrain w n nc idx g) with
      | none => s
      | some h =>
        let s1 := if s.skWaits d j 1 && s.rd (R.SKIM_JOB_TRIG d j 2) == w then
            let u := s.updSk d j (fun x => { x with pat := (h :: x.pat).take 3 })
            if u.skPattern d j (u.sk d j).pat then u.skTrig d j 0 ts else u
          else s
        match (s1.sk d j).srcs.findIdx? (fun c => c.code == tapCode w && c.n == tapUnit w) with
        | some i => s1.skTake d j i idx h ts
        | none => s1

/-- A grain is at the tap w of die d: the analyser bound there, and the job that holds the tap, take it. -/
def State.skTapped (s : State) (d : Nat) (w : Word) (idx : Nat) (g : Grain) (ts : BitVec 96) (by' : Option (Nat × HeldByte)) : State :=
  let words := tsWords (tsUnits ts - s.tapDelay d w by' * 1024 / 1000)
  ((List.range 8).foldl (fun t j => t.skJobGrain d j w idx g words) s).prbsFeed d w idx g

/-- SKIM_GRAIN_TAP: a grain passes the tap point of die d that w names, with INDEX (R281, R286). It arrives as g, and one that fails its parity
is replaced (R14); a GROUP tap takes the sink's payload and no g. `ts` is the time of its passing less the fixed delay between the tap and
the balls that its timestamp refers to, from which the delay in the device's stores is taken (R295; notes/assumptions/59.md). `bad`: it
comes in a TG block that fails its CRC-16. -/
def execSkimGrainTap (d : Fin 4) (w : Word) (idx : Fin 1048576) (g : Grain) (bad : Bool) (ts : BitVec 96) (s : State) : Out :=
  if tapCode w = 4 then
    (match s.skGrpGrain d w idx with
     | some (h, m, b) => done (s.skTapped d w idx h ts (some (m, b)))
     | none => .next s)
  else
    let s1 := s.skTapped d w idx (if bad then voidGrain else crossed g) ts none
    done (if oddParity g then s1 else s1.parityFail (.tap d))

/-- The TIME trigger of a job, once the time base has reached its frame start and offset. -/
def State.skTime (s : State) (d j : Nat) : State :=
  let off := (s.rd (R.SKIM_JOB_TRIG d j 1)).toNat % 2 ^ 17
  if s.skWaits d j 4 ∧ s.fn = (s.rd (R.SKIM_JOB_TRIG d j 0)).toNat ∧ off ≤ s.ns then s.skTrig d j 0 ({ s with ns := off }.stamp 0)
  else s

/-- SKIM_TRIGGER_TIME. -/
def execSkimTriggerTime (d : Fin 4) (j : Fin 8) (s : State) : Out := done (s.skTime d j)

/-- Every forming record of the job whose first grain is FLUSH frames old closes (R287). -/
def State.skTimedFlush (s : State) (d j : Nat) : State :=
  let n := s.get (R.SKIM_JOB_CFG d j) F.SKIM_JOB_CFG_FLUSH
  if n = 0 ∨ s.skSt d j < skARMED ∨ skPOST < s.skSt d j then s
  else (List.range (s.sk d j).srcs.length).foldl (fun t i =>
      match ((t.sk d j).srcs[i]?).bind (fun c => c.form) with
      | some r => if r.up + n ≤ t.up then (t.skClose d j i false true).skAfterClose d j else t
      | none => t) s

/-- SKIM_FLUSH_TIMEOUT. -/
def execSkimFlushTimeout (d : Fin 4) (j : Fin 8) (s : State) : Out := done (s.skTimedFlush d j)

-- Writing (R288, R289, R294)

/-- A drain copy is in progress and holds the oldest record. -/
def State.skDraining (s : State) (d j : Nat) : Bool :=
  s.flag (R.SKIM_JOB_CFG d j) F.SKIM_JOB_CFG_DRAIN_EN && !s.flag (R.SKIM_JOB_STATUS d j) F.SKIM_JOB_STATUS_DRAIN_HALT
    && s.rd (R.SKIM_JOB_DQ_POST d j) != s.rd (R.SKIM_JOB_DQ_DONE d j) && s.skHeld d j != 0

/-- The record is dropped: a drain copy holds its slot. -/
def State.skDropRecord (s : State) (d j : Nat) (r : SkRec) : State :=
  let mine (c : SkSrc) : Bool := c.code == r.code && c.n == r.src
  ((s.updSk d j (fun x => { x with srcs := x.srcs.map (fun c => if mine c then { c with drops := c.drops ++ [r.seq] } else c) })
    |>.addLoss (ctrSkDrop d j) 1).addLoss (ctrSkDropg d j) r.grains.length).skDropEvent d j

/-- The record goes into its slot, and WR advances; while Skim may not reach the ring the record waits. -/
def State.skPutRecord (s : State) (d j : Nat) (r : SkRec) : State :=
  let mine (c : SkSrc) : Bool := c.code == r.code && c.n == r.src
  let x := s.sk d j
  let lost := match x.srcs.find? mine with
    | some c => (c.drops.filter (fun q => decide (q < r.seq))).length
    | none => 0
  let a := s.skBase d j + 4096 * (s.skWR d j % max 1 (s.skSize d j))
  let y := { x with dropEv := false, staged := x.staged.tail,
                    srcs := x.srcs.map (fun c =>
                      if mine c then { c with drops := c.drops.filter (fun q => decide (r.seq < q)), wrote := true } else c) }
  let bytes := (r.words j lost).flatMap wordBytes
  let (s1, ok) := if s.engineWaits (mSKIM d) a (.write (bytes.map some)) then (s, false)
    else s.engineOp (mSKIM d) a (.write (bytes.map some)) []
  if !ok then s1 else ((s1.setSk d j y).st a bytes).wr (R.SKIM_JOB_WR d j) (BitVec.ofNat 32 (s.skWR d j + 1))

/-- A fill-once job ends when F has fallen to S (R289). -/
def State.skFull (s : State) (d j : Nat) : State :=
  if s.skSt d j = skRUNNING ∧ s.get (R.SKIM_JOB_CFG d j) F.SKIM_JOB_CFG_POLICY = 0
      ∧ s.skSize d j ≤ s.skHeld d j + (s.sk d j).srcs.length then s.skEnd d j skDONE 3
  else s

/-- The oldest closed record is due (R289): one that closed while its job was ARMED keeps WR - RD at PRE or below, with PRE = 0 by passing on
over the record itself; with POLICY 1 the oldest
record of a full ring gives way to one of the run from start to end, its flush included; else a record waits for a free slot
(notes/assumptions/95.md). -/
def State.skWrite (s : State) (d j : Nat) : State :=
  match (s.sk d j).staged with
  | [] => s
  | r :: rest =>
    let n := if r.pre then s.skHeld d j + 1 - s.get (R.SKIM_JOB_PRE d j) F.SKIM_JOB_PRE_PRE else 0
    let s0 := s.skOver d j (min n (s.skHeld d j))
    let full := decide (s0.skSize d j ≤ s0.skHeld d j)
    let gives := s0.get (R.SKIM_JOB_CFG d j) F.SKIM_JOB_CFG_POLICY == 1 && !s0.flag (R.SKIM_JOB_STATUS d j) F.SKIM_JOB_STATUS_TRIGGERED && !r.pre
    if !full then
      let s1 := s0.skPutRecord d j r
      (if (s1.sk d j).staged.length < (s0.sk d j).staged.length then s1.skOver d j (n - s.skHeld d j) else s1).skFull d j
    else if !gives then s0
    else if s0.skDraining d j then (s0.updSk d j (fun x => { x with staged := rest })).skDropRecord d j r
    else (s0.skOver d j 1).skPutRecord d j r

/-- Writes every record that waits. -/
def State.skWriteAll (d j : Nat) : Nat → State → State
  | 0, s => s
  | n + 1, s => State.skWriteAll d j n (s.skWrite d j)

def State.skDrainStage (s : State) (d j : Nat) : State := State.skWriteAll d j (s.sk d j).staged.length s

/-- Staging words of the oldest closed record fail their check: each with the grain that it holds; an uncorrectable one becomes a substitute
grain (R55, Table 14-12). -/
def State.skSram (s : State) (d j : Nat) (l : List (Nat × Ecc)) : State :=
  let hit := l.filter (fun e => e.2 != .ok)
  let fix (r : SkRec) : SkRec :=
    let n := r.grains.length
    { r with grains := r.grains.mapIdx (fun i g => if hit.any (fun e => e.2 == .uncorrectable && e.1 + i + 1 == n) then subGrain else g) }
  match (s.sk d j).staged with
  | [] => s
  | r :: rest => hit.foldl (fun t _ => t.ev (evDie d) srcSRAM) (s.updSk d j (fun x => { x with staged := fix r :: rest }))

/-- SKIM_RECORD_WRITTEN; `sram` gives the grains whose staging words fail their check. -/
def execSkimRecordWritten (d : Fin 4) (j : Fin 8) (sram : List (Nat × Ecc)) (s : State) : Out := done ((s.skSram d j sram).skWrite d j)

/-- A write of SKIM_JOB_RD (R289). -/
def State.writeSkimRd (t : State) (d j : Nat) (v : Word) : State :=
  if t.flag (R.SKIM_JOB_CFG d j) F.SKIM_JOB_CFG_DRAIN_EN ∨ t.skSize d j < fnDelta v.toNat (t.skWR d j) then t
  else (t.wr (R.SKIM_JOB_RD d j) v).skFull d j

/-- SKIM_RD_WRITE. -/
def execSkimRdWrite (p : Port) (d : Fin 4) (j : Fin 8) (v : Word) (s : State) : Out :=
  done (hostReg p (.skimRdWrite p d j v) (fun t => t.writeSkimRd d j v) s)

-- Jobs (R290 to R293)

/-- DEFINE clears taps, counts and flags. -/
def State.skDefine (s : State) (d j : Nat) : State :=
  if s.skSt d j ≠ skFREE then s.skRefused d j
  else
    let s1 := (((s.setSk d j emptySk).wr (R.SKIM_JOB_STATUS d j) 0).wr (R.SKIM_JOB_WR d j) 0).wr (R.SKIM_JOB_RD d j) 0
    (((s1.setCtr (ctrSkDrop d j) 0).setCtr (ctrSkOver d j) 0).setCtr (ctrSkDropg d j) 0).skTo d j skDEFINED

/-- Every field of the job's configuration is in range (FIELD). -/
def State.skFieldsOK (s : State) (d j : Nat) : Bool :=
  let cfg (f : Fld) : Nat := s.get (R.SKIM_JOB_CFG d j) f
  let trig := cfg F.SKIM_JOB_CFG_TRIG
  let t0 := (s.rd (R.SKIM_JOB_TRIG d j 0)).toNat
  let t1 := (s.rd (R.SKIM_JOB_TRIG d j 1)).toNat
  let q := s.get (R.SKIM_JOB_DQ_CTRL d j) F.SKIM_JOB_DQ_CTRL_SIZE_LOG2
  trig != 7 && cfg F.SKIM_JOB_CFG_DRAIN_PORT != 3
    && decide (512 ≤ s.skSize d j) && decide (s.skSize d j ≤ 4194304)
    && (trig == 0 || s.get (R.SKIM_JOB_POST d j) F.SKIM_JOB_POST_POST != 0)
    && (cfg F.SKIM_JOB_CFG_DRAIN_EN == 0 || (decide (4 ≤ q) && decide (q ≤ 16)))
    && (match trig with
        | 1 => decide (1 ≤ t0 / 2 ^ 30) && tapField (s.rd (R.SKIM_JOB_TRIG d j 2))
        | 2 => tapField (s.rd (R.SKIM_JOB_TRIG d j 2))
        | 4 => decide (t1 % 2 ^ 17 < 125000)
        | _ => true)

/-- The ring lies in CAPTURE, apart from the ring of every other job that is not FREE (R288). -/
def State.skRingOK (s : State) (d j : Nat) : Bool :=
  let a := s.skBase d j
  let n := 4096 * s.skSize d j
  s.inPart d 0 a n && (List.range 8).all (fun i =>
    i == j || s.skSt d i == skFREE || decide (a + n ≤ s.skBase d i) || decide (s.skBase d i + 4096 * s.skSize d i ≤ a))

/-- The trigger's parameters name what exists (TRIG). -/
def State.skTrigOK (s : State) (d j : Nat) : Bool :=
  let t0 := (s.rd (R.SKIM_JOB_TRIG d j 0)).toNat
  let w := s.rd (R.SKIM_JOB_TRIG d j 2)
  match s.get (R.SKIM_JOB_CFG d j) F.SKIM_JOB_CFG_TRIG with
  | 1 => (s.sk d j).words.contains w
  | 2 => s.tapKind d [0, 2] w
  | 3 => decide (t0 / 256 % 256 < evBlocks) && decide (t0 % 256 < evSources (t0 / 256 % 256))
  | 6 => (s.prbsAt d (t0 % 8192)).on
  | _ => true

/-- Base and bytes of the job's descriptor ring (R296). -/
def State.skDqBase (s : State) (d j : Nat) : Nat := s.addrAt (R.SKIM_JOB_DQ_LO d j) (R.SKIM_JOB_DQ_HI d j)
def State.skDqSize (s : State) (d j : Nat) : Nat := 2 ^ s.get (R.SKIM_JOB_DQ_CTRL d j) F.SKIM_JOB_DQ_CTRL_SIZE_LOG2

/-- The first check of Table 12-18 that START fails; 0 none. -/
def State.skStartCode (s : State) (d j : Nat) (asap : Bool) : Nat :=
  let l := (s.sk d j).words
  let n := (skSources l).length
  let live := (List.range 8).filter (fun i => s.skLive d i)
  let win := s.get (R.SKIM_JOB_PRE d j) F.SKIM_JOB_PRE_PRE + s.get (R.SKIM_JOB_POST d j) F.SKIM_JOB_POST_POST + n
  if !s.skFieldsOK d j then 0x01
  else if l.any (fun w => !s.tapKind d [0, 1, 2, 3, 4] w) then 0x03
  else if l.any (s.tapDark d) then 0x05
  else if l.isEmpty then 0x07
  else if s.partUnits d 0 = 0 then 0x08
  else if !s.skRingOK d j then 0x09
  else if s.skSize d j < win then 0x0A
  else if 128 < (live.map (fun i => (skSources (s.sk d i).words).length)).sum + n then 0x0B
  else if 50000000000 < (live.map (s.skRate d)).sum + s.skRate d j then 0x0C
  else if !s.skTrigOK d j then 0x0D
  else if s.flag (R.SKIM_JOB_CFG d j) F.SKIM_JOB_CFG_DRAIN_EN && !(s.inPart d 4 (s.skDqBase d j) (16 * s.skDqSize d j)
      || s.inOwned d 1 (s.skDqBase d j) (16 * s.skDqSize d j)) then 0x0E
  else if !asap && !s.startOK 2 (s.rd (R.SKIM_JOB_START_FN d j)).toNat then 0x0F
  else 0

/-- START (Table 12-6). -/
def State.skStart (s : State) (d j : Nat) (asap : Bool) : State :=
  if !skIdle (s.skSt d j) then s.skRefused d j
  else
    let c := s.skStartCode d j asap
    if c ≠ 0 then s.skStatus d j F.SKIM_JOB_STATUS_CODE c
    else
      let s0 := s.skDrainStage d j
      let taps := (s0.sk d j).taps.map (fun e => (e.1, s0.tapFix d e.1))
      let s1 := s0.setSk d j { emptySk with taps := taps }
      let s2 := ((s1.wr (R.SKIM_JOB_STATUS d j) (s1.rd (R.SKIM_JOB_STATUS d j) &&& 0xE0000000)).wr (R.SKIM_JOB_WR d j) 0).wr
        (R.SKIM_JOB_RD d j) 0
      let s3 := ((s2.setCtr (ctrSkDrop d j) 0).setCtr (ctrSkOver d j) 0).setCtr (ctrSkDropg d j) 0
      let s4 := if asap then s3.wr (R.SKIM_JOB_START_FN d j) (BitVec.ofNat 32 (s.fn + 2)) else s3
      s4.skTo d j skPENDING

/-- At START_FN every source begins. -/
def State.skBegin (s : State) (d j : Nat) : State :=
  if s.skSt d j = skPENDING ∧ s.fn = (s.rd (R.SKIM_JOB_START_FN d j)).toNat then
    let srcs := (skSources (s.sk d j).words).map (fun e => (⟨e.1, e.2, true, none, none, [], false, false⟩ : SkSrc))
    (s.updSk d j (fun x => { x with srcs := srcs })).skTo d j
      (if s.get (R.SKIM_JOB_CFG d j) F.SKIM_JOB_CFG_TRIG = 0 then skRUNNING else skARMED)
  else s

/-- At STOP_FN the job ends. -/
def State.skStopFn (s : State) (d j : Nat) : State :=
  if (s.skSt d j = skARMED ∨ s.skSt d j = skRUNNING) ∧ s.flag (R.SKIM_JOB_CFG d j) F.SKIM_JOB_CFG_STOP_FN_EN = true
      ∧ s.fn = (s.rd (R.SKIM_JOB_STOP_FN d j)).toNat then s.skEnd d j skDONE 5
  else s

/-- What time has brought to the job by the present instant, in order; a command of the same cycle counts after it (R293). -/
def State.skNow (s : State) (d j : Nat) : State := (((s.skBegin d j).skStopFn d j).skTimedFlush d j).skTime d j

/-- STOP (R293). -/
def State.skStop (s0 : State) (p : Port) (d j : Nat) : State :=
  let s := s0.skNow d j
  let st := s.skSt d j
  let cause := 1 + p.toNat
  if st = skDONE ∨ st = skSTOPPED then s.skStatus d j F.SKIM_JOB_STATUS_LATE_STOP 1
  else if st = skPENDING then (s.skStatus d j F.SKIM_JOB_STATUS_END_CAUSE cause).skTo d j skSTOPPED
  else if st = skARMED ∨ st = skRUNNING ∨ st = skPOST then s.skEnd d j skSTOPPED cause
  else s.skRefused d j

/-- TRIGGER (R290). -/
def State.skTrigger (s0 : State) (p : Port) (d j : Nat) : State :=
  let s := s0.skNow d j
  if s.skSt d j = skARMED then let (t, ts) := s.stampNow; t.skTrig d j (1 + p.toNat) ts else s.skRefused d j

/-- RELEASE: the flush completes, and the taps are released. -/
def State.skRelease (s : State) (d j : Nat) : State :=
  if s.skSt d j = skDONE ∨ s.skSt d j = skSTOPPED then
    ((s.skDrainStage d j).updSk d j (fun x => { x with taps := [] })).skTo d j skFREE
  else s.skRefused d j

/-- The operation is listed for the present state (Table 12-6, R293). -/
def State.skOpOK (s : State) (d j op : Nat) : Bool :=
  let st := s.skSt d j
  match op with
  | 0 => true
  | 1 => st == skFREE
  | 2 => skIdle st
  | 3 => decide (skPENDING ≤ st)
  | 4 => st == skARMED
  | 5 => st == skDONE || st == skSTOPPED
  | _ => false

/-- SKIM_JOB_DEFINE. -/
def execSkimJobDefine (p : Port) (d : Fin 4) (j : Fin 8) (s : State) : Out := done (hostReg p (.skimJobDefine p d j) (fun t => t.skDefine d j) s)

/-- SKIM_JOB_START. -/
def execSkimJobStart (p : Port) (d : Fin 4) (j : Fin 8) (s : State) : Out := done (hostReg p (.skimJobStart p d j) (fun t => t.skStart d j false) s)

/-- SKIM_JOB_START_ASAP. -/
def execSkimJobStartAsap (p : Port) (d : Fin 4) (j : Fin 8) (s : State) : Out := done (hostReg p (.skimJobStartAsap p d j) (fun t => t.skStart d j true) s)

/-- SKIM_JOB_STOP. -/
def execSkimJobStop (p : Port) (d : Fin 4) (j : Fin 8) (s : State) : Out := done (hostReg p (.skimJobStop p d j) (fun t => t.skStop p d j) s)

/-- SKIM_JOB_TRIGGER. -/
def execSkimJobTrigger (p : Port) (d : Fin 4) (j : Fin 8) (s : State) : Out := done (hostReg p (.skimJobTrigger p d j) (fun t => t.skTrigger p d j) s)

/-- SKIM_JOB_RELEASE. -/
def execSkimJobRelease (p : Port) (d : Fin 4) (j : Fin 8) (s : State) : Out := done (hostReg p (.skimJobRelease p d j) (fun t => t.skRelease d j) s)

/-- SKIM_JOB_OP_INVALID: OP 6 or 7, or an operation that the present state does not list. -/
def execSkimJobOpInvalid (p : Port) (d : Fin 4) (j : Fin 8) (op : Fin 8) (s : State) : Out :=
  .next (hostReg p (.skimJobOpInvalid p d j op) (fun t => if t.skOpOK d j op then t else t.skRefused d j) s)

/-- SKIM_JOB_BEGIN: every source begins at START_FN. -/
def execSkimJobBegin (d : Fin 4) (j : Fin 8) (s : State) : Out := done (s.skBegin d j)

/-- SKIM_STOP_FN. -/
def execSkimStopFn (d : Fin 4) (j : Fin 8) (s : State) : Out := done (s.skStopFn d j)

/-- A full re-bench ends every live job of a die, and its flush completes (Table 12-6). -/
def State.skBench (s : State) (d : Nat) : State :=
  (List.range 8).foldl (fun t j => if t.skLive d j then (t.skEnd d j skSTOPPED 6).skDrainStage d j else t) s

/-- A block reset of Skim (R355): closed records are written, forming ones are discarded and their grains counted. -/
def State.skReset (s : State) (d : Nat) : State :=
  (List.range 8).foldl (fun t j =>
    if t.skLive d j then
      let n := ((t.sk d j).srcs.map (fun c => (c.form.map (fun r => r.grains.length)).getD 0)).sum
      let t1 := t.updSk d j (fun x => { x with srcs := x.srcs.map (fun c => { c with form := none, buf := false }) })
      (((t1.addLoss (ctrSkDropg d j) n).skStatus d j F.SKIM_JOB_STATUS_END_CAUSE 7).skTo d j skSTOPPED).skDrainStage d j
    else t) s

/-- A write of SKIM_JOB_CFG (R292, R297). -/
def State.writeSkimCfg (s : State) (d j : Nat) (v : Word) : State :=
  if s.skLive d j then s
  else
    let r := R.SKIM_JOB_CFG d j
    let was := s.flag r F.SKIM_JOB_CFG_DRAIN_EN
    let s1 := s.wr r (v &&& accMask r (fun a => a == .rw))
    if !was && s1.flag r F.SKIM_JOB_CFG_DRAIN_EN then s1.skStatus d j F.SKIM_JOB_STATUS_DRAIN_HALT 0 else s1

-- The drain (R296, R297)

/-- DRAIN_DESCRIPTOR_POST. -/
def execDrainDescriptorPost (p : Port) (d : Fin 4) (j : Fin 8) (v : Word) (s : State) : Out :=
  .next (hostReg p (.drainDescriptorPost p d j v) (fun t => t.wr (R.SKIM_JOB_DQ_POST d j) v) s)

/-- DRAIN_ENABLE_WRITE: a write of SKIM_JOB_CFG that puts DRAIN_EN. -/
def execDrainEnableWrite (p : Port) (d : Fin 4) (j : Fin 8) (en : Bool) (s : State) : Out :=
  .next (hostReg p (.drainEnableWrite p d j en) (fun t => t.writeSkimCfg d j (fset (t.rd (R.SKIM_JOB_CFG d j)) F.SKIM_JOB_CFG_DRAIN_EN (if en then 1 else 0))) s)

/-- The port may write upstream (R393, R394). -/
def State.mayWriteUp (s : State) (p : Port) : Bool :=
  let c := s.port p
  !c.perst && !c.d3hot && c.bme && s.linkUp p

/-- The port that takes the next descriptor. -/
def State.drainPort (s : State) (d j : Nat) : Port :=
  match s.get (R.SKIM_JOB_CFG d j) F.SKIM_JOB_CFG_DRAIN_PORT with
  | 0 => .a
  | 1 => .b
  | _ => if (s.sk d j).turnB then .b else .a

/-- Skim writes word 3 of a descriptor, where it may. -/
def State.drainWord3 (s : State) (d a : Nat) (w : Word) : State :=
  let (s1, ok) := s.engineOp (mSKIM d) (a + 12) (.write ((wordBytes w).map some)) []
  if ok then s1.stw (a + 12) w else s1

/-- A copy fails (R297): its descriptor takes ERR, and the drain halts. -/
def State.drainFail (s : State) (d j a : Nat) : State :=
  ((s.drainWord3 d a 0x40000000).skStatus d j F.SKIM_JOB_STATUS_DRAIN_HALT 1).ev (evDie d) srcSKIM_LOSS

/-- Skim reads the descriptor at a and n records of the ring: what that counts, and whether all could be read (R311, R313, R325). -/
def State.drainReads (s : State) (d j a n : Nat) (errs : List (Nat × Ecc)) : State × Bool :=
  let base := s.skBase d j
  let size := max 1 (s.skSize d j)
  let rd := s.skRD d j
  (List.range n).foldl (fun (x : State × Bool) i =>
    if x.2 then x.1.engineOp (mSKIM d) (base + 4096 * ((rd + i) % 2 ^ 32 % size)) (.read 4096) errs else x)
    (s.engineOp (mSKIM d) a (.read 12) errs)

/-- The posted writes of a copied record, each of at most the port's maximum payload (R394, Table 17-1). -/
def State.drainWrites (s : State) (p : Port) (host : Nat) (l : List Byte) : State :=
  let m := (s.port p).payload
  { s with hostWrites := ((List.range (4096 / m)).map (fun k =>
      .drain p (BitVec.ofNat 64 (host + m * k)) ((l.drop (m * k)).take m))).reverse ++ s.hostWrites }

/-- An operation of the copy waits (R329, R330, Table 13-2). -/
def State.drainWaits (s : State) (d j a n : Nat) : Bool :=
  s.engineWaits (mSKIM d) a (.read 12) || s.engineWaits (mSKIM d) (a + 12) (.write (List.replicate 4 (some 0)))
    || (decide (n ≠ 0) && s.engineWaits (mSKIM d) (s.skBase d j) (.read 8))

/-- The descriptor at DQ_DONE is carried out; `ok` tells whether the copy succeeds on the link, `errs` what the check finds in the memory that
is read. -/
def State.drainStep (s : State) (d j : Nat) (ok : Bool) (errs : List (Nat × Ecc)) : State :=
  let q := (s.rd (R.SKIM_JOB_DQ_DONE d j)).toNat
  let a := s.skDqBase d j + 16 * (q % s.skDqSize d j)
  let want := (s.ldw (a + 8)).toNat % 2 ^ 16
  let n := min want (s.skHeld d j)
  let ended := (s.skSt d j == skDONE || s.skSt d j == skSTOPPED) && (s.sk d j).staged.isEmpty
  if !s.skDraining d j && !(ended && s.flag (R.SKIM_JOB_CFG d j) F.SKIM_JOB_CFG_DRAIN_EN
      && !s.flag (R.SKIM_JOB_STATUS d j) F.SKIM_JOB_STATUS_DRAIN_HALT && s.rd (R.SKIM_JOB_DQ_POST d j) != s.rd (R.SKIM_JOB_DQ_DONE d j))
  then s
  else if (n < want ∧ ended = false) ∨ s.drainWaits d j a n then s
  else
    let p := s.drainPort d j
    let (s0, got) := s.drainReads d j a n errs
    if !got then s0.drainFail d j a
    else if !ok || !s0.mayWriteUp p then
      let s1 := if (s0.port p).bme then s0
        else s0.put R.HOSTIF_ERR (match p with
          | .a => F.HOSTIF_ERR_BME_FAIL_A
          | .b => F.HOSTIF_ERR_BME_FAIL_B) 1
      s1.drainFail d j a
    else
      let host := 2 ^ 32 * (s.ldw (a + 4)).toNat + 4096 * ((s.ldw a).toNat / 4096)
      let rd := s.skRD d j
      let data (i : Nat) : List Byte := s.ld (s.skBase d j + 4096 * ((rd + i) % 2 ^ 32 % max 1 (s.skSize d j))) 4096
      let s1 := (List.range n).foldl (fun t i => t.drainWrites p (host + 4096 * i) (data i)) s0
      let s2 := (s1.wr (R.SKIM_JOB_RD d j) (BitVec.ofNat 32 (rd + n))).drainWord3 d a (BitVec.ofNat 32 (2 ^ 31 + n))
      let s3 := (s2.wr (R.SKIM_JOB_DQ_DONE d j) (BitVec.ofNat 32 (q + 1))).updSk d j (fun x => { x with turnB := !x.turnB })
      if (s.ldw (a + 8)).toNat.testBit 31 then s3.ev (evDie d) srcSKIM_DRAIN else s3

/-- DRAIN_COPY_DONE. -/
def execDrainCopyDone (d : Fin 4) (j : Fin 8) (ok : Bool) (errs : List (Nat × Ecc)) (s : State) : Out := done (s.drainStep d j ok errs)

-- PRBS operations

/-- The command's word, and SKIM_PRBS_STATUS. -/
def State.prbsDone (s : State) (p : Port) (d op i code : Nat) : State :=
  (s.wr (R.SKIM_PRBS_CTRL p d) (BitVec.ofNat 32 (2 ^ 29 * op + i))).wr (R.SKIM_PRBS_STATUS d) (BitVec.ofNat 32 (2 ^ 31 + 2 ^ 24 * code))

/-- READ. -/
def State.prbsRead (s : State) (p : Port) (d i : Nat) : State :=
  let x := s.prbsAt d i
  let b (v : Bool) : Nat := if v then 1 else 0
  ((((((s.wr (R.SKIM_PRBS_DATA0 d) (BitVec.ofNat 32 x.bits)).wr (R.SKIM_PRBS_DATA1 d) (BitVec.ofNat 32 (x.bits / 2 ^ 32))).wr
    (R.SKIM_PRBS_DATA2 d) (BitVec.ofNat 32 x.errs)).wr (R.SKIM_PRBS_DATA3 d) (BitVec.ofNat 32 (x.errs / 2 ^ 32))).wr
    (R.SKIM_PRBS_DATA4 d) (BitVec.ofNat 32 (2 ^ 16 * x.losses + b x.errsWrap * 4 + b x.bitsWrap * 2 + b x.sync)))).prbsDone p d 0 i 0

/-- The first check that a WRITE fails; 0 none. -/
def State.prbsCode (s : State) (d i : Nat) (x : Prbs) : Nat :=
  let w := x.bound
  let tap := tapCode w
  if 6 ≤ x.poly ∨ (tap = 4 ∧ 1024 ≤ w.toNat % 2 ^ 25) then 1
  else if !([0, 1, 4] : List Nat).contains tap then 3
  else if !x.on then 0
  else if !s.tapKind d [0, 1, 4] w then 3
  else if s.prbs.any (fun e => e.1 / 8192 == d && e.1 % 8192 != i && e.2.on && e.2.bound == w) then 4
  else if s.tapDark d w then 5
  else 0

/-- WRITE: the analyser takes the port's configuration and begins in HUNT. -/
def State.prbsWrite (s : State) (p : Port) (d i : Nat) : State :=
  let x := { (s.prbsAt d i).hunt with cnt := none, cfg := s.rd (R.SKIM_PRBS_CFG p d) &&& 0xFF000000, ta := s.rd (R.SKIM_PRBS_TA p d) &&& 0x01FFFFFF }
  let c := s.prbsCode d i x
  if c ≠ 0 then s.prbsDone p d 1 i c else (s.prbsPut d i x false).prbsDone p d 1 i 0

/-- CLEAR. -/
def State.prbsClear (s : State) (p : Port) (d i : Nat) : State :=
  (s.setPrbs d i (s.prbsAt d i).clear).prbsDone p d 2 i 0

/-- SKIM_PRBS_READ. -/
def execSkimPrbsRead (p : Port) (d : Fin 4) (i : Fin 8192) (s : State) : Out := .next (hostReg p (.skimPrbsRead p d i) (fun t => t.prbsRead p d i) s)

/-- SKIM_PRBS_WRITE. -/
def execSkimPrbsWrite (p : Port) (d : Fin 4) (i : Fin 8192) (s : State) : Out := done (hostReg p (.skimPrbsWrite p d i) (fun t => t.prbsWrite p d i) s)

/-- SKIM_PRBS_CLEAR. -/
def execSkimPrbsClear (p : Port) (d : Fin 4) (i : Fin 8192) (s : State) : Out := .next (hostReg p (.skimPrbsClear p d i) (fun t => t.prbsClear p d i) s)

/-- SKIM_PRBS_OP_INVALID: OP 3. -/
def execSkimPrbsOpInvalid (p : Port) (d : Fin 4) (i : Fin 8192) (s : State) : Out := .next (hostReg p (.skimPrbsOpInvalid p d i) (fun t => t.prbsDone p d 3 i 1) s)

end Sys2Proof.Machine
end

