-- ==== Sys2Proof/Machine/Pour.lean ====
section
/-!
DEFINITION. Pour: target lists, jobs, the content of each source, injection and pointer scripts (R300 to R307, 12_skim_pour.md).
-/

namespace Sys2Proof.Machine

def poIdle (st : Nat) : Bool := st == poDEFINED || st == poDONE || st == poSTOPPED
def State.poLive (s : State) (d j : Nat) : Bool := decide (poPENDING ≤ s.poSt d j) && decide (s.poSt d j ≤ poENDING)
def State.updPour (s : State) (d j : Nat) (f : PourJob → PourJob) : State := s.setPour d j (f (s.pour d j))
def State.poRefused (s : State) (d j : Nat) : State := s.poStatus d j F.POUR_JOB_STATUS_OP_REFUSED 1

def PourJob.words (x : PourJob) : List Word := x.tgts.map (fun t => t.tap)

/-- Tap rate of a job in grains per second: of a live job, at the positions fixed when it started (R283). -/
def State.poRate (s : State) (d j : Nat) : Nat :=
  ((s.pour d j).tgts.map (fun t => if s.poLive d j then s.fixedRate t.tap (t.n, t.nc) else s.tapRate d t.tap)).sum

/-- POUR_JOB_LOAD, and POUR_STATUS over the live jobs of the die. -/
def State.poShow (s : State) (d : Nat) : State :=
  let s1 := (List.range 8).foldl (fun t j =>
    (t.put (R.POUR_JOB_LOAD d j) F.POUR_JOB_LOAD_TARGETS (min 16383 (t.pour d j).words.length)).put (R.POUR_JOB_LOAD d j)
      F.POUR_JOB_LOAD_RATE (min 65535 (t.poRate d j / 1000000))) s
  let live := (List.range 8).filter (fun j => s1.poLive d j)
  (s1.put (R.POUR_STATUS d) F.POUR_STATUS_LIVE ((live.map (fun j => 2 ^ j)).sum)).put (R.POUR_STATUS d) F.POUR_STATUS_RATE
    ((live.map (fun j => s1.poRate d j)).sum / 1000000)

def State.poTo (s : State) (d j st : Nat) : State :=
  ((s.poStatus d j F.POUR_JOB_STATUS_STATE st).poShow d).ev (evDie d) srcPOUR

-- Target lists (R285, R300)

/-- A target that R300 takes as TAKEN: one of another job, a link in an active MSP group, or an egress member of a group. -/
def State.poTaken (s : State) (d : Nat) (w : Word) : Bool :=
  (List.range 8).any (fun j => (s.pour d j).words.any (fun v => s.tapMeets v w))
    || (tapCode w == 3 && (s.mspActing (taLink (tapTA w))).isSome)
    || (tapCode w == 1 && s.grps.any (fun e => e.2.outs.contains (w &&& 0x01FFFFFF)))

def State.poTgtCode (s : State) (d : Nat) (w : Word) : Nat :=
  if !tapField w then 1
  else if !s.tapKind d [1, 3, 4] w then 3
  else if s.poTaken d w then 4
  else if s.tapDark d w then 5
  else 0

def State.poTgtDone (s : State) (p : Port) (d code index : Nat) : State :=
  (s.wr (R.POUR_TGT_STATUS p d) (BitVec.ofNat 32 (2 ^ 31 + 2 ^ 24 * code + index % 2 ^ 20))).poShow d

/-- OP and JOB of a command in the port's POUR_TGT_CTRL; a command that names no TAP or COUNT leaves that field as it is. -/
def State.poTgtCtrl (s : State) (p : Port) (d op j : Nat) : State :=
  (s.put (R.POUR_TGT_CTRL p d) F.POUR_TGT_CTRL_OP op).put (R.POUR_TGT_CTRL p d) F.POUR_TGT_CTRL_JOB j

/-- Runs an operation of the port's target registers unless one is in progress. -/
def State.poTgtGo (s : State) (p : Port) (d : Nat) (f : State → State) : State :=
  if s.flag (R.POUR_TGT_STATUS p d) F.POUR_TGT_STATUS_BUSY then s else f s

def State.poEntry (s : State) (p : Port) (d code : Nat) : Word := (s.rd (R.POUR_TGT_TA p d) &&& 0x01FFFFFF) ||| BitVec.ofNat 32 (2 ^ 25 * code)

def State.poAddTgt (s : State) (d j : Nat) (w : Word) : State := s.updPour d j (fun x => { x with tgts := x.tgts ++ [freshTgt w] })

/-- ADD. -/
def State.poAdd (s : State) (p : Port) (d j code : Nat) : State :=
  s.poTgtGo p d (fun t =>
    let w := t.poEntry p d code
    let c := t.poTgtCode d w
    if c = 1 then t.poTgtDone p d 1 0
    else if !poIdle (t.poSt d j) then t.poTgtDone p d 2 0
    else if c ≠ 0 then t.poTgtDone p d c 0
    else (t.poAddTgt d j w).poTgtDone p d 0 0)

/-- REMOVE. -/
def State.poRemove (s : State) (p : Port) (d j code : Nat) : State :=
  s.poTgtGo p d (fun t =>
    let w := t.poEntry p d code
    if !tapField w then t.poTgtDone p d 1 0
    else if !poIdle (t.poSt d j) then t.poTgtDone p d 2 0
    else if !([1, 3, 4] : List Nat).contains code then t.poTgtDone p d 3 0
    else (t.updPour d j (fun x => { x with tgts := x.tgts.filter (fun e => e.tap != w) })).poTgtDone p d 0 0)

/-- CLEAR. -/
def State.poClear (s : State) (p : Port) (d j : Nat) : State :=
  s.poTgtGo p d (fun t =>
    if !poIdle (t.poSt d j) then t.poTgtDone p d 2 0
    else (t.updPour d j (fun x => { x with tgts := [] })).poTgtDone p d 0 0)

/-- FETCH_ADD starts. -/
def State.poFetchAdd (s : State) (p : Port) (d j count : Nat) : State :=
  s.poTgtGo p d (fun t =>
    let a := t.addrAt (R.POUR_TGT_FETCH_LO p d) (R.POUR_TGT_FETCH_HI p d)
    if count = 0 ∨ 262143 < count then t.poTgtDone p d 1 0
    else if !poIdle (t.poSt d j) then t.poTgtDone p d 2 0
    else if !(t.inOwned d 3 a (4 * count) || t.inPart d 4 a (4 * count)) then t.poTgtDone p d 6 0
    else { (t.wr (R.POUR_TGT_STATUS p d) 0x40000000) with
           pourFetch := store id (fun _ => none) t.pourFetch (2 * d + p.toNat) (some ⟨j, count, a, p⟩) })

def State.poAddAll (d j : Nat) : List Word → Nat → State → State ⊕ (Nat × Nat)
  | [], _, s => .inl s
  | w :: l, i, s =>
      let c := s.poTgtCode d w
      if c ≠ 0 then .inr (c, i) else State.poAddAll d j l (i + 1) (s.poAddTgt d j w)

/-- The fetch ends: all entries, or none; an entry that cannot be read is refused with FETCH (R313). -/
def State.poFetchEnd (s : State) (p : Port) (d : Nat) (errs : List (Nat × Ecc)) : State :=
  match look (fun _ => none) s.pourFetch (2 * d + p.toNat) with
  | none => s
  | some f =>
    let s1 := { s with pourFetch := drop (2 * d + p.toNat) s.pourFetch }
    if s.engineWaits (mPOUR d) f.addr (.read (4 * f.count)) then s
    else if !poIdle (s1.poSt d f.job) then s1.poTgtDone p d 2 0
    else
      match State.engineWords (mPOUR d) f.addr errs f.count s1 with
      | (s2, .inr i) => s2.poTgtDone p d 6 i
      | (s2, .inl l) =>
        match State.poAddAll d f.job l 0 s2 with
        | .inl t => t.poTgtDone p d 0 0
        | .inr (c, i) => s2.poTgtDone p d c i

/-- POUR_TGT_ADD. -/
def execPourTgtAdd (p : Port) (d : Fin 4) (j : Fin 8) (code : Fin 8) (s : State) : Out :=
  .next (hostReg p (.pourTgtAdd p d j code) (fun t => ((t.poTgtCtrl p d 0 j).put (R.POUR_TGT_CTRL p d) F.POUR_TGT_CTRL_TAP code).poAdd p d j code) s)

/-- POUR_TGT_REMOVE. -/
def execPourTgtRemove (p : Port) (d : Fin 4) (j : Fin 8) (code : Fin 8) (s : State) : Out :=
  .next (hostReg p (.pourTgtRemove p d j code) (fun t => ((t.poTgtCtrl p d 1 j).put (R.POUR_TGT_CTRL p d) F.POUR_TGT_CTRL_TAP code).poRemove p d j code) s)

/-- POUR_TGT_FETCH_ADD. -/
def execPourTgtFetchAdd (p : Port) (d : Fin 4) (j : Fin 8) (count : Fin 1048576) (s : State) : Out :=
  .next (hostReg p (.pourTgtFetchAdd p d j count) (fun t => ((t.poTgtCtrl p d 2 j).put (R.POUR_TGT_CTRL p d) F.POUR_TGT_CTRL_COUNT count).poFetchAdd p d j count) s)

/-- POUR_TGT_CLEAR. -/
def execPourTgtClear (p : Port) (d : Fin 4) (j : Fin 8) (s : State) : Out :=
  .next (hostReg p (.pourTgtClear p d j) (fun t => (t.poTgtCtrl p d 3 j).poClear p d j) s)

/-- POUR_TGT_FETCH_DONE: the fetch that port p started on die d; `errs` gives what the check finds in the words of the list. -/
def execPourTgtFetchDone (p : Port) (d : Fin 4) (errs : List (Nat × Ecc)) (s : State) : Out := done (s.poFetchEnd p d errs)

-- Settings

def State.poSource (s : State) (d j : Nat) : Nat := s.get (R.POUR_JOB_CFG d j) F.POUR_JOB_CFG_SOURCE
def State.poFmt (s : State) (d j : Nat) : Nat := s.get (R.POUR_JOB_CFG d j) F.POUR_JOB_CFG_FMT
/-- Overhead comes from the pattern (Table 12-9). -/
def State.poRaw (s : State) (d j : Nat) : Bool := s.poSource d j == 2 && s.poFmt d j != 0
def State.patBase (s : State) (d j : Nat) : Nat := s.addrAt (R.POUR_JOB_PAT_LO d j) (R.POUR_JOB_PAT_HI d j)
def State.patLen (s : State) (d j : Nat) : Nat := s.get (R.POUR_JOB_PAT_LEN d j) F.POUR_JOB_PAT_LEN_WORDS
def State.scrOn (s : State) (d j : Nat) : Bool := s.flag (R.POUR_JOB_SCR_CTRL d j) F.POUR_JOB_SCR_CTRL_SCR_EN
def State.scrSteps (s : State) (d j : Nat) : Nat := s.get (R.POUR_JOB_SCR_CTRL d j) F.POUR_JOB_SCR_CTRL_STEPS
def State.scrAddr (s : State) (d j i : Nat) : Nat := s.addrAt (R.POUR_JOB_SCR_LO d j) (R.POUR_JOB_SCR_HI d j) + 4 * i
def State.scrWord (s : State) (d j i : Nat) : Word := s.ldw (s.scrAddr d j i)

/-- Kind of an entry: of its TA, or of its group's members. -/
def State.entryKind (s : State) (d : Nat) (w : Word) : Nat :=
  if tapCode w = 4 then (match (s.grp (tapGrp d w)).ins with
    | m :: _ => taKind (memTA m)
    | [] => 0)
  else taKind (tapTA w)

-- Overhead (R114, R140, R168, R169, R302)

/-- Byte i of a trace message as sent: formats of R114. -/
def txTrace (fmt : Nat) (m : List Byte) (i : Nat) : Byte :=
  match fmt with
  | 0 => m.getD 0 0
  | 1 =>
      let r := ((m.drop 1).take 15).map (fun b => b &&& 0x7F)
      if i % 16 = 0 then 0x80 ||| BitVec.ofNat 8 (crc7 (0x80 :: r)) else r.getD (i % 16 - 1) 0
  | _ => m.getD (i % 64) 0

/-- Entry i of LU n's trace table as sent in a format. -/
def State.txEntry (s : State) (n i : Nat) (j64 : Bool) (k : Nat) : Byte :=
  txTrace (if j64 then 2 else 1) (s.msgBytes (traceEntry n i) 64) k

/-- REI count and RDI that an ingress path gives the reverse direction (R140). -/
def State.backward (s : State) (a3 : Bool) (t : TA) : Nat × Bool :=
  if !s.isPath a3 t then (0, false)
  else
    let x := s.path a3 t
    let n := taLink t
    let b := s.pathBits a3 t
    let dark := s.secBit n sLOS || s.secBit n sLOF || s.secBit n sMS_AIS
    (min 8 x.viol, s.ptrState a3 t != 0 || dark
      || (b.testBit bUNEQ && s.profBit n x F.LU_PATH_PROFILE_UNEQ_AIS)
      || (b.testBit bTIM && s.profBit n x F.LU_PATH_PROFILE_TIM_AIS)
      || (b.testBit bPLM && s.profBit n x F.LU_PATH_PROFILE_PLM_AIS))

/-- BIP-2 of V5 out of the exclusive or of the bytes. -/
def bip2 (x : Nat) : Nat :=
  let odd (k : Nat) : Nat := (popc 8 (x &&& k)) % 2
  2 * odd 0xAA + odd 0x55

/-- GID bit of multiframe m of a group, from the seed. -/
def gidBit (seed m : Nat) : Nat := (prbsBits 2 (m + 1) (0, seed)).1 % 2

/-- The H4 byte of a member in multiframe mfi (Table 07-3), `c` being what its control packet carries. -/
def Grp.h4Tx (g : Grp) (c : CtlTx) (mfi gid : Nat) : Byte :=
  let mfi2 := mfi / 16 % 256
  let gb := if g.lcas then gidBit gid (mfi / 16) else 0
  let head := [mfi2 / 16, mfi2 % 16, c.ctrl, gb, 0, 0, 0, 0]
  let crc := crcOf 8 7 (be ((head.zipIdx).map (fun e => BitVec.ofNat 8 (e.1 * 16 + e.2)))) 64
  let hi := head ++ [crc / 16, crc % 16, c.mst / 16, c.mst % 16, c.rs, 0, c.sq / 16 % 16, c.sq % 16]
  BitVec.ofNat 8 (hi.getD (mfi % 16) 0 * 16 + mfi % 16)

/-- The K4 byte of a member in multiframe k: bit 1 carries the multiframe alignment signal 0111 1111 110 of G.707 (PRESUMED, 57), bit 2
the string of Table 07-4. -/
def Grp.k4Tx (g : Grp) (c : CtlTx) (k gid : Nat) : Byte :=
  let mfi := k / 32 % 32
  let mid := 2 ^ 14 * c.ctrl + 2 ^ 13 * (if g.lcas then gidBit gid (k / 32) else 0) + 2 ^ 8 * c.rs + c.mst
  let w := 2 ^ 27 * mfi + 2 ^ 21 * (c.sq % 64) + 2 ^ 3 * mid + crcOf 3 3 mid 18
  let mas := 0x3FE * 2 ^ 21
  BitVec.ofNat 8 (2 ^ 7 * (mas / 2 ^ (31 - k % 32) % 2) + 2 ^ 6 * (w / 2 ^ (31 - k % 32) % 2))

-- Injection (R306)

def State.injWhat (s : State) (d j : Nat) : Nat := s.get (R.POUR_JOB_INJ d j) F.POUR_JOB_INJ_WHAT
def State.injBits (s : State) (d j : Nat) : Nat := s.get (R.POUR_JOB_INJ d j) F.POUR_JOB_INJ_BITS

/-- A code that a target allows (Table 12-11). -/
def State.injAllowed (s : State) (d j what : Nat) (w : Word) : Bool :=
  if what = 0 then true
  else if what ≤ 6 then tapCode w == 1 && !s.poRaw d j
  else if what ≤ 11 then tapCode w == 3
  else false

/-- An overhead byte of an injected block. -/
def injByte (what bits kind i : Nat) (b : Byte) : Byte :=
  let x := b.toNat
  let low := decide (5 ≤ kind)
  if low then
    (if i ≠ 0 then b
     else match what with
      | 1 => BitVec.ofNat 8 (x ^^^ (bits % 4 * 64))
      | 2 => b ||| 0x20
      | 3 => b ||| 0x01
      | 6 => (b &&& 0xF1) ||| BitVec.ofNat 8 (bits % 8 * 2)
      | _ => b)
  else
    match what, i with
    | 1, 1 => BitVec.ofNat 8 (x ^^^ bits)
    | 2, 3 => (b &&& 0x0F) ||| BitVec.ofNat 8 (bits % 16 * 16)
    | 3, 3 => b ||| 0x08
    | 6, 2 => BitVec.ofNat 8 bits
    | _, _ => b

/-- The job's WHAT is a code that every target allows. -/
def State.injOK (s : State) (d j : Nat) : Bool :=
  decide (s.injWhat d j < 12) && (s.pour d j).words.all (fun w => s.injAllowed d j (s.injWhat d j) w)

/-- POUR_INJECT_ARM's write of POUR_JOB_INJ: a code that a target does not allow is refused as it is written, and an injection that is armed
begins at the next block (R306). -/
def State.writePourInj (s : State) (d j : Nat) (v : Word) : State :=
  let r := R.POUR_JOB_INJ d j
  let s1 := s.wr r (v &&& accMask r (fun a => a == .rw))
  if !s1.injOK d j then (s1.put r F.POUR_JOB_INJ_ARM 0).poStatus d j F.POUR_JOB_STATUS_CODE 1
  else s1.updPour d j (fun x => { x with tgts := x.tgts.map (fun t => { t with inj := none }) })

/-- A write of POUR_JOB_INJ_CNT: a PERIOD below COUNT stores COUNT. -/
def State.writePourCnt (s : State) (d j : Nat) (v : Word) : State :=
  let c := max 1 (fget v F.POUR_JOB_INJ_CNT_COUNT)
  s.wr (R.POUR_JOB_INJ_CNT d j) (BitVec.ofNat 32 (2 ^ 16 * (max c (fget v F.POUR_JOB_INJ_CNT_PERIOD)) + c))

/-- POUR_INJECT_ARM: a write of POUR_JOB_INJ with ARM at 1. -/
def execPourInjectArm (p : Port) (d : Fin 4) (j : Fin 8) (what : Fin 16) (mode : Fin 4) (bits : Byte) (s : State) : Out :=
  .next (hostReg p (.pourInjectArm p d j what mode bits) (fun t => t.writePourInj d j (BitVec.ofNat 32 (2 ^ 31 + 2 ^ 27 * what + 2 ^ 25 * mode + bits.toNat))) s)

/-- Blocks that the mode injects in all; none while ARM alone ends it. -/
def State.injTotal (s : State) (d j : Nat) : Option Nat :=
  match s.get (R.POUR_JOB_INJ d j) F.POUR_JOB_INJ_MODE with
  | 1 => some 1
  | 2 => some (s.get (R.POUR_JOB_INJ_CNT d j) F.POUR_JOB_INJ_CNT_COUNT)
  | _ => none

/-- A block of a target begins: whether it is injected, and with what, stands until the next one begins. -/
def State.injBlock (s : State) (d j : Nat) (x : PourTgt) : PourTgt :=
  if !s.flag (R.POUR_JOB_INJ d j) F.POUR_JOB_INJ_ARM then { x with inj := none, injNow := none }
  else
    let n := x.inj.getD 0
    let cnt (f : Fld) : Nat := s.get (R.POUR_JOB_INJ_CNT d j) f
    let on := match s.injTotal d j with
      | some t => decide (n < t)
      | none => s.get (R.POUR_JOB_INJ d j) F.POUR_JOB_INJ_MODE == 0
          || decide (n % max 1 (cnt F.POUR_JOB_INJ_CNT_PERIOD) < cnt F.POUR_JOB_INJ_CNT_COUNT)
    { x with inj := some (n + 1), injNow := if on then some (s.injWhat d j, s.injBits d j) else none }

-- Content (R301 to R303, R305)

/-- The grains of a pattern word, none of a filler. -/
def unpackGrains (w : Word) : List Grain :=
  ([(w >>> 20).setWidth 10, (w >>> 10).setWidth 10, w.setWidth 10] : List Grain).take (w.toNat / 2 ^ 30)

/-- The grains of a pattern in FMT 1 or FMT 2 (Table 12-9), each with the address of its word. -/
def State.patCells (s : State) (d j : Nat) : List (Nat × Grain) :=
  let b := s.patBase d j
  let cells (i : Nat) : List (Nat × Grain) := (unpackGrains (s.ldw (b + 4 * i))).map (fun g => (b + 4 * i, g))
  if s.poFmt d j = 1 then (List.range (s.patLen d j)).flatMap cells
  else (List.range (s.patLen d j / 1024)).flatMap (fun r =>
    if (s.ldw (b + 4 * (1024 * r + 3))).toNat % 2 ^ 12 = 0 then []
    else (List.range 1008).flatMap (fun i => cells (1024 * r + 16 + i)))

def State.patGrains (s : State) (d j : Nat) : List Grain := (s.patCells d j).map (fun e => e.2)

/-- Bytes or grains of one play. -/
def State.playLen (s : State) (d j : Nat) : Nat := if s.poRaw d j then (s.patGrains d j).length else 4 * s.patLen d j

/-- Content of all plays; none when they have no end. -/
def State.playTotal (s : State) (d j : Nat) : Option Nat :=
  if s.poSource d j ≠ 2 ∨ s.rd (R.POUR_JOB_LOOP d j) = 0 then none
  else some (s.playLen d j * (s.rd (R.POUR_JOB_LOOP d j)).toNat)

/-- Members that carry payload, in SQ order. -/
def Grp.carriers (g : Grp) : List Nat :=
  let l := if g.lcas then g.pay else List.range g.mem.length
  if g.lcas then (l.map (fun i => ((g.member i).srcSq, i))).mergeSort (fun a b => decide (a.1 ≤ b.1)) |>.map (fun e => e.2) else l

/-- The byte that content index k gives, and the PRBS register after it. `sr` is the register before it. -/
def State.bulkByte (s : State) (d j k sr : Nat) : Byte × Nat :=
  match s.poSource d j with
  | 0 =>
      let (v, r) := prbsBits (s.get (R.POUR_JOB_CFG d j) F.POUR_JOB_CFG_POLY) 8 (0, sr)
      (if s.flag (R.POUR_JOB_CFG d j) F.POUR_JOB_CFG_INVERT then BitVec.ofNat 8 (255 - v) else BitVec.ofNat 8 v, r)
  | 1 => (BitVec.ofNat 8 (s.get (R.POUR_JOB_CFG d j) F.POUR_JOB_CFG_FIXED), sr)
  | _ => (s.ldb (s.patBase d j + k % max 1 (4 * s.patLen d j)), sr)

/-- Path overhead byte i of a target of job j (R302), or of an egress member of a group (R169). -/
def State.pohByte (s : State) (d j : Nat) (x : PourTgt) (kind i : Nat) : Byte :=
  let vc := x.vcs - 1
  let g := s.runGrp (tapGrp d x.tap)
  let poh (f : Fld) : Nat := s.get (R.POUR_JOB_POH d j) f
  let eg : TA := match x.mem with
    | some m => memTA (g.member m).eg
    | none => tapTA x.tap
  let n := taLink eg
  let ctl (f : Fld) : Nat := s.get (R.LU_PATH_CTRL n) f
  let back : Nat × Bool := match x.mem with
    | some m => (match (g.member m).ing with
        | some w => s.backward (memAu3 w) (memTA w)
        | none => (0, false))
    | none => (0, false)
  let label := match x.mem with
    | some _ => fget g.cfg1 F.GRP_CFG1_SRC_LABEL
    | none => poh F.POUR_JOB_POH_LABEL
  let trace : Byte := match x.mem with
    | some _ => s.txEntry n (ctl F.LU_PATH_CTRL_J1TX_IDX) (ctl F.LU_PATH_CTRL_J1TX_64 == 1 && decide (kind ≤ 4)) vc
    | none => s.txEntry n (poh F.POUR_JOB_POH_J_IDX) (poh F.POUR_JOB_POH_J_64 == 1 && decide (kind ≤ 4)) vc
  if 5 ≤ kind then
    match i with
    | 0 => BitVec.ofNat 8 (bip2 x.bipPrev * 64 + (if back.1 = 0 then 0 else 32) + label % 8 * 2 + (if back.2 then 1 else 0))
    | 1 => trace
    | 3 => (match x.mem with
        | some _ => g.k4Tx x.ctl vc x.gid
        | none => 0)
    | _ => 0
  else
    match i with
    | 0 => trace
    | 1 => BitVec.ofNat 8 x.bipPrev
    | 2 => BitVec.ofNat 8 label
    | 3 => BitVec.ofNat 8 (back.1 * 16 + (if back.2 then 8 else 0))
    | 5 => (match x.mem with
        | some _ => g.h4Tx x.ctl vc x.gid
        | none => 0)
    | _ => 0

/-- The byte at place c of a container of a kind, which has path overhead as `poh` gives it and bulk payload as `bulk` does, and the target
after it. -/
def PourTgt.send (x : PourTgt) (kind : Nat) (poh : Nat → Byte) (stuff : Byte) (bulk : Nat → Byte) : Byte × PourTgt :=
  let b := match vcClass kind x.nc x.cnt with
    | .poh i => poh i
    | .stuff => stuff
    | .bulk i => bulk i
  (b, { x with cnt := (x.cnt + 1) % (vcGeom kind x.nc).1, bip := x.bip ^^^ b.toNat })

/-- A control packet of an egress member of group g begins with its next container. -/
def PourTgt.packet (x : PourTgt) (g : Grp) : PourTgt :=
  if x.cnt = 0 ∧ (x.vcs - 1) % g.packetLen = 0 then { x with ctl := g.ctlNow (x.mem.getD 0) ((x.vcs - 1) / g.packetLen) } else x

/-- A container of a target begins with its next byte: the parity of the one before is complete. -/
def PourTgt.turn (x : PourTgt) : PourTgt := if x.cnt = 0 then { x with bipPrev := x.bip, bip := 0, vcs := x.vcs + 1 } else x

/-- The next container byte of a tributary target with originated overhead, the target after it, and the index of the content it carries. -/
def State.contByte (s : State) (d j : Nat) (x0 : PourTgt) : Byte × PourTgt × Option Nat :=
  let kind := s.entryKind d x0.tap
  let x := x0.turn
  let poh (i : Nat) : Byte :=
    let b := s.pohByte d j x kind i
    match x.injNow with
    | some (what, bits) => injByte what bits kind i b
    | none => b
  let (c, sr) := s.bulkByte d j x.k x.sr
  let (b, y) := x.send kind poh (BitVec.ofNat 8 s.freeNat) (fun _ => c)
  match vcClass kind x.nc x.cnt with
  | .bulk _ => (b, { y with k := x.k + 1, sr := sr }, some x.k)
  | _ => (b, y, none)

/-- The grain that a slot of a tributary carries when its container's next byte goes out in a payload position, and whether that byte does:
`act` is the script's justification of the period, 1 positive and 2 negative. -/
def slotGrain (slot : Slot) (act : Nat) (start : Bool) (b : Byte) (open' : Byte) : Grain × Bool :=
  match slot with
  | .ptr => (mkGrain false 0, false)
  | .fix => (mkGrain false open', false)
  | .neg => if act = 2 then (mkGrain true b, true) else (mkGrain false 0, false)
  | .pos => if act = 1 then (mkGrain true 0, false) else (mkGrain start b, true)
  | .pay => (mkGrain start b, true)

/-- The next grain of a target at a position of it, the target after it, and the index of the content it carries. -/
def State.pourNext (s : State) (d j : Nat) (x : PourTgt) (slot : Slot) : Option (Grain × PourTgt × Option Nat) :=
  let ended := match s.playTotal d j with
    | some t => decide (t ≤ x.k)
    | none => false
  if ended then none
  else if s.poRaw d j then
    let l := s.patGrains d j
    if l.isEmpty then none else some (l.getD (x.k % l.length) 0, { x with k := x.k + 1 }, some x.k)
  else if tapCode x.tap = 3 then
    some (mkGrain false (s.bulkByte d j x.k x.sr).1, { x with k := x.k + 1 }, some x.k)
  else
    let (b, y, i) := s.contByte d j x
    let (g, used) := slotGrain slot (s.pour d j).act.1 (x.cnt == 0) b (BitVec.ofNat 8 s.freeNat)
    some (if used then (g, y, i) else (g, x, none))

-- Egress members of groups (R161, R168, R169, R301)

/-- The first bulk payload byte of a container at or after its byte c. -/
def firstBulk (kind c : Nat) : Nat :=
  ((List.range ((vcGeom kind 0).1 - c)).findSome? (fun e => match vcClass kind 0 (c + e) with
    | .bulk i => some i
    | _ => none)).getD (vcBulk kind 0)

/-- The payload span of container vc of a group's members: the one that is known, or the next, whose members are those that carry payload as
it begins. -/
def spanOf (l : List GrpSpan) (vc bulk skip : Nat) (car : List Nat) : GrpSpan × List GrpSpan :=
  match l.find? (fun e => e.vc == vc) with
  | some e => (e, l)
  | none =>
    let e : GrpSpan := match l with
      | p :: _ => ⟨vc, p.base + (bulk - p.skip) * p.car.length, 0, car⟩
      | [] => ⟨vc, 0, skip, car⟩
    (e, (e :: l).take 4)

/-- The next grain of egress member x of group n at a slot of it: with the payload of the PLAYING job j and its GROUP target, where one plays
on the group, else with bytes that are free. Gives the member after it, the GROUP target, and the index of the content carried. -/
def State.memNext (s : State) (n : Nat) (job : Option (Nat × PourTgt)) (x0 : PourTgt) (slot : Slot) :
    Grain × PourTgt × Option (PourTgt × Option Nat) :=
  let d := grpDie n
  let g := s.runGrp n
  let i := x0.mem.getD 0
  let kind := taKind (memTA (g.member i).eg)
  let x := x0.turn.packet g
  let free := BitVec.ofNat 8 s.freeNat
  let span := job.map (fun e => spanOf e.2.spans x.vcs (vcBulk kind 0) (firstBulk kind x.cnt) g.carriers)
  let place (u : Nat) : Option Nat := span.bind (fun e =>
    (e.1.car.findIdx? (fun c => c == i)).bind (fun q => if e.1.skip ≤ u then some (e.1.base + (u - e.1.skip) * e.1.car.length + q) else none))
  let content (u : Nat) : Byte := match job, place u with
    | some (j, y), some k => (s.bulkByte d j k (prbsBits (s.get (R.POUR_JOB_CFG d j) F.POUR_JOB_CFG_POLY) (8 * k) (0, y.sr)).2).1
    | _, _ => free
  let (b, z) := x.send kind (s.pohByte d 0 x kind) free content
  let (gr, used) := slotGrain slot 0 (x.cnt == 0) b free
  if !used then (gr, x0, job.map (fun e => (e.2, none)))
  else
    let k := match vcClass kind 0 x.cnt with
      | .bulk u => place u
      | _ => none
    let within := match job.bind (fun e => s.playTotal d e.1) with
      | some t => k.filter (fun v => decide (v < t))
      | none => k
    (gr, z, job.map (fun e => ({ e.2 with spans := (span.map (fun y => y.2)).getD [], k := if within.isSome then e.2.k + 1 else e.2.k }, within)))

def ctrPourUnder (d j : Nat) : Ctr := ⟨R.POUR_JOB_UNDER_LO d j, R.POUR_JOB_UNDER_HI d j⟩

/-- An underrun at one position (R305). -/
def State.pourUnder (s : State) (d j : Nat) : State :=
  let s1 := (s.addLoss (ctrPourUnder d j) 1).poStatus d j F.POUR_JOB_STATUS_UNDERRUN 1
  if (s.pour d j).under then s1 else (s1.updPour d j (fun x => { x with under := true })).ev (evDie d) srcPOUR

/-- Content has been delivered: plays completed, and the end of the last play (R304). -/
def State.pourPlayed (s : State) (d j : Nat) : State :=
  if s.poSource d j ≠ 2 then s
  else
    let len := max 1 (s.playLen d j)
    let ks := (s.pour d j).tgts.map (fun t => t.k)
    let n := ks.foldl (fun a k => min a (k / len)) ((ks.head?.getD 0) / len)
    let s1 := s.wr (R.POUR_JOB_PLAYED d j) (BitVec.ofNat 32 n)
    match s.playTotal d j with
    | some t => if ks.all (fun k => decide (t ≤ k)) then s1.pourEnd d j 3 else s1
    | none => s1

/-- The word of the pattern that content index k needs: none where the job has no pattern. -/
def State.patWord (s : State) (d j k : Nat) : Option Nat :=
  if s.poSource d j ≠ 2 ∨ s.patLen d j = 0 then none
  else if s.poFmt d j = 0 then some (s.patBase d j + k % (4 * s.patLen d j) / 4 * 4)
  else
    let l := s.patCells d j
    (l[k % max 1 l.length]?).map (fun e => e.1)

/-- Pour reads the word at a of a pattern or a script of job j, if any: what the access counts, and whether the word is there. A word that Pour
may not read, or that is uncorrectable in a bank, ends the job (R313, R304); an uncorrectable word of DRAM, and one whose read waits, is not there in time (R325, R329). -/
def State.pourFetch1 (s : State) (d j : Nat) (a : Option Nat) (errs : List (Nat × Ecc)) : State × Bool :=
  match a with
  | none => (s, true)
  | some a =>
    let (s1, ok) := if s.engineWaits (mPOUR d) a (.read 4) then (s, false) else s.engineOp (mPOUR d) a (.read 4) errs
    let dram := match bar2Unit a with
      | .dram _ _ => true
      | _ => false
    if ok then (s1, true)
    else if s.engineWaits (mPOUR d) a (.read 4) then (s1, false)
    else if dram && anyBad (errsFound (.read 4) a errs) && s.engineReach (mPOUR d) false a && !s.bit R.MATRIX_MRST_BUSY (mPOUR d) then (s1, false)
    else (s1.pourEnd d j 4, false)

/-- The member of a running group whose egress tributary is (a3, t), put back as x. -/
def State.setEgMem (s : State) (n i : Nat) (x : PourTgt) : State :=
  let g := s.runGrp n
  s.setRun n { g with eg := g.eg.set i x }

/-- POUR_GRAIN_WRITE: the grain that a PLAYING job, or a group's egress member, gives position p of link n; `late`: its word is not there in
time; `errs`: what the check finds in the memory that Pour reads. -/
def State.pourGrain (s : State) (n p : Nat) (late : Bool) (errs : List (Nat × Ecc)) : State × Option Grain :=
  let d := luDie n
  match s.playAt [poPLAYING] n p with
  | none => (s, none)
  | some (e, slot) =>
    match e.x.mem with
    | some i =>
      let x := tapGrp d e.x.tap
      let (g, y, z) := s.memNext x (s.grpJob x [poPLAYING]) e.x slot
      let s1 := (s.setEgMem x i y).drawn
      (match e.job, z with
       | some j, some (tgt, k) =>
          let (s2, there) := s1.pourFetch1 d j (k.bind (s.patWord d j)) errs
          if s2.poSt d j ≠ poPLAYING then (s2, some g)
          else
            let s3 := s2.updPour d j (fun w => { w with tgts := w.tgts.map (fun t => if t.tap = tgt.tap then tgt else t) })
            let miss := k.isSome && (late || !there)
            let s4 := if miss then s3.pourUnder d j else s3
            (if k.isSome then s4.pourPlayed d j else s4, some (if miss then subGrain else g))
       | _, _ => (s1, some g))
    | none =>
      match e.job with
      | none => (s, none)
      | some j =>
        match s.pourNext d j e.x slot with
        | none => (s, none)
        | some (g, y, k) =>
          let (s1, there) := s.pourFetch1 d j (k.bind (s.patWord d j)) errs
          if s1.poSt d j ≠ poPLAYING then (s1, none)
          else
            let s2 := (s1.updPour d j (fun z => { z with tgts := z.tgts.map (fun t => if t.tap = e.x.tap then y else t) })).drawn
            let miss := late || !there
            let s3 := if miss then s2.pourUnder d j else s2
            (if k.isSome then s3.pourPlayed d j else s3, some (if miss then subGrain else g))

-- Jobs (R304, Table 12-10)

/-- Targets as they begin to play: each at its offset, with its own generator and its first block; a GROUP target moves its group's egress members to OFFSET
(R301, R302). -/
def State.pourBegin (s : State) (d j : Nat) : State :=
  let off := s.get (R.POUR_JOB_POH d j) F.POUR_JOB_POH_OFFSET
  let deg := (prbsPoly (s.get (R.POUR_JOB_CFG d j) F.POUR_JOB_CFG_POLY)).1
  let mk (f : Nat) (x : PourTgt) : PourTgt :=
    let kind := s.entryKind d x.tap
    { freshTgt x.tap with n := x.n, nc := x.nc, cnt := if kind = 0 ∨ tapCode x.tap = 4 then 0 else vcFirst kind x.nc off, p := off,
                          sr := 1 + Config.free f % (2 ^ deg - 1) }
  let old := (s.pour d j).tgts
  let s1 := { s.updPour d j (fun y => { emptyPour with tgts := old.zipIdx.map (fun e => s.injBlock d j (mk (s.draw + e.2) e.1)), start := y.start }) with
              draw := s.draw + old.length }
  (old.filter (fun x => tapCode x.tap == 4)).foldl (fun t x =>
    let n := tapGrp d x.tap
    let g := t.runGrp n
    t.setRun n { g with eg := g.eg.map (fun m =>
      { m with p := off, cnt := vcFirst (taKind (memTA (g.member (m.mem.getD 0)).eg)) 0 off }) }) s1

/-- Targets without what they held in play. -/
def State.pourTrim (s : State) (d j : Nat) : State := s.updPour d j (fun x => { emptyPour with tgts := x.words.map freshTgt })

/-- DEFINE. -/
def State.poDefine (s : State) (d j : Nat) : State :=
  if s.poSt d j ≠ poFREE then s.poRefused d j
  else (((s.setPour d j emptyPour).wr (R.POUR_JOB_STATUS d j) 0).wr (R.POUR_JOB_PLAYED d j) 0 |>.setCtr (ctrPourUnder d j) 0).poTo d j
    poDEFINED

/-- FIELD: ranges, and SOURCE and WHAT against the targets (Tables 12-9 and 12-11). -/
def State.poFieldsOK (s : State) (d j : Nat) : Bool :=
  let l := (s.pour d j).words
  let src := s.poSource d j
  let fmt := s.poFmt d j
  let own := l.any (fun w => tapCode w != 3)
  src != 3 && fmt != 3 && s.injOK d j
    && (src != 0 || decide (s.get (R.POUR_JOB_CFG d j) F.POUR_JOB_CFG_POLY ≤ 5))
    && l.all (fun w => if src ≠ 2 then tapCode w != 3 else fmt == 0 || tapCode w != 4)
    && (s.poRaw d j || !own || l.all (fun w => tapCode w == 3 ||
        decide (s.get (R.POUR_JOB_POH d j) F.POUR_JOB_POH_OFFSET ≤ maxOff (s.entryKind d w))))
    && (!s.scrOn d j || (decide (1 ≤ s.scrSteps d j) && decide (s.scrSteps d j ≤ 1024)))

/-- A script is allowed, and lies where a pattern may (R307). -/
def State.scriptPlace (s : State) (d j : Nat) : Bool :=
  let a := s.addrAt (R.POUR_JOB_SCR_LO d j) (R.POUR_JOB_SCR_HI d j)
  let n := s.scrSteps d j
  !s.poRaw d j && (s.inOwned d 3 a (4 * n) || s.inPart d 1 a (4 * n))

/-- Every step of the script checks (R307). -/
def State.scriptOK (s : State) (d j : Nat) : Bool :=
  let kind := match (s.pour d j).words with
    | w :: _ => s.entryKind d w
    | [] => 0
  s.scriptPlace d j && (List.range (s.scrSteps d j)).all (fun i =>
    let w := s.scrWord d j i
    let arg := w.toNat % 1024
    match bitsOf w 31 28 with
    | 3 => decide (arg ≤ maxOff kind)
    | 5 => decide (arg < i)
    | op => decide (op ≤ 4))

/-- The first check of Table 12-21 that START fails; 0 none. -/
def State.poStartCode (s : State) (d j : Nat) (asap : Bool) : Nat :=
  let l := (s.pour d j).words
  let live := (List.range 8).filter (fun i => s.poLive d i)
  let pat := s.poSource d j == 2
  let a := s.patBase d j
  let n := 4 * s.patLen d j
  let kinds := (l.map (fun w => (tapCode w, s.entryKind d w))).eraseDups
  let rates := (l.map (fun w => if tapCode w = 3 then s.tapN w else 0)).eraseDups
  let fn := (s.rd (R.POUR_JOB_START_FN d j)).toNat
  if !s.poFieldsOK d j then 0x01
  else if l.any (fun w => !s.tapKind d [1, 3, 4] w) then 0x03
  else if l.any (fun w => tapCode w == 3 && (s.mspActing (taLink (tapTA w))).isSome) then 0x04
  else if l.any (s.tapDark d) then 0x05
  else if l.isEmpty then 0x07
  else if pat && s.partUnits d 1 == 0 && !s.inOwned d 3 a n then 0x08
  else if pat && (n == 0 || !(s.inOwned d 3 a n || s.inPart d 1 a n)
      || (s.poFmt d j == 2 && (a % 4096 != 0 || s.patLen d j % 1024 != 0))) then 0x09
  else if (pat && (1 < kinds.length || 1 < rates.length)) || (s.scrOn d j && (1 < kinds.length || l.any (fun w => tapCode w != 1))) then 0x0A
  else if 8192 < (live.map (fun i => (s.pour d i).words.length)).sum + l.length then 0x0B
  else if 50000000000 < (live.map (s.poRate d)).sum + s.poRate d j then 0x0C
  else if s.scrOn d j && !s.scriptOK d j then 0x0D
  else if !asap && !(s.startOK 2 fn && fn % 4 == 0) then 0x0E
  else 0

/-- What the check of bits finds, as a number that the spec leaves open tells it. -/
def eccOf (v : Nat) : Ecc := if v % 3 = 0 then .ok else if v % 3 = 1 then .correctable else .uncorrectable

/-- START reads the steps of a script that it is to check, once the checks before them pass: what the reads count, and whether every step could
be read. What the check of each word finds is a free value (notes/assumptions/112.md). -/
def State.scriptRead (s : State) (d j c : Nat) : State × Bool :=
  if s.scrOn d j ∧ (c = 0 ∨ 0x0D ≤ c) ∧ s.scriptPlace d j = true then
    let a := s.scrAddr d j 0
    let n := s.scrSteps d j
    let errs := (List.range (n / 2 + 1)).map (fun i => (a + 8 * i, eccOf (Config.free (s.draw + i))))
    match State.engineWords (mPOUR d) a errs n { s with draw := s.draw + n / 2 + 1 } with
    | (t, .inl _) => (t, true)
    | (t, .inr _) => (t, false)
  else (s, true)

/-- START. -/
def State.poStart (s9 : State) (d j : Nat) (asap : Bool) : State :=
  if !poIdle (s9.poSt d j) then s9.poRefused d j
  else
    let (s, read) := s9.scriptRead d j (s9.poStartCode d j asap)
    let c := if read then s9.poStartCode d j asap else 0x0D
    if c ≠ 0 then s.poStatus d j F.POUR_JOB_STATUS_CODE c
    else
      let n := if asap then (s.fn + 2 + 3) / 4 * 4 % 2 ^ 32 else (s.rd (R.POUR_JOB_START_FN d j)).toNat
      let s0 := (s.pourTrim d j).updPour d j (fun x => { x with start := n, tgts := x.tgts.map (fun t =>
        { t with n := (s.tapFix d t.tap).1, nc := (s.tapFix d t.tap).2 }) })
      let s1 := (s0.wr (R.POUR_JOB_PLAYED d j) 0).wr (R.POUR_JOB_STATUS d j)
        (s.rd (R.POUR_JOB_STATUS d j) &&& 0xE0060000)
      let s2 := (s1.put (R.POUR_JOB_SCR_CTRL d j) F.POUR_JOB_SCR_CTRL_SCRIPT_DONE 0).put (R.POUR_JOB_SCR_CTRL d j)
        F.POUR_JOB_SCR_CTRL_STEP 0
      let s3 := if asap then s2.wr (R.POUR_JOB_START_FN d j) (BitVec.ofNat 32 n) else s2
      s3.poTo d j poPENDING

/-- STOP. -/
def State.poStop (s : State) (p : Port) (d j : Nat) : State :=
  let st := s.poSt d j
  if st = poPENDING then (s.poStatus d j F.POUR_JOB_STATUS_END_CAUSE (1 + p.toNat)).poTo d j poSTOPPED
  else if st = poPLAYING then s.pourEnd d j (1 + p.toNat)
  else if poENDING ≤ st then s.poStatus d j F.POUR_JOB_STATUS_LATE_STOP 1
  else s.poRefused d j

/-- RELEASE. -/
def State.poRelease (s : State) (d j : Nat) : State :=
  if s.poSt d j = poDONE ∨ s.poSt d j = poSTOPPED then (s.setPour d j emptyPour).poTo d j poFREE else s.poRefused d j

def State.poOpOK (s : State) (d j op : Nat) : Bool :=
  let st := s.poSt d j
  match op with
  | 0 => true
  | 1 => st == poFREE
  | 2 => poIdle st
  | 3 => decide (poPENDING ≤ st)
  | 5 => st == poDONE || st == poSTOPPED
  | _ => false

/-- POUR_JOB_DEFINE. -/
def execPourJobDefine (p : Port) (d : Fin 4) (j : Fin 8) (s : State) : Out := done (hostReg p (.pourJobDefine p d j) (fun t => t.poDefine d j) s)

/-- POUR_JOB_START. -/
def execPourJobStart (p : Port) (d : Fin 4) (j : Fin 8) (s : State) : Out := done (hostReg p (.pourJobStart p d j) (fun t => t.poStart d j false) s)

/-- POUR_JOB_START_ASAP. -/
def execPourJobStartAsap (p : Port) (d : Fin 4) (j : Fin 8) (s : State) : Out := done (hostReg p (.pourJobStartAsap p d j) (fun t => t.poStart d j true) s)

/-- POUR_JOB_STOP. -/
def execPourJobStop (p : Port) (d : Fin 4) (j : Fin 8) (s : State) : Out := done (hostReg p (.pourJobStop p d j) (fun t => t.poStop p d j) s)

/-- POUR_JOB_RELEASE. -/
def execPourJobRelease (p : Port) (d : Fin 4) (j : Fin 8) (s : State) : Out := done (hostReg p (.pourJobRelease p d j) (fun t => t.poRelease d j) s)

/-- POUR_JOB_OP_INVALID: OP 4, 6 or 7, or an operation that the present state does not list. -/
def execPourJobOpInvalid (p : Port) (d : Fin 4) (j : Fin 8) (op : Fin 8) (s : State) : Out :=
  .next (hostReg p (.pourJobOpInvalid p d j op) (fun t => if t.poOpOK d j op then t else t.poRefused d j) s)

/-- POUR_JOB_BEGIN: at the start frame, fixed at START, the job takes over its targets' cells (R303). -/
def execPourJobBegin (d : Fin 4) (j : Fin 8) (s : State) : Out :=
  if s.poSt d j = poPENDING ∧ s.fn = (s.pour d j).start then done ((s.pourBegin d j).poTo d j poPLAYING) else .next s

/-- POUR_RELEASE_FRAME: the targets return to the map. -/
def execPourReleaseFrame (d : Fin 4) (j : Fin 8) (s : State) : Out :=
  match (s.pour d j).endUp with
  | some e =>
      if s.poSt d j = poENDING ∧ s.fn % 4 = 0 ∧ e + 2 ≤ s.up then
        done ((s.pourTrim d j).poTo d j (if s.get (R.POUR_JOB_STATUS d j) F.POUR_JOB_STATUS_END_CAUSE = 3 then poDONE else poSTOPPED))
      else .next s
  | none => .next s

-- Scripts (R307)

/-- Largest offset of the job's targets. -/
def State.scrMax (s : State) (d j : Nat) : Nat :=
  match (s.pour d j).tgts with
  | t :: _ => maxOff (s.entryKind d t.tap)
  | [] => 0

/-- A pointer action begins in every target. -/
def State.scrAct (s : State) (d j op arg : Nat) : State :=
  s.updPour d j (fun x => { x with
    act := (op, arg), scrWait := 0,
    tgts := if op = 3 then x.tgts.map (fun t => { t with p := arg, cnt := vcFirst (s.entryKind d t.tap) t.nc arg }) else x.tgts })

/-- POUR_SCRIPT_STEP: the step named by STEP acts once its WAIT is over and the action before it has had its period. Pour reads the step
first (`errs`: what the check finds): a step that it may not read ends the job, and one that is uncorrectable in DRAM waits (R313, R325). -/
def execPourScriptStep (d : Fin 4) (j : Fin 8) (errs : List (Nat × Ecc)) (s0 : State) : Out :=
  let r := R.POUR_JOB_SCR_CTRL d j
  let i := s0.get r F.POUR_JOB_SCR_CTRL_STEP
  if s0.poSt d j ≠ poPLAYING ∨ s0.scrOn d j = false ∨ s0.flag r F.POUR_JOB_SCR_CTRL_SCRIPT_DONE = true ∨ s0.scrSteps d j ≤ i then .next s0
  else
    let (s, there) := s0.pourFetch1 d j (some (s0.scrAddr d j i)) errs
    let w := s.scrWord d j i
    let wait := bitsOf w 27 16
    let arg := w.toNat % 1024
    let x := s.pour d j
    let next (t : State) : State := t.put r F.POUR_JOB_SCR_CTRL_STEP (i + 1)
    if !there then done s
    else
      match bitsOf w 31 28 with
      | 5 =>
          let n := look (fun _ => 0) x.loops i
          let jump := wait = 0 || decide (n < wait)
          let s1 := s.updPour d j (fun y => { y with loops := store id (fun _ => 0) y.loops i (if jump then n + 1 else 0) })
          done (if jump then s1.put r F.POUR_JOB_SCR_CTRL_STEP arg else next s1)
      | op =>
          if x.scrWait < wait ∨ x.act.1 ≠ 0 then done s
          else if op = 0 then done ((s.put r F.POUR_JOB_SCR_CTRL_SCRIPT_DONE 1).ev (evDie d) srcPOUR)
          else if op ≤ 3 then done (next (s.scrAct d j op arg))
          else done (next (s.updPour d j (fun y => { y with scrWait := 0 })))

-- Frame boundaries, benches and resets

/-- A frame begins for the PLAYING jobs: pointer periods and blocks end and begin. -/
def State.pourFrame (s : State) : State :=
  s.pourJobs.foldl (fun t e =>
    let d := e.1 / 8
    let j := e.1 % 8
    if t.poSt d j ≠ poPLAYING then t
    else
      let low (x : PourTgt) : Bool := decide (5 ≤ t.entryKind d x.tap)
      let turn := (match (t.pour d j).tgts with
        | x :: _ => !low x
        | [] => true) || t.fn % 4 == 0
      let mx := t.scrMax d j
      let move (act : Nat) (x : PourTgt) : PourTgt :=
        { x with p := if act = 1 then (if x.p = mx then 0 else x.p + 1) else if act = 2 then (if x.p = 0 then mx else x.p - 1) else x.p }
      let t1 := if turn then t.updPour d j (fun y => { y with act := (0, 0), scrWait := y.scrWait + 1, tgts := y.tgts.map (fun x => { move y.act.1 x with k0 := x.k }) })
        else t
      let t2 := t1.updPour d j (fun y => { y with tgts := y.tgts.map (fun x => if low x && t1.fn % 4 != 0 then x else t1.injBlock d j x) })
      match t2.injTotal d j with
      | some n =>
          if t2.flag (R.POUR_JOB_INJ d j) F.POUR_JOB_INJ_ARM && (t2.pour d j).tgts.all (fun x => decide (n < x.inj.getD 0)) then
            t2.put (R.POUR_JOB_INJ d j) F.POUR_JOB_INJ_ARM 0
          else t2
      | none => t2) s

/-- A full re-bench ends every playing job of a die. -/
def State.poBench (s : State) (d : Nat) : State := (List.range 8).foldl (fun t j => t.pourEnd d j 5) s

/-- A block reset of Pour (R355). -/
def State.poReset (s : State) (d : Nat) : State :=
  (List.range 8).foldl (fun t j =>
    if t.poSt d j = poPENDING then (t.poStatus d j F.POUR_JOB_STATUS_END_CAUSE 6).poTo d j poSTOPPED else t.pourEnd d j 6) s

end Sys2Proof.Machine
end

