-- ==== Sys2Proof/Machine/BenchCheck.lean ====
section
/-!
DEFINITION. Validation of a bench image in the order of Table 02-10, with the location of each refusal (R30 to R46, R440,
02_bench_image.md).
-/

namespace Sys2Proof.Machine

/-- A refusal: step and code of Table 02-10, section type and offset of Table 02-18. -/
structure BRef where
  step : Nat
  code : Nat
  sect : Nat
  off  : Nat
deriving DecidableEq, Repr

/-- An entry of the section directory: where it stands, TYPE, OFFSET, LENGTH, CRC, and its reserved field. -/
structure Sect where
  at_ : Nat
  typ : Nat
  off : Nat
  len : Nat
  crc : Nat
  rsv : Nat
deriving DecidableEq, Repr

/-- Little-endian field of n bytes at an offset of an image; a byte beyond the bytes supplied reads 0. -/
def le (b : List Byte) (off : Nat) : Nat → Nat
  | 0 => 0
  | n + 1 => (b.getD off 0).toNat + 256 * le b (off + 1) n

/-- Bytes lo to hi − 1 of an image. -/
def slice (b : List Byte) (lo n : Nat) : List Byte := (b.drop lo).take n

/-- The first byte that is not 0 among n bytes from an offset. -/
def nonzeroAt (b : List Byte) (lo n : Nat) : Option Nat :=
  ((slice b lo n).findIdx? (fun x => x != 0)).map (fun i => lo + i)

/-- The first refusal of a list of checks in order: whether the check fails, code and offset. -/
def firstBad (step sect : Nat) (l : List (Bool × Nat × Nat)) : Option BRef :=
  (l.find? (fun c => c.1)).map (fun c => ⟨step, c.2.1, sect, c.2.2⟩)

-- Steps 1 and 2: the header

/-- Step 1. -/
def headerBad (h : List Byte) : Option BRef :=
  let scope := le h 0x0E 1
  let region := le h 0x0F 1
  let target := le h 0x10 1
  firstBad 1 0 [
    (le h 0 4 != 0x49425153, 0x01, 0x00),
    (le h 4 1 != 1, 0x02, 0x04), (le h 5 1 != 0, 0x02, 0x05), (le h 6 2 != 64, 0x02, 0x06),
    ((crc32 (h.take 0x3C)).toNat != le h 0x3C 4, 0x03, 0x3C),
    (!(decide (1 ≤ le h 0x0C 2) && decide (le h 0x0C 2 ≤ 16)), 0x0D, 0x0C),
    (decide (1 < scope), 0x0D, 0x0E),
    (if scope = 0 then region != 0xFF else decide (7 < region), 0x0D, 0x0F),
    ((nonzeroAt h 0x11 3).isSome, 0x0D, 0x11), ((nonzeroAt h 0x2C 16).isSome, 0x0D, 0x2C),
    (target != 0 && target != (if Config.is64 then 0x64 else 0x32), 0x0E, 0x10)]

/-- Step 2; `staged` is BENCH_LEN for a staging load. -/
def lengthBad (h : List Byte) (staged : Option Nat) : Option BRef :=
  let n := le h 8 4
  firstBad 2 0 [(n % 64 != 0 || decide (16777216 < n) || (match staged with
    | some b => n != b
    | none => false), 0x04, 0x08)]

-- Step 3: the trailer

/-- T_MAGIC, and DIGEST over the image as it was read. -/
def trailerBad (b : List Byte) (n : Nat) : Option BRef :=
  let t := n - 64
  firstBad 3 0 [(le b t 4 != 0x45425153, 0x05, t), (sha384 (b.take t) != slice b (t + 16) 48, 0x05, t + 16)]

-- Step 4: the directory

def dirEnd (h : List Byte) : Nat := 0x40 + 16 * le h 0x0C 2

/-- The section directory. -/
def directory (b : List Byte) : List Sect :=
  (List.range (le b 0x0C 2)).map (fun i =>
    let a := 0x40 + 16 * i
    ⟨a, le b a 2, le b (a + 4) 4, le b (a + 8) 4, le b (a + 12) 4, le b (a + 2) 2⟩)

/-- LENGTH as Table 02-4 gives it; an unknown TYPE is refused under its own code. -/
def lenOK (region : Bool) (typ len : Nat) : Bool :=
  match typ with
  | 1 => len == if region then 64 else 512
  | 2 => len == 8
  | 3 | 8 => len == 4
  | 4 => len == 64
  | 5 => len == 192
  | 6 => len == 32
  | 7 => len % 8 == 0 && decide (len ≤ 5120)
  | 9 => decide (108 ≤ len) && len % 4 == 0
  | 10 => decide (8 ≤ len) && (len - 8) % 16 == 0
  | _ => true

/-- The two bodies share a byte. -/
def Sect.meets (x y : Sect) : Bool := decide (x.off < y.off + y.len) && decide (y.off < x.off + x.len) && decide (0 < x.len) && decide (0 < y.len)

/-- DIR, entry after entry, `before` being the entries that passed: of two entries that overlap, the later one is the failing one
(DESIGN CHOICE, notes/assumptions/26.md). -/
def dirBad (region : Bool) (first last : Nat) (before : List Sect) : List Sect → Option BRef
  | [] => none
  | e :: t =>
      if e.rsv ≠ 0 ∨ e.off % 64 ≠ 0 ∨ e.off < first ∨ last < e.off + e.len ∨ lenOK region e.typ e.len = false ∨ before.any e.meets = true then
        some ⟨4, 0x06, 0, e.at_⟩
      else dirBad region first last (before ++ [e]) t

/-- A TYPE that an earlier entry has. -/
def dupBad (seen : List Nat) : List Sect → Option BRef
  | [] => none
  | e :: t => if seen.contains e.typ then some ⟨4, 0x08, e.typ, e.at_⟩ else dupBad (e.typ :: seen) t

def required (region : Bool) : List Nat := if region then [1, 2] else [1, 2, 3, 4, 5, 6, 8, 9]
def forbidden (region : Bool) : List Nat := if region then [3, 4, 5, 6, 7, 8, 9] else []

/-- Step 4. A directory that runs past the trailer leaves no place for a body, so its first entry fails its bounds. -/
def directoryBad (b : List Byte) (n : Nat) (region : Bool) : Option BRef :=
  let t := n - 64
  let l := directory b
  (dirBad region (dirEnd b) t [] l)
  |>.or ((l.find? (fun e => e.typ == 0 || decide (10 < e.typ))).map (fun e => ⟨4, 0x07, e.typ, e.at_⟩))
  |>.or (dupBad [] l)
  |>.or (((required region).find? (fun k => !l.any (fun e => e.typ == k))).map (fun k => ⟨4, 0x09, k, 0x40⟩))
  |>.or ((l.find? (fun e => (forbidden region).contains e.typ)).map (fun e => ⟨4, 0x0A, e.typ, e.at_⟩))

-- Step 5: section CRCs, and rereads from flash (R44)

def sectOK (b : List Byte) (e : Sect) : Bool := (crc32 (slice b e.off e.len)).toNat == e.crc

/-- The image with the bytes of one section replaced. -/
def patch (b : List Byte) (e : Sect) (body : List Byte) : List Byte :=
  b.take e.off ++ (List.range e.len).map (fun i => body.getD i 0) ++ b.drop (e.off + e.len)

/-- Rereads a section up to k times while it fails its CRC; `again` holds what the flash gives at each further reading. The image, what
is left of `again`, and how many rereads were made. -/
def rereadOne (e : Sect) : Nat → List Byte → List (List Byte) → List Byte × List (List Byte) × Nat
  | 0, b, again => (b, again, 0)
  | k + 1, b, again =>
      if sectOK b e then (b, again, 0)
      else
        let (b1, rest) := match again with
          | [] => (b, [])
          | x :: t => (patch b e x, t)
        let (b2, r2, n) := rereadOne e k b1 rest
        (b2, r2, n + 1)

/-- What step 5 leaves: the image as last read, the sections reread, one entry for each reread, and the refusal. -/
structure CrcPass where
  img : List Byte
  reread : List Sect
  bad : Option BRef
deriving DecidableEq, Repr

/-- Step 5: the section CRCs in directory order, up to the first section that still fails after `tries` rereads (R44). -/
def crcPass (tries : Nat) : List Sect → List Byte → List (List Byte) → CrcPass
  | [], b, _ => ⟨b, [], none⟩
  | e :: t, b, again =>
      let (b1, r1, n) := rereadOne e tries b again
      if sectOK b1 e then
        let p := crcPass tries t b1 r1
        { p with reread := List.replicate n e ++ p.reread }
      else ⟨b1, List.replicate n e, some ⟨5, 0x0B, e.typ, e.off⟩⟩

-- Step 6: the HKFW signature (R40)

def body (b : List Byte) (typ : Nat) : Option (Nat × List Byte) :=
  ((directory b).find? (fun e => e.typ == typ)).map (fun e => (e.off, slice b e.off e.len))

def signatureBad (b : List Byte) : Option BRef :=
  match body b 9 with
  | none => none
  | some (off, f) =>
      let n := 8 + le f 4 4
      let sig := slice f n 96
      let key := (Config.hkfwKey.1.toNat, Config.hkfwKey.2.toNat)
      if sig.length = 96 ∧ ecdsaOK key (be (sha384 (f.take n))) (be (sig.take 48)) (be (sig.drop 48)) = true then none
      else some ⟨6, 0x0C, 9, (off + n) % 2 ^ 32⟩

-- Step 7: fields, owners, classes, padding

/-- FIELD checks of a section's body: whether one fails, and its offset from the body. A directory LENGTH that disagrees with RECORD_COUNT or
FW_LEN fails here, at the count, and a byte that is not 0 inside the reserved bytes of WBOWN or MATRIX is itself the failing field (DESIGN
CHOICE, notes/assumptions/26.md). -/
def fieldChecks (typ : Nat) (f : List Byte) : List (Bool × Nat) :=
  let byte (i : Nat) : Nat := le f i 1
  match typ with
  | 1 => (List.range (f.length / 4)).flatMap (fun i =>
      let w := le f (4 * i) 4
      [(decide (12 ≤ w % 16) || w / 16 % 16 != 0, 4 * i), (w / 2 ^ 12 != 0, 4 * i + 1)])
  | 2 => [((nonzeroAt f 5 3).isSome, 5)]
  | 3 => [((List.range 4).any (fun d => decide (byte 0 / 4 ^ d % 4 < 2)), 0), (le f 1 3 != 0, 1)]
  | 4 => (List.range 4).map (fun d => ((nonzeroAt f (16 * d + 10) 6).isSome, 16 * d + 10))
  | 5 => (List.range 4).flatMap (fun d => (List.range 6).map (fun i => (byte (48 * d + 42 + i) != 0, 48 * d + 42 + i)))
  | 6 => (List.range 32).map (fun m => (if m < 19 then decide (1 < byte m) || (m == 2 && byte m != 1) else byte m != 0, m))
  | 7 => (List.range (f.length / 8)).flatMap (fun i =>
      let a := 8 * i
      let c := byte (a + 2)
      let w := le f (a + 4) 4
      [(decide (174 < byte a), a), (decide (evSources (byte a) ≤ byte (a + 1)), a + 1),
       (c / 8 % 16 != 0 || (decide (4 ≤ c % 8) && decide (c % 8 ≤ 6)), a + 2), (byte (a + 3) == 0, a + 3),
       (w == 0 || decide (3600000 < w), a + 4)])
  | 8 => [(decide (1 < le f 0 4), 0)]
  | 9 =>
      let n := le f 4 4
      [(decide (n < 4) || decide (2097152 < n) || n % 4 != 0 || f.length != 104 + n, 4)]
  | 10 => [(decide (524288 < le f 0 4) || 8 + 16 * le f 0 4 != f.length, 0), ((nonzeroAt f 4 4).isSome, 4)]
  | _ => []

/-- FIELD, sections in TYPE order. -/
def fieldsBad (b : List Byte) : Option BRef :=
  (List.range 11).findSome? (fun typ => match body b typ with
    | some (off, f) => ((fieldChecks typ f).find? (fun c => c.1)).map (fun c => ⟨7, 0x0D, typ, off + c.2⟩)
    | none => none)

/-- Slab depth that an image gives die d (R36). -/
def imgSlab (f : List Byte) (d : Nat) : Nat := le f 0 1 / 4 ^ d % 4

/-- WB_OWNER (R38). -/
def ownersBad (b : List Byte) : Option BRef :=
  match body b 5, body b 3 with
  | some (off, f), some (_, sl) =>
      (((List.range 4).flatMap (fun d => (List.range 42).map (fun i => (d, i)))).find? (fun x =>
        let v := le f (48 * x.1 + x.2) 1
        decide (6 < v) || (decide (16 ≤ x.2) && v != 0 && imgSlab sl x.1 == 3))).map (fun x => ⟨7, 0x12, 5, off + 48 * x.1 + x.2⟩)
  | _, _ => none

/-- CLASS, entry after entry (R40). -/
def classBad (f : List Byte) (off : Nat) (seen : List (Nat × Nat)) : List Nat → Option BRef
  | [] => none
  | i :: t =>
      let e := (le f (8 * i) 1, le f (8 * i + 1) 1)
      if le f (8 * i + 2) 1 % 8 = 7 ∨ (factory e.1 e.2).1 = clsGrave ∨ seen.contains e = true then some ⟨7, 0x13, 7, off + 8 * i⟩
      else classBad f off (e :: seen) t

/-- The bodies and the directory cover the byte. -/
def covered (b : List Byte) (i : Nat) : Bool := decide (i < dirEnd b) || (directory b).any (fun e => decide (e.off ≤ i) && decide (i < e.off + e.len))

/-- FIELD in padding or in the trailer's reserved bytes. -/
def paddingBad (b : List Byte) (n : Nat) : Option BRef :=
  let t := n - 64
  ((List.range n).find? (fun i => b.getD i 0 != 0 && (if i < t then !covered b i else decide (t + 4 ≤ i) && decide (i < t + 16)))).map
    (fun i => ⟨7, 0x0D, 0, i⟩)

/-- Step 7. -/
def step7Bad (b : List Byte) (n : Nat) : Option BRef :=
  (fieldsBad b).or (ownersBad b)
  |>.or (match body b 7 with
    | some (off, f) => classBad f off [] (List.range (f.length / 8))
    | none => none)
  |>.or (paddingBad b n)

-- What an image declares

def Img.body (x : Img) (typ : Nat) : List Byte := ((x.sects.find? (fun e => e.1 == typ)).map (fun e => e.2)).getD []
def Img.has (x : Img) (typ : Nat) : Bool := x.sects.any (fun e => e.1 == typ)

/-- The image that the bytes hold. -/
def imgOf (b : List Byte) : Img :=
  ⟨le b 0x0E 1 == 0, le b 0x0F 1, BitVec.ofNat 32 (le b 0x14 4), (directory b).map (fun e => (e.typ, slice b e.off e.len))⟩

/-- The image sets LU n, and its LINKS entry. -/
def Img.setsLu (x : Img) (n : Nat) : Bool := x.full || luRegion n == x.region
def Img.linkWord (x : Img) (n : Nat) : Nat := le (x.body 1) (4 * (if x.full then n else n % 16)) 4
def Img.pers (x : Img) (n : Nat) : Nat := x.linkWord n % 16
def Img.preset (x : Img) (n : Nat) : Nat := x.linkWord n / 2 ^ 8 % 16
/-- The image's POWER bit of a cluster and of a region. -/
def Img.clPower (x : Img) (c : Nat) : Bool := (le (x.body 2) 0 4).testBit c
def Img.rgPower (x : Img) (g : Nat) : Bool := (le (x.body 2) 4 1).testBit g
def Img.dram (x : Img) (d : Nat) : DramParts :=
  let f (i : Nat) : Nat := le (x.body 4) (16 * d + 2 * i) 2
  ⟨f 0, f 1, f 2, f 3, f 4⟩
def Img.records (x : Img) : List Rec := (List.range (le (x.body 10) 0 4)).map (fun i => recOfBytes (slice (x.body 10) (8 + 16 * i) 16))

-- The package as the image leaves it (R42)

def State.imgPers (s : State) (x : Img) (n : Nat) : Nat := if x.setsLu n then x.pers n else s.persOf n
def State.imgRg (s : State) (x : Img) (g : Nat) : Bool := if x.full || g == x.region then x.rgPower g else s.regionPowered g
def State.imgCl (s : State) (x : Img) (c : Nat) : Bool := if x.full || c / 4 == x.region then x.clPower c else s.clusterPowered c
def State.imgDepth (s : State) (x : Img) (d : Nat) : Nat := if x.full then imgSlab (x.body 3) d else s.depthOf d

/-- What the image's map is admitted against; a rate search that the image keeps or starts has the rate last found (R95, R100). -/
def State.imgAdm (s : State) (x : Img) : Adm where
  pers := s.imgPers x
  rate := fun n => if x.setsLu n then persN (s.rateUnder n (x.pers n)) else s.nLink n
  powered := s.imgRg x
  retired := s.retiredLU
  rebench := fun g => !x.full && g != x.region && s.rgFailed.contains g
  depth := s.imgDepth x
  active := if x.full then [] else s.entries.filter (fun e => luRegion (taLink e.eg) != x.region)
  merges := if x.full then [] else s.merges
  others := []
  exists' := s.srcExists
  headNc := s.srcHead
  msp := fun n => if x.full then none else (s.adm 8).msp n

-- Step 8

/-- POWER_CONFLICT (R21, R35); `off` gives the offset of a body. -/
def State.powerBad (s : State) (x : Img) (off : Nat → Nat) : Option BRef :=
  let bad (sect o : Nat) : Option BRef := some ⟨8, 0x0F, sect, o⟩
  let other := !x.full && ((List.range 32).any (fun c => c / 4 != x.region && x.clPower c))
  let otherRg := !x.full && ((List.range 8).any (fun g => g != x.region && x.rgPower g))
  if other then bad 2 (off 2)
  else if otherRg then bad 2 (off 2 + 4)
  else if (List.range 32).any (fun c => (x.full || c / 4 == x.region) && s.imgCl x c && !s.imgRg x (c / 4)) then bad 2 (off 2)
  else
    match (List.range 128).find? (fun n => x.setsLu n && x.pers n != 0 && !s.imgCl x (luCluster n)) with
    | some n => bad 1 (off 1 + 4 * (if x.full then n else n % 16))
    | none =>
      match x.records.findIdx? (fun r => (r.named ++ r.sources).any (fun t => !s.imgRg x (luRegion (taLink t)))) with
      | some i => bad 10 (off 10 + 8 + 16 * i)
      | none => none

/-- DRAM_OVER (R3) and DRAM_MIN (R37). Only an image with a DRAM section is judged: for a region image that powers a region on a die with
less PMHIST, Table 02-18 gives the refusal no place (notes/assumptions/77.md). -/
def State.dramSumBad (s : State) (x : Img) (off : Nat → Nat) : Option BRef :=
  if !x.full then none
  else
    let sum (p : DramParts) : Nat := p.capture + p.pattern + p.deskew + p.pmhist + p.scratch
    match (List.range 4).find? (fun d => decide (Config.dramUnits < sum (x.dram d))) with
    | some d => some ⟨8, 0x10, 4, off 4 + 16 * d⟩
    | none =>
      ((List.range 4).find? (fun d => (s.imgRg x (2 * d) || s.imgRg x (2 * d + 1)) && decide ((x.dram d).pmhist < 2))).map
        (fun d => ⟨8, 0x11, 4, off 4 + 16 * d + 6⟩)

-- Steps 9 and 10

/-- MAP_ADMIT (R42), record after record. -/
def State.mapBad (s : State) (x : Img) (a : Adm) (off i : Nat) (earlier : List Rec) : List Rec → Option BRef
  | [] => none
  | r :: t =>
      if (!x.full && luRegion (taLink r.eg) != x.region) || (a.check earlier r).isSome then some ⟨9, 0x14, 10, off + 8 + 16 * i⟩
      else s.mapBad x a off (i + 1) (earlier ++ [r]) t

/-- A concatenated group has a member in region g. -/
def State.grpInRegion (s : State) (g : Nat) : Bool :=
  let here (w : Word) : Bool := luRegion (taLink (memTA w)) == g
  s.grps.any (fun e => e.2.st != 0 && e.2.mem.any (fun m => (match m.ing with
    | some w => here w
    | none => false) || (m.eg != 0 && here m.eg)))

/-- A running Skim or Pour job names a tributary or link of region g. -/
def State.jobInRegion (s : State) (g : Nat) : Bool :=
  let here (w : Word) : Bool := tapCode w != 4 && luRegion (taLink (tapTA w)) == g
  (List.range 32).any (fun i =>
    (s.skLive (i / 8) (i % 8) && (s.sk (i / 8) (i % 8)).words.any here)
      || ([poPENDING, poPLAYING, poENDING].contains (s.poSt (i / 8) (i % 8)) && (s.pour (i / 8) (i % 8)).tgts.any (fun t => here t.tap)))

/-- Step 10. -/
def State.spanBad (s : State) (x : Img) : Option BRef :=
  if x.full then none
  else if (List.range 8).any (fun k => s.mspState x.region k != 0) || s.grpInRegion x.region then some ⟨10, 0x22, 0, 0x0F⟩
  else if s.jobInRegion x.region then some ⟨10, 0x23, 0, 0x0F⟩
  else none

/-- Steps 6 to 10 on an image whose sections have passed their CRCs. -/
def State.contentBad (s : State) (b : List Byte) : Option BRef :=
  let n := le b 8 4
  let x := imgOf b
  let off (typ : Nat) : Nat := ((body b typ).map (fun e => e.1)).getD 0
  match (signatureBad b).or ((step7Bad b n).or ((s.powerBad x off).or (s.dramSumBad x off))) with
  | some r => some r
  | none => (s.mapBad x (s.imgAdm x) (off 10) 0 [] x.records).or (s.spanBad x)

/-- Steps 3 to 10 on an image whose header passed steps 1 and 2, with up to `tries` rereads of a section, `again` being what the flash
gives at each (R46). -/
def State.imageCheck (s : State) (tries : Nat) (again : List (List Byte)) (b : List Byte) : CrcPass :=
  let n := le b 8 4
  match (trailerBad b n).or (directoryBad b n (le b 0x0E 1 == 1)) with
  | some r => ⟨b, [], some r⟩
  | none =>
    let p := crcPass tries (directory b) b again
    { p with bad := p.bad.or (s.contentBad p.img) }

/-- Steps 3 to 10 on an image in the staging window, which is not reread: the refusal, if there is one. -/
def State.imageBad (s : State) (b : List Byte) : Option BRef := (s.imageCheck 0 [] b).bad

end Sys2Proof.Machine
end

