-- ==== Sys2Proof/Machine/Package.lean ====
section
/-!
DEFINITION. What is fixed by the package: the identity in each host port's configuration space (R389, 17_host_management.md) and the balls
of the link lanes (R433, R434, 19_electrical_package.md). No command reads or writes it.
-/

namespace Sys2Proof.Machine

-- Configuration identity (Table 17-2)

/-- The fields of Table 17-2, with the Device Serial Number. -/
structure CfgId where
  vendor : BitVec 16
  device : BitVec 16
  subsystemVendor : BitVec 16
  subsystem : BitVec 16
  revision : BitVec 4
  classCode : BitVec 24
  headerType : Byte
  serial : BitVec 64
deriving DecidableEq, Repr

/-- The identity that a host port's configuration space holds. -/
def cfgId (p : Port) : CfgId :=
  ⟨0x1E7A, 0x4128, 0x1E7A, (match p with
    | .a => 0x0000
    | .b => 0x0001), Config.stepping, 0x028000, 0x00, Config.serial⟩

/-- The capabilities that a port's configuration space lists (Table 17-1). -/
inductive PciCap where
  | powerManagement | pcie | msix | aer | deviceSerialNumber
deriving DecidableEq, Repr

def portCaps : List PciCap := [.powerManagement, .pcie, .msix, .aer, .deviceSerialNumber]

-- Balls (R433, R434)

/-- The letters of R433, numbered 1 to 19. -/
def rowLetters : List String :=
  ["A", "B", "C", "D", "E", "F", "G", "H", "J", "K", "L", "M", "N", "P", "T", "U", "V", "W", "Y"]

/-- Name of row i, 1 to 77. -/
def rowName (i : Nat) : String :=
  if i ≤ 19 then rowLetters.getD (i - 1) ""
  else rowLetters.getD ((i - 20) / 19) "" ++ rowLetters.getD ((i - 20) % 19) ""

/-- Name of the ball at row i and column j. -/
def ballName (b : Nat × Nat) : String := rowName b.1 ++ toString b.2

/-- The four balls of a link lane. -/
structure LaneBalls where
  txp : Nat × Nat
  txn : Nat × Nat
  rxp : Nat × Nat
  rxn : Nat × Nat
deriving DecidableEq, Repr

/-- Row and column of the balls of LU n (Table 19-7). -/
def luBalls (n : Nat) : LaneBalls :=
  let m := n % 32
  let up := 8 + 2 * m
  let down := 70 - 2 * m
  match n / 32 with
  | 0 => ⟨(up, 2), (up, 3), (up, 5), (up, 6)⟩
  | 1 => ⟨(2, up), (3, up), (5, up), (6, up)⟩
  | 2 => ⟨(down, 76), (down, 75), (down, 73), (down, 72)⟩
  | _ => ⟨(76, down), (75, down), (73, down), (72, down)⟩

end Sys2Proof.Machine
end

