-- ==== Sys2Proof/Machine/Tg.lean ====
section
/-!
DEFINITION. Tagged-grain frames: layout, scrambler, CRC-16, header, and the receive side of a TG link (R201, R202, R208 to R217).
-/

namespace Sys2Proof.Machine

/-- Bytes that hold the 1,562,500 bits of a frame; the last four bits of the last byte are not sent (R209). -/
def tgBytes : Nat := 195313

/-- Frame alignment word (Table 09-1). -/
def tgFaw : Nat := 0xF6281D9BC7A53E06

/-- One bit of the scrambler: generator 1 + x^28 + x^31 (R212). -/
def tgScrBit (st : BitVec 31) : Bool × BitVec 31 :=
  let fb := st.getLsbD 30 ^^ st.getLsbD 27
  (fb, (st <<< 1) ||| (if fb then 1 else 0))

def tgScrByte : Nat → BitVec 31 → Nat → Nat × BitVec 31
  | 0, st, acc => (acc, st)
  | k + 1, st, acc => let (b, st') := tgScrBit st; tgScrByte k st' (2 * acc + (if b then 1 else 0))

def tgScrFrom (st : BitVec 31) : List Byte → List Byte
  | [] => []
  | b :: t => let (k, st') := tgScrByte 8 st 0; (b ^^^ BitVec.ofNat 8 k) :: tgScrFrom st' t

/-- Scrambles, or descrambles, a frame from bit 64 on. -/
def tgScramble (f : List Byte) : List Byte := f.take 8 ++ tgScrFrom 0x7FFFFFFF (f.drop 8)

/-- CRC-16 of R210: polynomial 0x1021, initial value 0xFFFF. -/
def crc16 (l : List Byte) : BitVec 16 :=
  l.foldl (fun c b => (List.range 8).foldl (fun x _ => if x.getLsbD 15 then (x <<< 1) ^^^ 0x1021 else x <<< 1)
    (c ^^^ ((b.setWidth 16 : BitVec 16) <<< (8 : Nat)))) 0xFFFF

/-- The grain i of a block's bytes. -/
def tgGrain (block : List Byte) (i : Nat) : Grain :=
  let j := i + i / 4
  BitVec.ofNat 10 ((256 * (block.getD j 0).toNat + (block.getD (j + 1) 0).toNat) / 2 ^ (6 - 2 * (i % 4)))

/-- Position p carries content on a grain link (R213). -/
def tgContent (p : Nat) : Bool :=
  let c := p % 17280
  decide (576 ≤ c) || (p / 17280 == 3 && decide (384 ≤ c))

/-- Bytes of a header or of any other run, most significant first. -/
def beAt (l : List Byte) (i n : Nat) : Nat := be ((l.drop i).take n)

/-- The header's own check, and VER (R215, R222). -/
def tgHeaderOK (h : List Byte) (typ : Nat) : Bool :=
  (crc32 (h.take 60)).toNat == beAt h 60 4 && beAt h 4 1 == 1 && beAt h 5 1 == typ

-- Runs of consecutive frames

/-- Frames in a row that set, and that clear. -/
def runBad (r : Nat × Nat) (bad : Bool) : Nat × Nat := if bad then (r.1 + 1, 0) else (0, r.2 + 1)

/-- A defect set by k frames in a row and cleared by k in a row. -/
def State.tgRun (s : State) (n i k : Nat) (r : Nat × Nat) : State :=
  if k ≤ r.1 then s.tgSet n i true else if k ≤ r.2 then s.tgSet n i false else s

-- One frame (R215)

def ctrTgBlk (n : Nat) : Ctr := ⟨R.LU_TG_BLK_LO n, R.LU_TG_BLK_HI n⟩
def ctrTgHdr (n : Nat) : Ctr := ⟨R.LU_TG_HDR_LO n, R.LU_TG_HDR_HI n⟩
def ctrTgVoid (n : Nat) : Ctr := ⟨R.LU_TG_VOID_LO n, R.LU_TG_VOID_HI n⟩

/-- Present frame to frame FN f, in frames, signed. -/
def State.framesTo (s : State) (f : Nat) : Int := sInt 32 (fnDelta s.fn f)

/-- The framing pattern of a TG frame, under OOF_N (R214). -/
def State.tgFraming (s : State) (n : Nat) (f : List Byte) : State :=
  let x := s.secSt n
  if be (f.take 8) = tgFaw then s.setSec n { x with errRun := 0 }
  else if x.errRun + 1 < s.oofN n then s.setSec n { x with errRun := x.errRun + 1 }
  else
    let x1 := { x with inFrame := false, errRun := 0, cands := [] }
    ((((s.setSec n (x1.openCand x.align)).showCands n).setOof n).addCtr (ctrOOF n) 1).partner n

/-- A header that passes: RX0 and RX1, the partner, and CAP accepted after three arrivals. -/
def State.tgHeader (s : State) (n : Nat) (h : List Byte) : State :=
  let x := s.tgSt n
  let cap := BitVec.ofNat 32 (beAt h 12 4)
  let src := beAt h 6 1
  let c := if x.cap.1 = cap then (cap, x.cap.2 + 1) else (cap, 1)
  let s1 := ((s.setTg n { x with cap := c }).wr (R.LU_TG_RX0 n) (BitVec.ofNat 32 (beAt h 0 4))).wr (R.LU_TG_RX1 n)
    (BitVec.ofNat 32 (2 ^ 24 * (beAt h 7 1) + 2 ^ 16 * src))
  let s2 := if 3 ≤ c.2 ∧ s1.rd (R.LU_TG_RX2 n) ≠ cap then (s1.wr (R.LU_TG_RX2 n) cap).tgInd n tCAP_NEW else s1
  s2.putPartner n 3 (src / 128) (src % 128) ((s2.rd (R.LU_TG_RX2 n)).toNat % 256) (BitVec.ofNat 32 (beAt h 8 4))

/-- The defects of Table 09-3, out of one frame: header, arrival against FN (none where the header fails), failing blocks, VOID_ALL. -/
def State.tgDefects (s : State) (n : Nat) (hdrOK : Bool) (skew : Bool) (fails : Nat) (voidAll : Bool) : State :=
  if s.secBit n sLOS || s.secBit n sLOF then s
  else
    let x := s.tgSt n
    let x1 := { x with hdr := runBad x.hdr (!hdrOK), skew := if hdrOK then runBad x.skew skew else x.skew,
                       blk := runBad x.blk (decide (s.get (R.LU_TG_CTRL n) F.LU_TG_CTRL_BLK_THR ≤ fails)),
                       void := if hdrOK then runBad x.void voidAll else x.void }
    ((((s.setTg n x1).tgRun n tHDR_ERR 3 x1.hdr).tgRun n tFN_SKEW 3 x1.skew).tgRun n tBLK_EXC 8 x1.blk).tgRun n tVOID_RX 3 x1.void

-- Copies (R201 to R203)

/-- The path of LU n that holds position p is failed at source as monitored on LU n. -/
def State.holderFailed (s : State) (n p : Nat) : Bool :=
  (s.luPaths n).any (fun q => (s.path q.1 q.2).failed &&
    (trLocate q.1 q.2 (s.get (R.LU_PATH_STRUCT0 n (taAug q.2)) F.LU_PATH_STRUCT0_NC) 64 p).isSome)

/-- Lateness A of the grain of position p, in ps: `at` is the arrival of the first FAW bit after the start of frame FN_t, `pipe` the
delay of the receive SerDes and pipeline, both in ns; a bit lasts 80 ps. -/
def tgLate (at' : Int) (pipe p : Nat) : Int :=
  1000 * (at' + pipe) + ((576 + 10256 * (p / 1024) + 10 * (p % 1024) + 10) * 80 : Nat) - (125000000 * p / 155520 : Nat)

/-- What has been found of the copies of one frame. -/
structure TgCount where
  void : Nat
  inv  : Nat
  oow  : Nat
  full : Bool

/-- One copy: position p of the frame with header FN_t. -/
def State.tgCopy (s : State) (n p : Nat) (x : Leave) (hdrOK blkOK inWin : Bool) (g : Grain) (c : TgCount) : State × TgCount :=
  let fine := hdrOK && blkOK
  let content := tgContent p
  let c1 := if fine && content && g == voidGrain then { c with void := c.void + 1 } else c
  let c2 := if fine && !inWin && content then { c1 with oow := c1.oow + 1 } else c1
  let valid := fine && oddParity g && g != voidGrain && inWin && !s.holderFailed n p
  if valid then (s.dispatch n p x g, c2)
  else if content then (s, { c2 with inv := c2.inv + 1, full := false })
  else (s, c2)

/-- The merge registers of LU n's copies: die, local SOURCE link, and whether LU n is the ALT feed (R208). -/
def State.mergeSet (s : State) (n : Nat) : Option (Nat × Nat × Bool) :=
  (s.merges.find? (fun m => m.1 == n || m.2 == n)).map (fun m => (luDie m.1, m.1 % 32, m.2 == n))

/-- Counts invalid copies and copies out of window; the OOW flag counts one event when it is set. -/
def State.mergeCount (s : State) (n : Nat) (c : TgCount) : State :=
  match s.mergeSet n with
  | none => s
  | some (d, j, alt) =>
    let inv : Ctr := if alt then ⟨R.MRG_INV_A_LO d j, R.MRG_INV_A_HI d j⟩ else ⟨R.MRG_INV_S_LO d j, R.MRG_INV_S_HI d j⟩
    let f := if alt then F.MRG_STATUS_OOW_A else F.MRG_STATUS_OOW_S
    let s1 := (s.addCtr inv c.inv).addCtr ⟨R.MRG_OOW_LO d j, R.MRG_OOW_HI d j⟩ c.oow
    if c.oow = 0 ∨ s1.flag (R.MRG_STATUS d j) f = true then s1 else (s1.put (R.MRG_STATUS d j) f 1).ev (evDie d) srcMERGE

/-- How the grain of position p of a TG frame leaves: held, at the reference instant of R201, in frame `dep`; otherwise as it leaves the
receive pipeline, `late` ps after the time of its position in the frame before `dep` (R217). -/
def tgLeave (held : Bool) (dep p : Nat) (late : Int) : Leave :=
  if held then ⟨dep, none, true, true, false⟩
  else
    let t := late + (125000000 * p / 155520 : Nat) - 125000000
    let f := (t / 125000000 : Int)
    ⟨((dep : Int) + f).toNat, some (t - 125000000 * f).toNat, true, true, false⟩

/-- A TG frame of LU n in IF, descrambled; a header that does not pass leaves no partner known (R366): arrival of its first FAW bit in ns after the start of the present frame. -/
def State.tgFrame (s : State) (n : Nat) (f : List Byte) (at' : Int) (pipe : Nat) : State :=
  let h := (f.drop 8).take 64
  let hdrOK := tgHeaderOK h 0
  let ft := beAt h 0 4
  let off := s.framesTo ft
  let late := at' - 125000 * off
  let blocks := (List.range 152).map (fun k => (f.drop (72 + 1282 * k)).take 1282)
  let oks := blocks.map (fun b => (crc16 (b.take 1280)).toNat == beAt b 1280 2)
  let fails := (oks.filter not).length
  let s1 := s.tgFraming n f
  let s2 := if hdrOK then s1.tgHeader n h else (s1.addCtr (ctrTgHdr n) 1).putPartner n 0 0 0 0 0
  let s3 := ((s2.addCtr (ctrTgBlk n) fails).pmNear (secKey n) fails fails).tgDefects n hdrOK (decide (late < -500) || decide (123500 < late)) fails
    ((beAt h 7 1).testBit 4)
  let held := s.depthOf (luDie n) == 3
  let dep := ((s.up : Int) + off + 1).toNat
  let (s4, c) := (List.range 152).foldl (fun (x : State × TgCount) k =>
      let b := blocks.getD k []
      let ok := oks.getD k false
      (List.range 1024).foldl (fun (y : State × TgCount) i =>
        let p := 1024 * k + i
        if 155520 ≤ p then y
        else
          let a := tgLate late pipe p
          y.1.tgCopy n p (tgLeave held dep p a) hdrOK ok (!held || (decide (-1000000 ≤ a) && decide (a ≤ 124000000))) (tgGrain b i) y.2) x)
    (s3, ⟨0, 0, 0, true⟩)
  let s5 := (s4.addCtr (ctrTgVoid n) c.void).mergeCount n c
  (s5.setTg n { s5.tgSt n with got := true, full := c.full, late := late + pipe }).tgSettle n

/-- TG_FRAME_RECEIVE: a frame as it stood on the line, from the alignment of the framer, in IF. -/
def execTgFrameReceive (n : Fin 128) (bits : List Byte) (first : Int) (pipe : Nat) (s : State) : Out :=
  if s.isTG n && !s.secBit n sLOS && (s.secSt n).inFrame && bits.length == tgBytes && !s.rxStopped n then
    done (s.tgFrame n (tgScramble bits) first pipe)
  else .next s

-- Merge status (R208)

/-- A feed is OK: its link has not failed and it delivered valid in-window copies throughout the last frame. -/
def State.feedOK (s : State) (n : Nat) : Bool := !s.bit (R.LU_TG_STATUS n) tFAILED && (s.tgSt n).got && (s.tgSt n).full

/-- The end of a frame: FEED_S_OK, FEED_A_OK and MRG_SKEW of a merge. -/
def State.mergeFrame (s : State) (m : Nat × Nat) : State :=
  let d := luDie m.1
  let j := m.1 % 32
  let s1 := (s.setFeed d j F.MRG_STATUS_FEED_S_OK (s.feedOK m.1)).setFeed d j F.MRG_STATUS_FEED_A_OK (s.feedOK m.2)
  if (s.tgSt m.1).got && (s.tgSt m.2).got then
    s1.put (R.MRG_SKEW d j) F.MRG_SKEW_SKEW (wordOfInt ((s.tgSt m.2).late - (s.tgSt m.1).late)).toNat else s1

/-- The end of a frame for every merge and TG link. -/
def State.tgBoundary (s : State) : State :=
  let s1 := s.merges.foldl (fun t m => t.mergeFrame m) s
  { s1 with tg := s1.tg.filterMap (fun e => let x := { e.2 with got := false, full := false }
                                            if x = emptyTg then none else some (e.1, x)) }

end Sys2Proof.Machine
end

