-- ==== Sys2Proof/Machine/MateLink.lean ====
section
/-!
DEFINITION. What the package sends to its mate: the frames on MATE_TX and the shadow CRCs (R209 to R212, R222, R227).
-/

namespace Sys2Proof.Machine

def State.held (s : State) : Bool := s.flag R.PAIR_STATUS F.PAIR_STATUS_YOKE_HELD
def State.mateUp (s : State) : Bool := s.flag R.PAIR_STATUS F.PAIR_STATUS_MATE_UP
def State.sideB (s : State) : Bool := s.flag R.PAIR_STATUS F.PAIR_STATUS_SIDE

/-- ACTIVE, HEALTH and PAIR of FLAGS (Table 09-2). -/
def State.tgFlags (s : State) : Nat :=
  (if s.held then 0x80 else 0) + (if s.flag R.PAIR_STATUS F.PAIR_STATUS_HEALTH then 0x40 else 0) + (if s.mateUp then 0x20 else 0)

/-- A header with its HCRC: TYPE, SRC below its side bit, further FLAGS and CAP bits, bytes 16 to 25 (Table 09-2). -/
def State.tgHeadOf (s : State) (typ src flags cap : Nat) (mate : List Byte) : List Byte :=
  let h : List Byte := toBe 4 s.fn ++ [1, BitVec.ofNat 8 typ, BitVec.ofNat 8 ((if s.sideB then 128 else 0) + src), BitVec.ofNat 8 (s.tgFlags + flags)]
    ++ toBe 4 (Config.serial.toNat % 2 ^ 32) ++ toBe 4 (0x00010001 + cap) ++ mate ++ List.replicate 34 0
  h ++ toBe 4 (crc32 h).toNat

/-- The header of the mate frame of the present frame: PHASE, HO_OP and HO_FN. -/
def State.mateHead (s : State) : List Byte :=
  s.tgHeadOf 1 0x7F 0 0 (toBe 4 (wordOfInt s.theta).toNat ++ [BitVec.ofNat 8 s.hoOp.1, 0] ++ toBe 4 s.hoOp.2)

-- Shadow compare (R227)

/-- The two packages compare. -/
def State.shadowOn (s : State) : Bool := s.flag R.PAIR_CTRL F.PAIR_CTRL_SHADOW_EN && s.mateShadow && s.mateUp

/-- CRC of LU n's frame. -/
def State.addShadow (s : State) (n : Nat) (crc : Word) : State :=
  match s.shadow with
  | (f, l) :: t => if f = s.fn then { s with shadow := (f, l ++ [(n, crc)]) :: t } else { s with shadow := [(s.fn, [(n, crc)]), (f, l)] }
  | [] => { s with shadow := [(s.fn, [(n, crc)])] }

/-- Own CRCs and the mate's for one frame. -/
def State.shadowJudge (s : State) (own crcs : List (Nat × Word)) : State :=
  match (List.range 128).filter (fun n => own.any (fun a => a.1 == n && crcs.any (fun b => b.1 == n && b.2 != a.2))) with
  | [] => s
  | n :: _ => ((s.addCtr ⟨R.PAIR_SHADOW_MISS_LO, R.PAIR_SHADOW_MISS_HI⟩ 1).put R.PAIR_SHADOW_LU F.PAIR_SHADOW_LU_LU n).ev evPair srcSHADOW

/-- Shadow CRCs of the mate for frame f: compared with the package's own, or kept until that frame has been sent; of these the last two are
kept, the comparison falling within 2 frames. -/
def State.shadowCompare (s : State) (f : Nat) (crcs : List (Nat × Word)) : State :=
  if s.shadowOn then
    match s.shadow.find? (fun e => e.1 == f) with
    | none => { s with shadowRx := ((f, crcs) :: s.shadowRx.filter (fun e => e.1 != f)).take 2 }
    | some (_, own) => s.shadowJudge own crcs
  else s

/-- The present frame has been sent: the mate's CRCs for it that came before are compared. -/
def State.shadowSent (s : State) : State :=
  match s.shadowRx.find? (fun e => e.1 == s.fn), s.shadow.find? (fun e => e.1 == s.fn) with
  | some (_, crcs), some (_, own) =>
    let s1 := { s with shadowRx := s.shadowRx.filter (fun e => e.1 != s.fn) }
    if s1.shadowOn then s1.shadowJudge own crcs else s1
  | _, _ => s

-- The frame on MATE_TX

/-- The mate frame of the present frame; its area carries the CRCs of the frame before. The boundary-scan register may drive the ball in its
place (R405). -/
def State.sendMate (s : State) : State :=
  { s with mateTx := if s.scanDrives then none
             else some ⟨s.mateHead, s.draw, s.shadow.find? (fun e => (e.1 + 1) % 2 ^ 32 == s.fn && s.shadowOn)⟩,
           draw := s.draw + 194560 }

/-- Block k of a mate frame: 1,280 free bytes, and their CRC-16 (R210, R222). -/
def mateBlock (area k : Nat) : List Byte :=
  let l := (List.range 1280).map (fun i => BitVec.ofNat 8 (Config.free (area + 1280 * k + i)))
  l ++ toBe 2 (crc16 l).toNat

/-- A mate frame as it stands on the line: FAW, header, blocks and tail, scrambled from bit 64 on (R209 to R212). -/
def MateTx.line (x : MateTx) : List Byte :=
  tgScramble (toBe 8 tgFaw ++ x.head ++ (List.range 152).flatMap (mateBlock x.area) ++ List.replicate 377 0)

end Sys2Proof.Machine
end

