-- ==== Sys2Proof/Machine/Time.lean ====
section
/-!
DEFINITION. Timing: activity and gates, disputes, the choice of the Main DPLL's reference, the four DPLLs, holdover history, station
outputs, the time base and S1 (10_timing.md).
-/

namespace Sys2Proof.Machine

/-- REF_ACTIVITY_LOSS: a REF_IN has had no edge for ACT_N periods, or the LU of a LINE_REF gives no clock (R233, R235). -/
def execRefActivityLoss (r : Fin 16) (s : State) : Out :=
  if s.qState r = 0 ∨ !s.refActive r then .next s
  else if r.val < 8 then done (s.refLose r)
  else done (s.lineRefFollow r)

/-- REF_ACTIVITY_RETURN: the next edge of a REF_IN; for a LINE_REF the end of the conditions of R233. -/
def execRefActivityReturn (r : Fin 16) (s : State) : Out :=
  if s.qState r = 0 ∨ s.refActive r then .next s
  else if r.val < 8 then done (s.refRegain r)
  else done (s.lineRefFollow r)

-- Gates (R236, R237)

/-- A gate of reference r has ended with an offset in 10^-13 units. -/
def State.refGate (s : State) (r : Nat) (off : Word) : State :=
  let a := off.toInt.natAbs
  let inAcc := decide (a ≤ 10 ^ 6 * (s.rc1 r F.TIME_REF_CFG1_ACCEPT))
  let s1 := (s.wr (R.TIME_REF_FOFF r) off).put (R.TIME_REF_STATUS r) F.TIME_REF_STATUS_IN_ACCEPT (if inAcc then 1 else 0)
  if 10 ^ 6 * s.rc1 r F.TIME_REF_CFG1_REJECT < a then s1.refFail r
  else if inAcc ∧ s.qState r = 1 then s1.toQState r (if s.rc0 r F.TIME_REF_CFG0_WTR = 0 then 3 else 2)
  else s1

/-- REF_GATE_RESULT: the gate of reference r in progress has lasted GATE with activity throughout, and the next one begins. -/
def execRefGateResult (r : Fin 16) (off : Word) (s : State) : Out :=
  if !s.timerDone (refGateKey r) || !s.refActive r || s.refReserved r then .next s else done ((s.gateBegin r).refGate r off)

/-- REF_WTR_EXPIRE. -/
def execRefWtrExpire (r : Fin 16) (s : State) : Out :=
  if s.qState r = 2 ∧ s.timerDone (refWtrKey r) = true then done (s.toQState r 3) else .next s

-- Reference registers (Table 10-17)

/-- A write of CFG0: WTR to its range; ENABLE moves the reference at once (Table 10-3), the rest is in effect from the next boundary. -/
def State.writeRefCfg0 (s : State) (r : Nat) (v : Word) : State :=
  let c := R.TIME_REF_CFG0 r
  let s1 := (s.wrRW c v).clampFld c F.TIME_REF_CFG0_WTR 0 720
  if s1.flag c F.TIME_REF_CFG0_ENABLE then
    (if s1.qState r = 0 then (s1.toQState r 1).lineRefFollow r else s1)
  else if s1.qState r = 0 then s1
  else ((s1.put (R.TIME_REF_STATUS r) F.TIME_REF_STATUS_ACTIVE 0).stopTimer (refGateKey r)).toQState r 0

/-- A write of CFG1: limits, and ACCEPT below REJECT (R262). -/
def State.writeRefCfg1 (s : State) (r : Nat) (v : Word) : State :=
  let c := R.TIME_REF_CFG1 r
  let s1 := (((s.wrRW c v).clampFld c F.TIME_REF_CFG1_REJECT 1 1000).clampFld c F.TIME_REF_CFG1_ACCEPT 1 1000).clampFld c
    F.TIME_REF_CFG1_ACT_N 2 255
  if s1.get c F.TIME_REF_CFG1_REJECT ≤ s1.get c F.TIME_REF_CFG1_ACCEPT then
    s1.put c F.TIME_REF_CFG1_ACCEPT (s1.get c F.TIME_REF_CFG1_REJECT - 1) else s1

/-- REF_ENABLE: a write of CFG0 with ENABLE 1. -/
def execRefEnable (p : Port) (r : Fin 16) (v : Word) (s : State) : Out :=
  done (hostReg p (.refEnable p r v) (fun t => t.writeRefCfg0 r (v ||| 0x80000000)) s)

/-- REF_DISABLE: a write of CFG0 with ENABLE 0. -/
def execRefDisable (p : Port) (r : Fin 16) (v : Word) (s : State) : Out :=
  done (hostReg p (.refDisable p r v) (fun t => t.writeRefCfg0 r (v &&& 0x7FFFFFFF)) s)

/-- The configuration of reference r takes effect at a boundary (R262). Where its LU, its frequency or GATE has changed, the gate in progress
yields no result and another begins (notes/assumptions/97.md). -/
def State.refApply (s : State) (r : Nat) : State :=
  let c := (s.rd (R.TIME_REF_CFG0 r), s.rd (R.TIME_REF_CFG1 r))
  let f := if r < 8 then F.TIME_REF_CFG0_FREQ else F.TIME_REF_CFG0_LU
  let anew := s.rc0 r f != fget c.1 f || s.rc1 r F.TIME_REF_CFG1_GATE != fget c.2 F.TIME_REF_CFG1_GATE
  let s1 := { s with refEff := store id refDflt s.refEff r c }
  if anew && s1.timerOn (refGateKey r) then s1.gateBegin r else s1

-- Disputes (R243)

/-- Selectable references of the rank of r, without r. -/
def State.peers (s : State) (r : Nat) : List Nat :=
  (List.range 16).filter (fun x => x != r && s.selectable x && s.refRank x == s.refRank r)

/-- Two readings lie further apart than `num`/2 times DISPUTE_LIM ppb; 1 ppb is 10^4 units. -/
def State.apart (s : State) (num : Nat) (a b : Nat) : Bool :=
  decide (10 ^ 4 * (num * s.get R.TIME_CTRL F.TIME_CTRL_DISPUTE_LIM) < 2 * (s.refOff a - s.refOff b).natAbs)

/-- The dispute state of reference r at a boundary; the second part tells whether it became DISPUTED. -/
def State.disputeOf (s0 s : State) (r : Nat) : State × Bool :=
  if !s0.selectable r then (s.setDisputed r false, false)
  else
    let ps := s0.peers r
    if ps.any (fun x => s0.apart 2 r x) then
      ((s.setDisputed r true).stopTimer (disputeKey r), !s0.refDisputed r)
    else if !s0.refDisputed r then (s, false)
    else if ps.isEmpty then (s.setDisputed r false, false)
    else if ps.any (fun x => s0.apart 1 r x) then (s.stopTimer (disputeKey r), false)
    else if s0.timerOn (disputeKey r) then (s, false)
    else (s.startTimerNs (disputeKey r) (10 * 10 ^ 9), false)

/-- Step 2 of R241. -/
def State.disputes (s : State) : State :=
  let (s1, any) := (List.range 16).foldl (fun (x : State × Bool) r => let (t, b) := s.disputeOf x.1 r; (t, x.2 || b)) (s, false)
  if any then s1.ev evTime srcDISPUTE else s1

/-- DISPUTE_CLEAR: 10 s of agreement within half of DISPUTE_LIM have passed. -/
def execDisputeClear (r : Fin 16) (s : State) : Out :=
  if s.refDisputed r ∧ s.timerDone (disputeKey r) = true then done (s.setDisputed r false) else .next s

-- The choice (R242)

def listMin (d : Nat) (l : List Nat) : Nat := l.foldl min d

/-- Distance of a reading from the holdover estimate, which is 0 while HIST_VALID is 0. -/
def State.fromHold (s : State) (r : Nat) : Nat :=
  let h : Int := if s.flag R.TIME_STATUS F.TIME_STATUS_HIST_VALID then (s.rd R.TIME_MAIN_HOLD).toInt else 0
  (s.refOff r - h).natAbs

def State.chooseAuto (s : State) : Option Nat :=
  let sel := (List.range 16).filter (fun r => s.selectable r)
  let best := listMin 1024 (sel.map s.refRank)
  let bs := sel.filter (fun r => s.refRank r == best)
  match s.mainRef with
  | some c => if sel.contains c && s.refRank c == best then some c else pick bs
  | none => pick bs
where
  pick (bs : List Nat) : Option Nat :=
    if bs.any (fun r => s.refDisputed r) then
      let d := listMin (2 ^ 40) (bs.map s.fromHold)
      bs.find? (fun r => s.fromHold r == d)
    else bs.head?

/-- The reference that step 4 chooses. -/
def State.choose (s : State) : Option Nat :=
  let ref := s.get R.TIME_MAIN_CMD F.TIME_MAIN_CMD_REF
  match s.get R.TIME_MAIN_CMD F.TIME_MAIN_CMD_CMD with
  | 0 => s.chooseAuto
  | 1 => if s.qState ref = 3 then some ref else none
  | 2 =>
    let best := listMin 16 (((List.range 16).filter (fun r => s.selectable r)).map s.qlPart)
    if s.selectable ref && s.qlPart ref == best then some ref else s.chooseAuto
  | _ => none

-- The Main DPLL (R246)

def State.mainState (s : State) : Nat := s.get R.TIME_STATUS F.TIME_STATUS_MAIN_STATE
def State.histValid (s : State) : Bool := s.flag R.TIME_STATUS F.TIME_STATUS_HIST_VALID
def State.setSwitching (s : State) (b : Bool) : State := s.put R.TIME_STATUS F.TIME_STATUS_SWITCHING (if b then 1 else 0)

/-- The ring is emptied (R248). -/
def State.histClear (s : State) : State :=
  { (s.put R.TIME_STATUS F.TIME_STATUS_HIST_VALID 0).wr R.TIME_MAIN_HOLD 0 with hist := [], histRun := 0 }

/-- The Main DPLL enters a state: one event on TIME.MAIN, and HEALTH follows (R220). -/
def State.mainGo (s : State) (q : Nat) (switching : Bool) : State :=
  let s1 := s.setSwitching switching
  if s.mainState = q then s1
  else
    let s2 := if q = 0 ∨ q = 1 then s1.histClear else s1
    ((s2.put R.TIME_STATUS F.TIME_STATUS_MAIN_STATE q).ev evTime srcMAIN).updHealth

/-- The state without a reference. -/
def State.holdState (s : State) : Nat := if s.histValid then 3 else 0

/-- FOLLOW conditions (R250). -/
def State.followCond (s : State) : Bool :=
  !s.driving && s.flag R.PAIR_STATUS F.PAIR_STATUS_MATE_UP && s.flag R.PAIR_CTRL F.PAIR_CTRL_ALIGN_EN

/-- FREERUN is commanded, by the command read at the last boundary, or forced (Table 10-7, last row). -/
def State.freerunForced (s : State) : Bool := s.mainCmdIn == 4 || !s.oscIn

/-- FOLLOW ends, with a reference chosen or not. -/
def State.leaveFollow (s : State) : State :=
  match s.mainRef with
  | some _ => s.mainGo 2 true
  | none => s.mainGo s.holdState false

/-- The Main DPLL enters or leaves FOLLOW as its conditions change (R246, R250). -/
def State.followEval (s : State) : State :=
  if s.mainState = 4 then (if s.followCond then s else s.leaveFollow)
  else if s.followCond && !(s.mainState == 0 && s.freerunForced) then s.mainGo 4 false else s

/-- The choice of step 4 and what the Main DPLL does with it (Table 10-7). -/
def State.mainChoose (s : State) (c : Option Nat) : State :=
  let changed := c != s.mainRef
  let s1 := if changed then ((s.put R.TIME_STATUS F.TIME_STATUS_MAIN_REF (c.getD 0x1F)).put R.TIME_STATUS F.TIME_STATUS_MAIN_QL
      (match c with | some r => s.refQl r | none => 0)).ev evTime srcSWITCH else s
  let s2 := { s1 with mainHold := false }
  if s2.freerunForced then s2.mainGo 0 false
  else if s2.mainState = 4 then (if s2.followCond then s2 else s2.leaveFollow)
  else if s2.followCond then s2.mainGo 4 false
  else
    match s2.mainState, c with
    | 0, some _ => s2.mainGo 1 false
    | 1, none => s2.mainGo s2.holdState false
    | 2, none => s2.mainGo s2.holdState false
    | 2, some _ => if changed then s2.setSwitching true else s2
    | 3, some _ => s2.mainGo 2 true
    | _, _ => s2

-- Station and Aux DPLLs (R247)

/-- SRC of a DPLL: a reference, or the Main DPLL output. -/
def State.dpllSrc (s : State) (cfg : RegId) : Option Nat :=
  let v := s.get cfg F.TIME_STN_CFG_SRC
  if v < 16 then some v else none

def State.srcOK (s : State) (src : Option Nat) : Bool :=
  match src with
  | some r => s.qState r == 3
  | none => true

/-- Next state of the Station or the Aux DPLL. -/
def dpllNext (osc ok : Bool) (q : Nat) : Nat :=
  if !osc then 0
  else match q with
    | 0 => if ok then 1 else 0
    | 1 => if ok then 1 else 0
    | 2 => if ok then 2 else 3
    | _ => if ok then 2 else 3

def State.dpllGo (s : State) (aux : Bool) (q : Nat) : State :=
  let f := if aux then F.TIME_STATUS_AUX_STATE else F.TIME_STATUS_STN_STATE
  if s.get R.TIME_STATUS f = q then s
  else (s.put R.TIME_STATUS f q).ev evTime (if aux then srcAUX else srcSTATION)

def State.dplls (s : State) : State :=
  let one (t : State) (aux : Bool) : State :=
    let f := if aux then F.TIME_STATUS_AUX_STATE else F.TIME_STATUS_STN_STATE
    t.dpllGo aux (dpllNext t.oscIn (t.srcOK (t.dpllSrc (if aux then R.TIME_AUX_CFG else R.TIME_STN_CFG))) (t.get R.TIME_STATUS f))
  one (one s false) true

-- S1 (R260)

/-- S1 bits 5 to 8 for LU n by R260. -/
def State.s1For (s : State) (n : Nat) : Nat :=
  if !s.qlEn then s.get R.TIME_CTRL F.TIME_CTRL_NOQL_S1
  else if s.mainState = 4 then look (fun _ => 15) s.mateS1 n
  else
    match s.mainRef with
    | some r =>
      if 8 ≤ r ∧ s.refLU r = n then 15
      else if s.mainState = 1 ∨ s.mainState = 2 then s.refQl r
      else s.get R.TIME_CTRL F.TIME_CTRL_HOLD_QL
    | none => s.get R.TIME_CTRL F.TIME_CTRL_HOLD_QL

/-- S1 for an LU that is not the source of the chosen reference; in FOLLOW the mate's value for the first line LU that it gives a
ranked or valid one (notes/assumptions/60.md). -/
def State.s1Other (s : State) : Nat :=
  if s.qlEn ∧ s.mainState = 4 then
    (((List.range 128).filter (fun n => s.isLine n)).map (fun n => look (fun _ => 15) s.mateS1 n)).find? (fun q => q != 15) |>.getD 15
  else s.s1For 128

/-- Values for the LUs with a line personality are decided; those decided before are sent in the frame that starts (R260). -/
def State.s1Step (s : State) : State :=
  let l := ((List.range 128).filter (fun n => s.isLine n)).map (fun n => (n, s.s1For n))
  { s with s1Out := s.s1Next, s1Next := l.filter (fun e => e.2 != 11) }

-- Station outputs (R251)

/-- QL of the DPLL that drives an output. -/
def State.dpllQl (s : State) (aux : Bool) : Nat :=
  match s.dpllSrc (if aux then R.TIME_AUX_CFG else R.TIME_STN_CFG) with
  | some r => s.refQl r
  | none => s.s1Other

/-- STATION_OUTk is held low by R251. -/
def State.squelch (s : State) (k : Nat) : Bool :=
  let o := R.TIME_STN_OUT k
  let aux := s.flag o F.TIME_STN_OUT_DRIVER
  let st := s.get R.TIME_STATUS (if aux then F.TIME_STATUS_AUX_STATE else F.TIME_STATUS_STN_STATE)
  s.flag o F.TIME_STN_OUT_ENABLE && s.flag o F.TIME_STN_OUT_SQUELCH_EN &&
    (st != 2 || (match qlRank s.qlOpt2 (s.dpllQl aux), qlRank s.qlOpt2 (s.get R.TIME_STN_CFG F.TIME_STN_CFG_QL_MIN) with
      | none, _ => true
      | some a, some b => decide (b < a)
      | some _, none => false))

/-- SQUELCHED follows; each change counts one event on TIME.STATION. -/
def State.stationEval (s : State) : State :=
  [0, 1, 2, 3].foldl (fun t k =>
    let v := if t.squelch k then 1 else 0
    let f := F.TIME_STN_OUT_SQUELCHED
    if t.get (R.TIME_STN_OUT k) f = v then t else (t.put (R.TIME_STN_OUT k) f v).ev evTime srcSTATION) s

/-- STATION_OUTk carries a clock now: it is enabled at a frequency of Table 10-2, not squelched, and the package is not in GRAVE. -/
def State.stationOn (s : State) (k : Nat) : Bool :=
  let o := R.TIME_STN_OUT k
  s.flag o F.TIME_STN_OUT_ENABLE && decide (s.get o F.TIME_STN_OUT_FREQ ≤ 7) && !(s.flag o F.TIME_STN_OUT_SQUELCHED) && !s.grave

/-- WTR_LEFT of the references in WTR. -/
def State.wtrShow (s : State) : State :=
  (List.range 16).foldl (fun t r =>
    if t.qState r = 2 then t.put (R.TIME_REF_STATUS r) F.TIME_REF_STATUS_WTR_LEFT (cdiv (t.timerLeft (refWtrKey r)) 8000) else t) s

/-- The steps of R241 at a system frame boundary. Configuration takes effect first; the states and QL values are those from before it, and what
the configuration changes in them follows the choice. -/
def State.timingBoundary (s : State) : State :=
  let s1 := (List.range 16).foldl (fun t r => t.refApply r) s
  let s2 := { s1.disputes with mainCmdIn := s1.get R.TIME_MAIN_CMD F.TIME_MAIN_CMD_CMD }
  let s3 := (s2.mainChoose s2.choose).dplls.s1Step
  let s4 := (List.range 16).foldl (fun t r => if t.refReserved r then t.refFail r else t.lineRefFollow r) s3
  s4.refShowAll.wtrShow.stationEval

-- Commands of the Main DPLL (R242)

/-- A write of TIME_MAIN_CMD: REF to its range, a code of 5 to 7 leaves CMD as it is (R262); in effect from the next boundary. -/
def State.writeMainCmd (s : State) (v : Word) : State :=
  let r := R.TIME_MAIN_CMD
  let s1 := (s.wrRW r v).clampFld r F.TIME_MAIN_CMD_REF 0 15
  if 5 ≤ fget v F.TIME_MAIN_CMD_CMD then s1.put r F.TIME_MAIN_CMD_CMD (s.get r F.TIME_MAIN_CMD_CMD) else s1

def State.mainCmd (s : State) (cmd ref : Nat) : State := s.writeMainCmd (BitVec.ofNat 32 (cmd * 32 + ref))

def execMainCmdAuto (p : Port) (r : Fin 32) (s : State) : Out := .next (hostReg p (.mainCmdAuto p r) (fun t => t.mainCmd 0 r) s)
def execMainCmdForce (p : Port) (r : Fin 32) (s : State) : Out := .next (hostReg p (.mainCmdForce p r) (fun t => t.mainCmd 1 r) s)
def execMainCmdManual (p : Port) (r : Fin 32) (s : State) : Out := .next (hostReg p (.mainCmdManual p r) (fun t => t.mainCmd 2 r) s)
def execMainCmdHoldover (p : Port) (r : Fin 32) (s : State) : Out := .next (hostReg p (.mainCmdHoldover p r) (fun t => t.mainCmd 3 r) s)
def execMainCmdFreerun (p : Port) (r : Fin 32) (s : State) : Out := .next (hostReg p (.mainCmdFreerun p r) (fun t => t.mainCmd 4 r) s)

/-- A write of TIME_MAIN_CFG (Table 10-13, R262). -/
def State.writeMainCfg (s : State) (v : Word) : State :=
  let r := R.TIME_MAIN_CFG
  let s1 := (((s.wrRW r v).clampFld r F.TIME_MAIN_CFG_FSLEW 1 2047).clampFld r F.TIME_MAIN_CFG_HIST_GUARD 1 15).clampFld r
    F.TIME_MAIN_CFG_HIST_WIN 1 3600
  if 5 ≤ fget v F.TIME_MAIN_CFG_BW then s1.put r F.TIME_MAIN_CFG_BW (s.get r F.TIME_MAIN_CFG_BW) else s1

/-- A write of TIME_STN_CFG or TIME_AUX_CFG. -/
def State.writeDpllCfg (s : State) (r : RegId) (v : Word) : State :=
  let s1 := s.wrRW r v
  (if 5 ≤ fget v F.TIME_STN_CFG_BW then s1.put r F.TIME_STN_CFG_BW (s.get r F.TIME_STN_CFG_BW) else s1).stationEval

/-- A write of TIME_STN_OUTk. -/
def State.writeStnOut (s : State) (k : Nat) (v : Word) : State := (s.wrRW (R.TIME_STN_OUT k) v).stationEval

/-- A write of TIME_CTRL. -/
def State.writeTimeCtrl (s : State) (v : Word) : State :=
  ((s.wrRW R.TIME_CTRL v).clampFld R.TIME_CTRL F.TIME_CTRL_DISPUTE_LIM 1 1000).refShowAll.stationEval

/-- DPLL_LOCK_ACHIEVED: Main (0), Station (1) or Aux (2) has met the bounds of ACQUIRE for 2 s; Time (3) meets R255. -/
def execDpllLockAchieved (d : Fin 4) (s : State) : Out :=
  match d.val with
  | 0 => if s.mainState = 1 then done ((s.mainGo 2 false).stationEval) else .next s
  | 1 => if s.get R.TIME_STATUS F.TIME_STATUS_STN_STATE = 1 then done ((s.dpllGo false 2).stationEval) else .next s
  | 2 => if s.get R.TIME_STATUS F.TIME_STATUS_AUX_STATE = 1 then done ((s.dpllGo true 2).stationEval) else .next s
  | _ => .next (if s.oscIn then s.put R.TIME_STATUS F.TIME_STATUS_TB_LOCK 1 else s)

/-- SWITCHING_CLEAR: the phase error has stayed within 50 ps for 1 s after build-out (R249). -/
def execSwitchingClear (s : State) : Out := .next (s.setSwitching false)

/-- The Time DPLL stops meeting R255 (R247). -/
def State.tbUnlock (s : State) : State :=
  if s.flag R.TIME_STATUS F.TIME_STATUS_TB_LOCK then (s.put R.TIME_STATUS F.TIME_STATUS_TB_LOCK 0).ev evTime srcTB else s

/-- TB_LOCK_LOSS. -/
def execTbLockLoss (s : State) : Out := done s.tbUnlock

/-- OSC_IN_LOSS (R253): backup oscillator, all four DPLLs in FREERUN, one event on TIME.OSC and its live condition. -/
def State.oscLoss (s : State) : State :=
  if !s.oscIn then s
  else
    let s1 := ((({ s with oscIn := false }.mainGo 0 false).dpllGo false 0).dpllGo true 0).tbUnlock
    ((s1.stationEval).ev evTime srcOSC).liveOn evTime srcOSC

def execOscInLoss (s : State) : Out := if s.pwr = .off ∨ s.pwr = .por then .next { s with oscIn := false } else done s.oscLoss

-- Holdover history (R248)

/-- Mean of a list, rounded down. -/
def meanInt (l : List Int) : Int := if l.isEmpty then 0 else l.foldl (· + ·) 0 / (l.length : Int)

/-- The sample of a second: recorded while LOCKED or FOLLOW with SWITCHING 0; the estimate follows once HIST_VALID is 1. -/
def State.histSample (s : State) (freq : Int) : State :=
  if (s.mainState = 2 ∨ s.mainState = 4) ∧ s.flag R.TIME_STATUS F.TIME_STATUS_SWITCHING = false then
    let win := s.get R.TIME_MAIN_CFG F.TIME_MAIN_CFG_HIST_WIN
    let guard := s.get R.TIME_MAIN_CFG F.TIME_MAIN_CFG_HIST_GUARD
    let s1 := { s with hist := (freq :: s.hist).take 3615, histRun := s.histRun + 1 }
    let s2 := if win + guard ≤ s1.histRun then s1.put R.TIME_STATUS F.TIME_STATUS_HIST_VALID 1 else s1
    if s2.histValid && decide (win + guard ≤ s2.hist.length) then
      s2.wr R.TIME_MAIN_HOLD (wordOfInt (meanInt ((s2.hist.drop guard).take win))) else s2
  else { s with histRun := 0 }

/-- What timing does in a second: sample, frequency and phase readings. -/
def State.timeSecond (s : State) (freq phase : Int) : State :=
  ((s.histSample freq).wr R.TIME_MAIN_FREQ (wordOfInt freq)).wr R.TIME_MAIN_PHASE (wordOfInt phase)

-- SYNC_OUT (R257)

/-- SYNC_OUT pulses at the boundary just passed. -/
def State.syncPulse (s : State) : State :=
  let on := match s.get R.TIME_SYNC_CTRL F.TIME_SYNC_CTRL_OUT_MODE with
    | 1 => s.frames % 8000 == 0
    | 2 => s.frames % 4 == 0
    | 3 => true
    | _ => false
  { s with syncOut := on && !s.grave }

-- SYNC_IN (R258)

def syncLosKey : TKey := ⟨.syncLos, ⟨0, 0, 0⟩⟩

def State.syncIn (s : State) : Bool := s.get R.TIME_SYNC_CTRL F.TIME_SYNC_CTRL_IN_MODE == 1

def State.setSyncBit (s : State) (f : Fld) (b : Bool) : State :=
  if s.flag R.TIME_SYNC_STATUS f = b then s
  else (s.put R.TIME_SYNC_STATUS f (if b then 1 else 0)).ev evTime srcSYNC_IN

/-- Time of the time base within its second, in ps. -/
def State.secPs (s : State) (ps : Nat) : Nat := 1000 * (125000 * (s.frames % 8000) + s.ns) + ps

/-- An accepted edge, ps after the present ns: its offset from the nearest second boundary, MISS and SYNC_ERR, SYNC_LOS. An offset
that 32 bits cannot hold leaves a free value in OFS. -/
def State.syncEdge (s : State) (ps : Nat) : State :=
  let x := s.secPs ps
  let ofs : Int := if x ≤ 5 * 10 ^ 11 then (x : Int) else (x : Int) - 10 ^ 12
  let s0 := if -(2 ^ 31) ≤ ofs ∧ ofs < 2 ^ 31 then s.wr R.TIME_SYNC_OFS (wordOfInt ofs)
    else (s.wr R.TIME_SYNC_OFS (BitVec.ofNat 32 s.freeNat)).drawn
  let out := decide (10 ^ 5 * (s.get R.TIME_SYNC_CTRL F.TIME_SYNC_CTRL_WIN) < ofs.natAbs)
  let st := R.TIME_SYNC_STATUS
  let s1 : State := if out then { s0.satInc st F.TIME_SYNC_STATUS_MISS with syncOk := 0 }
    else { s0.put st F.TIME_SYNC_STATUS_MISS 0 with syncOk := min 3 (s0.syncOk + 1) }
  let s2 := if 3 ≤ s1.get st F.TIME_SYNC_STATUS_MISS then s1.setSyncBit F.TIME_SYNC_STATUS_SYNC_ERR true
    else if 3 ≤ s1.syncOk then s1.setSyncBit F.TIME_SYNC_STATUS_SYNC_ERR false else s1
  { (s2.setSyncBit F.TIME_SYNC_STATUS_SYNC_LOS false).startTimerNs syncLosKey 2500000000 with syncLast := some s.clk }

/-- An edge less than 0.9 s after the last accepted one is ignored. -/
def State.syncAccepts (s : State) : Bool :=
  s.syncIn && (match s.syncLast with
    | some t => decide (t + 900000000 ≤ s.clk)
    | none => true)

/-- SYNC_LOS_TIMEOUT: 2.5 s without an accepted edge. -/
def execSyncLosTimeout (s : State) : Out :=
  if s.syncIn && s.timerDone syncLosKey then done ((s.setSyncBit F.TIME_SYNC_STATUS_SYNC_LOS true).stopTimer syncLosKey) else .next s

-- ALIGN and SET_SEC (R259)

/-- Some transaction slot is LIVE (Table 04-9). -/
def State.anyLive (s : State) : Bool := (List.range 8).any (fun k => s.txnLive k)

def State.alignOK (s : State) : Bool := s.syncIn && !s.driving && !s.anyLive
def State.setSecOK (s : State) : Bool := !s.anyLive

/-- A refusal: REJ, the pending bit, one event on TIME.SYNC_IN. -/
def State.epochRefuse (s : State) (pend : Fld) : State :=
  ((s.put R.TIME_SYNC_STATUS F.TIME_SYNC_STATUS_REJ 1).put R.TIME_SYNC_STATUS pend 0).ev evTime srcSYNC_IN

def State.armAlign (s : State) : State :=
  if s.alignOK then s.put R.TIME_SYNC_STATUS F.TIME_SYNC_STATUS_ALIGN_PEND 1 else s.epochRefuse F.TIME_SYNC_STATUS_ALIGN_PEND

def State.armSetSec (s : State) : State :=
  if s.setSecOK then s.put R.TIME_SYNC_STATUS F.TIME_SYNC_STATUS_SET_PEND 1 else s.epochRefuse F.TIME_SYNC_STATUS_SET_PEND

/-- A write of TIME_SYNC_CTRL: its settings, then ALIGN and SET_SEC where their bits are 1. -/
def State.writeSyncCtrl (s : State) (v : Word) : State :=
  let r := R.TIME_SYNC_CTRL
  let s1 := (s.wrRW r v).clampFld r F.TIME_SYNC_CTRL_WIN 1 625
  let s2 := if s1.syncIn && !s.syncIn then s1.startTimerNs syncLosKey 2500000000
    else if s1.syncIn then s1 else s1.stopTimer syncLosKey
  let s3 := if v.getLsbD 31 then s2.armAlign else s2
  if v.getLsbD 30 then s3.armSetSec else s3

/-- SYNC_ALIGN: a write of TIME_SYNC_CTRL with ALIGN 1 and SET_SEC 0. -/
def execSyncAlign (p : Port) (v : Word) (s : State) : Out :=
  done (hostReg p (.syncAlign p v) (fun t => t.writeSyncCtrl ((v &&& 0x3FFFFFFF) ||| 0x80000000)) s)

/-- SYNC_SET_SEC: a write of TIME_SYNC_CTRL with SET_SEC 1 and ALIGN 0. -/
def execSyncSetSec (p : Port) (v : Word) (s : State) : Out :=
  done (hostReg p (.syncSetSec p v) (fun t => t.writeSyncCtrl ((v &&& 0x3FFFFFFF) ||| 0x40000000)) s)

/-- TB_SET in seconds. -/
def State.tbSet (s : State) : Nat :=
  (s.rd R.TIME_TB_SET_LO).toNat + 2 ^ 32 * (s.get R.TIME_TB_SET_HI F.TIME_TB_SET_HI_SEC_HI)

-- The time base (R417)

/-- A read of TIME_TB_W0 latches W1, W2 and TB_FN. -/
def State.tbLatch (s : State) (sub : Nat) : State :=
  let l := s.stamp sub
  (((s.wr R.TIME_TB_W0 (l.getD 0 0)).wr R.TIME_TB_W1 (l.getD 1 0)).wr R.TIME_TB_W2 (l.getD 2 0)).wr R.TIME_TB_FN (BitVec.ofNat 32 s.fn)

/-- TB_SNAPSHOT_READ: the port reads TIME_TB_W0 at a fraction of the present ns. -/
def execTbSnapshotRead (p : Port) (sub : Fin 1024) (s : State) : Out :=
  .next (hostReg p (.tbSnapshotRead p sub) (fun t => (t.tbLatch sub).answer (.word ((t.stamp sub).getD 0 0))) s)

end Sys2Proof.Machine
end

