-- ==== Sys2Proof/Machine/Pair.lean ====
section
/-!
DEFINITION. The redundant pair: mate link, alignment, planned and unplanned handover, shadow compare (R218 to R227).
-/

namespace Sys2Proof.Machine

def State.arbSel (s : State) : Bool := s.flag R.PAIR_STATUS F.PAIR_STATUS_ARB_SEL

def hoWaitKey (i : Nat) : TKey := ⟨.hoWait, ⟨i, 0, 0⟩⟩
def alignKey : TKey := ⟨.align, ⟨0, 0, 0⟩⟩

def State.putPair (s : State) (f : Fld) (b : Bool) : State := s.put R.PAIR_STATUS f (if b then 1 else 0)

/-- ROLE (Table 09-8), HO_STATE, and the Main DPLL's FOLLOW conditions after a change of the pair. -/
def State.pairShow (s : State) : State :=
  let role := if s.driving then 1 else if s.mateUp then 2 else 0
  let ho := if s.hoAgreed.isSome then 2 else if s.hoTake.isSome then 1 else 0
  ((s.put R.PAIR_STATUS F.PAIR_STATUS_ROLE role).put R.PAIR_STATUS F.PAIR_STATUS_HO_STATE ho).followEval

def ctrHoPlanned : Ctr := ⟨R.PAIR_HO_PLANNED_LO, R.PAIR_HO_PLANNED_HI⟩
def ctrHoUnplanned : Ctr := ⟨R.PAIR_HO_UNPLANNED_LO, R.PAIR_HO_UNPLANNED_HI⟩

/-- A handover is completed: its counter, and one event on PAIR.HANDOVER. -/
def State.hoCount (s : State) (planned : Bool) : State :=
  (s.addCtr (if planned then ctrHoPlanned else ctrHoUnplanned) 1).ev evPair srcHANDOVER

/-- YOKE_LOW is the level of the wire, which either package pulls low (Table 09-8). -/
def State.yokeShow (s : State) : State := s.putPair F.PAIR_STATUS_YOKE_LOW (s.yokePull || s.yokeMate)

/-- The package takes the yoke, or lets it go: it pulls YOKE low, or no longer, where the boundary-scan register leaves it the ball
(R221, R405). -/
def State.yokeHold (s : State) (b : Bool) : State := (s.putPair F.PAIR_STATUS_YOKE_HELD b).yokeShow

/-- The mate's pull on the wire, as it is seen now. -/
def State.yokeSeen (s : State) (b : Bool) : State := { s with yokeMate := b }.yokeShow

/-- The package idles its outputs and releases the yoke. -/
def State.idleRelease (s : State) : State :=
  (({ s with drive := false, hoTake := none, hoOp := (0, 0) }.yokeHold false).stopTimer (hoWaitKey 1)).pairShow

/-- The holder sends ACK and is agreed (R224). -/
def State.sendAck (s : State) (f : Nat) : State :=
  ((({ s with hoOp := (2, f), hoTake := none, hoAgreed := some (f, true), hoDone := false }.wr R.PAIR_HO_FN (BitVec.ofNat 32 f)).stopTimer
    (hoWaitKey 1))).pairShow

/-- What ARB_SEL_N, the yoke and the mate link ask for now, outside an agreed handover: a deselected holder answers a TAKE, waits
100 ms for one, once, or releases while the mate link is down; a selected package without the yoke counts its 100 ms (R224 to R226). -/
def State.pairSettle (s : State) : State :=
  if s.hoAgreed.isSome then s.pairShow
  else if s.held then
    let s1 := s.stopTimer (hoWaitKey 0)
    if s.arbSel then ({ s1 with hoWaited := false }.stopTimer (hoWaitKey 1)).pairShow
    else if !s.mateUp then { s1 with hoWaited := false }.idleRelease.hoCount false
    else match s.hoTake with
      | some (f, false) => { s1 with hoWaited := false }.sendAck f
      | _ => (if s1.hoWaited || s1.timerOn (hoWaitKey 1) then s1 else s1.startTimer (hoWaitKey 1) (msFrames 100)).pairShow
  else
    let s1 := { s with hoWaited := false }.stopTimer (hoWaitKey 1)
    if s.arbSel then (if s1.timerOn (hoWaitKey 0) then s1 else s1.startTimer (hoWaitKey 0) (msFrames 100)).pairShow
    else (s1.stopTimer (hoWaitKey 0)).pairShow

-- ARB_SEL_N (R219, R225)

/-- A level of ARB_SEL_N has been accepted. A package that has sent TAKE and is deselected before agreement sends REFUSE. -/
def State.arbChange (s : State) (low : Bool) : State :=
  if s.arbSel = low then s
  else
    let s1 := s.putPair F.PAIR_STATUS_ARB_SEL low
    match s1.hoTake, s1.hoAgreed with
    | some (f, true), none => if low then s1.pairSettle else { s1 with hoTake := none, hoOp := (3, f) }.pairSettle
    | _, _ => s1.pairSettle

/-- ARB_SEL_CHANGE: the level that has held for 1 us. A package without power or under reset takes it up at T0 (R380, R430). -/
def execArbSelChange (low : Bool) (s : State) : Out :=
  if s.pwr = .run then done ({ s with arbLow := low }.arbChange low) else .next { s with arbLow := low }

-- Planned handover (R224)

/-- The selected package may send TAKE. -/
def State.canTake (s : State) : Bool :=
  s.arbSel && !s.held && s.mateUp && s.fullActive && s.hoAgreed.isNone && s.hoTake.isNone
    && (s.flag R.PAIR_STATUS F.PAIR_STATUS_ALIGNED || s.timerDone (hoWaitKey 0))

/-- HO_TAKE_SEND: TAKE with HO_FN = FN + HO_LEAD. -/
def execHoTakeSend (s : State) : Out :=
  if s.canTake then
    let f := (s.fn + s.get R.PAIR_CTRL F.PAIR_CTRL_HO_LEAD) % 2 ^ 32
    done ({ s with hoTake := some (f, true), hoOp := (1, f) }.pairShow)
  else .next s

/-- MATE_TAKE_RECEIVE: a holder takes note of the TAKE, and answers it while deselected. -/
def execMateTakeReceive (f : Word) (s : State) : Out :=
  if s.mateUp && s.held && s.hoAgreed.isNone then done ({ s with hoTake := some (f.toNat, false) }.pairSettle) else .next s

/-- MATE_ACK_RECEIVE: an ACK before the start of frame HO_FN - 1 makes the selected package agreed, and it pulls YOKE low; a later
one is ignored, and a new TAKE may be sent. -/
def execMateAckReceive (f : Word) (s : State) : Out :=
  if s.hoTake = some (f.toNat, true) ∧ s.hoAgreed = none then
    (if 2 ≤ s.framesTo f.toNat then
      done (({ s with hoTake := none, hoOp := (0, 0), hoAgreed := some (f.toNat, false), hoDone := false }.wr R.PAIR_HO_FN f).yokeHold
        true |>.pairShow)
     else done ({ s with hoTake := none, hoOp := (0, 0) }.pairShow))
  else .next s

/-- MATE_REFUSE_RECEIVE: the proposal of that FN is dropped (R225). -/
def execMateRefuseReceive (f : Word) (s : State) : Out :=
  if s.hoTake = some (f.toNat, false) then done ({ s with hoTake := none }.pairSettle)
  else if s.hoAgreed = some (f.toNat, true) ∧ s.hoDone = false then done ({ s with hoAgreed := none, hoOp := (0, 0) }.pairSettle)
  else .next s

/-- HO_SWITCH: at FN_h an agreed package changes every output: the outgoing one idles, the incoming one drives. -/
def execHoSwitch (s : State) : Out :=
  match s.hoAgreed with
  | some (f, out) => if s.fn = f ∧ s.hoDone = false then done ({ s with drive := !out, driveAt := (s.up, 0), hoDone := true, hoOp := (0, 0) }.pairShow) else .next s
  | none => .next s

/-- HO_YOKE_RELEASE: FN_h + 1 us. The outgoing side releases the yoke; `low` is the level of the wire after that, which tells
whether the other side holds it. A handover of a holder whose counterpart was not agreed counts as unplanned (R225). -/
def execHoYokeRelease (low : Bool) (s : State) : Out :=
  match s.hoAgreed with
  | some (f, out) =>
    if s.hoDone && (s.fn != f || decide (1000 ≤ s.ns)) then
      let s1 := { s with hoAgreed := none, hoDone := false }
      if out then
        done (({ s1 with yokeMate := low }.yokeHold false).hoCount low |>.pairSettle)
      else done ((s1.hoCount true).pairSettle)
    else .next s
  | none => .next s

-- Unplanned handover (R226)

/-- How long YOKE must have been high, in ns. -/
def State.yokeWait (s : State) : Nat := if s.sideB then 20000 else 10000

/-- YOKE_TAKE_UNPLANNED: the wire has been high without a break for `high` ns up to this instant. The package pulls YOKE low and drives each
output from its next window position. A package without power or under reset takes nothing (R380, R430). -/
def execYokeTakeUnplanned (high : Nat) (s : State) : Out :=
  if s.pwr == .run && s.arbSel && !s.held && s.hoAgreed.isNone && (!s.mateUp || decide (2 ≤ s.mateIdle)) && decide (s.yokeWait ≤ high) then
    done (({ s with drive := true, driveAt := (s.up, s.ns), hoTake := none, hoOp := (0, 0), yokeMate := false }.yokeHold true).hoCount false |>.pairSettle)
  else .next s

/-- HO_TAKE_WAIT_TIMEOUT: a deselected holder has had no TAKE for 100 ms; it keeps driving, and this wait counts no second event. -/
def execHoTakeWaitTimeout (s : State) : Out :=
  if s.held && !s.arbSel && s.mateUp && s.timerDone (hoWaitKey 1) then done (({ s with hoWaited := true }.stopTimer (hoWaitKey 1)).ev evPair srcARB) else .next s

-- Alignment (R223)

/-- Delta in ps from the package's own theta and the mate's. -/
def State.delta (s : State) (own mate : Int) : Int :=
  let tx : Int := s.get R.PAIR_MATE_DLY F.PAIR_MATE_DLY_D_TX
  let rx : Int := s.get R.PAIR_MATE_DLY F.PAIR_MATE_DLY_D_RX
  if s.sideB then (mate - own + rx - tx) / 2 else (own - mate + tx - rx) / 2

def State.setAligned (s : State) (b : Bool) : State :=
  if s.flag R.PAIR_STATUS F.PAIR_STATUS_ALIGNED = b then s else (s.putPair F.PAIR_STATUS_ALIGNED b).ev evPair srcALIGN

/-- ALIGNED by the last delta: cleared above 80 ps; the second of |delta| within 60 ps runs, or starts again. -/
def State.alignStep (s : State) : State :=
  let d := (s.rd R.PAIR_OFFSET).toInt.natAbs
  if !s.mateUp then (s.setAligned false).stopTimer alignKey
  else
    let s1 := if 80 < d then s.setAligned false else s
    if 60 < d then s1.stopTimer alignKey
    else if s1.timerOn alignKey then s1 else s1.startTimerNs alignKey 1000000000

/-- ALIGN_QUALIFY: |delta| has stayed at most 60 ps for 1 s, or it exceeds 80 ps. -/
def execAlignQualify (s : State) : Out :=
  let s1 := s.alignStep
  done (if s1.mateUp && s1.timerDone alignKey then s1.setAligned true else s1)

/-- Shift of the transmit phase of LU n, in ps (R223). -/
def State.luTrim (s : State) (n : Nat) : Int :=
  if s.followCond then
    let x : Int := (s.get (R.PAIR_LU_DLY n) F.PAIR_LU_DLY_MATE_DLY : Int) - s.get (R.PAIR_LU_DLY n) F.PAIR_LU_DLY_DLY
    max (-2000) (min 2000 x)
  else 0

-- The mate link (R222)

/-- The mate link goes down: what the mate reports is no longer reported. -/
def State.mateDown (s : State) : State :=
  if s.mateUp then
    (((({ s with mateIdle := 0, bothAct := 0, bothSel := 0, mateShadow := false }.putPair F.PAIR_STATUS_MATE_UP false).putPair
      F.PAIR_STATUS_MATE_ACTIVE false).put R.TXN_MIRROR_CTRL F.TXN_MIRROR_CTRL_MATE_OK 0).ev evPair srcMATE_LINK).alignStep.pairSettle
  else s

/-- Side B gives way when both report ACTIVE in 2 consecutive frames, outside an agreed handover (R221); both selected counts on
PAIR.ARB (R225). -/
def State.mateConflicts (s : State) (act arb : Bool) : State :=
  let both := act && s.held && s.hoAgreed.isNone
  let sel := arb && s.arbSel
  let s1 := { s with mateIdle := if act then 0 else min 2 (s.mateIdle + 1), bothAct := if both then min 3 (s.bothAct + 1) else 0,
                     bothSel := if sel then min 3 (s.bothSel + 1) else 0 }
  let s2 := if s1.bothSel = 2 then s1.ev evPair srcARB else s1
  if s2.bothAct = 2 ∧ s2.sideB = true then { s2 with bothAct := 0 }.idleRelease.ev evPair srcYOKE else s2

/-- What a mate frame's block area carries, which the spec leaves to the two packages (R222): the mate's ARB_SEL, SHADOW_EN and
mirror ENABLE, its DLY of each LU and then its D_TX (R365), its S1 of each LU, and the FN and values of its shadow CRCs. -/
def State.mateArea (s : State) (shadow mirror : Bool) (dly : List (BitVec 16)) (s1s : List (Fin 16)) : State :=
  let s1 := (List.range 128).foldl (fun t n => match dly[n]? with
    | some v => t.put (R.PAIR_LU_DLY n) F.PAIR_LU_DLY_MATE_DLY v.toNat
    | none => t) s
  let s1' := match dly[128]? with
    | some v => if s1.flag R.MON_CTRL F.MON_CTRL_PAIR_AUTO then s1.put R.PAIR_MATE_DLY F.PAIR_MATE_DLY_D_RX v.toNat else s1
    | none => s1
  let s2 := s1'.put R.TXN_MIRROR_CTRL F.TXN_MIRROR_CTRL_MATE_OK (if mirror then 1 else 0)
  { s2 with mateShadow := shadow, mateS1 := (s1s.zipIdx.map (fun e => (e.2, e.1.val))).filter (fun e => e.2 != 15) }

/-- A mate frame that meets R222. -/
def State.mateFrame (s : State) (h : List Byte) (theta : Int) (arb shadow mirror : Bool) (dly : List (BitVec 16)) (s1s : List (Fin 16))
    (cf : Nat) (crcs : List (Nat × Word)) : State :=
  let act := (beAt h 7 1).testBit 7
  let s0 := { s with mateBad := 0, theta := theta }
  let s1 := if s0.mateUp then s0 else (s0.putPair F.PAIR_STATUS_MATE_UP true).ev evPair srcMATE_LINK
  let s2 := (s1.mateArea shadow mirror dly s1s).putPair F.PAIR_STATUS_MATE_ACTIVE act
  let s3 := (s2.wr R.PAIR_OFFSET (wordOfInt (s2.delta theta (sInt 32 (beAt h 16 4))))).alignStep
  ((s3.mateConflicts act arb).shadowCompare cf crcs).pairSettle

/-- MATE_FRAME_RECEIVE: a frame time of the mate link: whether its framer has neither LOS nor LOF, the descrambled header, the measured
theta in ps, and the block area; and whether the mate pulls YOKE low at that time. HO_OP arrives by the commands MATE_TAKE_RECEIVE, MATE_ACK_RECEIVE and MATE_REFUSE_RECEIVE. -/
def execMateFrameReceive (framed : Bool) (hdr : List Byte) (theta : Int) (arb shadow mirror : Bool) (dly : List (BitVec 16))
    (s1s : List (Fin 16)) (cf : Word) (crcs : List (Nat × Word)) (yoke : Bool) (s0 : State) : Out :=
  if s0.pwr ≠ .run then .next s0 else
  let s := s0.yokeSeen yoke
  if framed && hdr.length == 64 && tgHeaderOK hdr 1 && (beAt hdr 6 1).testBit 7 != s.sideB then
    done (s.mateFrame hdr theta arb shadow mirror dly s1s cf.toNat crcs)
  else
    let s1 := { s with mateBad := min 3 (s.mateBad + 1) }
    done (if s1.mateBad = 3 then s1.mateDown else s1)

/-- A write of PAIR_CTRL (Table 09-8). -/
def State.writePairCtrl (s : State) (v : Word) : State :=
  (((s.wrRW R.PAIR_CTRL v).clampFld R.PAIR_CTRL F.PAIR_CTRL_HO_LEAD 3 15).updHealth).pairShow

end Sys2Proof.Machine
end

