-- ==== Sys2Proof/Machine/Slab.lean ====
section
/-!
DEFINITION. The slot store: cells, slabs, their protection, spare banks and diagnostic access (R60 to R74), and what the read side
delivers (R62, R63, R80, R180, R303).
-/

namespace Sys2Proof.Machine

-- Words and banks (R64, R65, R71)

def emptySlab : SlabWord := ⟨0, 0, 0, [], false⟩

/-- Store key of word w of physical bank pb of region g; spare k is physical bank 96 + k. -/
def slabKey (g pb w : Nat) : Nat := 2 ^ 21 * g + 2 ^ 14 * pb + w
def State.slab (s : State) (k : Nat) : SlabWord := look (fun _ => emptySlab) s.slabs k
def State.setSlab (s : State) (k : Nat) (x : SlabWord) : State := { s with slabs := store id (fun _ => emptySlab) s.slabs k x }

def State.spareUsed (s : State) (g k : Nat) : Nat := look (fun _ => 0) s.spareOn (2 * g + k)

/-- Physical bank of a logical bank. -/
def State.pbank (s : State) (g b : Nat) : Nat := if s.spareUsed g 0 = b + 1 then 96 else if s.spareUsed g 1 = b + 1 then 97 else b

/-- The logical bank that spare k of region g is to replace, + 1; 0 none. Of two spares assigned to one bank the later one replaces it, the
first having failed in its turn (R71). -/
def State.spareWant (s : State) (g k : Nat) : Nat :=
  let bank (i : Nat) : Nat := if s.flag (R.RG_SLAB_SPARE g i) F.RG_SLAB_SPARE_VALID then s.get (R.RG_SLAB_SPARE g i) F.RG_SLAB_SPARE_LOGICAL + 1 else 0
  if bank k = bank (1 - k) ∧ look (fun _ => 0) s.spareLast g ≠ k then 0 else bank k

def State.slabDepth (s : State) (g : Nat) : Nat := if s.regionPowered g then s.depthOf (g / 2) else 0
def State.slabRead (s : State) (g : Nat) : Nat := s.get (R.RG_SLAB_STATUS g) F.RG_SLAB_STATUS_SLAB_READ

/-- Slab of egress frame ef, an uptime frame not before the present one. -/
def State.slabOf (s : State) (g ef : Nat) : Nat := (s.slabRead g + (ef - s.up)) % max 1 (s.slabDepth g)

/-- A grain of a word's lane. -/
def slabLane (x : SlabWord) (e : Nat) : Grain := (x.data >>> (10 * e)).setWidth 10
def setLane (x : BitVec 80) (e : Nat) (g : Grain) : BitVec 80 :=
  (x &&& ~~~((0x3FF : BitVec 80) <<< (10 * e))) ||| (g.setWidth 80 <<< (10 * e))

/-- The eight lanes as substitute grains. -/
def subWord : BitVec 80 := (List.range 8).foldl (fun x e => setLane x e subGrain) 0

-- Protection (R70)

/-- Flips stored bits: each physical bank, word and bit (an upset). -/
def State.upset (s : State) (g : Nat) (l : List (Nat × Nat × Nat)) : State :=
  l.foldl (fun t e => let k := slabKey g e.1 e.2.1; t.setSlab k { t.slab k with flip := (t.slab k).flip ^^^ ((1 : BitVec 88) <<< e.2.2) }) s

def flipCount (f : BitVec 88) : Nat := ((List.range 88).filter (fun i => f.getLsbD i)).length

/-- One checked error of logical bank b, word w: its counter, RG_SLAB_ECC_LAST and the event. -/
def State.slabErr (s : State) (g b w : Nat) (bit : Option Nat) : State :=
  let s1 := match bit with
    | some _ => s.addCtr ⟨R.RG_SLAB_CE_LO g, R.RG_SLAB_CE_HI g⟩ 1
    | none => s.addCtr ⟨R.RG_SLAB_UE_LO g, R.RG_SLAB_UE_HI g⟩ 1
  let r := R.RG_SLAB_ECC_LAST g
  let s2 := if s1.flag r F.RG_SLAB_ECC_LAST_UE then s1
    else s1.wr r (BitVec.ofNat 32 ((if bit.isNone then 2 ^ 31 else 0) + 2 ^ 24 * b + 2 ^ 10 * w + bit.getD 0x7F))
  s2.event (evRegion g) srcSLAB_ECC (BitVec.ofNat 32 b)

/-- A word read with its check: corrected, or with every lane substituted; a correctable error or an uncorrectable one is counted. -/
def State.slabCheck (s : State) (g b w : Nat) : State × SlabWord :=
  let x := s.slab (slabKey g (s.pbank g b) w)
  match flipCount x.flip with
  | 0 => (s, x)
  | 1 => (s.slabErr g b w ((List.range 88).find? (fun i => x.flip.getLsbD i)), { x with flip := 0 })
  | _ => (s.slabErr g b w none, { x with flip := 0, data := subWord })

/-- An armed injection strikes a word as it is written (R73). R74 gives BIT_A and BIT_B the range 0 to 87 and no rule for a larger value but
the 0x7F of BIT_B: one is stored, names no bit, and the write that it would have struck disarms it all the same (DESIGN CHOICE,
notes/assumptions/62.md). -/
def State.slabInject (s : State) (g b w : Nat) : State × BitVec 88 :=
  let r := R.RG_SLAB_ECC_INJ g
  let a := R.RG_SLAB_DIAG_ADDR g
  if s.flag r F.RG_SLAB_ECC_INJ_ARM && s.get a F.RG_SLAB_DIAG_ADDR_LOGICAL == b && s.get a F.RG_SLAB_DIAG_ADDR_WORD == w then
    let one (i : Nat) : BitVec 88 := if i < 88 then (1 : BitVec 88) <<< i else 0
    (s.put r F.RG_SLAB_ECC_INJ_ARM 0, one (s.get r F.RG_SLAB_ECC_INJ_BIT_A) ^^^ one (s.get r F.RG_SLAB_ECC_INJ_BIT_B))
  else (s, 0)

/-- One late grain or cell of logical bank b (R63). -/
def State.slabLate (s : State) (g b : Nat) : State :=
  (s.addCtr ⟨R.RG_SLAB_LATE_LO g, R.RG_SLAB_LATE_HI g⟩ 1).event (evRegion g) srcSLAB_LATE (BitVec.ofNat 32 b)

/-- Writes a grain into the cell of position q of link n for egress frame ef (R60, R61, R63, R65). -/
def State.cellPut (s : State) (n q ef : Nat) (gr : Grain) : State :=
  let g := luRegion n
  let dep := s.slabDepth g
  let b := cellBank (s.slabOf g ef) (n % 16) q
  if dep = 0 ∨ s.up + dep ≤ ef then s
  else if ef < s.up then s.slabLate g (cellBank ((s.slabRead g + dep - (s.up - ef) % dep) % dep) (n % 16) q)
  else
    let k := slabKey g (s.pbank g b) (cellWord q)
    let x := s.slab k
    if x.ef = ef ∧ x.gone = true then s.slabLate g b
    else if x.ef = ef ∧ x.filled.contains (cellLane q) = true then s
    else
      let (s1, y) := s.slabCheck g b (cellWord q)
      let (s2, f) := s1.slabInject g b (cellWord q)
      let filled := if x.ef = ef then x.filled else []
      s2.setSlab k ⟨setLane y.data (cellLane q) gr, f, ef, filled ++ [cellLane q], false⟩

-- The map of an egress frame (R66)

/-- The state with the maps in force for egress frame ef: those of sealed transactions whose commit frame it has reached. -/
def State.mapAt (s : State) (ef : Nat) : State :=
  ((List.range 8).filter (fun k => s.txnState k == txSEALED && decide (fnDelta s.fn (s.commitFn k) ≤ ef - s.up))).foldl (fun t k =>
    (s.slot k).recs.foldl (fun u r =>
      let v := u.mapRec r
      if r.isConn && r.hasSnc && !u.keepsSel r then v.setSnc r.key emptySnc else v) t) s

/-- What plays holds its cells in egress frame ef: from the start frame of its job to the release frame (R303, R304), or until the deletion
of its group takes effect (R174). -/
def State.playHolds (s : State) (n : Nat) (e : Play) (ef : Nat) : Bool :=
  let d := luDie n
  if e.x.mem.isSome then s.grpGone.all (fun y => y.1 != tapGrp d e.x.tap || y.2.2.st != 3 || decide (ef < y.2.1))
  else
    match e.job with
    | none => false
    | some j =>
      if s.poSt d j = poPLAYING then true
      else if s.poSt d j = poPENDING then decide (s.up + fnDelta s.fn (s.pour d j).start ≤ ef)
      else
        match (s.pour d j).endUp with
        | some e => let first := e + 2; decide (ef < first + (4 - (s.frames + (first - s.up)) % 4) % 4)
        | none => false

/-- A Pour job's target or a group's egress member holds the cell of position q of link n in egress frame ef, where a group may take effect by
then (R169, R303). -/
def State.pourHolds (s : State) (n q ef : Nat) : Bool :=
  let k := (s.outNAt n ef).getD 0
  (s.playsIn [poPENDING, poPLAYING, poENDING] n).any (fun e => (s.playSlot e q).isSome && s.playHolds n e ef)
    || s.grps.any (fun e => e.2.st == 2 && e.2.mode == 3 && decide (e.2.eff ≤ ef)
        && e.2.outs.any (fun w => taLink (memTA w) == n && k != 0 && (slotAt (memAu3 w) (memTA w) 0 k q 0).isSome))

-- Selection at a cell (R60, R196)

/-- Time within the frame, as a fraction of the positions of a frame of order n, compared: position p of order n not before q of order m. -/
def notBefore (p n q m : Nat) : Bool := decide (q * n ≤ p * m)

/-- The egress frame of a grain that left position p of order n in frame dep, at its time or `leave` ps into the frame, for position q of
order m (R65, R217). -/
def egressFrame (dep : Nat) (leave : Option Nat) (p n q m : Nat) : Nat :=
  let ok := match leave with
    | none => notBefore q m p n
    | some t => decide (t * (2430 * m) ≤ q * 125000000)
  if ok then dep else dep + 1

/-- When the grain of source t (of order k) from position p reaches the write side for position q (of order m) of egress frame ef, in ps from
uptime frame 0: at its time in the system frame, where a realigner or the hold of a 3-slab die gives it one; a held grain arrives with its
lateness A before the reference instant that it waits for (R201), and one of a TG link of a 2-slab die with A after its position's time, for
the first frame that it can still reach (R217). Of a merged link's two copies the first of a feed that has not failed counts (R203); none
where both have. -/
def State.grainArrival (s : State) (de ef : Nat) (t : TA) (nc k p m q : Nat) : Option Int :=
  let n := taLink t
  let tp : Int := (125000000 * p / (2430 * k) : Nat)
  let tq : Int := (125000000 * q / (2430 * m) : Nat)
  let own : Int := 125000000 * (if notBefore q m p k then ef else ef - 1 : Nat) + tp
  let one (f : Nat) : Int :=
    if s.isTG f then
      let a := tgLate (s.tgSt f).late 0 p
      if s.depthOf (luDie f) = 3 then own - (125000000 - a)
      else 125000000 * ((125000000 * (ef : Int) + tq - tp - a) / 125000000) + tp + a
    else own
  let feeds := match s.mergeAlt n with
    | some x => [n, x].filter (fun f => !s.feedFailed de f t nc)
    | none => [s.feedLU n]
  (feeds.map one).foldl (fun (b : Option Int) x => some (match b with | some y => min x y | none => x)) none

/-- The source from which the cell takes its grain: the selected one, or the one before the last change of selection where that change
came while the cell's window was open and the new source's grain had already arrived. -/
def State.cellSource (s : State) (r : Rec) (q m ef : Nat) : TA :=
  let x := s.sncSt r.key
  let now := s.selected r
  let old := if x.alt then r.src else r.alt
  match x.chg with
  | none => now
  | some (cu, cns) =>
    if !r.hasSnc then now
    else
      let k := (s.nLink (taLink now)).getD 0
      match trMap r.egAu3 r.eg m (s.srcAu3 now) now k r.nc q with
      | none => now
      | some p =>
        let open' := decide (ef + 1 ≤ cu + s.slabDepth (luRegion (taLink r.eg))) && (decide (cu < ef) || (cu == ef && decide (cns < tauNs m q + 38)))
        let here := (s.grainArrival (luDie (taLink r.eg)) ef now r.nc k p m q).any (fun (a : Int) => decide (a ≤ 125000000 * (cu : Int) + 1000 * (cns : Int)))
        if open' && here then old else now

/-- The justification that the grains of source src show in the multiframe of uptime frame p: its realigner's, or, where they leave a deskew,
that of the reference's grains 4 frames before (R134, R170). -/
def State.shownJust (s : State) (eq : Bool) (src : TA) (p : Nat) : Nat :=
  let code (a : Ahead) : Nat := if a.neg then 1 else if a.pos then 2 else 0
  if eq then
    match (s.equaliser (s.srcAu3 src) src).bind (fun e => e.2.1.ingress e.2.1.ref) with
    | some (ra, rt) => code (s.heldRead ra rt (p - 4))
    | none => 0
  else
    let u := onLink src (s.feedLU (taLink src))
    if s.ptrState (s.srcAu3 u) u = 0 then (s.path (s.srcAu3 u) u).justIn p else 0

/-- The markers of a TU-2, TU-12 or TU-11 at the positions of its cells: an opportunity is marked in the egress frame that carries V3, which
for a cell before its ingress position is the frame after the one in which the grain was marked (R54, R134; the worked example of R138). Grains
of TG links keep their markers, and a substitute grain gets none (R55). -/
def State.oppMark (s : State) (r : Rec) (src : TA) (q m ef : Nat) (f : FabGrain) : Grain :=
  let u := onLink src (s.feedLU (taLink src))
  let kind := taKind src
  if kind < 5 ∨ (s.isTG (taLink u) = true ∧ f.eq = false) ∨ f.g = subGrain ∨ oddParity f.g = false then f.g
  else
    let just (e : Nat) : Nat := s.shownJust f.eq src (s.periodAt kind e)
    let d : Byte := f.g.setWidth 8
    let start := f.g.getLsbD 9 && (match slotAt (s.srcAu3 u) u 0 ((s.nLink (taLink u)).getD 0) f.pos (s.mfOf f.dep) with
      | some .neg => false
      | some .pos => just f.dep != 2
      | _ => true)
    match slotAt r.egAu3 r.eg r.nc m q (s.mfOf ef) with
    | some .neg => mkGrain (just ef == 1) d
    | some .pos => mkGrain (start || just ef == 2) d
    | _ => mkGrain start d

/-- Where a grain of position f.pos of source src, of order k, goes for entry r: its position on the egress link, the egress frame, and the
order of the link in that frame. An entry beyond the rate of its link takes none (R95). -/
def State.cellAt (s : State) (r : Rec) (src : TA) (k : Nat) (f : FabGrain) : Option (Nat × Nat × Nat) :=
  let n := taLink r.eg
  let at' (m : Nat) : Option (Nat × Nat × Nat) :=
    if taInRate r.eg r.nc m then
      (trMap (s.srcAu3 src) src k r.egAu3 r.eg m r.nc f.pos).map (fun q => (q, egressFrame f.dep f.leave f.pos k q m, m))
    else none
  match ((s.outN n).bind at').filter (fun x => decide (x.2.1 ≤ s.up)) with
  | some x => some x
  | none => ((s.nLink n).bind at').filter (fun x => decide (s.up < x.2.1))

/-- A grain of name l, position p, that left in frame dep, reaches the cells of region g whose entries take it. -/
def State.cellFabric (s : State) (g : Nat) (f : FabGrain) : State :=
  match s.nLink f.link with
  | none => s
  | some k =>
    (((s.mapAt f.dep).entries ++ (s.mapAt (f.dep + 1)).entries).eraseDups.filter (fun r => r.typ == tyConnect && luRegion (taLink r.eg) == g)).foldl (fun t r =>
      [r.src, r.alt].eraseDups.foldl (fun u src =>
        if taLink src ≠ f.link ∨ servesKind f.whole f.trib src = false then u
        else
          match s.cellAt r src k f with
          | none => u
          | some (q, ef, m) =>
            let v := s.mapAt ef
            if v.entry r.key == some r && v.cellSource r q m ef == src && f.eq == (s.equaliser (s.srcAu3 src) src).isSome
                && !s.pourHolds (taLink r.eg) q ef then u.cellPut (taLink r.eg) q ef (s.oppMark r src q m ef f)
            else u) t) s

/-- A grain of Pour crosses from die common into region g (Table 01-3): checked, and written into its cell. -/
def State.pourCross (s : State) (g l p : Nat) (x : CellFaults) (gr : Grain) : State :=
  let a := (if x.sram = .uncorrectable then subGrain else gr) ^^^ x.flip
  let s1 := (s.evIf (x.sram != .ok) (evDie (g / 2)) srcSRAM).cellPut l p s.up (crossed a)
  if oddParity a then s1 else s1.parityFail (.region g 0xF)

/-- CELL_WRITE: a grain arrives at the write side of region g: the oldest dispatched grain of name l, position p; or, with `pour`, the grain
that Pour gives position p of egress link l (R303), checked where it crosses into the region (R14). Nothing is written while the region's
island is stopped in fence mode (Table 14-11). -/
def execCellWrite (g : Fin 8) (l : Fin 128) (p : Fin 155520) (pour : Bool) (x : CellFaults) (s : State) : Out :=
  let s0 := (s.upset g x.ups).evIf x.gather (evRegion g) srcGATHER
  if s.regionStopped g then done s0
  else if pour then
    (if luRegion l = g then
      match s0.pourGrain l p x.late x.errs with
      | (s1, some gr) => done (s1.pourCross g l p x gr)
      | (s1, none) => done s1
     else done s0)
  else
    match s0.fabric.findIdx? (fun f => f.die == g.val / 2 && f.link == l.val && f.pos == p.val && f.regs.contains g.val) with
    | none => done s0
    | some i =>
      match s0.fabric[i]? with
      | none => done s0
      | some f =>
        let regs := f.regs.filter (fun x => x != g.val)
        let s1 := { s0 with fabric := if regs.isEmpty then s0.fabric.eraseIdx i else s0.fabric.set i { f with regs := regs } }
        done (s1.cellFabric g f)

-- The read side (R62, R63, R80)

/-- The entry whose tributary holds position q of link n; one beyond the rate of the link holds none (R95). -/
def State.entryAt (s : State) (n q : Nat) : Option Rec :=
  match s.outN n with
  | none => none
  | some m => s.entries.find? (fun r => taLink r.eg == n && taInRate r.eg r.nc m && (slotAt r.egAu3 r.eg r.nc m q (s.fn % 4)).isSome)

/-- The kind-0 entry of link n. -/
def State.wholeEntry (s : State) (n : Nat) : Option Rec := s.entry (egName false (linkTA n))

/-- The source link of a kind-0 entry is a line link in IF and has not failed: its bytes may pass. The section overhead of a protection link
remains its own while a bridge gives it another link's content (R180). -/
def State.passes (s : State) (n : Nat) : Bool :=
  s.bridgedFrom n == some n && match s.wholeEntry n with
  | some r =>
      r.typ == tyConnect && (let t := s.selected r
        let f := s.feedLU (taLink t)
        s.isLine f && (s.secSt f).inFrame && !s.srcFailed (luDie n) t r.nc)
  | none => false

/-- The pass-through group of the overhead byte at row r and column c of a link of order k (Table 05-3); none where the LU always makes the
byte. -/
def ohGroup (k r c : Nat) : Option Fld :=
  let three := c == 0 || c == 3 * k || c == 6 * k
  match r with
  | 0 => if c = 6 * k then some F.LU_SEC_OHSRC_J0 else if 7 * k ≤ c then some F.LU_SEC_OHSRC_NAT else none
  | 1 => if c = 3 * k then some F.LU_SEC_OHSRC_E1 else if c = 6 * k then some F.LU_SEC_OHSRC_F1 else none
  | 2 => if three then some F.LU_SEC_OHSRC_DCC_R else none
  | 4 => if c = 3 * k ∨ c = 6 * k then some F.LU_SEC_OHSRC_K else none
  | 8 => if c = 6 * k then some F.LU_SEC_OHSRC_E2 else none
  | 3 => none
  | _ => if three then some F.LU_SEC_OHSRC_DCC_M else none

/-- The read side reads the cell of position q of a link with a kind-0 entry: content of its AUGs, pointer rows of a line link, and overhead
bytes that pass from the source (R62, R213). -/
def State.wholeReads (s : State) (n k q : Nat) : Bool :=
  let r := q / (270 * k)
  let c := q % (270 * k)
  if 9 * k ≤ c then true
  else if s.isTG n then r == 3 && decide (6 * k ≤ c)
  else r == 3 || (match ohGroup k r c with
    | some f => s.get (R.LU_SEC_OHSRC n) f == 1 && s.passes n
    | none => false)

/-- What the read side delivers to LU m at position q of link n, whose cells it sends, and whether the cell was late. Rows 1 to 3 of a forced
line go on as set (R109), and pointer bytes and fixed stuff that the LU makes itself need no cell. A source in a region that is re-benched
gives a TG output void grains in place of path AIS (R25). -/
def State.readOut (s : State) (n m q : Nat) (x : SlabWord) : Option Grain × Bool :=
  let tg := s.isTG n
  let ais : Grain := if tg then voidGrain else subGrain
  let cell := if x.ef = s.up ∧ x.filled.contains (cellLane q) = true then some (slabLane x (cellLane q)) else none
  let k := (s.outN n).getD 0
  let rowsTop := !tg && decide (q < 810 * k) && decide (q % (270 * k) < 9 * k)
  if s.outForced m && !rowsTop then (some ais, false)
  else
    match s.playAt [poPLAYING, poENDING] n q with
    | some (e, _) =>
        if s.playEnded n e then (some (if taKind e.t = 0 then ais else mkGrain false 0), false)
        else if e.injects 5 then (some (mkGrain false 0), false)
        else if e.injects 4 then (some subGrain, false)
        else (some (cell.getD subGrain), false)
    | none =>
      match s.entryAt n q with
      | none => (some (mkGrain false 0), false)
      | some r =>
        match s.gatherOn m r with
        | .forced => (cell, false)
        | .pathAis => (some (if tg && r.typ == tyConnect && s.srcBenched (s.selected r) then voidGrain else subGrain), false)
        | .unequipped => (some (mkGrain false 0), false)
        | .follow =>
          match cell with
          | some gr => (some gr, false)
          | none =>
            match slotAt r.egAu3 r.eg r.nc k q (s.fn % 4) with
            | some .ptr => (none, false)
            | some .fix => (none, false)
            | _ => if taKind r.eg ≠ 0 ∨ s.wholeReads n k q = true then (some subGrain, true) else (none, false)

/-- A word as it stays in the store once it has been read for egress frame up: its stored bits are as they were (R70). -/
def SlabWord.taken (x : SlabWord) (up : Nat) : SlabWord :=
  { x with ef := up, filled := if x.ef = up then x.filled else [], gone := true }

/-- Puts a grain at position q of LU m's output. -/
def State.putOut (s : State) (m q : Nat) (gr : Option Grain) : State :=
  match gr with
  | some gr => { s with txGrains := store id (fun _ => (0 : Grain)) s.txGrains (155520 * m + q) gr }
  | none => s

/-- Reads word w of link n's cells once, and puts its grains at the outputs of the LUs `outs`, which a bridge adds to without another access
(R180): a late cell counts once. The words beyond the positions of the link are never read (R64). -/
def State.readWord (s : State) (n w : Nat) (outs : List Nat) : State :=
  let g := luRegion n
  let q0 := 8 * w
  let lim := frameBytes ((s.outN n).getD 0)
  if outs.isEmpty || decide (lim ≤ q0) then s
  else
    let b := cellBank (s.slabRead g) (n % 16) q0
    let (s1, x) := s.slabCheck g b (cellWord q0)
    let key := slabKey g (s.pbank g b) (cellWord q0)
    let s2 := s1.setSlab key ((s1.slab key).taken s.up)
    (List.range 8).foldl (fun t e =>
      let q := q0 + e
      if lim ≤ q then t
      else
        let t1 := if outs.any (fun m => (s2.readOut n m q x).2) then t.slabLate g b else t
        outs.foldl (fun u m => u.putOut m q (s2.readOut n m q x).1) t1) s2

/-- CELL_READ: the read side reads word w of the cells of link n: positions 8 w to 8 w + 7 of the present egress frame. A protection link
is given the cells of the link that its bridge names (R180). -/
def execCellRead (n : Fin 128) (w : Fin 19440) (ups : List (Nat × Nat × Nat)) (s : State) : Out :=
  let s0 := s.upset (luRegion n) ups
  if s0.slabDepth (luRegion n) = 0 || s0.regionStopped (luRegion n) then .next s0
  else
    let outs := ((List.range 16).map (fun i => 16 * luRegion n + i)).filter (fun m => s0.bridgedFrom m == some n.val)
    done (s0.readWord n w outs)

-- Spare banks (R71)

/-- A host write of RG_SLAB_SPAREk. -/
def State.writeSpare (s : State) (g k : Nat) (v : Word) : State :=
  let r := R.RG_SLAB_SPARE g k
  let bank := fget v F.RG_SLAB_SPARE_LOGICAL
  let other := R.RG_SLAB_SPARE g (1 - k)
  if fget v F.RG_SLAB_SPARE_VALID = 1 then
    (if (s.flag other F.RG_SLAB_SPARE_VALID && s.get other F.RG_SLAB_SPARE_LOGICAL == bank) || decide (32 * s.slabDepth g ≤ bank) then
       s.put (R.RG_SLAB_STATUS g) F.RG_SLAB_STATUS_SPARE_REJ 1
     else ((s.wr r (BitVec.ofNat 32 (2 ^ 31 + bank))).updSpareFree g).spareTaken g k)
  else (s.wr r (BitVec.ofNat 32 bank)).updSpareFree g

/-- SLAB_SPARE_WRITE. -/
def execSlabSpareWrite (p : Port) (g : Fin 8) (k : Fin 2) (v : Word) (s : State) : Out :=
  .next (hostReg p (.slabSpareWrite p g k v) (fun t => t.writeSpare g k v) s)

/-- SLAB_SPARE_APPLY: at the start of the write window of the bank that spare k of region g replaces, or no longer replaces. A spare that is
to leave one bank for another leaves the first at the start of the second's window (DESIGN CHOICE, notes/assumptions/85.md). -/
def execSlabSpareApply (g : Fin 8) (k : Fin 2) (s : State) : Out :=
  let want := s.spareWant g k
  let now := s.spareUsed g k
  let bank := (if want = 0 then now else want) - 1
  let dep := s.slabDepth g
  if want ≠ now ∧ dep ≠ 0 ∧ s.ns = 0 ∧ s.slabRead g = (bank / 32 + 1) % dep then
    let other := 2 * g.val + (1 - k.val)
    let on := if want ≠ 0 ∧ s.spareUsed g (1 - k.val) = want then store id (fun _ => 0) s.spareOn other 0 else s.spareOn
    .next { s with spareOn := store id (fun _ => 0) on (2 * g.val + k.val) want }
  else .next s

-- Diagnostic access (R73)

/-- A write of RG_SLAB_DIAG_ADDR. -/
def State.writeSlabAddr (s : State) (g : Nat) (v : Word) : State :=
  let a := R.RG_SLAB_DIAG_ADDR g
  let t := R.RG_SLAB_DIAG_STATUS g
  let s1 := s.wr a (v &&& 0x7FFFFC00)
  if fget v F.RG_SLAB_DIAG_ADDR_GO = 0 ∨ s.flag t F.RG_SLAB_DIAG_STATUS_BUSY = true then s1
  else if 9719 < fget v F.RG_SLAB_DIAG_ADDR_WORD ∨ 32 * s.slabDepth g ≤ fget v F.RG_SLAB_DIAG_ADDR_LOGICAL then
    (s1.put t F.RG_SLAB_DIAG_STATUS_ERR 1).put t F.RG_SLAB_DIAG_STATUS_DONE 1
  else { s1.put t F.RG_SLAB_DIAG_STATUS_BUSY 1 with slabDiag := store id (fun _ => 0) s1.slabDiag g ((v &&& 0x7FFFFC00).toNat + 1) }

/-- SLAB_DIAG_READ: GO for word w of logical bank b of region g. -/
def execSlabDiagRead (p : Port) (g : Fin 8) (b : Fin 128) (w : Fin 16384) (s : State) : Out :=
  .next (hostReg p (.slabDiagRead p g b w) (fun t => t.writeSlabAddr g (BitVec.ofNat 32 (2 ^ 31 + 2 ^ 24 * b.val + 2 ^ 10 * w.val))) s)

/-- The word as stored: its data and check bits with the bits that have flipped. -/
def SlabWord.stored (x : SlabWord) : BitVec 88 := ((Config.slabEcc x.data).setWidth 88 <<< 80 ||| x.data.setWidth 88) ^^^ x.flip

/-- SLAB_DIAG_DONE. -/
def execSlabDiagDone (g : Fin 8) (s : State) : Out :=
  match look (fun _ => 0) s.slabDiag g.val with
  | 0 => .next s
  | v + 1 =>
    let b := v / 2 ^ 24
    let w := v / 2 ^ 10 % 2 ^ 14
    let x := s.slab (slabKey g (s.pbank g b) w)
    let dep := max 1 (s.slabDepth g)
    let sl := b / 32
    let fn := (s.frames + (sl + dep - s.slabRead g) % dep) % 2 ^ 16
    let t := R.RG_SLAB_DIAG_STATUS g
    let s1 := (((s.put t F.RG_SLAB_DIAG_STATUS_BUSY 0).put t F.RG_SLAB_DIAG_STATUS_DONE 1).put t F.RG_SLAB_DIAG_STATUS_ECC_BAD
      (if x.flip = 0 then 0 else 1)).put t F.RG_SLAB_DIAG_STATUS_SLAB sl |>.put t F.RG_SLAB_DIAG_STATUS_FN_LOW fn
    let y := x.stored
    .next { ((s1.wr (R.RG_SLAB_DIAG_DATA0 g) (y.setWidth 32)).wr (R.RG_SLAB_DIAG_DATA1 g) ((y >>> 32).setWidth 32)).wr
            (R.RG_SLAB_DIAG_DATA2 g) ((y >>> 64).setWidth 32) with slabDiag := drop g.val s.slabDiag }

/-- SLAB_ECC_INJ_ARM. -/
def execSlabEccInjArm (p : Port) (g : Fin 8) (a b : Fin 128) (s : State) : Out :=
  .next (hostReg p (.slabEccInjArm p g a b) (fun t => t.wr (R.RG_SLAB_ECC_INJ g) (BitVec.ofNat 32 (2 ^ 31 + 2 ^ 8 * b.val + a.val))) s)

end Sys2Proof.Machine
end

