-- ==== Sys2Proof/Machine/Events.lean ====
section
/-!
DEFINITION. Event registers, release of reactions, FAULT_N, block reset, and faults that arrive from outside (R336 to R357, 14_faults.md).
-/

namespace Sys2Proof.Machine

-- Severity (R339 to R341)

/-- EVENT_WINDOW_EXPIRE: the window of source `src` of event block b ends before N. -/
def execEventWindowExpire (b : Fin 175) (src : Fin 32) (s : State) : Out :=
  if s.timerDone (evWindowKey b src) then .next ((s.stopTimer (evWindowKey b src)).put (R.EVT_CFG b src) F.EVT_CFG_WCOUNT 0) else .next s

/-- SEVERE_AUTO_RELEASE. -/
def execSevereAutoRelease (b : Fin 175) (src : Fin 32) (s : State) : Out := .next (s.autoRelease b src)

/-- A write of EVT_SEVERE (R340). -/
def State.writeSevere (s : State) (b : Nat) (v : Word) : State :=
  (List.range (evSources b)).foldl (fun t i => if v.toNat.testBit i then t.hostClear b i else t) s

/-- SEVERE_CLEAR: a write of EVT_SEVERE of event block b. -/
def execSevereClear (p : Port) (b : Fin 175) (v : Word) (s : State) : Out := .next (hostReg p (.severeClear p b v) (fun t => t.writeSevere b v) s)

/-- A write of EVT_CFGs (R340, R341). -/
def State.writeEvtCfg (s : State) (b src : Nat) (v : Word) : State :=
  if evSources b ≤ src then s
  else
    let r := R.EVT_CFG b src
    let c := fget v F.EVT_CFG_CLASS
    let s1 := (s.put r F.EVT_CFG_N (max 1 (fget v F.EVT_CFG_N))).put r F.EVT_CFG_AUTO (fget v F.EVT_CFG_AUTO)
    let s2 := if c = s.get r F.EVT_CFG_CLASS then s1
      else if 4 ≤ c ∨ (factory b src).1 = clsGrave then s1.put (R.EVT_CTRL b) F.EVT_CTRL_CFG_REJ 1
      else s1.put r F.EVT_CFG_CLASS c
    s2.autoRelease b src

/-- EVT_CFG_WRITE. -/
def execEvtCfgWrite (p : Port) (b : Fin 175) (src : Fin 32) (v : Word) (s : State) : Out :=
  .next (hostReg p (.evtCfgWrite p b src v) (fun t => t.writeEvtCfg b src v) s)

/-- A write of EVT_WINs (Table 14-16); WINDOW_MS governs leaving severity as it stands (R340). -/
def State.writeEvtWin (s : State) (b src : Nat) (v : Word) : State :=
  if evSources b ≤ src then s
  else (s.put (R.EVT_WIN b src) F.EVT_WIN_WINDOW_MS (clampNat 1 3600000 (fget v F.EVT_WIN_WINDOW_MS))).autoRelease b src

-- Forced events (R354)

/-- DETAIL of an event that no unit caused: a unit that its layout allows, as a free value; 0 where Table 14-17 gives none. -/
def forcedDetail (b src k : Nat) : Word :=
  if b < 3 then 0
  else if b < 7 then
    (if src < 4 then seamDetail (k % 3) (k / 3 % 66)
     else if src = srcWB ∨ src = srcSIEVE then BitVec.ofNat 32 (k % 42)
     else if src = srcDRAM then BitVec.ofNat 32 (k % 2 ^ 28) else 0)
  else if b < 15 then
    (if src = srcXING_PARITY then BitVec.ofNat 32 (k % 16)
     else if src = srcSLAB_LATE ∨ src = srcSLAB_ECC then BitVec.ofNat 32 (k % 96) else 0)
  else if b < 47 then BitVec.ofNat 32 (k % 16)
  else 0

/-- Reserved sources of the package never count an event (R337, Table 14-2). -/
def evReserved (b src : Nat) : Bool := b == 0 && decide (25 ≤ src)

/-- A write of EVT_FORCE. -/
def State.writeForce (s : State) (b : Nat) (v : Word) : State :=
  (List.range (evSources b)).foldl (fun t i =>
    if !v.toNat.testBit i || evReserved b i then t
    else if t.get (R.EVT_CFG b i) F.EVT_CFG_CLASS = clsGrave ∧ t.flag R.EVT_SUM_STATUS F.EVT_SUM_STATUS_TEST_MODE = false then
      t.put (R.EVT_CTRL b) F.EVT_CTRL_FORCE_REJ 1
    else t.drawn.event b i (forcedDetail b i t.freeNat)) s

/-- EVT_FORCE. -/
def execEvtForce (p : Port) (b : Fin 175) (v : Word) (s : State) : Out := done (hostReg p (.evtForce p b v) (fun t => t.writeForce b v) s)

-- Acknowledgement and records (R351, R353)

/-- A write of 1 to ACK. -/
def State.evtAck (s : State) (b : Nat) : State :=
  let s1 := s.put (R.EVT_CTRL b) F.EVT_CTRL_PENDING 0
  if s1.rd (R.EVT_STICKY b) &&& s1.rd (R.EVT_ENABLE b) = 0 then s1 else s1.setPending b

/-- EVT_ACK. -/
def execEvtAck (p : Port) (b : Fin 175) (s : State) : Out := .next (hostReg p (.evtAck p b) (fun t => t.evtAck b) s)

/-- The first-source record of event block b, or the package-wide one, is cleared. -/
def State.clearFirst (s : State) : Option Nat → State
  | some b => (((s.wr (R.EVT_FIRST0 b) 0).wr (R.EVT_FIRST1 b) 0).wr (R.EVT_FIRST2 b) 0).wr (R.EVT_FIRST3 b) 0
  | none => ((s.wr R.EVT_PKG_FIRST0 0).wr R.EVT_PKG_FIRST1 0).wr R.EVT_PKG_FIRST2 0

/-- FIRST_RECORD_CLEAR: 1 written to VALID of a block's record, or of the package's (none). -/
def execFirstRecordClear (p : Port) (b : Option (Fin 175)) (s : State) : Out :=
  .next (hostReg p (.firstRecordClear p b) (fun t => t.clearFirst (b.map (fun x => x.val))) s)

-- FAULT_N (R350)

/-- A write of FAULT_HOLD. -/
def State.writeFaultHold (s : State) (hold : Bool) : State :=
  if s.grave then s
  else
    let h := if hold then 1 else 0
    let s1 := s.put R.EVT_SUM_STATUS F.EVT_SUM_STATUS_FAULT_HOLD h
    if s1.flag R.EVT_SUM_STATUS F.EVT_SUM_STATUS_PULSE then s1 else s1.put R.EVT_SUM_STATUS F.EVT_SUM_STATUS_FAULT_LOW h

/-- FAULT_HOLD_WRITE. -/
def execFaultHoldWrite (p : Port) (hold : Bool) (s : State) : Out := .next (hostReg p (.faultHoldWrite p hold) (fun t => t.writeFaultHold hold) s)

/-- FAULT_PULSE_END: the pulse is over, 2.0 us or more after the latest severe transition, and FAULT_N rises unless FAULT_HOLD or GRAVE
holds it. -/
def execFaultPulseEnd (s : State) : Out :=
  if s.flag R.EVT_SUM_STATUS F.EVT_SUM_STATUS_PULSE && s.timerDone faultKey then
    .next (((s.stopTimer faultKey).put R.EVT_SUM_STATUS F.EVT_SUM_STATUS_PULSE 0).put R.EVT_SUM_STATUS F.EVT_SUM_STATUS_FAULT_LOW
      (if s.grave then 1 else s.get R.EVT_SUM_STATUS F.EVT_SUM_STATUS_FAULT_HOLD))
  else .next s

-- Release (R345, R348)

/-- A reaction that has stopped islands (Table 14-11). -/
def SafeForce.stops (f : SafeForce) : Bool := f.fence && decide (7 ≤ f.blk)

/-- The source of a reaction left severity before the frame boundary that begins uptime frame `up` (R345). -/
def SafeForce.due (f : SafeForce) (up : Nat) : Bool :=
  match f.released with
  | some e => decide (e ≤ up)
  | none => false

/-- SAFE_RELEASE: at a frame boundary with FN a multiple of 4 the reactions whose sources have left severity before it end. -/
def execSafeRelease (s : State) : Out :=
  if s.fn % 4 = 0 ∧ s.ns = 0 then .next { s with safe := s.safe.filter (fun f => !f.due s.up || f.stops) } else .next s

/-- FENCE_RESTART: the islands of a cluster or LU, by its event block, restart; its framers start in SEARCH, but for one whose own LU another
reaction still stops. A reaction of the cluster or region around an LU stops no receive island of it (Table 14-11). -/
def execFenceRestart (b : Fin 175) (s : State) : Out :=
  let hit := s.safe.filter (fun f => f.stops && f.due s.up && f.blk == b.val)
  if s.fn % 4 ≠ 0 ∨ s.ns ≠ 0 ∨ b.val < 15 ∨ hit = [] then .next s
  else
    let s0 : State := { s with safe := s.safe.filter (fun f => !hit.contains f) }
    let s1 := if s0.safe.any (fun f => f.stops && f.blk == b.val) then s0
      else s0.clusterRuns b (s0.clusterPowered (b - 15) && !s0.bit (R.EVT_LIVE b) srcTX)
    let lus := if b.val < 47 then (List.range 4).map (fun i => 4 * (b.val - 15) + i) else [b.val - 47]
    let still (n : Nat) : Bool := s1.rxStopped n || s1.safe.any (fun f => f.stops && f.blk == b.val)
    done ((lus.filter (fun n => s1.persOf n != 0 && !still n)).foldl (fun t n => t.toSearch n) s1)

-- Block reset (R355)

/-- The register blocks of an event block (Table 14-13), with the instance of each. -/
def resetBlocks (b : Nat) : List (Blk × Nat) :=
  if b = 0 then [.pkg, .txn, .bench, .cal, .mon, .matrix, .hostif, .evtsum].map (fun k => (k, 0))
  else if b = 1 then [(.pair, 0)]
  else if b = 2 then [(.time, 0)]
  else if b < 7 then [.die, .skim, .pour, .wb, .map, .pm, .seam].map (fun k => (k, b - 3))
  else if b < 15 then [(.region, b - 7)]
  else if b < 47 then [(.cluster, b - 15)]
  else [(.lu, b - 47)]

/-- Registers whose status fields show a state now in force, which the device goes on holding, and go on showing it through a block reset
(notes/assumptions/18.md): kind, offset of the first of its kind, and the bits. What a field reports of the past (a code, a cause, a frame
number, a received message, a measured value) returns to its reset value. -/
def inForceRegs : List (Blk × Nat × Word) :=
  let all : Word := 0xFFFFFFFF
  [(.die, (R.DIE_UNIT_STATE 0).off, all), (.die, (R.DIE_JRN_WR 0).off, all), (.die, (R.GRP_STATUS .a 0).off, F.GRP_STATUS_BUSY.mask),
   (.die, (R.GRP_DESKEW_FREE 0).off, all), (.die, (R.GRP_DESKEW_TOTAL 0).off, all), (.die, (R.GRP_DESKEW_REQ 0).off, all), (.die, (R.GRP_COUNT 0).off, all), (.die, (R.MRG_STATUS 0 0).off,
     F.MRG_STATUS_ACTIVE.mask ||| F.MRG_STATUS_PARTNER.mask ||| F.MRG_STATUS_FEED_S_OK.mask ||| F.MRG_STATUS_FEED_A_OK.mask),
   (.die, (R.DRAM_STATUS 0).off, all)]
  ++ [(.bench, R.BENCH_STATUS.off, F.BENCH_STATUS_STATE.mask ||| F.BENCH_STATUS_SCOPE.mask ||| F.BENCH_STATUS_REGION.mask),
   ]
  ++ [(.region, (R.RG_SLAB_STATUS 0).off, F.RG_SLAB_STATUS_SPARE_FREE.mask ||| F.RG_SLAB_STATUS_DEPTH.mask ||| F.RG_SLAB_STATUS_SLAB_READ.mask),
   (.region, (R.RG_SLAB_SPARE 0 0).off, all), (.region, (R.RG_SLAB_DIAG_STATUS 0).off, F.RG_SLAB_DIAG_STATUS_BUSY.mask),
   (.region, (R.MSP_STATUS 0 0).off, F.MSP_STATUS_STATE.mask ||| F.MSP_STATUS_FOP_PM.mask ||| F.MSP_STATUS_FOP_CM.mask
     ||| F.MSP_STATUS_FOP_IV.mask ||| F.MSP_STATUS_UNI_FALLBACK.mask ||| F.MSP_STATUS_SEL_CHAN.mask ||| F.MSP_STATUS_BRIDGE_CHAN.mask
     ||| F.MSP_STATUS_EXT_CMD.mask ||| F.MSP_STATUS_EXT_CHAN.mask),
   (.region, (R.MSP_APS 0 0).off, all), (.region, (R.MSP_REQ 0 0).off, all), (.region, (R.MSP_LOCKW 0 0).off, all),
   (.region, (R.MSP_TIMER 0 0).off, all), (.region, (R.MSP_COND 0 0).off, all)]
  ++ [(.txn, R.TXN_SUMMARY.off, all), (.txn, R.TXN_MIRROR_CTRL.off, F.TXN_MIRROR_CTRL_MATE_OK.mask),
   (.txn, (R.TXN_STATUS 0).off, F.TXN_STATUS_CLEANING.mask ||| F.TXN_STATUS_ORIGIN.mask ||| F.TXN_STATUS_MIRROR.mask
     ||| F.TXN_STATUS_STATE.mask), (.txn, (R.TXN_COUNT 0).off, all), (.txn, (R.TXN_FETCH_CTRL 0).off, all), (.map, (R.MAP_STATUS 0).off, all)]
  ++ [(.lu, (R.LU_SEC_RATE 0).off, all), (.lu, (R.LU_SEC_STATUS 0).off, all), (.lu, (R.LU_SEC_FRAME 0).off, F.LU_SEC_FRAME_CAND.mask),
   (.lu, (R.LU_SEC_KTX 0).off, all), (.lu, (R.LU_SEC_KRX 0).off, all), (.lu, (R.LU_SEC_S1 0).off, all),
   (.lu, (R.LU_TG_STATUS 0).off, all), (.lu, (R.LU_SENSE_STATUS 0).off, F.LU_SENSE_STATUS_BUSY.mask)]
  ++ [(.pair, R.PAIR_STATUS.off, all), (.pair, R.PAIR_OFFSET.off, all), (.pair, R.PAIR_HEALTH_CAUSE.off, all),
   (.pair, (R.PAIR_LU_DLY 0).off, all), (.time, R.TIME_STATUS.off, all), (.time, R.TIME_MAIN_HOLD.off, all),
   (.time, (R.TIME_STN_OUT 0).off, all), (.time, R.TIME_SYNC_STATUS.off,
     F.TIME_SYNC_STATUS_ALIGN_PEND.mask ||| F.TIME_SYNC_STATUS_SET_PEND.mask ||| F.TIME_SYNC_STATUS_SYNC_LOS.mask),
   (.time, (R.TIME_REF_STATUS 0).off, all), (.time, (R.TIME_REF_FOFF 0).off, all)]
  ++ [(.pm, (R.PM_CAP 0).off, all), (.pm, (R.PM_USED 0).off, all), (.pm, (R.PM_IND_STATUS 0).off, F.PM_IND_STATUS_BUSY.mask),
   (.pm, (R.PM_TCA_STATUS 0).off, all), (.skim, (R.SKIM_STATUS 0).off, all),
   (.skim, (R.SKIM_TAP_STATUS 0).off, F.SKIM_TAP_STATUS_BUSY.mask), (.skim, (R.SKIM_JOB_STATUS 0 0).off,
     F.SKIM_JOB_STATUS_STATE.mask ||| F.SKIM_JOB_STATUS_TRIGGERED.mask ||| F.SKIM_JOB_STATUS_DRAIN_HALT.mask),
   (.skim, (R.SKIM_JOB_WR 0 0).off, all), (.skim, (R.SKIM_JOB_LOAD 0 0).off, all), (.skim, (R.SKIM_JOB_DQ_DONE 0 0).off, all),
   (.pour, (R.POUR_TGT_STATUS .a 0).off, F.POUR_TGT_STATUS_BUSY.mask), (.pour, (R.POUR_STATUS 0).off, all),
   (.pour, (R.POUR_JOB_STATUS 0 0).off, F.POUR_JOB_STATUS_STATE.mask), (.pour, (R.POUR_JOB_LOAD 0 0).off, all),
   (.pour, (R.POUR_JOB_SCR_CTRL 0 0).off, all)]
  ++ [(.wb, (R.WB_OWN 0 0).off, all), (.wb, (R.WB_STATUS 0).off, F.WB_STATUS_BANKS.mask), (.wb, (R.SIEVE_STATUS 0).off, all),
   (.matrix, R.MATRIX_MODE.off, all), (.matrix, R.MATRIX_MRST_BUSY.off, all), (.matrix, (R.MATRIX_OUT 0).off, all),
   (.evt, (R.EVT_LIVE 0).off, all), (.evt, (R.EVT_SEVERE 0).off, all), (.evtsum, R.EVT_SUM_STATUS.off, all), (.evtsum, R.EVT_GRAVE0.off, all),
   (.evtsum, R.EVT_GRAVE1.off, all), (.evtsum, R.EVT_GRAVE2.off, all)]
  ++ [(.cal, R.CAL_STATUS.off, F.CAL_STATUS_VALID.mask ||| F.CAL_STATUS_BUSY.mask ||| F.CAL_STATUS_ORIGIN.mask),
   (.pkg, R.PKG_START.off, all), (.pkg, R.PKG_DRAM.off, all), (.pkg, R.PKG_RST_CAUSE.off, all),
   (.hostif, R.HOSTIF_PORT_STATUS.off, all), (.hostif, R.HOSTIF_MBOX_CTRL.off, F.HOSTIF_MBOX_CTRL_FULL_AB.mask ||| F.HOSTIF_MBOX_CTRL_FULL_BA.mask), (.hostif, R.HOSTIF_SPI_STATUS.off, F.HOSTIF_SPI_STATUS_BUSY.mask),
   (.hostif, (R.HOSTIF_PBA .a 0).off, all)]
  ++ [(.mon, (R.MON_VOLT 0).off, F.MON_VOLT_WARN.mask ||| F.MON_VOLT_CRIT.mask), (.mon, (R.MON_TEMP 0).off, F.MON_TEMP_WARN.mask ||| F.MON_TEMP_CRIT.mask),
   (.seam, (R.SEAM_STATUS 0 0).off, all), (.seam, (R.SEAM_RETIRED_0 0 0).off, all), (.seam, (R.SEAM_RETIRED_1 0 0).off, all),
   (.seam, (R.SEAM_RETIRED_2 0 0).off, all)]

/-- The bits of a register that a block reset leaves: RW and RWS fields, and what shows a state in force; PKG_RST_CAUSE too, which only
power-on returns to its reset values (R387). -/
def blockKeep (r : RegId) : Word :=
  if isCounter r then 0
  else
    accMask r (fun a => a == .rw || a == .rws) ||| (match findReg r.blk r.off with
      | some d => (match inForceRegs.find? (fun e => e.1 == r.blk && e.2.1 == d.off) with
          | some e => e.2.2
          | none => 0)
      | none => 0)

/-- The drain copies of a die's jobs that are in progress fail (R297). -/
def State.skimCopies (s : State) (d : Nat) : State :=
  (List.range 8).foldl (fun t j => if t.skDraining d j && decide (0 < t.skHeld d j) then t.drainStep d j false [] else t) s

/-- A reset of an engine of die d: 0 SKIM, 1 POUR, 2 MAP, 3 SIEVE, with its master (Table 14-13). -/
def State.resetEngine (s : State) (d e : Nat) : State :=
  let s0 := s.mxReset (3 + 4 * e + d)
  match e with
  | 0 =>
      let s1 := (s0.skimCopies d).skReset d
      s1.prbs.foldl (fun t x => if x.1 / 8192 = d then t.prbsPut d (x.1 % 8192) x.2.hunt false else t) s1
  | 1 => s0.poReset d
  | 2 =>
      (List.range 8).foldl (fun t k =>
        let here := match bar2Unit (t.slot k).fetchAddr with
          | .bank d' _ _ => d' == d
          | .dram d' _ => d' == d
          | .none => false
        if 0 < (t.slot k).fetchLeft ∧ here = true then t.fetchFail k else t) s0
  | _ =>
      if s0.flag (R.SIEVE_STATUS d) F.SIEVE_STATUS_BUSY then s0.sieveAbandon d (s0.get (R.SIEVE_STATUS d) F.SIEVE_STATUS_BANK) else s0

/-- A block reset of event block b, with its ENGINES bits. -/
def State.blockReset (s : State) (b engines : Nat) : State :=
  let hit (r : RegId) : Bool := (resetBlocks b).contains (r.blk, r.inst) || (r.blk == .evt && r.inst == b)
  let s1 := s.resetRegs (fun r => if hit r then blockKeep r else 0xFFFFFFFF)
  let s2 := (List.range 32).foldl (fun t i => t.stopTimer (evWindowKey b i)) s1
  if 3 ≤ b ∧ b < 7 then
    let d := b - 3
    (List.range 4).foldl (fun t e => if engines.testBit e then t.resetEngine d e else t)
      { s2.setSncLog d [] with prbs := (s2.prbs.map (fun e => if e.1 / 8192 = d then (e.1, e.2.clear) else e)).filter (fun e => e.2 != emptyPrbs)
                               sncLost := s2.sncLost.filter (fun x => x != d), sncStored := s2.sncStored.filter (fun x => x != d) }
  else s2

/-- A write of EVT_CTRL; ENGINES is reserved but in the die blocks. -/
def State.writeEvtCtrl (s : State) (b : Nat) (v : Word) : State :=
  let r := R.EVT_CTRL b
  let w := if 3 ≤ b ∧ b < 7 then v else fset v F.EVT_CTRL_ENGINES 0
  let s1 := (s.wrRW r w).w1c r (v &&& accMask r (fun a => a == .rw1c))
  let s2 := if fget v F.EVT_CTRL_ACK = 1 then s1.evtAck b else s1
  if fget v F.EVT_CTRL_BRST = 1 then s2.blockReset b (fget v F.EVT_CTRL_ENGINES) else s2

/-- BLOCK_RESET: EVT_CTRL of event block b written with BRST at 1. -/
def execBlockReset (p : Port) (b : Fin 175) (port : Fin 4) (engines : Fin 16) (s : State) : Out :=
  done (hostReg p (.blockReset p b port engines) (fun t => t.writeEvtCtrl b (BitVec.ofNat 32 (2 ^ 30 * port.val + 2 ^ 28 + 2 ^ 24 * engines.val))) s)

/-- MATRIX_MASTER_RESET: bit m of MATRIX_MRST is written to 1 (R332); an engine's jobs follow its reset. -/
def execMatrixMasterReset (p : Port) (m : Fin 19) (s : State) : Out :=
  done (hostReg p (.matrixMasterReset p m) (fun t => if m.val < 3 then t.mxReset m else t.resetEngine ((m.val - 3) % 4) ((m.val - 3) / 4)) s)

-- Faults from outside (R337, R347)

/-- The source that a PLL or transmit clock counts on, and its bit of DIE_UNIT_STATE: 0 the package PLL, 1 that of die i, 2 of region i,
3 the transmit clock of cluster i. -/
def pllSource (k i : Nat) : Nat × Nat :=
  match k with
  | 0 => (evPkg, srcPLL)
  | 1 => (evDie (i % 4), srcDieCLOCK)
  | 2 => (evRegion (i % 8), srcRgCLOCK)
  | _ => (evCluster (i % 32), srcTX)

/-- The lock bits of a region or cluster. -/
def State.setLock (s : State) (k i : Nat) (v : Bool) : State :=
  match k with
  | 2 => s.putBit (R.DIE_UNIT_STATE (i % 8 / 2)) (24 + i % 2) v
  | 3 => s.clusterRuns (evCluster (i % 32)) (v && !s.clusterStopped (i % 32))
  | _ => s

/-- The unit has power. -/
def State.pllPowered (s : State) (k i : Nat) : Bool :=
  match k with
  | 2 => s.regionPowered (i % 8)
  | 3 => s.clusterPowered (i % 32)
  | _ => true

/-- PLL_LOCK_LOSS. -/
def execPllLockLoss (k : Fin 4) (i : Fin 32) (s : State) : Out :=
  let (b, src) := pllSource k i
  if s.bit (R.EVT_LIVE b) src || !s.pllPowered k i then .next s else done (((s.setLock k i false).ev b src).liveOn b src)

/-- PLL_RELOCK. -/
def execPllRelock (k : Fin 4) (i : Fin 32) (s : State) : Out :=
  let (b, src) := pllSource k i
  .next ((if s.pllPowered k i then s.setLock k i true else s).liveOff b src)

/-- SERDES_FAULT. -/
def execSerdesFault (n : Fin 128) (s : State) : Out :=
  done (({ s with serdesBad := n.val :: s.serdesBad.filter (fun m => m != n.val) }.ev (evLu n) srcSERDES).liveOn (evLu n) srcSERDES)

/-- SERDES_FAULT_END; the live condition holds on while the termination reads SHORT (R362). -/
def execSerdesFaultEnd (n : Fin 128) (s : State) : Out :=
  let s1 : State := { s with serdesBad := s.serdesBad.filter (fun m => m != n.val) }
  .next (if s1.get (R.LU_SENSE_STATUS n) F.LU_SENSE_STATUS_TERM = 4 then s1 else s1.liveOff (evLu n) srcSERDES)

/-- FAULT_PIN_MISMATCH. -/
def execFaultPinMismatch (s : State) : Out := done ((s.ev evPkg srcFAULT_PIN).liveOn evPkg srcFAULT_PIN)

/-- FAULT_PIN_MISMATCH_END. -/
def execFaultPinMismatchEnd (s : State) : Out := .next (s.liveOff evPkg srcFAULT_PIN)

/-- REGISTER_PARITY_ERROR: the register is reloaded from its protected copy. -/
def execRegisterParityError (s : State) : Out := done (s.ev evPkg srcREG)

/-- TERM of LU n takes a class of R362: each change sets TERM_NEW, and SHORT is the termination fault of LUn.SERDES. -/
def State.setTerm (s : State) (n t : Nat) : State :=
  let r := R.LU_SENSE_STATUS n
  if s.get r F.LU_SENSE_STATUS_TERM = t then s
  else
    let s1 := (s.put r F.LU_SENSE_STATUS_TERM t).put r F.LU_SENSE_STATUS_TERM_NEW 1
    if t = 4 then (s1.ev (evLu n) srcSERDES).liveOn (evLu n) srcSERDES
    else if s1.serdesBad.contains n then s1
    else s1.liveOff (evLu n) srcSERDES

-- Registers that a read clears (R70, R311, R325)

/-- A read of RG_SLAB_ECC_LAST, WB_ERR_LAST or DRAM_ERR_LAST clears its UE. -/
def State.errLastRead (s : State) (r : RegId) : State := ((s.put r ⟨31, 1, .ro, 0⟩ 0).answer (.word (s.rd r)))

/-- ERR_LAST_READ: 0 RG_SLAB_ECC_LAST of region u, 1 WB_ERR_LAST and 2 DRAM_ERR_LAST of die u. -/
def execErrLastRead (p : Port) (k : Fin 3) (u : Fin 8) (s : State) : Out :=
  .next (hostReg p (.errLastRead p k u) (fun t => t.errLastRead (match k.val with
    | 0 => R.RG_SLAB_ECC_LAST u
    | 1 => R.WB_ERR_LAST (u.val % 4)
    | _ => R.DRAM_ERR_LAST (u.val % 4))) s)

end Sys2Proof.Machine
end

