-- ==== Sys2Proof/Machine/Sense.lean ====
section
/-!
DEFINITION. Monitors, termination, time-domain reflectometry and the calibration store (R358 to R374, 15_sensing_calibration.md).
Physical quantities arrive as operands, raw; the values of the calibration set in force correct them (notes/assumptions/7.md, 10.md).
-/

namespace Sys2Proof.Machine

def srcMON : Nat := 23

-- The calibration set in force (R367, R368, R370)

/-- Byte i of the set that the factory wrote, but for its CRC: the header of R367, the zeros of Table 15-4, and the part's own content. -/
def calFactoryBody (i : Nat) : Byte :=
  if i < 16 then (le4 0x53435153 ++ [1, 0, 0, 0] ++ serial8).getD i 0
  else if (28 ≤ i ∧ i < 256) ∨ (0x93C0 ≤ i ∧ i < 0xFFFC) then 0
  else Config.calByte i
where
  le4 (w : Word) : List Byte := wordBytes w
  serial8 : List Byte := wordBytes (Config.serial.setWidth 32) ++ wordBytes ((Config.serial >>> 32).setWidth 32)

/-- Byte i of the set that the factory wrote, its CRC with it. -/
def calFactory (i : Nat) : Byte :=
  if i < 0xFFFC then calFactoryBody i else (wordBytes (crc32 ((List.range 0xFFFC).map calFactoryBody))).getD (i - 0xFFFC) 0

/-- Byte i of a set. -/
def CalBuf.byte (b : CalBuf) (i : Nat) : Byte := look (fun k => if b.factory then calFactory k else 0) b.bytes i

/-- The set whose values apply at once, and are taken by an application of LINKS: the store's, where it is valid (R368, R370). -/
def State.calSet (s : State) : Option CalBuf := if s.flag R.CAL_STATUS F.CAL_STATUS_VALID then some s.calStore else none

/-- Entry k of a part of that set, of n bytes each; of the nominal set in the ROM where the store is not valid. -/
def State.calEntry (s : State) (base n k : Nat) : List Byte :=
  let at' (i : Nat) : Byte := match s.calSet with
    | some b => b.byte i
    | none => Config.romByte i
  (List.range n).map (fun j => at' (base + n * k + j))

/-- The delay offset of a TDR lane, in ps. -/
def State.tdrOffset (s : State) (lane : Nat) : Nat := Config.calTdr (s.calEntry 0x6200 16 lane)

/-- The reading of a raw sample of point q, in mV. -/
def State.voltRead (s : State) (q : Nat) (raw : BitVec 16) : BitVec 16 := Config.calVolt (s.calEntry 0x6C00 8 q) raw

/-- The reading of a raw value of sensor i, in 1/16 degree C. -/
def State.tempRead (s : State) (i : Nat) (raw : BitVec 16) : BitVec 16 := Config.calTemp (s.calEntry 0x6D00 8 i) raw

/-- The SerDes settings of a lane at EQ_PRESET p (R34). -/
def State.eqBytes (s : State) (lane p : Nat) : List Byte := if p = 0 then s.calEntry 0x6E00 64 lane else s.calEntry 0x9000 64 (p - 1)

-- Supply rails (R358, R359)

/-- Rail of point q (Table 15-1). -/
def railOf (q : Nat) : Nat := if q % 8 < 2 then 0 else q % 8 - 1

/-- A window in mV, LOW and HIGH, lets a reading pass. -/
def inWindow (w : Word) (mv : Nat) : Bool := decide (w.toNat / 2 ^ 16 ≤ mv) && decide (mv ≤ w.toNat % 2 ^ 16)

/-- A source's live condition follows a truth value. -/
def State.liveIs (s : State) (b src : Nat) (on : Bool) : State := if on then s.liveOn b src else s.liveOff b src

/-- A one-bit indication follows a truth value; going to 1 counts one event. -/
def State.indicate (s : State) (r : RegId) (f : Fld) (on : Bool) (b src : Nat) : State :=
  let was := s.flag r f
  let s1 := s.put r f (if on then 1 else 0)
  if on && !was then s1.ev b src else s1

def State.voltOut (s : State) (q : Nat) (f : Fld) : Bool := s.flag (R.MON_VOLT q) f

def State.samples (s : State) (q : Nat) : List Nat := look (fun _ => []) s.volt q

/-- The reading of point q: the mean of its last samples. -/
def State.voltMean (s : State) (q : Nat) : Nat := (s.samples q).foldl (· + ·) 0 / (s.samples q).length

/-- Point q against the windows of its rail; then the live conditions, over every point. -/
def State.voltJudge (s : State) (q : Nat) : State :=
  let mv := s.voltMean q
  let s1 := s.indicate (R.MON_VOLT q) F.MON_VOLT_WARN (!inWindow (s.rd (R.MON_RAIL_WARN (railOf q))) mv) evPkg srcVOLT
  let s2 := s1.indicate (R.MON_VOLT q) F.MON_VOLT_CRIT (!inWindow (s.rd (R.MON_RAIL_CRIT (railOf q))) mv) evPkg srcVOLT_CRIT
  let s3 := s2.liveIs evPkg srcVOLT ((List.range 32).any (fun i => s2.voltOut i F.MON_VOLT_WARN))
  s3.liveIs evPkg srcVOLT_CRIT ((List.range 32).any (fun i => s3.voltOut i F.MON_VOLT_CRIT))

/-- A monitor fails its self-check. -/
def State.monFail (s : State) : State := (s.put R.MON_STATUS F.MON_STATUS_SELF_FAIL 1).ev evPkg srcMON

/-- VOLTAGE_SAMPLE: a raw sample of point q, and whether its monitor passed its self-check. The monitors start at step 3 (R383). -/
def execVoltageSample (q : Fin 32) (raw : BitVec 16) (ok : Bool) (s : State) : Out :=
  if !s.services then .next s
  else if !ok then done s.monFail
  else
    let s1 : State := { s with volt := store id (fun _ => []) s.volt q.val (((s.voltRead q raw).toNat :: s.samples q).take 16) }
    done ((s1.put (R.MON_VOLT q) F.MON_VOLT_MV (s1.voltMean q)).voltJudge q)

/-- A write of a rail window of rail r (R359): a critical window only narrows; the points of the rail are judged at once. -/
def State.writeRail (s : State) (r : Nat) (crit : Bool) (v : Word) : State :=
  let lo := v.toNat / 2 ^ 16
  let hi := v.toNat % 2 ^ 16
  let d := railCrit.getD r (0, 0)
  let s1 := if crit then s.wr (R.MON_RAIL_CRIT r) (railWord (max lo d.1, min hi d.2)) else s.wr (R.MON_RAIL_WARN r) v
  ((List.range 32).filter (fun q => railOf q == r && !(s1.samples q).isEmpty)).foldl (fun t q => t.voltJudge q) s1

/-- MON_RAIL_WINDOW_WRITE: MON_RAILr_WARN or MON_RAILr_CRIT is written. -/
def execMonRailWindowWrite (p : Port) (r : Fin 7) (crit : Bool) (v : Word) (s : State) : Out :=
  done (hostReg p (.monRailWindowWrite p r crit v) (fun t => t.writeRail r crit v) s)

/-- A write of MON_CTRL (R372). -/
def State.writeMonCtrl (s : State) (v : Word) : State := (s.wrRW R.MON_CTRL v).clampFld R.MON_CTRL F.MON_CTRL_TDR_TOL 1 255

-- Temperature (R360)

/-- A write of MON_TEMP_LIM; it counts from each sensor's next reading. -/
def State.writeTempLim (s : State) (v : Word) : State :=
  ((s.wrRW R.MON_TEMP_LIM v).clampFld R.MON_TEMP_LIM F.MON_TEMP_LIM_WARN 60 105).clampFld R.MON_TEMP_LIM F.MON_TEMP_LIM_CRIT 100 115

/-- A sensor is above a limit in °C after a reading in 1/16 °C, given whether it was. -/
def aboveLimit (was : Bool) (t : Int) (lim : Nat) : Bool :=
  if was then decide (16 * ((lim : Int) - 2) < t) else decide (16 * (lim : Int) ≤ t)

/-- The housekeeper trims the SerDes and phase detectors of region g again whenever the region's mean temperature has moved by 5 °C since
the last trim (R360); a run that ends without a result counts one event on PKG.HK_RUN (Table 14-2), and the last trim stands. -/
def State.retrim (s : State) (g : Nat) (fail : Bool) : State :=
  let mean : Int := look (fun _ => 0) s.temps (2 * g) + look (fun _ => 0) s.temps (2 * g + 1)
  let due := match look (fun _ => none) s.trim g with
    | none => true
    | some m => decide (160 ≤ (mean - m).natAbs)
  if !due then s
  else if fail then s.ev evPkg srcHK_RUN
  else { s with trim := store id (fun _ => none) s.trim g (some mean) }

/-- TEMP_SAMPLE: a raw reading of sensor i, and whether its monitor passed its self-check; `trimFail` tells whether a trim that it
makes due ends without a result. The monitors start at step 3 (R383). -/
def execTempSample (i : Fin 16) (raw : BitVec 16) (ok trimFail : Bool) (s : State) : Out :=
  if !s.services then .next s
  else if !ok then done s.monFail
  else
    let r := R.MON_TEMP i
    let g := i.val / 2
    let t := s.tempRead i raw
    let s1 := { s with temps := store id (fun _ => 0) s.temps i.val t.toInt }.put r F.MON_TEMP_TEMP t.toNat
    let w := aboveLimit (s.flag r F.MON_TEMP_WARN) t.toInt (s.get R.MON_TEMP_LIM F.MON_TEMP_LIM_WARN)
    let c := aboveLimit (s.flag r F.MON_TEMP_CRIT) t.toInt (s.get R.MON_TEMP_LIM F.MON_TEMP_LIM_CRIT)
    let s2 := (s1.indicate r F.MON_TEMP_WARN w (evRegion g) srcTEMP).indicate r F.MON_TEMP_CRIT c evPkg srcTEMP_CRIT
    let s3 := s2.liveIs (evRegion g) srcTEMP
      (s2.flag (R.MON_TEMP (2 * g)) F.MON_TEMP_WARN || s2.flag (R.MON_TEMP (2 * g + 1)) F.MON_TEMP_WARN)
    done ((s3.liveIs evPkg srcTEMP_CRIT ((List.range 16).any (fun k => s3.flag (R.MON_TEMP k) F.MON_TEMP_CRIT))).retrim g trimFail)

-- Aging (R361)

/-- A write of MON_AGE_MARGIN. -/
def State.writeMargin (s : State) (v : Word) : State := (s.wrRW R.MON_AGE_MARGIN v).clampFld R.MON_AGE_MARGIN F.MON_AGE_MARGIN_MARGIN 1 100

/-- The deviation of a frequency from a reference, in parts of it, rounded to the nearest and held within n bits of two's complement. -/
def deviation (n : Nat) (parts : Int) (f ref : Nat) : Int :=
  let x : Int := (2 * parts * ((f : Int) - ref) + ref) / (2 * ref)
  max (-(2 ^ (n - 1) : Nat)) (min ((2 ^ (n - 1) : Nat) - 1) x)

/-- DEGR of region g in 0.001 %: (F0 - F) / F0, F being the measured frequency normalised by the region's coefficients. -/
def State.ageDegr (s : State) (g freq : Nat) (env : Int × Nat) : Int :=
  let e := s.calEntry 0x6D80 16 g;
  -deviation 16 100000 (Config.calNorm e freq env.1 env.2) (Config.calBase e)

/-- PROC of region g in 0.01 %: the deviation of F0 from the design value. -/
def State.ageProc (s : State) (g : Nat) : Int := deviation 15 10000 (Config.calBase (s.calEntry 0x6D80 16 g)) Config.designFreq

/-- AGING_MEASURE: region g's ring oscillator runs at a frequency, at a temperature in 1/16 degree C and a voltage in mV. Without a valid store
no event counts and DEGR reads 0. The monitors start at step 3 (R383). -/
def execAgingMeasure (g : Fin 8) (freq : Nat) (env : Int × Nat) (s : State) : Out :=
  let r := R.MON_AGE g
  let s0 := s.put r F.MON_AGE_PROC (s.ageProc g % 2 ^ 15).toNat
  if !s.services then .next s
  else if s.calSet.isNone then .next ((s0.put r F.MON_AGE_NOBASE 1).put r F.MON_AGE_DEGR 0)
  else
    let degr := s.ageDegr g freq env
    let m : Int := 100 * s.get R.MON_AGE_MARGIN F.MON_AGE_MARGIN_MARGIN
    let s1 := (s0.put r F.MON_AGE_NOBASE 0).put r F.MON_AGE_DEGR (degr % 2 ^ 16).toNat
    if s.aged.contains g.val then
      .next (if degr ≤ m - 100 then { s1 with aged := s1.aged.filter (fun x => x != g.val) } else s1)
    else if m ≤ degr then done ({ s1 with aged := g.val :: s1.aged }.ev evPkg srcAGING)
    else .next s1

-- Termination (R362)

/-- TERM_PROBE: the probe of LU n finds class c + 1 of R362; an LU whose personality is OFF sends none. -/
def execTermProbe (n : Fin 128) (c : Fin 4) (s : State) : Out := done (s.setTerm n (if s.persOf n = 0 then 0 else c.val + 1))

-- Time-domain reflectometry (R363 to R365)

/-- A write of LU_SENSE_CTRL. -/
def State.writeSenseCtrl (s : State) (n : Nat) (v : Word) : State :=
  let r := R.LU_SENSE_STATUS n
  let s1 := (s.wrRW (R.LU_SENSE_CTRL n) v).clampFld (R.LU_SENSE_CTRL n) F.LU_SENSE_CTRL_VF 400 999
  if fget v F.LU_SENSE_CTRL_START = 0 ∨ s1.flag r F.LU_SENSE_STATUS_BUSY = true then s1
  else if !s1.retiredLU n then s1.put r F.LU_SENSE_STATUS_CODE 1
  else if s1.persOf n = 0 then s1.put r F.LU_SENSE_STATUS_CODE 2
  else (s1.put r F.LU_SENSE_STATUS_CODE 0).put r F.LU_SENSE_STATUS_BUSY 1

/-- TDR_CABLE_START: LU_SENSE_CTRL is written with START at 1. -/
def execTdrCableStart (p : Port) (n : Fin 128) (vf : BitVec 10) (s : State) : Out :=
  .next (hostReg p (.tdrCableStart p n vf) (fun t => t.writeSenseCtrl n (0x80000000 ||| vf.setWidth 32)) s)

/-- LENGTH of a corrected round trip in ps at a velocity factor in 1/1,000, in mm rounded to 5 mm. -/
def cableLength (ps vf : Nat) : Nat := (299792458 * (ps * vf) + 5000000000000) / 10000000000000 * 5

/-- LOAD_OHM of a reflection coefficient in 1/1,000. -/
def loadOhm (rho : Int) : Nat :=
  if 1000 ≤ rho then 4095 else min 4095 ((200 * (1000 + rho) + (1000 - rho)) / (2 * (1000 - rho))).toNat

/-- TDR_CABLE_DONE: the largest reflection beyond the balls, as its round trip in ps, from which the lane's stored offset is taken off, and its
coefficient in 1/1,000; none if no reflection above 10 % lies within 30 m. LOAD_OHM is then a free value. -/
def execTdrCableDone (n : Fin 128) (found : Option (Nat × Int)) (s : State) : Out :=
  let r := R.LU_SENSE_STATUS n
  if s.flag r F.LU_SENSE_STATUS_BUSY = false then .next s
  else
    let s1 := (s.put r F.LU_SENSE_STATUS_BUSY 0).put r F.LU_SENSE_STATUS_DONE 1
    let none_ := ((s1.drawn.put r F.LU_SENSE_STATUS_NO_END 1).put (R.LU_TDR_CABLE n) F.LU_TDR_CABLE_LENGTH 0).put (R.LU_TDR_LOAD n)
      F.LU_TDR_LOAD_LOAD_OHM s1.freeNat
    match found with
    | none => .next none_
    | some (ps, rho) =>
      let len := cableLength (ps - s1.tdrOffset n) (s1.get (R.LU_SENSE_CTRL n) F.LU_SENSE_CTRL_VF)
      if 30000 < len then .next none_
      else .next (((s1.put r F.LU_SENSE_STATUS_NO_END 0).put (R.LU_TDR_CABLE n) F.LU_TDR_CABLE_LENGTH len).put (R.LU_TDR_LOAD n)
        F.LU_TDR_LOAD_LOAD_OHM (loadOhm rho))

/-- An accepted TRACE result of a lane, 128 for MATE_TX, is written to its registers. -/
def State.traceWrite (s : State) (lane ps : Nat) : State :=
  let pair := s.flag R.MON_CTRL F.MON_CTRL_PAIR_AUTO
  if lane < 128 then
    let s1 := s.put (R.LU_TDR_TRACE lane) F.LU_TDR_TRACE_DELAY ps
    if pair then s1.put (R.PAIR_LU_DLY lane) F.PAIR_LU_DLY_DLY ps else s1
  else if pair then s.put R.PAIR_MATE_DLY F.PAIR_MATE_DLY_D_TX ps else s

/-- The one-way delay in ps of a TRACE run's round trip: half of it, less the lane's stored offset; none outside the range of 0 to 10,000 ps,
in which the run then has no result (Table 15-3). -/
def State.traceDelay (s : State) (lane rt : Nat) : Option Nat :=
  let ps := (rt - s.tdrOffset lane) / 2
  if ps ≤ 10000 then some ps else none

/-- TDR_TRACE_RUN: the round trip of a lane in ps; none if the run cannot produce a result. -/
def execTdrTraceRun (lane : Fin 129) (res : Option Nat) (s : State) : Out :=
  if !s.services then .next s else
  match res.bind (s.traceDelay lane) with
  | none => done (s.ev evPkg srcHK_RUN)
  | some ps =>
    let s1 := ({ s with trace := store id (fun _ => 0) s.trace lane.val (ps + 1) } : State).traceWrite lane ps
    let last := look (fun _ => 0) s.trace lane.val
    let diff := ((ps : Int) - ((last : Int) - 1)).natAbs
    done (if last ≠ 0 ∧ s.get R.MON_CTRL F.MON_CTRL_TDR_TOL < diff then s1.ev evPkg srcTDR else s1)

-- The calibration store (R367 to R371)

/-- Writes byte i of a set. -/
def CalBuf.put (b : CalBuf) (i : Nat) (v : Byte) : CalBuf := { b with bytes := place id (i, v) (drop i b.bytes) }

def CalBuf.putAll (b : CalBuf) (i : Nat) : List Byte → CalBuf
  | [] => b
  | v :: t => (b.put i v).putAll (i + 1) t

/-- A little-endian field of n bytes. -/
def CalBuf.le (b : CalBuf) (i : Nat) : Nat → Nat
  | 0 => 0
  | n + 1 => (b.byte i).toNat + 256 * b.le (i + 1) n

/-- CRC-32 over bytes 0x0000 to 0xFFFB. -/
def CalBuf.crc (b : CalBuf) : Word := crc32 ((List.range 0xFFFC).map b.byte)

/-- The set is valid (R367). The factory's set has the header, SERIAL and CRC of R367 (calFactory): it passes the four checks. -/
def CalBuf.valid (b : CalBuf) : Bool :=
  (b.factory && b.bytes.isEmpty) ||
    (b.le 0 4 == 0x53435153 && b.le 4 2 == 1 && b.le 8 8 == Config.serial.toNat && b.crc.toNat == b.le 0xFFFC 4)

/-- The set with its CRC recomputed. -/
def CalBuf.sealCrc (b : CalBuf) : CalBuf := b.putAll 0xFFFC (wordBytes b.crc)

def CalBuf.setCount (b : CalBuf) : Nat := b.le 24 4

/-- CAL_STATUS and CAL_SET_COUNT show the store (R367, R368). -/
def State.calShow (s : State) : State :=
  ((s.put R.CAL_STATUS F.CAL_STATUS_VALID (if s.calStore.valid then 1 else 0)).put R.CAL_STATUS F.CAL_STATUS_ORIGIN
    ((s.calStore.byte 6).toNat % 2)).wr R.CAL_SET_COUNT (BitVec.ofNat 32 s.calStore.setCount)

/-- The device reads the store at power-on (R368); the parts marked "Next power-on" are taken at the first read after power-on only. -/
def State.calRead (s : State) : State :=
  let s1 := s.calShow
  let s2 := if s1.calBoot.isNone then { s1 with calBoot := some s1.calSet } else s1
  if s1.calSet.isSome then s2 else s2.ev evPkg srcCAL

def calArmKey : TKey := ⟨.calArm, ⟨0, 0, 0⟩⟩

def State.calCode (s : State) (c : Nat) : State := s.put R.CAL_STATUS F.CAL_STATUS_CODE c

/-- An operation that takes time begins. -/
def State.calBegin (s : State) (op : Nat) : State := ({ s with calRun := op }.calCode 0).put R.CAL_STATUS F.CAL_STATUS_BUSY 1

/-- The operation in progress ends. -/
def State.calEnd (s : State) : State := ({ s with calRun := 0 }.put R.CAL_STATUS F.CAL_STATUS_BUSY 0).put R.CAL_STATUS F.CAL_STATUS_DONE 1

/-- The conditions of R369 for a RECAL of the parts. -/
def State.recalOK (s : State) (parts : Nat) (ageOk : Bool) : Bool :=
  let quiet := !s.driving && s.pers.all (fun e => e.2 == 0 || s.retiredLU e.1)
  (!parts.testBit 0 || s.get R.TIME_MAIN_CMD F.TIME_MAIN_CMD_CMD == 4) && (!parts.testBit 1 || quiet) && (!parts.testBit 4 || quiet)
    && (!parts.testBit 5 || ageOk)

/-- The set that a COMMIT writes (R370). -/
def State.calNext (s : State) : CalBuf :=
  (s.calStage.putAll 24 (wordBytes (BitVec.ofNat 32 (s.calStore.setCount + 1)))).sealCrc

/-- A write of CAL_CMD. -/
def State.writeCalCmd (s : State) (v : Word) : State :=
  let op := fget v F.CAL_CMD_OP
  let parts := fget v F.CAL_CMD_PARTS
  if op = 0 then s
  else if s.calRun ≠ 0 then s.calCode 2
  else if op = 1 then s.calBegin 1
  else if op = 2 then
    (if s.recalOK parts (fget v F.CAL_CMD_AGE_OK == 1) then { s with calParts := parts }.calBegin 2 else s.calCode 3)
  else if op = 3 then ((s.calCode 0).put R.CAL_STATUS F.CAL_STATUS_DONE 1).startTimerNs calArmKey 1000000
  else if op = 4 then
    let armed := s.timerOn calArmKey && !s.timerDone calArmKey
    let s1 := s.stopTimer calArmKey
    if !armed then s1.calCode 4
    else if !s1.calStage.valid then s1.calCode 5
    else { s1 with calNew := s1.calNext }.calBegin 4
  else s.calCode 1

/-- A CAL_CMD word. -/
def calWord (op parts : Nat) (ageOk : Bool) : Word := BitVec.ofNat 32 ((if ageOk then 512 else 0) + parts * 8 + op)

/-- CAL_LOAD. -/
def execCalLoad (p : Port) (s : State) : Out := .next (hostReg p (.calLoad p) (fun t => t.writeCalCmd (calWord 1 0 false)) s)

/-- CAL_RECAL. -/
def execCalRecal (p : Port) (parts : BitVec 6) (ageOk : Bool) (s : State) : Out :=
  .next (hostReg p (.calRecal p parts ageOk) (fun t => t.writeCalCmd (calWord 2 parts.toNat ageOk)) s)

/-- CAL_ARM. -/
def execCalArm (p : Port) (s : State) : Out := .next (hostReg p (.calArm p) (fun t => t.writeCalCmd (calWord 3 0 false)) s)

/-- CAL_COMMIT. -/
def execCalCommit (p : Port) (s : State) : Out := .next (hostReg p (.calCommit p) (fun t => t.writeCalCmd (calWord 4 0 false)) s)

/-- CAL_OP_INVALID: OP 5 to 7. -/
def execCalOpInvalid (p : Port) (op : Fin 3) (s : State) : Out := .next (hostReg p (.calOpInvalid p op) (fun t => t.writeCalCmd (calWord (5 + op.val) 0 false)) s)

/-- CAL_LOAD_DONE. -/
def execCalLoadDone (s : State) : Out :=
  if s.calRun = 1 then .next ({ s with calStage := s.calStore }.calEnd) else .next s

/-- Offset i lies in the part of Table 15-4 that a bit of PARTS names. -/
def calPart (k i : Nat) : Bool :=
  let inside (a n : Nat) : Bool := decide (a ≤ i) && decide (i < a + n)
  match k with
  | 0 => inside 0x200 24576
  | 1 => inside 0x6200 2560
  | 2 => inside 0x6C00 256
  | 3 => inside 0x6D00 128
  | 4 => inside 0x6E00 8704
  | _ => inside 0x6D80 128

/-- CAL_RECAL_DONE: the bytes that the measurements give, of which those of the named parts are written; none if the run ends without a
result. -/
def execCalRecalDone (res : Option (List (Nat × Byte))) (s : State) : Out :=
  if s.calRun ≠ 2 then .next s
  else
    match res with
    | none => done (s.calEnd.ev evPkg srcHK_RUN)
    | some l =>
      let named (i : Nat) : Bool := (List.range 6).any (fun k => s.calParts.testBit k && calPart k i)
      let b := (l.filter (fun e => named e.1)).foldl (fun (c : CalBuf) e => c.put e.1 e.2) s.calStage
      .next ({ s with calStage := (b.put 6 1).sealCrc }.calEnd)

/-- CAL_COMMIT_DONE: the write of the store ends, and the parts marked At once apply, being read from the store (State.calEntry). -/
def execCalCommitDone (s : State) : Out :=
  if s.calRun = 4 then done ((({ s with calStore := s.calNew }.calEnd).calShow).ev evPkg srcCAL) else .next s

/-- CAL_ARM_EXPIRE. -/
def execCalArmExpire (s : State) : Out := if s.timerDone calArmKey then .next (s.stopTimer calArmKey) else .next s

-- The window of R374

/-- Byte of the selected view at +0x8000 + i. -/
def State.calWin (s : State) (i : Nat) : Byte :=
  let k := 32768 * s.get R.CAL_CTRL F.CAL_CTRL_PAGE + i
  if s.get R.CAL_CTRL F.CAL_CTRL_VIEW = 1 then s.calStage.byte k
  else if s.calRun = 4 then 0xFF
  else s.calStore.byte k

/-- The word of the selected view at +0x8000 + i. -/
def State.calWinWord (s : State) (i : Nat) : Word := le32 [s.calWin i, s.calWin (i + 1), s.calWin (i + 2), s.calWin (i + 3)]

/-- A write of a word of the window at +0x8000 + i. -/
def State.writeCalWin (s : State) (i : Nat) (v : Word) : State :=
  if s.get R.CAL_CTRL F.CAL_CTRL_VIEW = 1 ∧ s.calRun ≠ 2 then
    { s with calStage := s.calStage.putAll (32768 * s.get R.CAL_CTRL F.CAL_CTRL_PAGE + i) (wordBytes v) }
  else s

end Sys2Proof.Machine
end

