-- ==== Sys2Proof/Machine/HostIf.lean ====
section
/-!
DEFINITION. Host port links and configuration, the mailbox, the SPI master, SMBus and the TAP (R388 to R407, 17_host_management.md).
-/

namespace Sys2Proof.Machine

-- Fields of a host port

def portSrc : Port → Nat
  | .a => srcHOSTA
  | .b => srcHOSTB

def otherPort : Port → Port
  | .a => .b
  | .b => .a

def portUp : Port → Fld
  | .a => F.HOSTIF_PORT_STATUS_A_UP
  | .b => F.HOSTIF_PORT_STATUS_B_UP

def portSpeed : Port → Fld
  | .a => F.HOSTIF_PORT_STATUS_A_SPEED
  | .b => F.HOSTIF_PORT_STATUS_B_SPEED

def portWidth : Port → Fld
  | .a => F.HOSTIF_PORT_STATUS_A_WIDTH
  | .b => F.HOSTIF_PORT_STATUS_B_WIDTH

def portMboxRej : Port → Fld
  | .a => F.HOSTIF_ERR_MBOX_REJ_A
  | .b => F.HOSTIF_ERR_MBOX_REJ_B

def portBadSize : Port → Fld
  | .a => F.HOSTIF_ERR_BAD_SIZE_A
  | .b => F.HOSTIF_ERR_BAD_SIZE_B

-- The TAP (R402 to R406)

/-- Data register that a TAP instruction selects (Table 17-5). -/
inductive TapDr where
  | boundary | idcode | bypass
deriving DecidableEq, Repr

def tapDr (ir : BitVec 8) : TapDr :=
  if [(0x00 : BitVec 8), 0x01, 0x08, 0x09].contains ir then .boundary else if ir = 0x02 then .idcode else .bypass

/-- The device identification register (R403). -/
def idcode : Word := (Config.stepping.setWidth 32 <<< 28) ||| 0x0412874F

-- PCIe links and configuration (R381, R388 to R394)

/-- A port's link is not up. -/
def State.linkStatus (s : State) (p : Port) (up speed width : Nat) : State :=
  ((s.put R.HOSTIF_PORT_STATUS (portUp p) up).put R.HOSTIF_PORT_STATUS (portSpeed p) speed).put R.HOSTIF_PORT_STATUS (portWidth p) width

/-- The port loses its link: one event, and the live condition (R394). -/
def State.linkLost (s : State) (p : Port) : State :=
  if s.linkUp p then ((s.linkStatus p 0 0 0).ev evPkg (portSrc p)).liveOn evPkg (portSrc p) else s

/-- PCIE_LINK_DOWN: the port loses its link, or (loss false) AER reports an uncorrectable error. -/
def execPcieLinkDown (p : Port) (loss : Bool) (s : State) : Out :=
  done (if loss then s.linkLost p else if s.linkUp p then s.ev evPkg (portSrc p) else s)

/-- PCIE_LINK_UP: training ends at a rate code of Table 17-6 and a width of 2^w lanes; messages that wait are sent as far as they may. -/
def execPcieLinkUp (p : Port) (rate : Fin 5) (w : Fin 4) (s : State) : Out :=
  if (s.port p).perst || s.linkUp p || s.scanDrives || (s.pwr != .run && s.pwr != .reset) then .next s
  else .next (((s.linkStatus p 1 (rate.val + 1) (2 ^ w.val)).liveOff evPkg (portSrc p)).msixFlush p)

/-- PCIE_CONFIG_WRITE: a configuration write leaves the port in this power state, with these enables (`rest`: the MSI-X function mask), this
payload size and these BARs; messages that wait are sent as far as they may. -/
def execPcieConfigWrite (p : Port) (d3hot bme msixOn : Bool) (rest : Bool × PciCfg) (s : State) : Out :=
  if s.linkUp p && !(s.port p).perst then
    .next (((s.answer .done).setPort p ⟨false, d3hot, bme, msixOn, rest.1, rest.2⟩).msixFlush p)
  else .next (s.answer .ur)

/-- A port's own state goes to its reset values (Table 16-2): its held registers with its MSI-X table and pending bits, its snapshots, its
fields of HOSTIF_ERR and its configuration space. -/
def State.portReset (s : State) (p : Port) : State :=
  let own := fun (r : RegId) => isHeld r && r.held == p.toNat
  let s1 := ({ s with snaps := s.snaps.filter (fun e => e.1.held != p.toNat) }.resetRegs (fun r => if own r then 0 else 0xFFFFFFFF)).setPort p
    PortCfg.down
  ((s1.put R.HOSTIF_ERR (portMboxRej p) 0).put R.HOSTIF_ERR (portBadSize p) 0).put R.HOSTIF_ERR (match p with
    | .a => F.HOSTIF_ERR_BME_FAIL_A
    | .b => F.HOSTIF_ERR_BME_FAIL_B) 0

/-- The PERST line of a port falls (R378, R381). -/
def State.perstFall (s : State) (p : Port) : State :=
  let s1 := (s.linkLost p).portReset p
  let s2 := s1.put R.PKG_RST_CAUSE (match p with
    | .a => F.PKG_RST_CAUSE_PERST_A
    | .b => F.PKG_RST_CAUSE_PERST_B) 1
  s2.mxReset (Port.master p)

/-- Blocks that are PENDING and select the port have their messages waiting after its reset (R353, R381). -/
def State.pendAgain (s : State) (p : Port) : State :=
  (List.range evBlocks).foldl (fun t b =>
    let sel := t.get (R.EVT_CTRL b) F.EVT_CTRL_PORT
    if t.flag (R.EVT_CTRL b) F.EVT_CTRL_PENDING && (sel == p.toNat || sel == 2) then t.setBit (R.HOSTIF_PBA p (b / 32)) (b % 32) else t) s

/-- The rise of a port's PERST line is accepted: the port trains its link. -/
def State.perstRise (s : State) (p : Port) : State := (s.setPort p { s.port p with perst := false }).pendAgain p

def State.setPerstLow (s : State) (p : Port) (v : Bool) : State :=
  { s with perstLow := match p with
      | .a => (v, s.perstLow.2)
      | .b => (s.perstLow.1, v) }

def State.perstIsLow (s : State) : Port → Bool
  | .a => s.perstLow.1
  | .b => s.perstLow.2

/-- PERST_ASSERT. -/
def execPerstAssert (p : Port) (s : State) : Out :=
  if s.perstIsLow p then .next s else done ((s.setPerstLow p true).perstFall p)

/-- PERST_DEASSERT: a rise before T0 is accepted at T0. -/
def execPerstDeassert (p : Port) (s : State) : Out :=
  if !s.perstIsLow p then .next s
  else
    let s1 := s.setPerstLow p false
    .next (if s1.pwr = .run then s1.perstRise p else s1)

/-- FUNCTION_LEVEL_RESET. -/
def execFunctionLevelReset (p : Port) (s : State) : Out :=
  if s.linkUp p && !(s.port p).perst then done (((s.answer .done).perstFall p).perstRise p) else .next (s.answer .ur)

-- The mailbox (R396)

def mboxVector : Nat := 175

def State.mboxReject (s : State) (p : Port) : State := s.put R.HOSTIF_ERR (portMboxRej p) 1

/-- The outbox of a sending port is full. -/
def State.mboxFull (s : State) (from_ : Port) : Bool :=
  s.flag R.HOSTIF_MBOX_CTRL (match from_ with
    | .a => F.HOSTIF_MBOX_CTRL_FULL_AB
    | .b => F.HOSTIF_MBOX_CTRL_FULL_BA)

def State.setMboxFull (s : State) (from_ : Port) (v : Nat) : State :=
  s.put R.HOSTIF_MBOX_CTRL (match from_ with
    | .a => F.HOSTIF_MBOX_CTRL_FULL_AB
    | .b => F.HOSTIF_MBOX_CTRL_FULL_BA) v

def ackedFld : Port → Fld
  | .a => F.HOSTIF_MBOX_CTRL_ACKED_AB
  | .b => F.HOSTIF_MBOX_CTRL_ACKED_BA

/-- Port p writes word i of the outbox of `from_`. -/
def State.mboxData (s : State) (p from_ : Port) (i : Nat) (v : Word) : State :=
  if p ≠ from_ ∨ s.mboxFull from_ = true then s.mboxReject p
  else s.wr (match from_ with
    | .a => R.HOSTIF_MBOX_AB_DATA i
    | .b => R.HOSTIF_MBOX_BA_DATA i) v

/-- Port p writes the SEND bit of the outbox of `from_`. -/
def State.mboxSend (s : State) (p from_ : Port) : State :=
  if p ≠ from_ ∨ s.mboxFull from_ = true then s.mboxReject p else (s.setMboxFull from_ 1).msixTo (otherPort from_) mboxVector

/-- Port p writes the ACK bit of the outbox of `from_`. -/
def State.mboxAck (s : State) (p from_ : Port) : State :=
  if p = from_ ∨ s.mboxFull from_ = false then s.mboxReject p
  else ((s.setMboxFull from_ 0).put R.HOSTIF_MBOX_CTRL (ackedFld from_) 1).msixTo from_ mboxVector

/-- Port p writes HOSTIF_MBOX_CTRL; ACKED of an outbox is cleared by its sender only. -/
def State.writeMboxCtrl (s : State) (p : Port) (v : Word) : State :=
  let s0 := if fget v (ackedFld p) = 1 then s.put R.HOSTIF_MBOX_CTRL (ackedFld p) 0 else s
  let s1 := if fget v F.HOSTIF_MBOX_CTRL_SEND_AB = 1 then s0.mboxSend p .a else s0
  let s2 := if fget v F.HOSTIF_MBOX_CTRL_ACK_AB = 1 then s1.mboxAck p .a else s1
  let s3 := if fget v F.HOSTIF_MBOX_CTRL_SEND_BA = 1 then s2.mboxSend p .b else s2
  if fget v F.HOSTIF_MBOX_CTRL_ACK_BA = 1 then s3.mboxAck p .b else s3

/-- MBOX_DATA_WRITE: port p writes word i of outbox AB (`box` is Host Port A) or BA. -/
def execMboxDataWrite (p : Port) (box : Port) (i : Fin 16) (v : Word) (s : State) : Out := .next (hostReg p (.mboxDataWrite p box i v) (fun t => t.mboxData p box i v) s)

/-- MBOX_SEND. -/
def execMboxSend (p : Port) (box : Port) (s : State) : Out := .next (hostReg p (.mboxSend p box) (fun t => t.mboxSend p box) s)

/-- MBOX_ACK. -/
def execMboxAck (p : Port) (box : Port) (s : State) : Out := .next (hostReg p (.mboxAck p box) (fun t => t.mboxAck p box) s)

-- SPI boot flash (R398)

/-- The bench loader is reading the flash. -/
def State.flashLoading (s : State) : Bool :=
  match s.load with
  | some l => l.source != 0 && s.get R.BENCH_STATUS F.BENCH_STATUS_STATE == 1
  | none => false

/-- Byte k of the buffer. -/
def State.spiByte (s : State) (k : Nat) : Byte := (s.rd (R.HOSTIF_SPI_DATA (k / 4)) >>> (8 * (k % 4))).setWidth 8

/-- Writes byte k of the buffer. -/
def State.setSpiByte (s : State) (k : Nat) (b : Byte) : State := s.put (R.HOSTIF_SPI_DATA (k / 4)) ⟨8 * (k % 4), 8, .rw, 0⟩ b.toNat

/-- Address bytes of an ADDR_BYTES code. -/
def spiAddrBytes : Nat → Nat
  | 0 => 0
  | 1 => 3
  | _ => 4

/-- The bytes that an operation sends: opcode, address with its most significant byte first, and data. -/
def State.spiSent (s : State) (v : Word) : List Byte :=
  let data := if fget v F.HOSTIF_SPI_CTRL_WRITE = 1 then (List.range (fget v F.HOSTIF_SPI_CTRL_LEN)).map s.spiByte else []
  BitVec.ofNat 8 (fget v F.HOSTIF_SPI_CTRL_OPCODE)
    :: toBe (spiAddrBytes (fget v F.HOSTIF_SPI_CTRL_ADDR_BYTES)) (s.rd R.HOSTIF_SPI_ADDR).toNat ++ data

/-- The clock of the SPI bus in MHz, by BOOT[2] (R397). -/
def State.spiMHz (s : State) : Nat := if s.get R.PKG_START F.PKG_START_BOOT / 4 = 0 then 100 else 25

/-- The bench loader reads n bytes of the flash from an address: 0x6C (quad output), or 0x0C (single-lane fast read) with BOOT[2] at 1,
4 address bytes, most significant first, and 8 dummy clocks (R397). -/
def State.flashRead (s : State) (addr n : Nat) : State :=
  { s with spiLog := ⟨(if s.get R.PKG_START F.PKG_START_BOOT / 4 = 0 then 0x6C else 0x0C) :: toBe 4 addr, 8, s.spiMHz, n⟩ :: s.spiLog }

/-- The HKFW section of the image in effect is read again from its source; a read of flash waits for a host operation on the bus to end
(R347, R398). -/
def State.rereadHk (s : State) : State :=
  match s.hkFrom with
  | none => s
  | some (a, n) => if s.spiRun.isSome then { s with hkAsk := true } else { s with hkAsk := false }.flashRead a n

/-- Flash offset of a load's slot (R43). -/
def Load.base (l : Load) : Nat := if l.source = 2 then 0x01000000 else 0

/-- The loader asks the flash for the header of the image, unless the load is from the staging window or a host operation still has the bus
(R46, R398). -/
def State.askHeader (s : State) (l : Load) : State :=
  if l.source = 0 ∨ s.spiRun.isSome = true then s else s.flashRead l.base 64

/-- Port p writes HOSTIF_SPI_CTRL. A GO that is refused changes nothing but CODE. -/
def State.writeSpiCtrl (s : State) (p : Port) (v : Word) : State :=
  let code (c : Nat) : State := s.put R.HOSTIF_SPI_STATUS F.HOSTIF_SPI_STATUS_CODE c
  if fget v F.HOSTIF_SPI_CTRL_GO = 0 then s.wrRW R.HOSTIF_SPI_CTRL v
  else if s.spiRun.isSome then code 1
  else if s.flashLoading then code 2
  else if fget v F.HOSTIF_SPI_CTRL_ADDR_BYTES = 3 ∨ 256 < fget v F.HOSTIF_SPI_CTRL_LEN then code 3
  else
    let cmd : SpiCmd := ⟨s.spiSent v, fget v F.HOSTIF_SPI_CTRL_DUMMY, s.spiMHz,
      if fget v F.HOSTIF_SPI_CTRL_WRITE = 1 then 0 else fget v F.HOSTIF_SPI_CTRL_LEN⟩
    let s1 : State := { (s.wrRW R.HOSTIF_SPI_CTRL v) with spiRun := some ⟨v, s.spiSent v⟩, spiLog := cmd :: s.spiLog }
    ((s1.put R.HOSTIF_SPI_STATUS F.HOSTIF_SPI_STATUS_CODE 0).put R.HOSTIF_SPI_STATUS F.HOSTIF_SPI_STATUS_BUSY 1).put
      R.HOSTIF_SPI_STATUS F.HOSTIF_SPI_STATUS_PORT p.toNat

/-- A HOSTIF_SPI_CTRL word with GO at 1. -/
def spiWord (write : Bool) (addrBytes : Fin 4) (dummy : Fin 16) (opcode : Byte) (len : Fin 512) : Word :=
  BitVec.ofNat 32 (2 ^ 31 + (if write then 2 ^ 30 else 0) + 2 ^ 28 * addrBytes.val + 2 ^ 24 * dummy.val + 2 ^ 16 * opcode.toNat + len.val)

/-- SPI_READ: GO with WRITE at 0. -/
def execSpiRead (p : Port) (addrBytes : Fin 4) (dummy : Fin 16) (opcode : Byte) (len : Fin 512) (s : State) : Out :=
  .next (hostReg p (.spiRead p addrBytes dummy opcode len) (fun t => t.writeSpiCtrl p (spiWord false addrBytes dummy opcode len)) s)

/-- SPI_WRITE: GO with WRITE at 1. -/
def execSpiWrite (p : Port) (addrBytes : Fin 4) (dummy : Fin 16) (opcode : Byte) (len : Fin 512) (s : State) : Out :=
  .next (hostReg p (.spiWrite p addrBytes dummy opcode len) (fun t => t.writeSpiCtrl p (spiWord true addrBytes dummy opcode len)) s)

/-- SPI_DONE: the operation in progress ends; `data` is what the flash sent, a byte that it does not reach reading 0xFF; with `fail`, the
access failed (Table 14-2). A bench load that waited for the bus begins its read. -/
def execSpiDone (data : List Byte) (fail : Bool) (s : State) : Out :=
  match s.spiRun with
  | none => .next s
  | some x =>
    let s1 : State := if fget x.ctrl F.HOSTIF_SPI_CTRL_WRITE = 1 then s
      else (List.range (fget x.ctrl F.HOSTIF_SPI_CTRL_LEN)).foldl (fun t k => t.setSpiByte k (data.getD k 0xFF)) s
    let s2 := ({ s1 with spiRun := none }.put R.HOSTIF_SPI_STATUS F.HOSTIF_SPI_STATUS_BUSY 0).put R.HOSTIF_SPI_STATUS F.HOSTIF_SPI_STATUS_DONE 1
    let s3 := if s2.hkAsk then s2.rereadHk else s2
    done ((match s.load with
      | some l => s3.askHeader l
      | none => s3).evIf fail evPkg srcSPI)

-- SMBus (R399 to R401)

/-- The device answers its SMBus address. -/
def State.smbAnswers (s : State) : Bool := s.pwr == .run && decide (3 ≤ s.startStep)

/-- The slave address (R399). -/
def State.smbAddr (s : State) : BitVec 7 := if s.sideB then 0x5D else 0x5C

/-- The bytes of address and direction that begin an SMBus transfer, or its second part. -/
def State.smbHead (s : State) (read : Bool) : Byte := BitVec.ofNat 8 (2 * s.smbAddr.toNat + if read then 1 else 0)

/-- The packet error check of a transfer: SMBus 3.0 takes CRC-8, x^8 + x^2 + x + 1, over all its bytes, the addresses among them. A transfer
that ends without one is taken (notes/assumptions/106.md). -/
def State.pecOK (s : State) (sent : List Byte) (pec : Option Byte) : Bool :=
  match pec with
  | some c => crc8 (s.smbHead false :: sent) == c
  | none => true

/-- A block read of command `code` answers its data and their check. -/
def State.smbBlock (s : State) (code : Byte) (l : List Byte) : Completion :=
  .block l (crc8 ([s.smbHead false, code, s.smbHead true, BitVec.ofNat 8 l.length] ++ l))

/-- An SMBus command to the device's address: not answered, the address is NACKed. A transfer to another address is no command to it. -/
def smbCmd (f : State → State) (s : State) : State := if s.smbAnswers then f (s.answer .done) else s.answer .nack

/-- The register that the window shows at an aligned pointer (Table 17-3). -/
def smbReg (ptr : Nat) : Option RegId :=
  if ptr < 0x1000 then some ⟨.mon, 0, ptr, 0⟩
  else
    match ptr with
    | 0x1000 => some R.PKG_START
    | 0x1004 => some R.EVT_SUM_STATUS
    | 0x1008 => some R.PAIR_STATUS
    | 0x100C => some R.CAL_STATUS
    | 0x1010 => some R.BENCH_STATUS
    | 0x1014 => some R.HOSTIF_PORT_STATUS
    | _ => none

def State.smbWord (s : State) (ptr : Nat) : Word :=
  match smbReg ptr with
  | some r => s.rd r
  | none => 0

/-- A write whose PEC fails is discarded and counted. -/
def State.pecErr (s : State) : State := s.satInc R.HOSTIF_SMB_STATUS F.HOSTIF_SMB_STATUS_PEC_ERR

/-- SMB_SET_POINTER: command 0x01; `pec` is the packet error check that ended the transfer, if one came. -/
def execSmbSetPointer (v : BitVec 16) (pec : Option Byte) (s : State) : Out :=
  .next (smbCmd (fun t => if t.pecOK [0x01, v.setWidth 8, (v >>> 8).setWidth 8] pec then { t with smbPtr := v &&& 0xFFFC } else t.pecErr) s)

/-- SMB_BLOCK_READ: command 0x02. -/
def execSmbBlockRead (s : State) : Out :=
  .next (smbCmd (fun t =>
    { t with resp := t.smbBlock 0x02 ((List.range 8).flatMap (fun i => wordBytes (t.smbWord ((t.smbPtr.toNat + 4 * i) % 2 ^ 16))))
             smbPtr := t.smbPtr + 32 }) s)

/-- SMB_READ_REGISTER: command 0x03. -/
def execSmbReadRegister (s : State) : Out :=
  .next (smbCmd (fun t => { t with resp := t.smbBlock 0x03 (wordBytes (t.smbWord t.smbPtr.toNat)), smbPtr := t.smbPtr + 4 }) s)

/-- The effect of command 0x04 at the pointer (R401); none if it is discarded. -/
def State.smbWrite (s : State) (v : Word) : Option State :=
  let ptr := s.smbPtr.toNat
  if !s.flag R.HOSTIF_SMB_CTRL F.HOSTIF_SMB_CTRL_WR_EN then none
  else if 0x200 ≤ ptr ∧ ptr < 0x238 then some (s.writeRail ((ptr - 0x200) / 8) (ptr % 8 == 4) v)
  else if ptr = 0x340 then some (s.writeTempLim v)
  else none

/-- SMB_WRITE_REGISTER: command 0x04. -/
def execSmbWriteRegister (v : Word) (pec : Option Byte) (s : State) : Out :=
  done (smbCmd (fun t =>
    if !t.pecOK ([0x04, 4] ++ wordBytes v) pec then t.pecErr
    else
      let u := match t.smbWrite v with
        | some u => u
        | none => t.satInc R.HOSTIF_SMB_STATUS F.HOSTIF_SMB_STATUS_WR_REJ
      { u with smbPtr := u.smbPtr + 4 }) s)

/-- SMB_UNKNOWN_COMMAND: any other command byte is NACKed. -/
def execSmbUnknownCommand (s : State) : Out := .next (s.answer .nack)

/-- SMB_SCL_TIMEOUT. -/
def execSmbSclTimeout (s : State) : Out := if s.smbAnswers then done (s.ev evPkg srcSMBUS) else .next s

-- TAP instructions (Table 17-5)

/-- The value that the instruction register captures, and shifts out while an instruction is shifted in (R402). -/
def irCapture : BitVec 8 := 0x01

/-- The balls take the levels that the current instruction gives them: the wire YOKE shows them. -/
def State.tapBalls (s : State) : State :=
  let s1 := if s.scanDrives then (s.linkLost .a).linkLost .b else s
  s1.yokeShow

/-- Update-IR of an instruction. One that drives the balls takes both PCIe links down. The TAP works while the package has power. -/
def State.tapUpdate (s : State) (ir : BitVec 8) : State :=
  if s.pwr = .off then s else { s with tapIr := ir, tapIrOut := some irCapture }.tapBalls

/-- An instruction that selects the boundary-scan register: what its cells captured is shifted out, as their values are shifted in. -/
def State.scanInstr (s : State) (ir : BitVec 8) (cells : List Bool) : State :=
  if s.pwr = .off then s
  else
    { s with tapIr := ir, tapIrOut := some irCapture, scan := cells, draw := s.draw + cells.length
             resp := .bits (s.scanCapture cells.length) }.tapBalls

/-- TAP_RESET: IDCODE is selected. -/
def execTapReset (s : State) : Out :=
  if s.pwr = .off then .next s else .next { s with tapIr := 0x02, tapIrOut := none }.tapBalls

/-- EXTEST, with the values shifted into the boundary-scan register (R404, R405). -/
def execExtest (cells : List Bool) (s : State) : Out := done (s.scanInstr 0x00 cells)

/-- SAMPLE_PRELOAD. -/
def execSamplePreload (cells : List Bool) (s : State) : Out := .next (s.scanInstr 0x01 cells)

/-- IDCODE: the identification register is shifted out. -/
def execIdcode (s : State) : Out :=
  if s.pwr = .off then .next s else .next ((s.tapUpdate 0x02).answer (.word idcode))

/-- CLAMP. -/
def execClamp (s : State) : Out := done (s.tapUpdate 0x03)

/-- HIGHZ. -/
def execHighz (s : State) : Out := done (s.tapUpdate 0x04)

/-- EXTEST_PULSE. -/
def execExtestPulse (cells : List Bool) (s : State) : Out := done (s.scanInstr 0x08 cells)

/-- EXTEST_TRAIN. -/
def execExtestTrain (cells : List Bool) (s : State) : Out := done (s.scanInstr 0x09 cells)

/-- FACTORY_TEST: with the TEST_MODE strap high, factory test mode until the next T0 (R406). -/
def execFactoryTest (s : State) : Out :=
  let s1 := s.tapUpdate 0x3C
  .next (if s.pwr = .run ∧ s.flag R.PKG_START F.PKG_START_TEST_MODE = true then s1.put R.EVT_SUM_STATUS F.EVT_SUM_STATUS_TEST_MODE 1 else s1)

/-- BYPASS, or an opcode that Table 17-5 does not list. -/
def execBypass (op : BitVec 8) (s : State) : Out :=
  if [(0x00 : BitVec 8), 0x01, 0x02, 0x03, 0x04, 0x08, 0x09, 0x3C].contains op then .next s else .next (s.tapUpdate op)

end Sys2Proof.Machine
end

