-- ==== Sys2Proof/Machine/Pm.lean ====
section
/-!
DEFINITION. Performance monitoring: classification of seconds, availability, bins, records, thresholds, and the PM operations
(11_performance_monitoring.md).
-/

namespace Sys2Proof.Machine

-- Seconds (R264 to R266)

/-- Errored blocks that make a second severely errored: 30 % of the entity's blocks (R264). -/
def State.pmSesAt (s : State) (k : Nat) : Nat :=
  if pmLayer k = 0 then (if 5 ≤ taKind (pmTA k) then 600 else 2400)
  else if s.isTG (pmLink k) then 364800 else 2400

/-- Errored, and severely errored, at the near end. -/
def PmSec.neEs (x : PmSec) : Bool := x.neDef || decide (0 < x.ne)
def PmSec.neSes (x : PmSec) (lim : Nat) : Bool := x.neDef || decide (lim ≤ x.ne)

/-- The far end: a near-end defect second has no far-end blocks and is no far-end defect second. -/
def PmSec.feN (x : PmSec) : Nat := if x.neDef then 0 else x.fe
def PmSec.feD (x : PmSec) : Bool := !x.neDef && x.feDef
def PmSec.feEs (x : PmSec) : Bool := x.feD || decide (0 < x.feN)
def PmSec.feSes (x : PmSec) (lim : Nat) : Bool := x.feD || decide (lim ≤ x.feN)

/-- Availability of the oldest pending second (R265): `ses` tells of the pending seconds, oldest first. -/
def unNext (un : Bool) (ses : List Bool) : Bool :=
  if ses.length < 10 then un
  else if un then !(ses.all not) else ses.all id

/-- Adds a committed second to a bin (R266). -/
def PmBin.add (b : PmBin) (x : PmSec) (lim : Nat) (neUn feUn path : Bool) : PmBin :=
  let n (c : Bool) : Nat := if c then 1 else 0
  let pj (v : Nat) : Nat := if path then v else 0
  { b with
    neES := b.neES + n (!neUn && x.neEs), neSES := b.neSES + n (!neUn && x.neSes lim),
    neBBE := b.neBBE + (if neUn || x.neSes lim then 0 else x.ne), neUAS := b.neUAS + n neUn,
    feES := b.feES + n (!feUn && x.feEs), feSES := b.feSES + n (!feUn && x.feSes lim),
    feBBE := b.feBBE + (if feUn || x.feSes lim then 0 else x.feN), feUAS := b.feUAS + n feUn,
    pj0 := b.pj0 + pj x.pjDetInc, pj1 := b.pj1 + pj x.pjDetDec, pj2 := b.pj2 + pj x.pjGenInc, pj3 := b.pj3 + pj x.pjGenDec,
    cv := b.cv + (if neUn then 0 else x.cv) }

/-- Parameters of words 2 to 14. -/
def PmBin.words (b : PmBin) : List Nat :=
  [b.neES, b.neSES, b.neBBE, b.neUAS, b.feES, b.feSES, b.feBBE, b.feUAS, b.pj0, b.pj1, b.pj2, b.pj3, b.cv]

def sat32 (v : Nat) : Nat := min v (2 ^ 32 - 1)

-- Bins (R267)

def State.ofsOf (s : State) (d : Nat) : Nat × Nat := look (fun _ => (0, 0)) s.pmOfs d
def pmQuarter (sec : Nat) : Nat := sec / 900
def pmDay (ofs sec : Nat) : Int := ((sec : Int) - 900 * ofs).fdiv 86400

-- Thresholds (R277, R278)

def State.tcaOf (s : State) (d : Nat) : List (Word × Word × Word) := look (fun _ => []) s.tcaLog d
def State.setTca (s : State) (d : Nat) (l : List (Word × Word × Word)) : State :=
  { s with tcaLog := store id (fun _ => []) s.tcaLog d l }.put (R.PM_TCA_STATUS d) F.PM_TCA_STATUS_COUNT l.length

/-- One TCA entry, or its loss. -/
def State.tcaWrite (s : State) (k i : Nat) (bin : Int) (v : Nat) : State :=
  let d := luDie (pmLink k)
  if 1024 ≤ (s.tcaOf d).length then
    let s1 := s.addLoss ⟨R.PM_TCA_LOST_LO d, R.PM_TCA_LOST_HI d⟩ 1
    if s1.tcaLost.contains d then s1 else { s1 with tcaLost := d :: s1.tcaLost }.ev (evDie d) srcPM_TCA
  else
    let w0 := 2 ^ 31 + 2 ^ 27 * i + 2 ^ 25 * (pmLayer k) + k % 2 ^ 25
    let s1 := s.setTca d (s.tcaOf d ++ [(BitVec.ofNat 32 w0, wordOfInt bin, BitVec.ofNat 32 (sat32 v))])
    { s1 with tcaLost := s1.tcaLost.filter (fun x => x != d), tcaStored := if s1.tcaStored.contains d then s1.tcaStored else d :: s1.tcaStored }

/-- Parameters of a bin that a commit brought from below their threshold to it, at most once in a bin: index, value. -/
def State.tcaHits (s : State) (k base : Nat) (cfg : Word) (old new : PmBin) : List (Nat × Nat) :=
  if !cfg.getLsbD 28 then []
  else (List.range 8).filterMap (fun i =>
    let thr := (s.rd (R.PM_TCA_PROF (luDie (pmLink k)) (cfg.toNat / 2 ^ 29) (base + i))).toNat
    let a := old.words.getD i 0
    let b := new.words.getD i 0
    if thr ≠ 0 ∧ a < thr ∧ thr ≤ b ∧ !old.crossed.contains (base + i) then some (base + i, b) else none)

-- Committing (R265, R266)

/-- Commits the oldest pending second of entity k, which is second `sec` of the time base. -/
def State.pmCommit (s : State) (k sec : Nat) : State :=
  match s.pmEnt k with
  | none => s
  | some e =>
    match e.pend with
    | [] => s
    | x :: rest =>
      let lim := s.pmSesAt k
      let ne := unNext e.neUn (e.pend.map (fun y => y.neSes lim))
      let fe := unNext e.feUn (e.pend.map (fun y => y.feSes lim))
      let bidir := e.cfg.getLsbD 27
      let neU := ne || (bidir && fe)
      let feU := fe || (bidir && ne)
      let path := pmLayer k == 0
      let q := e.quarter.add x lim neU feU path
      let d := e.day.add x lim neU feU path
      let hq := s.tcaHits k 0 e.cfg e.quarter q
      let hd := s.tcaHits k 8 e.cfg e.day d
      let q' := { q with crossed := q.crossed ++ hq.map Prod.fst }
      let d' := { d with crossed := d.crossed ++ hd.map Prod.fst }
      let s1 := s.pmUpd k (fun y => { y with pend := rest, neUn := ne, feUn := fe, quarter := q', day := d' })
      let s2 := hq.foldl (fun t h => t.tcaWrite k h.1 (pmQuarter sec : Nat) h.2) s1
      let ofs := (s.ofsOf (luDie (pmLink k))).1
      hd.foldl (fun t h => t.tcaWrite k h.1 (pmDay ofs sec) h.2) s2

/-- The second in progress of an entity ends. -/
def PmEnt.endSecond (e : PmEnt) : PmEnt := { e with now := noSec, pend := e.pend ++ [e.now] }

/-- Defects that last into the next second are present in it. -/
def State.pmStanding (s : State) (k : Nat) : State :=
  if pmLayer k = 0 then s.pmPath (pmAu3 k) (pmTA k)
  else if s.isTG (pmLink k) then
    (if s.bit (R.LU_TG_STATUS (pmLink k)) tFAILED then s.pmNeDef k else s)
  else s.pmSection (pmLink k)

/-- TCA events of the second (R278). -/
def State.tcaEvents (s : State) : State :=
  let s1 := s.tcaStored.foldl (fun t d => t.ev (evDie d) srcPM_TCA) s
  { s1 with tcaStored := [] }

-- Records (R270, R271)

/-- The 16 words of a record. -/
def pmRecord (kind : Nat) (k : Nat) (bin : Int) (b : PmBin) : List Word :=
  let sat := (b.words.zipIdx.filter (fun e => decide (2 ^ 32 - 1 < e.1))).foldl (fun m e => m + 2 ^ (e.2 + 2)) 0
  let w1 := wordOfInt bin
  [BitVec.ofNat 32 (2 ^ 30 * kind + (if b.suspect then 2 ^ 29 else 0) + 2 ^ 27 * (pmLayer k) + k % 2 ^ 25), w1]
    ++ b.words.map (fun v => BitVec.ofNat 32 (sat32 v)) ++ [BitVec.ofNat 32 (2 ^ 16 * (w1.toNat % 2 ^ 16) + sat)]

def recordBytes (l : List Word) : List Byte := l.flatMap wordBytes

/-- Writes a record into a slot. -/
def State.pmPut (s : State) (k slot off : Nat) (l : List Word) : State := s.st (s.pmSlotAt (luDie (pmLink k)) slot + off) (recordBytes l)

/-- How a quarter closes: after its last second, or at a time-base step, then cut before its end or not. -/
inductive PmEnd where
  | whole
  | step (cut : Bool)
deriving DecidableEq, Repr

/-- Closes the quarter q of one entity; `day` the day that closes with it (R269), `short` before its end, `mid` that the next day opens after
its own first second. A quarter cut by a step is SUSPECT, and so are the bins that follow a step; a day that a DAY_OFS change shortens at
its end or at its start is SUSPECT (R268, DEDUCED, log 111). -/
def State.pmCloseEnt (s : State) (k q : Nat) (day : Option Int) (short mid : Bool) (how : PmEnd) (cur next : Int) : State :=
  match s.pmEnt k with
  | none => s
  | some e =>
    let qBin := { e.quarter with suspect := e.quarter.suspect || how == .step true }
    let dayBin := { e.day with suspect := e.day.suspect || qBin.suspect || (day.isSome && short) }
    let follow := e.late || how != .whole
    let s1 := (s.pmPut k e.slot (64 * (q % 96)) (pmRecord 0 k q qBin)).pmPut k e.slot (64 * 103) (pmRecord 2 k cur dayBin)
    match day with
    | none => s1.pmUpd k (fun y => { y with quarter := emptyBin follow, day := { dayBin with suspect := dayBin.suspect || follow }, late := false })
    | some d =>
      ((s1.pmPut k e.slot (64 * (96 + (d % 7).toNat)) (pmRecord 1 k d dayBin)).pmPut k e.slot (64 * 103)
        (pmRecord 2 k next (emptyBin (follow || mid)))).pmUpd k (fun y =>
          { y with quarter := emptyBin follow, day := emptyBin (follow || mid), late := false })

/-- Closes quarter q on die d, `q'` being the quarter that follows. At a time-base step the day closes with it. -/
def State.pmCloseDie (s : State) (d q q' : Nat) (how : PmEnd) : State :=
  let (eff, latched) := s.ofsOf d
  let cur := pmDay eff (900 * q)
  let ends := decide ((q + 1) % 96 = eff % 96)
  let closes := ends || eff != latched || how != .whole
  let next := pmDay latched (900 * q')
  let s1 := (s.pmOn d).foldl (fun t e => t.pmCloseEnt e.1 q (if closes then some cur else none) (!ends || how == .step true)
    (decide (q' % 96 ≠ latched % 96)) how cur next) s
  { s1 with pmOfs := store id (fun _ => (0, 0)) s1.pmOfs d (latched, latched),
            pmClose := s1.pmClose ++ [(d, q, if closes then some cur else none)] }

/-- The quarter in progress closes on every die, and the bins of quarter `q'` begin. -/
def State.pmCloseAll (s : State) (q' : Nat) (how : PmEnd) : State :=
  let s1 := [0, 1, 2, 3].foldl (fun (t : State) d => t.pmCloseDie d s.pmQ q' how) s
  { s1 with pmDue := none, pmQ := q' }

def State.pmCloseDue (s : State) : State :=
  match s.pmDue with
  | some _ => s.pmCloseAll (s.pmQ + 1) .whole
  | none => s

/-- PM_QUARTER_CLOSE: the last second of a quarter has been committed. -/
def execPmQuarterClose (s : State) : Out := .next s.pmCloseDue

/-- PM_BIN_WRITE_DONE: the records of a close have been written on die d. -/
def execPmBinWriteDone (d : Fin 4) (sram : Bool) (s : State) : Out :=
  match s.pmClose.find? (fun e => e.1 == d.val) with
  | none => .next s
  | some e =>
    let s1 := { s with pmClose := s.pmClose.erase e }.wr (R.PM_LAST_Q d) (BitVec.ofNat 32 e.2.1)
    let s2 := match e.2.2 with
      | some day => s1.wr (R.PM_LAST_D d) (wordOfInt day)
      | none => s1
    done ((s2.evIf sram (evDie d) srcSRAM).ev (evDie d) srcPM_BIN)

/-- A second of the time base has ended; `cur` is the second that begins (R265, R267, R269). -/
def State.pmSecond (s : State) (cur : Nat) : State :=
  let s0 := s.pmCloseDue
  let s1 : State := { s0 with pm := s0.pm.map (fun e => (e.1, e.2.endSecond)) }
  let s2 := (s1.pm.map Prod.fst).foldl (fun t k =>
    match t.pmEnt k with
    | some e => if 10 ≤ e.pend.length then t.pmCommit k (cur - 10) else t
    | none => t) s1
  let s3 := (s2.pm.map Prod.fst).foldl (fun t k => t.pmStanding k) s2.tcaEvents
  let s4 := if cur % 900 = 0 then
      { s3 with pmOfs := [0, 1, 2, 3].foldl (fun m d =>
          store id (fun _ => (0, 0)) m d ((look (fun _ => (0, 0)) m d).1, s3.get (R.PM_CTRL d) F.PM_CTRL_DAY_OFS)) s3.pmOfs }
    else s3
  if cur = 900 * (s4.pmQ + 1) + 9 then { s4 with pmDue := some s4.pmQ } else s4

/-- Commits the pending seconds of every entity that lie in the quarter in progress; the last one pending is second `last` - 1. -/
def State.pmCommitQ (s : State) (last : Nat) : State :=
  (s.pm.map Prod.fst).foldl (fun t k =>
    match t.pmEnt k with
    | some e => (List.range e.pend.length).foldl (fun u i =>
        let sec := last - e.pend.length + i
        if pmQuarter sec ≤ s.pmQ then u.pmCommit k sec else u) t
    | none => t) s

/-- A time-base step to second `next` (R268): what is pending is committed with what is known of its availability, and the bins in progress close.
`cur` is the second in progress before the step; `part` tells that part of it has passed, which counts as a second, and defects that last are
present in the next. A quarter whose last second has passed is not cut by the step. -/
def State.pmTimeStep (s : State) (cur next : Nat) (part : Bool) : State :=
  let s0 := s.pmCloseDue
  let s1 : State := if part then
      (s0.pm.map Prod.fst).foldl (fun t k => t.pmStanding k) { s0 with pm := s0.pm.map (fun e => (e.1, e.2.endSecond)) }
    else s0
  let last := if part then cur + 1 else cur
  let s2 := s1.pmCommitQ last
  let s3 := if 900 * (s2.pmQ + 1) < last then (s2.pmCloseAll (s2.pmQ + 1) .whole).pmCommitQ last else s2
  (s3.pmCloseAll (pmQuarter next) (.step (decide (last < 900 * (s3.pmQ + 1))))).tcaEvents

-- Operations (R272, R279)

/-- The entity exists on die d (Table 11-1). -/
def State.pmExists (s : State) (d layer : Nat) (a3 : Bool) (t : TA) : Bool :=
  let n := taLink t
  luDie n == d &&
    (match layer with
     | 0 => s.isPath a3 t
     | 1 => !a3 && t == linkTA n && (s.isLine n || s.isTG n)
     | _ => !a3 && t == linkTA n && s.isLine n)

/-- Every entity of LU n. -/
def State.pmLuAll (s : State) (n : Nat) : List Nat :=
  (if s.isLine n then [secKey n, msKey n] else if s.isTG n then [secKey n] else [])
    ++ (s.luPaths n).map (fun e => pmKey 0 e.1 e.2)

def pcOK : Nat := 0
def pcFIELD : Nat := 1
def pcNO_ENTITY : Nat := 2
def pcUNPOWERED : Nat := 3
def pcNOT_BINNED : Nat := 4
def pcALREADY : Nat := 5
def pcNOSLOT : Nat := 6

/-- PROFILE, TCA_EN and BIDIR as the port has them. -/
def State.pmCfg (s : State) (p : Port) (d : Nat) : Word := s.rd (R.PM_IND_CFG p d) &&& 0xF8000000

/-- The code that an operation is answered with (in the order of the CODE list). -/
def State.pmCode (s : State) (d op layer : Nat) (a3 : Bool) (t : TA) : Nat :=
  let n := taLink t
  let k := pmKey layer a3 t
  let lu := op == 3 || op == 4
  let need := (s.pmLuAll n).filter (fun x => (s.pmEnt x).isNone)
  if 6 ≤ op ∨ layer = 3 then pcFIELD
  else if (if lu then luDie n != d else !s.pmExists d layer a3 t) then pcNO_ENTITY
  else if !s.clusterPowered (luCluster n) then pcUNPOWERED
  else if (op = 0 ∨ op = 2 ∨ op = 5) ∧ (s.pmEnt k).isNone then pcNOT_BINNED
  else if op = 1 ∧ (s.pmEnt k).isSome then pcALREADY
  else if op = 1 ∧ s.pmFreeSlot d = none then pcNOSLOT
  else if op = 3 ∧ s.pmCap d - (s.pmOn d).length < need.length then pcNOSLOT
  else pcOK

/-- What an accepted operation does. -/
def State.pmAct (s : State) (p : Port) (d op layer : Nat) (a3 : Bool) (t : TA) : State :=
  let n := taLink t
  let k := pmKey layer a3 t
  let slot (u : State) : State := match u.pmEnt k with
    | some e => u.put (R.PM_IND_STATUS d) F.PM_IND_STATUS_SLOT e.slot
    | none => u
  let bind (u : State) (x : Nat) : State := match u.pmFreeSlot d with
    | some i => if (u.pmEnt x).isSome then u else (u.pmBind x i (s.pmCfg p d)).pmStanding x
    | none => u
  match op with
  | 0 =>
    match s.pmEnt k with
    | some e =>
      let l := pmRecord 0 k (s.pmQ : Nat) e.quarter
      let s1 := (List.range 16).foldl (fun u i => u.wr (R.PM_IND_DATA d i) (l.getD i 0)) s
      slot (s1.wr (R.PM_IND_CFG p d) e.cfg)
    | none => s
  | 1 => slot (bind s k)
  | 2 => s.pmFree (fun x => x == k)
  | 3 =>
    let s1 := (s.pmLuAll n).foldl bind s
    { s1 with pmAuto := if s1.pmAuto.contains n then s1.pmAuto else n :: s1.pmAuto,
              pmAutoCfg := store id (fun _ => 0x08000000) s1.pmAutoCfg n (s.pmCfg p d) }
  | 4 => { (s.pmFree (fun x => pmLink x == n)) with pmAuto := s.pmAuto.filter (fun x => x != n) }
  | _ => s.pmUpd k (fun e => { e with cfg := s.pmCfg p d })

/-- GO: performs an operation of PM_IND_CTRL. -/
def State.pmGo (s : State) (p : Port) (d op layer : Nat) (a3 : Bool) (t : TA) : State :=
  let s0 := s.wr (R.PM_IND_CTRL p d) (BitVec.ofNat 32 (2 ^ 28 * op + 2 ^ 26 * layer + egName a3 t))
  let c := s0.pmCode d op layer a3 t
  let s1 := if c = pcOK then s0.pmAct p d op layer a3 t else s0
  (s1.put (R.PM_IND_STATUS d) F.PM_IND_STATUS_CODE c).put (R.PM_IND_STATUS d) F.PM_IND_STATUS_DONE 1

def execPmRead (p : Port) (d : Fin 4) (layer : Fin 4) (a3 : Bool) (t : TA) (s : State) : Out :=
  .next (hostReg p (.pmRead p d layer a3 t) (fun u => u.pmGo p d 0 layer a3 t) s)
def execPmEnable (p : Port) (d : Fin 4) (layer : Fin 4) (a3 : Bool) (t : TA) (s : State) : Out :=
  .next (hostReg p (.pmEnable p d layer a3 t) (fun u => u.pmGo p d 1 layer a3 t) s)
def execPmDisable (p : Port) (d : Fin 4) (layer : Fin 4) (a3 : Bool) (t : TA) (s : State) : Out :=
  .next (hostReg p (.pmDisable p d layer a3 t) (fun u => u.pmGo p d 2 layer a3 t) s)
def execPmEnableLu (p : Port) (d : Fin 4) (layer : Fin 4) (a3 : Bool) (t : TA) (s : State) : Out :=
  .next (hostReg p (.pmEnableLu p d layer a3 t) (fun u => u.pmGo p d 3 layer a3 t) s)
def execPmDisableLu (p : Port) (d : Fin 4) (layer : Fin 4) (a3 : Bool) (t : TA) (s : State) : Out :=
  .next (hostReg p (.pmDisableLu p d layer a3 t) (fun u => u.pmGo p d 4 layer a3 t) s)
def execPmSetCfg (p : Port) (d : Fin 4) (layer : Fin 4) (a3 : Bool) (t : TA) (s : State) : Out :=
  .next (hostReg p (.pmSetCfg p d layer a3 t) (fun u => u.pmGo p d 5 layer a3 t) s)

/-- PM_OP_INVALID: a GO with OP 6 (false) or 7 (true). -/
def execPmOpInvalid (p : Port) (d : Fin 4) (seven : Bool) (layer : Fin 4) (a3 : Bool) (t : TA) (s : State) : Out :=
  .next (hostReg p (.pmOpInvalid p d seven layer a3 t) (fun u => u.pmGo p d (if seven then 7 else 6) layer a3 t) s)

/-- A write of PM_CTRL: DAY_OFS to its range; it takes effect at the next quarter boundary (R267). -/
def State.writePmCtrl (s : State) (d : Nat) (v : Word) : State :=
  (s.wrRW (R.PM_CTRL d) v).clampFld (R.PM_CTRL d) F.PM_CTRL_DAY_OFS 0 95

def execPmDayOfsWrite (p : Port) (d : Fin 4) (v : Word) (s : State) : Out := .next (hostReg p (.pmDayOfsWrite p d v) (fun u => u.writePmCtrl d v) s)

/-- A read of PM_TCA_DATA0 (R278). -/
def State.tcaPop (s : State) (d : Nat) : State :=
  match s.tcaOf d with
  | [] => let s1 := s.put (R.PM_TCA_DATA0 d) F.PM_TCA_DATA0_VALID 0; (s1.answer (.word (s1.rd (R.PM_TCA_DATA0 d))))
  | e :: l =>
    let s1 := (((s.setTca d l).wr (R.PM_TCA_DATA0 d) e.1).wr (R.PM_TCA_DATA1 d) e.2.1).wr (R.PM_TCA_DATA2 d) e.2.2
    (s1.answer (.word e.1))

def execPmTcaPop (p : Port) (d : Fin 4) (s : State) : Out :=
  .next (hostReg p (.pmTcaPop p d) (fun t => t.tcaPop d) s)

-- Counters (R274)

/-- A read of a counter's LO register loads the reading port's HI snapshot; a read of HI returns it. -/
def State.readCtrLo (s : State) (p : Port) (r : RegId) : State :=
  match counterAt r.blk r.off with
  | none => s
  | some _ =>
    let hi := s.rd { r with off := r.off + 4 }
    { s with snaps := store RegId.code (fun _ => 0) s.snaps { r with held := p.toNat } hi, resp := .word (s.rd r) }

end Sys2Proof.Machine
end

