-- ==== Sys2Proof/Machine/Bench.lean ====
section
/-!
DEFINITION. Loading an image, and how an accepted image takes effect: start-up, full re-bench and region re-bench (R43 to R52, R383 to
R386, 02_bench_image.md, 16_power_reset_startup.md).
-/

namespace Sys2Proof.Machine

def bsEMPTY : Nat := 0
def bsLOADING : Nat := 1
def bsVALIDATING : Nat := 2
def bsWAITING : Nat := 3
def bsAPPLYING : Nat := 4
def bsACTIVE : Nat := 5
def bsREFUSED : Nat := 6
def bsFAILED : Nat := 7

def State.bench (s : State) (f : Fld) (v : Nat) : State := s.put R.BENCH_STATUS f v
def State.benchState (s : State) (v : Nat) : State := s.bench F.BENCH_STATUS_STATE v

/-- A load or re-bench is in progress (R50). -/
def State.benchBusy (s : State) : Bool := s.load.isSome || s.applying.isSome

/-- A later step of Table 16-4 is reached. -/
def State.toStep (s : State) (n : Nat) : State := if s.startStep < n then s.put R.PKG_START F.PKG_START_STEP n else s

-- Loading (R43 to R46)

/-- A read from a source begins; from flash it begins with a read command for the header (R43, R397). -/
def State.beginRead (s : State) (l : Load) : State :=
  (({ s with load := some l }.bench F.BENCH_STATUS_LAST_SOURCE l.source).benchState bsLOADING).askHeader l

/-- A load begins. -/
def State.beginLoad (s : State) (l : Load) : State :=
  ((((s.wr R.BENCH_REFUSE 0).wr R.BENCH_REFUSE_OFFSET 0).bench F.BENCH_STATUS_FALLBACK 0).bench F.BENCH_STATUS_REREADS 0).beginRead l

/-- A refusal is recorded and counted. -/
def State.recordRefusal (s : State) (r : BRef) : State :=
  ((((s.wr R.BENCH_REFUSE (BitVec.ofNat 32 (2 ^ 24 * r.step + 2 ^ 8 * (r.sect % 2 ^ 16) + r.code))).wr R.BENCH_REFUSE_OFFSET
    (BitVec.ofNat 32 r.off)).benchState bsREFUSED).ev evPkg srcBENCH)

/-- A write of BENCH_CTRL (R43, R50, R440). A START with SOURCE 3 is a load that ends before its read: FALLBACK and REREADS are cleared, and
LAST_SOURCE, which has no code for it, stays (notes/assumptions/78.md). -/
def State.writeBenchCtrl (s : State) (v : Word) : State :=
  let s1 := s.wrRW R.BENCH_CTRL v
  let src := s1.get R.BENCH_CTRL F.BENCH_CTRL_SOURCE
  if fget v F.BENCH_CTRL_START = 0 then s1
  else if s1.benchBusy || s1.grave then s1.bench F.BENCH_STATUS_START_IGNORED 1
  else if src = 3 then
    ((((s1.bench F.BENCH_STATUS_FALLBACK 0).bench F.BENCH_STATUS_REREADS 0)).recordRefusal ⟨0, 0x0D, 0, 0⟩)
  else s1.beginLoad ⟨src, false, false, false, none⟩

def benchWord (src : Nat) : Word := BitVec.ofNat 32 (2 * src + 1)

/-- BENCH_START_STAGING. -/
def execBenchStartStaging (p : Port) (s : State) : Out := .next (hostReg p (.benchStartStaging p) (fun t => t.writeBenchCtrl (benchWord 0)) s)

/-- BENCH_START_SLOT0. -/
def execBenchStartSlot0 (p : Port) (s : State) : Out := .next (hostReg p (.benchStartSlot0 p) (fun t => t.writeBenchCtrl (benchWord 1)) s)

/-- BENCH_START_SLOT1. -/
def execBenchStartSlot1 (p : Port) (s : State) : Out := .next (hostReg p (.benchStartSlot1 p) (fun t => t.writeBenchCtrl (benchWord 2)) s)

/-- BENCH_START_INVALID_SOURCE. -/
def execBenchStartInvalidSource (p : Port) (s : State) : Out := done (hostReg p (.benchStartInvalidSource p) (fun t => t.writeBenchCtrl (benchWord 3)) s)

/-- The load in progress is refused: slot 1 is read next where the fallback is selected (R45). -/
def State.refuseLoad (s : State) (l : Load) (r : BRef) : State :=
  let s1 := s.recordRefusal r
  if l.fallback && !l.fell then s1.beginRead { l with source := 2, fell := true, header := none }
  else
    let s2 : State := { s1 with load := none }
    if l.boot then s2.toStep 8 else s2

/-- BENCH_LEN binds a staging load. -/
def State.stagedLen (s : State) (l : Load) : Option Nat := if l.source = 0 then some (s.get R.BENCH_LEN F.BENCH_LEN_LENGTH) else none

/-- IMAGE_HEADER_READ: steps 1 and 2 on the 64-byte header, from the staging window or, as `flash` gives them, from flash. A flash read
waits for a host operation on the SPI bus to end (R398). -/
def execImageHeaderRead (flash : List Byte) (s : State) : Out :=
  match s.load with
  | none => .next s
  | some l =>
    if l.header.isSome || (l.source != 0 && s.spiRun.isSome) then .next s
    else
      let h := if l.source = 0 then s.ld stagingBase 64 else (List.range 64).map (fun i => flash.getD i 0)
      match (headerBad h).or (lengthBad h (s.stagedLen l)) with
      | some r => done (s.refuseLoad l r)
      | none =>
          let s1 : State := { s with load := some { l with header := some h } }
          .next (if l.source = 0 then s1.benchState bsVALIDATING else s1.flashRead (l.base + 64) (le h 8 4 - 64))

-- Power, banks and memories of units (R35, R327, R385)

/-- DIE_UNIT_STATE of a region and of a cluster: POWER, and LOCK, which an unlocked clock holds back. -/
def State.powerRg (s : State) (g : Nat) (on lock : Bool) : State :=
  (s.putBit (R.DIE_UNIT_STATE (g / 2)) (22 + g % 2) on).putBit (R.DIE_UNIT_STATE (g / 2)) (24 + g % 2)
    (on && lock && !s.bit (R.EVT_LIVE (evRegion g)) srcRgCLOCK)

def State.powerCl (s : State) (c : Nat) (on lock : Bool) : State :=
  (s.putBit (R.DIE_UNIT_STATE (c / 8)) (c % 8) on).putBit (R.DIE_UNIT_STATE (c / 8)) (8 + c % 8)
    (on && lock && !s.bit (R.EVT_LIVE (evCluster c)) srcTX && !s.clusterStopped c)

/-- Bank b exists on die d by the slab depth and power in effect (R310). -/
def State.bankIs (s : State) (d b : Nat) : Bool :=
  decide (b < 16) || (s.depthOf d == 2 && s.regionPowered (2 * d + (if b < 29 then 0 else 1)))

def State.setOwner (s : State) (d b : Nat) : State :=
  let r := R.WB_OWN d b
  (s.put r F.WB_OWN_OWNER (if s.flag r F.WB_OWN_RETIRED then 0 else look (fun _ => 0) s.wbDefault (48 * d + b))).put r F.WB_OWN_PENDING 0

/-- Nothing of a handover or a pass is left on bank b of die d, but for the accesses that wait for it. -/
def State.dropBank (s : State) (d b : Nat) : State :=
  let s1 := (s.sieveEnd d b).setSieveAt d b 0
  { s1 with wbNew := store id (fun _ => 0) s1.wbNew (64 * d + b) 0 }.stopTimer (clearKey 3 d b)

/-- Banks of a die that cease to exist. -/
def State.banksGone (s : State) (d : Nat) : State :=
  (List.range 42).foldl (fun t b =>
    if t.bankExists d b && !t.bankIs d b then
      (((((t.dropBank d b).zeroMem (inBank d b)).put (R.WB_OWN d b) F.WB_OWN_PRESENT 0).put (R.WB_OWN d b) F.WB_OWN_OWNER 0).put
        (R.WB_OWN d b) F.WB_OWN_PENDING 0).wakeBank d b
    else t) s

/-- Banks of a die that come into being, zeroed within 30 us, with their WBOWN owners (R327, R386). -/
def State.banksNew (s : State) (d : Nat) : State :=
  let comes := (List.range 42).any (fun b => s.bankIs d b && !s.bankExists d b)
  (if comes then s.startTimerNs (clearKey 5 d 0) 30000 else s) |> (List.range 42).foldl (fun t b =>
    if t.bankIs d b && !t.bankExists d b then
      ((t.zeroMem (inBank d b)).put (R.WB_OWN d b) F.WB_OWN_PRESENT 1).setOwner d b
    else t)

/-- WB_STATUS.BANKS of a die. -/
def State.banksShow (s : State) (d : Nat) : State :=
  s.put (R.WB_STATUS d) F.WB_STATUS_BANKS (((List.range 42).filter (fun b => s.bankExists d b)).length)

/-- Slab banks and gather tables of region g are cleared; RG_SLAB_STATUS shows its depth. -/
def State.clearSlabs (s : State) (g : Nat) : State :=
  let on := s.regionPowered g
  (({ s with slabs := s.slabs.filter (fun e => e.1 / 2 ^ 21 != g) }.put (R.RG_SLAB_STATUS g) F.RG_SLAB_STATUS_DEPTH
    (if on then s.depthOf (g / 2) else 0)).put (R.RG_SLAB_STATUS g) F.RG_SLAB_STATUS_SLAB_READ 0)

/-- The region island restarts: a FENCE reaction that stopped it ends (R348). -/
def State.restartRegion (s : State) (g : Nat) : State :=
  { s with safe := s.safe.filter (fun f => !(f.fence && f.blk == evRegion g)) }

-- Sections (R47)

/-- MODE, EVTCLASS and MATRIX. -/
def State.applyModes (s : State) (x : Img) : State :=
  let f := x.body 7
  let entries := (List.range (f.length / 8)).map (fun i =>
    ((le f (8 * i) 1, le f (8 * i + 1) 1), (le f (8 * i + 2) 1 % 8, le f (8 * i + 3) 1, le f (8 * i + 4) 4, decide (128 ≤ le f (8 * i + 2) 1))))
  let s1 := (List.range evBlocks).foldl (fun t b => (List.range (evSources b)).foldl (fun u i =>
    let fc := factory b i
    u.classify b i (match entries.find? (fun e => e.1 == (b, i)) with
      | some e => e.2
      | none => (fc.1, fc.2.1, fc.2.2, true))) t) { s with fence := le (x.body 8) 0 1 % 2 == 1 }
  s1.put R.MATRIX_MODE F.MATRIX_MODE_KEEP (((List.range 19).filter (fun m => le (x.body 6) m 1 == 1)).foldl (fun n m => n + 2 ^ m) 0)

/-- POWER and SLAB of a full image. -/
def State.applyPower (s : State) (x : Img) : State :=
  let s1 := (List.range 8).foldl (fun t g => t.powerRg g (x.rgPower g) true) s
  let s2 := (List.range 32).foldl (fun t c => t.powerCl c (x.clPower c) true) s1
  let s3 : State := { s2 with depth := (List.range 4).map (fun d => (d, imgSlab (x.body 3) d)), fabric := [], txGrains := [] }
  let s4 := (List.range 8).foldl (fun t g =>
    let u := t.clearSlabs g
    if x.rgPower g then (u.restartRegion g).startTimerNs (clearKey 4 g 0) 2000000 else u) s3
  (List.range 4).foldl (fun t d => t.banksGone d) s4

/-- A byte of the stack of die d lies in a partition that keeps its start and size. -/
def keptByte (old new : State) (d a : Nat) : Bool :=
  let o := a - dramBase d
  (List.range 5).any (fun k =>
    let sizes (s : State) : List Nat := let p := s.partsOf d; [p.capture, p.pattern, p.deskew, p.pmhist, p.scratch]
    old.partStart d k == new.partStart d k && (sizes old).getD k 0 == (sizes new).getD k 0
      && decide (new.partStart d k ≤ o) && decide (o < new.partStart d k + unitBytes * (sizes new).getD k 0))

/-- DRAM, WBOWN and HKFW of a full image (R327). -/
def State.applyDram (s : State) (x : Img) : State :=
  let s1 : State := { s with dram := (List.range 4).map (fun d => (d, x.dram d)) }
  let s2 := (List.range 4).foldl (fun (t : State) d =>
    t.zeroMem (fun a => decide (dramBase d ≤ a) && decide (a < dramBase d + 64 * unitBytes) && !keptByte s s1 d a)) s1
  let s3 : State := { s2 with wbDefault := ((List.range 192).map (fun i => (i, le (x.body 5) i 1))).filter (fun e => e.2 != 0) }
  let s4 := (List.range 4).foldl (fun t d =>
    let u := (List.range 42).foldl (fun v b => if v.bankExists d b then ((v.dropBank d b).setOwner d b).wakeBank d b else v) t
    (((u.banksNew d).banksShow d).pmShow d).grpShow d) s3
  { s4 with hkFrom := s4.hkNext }.wr R.BENCH_HKFW_VER (BitVec.ofNat 32 (le (x.body 9) 0 4))

/-- The LINKS entries of the image take effect; a full image gives MATE_TX and MATE_RX, which have no entry, the SerDes defaults. -/
def State.applyLinks (s : State) (x : Img) : State :=
  (if x.full then { s with eqSet := [128, 129].foldl (fun l n => store id (fun _ => []) l n (s.eqBytes n 0)) s.eqSet } else s) |> (List.range 128).foldl (fun t n =>
    if x.setsLu n then
      let u := { t with eqPreset := store id (fun _ => 0) t.eqPreset n (x.preset n)
                        eqSet := store id (fun _ => []) t.eqSet n (t.eqBytes n (x.preset n)) }.applyPers n (x.pers n)
      if x.pers n = 0 then u.setTerm n 0 else u
    else t)

-- Start-up and full re-bench (Table 16-4 from step 9, R48)

/-- Every stack is trained and zeroed. -/
def State.dramReady (s : State) : Bool := (List.range 4).all (fun d => s.flag (R.DRAM_STATUS d) F.DRAM_STATUS_INIT_DONE)

/-- Partition units of die d that a DRAM section does not keep (R327). -/
def unitsCleared (old new : State) (d : Nat) : Nat :=
  let sizes (s : State) : List Nat := let p := s.partsOf d; [p.capture, p.pattern, p.deskew, p.pmhist, p.scratch]
  (List.range 5).foldl (fun n k =>
    let z := (sizes new).getD k 0
    if old.partStart d k = new.partStart d k ∧ (sizes old).getD k 0 = z then n else n + z) 0

/-- DRAM to HKFW take effect once the stacks are ready. A full re-bench clears the partition units that it does not keep, each within 0.55 ms
(R386). -/
def State.fullDram (s : State) (a : Applying) : State :=
  if s.dramReady then
    let s1 := { s.applyDram a.img with applying := some { a with stage := .hkSet } }
    if a.boot then s1
    else (List.range 4).foldl (fun t d =>
      let n := unitsCleared s s1 d
      if n = 0 then t else t.startTimerNs (clearKey 6 d 0) (550000 * n)) s1
  else s

/-- The clearings that an image began have ended. -/
def State.clearsEnd (s : State) : State :=
  let s1 := (List.range 8).foldl (fun t g => t.stopTimer (clearKey 4 g 0)) s
  (List.range 4).foldl (fun t d => (t.stopTimer (clearKey 5 d 0)).stopTimer (clearKey 6 d 0)) s1

/-- Step 9: MODE to SLAB, and what follows if the stacks are ready. -/
def State.fullApply (s : State) (a : Applying) : State :=
  let b : Applying := { a with stage := .slabSet }
  let s1 := (s.benchState bsAPPLYING).put R.PKG_START F.PKG_START_STEP 9
  ({ (s1.applyModes a.img).applyPower a.img with applying := some b }).fullDram b

/-- The old map goes with everything that hangs on it (R48). -/
def State.dropMap (s : State) : State :=
  let s1 := s.entries.foldl (fun t e => t.sncEnd e.key) s
  let s2 := s1.merges.foldl (fun t m => t.mrgShow m.1 0 false) s1
  { s2 with actMap := [], merges := [], hitAis := [], unionHold := [], syncing := [] }

/-- Frame boundary from which the MAP may commit: at least 4 frames after LINKS. -/
def State.mapAfter (s : State) : Nat := s.inFrames 4

/-- The image is accepted (Table 16-4 step 8, Table 02-11 step 2). BENCH_STATUS.SCOPE and REGION name the last image accepted: a refused one
leaves them (notes/assumptions/78.md). -/
def State.accept (s : State) (l : Load) (x : Img) : State :=
  let s1 := (({ s with load := none }.bench F.BENCH_STATUS_FALLBACK (if l.fell then 1 else 0)).bench F.BENCH_STATUS_SCOPE
    (if x.full then 0 else 1))
  let s2 := if x.full then s1 else s1.bench F.BENCH_STATUS_REGION x.region
  let s3 := if l.boot then s2.toStep 8 else s2
  if x.full then
    (if l.boot then s3.fullApply ⟨x, true, .waiting, s3.up⟩
     else
       let s4 := (List.range 4).foldl (fun t d => (t.skBench d).poBench d) (s3.benchState bsWAITING)
       { s4 with applying := some ⟨x, false, .waiting, s4.inFrames 0⟩ })
  else
    let named (k : Nat) : Bool := s3.txnState k == txSEALED && (s3.slot k).recs.any (fun r => r.namesRegion x.region)
    let sealedAt := ((List.range 8).filter named).map (fun k => s3.up + fnDelta s3.fn (s3.commitFn k))
    { s3.benchState bsWAITING with applying := some ⟨x, false, .waiting, sealedAt.foldl max (s3.inFrames 0)⟩ }

/-- Where the HKFW section of a full image lies in flash. -/
def State.hkPlace (s : State) (l : Load) (b : List Byte) : State :=
  if !(imgOf b).full then s
  else if l.source = 0 then { s with hkNext := none }
  else { s with hkNext := ((directory b).find? (fun e => e.typ == 9)).map (fun e => (l.base + e.off, e.len)) }

/-- IMAGE_READ_DONE: the whole image has been read and is validated. `flash` is what the flash gives for the image, and `again` what it
gives, section by section, when a section that fails its CRC is read again; with `rom`, the package ROM, which holds the HKFW key (R40), fails
its check (Table 14-2). -/
def execImageReadDone (flash : List Byte) (again : List (List Byte)) (rom : Bool) (s : State) : Out :=
  match s.load with
  | none => .next s
  | some l =>
    match l.header with
    | none => .next s
    | some h =>
      let n := le h 8 4
      let b := if l.source = 0 then s.ld stagingBase n else h ++ (List.range (n - 64)).map (fun i => flash.getD (64 + i) 0)
      let v := s.imageCheck (if l.source = 0 then 0 else 3) again b
      let s1 := v.reread.foldl (fun t e => (t.flashRead (l.base + e.off) e.len).satInc R.BENCH_STATUS F.BENCH_STATUS_REREADS) s
      let s2 := (if l.boot then s1.toStep 7 else s1).evIf rom evPkg srcROM
      match v.bad with
      | some r => done (s2.refuseLoad l r)
      | none => done ((s2.hkPlace l v.img).accept l (imgOf v.img))

/-- The image on its way stands at this stage. -/
def State.stageIs (s : State) (full : Bool) (st : Stage) : Option Applying := s.applying.filter (fun a => a.img.full == full && a.stage == st)

/-- FULL_REBENCH_APPLY: at the first boundary after acceptance (R48). -/
def execFullRebenchApply (s : State) : Out :=
  match s.stageIs true .waiting with
  | none => .next s
  | some a =>
    if s.ns ≠ 0 ∨ s.up < a.after then .next s
    else
      let s1 := ({ s with fullForced := true }.mspFreeAll.abortAll).dropMap
      done ((s1.pmFree (fun _ => true)).fullApply a)

/-- LINKS_ADAPTED: LINKS takes effect. -/
def execLinksAdapted (s : State) : Out :=
  match s.stageIs true .hkSet with
  | none => .next s
  | some a => done { (s.applyLinks a.img).clearsEnd with applying := some { a with stage := .linksSet, after := s.mapAfter } }

/-- The records of an image's MAP commit as one transaction (R42). -/
def State.commitMap (s : State) (x : Img) : State :=
  if x.has 10 then (x.records.foldl (fun t r => t.commitRec r) s).wr R.TXN_LAST_COMMIT_FN (BitVec.ofNat 32 s.fn) else s

/-- Severity is enabled at the first step 10 after power-on or RESET_N (R384). -/
def State.enableSeverity (s : State) : State :=
  if s.sevOn then s
  else
    (List.range evBlocks).foldl (fun t b => (List.range (evSources b)).foldl (fun u i =>
      if u.bit (R.EVT_LIVE b) i && !(u.bit (R.EVT_SEVERE b) i) then u.turnSevere b i else u) t) { s with sevOn := true }

/-- Time since T0 in ns (R387). -/
def State.sinceT0 (s : State) : Nat := s.lead + 125000 * (s.up - s.upStart) + s.ns

/-- STARTUP_MAP_COMMIT: step 10. -/
def execStartupMapCommit (s : State) : Out :=
  match s.stageIs true .linksSet with
  | none => .next s
  | some a =>
    if s.ns ≠ 0 ∨ s.up < a.after ∨ s.fn % 4 ≠ 0 then .next s
    else
      let s1 := (s.commitMap a.img).wr R.BENCH_ACTIVE_ID a.img.id
      let s2 := ((List.range 8).foldl (fun t g => t.wr (R.BENCH_REGION_ID g) 0) s1).benchState bsACTIVE
      let s3 := if s2.sevOn then s2 else s2.put R.PKG_START F.PKG_START_ELAPSED (min 0xFFFFF (s.sinceT0 / 10000))
      let s4 : State := { (s3.put R.PKG_START F.PKG_START_STEP 10) with applying := none, fullActive := true, fullForced := false,
                                                                        rbForced := [], rgFailed := [] }
      done (s4.enableSeverity.updHealth.pairShow)

-- Region re-bench (Table 02-11)

/-- Bound of a step of Table 02-11 that is in progress, in ns. -/
def State.stepBound (s : State) (ns : Nat) : State := s.startTimerNs ⟨.rebench, ⟨0, 0, 0⟩⟩ ns

/-- The bound of the step in progress has passed (R51). -/
def State.overBound (s : State) : Bool := s.timerDone ⟨.rebench, ⟨0, 0, 0⟩⟩

/-- A sealed transaction that names region g has reached its commit frame: it commits first (R49, Table 02-11 step 3). -/
def State.commitsFirst (s : State) (g : Nat) : Bool :=
  (List.range 8).any (fun k => s.commitDue k && (s.slot k).recs.any (fun r => r.namesRegion g))

/-- REGION_REBENCH_APPLY: the acceptance frame FN_A, and step 4. -/
def execRegionRebenchApply (s : State) : Out :=
  match s.stageIs false .waiting with
  | none => .next s
  | some a =>
    let g := a.img.region
    if s.ns ≠ 0 ∨ s.up < a.after ∨ s.commitsFirst g = true then .next s
    else
      let s1 := (s.refuseHolding rcREBENCH (fun r => r.namesRegion g)).benchState bsAPPLYING
      done { s1.stepBound 1000000 with rbForced := if s1.rbForced.contains g then s1.rbForced else g :: s1.rbForced
                                       applying := some { a with stage := .forced } }

/-- REGION_POWER_APPLIED: step 5. Entities of the region lose their PM slots (R272). -/
def execRegionPowerApplied (s : State) : Out :=
  match s.stageIs false .forced with
  | none => .next s
  | some a =>
    let g := a.img.region
    let s1 := s.powerRg g (a.img.rgPower g) false
    let s2 := (List.range 4).foldl (fun t i => t.powerCl (4 * g + i) (a.img.clPower (4 * g + i)) false) s1
    let s3 := ((s2.banksGone (g / 2)).banksShow (g / 2)).pmFree (fun k => luRegion (pmLink k) == g)
    if s.overBound then .next s else done { s3.stepBound 200000 with applying := some { a with stage := .powered } }

/-- REGION_PLL_LOCKED: step 6. -/
def execRegionPllLocked (s : State) : Out :=
  match s.stageIs false .powered with
  | none => .next s
  | some a =>
    let g := a.img.region
    let s1 := s.powerRg g (s.regionPowered g) true
    let s2 := (List.range 4).foldl (fun t i => t.powerCl (4 * g + i) (t.clusterPowered (4 * g + i)) true) s1
    let s3 := if s2.regionPowered g then s2.startTimerNs (clearKey 4 g 0) 2000000 else s2
    .next (if s.overBound then s else { s3.stepBound 2000000 with applying := some { a with stage := .locked } })

/-- REGION_SLABS_CLEARED: step 7, and the work banks that the region brings. -/
def execRegionSlabsCleared (s : State) : Out :=
  match s.stageIs false .locked with
  | none => .next s
  | some a =>
    let g := a.img.region
    .next (if s.overBound then s
      else { ((((s.clearSlabs g).stopTimer (clearKey 4 g 0)).banksNew (g / 2)).banksShow (g / 2)).stepBound 50000000 with applying := some { a with stage := .cleared } })

/-- REGION_LINKS_APPLIED: step 8. -/
def execRegionLinksApplied (s : State) : Out :=
  match s.stageIs false .cleared with
  | none => .next s
  | some a =>
    if s.overBound then .next s
    else done { ((s.applyLinks a.img).stopTimer (clearKey 5 (a.img.region / 2) 0)).stopTimer ⟨.rebench, ⟨0, 0, 0⟩⟩ with applying := some { a with stage := .linksSet, after := s.mapAfter } }

/-- The entries whose egress lies in region g are cleared (R42). A merge stands apart from the entries and goes on until its UNMERGE
(notes/assumptions/79.md). -/
def State.clearRegion (s : State) (g : Nat) : State :=
  (s.entries.filter (fun e => luRegion (taLink e.eg) == g)).foldl (fun t e => (t.sncEnd e.key).setEntry e.key none) s

/-- REGION_MAP_COMMIT: step 9. -/
def execRegionMapCommit (s : State) : Out :=
  match s.stageIs false .linksSet with
  | none => .next s
  | some a =>
    if s.ns ≠ 0 ∨ s.up < a.after ∨ s.fn % 4 ≠ 0 then .next s
    else
      let g := a.img.region
      let s1 := if a.img.has 10 then (s.clearRegion g).commitMap a.img else s
      let s2 := ((s1.wr (R.BENCH_REGION_ID g) a.img.id).benchState bsACTIVE).restartRegion g
      done { s2 with applying := none, rbForced := s2.rbForced.filter (fun x => x != g), rgFailed := s2.rgFailed.filter (fun x => x != g) }.updHealth

/-- REGION_REBENCH_TIMEOUT: one of steps 5 to 8 overruns its bound (R51). -/
def execRegionRebenchTimeout (s : State) : Out :=
  match s.applying with
  | none => .next s
  | some a =>
    if a.img.full || !([Stage.forced, .powered, .locked, .cleared].contains a.stage) || !s.overBound then .next s
    else
      let g := a.img.region
      done ({ (s.benchState bsFAILED).stopTimer ⟨.rebench, ⟨0, 0, 0⟩⟩ with applying := none, rgFailed := if s.rgFailed.contains g then s.rgFailed else g :: s.rgFailed }.ev evPkg
        srcBENCH).updHealth

end Sys2Proof.Machine
end

