-- ==== Sys2Proof/Machine/Egress.lean ====
section
/-!
DEFINITION. The transmit side of the LUs: pointer generators, originated high-order paths, section overhead, line frames, TG frames and
shadow CRCs (R80, R106 to R121, R129, R136 to R140, R209 to R213, R227).
-/

namespace Sys2Proof.Machine

-- What an LU transmits (R80, R140, R303)

/-- The map entry of the tributary that LU n sends as (a3, t): its own, or that of the link whose content a bridge gives it (R180, R181;
notes/assumptions/103.md). -/
def State.sentEntry (s : State) (a3 : Bool) (t : TA) : Option Rec :=
  (s.bridgedFrom (taLink t)).bind (fun c => s.entry (egName a3 (onLink t c)))

/-- What plays on the tributary that an LU sends as (a3, t). -/
def State.sentPlay (s : State) (a3 : Bool) (t : TA) : Option Play :=
  (s.bridgedFrom (taLink t)).bind (fun c => s.playOn a3 (onLink t c))

/-- The kind-0 entry whose content LU n sends: none where that content is unequipped, which a link without an entry sends (R80). -/
def State.sentWhole (s : State) (n : Nat) : Option Rec :=
  ((s.bridgedFrom n).bind s.wholeEntry).filter (fun r => r.typ == tyConnect || r.unconn == 1)

/-- The tributaries that the map, a playing target or a group's egress member structures on LU n: EG_AU3, TA, NC code. An entry beyond the rate
of the link is not sent (R95). -/
def State.mapTribs (s : State) (n : Nat) : List (Bool × TA × Nat) :=
  match s.bridgedFrom n, s.outN n with
  | some c, some k =>
      ((s.entries.filter (fun r => taLink r.eg == c && taKind r.eg != 0 && taInRate r.eg r.nc k)).map (fun r => (r.egAu3, onLink r.eg n, r.nc))
        ++ ((s.plays c).filter (fun e => taKind e.t != 0)).map (fun e => (e.a3, onLink e.t n, e.x.nc)))
  | _, _ => []

/-- The unconnected tributaries of a TUG-2 of which `l` are the tributaries in use: the others of the kind that it carries; TU-12s where it
carries none (DESIGN CHOICE, notes/assumptions/103.md). -/
def idleTug2 (n a t m : Nat) (a3 : Bool) (l : List (Bool × TA × Nat)) : List (Bool × TA × Nat) :=
  let kind := ((l.head?).map (fun e => taKind e.2.1)).getD 6
  let us := if kind = 6 then [0, 1, 2] else if kind = 7 then [0, 1, 2, 3] else ([] : List Nat)
  (us.filter (fun u => !l.any (fun e => taTu e.2.1 == u))).map (fun u => (a3, mkTA n a t m u kind, 0))

/-- The unconnected tributaries of an AUG-1 of which `l` are the tributaries in use, where these lie in TUG-3s or TUG-2s: a TUG-3 that carries
none is a TU-3 (R80; DESIGN CHOICE, notes/assumptions/103.md). -/
def idleTribs (n a : Nat) (l : List (Bool × TA × Nat)) : List (Bool × TA × Nat) :=
  let a3 := l.any (fun e => e.1)
  if !l.any (fun e => decide (4 ≤ taKind e.2.1)) then []
  else [0, 1, 2].flatMap (fun t =>
    let lt := l.filter (fun e => taTug3 e.2.1 == t)
    if lt.any (fun e => decide (5 ≤ taKind e.2.1)) then
      (List.range 7).flatMap (fun m => idleTug2 n a t m a3 (lt.filter (fun e => taTug2 e.2.1 == m)))
    else if lt.isEmpty && !a3 then [(false, mkTA n a t 7 3 4, 0)]
    else [])

/-- The tributaries that LU n sends, but for whole AUs that no entry structures: those in use, and the unconnected ones beside them. -/
def State.egTribs (s : State) (n : Nat) : List (Bool × TA × Nat) :=
  let l := s.mapTribs n
  l ++ ((l.map (fun e => taAug e.2.1)).eraseDups).flatMap (fun a => idleTribs n a (l.filter (fun e => taAug e.2.1 == a)))

/-- The tributaries of link n that lie in AUG-1 a. -/
def State.augTribs (s : State) (n a : Nat) : List (Bool × TA × Nat) :=
  (s.egTribs n).filter (fun p =>
    if taKind p.2.1 = 1 then decide (taAug p.2.1 ≤ a) && decide (a < taAug p.2.1 + ncN p.2.2) else taAug p.2.1 == a)

/-- The AU-ns that the LU sends in AUG-1 a: one AU-4, the head of an AU-4-Nc, or three AU-3s. -/
def State.auForm (s : State) (n a : Nat) : List (Bool × TA) :=
  let l := s.augTribs n a
  match l.find? (fun p => taKind p.2.1 == 1) with
  | some p => [(false, p.2.1)]
  | none =>
    if l.any (fun p => p.1) || (l.isEmpty && s.isSonet n) then [0, 1, 2].map (fun t => (true, mkTA n a t 7 3 3))
    else [(false, mkTA n a 3 7 3 2)]

/-- The LU originates the VC of an AU: it carries TU-3s or TUG-2 contents. -/
def State.originates (s : State) (a3 : Bool) (t : TA) : Bool :=
  (s.augTribs (taLink t) (taAug t)).any (fun p =>
    if a3 then p.1 && decide (5 ≤ taKind p.2.1) && taTug3 p.2.1 == taTug3 t else !p.1 && decide (4 ≤ taKind p.2.1))

-- Pointer generation (R136, R137)

/-- What a pointer generator describes in a period. -/
inductive GenCase where
  /-- Path AIS. -/
  | ais
  /-- A path that starts at a fixed offset: unequipped, or originated. -/
  | fixed (p : Nat)
  /-- Delivered grains with their markers. -/
  | marks
deriving DecidableEq, Repr

/-- What the generator of a tributary describes; none where the LU sends no such tributary. -/
def State.genCase (s : State) (a3 : Bool) (t : TA) : Option GenCase :=
  let n := taLink t
  let kind := taKind t
  if kind = 0 ∨ (s.isLine n || s.isTG n) = false ∨ (s.outN n).getD 0 ≤ taAug t then none
  else
    match s.sentPlay a3 t with
    | some e =>
        some (if s.outForced n then .ais
          else if s.playOver n e then .fixed (uneqP kind)
          else if e.injects 4 then .ais
          else if e.injects 5 then .fixed (uneqP kind)
          else .marks)
    | none =>
      if s.sentWhole n ≠ none then none
      else if (s.egTribs n).any (fun e => e.1 == a3 && e.2.1 == t) then
        some (match (s.sentEntry a3 t).map (s.gatherOn n) with
          | some .follow => .marks
          | some .pathAis => .ais
          | some .forced => .ais
          | _ => if s.outForced n then .ais else .fixed (uneqP kind))
      else if (kind = 2 ∨ kind = 3) ∧ (s.auForm n (taAug t)).contains (a3, t) = true then
        some (if s.outForced n then .ais else .fixed 522)
      else none

/-- A generator that sends path AIS. -/
def aisGen : GenSt := ⟨none, 0xFFFF, none⟩

def State.gen (s : State) (a3 : Bool) (t : TA) : GenSt := look (fun _ => aisGen) s.gens (egName a3 t)

/-- SS bits sent (Table 06-2). -/
def ssOut (sonet : Bool) (kind : Nat) : Nat := if kind ≤ 3 then (if sonet then 0 else 2) else if kind = 4 then 2 else tuSS kind

/-- A pointer word: NDF, SS, value. -/
def ptrWord (ndf ss v : Nat) : Nat := 2 ^ 12 * ndf + 2 ^ 10 * ss + v % 2 ^ 10

/-- The justification of a period: none, negative, positive. -/
inductive Just where
  | none | neg | pos
deriving DecidableEq, Repr

/-- One period of a generator: the pointer sent and P afterwards, and the justification that the pointer shows. `start` is the first
marked path start of the period; `new` an offset that a Pour script gives with an enabled NDF (R307). -/
def genStep (kind ss : Nat) (g : GenSt) (c : GenCase) (x : Ahead) (new : Option Nat) : GenSt × Just :=
  let fresh (q : Nat) : GenSt := ⟨some q, ptrWord 9 ss q, none⟩
  let plain (q w : Nat) : GenSt := ⟨some q, ptrWord 6 ss w, none⟩
  let mx := maxOff kind
  match c with
  | .ais => (aisGen, .none)
  | .fixed q => (if g.p = some q then plain q q else fresh q, .none)
  | .marks =>
    match new, g.p, x.start with
    | some q, _, _ => (fresh q, .none)
    | none, none, none => (aisGen, .none)
    | none, none, some q => (fresh q, .none)
    | none, some p, st =>
      let (w, p', j) : Nat × Nat × Just :=
        if x.neg then (p ^^^ 0x155, (if p = 0 then mx else p - 1), .neg)
        else if x.pos then (p ^^^ 0x2AA, (if p = mx then 0 else p + 1), .pos)
        else (p, p, .none)
      match st with
      | some q => if q = p ∨ q = p' then (plain p' w, j) else (fresh q, .none)
      | none => (plain p' w, j)

-- What the delivered grains show (R54, R136)

/-- The marks that the read side has delivered to a tributary of link n in uptime frames lo to hi, of those kept, and, with `now`, in the
present frame. -/
def State.marksOf (s : State) (a3 : Bool) (t : TA) (nc lo hi : Nat) (now : Bool) : Marks :=
  let n := taLink t
  let k := (s.outN n).getD 0
  let old := s.txMarks.filter (fun e => decide (lo ≤ e.1) && decide (e.1 ≤ hi) && e.2 / 155520 == n)
  let x := old.foldl (fun (x : Marks) e => x.add a3 t nc k (e.2 % 155520) ((s.frames + e.1 + 3 * s.up) % 4)) ⟨false, 0, [], 0⟩
  if now then
    (s.txGrains.filter (fun e => e.1 / 155520 == n && e.2.getLsbD 9)).foldl (fun (x : Marks) e =>
      x.add a3 t nc k (e.1 % 155520) (s.frames % 4)) x
  else x

/-- Where the starts that the grains of source src have in the multiframes (`st`) reach the egress tributary of entry r in the one that begins
in uptime frame p: offsets in order of time. A byte whose egress column lies before its ingress column arrives one frame later. -/
def State.startsAhead (s : State) (r : Rec) (src : TA) (p : Nat) (st : Nat → Option Nat) : List Nat :=
  let n := taLink src
  let a3 := s.srcAu3 src
  let kind := taKind r.eg
  let k := (s.nLink n).getD 0
  let m := (s.outN (taLink r.eg)).getD 0
  let l := (maxOff kind + 1) / 4
  [p - 4, p].filterMap (fun per =>
    (st per).bind (fun q =>
      let (row, col, ph) := tuByte src q
      match trPlace a3 src 0 k (row, col), trPlace r.egAu3 r.eg 0 m (row, col) with
      | some i, some o =>
        let f := egressFrame (per + ph) none i k o m
        if p ≤ f ∧ f < p + 4 then some ((f - p + 3) % 4 * l + q % l) else none
      | _, _ => none))

/-- The positions of a tributary of kind 5 to 7 on a link of order k over a multiframe, in order of time: frame and position. -/
def tuPositions (a3 : Bool) (t : TA) (k : Nat) : List (Nat × Nat) :=
  [0, 1, 2, 3].flatMap (fun ph => ((List.range 9).flatMap (fun row => (List.range (tuWidth t)).filterMap (fun i =>
    trPlace a3 t 0 k (row, i)))).map (fun q => (ph, q)))

/-- What the pattern of job j gives target x in the multiframe that has begun. -/
def State.patAhead (s : State) (d j : Nat) (x : PourTgt) (a3 : Bool) (t : TA) (p : Option Nat) : Ahead :=
  let l := s.patGrains d j
  let k := (s.outN (taLink t)).getD 0
  ((((tuPositions a3 t k).zipIdx).foldl (fun (m : Marks) e =>
    if (l.getD ((x.k0 + e.2) % max 1 l.length) 0).getLsbD 9 then m.add a3 t 0 k e.1.2 e.1.1 else m) ⟨false, 0, [], 0⟩).read (taKind t) p).1

/-- What the grains of the multiframe that begins in uptime frame p will show in an egress tributary of kind 5 to 7, whose pointer leads
them: from the realigner of its source, or the deskew that it leaves; from the script and the offset of a Pour job, or its pattern; and
`given` where nothing in the device tells (a TG source). `q` is the offset sent last. -/
def State.foretell (s : State) (a3 : Bool) (t : TA) (p : Nat) (q : Option Nat) (given : Ahead) : Ahead :=
  let d := luDie (taLink t)
  match s.sentPlay a3 t with
  | some e =>
      (match e.x.mem, e.job with
       | none, some j =>
          if s.poRaw d j then s.patAhead d j e.x a3 t q
          else
            let act := (s.pour d j).act.1
            ⟨act == 2, act == 1, some e.x.p⟩
       | _, _ => ⟨false, false, some e.x.p⟩)
  | none =>
    match s.sentEntry a3 t with
    | none => given
    | some r =>
      let src := s.selected r
      let u := onLink src (s.feedLU (taLink src))
      match (s.equaliser (s.srcAu3 src) src).bind (fun e => e.2.1.ingress e.2.1.ref) with
      | some (ra, rt) =>
          let x := s.heldRead ra rt (p - 4)
          ⟨x.neg, x.pos, (s.startsAhead r src p (fun per => (s.heldRead ra rt (per - 4)).start)).head?⟩
      | none =>
        if s.isTG (taLink u) then given
        else
          let x := s.path (s.srcAu3 u) u
          ⟨x.justIn p == 1, x.justIn p == 2, (s.startsAhead r u p (fun per => x.startAt (taKind r.eg) per)).head?⟩

/-- NC code of the egress tributary (a3, t). -/
def State.egNc (s : State) (a3 : Bool) (t : TA) : Nat :=
  (((s.egTribs (taLink t)).find? (fun e => e.1 == a3 && e.2.1 == t)).map (fun e => e.2.2)).getD 0

/-- What a period of a generator describes, and the markers that it ignores: of the present frame, or, for a pointer that leads its
grains, of the multiframe to come and of the one before (notes/assumptions/86.md). -/
def State.shown (s : State) (a3 : Bool) (t : TA) (p : Nat) (given : Ahead) : Ahead × Nat :=
  let kind := taKind t
  let q := (s.gen a3 t).p
  if kind ≤ 4 then (s.marksOf a3 t (s.egNc a3 t) 1 0 true).read kind q
  else (s.foretell a3 t p q given, ((s.marksOf a3 t 0 (p - 4) (p - 1) false).read kind q).2)

/-- The offset that a script's NEW gives the tributary in the present period (R307). -/
def State.scriptNew (s : State) (a3 : Bool) (t : TA) : Option Nat :=
  let d := luDie (taLink t)
  match (s.sentPlay a3 t).bind (fun e => if e.x.mem.isSome then none else e.job) with
  | some j => if (s.pour d j).act.1 = 3 then some (s.pour d j).act.2 else none
  | none => none

def ctrGenPj (n : Nat) : Ctr := ⟨R.LU_PATH_GEN_PJ_LO n, R.LU_PATH_GEN_PJ_HI n⟩
def ctrGenNdf (n : Nat) : Ctr := ⟨R.LU_PATH_GEN_NDF_LO n, R.LU_PATH_GEN_NDF_HI n⟩
def ctrStray (n : Nat) : Ctr := ⟨R.LU_PATH_STRAY_LO n, R.LU_PATH_STRAY_HI n⟩

/-- One period of the generator of an egress tributary, which describes `c`. -/
def State.generate (s : State) (a3 : Bool) (t : TA) (c : GenCase) (p : Nat) (ahead : Ahead) : State :=
  let n := taLink t
  let kind := taKind t
  let (x, lost) := s.shown a3 t p ahead
  let (g, j) := genStep kind (ssOut (s.isSonet n) kind) (s.gen a3 t) c x (s.scriptNew a3 t)
  let s1 := { s with gens := store id (fun _ => aisGen) s.gens (egName a3 t) { g with per := some p } }
  let s2 := if c = .marks ∧ lost ≠ 0 then s1.addCtr (ctrStray n) lost else s1
  let s3 := if g.word / 4096 = 9 then s2.addCtr (ctrGenNdf n) 1 else s2
  match j with
  | .none => s3
  | .pos => (s3.addCtr (ctrGenPj n) 1).pmPj (pmKey 0 a3 t) 2
  | .neg => (s3.addCtr (ctrGenPj n) 1).pmPj (pmKey 0 a3 t) 3

/-- POINTER_GENERATE: a period of the generator of an egress tributary, once a period but for a path that gives way to AIS in it. `ahead`
says what the grains of a multiframe that begins will show where the state does not foretell it. -/
def execPointerGenerate (a3 : Bool) (t : TA) (ahead : Ahead) (s : State) : Out :=
  match s.genCase a3 t with
  | none => .next s
  | some c =>
    let p := s.periodAt (taKind t) s.up
    if (s.gen a3 t).per = some p ∧ c ≠ .ais then .next s else done (s.generate a3 t c p ahead)

-- Grains as an LU sends them from its tributaries (R128, R129, R137, R139, R140)

/-- Overhead byte i of a high-order VC that the LU originates. The trace and the multiframe run with the frames sent. A protection link has
that of the link whose content it sends, and its own parity. -/
def State.hoByte (s : State) (a3 : Bool) (t : TA) (i : Nat) : Byte :=
  let n := (s.bridgedFrom (taLink t)).getD (taLink t)
  let ctl (f : Fld) : Nat := s.get (R.LU_PATH_CTRL n) f
  match i with
  | 0 => s.txEntry n (ctl F.LU_PATH_CTRL_J1TX_IDX) (ctl F.LU_PATH_CTRL_J1TX_64 == 1) (s.secSt n).txJ0
  | 1 => BitVec.ofNat 8 (look (fun _ => 0) s.hoB3 (egName a3 t))
  | 2 => 0x02
  | 3 => let (e, r) := s.backward a3 (onLink t n); BitVec.ofNat 8 (e * 16 + (if r then 8 else 0))
  | 5 => BitVec.ofNat 8 ((s.fn + 1) % 4)
  | _ => 0

/-- A byte for which the spec gives no value. -/
def State.openByte (s : State) (i : Nat) : Byte := BitVec.ofNat 8 (Config.free (s.draw + i))

/-- Position p is the first byte of an unequipped or originated path of a tributary. -/
def startsAt (a3 : Bool) (t : TA) (nc n p ph : Nat) : Bool :=
  let r := p / (270 * n)
  let k := (p % (270 * n) - 9 * n) / n
  r == 0 && (match taKind t with
    | 1 | 2 => k == 0 && p % (270 * n) == 9 * n + taAug t
    | 3 => k == taTug3 t
    | 4 => k == 6 + taTug3 t
    | _ => ph == 1 && trLocate a3 t nc n p == some (0, 1))

/-- The tributary that holds position p of link n: EG_AU3, TA, NC code, what the position is to it. -/
def State.holderAt (s : State) (n p : Nat) : Option (Bool × TA × Nat × Slot) :=
  let k := (s.outN n).getD 0
  match (s.bridgedFrom n).bind (fun c => s.playAt [poPLAYING, poENDING] c p) with
  | some (e, sl) => if taKind e.t = 0 then none else some (e.a3, onLink e.t n, e.x.nc, sl)
  | none => (s.egTribs n).findSome? (fun e => (slotAt e.1 e.2.1 e.2.2 k p (s.fn % 4)).map (fun sl => (e.1, e.2.1, e.2.2, sl)))

/-- A grain that the LU makes at a position that no tributary of the map holds: overhead, stuff or nothing of an originated or
unequipped VC. -/
def State.idleCell (s : State) (n k p : Nat) : Grain :=
  let c := p % (270 * k)
  let r := p / (270 * k)
  let a := (c - 9 * k) % k
  let v := (c - 9 * k) / k
  match (s.auForm n a).find? (fun e => if e.1 then taTug3 e.2 == v % 3 else true) with
  | none => mkGrain false 0
  | some (a3, t) =>
    let own := s.originates a3 t
    let col := if a3 then v / 3 else v
    if col = 0 then mkGrain (r == 0) (if own then s.hoByte a3 t r else 0)
    else if own && (if a3 then col == 29 || col == 58
        else decide (col < 3) || (decide (col < 9) && (s.augTribs n a).any (fun q => decide (5 ≤ taKind q.2.1) && taTug3 q.2.1 == col % 3)))
    then mkGrain false (s.openByte p)
    else mkGrain false 0

/-- A tributary of a TG link whose source lies in a region that is re-benched is all void grains (R25). -/
def State.sendsVoid (s : State) (a3 : Bool) (t : TA) : Bool :=
  let n := taLink t
  s.isTG n && (s.sentPlay a3 t).isNone && (match s.sentEntry a3 t with
    | some r => s.gatherOn n r == .pathAis && r.typ == tyConnect && s.srcBenched (s.selected r)
    | none => false)

/-- The grain that the LU sends at position p of a link of order k, below the section overhead or at an H3 byte. -/
def State.txCell (s : State) (n k p : Nat) : Grain :=
  let g := look (fun _ => (0 : Grain)) s.txGrains (155520 * n + p)
  if (s.linkPlay n).isSome || (s.sentWhole n).isSome then g
  else
    match s.holderAt n p with
    | none => if p % (270 * k) < 9 * k then mkGrain false 0 else s.idleCell n k p
    | some (a3, t, nc, sl) =>
      let x := s.gen a3 t
      if s.sendsVoid a3 t then voidGrain
      else match sl with
      | .ptr =>
          let hi := if taKind t = 4 then p / (270 * k) == 0 else s.fn % 4 == 0
          if taKind t ≠ 4 ∧ s.fn % 4 = 3 then mkGrain false (if x.p = none then 0xFF else 0)
          else mkGrain false (BitVec.ofNat 8 (if hi then x.word / 256 else x.word))
      | .fix => mkGrain false (if x.p = none then 0xFF else s.openByte p)
      | _ => (match s.genCase a3 t with
          | some (.fixed _) => mkGrain (startsAt a3 t nc k p (s.fn % 4)) 0
          | _ => g)

-- Row 4 of the section overhead: AU pointers (Table 06-3, R137)

/-- The byte at column c of row 4, of the 9 columns of each AUG-1. -/
def State.auPtr (s : State) (n k c : Nat) : Byte :=
  let a := c % k
  let b := c / k
  let p := 270 * k * 3 + c
  let h3 : Byte := (s.txCell n k p).setWidth 8
  let y : Byte := if s.isSonet n then 0x93 else 0x9B
  match s.auForm n a with
  | [(a3, t)] =>
      let g := s.gen a3 t
      if 6 ≤ b then h3
      else if g.p = none then 0xFF
      else if taKind t = 1 ∧ taAug t ≠ a then (if b ≤ 2 then y else 0xFF)
      else match b with
        | 0 => BitVec.ofNat 8 (g.word / 256)
        | 1 | 2 => y
        | 3 => BitVec.ofNat 8 g.word
        | _ => 0xFF
  | l =>
      match l[b % 3]? with
      | some (a3, t) => if 6 ≤ b then h3 else BitVec.ofNat 8 (if b < 3 then (s.gen a3 t).word / 256 else (s.gen a3 t).word)
      | none => 0

-- Section overhead (Table 05-3, R109, R112, R113, R115, R121)

/-- A byte of a pass-through group: as received at its position, or its fill. -/
def State.passByte (s : State) (n p : Nat) (grp : Fld) (fill : Byte) : Byte :=
  if s.get (R.LU_SEC_OHSRC n) grp = 1 ∧ s.passes n = true then (look (fun _ => (0 : Grain)) s.txGrains (155520 * n + p)).setWidth 8 else fill

/-- The beacon message of LU n (Table 05-4). -/
def State.beaconMsg (s : State) (n : Nat) : List Byte :=
  let cap := 1 + (if s.mateUp then 2 else 0)
    + (if s.searches n then 4 else 0) + (if s.flag (R.LU_SEC_CTRL n) F.LU_SEC_CTRL_TX_SCR_OFF then 8 else 0)
  let l : List Byte := [0x01, 0x54, 0x56, 0x41, BitVec.ofNat 8 ((if s.sideB then 128 else 0) + n)] ++ toBe 4 (Config.serial.toNat % 2 ^ 32)
    ++ [BitVec.ofNat 8 cap] ++ toBe 4 (s.rd (R.LU_SEC_BEACON_USER n)).toNat ++ [0]
  l ++ [crc8 l]

/-- K1 and K2 bits 1 to 5 that LU n sends: its MSP group's, passed, or those of LU_SEC_KTX. -/
def State.kOut (s : State) (n k : Nat) : Byte × Byte :=
  match s.mspActing n with
  | some (g, i, 0) => (BitVec.ofNat 8 (s.get (R.MSP_APS g i) F.MSP_APS_K1_TX), BitVec.ofNat 8 (s.get (R.MSP_APS g i) F.MSP_APS_K2_TX) &&& 0xF8)
  | some _ => (0, 0)
  | none =>
    let own (f : Fld) : Byte := BitVec.ofNat 8 (s.get (R.LU_SEC_KTX n) f)
    (s.passByte n (270 * k * 4 + 3 * k) F.LU_SEC_OHSRC_K (own F.LU_SEC_KTX_K1),
     s.passByte n (270 * k * 4 + 6 * k) F.LU_SEC_OHSRC_K (own F.LU_SEC_KTX_K2) &&& 0xF8)

/-- A link injection in this frame (R306). -/
def State.linkInj (s : State) (n what : Nat) : Option Byte :=
  (s.linkPlay n).bind (fun e => if e.injects what then e.x.injNow.map (fun i => BitVec.ofNat 8 i.2) else none)

/-- K2 bits 6 to 8 that LU n sends while it sends no MS-AIS (R121); those of a protection link follow Table 08-2. -/
def State.k2Low (s : State) (n : Nat) : Byte :=
  if (s.linkInj n 10).isSome then 6
  else if (s.secSt n).rdi && !s.flag (R.LU_SEC_CTRL n) F.LU_SEC_CTRL_TX_RDI_OFF then 6
  else match s.mspActing n with
    | some (g, i, 0) => BitVec.ofNat 8 (s.get (R.MSP_APS g i) F.MSP_APS_K2_TX) &&& 7
    | _ => BitVec.ofNat 8 (s.get (R.LU_SEC_KTX n) F.LU_SEC_KTX_K2) &&& 7

/-- MS-AIS is sent through the present frame (R117). -/
def State.sendsAis (s : State) (n : Nat) : Bool :=
  s.outForced n || (s.searches n && !(s.secSt n).txFound) || (s.linkInj n 9).isSome || (s.linkPlay n).any (s.playOver n)

/-- MS-AIS is sent at position p of a frame of order k: through the frame, or from the end instant of a link's job on (R304). -/
def State.aisAt (s : State) (n k p : Nat) : Bool := s.sendsAis n || (s.linkPlay n).any (s.playPast n k p)

/-- MSP_APS of an ACTIVE group, with K1 and K2 as the protection link sends them (Table 08-16). -/
def State.apsView (s : State) (g i : Nat) : Word :=
  let r := R.MSP_APS g i
  if s.mspState g i ≠ 2 then s.rd r
  else
    let n := s.mspLink g i 0
    if s.sendsAis n then fset (fset (s.rd r) F.MSP_APS_K1_TX 0xFF) F.MSP_APS_K2_TX 0xFF
    else fset (s.rd r) F.MSP_APS_K2_TX (s.get r F.MSP_APS_K2_TX / 8 * 8 + (s.k2Low n).toNat)

/-- The section overhead byte of row r and column c, from 0, of a link of order k; row 3 holds the AU pointers. Columns 7N + 1 to 9N of row 1
that carry no beacon are sent as the national-use bytes of Table 05-3, on a SONET link too, where GR-253 calls them Z0
(notes/assumptions/91.md). -/
def State.ohOut (s : State) (n k r c : Nat) : Byte :=
  let x := s.secSt n
  let p := 270 * k * r + c
  let fill (f : Fld) : Byte := BitVec.ofNat 8 (s.get (R.LU_SEC_OHFILL n) f)
  match r with
  | 0 =>
      if c < 3 * k then 0xF6
      else if c < 6 * k then 0x28
      else if c = 6 * k then
        s.passByte n p F.LU_SEC_OHSRC_J0 (txTrace (s.get (R.LU_SEC_CTRL n) F.LU_SEC_CTRL_TRACE_FMT) (s.msgBytes (R.LU_SEC_J0_TX n 0) 64) x.txJ0)
      else if c < 7 * k then fill F.LU_SEC_OHFILL_Z0
      else if c < 7 * k + 2 ∧ s.flag (R.LU_SEC_CTRL n) F.LU_SEC_CTRL_BEACON_TX = true then
        (if c = 7 * k then (s.beaconMsg n).getD x.txBcn 0 else BitVec.ofNat 8 (0xB0 + x.txBcn))
      else s.passByte n p F.LU_SEC_OHSRC_NAT 0
  | 1 =>
      if c = 0 then x.txB1
      else if c = 3 * k then s.passByte n p F.LU_SEC_OHSRC_E1 (fill F.LU_SEC_OHFILL_OW)
      else if c = 6 * k then s.passByte n p F.LU_SEC_OHSRC_F1 (fill F.LU_SEC_OHFILL_F1)
      else 0
  | 2 => if c = 0 ∨ c = 3 * k ∨ c = 6 * k then s.passByte n p F.LU_SEC_OHSRC_DCC_R (fill F.LU_SEC_OHFILL_DCC) else 0
  | 3 => if (s.sentWhole n).isSome then (look (fun _ => (0 : Grain)) s.txGrains (155520 * n + p)).setWidth 8 else s.auPtr n k c
  | 4 =>
      if c < 3 * k then x.txB2.getD c 0
      else if c = 3 * k then (s.kOut n k).1
      else if c = 6 * k then (s.kOut n k).2 ||| s.k2Low n
      else 0
  | 8 =>
      if c = 0 then
        (if s.flag (R.LU_SEC_S1 n) F.LU_SEC_S1_S1_TX_OVR then BitVec.ofNat 8 (s.get (R.LU_SEC_S1 n) F.LU_SEC_S1_S1_TX)
         else BitVec.ofNat 8 (look (fun _ => 11) s.s1Out n))
      else if c = 3 * k + 2 then BitVec.ofNat 8 (min (m1Cap k) x.viol)
      else if c = 6 * k then s.passByte n p F.LU_SEC_OHSRC_E2 (fill F.LU_SEC_OHFILL_OW)
      else 0
  | _ => if c = 0 ∨ c = 3 * k ∨ c = 6 * k then s.passByte n p F.LU_SEC_OHSRC_DCC_M (fill F.LU_SEC_OHFILL_DCC) else 0

-- The line frame

/-- Byte at row r and column c of the frame of LU n, before MS-AIS and injections: a Pour job's, or, with rows 1 to 3 where MS-AIS is sent
(R109, R117), that of the LU. -/
def State.lineByte (s : State) (n k r c : Nat) : Byte :=
  match (s.linkPlay n).bind (fun e => if s.aisAt n k (270 * k * r + c) then none else e.job) with
  | some j =>
      let own := s.flag (R.POUR_JOB_CFG (luDie n) j) F.POUR_JOB_CFG_OH_CALC && ((r == 1 && c == 0) || (r == 4 && decide (c < 3 * k)) || (r == 8 && c == 3 * k + 2))
      if own then s.ohOut n k r c else (look (fun _ => (0 : Grain)) s.txGrains (155520 * n + 270 * k * r + c)).setWidth 8
  | none => if c < 9 * k then s.ohOut n k r c else (s.txCell n k (270 * k * r + c)).setWidth 8

/-- The frame of LU n at order k before scrambling. MS-AIS is all ones but for rows 1 to 3 of the section overhead. -/
def State.lineBuild (s : State) (n k : Nat) : List Byte :=
  let ais := s.sendsAis n
  let late := (s.linkPlay n).any (s.playEnded n)
  let inj (what : Nat) : Byte := (s.linkInj n what).getD 0
  (List.range 9).flatMap (fun r => (List.range (270 * k)).map (fun c =>
    if (decide (3 ≤ r) || decide (9 * k ≤ c)) && (ais || (late && s.aisAt n k (270 * k * r + c))) then 0xFF
    else
      let b := s.lineByte n k r c
      if r = 1 ∧ c = 0 then b ^^^ inj 7
      else if r = 4 ∧ c = 0 then b ^^^ inj 8
      else if r = 0 ∧ c = 3 * k then b ^^^ inj 11
      else if r = 4 ∧ c = 6 * k ∧ (s.linkInj n 10).isSome = true then (b &&& 0xF8) ||| 6
      else b))

/-- The package drives the present frame of LU n: it has driven since before the window of that frame, which lies 40 ns after the first A1 bit
of a line frame, and before the first bit of a TG frame, 60 ns into the tail of the frame before (R224, R226). -/
def State.drivesFrame (s : State) (n : Nat) : Bool :=
  decide (s.driveAt.1 < s.up) || (s.driveAt.1 == s.up && decide (s.driveAt.2 ≤ if s.isTG n then 219 else 40))

/-- The transmitter of LU n sends frames: the package drives it, it is not stopped in fence mode, no CABLE run sends its test
steps (R364), and the boundary-scan register does not drive the balls (R405). -/
def State.onLine (s : State) (n : Nat) : Bool :=
  s.driving && s.drivesFrame n && !s.fenced n && !s.flag (R.LU_SENSE_STATUS n) F.LU_SENSE_STATUS_BUSY && !s.scanDrives

/-- The parities of the originated VCs of a frame, for its successor. -/
def State.hoParity (s : State) (n k : Nat) (f : List Grain) : List (Nat × Nat) :=
  (List.range k).flatMap (fun a => ((s.auForm n a).filter (fun e => s.originates e.1 e.2)).map (fun e =>
    (egName e.1 e.2, (f.zipIdx.foldl (fun (b : Byte) x =>
      let c := x.2 % (270 * k)
      let v := (c - 9 * k) / k
      if 9 * k ≤ c ∧ (c - 9 * k) % k = a ∧ (e.1 = false ∨ v % 3 = taTug3 e.2) then b ^^^ x.1.setWidth 8 else b) 0).toNat)))

def State.keepB3 (s : State) (n : Nat) (l : List (Nat × Nat)) : State :=
  let other := s.hoB3.filter (fun e => taLink (BitVec.ofNat 24 e.1) != n)
  { s with hoB3 := l.foldl (fun m e => store id (fun _ => 0) m e.1 e.2) other }

/-- LU n of a line personality has sent the present frame. -/
def State.sendLine (s : State) (n : Nat) : State :=
  let x := s.secSt n
  match persN (if s.searches n then x.txRate else s.persOf n) with
  | none => s
  | some k =>
    let f := s.lineBuild n k
    let line := if x.txOff then f else scramble k f
    let s1 := s.setSec n { x with txB1 := bip8 line, txB2 := bip24 k f, txJ0 := (x.txJ0 + 1) % 64, txBcn := (x.txBcn + 1) % 16 }
    let s2 := s1.keepB3 n (s.hoParity n k (f.map (fun b => b.setWidth 10)))
    let s3 := if s2.shadowOn then s2.addShadow n (crc32 (f.drop (810 * k))) else s2
    { s3 with lineOut := if s3.onLine n then store id (fun _ => []) s3.lineOut n line else drop n s3.lineOut,
              draw := s3.draw + 155520 }

-- The TG frame (R209 to R213)

/-- The header of a grain link in the present frame. -/
def State.tgHead (s : State) (n : Nat) : List Byte :=
  s.tgHeadOf 0 n (if s.outForced n then 0x10 else 0) (if s.depthOf (luDie n) = 3 then 2 else 0) (List.replicate 10 0)

/-- The grain at position p of TG link n. -/
def State.tgGrainOut (s : State) (n p : Nat) : Grain :=
  if 155520 ≤ p ∨ s.outForced n = true then voidGrain
  else if !tgContent p then voidGrain
  else s.txCell n 64 p

/-- Four grains as five bytes. -/
def packGrains : List Grain → List Byte
  | a :: b :: c :: d :: t =>
      toBe 5 (1024 * (1024 * (1024 * a.toNat + b.toNat) + c.toNat) + d.toNat) ++ packGrains t
  | _ => []

/-- The grain blocks of the frame of TG link n. -/
def State.tgBlocks (s : State) (n : Nat) : List Byte :=
  (List.range 152).flatMap (fun b =>
    let l := packGrains ((List.range 1024).map (fun i => s.tgGrainOut n (1024 * b + i)))
    l ++ toBe 2 (crc16 l).toNat)

/-- LU n of the TG personality has sent the present frame. -/
def State.sendTg (s : State) (n : Nat) : State :=
  let blocks := s.tgBlocks n
  let f : List Byte := toBe 8 tgFaw ++ s.tgHead n ++ blocks ++ List.replicate 377 0
  let g := (List.range 155520).map (fun p => s.tgGrainOut n p)
  let s1 := (s.updSec n (fun x => { x with txJ0 := (x.txJ0 + 1) % 64 })).keepB3 n (s.hoParity n 64 g)
  let s2 := if s1.shadowOn then s1.addShadow n (crc32 blocks) else s1
  { s2 with lineOut := if s2.onLine n then store id (fun _ => []) s2.lineOut n (tgScramble f) else drop n s2.lineOut,
            draw := s2.draw + 155520 }

/-- Every LU sends the present frame (the transmit side of a frame), and MATE_TX its own; an LU whose personality is OFF sends none. -/
def State.sendAll (s : State) : State :=
  (s.pers.foldl (fun (t : State) e => if t.isTG e.1 then t.sendTg e.1 else if t.isLine e.1 then t.sendLine e.1 else t)
    { s with lineOut := s.lineOut.filter (fun e => s.persOf e.1 != 0) }).shadowSent.sendMate

/-- Generators of tributaries that the LU no longer sends are at rest. -/
def State.trimGens (s : State) : State :=
  { s with gens := s.gens.filter (fun e => (s.genCase (decide (2 ^ 24 ≤ e.1)) (BitVec.ofNat 24 e.1)).isSome) }

end Sys2Proof.Machine
end

