-- ==== Sys2Proof/Machine/Power.lean ====
section
/-!
DEFINITION. Power, resets and the start-up sequence (R375 to R387, 16_power_reset_startup.md).
-/

namespace Sys2Proof.Machine

-- T0

/-- At T0 a port whose PERST line is high leaves its reset (R381). -/
def State.perstAtT0 (s : State) (p : Port) : State :=
  if s.perstIsLow p then
    (s.setPort p PortCfg.down).put R.PKG_RST_CAUSE (match p with
      | .a => F.PKG_RST_CAUSE_PERST_A
      | .b => F.PKG_RST_CAUSE_PERST_B) 1
  else if (s.port p).perst then s.perstRise p else s

/-- T0: the straps are sampled, and the start-up sequence begins (R376, R382, R383, R387). -/
def State.t0 (s : State) (side test : Bool) (boot : BitVec 3) : State :=
  let s1 : State := { s with pwr := .run, lead := 0, upStart := s.up, warm := false }
  let s2 := (((s1.put R.PKG_START F.PKG_START_SIDE (if side then 1 else 0)).put R.PKG_START F.PKG_START_TEST_MODE (if test then 1 else 0)).put
    R.PKG_START F.PKG_START_BOOT boot.toNat).putPair F.PAIR_STATUS_SIDE side
  let s3 := if s.warm then s2.put R.PKG_RST_CAUSE F.PKG_RST_CAUSE_RESET_N 1 else s2
  ((s3.perstAtT0 .a).perstAtT0 .b).arbChange s3.arbLow

-- Power

/-- What outlives the rails: the calibration store (unless a COMMIT was under way, R370), the levels of the board's lines, and what the
model itself keeps. -/
def State.unpowered (s : State) (p : Pwr) : State :=
  { State.reset with pwr := p, rstLow := s.rstLow, perstLow := s.perstLow, pending := s.pending, draw := s.draw, oscIn := s.oscIn, arbLow := s.arbLow,
                     portA := PortCfg.down, portB := PortCfg.down,
                     calStore := if s.calRun = 4 then ⟨false, []⟩ else s.calStore }

/-- POWER_ON: the rails ramp up; power-on reset holds. -/
def execPowerOn (s : State) : Out := if s.pwr = .off then .next (s.unpowered .por) else .next s

/-- POR_END: power-on reset ends, with OSC_IN running or (osc false) after 10 ms without it. With RESET_N high this is T0. -/
def execPorEnd (osc side test : Bool) (boot : BitVec 3) (s : State) : Out :=
  if s.pwr ≠ .por then .next s
  else
    let s1 : State := { s with pwr := .reset, oscIn := osc }
    let s2 := if osc then s1 else (s1.ev evTime srcOSC).liveOn evTime srcOSC
    done (if s2.rstLow then s2 else s2.t0 side test boot)

/-- POWER_OFF. -/
def execPowerOff (s : State) : Out := .next (s.unpowered .off)

-- RESET_N (R378 to R380)

/-- Bits of a register that RESET_N leaves (Table 16-2): RWS fields, PKG_RST_CAUSE, the port links with their MSI-X tables and pending
bits, and the live bits of conditions that a reset does not end. -/
def resetKeep (r : RegId) : Word :=
  if r = R.PKG_RST_CAUSE ∨ r = R.HOSTIF_PORT_STATUS then 0xFFFFFFFF
  else if r.blk = .hostif ∧ 0x1000 ≤ r.off then 0xFFFFFFFF
  else if r = R.EVT_LIVE evPkg then BitVec.ofNat 32 (2 ^ srcHOSTA + 2 ^ srcHOSTB + 2 ^ srcFAULT_PIN)
  else if r = R.EVT_LIVE evTime then BitVec.ofNat 32 (2 ^ srcOSC)
  else if r = R.EVT_LIVE r.inst ∧ 7 ≤ r.inst ∧ r.inst < 15 then BitVec.ofNat 32 (2 ^ srcRgCLOCK)
  else if r = R.EVT_LIVE r.inst ∧ 15 ≤ r.inst ∧ r.inst < 47 then BitVec.ofNat 32 (2 ^ srcTX)
  else accMask r (fun a => a == .rws)

/-- What RESET_N leaves behind. -/
def State.afterReset (s : State) : State :=
  { State.reset with
    pwr := .reset, warm := true, rstLow := s.rstLow, perstLow := s.perstLow, pending := s.pending, resp := s.resp, draw := s.draw
    oscIn := s.oscIn, arbLow := s.arbLow, yokeMate := s.yokeMate, clk := s.clk, up := s.up, portA := s.portA, portB := s.portB, hostWrites := s.hostWrites
    calStore := s.calStore, calBoot := s.calBoot, spareOn := s.spareOn, spareLast := s.spareLast, tapIr := s.tapIr, tapIrOut := s.tapIrOut, scan := s.scan, regs := (s.resetRegs resetKeep).regs, serdesBad := s.serdesBad }

/-- A reset by RESET_N takes hold: YOKE is released, unless the boundary-scan register holds it (R405); a SerDes fault that is present stays a live condition, and the spares assigned stay assigned (R71). -/
def State.resetHold (s : State) : State :=
  (List.range 8).foldl (fun t g => t.updSpareFree g) (s.serdesBad.foldl (fun t n => t.setBit (R.EVT_LIVE (evLu n)) srcSERDES) s.afterReset.yokeShow)

/-- RESET_N_ASSERT: a low level has been held for 1 us. -/
def execResetNAssert (s : State) : Out :=
  let s1 : State := { s with rstLow := true }
  if s.pwr ≠ .run ∨ s.grave = true ∨ s.rstHeld = true then .next s1
  else if s.calRun = 4 then .next { s1 with rstHeld := true }
  else .next s1.resetHold

/-- RESET_N_HOLD_RELEASE: the store write has ended, and the reset that it held back is carried out. Where RESET_N has risen by then,
this is T0. -/
def execResetNHoldRelease (side test : Bool) (boot : BitVec 3) (s : State) : Out :=
  if !s.rstHeld || s.calRun == 4 then .next s
  else
    let s1 : State := { s with rstHeld := false }
    if s1.grave then .next s1
    else
      let s2 := s1.resetHold.put R.PKG_RST_CAUSE F.PKG_RST_CAUSE_HELD 1
      done (if s2.rstLow then s2 else s2.t0 side test boot)

/-- RESET_N_DEASSERT: RESET_N rises, with these strap levels. -/
def execResetNDeassert (side test : Bool) (boot : BitVec 3) (s : State) : Out :=
  let s1 : State := { s with rstLow := false }
  if s.rstLow ∧ s.pwr = .reset then
    done ((if s1.warm then { s1.resetHold with rstLow := false } else s1).t0 side test boot)
  else .next s1

-- Start-up (Table 16-4)

/-- PACKAGE_PLL_LOCK: step 2; with `rom`, the package ROM fails its check (Table 14-2). -/
def execPackagePllLock (rom : Bool) (s : State) : Out :=
  if s.pwr = .run ∧ s.startStep = 1 then done (((s.toStep 2).calRead).evIf rom evPkg srcROM) else .next s

/-- The start-up source of the image (Table 16-3). -/
def State.bootLoad (s : State) : State :=
  match s.get R.PKG_START F.PKG_START_BOOT % 4 with
  | 0 => s.beginLoad ⟨1, true, false, false, none⟩
  | 1 => s.beginLoad ⟨2, true, false, false, none⟩
  | 2 => s.beginLoad ⟨1, true, true, false, none⟩
  | _ => s

/-- The live conditions of HOSTA and HOSTB follow the links: a port whose link has not come up shows that it is down (Table 14-2). -/
def State.linkLive (s : State) (p : Port) : State := if s.linkUp p then s.liveOff evPkg (portSrc p) else s.liveOn evPkg (portSrc p)

/-- STARTUP_SERVICES_UP: step 3, `lead` ns after T0; the EVT summary answers from now on. -/
def execStartupServicesUp (lead : Nat) (s : State) : Out :=
  if s.pwr = .run ∧ s.startStep = 2 then
    done (((({ s.toStep 3 with lead := lead, upStart := s.up, secUp := s.up, frames := 0, ns := 0 }.startTimerNs ⟨.dramFail, ⟨0, 0, 0⟩⟩
      1050000000).startTimerNs (clearKey 0 0 0) 2000000).startTimerNs (clearKey 1 0 0) 50000000).bootLoad.linkLive .a |>.linkLive .b)
  else .next s

/-- SRAM_CLEAR_DONE: step 4. -/
def execSramClearDone (s : State) : Out := .next (if s.services then (s.toStep 4).stopTimer (clearKey 0 0 0) else s)

/-- DRAM_TRAIN_DONE: step 5, after which the whole stacks are zeroed. -/
def execDramTrainDone (s : State) : Out :=
  .next (if s.services && s.dramBad.isEmpty && !s.dramTrained then
      (({ s with dramTrained := true }.toStep 5).stopTimer (clearKey 1 0 0)).startTimerNs (clearKey 2 0 0) (if Config.is64 then 35200000 else 17600000)
    else s)

/-- DRAM_TRAIN_FAIL: the stack of die d fails training. -/
def execDramTrainFail (d : Fin 4) (s : State) : Out :=
  if s.services && !s.dramReady && !s.dramBad.contains d.val then
    done (({ s with dramBad := d.val :: s.dramBad }.stopTimer (clearKey 1 0 0)).ev evPkg srcMEMCLR)
  else .next s

/-- DRAM_TRAIN_FAIL_TIMEOUT: 1 s after step 5, whose time is 50 ms after step 3, the load ends in FAILED, and the package stays in the state of R45. -/
def execDramTrainFailTimeout (s : State) : Out :=
  if s.services && !s.dramBad.isEmpty && !s.fullActive && s.timerDone ⟨.dramFail, ⟨0, 0, 0⟩⟩ then .next { s.benchState bsFAILED with load := none, applying := none } else .next s

/-- DRAM_ZERO_DONE: step 6, after step 5: INIT_DONE of every stack that was trained, the others where one has failed; a waiting DRAM section
takes effect. -/
def execDramZeroDone (s : State) : Out :=
  if !s.services || !(s.dramTrained || !s.dramBad.isEmpty) then .next s
  else
    let s1 := (List.range 4).foldl (fun t d =>
      if t.dramBad.contains d then t
      else (t.put (R.DRAM_STATUS d) F.DRAM_STATUS_INIT_DONE 1).setBit R.PKG_DRAM (28 + d)) s
    let s2 := (if s1.dramReady then s1.toStep 6 else s1).stopTimer (clearKey 2 0 0)
    done (match s2.stageIs true .slabSet with
      | some a => s2.fullDram a
      | none => s2)

/-- The clearings that have passed their bounds. Of the slab banks, new work banks and partition units no row reports the end: theirs counts
at the very instant of its bound only (notes/assumptions/110.md). -/
def State.clearsLate (s : State) : List TKey :=
  (s.timers.map (fun e => e.1)).filter (fun k => k.kind == .memclr &&
    (if 4 ≤ k.k.a then s.timer k == some s.clk else s.timerDone k))

/-- MEMCLR_OVERRUN: a clearing passes its bound, which counts one event, and goes on (R386). -/
def execMemclrOverrun (s : State) : Out := done (s.clearsLate.foldl (fun t k => (t.stopTimer k).ev evPkg srcMEMCLR) s)

/-- HK_WATCHDOG_EXPIRE: the housekeeper restarts from the bench store; `ecc` is what the check of a bench-store
word read for it finds: a correctable word is corrected and rewritten, and for an uncorrectable one the HKFW section is read again from its
source (Table 14-9). -/
def execHkWatchdogExpire (ecc : Ecc) (s : State) : Out :=
  if s.services then
    let s1 := (s.ev evPkg srcHK).evIf (ecc != .ok) evPkg srcBSTORE
    done (if ecc = .uncorrectable then s1.rereadHk else s1)
  else .next s

end Sys2Proof.Machine
end

