-- ==== Sys2Proof/Machine/Frame.lean ====
section
/-!
DEFINITION. The system frame boundary, the second boundary, SYNC_IN edges and the two commands that change the epoch (R65, R153,
R185, R208, R241, R255 to R259, R264).
-/

namespace Sys2Proof.Machine

/-- Events counted at the end of a frame for what was stored in it: journal records, group changes, switch-log entries and PRBS
changes (R153, R176, R198, R299). -/
def State.frameNotify (s : State) : State :=
  let s1 := s.jrnDirty.foldl (fun t n => t.ev (evLu n) srcPATH) s
  let s2 := s1.grpDirty.foldl (fun t d => t.ev (evDie d) srcVCAT) s1
  let s3 := s2.sncStored.foldl (fun t d => t.ev (evDie d) srcSNCP) s2
  let s4 := s3.prbsDirty.foldl (fun t d => t.ev (evDie d) srcPRBS) s3
  { s4 with jrnDirty := [], grpDirty := [], sncStored := [], prbsDirty := [] }

/-- The slab index of every region that has slabs advances (R65). -/
def State.slabRotate (s : State) : State :=
  (List.range 8).foldl (fun t g =>
    if t.slabDepth g = 0 then t
    else t.put (R.RG_SLAB_STATUS g) F.RG_SLAB_STATUS_SLAB_READ ((t.slabRead g + 1) % t.slabDepth g)) s

/-- One frame fewer of path AIS after a commit with HIT (R90). -/
def State.hitStep (s : State) : State :=
  { s with hitAis := s.hitAis.filterMap (fun e => if e.2 ≤ 1 then none else some (e.1, e.2 - 1)) }

/-- A frame boundary falls, and frame number `f` since the epoch begins, `dt` ns after the present ns. -/
def State.frameTurn (s : State) (f dt : Nat) : State :=
  { s with clk := s.clk + dt, up := s.up + 1, frames := f, ns := 0, txGrains := [],
           txMarks := s.txMarks.filter (fun e => decide (s.up < e.1 + 8)) ++
             (s.txGrains.filter (fun e => e.2.getLsbD 9)).map (fun e => (s.up, e.1)) }

/-- What is decided at the boundary for the frame that begins: failures at source, seals and commits, then MSP controllers, timing, SYNC_OUT,
Pour, PRBS analysers, groups. -/
def State.frameBegin (s : State) : State :=
  (s.pathBoundary.txnBoundary.mspStepAll.timingBoundary.syncPulse.pourFrame).prbsSettle.grpFrame.trimGens

/-- The frame in progress has ended, and its successor begins. -/
def State.boundary (s : State) (f dt : Nat) : State :=
  (s.tgBoundary.secBoundary.jrnFlush.frameNotify.frameTurn f dt).slabRotate.hitStep.frameBegin

/-- FRAME_BOUNDARY: every LU has sent the frame that ends. System frames run from step 3 of Table 16-4. With `xchk`, the dies disagree on
the new FN (Table 14-2). -/
def execFrameBoundary (xchk : Bool) (s : State) : Out :=
  if s.services then done ((s.sendAll.boundary (s.frames + 1) (125000 - s.ns)).evIf xchk evPkg srcXCHK) else .next s

/-- Time passes with nothing commanded: 1 ns (notes/assumptions/8.md). System frames do not end by themselves: at the last ns of a
frame time waits for FRAME_BOUNDARY. -/
def State.tick (s : State) : State :=
  (if s.services then (if s.ns < 124999 then { s.jrnTick with clk := s.clk + 1, ns := s.ns + 1 } else s)
    else { s with clk := s.clk + 1 }).mxGoOn

-- The second (R264)

/-- The present instant is a second boundary of the time base. -/
def State.onSecond (s : State) : Bool := s.services && s.ns == 0 && s.frames % 8000 == 0

/-- Every path of every LU judges its second (R145). -/
def State.degSeconds (s : State) : State :=
  (s.pers.flatMap (fun e => s.luPaths e.1)).foldl (fun t q => t.degSecond q.1 q.2) s

/-- SECOND_BOUNDARY: the second that has just ended; `freq` and `phase` are the readings of the Main DPLL's mean output frequency and
phase over it, as TIME_MAIN_FREQ and TIME_MAIN_PHASE give them. Each boundary ends one second. -/
def execSecondBoundary (freq phase : Int) (s : State) : Out :=
  if s.onSecond && s.secUp != s.up then
    done (({ s with secUp := s.up }.degSeconds.pmSecond s.tbSec).timeSecond freq phase)
  else .next s

-- The epoch (R258, R259)

/-- The seconds are set to TB_SET, and FN follows R255. -/
def State.setEpoch (s : State) : State := { s with frames := 8000 * s.tbSet, ns := 0, secUp := s.up }

/-- ALIGN is carried out at an accepted edge: the frame is cut short, and a boundary falls at the edge. -/
def State.alignApply (s : State) : State :=
  let s1 := (s.put R.TIME_SYNC_STATUS F.TIME_SYNC_STATUS_ALIGN_PEND 0).pmTimeStep s.tbSec s.tbSet true
  let s2 := (s1.boundary (8000 * s.tbSet) 0).setEpoch
  let s3 := s2.ev evTime srcTB
  if s3.mainState = 2 ∧ s3.mainRef.isSome then s3.setSwitching true else s3

/-- SYNC_IN_EDGE: a rising edge, ps after the present ns. -/
def execSyncInEdge (ps : Fin 1000) (s : State) : Out :=
  if s.services && s.syncAccepts then
    let s1 := s.syncEdge ps
    done (if s1.flag R.TIME_SYNC_STATUS F.TIME_SYNC_STATUS_ALIGN_PEND then
        (if s1.alignOK then s1.alignApply else s1.epochRefuse F.TIME_SYNC_STATUS_ALIGN_PEND)
      else s1)
  else .next s

/-- SET_SEC_APPLY: the second boundary at which a pending SET_SEC is carried out, once the second that ends there has been judged. -/
def execSetSecApply (s : State) : Out :=
  if s.onSecond && s.secUp == s.up && s.flag R.TIME_SYNC_STATUS F.TIME_SYNC_STATUS_SET_PEND then
    done (if s.setSecOK then
        (((s.put R.TIME_SYNC_STATUS F.TIME_SYNC_STATUS_SET_PEND 0).pmTimeStep s.tbSec s.tbSet false).setEpoch).ev evTime srcTB
      else s.epochRefuse F.TIME_SYNC_STATUS_SET_PEND)
  else .next s

end Sys2Proof.Machine
end

