-- ==== Sys2Proof/Machine/RegRead.lean ====
section
/-!
DEFINITION. BAR0: which register lies at an address, and what a read returns (R408, R409, R412, R414, R419, R420).
-/

namespace Sys2Proof.Machine

/-- What lies at a BAR0 address (Table 18-1, R409). -/
inductive Bar0 where
  /-- No block covers the address. -/
  | none
  /-- The bench staging window, at this offset. -/
  | staging (off : Nat)
  /-- A register offset of an instance of a kind of block. -/
  | reg (blk : Blk) (inst : Nat) (off : Nat)
deriving DecidableEq, Repr

/-- Blocks that hold an event register set at +0x2400 (Table 14-1), and the number of their event block. -/
def evtOwner : Blk → Nat → Option Nat
  | .pkg, _ => some evPkg
  | .pair, _ => some evPair
  | .time, _ => some evTime
  | .die, d => some (evDie d)
  | .region, g => some (evRegion g)
  | .cluster, c => some (evCluster c)
  | .lu, n => some (evLu n)
  | _, _ => .none

/-- A register offset inside a block, its event register set apart. -/
def blockReg (k : Blk) (x off : Nat) : Bar0 :=
  match evtOwner k x with
  | some b => if 0x2400 ≤ off ∧ off < 0x2800 then .reg .evt b (off % 0x400) else .reg k x off
  | none => .reg k x off

/-- The blocks of the first 640 KiB, 64 KiB each. -/
def pkgBlock : Nat → Blk
  | 0 => .pkg | 1 => .txn | 2 => .time | 3 => .pair | 4 => .bench | 5 => .cal | 6 => .mon | 7 => .matrix | 8 => .hostif | _ => .evtsum

/-- The owner of a BAR0 address. -/
def bar0 (a : Nat) : Bar0 :=
  if a < 0xA0000 then blockReg (pkgBlock (a / 2 ^ 16)) 0 (a % 2 ^ 16)
  else if 0x2000000 ≤ a ∧ a < 0x3000000 then .staging (a % 0x1000000)
  else if a < 0x4000000 ∨ 0x8000000 ≤ a then .none
  else
    let d := a / 2 ^ 24 - 4
    let o := a % 2 ^ 24
    match o / 2 ^ 20 with
    | 0 => blockReg .die d o
    | 1 => blockReg .region (2 * d) (o % 2 ^ 20)
    | 2 => blockReg .region (2 * d + 1) (o % 2 ^ 20)
    | 3 => blockReg .cluster (8 * d + o / 2 ^ 17 % 8) (o % 2 ^ 17)
    | 4 => blockReg .lu (32 * d + o / 2 ^ 16 % 32) (o % 2 ^ 16)
    | 5 => blockReg .lu (32 * d + o / 2 ^ 16 % 32) (o % 2 ^ 16)
    | 6 => .reg .skim d (o % 2 ^ 20)
    | 7 => .reg .pour d (o % 2 ^ 20)
    | 8 => .reg .wb d (o % 2 ^ 20)
    | 9 => .reg .map d (o % 2 ^ 20)
    | 10 => .reg .pm d (o % 2 ^ 20)
    | 11 => .reg .seam d (o % 2 ^ 20)
    | _ => .none

/-- The copy of a register that a port reaches (R419). -/
def portReg (p : Port) (k : Blk) (x off : Nat) : RegId :=
  let r : RegId := ⟨k, x, off, 0⟩
  if isHeld r then { r with held := p.toNat } else r

-- Views

/-- Event block that owns a register block (Table 11-8). -/
def ownerEvt (k : Blk) (x : Nat) : Nat :=
  match k with
  | .pair => 1 | .time => 2 | .region => 7 + x | .cluster => 15 + x | .lu => 47 + x
  | .die | .skim | .pour | .wb | .map | .pm | .seam => 3 + x
  | .evt => x
  | _ => 0

/-- 32 bits, bit i from b + i. -/
def bitWord (f : Nat → Bool) : Word := (List.range 32).foldl (fun w i => if f i then w ||| ((1 : Word) <<< i) else w) 0

/-- A WRAP bit is set in a register block that event block b owns (R276). -/
def State.wrapOf (s : State) (b : Nat) : Bool :=
  s.regs.any (fun e => decide (0xF000 ≤ e.1.off) && decide (e.1.off < 0xF0A0) && e.1.blk != .cal && ownerEvt e.1.blk e.1.inst == b && e.2 != 0)

/-- The unit of a register block has no power (R420). -/
def State.unpoweredBlk (s : State) (k : Blk) (x : Nat) : Bool :=
  match k with
  | .region => !s.regionPowered x
  | .cluster => !s.clusterPowered x
  | .lu => !s.clusterPowered (luCluster x)
  | _ => false

/-- A register of an unpowered unit: of an LU whose personality is OFF too, whose receive island has no power (Table 16-5); there
LU_SENSE_STATUS alone goes on reading, since R364 answers a START on such an LU in it (notes/assumptions/73.md). -/
def State.unpoweredReg (s : State) (k : Blk) (x off : Nat) : Bool :=
  s.unpoweredBlk k x || (k == .lu && s.persOf x == 0 && off != 0x2204)

/-- The block holds an error-event counter (R276); SKIM's are those of the PRBS analysers (Table 12-17). -/
def hasErrCtr (k : Blk) : Bool := (counterTable k).any (fun d => !d.2) || k == .skim || (evtOwner k 0).isSome

/-- What a read of a register returns to a port: WO and reserved bits as 0, the HI half of a counter from the port's snapshot, and RO
fields of an unpowered unit at their reset values. -/
def State.regRead (s : State) (p : Port) (k : Blk) (x off : Nat) : Word :=
  let r := portReg p k x off
  if k = .cal ∧ 0x8000 ≤ off ∧ off < 0x10000 then s.calWinWord (off % 0x8000)
  else if 0xF000 ≤ off ∧ off < 0xF1A0 ∧ hasErrCtr k = false then 0
  else if k = .hostif ∧ off = 0 then s.rd r ||| BitVec.ofNat 32 (2 ^ 31 * p.toNat)
  else if k = .pkg ∧ 0x100 ≤ off ∧ off < 0x118 then bitWord (fun i => s.wrapOf (8 * (off - 0x100) + i))
  else if k = .region ∧ 0x1018 ≤ off ∧ off < 0x1218 ∧ off % 0x40 = 0x18 then s.apsView x (off / 0x40 % 8)
  else if k = .txn ∧ off = 0 then
    (s.rd r &&& accMask r (fun a => a == .rw)) ||| bitWord (fun i =>
      if i < 8 then s.txnState i == txFREE
      else if i < 16 then s.txnLive (i - 8)
      else decide (i < 24) && decide (5 ≤ s.txnState (i - 16)))
  else if k = .evtsum ∧ 0x10 ≤ off ∧ off < 0x28 then
    bitWord (fun i => s.flag (R.EVT_CTRL (8 * (off - 0x10) + i)) F.EVT_CTRL_PENDING)
  else if k = .evtsum ∧ 0x30 ≤ off ∧ off < 0x48 then bitWord (fun i => s.rd (R.EVT_SEVERE (8 * (off - 0x30) + i)) != 0)
  else if isCounter r ∧ (counterAt k off).isNone then look (fun _ => 0) s.snaps ⟨k, x, off - 4, p.toNat⟩
  else
    let w := s.rd r &&& accMask r (fun a => a != .wo)
    if s.unpoweredReg k x off ∧ isCounter r = false then
      let ro := accMask r (fun a => a == .ro)
      (w &&& ~~~ro) ||| (resetVal r &&& ro)
    else w

-- Reads (R274, R278, R391, R409, R417)

/-- A full read of one register by port p, at a fraction `sub` of the present ns: the state after it, and the word. A counter's LO loads the
port's snapshot, TIME_TB_W0 latches the time base, the DATA0 of a log removes its oldest entry, and an error's last place is released. -/
def State.readReg (s : State) (p : Port) (k : Blk) (x off sub : Nat) : State × Word :=
  let r : RegId := ⟨k, x, off, 0⟩
  let after (t : State) : State × Word := (t, t.regRead p k x off)
  if r = R.TIME_TB_W0 then after (s.tbLatch sub)
  else if r = R.PM_TCA_DATA0 x then after (s.tcaPop x)
  else if r = R.SNCP_LOG_DATA0 x then after (s.sncPop x)
  else if r = R.RG_SLAB_ECC_LAST x ∨ r = R.WB_ERR_LAST x ∨ r = R.DRAM_ERR_LAST x then (s.errLastRead r, s.regRead p k x off)
  else (s.readCtrLo p r, s.regRead p k x off)

/-- One aligned register at a BAR0 address; none where no block covers it (R409). -/
def State.readAt (s : State) (p : Port) (a sub : Nat) : Option (State × Word) :=
  match bar0 a with
  | .reg k x off => some (s.readReg p k x off sub)
  | _ => none

/-- A memory read by port p of n bytes of BAR0 from address a on (R391, R409): bytes within one register, with every side effect of a full
read, two whole registers, the lower first, or bytes of the staging window; any other completes with Unsupported Request. -/
def State.bar0Read (s : State) (p : Port) (a n sub : Nat) : State :=
  let ur := s.answer .ur
  match bar0 a with
  | .none => ur
  | .staging off => if off + n ≤ 2 ^ 24 then s.answer (.bytes (s.ld (stagingBase + off) n)) else ur
  | .reg _ _ _ =>
      if a % 4 + n ≤ 4 then
        match s.readAt p (a - a % 4) sub with
        | some (t, w) => t.answer (if n = 4 then .word w else .bytes (((wordBytes w).drop (a % 4)).take n))
        | none => ur
      else if a % 4 = 0 ∧ n = 8 then
        match s.readAt p a sub with
        | some (t, w0) => (match t.readAt p (a + 4) sub with
          | some (u, w1) => u.answer (.bytes (wordBytes w0 ++ wordBytes w1))
          | none => ur)
        | none => ur
      else ur

/-- COUNTER_LO_READ: a memory read of BAR0; the table has no other row for one (notes/assumptions/108.md). -/
def execCounterLoRead (p : Port) (addr : BitVec 28) (n : Nat) (sub : Fin 1024) (s : State) : Out :=
  .next (hostReg p (.counterLoRead p addr n sub) (fun t => t.bar0Read p addr.toNat n sub) s)

end Sys2Proof.Machine
end

