-- ==== Sys2Proof/Machine/RegWrite.lean ====
section
/-!
DEFINITION. A host write of BAR0 (R391, R408 to R420): size and alignment, the register it reaches, and that register's rule.
-/

namespace Sys2Proof.Machine

/-- A write under the access types of a register's fields alone (Table 18-3). -/
def State.plainWrite (s : State) (r : RegId) (v : Word) : State :=
  let m := accMask r (fun a => a == .rw || a == .rws)
  s.wr r (((s.rd r &&& ~~~m) ||| (v &&& m)) &&& ~~~(v &&& accMask r (fun a => a == .rw1c)))

/-- Bit 31 of a word: GO. -/
def goBit (v : Word) : Bool := v.getLsbD 31

/-- Place of an offset in a family of registers. -/
def nth (off base stride : Nat) : Nat := (off - base) / stride

/-- A write of LU_PATH_PROFILEk: DEGM and DEGTHR to their ranges (R156). -/
def State.writeProfile (s : State) (r : RegId) (v : Word) : State :=
  s.watchLu r.inst (fun t => ((t.wrRW r v).clampFld r F.LU_PATH_PROFILE_DEGM 2 10).clampFld r F.LU_PATH_PROFILE_DEGTHR 1 100)

/-- A write of LU_TG_CTRL (R230). -/
def State.writeTgCtrl (s : State) (n : Nat) (v : Word) : State :=
  (s.wrRW (R.LU_TG_CTRL n) v).clampFld (R.LU_TG_CTRL n) F.LU_TG_CTRL_BLK_THR 1 152

/-- A write of SIEVE_CTRL: 0 in LEND_IDLE or PATROL_H stores 1 (Table 13-8). -/
def State.writeSieve (s : State) (d : Nat) (v : Word) : State :=
  ((s.wrRW (R.SIEVE_CTRL d) v).clampFld (R.SIEVE_CTRL d) F.SIEVE_CTRL_LEND_IDLE 1 4095).clampFld (R.SIEVE_CTRL d) F.SIEVE_CTRL_PATROL_H 1 255

/-- A write of GRP_CMD. -/
def State.writeGrpCmd (s : State) (p : Port) (d : Nat) (v : Word) : State :=
  let x := 1024 * d + fget v F.GRP_CMD_GROUP
  let i := fget v F.GRP_CMD_INDEX
  if !goBit v then s.wrRW (R.GRP_CMD d) v
  else
    let t := s.grpIndex d i
    match fget v F.GRP_CMD_OP with
    | 0 => t.grpRead p d x i
    | 1 => t.grpDefine p d x
    | 2 => t.grpSetMember p d x i
    | 3 => t.grpActivate p d x
    | 4 => t.grpDelete p d x
    | 5 => t.grpAdd p d x i
    | 6 => t.grpRemove p d x i
    | _ => t.grpDone p d 7 x grFIELD

/-- A write of MSP_CMD. -/
def State.writeMspCmd (s : State) (g k : Nat) (v : Word) : State :=
  let s1 := s.wrRW (R.MSP_CMD g k) v
  if !goBit v then s1
  else
    match fget v F.MSP_CMD_OP with
    | 1 => s1.mspActivate g k
    | 2 => s1.mspDelete g k
    | _ => s1.mspSetCode g k 1

/-- A write of TXN_CMD. -/
def State.writeTxnCmd (s : State) (p : Port) (k : Nat) (v : Word) : State :=
  match fget v F.TXN_CMD_OP with
  | 0 => if s.grave then s.opRefused k else s
  | 1 => s.txnOpen k (fget v F.TXN_CMD_MIRROR == 1)
  | 2 => s.txnClose k (fget v F.TXN_CMD_ASAP == 1)
  | 3 => s.hostAbort p k
  | 4 => s.txnRelease k
  | _ => s.opRefused k

/-- A write of SKIM_TAP_CTRL. -/
def State.writeTapCtrl (s : State) (p : Port) (d : Nat) (v : Word) : State :=
  let j := fget v F.SKIM_TAP_CTRL_JOB
  let s1 := s.wrRW (R.SKIM_TAP_CTRL p d) v
  if !goBit v then s1
  else
    match fget v F.SKIM_TAP_CTRL_OP with
    | 0 => s1.skAdd p d j (fget v F.SKIM_TAP_CTRL_TAP)
    | 1 => s1.skRemove p d j (fget v F.SKIM_TAP_CTRL_TAP)
    | 2 => s1.skFetchAdd p d j (fget v F.SKIM_TAP_CTRL_COUNT)
    | _ => s1.skClear d j

/-- A write of POUR_TGT_CTRL. -/
def State.writeTgtCtrl (s : State) (p : Port) (d : Nat) (v : Word) : State :=
  let j := fget v F.POUR_TGT_CTRL_JOB
  let s1 := s.wrRW (R.POUR_TGT_CTRL p d) v
  if !goBit v then s1
  else
    match fget v F.POUR_TGT_CTRL_OP with
    | 0 => s1.poAdd p d j (fget v F.POUR_TGT_CTRL_TAP)
    | 1 => s1.poRemove p d j (fget v F.POUR_TGT_CTRL_TAP)
    | 2 => s1.poFetchAdd p d j (fget v F.POUR_TGT_CTRL_COUNT)
    | _ => s1.poClear p d j

/-- A write of SKIM_JOB_CMD. -/
def State.writeSkimCmd (s : State) (p : Port) (d j : Nat) (v : Word) : State :=
  match fget v F.SKIM_JOB_CMD_OP with
  | 0 => s
  | 1 => s.skDefine d j
  | 2 => s.skStart d j (fget v F.SKIM_JOB_CMD_ASAP == 1)
  | 3 => s.skStop p d j
  | 4 => s.skTrigger p d j
  | 5 => s.skRelease d j
  | _ => s.skRefused d j

/-- A write of POUR_JOB_CMD. -/
def State.writePourCmd (s : State) (p : Port) (d j : Nat) (v : Word) : State :=
  match fget v F.POUR_JOB_CMD_OP with
  | 0 => s
  | 1 => s.poDefine d j
  | 2 => s.poStart d j (fget v F.POUR_JOB_CMD_ASAP == 1)
  | 3 => s.poStop p d j
  | 5 => s.poRelease d j
  | _ => s.poRefused d j

/-- A write of SKIM_PRBS_CTRL. -/
def State.writePrbsCtrl (s : State) (p : Port) (d : Nat) (v : Word) : State :=
  let i := fget v F.SKIM_PRBS_CTRL_INDEX
  if !goBit v then s.wrRW (R.SKIM_PRBS_CTRL p d) v
  else
    match fget v F.SKIM_PRBS_CTRL_OP with
    | 0 => s.prbsRead p d i
    | 1 => s.prbsWrite p d i
    | 2 => s.prbsClear p d i
    | _ => s.prbsDone p d 3 i 1

/-- A write of PM_IND_CTRL. -/
def State.writePmInd (s : State) (p : Port) (d : Nat) (v : Word) : State :=
  if !goBit v then s.wrRW (R.PM_IND_CTRL p d) v
  else s.pmGo p d (fget v F.PM_IND_CTRL_OP) (fget v F.PM_IND_CTRL_LAYER) (fget v F.PM_IND_CTRL_AU3 == 1) (v.setWidth 24)

/-- A write of MATRIX_MRST: every master whose bit is 1 is reset. -/
def State.writeMrst (s : State) (v : Word) : State :=
  (List.range 19).foldl (fun t m =>
    if v.getLsbD m then (if m < 3 then t.mxReset m else t.resetEngine ((m - 3) % 4) ((m - 3) / 4)) else t) s

/-- A write of LU_SEC_CTRL with its RESYNC bit. -/
def State.writeSecCtrlAll (s : State) (n : Nat) (v : Word) : State :=
  let s1 := s.writeSecCtrl n v
  if fget v F.LU_SEC_CTRL_RESYNC = 1 ∧ s1.persOf n ≠ 0 then s1.toSearch n else s1

/-- A write of LU_SEC_RATE with its RESTART bit. -/
def State.writeSecRateAll (s : State) (n : Nat) (v : Word) : State :=
  let s1 := s.writeSecRate n v
  if fget v F.LU_SEC_RATE_RESTART = 1 ∧ s1.searches n = true then s1.rateRestart n else s1

-- Blocks

/-- A write of a register of a package-level block. -/
def State.writePkg (s : State) (p : Port) (k : Blk) (off : Nat) (v : Word) : State :=
  let r := portReg p k 0 off
  match k with
  | .txn =>
      let j := nth off 0x100 64
      if off = 4 then s.writeMirror v
      else if off < 0x100 ∨ 0x300 ≤ off then s.plainWrite r v
      else match off % 64 with
        | 0x00 => s.writeTxnCmd p j v
        | 0x04 => s.writeTxnFn j v
        | 0x14 | 0x18 => s.writeSlotReg j (fun t => t.plainWrite r v)
        | 0x1C => if goBit v then s.fetchStart j (fget v F.TXN_FETCH_CTRL_COUNT) else s.writeSlotReg j (fun t => t.wrRW r v)
        | 0x20 => s.writeSlotReg j (fun t => t.wr (R.TXN_REC p j 0) v)
        | 0x24 => s.writeSlotReg j (fun t => t.wr (R.TXN_REC p j 1) v)
        | 0x28 => s.writeSlotReg j (fun t => t.wr (R.TXN_REC p j 2) v)
        | 0x2C => s.hostRecord p j v
        | _ => s.plainWrite r v
  | .time =>
      if off = 0 then s.writeTimeCtrl v
      else if off = 0x10 then s.writeMainCfg v
      else if off = 0x14 then s.writeMainCmd v
      else if off = 0x30 ∨ off = 0x34 then s.writeDpllCfg r v
      else if 0x40 ≤ off ∧ off < 0x50 then s.writeStnOut (nth off 0x40 4) v
      else if off = 0x60 then s.writeSyncCtrl v
      else if 0x100 ≤ off ∧ off < 0x300 ∧ off % 32 = 0 then s.writeRefCfg0 (nth off 0x100 32) v
      else if 0x100 ≤ off ∧ off < 0x300 ∧ off % 32 = 4 then s.writeRefCfg1 (nth off 0x100 32) v
      else s.plainWrite r v
  | .pair => if off = 0 then s.writePairCtrl v else s.plainWrite r v
  | .bench => if off = 0 then s.writeBenchCtrl v else s.plainWrite r v
  | .cal =>
      if off = 4 then s.writeCalCmd v
      else if 0x8000 ≤ off ∧ off < 0x10000 then s.writeCalWin (off % 0x8000) v
      else s.plainWrite r v
  | .mon =>
      if off = 0 then s.writeMonCtrl v
      else if 0x200 ≤ off ∧ off < 0x238 then s.writeRail (nth off 0x200 8) (off % 8 == 4) v
      else if off = 0x340 then s.writeTempLim v
      else if off = 0x3A0 then s.writeMargin v
      else s.plainWrite r v
  | .matrix => if off = 4 then s.writeMrst v else s.plainWrite r v
  | .hostif =>
      if 0x100 ≤ off ∧ off < 0x140 then s.mboxData p .a (nth off 0x100 4) v
      else if 0x140 ≤ off ∧ off < 0x180 then s.mboxData p .b (nth off 0x140 4) v
      else if off = 0x180 then s.writeMboxCtrl p v
      else if off = 0x200 then s.writeSpiCtrl p v
      else if 0x1000 ≤ off ∧ off < 0x1B00 then (s.plainWrite r v).msixFlush p
      else s.plainWrite r v
  | .evtsum =>
      if off = 0 then s.writeFaultHold (fget v F.EVT_SUM_STATUS_FAULT_HOLD == 1)
      else if off = 0x50 then (if goBit v then s.clearFirst none else s)
      else s.plainWrite r v
  | _ => s.plainWrite r v

/-- A write of a register of event block b. -/
def State.writeEvt (s : State) (b off : Nat) (v : Word) : State :=
  let r : RegId := ⟨.evt, b, off, 0⟩
  if off = 0 then s.writeEvtCtrl b v
  else if off = 0xC then s.writeSevere b v
  else if off = 0x14 then s.writeForce b v
  else if off = 0x18 then (if goBit v then s.clearFirst (some b) else s)
  else if 0x100 ≤ off ∧ off < 0x200 then
    (if evSources b ≤ nth off 0x100 8 then s
     else if off % 8 = 0 then s.writeEvtCfg b (nth off 0x100 8) v
     else if off % 8 = 4 then s.writeEvtWin b (nth off 0x100 8) v
     else s)
  else s.plainWrite r (v &&& BitVec.ofNat 32 (2 ^ evSources b - 1))

/-- A write of a register of the die common block of die d. -/
def State.writeDie (s : State) (p : Port) (d off : Nat) (v : Word) : State :=
  let r := portReg p .die d off
  if off = 0x100 then s.writeRetire d v
  else if off = 0x200 then s.writeJrnCtrl d v
  else if off = 0x204 ∨ off = 0x208 then (if s.flag (R.DIE_JRN_CTRL d) F.DIE_JRN_CTRL_ENABLE then s else s.plainWrite r v)
  else if off = 0x210 then s.writeJrnRd d v
  else if off = 0x400 then s.writeGrpCmd p d v
  else if off = 0xC00 ∧ goBit v = true then s.sncRead d (fget v F.SNCP_IND_CTRL_AU3 == 1) (v.setWidth 24)
  else s.plainWrite r v

/-- A write of a register of region g. -/
def State.writeRegion (s : State) (g off : Nat) (v : Word) : State :=
  let k := nth off 0x1000 64
  if off = 0x408 ∨ off = 0x40C then s.writeSpare g (nth off 0x408 4) v
  else if off = 0x480 then s.writeSlabAddr g v
  else if 0x1000 ≤ off ∧ off < 0x1200 then
    (match off % 64 with
     | 0x00 => s.mspConfig g k 0 v
     | 0x04 => s.mspConfig g k 1 v
     | 0x08 => s.mspConfig g k 2 v
     | 0x0C => s.mspConfig g k 3 v
     | 0x10 => s.writeMspCmd g k v
     | _ => s.plainWrite ⟨.region, g, off, 0⟩ v)
  else s.plainWrite ⟨.region, g, off, 0⟩ v

/-- A write of a register of LU n. -/
def State.writeLu (s : State) (n off : Nat) (v : Word) : State :=
  let r : RegId := ⟨.lu, n, off, 0⟩
  if off = 0 then s.writeSecCtrlAll n v
  else if off = 4 then s.writeSecRateAll n v
  else if off = 8 then s.writeSecTimers n v
  else if off = 0xC then s.writeSecBer n v
  else if 0x100 ≤ off ∧ off < 0x140 then (s.plainWrite r v).secTim n
  else if 0x800 ≤ off ∧ off < 0xA00 then
    (if off % 8 = 0 then s.writeStruct0 n (nth off 0x800 8) v
     else if off % 8 = 4 then s.writeStruct1 n (nth off 0x800 8) v
     else s)
  else if 0xA10 ≤ off ∧ off < 0xA20 then s.writeProfile r v
  else if off = 0xA20 ∧ goBit v = true then s.pathGo n v
  else if 0x1000 ≤ off ∧ off < 0x2000 then s.watchLu n (fun t => t.plainWrite r v)
  else if off = 0x2000 then s.writeTgCtrl n v
  else if off = 0x2200 then s.writeSenseCtrl n v
  else s.plainWrite r v

/-- A write of a register of Skim on die d. A job's configuration takes writes only while the job is not live (R292). -/
def State.writeSkim (s : State) (p : Port) (d off : Nat) (v : Word) : State :=
  let r := portReg p .skim d off
  let j := nth off 0x100 128
  if off = 0x10 then s.writeTapCtrl p d v
  else if off = 0x40 then s.writePrbsCtrl p d v
  else if off < 0x100 ∨ 0x500 ≤ off then s.plainWrite r v
  else
    match (off - 0x100) % 128 with
    | 0x00 => s.writeSkimCmd p d j v
    | 0x04 => s.writeSkimCfg d j v
    | 0x34 => s.plainWrite r v
    | 0x3C => s.writeSkimRd d j v
    | 0x74 => s.plainWrite r v
    | _ => if s.skLive d j then s else s.plainWrite r v

/-- A write of a register of Pour on die d. -/
def State.writePour (s : State) (p : Port) (d off : Nat) (v : Word) : State :=
  let r := portReg p .pour d off
  let j := nth off 0x100 128
  if off = 0x10 then s.writeTgtCtrl p d v
  else if off < 0x100 ∨ 0x500 ≤ off then s.plainWrite r v
  else
    match (off - 0x100) % 128 with
    | 0x00 => s.writePourCmd p d j v
    | 0x20 => s.writePourInj d j v
    | 0x24 => s.writePourCnt d j v
    | _ => s.plainWrite r v

/-- A write of a register of MAP on die d. -/
def State.writeMap (s : State) (d off : Nat) (v : Word) : State :=
  if off = 0x10 ∧ goBit v = true then
    s.diagGo d (fget v F.MAP_DIAG_CTRL_SEL) (fget v F.MAP_DIAG_CTRL_AU3 == 1) (v.setWidth 24)
  else s.plainWrite ⟨.map, d, off, 0⟩ v

/-- A write of a register of PM on die d. -/
def State.writePm (s : State) (p : Port) (d off : Nat) (v : Word) : State :=
  if off = 0 then s.writePmCtrl d v
  else if off = 0x20 then s.writePmInd p d v
  else s.plainWrite (portReg p .pm d off) v

/-- A write of a register of the work banks and SIEVE of die d. -/
def State.writeWb (s : State) (d off : Nat) (v : Word) : State :=
  if off < 0xA8 then s.writeOwn false d (off / 4) v
  else if off = 0x500 then s.writeSieve d v
  else s.plainWrite ⟨.wb, d, off, 0⟩ v

/-- One register write by a port. An offset that no register table assigns ignores it (R409). -/
def State.regWrite (s : State) (p : Port) (k : Blk) (x off : Nat) (v : Word) : State :=
  if (findReg k off).isNone ∧ k ≠ .cal then s
  else
    match k with
    | .die => s.writeDie p x off v
    | .region => s.writeRegion x off v
    | .lu => s.writeLu x off v
    | .skim => s.writeSkim p x off v
    | .pour => s.writePour p x off v
    | .wb => s.writeWb x off v
    | .map => s.writeMap x off v
    | .pm => s.writePm p x off v
    | .evt => s.writeEvt x off v
    | .cluster | .seam => s.plainWrite ⟨k, x, off, 0⟩ v
    | _ => s.writePkg p k off v

-- Size, alignment and enables (R391, R409)

/-- A write by port p that is discarded and logged as Unsupported Request through AER: an uncorrectable error, which counts one event (R394). -/
def State.badWrite (s : State) (p : Port) : State := (s.answer .ur).ev evPkg (portSrc p)

/-- One aligned whole register at a BAR0 address. -/
def State.writeAt (s : State) (p : Port) (a : Nat) (v : Word) : State :=
  match bar0 a with
  | .reg k x off => s.regWrite p k x off v
  | _ => s.badWrite p

/-- Bytes of the staging window, those that are enabled. -/
def State.stStaging (s : State) (off : Nat) : List (Option Byte) → State
  | [] => s
  | none :: l => s.stStaging (off + 1) l
  | some b :: l => (s.stb (stagingBase + off) b).stStaging (off + 1) l

/-- A memory write to BAR0 by port p, byte by byte from address a. -/
def State.bar0Write (s : State) (p : Port) (a : Nat) (data : List (Option Byte)) : State :=
  let n := data.length
  let full := data.all (fun b => b.isSome)
  let bytes := data.map (fun b => b.getD 0)
  match bar0 a with
  | .none => s.badWrite p
  | .staging off => if off + n ≤ 2 ^ 24 then s.stStaging off data else s.badWrite p
  | .reg _ _ _ =>
      if 8 < n ∨ (4 < a % 4 + n ∧ (a % 4 ≠ 0 ∨ n ≠ 8)) then s.badWrite p
      else if !full || (n != 4 && n != 8) then s.put R.HOSTIF_ERR (portBadSize p) 1
      else if n = 4 then s.writeAt p a (le32 bytes)
      else (s.writeAt p a (le32 (bytes.take 4))).writeAt p (a + 4) (le32 (bytes.drop 4))

/-- REGISTER_WRITE: a memory write by port p to BAR0 from address `addr` on, a byte that is not enabled standing as none. -/
def execRegisterWrite (p : Port) (addr : BitVec 28) (data : List (Option Byte)) (s : State) : Out :=
  done (hostReg p (.registerWrite p addr data) (fun t => t.bar0Write p addr.toNat data) s)

end Sys2Proof.Machine
end

