-- ==== Sys2Proof/Machine/Dispatch.lean ====
section
/-!
DEFINITION. The dispatch: one arm for each command, each a direct call of its meaning.
-/

namespace Sys2Proof.Machine

def exec (i : Instr) (s : State) : Host.Outcome State Fault Refusal :=
  match i with
  -- Power, reset and start-up
  | .powerOn => Sys2Proof.Machine.execPowerOn s
  | .porEnd osc side test boot => Sys2Proof.Machine.execPorEnd osc side test boot s
  | .powerOff => Sys2Proof.Machine.execPowerOff s
  | .resetNAssert => Sys2Proof.Machine.execResetNAssert s
  | .resetNHoldRelease side test boot => Sys2Proof.Machine.execResetNHoldRelease side test boot s
  | .resetNDeassert side test boot => Sys2Proof.Machine.execResetNDeassert side test boot s
  | .perstAssert p => Sys2Proof.Machine.execPerstAssert p s
  | .perstDeassert p => Sys2Proof.Machine.execPerstDeassert p s
  | .functionLevelReset p => Sys2Proof.Machine.execFunctionLevelReset p s
  | .packagePllLock rom => Sys2Proof.Machine.execPackagePllLock rom s
  | .startupServicesUp lead => Sys2Proof.Machine.execStartupServicesUp lead s
  | .sramClearDone => Sys2Proof.Machine.execSramClearDone s
  | .dramTrainDone => Sys2Proof.Machine.execDramTrainDone s
  | .dramTrainFail d => Sys2Proof.Machine.execDramTrainFail d s
  | .dramTrainFailTimeout => Sys2Proof.Machine.execDramTrainFailTimeout s
  | .dramZeroDone => Sys2Proof.Machine.execDramZeroDone s
  | .memclrOverrun => Sys2Proof.Machine.execMemclrOverrun s
  | .linksAdapted => Sys2Proof.Machine.execLinksAdapted s
  | .startupMapCommit => Sys2Proof.Machine.execStartupMapCommit s
  -- Bench image
  | .benchStartStaging p => Sys2Proof.Machine.execBenchStartStaging p s
  | .benchStartSlot0 p => Sys2Proof.Machine.execBenchStartSlot0 p s
  | .benchStartSlot1 p => Sys2Proof.Machine.execBenchStartSlot1 p s
  | .benchStartInvalidSource p => Sys2Proof.Machine.execBenchStartInvalidSource p s
  | .imageHeaderRead flash => Sys2Proof.Machine.execImageHeaderRead flash s
  | .imageReadDone flash again rom => Sys2Proof.Machine.execImageReadDone flash again rom s
  | .fullRebenchApply => Sys2Proof.Machine.execFullRebenchApply s
  | .regionRebenchApply => Sys2Proof.Machine.execRegionRebenchApply s
  | .regionPowerApplied => Sys2Proof.Machine.execRegionPowerApplied s
  | .regionPllLocked => Sys2Proof.Machine.execRegionPllLocked s
  | .regionSlabsCleared => Sys2Proof.Machine.execRegionSlabsCleared s
  | .regionLinksApplied => Sys2Proof.Machine.execRegionLinksApplied s
  | .regionMapCommit => Sys2Proof.Machine.execRegionMapCommit s
  | .regionRebenchTimeout => Sys2Proof.Machine.execRegionRebenchTimeout s
  -- LU retirement
  | .luRetire p n => Sys2Proof.Machine.execLuRetire p n s
  | .luUnretire p n => Sys2Proof.Machine.execLuUnretire p n s
  | .luUnretireApply n => Sys2Proof.Machine.execLuUnretireApply n s
  -- Crossings, clocks and the frame
  | .grainCrossing b u k ix g => Sys2Proof.Machine.execGrainCrossing b u k ix g s
  | .pllLockLoss k ix => Sys2Proof.Machine.execPllLockLoss k ix s
  | .pllRelock k ix => Sys2Proof.Machine.execPllRelock k ix s
  | .hkWatchdogExpire ecc => Sys2Proof.Machine.execHkWatchdogExpire ecc s
  | .grainDispatch n p raw map b errs => Sys2Proof.Machine.execGrainDispatch n p raw map b errs s
  | .seamBlockReceive d k ok1 ok2 grains lane => Sys2Proof.Machine.execSeamBlockReceive d k ok1 ok2 grains lane s
  | .cellWrite g l p pour x => Sys2Proof.Machine.execCellWrite g l p pour x s
  | .cellRead n w ups => Sys2Proof.Machine.execCellRead n w ups s
  | .frameBoundary xchk => Sys2Proof.Machine.execFrameBoundary xchk s
  | .consequentActionApply n => Sys2Proof.Machine.execConsequentActionApply n s
  | .pathFailApply a3 t => Sys2Proof.Machine.execPathFailApply a3 t s
  | .secondBoundary freq phase => Sys2Proof.Machine.execSecondBoundary freq phase s
  | .pmQuarterClose => Sys2Proof.Machine.execPmQuarterClose s
  | .pmBinWriteDone d sram => Sys2Proof.Machine.execPmBinWriteDone d sram s
  -- Line links
  | .lineFrameReceive n frame => Sys2Proof.Machine.execLineFrameReceive n frame s
  | .framingPatternSighted n pos => Sys2Proof.Machine.execFramingPatternSighted n pos s
  | .candidateConfirmTime n k present b1ok => Sys2Proof.Machine.execCandidateConfirmTime n k present b1ok s
  | .losDeclare n low quiet => Sys2Proof.Machine.execLosDeclare n low quiet s
  | .losClear n clean => Sys2Proof.Machine.execLosClear n clean s
  | .lofDeclare n => Sys2Proof.Machine.execLofDeclare n s
  | .lofClear n => Sys2Proof.Machine.execLofClear n s
  | .s1UnstableDeclare n => Sys2Proof.Machine.execS1UnstableDeclare n s
  | .beaconValidTimeout n => Sys2Proof.Machine.execBeaconValidTimeout n s
  | .berBlockEnd n sd => Sys2Proof.Machine.execBerBlockEnd n sd s
  | .rateTryTimeout n lock => Sys2Proof.Machine.execRateTryTimeout n lock s
  | .rateSearchAutoRestart n => Sys2Proof.Machine.execRateSearchAutoRestart n s
  | .rateSearchRestart p n => Sys2Proof.Machine.execRateSearchRestart p n s
  | .txRateChange n => Sys2Proof.Machine.execTxRateChange n s
  | .framerResync p n => Sys2Proof.Machine.execFramerResync p n s
  | .traceFmtChange p n fmt => Sys2Proof.Machine.execTraceFmtChange p n fmt s
  | .berThresholdChange p n sf sd => Sys2Proof.Machine.execBerThresholdChange p n sf sd s
  -- Pointers and paths
  | .structWrite p n a v => Sys2Proof.Machine.execStructWrite p n a v s
  | .structApply n => Sys2Proof.Machine.execStructApply n s
  | .pointerIndication a3 t w members fall => Sys2Proof.Machine.execPointerIndication a3 t w members fall s
  | .realignPeriod a3 t fill => Sys2Proof.Machine.execRealignPeriod a3 t fill s
  | .h4MultiframeCheck a3 t v => Sys2Proof.Machine.execH4MultiframeCheck a3 t v s
  | .lomDeclare a3 t => Sys2Proof.Machine.execLomDeclare a3 t s
  | .pointerGenerate a3 t ahead => Sys2Proof.Machine.execPointerGenerate a3 t ahead s
  | .pathOverheadReceive a3 t j a g bip => Sys2Proof.Machine.execPathOverheadReceive a3 t j a g bip s
  | .journalEnable p d size => Sys2Proof.Machine.execJournalEnable p d size s
  | .journalRdWrite p d v => Sys2Proof.Machine.execJournalRdWrite p d v s
  | .pathIndRead p n a3 t => Sys2Proof.Machine.execPathIndRead p n a3 t s
  | .pathIndWrite p n a3 t => Sys2Proof.Machine.execPathIndWrite p n a3 t s
  | .pathIndDone n => Sys2Proof.Machine.execPathIndDone n s
  | .traceCaptureArm p n a3 t => Sys2Proof.Machine.execTraceCaptureArm p n a3 t s
  -- Concatenated groups
  | .grpRead p d g ix => Sys2Proof.Machine.execGrpRead p d g ix s
  | .grpDefine p d g => Sys2Proof.Machine.execGrpDefine p d g s
  | .grpSetMember p d g ix => Sys2Proof.Machine.execGrpSetMember p d g ix s
  | .grpActivate p d g => Sys2Proof.Machine.execGrpActivate p d g s
  | .grpDelete p d g => Sys2Proof.Machine.execGrpDelete p d g s
  | .grpAdd p d g ix => Sys2Proof.Machine.execGrpAdd p d g ix s
  | .grpRemove p d g ix => Sys2Proof.Machine.execGrpRemove p d g ix s
  | .grpOpInvalid p d g ix => Sys2Proof.Machine.execGrpOpInvalid p d g ix s
  | .grpEffect d g => Sys2Proof.Machine.execGrpEffect d g s
  | .grpDeleteEffect d g => Sys2Proof.Machine.execGrpDeleteEffect d g s
  | .grpAligned d g => Sys2Proof.Machine.execGrpAligned d g s
  | .vcatControlPacket d g ix aligned h => Sys2Proof.Machine.execVcatControlPacket d g ix aligned h s
  | .deskewLeadMeasure d g arrivals => Sys2Proof.Machine.execDeskewLeadMeasure d g arrivals s
  | .lcasHoldoffExpire d g ix => Sys2Proof.Machine.execLcasHoldoffExpire d g ix s
  | .lcasWtrExpire d g ix => Sys2Proof.Machine.execLcasWtrExpire d g ix s
  | .lcasAddTimeout d g => Sys2Proof.Machine.execLcasAddTimeout d g s
  | .lcasMultiframeBoundary d g => Sys2Proof.Machine.execLcasMultiframeBoundary d g s
  -- Multiplex section protection
  | .mspActivate p g k => Sys2Proof.Machine.execMspActivate p g k s
  | .mspDelete p g k => Sys2Proof.Machine.execMspDelete p g k s
  | .mspOpInvalid p g k op3 => Sys2Proof.Machine.execMspOpInvalid p g k op3 s
  | .mspEffectFrame g k => Sys2Proof.Machine.execMspEffectFrame g k s
  | .mspConfigWrite p g k which v => Sys2Proof.Machine.execMspConfigWrite p g k which v s
  | .mspHoldoffExpire g k c sd => Sys2Proof.Machine.execMspHoldoffExpire g k c sd s
  | .mspWtrExpire g k => Sys2Proof.Machine.execMspWtrExpire g k s
  | .mspExerEnd g k => Sys2Proof.Machine.execMspExerEnd g k s
  | .fopTimerExpire g k cm => Sys2Proof.Machine.execFopTimerExpire g k cm s
  -- Subnetwork connection protection
  | .sncpEvaluate a3 t => Sys2Proof.Machine.execSncpEvaluate a3 t s
  | .sncpHoldoffExpire a3 t ix => Sys2Proof.Machine.execSncpHoldoffExpire a3 t ix s
  | .sncpWtrExpire a3 t => Sys2Proof.Machine.execSncpWtrExpire a3 t s
  | .sncpIndRead p d a3 t => Sys2Proof.Machine.execSncpIndRead p d a3 t s
  | .sncpLogPop p d => Sys2Proof.Machine.execSncpLogPop p d s
  -- Tagged-grain links and the redundant pair
  | .tgFrameReceive n bits first pipe => Sys2Proof.Machine.execTgFrameReceive n bits first pipe s
  | .mateFrameReceive framed hdr theta arb shadow mirror dly s1s cf crcs yoke => Sys2Proof.Machine.execMateFrameReceive framed hdr theta arb shadow mirror dly s1s cf crcs yoke s
  | .mateTakeReceive f => Sys2Proof.Machine.execMateTakeReceive f s
  | .mateAckReceive f => Sys2Proof.Machine.execMateAckReceive f s
  | .mateRefuseReceive f => Sys2Proof.Machine.execMateRefuseReceive f s
  | .arbSelChange low => Sys2Proof.Machine.execArbSelChange low s
  | .hoTakeSend => Sys2Proof.Machine.execHoTakeSend s
  | .hoSwitch => Sys2Proof.Machine.execHoSwitch s
  | .hoYokeRelease low => Sys2Proof.Machine.execHoYokeRelease low s
  | .yokeTakeUnplanned high => Sys2Proof.Machine.execYokeTakeUnplanned high s
  | .hoTakeWaitTimeout => Sys2Proof.Machine.execHoTakeWaitTimeout s
  | .alignQualify => Sys2Proof.Machine.execAlignQualify s
  -- Timing
  | .refEnable p r v => Sys2Proof.Machine.execRefEnable p r v s
  | .refDisable p r v => Sys2Proof.Machine.execRefDisable p r v s
  | .refActivityLoss r => Sys2Proof.Machine.execRefActivityLoss r s
  | .refActivityReturn r => Sys2Proof.Machine.execRefActivityReturn r s
  | .refGateResult r off => Sys2Proof.Machine.execRefGateResult r off s
  | .refWtrExpire r => Sys2Proof.Machine.execRefWtrExpire r s
  | .disputeClear r => Sys2Proof.Machine.execDisputeClear r s
  | .mainCmdAuto p r => Sys2Proof.Machine.execMainCmdAuto p r s
  | .mainCmdForce p r => Sys2Proof.Machine.execMainCmdForce p r s
  | .mainCmdManual p r => Sys2Proof.Machine.execMainCmdManual p r s
  | .mainCmdHoldover p r => Sys2Proof.Machine.execMainCmdHoldover p r s
  | .mainCmdFreerun p r => Sys2Proof.Machine.execMainCmdFreerun p r s
  | .dpllLockAchieved d => Sys2Proof.Machine.execDpllLockAchieved d s
  | .switchingClear => Sys2Proof.Machine.execSwitchingClear s
  | .oscInLoss => Sys2Proof.Machine.execOscInLoss s
  | .syncInEdge ps => Sys2Proof.Machine.execSyncInEdge ps s
  | .syncLosTimeout => Sys2Proof.Machine.execSyncLosTimeout s
  | .syncAlign p v => Sys2Proof.Machine.execSyncAlign p v s
  | .syncSetSec p v => Sys2Proof.Machine.execSyncSetSec p v s
  | .setSecApply => Sys2Proof.Machine.execSetSecApply s
  | .tbSnapshotRead p sub => Sys2Proof.Machine.execTbSnapshotRead p sub s
  -- Performance monitoring
  | .pmRead p d layer a3 t => Sys2Proof.Machine.execPmRead p d layer a3 t s
  | .pmEnable p d layer a3 t => Sys2Proof.Machine.execPmEnable p d layer a3 t s
  | .pmDisable p d layer a3 t => Sys2Proof.Machine.execPmDisable p d layer a3 t s
  | .pmEnableLu p d layer a3 t => Sys2Proof.Machine.execPmEnableLu p d layer a3 t s
  | .pmDisableLu p d layer a3 t => Sys2Proof.Machine.execPmDisableLu p d layer a3 t s
  | .pmSetCfg p d layer a3 t => Sys2Proof.Machine.execPmSetCfg p d layer a3 t s
  | .pmOpInvalid p d seven layer a3 t => Sys2Proof.Machine.execPmOpInvalid p d seven layer a3 t s
  | .pmDayOfsWrite p d v => Sys2Proof.Machine.execPmDayOfsWrite p d v s
  | .pmTcaPop p d => Sys2Proof.Machine.execPmTcaPop p d s
  | .counterLoRead p addr n sub => Sys2Proof.Machine.execCounterLoRead p addr n sub s
  -- Skim
  | .skimTapAdd p d j code => Sys2Proof.Machine.execSkimTapAdd p d j code s
  | .skimTapRemove p d j code => Sys2Proof.Machine.execSkimTapRemove p d j code s
  | .skimTapFetchAdd p d j count => Sys2Proof.Machine.execSkimTapFetchAdd p d j count s
  | .skimTapClear p d j => Sys2Proof.Machine.execSkimTapClear p d j s
  | .skimTapFetchDone d errs => Sys2Proof.Machine.execSkimTapFetchDone d errs s
  | .skimJobDefine p d j => Sys2Proof.Machine.execSkimJobDefine p d j s
  | .skimJobStart p d j => Sys2Proof.Machine.execSkimJobStart p d j s
  | .skimJobStartAsap p d j => Sys2Proof.Machine.execSkimJobStartAsap p d j s
  | .skimJobStop p d j => Sys2Proof.Machine.execSkimJobStop p d j s
  | .skimJobTrigger p d j => Sys2Proof.Machine.execSkimJobTrigger p d j s
  | .skimJobRelease p d j => Sys2Proof.Machine.execSkimJobRelease p d j s
  | .skimJobOpInvalid p d j op => Sys2Proof.Machine.execSkimJobOpInvalid p d j op s
  | .skimJobBegin d j => Sys2Proof.Machine.execSkimJobBegin d j s
  | .skimGrainTap d w idx g bad ts => Sys2Proof.Machine.execSkimGrainTap d w idx g bad ts s
  | .skimTriggerTime d j => Sys2Proof.Machine.execSkimTriggerTime d j s
  | .skimFlushTimeout d j => Sys2Proof.Machine.execSkimFlushTimeout d j s
  | .skimRecordWritten d j sram => Sys2Proof.Machine.execSkimRecordWritten d j sram s
  | .skimStopFn d j => Sys2Proof.Machine.execSkimStopFn d j s
  | .skimRdWrite p d j v => Sys2Proof.Machine.execSkimRdWrite p d j v s
  | .drainDescriptorPost p d j v => Sys2Proof.Machine.execDrainDescriptorPost p d j v s
  | .drainCopyDone d j ok errs => Sys2Proof.Machine.execDrainCopyDone d j ok errs s
  | .drainEnableWrite p d j en => Sys2Proof.Machine.execDrainEnableWrite p d j en s
  | .skimPrbsRead p d ix => Sys2Proof.Machine.execSkimPrbsRead p d ix s
  | .skimPrbsWrite p d ix => Sys2Proof.Machine.execSkimPrbsWrite p d ix s
  | .skimPrbsClear p d ix => Sys2Proof.Machine.execSkimPrbsClear p d ix s
  | .skimPrbsOpInvalid p d ix => Sys2Proof.Machine.execSkimPrbsOpInvalid p d ix s
  -- Pour
  | .pourTgtAdd p d j code => Sys2Proof.Machine.execPourTgtAdd p d j code s
  | .pourTgtRemove p d j code => Sys2Proof.Machine.execPourTgtRemove p d j code s
  | .pourTgtFetchAdd p d j count => Sys2Proof.Machine.execPourTgtFetchAdd p d j count s
  | .pourTgtClear p d j => Sys2Proof.Machine.execPourTgtClear p d j s
  | .pourTgtFetchDone p d errs => Sys2Proof.Machine.execPourTgtFetchDone p d errs s
  | .pourJobDefine p d j => Sys2Proof.Machine.execPourJobDefine p d j s
  | .pourJobStart p d j => Sys2Proof.Machine.execPourJobStart p d j s
  | .pourJobStartAsap p d j => Sys2Proof.Machine.execPourJobStartAsap p d j s
  | .pourJobStop p d j => Sys2Proof.Machine.execPourJobStop p d j s
  | .pourJobRelease p d j => Sys2Proof.Machine.execPourJobRelease p d j s
  | .pourJobOpInvalid p d j op => Sys2Proof.Machine.execPourJobOpInvalid p d j op s
  | .pourJobBegin d j => Sys2Proof.Machine.execPourJobBegin d j s
  | .pourReleaseFrame d j => Sys2Proof.Machine.execPourReleaseFrame d j s
  | .pourInjectArm p d j what mode bits => Sys2Proof.Machine.execPourInjectArm p d j what mode bits s
  | .pourScriptStep d j errs => Sys2Proof.Machine.execPourScriptStep d j errs s
  -- Work banks
  | .wbAccess m d b off op ecc other => Sys2Proof.Machine.execWbAccess m d b off op ecc other s
  | .wbOwnerWrite by_ d b v => Sys2Proof.Machine.execWbOwnerWrite by_ d b v s
  | .wbHandoverDone d b => Sys2Proof.Machine.execWbHandoverDone d b s
  | .wbSieveZeroDone d b => Sys2Proof.Machine.execWbSieveZeroDone d b s
  | .wbClaimNormal p d b => Sys2Proof.Machine.execWbClaimNormal p d b s
  | .wbClaimUrgent p d b => Sys2Proof.Machine.execWbClaimUrgent p d b s
  | .wbRetire p d b => Sys2Proof.Machine.execWbRetire p d b s
  | .wbUnretire p d b => Sys2Proof.Machine.execWbUnretire p d b s
  | .wbUnretireDone d b => Sys2Proof.Machine.execWbUnretireDone d b s
  | .sieveBorrow d b => Sys2Proof.Machine.execSieveBorrow d b s
  | .sieveGroupStep d b fails => Sys2Proof.Machine.execSieveGroupStep d b fails s
  -- DRAM, BAR2 and the matrix
  | .dramAccess m d o op errs => Sys2Proof.Machine.execDramAccess m d o op errs s
  | .dramPatrolRead d line errs => Sys2Proof.Machine.execDramPatrolRead d line errs s
  | .bar2Request p a op errs => Sys2Proof.Machine.execBar2Request p a op errs s
  | .matrixRequest m t write response => Sys2Proof.Machine.execMatrixRequest m t write response s
  | .matrixMasterReset p m => Sys2Proof.Machine.execMatrixMasterReset p m s
  | .matrixResetDone m wrBeats rdBeats => Sys2Proof.Machine.execMatrixResetDone m wrBeats rdBeats s
  -- Transactions and maps
  | .txnOpen p k => Sys2Proof.Machine.execTxnOpen p k s
  | .txnOpenMirror p k => Sys2Proof.Machine.execTxnOpenMirror p k s
  | .txnClose p k => Sys2Proof.Machine.execTxnClose p k s
  | .txnCloseAsap p k => Sys2Proof.Machine.execTxnCloseAsap p k s
  | .txnAbort p k => Sys2Proof.Machine.execTxnAbort p k s
  | .txnRelease p k => Sys2Proof.Machine.execTxnRelease p k s
  | .txnOpInvalid p k => Sys2Proof.Machine.execTxnOpInvalid p k s
  | .txnRecordAppend p k v => Sys2Proof.Machine.execTxnRecordAppend p k v s
  | .txnFnWrite p k v => Sys2Proof.Machine.execTxnFnWrite p k v s
  | .txnFetchStart p k n => Sys2Proof.Machine.execTxnFetchStart p k n s
  | .txnFetchRecord k ecc => Sys2Proof.Machine.execTxnFetchRecord k ecc s
  | .mapRecordBuilt k map => Sys2Proof.Machine.execMapRecordBuilt k map s
  | .txnSeal k seq => Sys2Proof.Machine.execTxnSeal k seq s
  | .txnCommit k xchk => Sys2Proof.Machine.execTxnCommit k xchk s
  | .unionDispatchWithdraw k => Sys2Proof.Machine.execUnionDispatchWithdraw k s
  | .shadowSyncDone k => Sys2Proof.Machine.execShadowSyncDone k s
  | .txnRestoreDone k => Sys2Proof.Machine.execTxnRestoreDone k s
  | .mirrorEnableWrite p v => Sys2Proof.Machine.execMirrorEnableWrite p v s
  | .mateTxnReceive kind k w0 w1 w2 w3 => Sys2Proof.Machine.execMateTxnReceive kind k w0 w1 w2 w3 s
  | .mateSealTimeout k => Sys2Proof.Machine.execMateSealTimeout k s
  | .mateAckTimeout k => Sys2Proof.Machine.execMateAckTimeout k s
  | .mapDiagActive p d a3 t => Sys2Proof.Machine.execMapDiagActive p d a3 t s
  | .mapDiagShadow p d a3 t => Sys2Proof.Machine.execMapDiagShadow p d a3 t s
  | .mapDiagDispatch p d a3 t => Sys2Proof.Machine.execMapDiagDispatch p d a3 t s
  | .mapDiagGather p d a3 t => Sys2Proof.Machine.execMapDiagGather p d a3 t s
  | .mapDiagDone d => Sys2Proof.Machine.execMapDiagDone d s
  -- Slot store diagnostics
  | .slabDiagRead p g b w => Sys2Proof.Machine.execSlabDiagRead p g b w s
  | .slabDiagDone g => Sys2Proof.Machine.execSlabDiagDone g s
  | .slabEccInjArm p g a b => Sys2Proof.Machine.execSlabEccInjArm p g a b s
  | .slabSpareWrite p g k v => Sys2Proof.Machine.execSlabSpareWrite p g k v s
  | .slabSpareApply g k => Sys2Proof.Machine.execSlabSpareApply g k s
  -- Events
  | .eventWindowExpire b src => Sys2Proof.Machine.execEventWindowExpire b src s
  | .severeAutoRelease b src => Sys2Proof.Machine.execSevereAutoRelease b src s
  | .severeClear p b v => Sys2Proof.Machine.execSevereClear p b v s
  | .safeRelease => Sys2Proof.Machine.execSafeRelease s
  | .fenceRestart b => Sys2Proof.Machine.execFenceRestart b s
  | .evtCfgWrite p b src v => Sys2Proof.Machine.execEvtCfgWrite p b src v s
  | .evtForce p b v => Sys2Proof.Machine.execEvtForce p b v s
  | .evtAck p b => Sys2Proof.Machine.execEvtAck p b s
  | .blockReset p b port engines => Sys2Proof.Machine.execBlockReset p b port engines s
  | .firstRecordClear p b => Sys2Proof.Machine.execFirstRecordClear p b s
  | .faultHoldWrite p hold => Sys2Proof.Machine.execFaultHoldWrite p hold s
  | .faultPulseEnd => Sys2Proof.Machine.execFaultPulseEnd s
  -- Sensing and calibration
  | .voltageSample q mv ok => Sys2Proof.Machine.execVoltageSample q mv ok s
  | .tempSample ix t ok trimFail => Sys2Proof.Machine.execTempSample ix t ok trimFail s
  | .agingMeasure g degr proc => Sys2Proof.Machine.execAgingMeasure g degr proc s
  | .termProbe n c => Sys2Proof.Machine.execTermProbe n c s
  | .tdrCableStart p n vf => Sys2Proof.Machine.execTdrCableStart p n vf s
  | .tdrCableDone n found => Sys2Proof.Machine.execTdrCableDone n found s
  | .tdrTraceRun lane res => Sys2Proof.Machine.execTdrTraceRun lane res s
  | .monRailWindowWrite p r crit v => Sys2Proof.Machine.execMonRailWindowWrite p r crit v s
  | .calLoad p => Sys2Proof.Machine.execCalLoad p s
  | .calRecal p parts ageOk => Sys2Proof.Machine.execCalRecal p parts ageOk s
  | .calArm p => Sys2Proof.Machine.execCalArm p s
  | .calCommit p => Sys2Proof.Machine.execCalCommit p s
  | .calOpInvalid p op => Sys2Proof.Machine.execCalOpInvalid p op s
  | .calLoadDone => Sys2Proof.Machine.execCalLoadDone s
  | .calRecalDone res => Sys2Proof.Machine.execCalRecalDone res s
  | .calCommitDone => Sys2Proof.Machine.execCalCommitDone s
  | .calArmExpire => Sys2Proof.Machine.execCalArmExpire s
  -- Host interface
  | .registerWrite p addr data => Sys2Proof.Machine.execRegisterWrite p addr data s
  | .pcieLinkDown p loss => Sys2Proof.Machine.execPcieLinkDown p loss s
  | .mboxDataWrite p box ix v => Sys2Proof.Machine.execMboxDataWrite p box ix v s
  | .mboxSend p box => Sys2Proof.Machine.execMboxSend p box s
  | .mboxAck p box => Sys2Proof.Machine.execMboxAck p box s
  | .spiRead p addrBytes dummy opcode len => Sys2Proof.Machine.execSpiRead p addrBytes dummy opcode len s
  | .spiWrite p addrBytes dummy opcode len => Sys2Proof.Machine.execSpiWrite p addrBytes dummy opcode len s
  | .spiDone data fail => Sys2Proof.Machine.execSpiDone data fail s
  | .smbSetPointer v pec => Sys2Proof.Machine.execSmbSetPointer v pec s
  | .smbBlockRead => Sys2Proof.Machine.execSmbBlockRead s
  | .smbReadRegister => Sys2Proof.Machine.execSmbReadRegister s
  | .smbWriteRegister v pec => Sys2Proof.Machine.execSmbWriteRegister v pec s
  | .smbUnknownCommand => Sys2Proof.Machine.execSmbUnknownCommand s
  | .smbSclTimeout => Sys2Proof.Machine.execSmbSclTimeout s
  -- Boundary scan
  | .tapReset => Sys2Proof.Machine.execTapReset s
  | .extest cells => Sys2Proof.Machine.execExtest cells s
  | .samplePreload cells => Sys2Proof.Machine.execSamplePreload cells s
  | .idcode => Sys2Proof.Machine.execIdcode s
  | .clamp => Sys2Proof.Machine.execClamp s
  | .highz => Sys2Proof.Machine.execHighz s
  | .extestPulse cells => Sys2Proof.Machine.execExtestPulse cells s
  | .extestTrain cells => Sys2Proof.Machine.execExtestTrain cells s
  | .factoryTest => Sys2Proof.Machine.execFactoryTest s
  | .bypass op => Sys2Proof.Machine.execBypass op s
  -- Faults at the edge of the package
  | .serdesFault n => Sys2Proof.Machine.execSerdesFault n s
  | .serdesFaultEnd n => Sys2Proof.Machine.execSerdesFaultEnd n s
  | .pcieLinkUp p rate w => Sys2Proof.Machine.execPcieLinkUp p rate w s
  | .pcieConfigWrite p d3hot bme msixOn rest => Sys2Proof.Machine.execPcieConfigWrite p d3hot bme msixOn rest s
  | .tbLockLoss => Sys2Proof.Machine.execTbLockLoss s
  | .faultPinMismatch => Sys2Proof.Machine.execFaultPinMismatch s
  | .faultPinMismatchEnd => Sys2Proof.Machine.execFaultPinMismatchEnd s
  | .registerParityError => Sys2Proof.Machine.execRegisterParityError s
  | .errLastRead p k u => Sys2Proof.Machine.execErrLastRead p k u s

end Sys2Proof.Machine
end

