-- ==== Sys2Proof/Machine/Held.lean ====
section
/-!
DEFINITION. What the block does while no command waits in its queue: commands of host ports that the matrix held go on (R329, R330), and
otherwise time passes.
-/

namespace Sys2Proof.Machine

/-- The command of host port p that waits first of all its requests, where it may go to its target now. -/
def State.heldReady (s : State) (p : Port) : Option Instr :=
  match s.mxWait.find? (fun w => w.master == p.toNat) with
  | some ⟨_, .cmd i⟩ => if s.mxMayIssue p.toNat (regTarget i) then some i else none
  | _ => none

/-- The state with nothing of the port waiting at its master. -/
def State.withoutHeld (s : State) (p : Port) : State := { s with mxWait := s.mxWait.filter (fun w => w.master != p.toNat) }

/-- What waited behind the first request of port p waits on, unless the port's master has been reset meanwhile (R332). -/
def State.heldAgain (t : State) (p : Port) (s : State) : State :=
  if t.bit R.MATRIX_MRST_BUSY p.toNat then t
  else { t with mxWait := t.mxWait ++ (s.mxWait.filter (fun w => w.master == p.toNat)).drop 1 }

/-- The first command of port p that the matrix held runs. -/
def State.runHeld (s : State) (p : Port) (i : Instr) : Out :=
  match exec i (s.withoutHeld p) with
  | .next t => done ((t.heldAgain p s).mxNext p.toNat)
  | o => o

/-- No command waits in the queue: the first held command that may go runs, port A's before port B's; with none, 1 ns passes
(notes/assumptions/1.md, 8.md, 87.md). -/
def State.idle (s : State) : Out :=
  match s.heldReady .a with
  | some i => s.runHeld .a i
  | none =>
    match s.heldReady .b with
    | some i => s.runHeld .b i
    | none => done s.tick

end Sys2Proof.Machine
end

