-- ==== Sys2Proof/Machine/Step.lean ====
section
/-!
DEFINITION. One step of the block: the command at the front of the queue, or what the block does with none (notes/assumptions/1.md, 8.md).
-/

namespace Sys2Proof.Machine

/-- Takes the first command that waits and runs it on the state with the queue's rest; with nothing waiting, a
command that the matrix held goes on, or time passes. -/
def step (s : State) : Host.Outcome State Fault Refusal :=
  match s.pending with
  | [] => s.idle
  | c :: l => exec c { s with pending := l }

/-- The state with the command that a word spells at the front of its queue; the state itself where the word spells none. -/
def State.withFetchWord (s : State) (nbits w : Nat) : State :=
  match decodeTableWord nbits w with
  | some c => { s with pending := c :: s.pending }
  | none => s

end Sys2Proof.Machine
end

