-- ==== Sys2Proof/Safety.lean ====
section
/-!
DEFINITION. What holds of the block in every state that steps keep, what a safe step is, and what a command may leave changed.
-/

namespace Sys2Proof.Machine

/-- A step that goes on: it meets neither a fault nor a refusal. -/
def Runs (s : State) : Prop := ∃ t, step s = .next t

/-- Memory and registers are held in their canonical form, the offset into the frame lies within its 125 us (R254), and the SMBus pointer
names a whole register (Table 17-4). -/
structure Inv (s : State) : Prop where
  mem : Memory.wf s.mem = true
  regs : storeWf RegId.code resetVal s.regs = true
  ns : s.ns < 125000
  ptr : s.smbPtr.toNat % 4 = 0

/-- No retirement waits to be carried out (R346), and GRAVE has lowered HEALTH (Table 14-12): what every command leaves behind. -/
structure Settled (s : State) : Prop where
  due : s.due = []
  health : s.grave = true → s.bit R.PAIR_HEALTH_CAUSE 1 = true

/-- The registers that counting an event may change (R29, R338, R343, R349 to R353, R275, R291): the event register sets and the event
summary, the pending bits of MSI-X, the counter-wrap words, the lock of a cluster that fence mode stops, and the state and trigger time of a
Skim job. -/
def evReg (r : RegId) : Bool :=
  r.blk == .evt || r.blk == .evtsum || (r.blk == .hostif && decide (0x2000 ≤ r.off)) || decide (0xf000 ≤ r.off)
    || (r.blk == .die && r.off == (R.DIE_UNIT_STATE 0).off)
    || (r.blk == .skim && decide (0x134 ≤ r.off) && [0x34, 0x40, 0x44, 0x48].contains ((r.off - 0x100) % 0x80))

/-- The timers that counting an event may start or stop: the windows of its source, and the pulse of FAULT_N (R339, R340, R350). -/
def evTimer (k : TKey) : Bool := k.kind == .evWindow || k.kind == .evQuiet || k.kind == .faultPulse

/-- A command in registers of a host port reaches target t at once: the port is answered (R380, R381, R390, R332), and nothing of the matrix
holds the request (R329, R330). -/
def State.reaches (s : State) (p : Port) (t : Nat) : Bool :=
  s.answers p && s.mxMayIssue p.toNat t && !s.mxWait.any (fun w => w.master == p.toNat)

/-- Nothing differs but what counting events may change. -/
structure EvOnly (s t : State) : Prop where
  rest : t = { s with regs := t.regs, timers := t.timers, hostWrites := t.hostWrites, safe := t.safe, due := t.due, draw := t.draw,
                      firstClk := t.firstClk }
  regs : ∀ r, evReg r = false → t.rd r = s.rd r
  timers : ∀ k, evTimer k = false → t.timer k = s.timer k

/-- The registers that a command may change which counts events that retire nothing: those of the events, and HEALTH, which falls in GRAVE
(R220, R349). -/
def noteReg (r : RegId) : Bool :=
  evReg r || (r.blk == .pair && [(R.PAIR_STATUS).off, (R.PAIR_HEALTH_CAUSE).off].contains r.off)

/-- Nothing differs but what events that retire nothing may change by the end of a command; SYNC_OUT too falls in GRAVE. -/
structure NoteOnly (s t : State) : Prop where
  rest : t = { s with regs := t.regs, timers := t.timers, hostWrites := t.hostWrites, safe := t.safe, due := t.due, draw := t.draw,
                      syncOut := t.syncOut, firstClk := t.firstClk }
  regs : ∀ r, noteReg r = false → t.rd r = s.rd r
  timers : ∀ k, evTimer k = false → t.timer k = s.timer k

/-- The registers of transactions and of their record queues besides (R85, R97, R98). -/
def txnReg (r : RegId) : Bool := noteReg r || r.blk == .txn || r.blk == .map

/-- Nothing differs but transactions, what goes to the mate, and what events may change. -/
structure TxnOnly (s t : State) : Prop where
  rest : t = { s with regs := t.regs, timers := t.timers, hostWrites := t.hostWrites, safe := t.safe, due := t.due, draw := t.draw,
                      syncOut := t.syncOut, firstClk := t.firstClk, txns := t.txns, mateOut := t.mateOut }
  regs : ∀ r, txnReg r = false → t.rd r = s.rd r
  timers : ∀ k, evTimer k = false → t.timer k = s.timer k

/-- The registers that retirements may change besides (R24, R71, R182, R235, R239, R304, R313, R319, R323, R326, R346): retired units and
banks, lanes of a Seam, spares, conditions of protection groups, states of references and of Pour jobs, outstanding requests. -/
def reactReg (r : RegId) : Bool :=
  txnReg r || r.blk == .seam || r.blk == .wb || (r.blk == .matrix && decide (0x80 ≤ r.off))
    || (r.blk == .die && [0x100, 0x1100].contains r.off)
    || (r.blk == .region && [0x400, 0x408, 0x40c].contains r.off)
    || (r.blk == .region && decide (0x1030 ≤ r.off) && (r.off - 0x1030) % 0x40 == 0)
    || (r.blk == .time && (r.off == (R.TIME_STATUS).off || (decide (0x108 ≤ r.off) && (r.off - 0x108) % 0x20 == 0)))
    || (r.blk == .pour && decide (0x134 ≤ r.off) && (r.off - 0x134) % 0x80 == 0)

/-- The timers that retirements may start or stop besides: hold-offs of protection groups, gates and waits of references, the clearing of a
bank. -/
def reactTimer (k : TKey) : Bool :=
  evTimer k || k.kind == .mspHold || k.kind == .refGate || k.kind == .refWtr || k.kind == .dispute || k.kind == .memclr

/-- Nothing differs but what events and the retirements that follow them may change: memory, the map and the traffic stand. -/
structure ReactOnly (s t : State) : Prop where
  rest : t = { s with regs := t.regs, timers := t.timers, hostWrites := t.hostWrites, safe := t.safe, due := t.due, draw := t.draw,
                      syncOut := t.syncOut, firstClk := t.firstClk, txns := t.txns, mateOut := t.mateOut, unretire := t.unretire, sievePos := t.sievePos,
                      spareLast := t.spareLast, refS1 := t.refS1, mainHold := t.mainHold, wbWait := t.wbWait, resp := t.resp,
                      mxOut := t.mxOut, pourJobs := t.pourJobs }
  regs : ∀ r, reactReg r = false → t.rd r = s.rd r
  timers : ∀ k, reactTimer k = false → t.timer k = s.timer k

/-- Nothing differs but the answer and the registers that p names. -/
structure RegsOnly (p : RegId → Bool) (s t : State) : Prop where
  rest : t = { s with regs := t.regs, resp := t.resp }
  regs : ∀ r, p r = false → t.rd r = s.rd r

/-- A register that its block gives a rule beside the access types of its fields (Table 18-3), or that takes writes only at times: the commands
of that register say what a write of it does. -/
def ownRule (k : Blk) (off : Nat) : Bool :=
  match k with
  | .pkg | .cluster | .seam => false
  | .die => [0x100, 0x200, 0x204, 0x208, 0x210, 0x400, 0xC00].contains off
  | .region => [0x408, 0x40C, 0x480].contains off || (decide (0x1000 ≤ off) && decide (off < 0x1200) && decide (off % 64 ≤ 0x10))
  | .lu => [0x0, 0x4, 0x8, 0xC, 0xA20, 0x2000, 0x2200].contains off || (decide (0x100 ≤ off) && decide (off < 0x140))
      || (decide (0x800 ≤ off) && decide (off < 0xA20)) || (decide (0x1000 ≤ off) && decide (off < 0x2000))
  | .skim => [0x10, 0x40].contains off || (decide (0x100 ≤ off) && decide (off < 0x500) && !([0x34, 0x74].contains ((off - 0x100) % 128)))
  | .pour => off == 0x10 || (decide (0x100 ≤ off) && decide (off < 0x500) && [0x00, 0x20, 0x24].contains ((off - 0x100) % 128))
  | .wb => decide (off < 0xA8) || off == 0x500
  | .map => off == 0x10
  | .pm => [0x0, 0x20].contains off
  | .evt => decide (off < 0x20) || decide (0x100 ≤ off)
  | .txn => off == 4 || (decide (0x100 ≤ off) && decide (off < 0x300))
  | .time => [0x0, 0x10, 0x14, 0x30, 0x34, 0x60].contains off || (decide (0x40 ≤ off) && decide (off < 0x50))
      || (decide (0x100 ≤ off) && decide (off < 0x300))
  | .pair | .bench => off == 0
  | .cal => off == 4 || decide (0x8000 ≤ off)
  | .mon => [0x0, 0x340, 0x3A0].contains off || (decide (0x200 ≤ off) && decide (off < 0x238))
  | .matrix => off == 4
  | .hostif => [0x180, 0x200].contains off || (decide (0x100 ≤ off) && decide (off < 0x180)) || (decide (0x1000 ≤ off) && decide (off < 0x1B00))
  | .evtsum => [0x0, 0x50].contains off

/-- The value of a register after a write under its fields' access types (R412, Table 18-3): RW and RWS take the value, RW1C is cleared where 1 is
written, the rest stands. -/
def byAccess (r : RegId) (was v : Word) : Word :=
  let m := accMask r (fun y => y == .rw || y == .rws)
  ((was &&& ~~~m) ||| (v &&& m)) &&& ~~~(v &&& accMask r (fun y => y == .rw1c))

/-- Of the transaction slots and their register sets (R97) nothing differs but slot k; the map and memory stand. -/
structure SlotOnly (k : Nat) (s t : State) : Prop where
  slots : ∀ j, j ≠ k → t.slot j = s.slot j
  regs : ∀ r : RegId, r.blk = .txn → r.off < 0x300 → r.off < 0x100 + 0x40 * k ∨ 0x140 + 0x40 * k ≤ r.off → t.rd r = s.rd r
  map : t.actMap = s.actMap
  mem : t.mem = s.mem

end Sys2Proof.Machine
end

