-- ==== Sys2Proof/Certificates/Slice0/Obligations.lean ====
section
/-!
DEFINITION. The statements for the provers, in the order of the spec's files: what a step does, what each command does on the states where it
acts (every command answers a next state, with its own effect and what it leaves alone), and what every step keeps. A clause that rests on a
choice of the model names its log entry.
-/

open Sys2Proof Sys2Proof.Machine

-- Steps (notes/assumptions/1.md and 8.md)

/-- A step with a command at the front of the queue is exec of that command on the state with the queue's rest. That there is a queue, first in,
first out, is the model's choice (notes/assumptions/1.md). With no command waiting, a command of a host port that the matrix held and that
may go now runs, port A's before port B's (R329, R330; the model's choice, notes/assumptions/87.md); else 1 ns passes: while the package
answers, the ns of the frame advance to 124,999 and wait there for the frame boundary; before that only the clock advances. A journal record
that is staged (R151) and a request that waits in the matrix (R329) go on with that ns. What an idle step does is the model's choice
(notes/assumptions/8.md). -/
def Obligations.StepRunsTheFrontCommand : Prop :=
  (∀ (c : Instr) (l : List Instr) (s : State), s.pending = c :: l → step s = exec c { s with pending := l }) ∧
  (∀ (p : Port) (i : Instr) (s t : State), s.pending = [] → s.heldReady p = some i → (p = .b → s.heldReady .a = none) →
    exec i (s.withoutHeld p) = .next t →
    (t.bit R.MATRIX_MRST_BUSY p.toNat = true → step s = done (t.mxNext p.toNat)) ∧
    (t.bit R.MATRIX_MRST_BUSY p.toNat = false → step s =
      done ({ t with mxWait := t.mxWait ++ (s.mxWait.filter (fun w : MxWait => w.master == p.toNat)).drop 1 }.mxNext p.toNat))) ∧
  (∀ s : State, s.pending = [] → s.heldReady .a = none → s.heldReady .b = none → s.services = true → s.ns < 124999 →
    ∃ t, step s = .next t ∧ t.clk = s.clk + 1 ∧ t.ns = s.ns + 1 ∧ t.up = s.up ∧ t.frames = s.frames ∧ t.pending = [] ∧ t.actMap = s.actMap ∧
      (Settled s → s.mxWait = [] → s.jrnStage = [] → t = { s with clk := s.clk + 1, ns := s.ns + 1 })) ∧
  (∀ s : State, s.pending = [] → s.heldReady .a = none → s.heldReady .b = none → s.services = true → 124999 ≤ s.ns →
    ∃ t, step s = .next t ∧ t.clk = s.clk ∧ t.ns = s.ns ∧ t.pending = [] ∧ (Settled s → s.mxWait = [] → t = s)) ∧
  (∀ s : State, s.pending = [] → s.heldReady .a = none → s.heldReady .b = none → s.services = false →
    ∃ t, step s = .next t ∧ t.clk = s.clk + 1 ∧ t.ns = s.ns ∧ t.pending = [] ∧ (Settled s → s.mxWait = [] → t = { s with clk := s.clk + 1 }))

/-- No step stops: whatever command is at the front, with whatever operands and in whatever state, the step answers a next state. That a command
which the present state does not admit, and for which the spec gives no refusal, changes nothing and goes on is the model's choice
(notes/assumptions/9.md). -/
def Obligations.NoCommandStopsTheBlock : Prop :=
  ∀ s : State, Runs s

/-- Every step keeps the canonical form of memory and of the register store, the offset into the frame below 125 us (R254), the alignment of the
SMBus pointer, and that nothing waits to be retired (R346) and HEALTH is low in GRAVE (R220). From every state that holds these, not only
from those a run reaches. -/
def Obligations.EveryStepKeepsTheInvariant : Prop :=
  ∀ s t : State, Inv s → Settled s → step s = .next t → Inv t ∧ Settled t

/-- A command never takes, adds or reorders a command of the queue: only the senders do, and step, which takes the one it runs. The queue is the
model's (notes/assumptions/1.md). -/
def Obligations.CommandsLeaveTheQueue : Prop :=
  ∀ (c : Instr) (s t : State), exec c s = .next t → t.pending = s.pending

/-- The state after reset meets the invariant, and holds what the spec gives: the queue empty, no image active, every transaction slot FREE,
every connection map and group empty, no severity, the rail windows of Table 15-2, the limits of R360, POR as the reset's cause (Table
16-7), and every register at the reset value of its table. Memory reads 0 (notes/assumptions/21.md); the registers to which the spec gives
no reset value (logs 4, 5, 6 and 20) and the state beside the registers are the model's choice. -/
def Obligations.ResetHoldsItsValues : Prop :=
  Inv State.reset ∧ Settled State.reset ∧ State.reset.pending = [] ∧ State.reset.pwr = .run ∧ State.reset.startStep = 1 ∧
  (∀ r, State.reset.rd r = resetVal r) ∧ (∀ a, State.reset.ldb a = 0) ∧ (∀ k : Fin 8, State.reset.txnState k = txFREE) ∧
  State.reset.actMap = [] ∧ State.reset.merges = [] ∧ (∀ g : Nat, (State.reset.grp g).st = 0 ∧ (State.reset.grp g).ins = [] ∧ (State.reset.grp g).eg = []) ∧
  (∀ g k : Fin 8, State.reset.mspState g k = 0) ∧ (∀ (d : Fin 4) (j : Fin 8), State.reset.skSt d j = skFREE ∧ State.reset.poSt d j = poFREE) ∧
  State.reset.pm = [] ∧ State.reset.snc = [] ∧ State.reset.fabric = [] ∧ State.reset.mxOut = [] ∧ State.reset.mxWait = [] ∧ State.reset.wbWait = [] ∧
  State.reset.grave = false ∧ State.reset.flag R.PKG_RST_CAUSE F.PKG_RST_CAUSE_POR = true ∧
  (State.reset.rd R.PKG_ID).toNat / 2 ^ 16 = 0x4128 ∧
  State.reset.rd (R.MON_RAIL_WARN 0) = railWord (728, 772) ∧ State.reset.rd (R.MON_RAIL_CRIT 6) = railWord (1710, 1890) ∧
  State.reset.get R.MON_TEMP_LIM F.MON_TEMP_LIM_WARN = 100 ∧ State.reset.get R.MON_TEMP_LIM F.MON_TEMP_LIM_CRIT = 110 ∧
  (∀ n w : Nat, decodeTableWord n w = none) ∧ ∀ n w : Nat, State.reset.withFetchWord n w = State.reset

-- Power, resets and start-up (16_power_reset_startup.md)

/-- R375, R376: the rails come up and go down, and power-on reset ends. The registers then hold their reset values and memory lists nothing; T0
samples the straps into PKG_START. What a power cycle clears beside registers and memory is the model's choice (notes/assumptions/23.md).
R378, R379, R380: a low level on RESET_N resets the device, is held back while a COMMIT writes the calibration store, and does nothing in
GRAVE; its rise is T0, which samples the straps. What RESET_N leaves (notes/assumptions/22.md, 23.md) and that a reset held back is carried
out, with T0 where RESET_N has risen, when the store write ends (99) are the model's choices. -/
def Obligations.PowerAndResetFollowTheirLines : Prop :=
  ((∀ s : State, s.pwr = .off →
    ∃ t, exec .powerOn s = .next t ∧ t.pwr = .por ∧ t.regs = [] ∧ t.mem = [] ∧ t.pending = s.pending ∧
      (s.calRun ≠ 4 → t.calStore = s.calStore)) ∧
  (∀ s : State, ∃ t, exec .powerOff s = .next t ∧ t.pwr = .off ∧ t.grave = false ∧ t.regs = [] ∧ t.mem = [] ∧ t.pending = s.pending ∧
      (s.calRun ≠ 4 → t.calStore = s.calStore)) ∧
  (∀ (side test : Bool) (boot : BitVec 3) (s : State), s.pwr = .por → s.rstLow = true → Settled s →
    exec (.porEnd true side test boot) s = .next { s with pwr := .reset, oscIn := true }) ∧
  (∀ (osc side test : Bool) (boot : BitVec 3) (s : State), s.pwr = .por → s.rstLow = false →
    ∃ t, exec (.porEnd osc side test boot) s = .next t ∧ t.pwr = .run ∧ t.oscIn = osc ∧ t.upStart = s.up ∧ t.mem = s.mem ∧
      t.get R.PKG_START F.PKG_START_SIDE = (if side then 1 else 0) ∧
      t.get R.PKG_START F.PKG_START_TEST_MODE = (if test then 1 else 0) ∧
      t.get R.PKG_START F.PKG_START_BOOT = boot.toNat ∧
      (osc = false → t.bit (R.EVT_LIVE evTime) srcOSC = true))) ∧
  ((∀ s : State, Inv s → s.pwr = .run → s.grave = false → s.rstHeld = false → s.calRun ≠ 4 →
    ∃ t, exec .resetNAssert s = .next t ∧ t.pwr = .reset ∧ t.rstLow = true ∧ t.sevOn = false ∧ t.mem = [] ∧ t.actMap = [] ∧
      t.drive = false ∧ t.calStore = s.calStore ∧ t.pending = s.pending ∧ t.rd R.PKG_RST_CAUSE = s.rd R.PKG_RST_CAUSE) ∧
  (∀ s : State, s.pwr = .run → s.grave = false → s.rstHeld = false → s.calRun = 4 →
    exec .resetNAssert s = .next { s with rstLow := true, rstHeld := true }) ∧
  (∀ s : State, s.grave = true → exec .resetNAssert s = .next { s with rstLow := true }) ∧
  (∀ (side test : Bool) (boot : BitVec 3) (s : State), s.rstHeld = true → s.calRun ≠ 4 → s.grave = false →
    ∃ t, exec (.resetNHoldRelease side test boot) s = .next t ∧ t.flag R.PKG_RST_CAUSE F.PKG_RST_CAUSE_HELD = true ∧ t.rstHeld = false ∧
      t.pwr = (if s.rstLow then .reset else .run) ∧ t.mem = [] ∧ t.calStore = s.calStore) ∧
  (∀ (side test : Bool) (boot : BitVec 3) (s : State), s.rstLow = true → s.pwr = .reset →
    ∃ t, exec (.resetNDeassert side test boot) s = .next t ∧ t.pwr = .run ∧ t.rstLow = false ∧ t.upStart = s.up ∧
      t.get R.PKG_START F.PKG_START_SIDE = (if side then 1 else 0) ∧
      t.get R.PKG_START F.PKG_START_TEST_MODE = (if test then 1 else 0) ∧
      t.get R.PKG_START F.PKG_START_BOOT = boot.toNat))

/-- R383, R386, Table 16-4: the steps of the start-up, each where the one before it is reached, and the failures of DRAM training. That STEP is
the highest step reached (notes/assumptions/24.md), the instant of the training timeout (66), which clearings report no end (110), and that
a command out of its bound changes nothing (3, 9) are the model's choices. -/
def Obligations.StartUpSteps : Prop :=
  (∀ (rom : Bool) (s : State), s.pwr = .run → s.startStep = 1 → ∃ t, exec (.packagePllLock rom) s = .next t ∧ t.startStep = 2 ∧
      (rom = true → t.bit (R.EVT_STICKY evPkg) srcROM = true) ∧ t.mem = s.mem) ∧
  (∀ (lead : Nat) (s : State), s.pwr = .run → s.startStep = 2 →
    ∃ t, exec (.startupServicesUp lead) s = .next t ∧ t.startStep = 3 ∧ t.frames = 0 ∧ t.ns = 0 ∧ t.lead = lead ∧ t.mem = s.mem ∧
      (s.get R.PKG_START F.PKG_START_BOOT % 4 = 0 → t.load = some ⟨1, true, false, false, none⟩) ∧
      (s.get R.PKG_START F.PKG_START_BOOT % 4 = 1 → t.load = some ⟨2, true, false, false, none⟩) ∧
      (s.get R.PKG_START F.PKG_START_BOOT % 4 = 2 → t.load = some ⟨1, true, true, false, none⟩) ∧
      (s.get R.PKG_START F.PKG_START_BOOT % 4 = 3 → t.load = s.load) ∧
      (s.linkUp .a = false → t.bit (R.EVT_LIVE evPkg) srcHOSTA = true) ∧ (s.linkUp .b = false → t.bit (R.EVT_LIVE evPkg) srcHOSTB = true)) ∧
  (∀ s : State, s.services = true → s.startStep = 3 →
    ∃ t, exec .sramClearDone s = .next t ∧ t.startStep = 4 ∧ t.timerOn (clearKey 0 0 0) = false ∧
      RegsOnly (fun r => r == R.PKG_START) { s with timers := t.timers } t) ∧
  (∀ s : State, s.services = true → s.startStep < 5 → s.dramBad = [] → s.dramTrained = false →
    ∃ t, exec .dramTrainDone s = .next t ∧ t.startStep = 5 ∧ t.timerOn (clearKey 1 0 0) = false ∧ t.timerOn (clearKey 2 0 0) = true ∧
      t.dramTrained = true ∧ RegsOnly (fun r => r == R.PKG_START) { s with timers := t.timers, dramTrained := true } t) ∧
  (∀ (d : Fin 4) (s : State), s.services = true → s.dramReady = false → d.val ∉ s.dramBad → s.due = [] →
    ∃ t, exec (.dramTrainFail d) s = .next t ∧ d.val ∈ t.dramBad ∧ t.bit (R.EVT_STICKY evPkg) srcMEMCLR = true ∧
      NoteOnly ({ s with dramBad := d.val :: s.dramBad }.stopTimer (clearKey 1 0 0)) t) ∧
  (∀ s : State, s.services = true → s.dramBad ≠ [] → s.fullActive = false → s.timerDone ⟨.dramFail, ⟨0, 0, 0⟩⟩ = true →
    ∃ t, exec .dramTrainFailTimeout s = .next t ∧ t.get R.BENCH_STATUS F.BENCH_STATUS_STATE = bsFAILED ∧
      RegsOnly (fun r => r == R.BENCH_STATUS) { s with load := none, applying := none } t) ∧
  (∀ s : State, s.services = true → s.startStep < 6 → s.dramTrained = true → s.dramBad = [] → s.applying = none → Settled s →
    ∃ t, exec .dramZeroDone s = .next t ∧ t.startStep = 6 ∧ t.dramReady = true ∧ t.mem = s.mem ∧
      ∀ d : Fin 4, t.bit R.PKG_DRAM (28 + d) = true) ∧
  (∀ s : State, s.clearsLate ≠ [] → s.due = [] →
    ∃ t, exec .memclrOverrun s = .next t ∧ t.bit (R.EVT_STICKY evPkg) srcMEMCLR = true ∧ (∀ k ∈ s.clearsLate, t.timerOn k = false) ∧
      t.ctr (ctrEvTotal evPkg srcMEMCLR) = (s.ctr (ctrEvTotal evPkg srcMEMCLR) + s.clearsLate.length) % 2 ^ 48 ∧
      (∀ k, k ∉ s.clearsLate → evTimer k = false → t.timer k = s.timer k) ∧ NoteOnly { s with timers := t.timers } t) ∧
  (∀ s : State, s.clearsLate = [] → Settled s → exec .memclrOverrun s = .next s) ∧
  (∀ (a : Applying) (s : State), s.applying = some a → a.img.full = true → a.stage = .hkSet →
    ∃ t, exec .linksAdapted s = .next t ∧ (∀ n : Fin 128, t.persOf n = a.img.pers n) ∧
      t.applying = some { a with stage := .linksSet, after := s.inFrames 4 } ∧ t.mem = s.mem ∧ t.actMap = s.actMap) ∧
  (∀ (a : Applying) (s : State), s.applying = some a → a.img.full = true → a.stage = .linksSet → s.ns = 0 → s.fn % 4 = 0 → a.after ≤ s.up →
    ∃ t, exec .startupMapCommit s = .next t ∧ t.startStep = 10 ∧ t.get R.BENCH_STATUS F.BENCH_STATUS_STATE = bsACTIVE ∧
      t.rd R.BENCH_ACTIVE_ID = a.img.id ∧ t.fullActive = true ∧ t.sevOn = true ∧ t.applying = none ∧ t.fullForced = false ∧ t.mem = s.mem)

-- Bench images (02_bench_image.md)

/-- R43, R50, R397, R440: a START begins a load from its source, from a flash slot with a read command (0x6C or, with BOOT[2], 0x0C, the slot's
offset, 8 dummy clocks) where the bus is free; SOURCE 3 is refused at step 0 with FIELD and counts on PKG.BENCH; while a load or a re-bench
is in progress, or in GRAVE, START_IGNORED is set and nothing begins, whichever SOURCE the START names. That one read command asks for the
header (notes/assumptions/81.md), and what a START clears (27, 78), are the model's choices. R45, R46: a header and an image are accepted
where every check passes; otherwise BENCH_REFUSE shows the first finding (step, section, code), BENCH_REFUSE_OFFSET its offset, and the load
ends unless the fallback to slot 1 is still open. That STATE shows VALIDATING once the header has passed (notes/assumptions/27.md), how
rereads meet the order of the checks (25), that SCOPE and REGION are those of an accepted image (78) and the acceptance frame of a region
image (80) are the model's choices. -/
def Obligations.ImagesAreLoadedAndJudged : Prop :=
  ((∀ (p : Port) (s : State), s.reaches p 0 = true → s.benchBusy = false → s.grave = false →
    ∃ t, exec (.benchStartStaging p) s = .next t ∧ t.load = some ⟨0, false, false, false, none⟩ ∧ t.rd R.BENCH_REFUSE = 0 ∧
      t.get R.BENCH_STATUS F.BENCH_STATUS_STATE = bsLOADING ∧ t.get R.BENCH_STATUS F.BENCH_STATUS_LAST_SOURCE = 0 ∧
      RegsOnly (fun r => r.blk == .bench) { s with load := t.load } t) ∧
  (∀ (p : Port) (s : State), s.reaches p 0 = true → s.benchBusy = false → s.grave = false →
    ∃ t, exec (.benchStartSlot0 p) s = .next t ∧ t.load = some ⟨1, false, false, false, none⟩ ∧ t.rd R.BENCH_REFUSE = 0 ∧
      t.get R.BENCH_STATUS F.BENCH_STATUS_STATE = bsLOADING ∧ t.get R.BENCH_STATUS F.BENCH_STATUS_LAST_SOURCE = 1 ∧
      (s.spiRun = none → t.spiLog = ⟨(if s.get R.PKG_START F.PKG_START_BOOT / 4 = 0 then 0x6C else 0x0C) :: toBe 4 0, 8, s.spiMHz, 64⟩ :: s.spiLog) ∧
      RegsOnly (fun r => r.blk == .bench) { s with load := t.load, spiLog := t.spiLog } t) ∧
  (∀ (p : Port) (s : State), s.reaches p 0 = true → s.benchBusy = false → s.grave = false →
    ∃ t, exec (.benchStartSlot1 p) s = .next t ∧ t.load = some ⟨2, false, false, false, none⟩ ∧ t.rd R.BENCH_REFUSE = 0 ∧
      t.get R.BENCH_STATUS F.BENCH_STATUS_STATE = bsLOADING ∧ t.get R.BENCH_STATUS F.BENCH_STATUS_LAST_SOURCE = 2 ∧
      (s.spiRun = none →
        t.spiLog = ⟨(if s.get R.PKG_START F.PKG_START_BOOT / 4 = 0 then 0x6C else 0x0C) :: toBe 4 0x01000000, 8, s.spiMHz, 64⟩ :: s.spiLog) ∧
      RegsOnly (fun r => r.blk == .bench) { s with load := t.load, spiLog := t.spiLog } t) ∧
  (∀ (p : Port) (s : State), s.reaches p 0 = true → s.benchBusy = false → s.grave = false →
    ∃ t, exec (.benchStartInvalidSource p) s = .next t ∧ t.rd R.BENCH_REFUSE = 0x0D ∧ t.load = none ∧
      t.get R.BENCH_STATUS F.BENCH_STATUS_STATE = bsREFUSED ∧ t.bit (R.EVT_STICKY evPkg) srcBENCH = true ∧ t.mem = s.mem) ∧
  (∀ (p : Port) (s : State), s.reaches p 0 = true → Settled s → s.benchBusy = true ∨ s.grave = true →
    ∀ c ∈ [Instr.benchStartStaging p, .benchStartSlot0 p, .benchStartSlot1 p, .benchStartInvalidSource p],
    ∃ t, exec c s = .next t ∧ t.flag R.BENCH_STATUS F.BENCH_STATUS_START_IGNORED = true ∧
      RegsOnly (fun r => r == R.BENCH_CTRL || r == R.BENCH_STATUS) s t)) ∧
  ((∀ (flash : List Byte) (l : Load) (s : State), s.load = some l → l.header = none → l.source = 0 →
    headerBad (s.ld stagingBase 64) = none → lengthBad (s.ld stagingBase 64) (some (s.get R.BENCH_LEN F.BENCH_LEN_LENGTH)) = none →
    ∃ t, exec (.imageHeaderRead flash) s = .next t ∧ t.load = some { l with header := some (s.ld stagingBase 64) } ∧
      t.get R.BENCH_STATUS F.BENCH_STATUS_STATE = bsVALIDATING ∧ RegsOnly (fun r => r == R.BENCH_STATUS) { s with load := t.load } t) ∧
  (∀ (flash : List Byte) (l : Load) (r : BRef) (s : State), s.load = some l → l.header = none → l.source ≠ 0 → s.spiRun = none →
    (headerBad ((List.range 64).map (fun i => flash.getD i 0))).or
      (lengthBad ((List.range 64).map (fun i => flash.getD i 0)) none) = some r → l.fallback = false → l.boot = false →
    ∃ t, exec (.imageHeaderRead flash) s = .next t ∧ t.load = none ∧ t.get R.BENCH_STATUS F.BENCH_STATUS_STATE = bsREFUSED ∧
      t.rd R.BENCH_REFUSE = BitVec.ofNat 32 (2 ^ 24 * r.step + 2 ^ 8 * (r.sect % 2 ^ 16) + r.code) ∧
      t.rd R.BENCH_REFUSE_OFFSET = BitVec.ofNat 32 r.off ∧ t.bit (R.EVT_STICKY evPkg) srcBENCH = true) ∧
  (∀ (flash : List Byte) (again : List (List Byte)) (rom : Bool) (l : Load) (h : List Byte) (s : State), s.load = some l →
    l.header = some h → l.boot = false →
    let b := if l.source = 0 then s.ld stagingBase (le h 8 4) else h ++ (List.range (le h 8 4 - 64)).map (fun i => flash.getD (64 + i) 0)
    let v := s.imageCheck (if l.source = 0 then 0 else 3) again b
    v.bad = none →
    ∃ t f, exec (.imageReadDone flash again rom) s = .next t ∧ t.load = none ∧ t.applying = some ⟨imgOf v.img, false, .waiting, f⟩ ∧
      s.inFrames 0 ≤ f ∧ ((imgOf v.img).full = true → f = s.inFrames 0) ∧ t.get R.BENCH_STATUS F.BENCH_STATUS_STATE = bsWAITING ∧
      t.get R.BENCH_STATUS F.BENCH_STATUS_SCOPE = (if (imgOf v.img).full then 0 else 1) ∧
      ((imgOf v.img).full = false → t.get R.BENCH_STATUS F.BENCH_STATUS_REGION = (imgOf v.img).region % 2 ^ F.BENCH_STATUS_REGION.w ∧
        t.mem = s.mem)) ∧
  (∀ (flash : List Byte) (again : List (List Byte)) (rom : Bool) (l : Load) (h : List Byte) (r : BRef) (s : State), s.load = some l →
    l.header = some h → l.fallback = false →
    (s.imageCheck (if l.source = 0 then 0 else 3) again
      (if l.source = 0 then s.ld stagingBase (le h 8 4) else h ++ (List.range (le h 8 4 - 64)).map (fun i => flash.getD (64 + i) 0))).bad = some r →
    ∃ t, exec (.imageReadDone flash again rom) s = .next t ∧ t.load = none ∧ t.applying = s.applying ∧
      t.get R.BENCH_STATUS F.BENCH_STATUS_STATE = bsREFUSED ∧ (l.boot = true → 8 ≤ t.startStep) ∧ t.mem = s.mem ∧ t.actMap = s.actMap ∧
      t.rd R.BENCH_REFUSE = BitVec.ofNat 32 (2 ^ 24 * r.step + 2 ^ 8 * (r.sect % 2 ^ 16) + r.code)) ∧
  (∀ (flash : List Byte) (again : List (List Byte)) (rom : Bool) (l : Load) (h : List Byte) (r : BRef) (s : State), s.load = some l →
    l.header = some h → l.fallback = true → l.fell = false →
    (s.imageCheck (if l.source = 0 then 0 else 3) again
      (if l.source = 0 then s.ld stagingBase (le h 8 4) else h ++ (List.range (le h 8 4 - 64)).map (fun i => flash.getD (64 + i) 0))).bad = some r →
    ∃ t, exec (.imageReadDone flash again rom) s = .next t ∧ t.load = some ⟨2, l.boot, true, true, none⟩ ∧ t.applying = s.applying ∧
      t.get R.BENCH_STATUS F.BENCH_STATUS_STATE = bsLOADING ∧ t.get R.BENCH_STATUS F.BENCH_STATUS_LAST_SOURCE = 2 ∧
      t.rd R.BENCH_REFUSE = BitVec.ofNat 32 (2 ^ 24 * r.step + 2 ^ 8 * (r.sect % 2 ^ 16) + r.code)))

/-- R48, R49, R51, Table 02-11: a full re-bench forces every output and drops the map at its frame boundary; a region re-bench forces its
region, applies POWER, locks, clears the slabs, applies LINKS and commits the map, stage by stage; a step that passes its bound takes no
effect any more, and the overrun FAILS the re-bench and keeps the region forced. In GRAVE no transaction slot changes state (R349). The
order of commits at FN_A (notes/assumptions/80.md), startStep 9 during a full re-bench (24) and the command of a step out of its bound (9)
are the model's choices. -/
def Obligations.RebenchSteps : Prop :=
  (∀ (a : Applying) (s : State), s.applying = some a → a.img.full = true → a.stage = .waiting → s.ns = 0 → a.after ≤ s.up →
    ∃ t, exec .fullRebenchApply s = .next t ∧ t.fullForced = true ∧ t.actMap = [] ∧ t.merges = [] ∧ t.startStep = 9 ∧
      t.get R.BENCH_STATUS F.BENCH_STATUS_STATE = bsAPPLYING ∧ (s.grave = false → ∀ k : Fin 8, t.txnLive k = false)) ∧
  (∀ (a : Applying) (s : State), s.applying = some a → a.img.full = false → a.stage = .waiting → s.ns = 0 → a.after ≤ s.up →
    s.commitsFirst a.img.region = false →
    ∃ t, exec .regionRebenchApply s = .next t ∧ a.img.region ∈ t.rbForced ∧ t.applying = some { a with stage := .forced } ∧
      t.get R.BENCH_STATUS F.BENCH_STATUS_STATE = bsAPPLYING ∧ t.actMap = s.actMap ∧ t.mem = s.mem) ∧
  (∀ (a : Applying) (s : State), s.applying = some a → a.img.full = false → a.stage = .forced → Settled s → s.overBound = false →
    ∃ t, exec .regionPowerApplied s = .next t ∧ t.applying = some { a with stage := .powered } ∧
      t.regionPowered a.img.region = a.img.rgPower a.img.region ∧
      (∀ i : Fin 4, t.clusterPowered (4 * a.img.region + i) = a.img.clPower (4 * a.img.region + i)) ∧ t.actMap = s.actMap) ∧
  (∀ (a : Applying) (s : State), s.applying = some a → a.img.full = false → a.stage = .powered → s.overBound = false →
    ∃ t, exec .regionPllLocked s = .next t ∧ t.applying = some { a with stage := .locked } ∧
      t.regionPowered a.img.region = s.regionPowered a.img.region ∧
      t.bit (R.DIE_UNIT_STATE (a.img.region / 2)) (24 + a.img.region % 2) =
        (s.regionPowered a.img.region && !s.bit (R.EVT_LIVE (evRegion a.img.region)) srcRgCLOCK) ∧
      RegsOnly (fun r => r == R.DIE_UNIT_STATE (a.img.region / 2)) { s with applying := t.applying, timers := t.timers } t) ∧
  (∀ (a : Applying) (s : State), s.applying = some a → a.img.full = false → a.stage = .locked → s.overBound = false →
    ∃ t, exec .regionSlabsCleared s = .next t ∧ t.applying = some { a with stage := .cleared } ∧
      t.slabs.all (fun e => e.1 / 2 ^ 21 != a.img.region) = true ∧ t.actMap = s.actMap ∧ t.pers = s.pers) ∧
  (∀ (a : Applying) (s : State), s.applying = some a → a.img.full = false → a.stage = .cleared → s.overBound = false →
    ∃ t, exec .regionLinksApplied s = .next t ∧ t.applying = some { a with stage := .linksSet, after := s.inFrames 4 } ∧
      (∀ n : Fin 128, t.persOf n = if luRegion n = a.img.region then a.img.pers n else s.persOf n) ∧ t.actMap = s.actMap) ∧
  (∀ (a : Applying) (s : State), s.applying = some a → a.img.full = false → a.stage = .linksSet → s.ns = 0 → s.fn % 4 = 0 → a.after ≤ s.up →
    ∃ t, exec .regionMapCommit s = .next t ∧ t.applying = none ∧ a.img.region ∉ t.rbForced ∧ a.img.region ∉ t.rgFailed ∧
      t.rd (R.BENCH_REGION_ID a.img.region) = a.img.id ∧ t.get R.BENCH_STATUS F.BENCH_STATUS_STATE = bsACTIVE ∧ t.mem = s.mem) ∧
  (∀ (a : Applying) (s : State), s.applying = some a → a.img.full = false → a.stage ∈ [Stage.forced, .powered, .locked, .cleared] →
    s.overBound = true →
    ∃ t, exec .regionRebenchTimeout s = .next t ∧ t.applying = none ∧ a.img.region ∈ t.rgFailed ∧ t.rbForced = s.rbForced ∧
      t.get R.BENCH_STATUS F.BENCH_STATUS_STATE = bsFAILED ∧ t.bit (R.EVT_STICKY evPkg) srcBENCH = true ∧ t.mem = s.mem) ∧
  (∀ s : State, s.overBound = true → exec .regionPowerApplied s = .next s ∧ exec .regionPllLocked s = .next s ∧
    exec .regionSlabsCleared s = .next s ∧ exec .regionLinksApplied s = .next s)

-- Fabric and slot store (03_grains_slot_store.md)

/-- R13, R14: a grain that crosses a boundary with sound parity stays as it is and counts nothing; one that fails is replaced by the substitute
grain, and the boundary's counter and source count it. Where it leaves an LU, all that is made of it takes what its region received; where
it enters one region of a die, the grain that goes on to the other is as it was. How a command names the grain is the model's choice
(notes/assumptions/114.md). R58: a grain that leaves its realigner, with no deskew on its way, is sent once to each die with a region that
needs it and whose Seam is up, under the position, frame and marker it left with; a byte that passes no realigner goes to whole-link
connections alone, and every other to tributaries alone. R59: a Seam block that fails its check counts a replay; one whose replay fails too
loses its grains and counts as lost; a retired lane counts on SEAM_LANE. -/
def Obligations.GrainsCrossAndAreSent : Prop :=
  ((∀ (b : Fin 4) (u : Fin 128) (k : Fin 17) (g : Grain) (s : State), oddParity g = true →
    exec (.grainCrossing b u k none g) s = .next s) ∧
  (∀ (u : Fin 128) (k : Fin 17) (i : Nat) (g : Grain) (s : State), k.val ≠ 16 →
    let n := 16 * (u.val % 8) + k.val
    let mine (e : FabGrain) : Prop := e.link ∈ s.feedNames n ∧ e.pos = i % 155520 ∧ e.eq = false ∧ (if 155520 ≤ i then e.whole else e.trib) = true
    ∃ t, exec (.grainCrossing 0 u k (some i) g) s = .next t ∧ t.txGrains = s.txGrains ∧ t.slabs = s.slabs ∧ t.mem = s.mem ∧
      (155520 ≤ i → t.deskew = s.deskew) ∧ t.deskew.map (fun e => e.1) = s.deskew.map (fun e => e.1) ∧
      ∀ (j : Nat) (e : FabGrain), s.fabric[j]? = some e →
        (mine e → (∀ x ∈ s.fabric, mine x → x.dep ≤ e.dep) → t.fabric[j]? = some { e with g := if oddParity g then g else subGrain }) ∧
        (¬ mine e ∨ (∃ x ∈ s.fabric, mine x ∧ e.dep < x.dep) → t.fabric[j]? = some e)) ∧
  (∀ (u : Fin 128) (i : Nat) (g : Grain) (e : FabGrain) (s : State), s.fabric[i]? = some e →
    let x : Grain := if oddParity g then g else subGrain
    ∃ t, exec (.grainCrossing 0 u 16 (some i) g) s = .next t ∧ t.txGrains = s.txGrains ∧ t.slabs = s.slabs ∧ t.mem = s.mem ∧ t.deskew = s.deskew ∧
      (u.val % 8 ∉ e.regs → t.fabric = s.fabric) ∧
      (u.val % 8 ∈ e.regs → (∀ y ∈ e.regs, y = u.val % 8) → t.fabric = s.fabric.set i { e with g := x }) ∧
      (u.val % 8 ∈ e.regs → (∃ y ∈ e.regs, y ≠ u.val % 8) → t.fabric = s.fabric.take i ++
        [{ e with regs := e.regs.filter (fun z => z != u.val % 8) }, { e with regs := [u.val % 8], g := x }] ++ s.fabric.drop (i + 1))) ∧
  (∀ (u : Fin 128) (k : Fin 17) (i : Nat) (g : Grain) (e : FabGrain) (s : State), s.fabric[i]? = some e →
    ∃ t, exec (.grainCrossing 2 u k (some i) g) s = .next t ∧ t.txGrains = s.txGrains ∧ t.slabs = s.slabs ∧ t.mem = s.mem ∧
      t.fabric = (if e.die = u.val % 4 then s.fabric.set i { e with g := if oddParity g then g else subGrain } else s.fabric)) ∧
  (∀ (u : Fin 128) (k : Fin 17) (i : Option Nat) (g : Grain) (s : State),
    ∃ t, exec (.grainCrossing 3 u k i g) s = .next t ∧ t.fabric = s.fabric ∧ t.txGrains = s.txGrains ∧ t.slabs = s.slabs ∧ t.mem = s.mem) ∧
  (∀ (u : Fin 128) (k : Fin 17) (i : Nat) (g : Grain) (s : State),
    ∃ t, exec (.grainCrossing 1 u k (some i) g) s = .next t ∧
      t.txGrains = s.txGrains.map (fun e => if e.1 = 155520 * u.val + i then (e.1, if oddParity g then g else subGrain) else e) ∧
      t.fabric = s.fabric ∧ t.slabs = s.slabs ∧ t.mem = s.mem) ∧
  (∀ (u : Fin 128) (k : Fin 17) (i : Option Nat) (g : Grain) (s : State), oddParity g = false →
    (∃ t, exec (.grainCrossing 0 u k i g) s = .next t ∧ t.bit (R.EVT_STICKY (evRegion (u.val % 8))) srcXING_PARITY = true ∧
      t.ctr ⟨R.RG_XING_PARITY_LO (u.val % 8), R.RG_XING_PARITY_HI (u.val % 8)⟩ =
        (s.ctr ⟨R.RG_XING_PARITY_LO (u.val % 8), R.RG_XING_PARITY_HI (u.val % 8)⟩ + 1) % 2 ^ 48) ∧
    (∃ t, exec (.grainCrossing 1 u k i g) s = .next t ∧ t.bit (R.EVT_STICKY (evCluster (luCluster u))) srcTX = true ∧
      t.ctr ⟨R.CL_XING_PARITY_LO (luCluster u), R.CL_XING_PARITY_HI (luCluster u)⟩ =
        (s.ctr ⟨R.CL_XING_PARITY_LO (luCluster u), R.CL_XING_PARITY_HI (luCluster u)⟩ + 1) % 2 ^ 48) ∧
    (∃ t, exec (.grainCrossing 2 u k i g) s = .next t ∧ t.bit (R.EVT_STICKY (evDie (u.val % 4))) srcSEAM_PARITY = true ∧
      t.ctr ⟨R.SEAM_PARITY_LO (u.val % 4) (k.val % 3), R.SEAM_PARITY_HI (u.val % 4) (k.val % 3)⟩ =
        (s.ctr ⟨R.SEAM_PARITY_LO (u.val % 4) (k.val % 3), R.SEAM_PARITY_HI (u.val % 4) (k.val % 3)⟩ + 1) % 2 ^ 48) ∧
    ∃ t, exec (.grainCrossing 3 u k i g) s = .next t ∧ t.bit (R.EVT_STICKY (evDie (u.val % 4))) srcTAP_PARITY = true ∧
      t.ctr ⟨R.DIE_TAP_PARITY_LO (u.val % 4), R.DIE_TAP_PARITY_HI (u.val % 4)⟩ =
        (s.ctr ⟨R.DIE_TAP_PARITY_LO (u.val % 4), R.DIE_TAP_PARITY_HI (u.val % 4)⟩ + 1) % 2 ^ 48)) ∧
  ((∀ (n : Fin 128) (p : Fin 155520) (raw map : Bool) (b : Byte) (k : Nat) (s : State), s.nLink n = some k → s.isTG n = false →
    p.val < frameBytes k → s.feedNames n = [n.val] → s.rxStopped n = false → s.regionStopped (luRegion n) = false →
    (∀ r ∈ s.served, ∀ u ∈ s.sourcesAt r n p, (s.equaliser (s.srcAu3 u) u).isSome = false) →
    ∃ t, exec (.grainDispatch n p raw map b []) s = .next t ∧
      t.fabric = s.fabric ++ [0, 1, 2, 3].filterMap (fun d =>
        let regs := [2 * d, 2 * d + 1].filter (fun x => s.served.any (fun r => luRegion (taLink r.eg) == x &&
          !((s.sourcesAt r n p).filter (fun u => if taKind u = 0 then raw else !raw)).isEmpty))
        if regs.isEmpty || !s.seamUp (luDie n) d then none
        else some ⟨d, n, p, s.up, none, raw, !raw, false, regs, mkGrain (!raw && s.markAt n p) b⟩) ∧
      (map = true → t.bit (R.EVT_STICKY (evDie (luDie n))) srcMAP = true) ∧ t.slabs = s.slabs ∧ t.mem = s.mem) ∧
  (∀ (d : Fin 4) (k : Fin 3) (grains : List Nat) (s : State), s.flag (R.SEAM_STATUS d k) F.SEAM_STATUS_UP = true → Settled s →
    exec (.seamBlockReceive d k true true grains none) s = .next s) ∧
  (∀ (d : Fin 4) (k : Fin 3) (ok2 : Bool) (grains : List Nat) (s : State), s.flag (R.SEAM_STATUS d k) F.SEAM_STATUS_UP = true → Settled s →
    ∃ t, exec (.seamBlockReceive d k false ok2 grains none) s = .next t ∧ t.bit (R.EVT_STICKY (evDie d)) srcSEAM_REPLAY = true ∧
      t.ctr ⟨R.SEAM_REPLAY_LO d k, R.SEAM_REPLAY_HI d k⟩ = (s.ctr ⟨R.SEAM_REPLAY_LO d k, R.SEAM_REPLAY_HI d k⟩ + 1) % 2 ^ 48 ∧
      t.ctr ⟨R.SEAM_LOST_LO d k, R.SEAM_LOST_HI d k⟩ =
        (s.ctr ⟨R.SEAM_LOST_LO d k, R.SEAM_LOST_HI d k⟩ + (if ok2 then 0 else 1)) % 2 ^ 48 ∧
      (ok2 = true → t.fabric = s.fabric) ∧
      (ok2 = false → ∀ j e, s.fabric[j]? = some e → j ∈ grains → e.die = d.val → luDie e.link = (d.val + 1 + k.val) % 4 → e ∉ s.fabric.eraseIdx j →
        e ∉ t.fabric) ∧ t.slabs = s.slabs) ∧
  (∀ (d : Fin 4) (k : Fin 3) (grains : List Nat) (x : Fin 66) (s : State), s.flag (R.SEAM_STATUS d k) F.SEAM_STATUS_UP = true →
    ∃ t, exec (.seamBlockReceive d k true true grains (some x)) s = .next t ∧ t.bit (R.EVT_STICKY (evDie d)) srcSEAM_LANE = true ∧
      ReactOnly s t))

/-- R60, R61, R65: a grain for a cell of an open write window is written to that cell alone, for its egress frame; the first grain of a cell
stays; a grain for a frame already read counts as late. The grain leaves the die common once its last region has it. A grain of Pour is
checked where it crosses into the region (R14, R303). R70: on the way the word's check corrects one flipped bit and substitutes every lane
of a word with more, counting each: that two flips or more are uncorrectable is the model's choice (notes/assumptions/62.md). An entry
beyond the rate of its link takes none (R95), and a cell that Pour holds takes Pour's grain alone (R303). R62, R63, R64, R80: the read side
takes each word once in its frame; a position outside every connection is sent as zeros, one whose cell is filled gives its grain, and one
whose cell is not gives the substitute grain and is late; the stored bits stay as they are (R70), and words beyond the positions of the link
are never read. A source in a region under re-bench gives a TG output void grains (R25). A bridge gives the same word to a protection link
too (R180). -/
def Obligations.CellsAreWrittenAndRead : Prop :=
  ((∀ (g : Fin 8) (l : Fin 128) (p : Fin 155520) (x : CellFaults) (i : Nat) (f : FabGrain) (s : State), s.regionStopped g = false →
    s.fabric.findIdx? (fun f => f.die == g.val / 2 && f.link == l.val && f.pos == p.val && f.regs.contains g.val) = some i →
    s.fabric[i]? = some f →
    ∃ t, exec (.cellWrite g l p false x) s = .next t ∧
      t.fabric = (if f.regs.filter (fun x => x != g.val) = [] then s.fabric.eraseIdx i
        else s.fabric.set i { f with regs := f.regs.filter (fun x => x != g.val) }) ∧
      (x.gather = true → t.bit (R.EVT_STICKY (evRegion g)) srcGATHER = true) ∧
      t.txGrains = s.txGrains ∧ t.mem = s.mem ∧ t.actMap = s.actMap) ∧
  (∀ (g : Fin 8) (l : Fin 128) (p : Fin 155520) (pour : Bool) (x : CellFaults) (s : State),
    exec (.cellWrite g l p pour x) s = exec (.cellWrite g l p pour { x with ups := [] }) (s.upset g x.ups)) ∧
  (∀ (g : Fin 8) (l : Fin 128) (p : Fin 155520) (x : CellFaults) (i : Nat) (f : FabGrain) (r : Rec) (k : Nat) (s : State),
    s.fabric.findIdx? (fun f => f.die == g.val / 2 && f.link == l.val && f.pos == p.val && f.regs.contains g.val) = some i →
    s.fabric[i]? = some f → s.regionStopped g = false → x.ups = [] → (∀ j : Fin 8, s.txnState j ≠ txSEALED) →
    s.entries = [r] → s.entry r.key = some r → r.typ = tyConnect → r.hasSnc = false → s.selected r = r.src → luRegion (taLink r.eg) = g.val →
    taLink r.src = l.val → s.nLink l = some k → (if taKind r.src = 0 then f.whole else f.trib) = true →
    f.eq = (s.equaliser (s.srcAu3 r.src) r.src).isSome →
    ∃ t, exec (.cellWrite g l p false x) s = .next t ∧ t.txGrains = s.txGrains ∧ t.mem = s.mem ∧
      (∀ q ef m, s.cellAt r r.src k f = some (q, ef, m) → s.pourHolds (taLink r.eg) q ef = false →
        t.slabs = (s.cellPut (taLink r.eg) q ef (s.oppMark r r.src q m ef f)).slabs) ∧
      (∀ q ef m, s.cellAt r r.src k f = some (q, ef, m) → s.pourHolds (taLink r.eg) q ef = true → t.slabs = s.slabs) ∧
      (s.cellAt r r.src k f = none → t.slabs = s.slabs)) ∧
  (∀ (r : Rec) (src : TA) (k m q : Nat) (f : FabGrain) (s : State), s.outN (taLink r.eg) = some m → s.nLink (taLink r.eg) = some m →
    trMap (s.srcAu3 src) src k r.egAu3 r.eg m r.nc f.pos = some q →
    s.cellAt r src k f = (if taInRate r.eg r.nc m then some (q, egressFrame f.dep f.leave f.pos k q m, m) else none)) ∧
  (∀ (g : Fin 8) (l : Fin 128) (p : Fin 155520) (x : CellFaults) (s : State), s.regionStopped g = false → luRegion l = g.val →
    x.ups = [] → x.gather = false → ∀ gr, (s.pourGrain l p x.late x.errs).2 = some gr →
    let u := (s.pourGrain l p x.late x.errs).1
    let a := (if x.sram = .uncorrectable then subGrain else gr) ^^^ x.flip
    ∃ t, exec (.cellWrite g l p true x) s = .next t ∧ t.slabs = (u.cellPut l p s.up (if oddParity a then a else subGrain)).slabs ∧
      t.fabric = u.fabric ∧ t.txGrains = u.txGrains ∧ t.mem = u.mem ∧
      (oddParity a = false → t.bit (R.EVT_STICKY (evRegion g)) srcXING_PARITY = true)) ∧
  (∀ (n q ef : Nat) (gr : Grain) (s : State), s.slabDepth (luRegion n) ≠ 0 → s.up ≤ ef → ef < s.up + s.slabDepth (luRegion n) →
    let g := luRegion n
    let b := cellBank (s.slabOf g ef) (n % 16) q
    let k := slabKey g (s.pbank g b) (cellWord q)
    let x := s.slab k
    let t := s.cellPut n q ef gr
    (x.ef = ef → x.gone = false → cellLane q ∈ x.filled → t = s) ∧
    (x.ef = ef → x.gone = true → t.slabs = s.slabs ∧ t.bit (R.EVT_STICKY (evRegion g)) srcSLAB_LATE = true) ∧
    (x.ef ≠ ef ∨ (x.gone = false ∧ cellLane q ∉ x.filled) →
      slabLane (t.slab k) (cellLane q) = gr ∧
      (∀ e < 8, e ≠ cellLane q → slabLane (t.slab k) e = (if flipCount x.flip ≤ 1 then slabLane x e else subGrain)) ∧
      (t.slab k).ef = ef ∧ (t.slab k).gone = false ∧ (t.slab k).filled = (if x.ef = ef then x.filled else []) ++ [cellLane q] ∧
      (∀ k', k' ≠ k → t.slab k' = s.slab k') ∧ t.fabric = s.fabric ∧ t.mem = s.mem ∧
      (flipCount x.flip = 1 → t.bit (R.EVT_STICKY (evRegion g)) srcSLAB_ECC = true ∧
        t.ctr ⟨R.RG_SLAB_CE_LO g, R.RG_SLAB_CE_HI g⟩ = (s.ctr ⟨R.RG_SLAB_CE_LO g, R.RG_SLAB_CE_HI g⟩ + 1) % 2 ^ 48) ∧
      (2 ≤ flipCount x.flip → t.bit (R.EVT_STICKY (evRegion g)) srcSLAB_ECC = true ∧
        t.ctr ⟨R.RG_SLAB_UE_LO g, R.RG_SLAB_UE_HI g⟩ = (s.ctr ⟨R.RG_SLAB_UE_LO g, R.RG_SLAB_UE_HI g⟩ + 1) % 2 ^ 48))) ∧
  (∀ (n q ef : Nat) (gr : Grain) (s : State), s.slabDepth (luRegion n) ≠ 0 → ef < s.up →
    let g := luRegion n
    let t := s.cellPut n q ef gr
    t.slabs = s.slabs ∧ t.bit (R.EVT_STICKY (evRegion g)) srcSLAB_LATE = true ∧
      t.ctr ⟨R.RG_SLAB_LATE_LO g, R.RG_SLAB_LATE_HI g⟩ = (s.ctr ⟨R.RG_SLAB_LATE_LO g, R.RG_SLAB_LATE_HI g⟩ + 1) % 2 ^ 48)) ∧
  ((∀ (n : Fin 128) (w : Fin 19440) (ups : List (Nat × Nat × Nat)) (s : State),
    exec (.cellRead n w ups) s = exec (.cellRead n w []) (s.upset (luRegion n) ups)) ∧
  (∀ (n : Fin 128) (w : Fin 19440) (s : State), s.slabDepth (luRegion n) ≠ 0 → s.bridgedFrom n = some n.val →
    s.regionStopped (luRegion n) = false → 8 * w.val < frameBytes ((s.outN n).getD 0) →
    let k := slabKey (luRegion n) (s.pbank (luRegion n) (cellBank (s.slabRead (luRegion n)) (n % 16) (8 * w))) (cellWord (8 * w))
    ∃ t, exec (.cellRead n w []) s = .next t ∧ (t.slab k).gone = true ∧ (t.slab k).ef = s.up ∧ (t.slab k).data = (s.slab k).data ∧
      (t.slab k).flip = (s.slab k).flip ∧ (∀ k', k' ≠ k → t.slab k' = s.slab k') ∧
      (flipCount (s.slab k).flip = 0 → ∀ m : Fin 128, luRegion m = luRegion n → s.bridgedFrom m = some n.val →
        ∀ e < 8, 8 * w.val + e < frameBytes ((s.outN n).getD 0) →
        ∀ gr, (s.readOut n m (8 * w.val + e) (s.slab k)).1 = some gr →
          look (fun _ => (0 : Grain)) t.txGrains (155520 * m.val + (8 * w.val + e)) = gr) ∧
      t.fabric = s.fabric ∧ t.mem = s.mem) ∧
  (∀ (n : Fin 128) (w : Fin 19440) (s : State), Settled s → frameBytes ((s.outN n).getD 0) ≤ 8 * w.val → exec (.cellRead n w []) s = .next s) ∧
  (∀ (n m q : Nat) (x : SlabWord) (s : State), s.outForced m = false → s.playAt [poPLAYING, poENDING] n q = none →
    (s.entryAt n q = none → s.readOut n m q x = (some (mkGrain false 0), false)) ∧
    (∀ r, s.entryAt n q = some r → s.gatherOn m r = .follow → x.ef = s.up → cellLane q ∈ x.filled →
      s.readOut n m q x = (some (slabLane x (cellLane q)), false)) ∧
    (∀ r, s.entryAt n q = some r → s.gatherOn m r = .follow → x.ef ≠ s.up ∨ cellLane q ∉ x.filled → taKind r.eg ≠ 0 →
      slotAt r.egAu3 r.eg r.nc ((s.outN n).getD 0) q (s.fn % 4) ≠ some .ptr →
      slotAt r.egAu3 r.eg r.nc ((s.outN n).getD 0) q (s.fn % 4) ≠ some .fix →
      s.readOut n m q x = (some subGrain, true)) ∧
    (∀ r, s.entryAt n q = some r → s.gatherOn m r = .pathAis → s.readOut n m q x =
      (some (if s.isTG n = true ∧ r.typ = tyConnect ∧ s.srcBenched (s.selected r) = true then voidGrain else subGrain), false)) ∧
    (∀ r, s.entryAt n q = some r → s.gatherOn m r = .unequipped → s.readOut n m q x = (some (mkGrain false 0), false))))

/-- R70: a word read with no flipped bit is as written and counts nothing; with one it is corrected, and with more every lane reads as the
substitute grain; the region's correctable or uncorrectable counter and SLAB_ECC count it. R71, R73: a spare bank is assigned by the host
where no other spare has the bank and it lies in the slabs, and SPARE_REJ is set otherwise; it replaces its bank from the next start of the
bank's write window. Diagnostic reads give the word as stored. What an armed injection does with a bit beyond its range, and a spare that
changes its bank, are the model's choices (notes/assumptions/62.md, 85.md). -/
def Obligations.SlabsAreCheckedAndSpared : Prop :=
  (∀ (g b w : Nat) (s : State),
    let x := s.slab (slabKey g (s.pbank g b) w)
    (flipCount x.flip = 0 → s.slabCheck g b w = (s, x)) ∧
    (flipCount x.flip = 1 →
      (s.slabCheck g b w).2 = { x with flip := 0 } ∧ (s.slabCheck g b w).1.bit (R.EVT_STICKY (evRegion g)) srcSLAB_ECC = true ∧
      (s.slabCheck g b w).1.ctr ⟨R.RG_SLAB_CE_LO g, R.RG_SLAB_CE_HI g⟩ = (s.ctr ⟨R.RG_SLAB_CE_LO g, R.RG_SLAB_CE_HI g⟩ + 1) % 2 ^ 48 ∧
      (s.slabCheck g b w).1.slabs = s.slabs) ∧
    (2 ≤ flipCount x.flip →
      (s.slabCheck g b w).2.flip = 0 ∧ (∀ e < 8, slabLane (s.slabCheck g b w).2 e = subGrain) ∧
      (s.slabCheck g b w).1.bit (R.EVT_STICKY (evRegion g)) srcSLAB_ECC = true ∧
      (s.slabCheck g b w).1.ctr ⟨R.RG_SLAB_UE_LO g, R.RG_SLAB_UE_HI g⟩ = (s.ctr ⟨R.RG_SLAB_UE_LO g, R.RG_SLAB_UE_HI g⟩ + 1) % 2 ^ 48 ∧
      (s.slabCheck g b w).1.slabs = s.slabs)) ∧
  ((∀ (p : Port) (g : Fin 8) (k : Fin 2) (v : Word) (s : State), s.reaches p 0 = true → fget v F.RG_SLAB_SPARE_VALID = 1 →
    fget v F.RG_SLAB_SPARE_LOGICAL < 32 * s.slabDepth g →
    (s.flag (R.RG_SLAB_SPARE g (1 - k.val)) F.RG_SLAB_SPARE_VALID = true →
      s.get (R.RG_SLAB_SPARE g (1 - k.val)) F.RG_SLAB_SPARE_LOGICAL ≠ fget v F.RG_SLAB_SPARE_LOGICAL) →
    ∃ t, exec (.slabSpareWrite p g k v) s = .next t ∧ t.flag (R.RG_SLAB_SPARE g k) F.RG_SLAB_SPARE_VALID = true ∧
      t.flag (R.RG_SLAB_SPARE g k) F.RG_SLAB_SPARE_ORIGIN = false ∧
      t.get (R.RG_SLAB_SPARE g k) F.RG_SLAB_SPARE_LOGICAL = fget v F.RG_SLAB_SPARE_LOGICAL ∧
      RegsOnly (fun r => r == R.RG_SLAB_SPARE g k || r == R.RG_SLAB_STATUS g) { s with spareLast := t.spareLast } t) ∧
  (∀ (p : Port) (g : Fin 8) (k : Fin 2) (v : Word) (s : State), s.reaches p 0 = true → fget v F.RG_SLAB_SPARE_VALID = 1 →
    32 * s.slabDepth g ≤ fget v F.RG_SLAB_SPARE_LOGICAL ∨ (s.flag (R.RG_SLAB_SPARE g (1 - k.val)) F.RG_SLAB_SPARE_VALID = true ∧
      s.get (R.RG_SLAB_SPARE g (1 - k.val)) F.RG_SLAB_SPARE_LOGICAL = fget v F.RG_SLAB_SPARE_LOGICAL) →
    ∃ t, exec (.slabSpareWrite p g k v) s = .next t ∧ t.flag (R.RG_SLAB_STATUS g) F.RG_SLAB_STATUS_SPARE_REJ = true ∧
      RegsOnly (fun r => r == R.RG_SLAB_STATUS g) s t) ∧
  (∀ (g : Fin 8) (k : Fin 2) (s : State), s.flag (R.RG_SLAB_SPARE g k) F.RG_SLAB_SPARE_VALID = true →
    (s.flag (R.RG_SLAB_SPARE g (1 - k.val)) F.RG_SLAB_SPARE_VALID = true →
      s.get (R.RG_SLAB_SPARE g (1 - k.val)) F.RG_SLAB_SPARE_LOGICAL ≠ s.get (R.RG_SLAB_SPARE g k) F.RG_SLAB_SPARE_LOGICAL) →
    s.get (R.RG_SLAB_SPARE g k) F.RG_SLAB_SPARE_LOGICAL + 1 ≠ s.spareUsed g k → s.slabDepth g ≠ 0 → s.ns = 0 →
    s.slabRead g = (s.get (R.RG_SLAB_SPARE g k) F.RG_SLAB_SPARE_LOGICAL / 32 + 1) % s.slabDepth g →
    ∃ t, exec (.slabSpareApply g k) s = .next t ∧ t.spareUsed g k = s.get (R.RG_SLAB_SPARE g k) F.RG_SLAB_SPARE_LOGICAL + 1 ∧
      t.spareUsed g (1 - k.val) ≠ s.get (R.RG_SLAB_SPARE g k) F.RG_SLAB_SPARE_LOGICAL + 1 ∧ t = { s with spareOn := t.spareOn }) ∧
  (∀ (p : Port) (g : Fin 8) (b : Fin 128) (w : Fin 16384) (s : State), s.reaches p 0 = true →
    s.flag (R.RG_SLAB_DIAG_STATUS g) F.RG_SLAB_DIAG_STATUS_BUSY = false → w.val ≤ 9719 → b.val < 32 * s.slabDepth g →
    ∃ t, exec (.slabDiagRead p g b w) s = .next t ∧ t.flag (R.RG_SLAB_DIAG_STATUS g) F.RG_SLAB_DIAG_STATUS_BUSY = true ∧
      look (fun _ => 0) t.slabDiag g.val = 2 ^ 24 * b.val + 2 ^ 10 * w.val + 1 ∧
      RegsOnly (fun r => r == R.RG_SLAB_DIAG_ADDR g || r == R.RG_SLAB_DIAG_STATUS g) { s with slabDiag := t.slabDiag } t) ∧
  (∀ (p : Port) (g : Fin 8) (b : Fin 128) (w : Fin 16384) (s : State), s.reaches p 0 = true →
    s.flag (R.RG_SLAB_DIAG_STATUS g) F.RG_SLAB_DIAG_STATUS_BUSY = false → 9719 < w.val ∨ 32 * s.slabDepth g ≤ b.val →
    ∃ t, exec (.slabDiagRead p g b w) s = .next t ∧ t.flag (R.RG_SLAB_DIAG_STATUS g) F.RG_SLAB_DIAG_STATUS_ERR = true ∧
      t.flag (R.RG_SLAB_DIAG_STATUS g) F.RG_SLAB_DIAG_STATUS_DONE = true ∧
      RegsOnly (fun r => r == R.RG_SLAB_DIAG_ADDR g || r == R.RG_SLAB_DIAG_STATUS g) s t) ∧
  (∀ (g : Fin 8) (b : Fin 128) (w : Fin 16384) (s : State), look (fun _ => 0) s.slabDiag g.val = 2 ^ 24 * b.val + 2 ^ 10 * w.val + 1 →
    ∃ t, exec (.slabDiagDone g) s = .next t ∧ t.flag (R.RG_SLAB_DIAG_STATUS g) F.RG_SLAB_DIAG_STATUS_BUSY = false ∧
      t.flag (R.RG_SLAB_DIAG_STATUS g) F.RG_SLAB_DIAG_STATUS_DONE = true ∧
      (let y := (s.slab (slabKey g (s.pbank g b) w)).stored
       t.rd (R.RG_SLAB_DIAG_DATA0 g) = y.setWidth 32 ∧ t.rd (R.RG_SLAB_DIAG_DATA1 g) = (y >>> 32).setWidth 32 ∧
       t.rd (R.RG_SLAB_DIAG_DATA2 g) = (y >>> 64).setWidth 32) ∧
      look (fun _ => 0) t.slabDiag g.val = 0 ∧ t.slabs = s.slabs) ∧
  (∀ (p : Port) (g : Fin 8) (a b : Fin 128) (s : State), s.reaches p 0 = true →
    ∃ t, exec (.slabEccInjArm p g a b) s = .next t ∧ t.flag (R.RG_SLAB_ECC_INJ g) F.RG_SLAB_ECC_INJ_ARM = true ∧
      t.get (R.RG_SLAB_ECC_INJ g) F.RG_SLAB_ECC_INJ_BIT_A = a.val ∧ t.get (R.RG_SLAB_ECC_INJ g) F.RG_SLAB_ECC_INJ_BIT_B = b.val ∧
      RegsOnly (fun r => r == R.RG_SLAB_ECC_INJ g) s t))

/-- CELL_WRITE and CELL_READ complete. R60, R61, R65: where a grain waits at the write side of a region that is not stopped, for the cell of an
open write window whose first grain it is, the command answers the state in which the cell holds the grain for its egress frame, no other
word of the store differs, and the grain has left for that region. So does a grain that Pour gives an egress position (R303). R62, R63:
where a region runs, the command that reads a word of a link's cells answers the state in which the word has been read for the present
egress frame. -/
def Obligations.CellCommandsComplete : Prop :=
  (∀ (g : Fin 8) (l : Fin 128) (p : Fin 155520) (x : CellFaults) (i : Nat) (f : FabGrain) (r : Rec) (k q ef m : Nat) (s : State),
    s.fabric.findIdx? (fun f => f.die == g.val / 2 && f.link == l.val && f.pos == p.val && f.regs.contains g.val) = some i →
    s.fabric[i]? = some f → s.regionStopped g = false → x.ups = [] → (∀ j : Fin 8, s.txnState j ≠ txSEALED) →
    s.entries = [r] → s.entry r.key = some r → r.typ = tyConnect → r.hasSnc = false → s.selected r = r.src → luRegion (taLink r.eg) = g.val →
    taLink r.src = l.val → s.nLink l = some k → (if taKind r.src = 0 then f.whole else f.trib) = true →
    f.eq = (s.equaliser (s.srcAu3 r.src) r.src).isSome → s.cellAt r r.src k f = some (q, ef, m) → s.pourHolds (taLink r.eg) q ef = false →
    s.slabDepth g ≠ 0 → s.up ≤ ef → ef < s.up + s.slabDepth g →
    let key := slabKey g (s.pbank g (cellBank (s.slabOf g ef) (taLink r.eg % 16) q)) (cellWord q)
    (s.slab key).ef ≠ ef ∨ ((s.slab key).gone = false ∧ cellLane q ∉ (s.slab key).filled) →
    ∃ t, exec (.cellWrite g l p false x) s = .next t ∧ slabLane (t.slab key) (cellLane q) = s.oppMark r r.src q m ef f ∧
      (t.slab key).ef = ef ∧ cellLane q ∈ (t.slab key).filled ∧ (t.slab key).gone = false ∧ (∀ k', k' ≠ key → t.slab k' = s.slab k') ∧
      t.fabric = (if f.regs.filter (fun x => x != g.val) = [] then s.fabric.eraseIdx i
        else s.fabric.set i { f with regs := f.regs.filter (fun x => x != g.val) }) ∧ t.txGrains = s.txGrains ∧ t.mem = s.mem) ∧
  (∀ (g : Fin 8) (l : Fin 128) (p : Fin 155520) (x : CellFaults) (gr : Grain) (s : State), s.regionStopped g = false → luRegion l = g.val →
    x.ups = [] → x.gather = false → x.sram = .ok → x.flip = 0 → oddParity gr = true → (s.pourGrain l p x.late x.errs).2 = some gr →
    let u := (s.pourGrain l p x.late x.errs).1
    u.slabDepth g ≠ 0 →
    let key := slabKey g (u.pbank g (cellBank (u.slabOf g u.up) (l.val % 16) p)) (cellWord p)
    (u.slab key).ef ≠ u.up ∨ ((u.slab key).gone = false ∧ cellLane p ∉ (u.slab key).filled) →
    ∃ t, exec (.cellWrite g l p true x) s = .next t ∧ slabLane (t.slab key) (cellLane p) = gr ∧ (t.slab key).ef = u.up ∧
      cellLane p ∈ (t.slab key).filled ∧ (∀ k', k' ≠ key → t.slab k' = u.slab k') ∧ t.fabric = u.fabric ∧ t.txGrains = u.txGrains ∧
      t.mem = u.mem) ∧
  (∀ (n : Fin 128) (w : Fin 19440) (ups : List (Nat × Nat × Nat)) (s : State), s.slabDepth (luRegion n) ≠ 0 → s.bridgedFrom n = some n.val →
    s.regionStopped (luRegion n) = false → 8 * w.val < frameBytes ((s.outN n).getD 0) →
    let k := slabKey (luRegion n) (s.pbank (luRegion n) (cellBank (s.slabRead (luRegion n)) (n % 16) (8 * w))) (cellWord (8 * w))
    ∃ t, exec (.cellRead n w ups) s = .next t ∧ (t.slab k).gone = true ∧ (t.slab k).ef = s.up ∧ (t.slab k).data = (s.slab k).data ∧
      (∀ k', k' ≠ k → t.slab k' = (s.upset (luRegion n) ups).slab k') ∧ t.fabric = s.fabric ∧ t.mem = s.mem)

-- Line links (05_line_framing.md)

/-- R103, Table 05-2: what brings a framer to SEARCH sets OOF, closes every candidate and leaves IF: a RESYNC, the loss of the signal, the end
of a rate's try, a restart of the rate search and a change of the transmit rate. The first trial rate of a restart is the model's choice
(notes/assumptions/32.md). -/
def Obligations.FramerGoesToSearch : Prop :=
  (∀ (p : Port) (n : Fin 128) (s : State), s.reaches p 0 = true → s.persOf n ≠ 0 →
    ∃ t, exec (.framerResync p n) s = .next t ∧ (t.secSt n).inFrame = false ∧ (t.secSt n).cands = [] ∧ t.secBit n sOOF = true ∧
      t.mem = s.mem ∧ t.pers = s.pers ∧ ∀ m, m ≠ n.val → t.secSt m = s.secSt m) ∧
  (∀ (n : Fin 128) (low : Bool) (quiet : Nat) (s : State), s.persOf n ≠ 0 → s.secBit n sLOS = false → s.rxStopped n = false →
    low = true ∨ s.losSet n ≤ quiet →
    ∃ t, exec (.losDeclare n low quiet) s = .next t ∧ t.secBit n sLOS = true ∧ (t.secSt n).inFrame = false ∧ (t.secSt n).cands = [] ∧
      t.secBit n sOOF = true ∧ t.pers = s.pers ∧ ∀ m, m ≠ n.val → t.secSt m = s.secSt m) ∧
  (∀ (n : Fin 128) (lock : Option Nat) (s : State), s.searching n = true → s.rxStopped n = false → s.trialOver n lock = true →
    ∃ t, exec (.rateTryTimeout n lock) s = .next t ∧ (t.secSt n).trial = ((s.secSt n).trial + 1) % 4 ∧ (t.secSt n).inFrame = false ∧
      t.secBit n sOOF = true ∧ t.mem = s.mem ∧ ∀ m, m ≠ n.val → t.secSt m = s.secSt m) ∧
  (∀ (n : Fin 128) (s : State), s.searches n = true → s.timerDone (rateHoldKey n) = true → s.rxStopped n = false →
    ∃ t, exec (.rateSearchAutoRestart n) s = .next t ∧ t.searching n = true ∧ (t.secSt n).trial = 0 ∧ (t.secSt n).inFrame = false ∧
      t.secBit n sOOF = true ∧ t.get (R.LU_SEC_RATE n) F.LU_SEC_RATE_FOUND = s.get (R.LU_SEC_RATE n) F.LU_SEC_RATE_FOUND) ∧
  (∀ (p : Port) (n : Fin 128) (s : State), s.reaches p 0 = true → s.searches n = true →
    ∃ t, exec (.rateSearchRestart p n) s = .next t ∧ t.searching n = true ∧ (t.secSt n).trial = 0 ∧ (t.secSt n).inFrame = false ∧
      t.secBit n sOOF = true ∧ t.get (R.LU_SEC_RATE n) F.LU_SEC_RATE_FOUND = s.get (R.LU_SEC_RATE n) F.LU_SEC_RATE_FOUND) ∧
  (∀ (n : Fin 128) (s : State), s.searches n = true → s.wantTx n ≠ (s.secSt n).txRate → s.ns = 0 → (s.secSt n).rateUp < s.up →
    ∃ t, exec (.txRateChange n) s = .next t ∧ (t.secSt n).txRate = s.wantTx n ∧
      (s.flag (R.LU_SEC_RATE n) F.LU_SEC_RATE_FOUND_VALID = true → (t.secSt n).inFrame = false ∧ t.secBit n sOOF = true) ∧
      t.mem = s.mem ∧ ∀ m, m ≠ n.val → t.secSt m = s.secSt m)

/-- R103: candidates. A sighting at a new position opens one in a free slot; at its confirmation time it is closed where the pattern is absent,
or, where that is asked, its B1 (on a TG link its header CRC, R214) does not agree, confirmed once more, or, with its last confirmation,
brings the framer to IF at its position and clears OOF. -/
def Obligations.CandidatesAreConfirmed : Prop :=
  (∀ (n : Fin 128) (pos : Nat) (s : State), s.persOf n ≠ 0 → (s.secSt n).inFrame = false → s.secBit n sLOS = false → s.rxStopped n = false →
    (s.secSt n).cands.all (fun c => c.2.1 != pos) = true → (∃ k ∈ [0, 1, 2, 3], (s.secSt n).cands.all (fun c => c.1 != k) = true) →
    ∃ t k, exec (.framingPatternSighted n pos) s = .next t ∧ k < 4 ∧ (t.secSt n).cands = (s.secSt n).cands ++ [(k, pos, 0)] ∧
      (s.secSt n).cands.all (fun c => c.1 != k) = true ∧
      RegsOnly (fun r => r == R.LU_SEC_FRAME n) { s with sec := t.sec } t) ∧
  (∀ (n : Fin 128) (pos : Nat) (s : State), (∀ k ∈ [0, 1, 2, 3], (s.secSt n).cands.any (fun c => c.1 == k) = true) →
    ∃ t, exec (.framingPatternSighted n pos) s = .next t ∧ (t.secSt n).cands = (s.secSt n).cands) ∧
  (∀ (n : Fin 128) (k : Fin 4) (b1 : Bool) (pos conf : Nat) (s : State), (s.secSt n).cands.find? (fun c => c.1 == k.val) = some (k.val, pos, conf) →
    s.secBit n sLOS = false → (s.secSt n).inFrame = false → s.rxStopped n = false →
    ∃ t, exec (.candidateConfirmTime n k false b1) s = .next t ∧ (t.secSt n).cands = (s.secSt n).cands.filter (fun e => e.1 != k.val) ∧
      RegsOnly (fun r => r == R.LU_SEC_FRAME n) { s with sec := t.sec } t) ∧
  (∀ (n : Fin 128) (k : Fin 4) (pos conf : Nat) (s : State), (s.secSt n).cands.find? (fun c => c.1 == k.val) = some (k.val, pos, conf) →
    s.secBit n sLOS = false → (s.secSt n).inFrame = false → conf + 1 < 2 + s.get (R.LU_SEC_CTRL n) F.LU_SEC_CTRL_CONFIRM →
    s.rxStopped n = false →
    ∃ t, exec (.candidateConfirmTime n k true true) s = .next t ∧ (k.val, pos, conf + 1) ∈ (t.secSt n).cands ∧
      (t.secSt n).inFrame = false ∧ t = { s with sec := t.sec }) ∧
  (∀ (n : Fin 128) (k : Fin 4) (pos conf : Nat) (s : State), (s.secSt n).cands.find? (fun c => c.1 == k.val) = some (k.val, pos, conf) →
    s.secBit n sLOS = false → (s.secSt n).inFrame = false → s.rxStopped n = false →
    2 + s.get (R.LU_SEC_CTRL n) F.LU_SEC_CTRL_CONFIRM ≤ conf + 1 →
    ∃ t, exec (.candidateConfirmTime n k true true) s = .next t ∧ (t.secSt n).inFrame = true ∧ (t.secSt n).align = pos ∧
      (t.secSt n).cands = [] ∧ t.secBit n sOOF = false) ∧
  (∀ (n : Fin 128) (k : Fin 4) (pos conf : Nat) (s : State), (s.secSt n).cands.find? (fun c => c.1 == k.val) = some (k.val, pos, conf) →
    s.secBit n sLOS = false → (s.secSt n).inFrame = false → s.rxStopped n = false →
    s.isTG n = true ∨ s.flag (R.LU_SEC_CTRL n) F.LU_SEC_CTRL_B1_QUALIFY = true →
    ∃ t, exec (.candidateConfirmTime n k true false) s = .next t ∧ (t.secSt n).cands = (s.secSt n).cands.filter (fun e => e.1 != k.val) ∧
      RegsOnly (fun r => r == R.LU_SEC_FRAME n) { s with sec := t.sec } t)

/-- R118, R113 and R116: defects of the section layer are declared and cleared at the ends of their times. R119: the end of an SF or SD block
sets its defect where the BER of its exponent is reached, clears it where the BER of one exponent more is not reached either, and starts a
new block, which is all it does under LOS, LOF or MS-AIS (R118); a change of an exponent starts its block again. R120: consequent actions
follow their causes. R114: another TRACE_FMT discards the accepted trace. -/
def Obligations.SectionDefectsAndErrorRates : Prop :=
  ((∀ (n : Fin 128) (clean : Nat) (s : State), s.persOf n ≠ 0 → s.secBit n sLOS = true → s.rxStopped n = false → 125000 ≤ clean →
    ∃ t, exec (.losClear n clean) s = .next t ∧ t.secBit n sLOS = false ∧ t.secBit n sOOF = s.secBit n sOOF ∧
      t.secBit n sLOF = s.secBit n sLOF ∧ (∀ m, m ≠ n.val → t.secSt m = s.secSt m)) ∧
  (∀ (n : Fin 128) (s : State), s.secBit n sOOF = true → s.secBit n sLOF = false → s.timerDone (lofKey n 0) = true →
    ∃ t, exec (.lofDeclare n) s = .next t ∧ t.secBit n sLOF = true ∧
      (∀ i ∈ [sRS_TIM, sMS_AIS, sMS_RDI, sMS_EXC, sMS_DEG], t.secBit n i = false) ∧ t.secBit n sOOF = true ∧ t.sec = s.sec) ∧
  (∀ (n : Fin 128) (s : State), s.secBit n sLOF = true → (s.secSt n).inFrame = true → s.secBit n sLOS = false →
    s.timerDone (lofKey n 1) = true → s.rxStopped n = false →
    ∃ t, exec (.lofClear n) s = .next t ∧ t.secBit n sLOF = false ∧ (t.secSt n).inFrame = true ∧ (t.secSt n).k1 = (0, 0)) ∧
  (∀ (n : Fin 128) (s : State), s.isLine n = true → 256 ≤ (s.secSt n).s1Wait →
    ∃ t, exec (.s1UnstableDeclare n) s = .next t ∧ t.secBit n sS1_UNSTABLE = true ∧ t.sec = s.sec ∧ t.mem = s.mem) ∧
  (∀ (n : Fin 128) (s : State), s.secBit n sBEACON_VALID = true → s.timerDone (beaconKey n) = true → s.rxStopped n = false →
    ∃ t, exec (.beaconValidTimeout n) s = .next t ∧ t.secBit n sBEACON_VALID = false ∧ t.sec = s.sec ∧ t.mem = s.mem)) ∧
  ((∀ (n : Fin 128) (k : Nat) (s : State), s.rxN n = some k → (∀ i ∈ [sLOS, sLOF, sMS_AIS], s.secBit n i = false) → s.rxStopped n = false →
    berFrames (s.get (R.LU_SEC_BER n) F.LU_SEC_BER_SF_EXP) ≤ (s.secSt n).sf.1 →
    ∃ t, exec (.berBlockEnd n false) s = .next t ∧ (t.secSt n).sf = (0, 0) ∧ (t.secSt n).sd = (s.secSt n).sd ∧
      (let e := s.get (R.LU_SEC_BER n) F.LU_SEC_BER_SF_EXP
       (berReached k (berFrames e) (s.secSt n).sf.2 e = true → t.secBit n sMS_EXC = true) ∧
       (berReached k (berFrames e) (s.secSt n).sf.2 e = false → berReached k (berFrames e) (s.secSt n).sf.2 (e + 1) = false →
         t.secBit n sMS_EXC = false))) ∧
  (∀ (n : Fin 128) (k : Nat) (s : State), s.rxN n = some k → (∀ i ∈ [sLOS, sLOF, sMS_AIS], s.secBit n i = false) → s.rxStopped n = false →
    berFrames (s.get (R.LU_SEC_BER n) F.LU_SEC_BER_SD_EXP) ≤ (s.secSt n).sd.1 →
    ∃ t, exec (.berBlockEnd n true) s = .next t ∧ (t.secSt n).sd = (0, 0) ∧ (t.secSt n).sf = (s.secSt n).sf ∧
      (let e := s.get (R.LU_SEC_BER n) F.LU_SEC_BER_SD_EXP
       (berReached k (berFrames e) (s.secSt n).sd.2 e = true → t.secBit n sMS_DEG = true) ∧
       (berReached k (berFrames e) (s.secSt n).sd.2 e = false → berReached k (berFrames e) (s.secSt n).sd.2 (e + 1) = false →
         t.secBit n sMS_DEG = false))) ∧
  (∀ (n : Fin 128) (k : Nat) (sd : Bool) (s : State), s.rxN n = some k → (∃ i ∈ [sLOS, sLOF, sMS_AIS], s.secBit n i = true) → s.rxStopped n = false →
    s.berFull n sd = true → Settled s →
    ∃ t, exec (.berBlockEnd n sd) s = .next t ∧ (if sd then (t.secSt n).sd else (t.secSt n).sf) = (0, 0) ∧ t = { s with sec := t.sec }) ∧
  (∀ (p : Port) (n : Fin 128) (sf sd : Fin 16) (s : State), s.reaches p 0 = true →
    ∃ t, exec (.berThresholdChange p n sf sd) s = .next t ∧
      t.get (R.LU_SEC_BER n) F.LU_SEC_BER_SF_EXP = clampNat 3 5 sf ∧ t.get (R.LU_SEC_BER n) F.LU_SEC_BER_SD_EXP = clampNat 5 9 sd ∧
      (s.get (R.LU_SEC_BER n) F.LU_SEC_BER_SF_EXP ≠ clampNat 3 5 sf → (t.secSt n).sf = (0, 0)) ∧
      (s.get (R.LU_SEC_BER n) F.LU_SEC_BER_SD_EXP ≠ clampNat 5 9 sd → (t.secSt n).sd = (0, 0)) ∧
      RegsOnly (fun r => r == R.LU_SEC_BER n) { s with sec := t.sec } t) ∧
  (∀ (n : Fin 128) (s : State), s.isLine n = true →
    ∃ t, exec (.consequentActionApply n) s = .next t ∧ ((t.secSt n).fail, (t.secSt n).rdi) = s.wantActs n ∧
      t = { s with sec := t.sec } ∧ ∀ m, m ≠ n.val → t.secSt m = s.secSt m) ∧
  (∀ (p : Port) (n : Fin 128) (fmt : Fin 3) (s : State), s.reaches p 0 = true →
    s.get (R.LU_SEC_CTRL n) F.LU_SEC_CTRL_TRACE_FMT ≠ fmt.val →
    ∃ t, exec (.traceFmtChange p n (fmt.castLE (by decide))) s = .next t ∧ t.get (R.LU_SEC_CTRL n) F.LU_SEC_CTRL_TRACE_FMT = fmt.val ∧
      (t.secSt n).j0 = ⟨[], none⟩ ∧ t.mem = s.mem ∧ ∀ m, m ≠ n.val → t.secSt m = s.secSt m))

/-- R110: a frame received in IF whose B1 differs in k bits from the BIP-8 of the frame before adds k to the B1 counter (48 bits), and its own
BIP-8 is held for the next. R112: a K1 received in the number of frames of K_FILT in a row is accepted. -/
def Obligations.LineFramesAreChecked : Prop :=
  ∀ (n : Fin 128) (k : Nat) (frame : List Byte) (b : Byte) (s : State), s.rxN n = some k → s.isLine n = true →
    s.secBit n sLOS = false → frame.length = frameBytes k → (s.secSt n).inFrame = true → (s.secSt n).bip8 = some b → s.rxStopped n = false →
    let f := if (s.secSt n).rxOff then frame else scramble k frame
    framingOK k f = true →
    ∃ t, exec (.lineFrameReceive n frame) s = .next t ∧
      t.ctr (ctrB1 n) = (s.ctr (ctrB1 n) + popc 8 (b ^^^ ohByte k f 1 0).toNat) % 2 ^ 48 ∧
      (t.secSt n).bip8 = some (bip8 frame) ∧ (t.secSt n).inFrame = true ∧ (t.secSt n).errRun = 0 ∧
      (s.secBit n sLOF = false → s.kFilt n ≤ (runStep (s.secSt n).k1 (ohByte k f 4 (3 * k)).toNat).2 →
        t.get (R.LU_SEC_KRX n) F.LU_SEC_KRX_K1_ACC = (ohByte k f 4 (3 * k)).toNat)

-- Pointers and paths (06_pointers_paths.md)

/-- R130, Table 06-4: what a pointer word yields in NORM: all ones AIS, the accepted offset NORM, the offset with its I bits or D bits inverted
a justification once three periods have passed, and an enabled NDF its offset. R131, Table 06-5: three AIS in a row bring a pointer to AIS,
eight invalid ones to LOP, and three equal new offsets to NORM at that offset, whatever its state; in NORM a justification moves the offset
by one, round the range of its kind. -/
def Obligations.PointersAreInterpreted : Prop :=
  (∀ (kind : Nat) (ssCheck : Bool) (x : PathSt) (since ss : Nat), ss < 4 → (ssCheck = true → 5 ≤ kind → ss = tuSS kind) → x.ptr = 0 →
    x.off ≤ maxOff kind →
    ptrIndication kind ssCheck x since 0xFFFF = .ais ∧
    ptrIndication kind ssCheck x since (ptrWord 6 ss x.off) = .norm ∧
    (3 ≤ since → ptrIndication kind ssCheck x since (ptrWord 6 ss (x.off ^^^ 0x2AA)) = .inc) ∧
    (3 ≤ since → ptrIndication kind ssCheck x since (ptrWord 6 ss (x.off ^^^ 0x155)) = .dec) ∧
    (since < 3 → ptrIndication kind ssCheck x since (ptrWord 6 ss (x.off ^^^ 0x2AA)) = .inv) ∧
    (∀ v ≤ maxOff kind, ptrIndication kind ssCheck x since (ptrWord 9 ss v) = .ndf v) ∧
    (∀ v, maxOff kind < v → v < 1024 → ptrIndication kind ssCheck x since (ptrWord 9 ss v) = .inv)) ∧
  (∀ (kind : Nat) (x : PathSt),
    let run (l : List PtrInd) : PathSt := l.foldl (fun y i => (ptrStep kind y i).1) x
    (run [.ais, .ais, .ais]).ptr = 1 ∧
    (run (List.replicate 8 .inv)).ptr = 2 ∧
    (∀ v, (run [.new v, .new v, .new v]).ptr = 0 ∧ (run [.new v, .new v, .new v]).off = v) ∧
    (x.off ≤ maxOff kind → (ptrStep kind x .inc).1.off = (x.off + 1) % (maxOff kind + 1) ∧
      (ptrStep kind x .dec).1.off = (x.off + maxOff kind) % (maxOff kind + 1) ∧
      (ptrStep kind x .inc).2 = .pos ∧ (ptrStep kind x .dec).2 = .neg))

/-- R130 to R135: a pointer word received moves its interpreter by Tables 06-4 and 06-5 and counts its justifications and new offsets; a
realigner justifies for the next period at an edge of its window, at most every fourth period, by the unit of its kind; H4 moves the
multiframe state and, outside OOM, says where the multiframe stands, and 8 frames of OOM declare LOM, which holds the interpreters inside in
LOP. The drift of the fill as an operand and the instants of the decision are the model's choice (notes/assumptions/83.md), and so is which
frame an H4 names (37.md). R136, R137: a period of an egress pointer generator sends what its case and the marks of the grains give, once a
period, and counts justifications, new data flags and stray marks; a new offset goes out with NDF (a script's NEW too, R307). AIS held where
no start is marked is the model's choice (notes/assumptions/38.md), and so is which marked unit is a stuffing unit (86.md). -/
def Obligations.PointersFollowTheLineAndAreGenerated : Prop :=
  ((∀ (a3 : Bool) (u : TA) (w : BitVec 16) (members : List (BitVec 16)) (fall : Nat) (s : State), s.isPath a3 u = true →
    s.isTG (taLink u) = false → s.ptrHeld a3 u = false → s.rxStopped (taLink u) = false →
    let x := (s.path a3 u).governed
    let r := ptrStep (taKind u) x (ptrIndication (taKind u) (s.flag (R.LU_PATH_CTRL (taLink u)) F.LU_PATH_CTRL_SS_CHECK) x
      (min 3 (x.since + 1)) w.toNat)
    ∃ t, exec (.pointerIndication a3 u w members fall) s = .next t ∧ (t.path a3 u).ptr = r.1.ptr ∧ (t.path a3 u).off = r.1.off ∧
      (t.path a3 u).cfg = x.cfg ∧ (t.path a3 u).cfgNext = none ∧
      t.ctr (ctrPjInc (taLink u)) = (s.ctr (ctrPjInc (taLink u)) + (if r.2 = .pos then 1 else 0)) % 2 ^ 48 ∧
      t.ctr (ctrPjDec (taLink u)) = (s.ctr (ctrPjDec (taLink u)) + (if r.2 = .neg then 1 else 0)) % 2 ^ 48 ∧
      t.ctr (ctrNdf (taLink u)) = (s.ctr (ctrNdf (taLink u)) + (if r.2 = .ndf then 1 else 0)) % 2 ^ 48 ∧ t.actMap = s.actMap) ∧
  (∀ (a3 : Bool) (u : TA) (drift : Int) (s : State), s.isPath a3 u = true → s.isTG (taLink u) = false → s.ptrState a3 u = 0 →
    s.rxStopped (taLink u) = false →
    let p := s.periodAt (taKind u) s.up + periodLen (taKind u)
    let fill := ((s.path a3 u).fill + drift).toNat
    let unit := justUnit (taKind u) (s.get (R.LU_PATH_STRUCT0 (taLink u) (taAug u)) F.LU_PATH_STRUCT0_NC)
    (s.path a3 u).justs.all (fun e => e.1 != p) = true →
    ∃ t, exec (.realignPeriod a3 u drift) s = .next t ∧
      (t.path a3 u).justIn p = (if (∃ m, (s.path a3 u).moved = some m ∧ p < m + 4 * periodLen (taKind u)) then 0
        else if 12 ≤ fill then 1 else if fill ≤ 4 then 2 else 0) ∧
      (t.path a3 u).fill = (if (t.path a3 u).justIn p = 1 then fill - unit else if (t.path a3 u).justIn p = 2 then fill + unit else fill) ∧
      ((t.path a3 u).justIn p ≠ 0 → (t.path a3 u).moved = some p) ∧
      t = { s with paths := t.paths } ∧ ∀ b3 v, (b3, v) ≠ (a3, u) → t.path b3 v = s.path b3 v) ∧
  (∀ (a3 : Bool) (u : TA) (v : Fin 4) (s : State), s.isPath a3 u = true → s.hasTug2 a3 u = true → s.lineHeld (taLink u) = false →
    s.ptrState a3 u = 0 → s.rxStopped (taLink u) = false →
    ∃ t, exec (.h4MultiframeCheck a3 u v) s = .next t ∧ (t.path a3 u).oom = (h4Step (s.path a3 u) v).oom ∧
      (t.path a3 u).lom = (h4Step (s.path a3 u) v).lom ∧ (t.path a3 u).h4 = v.val ∧
      ((h4Step (s.path a3 u) v).oom = false → (t.path a3 u).phase = (s.frames + 5 - v.val) % 4) ∧ t.actMap = s.actMap) ∧
  (∀ (a3 : Bool) (u : TA) (s : State), s.isPath a3 u = true → s.isTG (taLink u) = false → s.ptrHeld a3 u = false → s.ptrState a3 u = 0 →
    (s.path a3 u).oom = true → 8 ≤ (s.path a3 u).oomFrames → (s.path a3 u).lom = false →
    ∃ t, exec (.lomDeclare a3 u) s = .next t ∧ (t.path a3 u).lom = true ∧ (t.path a3 u).ptr = (s.path a3 u).ptr ∧
      ∀ e ∈ s.inside a3 u, (t.path e.1 e.2).ptr = 2)) ∧
  ((∀ (a3 : Bool) (u : TA) (ahead : Ahead) (c : GenCase) (s : State), s.genCase a3 u = some c →
    let p := s.periodAt (taKind u) s.up
    (s.gen a3 u).per ≠ some p ∨ c = .ais →
    let x := s.shown a3 u p ahead
    let r := genStep (taKind u) (ssOut (s.isSonet (taLink u)) (taKind u)) (s.gen a3 u) c x.1 (s.scriptNew a3 u)
    ∃ t, exec (.pointerGenerate a3 u ahead) s = .next t ∧ t.gen a3 u = { r.1 with per := some p } ∧
      t.ctr (ctrStray (taLink u)) = (s.ctr (ctrStray (taLink u)) + (if c = .marks then x.2 else 0)) % 2 ^ 48 ∧
      t.ctr (ctrGenNdf (taLink u)) = (s.ctr (ctrGenNdf (taLink u)) + (if r.1.word / 4096 = 9 then 1 else 0)) % 2 ^ 48 ∧
      t.ctr (ctrGenPj (taLink u)) = (s.ctr (ctrGenPj (taLink u)) + (if r.2 = .none then 0 else 1)) % 2 ^ 48 ∧
      t.actMap = s.actMap ∧ t.mem = s.mem) ∧
  (∀ (kind ss p : Nat) (g : GenSt) (x : Ahead) (new : Option Nat),
    genStep kind ss g .ais x new = (⟨none, 0xFFFF, none⟩, .none) ∧
    (g.p = none → genStep kind ss g .marks ⟨x.neg, x.pos, none⟩ none = (⟨none, 0xFFFF, none⟩, .none)) ∧
    (∀ q, g.p ≠ some q → genStep kind ss g (.fixed q) x new = (⟨some q, ptrWord 9 ss q, none⟩, .none)) ∧
    (∀ q, genStep kind ss g .marks x (some q) = (⟨some q, ptrWord 9 ss q, none⟩, .none)) ∧
    (g.p = some p → genStep kind ss g .marks ⟨false, false, none⟩ none = (⟨some p, ptrWord 6 ss p, none⟩, .none)) ∧
    (∀ q, g.p = some p → q ≠ p → genStep kind ss g .marks ⟨false, false, some q⟩ none = (⟨some q, ptrWord 9 ss q, none⟩, .none)) ∧
    (g.p = some p → p ≤ maxOff kind →
      genStep kind ss g .marks ⟨true, x.pos, none⟩ none = (⟨some ((p + maxOff kind) % (maxOff kind + 1)), ptrWord 6 ss (p ^^^ 0x155), none⟩, .neg) ∧
      genStep kind ss g .marks ⟨false, true, none⟩ none = (⟨some ((p + 1) % (maxOff kind + 1)), ptrWord 6 ss (p ^^^ 0x2AA), none⟩, .pos))))

/-- R125, R126: a structure pair is taken, and waits for its boundary, where R126 admits it on the structure that will then hold; otherwise
STRUCT_REJ is set. At a boundary with FN = 0 mod 4 a waiting pair that still passes takes effect. R150, R152, R154, R155: the journal is
enabled where its ring fits SCRATCH and refused with ERR otherwise; its read count moves within the ring; per-path accesses queue, and
complete with the path's registers, or with ERR where there is no such path; a trace capture is armed. A configuration written here governs
from the path's next period, which is the model's choice (notes/assumptions/33.md). -/
def Obligations.PathRegistersAreWrittenAndRead : Prop :=
  ((∀ (p : Port) (n : Fin 128) (a : Fin 64) (v w0 : Word) (s : State), s.reaches p 0 = true → s.structW0 = [(64 * n.val + a.val, w0)] →
    structOK (s.structSoon n) a (w0, v &&& accMask (R.LU_PATH_STRUCT1 n a) (fun x => x == .rw)) = true →
    let e := (s.inFrames 1, 64 * n.val + a.val, w0, v &&& accMask (R.LU_PATH_STRUCT1 n a) (fun x => x == .rw))
    exec (.structWrite p n a v) s = .next { s with resp := .done, structW0 := [], structPend := insPend e s.structPend }) ∧
  (∀ (p : Port) (n : Fin 128) (a : Fin 64) (v w0 : Word) (s : State), s.reaches p 0 = true → s.structW0 = [(64 * n.val + a.val, w0)] →
    structOK (s.structSoon n) a (w0, v &&& accMask (R.LU_PATH_STRUCT1 n a) (fun x => x == .rw)) = false →
    ∃ t, exec (.structWrite p n a v) s = .next t ∧ t.flag (R.LU_PATH_CTRL n) F.LU_PATH_CTRL_STRUCT_REJ = true ∧
      RegsOnly (fun r => r == R.LU_PATH_CTRL n) { s with structW0 := [] } t) ∧
  (∀ (n : Fin 128) (a : Fin 64) (f : Nat) (w : Word × Word) (s : State), s.fn % 4 = 0 → s.structPend = [(f, 64 * n.val + a.val, w)] →
    f ≤ s.up → structOK (s.structOf n) a w = true →
    ∃ t, exec (.structApply n) s = .next t ∧ t.rd (R.LU_PATH_STRUCT0 n a) = w.1 ∧ t.rd (R.LU_PATH_STRUCT1 n a) = w.2 ∧
      t.structPend = [] ∧ t.actMap = s.actMap) ∧
  (∀ (n : Fin 128) (a : Fin 64) (f : Nat) (w : Word × Word) (s : State), s.fn % 4 = 0 → s.structPend = [(f, 64 * n.val + a.val, w)] →
    f ≤ s.up → structOK (s.structOf n) a w = false →
    ∃ t, exec (.structApply n) s = .next t ∧ t.flag (R.LU_PATH_CTRL n) F.LU_PATH_CTRL_STRUCT_REJ = true ∧
      t.rd (R.LU_PATH_STRUCT0 n a) = s.rd (R.LU_PATH_STRUCT0 n a) ∧ t.structPend = [] ∧ t.paths = s.paths)) ∧
  ((∀ (p : Port) (d : Fin 4) (size : Fin 32) (s : State), s.reaches p 0 = true →
    s.flag (R.DIE_JRN_CTRL d) F.DIE_JRN_CTRL_ENABLE = false →
    let s1 := s.put (R.DIE_JRN_CTRL d) F.DIE_JRN_CTRL_SIZE_LOG2 (clampNat 12 24 size)
    ∃ t, exec (.journalEnable p d size) s = .next t ∧ t.get (R.DIE_JRN_CTRL d) F.DIE_JRN_CTRL_SIZE_LOG2 = clampNat 12 24 size ∧
      (s1.jrnFits d = true → t.flag (R.DIE_JRN_CTRL d) F.DIE_JRN_CTRL_ENABLE = true ∧ t.rd (R.DIE_JRN_WR d) = 0 ∧ t.rd (R.DIE_JRN_RD d) = 0) ∧
      (s1.jrnFits d = false → t.flag (R.DIE_JRN_CTRL d) F.DIE_JRN_CTRL_ENABLE = false ∧
        t.flag (R.DIE_JRN_CTRL d) F.DIE_JRN_CTRL_ERR = true ∧ t.rd (R.DIE_JRN_WR d) = s.rd (R.DIE_JRN_WR d)) ∧
      RegsOnly (fun r => r == R.DIE_JRN_CTRL d || r == R.DIE_JRN_WR d || r == R.DIE_JRN_RD d) s t) ∧
  (∀ (p : Port) (d : Fin 4) (v : Word) (s : State), s.reaches p 0 = true →
    ∃ t, exec (.journalRdWrite p d v) s = .next t ∧
      t.rd (R.DIE_JRN_RD d) = (if fnDelta v.toNat (s.rd (R.DIE_JRN_WR d)).toNat ≤ jrnSize s d then v else s.rd (R.DIE_JRN_RD d)) ∧
      RegsOnly (fun r => r == R.DIE_JRN_RD d) s t) ∧
  (∀ (p : Port) (n : Fin 128) (a3 : Bool) (u : TA) (s : State), s.reaches p 0 = true →
    ∃ t, exec (.pathIndRead p n a3 u) s = .next t ∧ t.get (R.LU_PATH_IND_CTRL n) F.LU_PATH_IND_CTRL_WRITE = 0 ∧
      t.get (R.LU_PATH_IND_CTRL n) F.LU_PATH_IND_CTRL_TA = u.toNat ∧ t.flag (R.LU_PATH_IND_CTRL n) F.LU_PATH_IND_CTRL_AU3 = a3 ∧
      t.pathInd = s.pathInd ++ [(n.val, t.rd (R.LU_PATH_IND_CTRL n), s.rd (R.LU_PATH_IND_DATA0 n))] ∧
      RegsOnly (fun r => r == R.LU_PATH_IND_CTRL n) { s with pathInd := t.pathInd } t) ∧
  (∀ (p : Port) (n : Fin 128) (a3 : Bool) (u : TA) (s : State), s.reaches p 0 = true →
    ∃ t, exec (.pathIndWrite p n a3 u) s = .next t ∧ t.get (R.LU_PATH_IND_CTRL n) F.LU_PATH_IND_CTRL_WRITE = 1 ∧
      t.get (R.LU_PATH_IND_CTRL n) F.LU_PATH_IND_CTRL_TA = u.toNat ∧ t.flag (R.LU_PATH_IND_CTRL n) F.LU_PATH_IND_CTRL_AU3 = a3 ∧
      t.pathInd = s.pathInd ++ [(n.val, t.rd (R.LU_PATH_IND_CTRL n), s.rd (R.LU_PATH_IND_DATA0 n))] ∧
      RegsOnly (fun r => r == R.LU_PATH_IND_CTRL n) { s with pathInd := t.pathInd } t) ∧
  (∀ (n : Fin 128) (c v : Word) (s : State), s.pathInd.find? (fun e => e.1 == n.val) = some (n.val, c, v) → Settled s →
    let a3 := c.toNat.testBit 24
    let u : TA := c.setWidth 24
    ∃ t, exec (.pathIndDone n) s = .next t ∧ t.flag (R.LU_PATH_IND_STATUS n) F.LU_PATH_IND_STATUS_DONE = true ∧
      t.pathInd = s.pathInd.eraseP (fun e => e.1 == n.val) ∧
      (taLink u ≠ n.val ∨ s.isPath a3 u = false → t.flag (R.LU_PATH_IND_STATUS n) F.LU_PATH_IND_STATUS_ERR = true ∧ t.paths = s.paths) ∧
      (taLink u = n.val → s.isPath a3 u = true → c.toNat.testBit 30 = true →
        (t.path a3 u).cfgNext = some (v &&& cfgMask) ∧ (t.path a3 u).cfg = (s.path a3 u).cfg) ∧
      (taLink u = n.val → s.isPath a3 u = true → c.toNat.testBit 30 = false →
        t.rd (R.LU_PATH_IND_DATA0 n) = (s.path a3 u).cfgNext.getD (s.path a3 u).cfg ∧
        t.get (R.LU_PATH_IND_DATA2 n) F.LU_PATH_IND_DATA2_IN_PTR = (s.path a3 u).off % 1024 ∧
        t.rd (R.LU_PATH_IND_DATA3 n) = (s.path a3 u).traceSig ∧ t.paths = s.paths)) ∧
  (∀ (p : Port) (n : Fin 128) (a3 : Bool) (u : TA) (s : State), s.reaches p 0 = true →
    ∃ t, exec (.traceCaptureArm p n a3 u) s = .next t ∧ t.flag (R.LU_PATH_TCAP_CTRL n) F.LU_PATH_TCAP_CTRL_ARM = true ∧
      t.get (R.LU_PATH_TCAP_CTRL n) F.LU_PATH_TCAP_CTRL_TA = u.toNat ∧ t.flag (R.LU_PATH_TCAP_CTRL n) F.LU_PATH_TCAP_CTRL_AU3 = a3 ∧
      RegsOnly (fun r => r == R.LU_PATH_TCAP_CTRL n) s t))

/-- R140 to R147: the overhead of a period gives a path its label, accepted after as many equal ones as its profile says, its violations, its
errored blocks and the far end's bit errors; its failure at source follows its causes, of a low-order path at the second multiframe boundary
after they changed. When a new configuration governs is the model's choice (notes/assumptions/33.md). -/
def Obligations.PathOverheadIsJudged : Prop :=
  (∀ (a3 : Bool) (u : TA) (j a g bip : Byte) (s : State), s.isPath a3 u = true → s.ptrState a3 u = 0 → s.suspended a3 u = false →
    s.rxStopped (taLink u) = false →
    let x := (s.path a3 u).governed
    let label := if 5 ≤ taKind u then a.toNat / 2 % 8 else a.toNat
    let errs := if 5 ≤ taKind u then popc 2 bip.toNat else popc 8 bip.toNat
    ∃ t, exec (.pathOverheadReceive a3 u j a g bip) s = .next t ∧ (t.path a3 u).viol = errs ∧
      (t.path a3 u).feBits = x.feBits + (if 5 ≤ taKind u then 0 else if g.toNat / 16 ≤ 8 then g.toNat / 16 else 0) ∧
      (t.path a3 u).secErr = x.secErr + (if errs = 0 then 0 else 1) ∧ (t.path a3 u).lab = runStep x.lab label ∧
      (s.profile (taLink u) x F.LU_PATH_PROFILE_LBL_FILT + 3 ≤ (runStep x.lab label).2 →
        (t.path a3 u).accLabel = label ∧ (t.path a3 u).labOk = true) ∧
      ((runStep x.lab label).2 < s.profile (taLink u) x F.LU_PATH_PROFILE_LBL_FILT + 3 →
        (t.path a3 u).accLabel = x.accLabel ∧ (t.path a3 u).labOk = x.labOk) ∧
      (t.path a3 u).off = x.off ∧ t.actMap = s.actMap) ∧
  (∀ (a3 : Bool) (u : TA) (s : State), s.isPath a3 u = true → taKind u ≤ 4 ∨ s.lowFailDue a3 u = true →
    ∃ t, exec (.pathFailApply a3 u) s = .next t ∧ (t.path a3 u).failed = s.pathCause a3 u ∧ t.actMap = s.actMap) ∧
  (∀ (a3 : Bool) (u : TA) (s : State), s.isPath a3 u = true → 5 ≤ taKind u → s.lowFailDue a3 u = false → Settled s →
    ∃ t, exec (.pathFailApply a3 u) s = .next t ∧ (t.path a3 u).failed = (s.path a3 u).failed ∧ t.actMap = s.actMap)

-- Concatenated groups (07_concatenation.md)

/-- R174, R175, Tables 07-8 to 07-10: the commands on groups, each where its checks pass, and what GRP_STATUS then shows. The order of their
checks, the commands of LCAS on groups that send nothing, and a REMOVE of an IDLE member are the model's choice (notes/assumptions/48.md). -/
def Obligations.GroupCommands : Prop :=
  (∀ (p : Port) (d : Fin 4) (g : Fin 1024) (i : Fin 256) (s : State), s.reaches p 0 = true →
    ∃ t, exec (.grpOpInvalid p d g i) s = .next t ∧ t.get (R.GRP_STATUS p d) F.GRP_STATUS_CODE = grFIELD ∧
      t.flag (R.GRP_STATUS p d) F.GRP_STATUS_DONE = true ∧ RegsOnly (fun r => r == R.GRP_CMD d || r == R.GRP_STATUS p d) s t) ∧
  (∀ (p : Port) (d : Fin 4) (g : Fin 1024) (s : State), s.reaches p 0 = true → (s.grp (1024 * d.val + g.val)).st < 2 →
    ∃ t, exec (.grpDefine p d g) s = .next t ∧ t.get (R.GRP_STATUS p d) F.GRP_STATUS_CODE = 0 ∧
      t.flag (R.GRP_STATUS p d) F.GRP_STATUS_DONE = true ∧ (t.grp (1024 * d.val + g.val)).st = 1 ∧
      (t.grp (1024 * d.val + g.val)).cfg0 = s.rd (R.GRP_CFG0 p d) ∧ (t.grp (1024 * d.val + g.val)).cfg1 = s.rd (R.GRP_CFG1 p d) ∧
      (∀ y, y ≠ 1024 * d.val + g.val → t.grp y = s.grp y) ∧ t.mem = s.mem) ∧
  (∀ (p : Port) (d : Fin 4) (g : Fin 1024) (s : State), s.reaches p 0 = true → 2 ≤ (s.grp (1024 * d.val + g.val)).st →
    ∃ t, exec (.grpDefine p d g) s = .next t ∧ t.get (R.GRP_STATUS p d) F.GRP_STATUS_CODE = grSTATE ∧
      RegsOnly (fun r => r == R.GRP_CMD d || r == R.GRP_STATUS p d) s t) ∧
  (∀ (p : Port) (d : Fin 4) (g : Fin 1024) (i : Fin 256) (s : State), s.reaches p 0 = true → (s.grp (1024 * d.val + g.val)).st = 1 →
    i.val < (s.grp (1024 * d.val + g.val)).x → i.val < (s.grp (1024 * d.val + g.val)).mem.length →
    ∃ t, exec (.grpSetMember p d g i) s = .next t ∧ t.get (R.GRP_STATUS p d) F.GRP_STATUS_CODE = 0 ∧
      ((t.grp (1024 * d.val + g.val)).member i).ing = some (s.rd (R.GRP_MEMBER p d)) ∧
      ((t.grp (1024 * d.val + g.val)).member i).eg =
        (if (s.grp (1024 * d.val + g.val)).mode = 3 then s.rd (R.GRP_MEMBER_EG p d) else 0) ∧
      (∀ j, j ≠ i.val → (t.grp (1024 * d.val + g.val)).member j = (s.grp (1024 * d.val + g.val)).member j) ∧
      (∀ y, y ≠ 1024 * d.val + g.val → t.grp y = s.grp y)) ∧
  (∀ (p : Port) (d : Fin 4) (g : Fin 1024) (s : State), s.reaches p 0 = true → s.activateCode (1024 * d.val + g.val) = 0 →
    ∃ t, exec (.grpActivate p d g) s = .next t ∧ t.get (R.GRP_STATUS p d) F.GRP_STATUS_CODE = 0 ∧
      t.grp (1024 * d.val + g.val) = { s.grp (1024 * d.val + g.val) with
        st := 2, pages := (s.grp (1024 * d.val + g.val)).need, eff := s.fnFour 2 } ∧
      (∀ y, y ≠ 1024 * d.val + g.val → t.grp y = s.grp y)) ∧
  (∀ (p : Port) (d : Fin 4) (g : Fin 1024) (s : State), s.reaches p 0 = true → s.activateCode (1024 * d.val + g.val) ≠ 0 →
    ∃ t, exec (.grpActivate p d g) s = .next t ∧
      t.get (R.GRP_STATUS p d) F.GRP_STATUS_CODE = s.activateCode (1024 * d.val + g.val) ∧
      RegsOnly (fun r => r == R.GRP_CMD d || r == R.GRP_STATUS p d || r == R.GRP_DESKEW_REQ d) s t) ∧
  (∀ (p : Port) (d : Fin 4) (g : Fin 1024) (s : State), s.reaches p 0 = true → (s.grp (1024 * d.val + g.val)).st ≠ 0 →
    ∃ t, exec (.grpDelete p d g) s = .next t ∧ t.get (R.GRP_STATUS p d) F.GRP_STATUS_CODE = 0 ∧ t.grp (1024 * d.val + g.val) = freeGrp ∧
      t.grpGone = s.grpGone ++ [(1024 * d.val + g.val, s.fnFour 2, s.grp (1024 * d.val + g.val))] ∧
      (∀ y, y ≠ 1024 * d.val + g.val → t.grp y = s.grp y)) ∧
  (∀ (p : Port) (d : Fin 4) (g : Fin 1024) (i : Fin 256) (s : State), s.reaches p 0 = true →
    (s.grp (1024 * d.val + g.val)).lcasCode i (fun v => v == 0) = 0 → i.val < (s.grp (1024 * d.val + g.val)).mem.length →
    ∃ t, exec (.grpAdd p d g i) s = .next t ∧ t.get (R.GRP_STATUS p d) F.GRP_STATUS_CODE = 0 ∧
      ((t.grp (1024 * d.val + g.val)).member i).src = 1 ∧
      ((t.grp (1024 * d.val + g.val)).member i).srcSq = (s.grp (1024 * d.val + g.val)).nextSq ∧
      (t.grp (1024 * d.val + g.val)).busy = some i.val ∧ t.timerOn (addKey (1024 * d.val + g.val)) = true) ∧
  (∀ (p : Port) (d : Fin 4) (g : Fin 1024) (i : Fin 256) (s : State), s.reaches p 0 = true →
    (s.grp (1024 * d.val + g.val)).lcasCode i (fun _ => true) = 0 → ((s.grp (1024 * d.val + g.val)).member i).src ≠ 0 →
    ∃ t, exec (.grpRemove p d g i) s = .next t ∧ t.get (R.GRP_STATUS p d) F.GRP_STATUS_CODE = 0 ∧
      ((t.grp (1024 * d.val + g.val)).member i).src = 0 ∧ (t.grp (1024 * d.val + g.val)).busy = some i.val ∧
      (t.grp (1024 * d.val + g.val)).gaps = (s.grp (1024 * d.val + g.val)).gaps ++ [((s.grp (1024 * d.val + g.val)).member i).srcSq]) ∧
  (∀ (p : Port) (d : Fin 4) (g : Fin 1024) (i : Fin 256) (s : State), s.reaches p 0 = true →
    (s.grp (1024 * d.val + g.val)).lcasCode i (fun _ => true) = 0 → ((s.grp (1024 * d.val + g.val)).member i).src = 0 →
    ∃ t, exec (.grpRemove p d g i) s = .next t ∧ t.get (R.GRP_STATUS p d) F.GRP_STATUS_CODE = 0 ∧
      RegsOnly (fun r => r == R.GRP_CMD d || r == R.GRP_STATUS p d) s t) ∧
  (∀ (p : Port) (d : Fin 4) (g : Fin 1024) (i : Fin 256) (s : State), s.reaches p 0 = true →
    (s.grp (1024 * d.val + g.val)).lcasCode i (fun _ => true) ≠ 0 →
    ∃ t, exec (.grpRemove p d g i) s = .next t ∧
      t.get (R.GRP_STATUS p d) F.GRP_STATUS_CODE = (s.grp (1024 * d.val + g.val)).lcasCode i (fun _ => true) ∧
      RegsOnly (fun r => r == R.GRP_CMD d || r == R.GRP_STATUS p d) s t) ∧
  (∀ (p : Port) (d : Fin 4) (g : Fin 1024) (i : Fin 256) (s : State), s.reaches p 0 = true →
    (s.grp (1024 * d.val + g.val)).st = 0 ∨ i.val < (s.grp (1024 * d.val + g.val)).x →
    ∃ t, exec (.grpRead p d g i) s = .next t ∧ t.get (R.GRP_STATUS p d) F.GRP_STATUS_CODE = 0 ∧
      t.flag (R.GRP_STATUS p d) F.GRP_STATUS_DONE = true ∧ t.rd (R.GRP_CFG0 p d) = (s.grp (1024 * d.val + g.val)).cfg0 ∧
      t.rd (R.GRP_CFG1 p d) = (s.grp (1024 * d.val + g.val)).cfg1 ∧
      t.rd (R.GRP_MEMBER p d) = ((s.grp (1024 * d.val + g.val)).member i).ing.getD 0 ∧
      t.rd (R.GRP_MEMBER_EG p d) = ((s.grp (1024 * d.val + g.val)).member i).eg ∧
      RegsOnly (fun r => r == R.GRP_CMD d || r == R.GRP_STATUS p d || r == R.GRP_CFG0 p d || r == R.GRP_CFG1 p d || r == R.GRP_MEMBER p d
        || r == R.GRP_MEMBER_EG p d || r == R.GRP_MSTATE d || r == R.GRP_GSTATE d) s t)

/-- Table 07-8, R171, R170, R168, R169, Table 07-7: what befalls groups at their frames and at the ends of their times: ACTIVATE and DELETE take
effect, alignment is reached, a member's hold-off, wait-to-restore and ADD end, and the payload takes its members. The codes of the member
words are G.7042's and the wait before ALIGNED is the model's choice (notes/assumptions/49.md, 50.md). R163, R164, R170: a control packet
whose CRC fails is counted and its CTRL and GID are not used; one that passes gives its member's CTRL and a GID, kept with the number of its
multiframe (49.md). Without LCAS neither is used, and no CRC is judged. A member whose path is suspended takes no packet and drops its
defects (R165). A measurement gives each aligned member its lead, in frames before the last to arrive, in every mode (R161). A lead is
rounded down, which is the model's choice (notes/assumptions/50.md). -/
def Obligations.GroupsFollowTimesAndMembers : Prop :=
  ((∀ (d : Fin 4) (g : Fin 1024) (s : State), (s.grp (1024 * d.val + g.val)).st = 2 → (s.grp (1024 * d.val + g.val)).eff ≤ s.up →
    ∃ t, exec (.grpEffect d g) s = .next t ∧ (t.grp (1024 * d.val + g.val)).st = 3 ∧
      (t.grp (1024 * d.val + g.val)).mem.map (fun m => m.ing) = (s.grp (1024 * d.val + g.val)).mem.map (fun m => m.ing) ∧
      (t.grp (1024 * d.val + g.val)).pages = (s.grp (1024 * d.val + g.val)).pages ∧
      (∀ y, y ≠ 1024 * d.val + g.val → t.grp y = s.grp y) ∧ t.mem = s.mem) ∧
  (∀ (d : Fin 4) (g : Fin 1024) (s : State),
    ∃ t, exec (.grpDeleteEffect d g) s = .next t ∧
      t.grpGone = s.grpGone.filter (fun e => !(e.1 == 1024 * d.val + g.val && decide (e.2.1 ≤ s.up))) ∧
      RegsOnly (fun r => r == R.GRP_DESKEW_FREE d || r == R.GRP_DESKEW_TOTAL d || r == R.GRP_COUNT d) { s with grpGone := t.grpGone, timers := t.timers } t) ∧
  (∀ (d : Fin 4) (g : Fin 1024) (f : Nat) (s : State), (s.runGrp (1024 * d.val + g.val)).alignUp = some f →
    (s.runGrp (1024 * d.val + g.val)).st = 3 → 2 ≤ (s.runGrp (1024 * d.val + g.val)).mode → f + 4 ≤ s.up →
    ∃ t, exec (.grpAligned d g) s = .next t ∧ t.runGrp (1024 * d.val + g.val) = { s.runGrp (1024 * d.val + g.val) with aligned := true } ∧
      (∀ y, y ≠ 1024 * d.val + g.val → t.runGrp y = s.runGrp y)) ∧
  (∀ (d : Fin 4) (g : Fin 1024) (i : Fin 256) (s : State), s.timerDone (holdKey (1024 * d.val + g.val) i) = true →
    (s.runGrp (1024 * d.val + g.val)).st = 3 → (s.runGrp (1024 * d.val + g.val)).mode = 3 → (s.runGrp (1024 * d.val + g.val)).lcas = true →
    i.val < (s.runGrp (1024 * d.val + g.val)).mem.length → ((s.runGrp (1024 * d.val + g.val)).member i).vlom = true →
    ((s.runGrp (1024 * d.val + g.val)).member i).failed = true → ((s.runGrp (1024 * d.val + g.val)).member i).ctrl ≠ ctIDLE →
    ∃ t, exec (.lcasHoldoffExpire d g i) s = .next t ∧ t.timer (holdKey (1024 * d.val + g.val) i) = none ∧
      ((t.runGrp (1024 * d.val + g.val)).member i).sink = 2 ∧ t.mem = s.mem) ∧
  (∀ (d : Fin 4) (g : Fin 1024) (i : Fin 256) (s : State), s.timerDone (wtrKey (1024 * d.val + g.val) i) = true →
    i.val < (s.runGrp (1024 * d.val + g.val)).mem.length →
    s.memFailed d (s.runGrp (1024 * d.val + g.val)) ((s.runGrp (1024 * d.val + g.val)).member i) = false →
    ((s.runGrp (1024 * d.val + g.val)).member i).ctrl ≠ ctIDLE →
    ∃ t, exec (.lcasWtrExpire d g i) s = .next t ∧ t.timer (wtrKey (1024 * d.val + g.val) i) = none ∧
      ((t.runGrp (1024 * d.val + g.val)).member i).sink = 1 ∧ t.mem = s.mem) ∧
  (∀ (d : Fin 4) (g : Fin 1024) (j : Nat) (s : State), (s.runGrp (1024 * d.val + g.val)).busy = some j →
    s.timerDone (addKey (1024 * d.val + g.val)) = true → ((s.runGrp (1024 * d.val + g.val)).member j).src = 1 →
    ∃ t, exec (.lcasAddTimeout d g) s = .next t ∧ t.timer (addKey (1024 * d.val + g.val)) = none ∧
      ((t.runGrp (1024 * d.val + g.val)).member j).src = 0 ∧ ((t.runGrp (1024 * d.val + g.val)).member j).addFail = true ∧
      (t.runGrp (1024 * d.val + g.val)).busy = none ∧ (∀ y, y ≠ 1024 * d.val + g.val → t.runGrp y = s.runGrp y)) ∧
  (∀ (d : Fin 4) (g : Fin 1024) (s : State), (s.runGrp (1024 * d.val + g.val)).st = 3 → (s.runGrp (1024 * d.val + g.val)).mode = 3 →
    ∃ t, exec (.lcasMultiframeBoundary d g) s = .next t ∧ (t.runGrp (1024 * d.val + g.val)).gaps = [] ∧
      ((s.runGrp (1024 * d.val + g.val)).lcas = true → ∀ i, i ∈ (t.runGrp (1024 * d.val + g.val)).pay ↔
        ((t.runGrp (1024 * d.val + g.val)).member i).src = 2 ∨ ((t.runGrp (1024 * d.val + g.val)).member i).src = 3) ∧
      (∀ y, y ≠ 1024 * d.val + g.val → t.runGrp y = s.runGrp y))) ∧
  ((∀ (d : Fin 4) (g : Fin 1024) (i : Fin 256) (aligned : Bool) (h : List Byte) (w : Word) (s : State),
    (s.runGrp (1024 * d.val + g.val)).st = 3 → (s.runGrp (1024 * d.val + g.val)).typ ≤ 1 →
    ((s.runGrp (1024 * d.val + g.val)).member i).ing = some w → s.memSuspended (memAu3 w) (memTA w) = false →
    ∃ t, exec (.vcatControlPacket d g i aligned h) s = .next t ∧
      ((t.runGrp (1024 * d.val + g.val)).member i).ctrl =
        (if (packetHo h).ok = true ∧ (s.runGrp (1024 * d.val + g.val)).lcas = true then (packetHo h).ctrl else ((s.runGrp (1024 * d.val + g.val)).member i).ctrl) ∧
      ((t.runGrp (1024 * d.val + g.val)).member i).gids =
        (if (packetHo h).ok = true ∧ (s.runGrp (1024 * d.val + g.val)).lcas = true then
          (((packetHo h).num, (packetHo h).gid) :: ((s.runGrp (1024 * d.val + g.val)).member i).gids.filter (fun e => e.1 != (packetHo h).num)).take
            ((s.runGrp (1024 * d.val + g.val)).mfMod / 2)
         else ((s.runGrp (1024 * d.val + g.val)).member i).gids) ∧
      t.ctr ⟨R.GRP_CRC_LO d, R.GRP_CRC_HI d⟩ = (s.ctr ⟨R.GRP_CRC_LO d, R.GRP_CRC_HI d⟩ + (if (packetHo h).ok = true ∨ (s.runGrp (1024 * d.val + g.val)).lcas = false then 0 else 1)) % 2 ^ 48 ∧
      (∀ y, y ≠ 1024 * d.val + g.val → t.runGrp y = s.runGrp y)) ∧
  (∀ (d : Fin 4) (g : Fin 1024) (i : Fin 256) (aligned : Bool) (h : List Byte) (w : Word) (s : State),
    (s.runGrp (1024 * d.val + g.val)).st = 3 → i.val < (s.runGrp (1024 * d.val + g.val)).mem.length →
    ((s.runGrp (1024 * d.val + g.val)).member i).ing = some w → s.memSuspended (memAu3 w) (memTA w) = true →
    ∃ t, exec (.vcatControlPacket d g i aligned h) s = .next t ∧
      ((t.runGrp (1024 * d.val + g.val)).member i).vlom = false ∧ ((t.runGrp (1024 * d.val + g.val)).member i).sqm = false ∧
      ((t.runGrp (1024 * d.val + g.val)).member i).loa = false ∧ ((t.runGrp (1024 * d.val + g.val)).member i).mfi = none ∧
      (∀ y, y ≠ 1024 * d.val + g.val → t.runGrp y = s.runGrp y)) ∧
  (∀ (d : Fin 4) (g : Fin 1024) (arrivals : List Nat) (s : State), (s.runGrp (1024 * d.val + g.val)).st = 3 →
    arrivals.length = (s.runGrp (1024 * d.val + g.val)).mem.length →
    (∀ m ∈ (s.runGrp (1024 * d.val + g.val)).mem, s.memAligned d m = true) →
    ∃ t, exec (.deskewLeadMeasure d g arrivals) s = .next t ∧
      (t.runGrp (1024 * d.val + g.val)).spread = (arrivals.foldl max 0 - arrivals.foldl min (arrivals.foldl max 0)) / 125000 ∧
      (∀ i < arrivals.length, ((t.runGrp (1024 * d.val + g.val)).member i).lead = (arrivals.foldl max 0 - arrivals.getD i 0) / 125000) ∧
      (∀ y, y ≠ 1024 * d.val + g.val → t.runGrp y = s.runGrp y) ∧ t.mem = s.mem))

-- Protection (08_protection.md)

/-- R189, Table 08-6: the life of a linear MSP group. ACTIVATE of a FREE group whose configuration passes Table 08-7 makes it PENDING with an
effect frame at least two frames ahead, and a refused one leaves its state and shows the code; MSP_CMD keeps the OP of each command (Table
08-15); DELETE makes it DELETING unless a live transaction claims it; at the effect frame PENDING becomes ACTIVE and DELETING FREE; each of
its configuration words is stored while FREE only. R182, R187, R200 and R188: at the end of its time a held condition enters the requests, a
wait-to-restore ends, an exercise ends with its result, and a protocol defect is set or cleared. -/
def Obligations.MspGroupsFollowCommandsAndTimers : Prop :=
  ((∀ (p : Port) (g k : Fin 8) (s : State), s.reaches p 0 = true → s.mspCode g k = 0 →
    ∃ t, exec (.mspActivate p g k) s = .next t ∧ t.mspState g k = 1 ∧ t.get (R.MSP_STATUS g k) F.MSP_STATUS_CODE = 0 ∧
      t.get (R.MSP_CMD g k) F.MSP_CMD_OP = 1 ∧
      (t.mspSt g k).eff = s.inFrames 2 ∧ t.mem = s.mem ∧ t.actMap = s.actMap) ∧
  (∀ (p : Port) (g k : Fin 8) (s : State), s.reaches p 0 = true → Settled s → s.mspCode g k ≠ 0 →
    ∃ t, exec (.mspActivate p g k) s = .next t ∧ t.get (R.MSP_STATUS g k) F.MSP_STATUS_CODE = s.mspCode g k ∧
      t.mspState g k = s.mspState g k ∧ t.get (R.MSP_CMD g k) F.MSP_CMD_OP = 1 ∧
      RegsOnly (fun r => r == R.MSP_STATUS g k || r == R.MSP_CMD g k) s t) ∧
  (∀ (p : Port) (g k : Fin 8) (s : State), s.reaches p 0 = true → s.mspState g k = 1 ∨ s.mspState g k = 2 → s.mspClaimed g k = false →
    ∃ t, exec (.mspDelete p g k) s = .next t ∧ t.mspState g k = 3 ∧ (t.mspSt g k).eff = s.inFrames 2 ∧
      t.get (R.MSP_STATUS g k) F.MSP_STATUS_CODE = 0 ∧ t.get (R.MSP_CMD g k) F.MSP_CMD_OP = 2 ∧ t.mem = s.mem) ∧
  (∀ (p : Port) (g k : Fin 8) (s : State), s.reaches p 0 = true → Settled s →
    (s.mspState g k ≠ 1 ∧ s.mspState g k ≠ 2) ∨ s.mspClaimed g k = true →
    ∃ t, exec (.mspDelete p g k) s = .next t ∧ t.get (R.MSP_STATUS g k) F.MSP_STATUS_CODE = 2 ∧ t.mspState g k = s.mspState g k ∧
      t.get (R.MSP_CMD g k) F.MSP_CMD_OP = 2 ∧ RegsOnly (fun r => r == R.MSP_STATUS g k || r == R.MSP_CMD g k) s t) ∧
  (∀ (p : Port) (g k : Fin 8) (op3 : Bool) (s : State), s.reaches p 0 = true →
    ∃ t, exec (.mspOpInvalid p g k op3) s = .next t ∧ t.get (R.MSP_STATUS g k) F.MSP_STATUS_CODE = 1 ∧
      t.get (R.MSP_CMD g k) F.MSP_CMD_OP = (if op3 then 3 else 0) ∧
      RegsOnly (fun r => r == R.MSP_STATUS g k || r == R.MSP_CMD g k) s t) ∧
  (∀ (g k : Fin 8) (s : State), s.mspState g k = 3 → s.fn % 4 = 0 → s.ns = 0 → (s.mspSt g k).eff ≤ s.up →
    ∃ t, exec (.mspEffectFrame g k) s = .next t ∧ t.mspState g k = 0 ∧ t.rd (R.MSP_LOCKW g k) = 0 ∧ t.rd (R.MSP_COND g k) = 0 ∧
      t.get (R.MSP_STATUS g k) F.MSP_STATUS_SEL_CHAN = 0 ∧ t.mem = s.mem) ∧
  (∀ (g k : Fin 8) (s : State), s.mspState g k = 1 → s.fn % 4 = 0 → s.ns = 0 → (s.mspSt g k).eff ≤ s.up →
    ∃ t, exec (.mspEffectFrame g k) s = .next t ∧ t.mspState g k = 2 ∧ (t.mspSt g k).act = true ∧
      (∀ c ≤ s.mspN g k, t.flag (R.LU_SEC_KTX (s.mspLink g k c)) F.LU_SEC_KTX_MSP = true) ∧ t.rd (R.MSP_LOCKW g k) = 0 ∧ t.mem = s.mem) ∧
  (∀ (p : Port) (g k : Fin 8) (which : Fin 4) (v : Word) (s : State), s.reaches p 0 = true → s.mspState g k = 0 →
    let r := if which = 0 then R.MSP_CFG g k else if which = 1 then R.MSP_CHAN0 g k else if which = 2 then R.MSP_CHAN1 g k else R.MSP_PRIO g k
    ∃ t, exec (.mspConfigWrite p g k which v) s = .next t ∧ t.rd r = v &&& accMask r (fun a => a == .rw) ∧
      RegsOnly (fun x => x == r) s t) ∧
  (∀ (p : Port) (g k : Fin 8) (which : Fin 4) (v : Word) (s : State), s.reaches p 0 = true → s.mspState g k ≠ 0 →
    ∃ t, exec (.mspConfigWrite p g k which v) s = .next t ∧ t.flag (R.MSP_STATUS g k) F.MSP_STATUS_WR_REJ = true ∧
      RegsOnly (fun r => r == R.MSP_STATUS g k) s t)) ∧
  ((∀ (g k : Fin 8) (c : Fin 15) (sd : Bool) (s : State), s.timerDone (mspHoldKey g k c (if sd then 1 else 0)) = true →
    ∃ t, exec (.mspHoldoffExpire g k c sd) s = .next t ∧ t.bit (R.MSP_COND g k) ((if sd then 16 else 0) + c) = true ∧
      t.timer (mspHoldKey g k c (if sd then 1 else 0)) = none ∧
      RegsOnly (fun r => r == R.MSP_COND g k) { s with timers := t.timers } t) ∧
  (∀ (g k : Fin 8) (s : State), s.timerDone (mspWtrKey g k) = true →
    ∃ t, exec (.mspWtrExpire g k) s = .next t ∧ (t.mspSt g k).wtr = 0 ∧ t.timer (mspWtrKey g k) = none ∧
      t = { s with timers := t.timers, msp := t.msp }) ∧
  (∀ (g k : Fin 8) (s : State), s.timerDone (mspExerKey g k) = true →
    ∃ t, exec (.mspExerEnd g k) s = .next t ∧ t.get (R.MSP_STATUS g k) F.MSP_STATUS_EXT_CMD = 0 ∧
      t.get (R.MSP_STATUS g k) F.MSP_STATUS_EXER_RESULT = (if (s.mspSt g k).exerOk then 1 else 2) ∧
      t.timer (mspExerKey g k) = none ∧ RegsOnly (fun r => r == R.MSP_STATUS g k) { s with timers := t.timers } t) ∧
  (∀ (g k : Fin 8) (cm : Bool) (s : State), s.timerDone (mspFopKey g k (if cm then 1 else 0)) = true →
    ∃ t, exec (.fopTimerExpire g k cm) s = .next t ∧
      t.flag (R.MSP_STATUS g k) (fopFld (if cm then 1 else 0)) = !s.flag (R.MSP_STATUS g k) (fopFld (if cm then 1 else 0)) ∧
      t.timer (mspFopKey g k (if cm then 1 else 0)) = none ∧ t.mem = s.mem))



/-- R192, R193, R194, R195: a selector takes its conditions, selects by its governing request, and after its wait-to-restore reverts; the end of
a hold-off lets its condition in. R198, R207: a GO reads a selector, or sets ERR where the die has none of that name; a read of the switch
log takes its oldest entry. -/
def Obligations.SelectorsFollowRequestsAndAreRead : Prop :=
  ((∀ (a3 : Bool) (u : TA) (r : Rec) (s : State), s.selector (egName a3 u) = some r → r.key = egName a3 u → r.holdoff = 0 →
    ∃ t, exec (.sncpEvaluate a3 u) s = .next t ∧
      (let x := t.sncSt (egName a3 u)
       x.bit 3 = (s.srcCond r r.src).1 ∧ x.bit 2 = (s.srcCond r r.src).2 ∧ x.bit 1 = (s.srcCond r r.alt).1 ∧
       x.bit 0 = (s.srcCond r r.alt).2 ∧ x.alt = x.select x.rank ∧ (∀ q, x.top = some q → x.rank = q)) ∧
      t.actMap = s.actMap ∧ t.mem = s.mem ∧ ∀ k, k ≠ egName a3 u → t.sncSt k = s.sncSt k) ∧
  (∀ (a3 : Bool) (u : TA) (i : Fin 4) (s : State), s.timerDone (sncHoldKey (egName a3 u) i) = true →
    ∃ t, exec (.sncpHoldoffExpire a3 u i) s = .next t ∧ t.timer (sncHoldKey (egName a3 u) i) = none ∧
      (s.selector (egName a3 u) = none → (t.sncSt (egName a3 u)).bit i = true) ∧
      (∀ r, s.selector (egName a3 u) = some r → r.key = egName a3 u →
        let s1 := (s.stopTimer (sncHoldKey (egName a3 u) i)).setSnc (egName a3 u) ((s.sncSt (egName a3 u)).putBit i true)
        (t.sncSt (egName a3 u)).bit i =
          [(s1.srcCond r r.alt).2, (s1.srcCond r r.alt).1, (s1.srcCond r r.src).2, (s1.srcCond r r.src).1].getD i false) ∧
      t.actMap = s.actMap ∧ t.mem = s.mem) ∧
  (∀ (a3 : Bool) (u : TA) (r : Rec) (s : State), s.timerDone (sncWtrKey (egName a3 u)) = true → s.selector (egName a3 u) = some r →
    r.key = egName a3 u → r.revert = true → (s.sncSt (egName a3 u)).rank = 7 → (s.sncSt (egName a3 u)).cmd = 0 →
    (let s1 := s.stopTimer (sncWtrKey (egName a3 u))
     s1.srcCond r r.src = (false, false) ∧ s1.srcCond r r.alt = (false, false)) →
    ∃ t, exec (.sncpWtrExpire a3 u) s = .next t ∧ (t.sncSt (egName a3 u)).alt = false ∧ (t.sncSt (egName a3 u)).rank = 9 ∧
      t.timer (sncWtrKey (egName a3 u)) = none ∧ t.actMap = s.actMap ∧ t.mem = s.mem)) ∧
  ((∀ (p : Port) (d : Fin 4) (a3 : Bool) (u : TA) (s : State), s.reaches p 0 = true →
    (s.selector (egName a3 u)).isNone = true ∨ luDie (taLink u) ≠ d.val →
    ∃ t, exec (.sncpIndRead p d a3 u) s = .next t ∧ t.flag (R.SNCP_IND_STATUS d) F.SNCP_IND_STATUS_DONE = true ∧
      t.flag (R.SNCP_IND_STATUS d) F.SNCP_IND_STATUS_ERR = true ∧
      RegsOnly (fun r => r == R.SNCP_IND_CTRL d || r == R.SNCP_IND_STATUS d) s t) ∧
  (∀ (p : Port) (d : Fin 4) (a3 : Bool) (u : TA) (s : State), s.reaches p 0 = true →
    (s.selector (egName a3 u)).isSome = true → luDie (taLink u) = d.val →
    ∃ t, exec (.sncpIndRead p d a3 u) s = .next t ∧ t.flag (R.SNCP_IND_STATUS d) F.SNCP_IND_STATUS_DONE = true ∧
      t.get (R.SNCP_IND_DATA0 d) F.SNCP_IND_DATA0_REQ = (s.sncSt (egName a3 u)).rank % 16 ∧
      t.flag (R.SNCP_IND_DATA0 d) F.SNCP_IND_DATA0_ALT = (s.sncSt (egName a3 u)).alt ∧
      t.get (R.SNCP_IND_DATA0 d) F.SNCP_IND_DATA0_COND = (s.sncSt (egName a3 u)).cond % 16 ∧
      t.get (R.SNCP_IND_DATA0 d) F.SNCP_IND_DATA0_EXT_CMD = (s.sncSt (egName a3 u)).cmd % 8 ∧
      RegsOnly (fun r => r == R.SNCP_IND_CTRL d || r == R.SNCP_IND_STATUS d || r == R.SNCP_IND_DATA0 d || r == R.SNCP_IND_DATA1 d) s t) ∧
  (∀ (p : Port) (d : Fin 4) (e : Word × Word × Word) (l : List (Word × Word × Word)) (s : State), s.reaches p 0 = true →
    s.sncLogOf d = e :: l → l.length ≤ 511 →
    ∃ t, exec (.sncpLogPop p d) s = .next t ∧ t.resp = .word e.1 ∧ t.sncLogOf d = l ∧ t.rd (R.SNCP_LOG_DATA0 d) = e.1 ∧
      t.rd (R.SNCP_LOG_DATA1 d) = e.2.1 ∧ t.rd (R.SNCP_LOG_DATA2 d) = e.2.2 ∧
      t.get (R.SNCP_LOG_STATUS d) F.SNCP_LOG_STATUS_COUNT = l.length ∧
      RegsOnly (fun r => r == R.SNCP_LOG_STATUS d || r == R.SNCP_LOG_DATA0 d || r == R.SNCP_LOG_DATA1 d || r == R.SNCP_LOG_DATA2 d)
        { s with sncLog := t.sncLog } t) ∧
  (∀ (p : Port) (d : Fin 4) (s : State), s.reaches p 0 = true → s.sncLogOf d = [] →
    ∃ t, exec (.sncpLogPop p d) s = .next t ∧ t.flag (R.SNCP_LOG_DATA0 d) F.SNCP_LOG_DATA0_VALID = false ∧
      RegsOnly (fun r => r == R.SNCP_LOG_DATA0 d) s t))

-- Link units and the frame (01_hierarchy.md, 03_grains_slot_store.md, 10_timing.md)

/-- R24: a DIE_UNIT_RETIRE bit written to 1 retires the link unit and refuses the open transactions that name it; written to 0, its return waits
for the next frame boundary, and a CABLE run that was in progress ends as ABORTED (R364); at that boundary, and at no other instant, the
unit is in service, and a run begun meanwhile ends too. -/
def Obligations.LinkUnitsRetire : Prop :=
  (∀ (p : Port) (n : Fin 128) (s : State), s.reaches p 0 = true →
    ∃ t, exec (.luRetire p n) s = .next t ∧ t.bit (R.DIE_UNIT_RETIRE (n.val / 32)) (n.val % 32) = true ∧ t.retiredLU n = true ∧
      (∀ u ∈ t.unretire, u.1 ≠ n.val) ∧ ReactOnly (s.answer .done) t ∧
      (s.grave = false → ∀ k : Fin 8, 1 ≤ s.txnState k → s.txnState k ≤ 3 → (s.slot k).recs.any (fun r => r.namesLink n) = true →
        t.txnState k = txREFUSED ∧ t.get (R.TXN_STATUS k) F.TXN_STATUS_CODE = rcRETIRED)) ∧
  (∀ (p : Port) (n : Fin 128) (s : State), s.reaches p 0 = true → Settled s →
    s.bit (R.DIE_UNIT_RETIRE (n.val / 32)) (n.val % 32) = true → s.flag (R.LU_SENSE_STATUS n) F.LU_SENSE_STATUS_BUSY = false →
    exec (.luUnretire p n) s =
      .next { (s.answer .done).clrBit (R.DIE_UNIT_RETIRE (n.val / 32)) (n.val % 32) with unretire := (n.val, s.up + 1) :: s.unretire }) ∧
  (∀ (p : Port) (n : Fin 128) (s : State), s.reaches p 0 = true → Settled s →
    s.bit (R.DIE_UNIT_RETIRE (n.val / 32)) (n.val % 32) = true → s.flag (R.LU_SENSE_STATUS n) F.LU_SENSE_STATUS_BUSY = true →
    ∃ t, exec (.luUnretire p n) s = .next t ∧ t.bit (R.DIE_UNIT_RETIRE (n.val / 32)) (n.val % 32) = false ∧ (n.val, s.up + 1) ∈ t.unretire ∧
      t.flag (R.LU_SENSE_STATUS n) F.LU_SENSE_STATUS_BUSY = false ∧ t.flag (R.LU_SENSE_STATUS n) F.LU_SENSE_STATUS_DONE = true ∧
      t.get (R.LU_SENSE_STATUS n) F.LU_SENSE_STATUS_CODE = 3 ∧ t.bit (R.EVT_STICKY evPkg) srcHK_RUN = true ∧ t.mem = s.mem) ∧
  (∀ (p : Port) (n : Fin 128) (s : State), s.reaches p 0 = true → Settled s →
    s.bit (R.DIE_UNIT_RETIRE (n.val / 32)) (n.val % 32) = false → exec (.luUnretire p n) s = .next (s.answer .done)) ∧
  (∀ (n : Fin 128) (s : State), s.ns = 0 →
    ∃ t, exec (.luUnretireApply n) s = .next t ∧ t.unretire = s.unretire.filter (fun u => u.1 != n.val || decide (s.up < u.2)) ∧
      t.mem = s.mem ∧ t.actMap = s.actMap ∧
      (s.bit (R.DIE_UNIT_RETIRE (n.val / 32)) (n.val % 32) = false → (∀ u ∈ s.unretire, u.1 = n.val → u.2 ≤ s.up) →
        t.retiredLU n = false) ∧
      (s.flag (R.LU_SENSE_STATUS n) F.LU_SENSE_STATUS_BUSY = false → ReactOnly s t)) ∧
  (∀ (n : Fin 128) (s : State), s.ns = 0 → Settled s → s.bit (R.DIE_UNIT_RETIRE (n.val / 32)) (n.val % 32) = false →
    (∀ u ∈ s.unretire, u.1 = n.val → u.2 ≤ s.up) → s.flag (R.LU_SENSE_STATUS n) F.LU_SENSE_STATUS_BUSY = true →
    ∃ t, exec (.luUnretireApply n) s = .next t ∧ t.retiredLU n = false ∧ t.flag (R.LU_SENSE_STATUS n) F.LU_SENSE_STATUS_BUSY = false ∧
      t.flag (R.LU_SENSE_STATUS n) F.LU_SENSE_STATUS_DONE = true ∧ t.get (R.LU_SENSE_STATUS n) F.LU_SENSE_STATUS_CODE = 3 ∧
      t.bit (R.EVT_STICKY evPkg) srcHK_RUN = true) ∧
  (∀ (n : Fin 128) (s : State), s.ns ≠ 0 → exec (.luUnretireApply n) s = .next s)

/-- R65, R254, R255: a system frame boundary ends the frame at 125,000 ns; the next frame of the epoch begins, and the slab index of every
region that has slabs advances by one, modulo its depth. That the frame ends by this command, and the order of what acts at it, are the
model's choice (notes/assumptions/8.md, 28.md). R248, R258, R259 and R264: the second boundary takes the readings of the Main DPLL and its
sample; a pending SET_SEC sets the seconds at a second boundary, and a pending ALIGN at an accepted SYNC_IN edge, unless a transaction is
live; an accepted edge gives its offset. The place of the second's commands within the boundary is the model's choice
(notes/assumptions/29.md), and so is that 3,615 samples are kept, so that the window stands behind the largest guard time of R248, and when
a run of samples begins (52.md). -/
def Obligations.FramesAndSecondsTurn : Prop :=
  (∀ (xchk : Bool) (s : State), s.services = true →
    ∃ t, exec (.frameBoundary xchk) s = .next t ∧ t.up = s.up + 1 ∧ t.frames = s.frames + 1 ∧ t.ns = 0 ∧ t.clk = s.clk + (125000 - s.ns) ∧
      t.pending = s.pending ∧ t.txGrains = [] ∧
      (∀ g : Fin 8, 0 < s.slabDepth g → s.slabDepth g ≤ 3 → t.slabRead g = (s.slabRead g + 1) % s.slabDepth g) ∧
      (∀ g : Fin 8, s.slabDepth g = 0 → t.slabRead g = s.slabRead g)) ∧
  ((∀ (f ph : Int) (s : State), s.onSecond = true → s.secUp ≠ s.up →
    ∃ t, exec (.secondBoundary f ph) s = .next t ∧ t.secUp = s.up ∧ t.rd R.TIME_MAIN_FREQ = wordOfInt f ∧
      t.rd R.TIME_MAIN_PHASE = wordOfInt ph ∧ t.frames = s.frames ∧
      (s.mainState = 2 → s.flag R.TIME_STATUS F.TIME_STATUS_SWITCHING = false →
        t.hist = (f :: s.hist).take 3615 ∧ t.histRun = s.histRun + 1) ∧
      (s.mainState ≠ 2 → s.mainState ≠ 4 → t.hist = s.hist ∧ t.histRun = 0)) ∧
  (∀ (f ph : Int) (s : State), s.onSecond = false ∨ s.secUp = s.up → exec (.secondBoundary f ph) s = .next s) ∧
  (∀ s : State, s.onSecond = true → s.secUp = s.up → s.flag R.TIME_SYNC_STATUS F.TIME_SYNC_STATUS_SET_PEND = true → s.anyLive = false →
    ∃ t, exec .setSecApply s = .next t ∧ t.frames = 8000 * s.tbSet ∧ t.ns = 0 ∧ t.secUp = s.up ∧
      t.flag R.TIME_SYNC_STATUS F.TIME_SYNC_STATUS_SET_PEND = false ∧ t.bit (R.EVT_STICKY evTime) srcTB = true) ∧
  (∀ s : State, s.onSecond = true → s.secUp = s.up → s.flag R.TIME_SYNC_STATUS F.TIME_SYNC_STATUS_SET_PEND = true → s.anyLive = true →
    ∃ t, exec .setSecApply s = .next t ∧ t.frames = s.frames ∧ t.ns = s.ns ∧ t.mem = s.mem ∧
      t.flag R.TIME_SYNC_STATUS F.TIME_SYNC_STATUS_SET_PEND = false ∧ t.flag R.TIME_SYNC_STATUS F.TIME_SYNC_STATUS_REJ = true ∧
      t.bit (R.EVT_STICKY evTime) srcSYNC_IN = true) ∧
  (∀ (ps : Fin 1000) (s : State), s.services = true → s.syncAccepts = true → s.ns < 125000 →
    s.flag R.TIME_SYNC_STATUS F.TIME_SYNC_STATUS_ALIGN_PEND = false →
    ∃ t, exec (.syncInEdge ps) s = .next t ∧ t.syncLast = some s.clk ∧ t.frames = s.frames ∧ t.ns = s.ns ∧
      t.flag R.TIME_SYNC_STATUS F.TIME_SYNC_STATUS_SYNC_LOS = false ∧
      (s.secPs ps < 2 ^ 31 → t.rd R.TIME_SYNC_OFS = wordOfInt (s.secPs ps)) ∧
      (10 ^ 12 - 2 ^ 31 ≤ s.secPs ps → t.rd R.TIME_SYNC_OFS = wordOfInt ((s.secPs ps : Int) - 10 ^ 12)) ∧
      (s.secPs ps ≤ 10 ^ 5 * s.get R.TIME_SYNC_CTRL F.TIME_SYNC_CTRL_WIN → s.secPs ps ≤ 5 * 10 ^ 11 →
        t.get R.TIME_SYNC_STATUS F.TIME_SYNC_STATUS_MISS = 0)) ∧
  (∀ (ps : Fin 1000) (s : State), s.services = true → s.syncAccepts = true → s.alignOK = true →
    s.flag R.TIME_SYNC_STATUS F.TIME_SYNC_STATUS_ALIGN_PEND = true →
    ∃ t, exec (.syncInEdge ps) s = .next t ∧ t.frames = 8000 * s.tbSet ∧ t.ns = 0 ∧ t.up = s.up + 1 ∧ t.syncLast = some s.clk ∧
      t.flag R.TIME_SYNC_STATUS F.TIME_SYNC_STATUS_ALIGN_PEND = false) ∧
  (∀ (ps : Fin 1000) (s : State), s.syncAccepts = false → exec (.syncInEdge ps) s = .next s))

-- Performance monitoring (11_performance_monitoring.md)

/-- R267 to R270: the close of a quarter writes records only into the slots of the binned entities, and every die then writes; when a die has
written, PM_LAST_Q and PM_LAST_D name what has closed, and Dd.PM_BIN counts. R267, R274, R278: DAY_OFS is brought to its range; the head of
the TCA log is delivered once; a read of a counter's LO register loads the HI snapshot of the port that reads, and an 8-byte read gives the
two halves of one value (R417). That COUNTER_LO_READ is a read of any BAR0 address is the model's choice (notes/assumptions/108.md). -/
def Obligations.QuartersCloseAndCountersAreRead : Prop :=
  ((∀ (q : Nat) (s : State), s.pmDue = some q →
    ∃ t, exec .pmQuarterClose s = .next t ∧ t.pmQ = s.pmQ + 1 ∧ (∀ d : Fin 4, ∃ day, (d.val, s.pmQ, day) ∈ t.pmClose) ∧
      t = { s with mem := t.mem, pm := t.pm, pmOfs := t.pmOfs, pmClose := t.pmClose, pmDue := none, pmQ := s.pmQ + 1 } ∧
      t.pm.map Prod.fst = s.pm.map Prod.fst ∧
      ∀ a, (∀ e ∈ s.pm, a < s.pmSlotAt (luDie (pmLink e.1)) e.2.slot ∨ s.pmSlotAt (luDie (pmLink e.1)) e.2.slot + 6656 ≤ a) →
        t.ldb a = s.ldb a) ∧
  (∀ s : State, s.pmDue = none → exec .pmQuarterClose s = .next s) ∧
  (∀ (d : Fin 4) (sram : Bool) (e : Nat × Nat × Option Int) (s : State), s.pmClose.find? (fun e => e.1 == d.val) = some e →
    ∃ t, exec (.pmBinWriteDone d sram) s = .next t ∧ t.rd (R.PM_LAST_Q d) = BitVec.ofNat 32 e.2.1 ∧
      (∀ day, e.2.2 = some day → t.rd (R.PM_LAST_D d) = wordOfInt day) ∧ t.pmClose = s.pmClose.erase e ∧
      t.bit (R.EVT_STICKY (evDie d)) srcPM_BIN = true ∧ (sram = true → t.bit (R.EVT_STICKY (evDie d)) srcSRAM = true) ∧ t.mem = s.mem ∧ t.pm = s.pm)) ∧
  ((∀ (p : Port) (d : Fin 4) (v : Word) (s : State), s.reaches p 0 = true →
    ∃ t, exec (.pmDayOfsWrite p d v) s = .next t ∧
      t.get (R.PM_CTRL d) F.PM_CTRL_DAY_OFS = clampNat 0 95 (fget v F.PM_CTRL_DAY_OFS) ∧ RegsOnly (fun r => r == R.PM_CTRL d) s t) ∧
  (∀ (p : Port) (d : Fin 4) (w : Word × Word × Word) (l : List (Word × Word × Word)) (s : State), s.reaches p 0 = true → s.tcaOf d = w :: l →
    ∃ t, exec (.pmTcaPop p d) s = .next t ∧ t.resp = .word w.1 ∧ t.rd (R.PM_TCA_DATA0 d) = w.1 ∧ t.rd (R.PM_TCA_DATA1 d) = w.2.1 ∧
      t.rd (R.PM_TCA_DATA2 d) = w.2.2 ∧ t.tcaOf d = l ∧
      t.get (R.PM_TCA_STATUS d) F.PM_TCA_STATUS_COUNT = l.length % 2 ^ F.PM_TCA_STATUS_COUNT.w ∧
      (∀ d' : Nat, d' ≠ d.val → t.tcaOf d' = s.tcaOf d') ∧
      RegsOnly (fun r => r == R.PM_TCA_DATA0 d || r == R.PM_TCA_DATA1 d || r == R.PM_TCA_DATA2 d || r == R.PM_TCA_STATUS d)
        { s with tcaLog := t.tcaLog } t) ∧
  (∀ (p : Port) (d : Fin 4) (s : State), s.reaches p 0 = true → s.tcaOf d = [] →
    ∃ t, exec (.pmTcaPop p d) s = .next t ∧ t.flag (R.PM_TCA_DATA0 d) F.PM_TCA_DATA0_VALID = false ∧ t.resp = .word (t.rd (R.PM_TCA_DATA0 d)) ∧
      RegsOnly (fun r => r == R.PM_TCA_DATA0 d) s t) ∧
  (∀ (p : Port) (a : BitVec 28) (sub : Fin 1024) (k : Blk) (x off : Nat) (s : State), s.reaches p (regTarget (.counterLoRead p a 4 sub)) = true →
    bar0 a.toNat = .reg k x off → a.toNat % 4 = 0 → (counterAt k off).isSome = true →
    let r : RegId := ⟨k, x, off, 0⟩
    ∃ t, exec (.counterLoRead p a 4 sub) s = .next t ∧ t.resp = .word (s.rd r) ∧
      look (fun _ => 0) t.snaps { r with held := p.toNat } = s.rd { r with off := off + 4 } ∧
      t = { s with snaps := t.snaps, resp := t.resp }) ∧
  (∀ (p : Port) (a : BitVec 28) (sub : Fin 1024) (k : Blk) (x off : Nat) (s : State), s.reaches p (regTarget (.counterLoRead p a 8 sub)) = true →
    bar0 a.toNat = .reg k x off → bar0 (a.toNat + 4) = .reg k x (off + 4) → a.toNat % 4 = 0 → (counterAt k off).isSome = true →
    let r : RegId := ⟨k, x, off, 0⟩
    ∃ t, exec (.counterLoRead p a 8 sub) s = .next t ∧ t.resp = .bytes (wordBytes (s.rd r) ++ wordBytes (s.rd { r with off := off + 4 })) ∧
      t = { s with snaps := t.snaps, resp := t.resp }))

/-- R272, R279: what the operations of PM_IND_CTRL do where their codes are OK: read, enable, disable, by entity and by link unit, and set the
configuration; OP 6 and 7 end with CODE FIELD and change nothing else. -/
def Obligations.PmOperations : Prop :=
  (∀ (p : Port) (d layer : Fin 4) (a3 : Bool) (ta : TA) (e : PmEnt) (s : State), s.reaches p 0 = true →
    s.pmCode d 0 layer a3 ta = pcOK → s.pmEnt (pmKey layer a3 ta) = some e → e.slot < 2 ^ F.PM_IND_STATUS_SLOT.w →
    ∃ t, exec (.pmRead p d layer a3 ta) s = .next t ∧ t.get (R.PM_IND_STATUS d) F.PM_IND_STATUS_CODE = pcOK ∧
      t.flag (R.PM_IND_STATUS d) F.PM_IND_STATUS_DONE = true ∧ t.get (R.PM_IND_STATUS d) F.PM_IND_STATUS_SLOT = e.slot ∧
      t.rd (R.PM_IND_CFG p d) = e.cfg ∧
      (∀ i : Fin 16, t.rd (R.PM_IND_DATA d i) =
        (pmRecord 0 (pmKey layer a3 ta) (s.pmQ : Nat) e.quarter).getD i 0) ∧ t.pm = s.pm ∧ t.mem = s.mem) ∧
  (∀ (p : Port) (d layer : Fin 4) (a3 : Bool) (ta : TA) (i : Nat) (s : State), s.reaches p 0 = true → layer ≠ 3 →
    s.pmExists d layer a3 ta = true → s.clusterPowered (luCluster (taLink ta)) = true → (s.pmEnt (pmKey layer a3 ta)).isNone = true →
    s.pmFreeSlot d = some i →
    ∃ t e, exec (.pmEnable p d layer a3 ta) s = .next t ∧ t.get (R.PM_IND_STATUS d) F.PM_IND_STATUS_CODE = pcOK ∧
      t.flag (R.PM_IND_STATUS d) F.PM_IND_STATUS_DONE = true ∧ t.get (R.PM_IND_STATUS d) F.PM_IND_STATUS_SLOT = i ∧
      t.pmEnt (pmKey layer a3 ta) = some e ∧ e.slot = i ∧ e.cfg = s.pmCfg p d ∧ e.quarter = emptyBin true ∧ e.day = emptyBin true ∧
      ∀ a, a < s.pmSlotAt d i ∨ s.pmSlotAt d i + 6656 ≤ a → t.ldb a = s.ldb a) ∧
  (∀ (p : Port) (d layer : Fin 4) (a3 : Bool) (ta : TA) (s : State), s.reaches p 0 = true → layer ≠ 3 →
    s.pmExists d layer a3 ta = true → s.clusterPowered (luCluster (taLink ta)) = true → (s.pmEnt (pmKey layer a3 ta)).isSome = true →
    ∃ t, exec (.pmEnable p d layer a3 ta) s = .next t ∧ t.get (R.PM_IND_STATUS d) F.PM_IND_STATUS_CODE = pcALREADY ∧
      RegsOnly (fun r => r == R.PM_IND_CTRL p d || r == R.PM_IND_STATUS d) s t) ∧
  (∀ (p : Port) (d layer : Fin 4) (a3 : Bool) (ta : TA) (s : State), s.reaches p 0 = true → s.pmCode d 2 layer a3 ta = pcOK →
    ∃ t, exec (.pmDisable p d layer a3 ta) s = .next t ∧ t.get (R.PM_IND_STATUS d) F.PM_IND_STATUS_CODE = pcOK ∧
      t.pm = s.pm.filter (fun e => e.1 != pmKey layer a3 ta) ∧ t.pmEnt (pmKey layer a3 ta) = none ∧ t.mem = s.mem) ∧
  (∀ (p : Port) (d layer : Fin 4) (a3 : Bool) (ta : TA) (s : State), s.reaches p 0 = true → s.pmCode d 3 layer a3 ta = pcOK →
    ∃ t, exec (.pmEnableLu p d layer a3 ta) s = .next t ∧ t.get (R.PM_IND_STATUS d) F.PM_IND_STATUS_CODE = pcOK ∧
      taLink ta ∈ t.pmAuto ∧ ∀ k ∈ s.pmLuAll (taLink ta), (t.pmEnt k).isSome = true) ∧
  (∀ (p : Port) (d layer : Fin 4) (a3 : Bool) (ta : TA) (s : State), s.reaches p 0 = true → s.pmCode d 4 layer a3 ta = pcOK →
    ∃ t, exec (.pmDisableLu p d layer a3 ta) s = .next t ∧ t.get (R.PM_IND_STATUS d) F.PM_IND_STATUS_CODE = pcOK ∧
      t.pmAuto = s.pmAuto.filter (fun x => x != taLink ta) ∧ t.pm = s.pm.filter (fun e => pmLink e.1 != taLink ta) ∧ t.mem = s.mem) ∧
  (∀ (p : Port) (d layer : Fin 4) (a3 : Bool) (ta : TA) (e : PmEnt) (s : State), s.reaches p 0 = true → s.pmCode d 5 layer a3 ta = pcOK →
    s.pmEnt (pmKey layer a3 ta) = some e →
    ∃ t, exec (.pmSetCfg p d layer a3 ta) s = .next t ∧ t.get (R.PM_IND_STATUS d) F.PM_IND_STATUS_CODE = pcOK ∧
      t.pmEnt (pmKey layer a3 ta) = some { e with cfg := s.pmCfg p d } ∧
      RegsOnly (fun r => r == R.PM_IND_CTRL p d || r == R.PM_IND_STATUS d) { s with pm := t.pm } t) ∧
  (∀ (p : Port) (d : Fin 4) (seven : Bool) (layer : Fin 4) (a3 : Bool) (ta : TA) (s : State), s.reaches p 0 = true →
    ∃ t, exec (.pmOpInvalid p d seven layer a3 ta) s = .next t ∧ t.get (R.PM_IND_STATUS d) F.PM_IND_STATUS_CODE = pcFIELD ∧
      t.flag (R.PM_IND_STATUS d) F.PM_IND_STATUS_DONE = true ∧
      RegsOnly (fun r => r == R.PM_IND_CTRL p d || r == R.PM_IND_STATUS d) s t)

-- TG links and the redundant pair (09_pair_tg_links.md)

/-- R210, R215: a TG frame received in IF is descrambled; its header and the CRC-16 of each of its 152 blocks are checked and counted, and a
header that passes loads RX0 and the partner. R222, R223: a mate frame that meets R222 brings the link up and gives MATE_ACTIVE and the
offset; the third in a row that does not brings it down; ALIGNED follows the offset. What a mate frame carries beside its header, and that
ALIGNED clears with the link, are the model's choice (notes/assumptions/54.md). -/
def Obligations.TgAndMateFramesAreChecked : Prop :=
  (∀ (n : Fin 128) (bits : List Byte) (first : Int) (pipe : Nat) (s : State), s.isTG n = true → s.secBit n sLOS = false →
    (s.secSt n).inFrame = true → bits.length = tgBytes → s.rxStopped n = false →
    let f := tgScramble bits
    let h := (f.drop 8).take 64
    let fails := (((List.range 152).map (fun k => (f.drop (72 + 1282 * k)).take 1282)).filter
      (fun b => !((crc16 (b.take 1280)).toNat == beAt b 1280 2))).length
    ∃ t, exec (.tgFrameReceive n bits first pipe) s = .next t ∧ (t.tgSt n).got = true ∧
      t.ctr (ctrTgBlk n) = (s.ctr (ctrTgBlk n) + fails) % 2 ^ 48 ∧
      (be (f.take 8) = tgFaw → (t.secSt n).inFrame = true ∧ (t.secSt n).errRun = 0) ∧
      (tgHeaderOK h 0 = true → t.rd (R.LU_TG_RX0 n) = BitVec.ofNat 32 (beAt h 0 4) ∧ t.rd (R.LU_PARTNER1 n) = BitVec.ofNat 32 (beAt h 8 4) ∧
        t.ctr (ctrTgHdr n) = s.ctr (ctrTgHdr n)) ∧
      (tgHeaderOK h 0 = false → t.ctr (ctrTgHdr n) = (s.ctr (ctrTgHdr n) + 1) % 2 ^ 48 ∧ t.rd (R.LU_TG_RX0 n) = s.rd (R.LU_TG_RX0 n))) ∧
  (∀ (hdr : List Byte) (theta : Int) (arb shadow mirror : Bool) (dly : List (BitVec 16)) (s1s : List (Fin 16)) (cf : Word)
    (crcs : List (Nat × Word)) (yoke : Bool) (s : State), hdr.length = 64 → tgHeaderOK hdr 1 = true → ((beAt hdr 6 1).testBit 7 != s.sideB) = true →
    ∃ t, exec (.mateFrameReceive true hdr theta arb shadow mirror dly s1s cf crcs yoke) s = .next t ∧ t.mateUp = true ∧ t.mateBad = 0 ∧
      t.theta = theta ∧ t.flag R.PAIR_STATUS F.PAIR_STATUS_MATE_ACTIVE = (beAt hdr 7 1).testBit 7 ∧ t.mateShadow = shadow ∧
      (dly.length ≤ 128 → t.rd R.PAIR_OFFSET = wordOfInt (s.delta theta (sInt 32 (beAt hdr 16 4))))) ∧
  (∀ (hdr : List Byte) (theta : Int) (arb shadow mirror : Bool) (dly : List (BitVec 16)) (s1s : List (Fin 16)) (cf : Word)
    (crcs : List (Nat × Word)) (yoke : Bool) (s : State), s.mateBad < 2 →
    ∃ t, exec (.mateFrameReceive false hdr theta arb shadow mirror dly s1s cf crcs yoke) s = .next t ∧ t.mateBad = s.mateBad + 1 ∧
      t.mateUp = s.mateUp ∧ t.yokeMate = yoke ∧ t.theta = s.theta ∧ t.mem = s.mem ∧ t.actMap = s.actMap) ∧
  (∀ (hdr : List Byte) (theta : Int) (arb shadow mirror : Bool) (dly : List (BitVec 16)) (s1s : List (Fin 16)) (cf : Word)
    (crcs : List (Nat × Word)) (yoke : Bool) (s : State), s.mateBad = 2 → s.mateUp = true →
    ∃ t, exec (.mateFrameReceive false hdr theta arb shadow mirror dly s1s cf crcs yoke) s = .next t ∧ t.mateUp = false ∧ t.mateBad = 3 ∧
      t.flag R.PAIR_STATUS F.PAIR_STATUS_ALIGNED = false ∧ t.flag R.TXN_MIRROR_CTRL F.TXN_MIRROR_CTRL_MATE_OK = false ∧
      t.bit (R.EVT_STICKY evPair) srcMATE_LINK = true) ∧
  (∀ s : State, s.mateUp = true → (s.rd R.PAIR_OFFSET).toInt.natAbs ≤ 60 → s.timerDone alignKey = true →
    ∃ t, exec .alignQualify s = .next t ∧ t.flag R.PAIR_STATUS F.PAIR_STATUS_ALIGNED = true ∧ t.mem = s.mem) ∧
  (∀ s : State, s.mateUp = true → 80 < (s.rd R.PAIR_OFFSET).toInt.natAbs →
    ∃ t, exec .alignQualify s = .next t ∧ t.flag R.PAIR_STATUS F.PAIR_STATUS_ALIGNED = false ∧ t.mem = s.mem)

/-- R224 to R226: the handover of the outputs and of the yoke between the two packages of a pair, planned and unplanned. An unplanned take waits
until the yoke has been high for its time, and drives from the instant at which it takes. In a part that is held in reset or has no power
ARB_SEL is only noted and nothing is taken; that, and one event for each wait, are the model's choice (notes/assumptions/54.md, 109.md). -/
def Obligations.OutputsAreHandedOver : Prop :=
  (∀ (low : Bool) (s : State), s.pwr = .run → s.arbSel ≠ low → ∃ t, exec (.arbSelChange low) s = .next t ∧ t.arbSel = low ∧ t.arbLow = low ∧ t.mem = s.mem) ∧
  (∀ (low : Bool) (s : State), s.pwr ≠ .run → exec (.arbSelChange low) s = .next { s with arbLow := low }) ∧
  (∀ (high : Nat) (s : State), s.pwr ≠ .run → exec (.yokeTakeUnplanned high) s = .next s) ∧
  (∀ (f : Nat) (s : State), s.pwr = .run → s.arbSel = true → s.held = false → s.hoTake = some (f, true) → s.hoAgreed = none →
    ∃ t, exec (.arbSelChange false) s = .next t ∧ t.hoTake = none ∧ t.hoAgreed = none ∧ t.hoOp = (3, f)) ∧
  (∀ s : State, s.pwr = .run → s.arbSel = true → s.held = true → s.mateUp = false → s.hoTake = none → s.hoAgreed = none →
    ∃ t, exec (.arbSelChange false) s = .next t ∧ t.held = false ∧ t.drive = false ∧
      t.ctr ctrHoUnplanned = (s.ctr ctrHoUnplanned + 1) % 2 ^ 48) ∧
  (∀ s : State, s.canTake = true →
    ∃ t, exec .hoTakeSend s = .next t ∧
      t.hoTake = some ((s.fn + s.get R.PAIR_CTRL F.PAIR_CTRL_HO_LEAD) % 2 ^ 32, true) ∧
      t.hoOp = (1, (s.fn + s.get R.PAIR_CTRL F.PAIR_CTRL_HO_LEAD) % 2 ^ 32) ∧ t.mem = s.mem) ∧
  (∀ (f : Word) (s : State), s.mateUp = true → s.held = true → s.hoAgreed = none → s.arbSel = false →
    ∃ t, exec (.mateTakeReceive f) s = .next t ∧ t.hoAgreed = some (f.toNat, true) ∧ t.hoTake = none ∧ t.hoOp = (2, f.toNat) ∧
      t.rd R.PAIR_HO_FN = f ∧ t.held = true ∧ t.drive = s.drive) ∧
  (∀ (f : Word) (s : State), s.mateUp = true → s.held = true → s.hoAgreed = none → s.arbSel = true →
    ∃ t, exec (.mateTakeReceive f) s = .next t ∧ t.hoAgreed = none ∧ t.hoTake = some (f.toNat, false) ∧ t.held = true) ∧
  (∀ (f : Word) (s : State), s.hoTake = some (f.toNat, true) → s.hoAgreed = none → 2 ≤ s.framesTo f.toNat →
    ∃ t, exec (.mateAckReceive f) s = .next t ∧ t.hoAgreed = some (f.toNat, false) ∧ t.hoTake = none ∧ t.held = true ∧
      t.flag R.PAIR_STATUS F.PAIR_STATUS_YOKE_LOW = true ∧ t.rd R.PAIR_HO_FN = f ∧ t.drive = s.drive) ∧
  (∀ (f : Word) (s : State), s.hoTake = some (f.toNat, true) → s.hoAgreed = none → s.framesTo f.toNat < 2 →
    ∃ t, exec (.mateAckReceive f) s = .next t ∧ t.hoAgreed = none ∧ t.hoTake = none ∧ t.held = s.held) ∧
  (∀ (f : Word) (s : State), s.hoTake = some (f.toNat, false) → s.hoAgreed = none →
    ∃ t, exec (.mateRefuseReceive f) s = .next t ∧ t.hoTake = none ∧ t.hoAgreed = none) ∧
  (∀ (f : Word) (s : State), s.hoTake = none → s.hoAgreed = some (f.toNat, true) → s.hoDone = false →
    ∃ t, exec (.mateRefuseReceive f) s = .next t ∧ t.hoTake = none ∧ t.hoAgreed = none) ∧
  (∀ (out : Bool) (s : State), s.hoAgreed = some (s.fn, out) → s.hoDone = false →
    ∃ t, exec .hoSwitch s = .next t ∧ t.drive = !out ∧ t.driveAt = (s.up, 0) ∧ t.hoDone = true ∧ t.hoAgreed = s.hoAgreed ∧ t.mem = s.mem) ∧
  (∀ (low : Bool) (f : Nat) (s : State), s.hoAgreed = some (f, true) → s.hoDone = true → s.fn = f → 1000 ≤ s.ns →
    ∃ t, exec (.hoYokeRelease low) s = .next t ∧ t.held = false ∧ t.hoAgreed = none ∧
      t.ctr (if low then ctrHoPlanned else ctrHoUnplanned) = (s.ctr (if low then ctrHoPlanned else ctrHoUnplanned) + 1) % 2 ^ 48 ∧
      t.bit (R.EVT_STICKY evPair) srcHANDOVER = true) ∧
  (∀ (low : Bool) (f : Nat) (s : State), s.hoAgreed = some (f, false) → s.hoTake = none → s.hoDone = true → s.fn = f → 1000 ≤ s.ns →
    ∃ t, exec (.hoYokeRelease low) s = .next t ∧ t.hoAgreed = none ∧ t.hoDone = false ∧
      t.ctr ctrHoPlanned = (s.ctr ctrHoPlanned + 1) % 2 ^ 48) ∧
  (∀ (high : Nat) (s : State), s.pwr = .run → s.arbSel = true → s.held = false → s.hoAgreed = none → s.mateUp = false ∨ 2 ≤ s.mateIdle →
    s.yokeWait ≤ high →
    ∃ t, exec (.yokeTakeUnplanned high) s = .next t ∧ t.held = true ∧ t.drive = true ∧ t.driveAt = (s.up, s.ns) ∧
      t.ctr ctrHoUnplanned = (s.ctr ctrHoUnplanned + 1) % 2 ^ 48) ∧
  (∀ s : State, s.held = true → s.arbSel = false → s.mateUp = true → s.timerDone (hoWaitKey 1) = true →
    ∃ t, exec .hoTakeWaitTimeout s = .next t ∧ t.held = true ∧ t.hoWaited = true ∧ t.timer (hoWaitKey 1) = none ∧
      t.bit (R.EVT_STICKY evPair) srcARB = true ∧ (s.due = [] → NoteOnly ({ s with hoWaited := true }.stopTimer (hoWaitKey 1)) t)) ∧
  (∀ (high : Nat) (s : State), s.arbSel = true → high < s.yokeWait → exec (.yokeTakeUnplanned high) s = .next s)

-- Timing (10_timing.md)

/-- R233, R235 to R237 and R243: a reference is enabled into FAILED and disabled at once; loss of activity fails it and, where it is the one in
use, the Main DPLL holds; a gate that has run its time under activity gives its offset, begins the next and moves qualification by the
limits; WTR ends in QUALIFIED; a dispute ends. The instant within a frame at which a reference is judged, and when its first gate begins,
are the model's choice (notes/assumptions/51.md, 97.md). -/
def Obligations.ReferencesQualify : Prop :=
  (∀ (p : Port) (r : Fin 16) (v : Word) (s : State), s.reaches p 0 = true → s.qState r = 0 →
    ∃ t, exec (.refEnable p r v) s = .next t ∧ t.qState r = 1 ∧ t.flag (R.TIME_REF_CFG0 r) F.TIME_REF_CFG0_ENABLE = true ∧
      t.get (R.TIME_REF_CFG0 r) F.TIME_REF_CFG0_WTR = clampNat 0 720 (fget v F.TIME_REF_CFG0_WTR) ∧
      t.bit (R.EVT_STICKY evTime) r = true ∧ t.refEff = s.refEff ∧ t.mem = s.mem) ∧
  (∀ (p : Port) (r : Fin 16) (v : Word) (s : State), s.reaches p 0 = true → Settled s → s.qState r ≠ 0 →
    ∃ t, exec (.refEnable p r v) s = .next t ∧ t.flag (R.TIME_REF_CFG0 r) F.TIME_REF_CFG0_ENABLE = true ∧
      t.get (R.TIME_REF_CFG0 r) F.TIME_REF_CFG0_WTR = clampNat 0 720 (fget v F.TIME_REF_CFG0_WTR) ∧
      RegsOnly (fun x => x == R.TIME_REF_CFG0 r) s t) ∧
  (∀ (p : Port) (r : Fin 16) (v : Word) (s : State), s.reaches p 0 = true → s.qState r ≠ 0 →
    ∃ t, exec (.refDisable p r v) s = .next t ∧ t.qState r = 0 ∧ t.refActive r = false ∧ t.timer (refWtrKey r) = none ∧
      t.flag (R.TIME_REF_CFG0 r) F.TIME_REF_CFG0_ENABLE = false ∧ t.bit (R.EVT_STICKY evTime) r = true ∧ t.mem = s.mem) ∧
  (∀ (r : Fin 16) (s : State), s.qState r ≠ 0 → s.refActive r = true → r.val < 8 ∨ s.lineRefDead (s.refLU r) = true →
    ∃ t, exec (.refActivityLoss r) s = .next t ∧ t.refActive r = false ∧ t.qState r = 1 ∧ t.timer (refGateKey r) = none ∧
      (s.mainUses r = true → t.mainHold = true) ∧ (s.mainUses r = false → t.mainHold = s.mainHold) ∧ t.mem = s.mem) ∧
  (∀ (r : Fin 16) (s : State), Settled s → s.qState r ≠ 0 → s.refActive r = false → r.val < 8 ∨ s.lineRefDead (s.refLU r) = false →
    ∃ t, exec (.refActivityReturn r) s = .next t ∧ t.refActive r = true ∧ t.qState r = s.qState r ∧ t.timerOn (refGateKey r) = true ∧
      RegsOnly (fun x => x == R.TIME_REF_STATUS r) { s with timers := t.timers } t) ∧
  (∀ (r : Fin 16) (off : Word) (s : State), s.qState r ≠ 0 → s.refActive r = true → s.refReserved r = false →
    s.timerDone (refGateKey r) = true →
    let a := off.toInt.natAbs
    ∃ t, exec (.refGateResult r off) s = .next t ∧ t.rd (R.TIME_REF_FOFF r) = off ∧ t.timerOn (refGateKey r) = true ∧
      t.flag (R.TIME_REF_STATUS r) F.TIME_REF_STATUS_IN_ACCEPT = decide (a ≤ 10 ^ 6 * s.rc1 r F.TIME_REF_CFG1_ACCEPT) ∧
      (10 ^ 6 * s.rc1 r F.TIME_REF_CFG1_REJECT < a → t.qState r = 1) ∧
      (a ≤ 10 ^ 6 * s.rc1 r F.TIME_REF_CFG1_REJECT → a ≤ 10 ^ 6 * s.rc1 r F.TIME_REF_CFG1_ACCEPT → s.qState r = 1 →
        t.qState r = if s.rc0 r F.TIME_REF_CFG0_WTR = 0 then 3 else 2) ∧
      (a ≤ 10 ^ 6 * s.rc1 r F.TIME_REF_CFG1_REJECT → 2 ≤ s.qState r → t.qState r = s.qState r)) ∧
  (∀ (r : Fin 16) (s : State), s.qState r = 2 → s.timerDone (refWtrKey r) = true →
    ∃ t, exec (.refWtrExpire r) s = .next t ∧ t.qState r = 3 ∧ t.timer (refWtrKey r) = none ∧
      t.get (R.TIME_REF_STATUS r) F.TIME_REF_STATUS_WTR_LEFT = 0 ∧ t.bit (R.EVT_STICKY evTime) r = true ∧ t.mem = s.mem) ∧
  (∀ (r : Fin 16) (s : State), s.refDisputed r = true → s.timerDone (disputeKey r) = true →
    ∃ t, exec (.disputeClear r) s = .next t ∧ t.refDisputed r = false ∧ t.timer (disputeKey r) = none ∧
      t.qState r = s.qState r ∧ t.bit (R.EVT_STICKY evTime) r = true ∧ t.mem = s.mem)

/-- R242, R262: the five codes of TIME_MAIN_CMD; REF is brought to its range. They act from the next boundary, so nothing else changes. R246 to
R249, R253 and R255: the DPLLs lock, SWITCHING ends, and the loss of OSC_IN brings all four to FREERUN. -/
def Obligations.DpllsFollowCommandsAndClocks : Prop :=
  (∀ (p : Port) (r : Fin 32) (s : State), s.reaches p 0 = true →
    let gives (c : Instr) (cmd : Nat) : Prop := ∃ t, exec c s = .next t ∧ t.get R.TIME_MAIN_CMD F.TIME_MAIN_CMD_CMD = cmd ∧
      t.get R.TIME_MAIN_CMD F.TIME_MAIN_CMD_REF = min r.val 15 ∧ RegsOnly (fun x => x == R.TIME_MAIN_CMD) s t
    gives (.mainCmdAuto p r) 0 ∧ gives (.mainCmdForce p r) 1 ∧ gives (.mainCmdManual p r) 2 ∧ gives (.mainCmdHoldover p r) 3 ∧
      gives (.mainCmdFreerun p r) 4) ∧
  ((∀ s : State, s.mainState = 1 → ∃ t, exec (.dpllLockAchieved 0) s = .next t ∧ t.mainState = 2 ∧ t.bit (R.EVT_STICKY evTime) srcMAIN = true ∧
    t.get R.TIME_STATUS F.TIME_STATUS_STN_STATE = s.get R.TIME_STATUS F.TIME_STATUS_STN_STATE ∧ t.mem = s.mem) ∧
  (∀ s : State, s.get R.TIME_STATUS F.TIME_STATUS_STN_STATE = 1 →
    ∃ t, exec (.dpllLockAchieved 1) s = .next t ∧ t.get R.TIME_STATUS F.TIME_STATUS_STN_STATE = 2 ∧ t.mainState = s.mainState ∧
      t.bit (R.EVT_STICKY evTime) srcSTATION = true) ∧
  (∀ s : State, s.get R.TIME_STATUS F.TIME_STATUS_AUX_STATE = 1 →
    ∃ t, exec (.dpllLockAchieved 2) s = .next t ∧ t.get R.TIME_STATUS F.TIME_STATUS_AUX_STATE = 2 ∧ t.mainState = s.mainState ∧
      t.bit (R.EVT_STICKY evTime) srcAUX = true) ∧
  (∀ s : State, s.oscIn = true →
    ∃ t, exec (.dpllLockAchieved 3) s = .next t ∧ t.flag R.TIME_STATUS F.TIME_STATUS_TB_LOCK = true ∧
      RegsOnly (fun x => x == R.TIME_STATUS) s t) ∧
  (∀ s : State, ∃ t, exec .switchingClear s = .next t ∧ t.flag R.TIME_STATUS F.TIME_STATUS_SWITCHING = false ∧ t.mainState = s.mainState ∧
    RegsOnly (fun x => x == R.TIME_STATUS) s t) ∧
  (∀ s : State, s.pwr = .run → s.oscIn = true →
    ∃ t, exec .oscInLoss s = .next t ∧ t.oscIn = false ∧ t.mainState = 0 ∧ t.get R.TIME_STATUS F.TIME_STATUS_STN_STATE = 0 ∧
      t.get R.TIME_STATUS F.TIME_STATUS_AUX_STATE = 0 ∧ t.flag R.TIME_STATUS F.TIME_STATUS_TB_LOCK = false ∧
      t.bit (R.EVT_LIVE evTime) srcOSC = true ∧ t.bit (R.EVT_STICKY evTime) srcOSC = true ∧ t.mem = s.mem) ∧
  (∀ s : State, s.flag R.TIME_STATUS F.TIME_STATUS_TB_LOCK = true →
    ∃ t, exec .tbLockLoss s = .next t ∧ t.flag R.TIME_STATUS F.TIME_STATUS_TB_LOCK = false ∧ t.bit (R.EVT_STICKY evTime) srcTB = true ∧
      (s.due = [] → NoteOnly (s.put R.TIME_STATUS F.TIME_STATUS_TB_LOCK 0) t)))

/-- R258, R259, R417: the host arms ALIGN and SET_SEC, or they are refused with REJ while they may not be carried out; SYNC_LOS; the read of the
time base latches its four words. -/
def Obligations.TimeBaseIsSetAndRead : Prop :=
  (∀ s : State, s.syncIn = true → s.timerDone syncLosKey = true →
    ∃ t, exec .syncLosTimeout s = .next t ∧ t.flag R.TIME_SYNC_STATUS F.TIME_SYNC_STATUS_SYNC_LOS = true ∧ t.timer syncLosKey = none ∧
      t.mem = s.mem) ∧
  (∀ (p : Port) (v : Word) (s : State), s.reaches p 0 = true → fget v F.TIME_SYNC_CTRL_IN_MODE = 1 → s.driving = false → s.anyLive = false →
    ∃ t, exec (.syncAlign p v) s = .next t ∧ t.flag R.TIME_SYNC_STATUS F.TIME_SYNC_STATUS_ALIGN_PEND = true ∧ t.syncIn = true ∧
      t.get R.TIME_SYNC_CTRL F.TIME_SYNC_CTRL_WIN = clampNat 1 625 (fget v F.TIME_SYNC_CTRL_WIN) ∧ t.frames = s.frames) ∧
  (∀ (p : Port) (v : Word) (s : State), s.reaches p 0 = true → s.driving = true ∨ s.anyLive = true ∨ fget v F.TIME_SYNC_CTRL_IN_MODE ≠ 1 →
    ∃ t, exec (.syncAlign p v) s = .next t ∧ t.flag R.TIME_SYNC_STATUS F.TIME_SYNC_STATUS_ALIGN_PEND = false ∧
      t.flag R.TIME_SYNC_STATUS F.TIME_SYNC_STATUS_REJ = true ∧ t.bit (R.EVT_STICKY evTime) srcSYNC_IN = true) ∧
  (∀ (p : Port) (v : Word) (s : State), s.reaches p 0 = true → s.anyLive = false →
    ∃ t, exec (.syncSetSec p v) s = .next t ∧ t.flag R.TIME_SYNC_STATUS F.TIME_SYNC_STATUS_SET_PEND = true ∧ t.frames = s.frames) ∧
  (∀ (p : Port) (v : Word) (s : State), s.reaches p 0 = true → s.anyLive = true →
    ∃ t, exec (.syncSetSec p v) s = .next t ∧ t.flag R.TIME_SYNC_STATUS F.TIME_SYNC_STATUS_SET_PEND = false ∧
      t.flag R.TIME_SYNC_STATUS F.TIME_SYNC_STATUS_REJ = true) ∧
  (∀ (p : Port) (sub : Fin 1024) (s : State), s.reaches p 0 = true →
    let ns := 125000 * (s.frames % 8000) + s.ns
    ∃ t, exec (.tbSnapshotRead p sub) s = .next t ∧ t.resp = .word (t.rd R.TIME_TB_W0) ∧
      t.rd R.TIME_TB_W0 = BitVec.ofNat 32 (2 ^ 18 * (ns % 2 ^ 14) + 2 ^ 8 * sub.val) ∧
      t.rd R.TIME_TB_W1 = BitVec.ofNat 32 (2 ^ 16 * (s.frames / 8000 % 2 ^ 16) + ns / 2 ^ 14) ∧
      t.rd R.TIME_TB_W2 = BitVec.ofNat 32 (s.frames / 8000 % 2 ^ 48 / 2 ^ 16) ∧
      t.rd R.TIME_TB_FN = BitVec.ofNat 32 (s.frames % 2 ^ 32) ∧
      RegsOnly (fun x => x == R.TIME_TB_W0 || x == R.TIME_TB_W1 || x == R.TIME_TB_W2 || x == R.TIME_TB_FN) s t)

-- Skim (12_skim_pour.md)

/-- R285, R299: the operations on the tap list of a job that may change it, the fetch of a list, all of it or none, with CODE 6 where a word
cannot be read (R311, R325), which waits while an access to the memory would (R314, R329; notes/assumptions/87.md), and the operations of a
PRBS analyser; an operation on a job that may not change its taps ends with CODE STATE. -/
def Obligations.TapListsAndAnalysersChange : Prop :=
  (∀ (p : Port) (d : Fin 4) (j code : Fin 8) (s : State), s.reaches p 0 = true →
    s.flag (R.SKIM_TAP_STATUS d) F.SKIM_TAP_STATUS_BUSY = false → skIdle (s.skSt d j) = true → s.skTapCode d (s.skEntry p d code) = 0 →
    ∃ t, exec (.skimTapAdd p d j code) s = .next t ∧ (t.sk d j).taps = (s.sk d j).taps ++ [(s.skEntry p d code, 0, 0)] ∧
      t.rd (R.SKIM_TAP_STATUS d) = 0x80000000 ∧ t.mem = s.mem ∧ ∀ i : Fin 8, i ≠ j → t.sk d i = s.sk d i) ∧
  (∀ (p : Port) (d : Fin 4) (j code : Fin 8) (s : State), s.reaches p 0 = true →
    s.flag (R.SKIM_TAP_STATUS d) F.SKIM_TAP_STATUS_BUSY = false → skIdle (s.skSt d j) = false → tapField (s.skEntry p d code) = true →
    ∃ t, exec (.skimTapAdd p d j code) s = .next t ∧ t.skJobs = s.skJobs ∧ t.get (R.SKIM_TAP_STATUS d) F.SKIM_TAP_STATUS_CODE = 2) ∧
  (∀ (p : Port) (d : Fin 4) (j code : Fin 8) (s : State), s.reaches p 0 = true →
    s.flag (R.SKIM_TAP_STATUS d) F.SKIM_TAP_STATUS_BUSY = false → skIdle (s.skSt d j) = true → tapField (s.skEntry p d code) = true →
    code.val ≤ 4 →
    ∃ t, exec (.skimTapRemove p d j code) s = .next t ∧
      (t.sk d j).taps = (s.sk d j).taps.filter (fun e => e.1 != s.skEntry p d code) ∧ t.rd (R.SKIM_TAP_STATUS d) = 0x80000000 ∧
      t.mem = s.mem ∧ ∀ i : Fin 8, i ≠ j → t.sk d i = s.sk d i) ∧
  (∀ (p : Port) (d : Fin 4) (j code : Fin 8) (s : State), s.reaches p 0 = true →
    s.flag (R.SKIM_TAP_STATUS d) F.SKIM_TAP_STATUS_BUSY = false → skIdle (s.skSt d j) = true → tapField (s.skEntry p d code) = true →
    4 < code.val →
    ∃ t, exec (.skimTapRemove p d j code) s = .next t ∧ t.get (R.SKIM_TAP_STATUS d) F.SKIM_TAP_STATUS_CODE = 3 ∧
      RegsOnly (fun r => r == R.SKIM_TAP_CTRL p d || r == R.SKIM_TAP_STATUS d) (s.skShow d) t) ∧
  (∀ (p : Port) (d : Fin 4) (j : Fin 8) (s : State), s.reaches p 0 = true →
    s.flag (R.SKIM_TAP_STATUS d) F.SKIM_TAP_STATUS_BUSY = false → skIdle (s.skSt d j) = true →
    ∃ t, exec (.skimTapClear p d j) s = .next t ∧ (t.sk d j).taps = [] ∧ t.rd (R.SKIM_TAP_STATUS d) = 0x80000000 ∧ t.mem = s.mem ∧
      ∀ i : Fin 8, i ≠ j → t.sk d i = s.sk d i) ∧
  (∀ (p : Port) (d : Fin 4) (j : Fin 8) (count : Fin 1048576) (s : State), s.reaches p 0 = true →
    s.flag (R.SKIM_TAP_STATUS d) F.SKIM_TAP_STATUS_BUSY = false → skIdle (s.skSt d j) = true → count.val ≠ 0 → count.val ≤ 262143 →
    let a := s.addrAt (R.SKIM_TAP_FETCH_LO p d) (R.SKIM_TAP_FETCH_HI p d)
    s.inOwned d 2 a (4 * count.val) = true ∨ s.inPart d 4 a (4 * count.val) = true →
    ∃ t, exec (.skimTapFetchAdd p d j count) s = .next t ∧ t.flag (R.SKIM_TAP_STATUS d) F.SKIM_TAP_STATUS_BUSY = true ∧
      look (fun _ => none) t.skFetch d.val = some ⟨j.val, count.val, a, p⟩ ∧ t.skJobs = s.skJobs ∧ t.mem = s.mem) ∧
  (∀ (d : Fin 4) (f : ListFetch) (errs : List (Nat × Ecc)) (s : State), look (fun _ => none) s.skFetch d.val = some f → skIdle (s.skSt d f.job) = true →
    s.engineWaits (mSKIM d) f.addr (.read (4 * f.count)) = false →
    let r := State.engineWords (mSKIM d) f.addr errs f.count { s with skFetch := drop d.val s.skFetch }
    ∃ t, exec (.skimTapFetchDone d errs) s = .next t ∧ look (fun _ => none) t.skFetch d.val = none ∧
      t.flag (R.SKIM_TAP_STATUS d) F.SKIM_TAP_STATUS_DONE = true ∧ t.mem = s.mem ∧
      (∀ i, r.2 = .inr i → t.skJobs = s.skJobs ∧ t.get (R.SKIM_TAP_STATUS d) F.SKIM_TAP_STATUS_CODE = 6 ∧
        t.get (R.SKIM_TAP_STATUS d) F.SKIM_TAP_STATUS_INDEX = i % 2 ^ 20) ∧
      (∀ l, r.2 = .inl l → l = (List.range f.count).map (fun i => s.ldw (f.addr + 4 * i)) ∧
        (∀ u, State.skAddAll d f.job l 0 r.1 = .inl u → t.skJobs = u.skJobs ∧ t.get (R.SKIM_TAP_STATUS d) F.SKIM_TAP_STATUS_CODE = 0) ∧
        (∀ c i, State.skAddAll d f.job l 0 r.1 = .inr (c, i) → t.skJobs = s.skJobs ∧ t.get (R.SKIM_TAP_STATUS d) F.SKIM_TAP_STATUS_CODE = c % 64 ∧
          t.get (R.SKIM_TAP_STATUS d) F.SKIM_TAP_STATUS_INDEX = i % 2 ^ 20))) ∧
  (∀ (d : Fin 4) (f : ListFetch) (errs : List (Nat × Ecc)) (s : State), look (fun _ => none) s.skFetch d.val = some f → Settled s →
    s.engineWaits (mSKIM d) f.addr (.read (4 * f.count)) = true → exec (.skimTapFetchDone d errs) s = .next s) ∧
  (∀ (p : Port) (d : Fin 4) (i : Fin 8192) (s : State), s.reaches p 0 = true →
    ∃ t, exec (.skimPrbsRead p d i) s = .next t ∧ t.rd (R.SKIM_PRBS_DATA0 d) = BitVec.ofNat 32 (s.prbsAt d i).bits ∧
      t.rd (R.SKIM_PRBS_DATA1 d) = BitVec.ofNat 32 ((s.prbsAt d i).bits / 2 ^ 32) ∧
      t.rd (R.SKIM_PRBS_DATA2 d) = BitVec.ofNat 32 (s.prbsAt d i).errs ∧
      t.rd (R.SKIM_PRBS_DATA3 d) = BitVec.ofNat 32 ((s.prbsAt d i).errs / 2 ^ 32) ∧
      t.rd (R.SKIM_PRBS_STATUS d) = 0x80000000 ∧ t.prbs = s.prbs ∧ t.mem = s.mem) ∧
  (∀ (p : Port) (d : Fin 4) (i : Fin 8192) (s : State), s.reaches p 0 = true →
    let x := { (s.prbsAt d i).hunt with cfg := s.rd (R.SKIM_PRBS_CFG p d) &&& 0xFF000000, ta := s.rd (R.SKIM_PRBS_TA p d) &&& 0x01FFFFFF }
    ∃ t, exec (.skimPrbsWrite p d i) s = .next t ∧
      t.rd (R.SKIM_PRBS_STATUS d) = BitVec.ofNat 32 (2 ^ 31 + 2 ^ 24 * s.prbsCode d i x) ∧
      (s.prbsCode d i x = 0 → t.prbsAt d i = x ∧ x.sync = false) ∧ (s.prbsCode d i x ≠ 0 → t.prbs = s.prbs) ∧
      ∀ k : Fin 8192, k ≠ i → t.prbsAt d k = s.prbsAt d k) ∧
  (∀ (p : Port) (d : Fin 4) (i : Fin 8192) (s : State), s.reaches p 0 = true →
    ∃ t, exec (.skimPrbsClear p d i) s = .next t ∧
      t.prbsAt d i = { s.prbsAt d i with bits := 0, errs := 0, losses := 0, bitsWrap := false, errsWrap := false } ∧
      t.rd (R.SKIM_PRBS_STATUS d) = 0x80000000 ∧ ∀ k : Fin 8192, k ≠ i → t.prbsAt d k = s.prbsAt d k) ∧
  (∀ (p : Port) (d : Fin 4) (i : Fin 8192) (s : State), s.reaches p 0 = true →
    ∃ t, exec (.skimPrbsOpInvalid p d i) s = .next t ∧ t.get (R.SKIM_PRBS_STATUS d) F.SKIM_PRBS_STATUS_CODE = 1 ∧
      RegsOnly (fun r => r == R.SKIM_PRBS_CTRL p d || r == R.SKIM_PRBS_STATUS d) s t)

/-- R290 to R293, Table 12-6: the life of a Skim job; what is due at the instant of a STOP or a TRIGGER, a STOP_FN or a record's close, comes
before it (R293). What START and RELEASE complete, and the other corners of a job's life, are the model's choice (notes/assumptions/58.md). -/
def Obligations.SkimJobsChangeState : Prop :=
  (∀ (p : Port) (d : Fin 4) (j : Fin 8) (s : State), s.reaches p 0 = true → s.skSt d j = skFREE →
    ∃ t, exec (.skimJobDefine p d j) s = .next t ∧ t.skSt d j = skDEFINED ∧ t.sk d j = emptySk ∧ t.skWR d j = 0 ∧ t.skRD d j = 0 ∧
      t.ctr64 (ctrSkDrop d j) = 0 ∧ t.ctr64 (ctrSkOver d j) = 0 ∧ t.ctr64 (ctrSkDropg d j) = 0 ∧ t.mem = s.mem) ∧
  (∀ (p : Port) (d : Fin 4) (j : Fin 8) (s : State), s.reaches p 0 = true → Settled s → s.skSt d j ≠ skFREE →
    ∃ t, exec (.skimJobDefine p d j) s = .next t ∧ t.flag (R.SKIM_JOB_STATUS d j) F.SKIM_JOB_STATUS_OP_REFUSED = true ∧
      t.skSt d j = s.skSt d j ∧ RegsOnly (fun r => r == R.SKIM_JOB_STATUS d j) s t) ∧
  (∀ (p : Port) (d : Fin 4) (j : Fin 8) (s : State), s.reaches p 0 = true → skIdle (s.skSt d j) = true → s.skStartCode d j false = 0 →
    ∃ t, exec (.skimJobStart p d j) s = .next t ∧ t.skSt d j = skPENDING ∧ (t.sk d j).words = (s.sk d j).words ∧ (t.sk d j).staged = [] ∧
      t.skWR d j = 0 ∧ t.skRD d j = 0 ∧ t.rd (R.SKIM_JOB_START_FN d j) = s.rd (R.SKIM_JOB_START_FN d j)) ∧
  (∀ (p : Port) (d : Fin 4) (j : Fin 8) (s : State), s.reaches p 0 = true → Settled s → skIdle (s.skSt d j) = true →
    s.skStartCode d j false ≠ 0 →
    ∃ t, exec (.skimJobStart p d j) s = .next t ∧ t.get (R.SKIM_JOB_STATUS d j) F.SKIM_JOB_STATUS_CODE = s.skStartCode d j false ∧
      t.skSt d j = s.skSt d j ∧ RegsOnly (fun r => r == R.SKIM_JOB_STATUS d j) s t) ∧
  (∀ (p : Port) (d : Fin 4) (j : Fin 8) (s : State), s.reaches p 0 = true → skIdle (s.skSt d j) = true → s.skStartCode d j true = 0 →
    ∃ t, exec (.skimJobStartAsap p d j) s = .next t ∧ t.skSt d j = skPENDING ∧ (t.sk d j).words = (s.sk d j).words ∧
      t.rd (R.SKIM_JOB_START_FN d j) = BitVec.ofNat 32 (s.fn + 2)) ∧
  (∀ (d : Fin 4) (j : Fin 8) (s : State), s.skSt d j = skPENDING → s.fn = (s.rd (R.SKIM_JOB_START_FN d j)).toNat →
    s.get (R.SKIM_JOB_CFG d j) F.SKIM_JOB_CFG_TRIG ≠ 3 →
    ∃ t, exec (.skimJobBegin d j) s = .next t ∧
      t.skSt d j = (if s.get (R.SKIM_JOB_CFG d j) F.SKIM_JOB_CFG_TRIG = 0 then skRUNNING else skARMED) ∧
      (t.sk d j).srcs.length = (skSources (s.sk d j).words).length ∧ (t.sk d j).srcs.all (fun c => c.buf) = true) ∧
  (∀ (p : Port) (d : Fin 4) (j : Fin 8) (s : State), s.reaches p 0 = true → s.skSt d j = skARMED →
    s.flag (R.SKIM_JOB_CFG d j) F.SKIM_JOB_CFG_STOP_FN_EN = true → s.fn = (s.rd (R.SKIM_JOB_STOP_FN d j)).toNat →
    ∃ t, exec (.skimJobTrigger p d j) s = .next t ∧ t.skSt d j = skDONE ∧ t.get (R.SKIM_JOB_STATUS d j) F.SKIM_JOB_STATUS_END_CAUSE = 5 ∧
      t.flag (R.SKIM_JOB_STATUS d j) F.SKIM_JOB_STATUS_OP_REFUSED = true) ∧
  (∀ (p : Port) (d : Fin 4) (j : Fin 8) (s : State), s.reaches p 0 = true → s.skSt d j = skARMED → s.skNow d j = s →
    ∃ t, exec (.skimJobTrigger p d j) s = .next t ∧ t.skSt d j = skPOST ∧
      t.flag (R.SKIM_JOB_STATUS d j) F.SKIM_JOB_STATUS_TRIGGERED = true ∧
      t.get (R.SKIM_JOB_STATUS d j) F.SKIM_JOB_STATUS_TRIG_SRC = 1 + p.toNat ∧ t.skJobs = s.skJobs) ∧
  (∀ (d : Fin 4) (j : Fin 8) (s : State), s.skWaits d j 4 = true → s.fn = (s.rd (R.SKIM_JOB_TRIG d j 0)).toNat →
    (s.rd (R.SKIM_JOB_TRIG d j 1)).toNat % 2 ^ 17 ≤ s.ns →
    ∃ t, exec (.skimTriggerTime d j) s = .next t ∧ t.skSt d j = skPOST ∧
      t.flag (R.SKIM_JOB_STATUS d j) F.SKIM_JOB_STATUS_TRIGGERED = true ∧ t.skJobs = s.skJobs ∧ t.mem = s.mem) ∧
  (∀ (p : Port) (d : Fin 4) (j : Fin 8) (s : State), s.reaches p 0 = true → skPENDING ≤ s.skSt d j → s.skSt d j ≤ skPOST →
    s.flag (R.SKIM_JOB_CFG d j) F.SKIM_JOB_CFG_STOP_FN_EN = false ∨ s.fn ≠ (s.rd (R.SKIM_JOB_STOP_FN d j)).toNat →
    s.get (R.SKIM_JOB_CFG d j) F.SKIM_JOB_CFG_FLUSH = 0 ∨ (∀ c ∈ (s.sk d j).srcs,
      (c.form.all (fun r => decide (s.up < SkRec.up r + s.get (R.SKIM_JOB_CFG d j) F.SKIM_JOB_CFG_FLUSH))) = true) →
    ∃ t, exec (.skimJobStop p d j) s = .next t ∧ t.skSt d j = skSTOPPED ∧
      t.get (R.SKIM_JOB_STATUS d j) F.SKIM_JOB_STATUS_END_CAUSE = 1 + p.toNat ∧ t.mem = s.mem) ∧
  (∀ (p : Port) (d : Fin 4) (j : Fin 8) (s : State), s.reaches p 0 = true → s.skSt d j = skARMED ∨ s.skSt d j = skRUNNING →
    s.flag (R.SKIM_JOB_CFG d j) F.SKIM_JOB_CFG_STOP_FN_EN = true → s.fn = (s.rd (R.SKIM_JOB_STOP_FN d j)).toNat →
    ∃ t, exec (.skimJobStop p d j) s = .next t ∧ t.skSt d j = skDONE ∧ t.get (R.SKIM_JOB_STATUS d j) F.SKIM_JOB_STATUS_END_CAUSE = 5 ∧
      t.flag (R.SKIM_JOB_STATUS d j) F.SKIM_JOB_STATUS_LATE_STOP = true ∧ t.mem = s.mem) ∧
  (∀ (p : Port) (d : Fin 4) (j : Fin 8) (s : State), s.reaches p 0 = true → skARMED ≤ s.skSt d j → s.skSt d j ≤ skPOST →
    (s.skNow d j).skSt d j = skDONE →
    ∃ t, exec (.skimJobStop p d j) s = .next t ∧ t.skSt d j = skDONE ∧ t.flag (R.SKIM_JOB_STATUS d j) F.SKIM_JOB_STATUS_LATE_STOP = true ∧
      t.get (R.SKIM_JOB_STATUS d j) F.SKIM_JOB_STATUS_END_CAUSE = (s.skNow d j).get (R.SKIM_JOB_STATUS d j) F.SKIM_JOB_STATUS_END_CAUSE ∧
      t.mem = s.mem) ∧
  (∀ (p : Port) (d : Fin 4) (j : Fin 8) (s : State), s.reaches p 0 = true → Settled s → s.skSt d j = skDONE ∨ s.skSt d j = skSTOPPED →
    ∃ t, exec (.skimJobStop p d j) s = .next t ∧ t.flag (R.SKIM_JOB_STATUS d j) F.SKIM_JOB_STATUS_LATE_STOP = true ∧
      t.skSt d j = s.skSt d j ∧ RegsOnly (fun r => r == R.SKIM_JOB_STATUS d j) s t) ∧
  (∀ (d : Fin 4) (j : Fin 8) (s : State), s.skSt d j = skARMED ∨ s.skSt d j = skRUNNING →
    s.flag (R.SKIM_JOB_CFG d j) F.SKIM_JOB_CFG_STOP_FN_EN = true → s.fn = (s.rd (R.SKIM_JOB_STOP_FN d j)).toNat →
    ∃ t, exec (.skimStopFn d j) s = .next t ∧ t.skSt d j = skDONE ∧ t.get (R.SKIM_JOB_STATUS d j) F.SKIM_JOB_STATUS_END_CAUSE = 5 ∧
      t.mem = s.mem) ∧
  (∀ (p : Port) (d : Fin 4) (j : Fin 8) (s : State), s.reaches p 0 = true → s.skSt d j = skDONE ∨ s.skSt d j = skSTOPPED →
    ∃ t, exec (.skimJobRelease p d j) s = .next t ∧ t.skSt d j = skFREE ∧ (t.sk d j).taps = []) ∧
  (∀ (p : Port) (d : Fin 4) (j op : Fin 8) (s : State), s.reaches p 0 = true → s.skOpOK d j op = false →
    ∃ t, exec (.skimJobOpInvalid p d j op) s = .next t ∧ t.flag (R.SKIM_JOB_STATUS d j) F.SKIM_JOB_STATUS_OP_REFUSED = true ∧
      t.skSt d j = s.skSt d j ∧ RegsOnly (fun r => r == R.SKIM_JOB_STATUS d j) s t)

/-- R286 to R289, R296, R297: a grain enters the forming record of its source, that of a group's tap from the bytes the group carries; records
close at FLUSH; a closed record is written into its slot of the ring and WR advances, and waits where no slot is free and POLICY 1 may not
overwrite; a record closed while ARMED leaves the newest PRE of the ring; the host frees slots; and the drain copies records to a host port,
in writes of at most its payload, or halts. What happens at a full ring elsewhere, when a copy is in progress, what a failed one leaves, and
that a write or a copy waits while an access to the memory would, are the model's choice (notes/assumptions/58.md, 63.md, 95.md, 87.md). -/
def Obligations.RecordsAreWrittenAndDrained : Prop :=
  (∀ (d : Fin 4) (j : Fin 8) (w : Word) (idx : Fin 1048576) (g h : Grain) (bad : Bool) (ts : BitVec 96) (n nc i : Nat) (c : SkSrc) (r : SkRec)
    (s : State), s.skSt d j = skRUNNING → (s.sk d j).taps.find? (fun e => e.1 == w) = some (w, n, nc) → tapCode w ≠ 4 →
    s.skGrain w n nc idx (if bad then voidGrain else if oddParity g then g else subGrain) = some h →
    (s.sk d j).srcs.findIdx? (fun c => c.code == tapCode w && c.n == tapUnit w) = some i → (s.sk d j).srcs[i]? = some c →
    c.buf = true → c.form = some r → r.grains.length + 1 < 3024 →
    ∃ t x, exec (.skimGrainTap d w idx g bad ts) s = .next t ∧ ((t.sk d j).srcs[i]?).bind (fun c : SkSrc => c.form) = some x ∧
      x.grains = h :: r.grains ∧ x.code = r.code ∧ x.src = r.src ∧ x.fn = r.fn ∧ x.idx = r.idx ∧ t.skSt d j = skRUNNING) ∧
  (∀ (d : Fin 4) (j : Fin 8) (w : Word) (idx : Fin 1048576) (g h : Grain) (bad : Bool) (ts : BitVec 96) (n nc i m : Nat) (b : HeldByte) (c : SkSrc)
    (r : SkRec) (s : State), s.skSt d j = skRUNNING → (s.sk d j).taps.find? (fun e => e.1 == w) = some (w, n, nc) → tapCode w = 4 →
    s.skGrpGrain d w idx = some (h, m, b) →
    (s.sk d j).srcs.findIdx? (fun c => c.code == tapCode w && c.n == tapUnit w) = some i → (s.sk d j).srcs[i]? = some c →
    c.buf = true → c.form = some r → r.grains.length + 1 < 3024 →
    ∃ t x, exec (.skimGrainTap d w idx g bad ts) s = .next t ∧ ((t.sk d j).srcs[i]?).bind (fun c : SkSrc => c.form) = some x ∧
      x.grains = h :: r.grains ∧ x.code = r.code ∧ x.src = r.src ∧ t.skSt d j = skRUNNING) ∧
  (∀ (d : Fin 4) (j : Fin 8) (s : State), s.get (R.SKIM_JOB_CFG d j) F.SKIM_JOB_CFG_FLUSH ≠ 0 → skARMED ≤ s.skSt d j →
    s.skSt d j ≤ skPOST →
    ∃ t, exec (.skimFlushTimeout d j) s = .next t ∧ t.mem = s.mem ∧
      ∀ (i : Nat) (r : SkRec), ((t.sk d j).srcs[i]?).bind (fun c : SkSrc => c.form) = some r → s.up < SkRec.up r + s.get (R.SKIM_JOB_CFG d j) F.SKIM_JOB_CFG_FLUSH) ∧
  (∀ (d : Fin 4) (j : Fin 8) (r : SkRec) (rest : List SkRec) (s : State), (s.sk d j).staged = r :: rest → r.pre = false →
    r.grains.length ≤ 3024 → s.skHeld d j < s.skSize d j → s.skSt d j ≠ skRUNNING →
    let a := s.skBase d j + 4096 * (s.skWR d j % max 1 (s.skSize d j))
    (s.engineOp (mSKIM d) a (.write (List.replicate 4096 (some 0))) []).2 = true → s.engineWaits (mSKIM d) a (.write (List.replicate 4096 (some 0))) = false →
    ∃ t lost, exec (.skimRecordWritten d j []) s = .next t ∧ t.rd (R.SKIM_JOB_WR d j) = s.rd (R.SKIM_JOB_WR d j) + 1 ∧
      t.skRD d j = s.skRD d j ∧ (t.sk d j).staged = rest ∧ t.ld a 4096 = (r.words j lost).flatMap wordBytes ∧
      ∀ x, x < a ∨ a + 4096 ≤ x → t.ldb x = s.ldb x) ∧
  (∀ (d : Fin 4) (j : Fin 8) (r : SkRec) (rest : List SkRec) (s : State), (s.sk d j).staged = r :: rest → r.pre = true →
    r.grains.length ≤ 3024 → s.get (R.SKIM_JOB_PRE d j) F.SKIM_JOB_PRE_PRE < s.skSize d j → s.skSt d j ≠ skRUNNING →
    let a := s.skBase d j + 4096 * (s.skWR d j % max 1 (s.skSize d j))
    (s.engineOp (mSKIM d) a (.write (List.replicate 4096 (some 0))) []).2 = true → s.engineWaits (mSKIM d) a (.write (List.replicate 4096 (some 0))) = false →
    ∃ t lost, exec (.skimRecordWritten d j []) s = .next t ∧ t.rd (R.SKIM_JOB_WR d j) = s.rd (R.SKIM_JOB_WR d j) + 1 ∧
      t.skHeld d j = min (s.get (R.SKIM_JOB_PRE d j) F.SKIM_JOB_PRE_PRE) (s.skHeld d j + 1) ∧ (t.sk d j).staged = rest ∧
      t.ld a 4096 = (r.words j lost).flatMap wordBytes ∧ ∀ x, x < a ∨ a + 4096 ≤ x → t.ldb x = s.ldb x) ∧
  (∀ (d : Fin 4) (j : Fin 8) (r : SkRec) (rest : List SkRec) (s : State), (s.sk d j).staged = r :: rest →
    s.skSize d j ≤ s.skHeld d j → s.skDraining d j = true → s.get (R.SKIM_JOB_CFG d j) F.SKIM_JOB_CFG_POLICY = 1 →
    s.flag (R.SKIM_JOB_STATUS d j) F.SKIM_JOB_STATUS_TRIGGERED = false → r.pre = false →
    ∃ t, exec (.skimRecordWritten d j []) s = .next t ∧ t.skWR d j = s.skWR d j ∧ (t.sk d j).staged = rest ∧ t.mem = s.mem) ∧
  (∀ (d : Fin 4) (j : Fin 8) (r : SkRec) (rest : List SkRec) (s : State), (s.sk d j).staged = r :: rest → r.pre = false →
    s.skSize d j ≤ s.skHeld d j →
    s.get (R.SKIM_JOB_CFG d j) F.SKIM_JOB_CFG_POLICY ≠ 1 ∨ s.flag (R.SKIM_JOB_STATUS d j) F.SKIM_JOB_STATUS_TRIGGERED = true →
    ∃ t, exec (.skimRecordWritten d j []) s = .next t ∧ t.skWR d j = s.skWR d j ∧ (t.sk d j).staged.length = rest.length + 1 ∧ t.mem = s.mem) ∧
  (∀ (p : Port) (d : Fin 4) (j : Fin 8) (v : Word) (s : State), s.reaches p 0 = true →
    s.flag (R.SKIM_JOB_CFG d j) F.SKIM_JOB_CFG_DRAIN_EN = false → fnDelta v.toNat (s.skWR d j) ≤ s.skSize d j →
    ∃ t, exec (.skimRdWrite p d j v) s = .next t ∧ t.rd (R.SKIM_JOB_RD d j) = v ∧ t.mem = s.mem ∧
      (s.skSt d j ≠ skRUNNING → Settled s → RegsOnly (fun r => r == R.SKIM_JOB_RD d j) s t) ∧
      (s.skSt d j = skRUNNING → s.get (R.SKIM_JOB_CFG d j) F.SKIM_JOB_CFG_POLICY = 0 →
        s.skSize d j ≤ fnDelta v.toNat (s.skWR d j) + (s.sk d j).srcs.length →
        t.skSt d j = skDONE ∧ t.get (R.SKIM_JOB_STATUS d j) F.SKIM_JOB_STATUS_END_CAUSE = 3)) ∧
  (∀ (p : Port) (d : Fin 4) (j : Fin 8) (v : Word) (s : State), s.reaches p 0 = true → Settled s →
    s.flag (R.SKIM_JOB_CFG d j) F.SKIM_JOB_CFG_DRAIN_EN = true ∨ s.skSize d j < fnDelta v.toNat (s.skWR d j) →
    exec (.skimRdWrite p d j v) s = .next (s.answer .done)) ∧
  (∀ (p : Port) (d : Fin 4) (j : Fin 8) (v : Word) (s : State), s.reaches p 0 = true →
    ∃ t, exec (.drainDescriptorPost p d j v) s = .next t ∧ t.rd (R.SKIM_JOB_DQ_POST d j) = v ∧
      RegsOnly (fun r => r == R.SKIM_JOB_DQ_POST d j) s t) ∧
  (∀ (p : Port) (d : Fin 4) (j : Fin 8) (en : Bool) (s : State), s.reaches p 0 = true → s.skLive d j = false →
    ∃ t, exec (.drainEnableWrite p d j en) s = .next t ∧ t.flag (R.SKIM_JOB_CFG d j) F.SKIM_JOB_CFG_DRAIN_EN = en ∧
      (en = true → s.flag (R.SKIM_JOB_CFG d j) F.SKIM_JOB_CFG_DRAIN_EN = false →
        t.flag (R.SKIM_JOB_STATUS d j) F.SKIM_JOB_STATUS_DRAIN_HALT = false) ∧
      RegsOnly (fun r => r == R.SKIM_JOB_CFG d j || r == R.SKIM_JOB_STATUS d j) s t) ∧
  (∀ (d : Fin 4) (j : Fin 8) (s : State), s.skDraining d j = true → s.mayWriteUp (s.drainPort d j) = true →
    let q := (s.rd (R.SKIM_JOB_DQ_DONE d j)).toNat
    let a := s.skDqBase d j + 16 * (q % s.skDqSize d j)
    let n := (s.ldw (a + 8)).toNat % 2 ^ 16
    n ≤ s.skHeld d j → s.drainWaits d j a n = false →
    let got := s.drainReads d j a n []
    got.2 = true → got.1.mayWriteUp (s.drainPort d j) = true →
    (got.1.engineOp (mSKIM d) (a + 12) (.write (List.replicate 4 (some 0))) []).2 = true →
    ∃ t, exec (.drainCopyDone d j true []) s = .next t ∧ t.rd (R.SKIM_JOB_RD d j) = s.rd (R.SKIM_JOB_RD d j) + BitVec.ofNat 32 n ∧
      t.rd (R.SKIM_JOB_DQ_DONE d j) = s.rd (R.SKIM_JOB_DQ_DONE d j) + 1 ∧ t.ldw (a + 12) = BitVec.ofNat 32 (2 ^ 31 + n) ∧
      (∀ x, x < a + 12 ∨ a + 16 ≤ x → t.ldb x = s.ldb x) ∧
      let m := (s.port (s.drainPort d j)).payload
      ∀ i < n, ∀ k < 4096 / m,
        .drain (s.drainPort d j) (BitVec.ofNat 64 (2 ^ 32 * (s.ldw (a + 4)).toNat + 4096 * ((s.ldw a).toNat / 4096) + 4096 * i + m * k))
          (((s.ld (s.skBase d j + 4096 * ((s.skRD d j + i) % 2 ^ 32 % max 1 (s.skSize d j))) 4096).drop (m * k)).take m) ∈ t.hostWrites) ∧
  (∀ (d : Fin 4) (j : Fin 8) (s : State), s.skDraining d j = true →
    let q := (s.rd (R.SKIM_JOB_DQ_DONE d j)).toNat
    let a := s.skDqBase d j + 16 * (q % s.skDqSize d j)
    (s.ldw (a + 8)).toNat % 2 ^ 16 ≤ s.skHeld d j → s.drainWaits d j a ((s.ldw (a + 8)).toNat % 2 ^ 16) = false →
    (s.engineOp (mSKIM d) (a + 12) (.write (List.replicate 4 (some 0))) []).2 = true →
    ∃ t, exec (.drainCopyDone d j false []) s = .next t ∧ t.flag (R.SKIM_JOB_STATUS d j) F.SKIM_JOB_STATUS_DRAIN_HALT = true ∧
      t.rd (R.SKIM_JOB_RD d j) = s.rd (R.SKIM_JOB_RD d j) ∧ t.rd (R.SKIM_JOB_DQ_DONE d j) = s.rd (R.SKIM_JOB_DQ_DONE d j) ∧
      (t.ldw (a + 12)).toNat.testBit 30 = true ∧ t.bit (R.EVT_STICKY (evDie d)) srcSKIM_LOSS = true ∧
      ∀ x, x < a + 12 ∨ a + 16 ≤ x → t.ldb x = s.ldb x)

-- Events and reactions (14_faults.md)

/-- R338, R339: a counted event adds 1 to EVT_TOTAL (48 bits), sets the sticky bit, loads EVT_DETAIL, sets PENDING where ENABLE is 1, and counts
toward severity: a source that is not severe has WCOUNT one higher, or turns severe when that reaches N. Of the two sources whose own event
can bring about another event on the same source (PKG.CNT_WRAP and Dd.SKIM) only what holds of any number of events is stated. What an event
leaves alone (R338, R343): everything but the event registers and the summary, PBA bits, wrap words, the lock bit of a cluster that fence
mode stops, and the triggers of Skim jobs, and no register of any other block; no timer but the windows and FAULT_N's. -/
def Obligations.EventIsCountedAlone : Prop :=
  (∀ (s : State) (b src : Nat) (detail : Word), src < evSources b →
    let t := s.event b src detail
    let n := s.get (R.EVT_CFG b src) F.EVT_CFG_WCOUNT + 1
    t.bit (R.EVT_STICKY b) src = true ∧
    (s.bit (R.EVT_ENABLE b) src = true → t.flag (R.EVT_CTRL b) F.EVT_CTRL_PENDING = true) ∧
    ((b, src) ≠ (evPkg, srcCNT_WRAP) → (∀ d, (b, src) ≠ (evDie d, srcSKIM)) →
    t.ctr (ctrEvTotal b src) = (s.ctr (ctrEvTotal b src) + 1) % 2 ^ 48 ∧
    t.rd (R.EVT_DETAIL b src) = detail ∧
    (s.bit (R.EVT_SEVERE b) src = false → s.sevOn = true → n < s.get (R.EVT_CFG b src) F.EVT_CFG_N →
      t.bit (R.EVT_SEVERE b) src = false ∧ t.get (R.EVT_CFG b src) F.EVT_CFG_WCOUNT = n) ∧
    (s.bit (R.EVT_SEVERE b) src = false → s.sevOn = true → s.get (R.EVT_CFG b src) F.EVT_CFG_N ≤ n →
      t.bit (R.EVT_SEVERE b) src = true ∧ t.get (R.EVT_CFG b src) F.EVT_CFG_WCOUNT = 0))) ∧
  (∀ (s : State) (b src : Nat) (detail : Word), EvOnly s (s.event b src detail))

/-- R342, R343, R351 and R349 at a severe transition (a live condition begins): the source turns severe, the block's first-source record is
taken if it was free (else OVF is set), the package's likewise, and a source of class GRAVE brings the package into GRAVE with FAULT_N low;
the SAFE reaction begins, which in fence mode stops a cluster's transmit island (R344, R348, R29). Which of two transitions are of one cycle
is the model's choice (notes/assumptions/113.md). -/
def Obligations.LiveConditionTurnsSevere : Prop :=
  ∀ (s : State) (b src : Nat), src < evSources b → s.sevOn = true → s.bit (R.EVT_LIVE b) src = false → s.bit (R.EVT_SEVERE b) src = false →
    let t := s.liveOn b src
    let cls := s.get (R.EVT_CFG b src) F.EVT_CFG_CLASS
    t.bit (R.EVT_LIVE b) src = true ∧ t.bit (R.EVT_SEVERE b) src = true ∧ t.get (R.EVT_CFG b src) F.EVT_CFG_WCOUNT = 0 ∧
    t.flag (R.EVT_FIRST0 b) F.EVT_FIRST0_VALID = true ∧ t.flag R.EVT_PKG_FIRST0 F.EVT_PKG_FIRST0_VALID = true ∧
    (s.flag (R.EVT_FIRST0 b) F.EVT_FIRST0_VALID = false →
      t.get (R.EVT_FIRST0 b) F.EVT_FIRST0_SOURCE = src ∧ t.get (R.EVT_FIRST0 b) F.EVT_FIRST0_CLASS = cls ∧
      t.rd (R.EVT_FIRST1 b) = BitVec.ofNat 32 s.fn ∧ t.rd (R.EVT_FIRST3 b) = s.rd (R.EVT_DETAIL b src)) ∧
    (s.flag (R.EVT_FIRST0 b) F.EVT_FIRST0_VALID = true → t.flag (R.EVT_FIRST0 b) F.EVT_FIRST0_OVF = true) ∧
    (s.grave = false → t.flag R.EVT_SUM_STATUS F.EVT_SUM_STATUS_FAULT_LOW = true) ∧
    (cls = clsGrave → s.grave = false → t.grave = true ∧ t.rd R.EVT_GRAVE1 = BitVec.ofNat 32 s.fn) ∧
    (cls = clsSafe → t.safe = ⟨b, src, s.rd (R.EVT_DETAIL b src), s.fence, none⟩ :: s.safe ∧
      (s.fence = true → ∀ c : Fin 32, b = evCluster c → t.bit (R.DIE_UNIT_STATE (c.val / 8)) (8 + c.val % 8) = false))

/-- The host's commands on the event registers (R340, R350, R351, R353, R354, R341): what each does where its port is answered. Leaving severity
(R340): a host write of 1 clears the severe bit of a source whose live bit is 0 and whose class is not GRAVE, and otherwise sets CLR_REJ and
leaves it; AUTO releases it after its quiet window; the reactions it took wait for the first frame boundary after this with FN a multiple of
4, where they end but for stopped islands (R345, R348). -/
def Obligations.HostSetsAndClearsSeverity : Prop :=
  ((∀ (p : Port) (b : Fin 175) (s : State), s.reaches p 0 = true →
    s.rd (R.EVT_STICKY b) &&& s.rd (R.EVT_ENABLE b) = 0 →
    ∃ t, exec (.evtAck p b) s = .next t ∧ t.flag (R.EVT_CTRL b) F.EVT_CTRL_PENDING = false ∧ t.resp = .done ∧
      RegsOnly (fun r => r == R.EVT_CTRL b) s t) ∧
  (∀ (p : Port) (b : Fin 175) (s : State), s.reaches p 0 = true →
    s.rd (R.EVT_STICKY b) &&& s.rd (R.EVT_ENABLE b) ≠ 0 →
    ∃ t, exec (.evtAck p b) s = .next t ∧ t.flag (R.EVT_CTRL b) F.EVT_CTRL_PENDING = true ∧ EvOnly (s.answer .done) t) ∧
  (∀ (p : Port) (b : Fin 175) (s : State), s.reaches p 0 = true →
    ∃ t, exec (.firstRecordClear p (some b)) s = .next t ∧
      t.rd (R.EVT_FIRST0 b) = 0 ∧ t.rd (R.EVT_FIRST1 b) = 0 ∧ t.rd (R.EVT_FIRST2 b) = 0 ∧ t.rd (R.EVT_FIRST3 b) = 0 ∧
      RegsOnly (fun r => r == R.EVT_FIRST0 b || r == R.EVT_FIRST1 b || r == R.EVT_FIRST2 b || r == R.EVT_FIRST3 b) s t) ∧
  (∀ (p : Port) (s : State), s.reaches p 0 = true →
    ∃ t, exec (.firstRecordClear p none) s = .next t ∧
      t.rd R.EVT_PKG_FIRST0 = 0 ∧ t.rd R.EVT_PKG_FIRST1 = 0 ∧ t.rd R.EVT_PKG_FIRST2 = 0 ∧
      RegsOnly (fun r => r == R.EVT_PKG_FIRST0 || r == R.EVT_PKG_FIRST1 || r == R.EVT_PKG_FIRST2) s t) ∧
  (∀ (p : Port) (hold : Bool) (s : State), s.reaches p 0 = true → s.grave = false →
    ∃ t, exec (.faultHoldWrite p hold) s = .next t ∧
      t.flag R.EVT_SUM_STATUS F.EVT_SUM_STATUS_FAULT_HOLD = hold ∧
      (s.flag R.EVT_SUM_STATUS F.EVT_SUM_STATUS_PULSE = false → t.flag R.EVT_SUM_STATUS F.EVT_SUM_STATUS_FAULT_LOW = hold) ∧
      (s.flag R.EVT_SUM_STATUS F.EVT_SUM_STATUS_PULSE = true →
        t.flag R.EVT_SUM_STATUS F.EVT_SUM_STATUS_FAULT_LOW = s.flag R.EVT_SUM_STATUS F.EVT_SUM_STATUS_FAULT_LOW) ∧
      RegsOnly (fun r => r == R.EVT_SUM_STATUS) s t) ∧
  (∀ (p : Port) (hold : Bool) (s : State), s.reaches p 0 = true → s.grave = true →
    exec (.faultHoldWrite p hold) s = .next (s.answer .done)) ∧
  (∀ (p : Port) (b : Fin 175) (src : Fin 32) (v : Word) (s : State), s.reaches p 0 = true → src.val < evSources b →
    s.bit (R.EVT_SEVERE b) src = false →
    ∃ t, exec (.evtCfgWrite p b src v) s = .next t ∧
      t.get (R.EVT_CFG b src) F.EVT_CFG_N = max 1 (fget v F.EVT_CFG_N) ∧
      t.get (R.EVT_CFG b src) F.EVT_CFG_AUTO = fget v F.EVT_CFG_AUTO ∧
      (fget v F.EVT_CFG_CLASS < 4 → (factory b src).1 ≠ clsGrave →
        t.get (R.EVT_CFG b src) F.EVT_CFG_CLASS = fget v F.EVT_CFG_CLASS) ∧
      (fget v F.EVT_CFG_CLASS ≠ s.get (R.EVT_CFG b src) F.EVT_CFG_CLASS →
        4 ≤ fget v F.EVT_CFG_CLASS ∨ (factory b src).1 = clsGrave →
        t.get (R.EVT_CFG b src) F.EVT_CFG_CLASS = s.get (R.EVT_CFG b src) F.EVT_CFG_CLASS ∧
        t.flag (R.EVT_CTRL b) F.EVT_CTRL_CFG_REJ = true) ∧
      RegsOnly (fun r => r == R.EVT_CFG b src || r == R.EVT_CTRL b) s t)) ∧
  ((∀ (p : Port) (b : Fin 175) (src : Fin 32) (s : State), s.reaches p 0 = true → src.val < evSources b → s.bit (R.EVT_SEVERE b) src = true →
    s.bit (R.EVT_LIVE b) src = false → s.get (R.EVT_CFG b src) F.EVT_CFG_CLASS ≠ clsGrave →
    ∃ t, exec (.severeClear p b ((1 : Word) <<< src.val)) s = .next t ∧ t.bit (R.EVT_SEVERE b) src = false ∧
      t.safe = s.safe.map (fun f => if f.blk = b.val ∧ f.src = src.val ∧ f.released = none then { f with released := some (s.up + 1) } else f) ∧
      EvOnly (s.answer .done) t ∧ ∀ r, r ≠ R.EVT_SEVERE b → t.rd r = s.rd r) ∧
  (∀ (p : Port) (b : Fin 175) (src : Fin 32) (s : State), s.reaches p 0 = true → src.val < evSources b →
    s.bit (R.EVT_LIVE b) src = true ∨ s.get (R.EVT_CFG b src) F.EVT_CFG_CLASS = clsGrave →
    ∃ t, exec (.severeClear p b ((1 : Word) <<< src.val)) s = .next t ∧ t.bit (R.EVT_SEVERE b) src = s.bit (R.EVT_SEVERE b) src ∧
      t.flag (R.EVT_CTRL b) F.EVT_CTRL_CLR_REJ = true ∧ RegsOnly (fun r => r == R.EVT_CTRL b) s t) ∧
  (∀ (b : Fin 175) (src : Fin 32) (s : State), s.bit (R.EVT_SEVERE b) src = true → s.bit (R.EVT_LIVE b) src = false →
    s.flag (R.EVT_CFG b src) F.EVT_CFG_AUTO = true → s.get (R.EVT_CFG b src) F.EVT_CFG_CLASS ≠ clsGrave →
    8 * s.get (R.EVT_WIN b src) F.EVT_WIN_WINDOW_MS ≤ s.quietFrames b src →
    ∃ t, exec (.severeAutoRelease b src) s = .next t ∧ t.bit (R.EVT_SEVERE b) src = false ∧
      EvOnly s t ∧ ∀ r, r ≠ R.EVT_SEVERE b → t.rd r = s.rd r) ∧
  (∀ (b : Fin 175) (src : Fin 32) (s : State), s.get (R.EVT_CFG b src) F.EVT_CFG_CLASS = clsGrave →
    exec (.severeAutoRelease b src) s = .next s) ∧
  (∀ (b : Fin 175) (src : Fin 32) (s : State), s.timerDone (evWindowKey b src) = true →
    ∃ t, exec (.eventWindowExpire b src) s = .next t ∧ t.get (R.EVT_CFG b src) F.EVT_CFG_WCOUNT = 0 ∧
      t.timer (evWindowKey b src) = none ∧ EvOnly s t ∧ ∀ r, r ≠ R.EVT_CFG b src → t.rd r = s.rd r) ∧
  (∀ (s : State), s.fn % 4 = 0 → s.ns = 0 →
    exec .safeRelease s = .next { s with safe := s.safe.filter (fun f => !f.due s.up || f.stops) }) ∧
  (∀ (s : State), s.flag R.EVT_SUM_STATUS F.EVT_SUM_STATUS_PULSE = true → s.timerDone faultKey = true →
    ∃ t, exec .faultPulseEnd s = .next t ∧ t.flag R.EVT_SUM_STATUS F.EVT_SUM_STATUS_PULSE = false ∧
      t.flag R.EVT_SUM_STATUS F.EVT_SUM_STATUS_FAULT_LOW =
        (s.grave || s.flag R.EVT_SUM_STATUS F.EVT_SUM_STATUS_FAULT_HOLD) ∧ t.timer faultKey = none ∧ EvOnly s t ∧ ∀ r, r ≠ R.EVT_SUM_STATUS → t.rd r = s.rd r))

/-- R337, R347: a PLL or transmit clock that loses lock shows it, counts an event and begins its live condition; the relock ends it and shows
the lock, a fenced cluster's only after its restart (R29). SERDES, FAULT_PIN, the housekeeper's watchdog (with the backing store's event
where a word was bad, and another read of the section where it could not be corrected, which waits for the flash while it is in use,
notes/assumptions/81.md) and register parity likewise count on their sources. R354: a force counts one event on the named source unless its
class is GRAVE outside factory test mode, where it is ignored and sets FORCE_REJ; the live bit stays; a reserved source counts nothing
(R337). Of a source whose reaction can bring about another event on it the sticky bit alone is stated. R355: a block reset returns the
block's EVT_TOTAL, EVT_STICKY, WCOUNT and first-source record to 0 and leaves ENABLE, the severe bits, PORT and memory. R70, R311 and R325:
a read of an error record clears its UE. R348, R345, R29: the islands of a fenced cluster or LU restart at a frame boundary with FN a
multiple of 4, the cluster's lock shows, and its framers start in SEARCH. -/
def Obligations.FaultsForcesAndResets : Prop :=
  ((∀ (k : Fin 4) (i : Fin 32) (s : State), s.pllPowered k i = true → s.bit (R.EVT_LIVE (pllSource k i).1) (pllSource k i).2 = false →
    ∃ t, exec (.pllLockLoss k i) s = .next t ∧ t.bit (R.EVT_LIVE (pllSource k i).1) (pllSource k i).2 = true ∧
      t.bit (R.EVT_STICKY (pllSource k i).1) (pllSource k i).2 = true ∧
      (k = 2 → t.bit (R.DIE_UNIT_STATE (i.val % 8 / 2)) (24 + i.val % 8 % 2) = false) ∧
      (k = 3 → t.bit (R.DIE_UNIT_STATE (i.val / 8)) (8 + i.val % 8) = false) ∧ ReactOnly s t) ∧
  (∀ (k : Fin 4) (i : Fin 32) (s : State), s.pllPowered k i = false ∨ s.bit (R.EVT_LIVE (pllSource k i).1) (pllSource k i).2 = true →
    exec (.pllLockLoss k i) s = .next s) ∧
  (∀ (k : Fin 4) (i : Fin 32) (s : State),
    ∃ t, exec (.pllRelock k i) s = .next t ∧ t.bit (R.EVT_LIVE (pllSource k i).1) (pllSource k i).2 = false ∧
      (k = 2 → s.pllPowered k i = true → t.bit (R.DIE_UNIT_STATE (i.val % 8 / 2)) (24 + i.val % 8 % 2) = true) ∧
      (k = 3 → s.pllPowered k i = true → t.bit (R.DIE_UNIT_STATE (i.val / 8)) (8 + i.val % 8) = !s.clusterStopped i) ∧ EvOnly s t) ∧
  (∀ (n : Fin 128) (s : State),
    ∃ t, exec (.serdesFault n) s = .next t ∧ t.bit (R.EVT_LIVE (evLu n)) srcSERDES = true ∧
      t.bit (R.EVT_STICKY (evLu n)) srcSERDES = true ∧ n.val ∈ t.serdesBad ∧
      ReactOnly { s with serdesBad := n.val :: s.serdesBad.filter (fun m => m != n.val) } t) ∧
  (∀ (n : Fin 128) (s : State), s.get (R.LU_SENSE_STATUS n) F.LU_SENSE_STATUS_TERM ≠ 4 →
    ∃ t, exec (.serdesFaultEnd n) s = .next t ∧ t.bit (R.EVT_LIVE (evLu n)) srcSERDES = false ∧ n.val ∉ t.serdesBad ∧
      EvOnly { s with serdesBad := s.serdesBad.filter (fun m => m != n.val) } t) ∧
  (∀ s : State, s.due = [] → ∃ t, exec .faultPinMismatch s = .next t ∧ t.bit (R.EVT_LIVE evPkg) srcFAULT_PIN = true ∧
      t.bit (R.EVT_STICKY evPkg) srcFAULT_PIN = true ∧ NoteOnly s t) ∧
  (∀ s : State, ∃ t, exec .faultPinMismatchEnd s = .next t ∧ t.bit (R.EVT_LIVE evPkg) srcFAULT_PIN = false ∧ EvOnly s t) ∧
  (∀ s : State, ∀ ecc : Ecc, s.services = true → s.due = [] → ∃ t, exec (.hkWatchdogExpire ecc) s = .next t ∧
      t.bit (R.EVT_STICKY evPkg) srcHK = true ∧ (ecc ≠ .ok → t.bit (R.EVT_STICKY evPkg) srcBSTORE = true) ∧
      t.ctr (ctrEvTotal evPkg srcHK) = (s.ctr (ctrEvTotal evPkg srcHK) + 1) % 2 ^ 48 ∧
      (ecc ≠ .uncorrectable ∨ s.hkFrom = none → NoteOnly s t) ∧
      (ecc = .uncorrectable → ∀ e, s.hkFrom = some e →
        (s.spiRun = none → t.hkAsk = false ∧ t.spiLog = ⟨(if s.get R.PKG_START F.PKG_START_BOOT / 4 = 0 then (0x6C : Byte) else 0x0C) :: toBe 4 e.1, 8,
          if s.get R.PKG_START F.PKG_START_BOOT / 4 = 0 then 100 else 25, e.2⟩ :: s.spiLog) ∧
        (s.spiRun.isSome = true → t.hkAsk = true ∧ t.spiLog = s.spiLog))) ∧
  (∀ s : State, s.due = [] → ∃ t, exec .registerParityError s = .next t ∧ t.bit (R.EVT_STICKY evPkg) srcREG = true ∧
      t.ctr (ctrEvTotal evPkg srcREG) = (s.ctr (ctrEvTotal evPkg srcREG) + 1) % 2 ^ 48 ∧ NoteOnly s t)) ∧
  ((∀ (p : Port) (b : Fin 175) (src : Fin 32) (s : State), s.reaches p 0 = true → src.val < evSources b →
    evReserved b src = false → Settled s →
    s.get (R.EVT_CFG b src) F.EVT_CFG_CLASS ≠ clsGrave ∨ s.flag R.EVT_SUM_STATUS F.EVT_SUM_STATUS_TEST_MODE = true →
    ∃ t, exec (.evtForce p b ((1 : Word) <<< src.val)) s = .next t ∧ t.bit (R.EVT_STICKY b) src = true ∧
      t.bit (R.EVT_LIVE b) src = s.bit (R.EVT_LIVE b) src ∧ t.resp = .done ∧
      ((b.val, src.val) ≠ (evPkg, srcCNT_WRAP) → (b.val, src.val) ≠ (evPair, srcHEALTH) →
        (∀ d, (b.val, src.val) ≠ (evDie d, srcSKIM) ∧ (b.val, src.val) ≠ (evDie d, srcDRAM)) →
        t.ctr (ctrEvTotal b src) = (s.ctr (ctrEvTotal b src) + 1) % 2 ^ 48) ∧ ReactOnly (s.answer .done) t) ∧
  (∀ (p : Port) (b : Fin 175) (src : Fin 32) (s : State), s.reaches p 0 = true → src.val < evSources b → evReserved b src = true → Settled s →
    exec (.evtForce p b ((1 : Word) <<< src.val)) s = .next (s.answer .done)) ∧
  (∀ (p : Port) (b : Fin 175) (src : Fin 32) (s : State), s.reaches p 0 = true → src.val < evSources b → evReserved b src = false → Settled s →
    s.get (R.EVT_CFG b src) F.EVT_CFG_CLASS = clsGrave → s.flag R.EVT_SUM_STATUS F.EVT_SUM_STATUS_TEST_MODE = false →
    ∃ t, exec (.evtForce p b ((1 : Word) <<< src.val)) s = .next t ∧ t.flag (R.EVT_CTRL b) F.EVT_CTRL_FORCE_REJ = true ∧
      RegsOnly (fun r => r == R.EVT_CTRL b) s t) ∧
  (∀ (p : Port) (b : Fin 175) (port : Fin 4) (s : State), Inv s → s.reaches p 0 = true → Settled s →
    ∃ t, exec (.blockReset p b port 0) s = .next t ∧
      (∀ src : Fin 32, src.val < evSources b → t.ctr (ctrEvTotal b src) = 0 ∧ t.get (R.EVT_CFG b src) F.EVT_CFG_WCOUNT = 0) ∧
      t.rd (R.EVT_STICKY b) = 0 ∧ t.rd (R.EVT_FIRST0 b) = 0 ∧ t.rd (R.EVT_SEVERE b) = s.rd (R.EVT_SEVERE b) ∧
      t.rd (R.EVT_ENABLE b) = s.rd (R.EVT_ENABLE b) ∧ t.get (R.EVT_CTRL b) F.EVT_CTRL_PORT = port.val ∧ t.mem = s.mem) ∧
  (∀ (p : Port) (u : Fin 8) (s : State), s.reaches p 0 = true →
    ∃ t, exec (.errLastRead p 0 u) s = .next t ∧ t.resp = .word (s.rd (R.RG_SLAB_ECC_LAST u)) ∧
      t.flag (R.RG_SLAB_ECC_LAST u) F.RG_SLAB_ECC_LAST_UE = false ∧ RegsOnly (fun r => r == R.RG_SLAB_ECC_LAST u) s t) ∧
  (∀ (p : Port) (u : Fin 8) (s : State), s.reaches p 0 = true →
    ∃ t, exec (.errLastRead p 1 u) s = .next t ∧ t.resp = .word (s.rd (R.WB_ERR_LAST (u.val % 4))) ∧
      t.flag (R.WB_ERR_LAST (u.val % 4)) F.WB_ERR_LAST_UE = false ∧ RegsOnly (fun r => r == R.WB_ERR_LAST (u.val % 4)) s t) ∧
  (∀ (p : Port) (u : Fin 8) (s : State), s.reaches p 0 = true →
    ∃ t, exec (.errLastRead p 2 u) s = .next t ∧ t.resp = .word (s.rd (R.DRAM_ERR_LAST (u.val % 4))) ∧
      t.flag (R.DRAM_ERR_LAST (u.val % 4)) F.DRAM_ERR_LAST_UE = false ∧ RegsOnly (fun r => r == R.DRAM_ERR_LAST (u.val % 4)) s t) ∧
  (∀ (b : Fin 175) (s : State), s.fn % 4 = 0 → s.ns = 0 → 15 ≤ b.val → Settled s →
    (∃ f ∈ s.safe, f.stops = true ∧ f.due s.up = true ∧ f.blk = b.val) →
    ∃ t, exec (.fenceRestart b) s = .next t ∧ (∀ f ∈ t.safe, f.stops = true → f.blk = b.val → f.due s.up = false) ∧
      (∀ c : Fin 32, b.val = evCluster c → (∀ f ∈ s.safe, f.stops = true → f.blk = b.val → f.due s.up = true) →
        t.bit (R.DIE_UNIT_STATE (c.val / 8)) (8 + c.val % 8) = (s.clusterPowered c && !s.bit (R.EVT_LIVE b) srcTX)) ∧
      (∀ n : Fin 128, b.val = evLu n ∨ b.val = evCluster (luCluster n) → s.persOf n ≠ 0 →
        (∀ f ∈ s.safe, f.stops = true → f.covers n = true → f.blk = b.val ∧ f.due s.up = true) →
        (t.secSt n).inFrame = false ∧ (t.secSt n).cands = [] ∧ t.secBit n sOOF = true) ∧ t.mem = s.mem ∧ t.actMap = s.actMap))

-- Pour (12_skim_pour.md)

/-- R300, R306: the operations on the target list of a Pour job that may change it, the fetch of a list, all of it or none, with CODE 6 where a
word cannot be read (R311, R325), which waits while an access to the memory would (R314, R329; notes/assumptions/87.md), and the arming of
an injection, which a code that a target does not allow refuses with CODE FIELD. -/
def Obligations.PourTargetsAndInjection : Prop :=
  (∀ (p : Port) (d : Fin 4) (j code : Fin 8) (s : State), s.reaches p 0 = true →
    s.flag (R.POUR_TGT_STATUS p d) F.POUR_TGT_STATUS_BUSY = false → poIdle (s.poSt d j) = true → s.poTgtCode d (s.poEntry p d code) = 0 →
    ∃ t, exec (.pourTgtAdd p d j code) s = .next t ∧ (t.pour d j).tgts = (s.pour d j).tgts ++ [freshTgt (s.poEntry p d code)] ∧
      t.rd (R.POUR_TGT_STATUS p d) = 0x80000000 ∧ t.mem = s.mem ∧ ∀ i : Fin 8, i ≠ j → t.pour d i = s.pour d i) ∧
  (∀ (p : Port) (d : Fin 4) (j code : Fin 8) (s : State), s.reaches p 0 = true →
    s.flag (R.POUR_TGT_STATUS p d) F.POUR_TGT_STATUS_BUSY = false → poIdle (s.poSt d j) = true → tapField (s.poEntry p d code) = true →
    code = 1 ∨ code = 3 ∨ code = 4 →
    ∃ t, exec (.pourTgtRemove p d j code) s = .next t ∧
      (t.pour d j).tgts = (s.pour d j).tgts.filter (fun e => e.tap != s.poEntry p d code) ∧ t.rd (R.POUR_TGT_STATUS p d) = 0x80000000 ∧
      t.mem = s.mem ∧ ∀ i : Fin 8, i ≠ j → t.pour d i = s.pour d i) ∧
  (∀ (p : Port) (d : Fin 4) (j code : Fin 8) (s : State), s.reaches p 0 = true →
    s.flag (R.POUR_TGT_STATUS p d) F.POUR_TGT_STATUS_BUSY = false → poIdle (s.poSt d j) = false → tapField (s.poEntry p d code) = true →
    ∃ t, exec (.pourTgtRemove p d j code) s = .next t ∧ t.pourJobs = s.pourJobs ∧
      t.get (R.POUR_TGT_STATUS p d) F.POUR_TGT_STATUS_CODE = 2) ∧
  (∀ (p : Port) (d : Fin 4) (j : Fin 8) (s : State), s.reaches p 0 = true →
    s.flag (R.POUR_TGT_STATUS p d) F.POUR_TGT_STATUS_BUSY = false → poIdle (s.poSt d j) = true →
    ∃ t, exec (.pourTgtClear p d j) s = .next t ∧ (t.pour d j).tgts = [] ∧ t.rd (R.POUR_TGT_STATUS p d) = 0x80000000 ∧ t.mem = s.mem ∧
      ∀ i : Fin 8, i ≠ j → t.pour d i = s.pour d i) ∧
  (∀ (p : Port) (d : Fin 4) (j : Fin 8) (count : Fin 1048576) (s : State), s.reaches p 0 = true →
    s.flag (R.POUR_TGT_STATUS p d) F.POUR_TGT_STATUS_BUSY = false → poIdle (s.poSt d j) = true → count.val ≠ 0 → count.val ≤ 262143 →
    let a := s.addrAt (R.POUR_TGT_FETCH_LO p d) (R.POUR_TGT_FETCH_HI p d)
    s.inOwned d 3 a (4 * count.val) = true ∨ s.inPart d 4 a (4 * count.val) = true →
    ∃ t, exec (.pourTgtFetchAdd p d j count) s = .next t ∧ t.flag (R.POUR_TGT_STATUS p d) F.POUR_TGT_STATUS_BUSY = true ∧
      look (fun _ => none) t.pourFetch (2 * d.val + p.toNat) = some ⟨j.val, count.val, a, p⟩ ∧ t.pourJobs = s.pourJobs ∧ t.mem = s.mem) ∧
  (∀ (p : Port) (d : Fin 4) (f : ListFetch) (errs : List (Nat × Ecc)) (s : State), look (fun _ => none) s.pourFetch (2 * d.val + p.toNat) = some f →
    poIdle (s.poSt d f.job) = true →
    s.engineWaits (mPOUR d) f.addr (.read (4 * f.count)) = false →
    let r := State.engineWords (mPOUR d) f.addr errs f.count { s with pourFetch := drop (2 * d.val + p.toNat) s.pourFetch }
    ∃ t, exec (.pourTgtFetchDone p d errs) s = .next t ∧ look (fun _ => none) t.pourFetch (2 * d.val + p.toNat) = none ∧
      t.flag (R.POUR_TGT_STATUS p d) F.POUR_TGT_STATUS_DONE = true ∧ t.mem = s.mem ∧
      (∀ i, r.2 = .inr i → t.pourJobs = s.pourJobs ∧ t.get (R.POUR_TGT_STATUS p d) F.POUR_TGT_STATUS_CODE = 6 ∧
        t.get (R.POUR_TGT_STATUS p d) F.POUR_TGT_STATUS_INDEX = i % 2 ^ 20) ∧
      (∀ l, r.2 = .inl l → l = (List.range f.count).map (fun i => s.ldw (f.addr + 4 * i)) ∧
        (∀ u, State.poAddAll d f.job l 0 r.1 = .inl u → t.pourJobs = u.pourJobs ∧ t.get (R.POUR_TGT_STATUS p d) F.POUR_TGT_STATUS_CODE = 0) ∧
        (∀ c i, State.poAddAll d f.job l 0 r.1 = .inr (c, i) → t.pourJobs = s.pourJobs ∧
          t.get (R.POUR_TGT_STATUS p d) F.POUR_TGT_STATUS_CODE = c % 64 ∧ t.get (R.POUR_TGT_STATUS p d) F.POUR_TGT_STATUS_INDEX = i % 2 ^ 20))) ∧
  (∀ (p : Port) (d : Fin 4) (f : ListFetch) (errs : List (Nat × Ecc)) (s : State), look (fun _ => none) s.pourFetch (2 * d.val + p.toNat) = some f →
    Settled s → s.engineWaits (mPOUR d) f.addr (.read (4 * f.count)) = true → exec (.pourTgtFetchDone p d errs) s = .next s) ∧
  (∀ (p : Port) (d : Fin 4) (j : Fin 8) (what : Fin 16) (mode : Fin 4) (bits : Byte) (s : State), s.reaches p 0 = true → what.val < 12 →
    (s.pour d j).words.all (fun w => s.injAllowed d j what w) = true →
    ∃ t, exec (.pourInjectArm p d j what mode bits) s = .next t ∧ t.flag (R.POUR_JOB_INJ d j) F.POUR_JOB_INJ_ARM = true ∧
      t.injWhat d j = what.val ∧ t.injBits d j = bits.toNat ∧ t.get (R.POUR_JOB_INJ d j) F.POUR_JOB_INJ_MODE = mode.val ∧
      t.pour d j = { s.pour d j with tgts := (s.pour d j).tgts.map (fun x => { x with inj := none }) } ∧
      RegsOnly (fun r => r == R.POUR_JOB_INJ d j) { s with pourJobs := t.pourJobs } t) ∧
  (∀ (p : Port) (d : Fin 4) (j : Fin 8) (what : Fin 16) (mode : Fin 4) (bits : Byte) (s : State), s.reaches p 0 = true →
    12 ≤ what.val ∨ (s.pour d j).words.any (fun w => !s.injAllowed d j what w) = true →
    ∃ t, exec (.pourInjectArm p d j what mode bits) s = .next t ∧ t.flag (R.POUR_JOB_INJ d j) F.POUR_JOB_INJ_ARM = false ∧
      t.get (R.POUR_JOB_STATUS d j) F.POUR_JOB_STATUS_CODE = 1 ∧
      RegsOnly (fun r => r == R.POUR_JOB_INJ d j || r == R.POUR_JOB_STATUS d j) s t)

/-- R303, R304, R307, Table 12-10: the life of a Pour job, and the steps of its pointer script. What START clears, the refusal of an unreadable
script with SCRIPT and what its reads find, the wrap of STEP to 0 behind step 1,023, and that a step without a pointer action restarts the
wait are the model's choice (notes/assumptions/61.md, 112.md). -/
def Obligations.PourJobsChangeState : Prop :=
  (∀ (p : Port) (d : Fin 4) (j : Fin 8) (s : State), s.reaches p 0 = true → s.poSt d j = poFREE →
    ∃ t, exec (.pourJobDefine p d j) s = .next t ∧ t.poSt d j = poDEFINED ∧ t.pour d j = emptyPour ∧
      t.rd (R.POUR_JOB_PLAYED d j) = 0 ∧ t.ctr64 (ctrPourUnder d j) = 0 ∧ t.mem = s.mem) ∧
  (∀ (p : Port) (d : Fin 4) (j : Fin 8) (s : State), s.reaches p 0 = true → poIdle (s.poSt d j) = true → s.poStartCode d j false = 0 →
    (s.scriptRead d j 0).2 = true →
    ∃ t, exec (.pourJobStart p d j) s = .next t ∧ t.poSt d j = poPENDING ∧ (t.pour d j).words = (s.pour d j).words ∧
      t.rd (R.POUR_JOB_PLAYED d j) = 0 ∧ t.rd (R.POUR_JOB_START_FN d j) = s.rd (R.POUR_JOB_START_FN d j) ∧ t.mem = s.mem) ∧
  (∀ (p : Port) (d : Fin 4) (j : Fin 8) (s : State), s.reaches p 0 = true → Settled s → poIdle (s.poSt d j) = true →
    s.poStartCode d j false ≠ 0 → s.scrOn d j = false ∨ s.poStartCode d j false < 0x0D ∨ s.scriptPlace d j = false →
    ∃ t, exec (.pourJobStart p d j) s = .next t ∧ t.get (R.POUR_JOB_STATUS d j) F.POUR_JOB_STATUS_CODE = s.poStartCode d j false ∧
      t.poSt d j = s.poSt d j ∧ RegsOnly (fun r => r == R.POUR_JOB_STATUS d j) s t) ∧
  (∀ (p : Port) (d : Fin 4) (j : Fin 8) (s : State), s.reaches p 0 = true → poIdle (s.poSt d j) = true →
    (s.scriptRead d j (s.poStartCode d j false)).2 = false →
    ∃ t, exec (.pourJobStart p d j) s = .next t ∧ t.get (R.POUR_JOB_STATUS d j) F.POUR_JOB_STATUS_CODE = 0x0D ∧ t.poSt d j = s.poSt d j ∧
      t.mem = s.mem) ∧
  (∀ (p : Port) (d : Fin 4) (j : Fin 8) (s : State), s.reaches p 0 = true → poIdle (s.poSt d j) = true → s.poStartCode d j true = 0 →
    (s.scriptRead d j 0).2 = true →
    ∃ t, exec (.pourJobStartAsap p d j) s = .next t ∧ t.poSt d j = poPENDING ∧
      t.rd (R.POUR_JOB_START_FN d j) = BitVec.ofNat 32 ((s.fn + 5) / 4 * 4) ∧ t.mem = s.mem) ∧
  (∀ (d : Fin 4) (j : Fin 8) (s : State), s.poSt d j = poPENDING → s.fn = (s.pour d j).start →
    ∃ t, exec (.pourJobBegin d j) s = .next t ∧ t.poSt d j = poPLAYING ∧ (t.pour d j).endUp = none ∧
      (∀ x ∈ (t.pour d j).tgts, x.tap ∈ (s.pour d j).words) ∧ t.mem = s.mem) ∧
  (∀ (p : Port) (d : Fin 4) (j : Fin 8) (s : State), s.reaches p 0 = true → s.poSt d j = poPENDING →
    ∃ t, exec (.pourJobStop p d j) s = .next t ∧ t.poSt d j = poSTOPPED ∧
      t.get (R.POUR_JOB_STATUS d j) F.POUR_JOB_STATUS_END_CAUSE = 1 + p.toNat ∧ t.mem = s.mem) ∧
  (∀ (p : Port) (d : Fin 4) (j : Fin 8) (s : State), s.reaches p 0 = true → s.poSt d j = poPLAYING →
    ∃ t, exec (.pourJobStop p d j) s = .next t ∧ t.poSt d j = poENDING ∧
      t.get (R.POUR_JOB_STATUS d j) F.POUR_JOB_STATUS_END_CAUSE = 1 + p.toNat ∧
      (t.pour d j).endUp = some (if s.ns = 0 then s.up else s.up + 1) ∧ t.mem = s.mem) ∧
  (∀ (p : Port) (d : Fin 4) (j : Fin 8) (s : State), s.reaches p 0 = true → Settled s → poENDING ≤ s.poSt d j →
    ∃ t, exec (.pourJobStop p d j) s = .next t ∧ t.flag (R.POUR_JOB_STATUS d j) F.POUR_JOB_STATUS_LATE_STOP = true ∧
      t.poSt d j = s.poSt d j ∧ RegsOnly (fun r => r == R.POUR_JOB_STATUS d j) s t) ∧
  (∀ (d : Fin 4) (j : Fin 8) (e : Nat) (s : State), (s.pour d j).endUp = some e → s.poSt d j = poENDING → s.fn % 4 = 0 → e + 2 ≤ s.up →
    ∃ t, exec (.pourReleaseFrame d j) s = .next t ∧
      t.poSt d j = (if s.get (R.POUR_JOB_STATUS d j) F.POUR_JOB_STATUS_END_CAUSE = 3 then poDONE else poSTOPPED) ∧
      (t.pour d j).endUp = none ∧ (t.pour d j).words = (s.pour d j).words ∧ t.mem = s.mem) ∧
  (∀ (p : Port) (d : Fin 4) (j : Fin 8) (s : State), s.reaches p 0 = true → s.poSt d j = poDONE ∨ s.poSt d j = poSTOPPED →
    ∃ t, exec (.pourJobRelease p d j) s = .next t ∧ t.poSt d j = poFREE ∧ t.pour d j = emptyPour ∧ t.mem = s.mem) ∧
  (∀ (p : Port) (d : Fin 4) (j op : Fin 8) (s : State), s.reaches p 0 = true → s.poOpOK d j op = false →
    ∃ t, exec (.pourJobOpInvalid p d j op) s = .next t ∧ t.flag (R.POUR_JOB_STATUS d j) F.POUR_JOB_STATUS_OP_REFUSED = true ∧
      t.poSt d j = s.poSt d j ∧ RegsOnly (fun r => r == R.POUR_JOB_STATUS d j) s t) ∧
  (∀ (d : Fin 4) (j : Fin 8) (errs : List (Nat × Ecc)) (s : State), s.poSt d j = poPLAYING → s.scrOn d j = true →
    s.flag (R.POUR_JOB_SCR_CTRL d j) F.POUR_JOB_SCR_CTRL_SCRIPT_DONE = false →
    let i := s.get (R.POUR_JOB_SCR_CTRL d j) F.POUR_JOB_SCR_CTRL_STEP
    let w := s.scrWord d j i
    let op := bitsOf w 31 28
    i < s.scrSteps d j → op ≤ 4 → bitsOf w 27 16 ≤ (s.pour d j).scrWait → (s.pour d j).act.1 = 0 →
    (s.pourFetch1 d j (some (s.scrAddr d j i)) errs).2 = true →
    let u := (s.pourFetch1 d j (some (s.scrAddr d j i)) errs).1
    u.poSt d j = poPLAYING →
    ∃ t, exec (.pourScriptStep d j errs) s = .next t ∧ t.mem = s.mem ∧
      (op = 0 → t.flag (R.POUR_JOB_SCR_CTRL d j) F.POUR_JOB_SCR_CTRL_SCRIPT_DONE = true ∧ t.bit (R.EVT_STICKY (evDie d)) srcPOUR = true ∧
        t.pourJobs = s.pourJobs) ∧
      (1 ≤ op → (t.pour d j).act = (if op ≤ 3 then (op, w.toNat % 1024) else (s.pour d j).act) ∧ (t.pour d j).scrWait = 0 ∧
        t.get (R.POUR_JOB_SCR_CTRL d j) F.POUR_JOB_SCR_CTRL_STEP = (i + 1) % 2 ^ F.POUR_JOB_SCR_CTRL_STEP.w ∧
        (Settled u → RegsOnly (fun r => r == R.POUR_JOB_SCR_CTRL d j) { u with pourJobs := t.pourJobs } t))) ∧
  (∀ (d : Fin 4) (j : Fin 8) (errs : List (Nat × Ecc)) (s : State), s.poSt d j = poPLAYING → s.scrOn d j = true →
    s.flag (R.POUR_JOB_SCR_CTRL d j) F.POUR_JOB_SCR_CTRL_SCRIPT_DONE = false →
    let i := s.get (R.POUR_JOB_SCR_CTRL d j) F.POUR_JOB_SCR_CTRL_STEP
    let w := s.scrWord d j i
    i < s.scrSteps d j → bitsOf w 31 28 ≤ 4 → (s.pour d j).scrWait < bitsOf w 27 16 ∨ (s.pour d j).act.1 ≠ 0 →
    (s.pourFetch1 d j (some (s.scrAddr d j i)) errs).2 = true →
    ∃ t, exec (.pourScriptStep d j errs) s = .next t ∧ t.mem = s.mem ∧ t.pour d j = s.pour d j ∧
      t.rd (R.POUR_JOB_SCR_CTRL d j) = s.rd (R.POUR_JOB_SCR_CTRL d j)) ∧
  (∀ (d : Fin 4) (j : Fin 8) (errs : List (Nat × Ecc)) (s : State), s.poSt d j = poPLAYING → s.scrOn d j = true →
    s.flag (R.POUR_JOB_SCR_CTRL d j) F.POUR_JOB_SCR_CTRL_SCRIPT_DONE = false →
    let i := s.get (R.POUR_JOB_SCR_CTRL d j) F.POUR_JOB_SCR_CTRL_STEP
    let w := s.scrWord d j i
    let count := bitsOf w 27 16
    let n := look (fun _ => 0) (s.pour d j).loops i
    i < s.scrSteps d j → bitsOf w 31 28 = 5 → (s.pourFetch1 d j (some (s.scrAddr d j i)) errs).2 = true →
    ∃ t, exec (.pourScriptStep d j errs) s = .next t ∧ t.mem = s.mem ∧
      (count = 0 ∨ n < count → t.get (R.POUR_JOB_SCR_CTRL d j) F.POUR_JOB_SCR_CTRL_STEP = w.toNat % 1024 ∧
        look (fun _ => 0) (t.pour d j).loops i = n + 1) ∧
      (count ≠ 0 → count ≤ n → t.get (R.POUR_JOB_SCR_CTRL d j) F.POUR_JOB_SCR_CTRL_STEP = (i + 1) % 2 ^ F.POUR_JOB_SCR_CTRL_STEP.w ∧
        look (fun _ => 0) (t.pour d j).loops i = 0) ∧
      (t.pour d j).act = (s.pour d j).act ∧ (t.pour d j).scrWait = (s.pour d j).scrWait)

-- Work banks, SIEVE, DRAM and the matrix (13_memory_matrix.md)

/-- R311 to R316, R319, R322, R323: an access that the owner admits reads and writes bytes of its word, and of two host ports' writes in one
cycle Port B's bytes stand and a race counts; an access that the owner does not admit counts, the new owner's waits for the end of the
handover and then proceeds; a write of OWNER by a host port, or by the housekeeper for a bank of its own, starts a handover or is refused; a
bank is claimed, retired and returned. What a failed access answers, banks that a die lacks, and the IDs of waiting requests are the model's
choice (notes/assumptions/66.md, 76.md, 87.md). -/
def Obligations.WorkBanksAreOwned : Prop :=
  (∀ (m : Fin 19) (d : Fin 4) (b : Fin 42) (off : Fin 262144) (n : Nat) (s : State), s.bankAdmits m d b off (.read n) = true →
    matrixPath m (1 + d.val) false = true → s.bit R.MATRIX_MRST_BUSY m = false → s.waitsAt m (.bank d b off (.read n) .ok none) = false →
    ∃ t, exec (.wbAccess m d b off (.read n) .ok none) s = .next t ∧ t.resp = .bytes (s.ld (wbBase d b + off) n) ∧ t.mem = s.mem) ∧
  (∀ (m : Fin 19) (d : Fin 4) (b : Fin 42) (off : Fin 262144) (l : List (Option Byte)) (s : State),
    s.bankAdmits m d b off (.write l) = true → matrixPath m (1 + d.val) true = true → s.bit R.MATRIX_MRST_BUSY m = false →
    s.waitsAt m (.bank d b off (.write l) .ok none) = false →
    ∃ t, exec (.wbAccess m d b off (.write l) .ok none) s = .next t ∧
      (∀ (i : Nat) (v : Byte), l[i]? = some (some v) → t.ldb (wbBase d b + off + i) = v) ∧
      (∀ a, (∀ (i : Nat) (v : Byte), l[i]? = some (some v) → a ≠ wbBase d b + off + i) → t.ldb a = s.ldb a)) ∧
  (∀ (d : Fin 4) (b : Fin 42) (off : Fin 262144) (l l' : List (Option Byte)) (s : State), s.bankAdmits mHOSTA d b off (.write l) = true →
    s.bankAdmits mHOSTB d b off (.write l') = true → s.bit R.MATRIX_MRST_BUSY 0 = false → s.bit R.MATRIX_MRST_BUSY 1 = false →
    s.waitsAt mHOSTA (.bank d b off (.write l) .ok (some l')) = false →
    ∃ t, exec (.wbAccess 0 d b off (.write l) .ok (some l')) s = .next t ∧
      t.ctr ⟨R.WB_RACE_LO d b, R.WB_RACE_HI d b⟩ = (s.ctr ⟨R.WB_RACE_LO d b, R.WB_RACE_HI d b⟩ + 1) % 2 ^ 48 ∧
      (∀ (i : Nat) (v : Byte), l'[i]? = some (some v) → t.ldb (wbBase d b + off.val / 8 * 8 + i) = v)) ∧
  (∀ (m : Fin 19) (d : Fin 4) (b : Fin 42) (off : Fin 262144) (op : MemOp) (ecc : Ecc) (s : State), s.bankExists d b = true →
    s.bankWaits m d b off op = false → s.bankAdmits m d b off op = false → matrixPath m (1 + d.val) op.isWrite = true → Settled s →
    s.bit R.MATRIX_MRST_BUSY m = false → s.waitsAt m (.bank d b off op ecc none) = false →
    ∃ t, exec (.wbAccess m d b off op ecc none) s = .next t ∧ t.mem = s.mem ∧
      t.ctr ⟨R.WB_VIOL_LO d, R.WB_VIOL_HI d⟩ = (s.ctr ⟨R.WB_VIOL_LO d, R.WB_VIOL_HI d⟩ + 1) % 2 ^ 48 ∧
      t.get (R.WB_VIOL_LAST d) F.WB_VIOL_LAST_MASTER = m.val ∧ t.get (R.WB_VIOL_LAST d) F.WB_VIOL_LAST_BANK = b.val ∧
      t.resp = (if m.val < 2 then .ur else .error)) ∧
  (∀ (m : Fin 19) (d : Fin 4) (b : Fin 42) (off : Fin 262144) (op : MemOp) (ecc : Ecc) (other : Option (List (Option Byte))) (s : State),
    s.bankWaits m d b off op = true → matrixPath m (1 + d.val) op.isWrite = true → s.bit R.MATRIX_MRST_BUSY m = false → Settled s →
    s.waitsAt m (.bank d b off op ecc other) = false →
    ∃ t i, exec (.wbAccess m d b off op ecc other) s = .next t ∧ t.resp = .none ∧ t.mem = s.mem ∧
      t.wbWait = s.wbWait ++ [⟨m.val, d.val, b.val, i, .bank d b off op ecc other⟩]) ∧
  (∀ (m : Fin 19) (d : Fin 4) (b : Fin 42) (off : Fin 262144) (op : MemOp) (ecc : Ecc) (s : State), s.bankExists d b = false → m.val < 2 →
    s.bit R.MATRIX_MRST_BUSY m = false → s.waitsAt m (.bank d b off op ecc none) = false → Settled s →
    exec (.wbAccess m d b off op ecc none) s = .next (s.answer .ur)) ∧
  (∀ (m : Fin 19) (d : Fin 4) (b : Fin 42) (off : Fin 262144) (op : MemOp) (ecc : Ecc) (other : Option (List (Option Byte))) (s : State),
    matrixPath m (1 + d.val) op.isWrite = false → s.bit R.MATRIX_MRST_BUSY m = false → s.waitsAt m (.bank d b off op ecc other) = false →
    ∃ t, exec (.wbAccess m d b off op ecc other) s = .next t ∧ t.mem = s.mem ∧
      t.ctr ⟨R.MATRIX_DENY_LO, R.MATRIX_DENY_HI⟩ = (s.ctr ⟨R.MATRIX_DENY_LO, R.MATRIX_DENY_HI⟩ + 1) % 2 ^ 48 ∧
      t.get R.MATRIX_DENY_LAST F.MATRIX_DENY_LAST_MASTER = m.val ∧ t.get R.MATRIX_DENY_LAST F.MATRIX_DENY_LAST_TARGET = 1 + d.val ∧
      t.resp = .error) ∧
  (∀ (p : Port) (d : Fin 4) (b : Fin 42) (v : Word) (s : State), s.reaches p 0 = true → Settled s →
    fget v F.WB_OWN_OWNER ≠ s.bankOwner d b → s.ownCause d b (fget v F.WB_OWN_OWNER) false = 0 → fget v F.WB_OWN_RETIRED = 0 →
    ∃ t, exec (.wbOwnerWrite (some p) d b v) s = .next t ∧ t.bankPending d b = true ∧ t.bankOwner d b = s.bankOwner d b ∧
      look (fun _ => 0) t.wbNew (64 * d.val + b.val) = fget v F.WB_OWN_OWNER ∧ t.mem = s.mem ∧
      t.get (R.WB_OWN d b) F.WB_OWN_LEND = fget v F.WB_OWN_LEND ∧
      (s.bankOwner d b = 5 → t.timer (clearKey 3 d b) = some (s.clk + 30000))) ∧
  (∀ (p : Port) (d : Fin 4) (b : Fin 42) (v : Word) (s : State), s.reaches p 0 = true → Settled s →
    fget v F.WB_OWN_OWNER ≠ s.bankOwner d b → s.ownCause d b (fget v F.WB_OWN_OWNER) false ≠ 0 →
    ∃ t, exec (.wbOwnerWrite (some p) d b v) s = .next t ∧ t.flag (R.WB_STATUS d) F.WB_STATUS_OWN_REJ = true ∧
      t.get (R.WB_STATUS d) F.WB_STATUS_REJ_CAUSE = s.ownCause d b (fget v F.WB_OWN_OWNER) false ∧
      t.get (R.WB_STATUS d) F.WB_STATUS_REJ_BANK = b.val ∧ RegsOnly (fun r => r == R.WB_STATUS d) s t) ∧
  (∀ (d : Fin 4) (b : Fin 42) (v : Word) (s : State), Settled s → s.bit R.MATRIX_MRST_BUSY mHK = false → fget v F.WB_OWN_RETIRED = 0 →
    fget v F.WB_OWN_OWNER ≠ s.bankOwner d b → s.ownCause d b (fget v F.WB_OWN_OWNER) true = 0 →
    ∃ t, exec (.wbOwnerWrite none d b v) s = .next t ∧ t.bankPending d b = true ∧ t.bankOwner d b = 6 ∧ s.bankOwner d b = 6 ∧
      look (fun _ => 0) t.wbNew (64 * d.val + b.val) = fget v F.WB_OWN_OWNER ∧ t.mem = s.mem) ∧
  (∀ (d : Fin 4) (b : Fin 42) (v : Word) (s : State), Settled s → s.bit R.MATRIX_MRST_BUSY mHK = false →
    fget v F.WB_OWN_OWNER ≠ s.bankOwner d b → s.ownCause d b (fget v F.WB_OWN_OWNER) true ≠ 0 →
    ∃ t, exec (.wbOwnerWrite none d b v) s = .next t ∧ t.flag (R.WB_STATUS d) F.WB_STATUS_OWN_REJ = true ∧
      t.get (R.WB_STATUS d) F.WB_STATUS_REJ_CAUSE = s.ownCause d b (fget v F.WB_OWN_OWNER) true ∧
      t.get (R.WB_STATUS d) F.WB_STATUS_REJ_BANK = b.val ∧ RegsOnly (fun r => r == R.WB_STATUS d) s t) ∧
  (∀ (d : Fin 4) (b : Fin 42) (v : Word) (s : State), s.bit R.MATRIX_MRST_BUSY mHK = true → exec (.wbOwnerWrite none d b v) s = .next s) ∧
  (∀ (d : Fin 4) (b : Fin 42) (s : State), Settled s → s.bankPending d b = true → s.bankOwner d b ≠ 5 →
    s.wbWait.all (fun w => !(w.die == d.val && w.bank == b.val)) = true →
    ∃ t, exec (.wbHandoverDone d b) s = .next t ∧ t.bankPending d b = false ∧
      t.bankOwner d b = look (fun _ => 0) s.wbNew (64 * d.val + b.val) % 8 ∧ t.mem = s.mem ∧ t.wbWait = s.wbWait) ∧
  (∀ (d : Fin 4) (b : Fin 42) (m off n i : Nat) (s : State), Settled s → s.bankPending d b = true → s.bankOwner d b ≠ 5 →
    s.bankExists d b = true → s.bankRetired d b = false → matrixPath m (1 + d.val) false = true →
    ownerAdmits (look (fun _ => 0) s.wbNew (64 * d.val + b.val) % 8) m d off (.read n) = true → s.mxWait = [] →
    s.wbWait.filter (fun w => w.die == d.val && w.bank == b.val) = [⟨m, d.val, b.val, i, .bank d b off (.read n) .ok none⟩] →
    ∃ t, exec (.wbHandoverDone d b) s = .next t ∧ t.resp = .bytes (s.ld (wbBase d b + off) n) ∧ t.mem = s.mem ∧
      t.wbWait = s.wbWait.filter (fun w => !(w.die == d.val && w.bank == b.val)) ∧ i ∉ t.mxIds m) ∧
  (∀ (d : Fin 4) (b : Fin 42) (s : State), Settled s → s.bankPending d b = true → s.bankOwner d b = 5 →
    s.wbWait.all (fun w => !(w.die == d.val && w.bank == b.val)) = true →
    ∃ t, exec (.wbSieveZeroDone d b) s = .next t ∧ t.bankPending d b = false ∧
      t.bankOwner d b = look (fun _ => 0) s.wbNew (64 * d.val + b.val) % 8 ∧
      ∀ a, t.ldb a = if inBank d b a then 0 else s.ldb a) ∧
  (∀ (p : Port) (d : Fin 4) (b : Fin 42) (s : State), s.reaches p 0 = true → Settled s → s.flag (R.WB_OWN d b) F.WB_OWN_ON_LOAN = true →
    ∃ t, exec (.wbClaimNormal p d b) s = .next t ∧ t.flag (R.WB_OWN d b) F.WB_OWN_ON_LOAN = false ∧ t.sieveAt d b = s.sieveAt d b ∧
      t.bankOwner d b = s.bankOwner d b ∧ t.mem = s.mem ∧
      (s.get (R.SIEVE_STATUS d) F.SIEVE_STATUS_BANK = b.val → t.flag (R.SIEVE_STATUS d) F.SIEVE_STATUS_BUSY = false)) ∧
  (∀ (p : Port) (d : Fin 4) (b : Fin 42) (s : State), s.reaches p 0 = true → Settled s → s.flag (R.WB_OWN d b) F.WB_OWN_ON_LOAN = true →
    ∃ t, exec (.wbClaimUrgent p d b) s = .next t ∧ t.flag (R.WB_OWN d b) F.WB_OWN_ON_LOAN = false ∧ t.sieveAt d b = 0 ∧
      t.ctr ⟨R.SIEVE_ABANDON_LO d, R.SIEVE_ABANDON_HI d⟩ = (s.ctr ⟨R.SIEVE_ABANDON_LO d, R.SIEVE_ABANDON_HI d⟩ + 1) % 2 ^ 48 ∧
      t.bankOwner d b = s.bankOwner d b ∧ t.mem = s.mem) ∧
  (∀ (p : Port) (d : Fin 4) (b : Fin 42) (s : State), s.reaches p 0 = true → s.flag (R.WB_OWN d b) F.WB_OWN_RETIRED = false →
    ∃ t, exec (.wbRetire p d b) s = .next t ∧ t.flag (R.WB_OWN d b) F.WB_OWN_RETIRED = true ∧ t.bankOwner d b = 0 ∧
      t.bankPending d b = false ∧ (∀ w ∈ t.wbWait, w.die = d.val → w.bank ≠ b.val) ∧ ReactOnly (s.answer .done) t) ∧
  (∀ (p : Port) (d : Fin 4) (b : Fin 42) (s : State), s.reaches p 0 = true → s.flag (R.WB_OWN d b) F.WB_OWN_RETIRED = true →
    ∃ t, exec (.wbUnretire p d b) s = .next t ∧ t.flag (R.WB_OWN d b) F.WB_OWN_RETIRED = false ∧
      t.timer (clearKey 3 d b) = some (s.clk + 30000) ∧
      RegsOnly (fun r => r == R.WB_OWN d b) { s with wbReturning := (64 * d.val + b.val) :: s.wbReturning, timers := t.timers } t) ∧
  (∀ (d : Fin 4) (b : Fin 42) (s : State), s.wbReturning.contains (64 * d.val + b.val) = true →
    ∃ t, exec (.wbUnretireDone d b) s = .next t ∧ t.bankOwner d b = 0 ∧
      t.wbReturning = s.wbReturning.filter (fun x => x != 64 * d.val + b.val) ∧ ∀ a, t.ldb a = if inBank d b a then 0 else s.ldb a)

/-- R317, R318, R321, R322 and R325: SIEVE borrows a free bank, marches its groups and counts passes and faults, and leaves the group of a bank
it owns with contents that are a free value; a DRAM request that its partition admits reads and writes bytes, and a denied one counts; the
patrol checks the words of a line, each of which counts once. What SIEVE_STATUS shows of a bank that SIEVE owns, and that a whole word is
checked once, are the model's choice (notes/assumptions/88.md). -/
def Obligations.SieveAndDram : Prop :=
  (∀ (d : Fin 4) (b : Fin 42) (s : State), s.flag (R.SIEVE_CTRL d) F.SIEVE_CTRL_EN = true → s.bit R.MATRIX_MRST_BUSY (mSIEVE d) = false →
    s.sieveTests d = false → s.bankExists d b = true → s.bankRetired d b = false →
    s.bankPending d b = false → s.bankOwner d b = 0 →
    ∃ t, exec (.sieveBorrow d b) s = .next t ∧ t.flag (R.SIEVE_STATUS d) F.SIEVE_STATUS_BUSY = true ∧
      t.get (R.SIEVE_STATUS d) F.SIEVE_STATUS_BANK = b.val ∧ RegsOnly (fun r => r == R.SIEVE_STATUS d) s t) ∧
  (∀ (d : Fin 4) (b : Fin 42) (s : State), s.flag (R.SIEVE_CTRL d) F.SIEVE_CTRL_EN = true → s.bit R.MATRIX_MRST_BUSY (mSIEVE d) = false →
    s.sieveTests d = false → s.bankExists d b = true → s.bankRetired d b = false →
    s.bankPending d b = false → s.bankOwner d b ∈ [1, 2, 3, 4, 6] → s.flag (R.WB_OWN d b) F.WB_OWN_LEND = true →
    1000 * s.get (R.SIEVE_CTRL d) F.SIEVE_CTRL_LEND_IDLE ≤ s.clk - look (fun _ => 0) s.wbLast (64 * d.val + b.val) →
    ∃ t, exec (.sieveBorrow d b) s = .next t ∧ t.flag (R.SIEVE_STATUS d) F.SIEVE_STATUS_BUSY = true ∧
      t.flag (R.WB_OWN d b) F.WB_OWN_ON_LOAN = true ∧ t.bankOwner d b = s.bankOwner d b ∧
      RegsOnly (fun r => r == R.SIEVE_STATUS d || r == R.WB_OWN d b) s t) ∧
  (∀ (d : Fin 4) (b : Fin 42) (s : State), Settled s → s.flag (R.SIEVE_CTRL d) F.SIEVE_CTRL_EN = true →
    s.bit R.MATRIX_MRST_BUSY (mSIEVE d) = false → s.sieveTests d = true →
    s.get (R.SIEVE_STATUS d) F.SIEVE_STATUS_BANK = b.val → s.sieveAt d b + 1 < 512 →
    exec (.sieveGroupStep d b []) s = .next (s.setSieveAt d b (s.sieveAt d b + 1))) ∧
  (∀ (d : Fin 4) (b : Fin 42) (s : State), Settled s → s.flag (R.SIEVE_CTRL d) F.SIEVE_CTRL_EN = true →
    s.bit R.MATRIX_MRST_BUSY (mSIEVE d) = false → s.bankExists d b = true → s.bankRetired d b = false → s.bankOwner d b = 5 →
    s.bankPending d b = false → s.sieveAt d b + 1 < 512 →
    ∃ t, exec (.sieveGroupStep d b []) s = .next t ∧ t.sieveAt d b = s.sieveAt d b + 1 ∧
      (s.sieveTests d = false → t.flag (R.SIEVE_STATUS d) F.SIEVE_STATUS_BUSY = true ∧ t.get (R.SIEVE_STATUS d) F.SIEVE_STATUS_BANK = b.val) ∧
      (∀ a, a < wbBase d b + 512 * s.sieveAt d b ∨ wbBase d b + 512 * s.sieveAt d b + 512 ≤ a → t.ldb a = s.ldb a) ∧
      RegsOnly (fun r => r == R.SIEVE_STATUS d) { s with mem := t.mem, draw := t.draw, sievePos := t.sievePos } t) ∧
  (∀ (d : Fin 4) (b : Fin 42) (s : State), Settled s → s.flag (R.SIEVE_CTRL d) F.SIEVE_CTRL_EN = true →
    s.bit R.MATRIX_MRST_BUSY (mSIEVE d) = false → s.sieveTests d = true →
    s.get (R.SIEVE_STATUS d) F.SIEVE_STATUS_BANK = b.val → s.sieveAt d b = 511 →
    ∃ t, exec (.sieveGroupStep d b []) s = .next t ∧ t.sieveAt d b = 0 ∧ t.flag (R.SIEVE_STATUS d) F.SIEVE_STATUS_BUSY = false ∧
      t.flag (R.WB_OWN d b) F.WB_OWN_ON_LOAN = false ∧
      t.ctr ⟨R.SIEVE_PASS_LO d, R.SIEVE_PASS_HI d⟩ = (s.ctr ⟨R.SIEVE_PASS_LO d, R.SIEVE_PASS_HI d⟩ + 1) % 2 ^ 48 ∧ t.mem = s.mem) ∧
  (∀ (d : Fin 4) (b : Fin 42) (w : Fin 64) (s : State), s.flag (R.SIEVE_CTRL d) F.SIEVE_CTRL_EN = true →
    s.bit R.MATRIX_MRST_BUSY (mSIEVE d) = false → s.sieveTests d = true →
    s.get (R.SIEVE_STATUS d) F.SIEVE_STATUS_BANK = b.val → s.sieveAt d b < 512 →
    ∃ t, exec (.sieveGroupStep d b [w]) s = .next t ∧
      t.ctr ⟨R.SIEVE_FAULT_LO d, R.SIEVE_FAULT_HI d⟩ = (s.ctr ⟨R.SIEVE_FAULT_LO d, R.SIEVE_FAULT_HI d⟩ + 1) % 2 ^ 48 ∧
      t.get (R.SIEVE_FAULT_LAST d) F.SIEVE_FAULT_LAST_BANK = b.val ∧
      t.get (R.SIEVE_FAULT_LAST d) F.SIEVE_FAULT_LAST_WORD = 64 * s.sieveAt d b + w.val ∧
      t.bit (R.EVT_STICKY (evDie d)) srcSIEVE = true ∧ t.mem = s.mem) ∧
  (∀ (m : Fin 19) (d : Fin 4) (o : Fin 17179869184) (n : Nat) (s : State), matrixPath m (5 + d.val) false = true →
    s.bit R.MATRIX_MRST_BUSY m = false → s.waitsAt m (.dram d o (.read n) []) = false →
    (∀ a ∈ (MemOp.read n).addrs o, ∃ k, s.partAt d a = some k ∧ partAdmits m k false = true) →
    ∃ t, exec (.dramAccess m d o (.read n) []) s = .next t ∧ t.resp = .bytes (s.ld (dramBase d + o) n) ∧ t.mem = s.mem) ∧
  (∀ (m : Fin 19) (d : Fin 4) (o : Fin 17179869184) (l : List (Option Byte)) (s : State), matrixPath m (5 + d.val) true = true →
    s.bit R.MATRIX_MRST_BUSY m = false → s.waitsAt m (.dram d o (.write l) []) = false →
    (∀ a ∈ (MemOp.write l).addrs o, ∃ k, s.partAt d a = some k ∧ partAdmits m k true = true) →
    ∃ t, exec (.dramAccess m d o (.write l) []) s = .next t ∧
      (∀ (i : Nat) (v : Byte), l[i]? = some (some v) → t.ldb (dramBase d + o + i) = v) ∧
      (∀ a, (∀ (i : Nat) (v : Byte), l[i]? = some (some v) → a ≠ dramBase d + o + i) → t.ldb a = s.ldb a)) ∧
  (∀ (m : Fin 19) (d : Fin 4) (o : Fin 17179869184) (op : MemOp) (errs : List (Nat × Ecc)) (s : State), s.bit R.MATRIX_MRST_BUSY m = false →
    s.waitsAt m (.dram d o op errs) = false → m.val < 2 → (∃ a ∈ op.addrs o, s.partAt d a = none) → Settled s →
    exec (.dramAccess m d o op errs) s = .next (s.answer .ur)) ∧
  (∀ (m : Fin 19) (d : Fin 4) (o : Fin 17179869184) (op : MemOp) (errs : List (Nat × Ecc)) (s : State), s.bit R.MATRIX_MRST_BUSY m = false →
    s.waitsAt m (.dram d o op errs) = false →
    (2 ≤ m.val ∧ matrixPath m (5 + d.val) op.isWrite = false ∨ 2 ≤ m.val ∧ (∃ a ∈ op.addrs o, s.partAt d a = none) ∨
      (∀ a ∈ op.addrs o, (s.partAt d a).isSome = true) ∧ (∃ a ∈ op.addrs o, ∃ k, s.partAt d a = some k ∧ partAdmits m k op.isWrite = false)) →
    ∃ t, exec (.dramAccess m d o op errs) s = .next t ∧ t.mem = s.mem ∧
      t.ctr ⟨R.MATRIX_DENY_LO, R.MATRIX_DENY_HI⟩ = (s.ctr ⟨R.MATRIX_DENY_LO, R.MATRIX_DENY_HI⟩ + 1) % 2 ^ 48 ∧
      t.get R.MATRIX_DENY_LAST F.MATRIX_DENY_LAST_MASTER = m.val ∧ t.get R.MATRIX_DENY_LAST F.MATRIX_DENY_LAST_TARGET = 5 + d.val ∧
      t.resp = (if m.val < 2 then .ur else .error)) ∧
  (∀ (d : Fin 4) (line : Fin 268435456) (s : State), s.flag (R.SIEVE_CTRL d) F.SIEVE_CTRL_EN = true → s.bit R.MATRIX_MRST_BUSY (mSIEVE d) = false → Settled s →
    exec (.dramPatrolRead d line []) s = .next s) ∧
  (∀ (d : Fin 4) (line : Fin 268435456) (k j : Fin 8) (s : State), s.flag (R.SIEVE_CTRL d) F.SIEVE_CTRL_EN = true →
    s.bit R.MATRIX_MRST_BUSY (mSIEVE d) = false →
    ∃ t, exec (.dramPatrolRead d line [(k, .correctable), (j, .correctable)]) s = .next t ∧ t.mem = s.mem ∧
      t.ctr ⟨R.DRAM_CE_LO d, R.DRAM_CE_HI d⟩ = (s.ctr ⟨R.DRAM_CE_LO d, R.DRAM_CE_HI d⟩ + (if k = j then 1 else 2)) % 2 ^ 48 ∧
      t.bit (R.EVT_STICKY (evDie d)) srcDRAM = true) ∧
  (∀ (d : Fin 4) (line : Fin 268435456) (k : Fin 8) (s : State), s.flag (R.SIEVE_CTRL d) F.SIEVE_CTRL_EN = true →
    s.bit R.MATRIX_MRST_BUSY (mSIEVE d) = false →
    ∃ t, exec (.dramPatrolRead d line [(k, .uncorrectable)]) s = .next t ∧ t.mem = s.mem ∧
      t.ctr ⟨R.DRAM_UE_LO d, R.DRAM_UE_HI d⟩ = (s.ctr ⟨R.DRAM_UE_LO d, R.DRAM_UE_HI d⟩ + 1) % 2 ^ 48 ∧
      t.flag (R.DRAM_ERR_LAST d) F.DRAM_ERR_LAST_UE = true ∧ t.get (R.DRAM_ERR_LAST d) F.DRAM_ERR_LAST_LINE = line.val ∧
      t.bit (R.EVT_STICKY (evDie d)) srcDRAM = true)

/-- R411, R328 to R332: a BAR2 request acts only where every byte is admitted, waits where a handover to its port is under way, and otherwise
gets Unsupported Request; the matrix gives a master's request an ID that none of its others holds, holds its requests under its limits,
denies a path that Table 13-4 lacks, ends requests with their responses, and resets a master. A host port's command in registers is a
request too and waits like one. Which ID a request has, and that an access which is answered at once is not outstanding, are the model's
choice (notes/assumptions/87.md). -/
def Obligations.HostMemoryAndMatrix : Prop :=
  (∀ (p : Port) (a n : Nat) (s : State), s.answers p = true → (∀ x ∈ (MemOp.read n).addrs a, s.bar2Admits p.master false x = true) →
    s.waitsAt p.master (.bar2 p a (.read n) []) = false →
    ∃ t, exec (.bar2Request p a (.read n) []) s = .next t ∧ t.resp = .bytes (s.ld a n) ∧ t.mem = s.mem) ∧
  (∀ (p : Port) (a : Nat) (l : List (Option Byte)) (s : State), s.answers p = true →
    (∀ x ∈ (MemOp.write l).addrs a, s.bar2Admits p.master true x = true) →
    s.waitsAt p.master (.bar2 p a (.write l) []) = false →
    ∃ t, exec (.bar2Request p a (.write l) []) s = .next t ∧ t.resp = .done ∧
      (∀ (i : Nat) (v : Byte), l[i]? = some (some v) → t.ldb (a + i) = v) ∧
      (∀ x, (∀ (i : Nat) (v : Byte), l[i]? = some (some v) → x ≠ a + i) → t.ldb x = s.ldb x)) ∧
  (∀ (p : Port) (a : Nat) (op : MemOp) (errs : List (Nat × Ecc)) (s : State), s.answers p = true →
    (∃ x ∈ op.addrs a, s.bar2Admits p.master op.isWrite x = false ∧ s.bar2Waits p.master op.isWrite x = none) →
    s.waitsAt p.master (.bar2 p a op errs) = false →
    ∃ t, exec (.bar2Request p a op errs) s = .next t ∧ t.resp = .ur ∧ t.mem = s.mem) ∧
  (∀ (p : Port) (a : Nat) (op : MemOp) (errs : List (Nat × Ecc)) (s : State), s.answers p = true → Settled s →
    (∀ x ∈ op.addrs a, s.bar2Admits p.master op.isWrite x = true ∨ (s.bar2Waits p.master op.isWrite x).isSome = true) →
    (∃ x ∈ op.addrs a, (s.bar2Waits p.master op.isWrite x).isSome = true) → s.waitsAt p.master (.bar2 p a op errs) = false →
    ∃ t w, exec (.bar2Request p a op errs) s = .next t ∧ t.resp = .none ∧ t.mem = s.mem ∧ t.wbWait = s.wbWait ++ [w] ∧
      w.acc = .bar2 p a op errs) ∧
  (∀ (p : Port) (a : Nat) (op : MemOp) (errs : List (Nat × Ecc)) (s : State), s.answers p = true → Settled s →
    s.waitsAt p.master (.bar2 p a op errs) = true →
    exec (.bar2Request p a op errs) s = .next { s.answer .none with mxWait := s.mxWait ++ [⟨p.master, .bar2 p a op errs⟩] }) ∧
  (∀ (p : Port) (a : BitVec 28) (l : List (Option Byte)) (s : State), s.answers p = true → Settled s → s.regWaits p (.registerWrite p a l) = true →
    exec (.registerWrite p a l) s = .next { s.answer .none with mxWait := s.mxWait ++ [⟨p.toNat, .cmd (.registerWrite p a l)⟩] }) ∧
  (∀ (p : Port) (a : BitVec 28) (n : Nat) (sub : Fin 1024) (s : State), s.answers p = true → s.regWaits p (.counterLoRead p a n sub) = true →
    exec (.counterLoRead p a n sub) s = .next { s.answer .none with mxWait := s.mxWait ++ [⟨p.toNat, .cmd (.counterLoRead p a n sub)⟩] }) ∧
  (∀ (m : Fin 19) (k : Fin 11) (write : Bool) (s : State), s.bit R.MATRIX_MRST_BUSY m = false → matrixPath m k write = true →
    s.waitsAt m (.req k) = false →
    ∃ t i, exec (.matrixRequest m k write false) s = .next t ∧ t.mxOut = s.mxOut ++ [MxOut.mk m k i] ∧ t.outAt m k = s.outAt m k + 1 ∧
      ((s.mxIds m).length < 64 → i < 64 ∧ i ∉ s.mxIds m ∧ t.get (R.MATRIX_OUT m) F.MATRIX_OUT_COUNT = (s.mxIds m).length + 1) ∧
      RegsOnly (fun r => r == R.MATRIX_OUT m) { s with mxOut := t.mxOut, draw := t.draw } t) ∧
  (∀ (m : Fin 19) (k : Fin 11) (write : Bool) (s : State), s.bit R.MATRIX_MRST_BUSY m = false → matrixPath m k write = true →
    s.mxMayIssue m k = false ∨ s.mxWait.any (fun w => w.master == m.val) = true →
    exec (.matrixRequest m k write false) s = .next { s.answer .none with mxWait := s.mxWait ++ [⟨m.val, .req k.val⟩] }) ∧
  (∀ (m : Fin 19) (k : Fin 11) (write : Bool) (s : State), s.bit R.MATRIX_MRST_BUSY m = false → matrixPath m k write = false →
    ∃ t, exec (.matrixRequest m k write false) s = .next t ∧ t.mxOut = s.mxOut ∧ t.mem = s.mem ∧ t.resp = (if m.val < 2 then .ur else .error) ∧
      t.ctr ⟨R.MATRIX_DENY_LO, R.MATRIX_DENY_HI⟩ = (s.ctr ⟨R.MATRIX_DENY_LO, R.MATRIX_DENY_HI⟩ + 1) % 2 ^ 48) ∧
  (∀ (m : Fin 19) (k : Fin 11) (write : Bool) (s : State), 0 < s.outAt m k → s.mxWait.any (fun w => w.master == m.val) = false →
    (s.mxIds m).Nodup → (s.mxIds m).length ≤ 64 → Settled s →
    ∃ t, exec (.matrixRequest m k write true) s = .next t ∧ t.outAt m k = s.outAt m k - 1 ∧
      t.get (R.MATRIX_OUT m) F.MATRIX_OUT_COUNT = (s.mxIds m).length - 1 ∧
      RegsOnly (fun r => r == R.MATRIX_OUT m) { s with mxOut := t.mxOut } t) ∧
  (∀ (p : Port) (m : Fin 19) (s : State), s.reaches p 0 = true →
    ∃ t, exec (.matrixMasterReset p m) s = .next t ∧ t.bit R.MATRIX_MRST_BUSY m = true ∧
      t.mxWait = s.mxWait.filter (fun w => w.master != m.val)) ∧
  (∀ (m : Fin 19) (wr rd : Nat) (s : State), s.bit R.MATRIX_MRST_BUSY m = true →
    ∃ t, exec (.matrixResetDone m wr rd) s = .next t ∧ t.bit R.MATRIX_MRST_BUSY m = false ∧
      t.get (R.MATRIX_OUT m) F.MATRIX_OUT_COUNT = 0 ∧ (∀ k : Fin 11, t.outAt m k = 0) ∧
      t.get (R.MATRIX_RST_BEATS m) F.MATRIX_RST_BEATS_WR_BEATS = min wr 65535 ∧
      t.get (R.MATRIX_RST_BEATS m) F.MATRIX_RST_BEATS_RD_BEATS = min rd 65535 ∧
      t.rd (R.MATRIX_RST_FN m) = BitVec.ofNat 32 s.fn ∧ t.bit (R.EVT_STICKY (matrixSrc m).1) (matrixSrc m).2 = true ∧ t.mem = s.mem)

-- Transactions and connection maps (04_connection_transactions.md)

/-- R86, R87, R95: OPEN, RELEASE, TXN_FN and an operation that the slot's state does not list; a record is admitted by the checks of Table 04-7
and appended, refuses the transaction, or is discarded; a fetch begins where its block lies wholly in MAP's banks or in SCRATCH, and its
records are appended as they arrive; what a slot does not take is refused or discarded and counted. What is left open of fetching, of COUNT
and of a record that is refused is the model's choice (notes/assumptions/46.md), and so is that a read waits while an access of its master
would (87.md). -/
def Obligations.TransactionsAreFilled : Prop :=
  (∀ (p : Port) (k : Fin 8) (s : State), s.reaches p 0 = true → s.grave = false → s.txnState k = txFREE → s.ownSlot k = true →
    ∃ t, exec (.txnOpen p k) s = .next t ∧ t.txnState k = txOPEN ∧ t.slot k = (s.slot k).cleared ∧ t.rd (R.TXN_COUNT k) = 0 ∧
      t.rd (R.TXN_ERR_INDEX k) = 0xFFFFFFFF ∧ t.get (R.TXN_STATUS k) F.TXN_STATUS_CODE = 0 ∧ t.mirrored k = false ∧
      t.originMate k = false ∧ SlotOnly k s t ∧ TxnOnly (s.answer .done) t) ∧
  (∀ (p : Port) (k : Fin 8) (s : State), s.reaches p 0 = true →
    s.grave = true ∨ s.txnState k ≠ txFREE ∨ s.ownSlot k = false →
    ∃ t, exec (.txnOpen p k) s = .next t ∧ t.flag (R.TXN_STATUS k) F.TXN_STATUS_OP_REFUSED = true ∧ t.txnState k = s.txnState k ∧
      RegsOnly (fun r => r == R.TXN_STATUS k) s t) ∧
  (∀ (p : Port) (k : Fin 8) (s : State), s.reaches p 0 = true → s.grave = false → txCOMMITTED ≤ s.txnState k →
    s.flag (R.TXN_STATUS k) F.TXN_STATUS_CLEANING = false → s.copyOfMate k = false →
    ∃ t, exec (.txnRelease p k) s = .next t ∧ t.txnState k = txFREE ∧ t.slot k = (s.slot k).cleared ∧
      t.mateOut = (if s.mirrored k then .release k.val :: s.mateOut else s.mateOut) ∧ SlotOnly k s t ∧
      TxnOnly (s.answer .done) t) ∧
  (∀ (p : Port) (k : Fin 8) (s : State), s.reaches p 0 = true →
    s.grave = true ∨ s.txnState k < txCOMMITTED ∨ s.flag (R.TXN_STATUS k) F.TXN_STATUS_CLEANING = true ∨ s.copyOfMate k = true →
    ∃ t, exec (.txnRelease p k) s = .next t ∧ t.flag (R.TXN_STATUS k) F.TXN_STATUS_OP_REFUSED = true ∧ t.txnState k = s.txnState k ∧
      RegsOnly (fun r => r == R.TXN_STATUS k) s t) ∧
  (∀ (p : Port) (k : Fin 8) (s : State), s.reaches p 0 = true →
    ∃ t, exec (.txnOpInvalid p k) s = .next t ∧ t.flag (R.TXN_STATUS k) F.TXN_STATUS_OP_REFUSED = true ∧ t.txnState k = s.txnState k ∧
      RegsOnly (fun r => r == R.TXN_STATUS k) s t) ∧
  (∀ (p : Port) (k : Fin 8) (v : Word) (s : State), s.reaches p 0 = true → s.txnState k = txOPEN → s.copyOfMate k = false →
    ∃ t, exec (.txnFnWrite p k v) s = .next t ∧ t.rd (R.TXN_FN k) = v ∧ RegsOnly (fun r => r == R.TXN_FN k) s t) ∧
  (∀ (p : Port) (k : Fin 8) (v : Word) (s : State), s.reaches p 0 = true → s.txnState k ≠ txOPEN ∨ s.copyOfMate k = true →
    ∃ t, exec (.txnFnWrite p k v) s = .next t ∧ t.flag (R.TXN_STATUS k) F.TXN_STATUS_OP_REFUSED = true ∧
      RegsOnly (fun r => r == R.TXN_STATUS k) s t) ∧
  (∀ (p : Port) (k : Fin 8) (v : Word) (s : State), s.reaches p 0 = true → Settled s → s.txnState k = txOPEN → s.copyOfMate k = false →
    let r : Rec := ⟨s.rd (R.TXN_REC p k 0), s.rd (R.TXN_REC p k 1), s.rd (R.TXN_REC p k 2), v⟩
    let x := s.slot k
    ((s.adm k).check x.recs r = none →
      ∃ t, exec (.txnRecordAppend p k v) s = .next t ∧ t.slot k = { x with recs := x.recs ++ [r], unbuilt := x.unbuilt + 1 } ∧
        t.get (R.TXN_COUNT k) F.TXN_COUNT_RECORDS = (x.recs.length + 1) % 2 ^ 20 ∧ t.txnState k = txOPEN ∧
        t.mateOut = (if s.mirrored k && !s.originMate k then .record k.val r :: s.mateOut else s.mateOut) ∧ SlotOnly k s t ∧
        TxnOnly (s.answer .done) t) ∧
    (∀ c, (s.adm k).check x.recs r = some c → s.grave = false →
      ∃ t, exec (.txnRecordAppend p k v) s = .next t ∧ t.txnState k = txREFUSED ∧
        t.get (R.TXN_STATUS k) F.TXN_STATUS_CODE = c % 256 ∧ t.rd (R.TXN_ERR_INDEX k) = BitVec.ofNat 32 x.recs.length ∧
        t.slot k = { x with unbuilt := 0 } ∧
        t.mateOut = (if s.mirrored k then .refused k.val (some x.recs.length) :: s.mateOut else s.mateOut) ∧ t.flag (R.TXN_STATUS k) F.TXN_STATUS_CLEANING = !x.recs.isEmpty ∧ SlotOnly k s t ∧
        TxnOnly (s.answer .done) t)) ∧
  (∀ (p : Port) (k : Fin 8) (v : Word) (s : State), s.reaches p 0 = true → Settled s → s.txnState k ≠ txOPEN → s.copyOfMate k = false →
    ∃ t, exec (.txnRecordAppend p k v) s = .next t ∧
      t.get (R.TXN_COUNT k) F.TXN_COUNT_DISCARDED = min 4095 (s.get (R.TXN_COUNT k) F.TXN_COUNT_DISCARDED + 1) ∧
      RegsOnly (fun r => r == R.TXN_COUNT k) s t) ∧
  (∀ (p : Port) (k : Fin 8) (v : Word) (s : State), s.reaches p 0 = true → Settled s → s.copyOfMate k = true →
    ∃ t, exec (.txnRecordAppend p k v) s = .next t ∧ t.flag (R.TXN_STATUS k) F.TXN_STATUS_OP_REFUSED = true ∧ t.slot k = s.slot k ∧
      RegsOnly (fun r => r == R.TXN_STATUS k) s t) ∧
  (∀ (p : Port) (k : Fin 8) (n : Fin 1048576) (s : State), s.reaches p 0 = true → Settled s →
    s.txnState k ≠ txOPEN ∨ s.copyOfMate k = true ∨ s.flag (R.TXN_FETCH_CTRL k) F.TXN_FETCH_CTRL_BUSY = true →
    ∃ t, exec (.txnFetchStart p k n) s = .next t ∧ t.flag (R.TXN_STATUS k) F.TXN_STATUS_OP_REFUSED = true ∧ t.slot k = s.slot k ∧
      RegsOnly (fun r => r == R.TXN_STATUS k) s t) ∧
  (∀ (p : Port) (k : Fin 8) (n : Fin 1048576) (s : State), s.reaches p 0 = true → Settled s → s.txnState k = txOPEN →
    s.copyOfMate k = false → s.flag (R.TXN_FETCH_CTRL k) F.TXN_FETCH_CTRL_BUSY = false → n.val ≠ 0 →
    let a := 2 ^ 32 * ((s.rd (R.TXN_FETCH_HI k)).toNat % 32) + (s.rd (R.TXN_FETCH_LO k)).toNat / 16 * 16
    (s.fetchable a n = true →
      ∃ t, exec (.txnFetchStart p k n) s = .next t ∧ t.slot k = { s.slot k with fetchLeft := n.val, fetchAddr := a } ∧
        t.flag (R.TXN_FETCH_CTRL k) F.TXN_FETCH_CTRL_BUSY = true ∧ t.get (R.TXN_FETCH_CTRL k) F.TXN_FETCH_CTRL_COUNT = n.val ∧
        SlotOnly k s t ∧ TxnOnly (s.answer .done) t) ∧
    (s.fetchable a n = false → s.grave = false →
      ∃ t, exec (.txnFetchStart p k n) s = .next t ∧ t.txnState k = txREFUSED ∧
        t.get (R.TXN_STATUS k) F.TXN_STATUS_CODE = rcFETCH ∧ SlotOnly k s t ∧ TxnOnly (s.answer .done) t)) ∧
  (∀ (k : Fin 8) (n : Nat) (s : State), Settled s → s.txnState k = txOPEN → (s.slot k).fetchLeft = n + 1 → (s.slot k).stale = false →
    s.fetchable (s.slot k).fetchAddr 1 = true → s.bit R.MATRIX_MRST_BUSY (mapMaster (s.slot k).fetchAddr) = false →
    s.engineWaits (mapMaster (s.slot k).fetchAddr) (s.slot k).fetchAddr (.read 16) = false →
    let x := s.slot k
    let r := recOfBytes (s.ld x.fetchAddr 16)
    (s.adm k).check x.recs r = none →
    ∃ t, exec (.txnFetchRecord k (.ok, .ok)) s = .next t ∧
      t.slot k = { x with recs := x.recs ++ [r], unbuilt := x.unbuilt + 1, fetchLeft := n, fetchAddr := x.fetchAddr + 16 } ∧
      (n = 0 → t.flag (R.TXN_FETCH_CTRL k) F.TXN_FETCH_CTRL_BUSY = false) ∧ SlotOnly k s t) ∧
  (∀ (k : Fin 8) (n : Nat) (s : State), Settled s → s.takesFetch k = false → (s.slot k).fetchLeft = n + 1 →
    s.fetchable (s.slot k).fetchAddr 1 = true → s.bit R.MATRIX_MRST_BUSY (mapMaster (s.slot k).fetchAddr) = false →
    s.engineWaits (mapMaster (s.slot k).fetchAddr) (s.slot k).fetchAddr (.read 16) = false →
    ∃ t, exec (.txnFetchRecord k (.ok, .ok)) s = .next t ∧ (t.slot k).fetchLeft = n ∧ (t.slot k).recs = (s.slot k).recs ∧
      t.txnState k = s.txnState k ∧
      t.get (R.TXN_COUNT k) F.TXN_COUNT_DISCARDED = min 4095 (s.get (R.TXN_COUNT k) F.TXN_COUNT_DISCARDED + 1) ∧ SlotOnly k s t) ∧
  (∀ (k : Fin 8) (ecc : Ecc × Ecc) (s : State), Settled s → (s.slot k).fetchLeft ≠ 0 →
    s.engineWaits (mapMaster (s.slot k).fetchAddr) (s.slot k).fetchAddr (.read 16) = true → exec (.txnFetchRecord k ecc) s = .next s) ∧
  (∀ (k : Fin 8) (ecc : Ecc × Ecc) (s : State), Settled s → s.txnState k = txOPEN → (s.slot k).fetchLeft ≠ 0 → (s.slot k).stale = false →
    s.fetchable (s.slot k).fetchAddr 1 = true → s.bit R.MATRIX_MRST_BUSY (mapMaster (s.slot k).fetchAddr) = false →
    s.engineWaits (mapMaster (s.slot k).fetchAddr) (s.slot k).fetchAddr (.read 16) = false →
    ecc.1 = .uncorrectable ∨ ecc.2 = .uncorrectable →
    ∃ t, exec (.txnFetchRecord k ecc) s = .next t ∧ (t.slot k).fetchLeft = 0 ∧ (t.slot k).recs = (s.slot k).recs ∧
      (t.grave = false → t.txnState k = txREFUSED ∧ t.get (R.TXN_STATUS k) F.TXN_STATUS_CODE = rcFETCH) ∧
      t.flag (R.TXN_FETCH_CTRL k) F.TXN_FETCH_CTRL_BUSY = false ∧ SlotOnly k s t)

/-- R89: a CLOSE with ASAP writes to TXN_FN the first multiple of 4, counted forward from the present frame, that passes R88, and closes the
slot. The premise on leastLead bounds the records queued; it holds wherever the slots hold no more records than R87 lets them. -/
def Obligations.AsapClosesAtTheFirstFrame : Prop :=
  ∀ (p : Port) (k : Fin 8) (s : State), s.reaches p 0 = true → Settled s → s.grave = false → s.txnState k = txOPEN → s.copyOfMate k = false →
    s.leastLead k + 3 < 2 ^ 31 →
    ∃ t, exec (.txnCloseAsap p k) s = .next t ∧ (t.txnState k = txBUILDING ∨ t.txnState k = txBUILT) ∧ t.slot k = s.slot k ∧
      (t.rd (R.TXN_FN k)).toNat % 4 = 0 ∧ s.fnCheck k (t.rd (R.TXN_FN k)).toNat = none ∧
      (∀ f : Word, f.toNat % 4 = 0 → s.fnCheck k f.toNat = none →
        fnDelta s.fn (t.rd (R.TXN_FN k)).toNat ≤ fnDelta s.fn f.toNat) ∧
      SlotOnly k s t ∧ TxnOnly (s.answer .done) t

/-- R93: an ABORT of a slot in ABORTED or REFUSED changes nothing and sets no flag, and one of a FREE slot sets OP_REFUSED. (In GRAVE every
operation sets OP_REFUSED instead, Table 14-12.) -/
def Obligations.AbortsWithNothingToAbort : Prop :=
  (∀ (p : Port) (k : Fin 8) (s : State), s.reaches p 0 = true → Settled s → s.grave = false →
    s.txnState k = txABORTED ∨ s.txnState k = txREFUSED → exec (.txnAbort p k) s = .next (s.answer .done)) ∧
  (∀ (p : Port) (k : Fin 8) (s : State), s.reaches p 0 = true → Settled s → s.grave = true ∨ s.txnState k = txFREE →
    ∃ t, exec (.txnAbort p k) s = .next t ∧ t.flag (R.TXN_STATUS k) F.TXN_STATUS_OP_REFUSED = true ∧ t.txnState k = s.txnState k ∧
      RegsOnly (fun r => r == R.TXN_STATUS k) s t)

/-- R85, R88, R90 to R92: CLOSE checks its commit frame in the order of R88; a record is built; an abort takes the transaction back before the
seal and comes late after it; the seal, the commit and its map, the end of the union dispatch, of the copy and of a restore. Which entries a
record replaces, and how the commands, the boundary and the messages of the mate meet, are the model's choice (notes/assumptions/47.md,
90.md). -/
def Obligations.TransactionsAreBuiltAndCommitted : Prop :=
  (∀ (p : Port) (k : Fin 8) (s : State), s.reaches p 0 = true → Settled s → s.grave = false → s.txnState k = txOPEN → s.copyOfMate k = false →
    let f := (s.rd (R.TXN_FN k)).toNat
    let d := fnDelta s.fn f
    (∀ c, (f % 4 ≠ 0 ∧ c = rcFN_ALIGN) ∨ (f % 4 = 0 ∧ 2 ^ 31 - 1 < d ∧ c = rcFN_RANGE) ∨
        (f % 4 = 0 ∧ d ≤ 2 ^ 31 - 1 ∧ (d < 4 ∨ 125000 * (d - 2) < s.buildBound k + s.ns) ∧ c = rcLEAD) →
      ∃ t, exec (.txnClose p k) s = .next t ∧ t.txnState k = txREFUSED ∧ t.get (R.TXN_STATUS k) F.TXN_STATUS_CODE = c ∧
        SlotOnly k s t ∧ TxnOnly (s.answer .done) t) ∧
    (f % 4 = 0 → 4 ≤ d → d ≤ 2 ^ 31 - 1 → s.buildBound k + s.ns ≤ 125000 * (d - 2) →
      ∃ t, exec (.txnClose p k) s = .next t ∧ t.txnState k = (if s.allBuilt k then txBUILT else txBUILDING) ∧ t.slot k = s.slot k ∧
        t.rd (R.TXN_FN k) = s.rd (R.TXN_FN k) ∧
        t.mateOut = (if s.mirrored k && !s.originMate k && !s.fetching k then .close k.val f :: s.mateOut else s.mateOut) ∧
        SlotOnly k s t ∧ TxnOnly (s.answer .done) t)) ∧
  (∀ (k : Fin 8) (map : Option (Fin 4)) (r : Rec) (l : List Rec) (s : State), Settled s → (s.slot k).queue = r :: l →
    ∃ t, exec (.mapRecordBuilt k map) s = .next t ∧
      (∀ d : Fin 4, map = some d → t.bit (R.EVT_STICKY (evDie d)) srcMAP = true) ∧ t.slot k = { s.slot k with unbuilt := (s.slot k).unbuilt - 1 } ∧
      (∀ d : Fin 4, t.ctr ⟨R.MAP_BUILT_LO d, R.MAP_BUILT_HI d⟩ =
        (s.ctr ⟨R.MAP_BUILT_LO d, R.MAP_BUILT_HI d⟩ + (if (s.recDies r).contains d.val then 1 else 0)) % 2 ^ 48) ∧
      (∀ d : Fin 4, (s.recDies r).contains d.val = true → s.ctr ⟨R.MAP_BUILT_LO d, R.MAP_BUILT_HI d⟩ = 2 ^ 48 - 1 →
        t.bit (wrapPlace (R.MAP_BUILT_LO d)).1 (wrapPlace (R.MAP_BUILT_LO d)).2 = true) ∧
      (s.txnState k = txBUILDING → s.grave = false → s.mirrored k = false → (s.slot k).unbuilt = 1 → (s.slot k).fetchLeft = 0 →
        t.txnState k = txBUILT) ∧
      (s.txnState k ≠ txBUILDING → t.txnState k = s.txnState k) ∧ SlotOnly k s t) ∧
  (∀ (p : Port) (k : Fin 8) (s : State), s.reaches p 0 = true → Settled s → s.grave = false → s.copyOfMate k = false →
    1 ≤ s.txnState k → s.txnState k ≤ 3 →
    ∃ t, exec (.txnAbort p k) s = .next t ∧ t.txnState k = txABORTED ∧
      t.get (R.TXN_STATUS k) F.TXN_STATUS_ABORT_CAUSE = (match p with | .a => 1 | .b => 2) ∧
      t.rd (R.TXN_ABORT_FN k) = BitVec.ofNat 32 s.fn ∧ t.get (R.TXN_ABORT_NS k) F.TXN_ABORT_NS_NS = s.ns % 2 ^ 17 ∧
      t.flag (R.TXN_STATUS k) F.TXN_STATUS_CLEANING = !(s.slot k).recs.isEmpty ∧
      t.mateOut = (if s.mirrored k then .aborted k.val :: s.mateOut else s.mateOut) ∧ SlotOnly k s t ∧ TxnOnly (s.answer .done) t) ∧
  (∀ (p : Port) (k : Fin 8) (s : State), s.reaches p 0 = true → Settled s → s.grave = false → s.copyOfMate k = false →
    s.txnState k = txSEALED ∨ s.txnState k = txCOMMITTED →
    ∃ t, exec (.txnAbort p k) s = .next t ∧ t.txnState k = s.txnState k ∧ t.slot k = s.slot k ∧
      t.flag (R.TXN_STATUS k) F.TXN_STATUS_LATE_ABORT = true ∧ t.rd (R.TXN_ABORT_FN k) = BitVec.ofNat 32 s.fn ∧
      SlotOnly k s t ∧ TxnOnly (s.answer .done) t) ∧
  (∀ (k : Fin 8) (s : State), Settled s → s.grave = false → s.copyOfMate k = false → s.reached (fnBefore (s.commitFn k) 2) = true →
    (s.txnState k = txBUILT →
      ∃ t, exec (.txnSeal k false) s = .next t ∧ t.txnState k = txSEALED ∧ t.slot k = s.slot k ∧
        t.unionHold = s.unionHold ++ [(k.val, s.rd (R.TXN_FN k), s.unionRecs k)] ∧
        t.mateOut = (if s.mirrored k then .sealed k.val :: s.mateOut else s.mateOut) ∧ SlotOnly k s t ∧
        TxnOnly { s with unionHold := t.unionHold } t) ∧
    (s.txnState k = txBUILDING →
      ∃ t, exec (.txnSeal k false) s = .next t ∧ t.txnState k = txREFUSED ∧ t.get (R.TXN_STATUS k) F.TXN_STATUS_CODE =
          (if s.mirrored k = true ∧ (s.slot k).unbuilt = 0 ∧ s.fetching k = false then rcMATE else rcLATE_BUILD) ∧
        SlotOnly k s t ∧ TxnOnly s t)) ∧
  (∀ (k : Fin 8) (s : State), ∃ t, exec (.txnSeal k true) s = .next t ∧ t.bit (R.EVT_STICKY evPkg) srcSEQ = true ∧ t.mem = s.mem ∧
    t.actMap = s.actMap) ∧
  (∀ (k : Fin 8) (xchk : Bool) (s : State), Settled s → s.grave = false → s.txnState k = txSEALED → s.reached (s.commitFn k) = true →
    ∃ t, exec (.txnCommit k xchk) s = .next t ∧ (xchk = true → t.bit (R.EVT_STICKY evPkg) srcXCHK = true) ∧ t.txnState k = txCOMMITTED ∧ t.rd R.TXN_LAST_COMMIT_FN = s.rd (R.TXN_FN k) ∧
      t.syncing = s.syncing ++ [(k.val, (s.slot k).recs)] ∧
      t.actMap = ((s.slot k).recs.foldl (fun u r => u.mapRec r) s).actMap ∧ t.slot k = s.slot k ∧ t.mem = s.mem) ∧
  (∀ (r : Rec) (s : State), r.typ = tyConnect ∨ r.typ = tyDisconnect →
    (s.mapRec r).entry r.key = some (if r.typ = tyConnect then r else { r with w1 := BitVec.ofNat 32 (2 ^ 24 * s.recNc r) }) ∧
    ∀ e ∈ s.overlapped r, e.key ≠ r.key → (s.mapRec r).entry e.key = none) ∧
  (∀ (k : Fin 8) (s : State), ∃ t, exec (.unionDispatchWithdraw k) s = .next t ∧ t = { s with unionHold := t.unionHold } ∧
    ∀ u, u ∈ t.unionHold ↔ u ∈ s.unionHold ∧ ¬(u.1 = k.val ∧ s.reached ((u.2.1.toNat + 1) % 2 ^ 32) = true)) ∧
  (∀ (k : Fin 8) (s : State), (∀ u ∈ s.unionHold, u.1 ≠ k.val) →
    ∃ t, exec (.shadowSyncDone k) s = .next t ∧ t = { s with syncing := t.syncing } ∧
      ∀ e, e ∈ t.syncing ↔ e ∈ s.syncing ∧ e.1 ≠ k.val) ∧
  (∀ (k : Fin 8) (s : State), s.flag (R.TXN_STATUS k) F.TXN_STATUS_CLEANING = true → (s.slot k).relDue = false →
    ∃ t, exec (.txnRestoreDone k) s = .next t ∧ t.flag (R.TXN_STATUS k) F.TXN_STATUS_CLEANING = false ∧ (t.slot k).recs = [] ∧
      (t.slot k).unbuilt = 0 ∧ t.txnState k = s.txnState k ∧ SlotOnly k s t ∧ TxnOnly s t) ∧
  (∀ (k : Fin 8) (s : State), s.flag (R.TXN_STATUS k) F.TXN_STATUS_CLEANING = true → (s.slot k).relDue = true → s.grave = false →
    ∃ t, exec (.txnRestoreDone k) s = .next t ∧ t.flag (R.TXN_STATUS k) F.TXN_STATUS_CLEANING = false ∧ (t.slot k).recs = [] ∧
      t.txnState k = txFREE ∧ SlotOnly k s t ∧ TxnOnly s t)

/-- R94: a mirrored transaction opens on both packages, and is refused where the mate is not there; what the mate sends about a slot, of each
kind, takes effect on its copy or on its origin; a host's ABORT of a copy goes to the mate; the two time-outs of a seal. A copy is of a slot
in use, which is the premise of what is stated about it. What a refused record and an open slot do to the mate, and the order of the
messages, are the model's choice (notes/assumptions/46.md, 90.md). -/
def Obligations.TransactionsAreMirrored : Prop :=
  (∀ (p : Port) (k : Fin 8) (s : State), s.reaches p 0 = true → Settled s → s.grave = false → s.txnState k = txFREE →
    (s.flag R.TXN_MIRROR_CTRL F.TXN_MIRROR_CTRL_ENABLE = true → s.flag R.TXN_MIRROR_CTRL F.TXN_MIRROR_CTRL_MATE_OK = true →
      s.ownSlot k = true →
      ∃ t, exec (.txnOpenMirror p k) s = .next t ∧ t.txnState k = txOPEN ∧ t.mirrored k = true ∧ t.originMate k = false ∧
        t.slot k = (s.slot k).cleared ∧ t.mateOut = .opn k.val :: s.mateOut ∧ SlotOnly k s t ∧ TxnOnly (s.answer .done) t) ∧
    (s.flag R.TXN_MIRROR_CTRL F.TXN_MIRROR_CTRL_ENABLE = true → s.flag R.TXN_MIRROR_CTRL F.TXN_MIRROR_CTRL_MATE_OK = false →
      ∃ t, exec (.txnOpenMirror p k) s = .next t ∧ t.txnState k = txREFUSED ∧ t.get (R.TXN_STATUS k) F.TXN_STATUS_CODE = rcMATE ∧
        t.mateOut = s.mateOut ∧ SlotOnly k s t ∧ TxnOnly (s.answer .done) t) ∧
    (s.flag R.TXN_MIRROR_CTRL F.TXN_MIRROR_CTRL_ENABLE = false →
      ∃ t, exec (.txnOpenMirror p k) s = .next t ∧ t.txnState k = txFREE ∧
        t.flag (R.TXN_STATUS k) F.TXN_STATUS_OP_REFUSED = true ∧ RegsOnly (fun r => r == R.TXN_STATUS k) s t)) ∧
  (∀ (p : Port) (v : Word) (s : State), s.reaches p 0 = true → (∀ k : Fin 8, s.txnLive k = false) →
    ∃ t, exec (.mirrorEnableWrite p v) s = .next t ∧ t.get R.TXN_MIRROR_CTRL F.TXN_MIRROR_CTRL_ENABLE = v.toNat % 2 ∧
      t.get R.TXN_MIRROR_CTRL F.TXN_MIRROR_CTRL_MATE_OK = s.get R.TXN_MIRROR_CTRL F.TXN_MIRROR_CTRL_MATE_OK ∧
      RegsOnly (fun r => r == R.TXN_MIRROR_CTRL) s t) ∧
  (∀ (p : Port) (v : Word) (k : Fin 8) (s : State), s.reaches p 0 = true → s.txnLive k = true →
    exec (.mirrorEnableWrite p v) s = .next (s.answer .done)) ∧
  (∀ (k : Fin 8) (w0 w1 w2 w3 : Word) (s : State), Settled s → s.grave = false → s.txnState k = txFREE →
    ∃ t, exec (.mateTxnReceive 0 k w0 w1 w2 w3) s = .next t ∧ t.txnState k = txOPEN ∧ t.copyOfMate k = true ∧ t.mirrored k = true ∧
      t.slot k = (s.slot k).cleared ∧ SlotOnly k s t ∧ TxnOnly s t) ∧
  (∀ (k : Fin 8) (w0 w1 w2 w3 : Word) (s : State), Settled s → s.grave = true ∨ s.txnState k ≠ txFREE →
    exec (.mateTxnReceive 0 k w0 w1 w2 w3) s = .next (s.toMate (.refused k none))) ∧
  (∀ (p : Port) (k : Fin 8) (s : State), s.reaches p 0 = true → Settled s → s.grave = false → s.copyOfMate k = true →
    (s.copyOfMate k = true → s.txnState k ≠ txFREE) → s.txnState k ≤ 5 →
    exec (.txnAbort p k) s = .next ((s.answer .done).toMate (.abort k))) ∧
  (∀ (k : Fin 8) (w0 w1 w2 w3 : Word) (s : State), Settled s → s.grave = false → s.copyOfMate k = true →
    (s.copyOfMate k = true → s.txnState k ≠ txFREE) → s.txnState k ≤ txBUILT →
    ((s.adm k).check (s.slot k).recs ⟨w0, w1, w2, w3⟩ = none →
      ∃ t, exec (.mateTxnReceive 1 k w0 w1 w2 w3) s = .next t ∧ (t.slot k).recs = (s.slot k).recs ++ [⟨w0, w1, w2, w3⟩] ∧
        t.txnState k = (if s.txnState k = txOPEN then txOPEN else txBUILDING) ∧ SlotOnly k s t ∧ TxnOnly s t) ∧
    (∀ c, (s.adm k).check (s.slot k).recs ⟨w0, w1, w2, w3⟩ = some c →
      ∃ t, exec (.mateTxnReceive 1 k w0 w1 w2 w3) s = .next t ∧ t.txnState k = txREFUSED ∧
        t.get (R.TXN_STATUS k) F.TXN_STATUS_CODE = c % 256 ∧ t.rd (R.TXN_ERR_INDEX k) = BitVec.ofNat 32 (s.slot k).recs.length ∧
        SlotOnly k s t ∧ TxnOnly s t) ∧
    (∃ t, exec (.mateTxnReceive 6 k w0 w1 w2 w3) s = .next t ∧ t.txnState k = txABORTED ∧
      t.get (R.TXN_STATUS k) F.TXN_STATUS_ABORT_CAUSE = 3 ∧ SlotOnly k s t ∧ TxnOnly s t) ∧
    (s.txnState k = txOPEN → ∃ t, exec (.mateTxnReceive 2 k w0 w1 w2 w3) s = .next t ∧ t.rd (R.TXN_FN k) = w0 ∧
      t.txnState k = (if (s.slot k).unbuilt = 0 ∧ s.fetching k = false then txBUILT else txBUILDING) ∧ SlotOnly k s t ∧
      TxnOnly s t)) ∧
  (∀ (k : Fin 8) (w0 w1 w2 w3 : Word) (s : State), Settled s → s.grave = false → s.mirrored k = true → 1 ≤ s.txnState k →
    s.txnState k ≤ 3 →
    (s.originMate k = false → ∃ t, exec (.mateTxnReceive 3 k w0 w1 w2 w3) s = .next t ∧ t.txnState k = txABORTED ∧
      t.get (R.TXN_STATUS k) F.TXN_STATUS_ABORT_CAUSE = 3 ∧ t.mateOut = .aborted k.val :: s.mateOut ∧ SlotOnly k s t ∧ TxnOnly s t) ∧
    (∃ t, exec (.mateTxnReceive 5 k w0 w1 w2 w3) s = .next t ∧ t.txnState k = txREFUSED ∧
      t.get (R.TXN_STATUS k) F.TXN_STATUS_CODE = rcMATE ∧ t.rd (R.TXN_ERR_INDEX k) = w0 ∧ SlotOnly k s t ∧ TxnOnly s t)) ∧
  (∀ (k : Fin 8) (w0 w1 w2 w3 : Word) (s : State), Settled s → s.grave = false → s.copyOfMate k = true → 5 ≤ s.txnState k →
    ∃ t, exec (.mateTxnReceive 4 k w0 w1 w2 w3) s = .next t ∧
      (s.flag (R.TXN_STATUS k) F.TXN_STATUS_CLEANING = false → t.txnState k = txFREE ∧ t.slot k = (s.slot k).cleared) ∧
      (s.flag (R.TXN_STATUS k) F.TXN_STATUS_CLEANING = true → t.txnState k = s.txnState k ∧ (t.slot k).relDue = true) ∧
      SlotOnly k s t ∧ TxnOnly s t) ∧
  (∀ (k : Fin 8) (w0 w1 w2 w3 : Word) (s : State), Settled s → s.grave = false → s.mirrored k = true → s.originMate k = false →
    s.txnState k = txBUILDING → (s.slot k).unbuilt = 0 → s.fetching k = false →
    ∃ t, exec (.mateTxnReceive 7 k w0 w1 w2 w3) s = .next t ∧ t.txnState k = txBUILT ∧ (t.slot k).mateBuilt = true ∧ SlotOnly k s t ∧
      TxnOnly s t) ∧
  (∀ (k : Fin 8) (w0 w1 w2 w3 : Word) (s : State), Settled s → s.grave = false → s.copyOfMate k = true → s.txnState k = txBUILT →
    (s.mateLimit k = false → ∃ t, exec (.mateTxnReceive 8 k w0 w1 w2 w3) s = .next t ∧ t.txnState k = txSEALED ∧ (t.slot k).sealRx = true ∧
      t.mateOut = .sealAck k.val :: s.mateOut ∧ t.unionHold = s.unionHold ++ [(k.val, s.rd (R.TXN_FN k), s.unionRecs k)] ∧
      SlotOnly k s t ∧ TxnOnly { s with unionHold := t.unionHold } t) ∧
    (s.mateLimit k = true → ∃ t, exec (.mateTxnReceive 8 k w0 w1 w2 w3) s = .next t ∧ t.txnState k = txREFUSED ∧
      t.get (R.TXN_STATUS k) F.TXN_STATUS_CODE = rcMATE ∧ SlotOnly k s t ∧ TxnOnly s t)) ∧
  (∀ (k : Fin 8) (w0 w1 w2 w3 : Word) (s : State), Settled s → s.mirrored k = true → s.originMate k = false → s.mateLimit k = false →
    ∃ t, exec (.mateTxnReceive 9 k w0 w1 w2 w3) s = .next t ∧ t.slot k = { s.slot k with mateAck := true } ∧
      t.txnState k = s.txnState k ∧ SlotOnly k s t ∧ TxnOnly s t) ∧
  (∀ (k : Fin 8) (s : State), Settled s → s.grave = false → s.copyOfMate k = true → s.txnState k = txBUILDING ∨ s.txnState k = txBUILT →
    s.mateLimit k = true →
    ∃ t, exec (.mateSealTimeout k) s = .next t ∧ t.txnState k = txREFUSED ∧ t.get (R.TXN_STATUS k) F.TXN_STATUS_CODE = rcMATE ∧
      SlotOnly k s t ∧ TxnOnly s t) ∧
  (∀ (k : Fin 8) (s : State), Settled s → s.mirrored k = true → s.originMate k = false → s.txnState k = txSEALED ∨ s.txnState k = txCOMMITTED →
    (s.slot k).mateAck = false → s.mateLimit k = true →
    s.flag (R.TXN_STATUS k) F.TXN_STATUS_MATE_UNCONF = false →
    ∃ t, exec (.mateAckTimeout k) s = .next t ∧ t.flag (R.TXN_STATUS k) F.TXN_STATUS_MATE_UNCONF = true ∧ t.txnState k = s.txnState k ∧
      t.bit (R.EVT_STICKY evPair) srcMIRROR = true ∧
      t.ctr (ctrEvTotal evPair srcMIRROR) = (s.ctr (ctrEvTotal evPair srcMIRROR) + 1) % 2 ^ 48 ∧ SlotOnly k s t ∧ TxnOnly s t)

/-- R98, Tables 04-20 and 04-21: a diagnostic read of each SEL begins or is refused, and gives the active or shadow entry that covers the
position, or the words of the dispatch or gather entry, and sets DONE. Which entry covers a name is the model's reading
(notes/assumptions/47.md). -/
def Obligations.MapEntriesAreRead : Prop :=
  (∀ (p : Port) (d : Fin 4) (a3 : Bool) (ta : TA) (s : State), s.reaches p 0 = true →
    let begins (c : Instr) (sel : Nat) : Prop :=
      (s.diagErr d sel a3 ta = false → ∃ t, exec c s = .next t ∧
        t.mapDiag.find? (fun e => e.1 == d.val) = some (d.val, BitVec.ofNat 32 (2 ^ 25 * sel + egName a3 ta)) ∧
        t.rd (R.MAP_DIAG_CTRL d) = BitVec.ofNat 32 (2 ^ 25 * sel + egName a3 ta) ∧
        RegsOnly (fun r => r == R.MAP_DIAG_CTRL d) { s with mapDiag := t.mapDiag } t) ∧
      (s.diagErr d sel a3 ta = true → ∃ t, exec c s = .next t ∧ t.flag (R.MAP_DIAG_STATUS d) F.MAP_DIAG_STATUS_ERR = true ∧
        t.flag (R.MAP_DIAG_STATUS d) F.MAP_DIAG_STATUS_DONE = true ∧
        RegsOnly (fun r => r == R.MAP_DIAG_CTRL d || r == R.MAP_DIAG_STATUS d) { s with mapDiag := t.mapDiag } t)
    begins (.mapDiagActive p d a3 ta) 0 ∧ begins (.mapDiagShadow p d a3 ta) 1 ∧ begins (.mapDiagDispatch p d a3 ta) 2 ∧
      begins (.mapDiagGather p d a3 ta) 3) ∧
  (∀ (d : Fin 4) (w : Word) (s : State), s.mapDiag.find? (fun e => e.1 == d.val) = some (d.val, w) →
    let ta : TA := w.setWidth 24
    let a3 := w.toNat.testBit 24
    let sel := bitsOf w 26 25
    let m := if sel = 1 then s.shadowMap else s
    ∃ t, exec (.mapDiagDone d) s = .next t ∧ t.flag (R.MAP_DIAG_STATUS d) F.MAP_DIAG_STATUS_DONE = true ∧
      t.mapDiag.find? (fun e => e.1 == d.val) = none ∧
      (∀ r, sel ≤ 1 → m.covering a3 ta = some r → t.rd (R.MAP_DIAG_DATA d 0) = r.w0 ∧ t.rd (R.MAP_DIAG_DATA d 1) = (if r.typ = tyDisconnect then 0 else r.w1) ∧
        t.rd (R.MAP_DIAG_DATA d 2) = r.w2 ∧ t.rd (R.MAP_DIAG_DATA d 3) = r.w3 ∧
        t.flag (R.MAP_DIAG_STATUS d) F.MAP_DIAG_STATUS_COVERED = (m.entry (egName a3 ta)).isNone) ∧
      (sel ≤ 1 → m.covering a3 ta = none → t.rd (R.MAP_DIAG_DATA d 0) = 0 ∧ t.rd (R.MAP_DIAG_DATA d 1) = 0 ∧
        t.rd (R.MAP_DIAG_DATA d 2) = 0 ∧ t.rd (R.MAP_DIAG_DATA d 3) = 0) ∧
      (sel = 2 → t.rd (R.MAP_DIAG_DATA d 0) = BitVec.ofNat 32
        ((if s.unionHold.isEmpty then 0 else 2 ^ 31 + 256 * regionsOf ((s.unionHold.flatMap (fun u => u.2.2)) ++ s.entries) ta) +
          regionsOf s.entries ta) ∧ t.rd (R.MAP_DIAG_DATA d 1) = 0) ∧
      (∀ r, sel = 3 → s.covering a3 ta = some r → t.rd (R.MAP_DIAG_DATA d 0) = BitVec.ofNat 32 (2 ^ 30 * (s.gather r).code +
        (if r.hasSnc && (s.sncSt r.key).alt then 2 ^ 29 else 0) + (if r.typ = tyConnect then (s.selected r).toNat else 0))) ∧
      (sel = 3 → s.covering a3 ta = none → t.rd (R.MAP_DIAG_DATA d 0) =
        BitVec.ofNat 32 (2 ^ 30 * (if s.outForced (taLink ta) then 3 else 2))) ∧
      t.get (R.MAP_DIAG_STATUS d) F.MAP_DIAG_STATUS_CLAIM = (if sel = 2 then 15 else s.claimant a3 ta) ∧
      RegsOnly (fun r => r.blk == .map && r.inst == d.val && decide (0x14 ≤ r.off) && decide (r.off < 0x30)) { s with mapDiag := t.mapDiag } t)

-- Sensing and calibration (15_sensing_calibration.md)

/-- R358 to R365: a voltage sample enters the mean of its point, which is judged by the windows of its rail; a temperature reading is judged by
the limits of R360, with 2 degrees of hysteresis, and a region whose mean has moved by 5 degrees is trimmed again; aging; the far-end
termination; cable and trace runs, from which the lane's stored offset is taken off. The monitors record nothing before step 3 (R383). How a
raw sample becomes a reading by the set in effect is the model's free function of the set's bytes (notes/assumptions/7.md, 10.md), and how
runs that find nothing end and when a trim is due are the model's choices (64.md, 65.md, 66.md). Where the spec states no value (LOAD_OHM
without an end) the model's free value stands there, and nothing is said of it (2.md). -/
def Obligations.SensorsAreJudged : Prop :=
  (∀ (s : State), s.services = false →
    (∀ (q : Fin 32) (raw : BitVec 16) (ok : Bool), exec (.voltageSample q raw ok) s = .next s) ∧
    (∀ (i : Fin 16) (raw : BitVec 16) (ok fail : Bool), exec (.tempSample i raw ok fail) s = .next s) ∧
    (∀ (g : Fin 8) (freq : Nat) (env : Int × Nat), exec (.agingMeasure g freq env) s = .next s) ∧
    ∀ (lane : Fin 129) (res : Option Nat), exec (.tdrTraceRun lane res) s = .next s) ∧
  (∀ (q : Fin 32) (raw : BitVec 16) (s : State), s.services = true → s.due = [] →
    let l := ((s.voltRead q raw).toNat :: s.samples q).take 16
    let m := l.foldl (· + ·) 0 / l.length % 2 ^ 16
    let warn := !inWindow (s.rd (R.MON_RAIL_WARN (railOf q))) m
    ∃ t, exec (.voltageSample q raw true) s = .next t ∧ t.samples q = l ∧ t.get (R.MON_VOLT q) F.MON_VOLT_MV = m ∧
      t.voltOut q F.MON_VOLT_WARN = warn ∧
      t.voltOut q F.MON_VOLT_CRIT = !inWindow (s.rd (R.MON_RAIL_CRIT (railOf q))) m ∧
      (warn = false ∨ s.voltOut q F.MON_VOLT_WARN = true ∨ t.bit (R.EVT_STICKY evPkg) srcVOLT = true) ∧
      (t.bit (R.EVT_LIVE evPkg) srcVOLT = true ↔ ∃ i : Fin 32, t.voltOut i F.MON_VOLT_WARN = true) ∧
      (t.bit (R.EVT_LIVE evPkg) srcVOLT_CRIT = true ↔ ∃ i : Fin 32, t.voltOut i F.MON_VOLT_CRIT = true) ∧
      NoteOnly ({ s with volt := t.volt }.wr (R.MON_VOLT q) (t.rd (R.MON_VOLT q))) t) ∧
  (∀ (q : Fin 32) (mv : BitVec 16) (s : State), s.services = true → s.due = [] →
    ∃ t, exec (.voltageSample q mv false) s = .next t ∧ t.flag R.MON_STATUS F.MON_STATUS_SELF_FAIL = true ∧ t.volt = s.volt ∧
      t.bit (R.EVT_STICKY evPkg) srcMON = true ∧ NoteOnly (s.put R.MON_STATUS F.MON_STATUS_SELF_FAIL 1) t) ∧
  (∀ (p : Port) (r : Fin 7) (crit : Bool) (v : Word) (s : State), s.reaches p 0 = true → s.due = [] →
    let d := railCrit.getD r.val (0, 0)
    let x := if crit then R.MON_RAIL_CRIT r.val else R.MON_RAIL_WARN r.val
    let f := if crit then F.MON_VOLT_CRIT else F.MON_VOLT_WARN
    ∃ t, exec (.monRailWindowWrite p r crit v) s = .next t ∧
      t.rd x = (if crit then railWord (max (v.toNat / 2 ^ 16) d.1, min (v.toNat % 2 ^ 16) d.2) else v) ∧
      (∀ q : Fin 32, railOf q = r.val → s.samples q ≠ [] →
        t.voltOut q f = !inWindow (t.rd x) (s.get (R.MON_VOLT q) F.MON_VOLT_MV)) ∧
      (∀ q : Fin 32, t.get (R.MON_VOLT q) F.MON_VOLT_MV = s.get (R.MON_VOLT q) F.MON_VOLT_MV) ∧ t.mem = s.mem ∧ t.actMap = s.actMap ∧
      ∀ r', noteReg r' = false → r' ≠ x → (∀ q : Fin 32, r' = R.MON_VOLT q → railOf q ≠ r.val) → t.rd r' = s.rd r') ∧
  (∀ (i : Fin 16) (raw : BitVec 16) (fail : Bool) (s : State), s.services = true → s.due = [] →
    let g := i.val / 2
    let x := s.tempRead i raw
    let warn := s.get R.MON_TEMP_LIM F.MON_TEMP_LIM_WARN
    let crit := s.get R.MON_TEMP_LIM F.MON_TEMP_LIM_CRIT
    let temp (k : Nat) : Int := if k = i.val then x.toInt else look (fun _ => 0) s.temps k
    let mean : Int := temp (2 * g) + temp (2 * g + 1)
    let due : Bool := Option.elim (look (fun _ => none) s.trim g) true (fun m => decide (160 ≤ (mean - m).natAbs))
    ∃ t, exec (.tempSample i raw true fail) s = .next t ∧ (∀ k : Fin 16, look (fun _ => 0) t.temps k.val = temp k) ∧
      (∀ k : Fin 8, look (fun _ => none) t.trim k.val =
        if k.val = g ∧ due = true ∧ fail = false then some mean else look (fun _ => none) s.trim k.val) ∧
      (due = false ∨ fail = false ∨ t.bit (R.EVT_STICKY evPkg) srcHK_RUN = true) ∧ t.get (R.MON_TEMP i) F.MON_TEMP_TEMP = x.toNat ∧
      (t.flag (R.MON_TEMP i) F.MON_TEMP_WARN = true ↔
        16 * (warn : Int) ≤ x.toInt ∨ (s.flag (R.MON_TEMP i) F.MON_TEMP_WARN = true ∧ 16 * ((warn : Int) - 2) < x.toInt)) ∧
      (t.flag (R.MON_TEMP i) F.MON_TEMP_CRIT = true ↔
        16 * (crit : Int) ≤ x.toInt ∨ (s.flag (R.MON_TEMP i) F.MON_TEMP_CRIT = true ∧ 16 * ((crit : Int) - 2) < x.toInt)) ∧
      (t.bit (R.EVT_LIVE (evRegion g)) srcTEMP = true ↔
        t.flag (R.MON_TEMP (2 * g)) F.MON_TEMP_WARN = true ∨ t.flag (R.MON_TEMP (2 * g + 1)) F.MON_TEMP_WARN = true) ∧
      (t.bit (R.EVT_LIVE evPkg) srcTEMP_CRIT = true ↔ ∃ k : Fin 16, t.flag (R.MON_TEMP k) F.MON_TEMP_CRIT = true) ∧
      NoteOnly ({ s with trim := t.trim, temps := t.temps }.wr (R.MON_TEMP i) (t.rd (R.MON_TEMP i))) t) ∧
  (∀ (i : Fin 16) (x : BitVec 16) (fail : Bool) (s : State), s.services = true → s.due = [] →
    ∃ t, exec (.tempSample i x false fail) s = .next t ∧ t.flag R.MON_STATUS F.MON_STATUS_SELF_FAIL = true ∧
      t.bit (R.EVT_STICKY evPkg) srcMON = true ∧ NoteOnly (s.put R.MON_STATUS F.MON_STATUS_SELF_FAIL 1) t) ∧
  (∀ (g : Fin 8) (freq : Nat) (env : Int × Nat) (s : State), s.services = true → s.due = [] →
    let m : Int := 100 * s.get R.MON_AGE_MARGIN F.MON_AGE_MARGIN_MARGIN
    let degr := s.ageDegr g freq env
    ∃ t, exec (.agingMeasure g freq env) s = .next t ∧ t.get (R.MON_AGE g) F.MON_AGE_PROC = (s.ageProc g % 2 ^ 15).toNat ∧
      NoteOnly ({ s with aged := t.aged }.wr (R.MON_AGE g) (t.rd (R.MON_AGE g))) t ∧
      (s.flag R.CAL_STATUS F.CAL_STATUS_VALID = false → t.flag (R.MON_AGE g) F.MON_AGE_NOBASE = true ∧
        t.get (R.MON_AGE g) F.MON_AGE_DEGR = 0 ∧ t.aged = s.aged) ∧
      (s.flag R.CAL_STATUS F.CAL_STATUS_VALID = true → t.flag (R.MON_AGE g) F.MON_AGE_NOBASE = false ∧
        t.get (R.MON_AGE g) F.MON_AGE_DEGR = (degr % 2 ^ 16).toNat ∧ (∀ k : Nat, k ≠ g.val → (k ∈ t.aged ↔ k ∈ s.aged)) ∧
        (g.val ∈ t.aged ↔ m ≤ degr ∨ (g.val ∈ s.aged ∧ m - 100 < degr)) ∧
        (g.val ∈ s.aged ∨ degr < m ∨ t.bit (R.EVT_STICKY evPkg) srcAGING = true))) ∧
  (∀ (n : Fin 128) (c : Fin 4) (s : State), Settled s →
    let x := if s.persOf n = 0 then 0 else c.val + 1
    ∃ t, exec (.termProbe n c) s = .next t ∧ t.get (R.LU_SENSE_STATUS n) F.LU_SENSE_STATUS_TERM = x ∧
      (s.get (R.LU_SENSE_STATUS n) F.LU_SENSE_STATUS_TERM = x → t = s) ∧
      (s.get (R.LU_SENSE_STATUS n) F.LU_SENSE_STATUS_TERM ≠ x →
        t.flag (R.LU_SENSE_STATUS n) F.LU_SENSE_STATUS_TERM_NEW = true ∧
        (x = 4 → t.bit (R.EVT_LIVE (evLu n)) srcSERDES = true ∧ t.bit (R.EVT_STICKY (evLu n)) srcSERDES = true) ∧
        (x ≠ 4 → n.val ∉ s.serdesBad → t.bit (R.EVT_LIVE (evLu n)) srcSERDES = false)) ∧
      ReactOnly (s.wr (R.LU_SENSE_STATUS n) (t.rd (R.LU_SENSE_STATUS n))) t) ∧
  (∀ (p : Port) (n : Fin 128) (vf : BitVec 10) (s : State), s.reaches p 0 = true →
    s.flag (R.LU_SENSE_STATUS n) F.LU_SENSE_STATUS_BUSY = false →
    ∃ t, exec (.tdrCableStart p n vf) s = .next t ∧ t.get (R.LU_SENSE_CTRL n) F.LU_SENSE_CTRL_VF = clampNat 400 999 vf.toNat ∧
      t.get (R.LU_SENSE_STATUS n) F.LU_SENSE_STATUS_CODE = (if s.retiredLU n = false then 1 else if s.persOf n = 0 then 2 else 0) ∧
      t.flag (R.LU_SENSE_STATUS n) F.LU_SENSE_STATUS_BUSY = (s.retiredLU n && s.persOf n != 0) ∧
      RegsOnly (fun r => r == R.LU_SENSE_CTRL n || r == R.LU_SENSE_STATUS n) s t) ∧
  (∀ (p : Port) (n : Fin 128) (vf : BitVec 10) (s : State), s.reaches p 0 = true →
    s.flag (R.LU_SENSE_STATUS n) F.LU_SENSE_STATUS_BUSY = true →
    ∃ t, exec (.tdrCableStart p n vf) s = .next t ∧ t.get (R.LU_SENSE_CTRL n) F.LU_SENSE_CTRL_VF = clampNat 400 999 vf.toNat ∧
      RegsOnly (fun r => r == R.LU_SENSE_CTRL n) s t) ∧
  (∀ (n : Fin 128) (found : Option (Nat × Int)) (s : State), s.flag (R.LU_SENSE_STATUS n) F.LU_SENSE_STATUS_BUSY = true →
    let len : Nat := Option.elim found 30005 (fun e => cableLength (e.1 - s.tdrOffset n) (s.get (R.LU_SENSE_CTRL n) F.LU_SENSE_CTRL_VF))
    ∃ t, exec (.tdrCableDone n found) s = .next t ∧ t.flag (R.LU_SENSE_STATUS n) F.LU_SENSE_STATUS_BUSY = false ∧
      t.flag (R.LU_SENSE_STATUS n) F.LU_SENSE_STATUS_DONE = true ∧
      t.flag (R.LU_SENSE_STATUS n) F.LU_SENSE_STATUS_NO_END = decide (30000 < len) ∧
      t.get (R.LU_TDR_CABLE n) F.LU_TDR_CABLE_LENGTH = (if 30000 < len then 0 else len) ∧
      (∀ ps rho, found = some (ps, rho) → 30000 < len ∨ t.get (R.LU_TDR_LOAD n) F.LU_TDR_LOAD_LOAD_OHM = loadOhm rho) ∧
      (30000 < len ∨ t.draw = s.draw) ∧
      RegsOnly (fun r => r == R.LU_SENSE_STATUS n || r == R.LU_TDR_CABLE n || r == R.LU_TDR_LOAD n) { s with draw := t.draw } t) ∧
  (∀ (lane : Fin 129) (rt : Nat) (s : State), s.services = true → s.due = [] →
    let last := look (fun _ => 0) s.trace lane.val
    let ps := (rt - s.tdrOffset lane) / 2
    let pair := s.flag R.MON_CTRL F.MON_CTRL_PAIR_AUTO
    ∃ t, exec (.tdrTraceRun lane (some rt)) s = .next t ∧ t.mem = s.mem ∧ t.actMap = s.actMap ∧
      look (fun _ => 0) t.trace lane.val = (if ps ≤ 10000 then ps + 1 else last) ∧
      (∀ r, noteReg r = false → r ∉ [R.LU_TDR_TRACE lane, R.PAIR_LU_DLY lane, R.PAIR_MATE_DLY] → t.rd r = s.rd r) ∧
      (lane.val < 128 → t.get (R.LU_TDR_TRACE lane.val) F.LU_TDR_TRACE_DELAY =
        if ps ≤ 10000 then ps else s.get (R.LU_TDR_TRACE lane.val) F.LU_TDR_TRACE_DELAY) ∧
      (lane.val < 128 → t.get (R.PAIR_LU_DLY lane.val) F.PAIR_LU_DLY_DLY =
        if ps ≤ 10000 ∧ pair = true then ps else s.get (R.PAIR_LU_DLY lane.val) F.PAIR_LU_DLY_DLY) ∧
      (lane.val = 128 → t.get R.PAIR_MATE_DLY F.PAIR_MATE_DLY_D_TX =
        if ps ≤ 10000 ∧ pair = true then ps else s.get R.PAIR_MATE_DLY F.PAIR_MATE_DLY_D_TX) ∧
      (10000 < ps ∨ last = 0 ∨ ((ps : Int) - ((last : Int) - 1)).natAbs ≤ s.get R.MON_CTRL F.MON_CTRL_TDR_TOL ∨
        t.bit (R.EVT_STICKY evPkg) srcTDR = true) ∧
      (ps ≤ 10000 ∨ t.bit (R.EVT_STICKY evPkg) srcHK_RUN = true)) ∧
  (∀ (lane : Fin 129) (s : State), s.services = true → s.due = [] →
    ∃ t, exec (.tdrTraceRun lane none) s = .next t ∧ t.bit (R.EVT_STICKY evPkg) srcHK_RUN = true ∧ NoteOnly s t)

/-- R367 to R371: the operations of CAL_CMD begin, are refused with their codes, and end; an ARM lasts 1 ms; a COMMIT writes the staged set to
the store with the set count one higher. When an operation ends, and that a RECAL which cannot run or a COMMIT without a set counts as its
table says, follow notes/assumptions/66.md; the layout of a set between its fixed fields is the model's free choice (7.md). -/
def Obligations.CalibrationFollowsItsCommands : Prop :=
  (∀ (p : Port) (s : State), s.reaches p 9 = true → s.calRun = 0 →
    (∃ t, exec (.calLoad p) s = .next t ∧ t.flag R.CAL_STATUS F.CAL_STATUS_BUSY = true ∧ t.get R.CAL_STATUS F.CAL_STATUS_CODE = 0 ∧
      t.calRun = 1 ∧ RegsOnly (fun r => r == R.CAL_STATUS) { s with calRun := 1 } t) ∧
    (∀ (parts : BitVec 6) (ok : Bool), s.recalOK parts.toNat ok = true → ∃ t, exec (.calRecal p parts ok) s = .next t ∧
      t.flag R.CAL_STATUS F.CAL_STATUS_BUSY = true ∧ t.calRun = 2 ∧ t.calParts = parts.toNat ∧
      RegsOnly (fun r => r == R.CAL_STATUS) { s with calRun := 2, calParts := parts.toNat } t) ∧
    (∀ (parts : BitVec 6) (ok : Bool), s.recalOK parts.toNat ok = false → ∃ t, exec (.calRecal p parts ok) s = .next t ∧
      t.get R.CAL_STATUS F.CAL_STATUS_CODE = 3 ∧ RegsOnly (fun r => r == R.CAL_STATUS) s t) ∧
    (∃ t, exec (.calArm p) s = .next t ∧ t.timer calArmKey = some (s.clk + 1000000) ∧ t.flag R.CAL_STATUS F.CAL_STATUS_DONE = true ∧
      t.get R.CAL_STATUS F.CAL_STATUS_CODE = 0 ∧ RegsOnly (fun r => r == R.CAL_STATUS) { s with timers := t.timers } t) ∧
    (s.timerOn calArmKey = false ∨ s.timerDone calArmKey = true → ∃ t, exec (.calCommit p) s = .next t ∧
      t.get R.CAL_STATUS F.CAL_STATUS_CODE = 4 ∧ t.timer calArmKey = none ∧
      RegsOnly (fun r => r == R.CAL_STATUS) { s with timers := t.timers } t) ∧
    (s.timerOn calArmKey = true → s.timerDone calArmKey = false → s.calStage.valid = false → ∃ t, exec (.calCommit p) s = .next t ∧
      t.get R.CAL_STATUS F.CAL_STATUS_CODE = 5 ∧ t.timer calArmKey = none ∧
      RegsOnly (fun r => r == R.CAL_STATUS) { s with timers := t.timers } t) ∧
    (s.timerOn calArmKey = true → s.timerDone calArmKey = false → s.calStage.valid = true → ∃ t, exec (.calCommit p) s = .next t ∧
      t.flag R.CAL_STATUS F.CAL_STATUS_BUSY = true ∧ t.timer calArmKey = none ∧ t.calRun = 4 ∧ t.calStore = s.calStore ∧
      (∀ i, i < 24 ∨ (28 ≤ i ∧ i < 0xFFFC) → t.calNew.byte i = s.calStage.byte i) ∧
      t.calNew.setCount = (s.calStore.setCount + 1) % 2 ^ 32 ∧
      RegsOnly (fun r => r == R.CAL_STATUS) { s with timers := t.timers, calRun := 4, calNew := t.calNew } t) ∧
    (∀ op : Fin 3, ∃ t, exec (.calOpInvalid p op) s = .next t ∧ t.get R.CAL_STATUS F.CAL_STATUS_CODE = 1 ∧
      RegsOnly (fun r => r == R.CAL_STATUS) s t)) ∧
  (∀ (p : Port) (s : State), s.reaches p 9 = true → s.calRun ≠ 0 →
    ∀ c ∈ [Instr.calLoad p, .calRecal p 1 false, .calArm p, .calCommit p, .calOpInvalid p 0], ∃ t, exec c s = .next t ∧
      t.get R.CAL_STATUS F.CAL_STATUS_CODE = 2 ∧ RegsOnly (fun r => r == R.CAL_STATUS) s t) ∧
  (∀ s : State, s.calRun = 1 →
    ∃ t, exec .calLoadDone s = .next t ∧ t.calStage = s.calStore ∧ t.calStore = s.calStore ∧ t.calRun = 0 ∧
      t.flag R.CAL_STATUS F.CAL_STATUS_BUSY = false ∧ t.flag R.CAL_STATUS F.CAL_STATUS_DONE = true ∧
      RegsOnly (fun r => r == R.CAL_STATUS) { s with calStage := s.calStore, calRun := 0 } t) ∧
  (∀ (l : List (Nat × Byte)) (s : State), s.calRun = 2 →
    ∃ t, exec (.calRecalDone (some l)) s = .next t ∧ t.calRun = 0 ∧ t.flag R.CAL_STATUS F.CAL_STATUS_DONE = true ∧
      t.calStage.byte 6 = 1 ∧ t.calStore = s.calStore ∧
      (∀ i, i ≠ 6 → i < 0xFFFC → (∀ k : Fin 6, s.calParts.testBit k = true → calPart k i = false) → t.calStage.byte i = s.calStage.byte i) ∧
      (∀ (k : Fin 6) (i : Nat) (v : Byte), s.calParts.testBit k = true → calPart k i = true → l = [(i, v)] → t.calStage.byte i = v) ∧
      RegsOnly (fun r => r == R.CAL_STATUS) { s with calStage := t.calStage, calRun := 0 } t) ∧
  (∀ s : State, s.calRun = 2 → s.due = [] →
    ∃ t, exec (.calRecalDone none) s = .next t ∧ t.calRun = 0 ∧ t.calStage = s.calStage ∧ t.flag R.CAL_STATUS F.CAL_STATUS_DONE = true ∧
      t.bit (R.EVT_STICKY evPkg) srcHK_RUN = true ∧
      NoteOnly ({ s with calRun := 0 }.wr R.CAL_STATUS (t.rd R.CAL_STATUS)) t) ∧
  (∀ s : State, s.calRun = 4 → s.due = [] →
    ∃ t, exec .calCommitDone s = .next t ∧ t.calRun = 0 ∧ t.calStore = s.calNew ∧ t.flag R.CAL_STATUS F.CAL_STATUS_BUSY = false ∧
      t.flag R.CAL_STATUS F.CAL_STATUS_VALID = s.calNew.valid ∧ t.rd R.CAL_SET_COUNT = BitVec.ofNat 32 s.calNew.setCount ∧
      t.bit (R.EVT_STICKY evPkg) srcCAL = true ∧
      NoteOnly (({ s with calRun := 0, calStore := s.calNew }.wr R.CAL_STATUS (t.rd R.CAL_STATUS)).wr R.CAL_SET_COUNT (t.rd R.CAL_SET_COUNT)) t) ∧
  (∀ s : State, s.timerDone calArmKey = true →
    ∃ t, exec .calArmExpire s = .next t ∧ t.timer calArmKey = none ∧ t = { s with timers := t.timers } ∧
      ∀ k, k ≠ calArmKey → t.timer k = s.timer k)

-- Host ports (17_host_management.md, 18_address_map.md)

/-- R391, R409, R412, R414: a BAR0 write is taken by its size and alignment, is ignored where it reaches no register, and otherwise follows the
rule of its register: the access types of its fields (RW and RWS take the value, RW1C clears where 1 is written, the rest stands), or the
effect that the command of that register has; an aligned 8-byte write is two such writes, the lower address first. Bytes of the staging
window are written as they are enabled. A malformed write counts one event on its port (R394). That a hole is judged before the size, and
that a write of no bytes or with a gap sets BAD_SIZE, is the model's choice (notes/assumptions/68.md). -/
def Obligations.RegisterWritesFollowTheirRules : Prop :=
  (∀ (p : Port) (a : BitVec 28) (data : List (Option Byte)) (s : State), Settled s → s.answers p = false →
    exec (.registerWrite p a data) s = .next (s.answer .ur)) ∧
  (∀ (p : Port) (a : BitVec 28) (data : List (Option Byte)) (s : State), s.due = [] →
    s.reaches p (regTarget (.registerWrite p a data)) = true → bar0 a.toNat = .none →
    ∃ t, exec (.registerWrite p a data) s = .next t ∧ t.bit (R.EVT_STICKY evPkg) (portSrc p) = true ∧ NoteOnly (s.answer .ur) t) ∧
  (∀ (p : Port) (a : BitVec 28) (data : List (Option Byte)) (k : Blk) (x off : Nat) (s : State), Settled s →
    s.reaches p (regTarget (.registerWrite p a data)) = true →
    bar0 a.toNat = .reg k x off →
    (8 < data.length ∨ (4 < a.toNat % 4 + data.length ∧ (a.toNat % 4 ≠ 0 ∨ data.length ≠ 8)) →
      ∃ t, exec (.registerWrite p a data) s = .next t ∧ t.bit (R.EVT_STICKY evPkg) (portSrc p) = true ∧ NoteOnly (s.answer .ur) t) ∧
    (a.toNat % 4 + data.length ≤ 4 → data.length < 4 ∨ none ∈ data →
      ∃ t, exec (.registerWrite p a data) s = .next t ∧ t.flag R.HOSTIF_ERR (portBadSize p) = true ∧
        RegsOnly (fun r => r == R.HOSTIF_ERR) s t)) ∧
  (∀ (p : Port) (a : BitVec 28) (v : Word) (k : Blk) (x off : Nat) (s : State), Settled s →
    s.reaches p (regTarget (.registerWrite p a ((wordBytes v).map some))) = true →
    bar0 a.toNat = .reg k x off → a.toNat % 4 = 0 → (findReg k off).isSome = true → ownRule k off = false →
    let r := portReg p k x off
    ∃ t, exec (.registerWrite p a ((wordBytes v).map some)) s = .next t ∧ RegsOnly (fun q => q == r) s t ∧ t.rd r = byAccess r (s.rd r) v) ∧
  (∀ (p : Port) (a : BitVec 28) (v w : Word) (k k' : Blk) (x x' off off' : Nat) (s : State), Settled s →
    s.reaches p (regTarget (.registerWrite p a ((wordBytes v ++ wordBytes w).map some))) = true → a.toNat % 4 = 0 →
    bar0 a.toNat = .reg k x off → (findReg k off).isSome = true → ownRule k off = false →
    bar0 (a.toNat + 4) = .reg k' x' off' → (findReg k' off').isSome = true → ownRule k' off' = false →
    let r := portReg p k x off
    let b := portReg p k' x' off'
    ∃ t, exec (.registerWrite p a ((wordBytes v ++ wordBytes w).map some)) s = .next t ∧ RegsOnly (fun q => q == r || q == b) s t ∧
      t.rd r = byAccess r (s.rd r) v ∧ t.rd b = byAccess b (s.rd b) w) ∧
  (∀ (p : Port) (a : BitVec 28) (v : Word) (k : Blk) (x off : Nat) (s : State), Settled s →
    s.reaches p (regTarget (.registerWrite p a ((wordBytes v).map some))) = true →
    bar0 a.toNat = .reg k x off → a.toNat % 4 = 0 → (findReg k off).isNone = true → k ≠ .cal →
    exec (.registerWrite p a ((wordBytes v).map some)) s = .next (s.answer .done)) ∧
  (∀ (p : Port) (r : Fin 7) (crit : Bool) (v : Word) (s : State), s.reaches p 0 = true →
    exec (.registerWrite p (BitVec.ofNat 28 (0x60200 + 8 * r.val + (if crit then 4 else 0))) ((wordBytes v).map some)) s =
      exec (.monRailWindowWrite p r crit v) s) ∧
  (∀ (p : Port) (k : Fin 8) (v : Word) (s : State), s.reaches p 0 = true →
    exec (.registerWrite p (BitVec.ofNat 28 (0x1012C + 0x40 * k.val)) ((wordBytes v).map some)) s = exec (.txnRecordAppend p k v) s) ∧
  (∀ (p : Port) (o : Nat) (data : List (Option Byte)) (s : State), Settled s → s.reaches p 10 = true → o < 2 ^ 24 → o + data.length ≤ 2 ^ 24 →
    ∃ t, exec (.registerWrite p (BitVec.ofNat 28 (0x2000000 + o)) data) s = .next t ∧ t.regs = s.regs ∧ t.resp = .done ∧
      (∀ (i : Nat) (b : Byte), data[i]? = some (some b) → t.ldb (stagingBase + o + i) = b) ∧
      (∀ x, (∀ (i : Nat) (b : Byte), data[i]? = some (some b) → x ≠ stagingBase + o + i) → t.ldb x = s.ldb x) ∧
      (Memory.wf s.mem = true → Memory.wf t.mem = true))

/-- R381, R388, R390, R393, R394: a port's link comes up and goes down; a configuration write sets its power state and enables; PERST resets
what the port holds, and its link; a function-level reset acts as a fall and a rise of PERST. What is left open of PERST, of the
function-level reset and of a link that goes down is the model's choice (notes/assumptions/68.md, 69.md); the reset values of the payload
size and of the BARs are presumed (107.md). -/
def Obligations.PortsTrainAndReset : Prop :=
  (∀ (p : Port) (rate : Fin 5) (w : Fin 4) (s : State), s.pwr = .run → (s.port p).perst = false → s.linkUp p = false → s.scanDrives = false →
    ∃ t, exec (.pcieLinkUp p rate w) s = .next t ∧ t.linkUp p = true ∧ t.get R.HOSTIF_PORT_STATUS (portSpeed p) = rate.val + 1 ∧
      t.get R.HOSTIF_PORT_STATUS (portWidth p) = 2 ^ w.val ∧ t.linkUp (otherPort p) = s.linkUp (otherPort p) ∧
      t.bit (R.EVT_LIVE evPkg) (portSrc p) = false ∧ EvOnly (s.linkStatus p 1 (rate.val + 1) (2 ^ w.val)) t) ∧
  (∀ (p : Port) (s : State), s.linkUp p = true → s.due = [] →
    ∃ t, exec (.pcieLinkDown p true) s = .next t ∧ t.linkUp p = false ∧ t.linkUp (otherPort p) = s.linkUp (otherPort p) ∧
      t.bit (R.EVT_LIVE evPkg) (portSrc p) = true ∧ t.bit (R.EVT_STICKY evPkg) (portSrc p) = true ∧
      NoteOnly (s.linkStatus p 0 0 0) t) ∧
  (∀ (p : Port) (s : State), s.linkUp p = true → s.due = [] →
    ∃ t, exec (.pcieLinkDown p false) s = .next t ∧ t.linkUp p = true ∧ t.bit (R.EVT_STICKY evPkg) (portSrc p) = true ∧ NoteOnly s t) ∧
  (∀ (p : Port) (d3hot bme msixOn : Bool) (rest : Bool × PciCfg) (s : State), s.linkUp p = true → (s.port p).perst = false →
    ∃ t, exec (.pcieConfigWrite p d3hot bme msixOn rest) s = .next t ∧ t.port p = ⟨false, d3hot, bme, msixOn, rest.1, rest.2⟩ ∧
      t.port (otherPort p) = s.port (otherPort p) ∧
      EvOnly ((s.answer .done).setPort p ⟨false, d3hot, bme, msixOn, rest.1, rest.2⟩) t) ∧
  (∀ (p : Port) (d3hot bme msixOn : Bool) (rest : Bool × PciCfg) (s : State), s.linkUp p = false ∨ (s.port p).perst = true →
    exec (.pcieConfigWrite p d3hot bme msixOn rest) s = .next (s.answer .ur)) ∧
  (∀ (p : Port) (s : State), Inv s → s.perstIsLow p = false →
    ∃ t, exec (.perstAssert p) s = .next t ∧ t.perstIsLow p = true ∧ t.port p = ⟨true, false, false, false, false, ⟨0, 0, 0, 0⟩⟩ ∧ t.linkUp p = false ∧
      t.port (otherPort p) = s.port (otherPort p) ∧ t.linkUp (otherPort p) = s.linkUp (otherPort p) ∧
      t.flag R.PKG_RST_CAUSE (match p with | .a => F.PKG_RST_CAUSE_PERST_A | .b => F.PKG_RST_CAUSE_PERST_B) = true ∧
      (∀ r, isHeld r = true → r.held = p.toNat → reactReg r = false → t.rd r = resetVal r) ∧
      (∀ r, (isHeld r && r.held == p.toNat) = false → reactReg r = false → r.blk ≠ .hostif → r.blk ≠ .matrix → r ≠ R.PKG_RST_CAUSE →
        t.rd r = s.rd r) ∧ t.mem = s.mem ∧ t.actMap = s.actMap ∧ t.pwr = s.pwr) ∧
  (∀ (p : Port) (s : State), s.perstIsLow p = true →
    ∃ t, exec (.perstDeassert p) s = .next t ∧ t.perstIsLow p = false ∧
      (s.pwr = .run → t.port p = { s.port p with perst := false }) ∧ (s.pwr ≠ .run → t.port p = s.port p) ∧
      t.port (otherPort p) = s.port (otherPort p) ∧
      RegsOnly (fun r => r.blk == .hostif && decide (0x2000 ≤ r.off)) { s with portA := t.portA, portB := t.portB, perstLow := t.perstLow } t) ∧
  (∀ (p : Port) (s : State), Inv s → s.linkUp p = true → (s.port p).perst = false →
    ∃ t, exec (.functionLevelReset p) s = .next t ∧ t.port p = ⟨false, false, false, false, false, ⟨0, 0, 0, 0⟩⟩ ∧ t.linkUp p = false ∧
      t.perstLow = s.perstLow ∧
      (∀ r, isHeld r = true → r.held = p.toNat → reactReg r = false → t.rd r = resetVal r) ∧ t.mem = s.mem ∧ t.actMap = s.actMap) ∧
  (∀ (p : Port) (s : State), s.linkUp p = false ∨ (s.port p).perst = true →
    exec (.functionLevelReset p) s = .next (s.answer .ur))

/-- R396: the mailbox. The sending port writes its outbox and sends it, the receiving port acknowledges it, and vector 175 goes to the other
side (it waits as a pending bit where the port may not be sent a message now); a write that R396 lists is ignored and sets the writer's
MBOX_REJ. `box` names an outbox by its sending port. -/
def Obligations.MailboxCarriesMessages : Prop :=
  (∀ (p box : Port) (i : Fin 16) (v : Word) (s : State), s.reaches p 0 = true →
    let r := match box with | .a => R.HOSTIF_MBOX_AB_DATA i | .b => R.HOSTIF_MBOX_BA_DATA i
    (p = box → s.mboxFull box = false →
      ∃ t, exec (.mboxDataWrite p box i v) s = .next t ∧ t.rd r = v ∧ RegsOnly (fun q => q == r) s t) ∧
    (p ≠ box ∨ s.mboxFull box = true →
      ∃ t, exec (.mboxDataWrite p box i v) s = .next t ∧ t.flag R.HOSTIF_ERR (portMboxRej p) = true ∧
        RegsOnly (fun q => q == R.HOSTIF_ERR) s t)) ∧
  (∀ (p box : Port) (s : State), s.reaches p 0 = true →
    let told (x : Port) (t : State) : Prop :=
      let addr := (s.rd (R.HOSTIF_MSIX_TABLE x 175 1)).setWidth 64 <<< 32 ||| (s.rd (R.HOSTIF_MSIX_TABLE x 175 0)).setWidth 64
      (s.msixReady x 175 = true → t.hostWrites = .msix x 175 addr (s.rd (R.HOSTIF_MSIX_TABLE x 175 2)) :: s.hostWrites) ∧
      (s.msixReady x 175 = false → t.hostWrites = s.hostWrites ∧ t.bit (R.HOSTIF_PBA x 5) 15 = true) ∧
      RegsOnly (fun q => q == R.HOSTIF_MBOX_CTRL || q == R.HOSTIF_PBA x 5) { s with hostWrites := t.hostWrites } t
    let refused (c : Instr) : Prop := ∃ t, exec c s = .next t ∧ t.flag R.HOSTIF_ERR (portMboxRej p) = true ∧
      RegsOnly (fun q => q == R.HOSTIF_ERR) s t
    (p = box → s.mboxFull box = false → ∃ t, exec (.mboxSend p box) s = .next t ∧ t.mboxFull box = true ∧ told (otherPort box) t) ∧
    (p ≠ box ∨ s.mboxFull box = true → refused (.mboxSend p box)) ∧
    (p ≠ box → s.mboxFull box = true → ∃ t, exec (.mboxAck p box) s = .next t ∧ t.mboxFull box = false ∧
      t.flag R.HOSTIF_MBOX_CTRL (ackedFld box) = true ∧ told box t) ∧
    (p = box ∨ s.mboxFull box = false → refused (.mboxAck p box)))

/-- R398, R397: an operation on the boot flash begins, with the bytes that it sends, or is refused with its code; it ends with the bytes read,
and a bench load or a second read of HKFW that waited for the bus then asks with the read command that BOOT[2] selects. How many commands a
load sends is the model's choice (notes/assumptions/81.md), and so is what a refused GO stores (70.md). R399 to R401: the SMBus commands set
the pointer, read at it and write the registers that R401 names; what is not answered, fails its PEC or may not be written is counted. The
packet error check is that of SMBus 3.0, which the spec does not print, begins with the device's address, 0x5C on Side A and 0x5D on Side B,
and may be left out by the sender (presumed, notes/assumptions/106.md). -/
def Obligations.FlashAndSmbusAreServed : Prop :=
  ((∀ (p : Port) (ab : Fin 4) (dummy : Fin 16) (op : Byte) (len : Fin 512) (s : State), s.reaches p 0 = true →
    let begins (c : Instr) (write : Bool) : Prop :=
      let v := spiWord write ab dummy op len
      (s.spiRun.isSome = true ∨ s.flashLoading = true ∨ ab.val = 3 ∨ 256 < len.val →
        ∃ t, exec c s = .next t ∧ t.get R.HOSTIF_SPI_STATUS F.HOSTIF_SPI_STATUS_CODE =
            (if s.spiRun.isSome then 1 else if s.flashLoading then 2 else 3) ∧
          RegsOnly (fun r => r == R.HOSTIF_SPI_STATUS) s t) ∧
      (s.spiRun = none → s.flashLoading = false → ab.val ≠ 3 → len.val ≤ 256 →
        ∃ t, exec c s = .next t ∧ t.flag R.HOSTIF_SPI_STATUS F.HOSTIF_SPI_STATUS_BUSY = true ∧
          t.get R.HOSTIF_SPI_STATUS F.HOSTIF_SPI_STATUS_CODE = 0 ∧ t.get R.HOSTIF_SPI_STATUS F.HOSTIF_SPI_STATUS_PORT = p.toNat ∧
          t.spiRun = some ⟨v, op :: toBe (if ab.val = 0 then 0 else if ab.val = 1 then 3 else 4) (s.rd R.HOSTIF_SPI_ADDR).toNat ++
            (if write then (List.range len).map s.spiByte else [])⟩ ∧
          t.spiLog = ⟨s.spiSent v, dummy.val, s.spiMHz, if write then 0 else len.val⟩ :: s.spiLog ∧
          RegsOnly (fun r => r == R.HOSTIF_SPI_STATUS || r == R.HOSTIF_SPI_CTRL) { s with spiRun := t.spiRun, spiLog := t.spiLog } t)
    begins (.spiRead p ab dummy op len) false ∧ begins (.spiWrite p ab dummy op len) true) ∧
  (∀ (data : List Byte) (fail : Bool) (x : SpiOp) (s : State), s.spiRun = some x → Settled s →
    ∃ t, exec (.spiDone data fail) s = .next t ∧ t.spiRun = none ∧ t.flag R.HOSTIF_SPI_STATUS F.HOSTIF_SPI_STATUS_BUSY = false ∧
      t.flag R.HOSTIF_SPI_STATUS F.HOSTIF_SPI_STATUS_DONE = true ∧
      (fget x.ctrl F.HOSTIF_SPI_CTRL_WRITE = 0 → ∀ k, k < fget x.ctrl F.HOSTIF_SPI_CTRL_LEN → t.spiByte k = data.getD k 0xFF) ∧
      (fget x.ctrl F.HOSTIF_SPI_CTRL_WRITE = 1 → fail = false →
        RegsOnly (fun r => r == R.HOSTIF_SPI_STATUS) { s with spiRun := none, spiLog := t.spiLog, hkAsk := t.hkAsk } t) ∧
      (fail = true → t.bit (R.EVT_STICKY evPkg) srcSPI = true) ∧
      (let asks (addr n : Nat) : SpiCmd := ⟨(if s.get R.PKG_START F.PKG_START_BOOT / 4 = 0 then (0x6C : Byte) else 0x0C) :: toBe 4 addr, 8,
         if s.get R.PKG_START F.PKG_START_BOOT / 4 = 0 then 100 else 25, n⟩
       let hk : List SpiCmd := if s.hkAsk then Option.elim s.hkFrom [] (fun e => [asks e.1 e.2]) else []
       let head : List SpiCmd :=
         Option.elim s.load [] (fun l => if l.source = 0 then [] else [asks (if l.source = 2 then 0x01000000 else 0) 64])
       t.spiLog = head ++ hk ++ s.spiLog) ∧
      (s.hkAsk = true → s.hkFrom.isSome = true → t.hkAsk = false) ∧
      t.mem = s.mem ∧ t.actMap = s.actMap ∧ ∀ r : RegId, noteReg r = false → r.blk ≠ .hostif → t.rd r = s.rd r)) ∧
  (let slaveByte (s : State) (read : Bool) : Byte := BitVec.ofNat 8 (2 * (if s.sideB then 0x5D else 0x5C) + if read then 1 else 0)
  let pecRight (s : State) (sent : List Byte) (pec : Option Byte) : Prop := ∀ c, pec = some c → c = crc8 (slaveByte s false :: sent)
  (∀ (v : BitVec 16) (pec : Option Byte) (s : State), s.smbAnswers = true → pecRight s [0x01, v.setWidth 8, (v >>> 8).setWidth 8] pec →
    exec (.smbSetPointer v pec) s = .next { s with resp := .done, smbPtr := v &&& 0xFFFC }) ∧
  (∀ (v : BitVec 16) (pec : Option Byte) (s : State), s.smbAnswers = true → ¬pecRight s [0x01, v.setWidth 8, (v >>> 8).setWidth 8] pec →
    ∃ t, exec (.smbSetPointer v pec) s = .next t ∧ t.get R.HOSTIF_SMB_STATUS F.HOSTIF_SMB_STATUS_PEC_ERR =
      min 255 (s.get R.HOSTIF_SMB_STATUS F.HOSTIF_SMB_STATUS_PEC_ERR + 1) ∧ RegsOnly (fun r => r == R.HOSTIF_SMB_STATUS) s t) ∧
  (∀ s : State, s.smbAnswers = false → exec .smbBlockRead s = .next (s.answer .nack) ∧
    exec .smbReadRegister s = .next (s.answer .nack) ∧ exec .smbSclTimeout s = .next s ∧
    (∀ (v : BitVec 16) (pec : Option Byte), exec (.smbSetPointer v pec) s = .next (s.answer .nack)) ∧
    ∀ (v : Word) (pec : Option Byte), Settled s → exec (.smbWriteRegister v pec) s = .next (s.answer .nack)) ∧
  (∀ s : State, s.smbAnswers = true → ∃ t, exec .smbBlockRead s = .next t ∧ ∃ (l : List Byte) (c : Byte), t.resp = .block l c ∧ l.length = 32 ∧
    c = crc8 ([slaveByte s false, 0x02, slaveByte s true, 32] ++ l) ∧ t = { s with resp := .block l c, smbPtr := s.smbPtr + 32 } ∧
    ∀ (i : Fin 8) (r : RegId), smbReg ((s.smbPtr.toNat + 4 * i.val) % 2 ^ 16) = some r → (l.drop (4 * i.val)).take 4 = wordBytes (s.rd r)) ∧
  (∀ s : State, s.smbAnswers = true → ∃ t, exec .smbReadRegister s = .next t ∧ ∃ (l : List Byte) (c : Byte), t.resp = .block l c ∧
    c = crc8 ([slaveByte s false, 0x03, slaveByte s true, 4] ++ l) ∧ t = { s with resp := .block l c, smbPtr := s.smbPtr + 4 } ∧
    (s.smbPtr.toNat < 0x1000 → l = wordBytes (s.rd ⟨.mon, 0, s.smbPtr.toNat, 0⟩)) ∧ (s.smbPtr = 0x1000 → l = wordBytes (s.rd R.PKG_START)) ∧
    (s.smbPtr = 0x1004 → l = wordBytes (s.rd R.EVT_SUM_STATUS)) ∧ (s.smbPtr = 0x1008 → l = wordBytes (s.rd R.PAIR_STATUS)) ∧
    (s.smbPtr = 0x100C → l = wordBytes (s.rd R.CAL_STATUS)) ∧ (s.smbPtr = 0x1010 → l = wordBytes (s.rd R.BENCH_STATUS)) ∧
    (s.smbPtr = 0x1014 → l = wordBytes (s.rd R.HOSTIF_PORT_STATUS)) ∧ (0x1018 ≤ s.smbPtr.toNat → l = wordBytes 0)) ∧
  (∀ (v : Word) (pec : Option Byte) (s : State), s.smbAnswers = true → Settled s → ¬pecRight s ([0x04, 4] ++ wordBytes v) pec →
    ∃ t, exec (.smbWriteRegister v pec) s = .next t ∧ t.get R.HOSTIF_SMB_STATUS F.HOSTIF_SMB_STATUS_PEC_ERR =
      min 255 (s.get R.HOSTIF_SMB_STATUS F.HOSTIF_SMB_STATUS_PEC_ERR + 1) ∧ RegsOnly (fun r => r == R.HOSTIF_SMB_STATUS) s t) ∧
  (∀ (v : Word) (pec : Option Byte) (r : Fin 7) (crit : Bool) (s : State), s.smbAnswers = true → s.due = [] →
    pecRight s ([0x04, 4] ++ wordBytes v) pec → s.flag R.HOSTIF_SMB_CTRL F.HOSTIF_SMB_CTRL_WR_EN = true →
    s.smbPtr.toNat = 0x200 + 8 * r.val + (if crit then 4 else 0) →
    ∃ t, exec (.smbWriteRegister v pec) s = .next t ∧ t.smbPtr = s.smbPtr + 4 ∧ t.resp = .done ∧
      t.rd (if crit then R.MON_RAIL_CRIT r.val else R.MON_RAIL_WARN r.val) =
        (if crit then railWord (max (v.toNat / 2 ^ 16) (railCrit.getD r.val (0, 0)).1, min (v.toNat % 2 ^ 16) (railCrit.getD r.val (0, 0)).2)
         else v) ∧ t.mem = s.mem ∧ t.actMap = s.actMap ∧ ∀ r' : RegId, noteReg r' = false → r'.blk ≠ .mon → t.rd r' = s.rd r') ∧
  (∀ (v : Word) (pec : Option Byte) (s : State), s.smbAnswers = true → Settled s → pecRight s ([0x04, 4] ++ wordBytes v) pec →
    s.flag R.HOSTIF_SMB_CTRL F.HOSTIF_SMB_CTRL_WR_EN = true → s.smbPtr.toNat = 0x340 →
    ∃ t, exec (.smbWriteRegister v pec) s = .next t ∧ t.smbPtr = s.smbPtr + 4 ∧
      t.get R.MON_TEMP_LIM F.MON_TEMP_LIM_WARN = clampNat 60 105 (fget v F.MON_TEMP_LIM_WARN) ∧
      t.get R.MON_TEMP_LIM F.MON_TEMP_LIM_CRIT = clampNat 100 115 (fget v F.MON_TEMP_LIM_CRIT) ∧
      RegsOnly (fun x => x == R.MON_TEMP_LIM) { s with smbPtr := t.smbPtr } t) ∧
  (∀ (v : Word) (pec : Option Byte) (s : State), s.smbAnswers = true → Settled s → pecRight s ([0x04, 4] ++ wordBytes v) pec →
    s.flag R.HOSTIF_SMB_CTRL F.HOSTIF_SMB_CTRL_WR_EN = false ∨
      (s.smbPtr.toNat < 0x200 ∨ 0x238 ≤ s.smbPtr.toNat) ∧ s.smbPtr.toNat ≠ 0x340 →
    ∃ t, exec (.smbWriteRegister v pec) s = .next t ∧ t.smbPtr = s.smbPtr + 4 ∧
      t.get R.HOSTIF_SMB_STATUS F.HOSTIF_SMB_STATUS_WR_REJ = min 255 (s.get R.HOSTIF_SMB_STATUS F.HOSTIF_SMB_STATUS_WR_REJ + 1) ∧
      RegsOnly (fun x => x == R.HOSTIF_SMB_STATUS) { s with smbPtr := t.smbPtr } t) ∧
  (∀ s : State, exec .smbUnknownCommand s = .next (s.answer .nack)) ∧
  (∀ s : State, s.smbAnswers = true → s.due = [] →
    ∃ t, exec .smbSclTimeout s = .next t ∧ t.bit (R.EVT_STICKY evPkg) srcSMBUS = true ∧
      t.ctr (ctrEvTotal evPkg srcSMBUS) = (s.ctr (ctrEvTotal evPkg srcSMBUS) + 1) % 2 ^ 48 ∧ NoteOnly s t))

/-- R403: IDCODE becomes the instruction, the balls are the core's again (R405), and its register holds VERSION (the silicon stepping) above
part number 0x4128, manufacturer identity 0x3A7 and 1: 28 bits that read 0x412874F, so stepping 0 reads 0x0412874F and stepping 1 reads
0x1412874F. Stated for every stepping. -/
def Obligations.IdcodeNamesTheDevice : Prop :=
  ∀ s : State, s.pwr ≠ .off →
    ∃ t, exec .idcode s = .next t ∧ ∃ w : Word, t.resp = .word w ∧
      RegsOnly (fun r => r == R.PAIR_STATUS) { s with tapIr := 2, tapIrOut := some 0x01 } t ∧ w.extractLsb' 28 4 = Config.stepping ∧
      w.extractLsb' 12 16 = (0x4128 : BitVec 16) ∧ w.extractLsb' 1 11 = (0x3A7 : BitVec 11) ∧ w.extractLsb' 0 1 = (1 : BitVec 1) ∧
      w.extractLsb' 0 28 = (0x412874F : BitVec 28)

/-- R402, R404 to R406: a TAP instruction becomes the current one, and the instruction register has captured 0b0000_0001; those that drive the
balls take both PCIe links down and load the boundary-scan register, whose captured cells are shifted out; SAMPLE/PRELOAD and BYPASS disturb
nothing; FACTORY_TEST enters its mode only with TEST_MODE at 1. Which cell is which ball's is the BSDL's and free here, and a register that
shows a ball follows the ball (notes/assumptions/105.md); `follows` says so of the wire YOKE. -/
def Obligations.TapInstructionsAct : Prop :=
  let follows (s t : State) : Prop := t.flag R.PAIR_STATUS F.PAIR_STATUS_YOKE_LOW = (t.yokePull || s.yokeMate)
  let quiet (s : State) (ir : BitVec 8) (t : State) : Prop := follows s t ∧ t.resp = s.resp ∧
    RegsOnly (fun r => r == R.PAIR_STATUS) { s with tapIr := ir, tapIrOut := some 0x01 } t
  (∀ s : State, s.pwr ≠ .off → ∃ t, exec .tapReset s = .next t ∧ follows s t ∧
    RegsOnly (fun r => r == R.PAIR_STATUS) { s with tapIr := 2, tapIrOut := none } t) ∧
  (∀ (l : List Bool) (s : State), s.pwr ≠ .off → ∃ t, exec (.samplePreload l) s = .next t ∧ follows s t ∧
    (∃ out : List Bool, t.resp = .bits out ∧ out.length = l.length) ∧
    RegsOnly (fun r => r == R.PAIR_STATUS) { s with tapIr := 1, tapIrOut := some 0x01, scan := l, draw := t.draw } t) ∧
  (∀ (op : BitVec 8) (s : State), s.pwr ≠ .off → op ∉ [(0x00 : BitVec 8), 0x01, 0x02, 0x03, 0x04, 0x08, 0x09, 0x3C] →
    (∃ t, exec (.bypass op) s = .next t ∧ quiet s op t) ∧ tapDr op = .bypass) ∧
  (∀ (l : List Bool) (s : State), s.pwr ≠ .off → s.due = [] →
    let drives (c : Instr) (ir : BitVec 8) (shift : Bool) : Prop :=
      ∃ t, exec c s = .next t ∧ t.tapIr = ir ∧ t.tapIrOut = some 0x01 ∧ t.scan = (if shift then l else s.scan) ∧ follows s t ∧
        (shift = true → ∃ out : List Bool, t.resp = .bits out ∧ out.length = l.length) ∧ (shift = false → t.resp = s.resp) ∧
        t.linkUp .a = false ∧ t.linkUp .b = false ∧
        (∀ p, s.linkUp p = true → t.bit (R.EVT_LIVE evPkg) (portSrc p) = true) ∧
        NoteOnly ({ s with tapIr := ir, tapIrOut := some 0x01, scan := t.scan, resp := t.resp }.wr R.HOSTIF_PORT_STATUS
          (t.rd R.HOSTIF_PORT_STATUS)) t
    drives (.extest l) 0x00 true ∧ drives (.extestPulse l) 0x08 true ∧ drives (.extestTrain l) 0x09 true ∧ drives .clamp 0x03 false ∧
      drives .highz 0x04 false) ∧
  (∀ s : State, s.pwr = .run → s.flag R.PKG_START F.PKG_START_TEST_MODE = true →
    ∃ t, exec .factoryTest s = .next t ∧ t.flag R.EVT_SUM_STATUS F.EVT_SUM_STATUS_TEST_MODE = true ∧ follows s t ∧
      RegsOnly (fun r => r == R.EVT_SUM_STATUS || r == R.PAIR_STATUS) { s with tapIr := 0x3C, tapIrOut := some 0x01 } t) ∧
  (∀ s : State, s.pwr ≠ .off → s.flag R.PKG_START F.PKG_START_TEST_MODE = false →
    ∃ t, exec .factoryTest s = .next t ∧ quiet s 0x3C t) ∧
  (∀ (op : BitVec 8) (l : List Bool) (s : State), s.pwr = .off → s.due = [] → s.grave = false →
    let dead (c : Instr) : Prop := exec c s = .next s
    dead .tapReset ∧ dead .idcode ∧ dead (.samplePreload l) ∧ dead (.extest l) ∧ dead (.extestPulse l) ∧ dead (.extestTrain l) ∧ dead .clamp ∧
      dead .highz ∧ dead .factoryTest ∧ dead (.bypass op))
end

