-- ==== Sys2Proof/Laws/State.lean ====
section
/-!
SUPPORT. What each named update of the state leaves alone: one lemma for each field.
-/

namespace Sys2Proof.Machine

variable (s : State)

@[simp] theorem State.wr_pending (r : RegId) (v : Word) : (s.wr r v).pending = s.pending := rfl
@[simp] theorem State.wr_resp (r : RegId) (v : Word) : (s.wr r v).resp = s.resp := rfl
@[simp] theorem State.wr_draw (r : RegId) (v : Word) : (s.wr r v).draw = s.draw := rfl
@[simp] theorem State.wr_mem (r : RegId) (v : Word) : (s.wr r v).mem = s.mem := rfl
@[simp] theorem State.wr_clk (r : RegId) (v : Word) : (s.wr r v).clk = s.clk := rfl
@[simp] theorem State.wr_up (r : RegId) (v : Word) : (s.wr r v).up = s.up := rfl
@[simp] theorem State.wr_frames (r : RegId) (v : Word) : (s.wr r v).frames = s.frames := rfl
@[simp] theorem State.wr_ns (r : RegId) (v : Word) : (s.wr r v).ns = s.ns := rfl
@[simp] theorem State.wr_snaps (r : RegId) (v : Word) : (s.wr r v).snaps = s.snaps := rfl
@[simp] theorem State.wr_timers (r : RegId) (v : Word) : (s.wr r v).timers = s.timers := rfl
@[simp] theorem State.wr_portA (r : RegId) (v : Word) : (s.wr r v).portA = s.portA := rfl
@[simp] theorem State.wr_portB (r : RegId) (v : Word) : (s.wr r v).portB = s.portB := rfl
@[simp] theorem State.wr_hostWrites (r : RegId) (v : Word) : (s.wr r v).hostWrites = s.hostWrites := rfl
@[simp] theorem State.wr_sevOn (r : RegId) (v : Word) : (s.wr r v).sevOn = s.sevOn := rfl
@[simp] theorem State.wr_fence (r : RegId) (v : Word) : (s.wr r v).fence = s.fence := rfl
@[simp] theorem State.wr_safe (r : RegId) (v : Word) : (s.wr r v).safe = s.safe := rfl
@[simp] theorem State.wr_due (r : RegId) (v : Word) : (s.wr r v).due = s.due := rfl
@[simp] theorem State.wr_pwr (r : RegId) (v : Word) : (s.wr r v).pwr = s.pwr := rfl
@[simp] theorem State.wr_rstLow (r : RegId) (v : Word) : (s.wr r v).rstLow = s.rstLow := rfl
@[simp] theorem State.wr_rstHeld (r : RegId) (v : Word) : (s.wr r v).rstHeld = s.rstHeld := rfl
@[simp] theorem State.wr_warm (r : RegId) (v : Word) : (s.wr r v).warm = s.warm := rfl
@[simp] theorem State.wr_oscIn (r : RegId) (v : Word) : (s.wr r v).oscIn = s.oscIn := rfl
@[simp] theorem State.wr_lead (r : RegId) (v : Word) : (s.wr r v).lead = s.lead := rfl
@[simp] theorem State.wr_upStart (r : RegId) (v : Word) : (s.wr r v).upStart = s.upStart := rfl
@[simp] theorem State.wr_load (r : RegId) (v : Word) : (s.wr r v).load = s.load := rfl
@[simp] theorem State.wr_applying (r : RegId) (v : Word) : (s.wr r v).applying = s.applying := rfl
@[simp] theorem State.wr_fullActive (r : RegId) (v : Word) : (s.wr r v).fullActive = s.fullActive := rfl
@[simp] theorem State.wr_rgFailed (r : RegId) (v : Word) : (s.wr r v).rgFailed = s.rgFailed := rfl
@[simp] theorem State.wr_pers (r : RegId) (v : Word) : (s.wr r v).pers = s.pers := rfl
@[simp] theorem State.wr_eqPreset (r : RegId) (v : Word) : (s.wr r v).eqPreset = s.eqPreset := rfl
@[simp] theorem State.wr_depth (r : RegId) (v : Word) : (s.wr r v).depth = s.depth := rfl
@[simp] theorem State.wr_dram (r : RegId) (v : Word) : (s.wr r v).dram = s.dram := rfl
@[simp] theorem State.wr_wbDefault (r : RegId) (v : Word) : (s.wr r v).wbDefault = s.wbDefault := rfl
@[simp] theorem State.wr_rbForced (r : RegId) (v : Word) : (s.wr r v).rbForced = s.rbForced := rfl
@[simp] theorem State.wr_fullForced (r : RegId) (v : Word) : (s.wr r v).fullForced = s.fullForced := rfl
@[simp] theorem State.wr_unretire (r : RegId) (v : Word) : (s.wr r v).unretire = s.unretire := rfl
@[simp] theorem State.wr_dramBad (r : RegId) (v : Word) : (s.wr r v).dramBad = s.dramBad := rfl
@[simp] theorem State.wr_dramTrained (r : RegId) (v : Word) : (s.wr r v).dramTrained = s.dramTrained := rfl
@[simp] theorem State.wr_actMap (r : RegId) (v : Word) : (s.wr r v).actMap = s.actMap := rfl
@[simp] theorem State.wr_merges (r : RegId) (v : Word) : (s.wr r v).merges = s.merges := rfl
@[simp] theorem State.wr_txns (r : RegId) (v : Word) : (s.wr r v).txns = s.txns := rfl
@[simp] theorem State.wr_hitAis (r : RegId) (v : Word) : (s.wr r v).hitAis = s.hitAis := rfl
@[simp] theorem State.wr_unionHold (r : RegId) (v : Word) : (s.wr r v).unionHold = s.unionHold := rfl
@[simp] theorem State.wr_mapDiag (r : RegId) (v : Word) : (s.wr r v).mapDiag = s.mapDiag := rfl
@[simp] theorem State.wr_syncing (r : RegId) (v : Word) : (s.wr r v).syncing = s.syncing := rfl
@[simp] theorem State.wr_mateOut (r : RegId) (v : Word) : (s.wr r v).mateOut = s.mateOut := rfl
@[simp] theorem State.wr_sievePos (r : RegId) (v : Word) : (s.wr r v).sievePos = s.sievePos := rfl
@[simp] theorem State.wr_wbNew (r : RegId) (v : Word) : (s.wr r v).wbNew = s.wbNew := rfl
@[simp] theorem State.wr_wbWait (r : RegId) (v : Word) : (s.wr r v).wbWait = s.wbWait := rfl
@[simp] theorem State.wr_wbLast (r : RegId) (v : Word) : (s.wr r v).wbLast = s.wbLast := rfl
@[simp] theorem State.wr_wbReturning (r : RegId) (v : Word) : (s.wr r v).wbReturning = s.wbReturning := rfl
@[simp] theorem State.wr_mxOut (r : RegId) (v : Word) : (s.wr r v).mxOut = s.mxOut := rfl
@[simp] theorem State.wr_mxWait (r : RegId) (v : Word) : (s.wr r v).mxWait = s.mxWait := rfl
@[simp] theorem State.wr_msp (r : RegId) (v : Word) : (s.wr r v).msp = s.msp := rfl
@[simp] theorem State.wr_snc (r : RegId) (v : Word) : (s.wr r v).snc = s.snc := rfl
@[simp] theorem State.wr_sncLog (r : RegId) (v : Word) : (s.wr r v).sncLog = s.sncLog := rfl
@[simp] theorem State.wr_sncLost (r : RegId) (v : Word) : (s.wr r v).sncLost = s.sncLost := rfl
@[simp] theorem State.wr_sncStored (r : RegId) (v : Word) : (s.wr r v).sncStored = s.sncStored := rfl
@[simp] theorem State.wr_pm (r : RegId) (v : Word) : (s.wr r v).pm = s.pm := rfl
@[simp] theorem State.wr_pmAuto (r : RegId) (v : Word) : (s.wr r v).pmAuto = s.pmAuto := rfl
@[simp] theorem State.wr_pmAutoCfg (r : RegId) (v : Word) : (s.wr r v).pmAutoCfg = s.pmAutoCfg := rfl
@[simp] theorem State.wr_pmOfs (r : RegId) (v : Word) : (s.wr r v).pmOfs = s.pmOfs := rfl
@[simp] theorem State.wr_pmDue (r : RegId) (v : Word) : (s.wr r v).pmDue = s.pmDue := rfl
@[simp] theorem State.wr_pmQ (r : RegId) (v : Word) : (s.wr r v).pmQ = s.pmQ := rfl
@[simp] theorem State.wr_pmClose (r : RegId) (v : Word) : (s.wr r v).pmClose = s.pmClose := rfl
@[simp] theorem State.wr_tcaLog (r : RegId) (v : Word) : (s.wr r v).tcaLog = s.tcaLog := rfl
@[simp] theorem State.wr_tcaLost (r : RegId) (v : Word) : (s.wr r v).tcaLost = s.tcaLost := rfl
@[simp] theorem State.wr_tcaStored (r : RegId) (v : Word) : (s.wr r v).tcaStored = s.tcaStored := rfl
@[simp] theorem State.wr_sec (r : RegId) (v : Word) : (s.wr r v).sec = s.sec := rfl
@[simp] theorem State.wr_lineOut (r : RegId) (v : Word) : (s.wr r v).lineOut = s.lineOut := rfl
@[simp] theorem State.wr_paths (r : RegId) (v : Word) : (s.wr r v).paths = s.paths := rfl
@[simp] theorem State.wr_structW0 (r : RegId) (v : Word) : (s.wr r v).structW0 = s.structW0 := rfl
@[simp] theorem State.wr_structPend (r : RegId) (v : Word) : (s.wr r v).structPend = s.structPend := rfl
@[simp] theorem State.wr_gens (r : RegId) (v : Word) : (s.wr r v).gens = s.gens := rfl
@[simp] theorem State.wr_hoB3 (r : RegId) (v : Word) : (s.wr r v).hoB3 = s.hoB3 := rfl
@[simp] theorem State.wr_pathInd (r : RegId) (v : Word) : (s.wr r v).pathInd = s.pathInd := rfl
@[simp] theorem State.wr_jrnDirty (r : RegId) (v : Word) : (s.wr r v).jrnDirty = s.jrnDirty := rfl
@[simp] theorem State.wr_jrnLoss (r : RegId) (v : Word) : (s.wr r v).jrnLoss = s.jrnLoss := rfl
@[simp] theorem State.wr_jrnStage (r : RegId) (v : Word) : (s.wr r v).jrnStage = s.jrnStage := rfl
@[simp] theorem State.wr_slabs (r : RegId) (v : Word) : (s.wr r v).slabs = s.slabs := rfl
@[simp] theorem State.wr_spareOn (r : RegId) (v : Word) : (s.wr r v).spareOn = s.spareOn := rfl
@[simp] theorem State.wr_spareLast (r : RegId) (v : Word) : (s.wr r v).spareLast = s.spareLast := rfl
@[simp] theorem State.wr_slabDiag (r : RegId) (v : Word) : (s.wr r v).slabDiag = s.slabDiag := rfl
@[simp] theorem State.wr_txGrains (r : RegId) (v : Word) : (s.wr r v).txGrains = s.txGrains := rfl
@[simp] theorem State.wr_txMarks (r : RegId) (v : Word) : (s.wr r v).txMarks = s.txMarks := rfl
@[simp] theorem State.wr_fabric (r : RegId) (v : Word) : (s.wr r v).fabric = s.fabric := rfl
@[simp] theorem State.wr_tg (r : RegId) (v : Word) : (s.wr r v).tg = s.tg := rfl
@[simp] theorem State.wr_grps (r : RegId) (v : Word) : (s.wr r v).grps = s.grps := rfl
@[simp] theorem State.wr_grpGone (r : RegId) (v : Word) : (s.wr r v).grpGone = s.grpGone := rfl
@[simp] theorem State.wr_grpDirty (r : RegId) (v : Word) : (s.wr r v).grpDirty = s.grpDirty := rfl
@[simp] theorem State.wr_deskew (r : RegId) (v : Word) : (s.wr r v).deskew = s.deskew := rfl
@[simp] theorem State.wr_refEff (r : RegId) (v : Word) : (s.wr r v).refEff = s.refEff := rfl
@[simp] theorem State.wr_refS1 (r : RegId) (v : Word) : (s.wr r v).refS1 = s.refS1 := rfl
@[simp] theorem State.wr_mainHold (r : RegId) (v : Word) : (s.wr r v).mainHold = s.mainHold := rfl
@[simp] theorem State.wr_mainCmdIn (r : RegId) (v : Word) : (s.wr r v).mainCmdIn = s.mainCmdIn := rfl
@[simp] theorem State.wr_hist (r : RegId) (v : Word) : (s.wr r v).hist = s.hist := rfl
@[simp] theorem State.wr_histRun (r : RegId) (v : Word) : (s.wr r v).histRun = s.histRun := rfl
@[simp] theorem State.wr_s1Out (r : RegId) (v : Word) : (s.wr r v).s1Out = s.s1Out := rfl
@[simp] theorem State.wr_s1Next (r : RegId) (v : Word) : (s.wr r v).s1Next = s.s1Next := rfl
@[simp] theorem State.wr_mateS1 (r : RegId) (v : Word) : (s.wr r v).mateS1 = s.mateS1 := rfl
@[simp] theorem State.wr_syncLast (r : RegId) (v : Word) : (s.wr r v).syncLast = s.syncLast := rfl
@[simp] theorem State.wr_syncOk (r : RegId) (v : Word) : (s.wr r v).syncOk = s.syncOk := rfl
@[simp] theorem State.wr_syncOut (r : RegId) (v : Word) : (s.wr r v).syncOut = s.syncOut := rfl
@[simp] theorem State.wr_secUp (r : RegId) (v : Word) : (s.wr r v).secUp = s.secUp := rfl
@[simp] theorem State.wr_drive (r : RegId) (v : Word) : (s.wr r v).drive = s.drive := rfl
@[simp] theorem State.wr_driveAt (r : RegId) (v : Word) : (s.wr r v).driveAt = s.driveAt := rfl
@[simp] theorem State.wr_arbLow (r : RegId) (v : Word) : (s.wr r v).arbLow = s.arbLow := rfl
@[simp] theorem State.wr_hoWaited (r : RegId) (v : Word) : (s.wr r v).hoWaited = s.hoWaited := rfl
@[simp] theorem State.wr_yokeMate (r : RegId) (v : Word) : (s.wr r v).yokeMate = s.yokeMate := rfl
@[simp] theorem State.wr_mateTx (r : RegId) (v : Word) : (s.wr r v).mateTx = s.mateTx := rfl
@[simp] theorem State.wr_shadowRx (r : RegId) (v : Word) : (s.wr r v).shadowRx = s.shadowRx := rfl
@[simp] theorem State.wr_hoTake (r : RegId) (v : Word) : (s.wr r v).hoTake = s.hoTake := rfl
@[simp] theorem State.wr_hoAgreed (r : RegId) (v : Word) : (s.wr r v).hoAgreed = s.hoAgreed := rfl
@[simp] theorem State.wr_hoDone (r : RegId) (v : Word) : (s.wr r v).hoDone = s.hoDone := rfl
@[simp] theorem State.wr_hoOp (r : RegId) (v : Word) : (s.wr r v).hoOp = s.hoOp := rfl
@[simp] theorem State.wr_mateBad (r : RegId) (v : Word) : (s.wr r v).mateBad = s.mateBad := rfl
@[simp] theorem State.wr_mateIdle (r : RegId) (v : Word) : (s.wr r v).mateIdle = s.mateIdle := rfl
@[simp] theorem State.wr_bothAct (r : RegId) (v : Word) : (s.wr r v).bothAct = s.bothAct := rfl
@[simp] theorem State.wr_bothSel (r : RegId) (v : Word) : (s.wr r v).bothSel = s.bothSel := rfl
@[simp] theorem State.wr_mateShadow (r : RegId) (v : Word) : (s.wr r v).mateShadow = s.mateShadow := rfl
@[simp] theorem State.wr_theta (r : RegId) (v : Word) : (s.wr r v).theta = s.theta := rfl
@[simp] theorem State.wr_shadow (r : RegId) (v : Word) : (s.wr r v).shadow = s.shadow := rfl
@[simp] theorem State.wr_skJobs (r : RegId) (v : Word) : (s.wr r v).skJobs = s.skJobs := rfl
@[simp] theorem State.wr_skFetch (r : RegId) (v : Word) : (s.wr r v).skFetch = s.skFetch := rfl
@[simp] theorem State.wr_prbs (r : RegId) (v : Word) : (s.wr r v).prbs = s.prbs := rfl
@[simp] theorem State.wr_prbsDirty (r : RegId) (v : Word) : (s.wr r v).prbsDirty = s.prbsDirty := rfl
@[simp] theorem State.wr_pourJobs (r : RegId) (v : Word) : (s.wr r v).pourJobs = s.pourJobs := rfl
@[simp] theorem State.wr_pourFetch (r : RegId) (v : Word) : (s.wr r v).pourFetch = s.pourFetch := rfl
@[simp] theorem State.wr_calStore (r : RegId) (v : Word) : (s.wr r v).calStore = s.calStore := rfl
@[simp] theorem State.wr_calStage (r : RegId) (v : Word) : (s.wr r v).calStage = s.calStage := rfl
@[simp] theorem State.wr_calRun (r : RegId) (v : Word) : (s.wr r v).calRun = s.calRun := rfl
@[simp] theorem State.wr_calParts (r : RegId) (v : Word) : (s.wr r v).calParts = s.calParts := rfl
@[simp] theorem State.wr_calNew (r : RegId) (v : Word) : (s.wr r v).calNew = s.calNew := rfl
@[simp] theorem State.wr_calBoot (r : RegId) (v : Word) : (s.wr r v).calBoot = s.calBoot := rfl
@[simp] theorem State.wr_eqSet (r : RegId) (v : Word) : (s.wr r v).eqSet = s.eqSet := rfl
@[simp] theorem State.wr_temps (r : RegId) (v : Word) : (s.wr r v).temps = s.temps := rfl
@[simp] theorem State.wr_volt (r : RegId) (v : Word) : (s.wr r v).volt = s.volt := rfl
@[simp] theorem State.wr_aged (r : RegId) (v : Word) : (s.wr r v).aged = s.aged := rfl
@[simp] theorem State.wr_trim (r : RegId) (v : Word) : (s.wr r v).trim = s.trim := rfl
@[simp] theorem State.wr_trace (r : RegId) (v : Word) : (s.wr r v).trace = s.trace := rfl
@[simp] theorem State.wr_serdesBad (r : RegId) (v : Word) : (s.wr r v).serdesBad = s.serdesBad := rfl
@[simp] theorem State.wr_perstLow (r : RegId) (v : Word) : (s.wr r v).perstLow = s.perstLow := rfl
@[simp] theorem State.wr_spiLog (r : RegId) (v : Word) : (s.wr r v).spiLog = s.spiLog := rfl
@[simp] theorem State.wr_spiRun (r : RegId) (v : Word) : (s.wr r v).spiRun = s.spiRun := rfl
@[simp] theorem State.wr_hkNext (r : RegId) (v : Word) : (s.wr r v).hkNext = s.hkNext := rfl
@[simp] theorem State.wr_hkFrom (r : RegId) (v : Word) : (s.wr r v).hkFrom = s.hkFrom := rfl
@[simp] theorem State.wr_hkAsk (r : RegId) (v : Word) : (s.wr r v).hkAsk = s.hkAsk := rfl
@[simp] theorem State.wr_firstClk (r : RegId) (v : Word) : (s.wr r v).firstClk = s.firstClk := rfl
@[simp] theorem State.wr_smbPtr (r : RegId) (v : Word) : (s.wr r v).smbPtr = s.smbPtr := rfl
@[simp] theorem State.wr_tapIr (r : RegId) (v : Word) : (s.wr r v).tapIr = s.tapIr := rfl
@[simp] theorem State.wr_tapIrOut (r : RegId) (v : Word) : (s.wr r v).tapIrOut = s.tapIrOut := rfl
@[simp] theorem State.wr_scan (r : RegId) (v : Word) : (s.wr r v).scan = s.scan := rfl
@[simp] theorem State.wr_toPowerState (r : RegId) (v : Word) : (s.wr r v).toPowerState = s.toPowerState := rfl
@[simp] theorem State.wr_toBenchState (r : RegId) (v : Word) : (s.wr r v).toBenchState = s.toBenchState := rfl
@[simp] theorem State.wr_toMapState (r : RegId) (v : Word) : (s.wr r v).toMapState = s.toMapState := rfl
@[simp] theorem State.wr_toBankState (r : RegId) (v : Word) : (s.wr r v).toBankState = s.toBankState := rfl
@[simp] theorem State.wr_toProtState (r : RegId) (v : Word) : (s.wr r v).toProtState = s.toProtState := rfl
@[simp] theorem State.wr_toPmState (r : RegId) (v : Word) : (s.wr r v).toPmState = s.toPmState := rfl
@[simp] theorem State.wr_toLineState (r : RegId) (v : Word) : (s.wr r v).toLineState = s.toLineState := rfl
@[simp] theorem State.wr_toStoreState (r : RegId) (v : Word) : (s.wr r v).toStoreState = s.toStoreState := rfl
@[simp] theorem State.wr_toGroupState (r : RegId) (v : Word) : (s.wr r v).toGroupState = s.toGroupState := rfl
@[simp] theorem State.wr_toTimeState (r : RegId) (v : Word) : (s.wr r v).toTimeState = s.toTimeState := rfl
@[simp] theorem State.wr_toPairState (r : RegId) (v : Word) : (s.wr r v).toPairState = s.toPairState := rfl
@[simp] theorem State.wr_toSkimState (r : RegId) (v : Word) : (s.wr r v).toSkimState = s.toSkimState := rfl
@[simp] theorem State.wr_toSenseState (r : RegId) (v : Word) : (s.wr r v).toSenseState = s.toSenseState := rfl
@[simp] theorem State.wr_toHostState (r : RegId) (v : Word) : (s.wr r v).toHostState = s.toHostState := rfl

@[simp] theorem State.put_pending (r : RegId) (f : Fld) (v : Nat) : (s.put r f v).pending = s.pending := rfl
@[simp] theorem State.put_resp (r : RegId) (f : Fld) (v : Nat) : (s.put r f v).resp = s.resp := rfl
@[simp] theorem State.put_draw (r : RegId) (f : Fld) (v : Nat) : (s.put r f v).draw = s.draw := rfl
@[simp] theorem State.put_mem (r : RegId) (f : Fld) (v : Nat) : (s.put r f v).mem = s.mem := rfl
@[simp] theorem State.put_clk (r : RegId) (f : Fld) (v : Nat) : (s.put r f v).clk = s.clk := rfl
@[simp] theorem State.put_up (r : RegId) (f : Fld) (v : Nat) : (s.put r f v).up = s.up := rfl
@[simp] theorem State.put_frames (r : RegId) (f : Fld) (v : Nat) : (s.put r f v).frames = s.frames := rfl
@[simp] theorem State.put_ns (r : RegId) (f : Fld) (v : Nat) : (s.put r f v).ns = s.ns := rfl
@[simp] theorem State.put_snaps (r : RegId) (f : Fld) (v : Nat) : (s.put r f v).snaps = s.snaps := rfl
@[simp] theorem State.put_timers (r : RegId) (f : Fld) (v : Nat) : (s.put r f v).timers = s.timers := rfl
@[simp] theorem State.put_portA (r : RegId) (f : Fld) (v : Nat) : (s.put r f v).portA = s.portA := rfl
@[simp] theorem State.put_portB (r : RegId) (f : Fld) (v : Nat) : (s.put r f v).portB = s.portB := rfl
@[simp] theorem State.put_hostWrites (r : RegId) (f : Fld) (v : Nat) : (s.put r f v).hostWrites = s.hostWrites := rfl
@[simp] theorem State.put_sevOn (r : RegId) (f : Fld) (v : Nat) : (s.put r f v).sevOn = s.sevOn := rfl
@[simp] theorem State.put_fence (r : RegId) (f : Fld) (v : Nat) : (s.put r f v).fence = s.fence := rfl
@[simp] theorem State.put_safe (r : RegId) (f : Fld) (v : Nat) : (s.put r f v).safe = s.safe := rfl
@[simp] theorem State.put_due (r : RegId) (f : Fld) (v : Nat) : (s.put r f v).due = s.due := rfl
@[simp] theorem State.put_pwr (r : RegId) (f : Fld) (v : Nat) : (s.put r f v).pwr = s.pwr := rfl
@[simp] theorem State.put_rstLow (r : RegId) (f : Fld) (v : Nat) : (s.put r f v).rstLow = s.rstLow := rfl
@[simp] theorem State.put_rstHeld (r : RegId) (f : Fld) (v : Nat) : (s.put r f v).rstHeld = s.rstHeld := rfl
@[simp] theorem State.put_warm (r : RegId) (f : Fld) (v : Nat) : (s.put r f v).warm = s.warm := rfl
@[simp] theorem State.put_oscIn (r : RegId) (f : Fld) (v : Nat) : (s.put r f v).oscIn = s.oscIn := rfl
@[simp] theorem State.put_lead (r : RegId) (f : Fld) (v : Nat) : (s.put r f v).lead = s.lead := rfl
@[simp] theorem State.put_upStart (r : RegId) (f : Fld) (v : Nat) : (s.put r f v).upStart = s.upStart := rfl
@[simp] theorem State.put_load (r : RegId) (f : Fld) (v : Nat) : (s.put r f v).load = s.load := rfl
@[simp] theorem State.put_applying (r : RegId) (f : Fld) (v : Nat) : (s.put r f v).applying = s.applying := rfl
@[simp] theorem State.put_fullActive (r : RegId) (f : Fld) (v : Nat) : (s.put r f v).fullActive = s.fullActive := rfl
@[simp] theorem State.put_rgFailed (r : RegId) (f : Fld) (v : Nat) : (s.put r f v).rgFailed = s.rgFailed := rfl
@[simp] theorem State.put_pers (r : RegId) (f : Fld) (v : Nat) : (s.put r f v).pers = s.pers := rfl
@[simp] theorem State.put_eqPreset (r : RegId) (f : Fld) (v : Nat) : (s.put r f v).eqPreset = s.eqPreset := rfl
@[simp] theorem State.put_depth (r : RegId) (f : Fld) (v : Nat) : (s.put r f v).depth = s.depth := rfl
@[simp] theorem State.put_dram (r : RegId) (f : Fld) (v : Nat) : (s.put r f v).dram = s.dram := rfl
@[simp] theorem State.put_wbDefault (r : RegId) (f : Fld) (v : Nat) : (s.put r f v).wbDefault = s.wbDefault := rfl
@[simp] theorem State.put_rbForced (r : RegId) (f : Fld) (v : Nat) : (s.put r f v).rbForced = s.rbForced := rfl
@[simp] theorem State.put_fullForced (r : RegId) (f : Fld) (v : Nat) : (s.put r f v).fullForced = s.fullForced := rfl
@[simp] theorem State.put_unretire (r : RegId) (f : Fld) (v : Nat) : (s.put r f v).unretire = s.unretire := rfl
@[simp] theorem State.put_dramBad (r : RegId) (f : Fld) (v : Nat) : (s.put r f v).dramBad = s.dramBad := rfl
@[simp] theorem State.put_dramTrained (r : RegId) (f : Fld) (v : Nat) : (s.put r f v).dramTrained = s.dramTrained := rfl
@[simp] theorem State.put_actMap (r : RegId) (f : Fld) (v : Nat) : (s.put r f v).actMap = s.actMap := rfl
@[simp] theorem State.put_merges (r : RegId) (f : Fld) (v : Nat) : (s.put r f v).merges = s.merges := rfl
@[simp] theorem State.put_txns (r : RegId) (f : Fld) (v : Nat) : (s.put r f v).txns = s.txns := rfl
@[simp] theorem State.put_hitAis (r : RegId) (f : Fld) (v : Nat) : (s.put r f v).hitAis = s.hitAis := rfl
@[simp] theorem State.put_unionHold (r : RegId) (f : Fld) (v : Nat) : (s.put r f v).unionHold = s.unionHold := rfl
@[simp] theorem State.put_mapDiag (r : RegId) (f : Fld) (v : Nat) : (s.put r f v).mapDiag = s.mapDiag := rfl
@[simp] theorem State.put_syncing (r : RegId) (f : Fld) (v : Nat) : (s.put r f v).syncing = s.syncing := rfl
@[simp] theorem State.put_mateOut (r : RegId) (f : Fld) (v : Nat) : (s.put r f v).mateOut = s.mateOut := rfl
@[simp] theorem State.put_sievePos (r : RegId) (f : Fld) (v : Nat) : (s.put r f v).sievePos = s.sievePos := rfl
@[simp] theorem State.put_wbNew (r : RegId) (f : Fld) (v : Nat) : (s.put r f v).wbNew = s.wbNew := rfl
@[simp] theorem State.put_wbWait (r : RegId) (f : Fld) (v : Nat) : (s.put r f v).wbWait = s.wbWait := rfl
@[simp] theorem State.put_wbLast (r : RegId) (f : Fld) (v : Nat) : (s.put r f v).wbLast = s.wbLast := rfl
@[simp] theorem State.put_wbReturning (r : RegId) (f : Fld) (v : Nat) : (s.put r f v).wbReturning = s.wbReturning := rfl
@[simp] theorem State.put_mxOut (r : RegId) (f : Fld) (v : Nat) : (s.put r f v).mxOut = s.mxOut := rfl
@[simp] theorem State.put_mxWait (r : RegId) (f : Fld) (v : Nat) : (s.put r f v).mxWait = s.mxWait := rfl
@[simp] theorem State.put_msp (r : RegId) (f : Fld) (v : Nat) : (s.put r f v).msp = s.msp := rfl
@[simp] theorem State.put_snc (r : RegId) (f : Fld) (v : Nat) : (s.put r f v).snc = s.snc := rfl
@[simp] theorem State.put_sncLog (r : RegId) (f : Fld) (v : Nat) : (s.put r f v).sncLog = s.sncLog := rfl
@[simp] theorem State.put_sncLost (r : RegId) (f : Fld) (v : Nat) : (s.put r f v).sncLost = s.sncLost := rfl
@[simp] theorem State.put_sncStored (r : RegId) (f : Fld) (v : Nat) : (s.put r f v).sncStored = s.sncStored := rfl
@[simp] theorem State.put_pm (r : RegId) (f : Fld) (v : Nat) : (s.put r f v).pm = s.pm := rfl
@[simp] theorem State.put_pmAuto (r : RegId) (f : Fld) (v : Nat) : (s.put r f v).pmAuto = s.pmAuto := rfl
@[simp] theorem State.put_pmAutoCfg (r : RegId) (f : Fld) (v : Nat) : (s.put r f v).pmAutoCfg = s.pmAutoCfg := rfl
@[simp] theorem State.put_pmOfs (r : RegId) (f : Fld) (v : Nat) : (s.put r f v).pmOfs = s.pmOfs := rfl
@[simp] theorem State.put_pmDue (r : RegId) (f : Fld) (v : Nat) : (s.put r f v).pmDue = s.pmDue := rfl
@[simp] theorem State.put_pmQ (r : RegId) (f : Fld) (v : Nat) : (s.put r f v).pmQ = s.pmQ := rfl
@[simp] theorem State.put_pmClose (r : RegId) (f : Fld) (v : Nat) : (s.put r f v).pmClose = s.pmClose := rfl
@[simp] theorem State.put_tcaLog (r : RegId) (f : Fld) (v : Nat) : (s.put r f v).tcaLog = s.tcaLog := rfl
@[simp] theorem State.put_tcaLost (r : RegId) (f : Fld) (v : Nat) : (s.put r f v).tcaLost = s.tcaLost := rfl
@[simp] theorem State.put_tcaStored (r : RegId) (f : Fld) (v : Nat) : (s.put r f v).tcaStored = s.tcaStored := rfl
@[simp] theorem State.put_sec (r : RegId) (f : Fld) (v : Nat) : (s.put r f v).sec = s.sec := rfl
@[simp] theorem State.put_lineOut (r : RegId) (f : Fld) (v : Nat) : (s.put r f v).lineOut = s.lineOut := rfl
@[simp] theorem State.put_paths (r : RegId) (f : Fld) (v : Nat) : (s.put r f v).paths = s.paths := rfl
@[simp] theorem State.put_structW0 (r : RegId) (f : Fld) (v : Nat) : (s.put r f v).structW0 = s.structW0 := rfl
@[simp] theorem State.put_structPend (r : RegId) (f : Fld) (v : Nat) : (s.put r f v).structPend = s.structPend := rfl
@[simp] theorem State.put_gens (r : RegId) (f : Fld) (v : Nat) : (s.put r f v).gens = s.gens := rfl
@[simp] theorem State.put_hoB3 (r : RegId) (f : Fld) (v : Nat) : (s.put r f v).hoB3 = s.hoB3 := rfl
@[simp] theorem State.put_pathInd (r : RegId) (f : Fld) (v : Nat) : (s.put r f v).pathInd = s.pathInd := rfl
@[simp] theorem State.put_jrnDirty (r : RegId) (f : Fld) (v : Nat) : (s.put r f v).jrnDirty = s.jrnDirty := rfl
@[simp] theorem State.put_jrnLoss (r : RegId) (f : Fld) (v : Nat) : (s.put r f v).jrnLoss = s.jrnLoss := rfl
@[simp] theorem State.put_jrnStage (r : RegId) (f : Fld) (v : Nat) : (s.put r f v).jrnStage = s.jrnStage := rfl
@[simp] theorem State.put_slabs (r : RegId) (f : Fld) (v : Nat) : (s.put r f v).slabs = s.slabs := rfl
@[simp] theorem State.put_spareOn (r : RegId) (f : Fld) (v : Nat) : (s.put r f v).spareOn = s.spareOn := rfl
@[simp] theorem State.put_spareLast (r : RegId) (f : Fld) (v : Nat) : (s.put r f v).spareLast = s.spareLast := rfl
@[simp] theorem State.put_slabDiag (r : RegId) (f : Fld) (v : Nat) : (s.put r f v).slabDiag = s.slabDiag := rfl
@[simp] theorem State.put_txGrains (r : RegId) (f : Fld) (v : Nat) : (s.put r f v).txGrains = s.txGrains := rfl
@[simp] theorem State.put_txMarks (r : RegId) (f : Fld) (v : Nat) : (s.put r f v).txMarks = s.txMarks := rfl
@[simp] theorem State.put_fabric (r : RegId) (f : Fld) (v : Nat) : (s.put r f v).fabric = s.fabric := rfl
@[simp] theorem State.put_tg (r : RegId) (f : Fld) (v : Nat) : (s.put r f v).tg = s.tg := rfl
@[simp] theorem State.put_grps (r : RegId) (f : Fld) (v : Nat) : (s.put r f v).grps = s.grps := rfl
@[simp] theorem State.put_grpGone (r : RegId) (f : Fld) (v : Nat) : (s.put r f v).grpGone = s.grpGone := rfl
@[simp] theorem State.put_grpDirty (r : RegId) (f : Fld) (v : Nat) : (s.put r f v).grpDirty = s.grpDirty := rfl
@[simp] theorem State.put_deskew (r : RegId) (f : Fld) (v : Nat) : (s.put r f v).deskew = s.deskew := rfl
@[simp] theorem State.put_refEff (r : RegId) (f : Fld) (v : Nat) : (s.put r f v).refEff = s.refEff := rfl
@[simp] theorem State.put_refS1 (r : RegId) (f : Fld) (v : Nat) : (s.put r f v).refS1 = s.refS1 := rfl
@[simp] theorem State.put_mainHold (r : RegId) (f : Fld) (v : Nat) : (s.put r f v).mainHold = s.mainHold := rfl
@[simp] theorem State.put_mainCmdIn (r : RegId) (f : Fld) (v : Nat) : (s.put r f v).mainCmdIn = s.mainCmdIn := rfl
@[simp] theorem State.put_hist (r : RegId) (f : Fld) (v : Nat) : (s.put r f v).hist = s.hist := rfl
@[simp] theorem State.put_histRun (r : RegId) (f : Fld) (v : Nat) : (s.put r f v).histRun = s.histRun := rfl
@[simp] theorem State.put_s1Out (r : RegId) (f : Fld) (v : Nat) : (s.put r f v).s1Out = s.s1Out := rfl
@[simp] theorem State.put_s1Next (r : RegId) (f : Fld) (v : Nat) : (s.put r f v).s1Next = s.s1Next := rfl
@[simp] theorem State.put_mateS1 (r : RegId) (f : Fld) (v : Nat) : (s.put r f v).mateS1 = s.mateS1 := rfl
@[simp] theorem State.put_syncLast (r : RegId) (f : Fld) (v : Nat) : (s.put r f v).syncLast = s.syncLast := rfl
@[simp] theorem State.put_syncOk (r : RegId) (f : Fld) (v : Nat) : (s.put r f v).syncOk = s.syncOk := rfl
@[simp] theorem State.put_syncOut (r : RegId) (f : Fld) (v : Nat) : (s.put r f v).syncOut = s.syncOut := rfl
@[simp] theorem State.put_secUp (r : RegId) (f : Fld) (v : Nat) : (s.put r f v).secUp = s.secUp := rfl
@[simp] theorem State.put_drive (r : RegId) (f : Fld) (v : Nat) : (s.put r f v).drive = s.drive := rfl
@[simp] theorem State.put_driveAt (r : RegId) (f : Fld) (v : Nat) : (s.put r f v).driveAt = s.driveAt := rfl
@[simp] theorem State.put_arbLow (r : RegId) (f : Fld) (v : Nat) : (s.put r f v).arbLow = s.arbLow := rfl
@[simp] theorem State.put_hoWaited (r : RegId) (f : Fld) (v : Nat) : (s.put r f v).hoWaited = s.hoWaited := rfl
@[simp] theorem State.put_yokeMate (r : RegId) (f : Fld) (v : Nat) : (s.put r f v).yokeMate = s.yokeMate := rfl
@[simp] theorem State.put_mateTx (r : RegId) (f : Fld) (v : Nat) : (s.put r f v).mateTx = s.mateTx := rfl
@[simp] theorem State.put_shadowRx (r : RegId) (f : Fld) (v : Nat) : (s.put r f v).shadowRx = s.shadowRx := rfl
@[simp] theorem State.put_hoTake (r : RegId) (f : Fld) (v : Nat) : (s.put r f v).hoTake = s.hoTake := rfl
@[simp] theorem State.put_hoAgreed (r : RegId) (f : Fld) (v : Nat) : (s.put r f v).hoAgreed = s.hoAgreed := rfl
@[simp] theorem State.put_hoDone (r : RegId) (f : Fld) (v : Nat) : (s.put r f v).hoDone = s.hoDone := rfl
@[simp] theorem State.put_hoOp (r : RegId) (f : Fld) (v : Nat) : (s.put r f v).hoOp = s.hoOp := rfl
@[simp] theorem State.put_mateBad (r : RegId) (f : Fld) (v : Nat) : (s.put r f v).mateBad = s.mateBad := rfl
@[simp] theorem State.put_mateIdle (r : RegId) (f : Fld) (v : Nat) : (s.put r f v).mateIdle = s.mateIdle := rfl
@[simp] theorem State.put_bothAct (r : RegId) (f : Fld) (v : Nat) : (s.put r f v).bothAct = s.bothAct := rfl
@[simp] theorem State.put_bothSel (r : RegId) (f : Fld) (v : Nat) : (s.put r f v).bothSel = s.bothSel := rfl
@[simp] theorem State.put_mateShadow (r : RegId) (f : Fld) (v : Nat) : (s.put r f v).mateShadow = s.mateShadow := rfl
@[simp] theorem State.put_theta (r : RegId) (f : Fld) (v : Nat) : (s.put r f v).theta = s.theta := rfl
@[simp] theorem State.put_shadow (r : RegId) (f : Fld) (v : Nat) : (s.put r f v).shadow = s.shadow := rfl
@[simp] theorem State.put_skJobs (r : RegId) (f : Fld) (v : Nat) : (s.put r f v).skJobs = s.skJobs := rfl
@[simp] theorem State.put_skFetch (r : RegId) (f : Fld) (v : Nat) : (s.put r f v).skFetch = s.skFetch := rfl
@[simp] theorem State.put_prbs (r : RegId) (f : Fld) (v : Nat) : (s.put r f v).prbs = s.prbs := rfl
@[simp] theorem State.put_prbsDirty (r : RegId) (f : Fld) (v : Nat) : (s.put r f v).prbsDirty = s.prbsDirty := rfl
@[simp] theorem State.put_pourJobs (r : RegId) (f : Fld) (v : Nat) : (s.put r f v).pourJobs = s.pourJobs := rfl
@[simp] theorem State.put_pourFetch (r : RegId) (f : Fld) (v : Nat) : (s.put r f v).pourFetch = s.pourFetch := rfl
@[simp] theorem State.put_calStore (r : RegId) (f : Fld) (v : Nat) : (s.put r f v).calStore = s.calStore := rfl
@[simp] theorem State.put_calStage (r : RegId) (f : Fld) (v : Nat) : (s.put r f v).calStage = s.calStage := rfl
@[simp] theorem State.put_calRun (r : RegId) (f : Fld) (v : Nat) : (s.put r f v).calRun = s.calRun := rfl
@[simp] theorem State.put_calParts (r : RegId) (f : Fld) (v : Nat) : (s.put r f v).calParts = s.calParts := rfl
@[simp] theorem State.put_calNew (r : RegId) (f : Fld) (v : Nat) : (s.put r f v).calNew = s.calNew := rfl
@[simp] theorem State.put_calBoot (r : RegId) (f : Fld) (v : Nat) : (s.put r f v).calBoot = s.calBoot := rfl
@[simp] theorem State.put_eqSet (r : RegId) (f : Fld) (v : Nat) : (s.put r f v).eqSet = s.eqSet := rfl
@[simp] theorem State.put_temps (r : RegId) (f : Fld) (v : Nat) : (s.put r f v).temps = s.temps := rfl
@[simp] theorem State.put_volt (r : RegId) (f : Fld) (v : Nat) : (s.put r f v).volt = s.volt := rfl
@[simp] theorem State.put_aged (r : RegId) (f : Fld) (v : Nat) : (s.put r f v).aged = s.aged := rfl
@[simp] theorem State.put_trim (r : RegId) (f : Fld) (v : Nat) : (s.put r f v).trim = s.trim := rfl
@[simp] theorem State.put_trace (r : RegId) (f : Fld) (v : Nat) : (s.put r f v).trace = s.trace := rfl
@[simp] theorem State.put_serdesBad (r : RegId) (f : Fld) (v : Nat) : (s.put r f v).serdesBad = s.serdesBad := rfl
@[simp] theorem State.put_perstLow (r : RegId) (f : Fld) (v : Nat) : (s.put r f v).perstLow = s.perstLow := rfl
@[simp] theorem State.put_spiLog (r : RegId) (f : Fld) (v : Nat) : (s.put r f v).spiLog = s.spiLog := rfl
@[simp] theorem State.put_spiRun (r : RegId) (f : Fld) (v : Nat) : (s.put r f v).spiRun = s.spiRun := rfl
@[simp] theorem State.put_hkNext (r : RegId) (f : Fld) (v : Nat) : (s.put r f v).hkNext = s.hkNext := rfl
@[simp] theorem State.put_hkFrom (r : RegId) (f : Fld) (v : Nat) : (s.put r f v).hkFrom = s.hkFrom := rfl
@[simp] theorem State.put_hkAsk (r : RegId) (f : Fld) (v : Nat) : (s.put r f v).hkAsk = s.hkAsk := rfl
@[simp] theorem State.put_firstClk (r : RegId) (f : Fld) (v : Nat) : (s.put r f v).firstClk = s.firstClk := rfl
@[simp] theorem State.put_smbPtr (r : RegId) (f : Fld) (v : Nat) : (s.put r f v).smbPtr = s.smbPtr := rfl
@[simp] theorem State.put_tapIr (r : RegId) (f : Fld) (v : Nat) : (s.put r f v).tapIr = s.tapIr := rfl
@[simp] theorem State.put_tapIrOut (r : RegId) (f : Fld) (v : Nat) : (s.put r f v).tapIrOut = s.tapIrOut := rfl
@[simp] theorem State.put_scan (r : RegId) (f : Fld) (v : Nat) : (s.put r f v).scan = s.scan := rfl
@[simp] theorem State.put_toPowerState (r : RegId) (f : Fld) (v : Nat) : (s.put r f v).toPowerState = s.toPowerState := rfl
@[simp] theorem State.put_toBenchState (r : RegId) (f : Fld) (v : Nat) : (s.put r f v).toBenchState = s.toBenchState := rfl
@[simp] theorem State.put_toMapState (r : RegId) (f : Fld) (v : Nat) : (s.put r f v).toMapState = s.toMapState := rfl
@[simp] theorem State.put_toBankState (r : RegId) (f : Fld) (v : Nat) : (s.put r f v).toBankState = s.toBankState := rfl
@[simp] theorem State.put_toProtState (r : RegId) (f : Fld) (v : Nat) : (s.put r f v).toProtState = s.toProtState := rfl
@[simp] theorem State.put_toPmState (r : RegId) (f : Fld) (v : Nat) : (s.put r f v).toPmState = s.toPmState := rfl
@[simp] theorem State.put_toLineState (r : RegId) (f : Fld) (v : Nat) : (s.put r f v).toLineState = s.toLineState := rfl
@[simp] theorem State.put_toStoreState (r : RegId) (f : Fld) (v : Nat) : (s.put r f v).toStoreState = s.toStoreState := rfl
@[simp] theorem State.put_toGroupState (r : RegId) (f : Fld) (v : Nat) : (s.put r f v).toGroupState = s.toGroupState := rfl
@[simp] theorem State.put_toTimeState (r : RegId) (f : Fld) (v : Nat) : (s.put r f v).toTimeState = s.toTimeState := rfl
@[simp] theorem State.put_toPairState (r : RegId) (f : Fld) (v : Nat) : (s.put r f v).toPairState = s.toPairState := rfl
@[simp] theorem State.put_toSkimState (r : RegId) (f : Fld) (v : Nat) : (s.put r f v).toSkimState = s.toSkimState := rfl
@[simp] theorem State.put_toSenseState (r : RegId) (f : Fld) (v : Nat) : (s.put r f v).toSenseState = s.toSenseState := rfl
@[simp] theorem State.put_toHostState (r : RegId) (f : Fld) (v : Nat) : (s.put r f v).toHostState = s.toHostState := rfl

@[simp] theorem State.setBit_pending (r : RegId) (i : Nat) : (s.setBit r i).pending = s.pending := rfl
@[simp] theorem State.setBit_resp (r : RegId) (i : Nat) : (s.setBit r i).resp = s.resp := rfl
@[simp] theorem State.setBit_draw (r : RegId) (i : Nat) : (s.setBit r i).draw = s.draw := rfl
@[simp] theorem State.setBit_mem (r : RegId) (i : Nat) : (s.setBit r i).mem = s.mem := rfl
@[simp] theorem State.setBit_clk (r : RegId) (i : Nat) : (s.setBit r i).clk = s.clk := rfl
@[simp] theorem State.setBit_up (r : RegId) (i : Nat) : (s.setBit r i).up = s.up := rfl
@[simp] theorem State.setBit_frames (r : RegId) (i : Nat) : (s.setBit r i).frames = s.frames := rfl
@[simp] theorem State.setBit_ns (r : RegId) (i : Nat) : (s.setBit r i).ns = s.ns := rfl
@[simp] theorem State.setBit_snaps (r : RegId) (i : Nat) : (s.setBit r i).snaps = s.snaps := rfl
@[simp] theorem State.setBit_timers (r : RegId) (i : Nat) : (s.setBit r i).timers = s.timers := rfl
@[simp] theorem State.setBit_portA (r : RegId) (i : Nat) : (s.setBit r i).portA = s.portA := rfl
@[simp] theorem State.setBit_portB (r : RegId) (i : Nat) : (s.setBit r i).portB = s.portB := rfl
@[simp] theorem State.setBit_hostWrites (r : RegId) (i : Nat) : (s.setBit r i).hostWrites = s.hostWrites := rfl
@[simp] theorem State.setBit_sevOn (r : RegId) (i : Nat) : (s.setBit r i).sevOn = s.sevOn := rfl
@[simp] theorem State.setBit_fence (r : RegId) (i : Nat) : (s.setBit r i).fence = s.fence := rfl
@[simp] theorem State.setBit_safe (r : RegId) (i : Nat) : (s.setBit r i).safe = s.safe := rfl
@[simp] theorem State.setBit_due (r : RegId) (i : Nat) : (s.setBit r i).due = s.due := rfl
@[simp] theorem State.setBit_pwr (r : RegId) (i : Nat) : (s.setBit r i).pwr = s.pwr := rfl
@[simp] theorem State.setBit_rstLow (r : RegId) (i : Nat) : (s.setBit r i).rstLow = s.rstLow := rfl
@[simp] theorem State.setBit_rstHeld (r : RegId) (i : Nat) : (s.setBit r i).rstHeld = s.rstHeld := rfl
@[simp] theorem State.setBit_warm (r : RegId) (i : Nat) : (s.setBit r i).warm = s.warm := rfl
@[simp] theorem State.setBit_oscIn (r : RegId) (i : Nat) : (s.setBit r i).oscIn = s.oscIn := rfl
@[simp] theorem State.setBit_lead (r : RegId) (i : Nat) : (s.setBit r i).lead = s.lead := rfl
@[simp] theorem State.setBit_upStart (r : RegId) (i : Nat) : (s.setBit r i).upStart = s.upStart := rfl
@[simp] theorem State.setBit_load (r : RegId) (i : Nat) : (s.setBit r i).load = s.load := rfl
@[simp] theorem State.setBit_applying (r : RegId) (i : Nat) : (s.setBit r i).applying = s.applying := rfl
@[simp] theorem State.setBit_fullActive (r : RegId) (i : Nat) : (s.setBit r i).fullActive = s.fullActive := rfl
@[simp] theorem State.setBit_rgFailed (r : RegId) (i : Nat) : (s.setBit r i).rgFailed = s.rgFailed := rfl
@[simp] theorem State.setBit_pers (r : RegId) (i : Nat) : (s.setBit r i).pers = s.pers := rfl
@[simp] theorem State.setBit_eqPreset (r : RegId) (i : Nat) : (s.setBit r i).eqPreset = s.eqPreset := rfl
@[simp] theorem State.setBit_depth (r : RegId) (i : Nat) : (s.setBit r i).depth = s.depth := rfl
@[simp] theorem State.setBit_dram (r : RegId) (i : Nat) : (s.setBit r i).dram = s.dram := rfl
@[simp] theorem State.setBit_wbDefault (r : RegId) (i : Nat) : (s.setBit r i).wbDefault = s.wbDefault := rfl
@[simp] theorem State.setBit_rbForced (r : RegId) (i : Nat) : (s.setBit r i).rbForced = s.rbForced := rfl
@[simp] theorem State.setBit_fullForced (r : RegId) (i : Nat) : (s.setBit r i).fullForced = s.fullForced := rfl
@[simp] theorem State.setBit_unretire (r : RegId) (i : Nat) : (s.setBit r i).unretire = s.unretire := rfl
@[simp] theorem State.setBit_dramBad (r : RegId) (i : Nat) : (s.setBit r i).dramBad = s.dramBad := rfl
@[simp] theorem State.setBit_dramTrained (r : RegId) (i : Nat) : (s.setBit r i).dramTrained = s.dramTrained := rfl
@[simp] theorem State.setBit_actMap (r : RegId) (i : Nat) : (s.setBit r i).actMap = s.actMap := rfl
@[simp] theorem State.setBit_merges (r : RegId) (i : Nat) : (s.setBit r i).merges = s.merges := rfl
@[simp] theorem State.setBit_txns (r : RegId) (i : Nat) : (s.setBit r i).txns = s.txns := rfl
@[simp] theorem State.setBit_hitAis (r : RegId) (i : Nat) : (s.setBit r i).hitAis = s.hitAis := rfl
@[simp] theorem State.setBit_unionHold (r : RegId) (i : Nat) : (s.setBit r i).unionHold = s.unionHold := rfl
@[simp] theorem State.setBit_mapDiag (r : RegId) (i : Nat) : (s.setBit r i).mapDiag = s.mapDiag := rfl
@[simp] theorem State.setBit_syncing (r : RegId) (i : Nat) : (s.setBit r i).syncing = s.syncing := rfl
@[simp] theorem State.setBit_mateOut (r : RegId) (i : Nat) : (s.setBit r i).mateOut = s.mateOut := rfl
@[simp] theorem State.setBit_sievePos (r : RegId) (i : Nat) : (s.setBit r i).sievePos = s.sievePos := rfl
@[simp] theorem State.setBit_wbNew (r : RegId) (i : Nat) : (s.setBit r i).wbNew = s.wbNew := rfl
@[simp] theorem State.setBit_wbWait (r : RegId) (i : Nat) : (s.setBit r i).wbWait = s.wbWait := rfl
@[simp] theorem State.setBit_wbLast (r : RegId) (i : Nat) : (s.setBit r i).wbLast = s.wbLast := rfl
@[simp] theorem State.setBit_wbReturning (r : RegId) (i : Nat) : (s.setBit r i).wbReturning = s.wbReturning := rfl
@[simp] theorem State.setBit_mxOut (r : RegId) (i : Nat) : (s.setBit r i).mxOut = s.mxOut := rfl
@[simp] theorem State.setBit_mxWait (r : RegId) (i : Nat) : (s.setBit r i).mxWait = s.mxWait := rfl
@[simp] theorem State.setBit_msp (r : RegId) (i : Nat) : (s.setBit r i).msp = s.msp := rfl
@[simp] theorem State.setBit_snc (r : RegId) (i : Nat) : (s.setBit r i).snc = s.snc := rfl
@[simp] theorem State.setBit_sncLog (r : RegId) (i : Nat) : (s.setBit r i).sncLog = s.sncLog := rfl
@[simp] theorem State.setBit_sncLost (r : RegId) (i : Nat) : (s.setBit r i).sncLost = s.sncLost := rfl
@[simp] theorem State.setBit_sncStored (r : RegId) (i : Nat) : (s.setBit r i).sncStored = s.sncStored := rfl
@[simp] theorem State.setBit_pm (r : RegId) (i : Nat) : (s.setBit r i).pm = s.pm := rfl
@[simp] theorem State.setBit_pmAuto (r : RegId) (i : Nat) : (s.setBit r i).pmAuto = s.pmAuto := rfl
@[simp] theorem State.setBit_pmAutoCfg (r : RegId) (i : Nat) : (s.setBit r i).pmAutoCfg = s.pmAutoCfg := rfl
@[simp] theorem State.setBit_pmOfs (r : RegId) (i : Nat) : (s.setBit r i).pmOfs = s.pmOfs := rfl
@[simp] theorem State.setBit_pmDue (r : RegId) (i : Nat) : (s.setBit r i).pmDue = s.pmDue := rfl
@[simp] theorem State.setBit_pmQ (r : RegId) (i : Nat) : (s.setBit r i).pmQ = s.pmQ := rfl
@[simp] theorem State.setBit_pmClose (r : RegId) (i : Nat) : (s.setBit r i).pmClose = s.pmClose := rfl
@[simp] theorem State.setBit_tcaLog (r : RegId) (i : Nat) : (s.setBit r i).tcaLog = s.tcaLog := rfl
@[simp] theorem State.setBit_tcaLost (r : RegId) (i : Nat) : (s.setBit r i).tcaLost = s.tcaLost := rfl
@[simp] theorem State.setBit_tcaStored (r : RegId) (i : Nat) : (s.setBit r i).tcaStored = s.tcaStored := rfl
@[simp] theorem State.setBit_sec (r : RegId) (i : Nat) : (s.setBit r i).sec = s.sec := rfl
@[simp] theorem State.setBit_lineOut (r : RegId) (i : Nat) : (s.setBit r i).lineOut = s.lineOut := rfl
@[simp] theorem State.setBit_paths (r : RegId) (i : Nat) : (s.setBit r i).paths = s.paths := rfl
@[simp] theorem State.setBit_structW0 (r : RegId) (i : Nat) : (s.setBit r i).structW0 = s.structW0 := rfl
@[simp] theorem State.setBit_structPend (r : RegId) (i : Nat) : (s.setBit r i).structPend = s.structPend := rfl
@[simp] theorem State.setBit_gens (r : RegId) (i : Nat) : (s.setBit r i).gens = s.gens := rfl
@[simp] theorem State.setBit_hoB3 (r : RegId) (i : Nat) : (s.setBit r i).hoB3 = s.hoB3 := rfl
@[simp] theorem State.setBit_pathInd (r : RegId) (i : Nat) : (s.setBit r i).pathInd = s.pathInd := rfl
@[simp] theorem State.setBit_jrnDirty (r : RegId) (i : Nat) : (s.setBit r i).jrnDirty = s.jrnDirty := rfl
@[simp] theorem State.setBit_jrnLoss (r : RegId) (i : Nat) : (s.setBit r i).jrnLoss = s.jrnLoss := rfl
@[simp] theorem State.setBit_jrnStage (r : RegId) (i : Nat) : (s.setBit r i).jrnStage = s.jrnStage := rfl
@[simp] theorem State.setBit_slabs (r : RegId) (i : Nat) : (s.setBit r i).slabs = s.slabs := rfl
@[simp] theorem State.setBit_spareOn (r : RegId) (i : Nat) : (s.setBit r i).spareOn = s.spareOn := rfl
@[simp] theorem State.setBit_spareLast (r : RegId) (i : Nat) : (s.setBit r i).spareLast = s.spareLast := rfl
@[simp] theorem State.setBit_slabDiag (r : RegId) (i : Nat) : (s.setBit r i).slabDiag = s.slabDiag := rfl
@[simp] theorem State.setBit_txGrains (r : RegId) (i : Nat) : (s.setBit r i).txGrains = s.txGrains := rfl
@[simp] theorem State.setBit_txMarks (r : RegId) (i : Nat) : (s.setBit r i).txMarks = s.txMarks := rfl
@[simp] theorem State.setBit_fabric (r : RegId) (i : Nat) : (s.setBit r i).fabric = s.fabric := rfl
@[simp] theorem State.setBit_tg (r : RegId) (i : Nat) : (s.setBit r i).tg = s.tg := rfl
@[simp] theorem State.setBit_grps (r : RegId) (i : Nat) : (s.setBit r i).grps = s.grps := rfl
@[simp] theorem State.setBit_grpGone (r : RegId) (i : Nat) : (s.setBit r i).grpGone = s.grpGone := rfl
@[simp] theorem State.setBit_grpDirty (r : RegId) (i : Nat) : (s.setBit r i).grpDirty = s.grpDirty := rfl
@[simp] theorem State.setBit_deskew (r : RegId) (i : Nat) : (s.setBit r i).deskew = s.deskew := rfl
@[simp] theorem State.setBit_refEff (r : RegId) (i : Nat) : (s.setBit r i).refEff = s.refEff := rfl
@[simp] theorem State.setBit_refS1 (r : RegId) (i : Nat) : (s.setBit r i).refS1 = s.refS1 := rfl
@[simp] theorem State.setBit_mainHold (r : RegId) (i : Nat) : (s.setBit r i).mainHold = s.mainHold := rfl
@[simp] theorem State.setBit_mainCmdIn (r : RegId) (i : Nat) : (s.setBit r i).mainCmdIn = s.mainCmdIn := rfl
@[simp] theorem State.setBit_hist (r : RegId) (i : Nat) : (s.setBit r i).hist = s.hist := rfl
@[simp] theorem State.setBit_histRun (r : RegId) (i : Nat) : (s.setBit r i).histRun = s.histRun := rfl
@[simp] theorem State.setBit_s1Out (r : RegId) (i : Nat) : (s.setBit r i).s1Out = s.s1Out := rfl
@[simp] theorem State.setBit_s1Next (r : RegId) (i : Nat) : (s.setBit r i).s1Next = s.s1Next := rfl
@[simp] theorem State.setBit_mateS1 (r : RegId) (i : Nat) : (s.setBit r i).mateS1 = s.mateS1 := rfl
@[simp] theorem State.setBit_syncLast (r : RegId) (i : Nat) : (s.setBit r i).syncLast = s.syncLast := rfl
@[simp] theorem State.setBit_syncOk (r : RegId) (i : Nat) : (s.setBit r i).syncOk = s.syncOk := rfl
@[simp] theorem State.setBit_syncOut (r : RegId) (i : Nat) : (s.setBit r i).syncOut = s.syncOut := rfl
@[simp] theorem State.setBit_secUp (r : RegId) (i : Nat) : (s.setBit r i).secUp = s.secUp := rfl
@[simp] theorem State.setBit_drive (r : RegId) (i : Nat) : (s.setBit r i).drive = s.drive := rfl
@[simp] theorem State.setBit_driveAt (r : RegId) (i : Nat) : (s.setBit r i).driveAt = s.driveAt := rfl
@[simp] theorem State.setBit_arbLow (r : RegId) (i : Nat) : (s.setBit r i).arbLow = s.arbLow := rfl
@[simp] theorem State.setBit_hoWaited (r : RegId) (i : Nat) : (s.setBit r i).hoWaited = s.hoWaited := rfl
@[simp] theorem State.setBit_yokeMate (r : RegId) (i : Nat) : (s.setBit r i).yokeMate = s.yokeMate := rfl
@[simp] theorem State.setBit_mateTx (r : RegId) (i : Nat) : (s.setBit r i).mateTx = s.mateTx := rfl
@[simp] theorem State.setBit_shadowRx (r : RegId) (i : Nat) : (s.setBit r i).shadowRx = s.shadowRx := rfl
@[simp] theorem State.setBit_hoTake (r : RegId) (i : Nat) : (s.setBit r i).hoTake = s.hoTake := rfl
@[simp] theorem State.setBit_hoAgreed (r : RegId) (i : Nat) : (s.setBit r i).hoAgreed = s.hoAgreed := rfl
@[simp] theorem State.setBit_hoDone (r : RegId) (i : Nat) : (s.setBit r i).hoDone = s.hoDone := rfl
@[simp] theorem State.setBit_hoOp (r : RegId) (i : Nat) : (s.setBit r i).hoOp = s.hoOp := rfl
@[simp] theorem State.setBit_mateBad (r : RegId) (i : Nat) : (s.setBit r i).mateBad = s.mateBad := rfl
@[simp] theorem State.setBit_mateIdle (r : RegId) (i : Nat) : (s.setBit r i).mateIdle = s.mateIdle := rfl
@[simp] theorem State.setBit_bothAct (r : RegId) (i : Nat) : (s.setBit r i).bothAct = s.bothAct := rfl
@[simp] theorem State.setBit_bothSel (r : RegId) (i : Nat) : (s.setBit r i).bothSel = s.bothSel := rfl
@[simp] theorem State.setBit_mateShadow (r : RegId) (i : Nat) : (s.setBit r i).mateShadow = s.mateShadow := rfl
@[simp] theorem State.setBit_theta (r : RegId) (i : Nat) : (s.setBit r i).theta = s.theta := rfl
@[simp] theorem State.setBit_shadow (r : RegId) (i : Nat) : (s.setBit r i).shadow = s.shadow := rfl
@[simp] theorem State.setBit_skJobs (r : RegId) (i : Nat) : (s.setBit r i).skJobs = s.skJobs := rfl
@[simp] theorem State.setBit_skFetch (r : RegId) (i : Nat) : (s.setBit r i).skFetch = s.skFetch := rfl
@[simp] theorem State.setBit_prbs (r : RegId) (i : Nat) : (s.setBit r i).prbs = s.prbs := rfl
@[simp] theorem State.setBit_prbsDirty (r : RegId) (i : Nat) : (s.setBit r i).prbsDirty = s.prbsDirty := rfl
@[simp] theorem State.setBit_pourJobs (r : RegId) (i : Nat) : (s.setBit r i).pourJobs = s.pourJobs := rfl
@[simp] theorem State.setBit_pourFetch (r : RegId) (i : Nat) : (s.setBit r i).pourFetch = s.pourFetch := rfl
@[simp] theorem State.setBit_calStore (r : RegId) (i : Nat) : (s.setBit r i).calStore = s.calStore := rfl
@[simp] theorem State.setBit_calStage (r : RegId) (i : Nat) : (s.setBit r i).calStage = s.calStage := rfl
@[simp] theorem State.setBit_calRun (r : RegId) (i : Nat) : (s.setBit r i).calRun = s.calRun := rfl
@[simp] theorem State.setBit_calParts (r : RegId) (i : Nat) : (s.setBit r i).calParts = s.calParts := rfl
@[simp] theorem State.setBit_calNew (r : RegId) (i : Nat) : (s.setBit r i).calNew = s.calNew := rfl
@[simp] theorem State.setBit_calBoot (r : RegId) (i : Nat) : (s.setBit r i).calBoot = s.calBoot := rfl
@[simp] theorem State.setBit_eqSet (r : RegId) (i : Nat) : (s.setBit r i).eqSet = s.eqSet := rfl
@[simp] theorem State.setBit_temps (r : RegId) (i : Nat) : (s.setBit r i).temps = s.temps := rfl
@[simp] theorem State.setBit_volt (r : RegId) (i : Nat) : (s.setBit r i).volt = s.volt := rfl
@[simp] theorem State.setBit_aged (r : RegId) (i : Nat) : (s.setBit r i).aged = s.aged := rfl
@[simp] theorem State.setBit_trim (r : RegId) (i : Nat) : (s.setBit r i).trim = s.trim := rfl
@[simp] theorem State.setBit_trace (r : RegId) (i : Nat) : (s.setBit r i).trace = s.trace := rfl
@[simp] theorem State.setBit_serdesBad (r : RegId) (i : Nat) : (s.setBit r i).serdesBad = s.serdesBad := rfl
@[simp] theorem State.setBit_perstLow (r : RegId) (i : Nat) : (s.setBit r i).perstLow = s.perstLow := rfl
@[simp] theorem State.setBit_spiLog (r : RegId) (i : Nat) : (s.setBit r i).spiLog = s.spiLog := rfl
@[simp] theorem State.setBit_spiRun (r : RegId) (i : Nat) : (s.setBit r i).spiRun = s.spiRun := rfl
@[simp] theorem State.setBit_hkNext (r : RegId) (i : Nat) : (s.setBit r i).hkNext = s.hkNext := rfl
@[simp] theorem State.setBit_hkFrom (r : RegId) (i : Nat) : (s.setBit r i).hkFrom = s.hkFrom := rfl
@[simp] theorem State.setBit_hkAsk (r : RegId) (i : Nat) : (s.setBit r i).hkAsk = s.hkAsk := rfl
@[simp] theorem State.setBit_firstClk (r : RegId) (i : Nat) : (s.setBit r i).firstClk = s.firstClk := rfl
@[simp] theorem State.setBit_smbPtr (r : RegId) (i : Nat) : (s.setBit r i).smbPtr = s.smbPtr := rfl
@[simp] theorem State.setBit_tapIr (r : RegId) (i : Nat) : (s.setBit r i).tapIr = s.tapIr := rfl
@[simp] theorem State.setBit_tapIrOut (r : RegId) (i : Nat) : (s.setBit r i).tapIrOut = s.tapIrOut := rfl
@[simp] theorem State.setBit_scan (r : RegId) (i : Nat) : (s.setBit r i).scan = s.scan := rfl
@[simp] theorem State.setBit_toPowerState (r : RegId) (i : Nat) : (s.setBit r i).toPowerState = s.toPowerState := rfl
@[simp] theorem State.setBit_toBenchState (r : RegId) (i : Nat) : (s.setBit r i).toBenchState = s.toBenchState := rfl
@[simp] theorem State.setBit_toMapState (r : RegId) (i : Nat) : (s.setBit r i).toMapState = s.toMapState := rfl
@[simp] theorem State.setBit_toBankState (r : RegId) (i : Nat) : (s.setBit r i).toBankState = s.toBankState := rfl
@[simp] theorem State.setBit_toProtState (r : RegId) (i : Nat) : (s.setBit r i).toProtState = s.toProtState := rfl
@[simp] theorem State.setBit_toPmState (r : RegId) (i : Nat) : (s.setBit r i).toPmState = s.toPmState := rfl
@[simp] theorem State.setBit_toLineState (r : RegId) (i : Nat) : (s.setBit r i).toLineState = s.toLineState := rfl
@[simp] theorem State.setBit_toStoreState (r : RegId) (i : Nat) : (s.setBit r i).toStoreState = s.toStoreState := rfl
@[simp] theorem State.setBit_toGroupState (r : RegId) (i : Nat) : (s.setBit r i).toGroupState = s.toGroupState := rfl
@[simp] theorem State.setBit_toTimeState (r : RegId) (i : Nat) : (s.setBit r i).toTimeState = s.toTimeState := rfl
@[simp] theorem State.setBit_toPairState (r : RegId) (i : Nat) : (s.setBit r i).toPairState = s.toPairState := rfl
@[simp] theorem State.setBit_toSkimState (r : RegId) (i : Nat) : (s.setBit r i).toSkimState = s.toSkimState := rfl
@[simp] theorem State.setBit_toSenseState (r : RegId) (i : Nat) : (s.setBit r i).toSenseState = s.toSenseState := rfl
@[simp] theorem State.setBit_toHostState (r : RegId) (i : Nat) : (s.setBit r i).toHostState = s.toHostState := rfl

@[simp] theorem State.clrBit_pending (r : RegId) (i : Nat) : (s.clrBit r i).pending = s.pending := rfl
@[simp] theorem State.clrBit_resp (r : RegId) (i : Nat) : (s.clrBit r i).resp = s.resp := rfl
@[simp] theorem State.clrBit_draw (r : RegId) (i : Nat) : (s.clrBit r i).draw = s.draw := rfl
@[simp] theorem State.clrBit_mem (r : RegId) (i : Nat) : (s.clrBit r i).mem = s.mem := rfl
@[simp] theorem State.clrBit_clk (r : RegId) (i : Nat) : (s.clrBit r i).clk = s.clk := rfl
@[simp] theorem State.clrBit_up (r : RegId) (i : Nat) : (s.clrBit r i).up = s.up := rfl
@[simp] theorem State.clrBit_frames (r : RegId) (i : Nat) : (s.clrBit r i).frames = s.frames := rfl
@[simp] theorem State.clrBit_ns (r : RegId) (i : Nat) : (s.clrBit r i).ns = s.ns := rfl
@[simp] theorem State.clrBit_snaps (r : RegId) (i : Nat) : (s.clrBit r i).snaps = s.snaps := rfl
@[simp] theorem State.clrBit_timers (r : RegId) (i : Nat) : (s.clrBit r i).timers = s.timers := rfl
@[simp] theorem State.clrBit_portA (r : RegId) (i : Nat) : (s.clrBit r i).portA = s.portA := rfl
@[simp] theorem State.clrBit_portB (r : RegId) (i : Nat) : (s.clrBit r i).portB = s.portB := rfl
@[simp] theorem State.clrBit_hostWrites (r : RegId) (i : Nat) : (s.clrBit r i).hostWrites = s.hostWrites := rfl
@[simp] theorem State.clrBit_sevOn (r : RegId) (i : Nat) : (s.clrBit r i).sevOn = s.sevOn := rfl
@[simp] theorem State.clrBit_fence (r : RegId) (i : Nat) : (s.clrBit r i).fence = s.fence := rfl
@[simp] theorem State.clrBit_safe (r : RegId) (i : Nat) : (s.clrBit r i).safe = s.safe := rfl
@[simp] theorem State.clrBit_due (r : RegId) (i : Nat) : (s.clrBit r i).due = s.due := rfl
@[simp] theorem State.clrBit_pwr (r : RegId) (i : Nat) : (s.clrBit r i).pwr = s.pwr := rfl
@[simp] theorem State.clrBit_rstLow (r : RegId) (i : Nat) : (s.clrBit r i).rstLow = s.rstLow := rfl
@[simp] theorem State.clrBit_rstHeld (r : RegId) (i : Nat) : (s.clrBit r i).rstHeld = s.rstHeld := rfl
@[simp] theorem State.clrBit_warm (r : RegId) (i : Nat) : (s.clrBit r i).warm = s.warm := rfl
@[simp] theorem State.clrBit_oscIn (r : RegId) (i : Nat) : (s.clrBit r i).oscIn = s.oscIn := rfl
@[simp] theorem State.clrBit_lead (r : RegId) (i : Nat) : (s.clrBit r i).lead = s.lead := rfl
@[simp] theorem State.clrBit_upStart (r : RegId) (i : Nat) : (s.clrBit r i).upStart = s.upStart := rfl
@[simp] theorem State.clrBit_load (r : RegId) (i : Nat) : (s.clrBit r i).load = s.load := rfl
@[simp] theorem State.clrBit_applying (r : RegId) (i : Nat) : (s.clrBit r i).applying = s.applying := rfl
@[simp] theorem State.clrBit_fullActive (r : RegId) (i : Nat) : (s.clrBit r i).fullActive = s.fullActive := rfl
@[simp] theorem State.clrBit_rgFailed (r : RegId) (i : Nat) : (s.clrBit r i).rgFailed = s.rgFailed := rfl
@[simp] theorem State.clrBit_pers (r : RegId) (i : Nat) : (s.clrBit r i).pers = s.pers := rfl
@[simp] theorem State.clrBit_eqPreset (r : RegId) (i : Nat) : (s.clrBit r i).eqPreset = s.eqPreset := rfl
@[simp] theorem State.clrBit_depth (r : RegId) (i : Nat) : (s.clrBit r i).depth = s.depth := rfl
@[simp] theorem State.clrBit_dram (r : RegId) (i : Nat) : (s.clrBit r i).dram = s.dram := rfl
@[simp] theorem State.clrBit_wbDefault (r : RegId) (i : Nat) : (s.clrBit r i).wbDefault = s.wbDefault := rfl
@[simp] theorem State.clrBit_rbForced (r : RegId) (i : Nat) : (s.clrBit r i).rbForced = s.rbForced := rfl
@[simp] theorem State.clrBit_fullForced (r : RegId) (i : Nat) : (s.clrBit r i).fullForced = s.fullForced := rfl
@[simp] theorem State.clrBit_unretire (r : RegId) (i : Nat) : (s.clrBit r i).unretire = s.unretire := rfl
@[simp] theorem State.clrBit_dramBad (r : RegId) (i : Nat) : (s.clrBit r i).dramBad = s.dramBad := rfl
@[simp] theorem State.clrBit_dramTrained (r : RegId) (i : Nat) : (s.clrBit r i).dramTrained = s.dramTrained := rfl
@[simp] theorem State.clrBit_actMap (r : RegId) (i : Nat) : (s.clrBit r i).actMap = s.actMap := rfl
@[simp] theorem State.clrBit_merges (r : RegId) (i : Nat) : (s.clrBit r i).merges = s.merges := rfl
@[simp] theorem State.clrBit_txns (r : RegId) (i : Nat) : (s.clrBit r i).txns = s.txns := rfl
@[simp] theorem State.clrBit_hitAis (r : RegId) (i : Nat) : (s.clrBit r i).hitAis = s.hitAis := rfl
@[simp] theorem State.clrBit_unionHold (r : RegId) (i : Nat) : (s.clrBit r i).unionHold = s.unionHold := rfl
@[simp] theorem State.clrBit_mapDiag (r : RegId) (i : Nat) : (s.clrBit r i).mapDiag = s.mapDiag := rfl
@[simp] theorem State.clrBit_syncing (r : RegId) (i : Nat) : (s.clrBit r i).syncing = s.syncing := rfl
@[simp] theorem State.clrBit_mateOut (r : RegId) (i : Nat) : (s.clrBit r i).mateOut = s.mateOut := rfl
@[simp] theorem State.clrBit_sievePos (r : RegId) (i : Nat) : (s.clrBit r i).sievePos = s.sievePos := rfl
@[simp] theorem State.clrBit_wbNew (r : RegId) (i : Nat) : (s.clrBit r i).wbNew = s.wbNew := rfl
@[simp] theorem State.clrBit_wbWait (r : RegId) (i : Nat) : (s.clrBit r i).wbWait = s.wbWait := rfl
@[simp] theorem State.clrBit_wbLast (r : RegId) (i : Nat) : (s.clrBit r i).wbLast = s.wbLast := rfl
@[simp] theorem State.clrBit_wbReturning (r : RegId) (i : Nat) : (s.clrBit r i).wbReturning = s.wbReturning := rfl
@[simp] theorem State.clrBit_mxOut (r : RegId) (i : Nat) : (s.clrBit r i).mxOut = s.mxOut := rfl
@[simp] theorem State.clrBit_mxWait (r : RegId) (i : Nat) : (s.clrBit r i).mxWait = s.mxWait := rfl
@[simp] theorem State.clrBit_msp (r : RegId) (i : Nat) : (s.clrBit r i).msp = s.msp := rfl
@[simp] theorem State.clrBit_snc (r : RegId) (i : Nat) : (s.clrBit r i).snc = s.snc := rfl
@[simp] theorem State.clrBit_sncLog (r : RegId) (i : Nat) : (s.clrBit r i).sncLog = s.sncLog := rfl
@[simp] theorem State.clrBit_sncLost (r : RegId) (i : Nat) : (s.clrBit r i).sncLost = s.sncLost := rfl
@[simp] theorem State.clrBit_sncStored (r : RegId) (i : Nat) : (s.clrBit r i).sncStored = s.sncStored := rfl
@[simp] theorem State.clrBit_pm (r : RegId) (i : Nat) : (s.clrBit r i).pm = s.pm := rfl
@[simp] theorem State.clrBit_pmAuto (r : RegId) (i : Nat) : (s.clrBit r i).pmAuto = s.pmAuto := rfl
@[simp] theorem State.clrBit_pmAutoCfg (r : RegId) (i : Nat) : (s.clrBit r i).pmAutoCfg = s.pmAutoCfg := rfl
@[simp] theorem State.clrBit_pmOfs (r : RegId) (i : Nat) : (s.clrBit r i).pmOfs = s.pmOfs := rfl
@[simp] theorem State.clrBit_pmDue (r : RegId) (i : Nat) : (s.clrBit r i).pmDue = s.pmDue := rfl
@[simp] theorem State.clrBit_pmQ (r : RegId) (i : Nat) : (s.clrBit r i).pmQ = s.pmQ := rfl
@[simp] theorem State.clrBit_pmClose (r : RegId) (i : Nat) : (s.clrBit r i).pmClose = s.pmClose := rfl
@[simp] theorem State.clrBit_tcaLog (r : RegId) (i : Nat) : (s.clrBit r i).tcaLog = s.tcaLog := rfl
@[simp] theorem State.clrBit_tcaLost (r : RegId) (i : Nat) : (s.clrBit r i).tcaLost = s.tcaLost := rfl
@[simp] theorem State.clrBit_tcaStored (r : RegId) (i : Nat) : (s.clrBit r i).tcaStored = s.tcaStored := rfl
@[simp] theorem State.clrBit_sec (r : RegId) (i : Nat) : (s.clrBit r i).sec = s.sec := rfl
@[simp] theorem State.clrBit_lineOut (r : RegId) (i : Nat) : (s.clrBit r i).lineOut = s.lineOut := rfl
@[simp] theorem State.clrBit_paths (r : RegId) (i : Nat) : (s.clrBit r i).paths = s.paths := rfl
@[simp] theorem State.clrBit_structW0 (r : RegId) (i : Nat) : (s.clrBit r i).structW0 = s.structW0 := rfl
@[simp] theorem State.clrBit_structPend (r : RegId) (i : Nat) : (s.clrBit r i).structPend = s.structPend := rfl
@[simp] theorem State.clrBit_gens (r : RegId) (i : Nat) : (s.clrBit r i).gens = s.gens := rfl
@[simp] theorem State.clrBit_hoB3 (r : RegId) (i : Nat) : (s.clrBit r i).hoB3 = s.hoB3 := rfl
@[simp] theorem State.clrBit_pathInd (r : RegId) (i : Nat) : (s.clrBit r i).pathInd = s.pathInd := rfl
@[simp] theorem State.clrBit_jrnDirty (r : RegId) (i : Nat) : (s.clrBit r i).jrnDirty = s.jrnDirty := rfl
@[simp] theorem State.clrBit_jrnLoss (r : RegId) (i : Nat) : (s.clrBit r i).jrnLoss = s.jrnLoss := rfl
@[simp] theorem State.clrBit_jrnStage (r : RegId) (i : Nat) : (s.clrBit r i).jrnStage = s.jrnStage := rfl
@[simp] theorem State.clrBit_slabs (r : RegId) (i : Nat) : (s.clrBit r i).slabs = s.slabs := rfl
@[simp] theorem State.clrBit_spareOn (r : RegId) (i : Nat) : (s.clrBit r i).spareOn = s.spareOn := rfl
@[simp] theorem State.clrBit_spareLast (r : RegId) (i : Nat) : (s.clrBit r i).spareLast = s.spareLast := rfl
@[simp] theorem State.clrBit_slabDiag (r : RegId) (i : Nat) : (s.clrBit r i).slabDiag = s.slabDiag := rfl
@[simp] theorem State.clrBit_txGrains (r : RegId) (i : Nat) : (s.clrBit r i).txGrains = s.txGrains := rfl
@[simp] theorem State.clrBit_txMarks (r : RegId) (i : Nat) : (s.clrBit r i).txMarks = s.txMarks := rfl
@[simp] theorem State.clrBit_fabric (r : RegId) (i : Nat) : (s.clrBit r i).fabric = s.fabric := rfl
@[simp] theorem State.clrBit_tg (r : RegId) (i : Nat) : (s.clrBit r i).tg = s.tg := rfl
@[simp] theorem State.clrBit_grps (r : RegId) (i : Nat) : (s.clrBit r i).grps = s.grps := rfl
@[simp] theorem State.clrBit_grpGone (r : RegId) (i : Nat) : (s.clrBit r i).grpGone = s.grpGone := rfl
@[simp] theorem State.clrBit_grpDirty (r : RegId) (i : Nat) : (s.clrBit r i).grpDirty = s.grpDirty := rfl
@[simp] theorem State.clrBit_deskew (r : RegId) (i : Nat) : (s.clrBit r i).deskew = s.deskew := rfl
@[simp] theorem State.clrBit_refEff (r : RegId) (i : Nat) : (s.clrBit r i).refEff = s.refEff := rfl
@[simp] theorem State.clrBit_refS1 (r : RegId) (i : Nat) : (s.clrBit r i).refS1 = s.refS1 := rfl
@[simp] theorem State.clrBit_mainHold (r : RegId) (i : Nat) : (s.clrBit r i).mainHold = s.mainHold := rfl
@[simp] theorem State.clrBit_mainCmdIn (r : RegId) (i : Nat) : (s.clrBit r i).mainCmdIn = s.mainCmdIn := rfl
@[simp] theorem State.clrBit_hist (r : RegId) (i : Nat) : (s.clrBit r i).hist = s.hist := rfl
@[simp] theorem State.clrBit_histRun (r : RegId) (i : Nat) : (s.clrBit r i).histRun = s.histRun := rfl
@[simp] theorem State.clrBit_s1Out (r : RegId) (i : Nat) : (s.clrBit r i).s1Out = s.s1Out := rfl
@[simp] theorem State.clrBit_s1Next (r : RegId) (i : Nat) : (s.clrBit r i).s1Next = s.s1Next := rfl
@[simp] theorem State.clrBit_mateS1 (r : RegId) (i : Nat) : (s.clrBit r i).mateS1 = s.mateS1 := rfl
@[simp] theorem State.clrBit_syncLast (r : RegId) (i : Nat) : (s.clrBit r i).syncLast = s.syncLast := rfl
@[simp] theorem State.clrBit_syncOk (r : RegId) (i : Nat) : (s.clrBit r i).syncOk = s.syncOk := rfl
@[simp] theorem State.clrBit_syncOut (r : RegId) (i : Nat) : (s.clrBit r i).syncOut = s.syncOut := rfl
@[simp] theorem State.clrBit_secUp (r : RegId) (i : Nat) : (s.clrBit r i).secUp = s.secUp := rfl
@[simp] theorem State.clrBit_drive (r : RegId) (i : Nat) : (s.clrBit r i).drive = s.drive := rfl
@[simp] theorem State.clrBit_driveAt (r : RegId) (i : Nat) : (s.clrBit r i).driveAt = s.driveAt := rfl
@[simp] theorem State.clrBit_arbLow (r : RegId) (i : Nat) : (s.clrBit r i).arbLow = s.arbLow := rfl
@[simp] theorem State.clrBit_hoWaited (r : RegId) (i : Nat) : (s.clrBit r i).hoWaited = s.hoWaited := rfl
@[simp] theorem State.clrBit_yokeMate (r : RegId) (i : Nat) : (s.clrBit r i).yokeMate = s.yokeMate := rfl
@[simp] theorem State.clrBit_mateTx (r : RegId) (i : Nat) : (s.clrBit r i).mateTx = s.mateTx := rfl
@[simp] theorem State.clrBit_shadowRx (r : RegId) (i : Nat) : (s.clrBit r i).shadowRx = s.shadowRx := rfl
@[simp] theorem State.clrBit_hoTake (r : RegId) (i : Nat) : (s.clrBit r i).hoTake = s.hoTake := rfl
@[simp] theorem State.clrBit_hoAgreed (r : RegId) (i : Nat) : (s.clrBit r i).hoAgreed = s.hoAgreed := rfl
@[simp] theorem State.clrBit_hoDone (r : RegId) (i : Nat) : (s.clrBit r i).hoDone = s.hoDone := rfl
@[simp] theorem State.clrBit_hoOp (r : RegId) (i : Nat) : (s.clrBit r i).hoOp = s.hoOp := rfl
@[simp] theorem State.clrBit_mateBad (r : RegId) (i : Nat) : (s.clrBit r i).mateBad = s.mateBad := rfl
@[simp] theorem State.clrBit_mateIdle (r : RegId) (i : Nat) : (s.clrBit r i).mateIdle = s.mateIdle := rfl
@[simp] theorem State.clrBit_bothAct (r : RegId) (i : Nat) : (s.clrBit r i).bothAct = s.bothAct := rfl
@[simp] theorem State.clrBit_bothSel (r : RegId) (i : Nat) : (s.clrBit r i).bothSel = s.bothSel := rfl
@[simp] theorem State.clrBit_mateShadow (r : RegId) (i : Nat) : (s.clrBit r i).mateShadow = s.mateShadow := rfl
@[simp] theorem State.clrBit_theta (r : RegId) (i : Nat) : (s.clrBit r i).theta = s.theta := rfl
@[simp] theorem State.clrBit_shadow (r : RegId) (i : Nat) : (s.clrBit r i).shadow = s.shadow := rfl
@[simp] theorem State.clrBit_skJobs (r : RegId) (i : Nat) : (s.clrBit r i).skJobs = s.skJobs := rfl
@[simp] theorem State.clrBit_skFetch (r : RegId) (i : Nat) : (s.clrBit r i).skFetch = s.skFetch := rfl
@[simp] theorem State.clrBit_prbs (r : RegId) (i : Nat) : (s.clrBit r i).prbs = s.prbs := rfl
@[simp] theorem State.clrBit_prbsDirty (r : RegId) (i : Nat) : (s.clrBit r i).prbsDirty = s.prbsDirty := rfl
@[simp] theorem State.clrBit_pourJobs (r : RegId) (i : Nat) : (s.clrBit r i).pourJobs = s.pourJobs := rfl
@[simp] theorem State.clrBit_pourFetch (r : RegId) (i : Nat) : (s.clrBit r i).pourFetch = s.pourFetch := rfl
@[simp] theorem State.clrBit_calStore (r : RegId) (i : Nat) : (s.clrBit r i).calStore = s.calStore := rfl
@[simp] theorem State.clrBit_calStage (r : RegId) (i : Nat) : (s.clrBit r i).calStage = s.calStage := rfl
@[simp] theorem State.clrBit_calRun (r : RegId) (i : Nat) : (s.clrBit r i).calRun = s.calRun := rfl
@[simp] theorem State.clrBit_calParts (r : RegId) (i : Nat) : (s.clrBit r i).calParts = s.calParts := rfl
@[simp] theorem State.clrBit_calNew (r : RegId) (i : Nat) : (s.clrBit r i).calNew = s.calNew := rfl
@[simp] theorem State.clrBit_calBoot (r : RegId) (i : Nat) : (s.clrBit r i).calBoot = s.calBoot := rfl
@[simp] theorem State.clrBit_eqSet (r : RegId) (i : Nat) : (s.clrBit r i).eqSet = s.eqSet := rfl
@[simp] theorem State.clrBit_temps (r : RegId) (i : Nat) : (s.clrBit r i).temps = s.temps := rfl
@[simp] theorem State.clrBit_volt (r : RegId) (i : Nat) : (s.clrBit r i).volt = s.volt := rfl
@[simp] theorem State.clrBit_aged (r : RegId) (i : Nat) : (s.clrBit r i).aged = s.aged := rfl
@[simp] theorem State.clrBit_trim (r : RegId) (i : Nat) : (s.clrBit r i).trim = s.trim := rfl
@[simp] theorem State.clrBit_trace (r : RegId) (i : Nat) : (s.clrBit r i).trace = s.trace := rfl
@[simp] theorem State.clrBit_serdesBad (r : RegId) (i : Nat) : (s.clrBit r i).serdesBad = s.serdesBad := rfl
@[simp] theorem State.clrBit_perstLow (r : RegId) (i : Nat) : (s.clrBit r i).perstLow = s.perstLow := rfl
@[simp] theorem State.clrBit_spiLog (r : RegId) (i : Nat) : (s.clrBit r i).spiLog = s.spiLog := rfl
@[simp] theorem State.clrBit_spiRun (r : RegId) (i : Nat) : (s.clrBit r i).spiRun = s.spiRun := rfl
@[simp] theorem State.clrBit_hkNext (r : RegId) (i : Nat) : (s.clrBit r i).hkNext = s.hkNext := rfl
@[simp] theorem State.clrBit_hkFrom (r : RegId) (i : Nat) : (s.clrBit r i).hkFrom = s.hkFrom := rfl
@[simp] theorem State.clrBit_hkAsk (r : RegId) (i : Nat) : (s.clrBit r i).hkAsk = s.hkAsk := rfl
@[simp] theorem State.clrBit_firstClk (r : RegId) (i : Nat) : (s.clrBit r i).firstClk = s.firstClk := rfl
@[simp] theorem State.clrBit_smbPtr (r : RegId) (i : Nat) : (s.clrBit r i).smbPtr = s.smbPtr := rfl
@[simp] theorem State.clrBit_tapIr (r : RegId) (i : Nat) : (s.clrBit r i).tapIr = s.tapIr := rfl
@[simp] theorem State.clrBit_tapIrOut (r : RegId) (i : Nat) : (s.clrBit r i).tapIrOut = s.tapIrOut := rfl
@[simp] theorem State.clrBit_scan (r : RegId) (i : Nat) : (s.clrBit r i).scan = s.scan := rfl
@[simp] theorem State.clrBit_toPowerState (r : RegId) (i : Nat) : (s.clrBit r i).toPowerState = s.toPowerState := rfl
@[simp] theorem State.clrBit_toBenchState (r : RegId) (i : Nat) : (s.clrBit r i).toBenchState = s.toBenchState := rfl
@[simp] theorem State.clrBit_toMapState (r : RegId) (i : Nat) : (s.clrBit r i).toMapState = s.toMapState := rfl
@[simp] theorem State.clrBit_toBankState (r : RegId) (i : Nat) : (s.clrBit r i).toBankState = s.toBankState := rfl
@[simp] theorem State.clrBit_toProtState (r : RegId) (i : Nat) : (s.clrBit r i).toProtState = s.toProtState := rfl
@[simp] theorem State.clrBit_toPmState (r : RegId) (i : Nat) : (s.clrBit r i).toPmState = s.toPmState := rfl
@[simp] theorem State.clrBit_toLineState (r : RegId) (i : Nat) : (s.clrBit r i).toLineState = s.toLineState := rfl
@[simp] theorem State.clrBit_toStoreState (r : RegId) (i : Nat) : (s.clrBit r i).toStoreState = s.toStoreState := rfl
@[simp] theorem State.clrBit_toGroupState (r : RegId) (i : Nat) : (s.clrBit r i).toGroupState = s.toGroupState := rfl
@[simp] theorem State.clrBit_toTimeState (r : RegId) (i : Nat) : (s.clrBit r i).toTimeState = s.toTimeState := rfl
@[simp] theorem State.clrBit_toPairState (r : RegId) (i : Nat) : (s.clrBit r i).toPairState = s.toPairState := rfl
@[simp] theorem State.clrBit_toSkimState (r : RegId) (i : Nat) : (s.clrBit r i).toSkimState = s.toSkimState := rfl
@[simp] theorem State.clrBit_toSenseState (r : RegId) (i : Nat) : (s.clrBit r i).toSenseState = s.toSenseState := rfl
@[simp] theorem State.clrBit_toHostState (r : RegId) (i : Nat) : (s.clrBit r i).toHostState = s.toHostState := rfl

@[simp] theorem State.stb_pending (a : Nat) (b : Byte) : (s.stb a b).pending = s.pending := rfl
@[simp] theorem State.stb_resp (a : Nat) (b : Byte) : (s.stb a b).resp = s.resp := rfl
@[simp] theorem State.stb_draw (a : Nat) (b : Byte) : (s.stb a b).draw = s.draw := rfl
@[simp] theorem State.stb_clk (a : Nat) (b : Byte) : (s.stb a b).clk = s.clk := rfl
@[simp] theorem State.stb_up (a : Nat) (b : Byte) : (s.stb a b).up = s.up := rfl
@[simp] theorem State.stb_frames (a : Nat) (b : Byte) : (s.stb a b).frames = s.frames := rfl
@[simp] theorem State.stb_ns (a : Nat) (b : Byte) : (s.stb a b).ns = s.ns := rfl
@[simp] theorem State.stb_regs (a : Nat) (b : Byte) : (s.stb a b).regs = s.regs := rfl
@[simp] theorem State.stb_snaps (a : Nat) (b : Byte) : (s.stb a b).snaps = s.snaps := rfl
@[simp] theorem State.stb_timers (a : Nat) (b : Byte) : (s.stb a b).timers = s.timers := rfl
@[simp] theorem State.stb_portA (a : Nat) (b : Byte) : (s.stb a b).portA = s.portA := rfl
@[simp] theorem State.stb_portB (a : Nat) (b : Byte) : (s.stb a b).portB = s.portB := rfl
@[simp] theorem State.stb_hostWrites (a : Nat) (b : Byte) : (s.stb a b).hostWrites = s.hostWrites := rfl
@[simp] theorem State.stb_sevOn (a : Nat) (b : Byte) : (s.stb a b).sevOn = s.sevOn := rfl
@[simp] theorem State.stb_fence (a : Nat) (b : Byte) : (s.stb a b).fence = s.fence := rfl
@[simp] theorem State.stb_safe (a : Nat) (b : Byte) : (s.stb a b).safe = s.safe := rfl
@[simp] theorem State.stb_due (a : Nat) (b : Byte) : (s.stb a b).due = s.due := rfl
@[simp] theorem State.stb_pwr (a : Nat) (b : Byte) : (s.stb a b).pwr = s.pwr := rfl
@[simp] theorem State.stb_rstLow (a : Nat) (b : Byte) : (s.stb a b).rstLow = s.rstLow := rfl
@[simp] theorem State.stb_rstHeld (a : Nat) (b : Byte) : (s.stb a b).rstHeld = s.rstHeld := rfl
@[simp] theorem State.stb_warm (a : Nat) (b : Byte) : (s.stb a b).warm = s.warm := rfl
@[simp] theorem State.stb_oscIn (a : Nat) (b : Byte) : (s.stb a b).oscIn = s.oscIn := rfl
@[simp] theorem State.stb_lead (a : Nat) (b : Byte) : (s.stb a b).lead = s.lead := rfl
@[simp] theorem State.stb_upStart (a : Nat) (b : Byte) : (s.stb a b).upStart = s.upStart := rfl
@[simp] theorem State.stb_load (a : Nat) (b : Byte) : (s.stb a b).load = s.load := rfl
@[simp] theorem State.stb_applying (a : Nat) (b : Byte) : (s.stb a b).applying = s.applying := rfl
@[simp] theorem State.stb_fullActive (a : Nat) (b : Byte) : (s.stb a b).fullActive = s.fullActive := rfl
@[simp] theorem State.stb_rgFailed (a : Nat) (b : Byte) : (s.stb a b).rgFailed = s.rgFailed := rfl
@[simp] theorem State.stb_pers (a : Nat) (b : Byte) : (s.stb a b).pers = s.pers := rfl
@[simp] theorem State.stb_eqPreset (a : Nat) (b : Byte) : (s.stb a b).eqPreset = s.eqPreset := rfl
@[simp] theorem State.stb_depth (a : Nat) (b : Byte) : (s.stb a b).depth = s.depth := rfl
@[simp] theorem State.stb_dram (a : Nat) (b : Byte) : (s.stb a b).dram = s.dram := rfl
@[simp] theorem State.stb_wbDefault (a : Nat) (b : Byte) : (s.stb a b).wbDefault = s.wbDefault := rfl
@[simp] theorem State.stb_rbForced (a : Nat) (b : Byte) : (s.stb a b).rbForced = s.rbForced := rfl
@[simp] theorem State.stb_fullForced (a : Nat) (b : Byte) : (s.stb a b).fullForced = s.fullForced := rfl
@[simp] theorem State.stb_unretire (a : Nat) (b : Byte) : (s.stb a b).unretire = s.unretire := rfl
@[simp] theorem State.stb_dramBad (a : Nat) (b : Byte) : (s.stb a b).dramBad = s.dramBad := rfl
@[simp] theorem State.stb_dramTrained (a : Nat) (b : Byte) : (s.stb a b).dramTrained = s.dramTrained := rfl
@[simp] theorem State.stb_actMap (a : Nat) (b : Byte) : (s.stb a b).actMap = s.actMap := rfl
@[simp] theorem State.stb_merges (a : Nat) (b : Byte) : (s.stb a b).merges = s.merges := rfl
@[simp] theorem State.stb_txns (a : Nat) (b : Byte) : (s.stb a b).txns = s.txns := rfl
@[simp] theorem State.stb_hitAis (a : Nat) (b : Byte) : (s.stb a b).hitAis = s.hitAis := rfl
@[simp] theorem State.stb_unionHold (a : Nat) (b : Byte) : (s.stb a b).unionHold = s.unionHold := rfl
@[simp] theorem State.stb_mapDiag (a : Nat) (b : Byte) : (s.stb a b).mapDiag = s.mapDiag := rfl
@[simp] theorem State.stb_syncing (a : Nat) (b : Byte) : (s.stb a b).syncing = s.syncing := rfl
@[simp] theorem State.stb_mateOut (a : Nat) (b : Byte) : (s.stb a b).mateOut = s.mateOut := rfl
@[simp] theorem State.stb_sievePos (a : Nat) (b : Byte) : (s.stb a b).sievePos = s.sievePos := rfl
@[simp] theorem State.stb_wbNew (a : Nat) (b : Byte) : (s.stb a b).wbNew = s.wbNew := rfl
@[simp] theorem State.stb_wbWait (a : Nat) (b : Byte) : (s.stb a b).wbWait = s.wbWait := rfl
@[simp] theorem State.stb_wbLast (a : Nat) (b : Byte) : (s.stb a b).wbLast = s.wbLast := rfl
@[simp] theorem State.stb_wbReturning (a : Nat) (b : Byte) : (s.stb a b).wbReturning = s.wbReturning := rfl
@[simp] theorem State.stb_mxOut (a : Nat) (b : Byte) : (s.stb a b).mxOut = s.mxOut := rfl
@[simp] theorem State.stb_mxWait (a : Nat) (b : Byte) : (s.stb a b).mxWait = s.mxWait := rfl
@[simp] theorem State.stb_msp (a : Nat) (b : Byte) : (s.stb a b).msp = s.msp := rfl
@[simp] theorem State.stb_snc (a : Nat) (b : Byte) : (s.stb a b).snc = s.snc := rfl
@[simp] theorem State.stb_sncLog (a : Nat) (b : Byte) : (s.stb a b).sncLog = s.sncLog := rfl
@[simp] theorem State.stb_sncLost (a : Nat) (b : Byte) : (s.stb a b).sncLost = s.sncLost := rfl
@[simp] theorem State.stb_sncStored (a : Nat) (b : Byte) : (s.stb a b).sncStored = s.sncStored := rfl
@[simp] theorem State.stb_pm (a : Nat) (b : Byte) : (s.stb a b).pm = s.pm := rfl
@[simp] theorem State.stb_pmAuto (a : Nat) (b : Byte) : (s.stb a b).pmAuto = s.pmAuto := rfl
@[simp] theorem State.stb_pmAutoCfg (a : Nat) (b : Byte) : (s.stb a b).pmAutoCfg = s.pmAutoCfg := rfl
@[simp] theorem State.stb_pmOfs (a : Nat) (b : Byte) : (s.stb a b).pmOfs = s.pmOfs := rfl
@[simp] theorem State.stb_pmDue (a : Nat) (b : Byte) : (s.stb a b).pmDue = s.pmDue := rfl
@[simp] theorem State.stb_pmQ (a : Nat) (b : Byte) : (s.stb a b).pmQ = s.pmQ := rfl
@[simp] theorem State.stb_pmClose (a : Nat) (b : Byte) : (s.stb a b).pmClose = s.pmClose := rfl
@[simp] theorem State.stb_tcaLog (a : Nat) (b : Byte) : (s.stb a b).tcaLog = s.tcaLog := rfl
@[simp] theorem State.stb_tcaLost (a : Nat) (b : Byte) : (s.stb a b).tcaLost = s.tcaLost := rfl
@[simp] theorem State.stb_tcaStored (a : Nat) (b : Byte) : (s.stb a b).tcaStored = s.tcaStored := rfl
@[simp] theorem State.stb_sec (a : Nat) (b : Byte) : (s.stb a b).sec = s.sec := rfl
@[simp] theorem State.stb_lineOut (a : Nat) (b : Byte) : (s.stb a b).lineOut = s.lineOut := rfl
@[simp] theorem State.stb_paths (a : Nat) (b : Byte) : (s.stb a b).paths = s.paths := rfl
@[simp] theorem State.stb_structW0 (a : Nat) (b : Byte) : (s.stb a b).structW0 = s.structW0 := rfl
@[simp] theorem State.stb_structPend (a : Nat) (b : Byte) : (s.stb a b).structPend = s.structPend := rfl
@[simp] theorem State.stb_gens (a : Nat) (b : Byte) : (s.stb a b).gens = s.gens := rfl
@[simp] theorem State.stb_hoB3 (a : Nat) (b : Byte) : (s.stb a b).hoB3 = s.hoB3 := rfl
@[simp] theorem State.stb_pathInd (a : Nat) (b : Byte) : (s.stb a b).pathInd = s.pathInd := rfl
@[simp] theorem State.stb_jrnDirty (a : Nat) (b : Byte) : (s.stb a b).jrnDirty = s.jrnDirty := rfl
@[simp] theorem State.stb_jrnLoss (a : Nat) (b : Byte) : (s.stb a b).jrnLoss = s.jrnLoss := rfl
@[simp] theorem State.stb_jrnStage (a : Nat) (b : Byte) : (s.stb a b).jrnStage = s.jrnStage := rfl
@[simp] theorem State.stb_slabs (a : Nat) (b : Byte) : (s.stb a b).slabs = s.slabs := rfl
@[simp] theorem State.stb_spareOn (a : Nat) (b : Byte) : (s.stb a b).spareOn = s.spareOn := rfl
@[simp] theorem State.stb_spareLast (a : Nat) (b : Byte) : (s.stb a b).spareLast = s.spareLast := rfl
@[simp] theorem State.stb_slabDiag (a : Nat) (b : Byte) : (s.stb a b).slabDiag = s.slabDiag := rfl
@[simp] theorem State.stb_txGrains (a : Nat) (b : Byte) : (s.stb a b).txGrains = s.txGrains := rfl
@[simp] theorem State.stb_txMarks (a : Nat) (b : Byte) : (s.stb a b).txMarks = s.txMarks := rfl
@[simp] theorem State.stb_fabric (a : Nat) (b : Byte) : (s.stb a b).fabric = s.fabric := rfl
@[simp] theorem State.stb_tg (a : Nat) (b : Byte) : (s.stb a b).tg = s.tg := rfl
@[simp] theorem State.stb_grps (a : Nat) (b : Byte) : (s.stb a b).grps = s.grps := rfl
@[simp] theorem State.stb_grpGone (a : Nat) (b : Byte) : (s.stb a b).grpGone = s.grpGone := rfl
@[simp] theorem State.stb_grpDirty (a : Nat) (b : Byte) : (s.stb a b).grpDirty = s.grpDirty := rfl
@[simp] theorem State.stb_deskew (a : Nat) (b : Byte) : (s.stb a b).deskew = s.deskew := rfl
@[simp] theorem State.stb_refEff (a : Nat) (b : Byte) : (s.stb a b).refEff = s.refEff := rfl
@[simp] theorem State.stb_refS1 (a : Nat) (b : Byte) : (s.stb a b).refS1 = s.refS1 := rfl
@[simp] theorem State.stb_mainHold (a : Nat) (b : Byte) : (s.stb a b).mainHold = s.mainHold := rfl
@[simp] theorem State.stb_mainCmdIn (a : Nat) (b : Byte) : (s.stb a b).mainCmdIn = s.mainCmdIn := rfl
@[simp] theorem State.stb_hist (a : Nat) (b : Byte) : (s.stb a b).hist = s.hist := rfl
@[simp] theorem State.stb_histRun (a : Nat) (b : Byte) : (s.stb a b).histRun = s.histRun := rfl
@[simp] theorem State.stb_s1Out (a : Nat) (b : Byte) : (s.stb a b).s1Out = s.s1Out := rfl
@[simp] theorem State.stb_s1Next (a : Nat) (b : Byte) : (s.stb a b).s1Next = s.s1Next := rfl
@[simp] theorem State.stb_mateS1 (a : Nat) (b : Byte) : (s.stb a b).mateS1 = s.mateS1 := rfl
@[simp] theorem State.stb_syncLast (a : Nat) (b : Byte) : (s.stb a b).syncLast = s.syncLast := rfl
@[simp] theorem State.stb_syncOk (a : Nat) (b : Byte) : (s.stb a b).syncOk = s.syncOk := rfl
@[simp] theorem State.stb_syncOut (a : Nat) (b : Byte) : (s.stb a b).syncOut = s.syncOut := rfl
@[simp] theorem State.stb_secUp (a : Nat) (b : Byte) : (s.stb a b).secUp = s.secUp := rfl
@[simp] theorem State.stb_drive (a : Nat) (b : Byte) : (s.stb a b).drive = s.drive := rfl
@[simp] theorem State.stb_driveAt (a : Nat) (b : Byte) : (s.stb a b).driveAt = s.driveAt := rfl
@[simp] theorem State.stb_arbLow (a : Nat) (b : Byte) : (s.stb a b).arbLow = s.arbLow := rfl
@[simp] theorem State.stb_hoWaited (a : Nat) (b : Byte) : (s.stb a b).hoWaited = s.hoWaited := rfl
@[simp] theorem State.stb_yokeMate (a : Nat) (b : Byte) : (s.stb a b).yokeMate = s.yokeMate := rfl
@[simp] theorem State.stb_mateTx (a : Nat) (b : Byte) : (s.stb a b).mateTx = s.mateTx := rfl
@[simp] theorem State.stb_shadowRx (a : Nat) (b : Byte) : (s.stb a b).shadowRx = s.shadowRx := rfl
@[simp] theorem State.stb_hoTake (a : Nat) (b : Byte) : (s.stb a b).hoTake = s.hoTake := rfl
@[simp] theorem State.stb_hoAgreed (a : Nat) (b : Byte) : (s.stb a b).hoAgreed = s.hoAgreed := rfl
@[simp] theorem State.stb_hoDone (a : Nat) (b : Byte) : (s.stb a b).hoDone = s.hoDone := rfl
@[simp] theorem State.stb_hoOp (a : Nat) (b : Byte) : (s.stb a b).hoOp = s.hoOp := rfl
@[simp] theorem State.stb_mateBad (a : Nat) (b : Byte) : (s.stb a b).mateBad = s.mateBad := rfl
@[simp] theorem State.stb_mateIdle (a : Nat) (b : Byte) : (s.stb a b).mateIdle = s.mateIdle := rfl
@[simp] theorem State.stb_bothAct (a : Nat) (b : Byte) : (s.stb a b).bothAct = s.bothAct := rfl
@[simp] theorem State.stb_bothSel (a : Nat) (b : Byte) : (s.stb a b).bothSel = s.bothSel := rfl
@[simp] theorem State.stb_mateShadow (a : Nat) (b : Byte) : (s.stb a b).mateShadow = s.mateShadow := rfl
@[simp] theorem State.stb_theta (a : Nat) (b : Byte) : (s.stb a b).theta = s.theta := rfl
@[simp] theorem State.stb_shadow (a : Nat) (b : Byte) : (s.stb a b).shadow = s.shadow := rfl
@[simp] theorem State.stb_skJobs (a : Nat) (b : Byte) : (s.stb a b).skJobs = s.skJobs := rfl
@[simp] theorem State.stb_skFetch (a : Nat) (b : Byte) : (s.stb a b).skFetch = s.skFetch := rfl
@[simp] theorem State.stb_prbs (a : Nat) (b : Byte) : (s.stb a b).prbs = s.prbs := rfl
@[simp] theorem State.stb_prbsDirty (a : Nat) (b : Byte) : (s.stb a b).prbsDirty = s.prbsDirty := rfl
@[simp] theorem State.stb_pourJobs (a : Nat) (b : Byte) : (s.stb a b).pourJobs = s.pourJobs := rfl
@[simp] theorem State.stb_pourFetch (a : Nat) (b : Byte) : (s.stb a b).pourFetch = s.pourFetch := rfl
@[simp] theorem State.stb_calStore (a : Nat) (b : Byte) : (s.stb a b).calStore = s.calStore := rfl
@[simp] theorem State.stb_calStage (a : Nat) (b : Byte) : (s.stb a b).calStage = s.calStage := rfl
@[simp] theorem State.stb_calRun (a : Nat) (b : Byte) : (s.stb a b).calRun = s.calRun := rfl
@[simp] theorem State.stb_calParts (a : Nat) (b : Byte) : (s.stb a b).calParts = s.calParts := rfl
@[simp] theorem State.stb_calNew (a : Nat) (b : Byte) : (s.stb a b).calNew = s.calNew := rfl
@[simp] theorem State.stb_calBoot (a : Nat) (b : Byte) : (s.stb a b).calBoot = s.calBoot := rfl
@[simp] theorem State.stb_eqSet (a : Nat) (b : Byte) : (s.stb a b).eqSet = s.eqSet := rfl
@[simp] theorem State.stb_temps (a : Nat) (b : Byte) : (s.stb a b).temps = s.temps := rfl
@[simp] theorem State.stb_volt (a : Nat) (b : Byte) : (s.stb a b).volt = s.volt := rfl
@[simp] theorem State.stb_aged (a : Nat) (b : Byte) : (s.stb a b).aged = s.aged := rfl
@[simp] theorem State.stb_trim (a : Nat) (b : Byte) : (s.stb a b).trim = s.trim := rfl
@[simp] theorem State.stb_trace (a : Nat) (b : Byte) : (s.stb a b).trace = s.trace := rfl
@[simp] theorem State.stb_serdesBad (a : Nat) (b : Byte) : (s.stb a b).serdesBad = s.serdesBad := rfl
@[simp] theorem State.stb_perstLow (a : Nat) (b : Byte) : (s.stb a b).perstLow = s.perstLow := rfl
@[simp] theorem State.stb_spiLog (a : Nat) (b : Byte) : (s.stb a b).spiLog = s.spiLog := rfl
@[simp] theorem State.stb_spiRun (a : Nat) (b : Byte) : (s.stb a b).spiRun = s.spiRun := rfl
@[simp] theorem State.stb_hkNext (a : Nat) (b : Byte) : (s.stb a b).hkNext = s.hkNext := rfl
@[simp] theorem State.stb_hkFrom (a : Nat) (b : Byte) : (s.stb a b).hkFrom = s.hkFrom := rfl
@[simp] theorem State.stb_hkAsk (a : Nat) (b : Byte) : (s.stb a b).hkAsk = s.hkAsk := rfl
@[simp] theorem State.stb_firstClk (a : Nat) (b : Byte) : (s.stb a b).firstClk = s.firstClk := rfl
@[simp] theorem State.stb_smbPtr (a : Nat) (b : Byte) : (s.stb a b).smbPtr = s.smbPtr := rfl
@[simp] theorem State.stb_tapIr (a : Nat) (b : Byte) : (s.stb a b).tapIr = s.tapIr := rfl
@[simp] theorem State.stb_tapIrOut (a : Nat) (b : Byte) : (s.stb a b).tapIrOut = s.tapIrOut := rfl
@[simp] theorem State.stb_scan (a : Nat) (b : Byte) : (s.stb a b).scan = s.scan := rfl
@[simp] theorem State.stb_toPowerState (a : Nat) (b : Byte) : (s.stb a b).toPowerState = s.toPowerState := rfl
@[simp] theorem State.stb_toBenchState (a : Nat) (b : Byte) : (s.stb a b).toBenchState = s.toBenchState := rfl
@[simp] theorem State.stb_toMapState (a : Nat) (b : Byte) : (s.stb a b).toMapState = s.toMapState := rfl
@[simp] theorem State.stb_toBankState (a : Nat) (b : Byte) : (s.stb a b).toBankState = s.toBankState := rfl
@[simp] theorem State.stb_toProtState (a : Nat) (b : Byte) : (s.stb a b).toProtState = s.toProtState := rfl
@[simp] theorem State.stb_toPmState (a : Nat) (b : Byte) : (s.stb a b).toPmState = s.toPmState := rfl
@[simp] theorem State.stb_toLineState (a : Nat) (b : Byte) : (s.stb a b).toLineState = s.toLineState := rfl
@[simp] theorem State.stb_toStoreState (a : Nat) (b : Byte) : (s.stb a b).toStoreState = s.toStoreState := rfl
@[simp] theorem State.stb_toGroupState (a : Nat) (b : Byte) : (s.stb a b).toGroupState = s.toGroupState := rfl
@[simp] theorem State.stb_toTimeState (a : Nat) (b : Byte) : (s.stb a b).toTimeState = s.toTimeState := rfl
@[simp] theorem State.stb_toPairState (a : Nat) (b : Byte) : (s.stb a b).toPairState = s.toPairState := rfl
@[simp] theorem State.stb_toSkimState (a : Nat) (b : Byte) : (s.stb a b).toSkimState = s.toSkimState := rfl
@[simp] theorem State.stb_toSenseState (a : Nat) (b : Byte) : (s.stb a b).toSenseState = s.toSenseState := rfl
@[simp] theorem State.stb_toHostState (a : Nat) (b : Byte) : (s.stb a b).toHostState = s.toHostState := rfl

@[simp] theorem State.startTimerNs_pending (k : TKey) (n : Nat) : (s.startTimerNs k n).pending = s.pending := rfl
@[simp] theorem State.startTimerNs_resp (k : TKey) (n : Nat) : (s.startTimerNs k n).resp = s.resp := rfl
@[simp] theorem State.startTimerNs_draw (k : TKey) (n : Nat) : (s.startTimerNs k n).draw = s.draw := rfl
@[simp] theorem State.startTimerNs_mem (k : TKey) (n : Nat) : (s.startTimerNs k n).mem = s.mem := rfl
@[simp] theorem State.startTimerNs_clk (k : TKey) (n : Nat) : (s.startTimerNs k n).clk = s.clk := rfl
@[simp] theorem State.startTimerNs_up (k : TKey) (n : Nat) : (s.startTimerNs k n).up = s.up := rfl
@[simp] theorem State.startTimerNs_frames (k : TKey) (n : Nat) : (s.startTimerNs k n).frames = s.frames := rfl
@[simp] theorem State.startTimerNs_ns (k : TKey) (n : Nat) : (s.startTimerNs k n).ns = s.ns := rfl
@[simp] theorem State.startTimerNs_regs (k : TKey) (n : Nat) : (s.startTimerNs k n).regs = s.regs := rfl
@[simp] theorem State.startTimerNs_snaps (k : TKey) (n : Nat) : (s.startTimerNs k n).snaps = s.snaps := rfl
@[simp] theorem State.startTimerNs_portA (k : TKey) (n : Nat) : (s.startTimerNs k n).portA = s.portA := rfl
@[simp] theorem State.startTimerNs_portB (k : TKey) (n : Nat) : (s.startTimerNs k n).portB = s.portB := rfl
@[simp] theorem State.startTimerNs_hostWrites (k : TKey) (n : Nat) : (s.startTimerNs k n).hostWrites = s.hostWrites := rfl
@[simp] theorem State.startTimerNs_sevOn (k : TKey) (n : Nat) : (s.startTimerNs k n).sevOn = s.sevOn := rfl
@[simp] theorem State.startTimerNs_fence (k : TKey) (n : Nat) : (s.startTimerNs k n).fence = s.fence := rfl
@[simp] theorem State.startTimerNs_safe (k : TKey) (n : Nat) : (s.startTimerNs k n).safe = s.safe := rfl
@[simp] theorem State.startTimerNs_due (k : TKey) (n : Nat) : (s.startTimerNs k n).due = s.due := rfl
@[simp] theorem State.startTimerNs_pwr (k : TKey) (n : Nat) : (s.startTimerNs k n).pwr = s.pwr := rfl
@[simp] theorem State.startTimerNs_rstLow (k : TKey) (n : Nat) : (s.startTimerNs k n).rstLow = s.rstLow := rfl
@[simp] theorem State.startTimerNs_rstHeld (k : TKey) (n : Nat) : (s.startTimerNs k n).rstHeld = s.rstHeld := rfl
@[simp] theorem State.startTimerNs_warm (k : TKey) (n : Nat) : (s.startTimerNs k n).warm = s.warm := rfl
@[simp] theorem State.startTimerNs_oscIn (k : TKey) (n : Nat) : (s.startTimerNs k n).oscIn = s.oscIn := rfl
@[simp] theorem State.startTimerNs_lead (k : TKey) (n : Nat) : (s.startTimerNs k n).lead = s.lead := rfl
@[simp] theorem State.startTimerNs_upStart (k : TKey) (n : Nat) : (s.startTimerNs k n).upStart = s.upStart := rfl
@[simp] theorem State.startTimerNs_load (k : TKey) (n : Nat) : (s.startTimerNs k n).load = s.load := rfl
@[simp] theorem State.startTimerNs_applying (k : TKey) (n : Nat) : (s.startTimerNs k n).applying = s.applying := rfl
@[simp] theorem State.startTimerNs_fullActive (k : TKey) (n : Nat) : (s.startTimerNs k n).fullActive = s.fullActive := rfl
@[simp] theorem State.startTimerNs_rgFailed (k : TKey) (n : Nat) : (s.startTimerNs k n).rgFailed = s.rgFailed := rfl
@[simp] theorem State.startTimerNs_pers (k : TKey) (n : Nat) : (s.startTimerNs k n).pers = s.pers := rfl
@[simp] theorem State.startTimerNs_eqPreset (k : TKey) (n : Nat) : (s.startTimerNs k n).eqPreset = s.eqPreset := rfl
@[simp] theorem State.startTimerNs_depth (k : TKey) (n : Nat) : (s.startTimerNs k n).depth = s.depth := rfl
@[simp] theorem State.startTimerNs_dram (k : TKey) (n : Nat) : (s.startTimerNs k n).dram = s.dram := rfl
@[simp] theorem State.startTimerNs_wbDefault (k : TKey) (n : Nat) : (s.startTimerNs k n).wbDefault = s.wbDefault := rfl
@[simp] theorem State.startTimerNs_rbForced (k : TKey) (n : Nat) : (s.startTimerNs k n).rbForced = s.rbForced := rfl
@[simp] theorem State.startTimerNs_fullForced (k : TKey) (n : Nat) : (s.startTimerNs k n).fullForced = s.fullForced := rfl
@[simp] theorem State.startTimerNs_unretire (k : TKey) (n : Nat) : (s.startTimerNs k n).unretire = s.unretire := rfl
@[simp] theorem State.startTimerNs_dramBad (k : TKey) (n : Nat) : (s.startTimerNs k n).dramBad = s.dramBad := rfl
@[simp] theorem State.startTimerNs_dramTrained (k : TKey) (n : Nat) : (s.startTimerNs k n).dramTrained = s.dramTrained := rfl
@[simp] theorem State.startTimerNs_actMap (k : TKey) (n : Nat) : (s.startTimerNs k n).actMap = s.actMap := rfl
@[simp] theorem State.startTimerNs_merges (k : TKey) (n : Nat) : (s.startTimerNs k n).merges = s.merges := rfl
@[simp] theorem State.startTimerNs_txns (k : TKey) (n : Nat) : (s.startTimerNs k n).txns = s.txns := rfl
@[simp] theorem State.startTimerNs_hitAis (k : TKey) (n : Nat) : (s.startTimerNs k n).hitAis = s.hitAis := rfl
@[simp] theorem State.startTimerNs_unionHold (k : TKey) (n : Nat) : (s.startTimerNs k n).unionHold = s.unionHold := rfl
@[simp] theorem State.startTimerNs_mapDiag (k : TKey) (n : Nat) : (s.startTimerNs k n).mapDiag = s.mapDiag := rfl
@[simp] theorem State.startTimerNs_syncing (k : TKey) (n : Nat) : (s.startTimerNs k n).syncing = s.syncing := rfl
@[simp] theorem State.startTimerNs_mateOut (k : TKey) (n : Nat) : (s.startTimerNs k n).mateOut = s.mateOut := rfl
@[simp] theorem State.startTimerNs_sievePos (k : TKey) (n : Nat) : (s.startTimerNs k n).sievePos = s.sievePos := rfl
@[simp] theorem State.startTimerNs_wbNew (k : TKey) (n : Nat) : (s.startTimerNs k n).wbNew = s.wbNew := rfl
@[simp] theorem State.startTimerNs_wbWait (k : TKey) (n : Nat) : (s.startTimerNs k n).wbWait = s.wbWait := rfl
@[simp] theorem State.startTimerNs_wbLast (k : TKey) (n : Nat) : (s.startTimerNs k n).wbLast = s.wbLast := rfl
@[simp] theorem State.startTimerNs_wbReturning (k : TKey) (n : Nat) : (s.startTimerNs k n).wbReturning = s.wbReturning := rfl
@[simp] theorem State.startTimerNs_mxOut (k : TKey) (n : Nat) : (s.startTimerNs k n).mxOut = s.mxOut := rfl
@[simp] theorem State.startTimerNs_mxWait (k : TKey) (n : Nat) : (s.startTimerNs k n).mxWait = s.mxWait := rfl
@[simp] theorem State.startTimerNs_msp (k : TKey) (n : Nat) : (s.startTimerNs k n).msp = s.msp := rfl
@[simp] theorem State.startTimerNs_snc (k : TKey) (n : Nat) : (s.startTimerNs k n).snc = s.snc := rfl
@[simp] theorem State.startTimerNs_sncLog (k : TKey) (n : Nat) : (s.startTimerNs k n).sncLog = s.sncLog := rfl
@[simp] theorem State.startTimerNs_sncLost (k : TKey) (n : Nat) : (s.startTimerNs k n).sncLost = s.sncLost := rfl
@[simp] theorem State.startTimerNs_sncStored (k : TKey) (n : Nat) : (s.startTimerNs k n).sncStored = s.sncStored := rfl
@[simp] theorem State.startTimerNs_pm (k : TKey) (n : Nat) : (s.startTimerNs k n).pm = s.pm := rfl
@[simp] theorem State.startTimerNs_pmAuto (k : TKey) (n : Nat) : (s.startTimerNs k n).pmAuto = s.pmAuto := rfl
@[simp] theorem State.startTimerNs_pmAutoCfg (k : TKey) (n : Nat) : (s.startTimerNs k n).pmAutoCfg = s.pmAutoCfg := rfl
@[simp] theorem State.startTimerNs_pmOfs (k : TKey) (n : Nat) : (s.startTimerNs k n).pmOfs = s.pmOfs := rfl
@[simp] theorem State.startTimerNs_pmDue (k : TKey) (n : Nat) : (s.startTimerNs k n).pmDue = s.pmDue := rfl
@[simp] theorem State.startTimerNs_pmQ (k : TKey) (n : Nat) : (s.startTimerNs k n).pmQ = s.pmQ := rfl
@[simp] theorem State.startTimerNs_pmClose (k : TKey) (n : Nat) : (s.startTimerNs k n).pmClose = s.pmClose := rfl
@[simp] theorem State.startTimerNs_tcaLog (k : TKey) (n : Nat) : (s.startTimerNs k n).tcaLog = s.tcaLog := rfl
@[simp] theorem State.startTimerNs_tcaLost (k : TKey) (n : Nat) : (s.startTimerNs k n).tcaLost = s.tcaLost := rfl
@[simp] theorem State.startTimerNs_tcaStored (k : TKey) (n : Nat) : (s.startTimerNs k n).tcaStored = s.tcaStored := rfl
@[simp] theorem State.startTimerNs_sec (k : TKey) (n : Nat) : (s.startTimerNs k n).sec = s.sec := rfl
@[simp] theorem State.startTimerNs_lineOut (k : TKey) (n : Nat) : (s.startTimerNs k n).lineOut = s.lineOut := rfl
@[simp] theorem State.startTimerNs_paths (k : TKey) (n : Nat) : (s.startTimerNs k n).paths = s.paths := rfl
@[simp] theorem State.startTimerNs_structW0 (k : TKey) (n : Nat) : (s.startTimerNs k n).structW0 = s.structW0 := rfl
@[simp] theorem State.startTimerNs_structPend (k : TKey) (n : Nat) : (s.startTimerNs k n).structPend = s.structPend := rfl
@[simp] theorem State.startTimerNs_gens (k : TKey) (n : Nat) : (s.startTimerNs k n).gens = s.gens := rfl
@[simp] theorem State.startTimerNs_hoB3 (k : TKey) (n : Nat) : (s.startTimerNs k n).hoB3 = s.hoB3 := rfl
@[simp] theorem State.startTimerNs_pathInd (k : TKey) (n : Nat) : (s.startTimerNs k n).pathInd = s.pathInd := rfl
@[simp] theorem State.startTimerNs_jrnDirty (k : TKey) (n : Nat) : (s.startTimerNs k n).jrnDirty = s.jrnDirty := rfl
@[simp] theorem State.startTimerNs_jrnLoss (k : TKey) (n : Nat) : (s.startTimerNs k n).jrnLoss = s.jrnLoss := rfl
@[simp] theorem State.startTimerNs_jrnStage (k : TKey) (n : Nat) : (s.startTimerNs k n).jrnStage = s.jrnStage := rfl
@[simp] theorem State.startTimerNs_slabs (k : TKey) (n : Nat) : (s.startTimerNs k n).slabs = s.slabs := rfl
@[simp] theorem State.startTimerNs_spareOn (k : TKey) (n : Nat) : (s.startTimerNs k n).spareOn = s.spareOn := rfl
@[simp] theorem State.startTimerNs_spareLast (k : TKey) (n : Nat) : (s.startTimerNs k n).spareLast = s.spareLast := rfl
@[simp] theorem State.startTimerNs_slabDiag (k : TKey) (n : Nat) : (s.startTimerNs k n).slabDiag = s.slabDiag := rfl
@[simp] theorem State.startTimerNs_txGrains (k : TKey) (n : Nat) : (s.startTimerNs k n).txGrains = s.txGrains := rfl
@[simp] theorem State.startTimerNs_txMarks (k : TKey) (n : Nat) : (s.startTimerNs k n).txMarks = s.txMarks := rfl
@[simp] theorem State.startTimerNs_fabric (k : TKey) (n : Nat) : (s.startTimerNs k n).fabric = s.fabric := rfl
@[simp] theorem State.startTimerNs_tg (k : TKey) (n : Nat) : (s.startTimerNs k n).tg = s.tg := rfl
@[simp] theorem State.startTimerNs_grps (k : TKey) (n : Nat) : (s.startTimerNs k n).grps = s.grps := rfl
@[simp] theorem State.startTimerNs_grpGone (k : TKey) (n : Nat) : (s.startTimerNs k n).grpGone = s.grpGone := rfl
@[simp] theorem State.startTimerNs_grpDirty (k : TKey) (n : Nat) : (s.startTimerNs k n).grpDirty = s.grpDirty := rfl
@[simp] theorem State.startTimerNs_deskew (k : TKey) (n : Nat) : (s.startTimerNs k n).deskew = s.deskew := rfl
@[simp] theorem State.startTimerNs_refEff (k : TKey) (n : Nat) : (s.startTimerNs k n).refEff = s.refEff := rfl
@[simp] theorem State.startTimerNs_refS1 (k : TKey) (n : Nat) : (s.startTimerNs k n).refS1 = s.refS1 := rfl
@[simp] theorem State.startTimerNs_mainHold (k : TKey) (n : Nat) : (s.startTimerNs k n).mainHold = s.mainHold := rfl
@[simp] theorem State.startTimerNs_mainCmdIn (k : TKey) (n : Nat) : (s.startTimerNs k n).mainCmdIn = s.mainCmdIn := rfl
@[simp] theorem State.startTimerNs_hist (k : TKey) (n : Nat) : (s.startTimerNs k n).hist = s.hist := rfl
@[simp] theorem State.startTimerNs_histRun (k : TKey) (n : Nat) : (s.startTimerNs k n).histRun = s.histRun := rfl
@[simp] theorem State.startTimerNs_s1Out (k : TKey) (n : Nat) : (s.startTimerNs k n).s1Out = s.s1Out := rfl
@[simp] theorem State.startTimerNs_s1Next (k : TKey) (n : Nat) : (s.startTimerNs k n).s1Next = s.s1Next := rfl
@[simp] theorem State.startTimerNs_mateS1 (k : TKey) (n : Nat) : (s.startTimerNs k n).mateS1 = s.mateS1 := rfl
@[simp] theorem State.startTimerNs_syncLast (k : TKey) (n : Nat) : (s.startTimerNs k n).syncLast = s.syncLast := rfl
@[simp] theorem State.startTimerNs_syncOk (k : TKey) (n : Nat) : (s.startTimerNs k n).syncOk = s.syncOk := rfl
@[simp] theorem State.startTimerNs_syncOut (k : TKey) (n : Nat) : (s.startTimerNs k n).syncOut = s.syncOut := rfl
@[simp] theorem State.startTimerNs_secUp (k : TKey) (n : Nat) : (s.startTimerNs k n).secUp = s.secUp := rfl
@[simp] theorem State.startTimerNs_drive (k : TKey) (n : Nat) : (s.startTimerNs k n).drive = s.drive := rfl
@[simp] theorem State.startTimerNs_driveAt (k : TKey) (n : Nat) : (s.startTimerNs k n).driveAt = s.driveAt := rfl
@[simp] theorem State.startTimerNs_arbLow (k : TKey) (n : Nat) : (s.startTimerNs k n).arbLow = s.arbLow := rfl
@[simp] theorem State.startTimerNs_hoWaited (k : TKey) (n : Nat) : (s.startTimerNs k n).hoWaited = s.hoWaited := rfl
@[simp] theorem State.startTimerNs_yokeMate (k : TKey) (n : Nat) : (s.startTimerNs k n).yokeMate = s.yokeMate := rfl
@[simp] theorem State.startTimerNs_mateTx (k : TKey) (n : Nat) : (s.startTimerNs k n).mateTx = s.mateTx := rfl
@[simp] theorem State.startTimerNs_shadowRx (k : TKey) (n : Nat) : (s.startTimerNs k n).shadowRx = s.shadowRx := rfl
@[simp] theorem State.startTimerNs_hoTake (k : TKey) (n : Nat) : (s.startTimerNs k n).hoTake = s.hoTake := rfl
@[simp] theorem State.startTimerNs_hoAgreed (k : TKey) (n : Nat) : (s.startTimerNs k n).hoAgreed = s.hoAgreed := rfl
@[simp] theorem State.startTimerNs_hoDone (k : TKey) (n : Nat) : (s.startTimerNs k n).hoDone = s.hoDone := rfl
@[simp] theorem State.startTimerNs_hoOp (k : TKey) (n : Nat) : (s.startTimerNs k n).hoOp = s.hoOp := rfl
@[simp] theorem State.startTimerNs_mateBad (k : TKey) (n : Nat) : (s.startTimerNs k n).mateBad = s.mateBad := rfl
@[simp] theorem State.startTimerNs_mateIdle (k : TKey) (n : Nat) : (s.startTimerNs k n).mateIdle = s.mateIdle := rfl
@[simp] theorem State.startTimerNs_bothAct (k : TKey) (n : Nat) : (s.startTimerNs k n).bothAct = s.bothAct := rfl
@[simp] theorem State.startTimerNs_bothSel (k : TKey) (n : Nat) : (s.startTimerNs k n).bothSel = s.bothSel := rfl
@[simp] theorem State.startTimerNs_mateShadow (k : TKey) (n : Nat) : (s.startTimerNs k n).mateShadow = s.mateShadow := rfl
@[simp] theorem State.startTimerNs_theta (k : TKey) (n : Nat) : (s.startTimerNs k n).theta = s.theta := rfl
@[simp] theorem State.startTimerNs_shadow (k : TKey) (n : Nat) : (s.startTimerNs k n).shadow = s.shadow := rfl
@[simp] theorem State.startTimerNs_skJobs (k : TKey) (n : Nat) : (s.startTimerNs k n).skJobs = s.skJobs := rfl
@[simp] theorem State.startTimerNs_skFetch (k : TKey) (n : Nat) : (s.startTimerNs k n).skFetch = s.skFetch := rfl
@[simp] theorem State.startTimerNs_prbs (k : TKey) (n : Nat) : (s.startTimerNs k n).prbs = s.prbs := rfl
@[simp] theorem State.startTimerNs_prbsDirty (k : TKey) (n : Nat) : (s.startTimerNs k n).prbsDirty = s.prbsDirty := rfl
@[simp] theorem State.startTimerNs_pourJobs (k : TKey) (n : Nat) : (s.startTimerNs k n).pourJobs = s.pourJobs := rfl
@[simp] theorem State.startTimerNs_pourFetch (k : TKey) (n : Nat) : (s.startTimerNs k n).pourFetch = s.pourFetch := rfl
@[simp] theorem State.startTimerNs_calStore (k : TKey) (n : Nat) : (s.startTimerNs k n).calStore = s.calStore := rfl
@[simp] theorem State.startTimerNs_calStage (k : TKey) (n : Nat) : (s.startTimerNs k n).calStage = s.calStage := rfl
@[simp] theorem State.startTimerNs_calRun (k : TKey) (n : Nat) : (s.startTimerNs k n).calRun = s.calRun := rfl
@[simp] theorem State.startTimerNs_calParts (k : TKey) (n : Nat) : (s.startTimerNs k n).calParts = s.calParts := rfl
@[simp] theorem State.startTimerNs_calNew (k : TKey) (n : Nat) : (s.startTimerNs k n).calNew = s.calNew := rfl
@[simp] theorem State.startTimerNs_calBoot (k : TKey) (n : Nat) : (s.startTimerNs k n).calBoot = s.calBoot := rfl
@[simp] theorem State.startTimerNs_eqSet (k : TKey) (n : Nat) : (s.startTimerNs k n).eqSet = s.eqSet := rfl
@[simp] theorem State.startTimerNs_temps (k : TKey) (n : Nat) : (s.startTimerNs k n).temps = s.temps := rfl
@[simp] theorem State.startTimerNs_volt (k : TKey) (n : Nat) : (s.startTimerNs k n).volt = s.volt := rfl
@[simp] theorem State.startTimerNs_aged (k : TKey) (n : Nat) : (s.startTimerNs k n).aged = s.aged := rfl
@[simp] theorem State.startTimerNs_trim (k : TKey) (n : Nat) : (s.startTimerNs k n).trim = s.trim := rfl
@[simp] theorem State.startTimerNs_trace (k : TKey) (n : Nat) : (s.startTimerNs k n).trace = s.trace := rfl
@[simp] theorem State.startTimerNs_serdesBad (k : TKey) (n : Nat) : (s.startTimerNs k n).serdesBad = s.serdesBad := rfl
@[simp] theorem State.startTimerNs_perstLow (k : TKey) (n : Nat) : (s.startTimerNs k n).perstLow = s.perstLow := rfl
@[simp] theorem State.startTimerNs_spiLog (k : TKey) (n : Nat) : (s.startTimerNs k n).spiLog = s.spiLog := rfl
@[simp] theorem State.startTimerNs_spiRun (k : TKey) (n : Nat) : (s.startTimerNs k n).spiRun = s.spiRun := rfl
@[simp] theorem State.startTimerNs_hkNext (k : TKey) (n : Nat) : (s.startTimerNs k n).hkNext = s.hkNext := rfl
@[simp] theorem State.startTimerNs_hkFrom (k : TKey) (n : Nat) : (s.startTimerNs k n).hkFrom = s.hkFrom := rfl
@[simp] theorem State.startTimerNs_hkAsk (k : TKey) (n : Nat) : (s.startTimerNs k n).hkAsk = s.hkAsk := rfl
@[simp] theorem State.startTimerNs_firstClk (k : TKey) (n : Nat) : (s.startTimerNs k n).firstClk = s.firstClk := rfl
@[simp] theorem State.startTimerNs_smbPtr (k : TKey) (n : Nat) : (s.startTimerNs k n).smbPtr = s.smbPtr := rfl
@[simp] theorem State.startTimerNs_tapIr (k : TKey) (n : Nat) : (s.startTimerNs k n).tapIr = s.tapIr := rfl
@[simp] theorem State.startTimerNs_tapIrOut (k : TKey) (n : Nat) : (s.startTimerNs k n).tapIrOut = s.tapIrOut := rfl
@[simp] theorem State.startTimerNs_scan (k : TKey) (n : Nat) : (s.startTimerNs k n).scan = s.scan := rfl
@[simp] theorem State.startTimerNs_toPowerState (k : TKey) (n : Nat) : (s.startTimerNs k n).toPowerState = s.toPowerState := rfl
@[simp] theorem State.startTimerNs_toBenchState (k : TKey) (n : Nat) : (s.startTimerNs k n).toBenchState = s.toBenchState := rfl
@[simp] theorem State.startTimerNs_toMapState (k : TKey) (n : Nat) : (s.startTimerNs k n).toMapState = s.toMapState := rfl
@[simp] theorem State.startTimerNs_toBankState (k : TKey) (n : Nat) : (s.startTimerNs k n).toBankState = s.toBankState := rfl
@[simp] theorem State.startTimerNs_toProtState (k : TKey) (n : Nat) : (s.startTimerNs k n).toProtState = s.toProtState := rfl
@[simp] theorem State.startTimerNs_toPmState (k : TKey) (n : Nat) : (s.startTimerNs k n).toPmState = s.toPmState := rfl
@[simp] theorem State.startTimerNs_toLineState (k : TKey) (n : Nat) : (s.startTimerNs k n).toLineState = s.toLineState := rfl
@[simp] theorem State.startTimerNs_toStoreState (k : TKey) (n : Nat) : (s.startTimerNs k n).toStoreState = s.toStoreState := rfl
@[simp] theorem State.startTimerNs_toGroupState (k : TKey) (n : Nat) : (s.startTimerNs k n).toGroupState = s.toGroupState := rfl
@[simp] theorem State.startTimerNs_toTimeState (k : TKey) (n : Nat) : (s.startTimerNs k n).toTimeState = s.toTimeState := rfl
@[simp] theorem State.startTimerNs_toPairState (k : TKey) (n : Nat) : (s.startTimerNs k n).toPairState = s.toPairState := rfl
@[simp] theorem State.startTimerNs_toSkimState (k : TKey) (n : Nat) : (s.startTimerNs k n).toSkimState = s.toSkimState := rfl
@[simp] theorem State.startTimerNs_toSenseState (k : TKey) (n : Nat) : (s.startTimerNs k n).toSenseState = s.toSenseState := rfl
@[simp] theorem State.startTimerNs_toHostState (k : TKey) (n : Nat) : (s.startTimerNs k n).toHostState = s.toHostState := rfl

@[simp] theorem State.stopTimer_pending (k : TKey) : (s.stopTimer k).pending = s.pending := rfl
@[simp] theorem State.stopTimer_resp (k : TKey) : (s.stopTimer k).resp = s.resp := rfl
@[simp] theorem State.stopTimer_draw (k : TKey) : (s.stopTimer k).draw = s.draw := rfl
@[simp] theorem State.stopTimer_mem (k : TKey) : (s.stopTimer k).mem = s.mem := rfl
@[simp] theorem State.stopTimer_clk (k : TKey) : (s.stopTimer k).clk = s.clk := rfl
@[simp] theorem State.stopTimer_up (k : TKey) : (s.stopTimer k).up = s.up := rfl
@[simp] theorem State.stopTimer_frames (k : TKey) : (s.stopTimer k).frames = s.frames := rfl
@[simp] theorem State.stopTimer_ns (k : TKey) : (s.stopTimer k).ns = s.ns := rfl
@[simp] theorem State.stopTimer_regs (k : TKey) : (s.stopTimer k).regs = s.regs := rfl
@[simp] theorem State.stopTimer_snaps (k : TKey) : (s.stopTimer k).snaps = s.snaps := rfl
@[simp] theorem State.stopTimer_portA (k : TKey) : (s.stopTimer k).portA = s.portA := rfl
@[simp] theorem State.stopTimer_portB (k : TKey) : (s.stopTimer k).portB = s.portB := rfl
@[simp] theorem State.stopTimer_hostWrites (k : TKey) : (s.stopTimer k).hostWrites = s.hostWrites := rfl
@[simp] theorem State.stopTimer_sevOn (k : TKey) : (s.stopTimer k).sevOn = s.sevOn := rfl
@[simp] theorem State.stopTimer_fence (k : TKey) : (s.stopTimer k).fence = s.fence := rfl
@[simp] theorem State.stopTimer_safe (k : TKey) : (s.stopTimer k).safe = s.safe := rfl
@[simp] theorem State.stopTimer_due (k : TKey) : (s.stopTimer k).due = s.due := rfl
@[simp] theorem State.stopTimer_pwr (k : TKey) : (s.stopTimer k).pwr = s.pwr := rfl
@[simp] theorem State.stopTimer_rstLow (k : TKey) : (s.stopTimer k).rstLow = s.rstLow := rfl
@[simp] theorem State.stopTimer_rstHeld (k : TKey) : (s.stopTimer k).rstHeld = s.rstHeld := rfl
@[simp] theorem State.stopTimer_warm (k : TKey) : (s.stopTimer k).warm = s.warm := rfl
@[simp] theorem State.stopTimer_oscIn (k : TKey) : (s.stopTimer k).oscIn = s.oscIn := rfl
@[simp] theorem State.stopTimer_lead (k : TKey) : (s.stopTimer k).lead = s.lead := rfl
@[simp] theorem State.stopTimer_upStart (k : TKey) : (s.stopTimer k).upStart = s.upStart := rfl
@[simp] theorem State.stopTimer_load (k : TKey) : (s.stopTimer k).load = s.load := rfl
@[simp] theorem State.stopTimer_applying (k : TKey) : (s.stopTimer k).applying = s.applying := rfl
@[simp] theorem State.stopTimer_fullActive (k : TKey) : (s.stopTimer k).fullActive = s.fullActive := rfl
@[simp] theorem State.stopTimer_rgFailed (k : TKey) : (s.stopTimer k).rgFailed = s.rgFailed := rfl
@[simp] theorem State.stopTimer_pers (k : TKey) : (s.stopTimer k).pers = s.pers := rfl
@[simp] theorem State.stopTimer_eqPreset (k : TKey) : (s.stopTimer k).eqPreset = s.eqPreset := rfl
@[simp] theorem State.stopTimer_depth (k : TKey) : (s.stopTimer k).depth = s.depth := rfl
@[simp] theorem State.stopTimer_dram (k : TKey) : (s.stopTimer k).dram = s.dram := rfl
@[simp] theorem State.stopTimer_wbDefault (k : TKey) : (s.stopTimer k).wbDefault = s.wbDefault := rfl
@[simp] theorem State.stopTimer_rbForced (k : TKey) : (s.stopTimer k).rbForced = s.rbForced := rfl
@[simp] theorem State.stopTimer_fullForced (k : TKey) : (s.stopTimer k).fullForced = s.fullForced := rfl
@[simp] theorem State.stopTimer_unretire (k : TKey) : (s.stopTimer k).unretire = s.unretire := rfl
@[simp] theorem State.stopTimer_dramBad (k : TKey) : (s.stopTimer k).dramBad = s.dramBad := rfl
@[simp] theorem State.stopTimer_dramTrained (k : TKey) : (s.stopTimer k).dramTrained = s.dramTrained := rfl
@[simp] theorem State.stopTimer_actMap (k : TKey) : (s.stopTimer k).actMap = s.actMap := rfl
@[simp] theorem State.stopTimer_merges (k : TKey) : (s.stopTimer k).merges = s.merges := rfl
@[simp] theorem State.stopTimer_txns (k : TKey) : (s.stopTimer k).txns = s.txns := rfl
@[simp] theorem State.stopTimer_hitAis (k : TKey) : (s.stopTimer k).hitAis = s.hitAis := rfl
@[simp] theorem State.stopTimer_unionHold (k : TKey) : (s.stopTimer k).unionHold = s.unionHold := rfl
@[simp] theorem State.stopTimer_mapDiag (k : TKey) : (s.stopTimer k).mapDiag = s.mapDiag := rfl
@[simp] theorem State.stopTimer_syncing (k : TKey) : (s.stopTimer k).syncing = s.syncing := rfl
@[simp] theorem State.stopTimer_mateOut (k : TKey) : (s.stopTimer k).mateOut = s.mateOut := rfl
@[simp] theorem State.stopTimer_sievePos (k : TKey) : (s.stopTimer k).sievePos = s.sievePos := rfl
@[simp] theorem State.stopTimer_wbNew (k : TKey) : (s.stopTimer k).wbNew = s.wbNew := rfl
@[simp] theorem State.stopTimer_wbWait (k : TKey) : (s.stopTimer k).wbWait = s.wbWait := rfl
@[simp] theorem State.stopTimer_wbLast (k : TKey) : (s.stopTimer k).wbLast = s.wbLast := rfl
@[simp] theorem State.stopTimer_wbReturning (k : TKey) : (s.stopTimer k).wbReturning = s.wbReturning := rfl
@[simp] theorem State.stopTimer_mxOut (k : TKey) : (s.stopTimer k).mxOut = s.mxOut := rfl
@[simp] theorem State.stopTimer_mxWait (k : TKey) : (s.stopTimer k).mxWait = s.mxWait := rfl
@[simp] theorem State.stopTimer_msp (k : TKey) : (s.stopTimer k).msp = s.msp := rfl
@[simp] theorem State.stopTimer_snc (k : TKey) : (s.stopTimer k).snc = s.snc := rfl
@[simp] theorem State.stopTimer_sncLog (k : TKey) : (s.stopTimer k).sncLog = s.sncLog := rfl
@[simp] theorem State.stopTimer_sncLost (k : TKey) : (s.stopTimer k).sncLost = s.sncLost := rfl
@[simp] theorem State.stopTimer_sncStored (k : TKey) : (s.stopTimer k).sncStored = s.sncStored := rfl
@[simp] theorem State.stopTimer_pm (k : TKey) : (s.stopTimer k).pm = s.pm := rfl
@[simp] theorem State.stopTimer_pmAuto (k : TKey) : (s.stopTimer k).pmAuto = s.pmAuto := rfl
@[simp] theorem State.stopTimer_pmAutoCfg (k : TKey) : (s.stopTimer k).pmAutoCfg = s.pmAutoCfg := rfl
@[simp] theorem State.stopTimer_pmOfs (k : TKey) : (s.stopTimer k).pmOfs = s.pmOfs := rfl
@[simp] theorem State.stopTimer_pmDue (k : TKey) : (s.stopTimer k).pmDue = s.pmDue := rfl
@[simp] theorem State.stopTimer_pmQ (k : TKey) : (s.stopTimer k).pmQ = s.pmQ := rfl
@[simp] theorem State.stopTimer_pmClose (k : TKey) : (s.stopTimer k).pmClose = s.pmClose := rfl
@[simp] theorem State.stopTimer_tcaLog (k : TKey) : (s.stopTimer k).tcaLog = s.tcaLog := rfl
@[simp] theorem State.stopTimer_tcaLost (k : TKey) : (s.stopTimer k).tcaLost = s.tcaLost := rfl
@[simp] theorem State.stopTimer_tcaStored (k : TKey) : (s.stopTimer k).tcaStored = s.tcaStored := rfl
@[simp] theorem State.stopTimer_sec (k : TKey) : (s.stopTimer k).sec = s.sec := rfl
@[simp] theorem State.stopTimer_lineOut (k : TKey) : (s.stopTimer k).lineOut = s.lineOut := rfl
@[simp] theorem State.stopTimer_paths (k : TKey) : (s.stopTimer k).paths = s.paths := rfl
@[simp] theorem State.stopTimer_structW0 (k : TKey) : (s.stopTimer k).structW0 = s.structW0 := rfl
@[simp] theorem State.stopTimer_structPend (k : TKey) : (s.stopTimer k).structPend = s.structPend := rfl
@[simp] theorem State.stopTimer_gens (k : TKey) : (s.stopTimer k).gens = s.gens := rfl
@[simp] theorem State.stopTimer_hoB3 (k : TKey) : (s.stopTimer k).hoB3 = s.hoB3 := rfl
@[simp] theorem State.stopTimer_pathInd (k : TKey) : (s.stopTimer k).pathInd = s.pathInd := rfl
@[simp] theorem State.stopTimer_jrnDirty (k : TKey) : (s.stopTimer k).jrnDirty = s.jrnDirty := rfl
@[simp] theorem State.stopTimer_jrnLoss (k : TKey) : (s.stopTimer k).jrnLoss = s.jrnLoss := rfl
@[simp] theorem State.stopTimer_jrnStage (k : TKey) : (s.stopTimer k).jrnStage = s.jrnStage := rfl
@[simp] theorem State.stopTimer_slabs (k : TKey) : (s.stopTimer k).slabs = s.slabs := rfl
@[simp] theorem State.stopTimer_spareOn (k : TKey) : (s.stopTimer k).spareOn = s.spareOn := rfl
@[simp] theorem State.stopTimer_spareLast (k : TKey) : (s.stopTimer k).spareLast = s.spareLast := rfl
@[simp] theorem State.stopTimer_slabDiag (k : TKey) : (s.stopTimer k).slabDiag = s.slabDiag := rfl
@[simp] theorem State.stopTimer_txGrains (k : TKey) : (s.stopTimer k).txGrains = s.txGrains := rfl
@[simp] theorem State.stopTimer_txMarks (k : TKey) : (s.stopTimer k).txMarks = s.txMarks := rfl
@[simp] theorem State.stopTimer_fabric (k : TKey) : (s.stopTimer k).fabric = s.fabric := rfl
@[simp] theorem State.stopTimer_tg (k : TKey) : (s.stopTimer k).tg = s.tg := rfl
@[simp] theorem State.stopTimer_grps (k : TKey) : (s.stopTimer k).grps = s.grps := rfl
@[simp] theorem State.stopTimer_grpGone (k : TKey) : (s.stopTimer k).grpGone = s.grpGone := rfl
@[simp] theorem State.stopTimer_grpDirty (k : TKey) : (s.stopTimer k).grpDirty = s.grpDirty := rfl
@[simp] theorem State.stopTimer_deskew (k : TKey) : (s.stopTimer k).deskew = s.deskew := rfl
@[simp] theorem State.stopTimer_refEff (k : TKey) : (s.stopTimer k).refEff = s.refEff := rfl
@[simp] theorem State.stopTimer_refS1 (k : TKey) : (s.stopTimer k).refS1 = s.refS1 := rfl
@[simp] theorem State.stopTimer_mainHold (k : TKey) : (s.stopTimer k).mainHold = s.mainHold := rfl
@[simp] theorem State.stopTimer_mainCmdIn (k : TKey) : (s.stopTimer k).mainCmdIn = s.mainCmdIn := rfl
@[simp] theorem State.stopTimer_hist (k : TKey) : (s.stopTimer k).hist = s.hist := rfl
@[simp] theorem State.stopTimer_histRun (k : TKey) : (s.stopTimer k).histRun = s.histRun := rfl
@[simp] theorem State.stopTimer_s1Out (k : TKey) : (s.stopTimer k).s1Out = s.s1Out := rfl
@[simp] theorem State.stopTimer_s1Next (k : TKey) : (s.stopTimer k).s1Next = s.s1Next := rfl
@[simp] theorem State.stopTimer_mateS1 (k : TKey) : (s.stopTimer k).mateS1 = s.mateS1 := rfl
@[simp] theorem State.stopTimer_syncLast (k : TKey) : (s.stopTimer k).syncLast = s.syncLast := rfl
@[simp] theorem State.stopTimer_syncOk (k : TKey) : (s.stopTimer k).syncOk = s.syncOk := rfl
@[simp] theorem State.stopTimer_syncOut (k : TKey) : (s.stopTimer k).syncOut = s.syncOut := rfl
@[simp] theorem State.stopTimer_secUp (k : TKey) : (s.stopTimer k).secUp = s.secUp := rfl
@[simp] theorem State.stopTimer_drive (k : TKey) : (s.stopTimer k).drive = s.drive := rfl
@[simp] theorem State.stopTimer_driveAt (k : TKey) : (s.stopTimer k).driveAt = s.driveAt := rfl
@[simp] theorem State.stopTimer_arbLow (k : TKey) : (s.stopTimer k).arbLow = s.arbLow := rfl
@[simp] theorem State.stopTimer_hoWaited (k : TKey) : (s.stopTimer k).hoWaited = s.hoWaited := rfl
@[simp] theorem State.stopTimer_yokeMate (k : TKey) : (s.stopTimer k).yokeMate = s.yokeMate := rfl
@[simp] theorem State.stopTimer_mateTx (k : TKey) : (s.stopTimer k).mateTx = s.mateTx := rfl
@[simp] theorem State.stopTimer_shadowRx (k : TKey) : (s.stopTimer k).shadowRx = s.shadowRx := rfl
@[simp] theorem State.stopTimer_hoTake (k : TKey) : (s.stopTimer k).hoTake = s.hoTake := rfl
@[simp] theorem State.stopTimer_hoAgreed (k : TKey) : (s.stopTimer k).hoAgreed = s.hoAgreed := rfl
@[simp] theorem State.stopTimer_hoDone (k : TKey) : (s.stopTimer k).hoDone = s.hoDone := rfl
@[simp] theorem State.stopTimer_hoOp (k : TKey) : (s.stopTimer k).hoOp = s.hoOp := rfl
@[simp] theorem State.stopTimer_mateBad (k : TKey) : (s.stopTimer k).mateBad = s.mateBad := rfl
@[simp] theorem State.stopTimer_mateIdle (k : TKey) : (s.stopTimer k).mateIdle = s.mateIdle := rfl
@[simp] theorem State.stopTimer_bothAct (k : TKey) : (s.stopTimer k).bothAct = s.bothAct := rfl
@[simp] theorem State.stopTimer_bothSel (k : TKey) : (s.stopTimer k).bothSel = s.bothSel := rfl
@[simp] theorem State.stopTimer_mateShadow (k : TKey) : (s.stopTimer k).mateShadow = s.mateShadow := rfl
@[simp] theorem State.stopTimer_theta (k : TKey) : (s.stopTimer k).theta = s.theta := rfl
@[simp] theorem State.stopTimer_shadow (k : TKey) : (s.stopTimer k).shadow = s.shadow := rfl
@[simp] theorem State.stopTimer_skJobs (k : TKey) : (s.stopTimer k).skJobs = s.skJobs := rfl
@[simp] theorem State.stopTimer_skFetch (k : TKey) : (s.stopTimer k).skFetch = s.skFetch := rfl
@[simp] theorem State.stopTimer_prbs (k : TKey) : (s.stopTimer k).prbs = s.prbs := rfl
@[simp] theorem State.stopTimer_prbsDirty (k : TKey) : (s.stopTimer k).prbsDirty = s.prbsDirty := rfl
@[simp] theorem State.stopTimer_pourJobs (k : TKey) : (s.stopTimer k).pourJobs = s.pourJobs := rfl
@[simp] theorem State.stopTimer_pourFetch (k : TKey) : (s.stopTimer k).pourFetch = s.pourFetch := rfl
@[simp] theorem State.stopTimer_calStore (k : TKey) : (s.stopTimer k).calStore = s.calStore := rfl
@[simp] theorem State.stopTimer_calStage (k : TKey) : (s.stopTimer k).calStage = s.calStage := rfl
@[simp] theorem State.stopTimer_calRun (k : TKey) : (s.stopTimer k).calRun = s.calRun := rfl
@[simp] theorem State.stopTimer_calParts (k : TKey) : (s.stopTimer k).calParts = s.calParts := rfl
@[simp] theorem State.stopTimer_calNew (k : TKey) : (s.stopTimer k).calNew = s.calNew := rfl
@[simp] theorem State.stopTimer_calBoot (k : TKey) : (s.stopTimer k).calBoot = s.calBoot := rfl
@[simp] theorem State.stopTimer_eqSet (k : TKey) : (s.stopTimer k).eqSet = s.eqSet := rfl
@[simp] theorem State.stopTimer_temps (k : TKey) : (s.stopTimer k).temps = s.temps := rfl
@[simp] theorem State.stopTimer_volt (k : TKey) : (s.stopTimer k).volt = s.volt := rfl
@[simp] theorem State.stopTimer_aged (k : TKey) : (s.stopTimer k).aged = s.aged := rfl
@[simp] theorem State.stopTimer_trim (k : TKey) : (s.stopTimer k).trim = s.trim := rfl
@[simp] theorem State.stopTimer_trace (k : TKey) : (s.stopTimer k).trace = s.trace := rfl
@[simp] theorem State.stopTimer_serdesBad (k : TKey) : (s.stopTimer k).serdesBad = s.serdesBad := rfl
@[simp] theorem State.stopTimer_perstLow (k : TKey) : (s.stopTimer k).perstLow = s.perstLow := rfl
@[simp] theorem State.stopTimer_spiLog (k : TKey) : (s.stopTimer k).spiLog = s.spiLog := rfl
@[simp] theorem State.stopTimer_spiRun (k : TKey) : (s.stopTimer k).spiRun = s.spiRun := rfl
@[simp] theorem State.stopTimer_hkNext (k : TKey) : (s.stopTimer k).hkNext = s.hkNext := rfl
@[simp] theorem State.stopTimer_hkFrom (k : TKey) : (s.stopTimer k).hkFrom = s.hkFrom := rfl
@[simp] theorem State.stopTimer_hkAsk (k : TKey) : (s.stopTimer k).hkAsk = s.hkAsk := rfl
@[simp] theorem State.stopTimer_firstClk (k : TKey) : (s.stopTimer k).firstClk = s.firstClk := rfl
@[simp] theorem State.stopTimer_smbPtr (k : TKey) : (s.stopTimer k).smbPtr = s.smbPtr := rfl
@[simp] theorem State.stopTimer_tapIr (k : TKey) : (s.stopTimer k).tapIr = s.tapIr := rfl
@[simp] theorem State.stopTimer_tapIrOut (k : TKey) : (s.stopTimer k).tapIrOut = s.tapIrOut := rfl
@[simp] theorem State.stopTimer_scan (k : TKey) : (s.stopTimer k).scan = s.scan := rfl
@[simp] theorem State.stopTimer_toPowerState (k : TKey) : (s.stopTimer k).toPowerState = s.toPowerState := rfl
@[simp] theorem State.stopTimer_toBenchState (k : TKey) : (s.stopTimer k).toBenchState = s.toBenchState := rfl
@[simp] theorem State.stopTimer_toMapState (k : TKey) : (s.stopTimer k).toMapState = s.toMapState := rfl
@[simp] theorem State.stopTimer_toBankState (k : TKey) : (s.stopTimer k).toBankState = s.toBankState := rfl
@[simp] theorem State.stopTimer_toProtState (k : TKey) : (s.stopTimer k).toProtState = s.toProtState := rfl
@[simp] theorem State.stopTimer_toPmState (k : TKey) : (s.stopTimer k).toPmState = s.toPmState := rfl
@[simp] theorem State.stopTimer_toLineState (k : TKey) : (s.stopTimer k).toLineState = s.toLineState := rfl
@[simp] theorem State.stopTimer_toStoreState (k : TKey) : (s.stopTimer k).toStoreState = s.toStoreState := rfl
@[simp] theorem State.stopTimer_toGroupState (k : TKey) : (s.stopTimer k).toGroupState = s.toGroupState := rfl
@[simp] theorem State.stopTimer_toTimeState (k : TKey) : (s.stopTimer k).toTimeState = s.toTimeState := rfl
@[simp] theorem State.stopTimer_toPairState (k : TKey) : (s.stopTimer k).toPairState = s.toPairState := rfl
@[simp] theorem State.stopTimer_toSkimState (k : TKey) : (s.stopTimer k).toSkimState = s.toSkimState := rfl
@[simp] theorem State.stopTimer_toSenseState (k : TKey) : (s.stopTimer k).toSenseState = s.toSenseState := rfl
@[simp] theorem State.stopTimer_toHostState (k : TKey) : (s.stopTimer k).toHostState = s.toHostState := rfl

@[simp] theorem State.drawn_pending : (s.drawn).pending = s.pending := rfl
@[simp] theorem State.drawn_resp : (s.drawn).resp = s.resp := rfl
@[simp] theorem State.drawn_mem : (s.drawn).mem = s.mem := rfl
@[simp] theorem State.drawn_clk : (s.drawn).clk = s.clk := rfl
@[simp] theorem State.drawn_up : (s.drawn).up = s.up := rfl
@[simp] theorem State.drawn_frames : (s.drawn).frames = s.frames := rfl
@[simp] theorem State.drawn_ns : (s.drawn).ns = s.ns := rfl
@[simp] theorem State.drawn_regs : (s.drawn).regs = s.regs := rfl
@[simp] theorem State.drawn_snaps : (s.drawn).snaps = s.snaps := rfl
@[simp] theorem State.drawn_timers : (s.drawn).timers = s.timers := rfl
@[simp] theorem State.drawn_portA : (s.drawn).portA = s.portA := rfl
@[simp] theorem State.drawn_portB : (s.drawn).portB = s.portB := rfl
@[simp] theorem State.drawn_hostWrites : (s.drawn).hostWrites = s.hostWrites := rfl
@[simp] theorem State.drawn_sevOn : (s.drawn).sevOn = s.sevOn := rfl
@[simp] theorem State.drawn_fence : (s.drawn).fence = s.fence := rfl
@[simp] theorem State.drawn_safe : (s.drawn).safe = s.safe := rfl
@[simp] theorem State.drawn_due : (s.drawn).due = s.due := rfl
@[simp] theorem State.drawn_pwr : (s.drawn).pwr = s.pwr := rfl
@[simp] theorem State.drawn_rstLow : (s.drawn).rstLow = s.rstLow := rfl
@[simp] theorem State.drawn_rstHeld : (s.drawn).rstHeld = s.rstHeld := rfl
@[simp] theorem State.drawn_warm : (s.drawn).warm = s.warm := rfl
@[simp] theorem State.drawn_oscIn : (s.drawn).oscIn = s.oscIn := rfl
@[simp] theorem State.drawn_lead : (s.drawn).lead = s.lead := rfl
@[simp] theorem State.drawn_upStart : (s.drawn).upStart = s.upStart := rfl
@[simp] theorem State.drawn_load : (s.drawn).load = s.load := rfl
@[simp] theorem State.drawn_applying : (s.drawn).applying = s.applying := rfl
@[simp] theorem State.drawn_fullActive : (s.drawn).fullActive = s.fullActive := rfl
@[simp] theorem State.drawn_rgFailed : (s.drawn).rgFailed = s.rgFailed := rfl
@[simp] theorem State.drawn_pers : (s.drawn).pers = s.pers := rfl
@[simp] theorem State.drawn_eqPreset : (s.drawn).eqPreset = s.eqPreset := rfl
@[simp] theorem State.drawn_depth : (s.drawn).depth = s.depth := rfl
@[simp] theorem State.drawn_dram : (s.drawn).dram = s.dram := rfl
@[simp] theorem State.drawn_wbDefault : (s.drawn).wbDefault = s.wbDefault := rfl
@[simp] theorem State.drawn_rbForced : (s.drawn).rbForced = s.rbForced := rfl
@[simp] theorem State.drawn_fullForced : (s.drawn).fullForced = s.fullForced := rfl
@[simp] theorem State.drawn_unretire : (s.drawn).unretire = s.unretire := rfl
@[simp] theorem State.drawn_dramBad : (s.drawn).dramBad = s.dramBad := rfl
@[simp] theorem State.drawn_dramTrained : (s.drawn).dramTrained = s.dramTrained := rfl
@[simp] theorem State.drawn_actMap : (s.drawn).actMap = s.actMap := rfl
@[simp] theorem State.drawn_merges : (s.drawn).merges = s.merges := rfl
@[simp] theorem State.drawn_txns : (s.drawn).txns = s.txns := rfl
@[simp] theorem State.drawn_hitAis : (s.drawn).hitAis = s.hitAis := rfl
@[simp] theorem State.drawn_unionHold : (s.drawn).unionHold = s.unionHold := rfl
@[simp] theorem State.drawn_mapDiag : (s.drawn).mapDiag = s.mapDiag := rfl
@[simp] theorem State.drawn_syncing : (s.drawn).syncing = s.syncing := rfl
@[simp] theorem State.drawn_mateOut : (s.drawn).mateOut = s.mateOut := rfl
@[simp] theorem State.drawn_sievePos : (s.drawn).sievePos = s.sievePos := rfl
@[simp] theorem State.drawn_wbNew : (s.drawn).wbNew = s.wbNew := rfl
@[simp] theorem State.drawn_wbWait : (s.drawn).wbWait = s.wbWait := rfl
@[simp] theorem State.drawn_wbLast : (s.drawn).wbLast = s.wbLast := rfl
@[simp] theorem State.drawn_wbReturning : (s.drawn).wbReturning = s.wbReturning := rfl
@[simp] theorem State.drawn_mxOut : (s.drawn).mxOut = s.mxOut := rfl
@[simp] theorem State.drawn_mxWait : (s.drawn).mxWait = s.mxWait := rfl
@[simp] theorem State.drawn_msp : (s.drawn).msp = s.msp := rfl
@[simp] theorem State.drawn_snc : (s.drawn).snc = s.snc := rfl
@[simp] theorem State.drawn_sncLog : (s.drawn).sncLog = s.sncLog := rfl
@[simp] theorem State.drawn_sncLost : (s.drawn).sncLost = s.sncLost := rfl
@[simp] theorem State.drawn_sncStored : (s.drawn).sncStored = s.sncStored := rfl
@[simp] theorem State.drawn_pm : (s.drawn).pm = s.pm := rfl
@[simp] theorem State.drawn_pmAuto : (s.drawn).pmAuto = s.pmAuto := rfl
@[simp] theorem State.drawn_pmAutoCfg : (s.drawn).pmAutoCfg = s.pmAutoCfg := rfl
@[simp] theorem State.drawn_pmOfs : (s.drawn).pmOfs = s.pmOfs := rfl
@[simp] theorem State.drawn_pmDue : (s.drawn).pmDue = s.pmDue := rfl
@[simp] theorem State.drawn_pmQ : (s.drawn).pmQ = s.pmQ := rfl
@[simp] theorem State.drawn_pmClose : (s.drawn).pmClose = s.pmClose := rfl
@[simp] theorem State.drawn_tcaLog : (s.drawn).tcaLog = s.tcaLog := rfl
@[simp] theorem State.drawn_tcaLost : (s.drawn).tcaLost = s.tcaLost := rfl
@[simp] theorem State.drawn_tcaStored : (s.drawn).tcaStored = s.tcaStored := rfl
@[simp] theorem State.drawn_sec : (s.drawn).sec = s.sec := rfl
@[simp] theorem State.drawn_lineOut : (s.drawn).lineOut = s.lineOut := rfl
@[simp] theorem State.drawn_paths : (s.drawn).paths = s.paths := rfl
@[simp] theorem State.drawn_structW0 : (s.drawn).structW0 = s.structW0 := rfl
@[simp] theorem State.drawn_structPend : (s.drawn).structPend = s.structPend := rfl
@[simp] theorem State.drawn_gens : (s.drawn).gens = s.gens := rfl
@[simp] theorem State.drawn_hoB3 : (s.drawn).hoB3 = s.hoB3 := rfl
@[simp] theorem State.drawn_pathInd : (s.drawn).pathInd = s.pathInd := rfl
@[simp] theorem State.drawn_jrnDirty : (s.drawn).jrnDirty = s.jrnDirty := rfl
@[simp] theorem State.drawn_jrnLoss : (s.drawn).jrnLoss = s.jrnLoss := rfl
@[simp] theorem State.drawn_jrnStage : (s.drawn).jrnStage = s.jrnStage := rfl
@[simp] theorem State.drawn_slabs : (s.drawn).slabs = s.slabs := rfl
@[simp] theorem State.drawn_spareOn : (s.drawn).spareOn = s.spareOn := rfl
@[simp] theorem State.drawn_spareLast : (s.drawn).spareLast = s.spareLast := rfl
@[simp] theorem State.drawn_slabDiag : (s.drawn).slabDiag = s.slabDiag := rfl
@[simp] theorem State.drawn_txGrains : (s.drawn).txGrains = s.txGrains := rfl
@[simp] theorem State.drawn_txMarks : (s.drawn).txMarks = s.txMarks := rfl
@[simp] theorem State.drawn_fabric : (s.drawn).fabric = s.fabric := rfl
@[simp] theorem State.drawn_tg : (s.drawn).tg = s.tg := rfl
@[simp] theorem State.drawn_grps : (s.drawn).grps = s.grps := rfl
@[simp] theorem State.drawn_grpGone : (s.drawn).grpGone = s.grpGone := rfl
@[simp] theorem State.drawn_grpDirty : (s.drawn).grpDirty = s.grpDirty := rfl
@[simp] theorem State.drawn_deskew : (s.drawn).deskew = s.deskew := rfl
@[simp] theorem State.drawn_refEff : (s.drawn).refEff = s.refEff := rfl
@[simp] theorem State.drawn_refS1 : (s.drawn).refS1 = s.refS1 := rfl
@[simp] theorem State.drawn_mainHold : (s.drawn).mainHold = s.mainHold := rfl
@[simp] theorem State.drawn_mainCmdIn : (s.drawn).mainCmdIn = s.mainCmdIn := rfl
@[simp] theorem State.drawn_hist : (s.drawn).hist = s.hist := rfl
@[simp] theorem State.drawn_histRun : (s.drawn).histRun = s.histRun := rfl
@[simp] theorem State.drawn_s1Out : (s.drawn).s1Out = s.s1Out := rfl
@[simp] theorem State.drawn_s1Next : (s.drawn).s1Next = s.s1Next := rfl
@[simp] theorem State.drawn_mateS1 : (s.drawn).mateS1 = s.mateS1 := rfl
@[simp] theorem State.drawn_syncLast : (s.drawn).syncLast = s.syncLast := rfl
@[simp] theorem State.drawn_syncOk : (s.drawn).syncOk = s.syncOk := rfl
@[simp] theorem State.drawn_syncOut : (s.drawn).syncOut = s.syncOut := rfl
@[simp] theorem State.drawn_secUp : (s.drawn).secUp = s.secUp := rfl
@[simp] theorem State.drawn_drive : (s.drawn).drive = s.drive := rfl
@[simp] theorem State.drawn_driveAt : (s.drawn).driveAt = s.driveAt := rfl
@[simp] theorem State.drawn_arbLow : (s.drawn).arbLow = s.arbLow := rfl
@[simp] theorem State.drawn_hoWaited : (s.drawn).hoWaited = s.hoWaited := rfl
@[simp] theorem State.drawn_yokeMate : (s.drawn).yokeMate = s.yokeMate := rfl
@[simp] theorem State.drawn_mateTx : (s.drawn).mateTx = s.mateTx := rfl
@[simp] theorem State.drawn_shadowRx : (s.drawn).shadowRx = s.shadowRx := rfl
@[simp] theorem State.drawn_hoTake : (s.drawn).hoTake = s.hoTake := rfl
@[simp] theorem State.drawn_hoAgreed : (s.drawn).hoAgreed = s.hoAgreed := rfl
@[simp] theorem State.drawn_hoDone : (s.drawn).hoDone = s.hoDone := rfl
@[simp] theorem State.drawn_hoOp : (s.drawn).hoOp = s.hoOp := rfl
@[simp] theorem State.drawn_mateBad : (s.drawn).mateBad = s.mateBad := rfl
@[simp] theorem State.drawn_mateIdle : (s.drawn).mateIdle = s.mateIdle := rfl
@[simp] theorem State.drawn_bothAct : (s.drawn).bothAct = s.bothAct := rfl
@[simp] theorem State.drawn_bothSel : (s.drawn).bothSel = s.bothSel := rfl
@[simp] theorem State.drawn_mateShadow : (s.drawn).mateShadow = s.mateShadow := rfl
@[simp] theorem State.drawn_theta : (s.drawn).theta = s.theta := rfl
@[simp] theorem State.drawn_shadow : (s.drawn).shadow = s.shadow := rfl
@[simp] theorem State.drawn_skJobs : (s.drawn).skJobs = s.skJobs := rfl
@[simp] theorem State.drawn_skFetch : (s.drawn).skFetch = s.skFetch := rfl
@[simp] theorem State.drawn_prbs : (s.drawn).prbs = s.prbs := rfl
@[simp] theorem State.drawn_prbsDirty : (s.drawn).prbsDirty = s.prbsDirty := rfl
@[simp] theorem State.drawn_pourJobs : (s.drawn).pourJobs = s.pourJobs := rfl
@[simp] theorem State.drawn_pourFetch : (s.drawn).pourFetch = s.pourFetch := rfl
@[simp] theorem State.drawn_calStore : (s.drawn).calStore = s.calStore := rfl
@[simp] theorem State.drawn_calStage : (s.drawn).calStage = s.calStage := rfl
@[simp] theorem State.drawn_calRun : (s.drawn).calRun = s.calRun := rfl
@[simp] theorem State.drawn_calParts : (s.drawn).calParts = s.calParts := rfl
@[simp] theorem State.drawn_calNew : (s.drawn).calNew = s.calNew := rfl
@[simp] theorem State.drawn_calBoot : (s.drawn).calBoot = s.calBoot := rfl
@[simp] theorem State.drawn_eqSet : (s.drawn).eqSet = s.eqSet := rfl
@[simp] theorem State.drawn_temps : (s.drawn).temps = s.temps := rfl
@[simp] theorem State.drawn_volt : (s.drawn).volt = s.volt := rfl
@[simp] theorem State.drawn_aged : (s.drawn).aged = s.aged := rfl
@[simp] theorem State.drawn_trim : (s.drawn).trim = s.trim := rfl
@[simp] theorem State.drawn_trace : (s.drawn).trace = s.trace := rfl
@[simp] theorem State.drawn_serdesBad : (s.drawn).serdesBad = s.serdesBad := rfl
@[simp] theorem State.drawn_perstLow : (s.drawn).perstLow = s.perstLow := rfl
@[simp] theorem State.drawn_spiLog : (s.drawn).spiLog = s.spiLog := rfl
@[simp] theorem State.drawn_spiRun : (s.drawn).spiRun = s.spiRun := rfl
@[simp] theorem State.drawn_hkNext : (s.drawn).hkNext = s.hkNext := rfl
@[simp] theorem State.drawn_hkFrom : (s.drawn).hkFrom = s.hkFrom := rfl
@[simp] theorem State.drawn_hkAsk : (s.drawn).hkAsk = s.hkAsk := rfl
@[simp] theorem State.drawn_firstClk : (s.drawn).firstClk = s.firstClk := rfl
@[simp] theorem State.drawn_smbPtr : (s.drawn).smbPtr = s.smbPtr := rfl
@[simp] theorem State.drawn_tapIr : (s.drawn).tapIr = s.tapIr := rfl
@[simp] theorem State.drawn_tapIrOut : (s.drawn).tapIrOut = s.tapIrOut := rfl
@[simp] theorem State.drawn_scan : (s.drawn).scan = s.scan := rfl
@[simp] theorem State.drawn_toPowerState : (s.drawn).toPowerState = s.toPowerState := rfl
@[simp] theorem State.drawn_toBenchState : (s.drawn).toBenchState = s.toBenchState := rfl
@[simp] theorem State.drawn_toMapState : (s.drawn).toMapState = s.toMapState := rfl
@[simp] theorem State.drawn_toBankState : (s.drawn).toBankState = s.toBankState := rfl
@[simp] theorem State.drawn_toProtState : (s.drawn).toProtState = s.toProtState := rfl
@[simp] theorem State.drawn_toPmState : (s.drawn).toPmState = s.toPmState := rfl
@[simp] theorem State.drawn_toLineState : (s.drawn).toLineState = s.toLineState := rfl
@[simp] theorem State.drawn_toStoreState : (s.drawn).toStoreState = s.toStoreState := rfl
@[simp] theorem State.drawn_toGroupState : (s.drawn).toGroupState = s.toGroupState := rfl
@[simp] theorem State.drawn_toTimeState : (s.drawn).toTimeState = s.toTimeState := rfl
@[simp] theorem State.drawn_toPairState : (s.drawn).toPairState = s.toPairState := rfl
@[simp] theorem State.drawn_toSkimState : (s.drawn).toSkimState = s.toSkimState := rfl
@[simp] theorem State.drawn_toSenseState : (s.drawn).toSenseState = s.toSenseState := rfl
@[simp] theorem State.drawn_toHostState : (s.drawn).toHostState = s.toHostState := rfl

@[simp] theorem State.answer_pending (c : Completion) : (s.answer c).pending = s.pending := rfl
@[simp] theorem State.answer_draw (c : Completion) : (s.answer c).draw = s.draw := rfl
@[simp] theorem State.answer_mem (c : Completion) : (s.answer c).mem = s.mem := rfl
@[simp] theorem State.answer_clk (c : Completion) : (s.answer c).clk = s.clk := rfl
@[simp] theorem State.answer_up (c : Completion) : (s.answer c).up = s.up := rfl
@[simp] theorem State.answer_frames (c : Completion) : (s.answer c).frames = s.frames := rfl
@[simp] theorem State.answer_ns (c : Completion) : (s.answer c).ns = s.ns := rfl
@[simp] theorem State.answer_regs (c : Completion) : (s.answer c).regs = s.regs := rfl
@[simp] theorem State.answer_snaps (c : Completion) : (s.answer c).snaps = s.snaps := rfl
@[simp] theorem State.answer_timers (c : Completion) : (s.answer c).timers = s.timers := rfl
@[simp] theorem State.answer_portA (c : Completion) : (s.answer c).portA = s.portA := rfl
@[simp] theorem State.answer_portB (c : Completion) : (s.answer c).portB = s.portB := rfl
@[simp] theorem State.answer_hostWrites (c : Completion) : (s.answer c).hostWrites = s.hostWrites := rfl
@[simp] theorem State.answer_sevOn (c : Completion) : (s.answer c).sevOn = s.sevOn := rfl
@[simp] theorem State.answer_fence (c : Completion) : (s.answer c).fence = s.fence := rfl
@[simp] theorem State.answer_safe (c : Completion) : (s.answer c).safe = s.safe := rfl
@[simp] theorem State.answer_due (c : Completion) : (s.answer c).due = s.due := rfl
@[simp] theorem State.answer_pwr (c : Completion) : (s.answer c).pwr = s.pwr := rfl
@[simp] theorem State.answer_rstLow (c : Completion) : (s.answer c).rstLow = s.rstLow := rfl
@[simp] theorem State.answer_rstHeld (c : Completion) : (s.answer c).rstHeld = s.rstHeld := rfl
@[simp] theorem State.answer_warm (c : Completion) : (s.answer c).warm = s.warm := rfl
@[simp] theorem State.answer_oscIn (c : Completion) : (s.answer c).oscIn = s.oscIn := rfl
@[simp] theorem State.answer_lead (c : Completion) : (s.answer c).lead = s.lead := rfl
@[simp] theorem State.answer_upStart (c : Completion) : (s.answer c).upStart = s.upStart := rfl
@[simp] theorem State.answer_load (c : Completion) : (s.answer c).load = s.load := rfl
@[simp] theorem State.answer_applying (c : Completion) : (s.answer c).applying = s.applying := rfl
@[simp] theorem State.answer_fullActive (c : Completion) : (s.answer c).fullActive = s.fullActive := rfl
@[simp] theorem State.answer_rgFailed (c : Completion) : (s.answer c).rgFailed = s.rgFailed := rfl
@[simp] theorem State.answer_pers (c : Completion) : (s.answer c).pers = s.pers := rfl
@[simp] theorem State.answer_eqPreset (c : Completion) : (s.answer c).eqPreset = s.eqPreset := rfl
@[simp] theorem State.answer_depth (c : Completion) : (s.answer c).depth = s.depth := rfl
@[simp] theorem State.answer_dram (c : Completion) : (s.answer c).dram = s.dram := rfl
@[simp] theorem State.answer_wbDefault (c : Completion) : (s.answer c).wbDefault = s.wbDefault := rfl
@[simp] theorem State.answer_rbForced (c : Completion) : (s.answer c).rbForced = s.rbForced := rfl
@[simp] theorem State.answer_fullForced (c : Completion) : (s.answer c).fullForced = s.fullForced := rfl
@[simp] theorem State.answer_unretire (c : Completion) : (s.answer c).unretire = s.unretire := rfl
@[simp] theorem State.answer_dramBad (c : Completion) : (s.answer c).dramBad = s.dramBad := rfl
@[simp] theorem State.answer_dramTrained (c : Completion) : (s.answer c).dramTrained = s.dramTrained := rfl
@[simp] theorem State.answer_actMap (c : Completion) : (s.answer c).actMap = s.actMap := rfl
@[simp] theorem State.answer_merges (c : Completion) : (s.answer c).merges = s.merges := rfl
@[simp] theorem State.answer_txns (c : Completion) : (s.answer c).txns = s.txns := rfl
@[simp] theorem State.answer_hitAis (c : Completion) : (s.answer c).hitAis = s.hitAis := rfl
@[simp] theorem State.answer_unionHold (c : Completion) : (s.answer c).unionHold = s.unionHold := rfl
@[simp] theorem State.answer_mapDiag (c : Completion) : (s.answer c).mapDiag = s.mapDiag := rfl
@[simp] theorem State.answer_syncing (c : Completion) : (s.answer c).syncing = s.syncing := rfl
@[simp] theorem State.answer_mateOut (c : Completion) : (s.answer c).mateOut = s.mateOut := rfl
@[simp] theorem State.answer_sievePos (c : Completion) : (s.answer c).sievePos = s.sievePos := rfl
@[simp] theorem State.answer_wbNew (c : Completion) : (s.answer c).wbNew = s.wbNew := rfl
@[simp] theorem State.answer_wbWait (c : Completion) : (s.answer c).wbWait = s.wbWait := rfl
@[simp] theorem State.answer_wbLast (c : Completion) : (s.answer c).wbLast = s.wbLast := rfl
@[simp] theorem State.answer_wbReturning (c : Completion) : (s.answer c).wbReturning = s.wbReturning := rfl
@[simp] theorem State.answer_mxOut (c : Completion) : (s.answer c).mxOut = s.mxOut := rfl
@[simp] theorem State.answer_mxWait (c : Completion) : (s.answer c).mxWait = s.mxWait := rfl
@[simp] theorem State.answer_msp (c : Completion) : (s.answer c).msp = s.msp := rfl
@[simp] theorem State.answer_snc (c : Completion) : (s.answer c).snc = s.snc := rfl
@[simp] theorem State.answer_sncLog (c : Completion) : (s.answer c).sncLog = s.sncLog := rfl
@[simp] theorem State.answer_sncLost (c : Completion) : (s.answer c).sncLost = s.sncLost := rfl
@[simp] theorem State.answer_sncStored (c : Completion) : (s.answer c).sncStored = s.sncStored := rfl
@[simp] theorem State.answer_pm (c : Completion) : (s.answer c).pm = s.pm := rfl
@[simp] theorem State.answer_pmAuto (c : Completion) : (s.answer c).pmAuto = s.pmAuto := rfl
@[simp] theorem State.answer_pmAutoCfg (c : Completion) : (s.answer c).pmAutoCfg = s.pmAutoCfg := rfl
@[simp] theorem State.answer_pmOfs (c : Completion) : (s.answer c).pmOfs = s.pmOfs := rfl
@[simp] theorem State.answer_pmDue (c : Completion) : (s.answer c).pmDue = s.pmDue := rfl
@[simp] theorem State.answer_pmQ (c : Completion) : (s.answer c).pmQ = s.pmQ := rfl
@[simp] theorem State.answer_pmClose (c : Completion) : (s.answer c).pmClose = s.pmClose := rfl
@[simp] theorem State.answer_tcaLog (c : Completion) : (s.answer c).tcaLog = s.tcaLog := rfl
@[simp] theorem State.answer_tcaLost (c : Completion) : (s.answer c).tcaLost = s.tcaLost := rfl
@[simp] theorem State.answer_tcaStored (c : Completion) : (s.answer c).tcaStored = s.tcaStored := rfl
@[simp] theorem State.answer_sec (c : Completion) : (s.answer c).sec = s.sec := rfl
@[simp] theorem State.answer_lineOut (c : Completion) : (s.answer c).lineOut = s.lineOut := rfl
@[simp] theorem State.answer_paths (c : Completion) : (s.answer c).paths = s.paths := rfl
@[simp] theorem State.answer_structW0 (c : Completion) : (s.answer c).structW0 = s.structW0 := rfl
@[simp] theorem State.answer_structPend (c : Completion) : (s.answer c).structPend = s.structPend := rfl
@[simp] theorem State.answer_gens (c : Completion) : (s.answer c).gens = s.gens := rfl
@[simp] theorem State.answer_hoB3 (c : Completion) : (s.answer c).hoB3 = s.hoB3 := rfl
@[simp] theorem State.answer_pathInd (c : Completion) : (s.answer c).pathInd = s.pathInd := rfl
@[simp] theorem State.answer_jrnDirty (c : Completion) : (s.answer c).jrnDirty = s.jrnDirty := rfl
@[simp] theorem State.answer_jrnLoss (c : Completion) : (s.answer c).jrnLoss = s.jrnLoss := rfl
@[simp] theorem State.answer_jrnStage (c : Completion) : (s.answer c).jrnStage = s.jrnStage := rfl
@[simp] theorem State.answer_slabs (c : Completion) : (s.answer c).slabs = s.slabs := rfl
@[simp] theorem State.answer_spareOn (c : Completion) : (s.answer c).spareOn = s.spareOn := rfl
@[simp] theorem State.answer_spareLast (c : Completion) : (s.answer c).spareLast = s.spareLast := rfl
@[simp] theorem State.answer_slabDiag (c : Completion) : (s.answer c).slabDiag = s.slabDiag := rfl
@[simp] theorem State.answer_txGrains (c : Completion) : (s.answer c).txGrains = s.txGrains := rfl
@[simp] theorem State.answer_txMarks (c : Completion) : (s.answer c).txMarks = s.txMarks := rfl
@[simp] theorem State.answer_fabric (c : Completion) : (s.answer c).fabric = s.fabric := rfl
@[simp] theorem State.answer_tg (c : Completion) : (s.answer c).tg = s.tg := rfl
@[simp] theorem State.answer_grps (c : Completion) : (s.answer c).grps = s.grps := rfl
@[simp] theorem State.answer_grpGone (c : Completion) : (s.answer c).grpGone = s.grpGone := rfl
@[simp] theorem State.answer_grpDirty (c : Completion) : (s.answer c).grpDirty = s.grpDirty := rfl
@[simp] theorem State.answer_deskew (c : Completion) : (s.answer c).deskew = s.deskew := rfl
@[simp] theorem State.answer_refEff (c : Completion) : (s.answer c).refEff = s.refEff := rfl
@[simp] theorem State.answer_refS1 (c : Completion) : (s.answer c).refS1 = s.refS1 := rfl
@[simp] theorem State.answer_mainHold (c : Completion) : (s.answer c).mainHold = s.mainHold := rfl
@[simp] theorem State.answer_mainCmdIn (c : Completion) : (s.answer c).mainCmdIn = s.mainCmdIn := rfl
@[simp] theorem State.answer_hist (c : Completion) : (s.answer c).hist = s.hist := rfl
@[simp] theorem State.answer_histRun (c : Completion) : (s.answer c).histRun = s.histRun := rfl
@[simp] theorem State.answer_s1Out (c : Completion) : (s.answer c).s1Out = s.s1Out := rfl
@[simp] theorem State.answer_s1Next (c : Completion) : (s.answer c).s1Next = s.s1Next := rfl
@[simp] theorem State.answer_mateS1 (c : Completion) : (s.answer c).mateS1 = s.mateS1 := rfl
@[simp] theorem State.answer_syncLast (c : Completion) : (s.answer c).syncLast = s.syncLast := rfl
@[simp] theorem State.answer_syncOk (c : Completion) : (s.answer c).syncOk = s.syncOk := rfl
@[simp] theorem State.answer_syncOut (c : Completion) : (s.answer c).syncOut = s.syncOut := rfl
@[simp] theorem State.answer_secUp (c : Completion) : (s.answer c).secUp = s.secUp := rfl
@[simp] theorem State.answer_drive (c : Completion) : (s.answer c).drive = s.drive := rfl
@[simp] theorem State.answer_driveAt (c : Completion) : (s.answer c).driveAt = s.driveAt := rfl
@[simp] theorem State.answer_arbLow (c : Completion) : (s.answer c).arbLow = s.arbLow := rfl
@[simp] theorem State.answer_hoWaited (c : Completion) : (s.answer c).hoWaited = s.hoWaited := rfl
@[simp] theorem State.answer_yokeMate (c : Completion) : (s.answer c).yokeMate = s.yokeMate := rfl
@[simp] theorem State.answer_mateTx (c : Completion) : (s.answer c).mateTx = s.mateTx := rfl
@[simp] theorem State.answer_shadowRx (c : Completion) : (s.answer c).shadowRx = s.shadowRx := rfl
@[simp] theorem State.answer_hoTake (c : Completion) : (s.answer c).hoTake = s.hoTake := rfl
@[simp] theorem State.answer_hoAgreed (c : Completion) : (s.answer c).hoAgreed = s.hoAgreed := rfl
@[simp] theorem State.answer_hoDone (c : Completion) : (s.answer c).hoDone = s.hoDone := rfl
@[simp] theorem State.answer_hoOp (c : Completion) : (s.answer c).hoOp = s.hoOp := rfl
@[simp] theorem State.answer_mateBad (c : Completion) : (s.answer c).mateBad = s.mateBad := rfl
@[simp] theorem State.answer_mateIdle (c : Completion) : (s.answer c).mateIdle = s.mateIdle := rfl
@[simp] theorem State.answer_bothAct (c : Completion) : (s.answer c).bothAct = s.bothAct := rfl
@[simp] theorem State.answer_bothSel (c : Completion) : (s.answer c).bothSel = s.bothSel := rfl
@[simp] theorem State.answer_mateShadow (c : Completion) : (s.answer c).mateShadow = s.mateShadow := rfl
@[simp] theorem State.answer_theta (c : Completion) : (s.answer c).theta = s.theta := rfl
@[simp] theorem State.answer_shadow (c : Completion) : (s.answer c).shadow = s.shadow := rfl
@[simp] theorem State.answer_skJobs (c : Completion) : (s.answer c).skJobs = s.skJobs := rfl
@[simp] theorem State.answer_skFetch (c : Completion) : (s.answer c).skFetch = s.skFetch := rfl
@[simp] theorem State.answer_prbs (c : Completion) : (s.answer c).prbs = s.prbs := rfl
@[simp] theorem State.answer_prbsDirty (c : Completion) : (s.answer c).prbsDirty = s.prbsDirty := rfl
@[simp] theorem State.answer_pourJobs (c : Completion) : (s.answer c).pourJobs = s.pourJobs := rfl
@[simp] theorem State.answer_pourFetch (c : Completion) : (s.answer c).pourFetch = s.pourFetch := rfl
@[simp] theorem State.answer_calStore (c : Completion) : (s.answer c).calStore = s.calStore := rfl
@[simp] theorem State.answer_calStage (c : Completion) : (s.answer c).calStage = s.calStage := rfl
@[simp] theorem State.answer_calRun (c : Completion) : (s.answer c).calRun = s.calRun := rfl
@[simp] theorem State.answer_calParts (c : Completion) : (s.answer c).calParts = s.calParts := rfl
@[simp] theorem State.answer_calNew (c : Completion) : (s.answer c).calNew = s.calNew := rfl
@[simp] theorem State.answer_calBoot (c : Completion) : (s.answer c).calBoot = s.calBoot := rfl
@[simp] theorem State.answer_eqSet (c : Completion) : (s.answer c).eqSet = s.eqSet := rfl
@[simp] theorem State.answer_temps (c : Completion) : (s.answer c).temps = s.temps := rfl
@[simp] theorem State.answer_volt (c : Completion) : (s.answer c).volt = s.volt := rfl
@[simp] theorem State.answer_aged (c : Completion) : (s.answer c).aged = s.aged := rfl
@[simp] theorem State.answer_trim (c : Completion) : (s.answer c).trim = s.trim := rfl
@[simp] theorem State.answer_trace (c : Completion) : (s.answer c).trace = s.trace := rfl
@[simp] theorem State.answer_serdesBad (c : Completion) : (s.answer c).serdesBad = s.serdesBad := rfl
@[simp] theorem State.answer_perstLow (c : Completion) : (s.answer c).perstLow = s.perstLow := rfl
@[simp] theorem State.answer_spiLog (c : Completion) : (s.answer c).spiLog = s.spiLog := rfl
@[simp] theorem State.answer_spiRun (c : Completion) : (s.answer c).spiRun = s.spiRun := rfl
@[simp] theorem State.answer_hkNext (c : Completion) : (s.answer c).hkNext = s.hkNext := rfl
@[simp] theorem State.answer_hkFrom (c : Completion) : (s.answer c).hkFrom = s.hkFrom := rfl
@[simp] theorem State.answer_hkAsk (c : Completion) : (s.answer c).hkAsk = s.hkAsk := rfl
@[simp] theorem State.answer_firstClk (c : Completion) : (s.answer c).firstClk = s.firstClk := rfl
@[simp] theorem State.answer_smbPtr (c : Completion) : (s.answer c).smbPtr = s.smbPtr := rfl
@[simp] theorem State.answer_tapIr (c : Completion) : (s.answer c).tapIr = s.tapIr := rfl
@[simp] theorem State.answer_tapIrOut (c : Completion) : (s.answer c).tapIrOut = s.tapIrOut := rfl
@[simp] theorem State.answer_scan (c : Completion) : (s.answer c).scan = s.scan := rfl
@[simp] theorem State.answer_toPowerState (c : Completion) : (s.answer c).toPowerState = s.toPowerState := rfl
@[simp] theorem State.answer_toBenchState (c : Completion) : (s.answer c).toBenchState = s.toBenchState := rfl
@[simp] theorem State.answer_toMapState (c : Completion) : (s.answer c).toMapState = s.toMapState := rfl
@[simp] theorem State.answer_toBankState (c : Completion) : (s.answer c).toBankState = s.toBankState := rfl
@[simp] theorem State.answer_toProtState (c : Completion) : (s.answer c).toProtState = s.toProtState := rfl
@[simp] theorem State.answer_toPmState (c : Completion) : (s.answer c).toPmState = s.toPmState := rfl
@[simp] theorem State.answer_toLineState (c : Completion) : (s.answer c).toLineState = s.toLineState := rfl
@[simp] theorem State.answer_toStoreState (c : Completion) : (s.answer c).toStoreState = s.toStoreState := rfl
@[simp] theorem State.answer_toGroupState (c : Completion) : (s.answer c).toGroupState = s.toGroupState := rfl
@[simp] theorem State.answer_toTimeState (c : Completion) : (s.answer c).toTimeState = s.toTimeState := rfl
@[simp] theorem State.answer_toPairState (c : Completion) : (s.answer c).toPairState = s.toPairState := rfl
@[simp] theorem State.answer_toSkimState (c : Completion) : (s.answer c).toSkimState = s.toSkimState := rfl
@[simp] theorem State.answer_toSenseState (c : Completion) : (s.answer c).toSenseState = s.toSenseState := rfl
@[simp] theorem State.answer_toHostState (c : Completion) : (s.answer c).toHostState = s.toHostState := rfl

end Sys2Proof.Machine
end

