-- ==== Sys2Proof/Laws/Store.lean ====
section
/-!
SUPPORT. Sparse stores: reading after writing, and the canonical form.
-/

namespace Sys2Proof.Machine

section
variable {κ β : Type} [DecidableEq κ] {d : κ → β} {code : κ → Nat}

theorem look_eq_default_of_not_mem {k : κ} : ∀ {m : List (κ × β)}, (∀ e ∈ m, e.1 ≠ k) → look d m k = d k
  | [], _ => rfl
  | (k', v) :: t, h => by
    have hne : k' ≠ k := h (k', v) (by simp)
    have ht : ∀ e ∈ t, e.1 ≠ k := fun e he => h e (by simp [he])
    simp [look, hne, look_eq_default_of_not_mem ht]

theorem key_ne_of_mem_drop {k : κ} : ∀ {m : List (κ × β)} {e : κ × β}, e ∈ drop k m → e.1 ≠ k
  | [], _, h => by simp [drop] at h
  | f :: t, e, h => by
    by_cases hf : f.1 = k
    · exact key_ne_of_mem_drop (by simpa [drop, hf] using h)
    · rcases List.mem_cons.1 (by simpa [drop, hf] using h) with rfl | h'
      · exact hf
      · exact key_ne_of_mem_drop h'

theorem mem_of_mem_drop {k : κ} : ∀ {m : List (κ × β)} {e : κ × β}, e ∈ drop k m → e ∈ m
  | [], _, h => by simp [drop] at h
  | f :: t, e, h => by
    by_cases hf : f.1 = k
    · exact List.mem_cons_of_mem _ (mem_of_mem_drop (by simpa [drop, hf] using h))
    · rcases List.mem_cons.1 (by simpa [drop, hf] using h) with rfl | h'
      · simp
      · exact List.mem_cons_of_mem _ (mem_of_mem_drop h')

@[simp] theorem look_drop_same {k : κ} {m : List (κ × β)} : look d (drop k m) k = d k :=
  look_eq_default_of_not_mem fun _ => key_ne_of_mem_drop

theorem look_drop_ne {k k' : κ} (h : k' ≠ k) : ∀ {m : List (κ × β)}, look d (drop k m) k' = look d m k'
  | [] => rfl
  | (k'', v) :: t => by
    by_cases hk : k'' = k
    · have : k'' ≠ k' := by rintro rfl; exact h hk
      simp [drop, hk, look, look_drop_ne h, Ne.symm h]
    · by_cases h2 : k'' = k'
      · subst h2; simp [drop, hk, look]
      · simp [drop, hk, look, h2, look_drop_ne h]

theorem look_place {k k' : κ} {v : β} : ∀ {m : List (κ × β)}, (∀ e ∈ m, e.1 ≠ k) →
    look d (place code (k, v) m) k' = if k = k' then v else look d m k'
  | [], _ => rfl
  | (k'', w) :: t, h => by
    have hne : k'' ≠ k := h (k'', w) (by simp)
    have ht : ∀ e ∈ t, e.1 ≠ k := fun e he => h e (by simp [he])
    by_cases hc : code k < code k''
    · simp [place, hc, look]
    · by_cases h2 : k'' = k'
      · subst h2; simp [place, hc, look, Ne.symm hne]
      · simp [place, hc, look, h2, look_place ht]

variable [DecidableEq β]

/-- Reading a store at the key just written gives the value written. -/
@[simp] theorem look_store_same (m : List (κ × β)) (k : κ) (v : β) : look d (store code d m k v) k = v := by
  unfold store
  split
  · rename_i h; simp [h]
  · simp [look_place (fun e he => key_ne_of_mem_drop he)]

/-- Writing a store leaves every other key alone. -/
theorem look_store_ne (m : List (κ × β)) {k k' : κ} (v : β) (h : k' ≠ k) : look d (store code d m k v) k' = look d m k' := by
  unfold store
  split
  · exact look_drop_ne h
  · rw [look_place (fun e he => key_ne_of_mem_drop he), if_neg (Ne.symm h), look_drop_ne h]

omit [DecidableEq κ] in
theorem storeWf_cons {e : κ × β} {t : List (κ × β)} :
    storeWf code d (e :: t) = true ↔ e.2 ≠ d e.1 ∧ (∀ f ∈ t, code e.1 < code f.1) ∧ storeWf code d t = true := by
  simp [storeWf, and_assoc]

theorem storeWf_drop {k : κ} : ∀ {m : List (κ × β)}, storeWf code d m = true → storeWf code d (drop k m) = true
  | [], _ => rfl
  | e :: t, h => by
    obtain ⟨h1, h2, h3⟩ := storeWf_cons.1 h
    by_cases he : e.1 = k
    · simpa [drop, he] using storeWf_drop h3
    · simp only [drop, he, if_false]
      exact storeWf_cons.2 ⟨h1, fun f hf => h2 f (mem_of_mem_drop hf), storeWf_drop h3⟩

omit [DecidableEq κ] [DecidableEq β] in
theorem mem_place {e f : κ × β} : ∀ {m : List (κ × β)}, f ∈ place code e m ↔ f = e ∨ f ∈ m
  | [] => by simp [place]
  | g :: t => by
    by_cases hc : code e.1 < code g.1
    · simp [place, hc]
    · simp only [place, hc, if_false, List.mem_cons, mem_place]; tauto

omit [DecidableEq κ] in
theorem storeWf_place (hinj : ∀ a b, code a = code b → a = b) {k : κ} {v : β} (hv : v ≠ d k) : ∀ {m : List (κ × β)},
    storeWf code d m = true → (∀ e ∈ m, e.1 ≠ k) → storeWf code d (place code (k, v) m) = true
  | [], _, _ => by simp [place, storeWf, hv]
  | e :: t, h, hn => by
    obtain ⟨h1, h2, h3⟩ := storeWf_cons.1 h
    have hne : e.1 ≠ k := hn e (by simp)
    by_cases hc : code k < code e.1
    · simp only [place, hc, if_true]
      exact storeWf_cons.2 ⟨hv, by
        intro f hf
        rcases List.mem_cons.1 hf with rfl | hf
        · exact hc
        · exact lt_trans hc (h2 f hf), h⟩
    · simp only [place, hc, if_false]
      have hlt : code e.1 < code k := lt_of_le_of_ne (not_lt.1 hc) (fun h => hne (hinj _ _ h))
      refine storeWf_cons.2 ⟨h1, ?_, storeWf_place hinj hv h3 (fun f hf => hn f (by simp [hf]))⟩
      intro f hf
      rcases mem_place.1 hf with rfl | hf
      · exact hlt
      · exact h2 f hf

/-- Writing a store keeps its canonical form. -/
theorem storeWf_store (hinj : ∀ a b, code a = code b → a = b) {m : List (κ × β)} (h : storeWf code d m = true) (k : κ) (v : β) :
    storeWf code d (store code d m k v) = true := by
  unfold store
  split
  · exact storeWf_drop h
  · rename_i hv; exact storeWf_place hinj hv (storeWf_drop h) (fun e he => key_ne_of_mem_drop he)

omit [DecidableEq κ] in
/-- Removing entries keeps the canonical form. -/
theorem storeWf_filter (p : κ × β → Bool) : ∀ {m : List (κ × β)}, storeWf code d m = true → storeWf code d (m.filter p) = true
  | [], _ => rfl
  | e :: t, h => by
    obtain ⟨h1, h2, h3⟩ := storeWf_cons.1 h
    by_cases hp : p e
    · rw [List.filter_cons_of_pos hp]
      exact storeWf_cons.2 ⟨h1, fun f hf => h2 f (List.mem_filter.1 hf).1, storeWf_filter p h3⟩
    · rw [List.filter_cons_of_neg hp]; exact storeWf_filter p h3

end

/-- Pairs of numbers have different numbers. -/
theorem npair_inj {a b c e : Nat} (h : npair a b = npair c e) : a = c ∧ b = e := by
  have h' : Nat.pair a b = Nat.pair c e := h
  exact Nat.pair_eq_pair.1 h'

theorem Blk.code_inj : ∀ a b : Blk, a.code = b.code → a = b := by
  intro a b h; cases a <;> cases b <;> first | rfl | (exact absurd h (by decide))

/-- Registers have different places in the canonical order. -/
theorem RegId.code_inj : ∀ a b : RegId, a.code = b.code → a = b := by
  intro a b h
  obtain ⟨h1, h2⟩ := npair_inj h
  obtain ⟨h3, h4⟩ := npair_inj h1
  obtain ⟨h5, h6⟩ := npair_inj h2
  have h7 := Blk.code_inj _ _ h3
  cases a; cases b; simp_all

end Sys2Proof.Machine
end

