-- ==== Sys2Proof/Laws/Regs.lean ====
section
/-!
SUPPORT. Registers and fields: reading after writing, and the canonical form of the register store.
-/

namespace Sys2Proof.Machine

variable (s : State)

theorem fget_lt (w : Word) (f : Fld) : fget w f < 2 ^ f.w := Nat.mod_lt _ (Nat.two_pow_pos _)

/-- The bits of a field read. -/
theorem testBit_fget (w : Word) (f : Fld) (i : Nat) :
    (fget w f).testBit i = (decide (i < f.w) && w.toNat.testBit (f.lo + i)) := by
  simp [fget, Nat.testBit_mod_two_pow, Nat.testBit_div_two_pow, Nat.add_comm]

/-- The bits of a word with one field set. -/
theorem getLsbD_fset (w : Word) (f : Fld) (v i : Nat) :
    (fset w f v).getLsbD i =
      if f.lo ≤ i ∧ i < f.lo + f.w ∧ i < 32 then v.testBit (i - f.lo) else w.getLsbD i := by
  unfold fset
  simp only [BitVec.getLsbD_or, BitVec.getLsbD_and, BitVec.getLsbD_not, BitVec.getLsbD_shiftLeft,
    BitVec.getLsbD_ofNat, Nat.testBit_two_pow_sub_one, Nat.testBit_mod_two_pow]
  by_cases h32 : i < 32
  · by_cases hlo : i < f.lo
    · simp [h32, hlo, Nat.not_le.2 hlo]
    · by_cases hhi : i - f.lo < f.w
      · have h1 : i < f.lo + f.w := by omega
        have h2 : i - f.lo < 32 := by omega
        simp [h32, hlo, hhi, h1, h2, Nat.not_lt.1 hlo]
      · have h1 : ¬ i < f.lo + f.w := by omega
        simp [h32, hlo, hhi, h1]
  · have : w.getLsbD i = false := BitVec.getLsbD_of_ge _ _ (by omega)
    simp [h32, this]

/-- A field read after it was set. -/
theorem fget_fset_same (w : Word) (f : Fld) (v : Nat) (h : f.lo + f.w ≤ 32) : fget (fset w f v) f = v % 2 ^ f.w := by
  apply Nat.eq_of_testBit_eq
  intro i
  rw [testBit_fget, BitVec.testBit_toNat, getLsbD_fset, Nat.testBit_mod_two_pow]
  by_cases hi : i < f.w
  · have h1 : f.lo + i < f.lo + f.w := by omega
    have h2 : f.lo + i < 32 := by omega
    simp [hi, h2]
  · simp [hi]

/-- Setting one field leaves a field apart from it alone. -/
theorem fget_fset_ne (w : Word) (f g : Fld) (v : Nat) (h : f.lo + f.w ≤ g.lo ∨ g.lo + g.w ≤ f.lo) :
    fget (fset w f v) g = fget w g := by
  apply Nat.eq_of_testBit_eq
  intro i
  rw [testBit_fget, testBit_fget, BitVec.testBit_toNat, BitVec.testBit_toNat, getLsbD_fset]
  by_cases hi : i < g.w
  · have : ¬ (f.lo ≤ g.lo + i ∧ g.lo + i < f.lo + f.w ∧ g.lo + i < 32) := by omega
    rw [if_neg this]
  · simp [hi]

/-- A register read after any register was written. -/
theorem rd_wr (r r' : RegId) (v : Word) : (s.wr r v).rd r' = if r' = r then v else s.rd r' := by
  unfold State.rd State.wr
  by_cases h : r' = r
  · subst h; simp
  · simp [h, look_store_ne]

@[simp] theorem rd_wr_same (r : RegId) (v : Word) : (s.wr r v).rd r = v := by simp [rd_wr]

theorem rd_wr_ne {r r' : RegId} (v : Word) (h : r' ≠ r) : (s.wr r v).rd r' = s.rd r' := by simp [rd_wr, h]

theorem rd_put (r r' : RegId) (f : Fld) (v : Nat) :
    (s.put r f v).rd r' = if r' = r then fset (s.rd r) f v else s.rd r' := by simp [State.put, rd_wr]

@[simp] theorem rd_put_same (r : RegId) (f : Fld) (v : Nat) : (s.put r f v).rd r = fset (s.rd r) f v := by simp [rd_put]

theorem rd_put_ne {r r' : RegId} (f : Fld) (v : Nat) (h : r' ≠ r) : (s.put r f v).rd r' = s.rd r' := by simp [rd_put, h]

theorem get_put_same {r : RegId} {f : Fld} (v : Nat) (h : f.lo + f.w ≤ 32) : (s.put r f v).get r f = v % 2 ^ f.w := by
  simp [State.get, fget_fset_same _ _ _ h]

theorem get_put_field {r : RegId} {f g : Fld} (v : Nat) (h : f.lo + f.w ≤ g.lo ∨ g.lo + g.w ≤ f.lo) :
    (s.put r f v).get r g = s.get r g := by simp [State.get, fget_fset_ne _ _ _ _ h]

theorem get_put_reg {r r' : RegId} (f g : Fld) (v : Nat) (h : r' ≠ r) : (s.put r f v).get r' g = s.get r' g := by
  simp [State.get, rd_put_ne _ _ _ h]

theorem get_wr (r r' : RegId) (v : Word) (g : Fld) : (s.wr r v).get r' g = if r' = r then fget v g else s.get r' g := by
  unfold State.get; rw [rd_wr]; split <;> rfl

/-- Any field after any field was put. -/
theorem get_put (r r' : RegId) (f g : Fld) (v : Nat) :
    (s.put r f v).get r' g = if r' = r then fget (fset (s.rd r) f v) g else s.get r' g := by
  unfold State.get; rw [rd_put]; split <;> rfl

theorem rd_setBit (r r' : RegId) (i : Nat) :
    (s.setBit r i).rd r' = if r' = r then s.rd r ||| ((1 : Word) <<< i) else s.rd r' := by simp [State.setBit, rd_wr]

theorem rd_clrBit (r r' : RegId) (i : Nat) :
    (s.clrBit r i).rd r' = if r' = r then s.rd r &&& ~~~((1 : Word) <<< i) else s.rd r' := by simp [State.clrBit, rd_wr]

theorem bit_eq (r : RegId) (i : Nat) : s.bit r i = (s.rd r).getLsbD i := by simp [State.bit, BitVec.testBit_toNat]

theorem bit_setBit (r r' : RegId) (i j : Nat) :
    (s.setBit r i).bit r' j = if r' = r ∧ i = j ∧ j < 32 then true else s.bit r' j := by
  rw [bit_eq, bit_eq, rd_setBit]
  by_cases h : r' = r
  · subst h
    by_cases hj : j < 32
    · by_cases hij : i = j
      · subst hij; simp [hj]
      · simp only [hij, if_true, BitVec.getLsbD_or, BitVec.getLsbD_shiftLeft]
        have : ¬ (j - i = 0 ∧ i ≤ j) := by omega
        by_cases hlt : j < i
        · simp [hlt]
        · have : j - i ≠ 0 := by omega
          simp [this]
    · simp [hj, BitVec.getLsbD_of_ge _ _ (Nat.not_lt.1 hj)]
  · simp [h]

theorem bit_clrBit (r r' : RegId) (i j : Nat) :
    (s.clrBit r i).bit r' j = if r' = r ∧ i = j then false else s.bit r' j := by
  rw [bit_eq, bit_eq, rd_clrBit]
  by_cases h : r' = r
  · subst h
    by_cases hj : j < 32
    · by_cases hij : i = j
      · subst hij; simp [hj]
      · simp only [hij, if_true, BitVec.getLsbD_and, BitVec.getLsbD_not, BitVec.getLsbD_shiftLeft]
        by_cases hlt : j < i
        · simp [hlt, hj]
        · have : j - i ≠ 0 := by omega
          simp [this, hj]
    · simp [BitVec.getLsbD_of_ge _ _ (Nat.not_lt.1 hj)]
  · simp [h]

/-- A one-bit field as the bit it is. -/
theorem flag_eq_bit (r : RegId) (f : Fld) (h : f.w = 1) : s.flag r f = s.bit r f.lo := by
  unfold State.flag State.get fget State.bit
  rw [h, Nat.pow_one, Nat.testBit_eq_decide_div_mod_eq]
  rfl

-- The canonical form

theorem wf_wr (h : storeWf RegId.code resetVal s.regs = true) (r : RegId) (v : Word) :
    storeWf RegId.code resetVal (s.wr r v).regs = true := storeWf_store RegId.code_inj h r v

theorem wf_put (h : storeWf RegId.code resetVal s.regs = true) (r : RegId) (f : Fld) (v : Nat) :
    storeWf RegId.code resetVal (s.put r f v).regs = true := wf_wr s h r _

theorem wf_setBit (h : storeWf RegId.code resetVal s.regs = true) (r : RegId) (i : Nat) :
    storeWf RegId.code resetVal (s.setBit r i).regs = true := wf_wr s h r _

theorem wf_clrBit (h : storeWf RegId.code resetVal s.regs = true) (r : RegId) (i : Nat) :
    storeWf RegId.code resetVal (s.clrBit r i).regs = true := wf_wr s h r _

-- Memory

/-- A byte of memory after a byte was written. -/
theorem ldb_stb (a a' : Nat) (b : Byte) : (s.stb a b).ldb a' = if a' = a then b else s.ldb a' := by
  unfold State.ldb State.stb
  by_cases h : a' = a
  · subst h; simp
  · simp [h, look_store_ne]

/-- Writing a byte keeps the canonical form of the memory. -/
theorem mem_wf_stb (h : Memory.wf s.mem = true) (a : Nat) (b : Byte) : Memory.wf (s.stb a b).mem = true :=
  storeWf_store (fun _ _ h => h) h a b

/-- Writing bytes keeps the canonical form of the memory. -/
theorem mem_wf_st (l : List Byte) : ∀ (s : State) (a : Nat), Memory.wf s.mem = true → Memory.wf (s.st a l).mem = true := by
  induction l with
  | nil => intro s a h; exact h
  | cons b t ih => intro s a h; exact ih _ _ (mem_wf_stb s h a b)

/-- Zeroing memory keeps its canonical form. -/
theorem mem_wf_zeroMem (h : Memory.wf s.mem = true) (p : Nat → Bool) : Memory.wf (s.zeroMem p).mem = true :=
  storeWf_filter _ h

/-- A byte of memory after bytes were written. -/
theorem ldb_st (l : List Byte) : ∀ (s : State) (a a' : Nat),
    (s.st a l).ldb a' = if a ≤ a' ∧ a' < a + l.length then l.getD (a' - a) 0 else s.ldb a' := by
  induction l with
  | nil => intro s a a'; simp only [State.st, List.length_nil]; rw [if_neg (by omega)]
  | cons b t ih =>
    intro s a a'
    simp only [State.st, ih, ldb_stb, List.length_cons]
    by_cases h1 : a' = a
    · subst h1; rw [if_neg (by omega), if_pos rfl, if_pos (by omega)]; simp
    · by_cases h2 : a + 1 ≤ a' ∧ a' < a + 1 + t.length
      · rw [if_pos h2, if_pos (by omega)]
        obtain ⟨k, hk⟩ : ∃ k, a' - a = k + 1 := ⟨a' - a - 1, by omega⟩
        rw [hk, show a' - (a + 1) = k by omega]; simp
      · rw [if_neg h2, if_neg h1, if_neg (by omega)]

-- Timers

theorem timer_startTimerNs (k k' : TKey) (n : Nat) :
    (s.startTimerNs k n).timer k' = if k' = k then some (s.clk + n) else s.timer k' := by
  unfold State.timer State.startTimerNs
  by_cases h : k' = k
  · subst h; simp
  · simp [h, look_store_ne]

theorem timer_stopTimer (k k' : TKey) : (s.stopTimer k).timer k' = if k' = k then none else s.timer k' := by
  unfold State.timer State.stopTimer
  by_cases h : k' = k
  · subst h; simp
  · simp [h, look_store_ne]

end Sys2Proof.Machine
end

