-- ==== Sys2Proof/Laws/Events.lean ====
section
/-!
SUPPORT. What counting an event changes, and what it leaves alone.
-/

namespace Sys2Proof.Machine

theorem EvOnly.refl (s : State) : EvOnly s s := ⟨rfl, fun _ _ => rfl, fun _ _ => rfl⟩

theorem EvOnly.trans {s t u : State} (h : EvOnly s t) (k : EvOnly t u) : EvOnly s u :=
  ⟨by rw [k.rest, h.rest], fun r hr => (k.regs r hr).trans (h.regs r hr),
   fun q hq => (k.timers q hq).trans (h.timers q hq)⟩

theorem EvOnly.wr (s : State) (r : RegId) (v : Word) (h : evReg r = true) : EvOnly s (s.wr r v) :=
  ⟨rfl, fun q hq => rd_wr_ne s v (by rintro rfl; rw [h] at hq; cases hq), fun _ _ => rfl⟩

theorem EvOnly.put (s : State) (r : RegId) (f : Fld) (v : Nat) (h : evReg r = true) : EvOnly s (s.put r f v) := .wr s r _ h
theorem EvOnly.setBit (s : State) (r : RegId) (i : Nat) (h : evReg r = true) : EvOnly s (s.setBit r i) := .wr s r _ h
theorem EvOnly.clrBit (s : State) (r : RegId) (i : Nat) (h : evReg r = true) : EvOnly s (s.clrBit r i) := .wr s r _ h

theorem EvOnly.startTimerNs (s : State) (k : TKey) (n : Nat) (h : evTimer k = true) : EvOnly s (s.startTimerNs k n) :=
  ⟨rfl, fun _ _ => rfl, fun q hq => by rw [timer_startTimerNs, if_neg]; rintro rfl; rw [h] at hq; cases hq⟩

theorem EvOnly.stopTimer (s : State) (k : TKey) (h : evTimer k = true) : EvOnly s (s.stopTimer k) :=
  ⟨rfl, fun _ _ => rfl, fun q hq => by rw [timer_stopTimer, if_neg]; rintro rfl; rw [h] at hq; cases hq⟩

theorem EvOnly.ite {c : Prop} [Decidable c] {s t u : State} (h : EvOnly s t) (k : EvOnly s u) : EvOnly s (if c then t else u) := by
  by_cases hc : c <;> simpa [hc]

theorem EvOnly.drawn (s : State) : EvOnly s s.drawn := ⟨rfl, fun _ _ => rfl, fun _ _ => rfl⟩

/-- A fold of steps that each change only what events may. -/
theorem EvOnly.foldl {α : Type} {f : State → α → State} (l : List α) (h : ∀ t a, a ∈ l → EvOnly t (f t a)) :
    ∀ s, EvOnly s (l.foldl f s) := by
  induction l with
  | nil => exact EvOnly.refl
  | cons a l ih => exact fun s => (h s a (by simp)).trans (ih (fun t b hb => h t b (by simp [hb])) _)

theorem evReg_evt (b o h : Nat) : evReg ⟨.evt, b, o, h⟩ = true := rfl
theorem evReg_evtsum (b o h : Nat) : evReg ⟨.evtsum, b, o, h⟩ = true := rfl
theorem evReg_pba (p : Port) (i : Nat) : evReg (R.HOSTIF_PBA p i) = true := by simp [evReg]
theorem evReg_wrap (k : Blk) (x i : Nat) : evReg (R.CNT_WRAP k x i) = true := by
  have : 0xf000 ≤ 0xf000 + 4 * i := by omega
  simp [evReg, this]

theorem EvOnly.msixTo (s : State) (p : Port) (v : Nat) : EvOnly s (s.msixTo p v) := by
  unfold State.msixTo
  split
  · refine EvOnly.trans (t := { s with hostWrites := _ }) ?_ (EvOnly.clrBit _ _ _ (evReg_pba _ _))
    exact ⟨rfl, fun _ _ => rfl, fun _ _ => rfl⟩
  · exact EvOnly.setBit _ _ _ (evReg_pba _ _)

theorem EvOnly.evSend (s : State) (b : Nat) : EvOnly s (s.evSend b) := by
  unfold State.evSend
  split
  · exact .msixTo _ _ _
  · exact .msixTo _ _ _
  · exact (EvOnly.msixTo _ _ _).trans (.msixTo _ _ _)
  · exact .refl _

theorem EvOnly.setPending (s : State) (b : Nat) : EvOnly s (s.setPending b) := by
  unfold State.setPending
  split
  · exact .refl _
  · exact (EvOnly.put _ _ _ _ (evReg_evt _ _ _)).trans (.evSend _ _)

theorem EvOnly.setCtr (s : State) (c : Ctr) (v : Nat) (hl : evReg c.lo = true) (hh : evReg c.hi = true) : EvOnly s (s.setCtr c v) :=
  (EvOnly.wr _ _ _ hh).trans (.wr _ _ _ hl)

theorem evReg_wrapPlace (r : RegId) : evReg (wrapPlace r).1 = true := evReg_wrap _ _ _

theorem EvOnly.addRaw (s : State) (c : Ctr) (n : Nat) (hl : evReg c.lo = true) (hh : evReg c.hi = true) :
    EvOnly s (s.addRaw c n).1 := by
  have h1 : ∀ v, EvOnly s (s.setCtr c v) := fun v => .setCtr _ _ _ hl hh
  have h2 : ∀ v, EvOnly s ((s.setCtr c v).setBit (wrapPlace c.lo).1 (wrapPlace c.lo).2) := fun v =>
    (h1 v).trans (.setBit _ _ _ (evReg_wrapPlace _))
  unfold State.addRaw
  dsimp only
  split
  · exact h1 _
  · exact h2 _

theorem EvOnly.faultPulse (s : State) : EvOnly s s.faultPulse := by
  have h : EvOnly s (s.startTimerNs faultKey 2000) := .startTimerNs _ _ _ rfl
  unfold State.faultPulse
  exact .ite (.refl _) (.ite h (((h.trans (.put _ _ _ _ rfl)).trans (.put _ _ _ _ rfl)).trans (.addRaw _ _ _ rfl rfl)))

theorem EvOnly.latching (s : State) (k : Nat) : EvOnly s (s.latching k) := ⟨rfl, fun _ _ => rfl, fun _ _ => rfl⟩

theorem EvOnly.latchFirst (s : State) (b src cls : Nat) (d : Word) : EvOnly s (s.latchFirst b src cls d) := by
  have h0 : EvOnly s (if s.flag (R.EVT_FIRST0 b) F.EVT_FIRST0_VALID = true then s.put (R.EVT_FIRST0 b) F.EVT_FIRST0_OVF 1
      else s.latching b) := .ite (.put _ _ _ _ rfl) (.latching _ _)
  exact .ite h0 ((((((h0.trans (.put _ _ _ _ rfl)).trans (.put _ _ _ _ rfl)).trans (.put _ _ _ _ rfl)).trans (.wr _ _ _ rfl)).trans
    (.put _ _ _ _ rfl)).trans (.wr _ _ _ rfl))

theorem EvOnly.latchPkgFirst (s : State) (b src cls : Nat) : EvOnly s (s.latchPkgFirst b src cls) := by
  have h0 : EvOnly s (if s.flag R.EVT_PKG_FIRST0 F.EVT_PKG_FIRST0_VALID = true then s.put R.EVT_PKG_FIRST0 F.EVT_PKG_FIRST0_OVF 1
      else s.latching 175) := .ite (.put _ _ _ _ rfl) (.latching _ _)
  exact .ite h0 ((((((h0.trans (.put _ _ _ _ rfl)).trans (.put _ _ _ _ rfl)).trans (.put _ _ _ _ rfl)).trans (.put _ _ _ _ rfl)).trans
    (.wr _ _ _ rfl)).trans (.put _ _ _ _ rfl))

theorem EvOnly.enterGrave (s : State) (b src : Nat) : EvOnly s (s.enterGrave b src) := by
  unfold State.enterGrave
  split
  · exact .refl _
  · exact (((((EvOnly.put _ _ _ _ rfl).trans (.put _ _ _ _ rfl)).trans (.put _ _ _ _ rfl)).trans (.wr _ _ _ rfl)).trans
      (.wr _ _ _ rfl)).trans (.put _ _ _ _ rfl)

theorem EvOnly.withSafe (s : State) (l : List SafeForce) : EvOnly s { s with safe := l } := ⟨rfl, fun _ _ => rfl, fun _ _ => rfl⟩

theorem EvOnly.putBit (s : State) (r : RegId) (i : Nat) (v : Bool) (h : evReg r = true) : EvOnly s (s.putBit r i v) := by
  cases v
  · exact .clrBit _ _ _ h
  · exact .setBit _ _ _ h

theorem EvOnly.clusterRuns (s : State) (b : Nat) (on : Bool) : EvOnly s (s.clusterRuns b on) :=
  .ite (.putBit _ _ _ _ (by simp [evReg])) (.refl _)

theorem EvOnly.safeReact (s : State) (b src : Nat) (d : Word) : EvOnly s (s.safeReact b src d) :=
  (EvOnly.ite (c := s.fence = true) (.clusterRuns s b false) (.refl s)).trans (.withSafe _ _)

theorem EvOnly.react (s : State) (b src cls : Nat) (d : Word) : EvOnly s (s.react b src cls d) := by
  unfold State.react
  split
  · exact .enterGrave _ _ _
  split
  · exact .safeReact _ _ _ _
  split
  · split
    · exact ⟨rfl, fun _ _ => rfl, fun _ _ => rfl⟩
    · exact .safeReact _ _ _ _
  · exact .refl _

theorem EvOnly.turnSevere (s : State) (b src : Nat) : EvOnly s (s.turnSevere b src) := by
  have h : EvOnly s ((((((((s.setBit (R.EVT_SEVERE b) src).put (R.EVT_CFG b src) F.EVT_CFG_WCOUNT 0).stopTimer
      (evWindowKey b src)).startTimerNs (evQuietKey b src) (125000 * 0)).latchFirst b src (s.get (R.EVT_CFG b src) F.EVT_CFG_CLASS)
      (s.rd (R.EVT_DETAIL b src))).latchPkgFirst b src (s.get (R.EVT_CFG b src) F.EVT_CFG_CLASS)).faultPulse).react b src
      (s.get (R.EVT_CFG b src) F.EVT_CFG_CLASS) (s.rd (R.EVT_DETAIL b src))) :=
    (((((((EvOnly.setBit _ _ _ rfl).trans (.put _ _ _ _ rfl)).trans (.stopTimer _ _ rfl)).trans
      (.startTimerNs _ _ _ rfl)).trans (.latchFirst _ _ _ _ _)).trans (.latchPkgFirst _ _ _ _)).trans (.faultPulse _)).trans
      (.react _ _ _ _ _)
  unfold State.turnSevere
  exact .ite (h.trans (.setPending _ _)) h

theorem EvOnly.eventRaw (s : State) (b src : Nat) (d : Word) (tw : Bool) : EvOnly s (s.eventRaw b src d tw).1 := by
  have h0 : EvOnly s (((s.addRaw (ctrEvTotal b src) 1).1.setBit (R.EVT_STICKY b) src).wr (R.EVT_DETAIL b src) d) :=
    ((EvOnly.addRaw _ _ _ rfl rfl).trans (.setBit _ _ _ rfl)).trans (.wr _ _ _ rfl)
  unfold State.eventRaw
  simp only [State.startTimer]
  generalize hs1 : ((s.addRaw (ctrEvTotal b src) 1).1.setBit (R.EVT_STICKY b) src).wr (R.EVT_DETAIL b src) d = s1 at h0 ⊢
  have h2 : EvOnly s (if s1.bit (R.EVT_ENABLE b) src then s1.setPending b else s1) := by
    split
    · exact h0.trans (.setPending _ _)
    · exact h0
  generalize (if s1.bit (R.EVT_ENABLE b) src then s1.setPending b else s1) = s2 at h2 ⊢
  split
  · exact h2.trans (.startTimerNs _ _ _ rfl)
  split
  · exact h2
  split
  · exact h2.trans (.turnSevere _ _ _)
  · split
    · exact (h2.trans (.put _ _ _ _ rfl)).trans (.startTimerNs _ _ _ rfl)
    · exact h2.trans (.put _ _ _ _ rfl)

theorem evReg_skim (d j : Nat) : evReg (R.SKIM_JOB_STATUS d j) = true := by
  have h : (308 + 128 * j - 256) % 128 = 52 := by omega
  have h2 : 308 ≤ 308 + 128 * j := by omega
  simp [evReg, h, h2]

theorem evReg_skim_ts (d j i : Nat) (hi : i < 3) : evReg (R.SKIM_JOB_TRIG_TS d j i) = true := by
  have h2 : 308 ≤ 320 + 128 * j + 4 * i := by omega
  have h : (320 + 128 * j + 4 * i - 256) % 128 = 64 + 4 * i := by omega
  simp only [evReg, h2, h]
  have : i = 0 ∨ i = 1 ∨ i = 2 := by omega
  rcases this with rfl | rfl | rfl <;> simp

theorem EvOnly.skFire (s : State) (d j by_ : Nat) (ts : List Word) : EvOnly s (s.skFire d j by_ ts) :=
  (((((EvOnly.put _ _ _ _ (evReg_skim _ _)).trans (.put _ _ _ _ (evReg_skim _ _))).trans (.put _ _ _ _ (evReg_skim _ _))).trans
    (.wr _ _ _ (evReg_skim_ts _ _ _ (by omega)))).trans (.wr _ _ _ (evReg_skim_ts _ _ _ (by omega)))).trans
    (.wr _ _ _ (evReg_skim_ts _ _ _ (by omega)))

theorem EvOnly.eventLoop : ∀ (n : Nat) (l : List (Nat × Nat × Word × Bool)) (s : State), EvOnly s (State.eventLoop n l s)
  | 0, _, s => by unfold State.eventLoop; exact .refl s
  | n + 1, [], s => by unfold State.eventLoop; exact .refl s
  | n + 1, (b, src, d, tw) :: l, s => by
    unfold State.eventLoop
    exact ((EvOnly.eventRaw s b src d tw).trans
      (.foldl _ (fun t e _ => (EvOnly.drawn t).trans (.skFire _ _ _ _ _)) _)).trans (EvOnly.eventLoop n _ _)

/-- An event changes nothing but what events may change (R338). -/
theorem event'_only (s : State) (b src : Nat) (d : Word) (tw : Bool) : EvOnly s (s.event' b src d tw) := .eventLoop _ _ _
theorem event_only (s : State) (b src : Nat) (d : Word) : EvOnly s (s.event b src d) := .eventLoop _ _ _
theorem ev_only (s : State) (b src : Nat) : EvOnly s (s.ev b src) := .eventLoop _ _ _

theorem EvOnly.liveOn (s : State) (b src : Nat) : EvOnly s (s.liveOn b src) := by
  unfold State.liveOn
  split
  · exact .refl _
  · simp only []
    split
    · exact (EvOnly.setBit _ _ _ rfl).trans (.turnSevere _ _ _)
    · exact .setBit _ _ _ rfl

theorem EvOnly.liveOff (s : State) (b src : Nat) : EvOnly s (s.liveOff b src) := by
  unfold State.liveOff
  split
  · exact (EvOnly.clrBit _ _ _ rfl).trans (.startTimerNs _ _ _ rfl)
  · exact .refl _

theorem EvOnly.skTrig (s : State) (d j by_ : Nat) (ts : List Word) : EvOnly s (s.skTrig d j by_ ts) :=
  ((EvOnly.skFire _ _ _ _ _).trans (ev_only _ _ _)).trans (ev_only _ _ _)

theorem EvOnly.skDefect (s : State) (tap : Word) (o n : Nat) : EvOnly s (s.skDefect tap o n) :=
  .foldl _ (fun t _ _ => (EvOnly.drawn t).trans (.skTrig _ _ _ _ _)) _

-- What the fields and registers that events leave alone hold afterwards

section
variable {s t : State} (h : EvOnly s t)
include h

theorem EvOnly.rd_eq {r : RegId} (hr : evReg r = false) : t.rd r = s.rd r := h.regs r hr
theorem EvOnly.get_eq {r : RegId} (hr : evReg r = false) (f : Fld) : t.get r f = s.get r f := by
  unfold State.get; rw [h.regs r hr]
theorem EvOnly.mem_eq : t.mem = s.mem := by rw [h.rest]
theorem EvOnly.ldb_eq (a : Nat) : t.ldb a = s.ldb a := by unfold State.ldb; rw [h.mem_eq]
theorem EvOnly.frames_eq : t.frames = s.frames := by rw [h.rest]
theorem EvOnly.ns_eq : t.ns = s.ns := by rw [h.rest]
theorem EvOnly.resp_eq : t.resp = s.resp := by rw [h.rest]
end

-- The settling of a command

theorem settleN_nil {s : State} (h : s.due = []) : ∀ n, State.settleN n s = s
  | 0 => rfl
  | n + 1 => by simp [State.settleN, h]

theorem settle_nil {s : State} (h : s.due = []) : s.settle = s := settleN_nil h _

theorem graveHealth_settled {s : State} (h : s.grave = true → s.bit R.PAIR_HEALTH_CAUSE 1 = true) : s.graveHealth = s := by
  unfold State.graveHealth
  by_cases hg : s.grave = true
  · simp [hg, h hg]
  · simp [hg]

/-- A settled state is what its command leaves. -/
theorem done_settled {s : State} (h : Settled s) : done s = .next s := by
  unfold done; rw [settle_nil h.due, graveHealth_settled h.health]

theorem Settled.of_eq {s t : State} (h : Settled s) (hd : t.due = s.due)
    (h1 : t.get R.EVT_SUM_STATUS F.EVT_SUM_STATUS_GRAVE = s.get R.EVT_SUM_STATUS F.EVT_SUM_STATUS_GRAVE)
    (h2 : t.bit R.PAIR_HEALTH_CAUSE 1 = s.bit R.PAIR_HEALTH_CAUSE 1) : Settled t :=
  ⟨hd.trans h.due, by
    intro hg
    rw [h2]; apply h.health
    unfold State.grave State.flag at hg ⊢
    rw [← h1]; exact hg⟩

/-- A host port's command that is answered. -/
theorem hostCmd_answers {p : Port} {f : State → State} {s : State} (h : s.answers p = true) :
    hostCmd p f s = f (s.answer .done) := by unfold hostCmd; rw [if_pos h]

/-- A host port's command that is not answered. -/
theorem hostCmd_ur {p : Port} {f : State → State} {s : State} (h : s.answers p = false) :
    hostCmd p f s = s.answer .ur := by unfold hostCmd; simp [h]

/-- A command in registers of a host port whose request goes to its target at once. -/
theorem hostReg_reaches {p : Port} {i : Instr} {f : State → State} {s : State} (h : s.reaches p (regTarget i) = true) :
    hostReg p i f s = f (s.answer .done) := by
  obtain ⟨⟨ha, hm⟩, hw⟩ : (s.answers p = true ∧ s.mxMayIssue p.toNat (regTarget i) = true) ∧
      (s.mxWait.any (fun w => w.master == p.toNat)) = false := by simpa [State.reaches] using h
  have hn : (s.answer .done).regWaits p i = false := by
    show (!s.mxMayIssue p.toNat (regTarget i) || s.mxWait.any (fun w => w.master == p.toNat)) = false
    simp [hm, hw]
  unfold hostReg
  rw [hostCmd_answers ha]
  simp [hn]

/-- A command in registers of a host port that is not answered. -/
theorem hostReg_ur {p : Port} {i : Instr} {f : State → State} {s : State} (h : s.answers p = false) :
    hostReg p i f s = s.answer .ur := hostCmd_ur h

@[simp] theorem rd_answer (s : State) (c : Completion) (r : RegId) : (s.answer c).rd r = s.rd r := rfl
@[simp] theorem get_answer (s : State) (c : Completion) (r : RegId) (f : Fld) : (s.answer c).get r f = s.get r f := rfl
@[simp] theorem bit_answer (s : State) (c : Completion) (r : RegId) (i : Nat) : (s.answer c).bit r i = s.bit r i := rfl
@[simp] theorem flag_answer (s : State) (c : Completion) (r : RegId) (f : Fld) : (s.answer c).flag r f = s.flag r f := rfl
@[simp] theorem timer_answer (s : State) (c : Completion) (k : TKey) : (s.answer c).timer k = s.timer k := rfl
@[simp] theorem ldb_answer (s : State) (c : Completion) (a : Nat) : (s.answer c).ldb a = s.ldb a := rfl

end Sys2Proof.Machine
end

