-- ==== Sys2Proof/Laws/Reactions.lean ====
section
/-!
SUPPORT. What a command that counts events may change by its end: the events, HEALTH in GRAVE, transactions that are refused, and the
retirements that are due (R220, R338, R346).
-/

namespace Sys2Proof.Machine

-- Events that retire nothing

theorem NoteOnly.of_event {s t : State} (h : EvOnly s t) : NoteOnly s t :=
  ⟨by rw [h.rest], fun r hr => h.regs r (by cases he : evReg r <;> simp_all [noteReg]), fun k hk => h.timers k hk⟩

theorem NoteOnly.refl (s : State) : NoteOnly s s := .of_event (.refl s)
theorem NoteOnly.trans {s t u : State} (h : NoteOnly s t) (k : NoteOnly t u) : NoteOnly s u :=
  ⟨by rw [k.rest, h.rest], fun r hr => (k.regs r hr).trans (h.regs r hr), fun q hq => (k.timers q hq).trans (h.timers q hq)⟩

theorem NoteOnly.ite {c : Prop} [Decidable c] {s t u : State} (h : NoteOnly s t) (k : NoteOnly s u) : NoteOnly s (if c then t else u) := by
  by_cases hc : c <;> simpa [hc]

theorem NoteOnly.foldl {α : Type} {f : State → α → State} (l : List α) (h : ∀ t a, a ∈ l → NoteOnly t (f t a)) :
    ∀ s, NoteOnly s (l.foldl f s) := by
  induction l with
  | nil => exact NoteOnly.refl
  | cons a l ih => exact fun s => (h s a (by simp)).trans (ih (fun t b hb => h t b (by simp [hb])) _)

theorem NoteOnly.wr (s : State) (r : RegId) (v : Word) (h : noteReg r = true) : NoteOnly s (s.wr r v) :=
  ⟨rfl, fun q hq => rd_wr_ne s v (by rintro rfl; rw [h] at hq; cases hq), fun _ _ => rfl⟩

theorem NoteOnly.put (s : State) (r : RegId) (f : Fld) (v : Nat) (h : noteReg r = true) : NoteOnly s (s.put r f v) := .wr s r _ h
theorem NoteOnly.setBit (s : State) (r : RegId) (i : Nat) (h : noteReg r = true) : NoteOnly s (s.setBit r i) := .wr s r _ h
theorem NoteOnly.clrBit (s : State) (r : RegId) (i : Nat) (h : noteReg r = true) : NoteOnly s (s.clrBit r i) := .wr s r _ h

theorem NoteOnly.ev (s : State) (b src : Nat) : NoteOnly s (s.ev b src) := .of_event (ev_only _ _ _)

theorem NoteOnly.updHealth (s : State) : NoteOnly s s.updHealth := by
  have hc : noteReg R.PAIR_HEALTH_CAUSE = true := by decide
  have hs : noteReg R.PAIR_STATUS = true := by decide
  unfold State.updHealth
  dsimp only
  exact .ite (.put _ _ _ _ hc) (((NoteOnly.put _ _ _ _ hc).trans (.put _ _ _ _ hs)).trans (.ev _ _ _))

theorem NoteOnly.syncLow (s : State) : NoteOnly s { s with syncOut := false } := ⟨rfl, fun _ _ => rfl, fun _ _ => rfl⟩

theorem NoteOnly.graveHealth (s : State) : NoteOnly s s.graveHealth :=
  .ite ((NoteOnly.syncLow s).trans (.updHealth _)) (.refl _)

/-- What the end of a command changes that leaves no retirement due. -/
theorem done_note {s : State} (h : s.due = []) : ∃ t, done s = .next t ∧ NoteOnly s t := by
  refine ⟨_, rfl, ?_⟩
  rw [settle_nil h]
  exact .graveHealth _

-- Transactions

theorem TxnOnly.of_note {s t : State} (h : NoteOnly s t) : TxnOnly s t :=
  ⟨by rw [h.rest], fun r hr => h.regs r (by cases he : noteReg r <;> simp_all [txnReg]), fun k hk => h.timers k hk⟩

theorem TxnOnly.refl (s : State) : TxnOnly s s := .of_note (.refl s)
theorem TxnOnly.trans {s t u : State} (h : TxnOnly s t) (k : TxnOnly t u) : TxnOnly s u :=
  ⟨by rw [k.rest, h.rest], fun r hr => (k.regs r hr).trans (h.regs r hr), fun q hq => (k.timers q hq).trans (h.timers q hq)⟩

theorem TxnOnly.ite {c : Prop} [Decidable c] {s t u : State} (h : TxnOnly s t) (k : TxnOnly s u) : TxnOnly s (if c then t else u) := by
  by_cases hc : c <;> simpa [hc]

theorem TxnOnly.foldl {α : Type} {f : State → α → State} (l : List α) (h : ∀ t a, a ∈ l → TxnOnly t (f t a)) :
    ∀ s, TxnOnly s (l.foldl f s) := by
  induction l with
  | nil => exact TxnOnly.refl
  | cons a l ih => exact fun s => (h s a (by simp)).trans (ih (fun t b hb => h t b (by simp [hb])) _)

theorem TxnOnly.wr (s : State) (r : RegId) (v : Word) (h : txnReg r = true) : TxnOnly s (s.wr r v) :=
  ⟨rfl, fun q hq => rd_wr_ne s v (by rintro rfl; rw [h] at hq; cases hq), fun _ _ => rfl⟩

theorem TxnOnly.put (s : State) (r : RegId) (f : Fld) (v : Nat) (h : txnReg r = true) : TxnOnly s (s.put r f v) := .wr s r _ h
theorem TxnOnly.setBit (s : State) (r : RegId) (i : Nat) (h : txnReg r = true) : TxnOnly s (s.setBit r i) := .wr s r _ h
theorem TxnOnly.clrBit (s : State) (r : RegId) (i : Nat) (h : txnReg r = true) : TxnOnly s (s.clrBit r i) := .wr s r _ h

theorem txnReg_txn (x o h : Nat) : txnReg ⟨.txn, x, o, h⟩ = true := by simp [txnReg]
theorem txnReg_map (x o h : Nat) : txnReg ⟨.map, x, o, h⟩ = true := by simp [txnReg]

theorem TxnOnly.ev (s : State) (b src : Nat) : TxnOnly s (s.ev b src) := .of_note (.ev _ _ _)

theorem TxnOnly.setTxn (s : State) (k st : Nat) : TxnOnly s (s.setTxn k st) := by
  have h : TxnOnly s ((s.put (R.TXN_STATUS k) F.TXN_STATUS_STATE st).wr (R.TXN_EVENT_FN k) (BitVec.ofNat 32 s.fn)) :=
    (TxnOnly.put _ _ _ _ (txnReg_txn _ _ _)).trans (.wr _ _ _ (txnReg_txn _ _ _))
  unfold State.setTxn State.txnNotify
  exact .ite (h.trans (.ite (.ev _ _ _) (.refl _))) h

theorem TxnOnly.updQueue (s : State) : TxnOnly s s.updQueue :=
  .foldl _ (fun _ _ _ => (TxnOnly.put _ _ _ _ (txnReg_map _ _ _)).trans (.put _ _ _ _ (txnReg_map _ _ _))) _

theorem TxnOnly.setSlot (s : State) (k : Nat) (x : TxnSlot) : TxnOnly s (s.setSlot k x) := ⟨rfl, fun _ _ => rfl, fun _ _ => rfl⟩

theorem TxnOnly.beginRestore (s : State) (k : Nat) : TxnOnly s (s.beginRestore k) :=
  ((TxnOnly.setSlot _ _ _).trans (.put _ _ _ _ (txnReg_txn _ _ _))).trans (.updQueue _)

theorem TxnOnly.toMate (s : State) (m : MateMsg) : TxnOnly s (s.toMate m) := ⟨rfl, fun _ _ => rfl, fun _ _ => rfl⟩

theorem TxnOnly.refuseFor (s : State) (k code : Nat) (i : Option Nat) : TxnOnly s (s.refuseFor k code i) := by
  have h : TxnOnly s (((s.put (R.TXN_STATUS k) F.TXN_STATUS_CODE code).setTxn k txREFUSED).beginRestore k) :=
    ((TxnOnly.put _ _ _ _ (txnReg_txn _ _ _)).trans (.setTxn _ _ _)).trans (.beginRestore _ _)
  exact .ite (h.trans (.toMate _ _)) h

theorem TxnOnly.refuseTxn (s : State) (k code : Nat) : TxnOnly s (s.refuseTxn k code) := .refuseFor _ _ _ _

theorem TxnOnly.refuseHolding (s : State) (code : Nat) (p : Rec → Bool) : TxnOnly s (s.refuseHolding code p) := by
  unfold State.refuseHolding
  exact .ite (.refl _) (.foldl _ (fun _ _ _ => .ite (.refuseTxn _ _ _) (.refl _)) _)

-- Retirements

theorem ReactOnly.of_txn {s t : State} (h : TxnOnly s t) : ReactOnly s t :=
  ⟨by rw [h.rest], fun r hr => h.regs r (by cases he : txnReg r <;> simp_all [reactReg]),
   fun k hk => h.timers k (by cases he : evTimer k <;> simp_all [reactTimer])⟩

theorem ReactOnly.refl (s : State) : ReactOnly s s := .of_txn (.refl s)
theorem ReactOnly.trans {s t u : State} (h : ReactOnly s t) (k : ReactOnly t u) : ReactOnly s u :=
  ⟨by rw [k.rest, h.rest], fun r hr => (k.regs r hr).trans (h.regs r hr), fun q hq => (k.timers q hq).trans (h.timers q hq)⟩

theorem ReactOnly.ite {c : Prop} [Decidable c] {s t u : State} (h : ReactOnly s t) (k : ReactOnly s u) : ReactOnly s (if c then t else u) := by
  by_cases hc : c <;> simpa [hc]

theorem ReactOnly.foldl {α : Type} {f : State → α → State} (l : List α) (h : ∀ t a, a ∈ l → ReactOnly t (f t a)) :
    ∀ s, ReactOnly s (l.foldl f s) := by
  induction l with
  | nil => exact ReactOnly.refl
  | cons a l ih => exact fun s => (h s a (by simp)).trans (ih (fun t b hb => h t b (by simp [hb])) _)

theorem ReactOnly.wr (s : State) (r : RegId) (v : Word) (h : reactReg r = true) : ReactOnly s (s.wr r v) :=
  ⟨rfl, fun q hq => rd_wr_ne s v (by rintro rfl; rw [h] at hq; cases hq), fun _ _ => rfl⟩

theorem ReactOnly.put (s : State) (r : RegId) (f : Fld) (v : Nat) (h : reactReg r = true) : ReactOnly s (s.put r f v) := .wr s r _ h
theorem ReactOnly.setBit (s : State) (r : RegId) (i : Nat) (h : reactReg r = true) : ReactOnly s (s.setBit r i) := .wr s r _ h
theorem ReactOnly.clrBit (s : State) (r : RegId) (i : Nat) (h : reactReg r = true) : ReactOnly s (s.clrBit r i) := .wr s r _ h

theorem ReactOnly.of_note {s t : State} (h : NoteOnly s t) : ReactOnly s t := .of_txn (.of_note h)
theorem ReactOnly.of_event {s t : State} (h : EvOnly s t) : ReactOnly s t := .of_note (.of_event h)
theorem ReactOnly.ev (s : State) (b src : Nat) : ReactOnly s (s.ev b src) := .of_event (ev_only _ _ _)

theorem ReactOnly.startTimerNs (s : State) (k : TKey) (n : Nat) (h : reactTimer k = true) : ReactOnly s (s.startTimerNs k n) :=
  ⟨rfl, fun _ _ => rfl, fun q hq => by rw [timer_startTimerNs, if_neg]; rintro rfl; rw [h] at hq; cases hq⟩

theorem ReactOnly.stopTimer (s : State) (k : TKey) (h : reactTimer k = true) : ReactOnly s (s.stopTimer k) :=
  ⟨rfl, fun _ _ => rfl, fun q hq => by rw [timer_stopTimer, if_neg]; rintro rfl; rw [h] at hq; cases hq⟩

theorem reactReg_seam (x o h : Nat) : reactReg ⟨.seam, x, o, h⟩ = true := by simp [reactReg]
theorem reactReg_wb (x o h : Nat) : reactReg ⟨.wb, x, o, h⟩ = true := by simp [reactReg]
theorem reactReg_of_ev {r : RegId} (h : evReg r = true) : reactReg r = true := by simp [reactReg, txnReg, noteReg, h]
theorem reactReg_cond (g i : Nat) : reactReg (R.MSP_COND g i) = true := by
  have h1 : 0x1030 ≤ 0x1030 + 0x40 * i := by omega
  simp [reactReg, h1]
theorem reactReg_ref (r : Nat) : reactReg (R.TIME_REF_STATUS r) = true := by
  have h1 : 0x108 ≤ 0x108 + 0x20 * r := by omega
  simp [reactReg, h1]
theorem reactReg_pour (d j : Nat) : reactReg (R.POUR_JOB_STATUS d j) = true := by
  have h1 : 0x134 ≤ 0x134 + 0x80 * j := by omega
  simp [reactReg, h1]
theorem reactReg_out (m : Nat) : reactReg (R.MATRIX_OUT m) = true := by
  have h1 : 0x80 ≤ 0x80 + 0x4 * m := by omega
  simp [reactReg, h1]

theorem ReactOnly.addCtr (s : State) (c : Ctr) (n : Nat) (hl : reactReg c.lo = true) (hh : reactReg c.hi = true) :
    ReactOnly s (s.addCtr c n) := by
  have h1 : ∀ v, ReactOnly s (s.setCtr c v) := fun v => (ReactOnly.wr _ _ _ hh).trans (.wr _ _ _ hl)
  have h2 : ∀ v, ReactOnly s ((s.setCtr c v).setBit (wrapPlace c.lo).1 (wrapPlace c.lo).2) := fun v =>
    (h1 v).trans (.setBit _ _ _ (reactReg_of_ev (evReg_wrapPlace _)))
  have h3 : ReactOnly s (s.addRaw c n).1 := by
    unfold State.addRaw
    dsimp only
    split
    · exact h1 _
    · exact h2 _
  unfold State.addCtr
  generalize s.addRaw c n = p at h3 ⊢
  obtain ⟨s1, w⟩ := p
  exact .ite (h3.trans (.ev _ _ _)) h3

-- What follows a link unit (R182, R233, R235)

theorem ReactOnly.mspCond (s : State) (g k c sd : Nat) (raw : Bool) : ReactOnly s (s.mspCond g k c sd raw) :=
  .ite ((ReactOnly.clrBit _ _ _ (reactReg_cond _ _)).trans (.stopTimer _ _ rfl))
    (.ite (.refl _) (.ite (.setBit _ _ _ (reactReg_cond _ _)) (.ite (.refl _) (.startTimerNs _ _ _ rfl))))

theorem ReactOnly.mspTouch (s : State) (n : Nat) : ReactOnly s (s.mspTouch n) := by
  unfold State.mspTouch
  split
  · exact .foldl _ (fun _ _ _ => (ReactOnly.mspCond _ _ _ _ _ _).trans (.mspCond _ _ _ _ _ _)) _
  · exact .refl _

theorem ReactOnly.withRefS1 (s : State) (l : List Nat) : ReactOnly s { s with refS1 := l } := ⟨rfl, fun _ _ => rfl, fun _ _ => rfl⟩

theorem ReactOnly.setDisputed (s : State) (r : Nat) (b : Bool) : ReactOnly s (s.setDisputed r b) :=
  .ite (.refl _) (((ReactOnly.put _ _ _ _ (reactReg_ref r)).trans (.stopTimer _ _ rfl)).trans (.ev _ _ _))

theorem ReactOnly.showSelectable (s : State) (r : Nat) : ReactOnly s (s.showSelectable r) :=
  .ite (.put _ _ _ _ (reactReg_ref r)) ((ReactOnly.put _ _ _ _ (reactReg_ref r)).trans (.setDisputed _ _ _))

theorem ReactOnly.refShow (s : State) (r : Nat) : ReactOnly s (s.refShow r) := by
  have hs : reactReg R.TIME_STATUS = true := by decide
  unfold State.refShow
  lift_lets
  extract_lets q inv st s1 s2
  have h1 : ReactOnly s s1 :=
    .ite (.refl _) (((ReactOnly.put _ _ _ _ (reactReg_ref r)).trans (.put _ _ _ _ (reactReg_ref r))).trans (.ev _ _ _))
  have h2 : ReactOnly s1 s2 := .ite (.put _ _ _ _ hs) (.refl _)
  exact (h1.trans h2).trans (.showSelectable _ _)

theorem ReactOnly.toQState (s : State) (r q : Nat) : ReactOnly s (s.toQState r q) := by
  unfold State.toQState
  lift_lets
  extract_lets old st s0 wtr s1
  have h0 : ReactOnly s s0 := .ite (.withRefS1 _ _) (.refl _)
  have h1 : ReactOnly s0 s1 := .ite ((ReactOnly.startTimerNs _ _ _ rfl).trans (.put _ _ _ _ (reactReg_ref r)))
    ((ReactOnly.stopTimer _ _ rfl).trans (.put _ _ _ _ (reactReg_ref r)))
  exact .ite (.refl _) ((((h0.trans h1).trans (.put _ _ _ _ (reactReg_ref r))).trans (.ev _ _ _)).trans (.refShow _ _))

theorem ReactOnly.withMainHold (s : State) (b : Bool) : ReactOnly s { s with mainHold := b } := ⟨rfl, fun _ _ => rfl, fun _ _ => rfl⟩

theorem ReactOnly.refLose (s : State) (r : Nat) : ReactOnly s (s.refLose r) := by
  have h : ReactOnly s (((s.put (R.TIME_REF_STATUS r) F.TIME_REF_STATUS_ACTIVE 0).stopTimer (refGateKey r)).refFail r) :=
    ((ReactOnly.put _ _ _ _ (reactReg_ref r)).trans (.stopTimer _ _ rfl)).trans (.ite (.toQState _ _ _) (.refl _))
  exact .ite (h.trans (.withMainHold _ _)) h

theorem ReactOnly.refRegain (s : State) (r : Nat) : ReactOnly s (s.refRegain r) :=
  (ReactOnly.put _ _ _ _ (reactReg_ref r)).trans (.startTimerNs _ _ _ rfl)

theorem ReactOnly.lineRefFollow (s : State) (r : Nat) : ReactOnly s (s.lineRefFollow r) :=
  .ite (.refl _) (.ite (.ite (.refLose _ _) (.refl _)) (.ite (.refl _) (.refRegain _ _)))

/-- A change of an LU's condition touches its protection group and the references that name it, and nothing else. -/
theorem ReactOnly.luTouch (s : State) (n : Nat) : ReactOnly s (s.luTouch n) :=
  (ReactOnly.mspTouch _ _).trans (.foldl _ (fun _ _ _ => .ite (.lineRefFollow _ _) (.refl _)) _)

-- Retirement of link units, spares, lanes, banks and rows

theorem ReactOnly.withUnretire (s : State) (l : List (Nat × Nat)) : ReactOnly s { s with unretire := l } :=
  ⟨rfl, fun _ _ => rfl, fun _ _ => rfl⟩

theorem ReactOnly.withDue (s : State) (l : List Due) : ReactOnly s { s with due := l } := ⟨rfl, fun _ _ => rfl, fun _ _ => rfl⟩

theorem ReactOnly.setSieveAt (s : State) (d b g : Nat) : ReactOnly s (s.setSieveAt d b g) := ⟨rfl, fun _ _ => rfl, fun _ _ => rfl⟩

theorem ReactOnly.retireLU (s : State) (n : Nat) : ReactOnly s (s.retireLU n) :=
  (((ReactOnly.setBit s (R.DIE_UNIT_RETIRE (n / 32)) (n % 32) (by simp [reactReg])).trans (.withUnretire _ _)).trans
    (.luTouch _ _)).trans (.of_txn (.refuseHolding _ _ _))

theorem ReactOnly.updSpareFree (s : State) (g : Nat) : ReactOnly s (s.updSpareFree g) := .put _ _ _ _ (by simp [reactReg])

theorem ReactOnly.spareTaken (s : State) (g k : Nat) : ReactOnly s (s.spareTaken g k) := ⟨rfl, fun _ _ => rfl, fun _ _ => rfl⟩

theorem freeSpare_lt {s : State} {g k : Nat} (h : s.freeSpare g = some k) : k = 0 ∨ k = 1 := by
  have := List.mem_of_find?_eq_some h
  simpa using this

theorem ReactOnly.assignSpare (s : State) (g bank : Nat) : ReactOnly s (s.assignSpare g bank) := by
  unfold State.assignSpare
  split
  · rename_i k hk
    have hr : reactReg (R.RG_SLAB_SPARE g k) = true := by
      rcases freeSpare_lt hk with rfl | rfl <;> simp [reactReg]
    exact (((((ReactOnly.put _ _ _ _ hr).trans (.put _ _ _ _ hr)).trans (.put _ _ _ _ hr)).trans (.updSpareFree _ _)).trans
      (.spareTaken _ _ _)).trans (.ev _ _ _)
  · exact .ev _ _ _

theorem reactReg_seamLane (d k i : Nat) : reactReg (seamLane d k i).1 = true := by
  unfold seamLane
  split
  · exact reactReg_seam _ _ _
  split
  · exact reactReg_seam _ _ _
  · exact reactReg_seam _ _ _

theorem ReactOnly.retireLane (s : State) (d k i : Nat) : ReactOnly s (s.retireLane d k i) := by
  unfold State.retireLane
  refine .ite (.refl _) ?_
  generalize hs1 : s.setBit (seamLane d k i).1 (seamLane d k i).2 = s1
  have h1 : ReactOnly s s1 := by rw [← hs1]; exact .setBit _ _ _ (reactReg_seamLane _ _ _)
  dsimp only
  generalize hs2 : ((s1.put (R.SEAM_STATUS d k) F.SEAM_STATUS_LANES_OK (s1.lanesOk d k)).put (R.SEAM_STATUS d k)
      F.SEAM_STATUS_SPARE_USED (s1.sparesUsed d k)).put (R.DIE_UNIT_STATE d) (dieSpareFld k) (s1.sparesUsed d k) = s2
  have h2 : ReactOnly s s2 := by
    rw [← hs2]
    exact ((h1.trans (.put _ _ _ _ (reactReg_seam _ _ _))).trans (.put _ _ _ _ (reactReg_seam _ _ _))).trans
      (.put _ _ _ _ (reactReg_of_ev (by simp [evReg])))
  exact .ite (((h2.trans (.put _ _ _ _ (reactReg_seam _ _ _))).trans (.of_event (event_only _ _ _ _))).trans
    (.of_event (.liveOn _ _ _))) h2

theorem ReactOnly.sieveEnd (s : State) (d b : Nat) : ReactOnly s (s.sieveEnd d b) := by
  have h : ReactOnly s (s.put (R.WB_OWN d b) F.WB_OWN_ON_LOAN 0) := .put _ _ _ _ (reactReg_wb _ _ _)
  unfold State.sieveEnd
  exact .ite ((h.trans (.put _ _ _ _ (reactReg_wb _ _ _))).trans (.put _ _ _ _ (reactReg_wb _ _ _))) h

theorem ReactOnly.sieveAbandon (s : State) (d b : Nat) : ReactOnly s (s.sieveAbandon d b) := by
  have h : ReactOnly s ((s.sieveEnd d b).setSieveAt d b 0) :=
    (ReactOnly.sieveEnd _ _ _).trans (.setSieveAt _ _ _ _)
  unfold State.sieveAbandon
  exact .ite (h.trans (.addCtr _ _ _ (reactReg_wb _ _ _) (reactReg_wb _ _ _))) (.ite h (.refl _))

theorem ReactOnly.setPour (s : State) (d j : Nat) (x : PourJob) : ReactOnly s (s.setPour d j x) := ⟨rfl, fun _ _ => rfl, fun _ _ => rfl⟩

theorem ReactOnly.pourBank (s : State) (d b : Nat) : ReactOnly s (s.pourBank d b) := by
  have h : ∀ (t : State) (j c : Nat), ReactOnly t (t.pourEnd d j c) := fun t j c =>
    .ite (.refl _) ((((ReactOnly.setPour _ _ _ _).trans (.put _ _ _ _ (reactReg_pour _ _))).trans (.put _ _ _ _ (reactReg_pour _ _))).trans
      (.ev _ _ _))
  exact .foldl _ (fun _ _ _ => .ite (h _ _ _) (.refl _)) _

theorem ReactOnly.withMxOut (s : State) (l : List MxOut) : ReactOnly s { s with mxOut := l } := ⟨rfl, fun _ _ => rfl, fun _ _ => rfl⟩
theorem ReactOnly.withWbWait (s : State) (l : List WbWait) : ReactOnly s { s with wbWait := l } := ⟨rfl, fun _ _ => rfl, fun _ _ => rfl⟩

theorem ReactOnly.mxRetire (s : State) (m i : Nat) : ReactOnly s (s.mxRetire m i) :=
  (ReactOnly.withMxOut _ _).trans (.put _ _ _ _ (reactReg_out _))

theorem ReactOnly.bankViol (s : State) (m d b : Nat) : ReactOnly s (s.bankViol m d b) := by
  unfold State.bankViol
  extract_lets s1 s2
  have h1 : ReactOnly s s1 := .addCtr _ _ _ (reactReg_wb _ _ _) (reactReg_wb _ _ _)
  have h2 : ReactOnly s1 s2 :=
    ((ReactOnly.put _ _ _ _ (reactReg_wb _ _ _)).trans (.put _ _ _ _ (reactReg_wb _ _ _))).trans (.put _ _ _ _ (reactReg_wb _ _ _))
  exact (h1.trans h2).trans (.of_event (event'_only _ _ _ _ _))

theorem ReactOnly.answer (s : State) (c : Completion) : ReactOnly s (s.answer c) := ⟨rfl, fun _ _ => rfl, fun _ _ => rfl⟩

theorem ReactOnly.failBank (s : State) (d b : Nat) : ReactOnly s (s.failBank d b) :=
  (ReactOnly.withWbWait _ _).trans (.foldl _ (fun _ _ _ => (ReactOnly.mxRetire _ _ _).trans ((ReactOnly.bankViol _ _ _ _).trans (.answer _ _))) _)

theorem ReactOnly.retireBank (s : State) (d b : Nat) : ReactOnly s (s.retireBank d b) := by
  unfold State.retireBank
  exact .ite (.refl _) ((((((ReactOnly.sieveAbandon _ _ _).trans (.pourBank _ _ _)).trans (.put _ _ _ _ (reactReg_wb _ _ _))).trans
    (.put _ _ _ _ (reactReg_wb _ _ _))).trans (.put _ _ _ _ (reactReg_wb _ _ _))).trans (.stopTimer _ _ rfl) |>.trans (.failBank _ _ _))

theorem ReactOnly.spareRow (s : State) (d : Nat) : ReactOnly s (s.spareRow d) := by
  unfold State.spareRow
  exact .ite (.put _ _ _ _ (by simp [reactReg])) (.of_event (event'_only _ _ _ _ _))

theorem EvOnly.leaveSevere (s : State) (b src : Nat) : EvOnly s (s.leaveSevere b src) :=
  ((EvOnly.clrBit s (R.EVT_SEVERE b) src rfl).trans (.stopTimer _ _ rfl)).trans (.withSafe _ _)

/-- What a retirement may change. -/
theorem ReactOnly.retireTarget (s : State) (u : Due) : ReactOnly s (s.retireTarget u) := by
  unfold State.retireTarget
  dsimp only
  refine .trans ?_ (.of_event (.leaveSevere _ _ _))
  refine .trans (t := if u.blk < 7 then _ else _) ?_ (.ite (.of_event (.safeReact _ _ _ _)) (.refl _))
  refine .ite (.ite (.retireLane _ _ _ _) (.ite (.retireBank _ _ _) (.ite (.retireBank _ _ _) (.spareRow _ _))))
    (.ite (.assignSpare _ _ _) (.ite ?_ (.retireLU _ _)))
  exact .foldl _ (fun t i _ => ReactOnly.retireLU t _) _

theorem ReactOnly.settleN : ∀ (n : Nat) (s : State), ReactOnly s (State.settleN n s)
  | 0, s => .refl s
  | n + 1, s => by
    unfold State.settleN
    split
    · exact .refl s
    · rename_i u t _
      exact ((ReactOnly.withDue s t).trans (.retireTarget _ _)).trans (ReactOnly.settleN n _)

/-- What the end of a command may change. -/
theorem done_only (s : State) : ∃ t, done s = .next t ∧ ReactOnly s t :=
  ⟨_, rfl, (ReactOnly.settleN _ _).trans (.of_note (.graveHealth _))⟩

end Sys2Proof.Machine
end

