-- ==== Sys2Proof/Laws/Settle.lean ====
section
/-!
SUPPORT. An event on a source without a retirement target leaves nothing to retire, and settling leaves nothing due (R346).
-/

namespace Sys2Proof.Machine

/-- The retirements due stand as they stood. -/
def SameDue (s t : State) : Prop := t.due = s.due

theorem SameDue.refl (s : State) : SameDue s s := rfl
theorem SameDue.trans {s t u : State} (h : SameDue s t) (k : SameDue t u) : SameDue s u := Eq.trans k h

theorem SameDue.ite {c : Prop} [Decidable c] {s t u : State} (h : SameDue s t) (k : SameDue s u) : SameDue s (if c then t else u) := by
  by_cases hc : c <;> simpa [hc]

theorem SameDue.foldl {α : Type} {f : State → α → State} (l : List α) (h : ∀ t a, a ∈ l → SameDue t (f t a)) :
    ∀ s, SameDue s (l.foldl f s) := by
  induction l with
  | nil => exact SameDue.refl
  | cons a l ih => exact fun s => (h s a (by simp)).trans (ih (fun t b hb => h t b (by simp [hb])) _)

theorem SameDue.wr (s : State) (r : RegId) (v : Word) : SameDue s (s.wr r v) := rfl
theorem SameDue.put (s : State) (r : RegId) (f : Fld) (v : Nat) : SameDue s (s.put r f v) := rfl
theorem SameDue.setBit (s : State) (r : RegId) (i : Nat) : SameDue s (s.setBit r i) := rfl
theorem SameDue.clrBit (s : State) (r : RegId) (i : Nat) : SameDue s (s.clrBit r i) := rfl
theorem SameDue.setCtr (s : State) (c : Ctr) (v : Nat) : SameDue s (s.setCtr c v) := rfl
theorem SameDue.startTimerNs (s : State) (k : TKey) (n : Nat) : SameDue s (s.startTimerNs k n) := rfl
theorem SameDue.startTimer (s : State) (k : TKey) (n : Nat) : SameDue s (s.startTimer k n) := rfl
theorem SameDue.stopTimer (s : State) (k : TKey) : SameDue s (s.stopTimer k) := rfl
theorem SameDue.drawn (s : State) : SameDue s s.drawn := rfl

theorem SameDue.msixTo (s : State) (p : Port) (v : Nat) : SameDue s (s.msixTo p v) := by
  unfold State.msixTo
  exact .ite rfl rfl

theorem SameDue.evSend (s : State) (b : Nat) : SameDue s (s.evSend b) := by
  unfold State.evSend
  split
  · exact .msixTo _ _ _
  · exact .msixTo _ _ _
  · exact (SameDue.msixTo _ _ _).trans (.msixTo _ _ _)
  · exact .refl _

theorem SameDue.setPending (s : State) (b : Nat) : SameDue s (s.setPending b) := by
  unfold State.setPending
  exact .ite (.refl _) ((SameDue.put _ _ _ _).trans (.evSend _ _))

theorem SameDue.addRaw (s : State) (c : Ctr) (n : Nat) : SameDue s (s.addRaw c n).1 := by
  unfold State.addRaw
  dsimp only
  split
  · exact .setCtr _ _ _
  · exact (SameDue.setCtr _ _ _).trans (.setBit _ _ _)

theorem SameDue.faultPulse (s : State) : SameDue s s.faultPulse := by
  have h : SameDue s (s.startTimerNs faultKey 2000) := rfl
  unfold State.faultPulse
  exact .ite (.refl _) (.ite h (((h.trans (.put _ _ _ _)).trans (.put _ _ _ _)).trans (.addRaw _ _ _)))

theorem SameDue.latchFirst (s : State) (b src cls : Nat) (d : Word) : SameDue s (s.latchFirst b src cls d) := by
  have h : SameDue s (if s.flag (R.EVT_FIRST0 b) F.EVT_FIRST0_VALID = true then s.put (R.EVT_FIRST0 b) F.EVT_FIRST0_OVF 1
      else s.latching b) := .ite rfl rfl
  exact .ite h (h.trans (by simp [SameDue]))

theorem SameDue.latchPkgFirst (s : State) (b src cls : Nat) : SameDue s (s.latchPkgFirst b src cls) := by
  have h : SameDue s (if s.flag R.EVT_PKG_FIRST0 F.EVT_PKG_FIRST0_VALID = true then s.put R.EVT_PKG_FIRST0 F.EVT_PKG_FIRST0_OVF 1
      else s.latching 175) := .ite rfl rfl
  exact .ite h (h.trans (by simp [SameDue]))

theorem SameDue.clusterRuns (s : State) (b : Nat) (on : Bool) : SameDue s (s.clusterRuns b on) :=
  .ite (by cases on <;> rfl) (.refl _)

theorem SameDue.safeReact (s : State) (b src : Nat) (d : Word) : SameDue s (s.safeReact b src d) :=
  SameDue.ite (c := s.fence = true) (.clusterRuns s b false) (.refl s)

theorem SameDue.react (s : State) {b src : Nat} (cls : Nat) (d : Word) (h : hasTarget b src = false) :
    SameDue s (s.react b src cls d) := by
  unfold State.react State.enterGrave
  refine .ite (.ite (.refl _) (by simp [SameDue])) (.ite (.safeReact _ _ _ _) (.ite ?_ (.refl _)))
  rw [h]
  exact .safeReact _ _ _ _

theorem SameDue.turnSevere (s : State) {b src : Nat} (h : hasTarget b src = false) : SameDue s (s.turnSevere b src) := by
  have k : SameDue s (((((((((s.setBit (R.EVT_SEVERE b) src).put (R.EVT_CFG b src) F.EVT_CFG_WCOUNT 0).stopTimer
      (evWindowKey b src)).startTimer (evQuietKey b src) 0).latchFirst b src (s.get (R.EVT_CFG b src) F.EVT_CFG_CLASS)
      (s.rd (R.EVT_DETAIL b src))).latchPkgFirst b src (s.get (R.EVT_CFG b src) F.EVT_CFG_CLASS)).faultPulse).react b src
      (s.get (R.EVT_CFG b src) F.EVT_CFG_CLASS) (s.rd (R.EVT_DETAIL b src)))) :=
    (((((((SameDue.setBit _ _ _).trans (.put _ _ _ _)).trans (.stopTimer _ _)).trans (.startTimer _ _ _)).trans
      (.latchFirst _ _ _ _ _)).trans (.latchPkgFirst _ _ _ _)).trans (.faultPulse _)).trans (.react _ _ _ h)
  unfold State.turnSevere
  exact .ite (k.trans (.setPending _ _)) k

theorem SameDue.eventRaw (s : State) {b src : Nat} (d : Word) (tw : Bool) (h : hasTarget b src = false ∨ tw = false) :
    SameDue s (s.eventRaw b src d tw).1 := by
  have h0 : SameDue s (((s.addRaw (ctrEvTotal b src) 1).1.setBit (R.EVT_STICKY b) src).wr (R.EVT_DETAIL b src) d) :=
    ((SameDue.addRaw _ _ _).trans (.setBit _ _ _)).trans (.wr _ _ _)
  unfold State.eventRaw
  dsimp only
  generalize hs1 : ((s.addRaw (ctrEvTotal b src) 1).1.setBit (R.EVT_STICKY b) src).wr (R.EVT_DETAIL b src) d = s1 at h0 ⊢
  have h2 : SameDue s (if s1.bit (R.EVT_ENABLE b) src then s1.setPending b else s1) := .ite (h0.trans (.setPending _ _)) h0
  generalize (if s1.bit (R.EVT_ENABLE b) src then s1.setPending b else s1) = s2 at h2 ⊢
  split
  · exact h2.trans (.startTimer _ _ _)
  split
  · exact h2
  rename_i htw
  split
  · exact h2.trans (.turnSevere _ (h.resolve_right (by intro h; simp [h] at htw)))
  · split
    · exact (h2.trans (.put _ _ _ _)).trans (.startTimer _ _ _)
    · exact h2.trans (.put _ _ _ _)

theorem SameDue.skFire (s : State) (d j by_ : Nat) (ts : List Word) : SameDue s (s.skFire d j by_ ts) :=
  (((((SameDue.put _ _ _ _).trans (.put _ _ _ _)).trans (.put _ _ _ _)).trans (.wr _ _ _)).trans (.wr _ _ _)).trans (.wr _ _ _)

theorem skWaiting_die {s : State} {kind : Nat} {p : Nat → Nat → Bool} {e : Nat × Nat} (h : e ∈ s.skWaiting kind p) : e.1 < 4 := by
  unfold State.skWaiting at h
  obtain ⟨x, hx, hx2⟩ := List.mem_filterMap.1 h
  split at hx2
  · have := List.mem_range.1 hx
    cases hx2
    simp; omega
  · cases hx2

theorem hasTarget_skim {d : Nat} (h : d < 4) : hasTarget (evDie d) srcSKIM = false := by
  have : d = 0 ∨ d = 1 ∨ d = 2 ∨ d = 3 := by omega
  rcases this with rfl | rfl | rfl | rfl <;> rfl

theorem SameDue.eventLoop : ∀ (n : Nat) (l : List (Nat × Nat × Word × Bool)) (s : State),
    (∀ e ∈ l, hasTarget e.1 e.2.1 = false ∨ e.2.2.2 = false) → SameDue s (State.eventLoop n l s)
  | 0, _, s, _ => by unfold State.eventLoop; exact .refl s
  | n + 1, [], s, _ => by unfold State.eventLoop; exact .refl s
  | n + 1, (b, src, d, tw) :: l, s, h => by
    have h1 := SameDue.eventRaw s d tw (h (b, src, d, tw) (by simp))
    unfold State.eventLoop
    generalize s.eventRaw b src d tw = p at h1 ⊢
    obtain ⟨s1, w⟩ := p
    dsimp only at h1 ⊢
    refine (h1.trans (.foldl _ (fun t e _ => (SameDue.drawn t).trans (.skFire _ _ _ _ _)) _)).trans (SameDue.eventLoop n _ _ ?_)
    intro e he
    rcases List.mem_append.1 he with he | he
    · exact h e (by simp [he])
    rcases List.mem_append.1 he with he | he
    · cases w
      · simp at he
      · have : e = (evPkg, srcCNT_WRAP, (0 : Word), true) := by simpa using he
        rw [this]; exact .inl rfl
    · obtain ⟨x, hx, hx2⟩ := List.mem_flatMap.1 he
      have : e = (evDie x.1, srcSKIM, (0 : Word), true) := by simpa using hx2
      rw [this]; exact .inl (hasTarget_skim (skWaiting_die hx))

theorem SameDue.event (s : State) {b src : Nat} (d : Word) (h : hasTarget b src = false) : SameDue s (s.event b src d) :=
  .eventLoop _ _ _ (by simp [h])

theorem SameDue.event' (s : State) {b src : Nat} (d : Word) (tw : Bool) (h : hasTarget b src = false ∨ tw = false) :
    SameDue s (s.event' b src d tw) :=
  .eventLoop _ _ _ (by simp [h])
theorem SameDue.ev (s : State) {b src : Nat} (h : hasTarget b src = false) : SameDue s (s.ev b src) := .event s 0 h

theorem SameDue.liveOn (s : State) {b src : Nat} (h : hasTarget b src = false) : SameDue s (s.liveOn b src) := by
  unfold State.liveOn
  exact .ite (.refl _) (.ite ((SameDue.setBit _ _ _).trans (.turnSevere _ h)) (.setBit _ _ _))

theorem SameDue.liveOff (s : State) (b src : Nat) : SameDue s (s.liveOff b src) := by
  unfold State.liveOff
  exact .ite rfl (.refl _)

theorem SameDue.addCtr (s : State) (c : Ctr) (n : Nat) : SameDue s (s.addCtr c n) := by
  have h := SameDue.addRaw s c n
  unfold State.addCtr
  generalize s.addRaw c n = p at h ⊢
  obtain ⟨s1, w⟩ := p
  exact .ite (h.trans (.ev _ rfl)) h

theorem SameDue.setTxn (s : State) (k st : Nat) : SameDue s (s.setTxn k st) := by
  unfold State.setTxn State.txnNotify
  exact .ite (.trans (.trans (.put _ _ _ _) (.wr _ _ _)) (.ite (.ev _ rfl) (.refl _))) (.trans (.put _ _ _ _) (.wr _ _ _))

theorem SameDue.updQueue (s : State) : SameDue s s.updQueue :=
  .foldl _ (fun _ _ _ => (SameDue.put _ _ _ _).trans (.put _ _ _ _)) _

theorem SameDue.setSlot (s : State) (k : Nat) (x : TxnSlot) : SameDue s (s.setSlot k x) := rfl
theorem SameDue.toMate (s : State) (m : MateMsg) : SameDue s (s.toMate m) := rfl

theorem SameDue.beginRestore (s : State) (k : Nat) : SameDue s (s.beginRestore k) :=
  ((SameDue.setSlot _ _ _).trans (.put _ _ _ _)).trans (.updQueue _)

theorem SameDue.refuseFor (s : State) (k code : Nat) (i : Option Nat) : SameDue s (s.refuseFor k code i) := by
  have h : SameDue s (((s.put (R.TXN_STATUS k) F.TXN_STATUS_CODE code).setTxn k txREFUSED).beginRestore k) :=
    ((SameDue.put _ _ _ _).trans (.setTxn _ _ _)).trans (.beginRestore _ _)
  exact .ite (h.trans (.toMate _ _)) h

theorem SameDue.refuseTxn (s : State) (k code : Nat) : SameDue s (s.refuseTxn k code) := .refuseFor _ _ _ _

theorem SameDue.refuseHolding (s : State) (code : Nat) (p : Rec → Bool) : SameDue s (s.refuseHolding code p) := by
  unfold State.refuseHolding
  exact .ite (.refl _) (.foldl _ (fun _ _ _ => .ite (.refuseTxn _ _ _) (.refl _)) _)

-- What follows a link unit

theorem SameDue.mspCond (s : State) (g k c sd : Nat) (raw : Bool) : SameDue s (s.mspCond g k c sd raw) :=
  .ite ((SameDue.clrBit _ _ _).trans (.stopTimer _ _)) (.ite (.refl _) (.ite (.setBit _ _ _) (.ite (.refl _) (.startTimer _ _ _))))

theorem SameDue.mspTouch (s : State) (n : Nat) : SameDue s (s.mspTouch n) := by
  unfold State.mspTouch
  split
  · exact .foldl _ (fun _ _ _ => (SameDue.mspCond _ _ _ _ _ _).trans (.mspCond _ _ _ _ _ _)) _
  · exact .refl _

theorem SameDue.setDisputed (s : State) (r : Nat) (b : Bool) : SameDue s (s.setDisputed r b) :=
  .ite (.refl _) (((SameDue.put _ _ _ _).trans (.stopTimer _ _)).trans (.ev _ rfl))

theorem SameDue.refShow (s : State) (r : Nat) : SameDue s (s.refShow r) := by
  unfold State.refShow
  lift_lets
  extract_lets q inv st s1 s2
  have h1 : SameDue s s1 := .ite (.refl _) (((SameDue.put _ _ _ _).trans (.put _ _ _ _)).trans (.ev _ rfl))
  have h2 : SameDue s1 s2 := .ite (.put _ _ _ _) (.refl _)
  exact (h1.trans h2).trans (.ite (.put _ _ _ _) ((SameDue.put _ _ _ _).trans (.setDisputed _ _ _)))

theorem SameDue.toQState (s : State) (r q : Nat) : SameDue s (s.toQState r q) := by
  unfold State.toQState
  lift_lets
  extract_lets old st s0 wtr s1
  have h0 : SameDue s s0 := .ite rfl (.refl _)
  have h1 : SameDue s0 s1 := .ite ((SameDue.startTimerNs _ _ _).trans (.put _ _ _ _)) ((SameDue.stopTimer _ _).trans (.put _ _ _ _))
  exact .ite (.refl _) ((((h0.trans h1).trans (.put _ _ _ _)).trans (.ev _ rfl)).trans (.refShow _ _))

theorem SameDue.refLose (s : State) (r : Nat) : SameDue s (s.refLose r) := by
  have h : SameDue s (((s.put (R.TIME_REF_STATUS r) F.TIME_REF_STATUS_ACTIVE 0).stopTimer (refGateKey r)).refFail r) :=
    ((SameDue.put _ _ _ _).trans (.stopTimer _ _)).trans (.ite (.toQState _ _ _) (.refl _))
  exact .ite h h

theorem SameDue.lineRefFollow (s : State) (r : Nat) : SameDue s (s.lineRefFollow r) :=
  .ite (.refl _) (.ite (.ite (.refLose _ _) (.refl _)) (.ite (.refl _) ((SameDue.put _ _ _ _).trans (.startTimerNs _ _ _))))

theorem SameDue.luTouch (s : State) (n : Nat) : SameDue s (s.luTouch n) :=
  (SameDue.mspTouch _ _).trans (.foldl _ (fun _ _ _ => .ite (.lineRefFollow _ _) (.refl _)) _)

theorem SameDue.withUnretire (s : State) (l : List (Nat × Nat)) : SameDue s { s with unretire := l } := rfl

theorem SameDue.retireLU (s : State) (n : Nat) : SameDue s (s.retireLU n) :=
  (((SameDue.setBit s (R.DIE_UNIT_RETIRE (n / 32)) (n % 32)).trans (.withUnretire _ _)).trans (.luTouch _ _)).trans (.refuseHolding _ _ _)

theorem hasTarget_die {d src : Nat} (hd : d < 4)
    (h : (src = srcSEAM_LANE || src = srcWB || src = srcSIEVE || src = srcDRAM) = false) : hasTarget (evDie d) src = false := by
  unfold hasTarget evDie
  rw [if_neg (by omega), if_pos (by omega), h]

theorem hasTarget_region {g src : Nat} (hg : g < 8) (h : src ≠ srcSLAB_ECC) : hasTarget (evRegion g) src = false := by
  unfold hasTarget evRegion
  rw [if_neg (by omega), if_neg (by omega), if_pos (by omega)]; simp [h]

theorem SameDue.retireLane (s : State) {d : Nat} (k i : Nat) (hd : d < 4) : SameDue s (s.retireLane d k i) := by
  unfold State.retireLane
  refine .ite (.refl _) ?_
  dsimp only
  generalize hs1 : s.setBit (seamLane d k i).1 (seamLane d k i).2 = s1
  have h1 : SameDue s s1 := by rw [← hs1]; exact .setBit _ _ _
  generalize hs2 : ((s1.put (R.SEAM_STATUS d k) F.SEAM_STATUS_LANES_OK (s1.lanesOk d k)).put (R.SEAM_STATUS d k)
      F.SEAM_STATUS_SPARE_USED (s1.sparesUsed d k)).put (R.DIE_UNIT_STATE d) (dieSpareFld k) (s1.sparesUsed d k) = s2
  have h2 : SameDue s s2 := by
    rw [← hs2]; exact ((h1.trans (.put _ _ _ _)).trans (.put _ _ _ _)).trans (.put _ _ _ _)
  exact .ite (((h2.trans (.put _ _ _ _)).trans (.event _ _ (hasTarget_die hd rfl))).trans (.liveOn _ (hasTarget_die hd rfl))) h2

theorem SameDue.sieveEnd (s : State) (d b : Nat) : SameDue s (s.sieveEnd d b) := by
  unfold State.sieveEnd
  exact .ite (by simp [SameDue]) (.put _ _ _ _)

theorem SameDue.setSieveAt (s : State) (d b g : Nat) : SameDue s (s.setSieveAt d b g) := rfl

theorem SameDue.sieveAbandon (s : State) (d b : Nat) : SameDue s (s.sieveAbandon d b) := by
  have h : SameDue s ((s.sieveEnd d b).setSieveAt d b 0) := (SameDue.sieveEnd _ _ _).trans (.setSieveAt _ _ _ _)
  unfold State.sieveAbandon
  exact .ite (h.trans (.addCtr _ _ _)) (.ite h (.refl _))

theorem SameDue.setPour (s : State) (d j : Nat) (x : PourJob) : SameDue s (s.setPour d j x) := rfl
theorem SameDue.withMxOut (s : State) (l : List MxOut) : SameDue s { s with mxOut := l } := rfl
theorem SameDue.withWbWait (s : State) (l : List WbWait) : SameDue s { s with wbWait := l } := rfl
theorem SameDue.spareTaken (s : State) (g k : Nat) : SameDue s (s.spareTaken g k) := rfl

theorem SameDue.pourBank (s : State) (d b : Nat) (hd : d < 4) : SameDue s (s.pourBank d b) := by
  have h : ∀ (t : State) (j c : Nat), SameDue t (t.pourEnd d j c) := fun t j c =>
    .ite (.refl _) ((((SameDue.setPour t d j _).trans (.put _ _ _ _)).trans (.put _ _ _ _)).trans
      (.ev _ (hasTarget_die hd rfl)))
  exact .foldl _ (fun _ _ _ => .ite (h _ _ _) (.refl _)) _

theorem SameDue.mxRetire (s : State) (m i : Nat) : SameDue s (s.mxRetire m i) :=
  (SameDue.withMxOut s _).trans (.put _ _ _ _)

theorem SameDue.bankViol (s : State) (m d b : Nat) : SameDue s (s.bankViol m d b) := by
  unfold State.bankViol
  extract_lets s1 s2
  have h1 : SameDue s s1 := .addCtr _ _ _
  have h2 : SameDue s1 s2 := ((SameDue.put _ _ _ _).trans (.put _ _ _ _)).trans (.put _ _ _ _)
  exact (h1.trans h2).trans (.event' _ _ _ (.inr rfl))

theorem SameDue.answer (s : State) (c : Completion) : SameDue s (s.answer c) := rfl

theorem SameDue.failBank (s : State) (d b : Nat) : SameDue s (s.failBank d b) :=
  (SameDue.withWbWait s _).trans (.foldl _ (fun _ _ _ => (SameDue.mxRetire _ _ _).trans ((SameDue.bankViol _ _ _ _).trans (.answer _ _))) _)

theorem SameDue.retireBank (s : State) {d : Nat} (b : Nat) (hd : d < 4) : SameDue s (s.retireBank d b) := by
  unfold State.retireBank
  exact .ite (.refl _) (((((((SameDue.sieveAbandon _ _ _).trans (.pourBank _ _ _ hd)).trans (.put _ _ _ _)).trans (.put _ _ _ _)).trans
    (.put _ _ _ _)).trans (.stopTimer _ _)).trans (.failBank _ _ _))

theorem SameDue.assignSpare (s : State) {g : Nat} (bank : Nat) (hg : g < 8) : SameDue s (s.assignSpare g bank) := by
  unfold State.assignSpare
  split
  · exact ((((((SameDue.put _ _ _ _).trans (.put _ _ _ _)).trans (.put _ _ _ _)).trans (.put _ _ _ _)).trans
      (SameDue.spareTaken _ _ _)).trans (.ev _ (hasTarget_region hg (by decide))))
  · exact .ev _ (hasTarget_region hg (by decide))

theorem SameDue.withSafe (s : State) (l : List SafeForce) : SameDue s { s with safe := l } := rfl

theorem SameDue.leaveSevere (s : State) (b src : Nat) : SameDue s (s.leaveSevere b src) :=
  ((SameDue.clrBit _ _ _).trans (.stopTimer _ _)).trans (.withSafe _ _)

theorem SameDue.spareRow (s : State) (d : Nat) : SameDue s (s.spareRow d) := by
  unfold State.spareRow
  exact .ite (.put _ _ _ _) (.event' _ _ _ (.inr rfl))

/-- Carrying out a retirement makes no other one due. -/
theorem SameDue.retireTarget (s : State) (u : Due) : SameDue s (s.retireTarget u) := by
  unfold State.retireTarget
  dsimp only
  refine .trans ?_ (.leaveSevere _ _ _)
  refine .trans (t := if u.blk < 7 then _ else _) ?_ (.ite (.safeReact _ _ _ _) (.refl _))
  by_cases h7 : u.blk < 7
  · rw [if_pos h7]
    exact .ite (.retireLane _ _ _ (by omega)) (.ite (.retireBank _ _ (by omega)) (.ite (.retireBank _ _ (by omega)) (.spareRow _ _)))
  rw [if_neg h7]
  by_cases h15 : u.blk < 15
  · rw [if_pos h15]; exact .assignSpare _ _ (by omega)
  rw [if_neg h15]
  exact .ite (.foldl _ (fun t i _ => SameDue.retireLU t _) _) (.retireLU _ _)

theorem settleN_due : ∀ (n : Nat) (s : State), s.due.length ≤ n → (State.settleN n s).due = []
  | 0, s, h => by unfold State.settleN; exact List.length_eq_zero_iff.1 (by omega)
  | n + 1, s, h => by
    unfold State.settleN
    split
    · assumption
    · rename_i u t hd
      apply settleN_due n
      rw [SameDue.retireTarget { s with due := t } u]
      rw [hd] at h; simp at h; exact h

/-- No retirement is left when a command ends (R346). -/
theorem settle_due (s : State) : s.settle.due = [] := settleN_due _ _ (by omega)

theorem SameDue.updHealth (s : State) : SameDue s s.updHealth := by
  unfold State.updHealth
  exact .ite (.put _ _ _ _) (((SameDue.put _ _ _ _).trans (.put _ _ _ _)).trans (.ev _ rfl))

theorem done_due {s t : State} (h : done s = .next t) : t.due = [] := by
  cases h
  unfold State.graveHealth
  split
  · rw [SameDue.updHealth { s.settle with syncOut := false }]; exact settle_due s
  · exact settle_due s

end Sys2Proof.Machine
end

