-- ==== Sys2Proof/WellFormed.lean ====
section
/-!
DEFINITION. Well-formed commands: operands that the hardware or its surroundings can give. Most operands are bounded by their types; the
checks here bound the rest. The meanings are total and do not rely on them.
-/

namespace Sys2Proof

/-- Bytes that an access names. -/
def MemOp.size : MemOp → Nat
  | .read n => n
  | .write l => l.length

/-- A request of 1 to 4,096 bytes (R388, R411). -/
def MemOp.wf (op : MemOp) : Bool := decide (1 ≤ op.size) && decide (op.size ≤ 4096)

/-- Upset bits: physical bank, word and bit of a slot store (R64, R70). -/
def upsetsOK (l : List (Nat × Nat × Nat)) : Bool :=
  l.all (fun e => decide (e.1 < 98) && decide (e.2.1 < 16384) && decide (e.2.2 < 88))

/-- A reading that 32 bits hold in two's complement. -/
def inWord (v : Int) : Bool := decide (-2147483648 ≤ v) && decide (v < 2147483648)

def Instr.wf : Instr → Bool
  | .powerOn => true
  | .porEnd _ _ _ _ => true
  | .powerOff => true
  | .resetNAssert => true
  | .resetNHoldRelease _ _ _ => true
  | .resetNDeassert _ _ _ => true
  | .perstAssert _ => true
  | .perstDeassert _ => true
  | .functionLevelReset _ => true
  | .packagePllLock _ => true
  | .startupServicesUp _ => true
  | .sramClearDone => true
  | .dramTrainDone => true
  | .dramTrainFail _ => true
  | .dramTrainFailTimeout => true
  | .dramZeroDone => true
  | .memclrOverrun => true
  | .linksAdapted => true
  | .startupMapCommit => true
  | .benchStartStaging _ => true
  | .benchStartSlot0 _ => true
  | .benchStartSlot1 _ => true
  | .benchStartInvalidSource _ => true
  | .imageHeaderRead flash => decide (flash.length ≤ 16777216)
  | .imageReadDone flash again _ => decide (flash.length ≤ 16777216) && again.all (fun l => decide (l.length ≤ 16777216))
  | .fullRebenchApply => true
  | .regionRebenchApply => true
  | .regionPowerApplied => true
  | .regionPllLocked => true
  | .regionSlabsCleared => true
  | .regionLinksApplied => true
  | .regionMapCommit => true
  | .regionRebenchTimeout => true
  | .luRetire _ _ => true
  | .luUnretire _ _ => true
  | .luUnretireApply _ => true
  | .grainCrossing b _ k i _ => i.all (fun x => decide (b.val ≠ 0 ∨ k.val = 16) && decide (b.val ≠ 1) || decide (x < if b.val = 1 then 155520 else 311040))
  | .pllLockLoss _ _ => true
  | .pllRelock _ _ => true
  | .hkWatchdogExpire _ => true
  | .grainDispatch _ _ _ _ _ _ => true
  | .seamBlockReceive _ _ ok1 _ grains _ => (ok1 || grains.Nodup)
  | .cellWrite _ _ _ _ x => upsetsOK x.ups
  | .cellRead _ _ ups => upsetsOK ups
  | .frameBoundary _ => true
  | .consequentActionApply _ => true
  | .pathFailApply _ _ => true
  | .secondBoundary freq phase => inWord freq && inWord phase
  | .pmQuarterClose => true
  | .pmBinWriteDone _ _ => true
  | .lineFrameReceive _ frame => [2430, 9720, 38880, 155520].contains frame.length
  | .framingPatternSighted _ pos => decide (pos < 1244160)
  | .candidateConfirmTime _ _ _ _ => true
  | .losDeclare _ _ _ => true
  | .losClear _ _ => true
  | .lofDeclare _ => true
  | .lofClear _ => true
  | .s1UnstableDeclare _ => true
  | .beaconValidTimeout _ => true
  | .berBlockEnd _ _ => true
  | .rateTryTimeout _ _ => true
  | .rateSearchAutoRestart _ => true
  | .rateSearchRestart _ _ => true
  | .txRateChange _ => true
  | .framerResync _ _ => true
  | .traceFmtChange _ _ _ => true
  | .berThresholdChange _ _ _ _ => true
  | .structWrite _ _ _ _ => true
  | .structApply _ => true
  | .pointerIndication _ _ _ members fall => decide (members.length ≤ 63) && decide (fall ≤ 782)
  | .realignPeriod _ _ _ => true
  | .h4MultiframeCheck _ _ _ => true
  | .lomDeclare _ _ => true
  | .pointerGenerate _ _ x => (x.start.all (fun q => decide (q ≤ 782))) && !(x.neg && x.pos)
  | .pathOverheadReceive _ _ _ _ _ _ => true
  | .journalEnable _ _ _ => true
  | .journalRdWrite _ _ _ => true
  | .pathIndRead _ _ _ _ => true
  | .pathIndWrite _ _ _ _ => true
  | .pathIndDone _ => true
  | .traceCaptureArm _ _ _ _ => true
  | .grpRead _ _ _ _ => true
  | .grpDefine _ _ _ => true
  | .grpSetMember _ _ _ _ => true
  | .grpActivate _ _ _ => true
  | .grpDelete _ _ _ => true
  | .grpAdd _ _ _ _ => true
  | .grpRemove _ _ _ _ => true
  | .grpOpInvalid _ _ _ _ => true
  | .grpEffect _ _ => true
  | .grpDeleteEffect _ _ => true
  | .grpAligned _ _ => true
  | .vcatControlPacket _ _ _ _ h => decide (h.length = 16) || decide (h.length = 4)
  | .deskewLeadMeasure _ _ arrivals => decide (arrivals.length ≤ 256)
  | .lcasHoldoffExpire _ _ _ => true
  | .lcasWtrExpire _ _ _ => true
  | .lcasAddTimeout _ _ => true
  | .lcasMultiframeBoundary _ _ => true
  | .mspActivate _ _ _ => true
  | .mspDelete _ _ _ => true
  | .mspOpInvalid _ _ _ _ => true
  | .mspEffectFrame _ _ => true
  | .mspConfigWrite _ _ _ _ _ => true
  | .mspHoldoffExpire _ _ _ _ => true
  | .mspWtrExpire _ _ => true
  | .mspExerEnd _ _ => true
  | .fopTimerExpire _ _ _ => true
  | .sncpEvaluate _ _ => true
  | .sncpHoldoffExpire _ _ _ => true
  | .sncpWtrExpire _ _ => true
  | .sncpIndRead _ _ _ _ => true
  | .sncpLogPop _ _ => true
  | .tgFrameReceive _ bits _ _ => decide (bits.length = 195313)
  | .mateFrameReceive _ hdr theta _ _ _ dly s1s _ crcs _ => decide (hdr.length = 64) && inWord theta && decide (dly.length ≤ 129) && decide (s1s.length ≤ 128) && crcs.all (fun e => decide (e.1 < 128))
  | .mateTakeReceive _ => true
  | .mateAckReceive _ => true
  | .mateRefuseReceive _ => true
  | .arbSelChange _ => true
  | .hoTakeSend => true
  | .hoSwitch => true
  | .hoYokeRelease _ => true
  | .yokeTakeUnplanned _ => true
  | .hoTakeWaitTimeout => true
  | .alignQualify => true
  | .refEnable _ _ _ => true
  | .refDisable _ _ _ => true
  | .refActivityLoss _ => true
  | .refActivityReturn _ => true
  | .refGateResult _ _ => true
  | .refWtrExpire _ => true
  | .disputeClear _ => true
  | .mainCmdAuto _ _ => true
  | .mainCmdForce _ _ => true
  | .mainCmdManual _ _ => true
  | .mainCmdHoldover _ _ => true
  | .mainCmdFreerun _ _ => true
  | .dpllLockAchieved _ => true
  | .switchingClear => true
  | .oscInLoss => true
  | .syncInEdge _ => true
  | .syncLosTimeout => true
  | .syncAlign _ _ => true
  | .syncSetSec _ _ => true
  | .setSecApply => true
  | .tbSnapshotRead _ _ => true
  | .pmRead _ _ _ _ _ => true
  | .pmEnable _ _ _ _ _ => true
  | .pmDisable _ _ _ _ _ => true
  | .pmEnableLu _ _ _ _ _ => true
  | .pmDisableLu _ _ _ _ _ => true
  | .pmSetCfg _ _ _ _ _ => true
  | .pmOpInvalid _ _ _ _ _ _ => true
  | .pmDayOfsWrite _ _ _ => true
  | .pmTcaPop _ _ => true
  | .counterLoRead _ addr n _ => decide (1 ≤ n) && decide (n ≤ 4096) && decide (addr.toNat + n ≤ 268435456)
  | .skimTapAdd _ _ _ _ => true
  | .skimTapRemove _ _ _ _ => true
  | .skimTapFetchAdd _ _ _ _ => true
  | .skimTapClear _ _ _ => true
  | .skimTapFetchDone _ _ => true
  | .skimJobDefine _ _ _ => true
  | .skimJobStart _ _ _ => true
  | .skimJobStartAsap _ _ _ => true
  | .skimJobStop _ _ _ => true
  | .skimJobTrigger _ _ _ => true
  | .skimJobRelease _ _ _ => true
  | .skimJobOpInvalid _ _ _ _ => true
  | .skimJobBegin _ _ => true
  | .skimGrainTap _ _ _ _ _ _ => true
  | .skimTriggerTime _ _ => true
  | .skimFlushTimeout _ _ => true
  | .skimRecordWritten _ _ _ => true
  | .skimStopFn _ _ => true
  | .skimRdWrite _ _ _ _ => true
  | .drainDescriptorPost _ _ _ _ => true
  | .drainCopyDone _ _ _ _ => true
  | .drainEnableWrite _ _ _ _ => true
  | .skimPrbsRead _ _ _ => true
  | .skimPrbsWrite _ _ _ => true
  | .skimPrbsClear _ _ _ => true
  | .skimPrbsOpInvalid _ _ _ => true
  | .pourTgtAdd _ _ _ _ => true
  | .pourTgtRemove _ _ _ _ => true
  | .pourTgtFetchAdd _ _ _ _ => true
  | .pourTgtClear _ _ _ => true
  | .pourTgtFetchDone _ _ _ => true
  | .pourJobDefine _ _ _ => true
  | .pourJobStart _ _ _ => true
  | .pourJobStartAsap _ _ _ => true
  | .pourJobStop _ _ _ => true
  | .pourJobRelease _ _ _ => true
  | .pourJobOpInvalid _ _ _ _ => true
  | .pourJobBegin _ _ => true
  | .pourReleaseFrame _ _ => true
  | .pourInjectArm _ _ _ _ _ _ => true
  | .pourScriptStep _ _ _ => true
  | .wbAccess _ _ _ off op _ _ => op.wf && decide (off.val % 8 + op.size ≤ 8)
  | .wbOwnerWrite _ _ _ _ => true
  | .wbHandoverDone _ _ => true
  | .wbSieveZeroDone _ _ => true
  | .wbClaimNormal _ _ _ => true
  | .wbClaimUrgent _ _ _ => true
  | .wbRetire _ _ _ => true
  | .wbUnretire _ _ _ => true
  | .wbUnretireDone _ _ => true
  | .sieveBorrow _ _ => true
  | .sieveGroupStep _ _ _ => true
  | .dramAccess _ _ o op _ => op.wf && decide (o.val + op.size ≤ 17179869184)
  | .dramPatrolRead _ _ _ => true
  | .bar2Request _ a op _ => op.wf && decide (a + op.size ≤ 137438953472)
  | .matrixRequest _ _ _ _ => true
  | .matrixMasterReset _ _ => true
  | .matrixResetDone _ _ _ => true
  | .txnOpen _ _ => true
  | .txnOpenMirror _ _ => true
  | .txnClose _ _ => true
  | .txnCloseAsap _ _ => true
  | .txnAbort _ _ => true
  | .txnRelease _ _ => true
  | .txnOpInvalid _ _ => true
  | .txnRecordAppend _ _ _ => true
  | .txnFnWrite _ _ _ => true
  | .txnFetchStart _ _ _ => true
  | .txnFetchRecord _ _ => true
  | .mapRecordBuilt _ _ => true
  | .txnSeal _ _ => true
  | .txnCommit _ _ => true
  | .unionDispatchWithdraw _ => true
  | .shadowSyncDone _ => true
  | .txnRestoreDone _ => true
  | .mirrorEnableWrite _ _ => true
  | .mateTxnReceive _ _ _ _ _ _ => true
  | .mateSealTimeout _ => true
  | .mateAckTimeout _ => true
  | .mapDiagActive _ _ _ _ => true
  | .mapDiagShadow _ _ _ _ => true
  | .mapDiagDispatch _ _ _ _ => true
  | .mapDiagGather _ _ _ _ => true
  | .mapDiagDone _ => true
  | .slabDiagRead _ _ _ _ => true
  | .slabDiagDone _ => true
  | .slabEccInjArm _ _ _ _ => true
  | .slabSpareWrite _ _ _ _ => true
  | .slabSpareApply _ _ => true
  | .eventWindowExpire _ _ => true
  | .severeAutoRelease _ _ => true
  | .severeClear _ _ _ => true
  | .safeRelease => true
  | .fenceRestart _ => true
  | .evtCfgWrite _ _ _ _ => true
  | .evtForce _ _ _ => true
  | .evtAck _ _ => true
  | .blockReset _ _ _ _ => true
  | .firstRecordClear _ _ => true
  | .faultHoldWrite _ _ => true
  | .faultPulseEnd => true
  | .voltageSample _ _ _ => true
  | .tempSample _ _ _ _ => true
  | .agingMeasure _ _ _ => true
  | .termProbe _ _ => true
  | .tdrCableStart _ _ _ => true
  | .tdrCableDone _ found => found.all (fun e => decide (-1000 ≤ e.2) && decide (e.2 ≤ 1000))
  | .tdrTraceRun _ _ => true
  | .monRailWindowWrite _ _ _ _ => true
  | .calLoad _ => true
  | .calRecal _ _ _ => true
  | .calArm _ => true
  | .calCommit _ => true
  | .calOpInvalid _ _ => true
  | .calLoadDone => true
  | .calRecalDone res => res.all (fun l => l.all (fun e => decide (e.1 < 65536)))
  | .calCommitDone => true
  | .calArmExpire => true
  | .registerWrite _ _ data => decide (1 ≤ data.length) && decide (data.length ≤ 4096)
  | .pcieLinkDown _ _ => true
  | .mboxDataWrite _ _ _ _ => true
  | .mboxSend _ _ => true
  | .mboxAck _ _ => true
  | .spiRead _ _ _ _ _ => true
  | .spiWrite _ _ _ _ _ => true
  | .spiDone data _ => decide (data.length ≤ 256)
  | .smbSetPointer _ _ => true
  | .smbBlockRead => true
  | .smbReadRegister => true
  | .smbWriteRegister _ _ => true
  | .smbUnknownCommand => true
  | .smbSclTimeout => true
  | .tapReset => true
  | .extest _ => true
  | .samplePreload _ => true
  | .idcode => true
  | .clamp => true
  | .highz => true
  | .extestPulse _ => true
  | .extestTrain _ => true
  | .factoryTest => true
  | .bypass _ => true
  | .serdesFault _ => true
  | .serdesFaultEnd _ => true
  | .pcieLinkUp _ _ _ => true
  | .pcieConfigWrite _ _ _ _ _ => true
  | .tbLockLoss => true
  | .faultPinMismatch => true
  | .faultPinMismatchEnd => true
  | .registerParityError => true
  | .errLastRead _ _ _ => true

end Sys2Proof
end

