-- ==== Sys2Proof/Tests/Slice0.lean ====
section
/-!
SUPPORT. The model's own tests: for each check of well-formedness a command that it refuses; the worked examples of the spec; and for each
statement with hypotheses the states and operands that meet them.
-/

open Sys2Proof Sys2Proof.Machine

namespace Sys2Proof.Tests

set_option Elab.async false
set_option linter.unusedVariables false

/-- Registers put one after another. -/
def sets (s : State) (l : List (RegId × Fld × Nat)) : State := l.foldl (fun t e => t.put e.1 e.2.1 e.2.2) s

/-- Both host ports linked, start-up complete, severity enabled. -/
def up : State :=
  { sets State.reset [(R.HOSTIF_PORT_STATUS, F.HOSTIF_PORT_STATUS_A_UP, 1), (R.HOSTIF_PORT_STATUS, F.HOSTIF_PORT_STATUS_B_UP, 1),
      (R.PKG_START, F.PKG_START_STEP, 10)] with sevOn := true }

/-- `up` in GRAVE. -/
def graved : State := (up.put R.EVT_SUM_STATUS F.EVT_SUM_STATUS_GRAVE 1).setBit R.PAIR_HEALTH_CAUSE 1

/-- Memory with bytes placed from an address on. -/
def placed (s : State) (a : Nat) (l : List Byte) : State := s.st a l

/-- A region image for region 0: LINKS and POWER. -/
def image : List Byte :=
  ([83, 81, 66, 73, 1, 0, 64, 0, 64, 1, 0, 0, 2, 0, 1, 0, 0, 0, 0, 0, 52, 18] ++ List.replicate 38 0 ++ [34, 236, 243, 76,
    1, 0, 0, 0, 128, 0, 0, 0, 64, 0, 0, 0, 163, 78, 184, 250, 2, 0, 0, 0, 192, 0, 0, 0, 8, 0, 0, 0, 146, 184, 52, 17] : List Byte) ++
  List.replicate 32 0 ++ [1] ++ List.replicate 63 0 ++ [1, 0, 0, 0, 1] ++ List.replicate 59 0 ++
  [83, 81, 66, 69] ++ List.replicate 12 0 ++
  [47, 2, 226, 215, 85, 225, 80, 107, 181, 232, 9, 49, 120, 96, 188, 212, 197, 21, 8, 146, 99, 90, 167, 24, 62, 249, 151, 202, 6, 146, 153, 5,
    85, 135, 115, 165, 68, 94, 166, 56, 106, 247, 119, 98, 12, 228, 217, 71]

/-- The image in the staging window, of BENCH_LEN bytes. -/
def staged : State := placed (up.put R.BENCH_LEN F.BENCH_LEN_LENGTH 320) stagingBase image
def fullImg : Img := ⟨true, 255, 7, []⟩
def regImg : Img := ⟨false, 0, 7, []⟩
/-- An accepted image at a stage. -/
def applies (i : Img) (st : Stage) : State := { up with applying := some ⟨i, false, st, 0⟩ }

/-- AU-4 0 of link n. -/
def au4 (n : Nat) : TA := mkTA n 0 3 7 3 2
/-- Links 0 and 1 STM-1, 2 STM-4, 3 a rate search, 4 a TG link, region 0 powered with two slabs. -/
def line : State :=
  { sets up [(R.DIE_UNIT_STATE 0, F.DIE_UNIT_STATE_RG_POWER, 3), (R.DIE_UNIT_STATE 0, F.DIE_UNIT_STATE_CL_POWER, 255)] with
    pers := [(0, 1), (1, 1), (2, 2), (3, 9), (4, 11)], depth := [(0, 2)] }
/-- AU-4 of link 0 connected to link 1, with a selector of its own kind and UNCONN. -/
def conn (typ snc unc : Nat) : Rec :=
  ⟨BitVec.ofNat 32 (2 ^ 28 * typ + (au4 1).toNat), BitVec.ofNat 32 (2 ^ 28 * snc + 2 ^ 27 + (au4 0).toNat), BitVec.ofNat 32 (if snc = 0 then 0 else (au4 2).toNat),
    BitVec.ofNat 32 (2 ^ 16 * unc)⟩
def mapped (r : Rec) : State := { line with actMap := [(r.key, some r)] }

/-- A group's header word: MODE, TYPE 0, X, DMAX 1, LCAS. -/
def head (mode typ x : Nat) (lcas : Bool) : Word :=
  [(F.GRP_CFG0_MODE, mode), (F.GRP_CFG0_TYPE, typ), (F.GRP_CFG0_X, x), (F.GRP_CFG0_DMAX, 1), (F.GRP_CFG0_LCAS, if lcas then 1 else 0)].foldl
    (fun w e => fset w e.1 e.2) 0
/-- A group with one member on AU-4 of link 0. -/
def group (st mode : Nat) (lcas : Bool) (f : GrpMem → GrpMem) : Grp :=
  { freeGrp with st := st, cfg0 := head mode 0 1 lcas, cfg1 := fset 0 F.GRP_CFG1_RSACK_TO 1,
                 mem := [f { emptyMem with ing := some ((au4 0).setWidth 32), eg := (au4 1).setWidth 32 }] }
def grouped (g : Grp) : State := { line with dram := [(0, ⟨1, 1, 1, 2, 1⟩)], grps := [(0, g)] }

/-- The pointer interpreters of links 0 and 2 in NORM. -/
def good (s : State) : State :=
  (s.setPath false (au4 0) { s.path false (au4 0) with ptr := 0 }).setPath false (au4 2) { s.path false (au4 2) with ptr := 0 }

theorem settled_iff (s : State) : Settled s ↔ s.due = [] ∧ (s.grave = true → s.bit R.PAIR_HEALTH_CAUSE 1 = true) :=
  ⟨fun h => ⟨h.1, h.2⟩, fun h => ⟨h.1, h.2⟩⟩
theorem inv_iff (s : State) : Inv s ↔ Memory.wf s.mem = true ∧ storeWf RegId.code resetVal s.regs = true ∧ s.ns < 125000 ∧ s.smbPtr.toNat % 4 = 0 :=
  ⟨fun h => ⟨h.1, h.2, h.3, h.4⟩, fun h => ⟨h.1, h.2.1, h.2.2.1, h.2.2.2⟩⟩


/-- The first unit of a die's DRAM lies in CAPTURE where that partition has a unit. -/
theorem partAt_first (s : State) (d o : Nat) (h : o < unitBytes) (hc : 0 < (s.partsOf d).capture) : s.partAt d o = some 0 := by
  have hu : ¬ Config.dramUnits ≤ 0 := by unfold Config.dramUnits; split <;> decide
  have ho : o / unitBytes = 0 := Nat.div_eq_of_lt h
  simp [State.partAt, ho, hu, hc]

/-- No partition covers a byte of a stack that has none. -/
theorem partAt_none (s : State) (d o : Nat) (h : s.partsOf d = ⟨0, 0, 0, 0, 0⟩) : s.partAt d o = none := by
  simp [State.partAt, h]

/-- A source of another number is not one of a die's. -/
theorem not_on_die (b src n : Nat) (h : src ≠ n) (d : Nat) : (b, src) ≠ (evDie d, n) := fun e => h (congrArg Prod.snd e)


-- Well-formedness: for each check a command that it refuses, and one at the bound that it admits

namespace Syntax

/-- Lists of a length. -/
def bytes (n : Nat) : List Byte := List.replicate n 0

theorem test_wf_image_header (n : Nat) : (Instr.imageHeaderRead (bytes n)).wf = decide (n ≤ 16777216) := by
  show decide ((bytes n).length ≤ 16777216) = _
  simp [bytes]

theorem test_wf_image_read (n m : Nat) :
    (Instr.imageReadDone (bytes n) [bytes m] true).wf = (decide (n ≤ 16777216) && decide (m ≤ 16777216)) := by
  show (decide ((bytes n).length ≤ 16777216) && [bytes m].all (fun l => decide (l.length ≤ 16777216))) = _
  simp [bytes]

theorem test_wf_grain_crossing :
    (Instr.grainCrossing 1 0 0 (some 155520) 0).wf = false ∧ (Instr.grainCrossing 1 0 0 (some 155519) 0).wf = true ∧
    (Instr.grainCrossing 0 0 0 (some 155520) 0).wf = true := by decide +kernel

theorem test_wf_seam_block :
    (Instr.seamBlockReceive 0 0 false true [3, 3] none).wf = false ∧ (Instr.seamBlockReceive 0 0 false true [3, 4] none).wf = true := by
  decide +kernel

theorem test_wf_upsets :
    (Instr.cellWrite 0 0 0 false ⟨false, [], .ok, false, 0, [(98, 0, 0)]⟩).wf = false ∧ (Instr.cellRead 0 0 [(0, 16384, 0)]).wf = false ∧
    (Instr.cellRead 0 0 [(0, 0, 88)]).wf = false ∧ (Instr.cellWrite 0 0 0 false ⟨false, [], .ok, false, 0, [(97, 16383, 87)]⟩).wf = true := by decide +kernel

theorem test_wf_second_boundary :
    (Instr.secondBoundary 2147483648 0).wf = false ∧ (Instr.secondBoundary 0 (-2147483649)).wf = false ∧
    (Instr.secondBoundary 2147483647 (-2147483648)).wf = true := by decide +kernel

theorem test_wf_line_frame (n : Nat) :
    (Instr.lineFrameReceive 0 (bytes n)).wf = [2430, 9720, 38880, 155520].contains n := by
  show [2430, 9720, 38880, 155520].contains (bytes n).length = _
  rw [bytes, List.length_replicate]

theorem test_wf_framing_pattern :
    (Instr.framingPatternSighted 0 1244160).wf = false ∧ (Instr.framingPatternSighted 0 1244159).wf = true := by decide +kernel

theorem test_wf_pointers :
    (Instr.pointerIndication false 0 0 (List.replicate 64 0) 0).wf = false ∧ (Instr.pointerIndication false 0 0 [] 783).wf = false ∧
    (Instr.pointerIndication false 0 0 (List.replicate 63 0) 782).wf = true ∧ (Instr.pointerGenerate false 0 ⟨true, true, none⟩).wf = false ∧
    (Instr.pointerGenerate false 0 ⟨true, false, some 783⟩).wf = false ∧ (Instr.pointerGenerate false 0 ⟨true, false, some 782⟩).wf = true := by
  decide +kernel

theorem test_wf_groups :
    (Instr.vcatControlPacket 0 0 0 true (bytes 5)).wf = false ∧ (Instr.vcatControlPacket 0 0 0 true (bytes 16)).wf = true ∧
    (Instr.deskewLeadMeasure 0 0 (List.replicate 257 0)).wf = false := by decide +kernel

theorem test_wf_tg_frame (n : Nat) : (Instr.tgFrameReceive 0 (bytes n) 0 0).wf = decide (n = 195313) := by
  show decide ((bytes n).length = 195313) = _
  simp [bytes]

theorem test_wf_mate_frame :
    (Instr.mateFrameReceive true (bytes 63) 0 false false false [] [] 0 [] false).wf = false ∧
    (Instr.mateFrameReceive true (bytes 64) 2147483648 false false false [] [] 0 [] false).wf = false ∧
    (Instr.mateFrameReceive true (bytes 64) 0 false false false (List.replicate 130 0) [] 0 [] false).wf = false ∧
    (Instr.mateFrameReceive true (bytes 64) 0 false false false [] (List.replicate 129 0) 0 [] false).wf = false ∧
    (Instr.mateFrameReceive true (bytes 64) 0 false false false [] [] 0 [(128, 0)] false).wf = false ∧
    (Instr.mateFrameReceive true (bytes 64) 0 false false false [] [] 0 [(127, 0)] false).wf = true := by decide +kernel

theorem test_wf_counter_read :
    (Instr.counterLoRead .a 0 0 2).wf = false ∧ (Instr.counterLoRead .a 0 4097 2).wf = false ∧
    (Instr.counterLoRead .a 268435452 5 2).wf = false ∧ (Instr.counterLoRead .a 268435452 4 2).wf = true := by decide +kernel

theorem test_wf_memory :
    (Instr.wbAccess 0 0 0 4 (.read 5) .ok none).wf = false ∧ (Instr.wbAccess 0 0 0 0 (.write []) .ok none).wf = false ∧
    (Instr.wbAccess 0 0 0 4 (.read 4) .ok none).wf = true ∧
    (Instr.dramAccess 0 0 17179869183 (.read 2) []).wf = false ∧ (Instr.dramAccess 0 0 17179869183 (.read 1) []).wf = true ∧
    (Instr.bar2Request .a 0 (.read 4097) []).wf = false ∧ (Instr.bar2Request .a 137438953471 (.read 2) []).wf = false ∧
    (Instr.bar2Request .a 137438953471 (.read 1) []).wf = true := by decide +kernel

theorem test_wf_sensing :
    (Instr.tdrCableDone 0 (some (0, 1001))).wf = false ∧ (Instr.tdrCableDone 0 (some (0, -1000))).wf = true ∧
    (Instr.calRecalDone (some [(65536, 0)])).wf = false ∧ (Instr.calRecalDone (some [(65535, 0)])).wf = true := by decide +kernel

theorem test_wf_host :
    (Instr.registerWrite .a 0 []).wf = false ∧ (Instr.registerWrite .a 0 [none]).wf = true ∧
    (Instr.spiDone (bytes 257) false).wf = false ∧ (Instr.spiDone (bytes 256) false).wf = true := by decide +kernel

end Syntax

/-- A command runs to a next state of which a check holds. -/
def ran (o : Out) (f : State → Bool) : Bool :=
  match o with
  | .next t => f t
  | _ => false

-- The worked examples of the spec. Each expected value is the spec's own.

namespace Worked

/-- spec/00_scope.md: the TU-12 in link 5, link 70 named whole, and a VC-4 on link 32. -/
theorem test_tributary_addresses :
    mkTA 5 10 1 4 2 6 = 0x0A5326 ∧ linkTA 70 = 0x8C07F0 ∧ mkTA 32 0 3 7 3 2 = 0x4007F2 := by decide +kernel

/-- spec/03_grains_slot_store.md: the four columns of the VC-12 on LU5, and the column before the first is not one of them. -/
theorem test_ingress_columns :
    [4682, 8714, 12746, 16778].all (fun c => (trLocate false 0x0A5326 0 64 c).isSome) = true ∧
    (trLocate false 0x0A5326 0 64 4681).isSome = false := by decide +kernel

/-- spec/03_grains_slot_store.md: the four columns of the VC-12 on LU100, in the row of their byte. -/
theorem test_egress_columns :
    [1576, 5608, 9640, 13672].all (fun c => (trLocate false 0xC94086 0 64 (17280 + c)).any (fun e => e.1 == 1)) = true := by
  decide +kernel

/-- spec/03_grains_slot_store.md: the slot wait W of that service. -/
theorem test_slot_wait : tauNs 64 (155520 - 3106) = 122503 := by decide +kernel

/-- spec/13_memory_matrix.md and spec/18_address_map.md: where registers and banks lie. -/
theorem test_addresses :
    wbBase 2 5 = 0x20140000 ∧ bar0 0x6800014 = .reg .wb 2 0x14 ∧ bar0 0x7442510 = .reg .evt 147 0x110 ∧
    bar0 0x7B00010 = .reg .seam 3 0x10 ∧ bar0 0x7320000 = .reg .cluster 25 0 ∧ bar0 0x7100000 = .reg .region 6 0 := by decide +kernel

/-- spec/14_faults.md: the factory classification of RG6.CLOCK: SAFE, N = 1, a window of 1 ms. -/
theorem test_rg_clock_classification : factory 13 6 = (clsSafe, 1, 1) := by decide +kernel

/-- spec/14_faults.md, step 1: the PLL of RG6 loses lock. -/
theorem test_rg_clock_lost :
    ran (exec (.pllLockLoss 2 6) (sets up [(R.DIE_UNIT_STATE 3, F.DIE_UNIT_STATE_RG_POWER, 1), (R.EVT_CFG 13 6, F.EVT_CFG_CLASS, 2),
      (R.EVT_CFG 13 6, F.EVT_CFG_N, 1)])) (fun t =>
      t.rd (R.EVT_FIRST0 13) == 0x90000006 && t.rd R.EVT_PKG_FIRST0 == 0x90000D06 && t.bit (R.EVT_SEVERE 13) 6) = true := by
  decide +kernel

/-- spec/15_sensing_calibration.md: LU9, retired, on a cable of velocity factor 0.700. -/
theorem test_cable_length : cableLength 119130 700 = 12500 ∧ loadOhm (-10) = 98 := by decide +kernel

/-- spec/17_host_management.md: the board controller reads sensor 4. -/
theorem test_smbus_sensor :
    ran (exec .smbReadRegister { up.wr (R.MON_TEMP 4) 0x478 with smbPtr := 0x310 }) (fun t =>
      (match t.resp with | .block l _ => l == [0x78, 0x04, 0, 0] | _ => false) && t.smbPtr == 0x314) = true := by decide +kernel

/-- spec/11_performance_monitoring.md: the slots of a die with 2 units of PMHIST. -/
theorem test_pm_slots : { up with dram := [(0, ⟨1, 1, 1, 2, 1⟩)] }.pmCap 0 = 80659 := by decide +kernel

/-- spec/19_electrical_package.md: the balls of LU37 and of LU100. -/
theorem test_balls :
    [(luBalls 37).txp, (luBalls 37).txn, (luBalls 37).rxp, (luBalls 37).rxn].map ballName = ["B18", "C18", "E18", "F18"] ∧
    [(luBalls 100).txp, (luBalls 100).txn, (luBalls 100).rxp, (luBalls 100).rxn].map ballName = ["CY62", "CW62", "CU62", "CT62"] := by
  decide +kernel

end Worked

-- The values where the clauses of a statement meet. The limits are the spec's own numbers.

namespace Limits

/-- LU 0 at STM-1 with a full block of SF_EXP 3 and v violations, the defect set or not. -/
def block (set : Bool) (v : Nat) : State :=
  let s := (line.put (R.LU_SEC_BER 0) F.LU_SEC_BER_SF_EXP 3).updSec 0 (fun x => { x with sf := (64, v) })
  if set then s.secSet 0 sMS_EXC true else s

/-- spec/05_line_framing.md, Table 05-6: in a block of 64 frames of STM-1 (1,536 places) f reaches 0.39925 from 614 violations on and
0.07401 from 114 on: the first sets MS-EXC, below the second it clears, and between them it keeps what it was. -/
theorem test_ber_limits :
    ran (exec (.berBlockEnd 0 false) (block false 614)) (fun t => t.secBit 0 sMS_EXC) = true ∧
    ran (exec (.berBlockEnd 0 false) (block false 613)) (fun t => !t.secBit 0 sMS_EXC) = true ∧
    ran (exec (.berBlockEnd 0 false) (block true 114)) (fun t => t.secBit 0 sMS_EXC) = true ∧
    ran (exec (.berBlockEnd 0 false) (block true 113)) (fun t => !t.secBit 0 sMS_EXC) = true := by decide +kernel

/-- spec/05_line_framing.md, Table 05-6: a block one frame short is not judged. -/
theorem test_ber_block_short :
    ran (exec (.berBlockEnd 0 false) ((block false 614).updSec 0 (fun x => { x with sf := (63, 614) }))) (fun t => !t.secBit 0 sMS_EXC) = true := by
  decide +kernel

/-- REF_IN0 active in a state of Table 10-3 with its gate run out, the limits as reset leaves them: 9.2 and 12.0 ppm. -/
def gated (q : Nat) : State :=
  { sets line [(R.TIME_REF_STATUS 0, F.TIME_REF_STATUS_QSTATE, q), (R.TIME_REF_STATUS 0, F.TIME_REF_STATUS_ACTIVE, 1)] with
    timers := [(refGateKey 0, some 0)] }

/-- spec/10_timing.md, Tables 10-3, 10-4 and 10-17 (units of 10^-13): a result at ACCEPT starts the WTR and one beyond it does not; one at REJECT keeps the state and
one beyond it fails the reference, on either side of zero. -/
theorem test_gate_limits :
    ran (exec (.refGateResult 0 92000000) (gated 1)) (fun t => t.qState 0 == 2) = true ∧
    ran (exec (.refGateResult 0 92000001) (gated 1)) (fun t => t.qState 0 == 1) = true ∧
    ran (exec (.refGateResult 0 120000000) (gated 3)) (fun t => t.qState 0 == 3) = true ∧
    ran (exec (.refGateResult 0 120000001) (gated 3)) (fun t => t.qState 0 == 1) = true ∧
    ran (exec (.refGateResult 0 (BitVec.ofInt 32 (-120000000))) (gated 3)) (fun t => t.qState 0 == 3) = true ∧
    ran (exec (.refGateResult 0 (BitVec.ofInt 32 (-120000001))) (gated 3)) (fun t => t.qState 0 == 1) = true := by decide +kernel

/-- Slot 0 open, its commit frame f, in frame n and ns x of it. -/
def opened (n f x : Nat) : State :=
  { (up.put (R.TXN_STATUS 0) F.TXN_STATUS_STATE txOPEN).wr (R.TXN_FN 0) (BitVec.ofNat 32 f) with frames := n, up := n, ns := x }

/-- A CLOSE in that state is refused with a code, or leaves the slot BUILT. -/
def closes (n f x c : Nat) : Bool :=
  ran (exec (.txnClose .a 0) (opened n f x)) (fun t => t.txnState 0 == txREFUSED && t.get (R.TXN_STATUS 0) F.TXN_STATUS_CODE == c)
def closed (n f x : Nat) : Bool := ran (exec (.txnClose .a 0) (opened n f x)) (fun t => t.txnState 0 == txBUILT)

/-- spec/04_connection_transactions.md: FN is a multiple of 4, at most 2^31 − 1 frames ahead and at least 4; with nothing queued the build
bound of 10 µs leaves the two frames before the seal, to the nanosecond. -/
theorem test_close_limits :
    closes 0 5 0 rcFN_ALIGN = true ∧ closes 0 7 0 rcFN_ALIGN = true ∧ closed 0 4 0 = true ∧ closes 1 4 0 rcLEAD = true ∧
    closed 1 (2 ^ 31) 0 = true ∧ closes 0 (2 ^ 31) 0 rcFN_RANGE = true ∧ closed (2 ^ 32 - 4) 0 124999 = true := by decide +kernel

/-- spec/15_sensing_calibration.md: a sensor warns at its limit, not 1/16 °C below, and clears 2 °C below it, not 1/16 °C above that. -/
theorem test_temperature_limits :
    aboveLimit false (16 * 100) 100 = true ∧ aboveLimit false (16 * 100 - 1) 100 = false ∧ aboveLimit true (16 * 98) 100 = false ∧
    aboveLimit true (16 * 98 + 1) 100 = true := by decide +kernel

/-- spec/15_sensing_calibration.md: a rail is in its window at either end of it and out of it one millivolt further. -/
theorem test_rail_limits :
    let w := railWord (760, 840)
    inWindow w 760 = true ∧ inWindow w 840 = true ∧ inWindow w 759 = false ∧ inWindow w 841 = false := by decide +kernel

end Limits

-- One witness for each statement with hypotheses: a state and operands that meet them, clause by clause

namespace Bench

def st (n : Nat) : State := up.put R.PKG_START F.PKG_START_STEP n

def BY : Array (List Byte) := #[image.take 64, List.replicate 64 0, image.drop 64]

theorem witness_step_runs_the_front_command :
  (∃ c : Instr, ∃ l : List Instr, ∃ s : State, s.pending = c :: l) ∧
  (∃ p : Port, ∃ i : Instr, ∃ s : State, ∃ t : State, s.pending = [] ∧ s.heldReady p = some i ∧ (p = .b → s.heldReady .a = none) ∧
    exec i (s.withoutHeld p) = .next t ∧ t.bit R.MATRIX_MRST_BUSY p.toNat = true) ∧
  (∃ p : Port, ∃ i : Instr, ∃ s : State, ∃ t : State, s.pending = [] ∧ s.heldReady p = some i ∧ (p = .b → s.heldReady .a = none) ∧
    exec i (s.withoutHeld p) = .next t ∧ t.bit R.MATRIX_MRST_BUSY p.toNat = false) ∧
  (∃ s : State, s.pending = [] ∧ s.heldReady .a = none ∧ s.heldReady .b = none ∧ s.services = true ∧ s.ns < 124999) ∧
  (∃ s : State, s.pending = [] ∧ s.heldReady .a = none ∧ s.heldReady .b = none ∧ s.services = true ∧ 124999 ≤ s.ns) ∧
  (∃ s : State, s.pending = [] ∧ s.heldReady .a = none ∧ s.heldReady .b = none ∧ s.services = false) :=
  ⟨⟨.tapReset, [], { up with pending := [.tapReset] }, rfl⟩,
   ⟨.a, .matrixMasterReset .a 0, { up with mxWait := [⟨0, .cmd (.matrixMasterReset .a 0)⟩] }, _, by decide +kernel, by decide +kernel, by decide, rfl,
     by decide +kernel⟩,
   ⟨.a, .matrixMasterReset .a 1, { up with mxWait := [⟨0, .cmd (.matrixMasterReset .a 1)⟩] }, _, by decide +kernel, by decide +kernel, by decide, rfl,
     by decide +kernel⟩,
   ⟨up, by decide +kernel⟩,
   ⟨{ up with ns := 124999 }, by decide +kernel⟩,
   ⟨{ up with pwr := .off }, by decide +kernel⟩⟩

theorem witness_every_step_keeps_the_invariant : ∃ s : State, ∃ t : State, Inv s ∧ Settled s ∧ step s = .next t :=
  ⟨up, { up with clk := 1, ns := 1 }, by rw [inv_iff]; decide +kernel, by rw [settled_iff]; decide +kernel, rfl⟩

theorem witness_commands_leave_the_queue : ∃ c : Instr, ∃ s : State, ∃ t : State, exec c s = .next t :=
  ⟨.tapReset, up, { up with tapIr := 2 }, rfl⟩

theorem witness_power_and_reset_follow_their_lines :
  (∃ s : State, s.pwr = .off) ∧
  (∃ _ : Bool, ∃ _ : Bool, ∃ _ : BitVec 3, ∃ s : State, s.pwr = .por ∧ s.rstLow = true ∧ Settled s) ∧
  (∃ _ : Bool, ∃ _ : Bool, ∃ _ : Bool, ∃ _ : BitVec 3, ∃ s : State, s.pwr = .por ∧ s.rstLow = false) ∧
  (∃ s : State, Inv s ∧ s.pwr = .run ∧ s.grave = false ∧ s.rstHeld = false ∧ s.calRun ≠ 4) ∧
  (∃ s : State, s.pwr = .run ∧ s.grave = false ∧ s.rstHeld = false ∧ s.calRun = 4) ∧
  (∃ s : State, s.grave = true) ∧
  (∃ _ : Bool, ∃ _ : Bool, ∃ _ : BitVec 3, ∃ s : State, s.rstHeld = true ∧ s.calRun ≠ 4 ∧ s.grave = false) ∧
  (∃ _ : Bool, ∃ _ : Bool, ∃ _ : BitVec 3, ∃ s : State, s.rstLow = true ∧ s.pwr = .reset) :=
  ⟨⟨{ up with pwr := .off}, by decide +kernel⟩,
   ⟨true, false, 0x6#3, {up with pwr := .por, rstLow := true}, by rw [settled_iff]; decide +kernel⟩,
   ⟨true, false, false, 0x5#3, {up with pwr := .por}, by decide +kernel⟩,
   ⟨State.reset, by rw [inv_iff]; decide +kernel⟩,
   ⟨{up with calRun := 4}, by decide +kernel⟩,
   ⟨graved, by decide +kernel⟩,
   ⟨false, true, 0x5#3, {up with rstHeld := true}, by decide +kernel⟩,
   ⟨true, true, 0x2#3, {up with rstLow := true, pwr := .reset}, by decide +kernel⟩⟩

theorem witness_start_up_steps :
  (∃ _ : Bool, ∃ s : State, s.pwr = .run ∧ s.startStep = 1) ∧
  (∃ _ : Nat, ∃ s : State, s.pwr = .run ∧ s.startStep = 2) ∧
  (∃ s : State, s.services = true ∧ s.startStep = 3) ∧
  (∃ s : State, s.services = true ∧ s.startStep < 5 ∧ s.dramBad = [] ∧ s.dramTrained = false) ∧
  (∃ d : Fin 4, ∃ s : State, s.services = true ∧ s.dramReady = false ∧ d.val ∉ s.dramBad ∧ s.due = []) ∧
  (∃ s : State, s.services = true ∧ s.dramBad ≠ [] ∧ s.fullActive = false ∧ s.timerDone ⟨.dramFail, ⟨0, 0, 0⟩⟩ = true) ∧
  (∃ s : State, s.services = true ∧ s.startStep < 6 ∧ s.dramTrained = true ∧ s.dramBad = [] ∧ s.applying = none ∧ Settled s) ∧
  (∃ s : State, s.clearsLate ≠ [] ∧ s.due = []) ∧
  (∃ s : State, s.clearsLate = [] ∧ Settled s) ∧
  (∃ a : Applying, ∃ s : State, s.applying = some a ∧ a.img.full = true ∧ a.stage = .hkSet) ∧
  (∃ a : Applying, ∃ s : State, s.applying = some a ∧ a.img.full = true ∧ a.stage = .linksSet ∧ s.ns = 0 ∧ s.fn % 4 = 0 ∧ a.after ≤ s.up) :=
  ⟨⟨true, State.reset, by decide +kernel⟩,
   ⟨4096, (st 2).put R.PKG_START F.PKG_START_BOOT 2, by decide +kernel⟩,
   ⟨st 3, by decide +kernel⟩,
   ⟨{ st 4 with regs := (R.DRAM_STATUS 0, 0) :: (st 4).regs }, by decide +kernel⟩,
   ⟨1, { st 3 with regs := (R.DRAM_STATUS 0, 0) :: (st 3).regs }, by decide +kernel⟩,
   ⟨{st 5 with dramBad := [0], clk := 10, timers := [(⟨.dramFail, ⟨0, 0, 0⟩⟩, some 5)]}, by decide +kernel⟩,
   ⟨{ st 5 with dramTrained := true }, by rw [settled_iff]; decide +kernel⟩,
   ⟨{up with clk := 50000000, timers := [(clearKey 1 0 0, some 5)]}, by decide +kernel⟩,
   ⟨st 1, by rw [settled_iff]; decide +kernel⟩,
   ⟨{ img := { full := true, region := 255, id := 0x00000007#32, sects := [] }, boot := false, stage := Stage.hkSet, after := 0 },
     applies fullImg .hkSet, by decide +kernel⟩,
   ⟨{ img := { full := true, region := 255, id := 0x00000007#32, sects := [] }, boot := false, stage := Stage.linksSet, after := 0 },
     applies fullImg .linksSet, by decide +kernel⟩⟩

theorem witness_images_are_loaded_and_judged :
  (∃ p : Port, ∃ s : State, s.reaches p 0 = true ∧ s.benchBusy = false ∧ s.grave = false) ∧
  (∃ p : Port, ∃ s : State, s.reaches p 0 = true ∧ Settled s ∧ (s.benchBusy = true ∨ s.grave = true)) ∧
  (∃ _ : List Byte, ∃ l : Load, ∃ s : State, s.load = some l ∧ l.header = none ∧ l.source = 0 ∧ headerBad (s.ld stagingBase 64) = none ∧
    lengthBad (s.ld stagingBase 64) (some (s.get R.BENCH_LEN F.BENCH_LEN_LENGTH)) = none) ∧
  (∃ flash : List Byte, ∃ l : Load, ∃ r : BRef, ∃ s : State, s.load = some l ∧ l.header = none ∧ l.source ≠ 0 ∧ s.spiRun = none ∧
    (headerBad ((List.range 64).map (fun i => flash.getD i 0))).or (lengthBad ((List.range 64).map (fun i => flash.getD i 0)) none) = some r ∧
    l.fallback = false ∧ l.boot = false) ∧
  (∃ flash : List Byte, ∃ again : List (List Byte), ∃ _ : Bool, ∃ l : Load, ∃ h : List Byte, ∃ s : State, s.load = some l ∧ l.header = some h ∧
    l.boot = false ∧ let b := if l.source = 0 then s.ld stagingBase (le h 8 4) else h ++ (List.range (le h 8 4 - 64)).map (fun i => flash.getD (64 + i) 0); let v := s.imageCheck (if l.source = 0 then 0 else 3) again b; v.bad = none) ∧
  (∃ flash : List Byte, ∃ again : List (List Byte), ∃ _ : Bool, ∃ l : Load, ∃ h : List Byte, ∃ r : BRef, ∃ s : State, s.load = some l ∧
    l.header = some h ∧ l.fallback = false ∧
    (s.imageCheck (if l.source = 0 then 0 else 3) again (if l.source = 0 then s.ld stagingBase (le h 8 4) else h ++ (List.range (le h 8 4 - 64)).map (fun i => flash.getD (64 + i) 0))).bad = some r) ∧
  (∃ flash : List Byte, ∃ again : List (List Byte), ∃ _ : Bool, ∃ l : Load, ∃ h : List Byte, ∃ r : BRef, ∃ s : State, s.load = some l ∧
    l.header = some h ∧ l.fallback = true ∧ l.fell = false ∧
    (s.imageCheck (if l.source = 0 then 0 else 3) again (if l.source = 0 then s.ld stagingBase (le h 8 4) else h ++ (List.range (le h 8 4 - 64)).map (fun i => flash.getD (64 + i) 0))).bad = some r) :=
  ⟨⟨Port.a, up, by decide +kernel⟩,
   ⟨Port.b, {staged with load := some ⟨0, false, false, false, none⟩}, by rw [settled_iff]; decide +kernel⟩,
   ⟨[], ⟨0, false, false, false, none⟩, { staged with load := some ⟨0, false, false, false, none⟩ }, by decide +kernel⟩,
   ⟨[], ⟨1, false, false, false, none⟩, ⟨1, 1, 0, 0⟩, { up with load := some ⟨1, false, false, false, none⟩ }, by decide +kernel⟩,
   ⟨[], [], true, ⟨0, false, false, false, some (image.take 64)⟩, image.take 64,
     { staged with load := some ⟨0, false, false, false, some (image.take 64)⟩ }, by decide +kernel⟩,
   ⟨[], [], true, ⟨0, false, false, false, some (image.take 64)⟩, image.take 64, ⟨3, 5, 0, 256⟩,
     { staged.stb (stagingBase + 256) 9 with load := some ⟨0, false, false, false, some (image.take 64)⟩ }, by decide +kernel⟩,
   ⟨[], [], true, ⟨0, false, true, false, some (image.take 64)⟩, image.take 64, ⟨3, 5, 0, 256⟩,
     { staged.stb (stagingBase + 256) 9 with load := some ⟨0, false, true, false, some (image.take 64)⟩ }, by decide +kernel⟩⟩

theorem witness_rebench_steps :
  (∃ a : Applying, ∃ s : State, s.applying = some a ∧ a.img.full = true ∧ a.stage = .waiting ∧ s.ns = 0 ∧ a.after ≤ s.up) ∧
  (∃ a : Applying, ∃ s : State, s.applying = some a ∧ a.img.full = false ∧ a.stage = .waiting ∧ s.ns = 0 ∧ a.after ≤ s.up ∧
    s.commitsFirst a.img.region = false) ∧
  (∃ a : Applying, ∃ s : State, s.applying = some a ∧ a.img.full = false ∧ a.stage = .forced ∧ Settled s ∧ s.overBound = false) ∧
  (∃ a : Applying, ∃ s : State, s.applying = some a ∧ a.img.full = false ∧ a.stage = .powered ∧ s.overBound = false) ∧
  (∃ a : Applying, ∃ s : State, s.applying = some a ∧ a.img.full = false ∧ a.stage = .locked ∧ s.overBound = false) ∧
  (∃ a : Applying, ∃ s : State, s.applying = some a ∧ a.img.full = false ∧ a.stage = .cleared ∧ s.overBound = false) ∧
  (∃ a : Applying, ∃ s : State, s.applying = some a ∧ a.img.full = false ∧ a.stage = .linksSet ∧ s.ns = 0 ∧ s.fn % 4 = 0 ∧ a.after ≤ s.up) ∧
  (∃ a : Applying, ∃ s : State, s.applying = some a ∧ a.img.full = false ∧ a.stage ∈ [Stage.forced, .powered, .locked, .cleared] ∧
    s.overBound = true) ∧
  (∃ s : State, s.overBound = true) :=
  ⟨⟨{ img := { full := true, region := 255, id := 0x00000007#32, sects := [] }, boot := false, stage := Stage.waiting, after := 0 },
    applies fullImg .waiting, by decide +kernel⟩,
   ⟨{ img := { full := false, region := 0, id := 0x00000007#32, sects := [] }, boot := false, stage := Stage.waiting, after := 0 },
     applies regImg .waiting, by decide +kernel⟩,
   ⟨{ img := { full := false, region := 0, id := 0x00000007#32, sects := [] }, boot := false, stage := Stage.forced, after := 0 },
     applies regImg .forced, by rw [settled_iff]; decide +kernel⟩,
   ⟨{ img := { full := false, region := 0, id := 0x00000007#32, sects := [] }, boot := false, stage := Stage.powered, after := 0 },
     applies regImg .powered, by decide +kernel⟩,
   ⟨{ img := { full := false, region := 0, id := 0x00000007#32, sects := [] }, boot := false, stage := Stage.locked, after := 0 },
     applies regImg .locked, by decide +kernel⟩,
   ⟨{ img := { full := false, region := 0, id := 0x00000007#32, sects := [] }, boot := false, stage := Stage.cleared, after := 0 },
     applies regImg .cleared, by decide +kernel⟩,
   ⟨{ img := { full := false, region := 0, id := 0x00000007#32, sects := [] }, boot := false, stage := Stage.linksSet, after := 0 },
     applies regImg .linksSet, by decide +kernel⟩,
   ⟨{ img := { full := false, region := 0, id := 0x00000007#32, sects := [] }, boot := false, stage := Stage.forced, after := 0 },
     {applies regImg .forced with clk := 9, timers := [(⟨.rebench, ⟨0, 0, 0⟩⟩, some 5)]}, by decide +kernel⟩,
   ⟨{applies regImg .forced with clk := 9, timers := [(⟨.rebench, ⟨0, 0, 0⟩⟩, some 5)]}, by decide +kernel⟩⟩

end Bench

namespace Fabric

def g0 : FabGrain := ⟨0, 0, 13, 0, none, false, true, false, [0], mkGrain true 5⟩

def g1 : FabGrain := ⟨0, 0, 13, 0, none, false, true, false, [0, 1], mkGrain true 5⟩

def g2 : FabGrain := ⟨0, 32, 1, 0, none, false, true, false, [0, 1], mkGrain true 5⟩

def sw (ef : Nat) (f : BitVec 88) (fl : List Nat) : SlabWord := ⟨0x55AA, f, ef, fl, false⟩

def slb (f : BitVec 88) : State := { line with up := 3, slabs := [(0, sw 3 f [1])] }

def seam (s : State) : State := sets s [(R.SEAM_STATUS 0 0, F.SEAM_STATUS_UP, 1),(R.SEAM_STATUS 0 1, F.SEAM_STATUS_UP, 1),(R.SEAM_STATUS 1 0,
  F.SEAM_STATUS_UP, 1)]

def jobP : PourJob := { emptyPour with tgts := [freshTgt 0x20007f2] }

def tx2 (s : State) : State := { s with txGrains := [(0, mkGrain true 7), (13, mkGrain false 9)] }

def play (w : Word) : State := { sets (good { mapped (conn 0 0 0) with dram := [(0, ⟨1, 1, 1, 2, 1⟩)] }) [(R.POUR_JOB_STATUS 0 0, F.POUR_JOB_STATUS_STATE, 3)] with pourJobs := [(0, { emptyPour with tgts := [{ freshTgt w with n := 1 }] })] }

theorem witness_grains_cross_and_are_sent :
  (∃ _ : Fin 4, ∃ _ : Fin 128, ∃ _ : Fin 17, ∃ g : Grain, ∃ _ : State, oddParity g = true) ∧
  (∃ _ : Fin 128, ∃ k : Fin 17, ∃ _ : Nat, ∃ _ : Grain, ∃ _ : State, k.val ≠ 16) ∧
  (∃ _ : Fin 128, ∃ i : Nat, ∃ _ : Grain, ∃ e : FabGrain, ∃ s : State, s.fabric[i]? = some e) ∧
  (∃ _ : Fin 128, ∃ _ : Fin 17, ∃ i : Nat, ∃ _ : Grain, ∃ e : FabGrain, ∃ s : State, s.fabric[i]? = some e) ∧
  (∃ _ : Fin 128, ∃ _ : Fin 17, ∃ _ : Option Nat, ∃ g : Grain, ∃ _ : State, oddParity g = false) ∧
  (∃ n : Fin 128, ∃ p : Fin 155520, ∃ _ : Bool, ∃ _ : Bool, ∃ _ : Byte, ∃ k : Nat, ∃ s : State, s.nLink n = some k ∧ s.isTG n = false ∧
    p.val < frameBytes k ∧ s.feedNames n = [n.val] ∧ s.rxStopped n = false ∧ s.regionStopped (luRegion n) = false ∧ (∀ r ∈ s.served,
    ∀ u ∈ s.sourcesAt r n p, (s.equaliser (s.srcAu3 u) u).isSome = false)) ∧
  (∃ d : Fin 4, ∃ k : Fin 3, ∃ _ : List Nat, ∃ s : State, s.flag (R.SEAM_STATUS d k) F.SEAM_STATUS_UP = true ∧ Settled s) ∧
  (∃ d : Fin 4, ∃ k : Fin 3, ∃ _ : Bool, ∃ _ : List Nat, ∃ s : State, s.flag (R.SEAM_STATUS d k) F.SEAM_STATUS_UP = true ∧ Settled s) ∧
  (∃ d : Fin 4, ∃ k : Fin 3, ∃ _ : List Nat, ∃ _ : Fin 66, ∃ s : State, s.flag (R.SEAM_STATUS d k) F.SEAM_STATUS_UP = true) :=
  ⟨⟨0, 1, 1, 0x001#10, mapped (conn 0 0 0), by decide +kernel⟩,
   ⟨1, 1, 16, 0x006#10, {line with fabric := [g0]}, by decide +kernel⟩,
   ⟨0, 0, 0x155#10, { die := 0, link := 0, pos := 13, dep := 0, leave := none, whole := false, trib := true, eq := false, regs := [0], g := 0x205#10 },
     {line with fabric := [g0]}, by decide +kernel⟩,
   ⟨0, 1, 0, 0x001#10, { die := 0, link := 0, pos := 13, dep := 0, leave := none, whole := false, trib := true, eq := false, regs := [0], g := 0x205#10 },
     {line with fabric := [g0]}, by decide +kernel⟩,
   ⟨1, 1, some 16, 0x006#10, {line with fabric := [g0]}, by decide +kernel⟩,
   ⟨0, 9, false, true, 6, 1, mapped (conn 0 0 0), by decide +kernel, by decide +kernel, by decide +kernel, by decide +kernel, by decide +kernel,
     by decide +kernel, fun _ _ _ _ => rfl⟩,
   ⟨1, 1, [], {line with fabric := [g1, g0]}, by rw [settled_iff]; decide +kernel⟩,
   ⟨1, 1, false, [18], {line with fabric := [g0]}, by rw [settled_iff]; decide +kernel⟩,
   ⟨1, 1, [], 1, {line with fabric := [g0]}, by decide +kernel⟩⟩

theorem witness_cells_are_written_and_read :
  (∃ g : Fin 8, ∃ l : Fin 128, ∃ p : Fin 155520, ∃ _ : CellFaults, ∃ i : Nat, ∃ f : FabGrain, ∃ s : State, s.regionStopped g = false ∧
    s.fabric.findIdx? (fun f => f.die == g.val / 2 && f.link == l.val && f.pos == p.val && f.regs.contains g.val) = some i ∧ s.fabric[i]? = some f) ∧
  (∃ g : Fin 8, ∃ l : Fin 128, ∃ p : Fin 155520, ∃ x : CellFaults, ∃ i : Nat, ∃ f : FabGrain, ∃ r : Rec, ∃ k : Nat, ∃ s : State,
    s.fabric.findIdx? (fun f => f.die == g.val / 2 && f.link == l.val && f.pos == p.val && f.regs.contains g.val) = some i ∧ s.fabric[i]? = some f ∧
    s.regionStopped g = false ∧ x.ups = [] ∧ (∀ j : Fin 8, s.txnState j ≠ txSEALED) ∧ s.entries = [r] ∧ s.entry r.key = some r ∧ r.typ = tyConnect ∧
    r.hasSnc = false ∧ s.selected r = r.src ∧ luRegion (taLink r.eg) = g.val ∧ taLink r.src = l.val ∧ s.nLink l = some k ∧
    (if taKind r.src = 0 then f.whole else f.trib) = true ∧ f.eq = (s.equaliser (s.srcAu3 r.src) r.src).isSome) ∧
  (∃ r : Rec, ∃ src : TA, ∃ k : Nat, ∃ m : Nat, ∃ q : Nat, ∃ f : FabGrain, ∃ s : State, s.outN (taLink r.eg) = some m ∧
    s.nLink (taLink r.eg) = some m ∧ trMap (s.srcAu3 src) src k r.egAu3 r.eg m r.nc f.pos = some q) ∧
  (∃ g : Fin 8, ∃ l : Fin 128, ∃ _ : Fin 155520, ∃ x : CellFaults, ∃ s : State, s.regionStopped g = false ∧ luRegion l = g.val ∧ x.ups = [] ∧
    x.gather = false) ∧
  (∃ n : Nat, ∃ q : Nat, ∃ ef : Nat, ∃ gr : Grain, ∃ s : State, s.slabDepth (luRegion n) ≠ 0 ∧ s.up ≤ ef ∧ ef < s.up + s.slabDepth (luRegion n) ∧
    let g := luRegion n; let b := cellBank (s.slabOf g ef) (n % 16) q; let k := slabKey g (s.pbank g b) (cellWord q); let x := s.slab k; let t := s.cellPut n q ef gr; x.ef = ef ∧
    x.gone = false ∧ cellLane q ∈ x.filled) ∧
  (∃ n : Nat, ∃ q : Nat, ∃ ef : Nat, ∃ gr : Grain, ∃ s : State, s.slabDepth (luRegion n) ≠ 0 ∧ s.up ≤ ef ∧ ef < s.up + s.slabDepth (luRegion n) ∧
    let g := luRegion n; let b := cellBank (s.slabOf g ef) (n % 16) q; let k := slabKey g (s.pbank g b) (cellWord q); let x := s.slab k; let t := s.cellPut n q ef gr; x.ef = ef ∧
    x.gone = true) ∧
  (∃ n : Nat, ∃ q : Nat, ∃ ef : Nat, ∃ gr : Grain, ∃ s : State, s.slabDepth (luRegion n) ≠ 0 ∧ s.up ≤ ef ∧ ef < s.up + s.slabDepth (luRegion n) ∧
    let g := luRegion n; let b := cellBank (s.slabOf g ef) (n % 16) q; let k := slabKey g (s.pbank g b) (cellWord q); let x := s.slab k; let t := s.cellPut n q ef gr; (x.ef ≠ ef ∨ (x.gone = false ∧
    cellLane q ∉ x.filled))) ∧
  (∃ n : Nat, ∃ q : Nat, ∃ ef : Nat, ∃ gr : Grain, ∃ s : State, s.slabDepth (luRegion n) ≠ 0 ∧ s.up ≤ ef ∧ ef < s.up + s.slabDepth (luRegion n) ∧
    let g := luRegion n; let b := cellBank (s.slabOf g ef) (n % 16) q; let k := slabKey g (s.pbank g b) (cellWord q); let x := s.slab k; let t := s.cellPut n q ef gr; (x.ef ≠ ef ∨ (x.gone = false ∧
    cellLane q ∉ x.filled)) ∧ flipCount x.flip = 1) ∧
  (∃ n : Nat, ∃ q : Nat, ∃ ef : Nat, ∃ gr : Grain, ∃ s : State, s.slabDepth (luRegion n) ≠ 0 ∧ s.up ≤ ef ∧ ef < s.up + s.slabDepth (luRegion n) ∧
    let g := luRegion n; let b := cellBank (s.slabOf g ef) (n % 16) q; let k := slabKey g (s.pbank g b) (cellWord q); let x := s.slab k; let t := s.cellPut n q ef gr; (x.ef ≠ ef ∨ (x.gone = false ∧
    cellLane q ∉ x.filled)) ∧ 2 ≤ flipCount x.flip) ∧
  (∃ n : Nat, ∃ _ : Nat, ∃ ef : Nat, ∃ _ : Grain, ∃ s : State, s.slabDepth (luRegion n) ≠ 0 ∧ ef < s.up) ∧
  (∃ n : Fin 128, ∃ w : Fin 19440, ∃ s : State, s.slabDepth (luRegion n) ≠ 0 ∧ s.bridgedFrom n = some n.val ∧ s.regionStopped (luRegion n) = false ∧
    8 * w.val < frameBytes ((s.outN n).getD 0)) ∧
  (∃ n : Fin 128, ∃ w : Fin 19440, ∃ s : State, Settled s ∧ frameBytes ((s.outN n).getD 0) ≤ 8 * w.val) ∧
  (∃ n : Nat, ∃ m : Nat, ∃ q : Nat, ∃ _ : SlabWord, ∃ s : State, s.outForced m = false ∧ s.playAt [poPLAYING, poENDING] n q = none ∧
    s.entryAt n q = none) ∧
  (∃ n : Nat, ∃ m : Nat, ∃ q : Nat, ∃ _ : SlabWord, ∃ s : State, s.outForced m = false ∧ s.playAt [poPLAYING, poENDING] n q = none) :=
  ⟨⟨0, 0, 13, { gather := true, errs := [], sram := Ecc.ok, late := false, flip := 0x001#10, ups := [] }, 0,
    { die := 0, link := 0, pos := 13, dep := 0, leave := none, whole := false, trib := true, eq := false, regs := [0], g := 0x205#10 },
    {line with fabric := [g0]}, by decide +kernel⟩,
   ⟨0, 0, 13, { gather := true, errs := [], sram := Ecc.ok, late := false, flip := 0x001#10, ups := [] }, 0,
     { die := 0, link := 0, pos := 13, dep := 0, leave := none, whole := false, trib := true, eq := false, regs := [0, 1], g := 0x205#10 },
     { w0 := 0x000207f2#32, w1 := 0x080007f2#32, w2 := 0x00000000#32, w3 := 0x00000000#32 }, 1, {mapped (conn 0 0 0) with fabric := [g1]},
     by decide +kernel⟩,
   ⟨{ w0 := 0x000207f2#32, w1 := 0x080007f2#32, w2 := 0x00000000#32, w3 := 0x00000000#32 }, 0x0207f2#24, 1, 1, 13,
     { die := 0, link := 0, pos := 13, dep := 0, leave := none, whole := false, trib := true, eq := false, regs := [0, 1], g := 0x205#10 },
     {mapped (conn 0 0 0) with up := 3, slabs := [(1, sw 3 0 [5]), (0, sw 3 0 [1])]}, by decide +kernel⟩,
   ⟨0, 3, 155519, { gather := false, errs := [], sram := Ecc.ok, late := false, flip := 0x000#10, ups := [] },
     {mapped (conn 1 0 0) with up := 3, slabs := [(1, sw 3 0 [5]), (0, sw 3 0 [1])]}, by decide +kernel⟩,
   ⟨0, 2, 3, 0x3f0#10, {mapped (conn 1 0 1) with up := 3, slabs := [(1, sw 3 0 [5]), (0, sw 3 0 [0,1,2,3,4,5,6,7])]}, by dsimp only; decide +kernel⟩,
   ⟨0, 0, 3, 0, { line with up := 3, slabs := [(0, { sw 3 0 [1] with gone := true }), (1, { sw 3 0 [1] with gone := true })] },
     by dsimp only; decide +kernel⟩,
   ⟨3, 64, 3, 0x3f2#10, slb 1, by dsimp only; decide +kernel⟩,
   ⟨0, 5, 3, 0x155#10, slb 1, by dsimp only; decide +kernel⟩,
   ⟨0, 3, 3, 0x3f2#10, slb 3, by dsimp only; decide +kernel⟩,
   ⟨1, 782, 0, 0x234#10, {mapped (conn 0 0 0) with up := 3, slabs := [(1, sw 3 0 [5]), (0, sw 3 0 [1])]}, by decide +kernel⟩,
   ⟨1, 1, {line with fabric := [g0]}, by decide +kernel⟩,
   ⟨31, 0, {mapped (conn 1 0 0) with up := 3, slabs := [(1, sw 3 0 [5]), (0, sw 3 0 [1])]}, by rw [settled_iff]; decide +kernel⟩,
   ⟨4096, 2, 2688, { data := 0x000000000000000055aa#80, flip := 0x0000000000000000000000#88, ef := 3, filled := [1], gone := false },
     mapped (conn 0 0 0), by decide +kernel⟩,
   ⟨4096, 2, 2688, { data := 0x000000000000000055aa#80, flip := 0x0000000000000000000000#88, ef := 3, filled := [1], gone := false },
     mapped (conn 0 0 0), by decide +kernel⟩⟩

theorem witness_slabs_are_checked_and_spared :
  (∃ g : Nat, ∃ b : Nat, ∃ w : Nat, ∃ s : State, let x := s.slab (slabKey g (s.pbank g b) w); flipCount x.flip = 0) ∧
  (∃ g : Nat, ∃ b : Nat, ∃ w : Nat, ∃ s : State, let x := s.slab (slabKey g (s.pbank g b) w); flipCount x.flip = 1) ∧
  (∃ g : Nat, ∃ b : Nat, ∃ w : Nat, ∃ s : State, let x := s.slab (slabKey g (s.pbank g b) w); 2 ≤ flipCount x.flip) ∧
  (∃ p : Port, ∃ g : Fin 8, ∃ k : Fin 2, ∃ v : Word, ∃ s : State, s.reaches p 0 = true ∧ fget v F.RG_SLAB_SPARE_VALID = 1 ∧
    fget v F.RG_SLAB_SPARE_LOGICAL < 32 * s.slabDepth g ∧ (s.flag (R.RG_SLAB_SPARE g (1 - k.val)) F.RG_SLAB_SPARE_VALID = true →
    s.get (R.RG_SLAB_SPARE g (1 - k.val)) F.RG_SLAB_SPARE_LOGICAL ≠ fget v F.RG_SLAB_SPARE_LOGICAL)) ∧
  (∃ p : Port, ∃ g : Fin 8, ∃ k : Fin 2, ∃ v : Word, ∃ s : State, s.reaches p 0 = true ∧ fget v F.RG_SLAB_SPARE_VALID = 1 ∧
    (32 * s.slabDepth g ≤ fget v F.RG_SLAB_SPARE_LOGICAL ∨ (s.flag (R.RG_SLAB_SPARE g (1 - k.val)) F.RG_SLAB_SPARE_VALID = true ∧
    s.get (R.RG_SLAB_SPARE g (1 - k.val)) F.RG_SLAB_SPARE_LOGICAL = fget v F.RG_SLAB_SPARE_LOGICAL))) ∧
  (∃ g : Fin 8, ∃ k : Fin 2, ∃ s : State, s.flag (R.RG_SLAB_SPARE g k) F.RG_SLAB_SPARE_VALID = true ∧
    (s.flag (R.RG_SLAB_SPARE g (1 - k.val)) F.RG_SLAB_SPARE_VALID = true →
    s.get (R.RG_SLAB_SPARE g (1 - k.val)) F.RG_SLAB_SPARE_LOGICAL ≠ s.get (R.RG_SLAB_SPARE g k) F.RG_SLAB_SPARE_LOGICAL) ∧
    s.get (R.RG_SLAB_SPARE g k) F.RG_SLAB_SPARE_LOGICAL + 1 ≠ s.spareUsed g k ∧ s.slabDepth g ≠ 0 ∧ s.ns = 0 ∧
    s.slabRead g = (s.get (R.RG_SLAB_SPARE g k) F.RG_SLAB_SPARE_LOGICAL / 32 + 1) % s.slabDepth g) ∧
  (∃ p : Port, ∃ g : Fin 8, ∃ b : Fin 128, ∃ w : Fin 16384, ∃ s : State, s.reaches p 0 = true ∧
    s.flag (R.RG_SLAB_DIAG_STATUS g) F.RG_SLAB_DIAG_STATUS_BUSY = false ∧ w.val ≤ 9719 ∧ b.val < 32 * s.slabDepth g) ∧
  (∃ p : Port, ∃ g : Fin 8, ∃ b : Fin 128, ∃ w : Fin 16384, ∃ s : State, s.reaches p 0 = true ∧
    s.flag (R.RG_SLAB_DIAG_STATUS g) F.RG_SLAB_DIAG_STATUS_BUSY = false ∧ (9719 < w.val ∨ 32 * s.slabDepth g ≤ b.val)) ∧
  (∃ g : Fin 8, ∃ b : Fin 128, ∃ w : Fin 16384, ∃ s : State, look (fun _ => 0) s.slabDiag g.val = 2 ^ 24 * b.val + 2 ^ 10 * w.val + 1) ∧
  (∃ p : Port, ∃ _ : Fin 8, ∃ _ : Fin 128, ∃ _ : Fin 128, ∃ s : State, s.reaches p 0 = true) :=
  ⟨⟨0, 17, 16, { line with slabs := [(1, sw 3 0 [5]), (0, sw 3 7 [1])], up := 1}, by decide +kernel⟩,
   ⟨0, 0, 0, { line with slabs := [(1, sw 3 0 [5]), (0, sw 3 2 [1])], up := 1}, by decide +kernel⟩,
   ⟨0, 0, 0, slb 3, by decide +kernel⟩,
   ⟨Port.a, 1, 0, 0x80000001#32, { line with slabDiag := [(0,2 ^ 24 * 1 + 2 ^ 10 * 2 + 1)] }, by decide +kernel⟩,
   ⟨Port.b, 0, 1, 0xffffffff#32, slb 0, by decide +kernel⟩,
   ⟨0, 1, (sets line [(R.RG_SLAB_SPARE 0 1, F.RG_SLAB_SPARE_VALID, 1), (R.RG_SLAB_SPARE 0 1, F.RG_SLAB_SPARE_LOGICAL, 5), (R.RG_SLAB_STATUS 0,
     F.RG_SLAB_STATUS_SLAB_READ, 1)]), by decide +kernel⟩,
   ⟨Port.b, 1, 1, 1, sets line [(R.RG_SLAB_SPARE 0 1, F.RG_SLAB_SPARE_VALID, 1), (R.RG_SLAB_SPARE 0 1, F.RG_SLAB_SPARE_LOGICAL, 0)],
     by decide +kernel⟩,
   ⟨.a, 0, 0, 9720, line, by decide +kernel⟩,
   ⟨0, 0, 0, { line with slabDiag := [(0,1)] }, by decide +kernel⟩,
   ⟨Port.b, 1, 1, 1, sets line [(R.RG_SLAB_SPARE 0 1, F.RG_SLAB_SPARE_VALID, 1), (R.RG_SLAB_SPARE 0 1, F.RG_SLAB_SPARE_LOGICAL, 0)],
     by decide +kernel⟩⟩

theorem witness_cell_commands_complete :
  (∃ g : Fin 8, ∃ l : Fin 128, ∃ p : Fin 155520, ∃ x : CellFaults, ∃ i : Nat, ∃ f : FabGrain, ∃ r : Rec, ∃ k : Nat, ∃ q : Nat, ∃ ef : Nat, ∃ m : Nat,
    ∃ s : State, s.fabric.findIdx? (fun f => f.die == g.val / 2 && f.link == l.val && f.pos == p.val && f.regs.contains g.val) = some i ∧
    s.fabric[i]? = some f ∧ s.regionStopped g = false ∧ x.ups = [] ∧ (∀ j : Fin 8, s.txnState j ≠ txSEALED) ∧ s.entries = [r] ∧
    s.entry r.key = some r ∧ r.typ = tyConnect ∧ r.hasSnc = false ∧ s.selected r = r.src ∧ luRegion (taLink r.eg) = g.val ∧ taLink r.src = l.val ∧
    s.nLink l = some k ∧ (if taKind r.src = 0 then f.whole else f.trib) = true ∧ f.eq = (s.equaliser (s.srcAu3 r.src) r.src).isSome ∧
    s.cellAt r r.src k f = some (q, ef, m) ∧ s.pourHolds (taLink r.eg) q ef = false ∧ s.slabDepth g ≠ 0 ∧ s.up ≤ ef ∧ ef < s.up + s.slabDepth g ∧
    let key := slabKey g (s.pbank g (cellBank (s.slabOf g ef) (taLink r.eg % 16) q)) (cellWord q); ((s.slab key).ef ≠ ef ∨ ((s.slab key).gone = false ∧
    cellLane q ∉ (s.slab key).filled))) ∧
  (∃ g : Fin 8, ∃ l : Fin 128, ∃ p : Fin 155520, ∃ x : CellFaults, ∃ gr : Grain, ∃ s : State, s.regionStopped g = false ∧ luRegion l = g.val ∧
    x.ups = [] ∧ x.gather = false ∧ x.sram = .ok ∧ x.flip = 0 ∧ oddParity gr = true ∧ (s.pourGrain l p x.late x.errs).2 = some gr ∧
    let u := (s.pourGrain l p x.late x.errs).1; u.slabDepth g ≠ 0 ∧
    let key := slabKey g (u.pbank g (cellBank (u.slabOf g u.up) (l.val % 16) p)) (cellWord p); ((u.slab key).ef ≠ u.up ∨ ((u.slab key).gone = false ∧
    cellLane p ∉ (u.slab key).filled))) ∧
  (∃ n : Fin 128, ∃ w : Fin 19440, ∃ _ : List (Nat × Nat × Nat), ∃ s : State, s.slabDepth (luRegion n) ≠ 0 ∧ s.bridgedFrom n = some n.val ∧
    s.regionStopped (luRegion n) = false ∧ 8 * w.val < frameBytes ((s.outN n).getD 0)) :=
  ⟨⟨0, 0, 13, ⟨false, [], .ok, false, 0, []⟩, 0, g0, conn 0 0 0, 1, 13, 0, 1, { mapped (conn 0 0 0) with fabric := [g0] },
    by dsimp only; decide +kernel⟩,
   ⟨0, 1, 13, ⟨false, [], .ok, false, 0, []⟩, 0x389, play (0x2000000 + (au4 1).setWidth 32), by dsimp only; decide +kernel⟩,
   ⟨1, 0, [(0, 0, 5)], mapped (conn 0 0 0), by decide +kernel⟩⟩

end Fabric

namespace Section

def ls (f : LuSec → LuSec) : State := line.updSec 0 f

def rb (s : State) (n i : Nat) : State := s.setBit (R.LU_SEC_STATUS n) i

def tm (s : State) (k : TKey) : State := {s with timers := [(k, some 0)] }

def srch : State := { line with pers := [(0,9),(1,1)] }

theorem witness_framer_goes_to_search :
  (∃ p : Port, ∃ n : Fin 128, ∃ s : State, s.reaches p 0 = true ∧ s.persOf n ≠ 0) ∧
  (∃ n : Fin 128, ∃ low : Bool, ∃ quiet : Nat, ∃ s : State, s.persOf n ≠ 0 ∧ s.secBit n sLOS = false ∧ s.rxStopped n = false ∧
    (low = true ∨ s.losSet n ≤ quiet)) ∧
  (∃ n : Fin 128, ∃ lock : Option Nat, ∃ s : State, s.searching n = true ∧ s.rxStopped n = false ∧ s.trialOver n lock = true) ∧
  (∃ n : Fin 128, ∃ s : State, s.searches n = true ∧ s.timerDone (rateHoldKey n) = true ∧ s.rxStopped n = false) ∧
  (∃ p : Port, ∃ n : Fin 128, ∃ s : State, s.reaches p 0 = true ∧ s.searches n = true) ∧
  (∃ n : Fin 128, ∃ s : State, s.searches n = true ∧ s.wantTx n ≠ (s.secSt n).txRate ∧ s.ns = 0 ∧ (s.secSt n).rateUp < s.up) :=
  ⟨⟨Port.b, 1, rb line 0 sLOS, by decide +kernel⟩,
   ⟨1, true, 18, srch.put (R.LU_SEC_RATE 0) F.LU_SEC_RATE_SEARCHING 1, by decide +kernel⟩,
   ⟨0, some 18, tm (srch.put (R.LU_SEC_RATE 0) F.LU_SEC_RATE_SEARCHING 1) (rateTryKey 0), by decide +kernel⟩,
   ⟨0, tm srch (rateHoldKey 0), by decide +kernel⟩,
   ⟨Port.b, 0, {srch.updSec 0 (fun x => {x with txRate := 3}) with up := 2}, by decide +kernel⟩,
   ⟨0, {srch.updSec 0 (fun x => {x with txRate := 3}) with up := 2}, by decide +kernel⟩⟩

theorem witness_candidates_are_confirmed :
  (∃ n : Fin 128, ∃ pos : Nat, ∃ s : State, s.persOf n ≠ 0 ∧ (s.secSt n).inFrame = false ∧ s.secBit n sLOS = false ∧ s.rxStopped n = false ∧
    (s.secSt n).cands.all (fun c => c.2.1 != pos) = true ∧ (∃ k ∈ [0, 1, 2, 3], (s.secSt n).cands.all (fun c => c.1 != k) = true)) ∧
  (∃ n : Fin 128, ∃ _ : Nat, ∃ s : State, (∀ k ∈ [0, 1, 2, 3], (s.secSt n).cands.any (fun c => c.1 == k) = true)) ∧
  (∃ n : Fin 128, ∃ k : Fin 4, ∃ _ : Bool, ∃ pos : Nat, ∃ conf : Nat, ∃ s : State, (s.secSt n).cands.find? (fun c => c.1 == k.val) = some (k.val, pos,
    conf) ∧ s.secBit n sLOS = false ∧ (s.secSt n).inFrame = false ∧ s.rxStopped n = false) ∧
  (∃ n : Fin 128, ∃ k : Fin 4, ∃ pos : Nat, ∃ conf : Nat, ∃ s : State, (s.secSt n).cands.find? (fun c => c.1 == k.val) = some (k.val, pos, conf) ∧
    s.secBit n sLOS = false ∧ (s.secSt n).inFrame = false ∧ conf + 1 < 2 + s.get (R.LU_SEC_CTRL n) F.LU_SEC_CTRL_CONFIRM ∧ s.rxStopped n = false) ∧
  (∃ n : Fin 128, ∃ k : Fin 4, ∃ pos : Nat, ∃ conf : Nat, ∃ s : State, (s.secSt n).cands.find? (fun c => c.1 == k.val) = some (k.val, pos, conf) ∧
    s.secBit n sLOS = false ∧ (s.secSt n).inFrame = false ∧ s.rxStopped n = false ∧ 2 + s.get (R.LU_SEC_CTRL n) F.LU_SEC_CTRL_CONFIRM ≤ conf + 1) ∧
  (∃ n : Fin 128, ∃ k : Fin 4, ∃ pos : Nat, ∃ conf : Nat, ∃ s : State, (s.secSt n).cands.find? (fun c => c.1 == k.val) = some (k.val, pos, conf) ∧
    s.secBit n sLOS = false ∧ (s.secSt n).inFrame = false ∧ s.rxStopped n = false ∧
    (s.isTG n = true ∨ s.flag (R.LU_SEC_CTRL n) F.LU_SEC_CTRL_B1_QUALIFY = true)) :=
  ⟨⟨1, 17, (ls (fun x => {x with cands := [(1,1,0)]})).put (R.LU_SEC_CTRL 0) F.LU_SEC_CTRL_B1_QUALIFY 1, by decide +kernel⟩,
   ⟨0, 18, ls (fun x => {x with cands := [(0,0,0),(1,1,0),(2,100,0),(3,200,0)]}), by decide +kernel⟩,
   ⟨0, 0, false, 1, 0, ls (fun x => {x with cands := [(0,1,0)]}), by decide +kernel⟩,
   ⟨0, 1, 1, 0, ls (fun x => {x with cands := [(0,0,0),(1,1,0),(2,100,0),(3,200,0)]}), by decide +kernel⟩,
   ⟨0, 1, 0, 1, ls (fun x => {x with cands := [(1,0,1)]}), by decide +kernel⟩,
   ⟨0, 1, 1, 0, (ls (fun x => {x with cands := [(1,1,0)]})).put (R.LU_SEC_CTRL 0) F.LU_SEC_CTRL_B1_QUALIFY 1, by decide +kernel⟩⟩

theorem witness_section_defects_and_error_rates :
  (∃ n : Fin 128, ∃ clean : Nat, ∃ s : State, s.persOf n ≠ 0 ∧ s.secBit n sLOS = true ∧ s.rxStopped n = false ∧ 125000 ≤ clean) ∧
  (∃ n : Fin 128, ∃ s : State, s.secBit n sOOF = true ∧ s.secBit n sLOF = false ∧ s.timerDone (lofKey n 0) = true) ∧
  (∃ n : Fin 128, ∃ s : State, s.secBit n sLOF = true ∧ (s.secSt n).inFrame = true ∧ s.secBit n sLOS = false ∧ s.timerDone (lofKey n 1) = true ∧
    s.rxStopped n = false) ∧
  (∃ n : Fin 128, ∃ s : State, s.isLine n = true ∧ 256 ≤ (s.secSt n).s1Wait) ∧
  (∃ n : Fin 128, ∃ s : State, s.secBit n sBEACON_VALID = true ∧ s.timerDone (beaconKey n) = true ∧ s.rxStopped n = false) ∧
  (∃ n : Fin 128, ∃ k : Nat, ∃ s : State, s.rxN n = some k ∧ (∀ i ∈ [sLOS, sLOF, sMS_AIS], s.secBit n i = false) ∧ s.rxStopped n = false ∧
    berFrames (s.get (R.LU_SEC_BER n) F.LU_SEC_BER_SF_EXP) ≤ (s.secSt n).sf.1) ∧
  (∃ n : Fin 128, ∃ k : Nat, ∃ s : State, s.rxN n = some k ∧ (∀ i ∈ [sLOS, sLOF, sMS_AIS], s.secBit n i = false) ∧ s.rxStopped n = false ∧
    berFrames (s.get (R.LU_SEC_BER n) F.LU_SEC_BER_SD_EXP) ≤ (s.secSt n).sd.1) ∧
  (∃ n : Fin 128, ∃ k : Nat, ∃ sd : Bool, ∃ s : State, s.rxN n = some k ∧ (∃ i ∈ [sLOS, sLOF, sMS_AIS], s.secBit n i = true) ∧ s.rxStopped n = false ∧
    s.berFull n sd = true ∧ Settled s) ∧
  (∃ p : Port, ∃ _ : Fin 128, ∃ _ : Fin 16, ∃ _ : Fin 16, ∃ s : State, s.reaches p 0 = true) ∧
  (∃ n : Fin 128, ∃ s : State, s.isLine n = true) ∧
  (∃ p : Port, ∃ n : Fin 128, ∃ fmt : Fin 3, ∃ s : State, s.reaches p 0 = true ∧ s.get (R.LU_SEC_CTRL n) F.LU_SEC_CTRL_TRACE_FMT ≠ fmt.val) :=
  ⟨⟨0, 125000, {rb line 0 sLOS with mem := [(125000, 1)]}, by decide +kernel⟩,
   ⟨0, tm (rb (rb line 0 sOOF) 0 sRS_TIM) (lofKey 0 0), by decide +kernel⟩,
   ⟨0, tm (rb (ls (fun x => {x with inFrame := true})) 0 sLOF) (lofKey 0 1), by decide +kernel⟩,
   ⟨0, ls (fun x => {x with s1Wait := 256}), by decide +kernel⟩,
   ⟨0, tm (rb line 0 sBEACON_VALID) (beaconKey 0), by decide +kernel⟩,
   ⟨0, 1, rb (ls (fun x => {x with sf := (64, 3), sd := (10^5, 7)})) 0 sMS_DEG, by decide +kernel⟩,
   ⟨0, 1, rb (ls (fun x => {x with sf := (64, 3), sd := (10^5, 7)})) 0 sMS_DEG, by decide +kernel⟩,
   ⟨0, 1, true, rb (ls (fun x => {x with sf := (10^9, 3), sd := (10^9, 3)})) 0 sMS_AIS, by rw [settled_iff]; decide +kernel⟩,
   ⟨Port.b, 1, 1, 1, line, by decide +kernel⟩,
   ⟨1, tm (rb line 0 sOOF) (lofKey 0 0), by decide +kernel⟩,
   ⟨Port.b, 0, 0, tm (rb line 0 sBEACON_VALID) (beaconKey 0), by decide +kernel⟩⟩

theorem witness_line_frames_are_checked : ∃ n : Fin 128, ∃ k : Nat, ∃ frame : List Byte, ∃ b : Byte, ∃ s : State, s.rxN n = some k ∧
  s.isLine n = true ∧ s.secBit n sLOS = false ∧ frame.length = frameBytes k ∧ (s.secSt n).inFrame = true ∧ (s.secSt n).bip8 = some b ∧
  s.rxStopped n = false ∧ let f := if (s.secSt n).rxOff then frame else scramble k frame; framingOK k f = true :=
  ⟨0, 1, [0xF6, 0xF6, 0xF6, 0x28, 0x28, 0x28] ++ List.replicate 2424 0x31, 5,
    (ls (fun x => { x with inFrame := true, bip8 := some 5 })).put (R.LU_SEC_CTRL 0) F.LU_SEC_CTRL_RX_DESCR_OFF 1, by decide +kernel,
    by decide +kernel, by decide +kernel, by decide +kernel, by decide +kernel, by decide +kernel, by decide +kernel⟩

end Section

namespace Paths

def pt (f : PathSt → PathSt) : State := line.setPath false (au4 0) (f (line.path false (au4 0)))

def tug (s : State) : State := sets s [(R.LU_PATH_STRUCT0 0 0, F.LU_PATH_STRUCT0_MODE, 2), (R.LU_PATH_STRUCT0 0 0, F.LU_PATH_STRUCT0_TUG2MAP, 7)]

theorem witness_pointers_are_interpreted :
  (∃ kind : Nat, ∃ ssCheck : Bool, ∃ x : PathSt, ∃ _ : Nat, ∃ ss : Nat, ss < 4 ∧ (ssCheck = true → 5 ≤ kind → ss = tuSS kind) ∧ x.ptr = 0 ∧
    x.off ≤ maxOff kind) ∧
  (∃ kind : Nat, ∃ ssCheck : Bool, ∃ x : PathSt, ∃ since : Nat, ∃ ss : Nat, ss < 4 ∧ (ssCheck = true → 5 ≤ kind → ss = tuSS kind) ∧ x.ptr = 0 ∧
    x.off ≤ maxOff kind ∧ 3 ≤ since) ∧
  (∃ kind : Nat, ∃ ssCheck : Bool, ∃ x : PathSt, ∃ since : Nat, ∃ ss : Nat, ss < 4 ∧ (ssCheck = true → 5 ≤ kind → ss = tuSS kind) ∧ x.ptr = 0 ∧
    x.off ≤ maxOff kind ∧ since < 3) ∧
  (∃ kind : Nat, ∃ x : PathSt, let run (l : List PtrInd) : PathSt := l.foldl (fun y i => (ptrStep kind y i).1) x; x.off ≤ maxOff kind) :=
  ⟨⟨100, false, { cfg := 0x00000000#32, ptr := 0, off := 5, since := 3, new := (0, 0), ndfRun := 0, invRun := 0, aisRun := 0, members := [], h4 := 0, oom := false, h4Run := 0, oomFrames := 0, lom := false, lab := (0, 0), labOk := false, accLabel := 0, trace := { hist := [], acc := none }, traceSig := 0x00000000#32, rdiRun := (0, 0), rdi := false, secErr := 0, degRun := (0, 0), deg := false, viol := 0, failed := false, failRun := 0, fill := 8, start := none, justs := [], moved := none, phase := 0, feBits := 0, cfgNext := none },
    100, 3, by decide +kernel⟩,
   ⟨100, false, { cfg := 0x00000000#32, ptr := 0, off := 5, since := 3, new := (0, 0), ndfRun := 0, invRun := 0, aisRun := 0, members := [], h4 := 0, oom := false, h4Run := 0, oomFrames := 0, lom := false, lab := (0, 0), labOk := false, accLabel := 0, trace := { hist := [], acc := none }, traceSig := 0x00000000#32, rdiRun := (0, 0), rdi := false, secErr := 0, degRun := (0, 0), deg := false, viol := 0, failed := false, failRun := 0, fill := 8, start := none, justs := [], moved := none, phase := 0, feBits := 0, cfgNext := none },
     100, 3, by decide +kernel⟩,
   ⟨1, false, { cfg := 0x00000000#32, ptr := 0, off := 5, since := 3, new := (0, 0), ndfRun := 0, invRun := 0, aisRun := 0, members := [], h4 := 0, oom := false, h4Run := 0, oomFrames := 0, lom := false, lab := (0, 0), labOk := false, accLabel := 0, trace := { hist := [], acc := none }, traceSig := 0x00000000#32, rdiRun := (0, 0), rdi := false, secErr := 0, degRun := (0, 0), deg := false, viol := 0, failed := false, failRun := 0, fill := 8, start := none, justs := [], moved := none, phase := 0, feBits := 0, cfgNext := none },
     1, 2, by decide +kernel⟩,
   ⟨4096, { cfg := 0x00000000#32, ptr := 2, off := 782, since := 3, new := (5, 2), ndfRun := 0, invRun := 0, aisRun := 0, members := [], h4 := 0, oom := false, h4Run := 0, oomFrames := 0, lom := false, lab := (0, 0), labOk := false, accLabel := 0, trace := { hist := [], acc := none }, traceSig := 0x00000000#32, rdiRun := (0, 0), rdi := false, secErr := 0, degRun := (0, 0), deg := false, viol := 0, failed := false, failRun := 0, fill := 8, start := none, justs := [], moved := none, phase := 0, feBits := 0, cfgNext := none },
     by decide +kernel⟩⟩

theorem witness_pointers_follow_the_line_and_are_generated :
  (∃ a3 : Bool, ∃ u : TA, ∃ _ : BitVec 16, ∃ _ : List (BitVec 16), ∃ _ : Nat, ∃ s : State, s.isPath a3 u = true ∧ s.isTG (taLink u) = false ∧
    s.ptrHeld a3 u = false ∧ s.rxStopped (taLink u) = false) ∧
  (∃ a3 : Bool, ∃ u : TA, ∃ drift : Int, ∃ s : State, s.isPath a3 u = true ∧ s.isTG (taLink u) = false ∧ s.ptrState a3 u = 0 ∧
    s.rxStopped (taLink u) = false ∧
    let p := s.periodAt (taKind u) s.up + periodLen (taKind u); let fill := ((s.path a3 u).fill + drift).toNat; let unit := justUnit (taKind u) (s.get (R.LU_PATH_STRUCT0 (taLink u) (taAug u)) F.LU_PATH_STRUCT0_NC); (s.path a3 u).justs.all (fun e => e.1 != p) = true) ∧
  (∃ a3 : Bool, ∃ u : TA, ∃ _ : Fin 4, ∃ s : State, s.isPath a3 u = true ∧ s.hasTug2 a3 u = true ∧ s.lineHeld (taLink u) = false ∧
    s.ptrState a3 u = 0 ∧ s.rxStopped (taLink u) = false) ∧
  (∃ a3 : Bool, ∃ u : TA, ∃ s : State, s.isPath a3 u = true ∧ s.isTG (taLink u) = false ∧ s.ptrHeld a3 u = false ∧ s.ptrState a3 u = 0 ∧
    (s.path a3 u).oom = true ∧ 8 ≤ (s.path a3 u).oomFrames ∧ (s.path a3 u).lom = false) ∧
  (∃ a3 : Bool, ∃ u : TA, ∃ _ : Ahead, ∃ c : GenCase, ∃ s : State, s.genCase a3 u = some c ∧
    let p := s.periodAt (taKind u) s.up; ((s.gen a3 u).per ≠ some p ∨ c = .ais)) ∧
  (∃ _ : Nat, ∃ _ : Nat, ∃ _ : Nat, ∃ g : GenSt, ∃ _ : Ahead, ∃ _ : Option Nat, g.p = none) ∧
  (∃ _ : Nat, ∃ _ : Nat, ∃ p : Nat, ∃ g : GenSt, ∃ _ : Ahead, ∃ _ : Option Nat, g.p = some p) ∧
  (∃ kind : Nat, ∃ _ : Nat, ∃ p : Nat, ∃ g : GenSt, ∃ _ : Ahead, ∃ _ : Option Nat, g.p = some p ∧ p ≤ maxOff kind) :=
  ⟨⟨false, 0x0207f2#24, 0x0005#16, [0x0000#16, 0x1234#16], 16, pt (fun x => {x with ptr := 1}), by decide +kernel⟩,
   ⟨false, 0x0007f2#24, -1, pt (fun x => {x with ptr := 0, off := 5, since := 3}), by dsimp only; decide +kernel⟩,
   ⟨false, 0x0007f2#24, 1, tug (pt (fun x => {x with ptr := 0, h4 := 3, h4Run := 1})), by decide +kernel⟩,
   ⟨false, 0x0007f2#24, tug (pt (fun x => {x with ptr := 0, oom := true, oomFrames := 8})), by decide +kernel⟩,
   ⟨false, 0x0207f2#24, { neg := false, pos := false, start := none }, GenCase.ais, mapped (conn 1 0 1), by decide +kernel⟩,
   ⟨18, 17, 1, { p := none, word := 65535, per := none }, { neg := false, pos := true, start := some 782 }, some 16, by decide +kernel⟩,
   ⟨1, 1, 0, { p := some 0, word := 0, per := none }, { neg := true, pos := false, start := some 0 }, some 17, by decide +kernel⟩,
   ⟨1, 1, 0, { p := some 0, word := 0, per := none }, { neg := true, pos := false, start := some 0 }, some 17, by decide +kernel⟩⟩

end Paths

namespace Groups

def tu5 : State := sets {line with paths := []} [(R.LU_PATH_STRUCT0 0 0, F.LU_PATH_STRUCT0_MODE, 1)]

def pt (f : PathSt → PathSt) : State := line.setPath false (au4 0) (f (line.path false (au4 0)))

def jb : State := sets {line with dram := [(0, ⟨1, 1, 1, 2, 1⟩)]} [(R.DIE_JRN_BASE_HI 0, ⟨0,32,.rw,0⟩, 0x10), (R.DIE_JRN_BASE_LO 0, ⟨0,32,.rw,0⟩,
  0x50000000)]

theorem witness_path_registers_are_written_and_read :
  (∃ p : Port, ∃ n : Fin 128, ∃ a : Fin 64, ∃ v : Word, ∃ w0 : Word, ∃ s : State, s.reaches p 0 = true ∧ s.structW0 = [(64 * n.val + a.val, w0)] ∧
    structOK (s.structSoon n) a (w0, v &&& accMask (R.LU_PATH_STRUCT1 n a) (fun x => x == .rw)) = true) ∧
  (∃ p : Port, ∃ n : Fin 128, ∃ a : Fin 64, ∃ v : Word, ∃ w0 : Word, ∃ s : State, s.reaches p 0 = true ∧ s.structW0 = [(64 * n.val + a.val, w0)] ∧
    structOK (s.structSoon n) a (w0, v &&& accMask (R.LU_PATH_STRUCT1 n a) (fun x => x == .rw)) = false) ∧
  (∃ n : Fin 128, ∃ a : Fin 64, ∃ f : Nat, ∃ w : Word × Word, ∃ s : State, s.fn % 4 = 0 ∧ s.structPend = [(f, 64 * n.val + a.val, w)] ∧ f ≤ s.up ∧
    structOK (s.structOf n) a w = true) ∧
  (∃ n : Fin 128, ∃ a : Fin 64, ∃ f : Nat, ∃ w : Word × Word, ∃ s : State, s.fn % 4 = 0 ∧ s.structPend = [(f, 64 * n.val + a.val, w)] ∧ f ≤ s.up ∧
    structOK (s.structOf n) a w = false) ∧
  (∃ p : Port, ∃ d : Fin 4, ∃ _ : Fin 32, ∃ s : State, s.reaches p 0 = true ∧ s.flag (R.DIE_JRN_CTRL d) F.DIE_JRN_CTRL_ENABLE = false) ∧
  (∃ p : Port, ∃ _ : Fin 4, ∃ _ : Word, ∃ s : State, s.reaches p 0 = true) ∧
  (∃ p : Port, ∃ _ : Fin 128, ∃ _ : Bool, ∃ _ : TA, ∃ s : State, s.reaches p 0 = true) ∧
  (∃ n : Fin 128, ∃ c : Word, ∃ v : Word, ∃ s : State, s.pathInd.find? (fun e => e.1 == n.val) = some (n.val, c, v) ∧ Settled s) :=
  ⟨⟨Port.a, 0, 0, 0x00006000#32, 0x00000001#32, {line with structW0 := [(0, 1)]}, by decide +kernel⟩,
   ⟨Port.a, 0, 0, 0x00000007#32, 0x00000001#32, {line with structW0 := [(0, 1)]}, by decide +kernel⟩,
   ⟨0, 0, 0, (0x00000001#32, 0x00000000#32), {line with structPend := [(0, 0, 1, 0)]}, by decide +kernel⟩,
   ⟨0, 0, 0, (0x00000007#32, 0x00000000#32), {line with structPend := [(0, 0, 7, 0)]}, by decide +kernel⟩,
   ⟨Port.b, 1, 1, {line with pathInd := [(0, 0x410007f2, 5)]}, by decide +kernel⟩,
   ⟨Port.b, 1, 0x80000001#32, {line with pathInd := [(0, 0x410007f2, 5)]}, by decide +kernel⟩,
   ⟨Port.b, 1, false, 0x000005#24, line, by decide +kernel⟩,
   ⟨0, 0x400007f2#32, 0x00000005#32, {line with pathInd := [(0, 0x400007f2, 5)]}, by rw [settled_iff]; decide +kernel⟩⟩

theorem witness_path_overhead_is_judged :
  (∃ a3 : Bool, ∃ u : TA, ∃ _ : Byte, ∃ _ : Byte, ∃ _ : Byte, ∃ _ : Byte, ∃ s : State, s.isPath a3 u = true ∧ s.ptrState a3 u = 0 ∧
    s.suspended a3 u = false ∧ s.rxStopped (taLink u) = false) ∧
  (∃ a3 : Bool, ∃ u : TA, ∃ s : State, s.isPath a3 u = true ∧ (taKind u ≤ 4 ∨ s.lowFailDue a3 u = true)) ∧
  (∃ a3 : Bool, ∃ u : TA, ∃ s : State, s.isPath a3 u = true ∧ 5 ≤ taKind u ∧ s.lowFailDue a3 u = false ∧ Settled s) :=
  ⟨⟨false, 0x0007f2#24, 0xf2#8, 0x00#8, 0x00#8, 0x00#8, pt (fun x => {x with ptr := 0, lab := (5,4)}), by decide +kernel⟩,
   ⟨false, 0x0207f2#24, {line with frames := 1}, by decide +kernel⟩,
   ⟨false, mkTA 0 0 0 0 0 6,
     { sets line [(R.LU_PATH_STRUCT0 0 0, F.LU_PATH_STRUCT0_MODE, 2), (R.LU_PATH_STRUCT0 0 0, F.LU_PATH_STRUCT0_TUG2MAP, 7)] with frames := 1 },
     by rw [settled_iff]; decide +kernel⟩⟩

theorem witness_group_commands :
  (∃ p : Port, ∃ _ : Fin 4, ∃ _ : Fin 1024, ∃ _ : Fin 256, ∃ s : State, s.reaches p 0 = true) ∧
  (∃ p : Port, ∃ d : Fin 4, ∃ g : Fin 1024, ∃ s : State, s.reaches p 0 = true ∧ (s.grp (1024 * d.val + g.val)).st < 2) ∧
  (∃ p : Port, ∃ d : Fin 4, ∃ g : Fin 1024, ∃ s : State, s.reaches p 0 = true ∧ 2 ≤ (s.grp (1024 * d.val + g.val)).st) ∧
  (∃ p : Port, ∃ d : Fin 4, ∃ g : Fin 1024, ∃ i : Fin 256, ∃ s : State, s.reaches p 0 = true ∧ (s.grp (1024 * d.val + g.val)).st = 1 ∧
    i.val < (s.grp (1024 * d.val + g.val)).x ∧ i.val < (s.grp (1024 * d.val + g.val)).mem.length) ∧
  (∃ p : Port, ∃ d : Fin 4, ∃ g : Fin 1024, ∃ s : State, s.reaches p 0 = true ∧ s.activateCode (1024 * d.val + g.val) = 0) ∧
  (∃ p : Port, ∃ d : Fin 4, ∃ g : Fin 1024, ∃ s : State, s.reaches p 0 = true ∧ s.activateCode (1024 * d.val + g.val) ≠ 0) ∧
  (∃ p : Port, ∃ d : Fin 4, ∃ g : Fin 1024, ∃ s : State, s.reaches p 0 = true ∧ (s.grp (1024 * d.val + g.val)).st ≠ 0) ∧
  (∃ p : Port, ∃ d : Fin 4, ∃ g : Fin 1024, ∃ i : Fin 256, ∃ s : State, s.reaches p 0 = true ∧
    (s.grp (1024 * d.val + g.val)).lcasCode i (fun v => v == 0) = 0 ∧ i.val < (s.grp (1024 * d.val + g.val)).mem.length) ∧
  (∃ p : Port, ∃ d : Fin 4, ∃ g : Fin 1024, ∃ i : Fin 256, ∃ s : State, s.reaches p 0 = true ∧
    (s.grp (1024 * d.val + g.val)).lcasCode i (fun _ => true) = 0 ∧ ((s.grp (1024 * d.val + g.val)).member i).src ≠ 0) ∧
  (∃ p : Port, ∃ d : Fin 4, ∃ g : Fin 1024, ∃ i : Fin 256, ∃ s : State, s.reaches p 0 = true ∧
    (s.grp (1024 * d.val + g.val)).lcasCode i (fun _ => true) = 0 ∧ ((s.grp (1024 * d.val + g.val)).member i).src = 0) ∧
  (∃ p : Port, ∃ d : Fin 4, ∃ g : Fin 1024, ∃ i : Fin 256, ∃ s : State, s.reaches p 0 = true ∧
    (s.grp (1024 * d.val + g.val)).lcasCode i (fun _ => true) ≠ 0) ∧
  (∃ p : Port, ∃ d : Fin 4, ∃ g : Fin 1024, ∃ i : Fin 256, ∃ s : State, s.reaches p 0 = true ∧
    ((s.grp (1024 * d.val + g.val)).st = 0 ∨ i.val < (s.grp (1024 * d.val + g.val)).x)) :=
  ⟨⟨Port.b, 1, 1, 1, grouped (group 3 3 true id), by decide +kernel⟩,
   ⟨Port.b, 1, 1, grouped (group 1 2 false id), by decide +kernel⟩,
   ⟨Port.b, 0, 0, grouped (group 3 3 true (fun m => {m with src := 2, srcSq := 1})), by decide +kernel⟩,
   ⟨Port.a, 0, 0, 0, grouped (group 1 0 false id), by decide +kernel⟩,
   ⟨Port.a, 0, 0, grouped (group 1 3 true id), by decide +kernel⟩,
   ⟨Port.b, 1, 1, grouped (group 1 2 false id), by decide +kernel⟩,
   ⟨Port.b, 0, 0, grouped (group 3 3 true (fun m => {m with src := 2, srcSq := 1})), by decide +kernel⟩,
   ⟨Port.a, 0, 0, 0, grouped (group 3 3 true id), by decide +kernel⟩,
   ⟨Port.b, 0, 0, 0, grouped (group 3 3 true (fun m => {m with src := 2, srcSq := 1})), by decide +kernel⟩,
   ⟨Port.a, 0, 0, 0, grouped (group 3 3 true id), by decide +kernel⟩,
   ⟨Port.b, 1, 1, 1, grouped (group 3 3 true id), by decide +kernel⟩,
   ⟨Port.b, 1, 1, 1, grouped (group 3 3 true id), by decide +kernel⟩⟩

theorem witness_groups_follow_times_and_members :
  (∃ d : Fin 4, ∃ g : Fin 1024, ∃ s : State, (s.grp (1024 * d.val + g.val)).st = 2 ∧ (s.grp (1024 * d.val + g.val)).eff ≤ s.up) ∧
  (∃ d : Fin 4, ∃ g : Fin 1024, ∃ f : Nat, ∃ s : State, (s.runGrp (1024 * d.val + g.val)).alignUp = some f ∧
    (s.runGrp (1024 * d.val + g.val)).st = 3 ∧ 2 ≤ (s.runGrp (1024 * d.val + g.val)).mode ∧ f + 4 ≤ s.up) ∧
  (∃ d : Fin 4, ∃ g : Fin 1024, ∃ i : Fin 256, ∃ s : State, s.timerDone (holdKey (1024 * d.val + g.val) i) = true ∧
    (s.runGrp (1024 * d.val + g.val)).st = 3 ∧ (s.runGrp (1024 * d.val + g.val)).mode = 3 ∧ (s.runGrp (1024 * d.val + g.val)).lcas = true ∧
    i.val < (s.runGrp (1024 * d.val + g.val)).mem.length ∧ ((s.runGrp (1024 * d.val + g.val)).member i).vlom = true ∧
    ((s.runGrp (1024 * d.val + g.val)).member i).failed = true ∧ ((s.runGrp (1024 * d.val + g.val)).member i).ctrl ≠ ctIDLE) ∧
  (∃ d : Fin 4, ∃ g : Fin 1024, ∃ i : Fin 256, ∃ s : State, s.timerDone (wtrKey (1024 * d.val + g.val) i) = true ∧
    i.val < (s.runGrp (1024 * d.val + g.val)).mem.length ∧
    s.memFailed d (s.runGrp (1024 * d.val + g.val)) ((s.runGrp (1024 * d.val + g.val)).member i) = false ∧
    ((s.runGrp (1024 * d.val + g.val)).member i).ctrl ≠ ctIDLE) ∧
  (∃ d : Fin 4, ∃ g : Fin 1024, ∃ j : Nat, ∃ s : State, (s.runGrp (1024 * d.val + g.val)).busy = some j ∧
    s.timerDone (addKey (1024 * d.val + g.val)) = true ∧ ((s.runGrp (1024 * d.val + g.val)).member j).src = 1) ∧
  (∃ d : Fin 4, ∃ g : Fin 1024, ∃ s : State, (s.runGrp (1024 * d.val + g.val)).st = 3 ∧ (s.runGrp (1024 * d.val + g.val)).mode = 3) ∧
  (∃ d : Fin 4, ∃ g : Fin 1024, ∃ i : Fin 256, ∃ _ : Bool, ∃ _ : List Byte, ∃ w : Word, ∃ s : State, (s.runGrp (1024 * d.val + g.val)).st = 3 ∧
    (s.runGrp (1024 * d.val + g.val)).typ ≤ 1 ∧ ((s.runGrp (1024 * d.val + g.val)).member i).ing = some w ∧
    s.memSuspended (memAu3 w) (memTA w) = false) ∧
  (∃ d : Fin 4, ∃ g : Fin 1024, ∃ i : Fin 256, ∃ _ : Bool, ∃ _ : List Byte, ∃ w : Word, ∃ s : State, (s.runGrp (1024 * d.val + g.val)).st = 3 ∧
    i.val < (s.runGrp (1024 * d.val + g.val)).mem.length ∧ ((s.runGrp (1024 * d.val + g.val)).member i).ing = some w ∧
    s.memSuspended (memAu3 w) (memTA w) = true) ∧
  (∃ d : Fin 4, ∃ g : Fin 1024, ∃ arrivals : List Nat, ∃ s : State, (s.runGrp (1024 * d.val + g.val)).st = 3 ∧
    arrivals.length = (s.runGrp (1024 * d.val + g.val)).mem.length ∧ (∀ m ∈ (s.runGrp (1024 * d.val + g.val)).mem, s.memAligned d m = true)) :=
  ⟨⟨0, 0, grouped (group 2 3 true id), by decide +kernel⟩,
   ⟨0, 0, 0, {grouped {group 3 3 true id with alignUp := some 0} with up := 4, grpGone := [(0,2,freeGrp),(1,9,freeGrp)]}, by decide +kernel⟩,
   ⟨0, 0, 0, {grouped (group 3 3 true (fun m => {m with vlom := true, failed := true, ctrl := 2})) with timers := [(holdKey 0 0, some 0)]},
     by decide +kernel⟩,
   ⟨0, 0, 0, {grouped (group 3 3 true (fun m => {m with vlom := false, ctrl := 2})) with timers := [(wtrKey 0 0, some 0)]}, by decide +kernel⟩,
   ⟨0, 0, 0, {grouped {group 3 3 true (fun m => {m with src := 1}) with busy := some 0} with timers := [(addKey 0, some 0)]}, by decide +kernel⟩,
   ⟨0, 0, {grouped (group 3 3 true (fun m => {m with vlom := false, ctrl := 2})) with timers := [(wtrKey 0 0, some 0)]}, by decide +kernel⟩,
   ⟨0, 0, 0, false, List.replicate 64 0, 0x000007f2#32, {pt (fun x => {x with ptr := 0}) with grps := [(0, group 3 3 true id)]}, by decide +kernel⟩,
   ⟨0, 0, 0, true, List.replicate 64 0, 0x000007f2#32,
     {grouped (group 3 3 true (fun m => {m with vlom := false, ctrl := 2})) with timers := [(wtrKey 0 0, some 0)]}, by decide +kernel⟩,
   ⟨0, 0, [17], grouped (group 3 3 true (fun m => {m with src := 2, mfi := some 3})), by decide +kernel⟩⟩

end Groups

namespace Units

def mg (l : List (RegId × Fld × Nat)) : State := sets line ([(R.MSP_CFG 0 0, F.MSP_CFG_N, 1), (R.MSP_CHAN0 0 0, ⟨0,4,.rw,0⟩, 1)] ++ l)

def stt (n : Nat) := mg [(R.MSP_STATUS 0 0, F.MSP_STATUS_STATE, n)]

def tmr (s : State) (k : TKey) : State := { s with timers := [(k, some 0)] }

def sel (f : SncSt → SncSt) : State := { mapped (conn 0 1 0) with snc := [(egName false (au4 1), f emptySnc)] }

theorem witness_msp_groups_follow_commands_and_timers :
  (∃ p : Port, ∃ g : Fin 8, ∃ k : Fin 8, ∃ s : State, s.reaches p 0 = true ∧ s.mspCode g k = 0) ∧
  (∃ p : Port, ∃ g : Fin 8, ∃ k : Fin 8, ∃ s : State, s.reaches p 0 = true ∧ Settled s ∧ s.mspCode g k ≠ 0) ∧
  (∃ p : Port, ∃ g : Fin 8, ∃ k : Fin 8, ∃ s : State, s.reaches p 0 = true ∧ (s.mspState g k = 1 ∨ s.mspState g k = 2) ∧ s.mspClaimed g k = false) ∧
  (∃ p : Port, ∃ g : Fin 8, ∃ k : Fin 8, ∃ s : State, s.reaches p 0 = true ∧ Settled s ∧ ((s.mspState g k ≠ 1 ∧
    s.mspState g k ≠ 2) ∨ s.mspClaimed g k = true)) ∧
  (∃ p : Port, ∃ _ : Fin 8, ∃ _ : Fin 8, ∃ _ : Bool, ∃ s : State, s.reaches p 0 = true) ∧
  (∃ g : Fin 8, ∃ k : Fin 8, ∃ s : State, s.mspState g k = 3 ∧ s.fn % 4 = 0 ∧ s.ns = 0 ∧ (s.mspSt g k).eff ≤ s.up) ∧
  (∃ g : Fin 8, ∃ k : Fin 8, ∃ s : State, s.mspState g k = 1 ∧ s.fn % 4 = 0 ∧ s.ns = 0 ∧ (s.mspSt g k).eff ≤ s.up) ∧
  (∃ p : Port, ∃ g : Fin 8, ∃ k : Fin 8, ∃ _ : Fin 4, ∃ _ : Word, ∃ s : State, s.reaches p 0 = true ∧ s.mspState g k = 0) ∧
  (∃ p : Port, ∃ g : Fin 8, ∃ k : Fin 8, ∃ _ : Fin 4, ∃ _ : Word, ∃ s : State, s.reaches p 0 = true ∧ s.mspState g k ≠ 0) ∧
  (∃ g : Fin 8, ∃ k : Fin 8, ∃ c : Fin 15, ∃ sd : Bool, ∃ s : State, s.timerDone (mspHoldKey g k c (if sd then 1 else 0)) = true) ∧
  (∃ g : Fin 8, ∃ k : Fin 8, ∃ s : State, s.timerDone (mspWtrKey g k) = true) ∧
  (∃ g : Fin 8, ∃ k : Fin 8, ∃ s : State, s.timerDone (mspExerKey g k) = true) ∧
  (∃ g : Fin 8, ∃ k : Fin 8, ∃ cm : Bool, ∃ s : State, s.timerDone (mspFopKey g k (if cm then 1 else 0)) = true) :=
  ⟨⟨Port.b, 0, 0, mg [], by decide +kernel⟩,
   ⟨Port.b, 1, 1, tmr (stt 2) (mspHoldKey 0 0 0 0), by rw [settled_iff]; decide +kernel⟩,
   ⟨Port.b, 0, 0, tmr (stt 2) (mspFopKey 0 0 0), by decide +kernel⟩,
   ⟨Port.b, 1, 1, tmr (stt 2) (mspHoldKey 0 0 0 0), by rw [settled_iff]; decide +kernel⟩,
   ⟨Port.b, 1, 1, false, tmr (stt 2) (mspFopKey 0 0 0), by decide +kernel⟩,
   ⟨0, 0, stt 3, by decide +kernel⟩,
   ⟨0, 0, stt 1, by decide +kernel⟩,
   ⟨Port.b, 1, 1, 1, 0x80000001#32, mg [], by decide +kernel⟩,
   ⟨Port.a, 0, 0, 0, 0x000207f2#32, tmr (stt 2) (mspFopKey 0 0 1), by decide +kernel⟩,
   ⟨0, 0, 1, true, tmr (stt 2) (mspHoldKey 0 0 1 1), by decide +kernel⟩,
   ⟨0, 0, tmr (stt 2) (mspWtrKey 0 0), by decide +kernel⟩,
   ⟨0, 0, tmr (stt 2) (mspExerKey 0 0), by decide +kernel⟩,
   ⟨0, 0, true, tmr (stt 2) (mspFopKey 0 0 1), by decide +kernel⟩⟩

theorem witness_selectors_follow_requests_and_are_read :
  (∃ a3 : Bool, ∃ u : TA, ∃ r : Rec, ∃ s : State, s.selector (egName a3 u) = some r ∧ r.key = egName a3 u ∧ r.holdoff = 0) ∧
  (∃ a3 : Bool, ∃ u : TA, ∃ i : Fin 4, ∃ s : State, s.timerDone (sncHoldKey (egName a3 u) i) = true) ∧
  (∃ a3 : Bool, ∃ u : TA, ∃ r : Rec, ∃ s : State, s.timerDone (sncWtrKey (egName a3 u)) = true ∧ s.selector (egName a3 u) = some r ∧
    r.key = egName a3 u ∧ r.revert = true ∧ (s.sncSt (egName a3 u)).rank = 7 ∧ (s.sncSt (egName a3 u)).cmd = 0 ∧
    (let s1 := s.stopTimer (sncWtrKey (egName a3 u)); s1.srcCond r r.src = (false, false) ∧ s1.srcCond r r.alt = (false, false))) ∧
  (∃ p : Port, ∃ d : Fin 4, ∃ a3 : Bool, ∃ u : TA, ∃ s : State, s.reaches p 0 = true ∧
    ((s.selector (egName a3 u)).isNone = true ∨ luDie (taLink u) ≠ d.val)) ∧
  (∃ p : Port, ∃ d : Fin 4, ∃ a3 : Bool, ∃ u : TA, ∃ s : State, s.reaches p 0 = true ∧ (s.selector (egName a3 u)).isSome = true ∧
    luDie (taLink u) = d.val) ∧
  (∃ p : Port, ∃ d : Fin 4, ∃ e : Word × Word × Word, ∃ l : List (Word × Word × Word), ∃ s : State, s.reaches p 0 = true ∧ s.sncLogOf d = e :: l ∧
    l.length ≤ 511) ∧
  (∃ p : Port, ∃ d : Fin 4, ∃ s : State, s.reaches p 0 = true ∧ s.sncLogOf d = []) :=
  ⟨⟨false, 0x0207f2#24, { w0 := 0x000207f2#32, w1 := 0x180007f2#32, w2 := 0x000407f2#32, w3 := 0x00000000#32 }, mapped (conn 0 1 0),
    by decide +kernel⟩,
   ⟨false, 0x0207f2#24, 0, tmr (sel id) (sncHoldKey (egName false (au4 1)) 0), by decide +kernel⟩,
   ⟨false, 0x0207f2#24, { w0 := 0x000207f2#32, w1 := 0x180007f2#32, w2 := 0x000407f2#32, w3 := 0x00000000#32 },
     tmr (good (sel (fun x => { x with rank := 7, alt := true }))) (sncWtrKey (egName false (au4 1))), by decide +kernel⟩,
   ⟨Port.b, 1, false, 0x000006#24, good (sel (fun x => {x with cond := 15})), by decide +kernel⟩,
   ⟨Port.b, 0, false, 0x0207f2#24, sel (fun x => {x with cond := 5}), by decide +kernel⟩,
   ⟨Port.a, 0, (0x00000001#32, 0x00000002#32, 0x00000003#32), [], {line with sncLog := [(0, [(1,2,3)])]}, by decide +kernel⟩,
   ⟨Port.b, 1, good (sel (fun x => {x with cond := 15})), by decide +kernel⟩⟩

end Units

namespace Pair

def tmr (s : State) (k : TKey) : State := { s with timers := [(k, some 0)] }

def nrec : Rec := conn 0 0 0

def ent (slot : Nat) : PmEnt := ⟨slot, 0x80000000, ⟨0,0,0,0,0,0,0,false,false⟩, [], false, false, emptyBin true, emptyBin false, false⟩

def pl : State := { line with dram := [(0, ⟨1, 1, 1, 2, 1⟩)] }

def pmS (l : List (Nat × PmEnt)) : State := { pl with pm := l }

def onep : State := pmS [(pmKey 1 false (linkTA 0), ent 0)]

def txo (s : State) : State := { (s.put (R.TXN_STATUS 0) F.TXN_STATUS_STATE 1) with txns := [(0, ⟨[nrec],1,0,0,false,false,false,false,false⟩)] }

def sy (s : State) : State := s.put R.TIME_SYNC_CTRL F.TIME_SYNC_CTRL_IN_MODE 1

def bare : State := { line with pers := [] }

theorem witness_link_units_retire :
  (∃ p : Port, ∃ _ : Fin 128, ∃ s : State, s.reaches p 0 = true) ∧
  (∃ p : Port, ∃ n : Fin 128, ∃ s : State, s.reaches p 0 = true ∧ Settled s ∧ s.bit (R.DIE_UNIT_RETIRE (n.val / 32)) (n.val % 32) = true ∧
    s.flag (R.LU_SENSE_STATUS n) F.LU_SENSE_STATUS_BUSY = false) ∧
  (∃ p : Port, ∃ n : Fin 128, ∃ s : State, s.reaches p 0 = true ∧ Settled s ∧ s.bit (R.DIE_UNIT_RETIRE (n.val / 32)) (n.val % 32) = true ∧
    s.flag (R.LU_SENSE_STATUS n) F.LU_SENSE_STATUS_BUSY = true) ∧
  (∃ p : Port, ∃ n : Fin 128, ∃ s : State, s.reaches p 0 = true ∧ Settled s ∧ s.bit (R.DIE_UNIT_RETIRE (n.val / 32)) (n.val % 32) = false) ∧
  (∃ _ : Fin 128, ∃ s : State, s.ns = 0) ∧
  (∃ n : Fin 128, ∃ s : State, s.ns = 0 ∧ Settled s ∧ s.bit (R.DIE_UNIT_RETIRE (n.val / 32)) (n.val % 32) = false ∧ (∀ u ∈ s.unretire, u.1 = n.val →
    u.2 ≤ s.up) ∧ s.flag (R.LU_SENSE_STATUS n) F.LU_SENSE_STATUS_BUSY = true) ∧
  (∃ _ : Fin 128, ∃ s : State, s.ns ≠ 0) :=
  ⟨⟨Port.b, 1, graved, by decide +kernel⟩,
   ⟨Port.a, 0, line.setBit (R.DIE_UNIT_RETIRE 0) 0, by rw [settled_iff]; decide +kernel⟩,
   ⟨Port.a, 0, (line.setBit (R.DIE_UNIT_RETIRE 0) 0).put (R.LU_SENSE_STATUS 0) F.LU_SENSE_STATUS_BUSY 1, by rw [settled_iff]; decide +kernel⟩,
   ⟨Port.b, 1, graved, by rw [settled_iff]; decide +kernel⟩,
   ⟨1, (line.setBit (R.DIE_UNIT_RETIRE 0) 0).put (R.LU_SENSE_STATUS 0) F.LU_SENSE_STATUS_BUSY 1, by decide +kernel⟩,
   ⟨0, {line.put (R.LU_SENSE_STATUS 0) F.LU_SENSE_STATUS_BUSY 1 with unretire := [(0,0)]}, by rw [settled_iff]; decide +kernel⟩,
   ⟨0, {line with unretire := [(0,1)], ns := 5}, by decide +kernel⟩⟩

theorem witness_frames_and_seconds_turn :
  (∃ _ : Bool, ∃ s : State, s.services = true) ∧
  (∃ _ : Int, ∃ _ : Int, ∃ s : State, s.onSecond = true ∧ s.secUp ≠ s.up) ∧
  (∃ _ : Int, ∃ _ : Int, ∃ s : State, (s.onSecond = false ∨ s.secUp = s.up)) ∧
  (∃ s : State, s.onSecond = true ∧ s.secUp = s.up ∧ s.flag R.TIME_SYNC_STATUS F.TIME_SYNC_STATUS_SET_PEND = true ∧ s.anyLive = false) ∧
  (∃ s : State, s.onSecond = true ∧ s.secUp = s.up ∧ s.flag R.TIME_SYNC_STATUS F.TIME_SYNC_STATUS_SET_PEND = true ∧ s.anyLive = true) ∧
  (∃ _ : Fin 1000, ∃ s : State, s.services = true ∧ s.syncAccepts = true ∧ s.ns < 125000 ∧
    s.flag R.TIME_SYNC_STATUS F.TIME_SYNC_STATUS_ALIGN_PEND = false) ∧
  (∃ _ : Fin 1000, ∃ s : State, s.services = true ∧ s.syncAccepts = true ∧ s.alignOK = true ∧
    s.flag R.TIME_SYNC_STATUS F.TIME_SYNC_STATUS_ALIGN_PEND = true) ∧
  (∃ _ : Fin 1000, ∃ s : State, s.syncAccepts = false) :=
  ⟨⟨false, ({bare with up := 7, frames := 8000}).put R.TIME_STATUS F.TIME_STATUS_MAIN_STATE 2, by decide +kernel⟩,
   ⟨1000, 1, ({bare with up := 7, frames := 8000}).put R.TIME_STATUS F.TIME_STATUS_MAIN_STATE 2, by decide +kernel⟩,
   ⟨-2147483648, 2147483647, bare, by decide +kernel⟩,
   ⟨sets {bare with up := 7, secUp := 7, frames := 8000} [(R.TIME_SYNC_STATUS, F.TIME_SYNC_STATUS_SET_PEND, 1)], by decide +kernel⟩,
   ⟨sets (txo {bare with up := 7, secUp := 7, frames := 8000}) [(R.TIME_SYNC_STATUS, F.TIME_SYNC_STATUS_SET_PEND, 1)], by decide +kernel⟩,
   ⟨0, sy bare, by decide +kernel⟩,
   ⟨0, (sy bare).put R.TIME_SYNC_STATUS F.TIME_SYNC_STATUS_ALIGN_PEND 1, by decide +kernel⟩,
   ⟨1, ({bare with up := 7, frames := 8000}).put R.TIME_STATUS F.TIME_STATUS_MAIN_STATE 2, by decide +kernel⟩⟩

theorem witness_quarters_close_and_counters_are_read :
  (∃ q : Nat, ∃ s : State, s.pmDue = some q) ∧
  (∃ s : State, s.pmDue = none) ∧
  (∃ d : Fin 4, ∃ _ : Bool, ∃ e : Nat × Nat × Option Int, ∃ s : State, s.pmClose.find? (fun e => e.1 == d.val) = some e) ∧
  (∃ p : Port, ∃ _ : Fin 4, ∃ _ : Word, ∃ s : State, s.reaches p 0 = true) ∧
  (∃ p : Port, ∃ d : Fin 4, ∃ w : Word × Word × Word, ∃ l : List (Word × Word × Word), ∃ s : State, s.reaches p 0 = true ∧ s.tcaOf d = w :: l) ∧
  (∃ p : Port, ∃ d : Fin 4, ∃ s : State, s.reaches p 0 = true ∧ s.tcaOf d = []) ∧
  (∃ p : Port, ∃ a : BitVec 28, ∃ sub : Fin 1024, ∃ k : Blk, ∃ x : Nat, ∃ off : Nat, ∃ s : State,
    s.reaches p (regTarget (.counterLoRead p a 4 sub)) = true ∧ bar0 a.toNat = .reg k x off ∧ a.toNat % 4 = 0 ∧ (counterAt k off).isSome = true) ∧
  (∃ p : Port, ∃ a : BitVec 28, ∃ sub : Fin 1024, ∃ k : Blk, ∃ x : Nat, ∃ off : Nat, ∃ s : State,
    s.reaches p (regTarget (.counterLoRead p a 8 sub)) = true ∧ bar0 a.toNat = .reg k x off ∧ bar0 (a.toNat + 4) = .reg k x (off + 4) ∧
    a.toNat % 4 = 0 ∧ (counterAt k off).isSome = true) :=
  ⟨⟨5, {onep with pmDue := some 5}, by decide +kernel⟩,
   ⟨line, by decide +kernel⟩,
   ⟨0, false, (0, 5, none), {onep with pmClose := [(0,5,none),(1,5,some 3)]}, by decide +kernel⟩,
   ⟨Port.b, 1, 0x00006000#32, {onep with pmDue := some 5}, by decide +kernel⟩,
   ⟨Port.a, 0, (0x00000001#32, 0x00000002#32, 0x00000003#32), [(0x00000004#32, 0x00000005#32, 0x00000006#32)],
     {line with tcaLog := [(0, [(1,2,3), (4,5,6)])]}, by decide +kernel⟩,
   ⟨Port.b, 1, {line with tcaLog := [(0, [])]}, by decide +kernel⟩,
   ⟨Port.a, 0x4300000#28, 2, Blk.cluster, 0, 0, {line with tcaLog := [(0, [])]}, by decide +kernel⟩,
   ⟨Port.a, 0x4300000#28, 2, Blk.cluster, 0, 0, {line with tcaLog := [(0, [])]}, by decide +kernel⟩⟩

theorem witness_pm_operations :
  (∃ p : Port, ∃ d : Fin 4, ∃ layer : Fin 4, ∃ a3 : Bool, ∃ ta : TA, ∃ e : PmEnt, ∃ s : State, s.reaches p 0 = true ∧
    s.pmCode d 0 layer a3 ta = pcOK ∧ s.pmEnt (pmKey layer a3 ta) = some e ∧ e.slot < 2 ^ F.PM_IND_STATUS_SLOT.w) ∧
  (∃ p : Port, ∃ d : Fin 4, ∃ layer : Fin 4, ∃ a3 : Bool, ∃ ta : TA, ∃ i : Nat, ∃ s : State, s.reaches p 0 = true ∧ layer ≠ 3 ∧
    s.pmExists d layer a3 ta = true ∧ s.clusterPowered (luCluster (taLink ta)) = true ∧ (s.pmEnt (pmKey layer a3 ta)).isNone = true ∧
    s.pmFreeSlot d = some i) ∧
  (∃ p : Port, ∃ d : Fin 4, ∃ layer : Fin 4, ∃ a3 : Bool, ∃ ta : TA, ∃ s : State, s.reaches p 0 = true ∧ layer ≠ 3 ∧ s.pmExists d layer a3 ta = true ∧
    s.clusterPowered (luCluster (taLink ta)) = true ∧ (s.pmEnt (pmKey layer a3 ta)).isSome = true) ∧
  (∃ p : Port, ∃ d : Fin 4, ∃ layer : Fin 4, ∃ a3 : Bool, ∃ ta : TA, ∃ s : State, s.reaches p 0 = true ∧ s.pmCode d 2 layer a3 ta = pcOK) ∧
  (∃ p : Port, ∃ d : Fin 4, ∃ layer : Fin 4, ∃ a3 : Bool, ∃ ta : TA, ∃ s : State, s.reaches p 0 = true ∧ s.pmCode d 3 layer a3 ta = pcOK) ∧
  (∃ p : Port, ∃ d : Fin 4, ∃ layer : Fin 4, ∃ a3 : Bool, ∃ ta : TA, ∃ s : State, s.reaches p 0 = true ∧ s.pmCode d 4 layer a3 ta = pcOK) ∧
  (∃ p : Port, ∃ d : Fin 4, ∃ layer : Fin 4, ∃ a3 : Bool, ∃ ta : TA, ∃ e : PmEnt, ∃ s : State, s.reaches p 0 = true ∧
    s.pmCode d 5 layer a3 ta = pcOK ∧ s.pmEnt (pmKey layer a3 ta) = some e) ∧
  (∃ p : Port, ∃ _ : Fin 4, ∃ _ : Bool, ∃ _ : Fin 4, ∃ _ : Bool, ∃ _ : TA, ∃ s : State, s.reaches p 0 = true) :=
  ⟨⟨Port.a, 0, 1, false, 0x0007f0#24,
    { slot := 0, cfg := 0x80000000#32, now := { ne := 0, fe := 0, cv := 0, pjDetInc := 0, pjDetDec := 0, pjGenInc := 0, pjGenDec := 0, neDef := false, feDef := false }, pend := [], neUn := false, feUn := false, quarter := { neES := 0, neSES := 0, neBBE := 0, neUAS := 0, feES := 0, feSES := 0, feBBE := 0, feUAS := 0, pj0 := 0, pj1 := 0, pj2 := 0, pj3 := 0, cv := 0, suspect := true, crossed := [] }, day := { neES := 0, neSES := 0, neBBE := 0, neUAS := 0, feES := 0, feSES := 0, feBBE := 0, feUAS := 0, pj0 := 0, pj1 := 0, pj2 := 0, pj3 := 0, cv := 0, suspect := false, crossed := [] }, late := false },
    onep, by decide +kernel⟩,
   ⟨Port.a, 0, 0, false, 0x0007f2#24, 0, pl, by decide +kernel⟩,
   ⟨Port.a, 0, 0, false, 0x0007f2#24, pmS [(pmKey 0 false (au4 0), ent 3)], by decide +kernel⟩,
   ⟨Port.a, 0, 0, false, 0x0007f2#24, pmS [(pmKey 0 false (au4 0), ent 3)], by decide +kernel⟩,
   ⟨Port.b, 0, 1, true, 0x006955#24, pl, by decide +kernel⟩,
   ⟨Port.b, 0, 1, true, 0x006955#24, pl, by decide +kernel⟩,
   ⟨Port.a, 0, 1, false, 0x0007f0#24,
     { slot := 0, cfg := 0x80000000#32, now := { ne := 0, fe := 0, cv := 0, pjDetInc := 0, pjDetDec := 0, pjGenInc := 0, pjGenDec := 0, neDef := false, feDef := false }, pend := [], neUn := false, feUn := false, quarter := { neES := 0, neSES := 0, neBBE := 0, neUAS := 0, feES := 0, feSES := 0, feBBE := 0, feUAS := 0, pj0 := 0, pj1 := 0, pj2 := 0, pj3 := 0, cv := 0, suspect := true, crossed := [] }, day := { neES := 0, neSES := 0, neBBE := 0, neUAS := 0, feES := 0, feSES := 0, feBBE := 0, feUAS := 0, pj0 := 0, pj1 := 0, pj2 := 0, pj3 := 0, cv := 0, suspect := false, crossed := [] }, late := false },
     onep, by decide +kernel⟩,
   ⟨Port.b, 1, false, 1, true, 0x0007f0#24, pmS [(pmKey 2 false (linkTA 0), ent 3), (pmKey 1 false (linkTA 1), ent 0)], by decide +kernel⟩⟩

end Pair

namespace Timing

def tmr (s : State) (k : TKey) : State := { s with timers := [(k, some 0)] }

def pst (l : List (Fld × Nat)) : State := sets line (l.map (fun e => (R.PAIR_STATUS, e.1, e.2)))

def h60 : List Byte := [0,0,0,5, 1,0,0,0, 0,0,0,9] ++ List.replicate 48 0

def hdr0 : List Byte := h60 ++ toBe 4 (crc32 h60).toNat

def m60 : List Byte := [0,0,0,5, 1,1,0x80,0x80, 0,0,0,9] ++ List.replicate 48 0

def hdr1 : List Byte := m60 ++ toBe 4 (crc32 m60).toNat

def tgf (h : List Byte) : List Byte := tgScramble (toBe 8 tgFaw ++ h ++ List.replicate (195313 - 72) 0)

def tgs : State := (line.put R.PAIR_STATUS F.PAIR_STATUS_SIDE 0).updSec 0 (fun x => {x with inFrame := true})

def tgl : State := { tgs with pers := [(0,11)] }

theorem witness_tg_and_mate_frames_are_checked :
  (∃ n : Fin 128, ∃ bits : List Byte, ∃ _ : Int, ∃ _ : Nat, ∃ s : State, s.isTG n = true ∧ s.secBit n sLOS = false ∧ (s.secSt n).inFrame = true ∧
    bits.length = tgBytes ∧ s.rxStopped n = false) ∧
  (∃ hdr : List Byte, ∃ _ : Int, ∃ _ : Bool, ∃ _ : Bool, ∃ _ : Bool, ∃ _ : List (BitVec 16), ∃ _ : List (Fin 16), ∃ _ : Word, ∃ _ : List (Nat × Word),
    ∃ _ : Bool, ∃ s : State, hdr.length = 64 ∧ tgHeaderOK hdr 1 = true ∧ ((beAt hdr 6 1).testBit 7 != s.sideB) = true) ∧
  (∃ _ : List Byte, ∃ _ : Int, ∃ _ : Bool, ∃ _ : Bool, ∃ _ : Bool, ∃ _ : List (BitVec 16), ∃ _ : List (Fin 16), ∃ _ : Word, ∃ _ : List (Nat × Word),
    ∃ _ : Bool, ∃ s : State, s.mateBad < 2) ∧
  (∃ _ : List Byte, ∃ _ : Int, ∃ _ : Bool, ∃ _ : Bool, ∃ _ : Bool, ∃ _ : List (BitVec 16), ∃ _ : List (Fin 16), ∃ _ : Word, ∃ _ : List (Nat × Word),
    ∃ _ : Bool, ∃ s : State, s.mateBad = 2 ∧ s.mateUp = true) ∧
  (∃ s : State, s.mateUp = true ∧ (s.rd R.PAIR_OFFSET).toInt.natAbs ≤ 60 ∧ s.timerDone alignKey = true) ∧
  (∃ s : State, s.mateUp = true ∧ 80 < (s.rd R.PAIR_OFFSET).toInt.natAbs) :=
  ⟨⟨4, List.replicate tgBytes 0, 0, 0, line.updSec 4 (fun x => { x with inFrame := true }), by decide +kernel, by decide +kernel, by decide +kernel,
    List.length_replicate, by decide +kernel⟩,
   ⟨[0, 0, 0, 0x05, 0x01, 0x01, 0x80, 0x80, 0, 0, 0, 0x09, 0, 0, 0, 0, 0, 0, 0, 0, 0, 0, 0, 0, 0, 0, 0, 0, 0, 0, 0, 0, 0, 0, 0, 0, 0, 0, 0, 0, 0, 0,
     0, 0, 0, 0, 0, 0, 0, 0, 0, 0, 0, 0, 0, 0, 0, 0, 0, 0, 0x64, 0xB0, 0xD6, 0x10], -1, true, true, true, [0x0005#16, 0x07f2#16], [], 0x000207f2#32,
     [(1, 0x01000000#32)], false, {line with mateBad := 2}, by decide +kernel⟩,
   ⟨[], 0, false, false, false, [], [], 0, [], false, { line with mateBad := 0 }, by decide +kernel⟩,
   ⟨List.replicate 64 0, 1000, false, false, false, [0x0001#16], [1, 0], 0x00000002#32, [(16, 0x000007f0#32)], true,
     {pst [(F.PAIR_STATUS_MATE_UP, 1)] with mateBad := 2}, by decide +kernel⟩,
   ⟨tmr (pst [(F.PAIR_STATUS_MATE_UP, 1)]) alignKey, by decide +kernel⟩,
   ⟨(pst [(F.PAIR_STATUS_MATE_UP, 1)]).wr R.PAIR_OFFSET 1000, by decide +kernel⟩⟩

theorem witness_outputs_are_handed_over :
  (∃ low : Bool, ∃ s : State, s.pwr = .run ∧ s.arbSel ≠ low) ∧
  (∃ _ : Bool, ∃ s : State, s.pwr ≠ .run) ∧
  (∃ _ : Nat, ∃ s : State, s.pwr ≠ .run) ∧
  (∃ f : Nat, ∃ s : State, s.pwr = .run ∧ s.arbSel = true ∧ s.held = false ∧ s.hoTake = some (f, true) ∧ s.hoAgreed = none) ∧
  (∃ s : State, s.pwr = .run ∧ s.arbSel = true ∧ s.held = true ∧ s.mateUp = false ∧ s.hoTake = none ∧ s.hoAgreed = none) ∧
  (∃ s : State, s.canTake = true) ∧
  (∃ _ : Word, ∃ s : State, s.mateUp = true ∧ s.held = true ∧ s.hoAgreed = none ∧ s.arbSel = false) ∧
  (∃ _ : Word, ∃ s : State, s.mateUp = true ∧ s.held = true ∧ s.hoAgreed = none ∧ s.arbSel = true) ∧
  (∃ f : Word, ∃ s : State, s.hoTake = some (f.toNat, true) ∧ s.hoAgreed = none ∧ 2 ≤ s.framesTo f.toNat) ∧
  (∃ f : Word, ∃ s : State, s.hoTake = some (f.toNat, true) ∧ s.hoAgreed = none ∧ s.framesTo f.toNat < 2) ∧
  (∃ f : Word, ∃ s : State, s.hoTake = some (f.toNat, false) ∧ s.hoAgreed = none) ∧
  (∃ f : Word, ∃ s : State, s.hoTake = none ∧ s.hoAgreed = some (f.toNat, true) ∧ s.hoDone = false) ∧
  (∃ out : Bool, ∃ s : State, s.hoAgreed = some (s.fn, out) ∧ s.hoDone = false) ∧
  (∃ _ : Bool, ∃ f : Nat, ∃ s : State, s.hoAgreed = some (f, true) ∧ s.hoDone = true ∧ s.fn = f ∧ 1000 ≤ s.ns) ∧
  (∃ _ : Bool, ∃ f : Nat, ∃ s : State, s.hoAgreed = some (f, false) ∧ s.hoTake = none ∧ s.hoDone = true ∧ s.fn = f ∧ 1000 ≤ s.ns) ∧
  (∃ high : Nat, ∃ s : State, s.pwr = .run ∧ s.arbSel = true ∧ s.held = false ∧ s.hoAgreed = none ∧ (s.mateUp = false ∨ 2 ≤ s.mateIdle) ∧
    s.yokeWait ≤ high) ∧
  (∃ s : State, s.held = true ∧ s.arbSel = false ∧ s.mateUp = true ∧ s.timerDone (hoWaitKey 1) = true) ∧
  (∃ high : Nat, ∃ s : State, s.arbSel = true ∧ high < s.yokeWait) :=
  ⟨⟨false, pst [(F.PAIR_STATUS_ARB_SEL,1)], by decide +kernel⟩,
   ⟨true, {State.reset with pwr := .reset}, by decide +kernel⟩,
   ⟨18, {State.reset with pwr := .reset}, by decide +kernel⟩,
   ⟨0, {pst [(F.PAIR_STATUS_ARB_SEL,1)] with hoTake := some (0,true)}, by decide +kernel⟩,
   ⟨pst [(F.PAIR_STATUS_ARB_SEL,1), (F.PAIR_STATUS_YOKE_HELD,1)], by decide +kernel⟩,
   ⟨{pst [(F.PAIR_STATUS_ARB_SEL,1), (F.PAIR_STATUS_MATE_UP,1), (F.PAIR_STATUS_ALIGNED,1)] with fullActive := true}, by decide +kernel⟩,
   ⟨0x000007f0#32, pst [(F.PAIR_STATUS_YOKE_HELD,1), (F.PAIR_STATUS_MATE_UP,1)], by decide +kernel⟩,
   ⟨0x000207f2#32, pst [(F.PAIR_STATUS_ARB_SEL,1),(F.PAIR_STATUS_YOKE_HELD,1), (F.PAIR_STATUS_MATE_UP,1)], by decide +kernel⟩,
   ⟨0x00000005#32, {line with hoTake := some (5, true)}, by decide +kernel⟩,
   ⟨0x00000001#32, {line with hoTake := some (1, true)}, by decide +kernel⟩,
   ⟨0x00000005#32, {line with hoTake := some (5, false)}, by decide +kernel⟩,
   ⟨0x00000005#32, {line with hoAgreed := some (5, true)}, by decide +kernel⟩,
   ⟨false, {line with hoAgreed := some (0, false)}, by decide +kernel⟩,
   ⟨false, 0, {line with hoAgreed := some (0, true), hoDone := true, ns := 1000}, by decide +kernel⟩,
   ⟨true, 0, {line with hoAgreed := some (0, false), hoDone := true, ns := 1000}, by decide +kernel⟩,
   ⟨20000, pst [(F.PAIR_STATUS_ARB_SEL,1)], by decide +kernel⟩,
   ⟨tmr (pst [(F.PAIR_STATUS_YOKE_HELD,1), (F.PAIR_STATUS_MATE_UP,1)]) (hoWaitKey 1), by decide +kernel⟩,
   ⟨0, pst [(F.PAIR_STATUS_ARB_SEL,1)], by decide +kernel⟩⟩

end Timing

namespace Skim

def tmr (s : State) (k : TKey) : State := { s with timers := [(k, some 0)] }

def txo (s : State) : State := { (s.put (R.TXN_STATUS 0) F.TXN_STATUS_STATE 1) with txns := [(0, ⟨[conn 0 0 0],1,0,0,false,false,false,false,false⟩)] }

def q (r n : Nat) (a : Nat) : State := sets line [(R.TIME_REF_STATUS r, F.TIME_REF_STATUS_QSTATE, n), (R.TIME_REF_STATUS r, F.TIME_REF_STATUS_ACTIVE,
  a)]

def ts (l : List (Fld × Nat)) : State := sets line (l.map (fun e => (R.TIME_STATUS, e.1, e.2)))

theorem witness_references_qualify :
  (∃ p : Port, ∃ r : Fin 16, ∃ _ : Word, ∃ s : State, s.reaches p 0 = true ∧ s.qState r = 0) ∧
  (∃ p : Port, ∃ r : Fin 16, ∃ _ : Word, ∃ s : State, s.reaches p 0 = true ∧ Settled s ∧ s.qState r ≠ 0) ∧
  (∃ p : Port, ∃ r : Fin 16, ∃ _ : Word, ∃ s : State, s.reaches p 0 = true ∧ s.qState r ≠ 0) ∧
  (∃ r : Fin 16, ∃ s : State, s.qState r ≠ 0 ∧ s.refActive r = true ∧ (r.val < 8 ∨ s.lineRefDead (s.refLU r) = true)) ∧
  (∃ r : Fin 16, ∃ s : State, Settled s ∧ s.qState r ≠ 0 ∧ s.refActive r = false ∧ (r.val < 8 ∨ s.lineRefDead (s.refLU r) = false)) ∧
  (∃ r : Fin 16, ∃ _ : Word, ∃ s : State, s.qState r ≠ 0 ∧ s.refActive r = true ∧ s.refReserved r = false ∧ s.timerDone (refGateKey r) = true) ∧
  (∃ r : Fin 16, ∃ s : State, s.qState r = 2 ∧ s.timerDone (refWtrKey r) = true) ∧
  (∃ r : Fin 16, ∃ s : State, s.refDisputed r = true ∧ s.timerDone (disputeKey r) = true) :=
  ⟨⟨Port.b, 1, 0x00006000#32, tmr (q 0 2 1) (refWtrKey 0), by decide +kernel⟩,
   ⟨Port.b, 0, 0x00006955#32, q 0 3 1, by rw [settled_iff]; decide +kernel⟩,
   ⟨Port.b, 0, 0x00006955#32, q 0 3 1, by decide +kernel⟩,
   ⟨0, tmr (q 0 3 1) (refGateKey 0), by decide +kernel⟩,
   ⟨0, q 0 1 0, by rw [settled_iff]; decide +kernel⟩,
   ⟨0, 0x80000001#32, tmr (q 0 2 1) (refGateKey 0), by decide +kernel⟩,
   ⟨0, tmr (q 0 2 1) (refWtrKey 0), by decide +kernel⟩,
   ⟨0, tmr ((q 0 2 1).put (R.TIME_REF_STATUS 0) F.TIME_REF_STATUS_DISPUTED 1) (disputeKey 0), by decide +kernel⟩⟩

theorem witness_dplls_follow_commands_and_clocks :
  (∃ p : Port, ∃ _ : Fin 32, ∃ s : State, s.reaches p 0 = true) ∧
  (∃ s : State, s.mainState = 1) ∧
  (∃ s : State, s.get R.TIME_STATUS F.TIME_STATUS_STN_STATE = 1) ∧
  (∃ s : State, s.get R.TIME_STATUS F.TIME_STATUS_AUX_STATE = 1) ∧
  (∃ s : State, s.oscIn = true) ∧
  (∃ s : State, s.pwr = .run ∧ s.oscIn = true) ∧
  (∃ s : State, s.flag R.TIME_STATUS F.TIME_STATUS_TB_LOCK = true) :=
  ⟨⟨Port.b, 1, ts [(F.TIME_STATUS_AUX_STATE, 1)], by decide +kernel⟩,
   ⟨ts [(F.TIME_STATUS_MAIN_STATE, 1)], by decide +kernel⟩,
   ⟨ts [(F.TIME_STATUS_STN_STATE, 1)], by decide +kernel⟩,
   ⟨ts [(F.TIME_STATUS_AUX_STATE, 1)], by decide +kernel⟩,
   ⟨ts [(F.TIME_STATUS_AUX_STATE, 1)], by decide +kernel⟩,
   ⟨ts [(F.TIME_STATUS_AUX_STATE, 1)], by decide +kernel⟩,
   ⟨ts [(F.TIME_STATUS_TB_LOCK, 1), (F.TIME_STATUS_SWITCHING, 1)], by decide +kernel⟩⟩

theorem witness_time_base_is_set_and_read :
  (∃ s : State, s.syncIn = true ∧ s.timerDone syncLosKey = true) ∧
  (∃ p : Port, ∃ v : Word, ∃ s : State, s.reaches p 0 = true ∧ fget v F.TIME_SYNC_CTRL_IN_MODE = 1 ∧ s.driving = false ∧ s.anyLive = false) ∧
  (∃ p : Port, ∃ v : Word, ∃ s : State, s.reaches p 0 = true ∧ (s.driving = true ∨ s.anyLive = true ∨ fget v F.TIME_SYNC_CTRL_IN_MODE ≠ 1)) ∧
  (∃ p : Port, ∃ _ : Word, ∃ s : State, s.reaches p 0 = true ∧ s.anyLive = false) ∧
  (∃ p : Port, ∃ _ : Word, ∃ s : State, s.reaches p 0 = true ∧ s.anyLive = true) ∧
  (∃ p : Port, ∃ _ : Fin 1024, ∃ s : State, s.reaches p 0 = true) :=
  ⟨⟨tmr (line.put R.TIME_SYNC_CTRL F.TIME_SYNC_CTRL_IN_MODE 1) syncLosKey, by decide +kernel⟩,
   ⟨Port.a, 0x55aa1234#32, {line with frames := 8000*2^40+5, ns := 77}, by decide +kernel⟩,
   ⟨Port.b, 0x80000001#32, tmr (line.put R.TIME_SYNC_CTRL F.TIME_SYNC_CTRL_IN_MODE 1) syncLosKey, by decide +kernel⟩,
   ⟨Port.b, 0x80000001#32, tmr (line.put R.TIME_SYNC_CTRL F.TIME_SYNC_CTRL_IN_MODE 1) syncLosKey, by decide +kernel⟩,
   ⟨Port.a, 0x000207f2#32, txo line, by decide +kernel⟩,
   ⟨Port.b, 0, tmr (line.put R.TIME_SYNC_CTRL F.TIME_SYNC_CTRL_IN_MODE 1) syncLosKey, by decide +kernel⟩⟩

def full64 (s : State) : State := sets s ((List.range 19).map (fun i => (R.MATRIX_OUT i, F.MATRIX_OUT_COUNT, 64)))

def fw : Fld := ⟨0, 32, .rw, 0⟩

def pl : State := good { line with dram := [(0, ⟨1, 1, 1, 2, 1⟩)] }

def ta (s : State) : State := s.wr (R.SKIM_TAP_TA .a 0) 0x7f2

def job0 : SkJob := { emptySk with taps := [(0x7f2, 1, 0)] }

def src0 : SkSrc := ⟨0, 0, true, some ⟨0, 0, 1, 0, 0, 0, [0,0,0], none, none, [5], false, false, false⟩, none, [], false, false⟩

def jb (st : Nat) (l : List (RegId × Fld × Nat)) (j : SkJob) : State := { sets pl ([(R.SKIM_JOB_STATUS 0 0, F.SKIM_JOB_STATUS_STATE, st)] ++ l) with skJobs := [(0, j)] }

def ring : List (RegId × Fld × Nat) := [(R.SKIM_JOB_RING_SIZE 0 0, F.SKIM_JOB_RING_SIZE_SIZE, 512), (R.SKIM_JOB_RING_HI 0 0, fw, 0x10),
  (R.SKIM_JOB_START_FN 0 0, fw, 2)]

def fin (s : State) : State := s.wr (R.SKIM_JOB_START_FN 0 0) 0

def stg (pre : Bool) : SkJob := { job0 with staged := [⟨0, 0, 1, 0, 0, 0, [0,0,0], none, none, [5,6], false, false, pre⟩], srcs := [src0] }

def dr (s : State) : State := { sets s [(R.SKIM_JOB_CFG 0 0, F.SKIM_JOB_CFG_DRAIN_EN, 1), (R.SKIM_JOB_DQ_POST 0 0, fw, 1), (R.SKIM_JOB_WR 0 0, fw, 2), (R.SKIM_JOB_DQ_HI 0 0, fw, 0x10), (R.SKIM_JOB_DQ_LO 0 0, fw, 0x50000000), (R.SKIM_JOB_DQ_CTRL 0 0, F.SKIM_JOB_DQ_CTRL_SIZE_LOG2, 4)] with portA := ⟨false, false, true, false, false, ⟨0,0,0,0⟩⟩ }

def dsc (s : State) (n : Nat) : State := s.st 0x1050000008 [BitVec.ofNat 8 n, 0, 0, 0]

def held : List (Nat × Nat × Grain) := [(0, 9, mkGrain true 1), (0, 10, mkGrain false 2)]

def grw : Word := 0x8000000

def sinkS : State := { jb 4 ring {emptySk with taps := [(grw, 1, 0)], srcs := [{src0 with code := 4, n := tapUnit grw}]} with up := 4, frames := 4, deskew := [(egName false (au4 0), held)], grps := [(0, {group 3 3 false id with aligned := true})] }

def bankRing (s : State) : State := sets s [(R.WB_OWN 0 0, F.WB_OWN_OWNER, 2), (R.WB_OWN 0 0, F.WB_OWN_PRESENT, 1), (R.SKIM_JOB_RING_SIZE 0 0,
  F.SKIM_JOB_RING_SIZE_SIZE, 16)]

def drB (s : State) : State := (dr (bankRing s)).wr (R.SKIM_JOB_DQ_LO 0 0) 0x10000 |>.wr (R.SKIM_JOB_DQ_HI 0 0) 0

def dsc2 (s : State) (n : Nat) : State := s.st 0x10008 [BitVec.ofNat 8 n, 0, 0, 0]

theorem witness_tap_lists_and_analysers_change :
  (∃ p : Port, ∃ d : Fin 4, ∃ j : Fin 8, ∃ code : Fin 8, ∃ s : State, s.reaches p 0 = true ∧
    s.flag (R.SKIM_TAP_STATUS d) F.SKIM_TAP_STATUS_BUSY = false ∧ skIdle (s.skSt d j) = true ∧ s.skTapCode d (s.skEntry p d code) = 0) ∧
  (∃ p : Port, ∃ d : Fin 4, ∃ j : Fin 8, ∃ code : Fin 8, ∃ s : State, s.reaches p 0 = true ∧
    s.flag (R.SKIM_TAP_STATUS d) F.SKIM_TAP_STATUS_BUSY = false ∧ skIdle (s.skSt d j) = false ∧ tapField (s.skEntry p d code) = true) ∧
  (∃ p : Port, ∃ d : Fin 4, ∃ j : Fin 8, ∃ code : Fin 8, ∃ s : State, s.reaches p 0 = true ∧
    s.flag (R.SKIM_TAP_STATUS d) F.SKIM_TAP_STATUS_BUSY = false ∧ skIdle (s.skSt d j) = true ∧ tapField (s.skEntry p d code) = true ∧ code.val ≤ 4) ∧
  (∃ p : Port, ∃ d : Fin 4, ∃ j : Fin 8, ∃ code : Fin 8, ∃ s : State, s.reaches p 0 = true ∧
    s.flag (R.SKIM_TAP_STATUS d) F.SKIM_TAP_STATUS_BUSY = false ∧ skIdle (s.skSt d j) = true ∧ tapField (s.skEntry p d code) = true ∧ 4 < code.val) ∧
  (∃ p : Port, ∃ d : Fin 4, ∃ j : Fin 8, ∃ s : State, s.reaches p 0 = true ∧ s.flag (R.SKIM_TAP_STATUS d) F.SKIM_TAP_STATUS_BUSY = false ∧
    skIdle (s.skSt d j) = true) ∧
  (∃ p : Port, ∃ d : Fin 4, ∃ j : Fin 8, ∃ count : Fin 1048576, ∃ s : State, s.reaches p 0 = true ∧
    s.flag (R.SKIM_TAP_STATUS d) F.SKIM_TAP_STATUS_BUSY = false ∧ skIdle (s.skSt d j) = true ∧ count.val ≠ 0 ∧ count.val ≤ 262143 ∧
    let a := s.addrAt (R.SKIM_TAP_FETCH_LO p d) (R.SKIM_TAP_FETCH_HI p d); (s.inOwned d 2 a (4 * count.val) = true ∨ s.inPart d 4 a (4 * count.val) = true)) ∧
  (∃ d : Fin 4, ∃ f : ListFetch, ∃ _ : List (Nat × Ecc), ∃ s : State, look (fun _ => none) s.skFetch d.val = some f ∧ skIdle (s.skSt d f.job) = true ∧
    s.engineWaits (mSKIM d) f.addr (.read (4 * f.count)) = false) ∧
  (∃ d : Fin 4, ∃ f : ListFetch, ∃ _ : List (Nat × Ecc), ∃ s : State, look (fun _ => none) s.skFetch d.val = some f ∧ Settled s ∧
    s.engineWaits (mSKIM d) f.addr (.read (4 * f.count)) = true) ∧
  (∃ p : Port, ∃ _ : Fin 4, ∃ _ : Fin 8192, ∃ s : State, s.reaches p 0 = true) :=
  ⟨⟨Port.a, 0, 0, 1, ta (jb 1 [] job0), by decide +kernel⟩,
   ⟨Port.b, 1, 0, 1, ta (jb 1 [] emptySk), by decide +kernel⟩,
   ⟨Port.a, 0, 0, 1, ta (jb 1 [] job0), by decide +kernel⟩,
   ⟨Port.a, 0, 0, 7, ta (jb 1 [] job0), by decide +kernel⟩,
   ⟨Port.a, 0, 0, ta (jb 1 [] emptySk), by decide +kernel⟩,
   ⟨Port.a, 0, 0, 1, ta (jb 1 [(R.SKIM_TAP_FETCH_HI .a 0, fw, 0x10), (R.SKIM_TAP_FETCH_LO .a 0, fw, 0x50000000)] emptySk), by decide +kernel⟩,
   ⟨0, { job := 0, count := 2, addr := 70061654016, port := Port.a }, [(5, Ecc.correctable)],
     {(jb 1 [] emptySk) with skFetch := [(0, some ⟨0, 2, 0x1050000000, .a⟩)]}, by decide +kernel⟩,
   ⟨0, { job := 0, count := 2, addr := 70061654016, port := Port.a }, [(2, Ecc.ok), (4096, Ecc.uncorrectable)],
     full64 {(jb 1 [] emptySk) with skFetch := [(0, some ⟨0, 2, 0x1050000000, .a⟩)]}, by rw [settled_iff]; decide +kernel⟩,
   ⟨Port.b, 1, 8191, ta (jb 0 [] emptySk), by decide +kernel⟩⟩

theorem witness_skim_jobs_change_state :
  (∃ p : Port, ∃ d : Fin 4, ∃ j : Fin 8, ∃ s : State, s.reaches p 0 = true ∧ s.skSt d j = skFREE) ∧
  (∃ p : Port, ∃ d : Fin 4, ∃ j : Fin 8, ∃ s : State, s.reaches p 0 = true ∧ Settled s ∧ s.skSt d j ≠ skFREE) ∧
  (∃ p : Port, ∃ d : Fin 4, ∃ j : Fin 8, ∃ s : State, s.reaches p 0 = true ∧ skIdle (s.skSt d j) = true ∧ s.skStartCode d j false = 0) ∧
  (∃ p : Port, ∃ d : Fin 4, ∃ j : Fin 8, ∃ s : State, s.reaches p 0 = true ∧ Settled s ∧ skIdle (s.skSt d j) = true ∧ s.skStartCode d j false ≠ 0) ∧
  (∃ p : Port, ∃ d : Fin 4, ∃ j : Fin 8, ∃ s : State, s.reaches p 0 = true ∧ skIdle (s.skSt d j) = true ∧ s.skStartCode d j true = 0) ∧
  (∃ d : Fin 4, ∃ j : Fin 8, ∃ s : State, s.skSt d j = skPENDING ∧ s.fn = (s.rd (R.SKIM_JOB_START_FN d j)).toNat ∧
    s.get (R.SKIM_JOB_CFG d j) F.SKIM_JOB_CFG_TRIG ≠ 3) ∧
  (∃ p : Port, ∃ d : Fin 4, ∃ j : Fin 8, ∃ s : State, s.reaches p 0 = true ∧ s.skSt d j = skARMED ∧
    s.flag (R.SKIM_JOB_CFG d j) F.SKIM_JOB_CFG_STOP_FN_EN = true ∧ s.fn = (s.rd (R.SKIM_JOB_STOP_FN d j)).toNat) ∧
  (∃ p : Port, ∃ d : Fin 4, ∃ j : Fin 8, ∃ s : State, s.reaches p 0 = true ∧ s.skSt d j = skARMED ∧ s.skNow d j = s) ∧
  (∃ d : Fin 4, ∃ j : Fin 8, ∃ s : State, s.skWaits d j 4 = true ∧ s.fn = (s.rd (R.SKIM_JOB_TRIG d j 0)).toNat ∧
    (s.rd (R.SKIM_JOB_TRIG d j 1)).toNat % 2 ^ 17 ≤ s.ns) ∧
  (∃ p : Port, ∃ d : Fin 4, ∃ j : Fin 8, ∃ s : State, s.reaches p 0 = true ∧ skPENDING ≤ s.skSt d j ∧ s.skSt d j ≤ skPOST ∧
    (s.flag (R.SKIM_JOB_CFG d j) F.SKIM_JOB_CFG_STOP_FN_EN = false ∨ s.fn ≠ (s.rd (R.SKIM_JOB_STOP_FN d j)).toNat) ∧
    (s.get (R.SKIM_JOB_CFG d j) F.SKIM_JOB_CFG_FLUSH = 0 ∨ (∀ c ∈ (s.sk d j).srcs,
    (c.form.all (fun r => decide (s.up < SkRec.up r + s.get (R.SKIM_JOB_CFG d j) F.SKIM_JOB_CFG_FLUSH))) = true))) ∧
  (∃ p : Port, ∃ d : Fin 4, ∃ j : Fin 8, ∃ s : State, s.reaches p 0 = true ∧ (s.skSt d j = skARMED ∨ s.skSt d j = skRUNNING) ∧
    s.flag (R.SKIM_JOB_CFG d j) F.SKIM_JOB_CFG_STOP_FN_EN = true ∧ s.fn = (s.rd (R.SKIM_JOB_STOP_FN d j)).toNat) ∧
  (∃ p : Port, ∃ d : Fin 4, ∃ j : Fin 8, ∃ s : State, s.reaches p 0 = true ∧ skARMED ≤ s.skSt d j ∧ s.skSt d j ≤ skPOST ∧
    (s.skNow d j).skSt d j = skDONE) ∧
  (∃ p : Port, ∃ d : Fin 4, ∃ j : Fin 8, ∃ s : State, s.reaches p 0 = true ∧ Settled s ∧ (s.skSt d j = skDONE ∨ s.skSt d j = skSTOPPED)) ∧
  (∃ d : Fin 4, ∃ j : Fin 8, ∃ s : State, (s.skSt d j = skARMED ∨ s.skSt d j = skRUNNING) ∧
    s.flag (R.SKIM_JOB_CFG d j) F.SKIM_JOB_CFG_STOP_FN_EN = true ∧ s.fn = (s.rd (R.SKIM_JOB_STOP_FN d j)).toNat) ∧
  (∃ p : Port, ∃ d : Fin 4, ∃ j : Fin 8, ∃ s : State, s.reaches p 0 = true ∧ (s.skSt d j = skDONE ∨ s.skSt d j = skSTOPPED)) ∧
  (∃ p : Port, ∃ d : Fin 4, ∃ j : Fin 8, ∃ op : Fin 8, ∃ s : State, s.reaches p 0 = true ∧ s.skOpOK d j op = false) :=
  ⟨⟨Port.b, 1, 1, jb 7 ring job0, by decide +kernel⟩,
   ⟨Port.b, 0, 0, jb 3 (ring ++ [(R.SKIM_JOB_CFG 0 0, F.SKIM_JOB_CFG_TRIG, 4)]) {job0 with srcs := [src0]}, by rw [settled_iff]; decide +kernel⟩,
   ⟨Port.a, 0, 0, jb 1 ring job0, by decide +kernel⟩,
   ⟨Port.a, 0, 0, jb 1 [] job0, by rw [settled_iff]; decide +kernel⟩,
   ⟨Port.a, 0, 0, jb 1 ring job0, by decide +kernel⟩,
   ⟨0, 0, fin (jb 2 ring job0), by decide +kernel⟩,
   ⟨Port.a, 0, 0, jb 3 (ring ++ [(R.SKIM_JOB_CFG 0 0, F.SKIM_JOB_CFG_STOP_FN_EN, 1)]) {job0 with srcs := [src0]}, by decide +kernel⟩,
   ⟨Port.a, 0, 0, jb 3 (ring ++ [(R.SKIM_JOB_CFG 0 0, F.SKIM_JOB_CFG_TRIG, 1)]) {job0 with srcs := [src0]}, by decide +kernel⟩,
   ⟨0, 0, jb 3 (ring ++ [(R.SKIM_JOB_CFG 0 0, F.SKIM_JOB_CFG_TRIG, 4)]) {job0 with srcs := [src0]}, by decide +kernel⟩,
   ⟨Port.b, 0, 0, jb 3 (ring ++ [(R.SKIM_JOB_CFG 0 0, F.SKIM_JOB_CFG_TRIG, 4)]) {job0 with srcs := [src0]}, by decide +kernel⟩,
   ⟨Port.a, 0, 0, jb 3 (ring ++ [(R.SKIM_JOB_CFG 0 0, F.SKIM_JOB_CFG_STOP_FN_EN, 1)]) {job0 with srcs := [src0]}, by decide +kernel⟩,
   ⟨Port.a, 0, 0, jb 3 (ring ++ [(R.SKIM_JOB_CFG 0 0, F.SKIM_JOB_CFG_STOP_FN_EN, 1)]) {job0 with srcs := [src0]}, by decide +kernel⟩,
   ⟨Port.a, 0, 0, jb 6 ring job0, by rw [settled_iff]; decide +kernel⟩,
   ⟨0, 0, jb 3 (ring ++ [(R.SKIM_JOB_CFG 0 0, F.SKIM_JOB_CFG_STOP_FN_EN, 1)]) {job0 with srcs := [src0]}, by decide +kernel⟩,
   ⟨Port.a, 0, 0, jb 6 ring job0, by decide +kernel⟩,
   ⟨Port.a, 0, 0, 1, jb 4 (ring ++ [(R.SKIM_JOB_CFG 0 0, F.SKIM_JOB_CFG_STOP_FN_EN, 1)]) (stg true), by decide +kernel⟩⟩

end Skim

namespace Events

def tmr (s : State) (k : TKey) : State := { s with timers := [(k, some 0)] }

def fw : Fld := ⟨0, 32, .rw, 0⟩

def sev (s : State) : State := (s.setBit (R.EVT_SEVERE 0) 0).put (R.EVT_CFG 0 0) F.EVT_CFG_CLASS clsSafe

theorem witness_event_is_counted_alone :
  (∃ _ : State, ∃ b : Nat, ∃ src : Nat, ∃ _ : Word, src < evSources b) ∧
  (∃ s : State, ∃ b : Nat, ∃ src : Nat, ∃ detail : Word, src < evSources b ∧
    let t := s.event b src detail; let n := s.get (R.EVT_CFG b src) F.EVT_CFG_WCOUNT + 1; s.bit (R.EVT_ENABLE b) src = true) ∧
  (∃ s : State, ∃ b : Nat, ∃ src : Nat, ∃ detail : Word, src < evSources b ∧
    let t := s.event b src detail; let n := s.get (R.EVT_CFG b src) F.EVT_CFG_WCOUNT + 1; (b, src) ≠ (evPkg, srcCNT_WRAP) ∧ (∀ d, (b, src) ≠ (evDie d,
    srcSKIM))) ∧
  (∃ s : State, ∃ b : Nat, ∃ src : Nat, ∃ detail : Word, src < evSources b ∧
    let t := s.event b src detail; let n := s.get (R.EVT_CFG b src) F.EVT_CFG_WCOUNT + 1; (b, src) ≠ (evPkg, srcCNT_WRAP) ∧ (∀ d, (b, src) ≠ (evDie d,
    srcSKIM)) ∧ s.bit (R.EVT_SEVERE b) src = false ∧ s.sevOn = true ∧ n < s.get (R.EVT_CFG b src) F.EVT_CFG_N) ∧
  (∃ s : State, ∃ b : Nat, ∃ src : Nat, ∃ detail : Word, src < evSources b ∧
    let t := s.event b src detail; let n := s.get (R.EVT_CFG b src) F.EVT_CFG_WCOUNT + 1; (b, src) ≠ (evPkg, srcCNT_WRAP) ∧ (∀ d, (b, src) ≠ (evDie d,
    srcSKIM)) ∧ s.bit (R.EVT_SEVERE b) src = false ∧ s.sevOn = true ∧ s.get (R.EVT_CFG b src) F.EVT_CFG_N ≤ n) :=
  ⟨⟨line.put (R.EVT_CFG 0 0) F.EVT_CFG_N 5, 18, 0, 0x00000006#32, by decide +kernel⟩,
   ⟨((line.put (R.EVT_CFG 0 0) F.EVT_CFG_N 5).wr (R.EVT_ENABLE 0) 3).put (R.EVT_CFG 0 0) F.EVT_CFG_WCOUNT 4, 0, 1, 0x00000006#32,
     by dsimp only; decide +kernel⟩,
   ⟨line, 1, 1, 6, by decide +kernel, by decide +kernel, not_on_die _ _ _ (by decide)⟩,
   ⟨line.put (R.EVT_CFG 0 0) F.EVT_CFG_N 5, 0, 0, 6, by decide +kernel, by decide +kernel, not_on_die _ _ _ (by decide), by decide +kernel⟩,
   ⟨line, 1, 1, 6, by decide +kernel, by decide +kernel, not_on_die _ _ _ (by decide), by decide +kernel⟩⟩

theorem witness_live_condition_turns_severe :
  (∃ s : State, ∃ b : Nat, ∃ src : Nat, src < evSources b ∧ s.sevOn = true ∧ s.bit (R.EVT_LIVE b) src = false ∧ s.bit (R.EVT_SEVERE b) src = false) ∧
  (∃ s : State, ∃ b : Nat, ∃ src : Nat, src < evSources b ∧ s.sevOn = true ∧ s.bit (R.EVT_LIVE b) src = false ∧ s.bit (R.EVT_SEVERE b) src = false ∧
    let t := s.liveOn b src; let cls := s.get (R.EVT_CFG b src) F.EVT_CFG_CLASS; s.flag (R.EVT_FIRST0 b) F.EVT_FIRST0_VALID = false) ∧
  (∃ s : State, ∃ b : Nat, ∃ src : Nat, src < evSources b ∧ s.sevOn = true ∧ s.bit (R.EVT_LIVE b) src = false ∧ s.bit (R.EVT_SEVERE b) src = false ∧
    let t := s.liveOn b src; let cls := s.get (R.EVT_CFG b src) F.EVT_CFG_CLASS; s.flag (R.EVT_FIRST0 b) F.EVT_FIRST0_VALID = true) ∧
  (∃ s : State, ∃ b : Nat, ∃ src : Nat, src < evSources b ∧ s.sevOn = true ∧ s.bit (R.EVT_LIVE b) src = false ∧ s.bit (R.EVT_SEVERE b) src = false ∧
    let t := s.liveOn b src; let cls := s.get (R.EVT_CFG b src) F.EVT_CFG_CLASS; s.grave = false) ∧
  (∃ s : State, ∃ b : Nat, ∃ src : Nat, src < evSources b ∧ s.sevOn = true ∧ s.bit (R.EVT_LIVE b) src = false ∧ s.bit (R.EVT_SEVERE b) src = false ∧
    let t := s.liveOn b src; let cls := s.get (R.EVT_CFG b src) F.EVT_CFG_CLASS; cls = clsGrave ∧ s.grave = false) ∧
  (∃ s : State, ∃ b : Nat, ∃ src : Nat, src < evSources b ∧ s.sevOn = true ∧ s.bit (R.EVT_LIVE b) src = false ∧ s.bit (R.EVT_SEVERE b) src = false ∧
    let t := s.liveOn b src; let cls := s.get (R.EVT_CFG b src) F.EVT_CFG_CLASS; cls = clsSafe) ∧
  (∃ s : State, ∃ b : Nat, ∃ src : Nat, src < evSources b ∧ s.sevOn = true ∧ s.bit (R.EVT_LIVE b) src = false ∧ s.bit (R.EVT_SEVERE b) src = false ∧
    let t := s.liveOn b src; let cls := s.get (R.EVT_CFG b src) F.EVT_CFG_CLASS; cls = clsSafe ∧ s.fence = true ∧ ∃ c : Fin 32, b = evCluster c) :=
  ⟨⟨line.put (R.EVT_CFG 0 0) F.EVT_CFG_CLASS clsGrave, 9, 2, by decide +kernel⟩,
   ⟨line.put (R.EVT_CFG 0 0) F.EVT_CFG_CLASS clsGrave, 9, 2, by dsimp only; decide +kernel⟩,
   ⟨line.put (R.EVT_FIRST0 0) F.EVT_FIRST0_VALID 1, 0, 3, by dsimp only; decide +kernel⟩,
   ⟨line.put (R.EVT_CFG 0 0) F.EVT_CFG_CLASS clsGrave, 9, 2, by dsimp only; decide +kernel⟩,
   ⟨line.put (R.EVT_CFG 0 1) F.EVT_CFG_CLASS clsGrave, 0, 1, by dsimp only; decide +kernel⟩,
   ⟨line.put (R.EVT_CFG 0 0) F.EVT_CFG_CLASS clsSafe, 0, 0, by dsimp only; decide +kernel⟩,
   ⟨{ line.put (R.EVT_CFG (evCluster 0) 0) F.EVT_CFG_CLASS clsSafe with fence := true }, evCluster 0, 0, by dsimp only; decide +kernel⟩⟩

theorem witness_host_sets_and_clears_severity :
  (∃ p : Port, ∃ b : Fin 175, ∃ s : State, s.reaches p 0 = true ∧ s.rd (R.EVT_STICKY b) &&& s.rd (R.EVT_ENABLE b) = 0) ∧
  (∃ p : Port, ∃ b : Fin 175, ∃ s : State, s.reaches p 0 = true ∧ s.rd (R.EVT_STICKY b) &&& s.rd (R.EVT_ENABLE b) ≠ 0) ∧
  (∃ p : Port, ∃ _ : Fin 175, ∃ s : State, s.reaches p 0 = true) ∧
  (∃ p : Port, ∃ s : State, s.reaches p 0 = true) ∧
  (∃ p : Port, ∃ _ : Bool, ∃ s : State, s.reaches p 0 = true ∧ s.grave = false) ∧
  (∃ p : Port, ∃ _ : Bool, ∃ s : State, s.reaches p 0 = true ∧ s.grave = true) ∧
  (∃ p : Port, ∃ b : Fin 175, ∃ src : Fin 32, ∃ _ : Word, ∃ s : State, s.reaches p 0 = true ∧ src.val < evSources b ∧
    s.bit (R.EVT_SEVERE b) src = false) ∧
  (∃ p : Port, ∃ b : Fin 175, ∃ src : Fin 32, ∃ s : State, s.reaches p 0 = true ∧ src.val < evSources b ∧ s.bit (R.EVT_SEVERE b) src = true ∧
    s.bit (R.EVT_LIVE b) src = false ∧ s.get (R.EVT_CFG b src) F.EVT_CFG_CLASS ≠ clsGrave) ∧
  (∃ p : Port, ∃ b : Fin 175, ∃ src : Fin 32, ∃ s : State, s.reaches p 0 = true ∧ src.val < evSources b ∧
    (s.bit (R.EVT_LIVE b) src = true ∨ s.get (R.EVT_CFG b src) F.EVT_CFG_CLASS = clsGrave)) ∧
  (∃ b : Fin 175, ∃ src : Fin 32, ∃ s : State, s.bit (R.EVT_SEVERE b) src = true ∧ s.bit (R.EVT_LIVE b) src = false ∧
    s.flag (R.EVT_CFG b src) F.EVT_CFG_AUTO = true ∧ s.get (R.EVT_CFG b src) F.EVT_CFG_CLASS ≠ clsGrave ∧
    8 * s.get (R.EVT_WIN b src) F.EVT_WIN_WINDOW_MS ≤ s.quietFrames b src) ∧
  (∃ b : Fin 175, ∃ src : Fin 32, ∃ s : State, s.get (R.EVT_CFG b src) F.EVT_CFG_CLASS = clsGrave) ∧
  (∃ b : Fin 175, ∃ src : Fin 32, ∃ s : State, s.timerDone (evWindowKey b src) = true) ∧
  (∃ s : State, s.fn % 4 = 0 ∧ s.ns = 0) ∧
  (∃ s : State, s.flag R.EVT_SUM_STATUS F.EVT_SUM_STATUS_PULSE = true ∧ s.timerDone faultKey = true) :=
  ⟨⟨Port.b, 1, {line with safe := [⟨0,0,0,false,some 0⟩, ⟨0,0,0,true,some 9⟩]}, by decide +kernel⟩,
   ⟨Port.a, 0, (line.wr (R.EVT_STICKY 0) 3).wr (R.EVT_ENABLE 0) 3, by decide +kernel⟩,
   ⟨Port.b, 1, {line with safe := [⟨0,0,0,false,some 0⟩, ⟨0,0,0,true,some 9⟩]}, by decide +kernel⟩,
   ⟨Port.b, graved, by decide +kernel⟩,
   ⟨Port.b, false, {line with safe := [⟨0,0,0,false,some 0⟩, ⟨0,0,0,true,some 9⟩]}, by decide +kernel⟩,
   ⟨Port.b, true, graved, by decide +kernel⟩,
   ⟨Port.b, 1, 1, 0x00000006#32, line.wr (R.EVT_FIRST1 0) 6, by decide +kernel⟩,
   ⟨Port.a, 0, 0, {sev line with safe := [⟨0,0,0,false,none⟩]}, by decide +kernel⟩,
   ⟨Port.a, 0, 0, (sev line).put (R.EVT_CFG 0 0) F.EVT_CFG_CLASS clsGrave, by decide +kernel⟩,
   ⟨0, 0, {(sev line).put (R.EVT_CFG 0 0) F.EVT_CFG_AUTO 1 with up := 10^6}, by decide +kernel⟩,
   ⟨0, 0, (sev line).put (R.EVT_CFG 0 0) F.EVT_CFG_CLASS clsGrave, by decide +kernel⟩,
   ⟨0, 0, tmr (line.put (R.EVT_CFG 0 0) F.EVT_CFG_WCOUNT 1) (evWindowKey 0 0), by decide +kernel⟩,
   ⟨{(sev line).put (R.EVT_CFG 0 0) F.EVT_CFG_AUTO 1 with up := 10^6}, by decide +kernel⟩,
   ⟨tmr (line.put R.EVT_SUM_STATUS F.EVT_SUM_STATUS_PULSE 1) faultKey, by decide +kernel⟩⟩

theorem witness_faults_forces_and_resets :
  (∃ k : Fin 4, ∃ i : Fin 32, ∃ s : State, s.pllPowered k i = true ∧ s.bit (R.EVT_LIVE (pllSource k i).1) (pllSource k i).2 = false) ∧
  (∃ k : Fin 4, ∃ i : Fin 32, ∃ s : State, (s.pllPowered k i = false ∨ s.bit (R.EVT_LIVE (pllSource k i).1) (pllSource k i).2 = true)) ∧
  (∃ n : Fin 128, ∃ s : State, s.get (R.LU_SENSE_STATUS n) F.LU_SENSE_STATUS_TERM ≠ 4) ∧
  (∃ s : State, s.due = []) ∧
  (∃ s : State, ∃ _ : Ecc, s.services = true ∧ s.due = []) ∧
  (∃ p : Port, ∃ b : Fin 175, ∃ src : Fin 32, ∃ s : State, s.reaches p 0 = true ∧ src.val < evSources b ∧ evReserved b src = false ∧ Settled s ∧
    (s.get (R.EVT_CFG b src) F.EVT_CFG_CLASS ≠ clsGrave ∨ s.flag R.EVT_SUM_STATUS F.EVT_SUM_STATUS_TEST_MODE = true)) ∧
  (∃ p : Port, ∃ b : Fin 175, ∃ src : Fin 32, ∃ s : State, s.reaches p 0 = true ∧ src.val < evSources b ∧ evReserved b src = true ∧ Settled s) ∧
  (∃ p : Port, ∃ b : Fin 175, ∃ src : Fin 32, ∃ s : State, s.reaches p 0 = true ∧ src.val < evSources b ∧ evReserved b src = false ∧ Settled s ∧
    s.get (R.EVT_CFG b src) F.EVT_CFG_CLASS = clsGrave ∧ s.flag R.EVT_SUM_STATUS F.EVT_SUM_STATUS_TEST_MODE = false) ∧
  (∃ p : Port, ∃ _ : Fin 175, ∃ _ : Fin 4, ∃ s : State, Inv s ∧ s.reaches p 0 = true ∧ Settled s) ∧
  (∃ p : Port, ∃ _ : Fin 8, ∃ s : State, s.reaches p 0 = true) ∧
  (∃ b : Fin 175, ∃ s : State, s.fn % 4 = 0 ∧ s.ns = 0 ∧ 15 ≤ b.val ∧ Settled s ∧ (∃ f ∈ s.safe, f.stops = true ∧ f.due s.up = true ∧
    f.blk = b.val)) :=
  ⟨⟨3, 0, line, by decide +kernel⟩,
   ⟨3, 1, graved, by decide +kernel⟩,
   ⟨31, {line with serdesBad := [0]}, by decide +kernel⟩,
   ⟨line.put (R.EVT_CFG 0 0) F.EVT_CFG_CLASS clsGrave, by decide +kernel⟩,
   ⟨line.put (R.EVT_CFG 0 0) F.EVT_CFG_CLASS clsGrave, Ecc.ok, by decide +kernel⟩,
   ⟨Port.a, 0, 0, line, by rw [settled_iff]; decide +kernel⟩,
   ⟨Port.b, 0, 31, (line.wr (R.EVT_STICKY 0) 3).put (R.EVT_CFG 0 0) F.EVT_CFG_WCOUNT 1, by rw [settled_iff]; decide +kernel⟩,
   ⟨Port.b, 0, 0, line.put (R.EVT_CFG 0 0) F.EVT_CFG_CLASS clsGrave, by rw [settled_iff]; decide +kernel⟩,
   ⟨Port.b, 0, 1, (line.wr (R.EVT_STICKY 0) 3).put (R.EVT_CFG 0 0) F.EVT_CFG_WCOUNT 1, by rw [settled_iff, inv_iff]; decide +kernel⟩,
   ⟨Port.b, 3, line, by decide +kernel⟩,
   ⟨15, {line with sevOn := false, safe := [⟨15,0,0,true,some 0⟩]}, by rw [settled_iff]; decide +kernel⟩⟩

end Events

namespace Memory

def full64 (s : State) : State := sets s ((List.range 19).map (fun i => (R.MATRIX_OUT i, F.MATRIX_OUT_COUNT, 64)))

def fw : Fld := ⟨0, 32, .rw, 0⟩

def tmr (s : State) (k : TKey) (n : Nat) : State := { s with timers := [(k, some n)] }

def pl : State := good { line with dram := [(0, ⟨1, 1, 1, 2, 1⟩)] }

theorem pl_partAt (a : Nat) (h : a < 4) : pl.partAt 0 a = some 0 :=
  partAt_first pl 0 a (Nat.lt_trans h (by decide)) (by decide +kernel)

def tg (s : State) : State := s.wr (R.POUR_TGT_TA .a 0) 0x7f2

def jobP : PourJob := { emptyPour with tgts := [freshTgt 0x20007f2] }

def pj (st : Nat) (l : List (RegId × Fld × Nat)) (j : PourJob) : State := { sets (tg pl) ([(R.POUR_JOB_STATUS 0 0, F.POUR_JOB_STATUS_STATE, st)] ++ l) with pourJobs := [(0, j)] }

def own (n : Nat) (l : List (RegId × Fld × Nat)) : State := sets line ([(R.WB_OWN 0 0, F.WB_OWN_OWNER, n), (R.WB_OWN 0 0, F.WB_OWN_PRESENT, 1)] ++ l)

def own3 (s : State) : State := sets s [(R.WB_OWN 0 0, F.WB_OWN_OWNER, 3), (R.WB_OWN 0 0, F.WB_OWN_PRESENT, 1)]

def scr (w : Nat) : State := (own3 (pj 3 [(R.POUR_JOB_SCR_CTRL 0 0, F.POUR_JOB_SCR_CTRL_SCR_EN, 1), (R.POUR_JOB_SCR_CTRL 0 0,
  F.POUR_JOB_SCR_CTRL_STEPS, 2)] {jobP with scrWait := 3})).st 0 [5, 0, 1, BitVec.ofNat 8 w]

def scr1 (w : Nat) : State := (own3 (pj 1 [(R.POUR_JOB_SCR_CTRL 0 0, F.POUR_JOB_SCR_CTRL_SCR_EN, 1), (R.POUR_JOB_SCR_CTRL 0 0,
  F.POUR_JOB_SCR_CTRL_STEPS, 2), (R.POUR_JOB_START_FN 0 0, fw, 4)] {emptyPour with tgts := [freshTgt (0x2000000 + ((au4 1).setWidth 32))]})).st 0 [5,
  0, 1, BitVec.ofNat 8 w]

def pend (n m : Nat) : State := { own n [(R.WB_OWN 0 0, F.WB_OWN_PENDING, 1)] with wbNew := [(0, m)] }

def sv (n : Nat) (l : List (RegId × Fld × Nat)) : State := own n ([(R.SIEVE_CTRL 0, F.SIEVE_CTRL_EN, 1)] ++ l)

def busy (l : List (RegId × Fld × Nat)) : State := sv 0 ([(R.SIEVE_STATUS 0, F.SIEVE_STATUS_BANK, 0), (R.SIEVE_STATUS 0, F.SIEVE_STATUS_BUSY,
  1)] ++ l)

def mx (c : Nat) (l : List MxOut) : State := { sets pl [(R.MATRIX_OUT 0, F.MATRIX_OUT_COUNT, c), (R.MATRIX_OUT 1, F.MATRIX_OUT_COUNT, c)] with mxOut := l }

def tx (st : Nat) (l : List (RegId × Fld × Nat)) (x : TxnSlot) : State := { sets (mapped (conn 0 0 0)) ([(R.TXN_STATUS 0, F.TXN_STATUS_STATE, st)] ++ l) with actMap := [], txns := [(0, x)] }

def recd (k : Nat) : TxnSlot := { emptySlot with recs := [conn 0 0 0], unbuilt := k }

def regs4 (s : State) (r : Rec) : State := ((s.wr (R.TXN_REC .a 0 0) r.w0).wr (R.TXN_REC .a 0 1) r.w1).wr (R.TXN_REC .a 0 2) r.w2

def path0 (s : State) : State := sets s [(R.LU_PATH_STRUCT0 0 0, F.LU_PATH_STRUCT0_MODE, 1), (R.LU_PATH_STRUCT0 1 0, F.LU_PATH_STRUCT0_MODE, 1)]

def own4 (s : State) : State := sets s [(R.WB_OWN 0 0, F.WB_OWN_OWNER, 4), (R.WB_OWN 0 0, F.WB_OWN_PRESENT, 1)]

def recBytes (r : Rec) : List Byte := wordBytes r.w0 ++ wordBytes r.w1 ++ wordBytes r.w2 ++ wordBytes r.w3

def mir (f : Nat) (st : Nat) (x : TxnSlot) : State := tx st [(R.TXN_STATUS 0, F.TXN_STATUS_MIRROR, 1), (R.TXN_STATUS 0, F.TXN_STATUS_ORIGIN, f)] x

def at_ (s : State) (n : Nat) : State := s.wr (R.TXN_FN 0) (BitVec.ofNat 32 n)

def mok (a b : Nat) (s : State) : State := sets s [(R.TXN_MIRROR_CTRL, F.TXN_MIRROR_CTRL_ENABLE, a), (R.TXN_MIRROR_CTRL, F.TXN_MIRROR_CTRL_MATE_OK,
  b)]

def zz : Nat := 0

def md (w : Nat) (s : State) : State := { s with mapDiag := [(0, BitVec.ofNat 32 w)] }

theorem witness_pour_targets_and_injection :
  (∃ p : Port, ∃ d : Fin 4, ∃ j : Fin 8, ∃ code : Fin 8, ∃ s : State, s.reaches p 0 = true ∧
    s.flag (R.POUR_TGT_STATUS p d) F.POUR_TGT_STATUS_BUSY = false ∧ poIdle (s.poSt d j) = true ∧ s.poTgtCode d (s.poEntry p d code) = 0) ∧
  (∃ p : Port, ∃ d : Fin 4, ∃ j : Fin 8, ∃ code : Fin 8, ∃ s : State, s.reaches p 0 = true ∧
    s.flag (R.POUR_TGT_STATUS p d) F.POUR_TGT_STATUS_BUSY = false ∧ poIdle (s.poSt d j) = true ∧ tapField (s.poEntry p d code) = true ∧
    (code = 1 ∨ code = 3 ∨ code = 4)) ∧
  (∃ p : Port, ∃ d : Fin 4, ∃ j : Fin 8, ∃ code : Fin 8, ∃ s : State, s.reaches p 0 = true ∧
    s.flag (R.POUR_TGT_STATUS p d) F.POUR_TGT_STATUS_BUSY = false ∧ poIdle (s.poSt d j) = false ∧ tapField (s.poEntry p d code) = true) ∧
  (∃ p : Port, ∃ d : Fin 4, ∃ j : Fin 8, ∃ s : State, s.reaches p 0 = true ∧ s.flag (R.POUR_TGT_STATUS p d) F.POUR_TGT_STATUS_BUSY = false ∧
    poIdle (s.poSt d j) = true) ∧
  (∃ p : Port, ∃ d : Fin 4, ∃ j : Fin 8, ∃ count : Fin 1048576, ∃ s : State, s.reaches p 0 = true ∧
    s.flag (R.POUR_TGT_STATUS p d) F.POUR_TGT_STATUS_BUSY = false ∧ poIdle (s.poSt d j) = true ∧ count.val ≠ 0 ∧ count.val ≤ 262143 ∧
    let a := s.addrAt (R.POUR_TGT_FETCH_LO p d) (R.POUR_TGT_FETCH_HI p d); (s.inOwned d 3 a (4 * count.val) = true ∨ s.inPart d 4 a (4 * count.val) = true)) ∧
  (∃ p : Port, ∃ d : Fin 4, ∃ f : ListFetch, ∃ _ : List (Nat × Ecc), ∃ s : State, look (fun _ => none) s.pourFetch (2 * d.val + p.toNat) = some f ∧
    poIdle (s.poSt d f.job) = true ∧ s.engineWaits (mPOUR d) f.addr (.read (4 * f.count)) = false) ∧
  (∃ p : Port, ∃ d : Fin 4, ∃ f : ListFetch, ∃ _ : List (Nat × Ecc), ∃ s : State, look (fun _ => none) s.pourFetch (2 * d.val + p.toNat) = some f ∧
    Settled s ∧ s.engineWaits (mPOUR d) f.addr (.read (4 * f.count)) = true) ∧
  (∃ p : Port, ∃ d : Fin 4, ∃ j : Fin 8, ∃ what : Fin 16, ∃ _ : Fin 4, ∃ _ : Byte, ∃ s : State, s.reaches p 0 = true ∧ what.val < 12 ∧
    (s.pour d j).words.all (fun w => s.injAllowed d j what w) = true) ∧
  (∃ p : Port, ∃ d : Fin 4, ∃ j : Fin 8, ∃ what : Fin 16, ∃ _ : Fin 4, ∃ _ : Byte, ∃ s : State, s.reaches p 0 = true ∧
    (12 ≤ what.val ∨ (s.pour d j).words.any (fun w => !s.injAllowed d j what w) = true)) :=
  ⟨⟨Port.a, 0, 0, 1, {own3 (pj 1 [] emptyPour) with pourFetch := [(0, some ⟨0, 1, 0, .a⟩)]}, by decide +kernel⟩,
   ⟨Port.a, 0, 0, 1, {own3 (pj 1 [] emptyPour) with pourFetch := [(0, some ⟨0, 1, 0, .a⟩)]}, by decide +kernel⟩,
   ⟨Port.b, 1, 1, 1, pj 1 [] jobP, by decide +kernel⟩,
   ⟨Port.b, 0, 0, ({own3 (pj 1 [] emptyPour) with pourFetch := [(0, some ⟨0, 1, 0, .a⟩)]}).st 0 [0xf2, 7, 0, 2], by decide +kernel⟩,
   ⟨Port.a, 0, 0, 1, {own3 (pj 1 [] emptyPour) with pourFetch := [(0, some ⟨0, 1, 0, .a⟩)]}, by decide +kernel⟩,
   ⟨Port.a, 0, { job := 0, count := 1, addr := 0, port := Port.a }, [(0, Ecc.uncorrectable), (18, Ecc.ok)],
     {own3 (pj 1 [] emptyPour) with pourFetch := [(0, some ⟨0, 1, 0, .a⟩)]}, by decide +kernel⟩,
   ⟨Port.a, 0, { job := 0, count := 1, addr := 0, port := Port.a }, [(18, Ecc.uncorrectable), (0, Ecc.ok)],
     full64 {own3 (pj 1 [] emptyPour) with pourFetch := [(0, some ⟨0, 1, 0, .a⟩)]}, by rw [settled_iff]; decide +kernel⟩,
   ⟨Port.b, 1, 1, 1, 0, 0xff#8, ({own3 (pj 1 [] emptyPour) with pourFetch := [(0, some ⟨0, 1, 0, .a⟩)]}).st 0 [0xf2, 7, 0, 2], by decide +kernel⟩,
   ⟨Port.a, 0, 0, 1, 0, 0x00#8, pj 1 [] {emptyPour with tgts := [freshTgt 0x60007f2]}, by decide +kernel⟩⟩

theorem witness_pour_jobs_change_state :
  (∃ p : Port, ∃ d : Fin 4, ∃ j : Fin 8, ∃ s : State, s.reaches p 0 = true ∧ s.poSt d j = poFREE) ∧
  (∃ p : Port, ∃ d : Fin 4, ∃ j : Fin 8, ∃ s : State, s.reaches p 0 = true ∧ poIdle (s.poSt d j) = true ∧ s.poStartCode d j false = 0 ∧
    (s.scriptRead d j 0).2 = true) ∧
  (∃ p : Port, ∃ d : Fin 4, ∃ j : Fin 8, ∃ s : State, s.reaches p 0 = true ∧ Settled s ∧ poIdle (s.poSt d j) = true ∧ s.poStartCode d j false ≠ 0 ∧
    (s.scrOn d j = false ∨ s.poStartCode d j false < 0x0D ∨ s.scriptPlace d j = false)) ∧
  (∃ p : Port, ∃ d : Fin 4, ∃ j : Fin 8, ∃ s : State, s.reaches p 0 = true ∧ poIdle (s.poSt d j) = true ∧
    (s.scriptRead d j (s.poStartCode d j false)).2 = false) ∧
  (∃ p : Port, ∃ d : Fin 4, ∃ j : Fin 8, ∃ s : State, s.reaches p 0 = true ∧ poIdle (s.poSt d j) = true ∧ s.poStartCode d j true = 0 ∧
    (s.scriptRead d j 0).2 = true) ∧
  (∃ d : Fin 4, ∃ j : Fin 8, ∃ s : State, s.poSt d j = poPENDING ∧ s.fn = (s.pour d j).start) ∧
  (∃ p : Port, ∃ d : Fin 4, ∃ j : Fin 8, ∃ s : State, s.reaches p 0 = true ∧ s.poSt d j = poPENDING) ∧
  (∃ p : Port, ∃ d : Fin 4, ∃ j : Fin 8, ∃ s : State, s.reaches p 0 = true ∧ s.poSt d j = poPLAYING) ∧
  (∃ p : Port, ∃ d : Fin 4, ∃ j : Fin 8, ∃ s : State, s.reaches p 0 = true ∧ Settled s ∧ poENDING ≤ s.poSt d j) ∧
  (∃ d : Fin 4, ∃ j : Fin 8, ∃ e : Nat, ∃ s : State, (s.pour d j).endUp = some e ∧ s.poSt d j = poENDING ∧ s.fn % 4 = 0 ∧ e + 2 ≤ s.up) ∧
  (∃ p : Port, ∃ d : Fin 4, ∃ j : Fin 8, ∃ s : State, s.reaches p 0 = true ∧ (s.poSt d j = poDONE ∨ s.poSt d j = poSTOPPED)) ∧
  (∃ p : Port, ∃ d : Fin 4, ∃ j : Fin 8, ∃ op : Fin 8, ∃ s : State, s.reaches p 0 = true ∧ s.poOpOK d j op = false) ∧
  (∃ d : Fin 4, ∃ j : Fin 8, ∃ errs : List (Nat × Ecc), ∃ s : State, s.poSt d j = poPLAYING ∧ s.scrOn d j = true ∧
    s.flag (R.POUR_JOB_SCR_CTRL d j) F.POUR_JOB_SCR_CTRL_SCRIPT_DONE = false ∧
    let i := s.get (R.POUR_JOB_SCR_CTRL d j) F.POUR_JOB_SCR_CTRL_STEP; let w := s.scrWord d j i; let op := bitsOf w 31 28; i < s.scrSteps d j ∧
    op ≤ 4 ∧ bitsOf w 27 16 ≤ (s.pour d j).scrWait ∧ (s.pour d j).act.1 = 0 ∧ (s.pourFetch1 d j (some (s.scrAddr d j i)) errs).2 = true ∧
    let u := (s.pourFetch1 d j (some (s.scrAddr d j i)) errs).1; u.poSt d j = poPLAYING) ∧
  (∃ d : Fin 4, ∃ j : Fin 8, ∃ errs : List (Nat × Ecc), ∃ s : State, s.poSt d j = poPLAYING ∧ s.scrOn d j = true ∧
    s.flag (R.POUR_JOB_SCR_CTRL d j) F.POUR_JOB_SCR_CTRL_SCRIPT_DONE = false ∧
    let i := s.get (R.POUR_JOB_SCR_CTRL d j) F.POUR_JOB_SCR_CTRL_STEP; let w := s.scrWord d j i; i < s.scrSteps d j ∧ bitsOf w 31 28 ≤ 4 ∧
    ((s.pour d j).scrWait < bitsOf w 27 16 ∨ (s.pour d j).act.1 ≠ 0) ∧ (s.pourFetch1 d j (some (s.scrAddr d j i)) errs).2 = true) ∧
  (∃ d : Fin 4, ∃ j : Fin 8, ∃ errs : List (Nat × Ecc), ∃ s : State, s.poSt d j = poPLAYING ∧ s.scrOn d j = true ∧
    s.flag (R.POUR_JOB_SCR_CTRL d j) F.POUR_JOB_SCR_CTRL_SCRIPT_DONE = false ∧
    let i := s.get (R.POUR_JOB_SCR_CTRL d j) F.POUR_JOB_SCR_CTRL_STEP; let w := s.scrWord d j i; let count := bitsOf w 27 16; let n := look (fun _ => 0) (s.pour d j).loops i; i < s.scrSteps d j ∧
    bitsOf w 31 28 = 5 ∧ (s.pourFetch1 d j (some (s.scrAddr d j i)) errs).2 = true) :=
  ⟨⟨Port.b, 1, 1, scr 0x10, by decide +kernel⟩,
   ⟨Port.a, 0, 0, pj 1 [(R.POUR_JOB_START_FN 0 0, fw, 4)] jobP, by decide +kernel⟩,
   ⟨Port.a, 0, 0, pj 5 [] jobP, by rw [settled_iff]; decide +kernel⟩,
   ⟨Port.a, 0, 0, (scr1 0).setBit R.MATRIX_MRST_BUSY (mPOUR 0), by decide +kernel⟩,
   ⟨Port.a, 0, 0, pj 5 [] jobP, by decide +kernel⟩,
   ⟨0, 0, pj 2 [] jobP, by decide +kernel⟩,
   ⟨Port.a, 0, 0, pj 2 [] jobP, by decide +kernel⟩,
   ⟨Port.b, 0, 0, scr 0x30, by decide +kernel⟩,
   ⟨Port.a, 0, 0, {pj 4 [] {jobP with endUp := some 0} with up := 4}, by rw [settled_iff]; decide +kernel⟩,
   ⟨0, 0, 0, {pj 4 [(R.POUR_JOB_STATUS 0 0, F.POUR_JOB_STATUS_END_CAUSE, 3)] {jobP with endUp := some 0} with up := 4}, by decide +kernel⟩,
   ⟨Port.a, 0, 0, pj 5 [] jobP, by decide +kernel⟩,
   ⟨Port.a, 0, 0, 1, {pj 4 [(R.POUR_JOB_STATUS 0 0, F.POUR_JOB_STATUS_END_CAUSE, 3)] {jobP with endUp := some 0} with up := 4}, by decide +kernel⟩,
   ⟨0, 0, [(0, Ecc.ok)], scr 0, by dsimp only; decide +kernel⟩,
   ⟨0, 0, [(1, Ecc.correctable), (17, Ecc.correctable)], scr 1, by dsimp only; decide +kernel⟩,
   ⟨0, 0, [(16, Ecc.uncorrectable), (16, Ecc.ok)], {scr 0x50 with pourJobs := [(0, {jobP with loops := [(0, 1)]})]}, by dsimp only; decide +kernel⟩⟩

theorem witness_work_banks_are_owned :
  (∃ m : Fin 19, ∃ d : Fin 4, ∃ b : Fin 42, ∃ off : Fin 262144, ∃ n : Nat, ∃ s : State, s.bankAdmits m d b off (.read n) = true ∧
    matrixPath m (1 + d.val) false = true ∧ s.bit R.MATRIX_MRST_BUSY m = false ∧ s.waitsAt m (.bank d b off (.read n) .ok none) = false) ∧
  (∃ m : Fin 19, ∃ d : Fin 4, ∃ b : Fin 42, ∃ off : Fin 262144, ∃ l : List (Option Byte), ∃ s : State, s.bankAdmits m d b off (.write l) = true ∧
    matrixPath m (1 + d.val) true = true ∧ s.bit R.MATRIX_MRST_BUSY m = false ∧ s.waitsAt m (.bank d b off (.write l) .ok none) = false) ∧
  (∃ d : Fin 4, ∃ b : Fin 42, ∃ off : Fin 262144, ∃ l : List (Option Byte), ∃ l' : List (Option Byte), ∃ s : State,
    s.bankAdmits mHOSTA d b off (.write l) = true ∧ s.bankAdmits mHOSTB d b off (.write l') = true ∧ s.bit R.MATRIX_MRST_BUSY 0 = false ∧
    s.bit R.MATRIX_MRST_BUSY 1 = false ∧ s.waitsAt mHOSTA (.bank d b off (.write l) .ok (some l')) = false) ∧
  (∃ m : Fin 19, ∃ d : Fin 4, ∃ b : Fin 42, ∃ off : Fin 262144, ∃ op : MemOp, ∃ ecc : Ecc, ∃ s : State, s.bankExists d b = true ∧
    s.bankWaits m d b off op = false ∧ s.bankAdmits m d b off op = false ∧ matrixPath m (1 + d.val) op.isWrite = true ∧ Settled s ∧
    s.bit R.MATRIX_MRST_BUSY m = false ∧ s.waitsAt m (.bank d b off op ecc none) = false) ∧
  (∃ m : Fin 19, ∃ d : Fin 4, ∃ b : Fin 42, ∃ off : Fin 262144, ∃ op : MemOp, ∃ ecc : Ecc, ∃ other : Option (List (Option Byte)), ∃ s : State,
    s.bankWaits m d b off op = true ∧ matrixPath m (1 + d.val) op.isWrite = true ∧ s.bit R.MATRIX_MRST_BUSY m = false ∧ Settled s ∧
    s.waitsAt m (.bank d b off op ecc other) = false) ∧
  (∃ m : Fin 19, ∃ d : Fin 4, ∃ b : Fin 42, ∃ off : Fin 262144, ∃ op : MemOp, ∃ ecc : Ecc, ∃ s : State, s.bankExists d b = false ∧ m.val < 2 ∧
    s.bit R.MATRIX_MRST_BUSY m = false ∧ s.waitsAt m (.bank d b off op ecc none) = false ∧ Settled s) ∧
  (∃ m : Fin 19, ∃ d : Fin 4, ∃ b : Fin 42, ∃ off : Fin 262144, ∃ op : MemOp, ∃ ecc : Ecc, ∃ other : Option (List (Option Byte)), ∃ s : State,
    matrixPath m (1 + d.val) op.isWrite = false ∧ s.bit R.MATRIX_MRST_BUSY m = false ∧ s.waitsAt m (.bank d b off op ecc other) = false) ∧
  (∃ p : Port, ∃ d : Fin 4, ∃ b : Fin 42, ∃ v : Word, ∃ s : State, s.reaches p 0 = true ∧ Settled s ∧ fget v F.WB_OWN_OWNER ≠ s.bankOwner d b ∧
    s.ownCause d b (fget v F.WB_OWN_OWNER) false = 0 ∧ fget v F.WB_OWN_RETIRED = 0) ∧
  (∃ p : Port, ∃ d : Fin 4, ∃ b : Fin 42, ∃ v : Word, ∃ s : State, s.reaches p 0 = true ∧ Settled s ∧ fget v F.WB_OWN_OWNER ≠ s.bankOwner d b ∧
    s.ownCause d b (fget v F.WB_OWN_OWNER) false ≠ 0) ∧
  (∃ d : Fin 4, ∃ b : Fin 42, ∃ v : Word, ∃ s : State, Settled s ∧ s.bit R.MATRIX_MRST_BUSY mHK = false ∧ fget v F.WB_OWN_RETIRED = 0 ∧
    fget v F.WB_OWN_OWNER ≠ s.bankOwner d b ∧ s.ownCause d b (fget v F.WB_OWN_OWNER) true = 0) ∧
  (∃ d : Fin 4, ∃ b : Fin 42, ∃ v : Word, ∃ s : State, Settled s ∧ s.bit R.MATRIX_MRST_BUSY mHK = false ∧ fget v F.WB_OWN_OWNER ≠ s.bankOwner d b ∧
    s.ownCause d b (fget v F.WB_OWN_OWNER) true ≠ 0) ∧
  (∃ _ : Fin 4, ∃ _ : Fin 42, ∃ _ : Word, ∃ s : State, s.bit R.MATRIX_MRST_BUSY mHK = true) ∧
  (∃ d : Fin 4, ∃ b : Fin 42, ∃ s : State, Settled s ∧ s.bankPending d b = true ∧ s.bankOwner d b ≠ 5 ∧
    s.wbWait.all (fun w => !(w.die == d.val && w.bank == b.val)) = true) ∧
  (∃ d : Fin 4, ∃ b : Fin 42, ∃ m : Nat, ∃ off : Nat, ∃ n : Nat, ∃ i : Nat, ∃ s : State, Settled s ∧ s.bankPending d b = true ∧ s.bankOwner d b ≠ 5 ∧
    s.bankExists d b = true ∧ s.bankRetired d b = false ∧ matrixPath m (1 + d.val) false = true ∧
    ownerAdmits (look (fun _ => 0) s.wbNew (64 * d.val + b.val) % 8) m d off (.read n) = true ∧ s.mxWait = [] ∧
    s.wbWait.filter (fun w => w.die == d.val && w.bank == b.val) = [⟨m, d.val, b.val, i, .bank d b off (.read n) .ok none⟩]) ∧
  (∃ d : Fin 4, ∃ b : Fin 42, ∃ s : State, Settled s ∧ s.bankPending d b = true ∧ s.bankOwner d b = 5 ∧
    s.wbWait.all (fun w => !(w.die == d.val && w.bank == b.val)) = true) ∧
  (∃ p : Port, ∃ d : Fin 4, ∃ b : Fin 42, ∃ s : State, s.reaches p 0 = true ∧ Settled s ∧ s.flag (R.WB_OWN d b) F.WB_OWN_ON_LOAN = true) ∧
  (∃ p : Port, ∃ d : Fin 4, ∃ b : Fin 42, ∃ s : State, s.reaches p 0 = true ∧ s.flag (R.WB_OWN d b) F.WB_OWN_RETIRED = false) ∧
  (∃ p : Port, ∃ d : Fin 4, ∃ b : Fin 42, ∃ s : State, s.reaches p 0 = true ∧ s.flag (R.WB_OWN d b) F.WB_OWN_RETIRED = true) ∧
  (∃ d : Fin 4, ∃ b : Fin 42, ∃ s : State, s.wbReturning.contains (64 * d.val + b.val) = true) :=
  ⟨⟨1, 0, 0, 0, 0, own 1 [(R.WB_OWN 0 0, F.WB_OWN_ON_LOAN, 1), (R.SIEVE_STATUS 0, F.SIEVE_STATUS_BUSY, 1)], by decide +kernel⟩,
   ⟨1, 0, 0, 0, [some 0x09#8, some 0x09#8, some 0x09#8, some 0x09#8, some 0x09#8, some 0x09#8, some 0x09#8, some 0x09#8, some 0x09#8],
     own 1 [(R.WB_OWN 0 0, F.WB_OWN_ON_LOAN, 1), (R.SIEVE_STATUS 0, F.SIEVE_STATUS_BUSY, 1)], by decide +kernel⟩,
   ⟨0, 0, 1, [some 0x05#8, some 0x05#8, some 0x05#8, some 0x05#8, some 0x05#8], [], (own 1 []).setBit R.MATRIX_MRST_BUSY mHK, by decide +kernel⟩,
   ⟨15, 0, 0, 0, MemOp.write [some 0x03#8, none, some 0x07#8], Ecc.correctable, own 1 [(R.SIEVE_STATUS 0, F.SIEVE_STATUS_BANK, 0),(R.WB_OWN 0 0,
     F.WB_OWN_ON_LOAN, 1), (R.SIEVE_STATUS 0, F.SIEVE_STATUS_BUSY, 1)], by rw [settled_iff]; decide +kernel⟩,
   ⟨0, 0, 0, 262143, MemOp.read 4, Ecc.correctable, some [some 0x01#8, none, some 0x03#8, some 0x04#8], pend 2 1,
     by rw [settled_iff]; decide +kernel⟩,
   ⟨1, 0, 41, 0, MemOp.read 8, Ecc.uncorrectable, own 5 [], by rw [settled_iff]; decide +kernel⟩,
   ⟨18, 2, 13, 15, MemOp.write [some 0x03#8, none, some 0x07#8], Ecc.uncorrectable, some [some 0x03#8, none, some 0x07#8], own 1 [(R.WB_OWN 0 0,
     F.WB_OWN_ON_LOAN, 1), (R.SIEVE_STATUS 0, F.SIEVE_STATUS_BUSY, 1)], by decide +kernel⟩,
   ⟨Port.a, 0, 0, 0x000207f2#32, own 0 [], by rw [settled_iff]; decide +kernel⟩,
   ⟨Port.b, 1, 41, 0x00000006#32, own 5 [], by rw [settled_iff]; decide +kernel⟩,
   ⟨0, 0, 0x000207f2#32, own 6 [], by rw [settled_iff]; decide +kernel⟩,
   ⟨1, 3, 0x00006955#32, pend 2 1, by rw [settled_iff]; decide +kernel⟩,
   ⟨0, 0, 0x00000002#32, (own 1 []).setBit R.MATRIX_MRST_BUSY mHK, by decide +kernel⟩,
   ⟨0, 0, pend 1 2, by rw [settled_iff]; decide +kernel⟩,
   ⟨0, 0, 0, 0, 1, 1, {pend 2 1 with wbWait := [⟨0,0,0,1,.bank 0 0 0 (.read 1) .ok none⟩]}, by rw [settled_iff]; decide +kernel⟩,
   ⟨0, 0, pend 5 1, by rw [settled_iff]; decide +kernel⟩,
   ⟨Port.a, 0, 0, own 1 [(R.SIEVE_STATUS 0, F.SIEVE_STATUS_BANK, 0),(R.WB_OWN 0 0, F.WB_OWN_ON_LOAN, 1), (R.SIEVE_STATUS 0, F.SIEVE_STATUS_BUSY, 1)],
     by rw [settled_iff]; decide +kernel⟩,
   ⟨Port.b, 1, 41, own 1 [(R.WB_OWN 0 0, F.WB_OWN_ON_LOAN, 1), (R.SIEVE_STATUS 0, F.SIEVE_STATUS_BUSY, 1)], by decide +kernel⟩,
   ⟨Port.a, 0, 0, {own 0 [(R.WB_OWN 0 0, F.WB_OWN_RETIRED, 1)] with wbReturning := [0]}, by decide +kernel⟩,
   ⟨0, 0, {own 0 [] with wbReturning := [0, 1]}, by decide +kernel⟩⟩

theorem witness_sieve_and_dram :
  (∃ d : Fin 4, ∃ b : Fin 42, ∃ s : State, s.flag (R.SIEVE_CTRL d) F.SIEVE_CTRL_EN = true ∧ s.bit R.MATRIX_MRST_BUSY (mSIEVE d) = false ∧
    s.sieveTests d = false ∧ s.bankExists d b = true ∧ s.bankRetired d b = false ∧ s.bankPending d b = false ∧ s.bankOwner d b = 0) ∧
  (∃ d : Fin 4, ∃ b : Fin 42, ∃ s : State, s.flag (R.SIEVE_CTRL d) F.SIEVE_CTRL_EN = true ∧ s.bit R.MATRIX_MRST_BUSY (mSIEVE d) = false ∧
    s.sieveTests d = false ∧ s.bankExists d b = true ∧ s.bankRetired d b = false ∧ s.bankPending d b = false ∧ s.bankOwner d b ∈ [1, 2, 3, 4, 6] ∧
    s.flag (R.WB_OWN d b) F.WB_OWN_LEND = true ∧
    1000 * s.get (R.SIEVE_CTRL d) F.SIEVE_CTRL_LEND_IDLE ≤ s.clk - look (fun _ => 0) s.wbLast (64 * d.val + b.val)) ∧
  (∃ d : Fin 4, ∃ b : Fin 42, ∃ s : State, Settled s ∧ s.flag (R.SIEVE_CTRL d) F.SIEVE_CTRL_EN = true ∧ s.bit R.MATRIX_MRST_BUSY (mSIEVE d) = false ∧
    s.sieveTests d = true ∧ s.get (R.SIEVE_STATUS d) F.SIEVE_STATUS_BANK = b.val ∧ s.sieveAt d b + 1 < 512) ∧
  (∃ d : Fin 4, ∃ b : Fin 42, ∃ s : State, Settled s ∧ s.flag (R.SIEVE_CTRL d) F.SIEVE_CTRL_EN = true ∧ s.bit R.MATRIX_MRST_BUSY (mSIEVE d) = false ∧
    s.bankExists d b = true ∧ s.bankRetired d b = false ∧ s.bankOwner d b = 5 ∧ s.bankPending d b = false ∧ s.sieveAt d b + 1 < 512) ∧
  (∃ d : Fin 4, ∃ b : Fin 42, ∃ s : State, Settled s ∧ s.flag (R.SIEVE_CTRL d) F.SIEVE_CTRL_EN = true ∧ s.bit R.MATRIX_MRST_BUSY (mSIEVE d) = false ∧
    s.sieveTests d = true ∧ s.get (R.SIEVE_STATUS d) F.SIEVE_STATUS_BANK = b.val ∧ s.sieveAt d b = 511) ∧
  (∃ d : Fin 4, ∃ b : Fin 42, ∃ _ : Fin 64, ∃ s : State, s.flag (R.SIEVE_CTRL d) F.SIEVE_CTRL_EN = true ∧
    s.bit R.MATRIX_MRST_BUSY (mSIEVE d) = false ∧ s.sieveTests d = true ∧ s.get (R.SIEVE_STATUS d) F.SIEVE_STATUS_BANK = b.val ∧
    s.sieveAt d b < 512) ∧
  (∃ m : Fin 19, ∃ d : Fin 4, ∃ o : Fin 17179869184, ∃ n : Nat, ∃ s : State, matrixPath m (5 + d.val) false = true ∧
    s.bit R.MATRIX_MRST_BUSY m = false ∧ s.waitsAt m (.dram d o (.read n) []) = false ∧ (∀ a ∈ (MemOp.read n).addrs o, ∃ k, s.partAt d a = some k ∧
    partAdmits m k false = true)) ∧
  (∃ m : Fin 19, ∃ d : Fin 4, ∃ o : Fin 17179869184, ∃ l : List (Option Byte), ∃ s : State, matrixPath m (5 + d.val) true = true ∧
    s.bit R.MATRIX_MRST_BUSY m = false ∧ s.waitsAt m (.dram d o (.write l) []) = false ∧ (∀ a ∈ (MemOp.write l).addrs o, ∃ k, s.partAt d a = some k ∧
    partAdmits m k true = true)) ∧
  (∃ m : Fin 19, ∃ d : Fin 4, ∃ o : Fin 17179869184, ∃ op : MemOp, ∃ errs : List (Nat × Ecc), ∃ s : State, s.bit R.MATRIX_MRST_BUSY m = false ∧
    s.waitsAt m (.dram d o op errs) = false ∧ m.val < 2 ∧ (∃ a ∈ op.addrs o, s.partAt d a = none) ∧ Settled s) ∧
  (∃ m : Fin 19, ∃ d : Fin 4, ∃ o : Fin 17179869184, ∃ op : MemOp, ∃ errs : List (Nat × Ecc), ∃ s : State, s.bit R.MATRIX_MRST_BUSY m = false ∧
    s.waitsAt m (.dram d o op errs) = false ∧ (2 ≤ m.val ∧ matrixPath m (5 + d.val) op.isWrite = false ∨ 2 ≤ m.val ∧ (∃ a ∈ op.addrs o,
    s.partAt d a = none) ∨ (∀ a ∈ op.addrs o, (s.partAt d a).isSome = true) ∧ (∃ a ∈ op.addrs o, ∃ k, s.partAt d a = some k ∧
    partAdmits m k op.isWrite = false))) ∧
  (∃ d : Fin 4, ∃ _ : Fin 268435456, ∃ s : State, s.flag (R.SIEVE_CTRL d) F.SIEVE_CTRL_EN = true ∧ s.bit R.MATRIX_MRST_BUSY (mSIEVE d) = false ∧
    Settled s) ∧
  (∃ d : Fin 4, ∃ _ : Fin 268435456, ∃ _ : Fin 8, ∃ _ : Fin 8, ∃ s : State, s.flag (R.SIEVE_CTRL d) F.SIEVE_CTRL_EN = true ∧
    s.bit R.MATRIX_MRST_BUSY (mSIEVE d) = false) ∧
  (∃ d : Fin 4, ∃ _ : Fin 268435456, ∃ _ : Fin 8, ∃ s : State, s.flag (R.SIEVE_CTRL d) F.SIEVE_CTRL_EN = true ∧
    s.bit R.MATRIX_MRST_BUSY (mSIEVE d) = false) :=
  ⟨⟨0, 0, sv 0 [], by decide +kernel⟩,
   ⟨0, 0, {sv 1 [(R.WB_OWN 0 0, F.WB_OWN_LEND, 1)] with clk := 1000000000}, by decide +kernel⟩,
   ⟨0, 0, busy [], by rw [settled_iff]; decide +kernel⟩,
   ⟨0, 0, sv 5 [], by rw [settled_iff]; decide +kernel⟩,
   ⟨0, 0, {busy [(R.WB_OWN 0 0, F.WB_OWN_ON_LOAN, 1)] with sievePos := [(0, 511)]}, by rw [settled_iff]; decide +kernel⟩,
   ⟨0, 0, 0, {busy [(R.WB_OWN 0 0, F.WB_OWN_ON_LOAN, 1)] with sievePos := [(0, 511)]}, by decide +kernel⟩,
   ⟨0, 0, 0, 4, pl, by decide +kernel, by decide +kernel, by decide +kernel, fun a h => ⟨0, pl_partAt a (by simp [MemOp.addrs] at h; omega),
     by decide⟩⟩,
   ⟨0, 0, 0, [some 1, none, none, some 4], pl, by decide +kernel, by decide +kernel, by decide +kernel, fun a h => ⟨0,
     pl_partAt a (by simp [MemOp.addrs] at h; omega), by decide⟩⟩,
   ⟨0, 0, 0, .read 4, [], line, by decide +kernel, by decide +kernel, by decide +kernel, ⟨0, by decide, partAt_none line 0 0 (by decide +kernel)⟩,
     by rw [settled_iff]; decide +kernel⟩,
   ⟨2, 0, 0, .read 4, [], pl, by decide +kernel, by decide +kernel, .inl (by decide +kernel)⟩,
   ⟨3, 0, sv 5 [], by rw [settled_iff]; decide +kernel⟩,
   ⟨3, 0, 0, 1, busy [], by decide +kernel⟩,
   ⟨3, 0, 0, {sv 1 [(R.WB_OWN 0 0, F.WB_OWN_LEND, 1)] with clk := 1000000000}, by decide +kernel⟩⟩

theorem witness_host_memory_and_matrix :
  (∃ p : Port, ∃ a : Nat, ∃ n : Nat, ∃ s : State, s.answers p = true ∧ (∀ x ∈ (MemOp.read n).addrs a, s.bar2Admits p.master false x = true) ∧
    s.waitsAt p.master (.bar2 p a (.read n) []) = false) ∧
  (∃ p : Port, ∃ a : Nat, ∃ l : List (Option Byte), ∃ s : State, s.answers p = true ∧ (∀ x ∈ (MemOp.write l).addrs a,
    s.bar2Admits p.master true x = true) ∧ s.waitsAt p.master (.bar2 p a (.write l) []) = false) ∧
  (∃ p : Port, ∃ a : Nat, ∃ op : MemOp, ∃ errs : List (Nat × Ecc), ∃ s : State, s.answers p = true ∧ (∃ x ∈ op.addrs a,
    s.bar2Admits p.master op.isWrite x = false ∧ s.bar2Waits p.master op.isWrite x = none) ∧ s.waitsAt p.master (.bar2 p a op errs) = false) ∧
  (∃ p : Port, ∃ a : Nat, ∃ op : MemOp, ∃ errs : List (Nat × Ecc), ∃ s : State, s.answers p = true ∧ Settled s ∧ (∀ x ∈ op.addrs a,
    s.bar2Admits p.master op.isWrite x = true ∨ (s.bar2Waits p.master op.isWrite x).isSome = true) ∧ (∃ x ∈ op.addrs a,
    (s.bar2Waits p.master op.isWrite x).isSome = true) ∧ s.waitsAt p.master (.bar2 p a op errs) = false) ∧
  (∃ p : Port, ∃ a : Nat, ∃ op : MemOp, ∃ errs : List (Nat × Ecc), ∃ s : State, s.answers p = true ∧ Settled s ∧
    s.waitsAt p.master (.bar2 p a op errs) = true) ∧
  (∃ p : Port, ∃ a : BitVec 28, ∃ l : List (Option Byte), ∃ s : State, s.answers p = true ∧ Settled s ∧ s.regWaits p (.registerWrite p a l) = true) ∧
  (∃ p : Port, ∃ a : BitVec 28, ∃ n : Nat, ∃ sub : Fin 1024, ∃ s : State, s.answers p = true ∧ s.regWaits p (.counterLoRead p a n sub) = true) ∧
  (∃ m : Fin 19, ∃ k : Fin 11, ∃ write : Bool, ∃ s : State, s.bit R.MATRIX_MRST_BUSY m = false ∧ matrixPath m k write = true ∧
    s.waitsAt m (.req k) = false) ∧
  (∃ m : Fin 19, ∃ k : Fin 11, ∃ write : Bool, ∃ s : State, s.bit R.MATRIX_MRST_BUSY m = false ∧ matrixPath m k write = true ∧
    (s.mxMayIssue m k = false ∨ s.mxWait.any (fun w => w.master == m.val) = true)) ∧
  (∃ m : Fin 19, ∃ k : Fin 11, ∃ write : Bool, ∃ s : State, s.bit R.MATRIX_MRST_BUSY m = false ∧ matrixPath m k write = false) ∧
  (∃ m : Fin 19, ∃ k : Fin 11, ∃ _ : Bool, ∃ s : State, 0 < s.outAt m k ∧ s.mxWait.any (fun w => w.master == m.val) = false ∧ (s.mxIds m).Nodup ∧
    (s.mxIds m).length ≤ 64 ∧ Settled s) ∧
  (∃ p : Port, ∃ _ : Fin 19, ∃ s : State, s.reaches p 0 = true) ∧
  (∃ m : Fin 19, ∃ _ : Nat, ∃ _ : Nat, ∃ s : State, s.bit R.MATRIX_MRST_BUSY m = true) :=
  ⟨⟨.a, 0, 4, own 1 [], by decide +kernel⟩,
   ⟨.b, 4, [some 1, none, some 2], own 1 [], by decide +kernel⟩,
   ⟨Port.b, 2, MemOp.read 8, [(1023, Ecc.correctable)], mx 0 [], by decide +kernel⟩,
   ⟨Port.a, 2688, MemOp.read 8, [(2, Ecc.uncorrectable)], pend 2 1, by rw [settled_iff]; decide +kernel⟩,
   ⟨Port.a, 0, MemOp.read 1, [(9, Ecc.uncorrectable), (100, Ecc.ok)], {mx 1 [MxOut.mk 0 1 0, MxOut.mk 17 1 0] with mxWait := [⟨0, .req 2⟩]},
     by rw [settled_iff]; decide +kernel⟩,
   ⟨Port.a, 0x4400a00#28, [none, some 0x02#8], mx 64 ((List.range 64).map (fun i => MxOut.mk 0 0 i)), by rw [settled_iff]; decide +kernel⟩,
   ⟨Port.a, 0x4400020#28, 32, 15, {mx 1 [MxOut.mk 0 1 0, MxOut.mk 17 1 0] with mxWait := [⟨0, .req 2⟩]}, by decide +kernel⟩,
   ⟨7, 1, false, {mx 1 [MxOut.mk 0 1 0, MxOut.mk 17 1 0] with mxWait := [⟨0, .req 2⟩]}, by decide +kernel⟩,
   ⟨1, 7, false, mx 64 ((List.range 64).map (fun i => MxOut.mk 0 0 i)), by decide +kernel⟩,
   ⟨12, 3, false, mx 1 [MxOut.mk 0 1 0, MxOut.mk 16 1 0], by decide +kernel⟩,
   ⟨0, 1, true, mx 1 [MxOut.mk 0 1 0, MxOut.mk 16 1 0], by rw [settled_iff]; decide +kernel⟩,
   ⟨Port.b, 0, mx 0 [], by decide +kernel⟩,
   ⟨0, 17, 5, (mx 3 [MxOut.mk 0 2 0, MxOut.mk 1 1 0]).setBit R.MATRIX_MRST_BUSY 0, by decide +kernel⟩⟩

theorem witness_transactions_are_filled :
  (∃ p : Port, ∃ k : Fin 8, ∃ s : State, s.reaches p 0 = true ∧ s.grave = false ∧ s.txnState k = txFREE ∧ s.ownSlot k = true) ∧
  (∃ p : Port, ∃ k : Fin 8, ∃ s : State, s.reaches p 0 = true ∧ (s.grave = true ∨ s.txnState k ≠ txFREE ∨ s.ownSlot k = false)) ∧
  (∃ p : Port, ∃ k : Fin 8, ∃ s : State, s.reaches p 0 = true ∧ s.grave = false ∧ txCOMMITTED ≤ s.txnState k ∧
    s.flag (R.TXN_STATUS k) F.TXN_STATUS_CLEANING = false ∧ s.copyOfMate k = false) ∧
  (∃ p : Port, ∃ k : Fin 8, ∃ s : State, s.reaches p 0 = true ∧
    (s.grave = true ∨ s.txnState k < txCOMMITTED ∨ s.flag (R.TXN_STATUS k) F.TXN_STATUS_CLEANING = true ∨ s.copyOfMate k = true)) ∧
  (∃ p : Port, ∃ _ : Fin 8, ∃ s : State, s.reaches p 0 = true) ∧
  (∃ p : Port, ∃ k : Fin 8, ∃ _ : Word, ∃ s : State, s.reaches p 0 = true ∧ s.txnState k = txOPEN ∧ s.copyOfMate k = false) ∧
  (∃ p : Port, ∃ k : Fin 8, ∃ _ : Word, ∃ s : State, s.reaches p 0 = true ∧ (s.txnState k ≠ txOPEN ∨ s.copyOfMate k = true)) ∧
  (∃ p : Port, ∃ k : Fin 8, ∃ v : Word, ∃ s : State, s.reaches p 0 = true ∧ Settled s ∧ s.txnState k = txOPEN ∧ s.copyOfMate k = false ∧
    let r : Rec := ⟨s.rd (R.TXN_REC p k 0), s.rd (R.TXN_REC p k 1), s.rd (R.TXN_REC p k 2), v⟩; let x := s.slot k; (s.adm k).check x.recs r = none) ∧
  (∃ p : Port, ∃ k : Fin 8, ∃ _ : Word, ∃ s : State, s.reaches p 0 = true ∧ Settled s ∧ s.txnState k = txOPEN ∧ s.copyOfMate k = false) ∧
  (∃ p : Port, ∃ k : Fin 8, ∃ _ : Word, ∃ s : State, s.reaches p 0 = true ∧ Settled s ∧ s.txnState k ≠ txOPEN ∧ s.copyOfMate k = false) ∧
  (∃ p : Port, ∃ k : Fin 8, ∃ _ : Word, ∃ s : State, s.reaches p 0 = true ∧ Settled s ∧ s.copyOfMate k = true) ∧
  (∃ p : Port, ∃ k : Fin 8, ∃ _ : Fin 1048576, ∃ s : State, s.reaches p 0 = true ∧ Settled s ∧
    (s.txnState k ≠ txOPEN ∨ s.copyOfMate k = true ∨ s.flag (R.TXN_FETCH_CTRL k) F.TXN_FETCH_CTRL_BUSY = true)) ∧
  (∃ p : Port, ∃ k : Fin 8, ∃ n : Fin 1048576, ∃ s : State, s.reaches p 0 = true ∧ Settled s ∧ s.txnState k = txOPEN ∧ s.copyOfMate k = false ∧
    s.flag (R.TXN_FETCH_CTRL k) F.TXN_FETCH_CTRL_BUSY = false ∧ n.val ≠ 0 ∧
    let a := 2 ^ 32 * ((s.rd (R.TXN_FETCH_HI k)).toNat % 32) + (s.rd (R.TXN_FETCH_LO k)).toNat / 16 * 16; s.fetchable a n = true) ∧
  (∃ p : Port, ∃ k : Fin 8, ∃ n : Fin 1048576, ∃ s : State, s.reaches p 0 = true ∧ Settled s ∧ s.txnState k = txOPEN ∧ s.copyOfMate k = false ∧
    s.flag (R.TXN_FETCH_CTRL k) F.TXN_FETCH_CTRL_BUSY = false ∧ n.val ≠ 0 ∧
    let a := 2 ^ 32 * ((s.rd (R.TXN_FETCH_HI k)).toNat % 32) + (s.rd (R.TXN_FETCH_LO k)).toNat / 16 * 16; s.fetchable a n = false ∧ s.grave = false) ∧
  (∃ k : Fin 8, ∃ n : Nat, ∃ s : State, Settled s ∧ s.txnState k = txOPEN ∧ (s.slot k).fetchLeft = n + 1 ∧ (s.slot k).stale = false ∧
    s.fetchable (s.slot k).fetchAddr 1 = true ∧ s.bit R.MATRIX_MRST_BUSY (mapMaster (s.slot k).fetchAddr) = false ∧
    s.engineWaits (mapMaster (s.slot k).fetchAddr) (s.slot k).fetchAddr (.read 16) = false ∧
    let x := s.slot k; let r := recOfBytes (s.ld x.fetchAddr 16); (s.adm k).check x.recs r = none) ∧
  (∃ k : Fin 8, ∃ n : Nat, ∃ s : State, Settled s ∧ s.takesFetch k = false ∧ (s.slot k).fetchLeft = n + 1 ∧
    s.fetchable (s.slot k).fetchAddr 1 = true ∧ s.bit R.MATRIX_MRST_BUSY (mapMaster (s.slot k).fetchAddr) = false ∧
    s.engineWaits (mapMaster (s.slot k).fetchAddr) (s.slot k).fetchAddr (.read 16) = false) ∧
  (∃ k : Fin 8, ∃ _ : Ecc × Ecc, ∃ s : State, Settled s ∧ (s.slot k).fetchLeft ≠ 0 ∧
    s.engineWaits (mapMaster (s.slot k).fetchAddr) (s.slot k).fetchAddr (.read 16) = true) ∧
  (∃ k : Fin 8, ∃ ecc : Ecc × Ecc, ∃ s : State, Settled s ∧ s.txnState k = txOPEN ∧ (s.slot k).fetchLeft ≠ 0 ∧ (s.slot k).stale = false ∧
    s.fetchable (s.slot k).fetchAddr 1 = true ∧ s.bit R.MATRIX_MRST_BUSY (mapMaster (s.slot k).fetchAddr) = false ∧
    s.engineWaits (mapMaster (s.slot k).fetchAddr) (s.slot k).fetchAddr (.read 16) = false ∧ (ecc.1 = .uncorrectable ∨ ecc.2 = .uncorrectable)) :=
  ⟨⟨Port.b, 1, (own4 (tx 1 [] {emptySlot with fetchLeft := 1})).st 0 (recBytes (conn 0 0 0)), by decide +kernel⟩,
   ⟨Port.b, 0, regs4 (tx 1 [] (recd 1)) (conn 0 0 0), by decide +kernel⟩,
   ⟨Port.a, 0, tx 5 [] (recd 0), by decide +kernel⟩,
   ⟨Port.b, 1, (own4 (tx 1 [] {emptySlot with fetchLeft := 1})).st 0 (recBytes (conn 0 0 0)), by decide +kernel⟩,
   ⟨Port.b, 1, (own4 (tx 1 [] {emptySlot with fetchLeft := 1})).st 0 (recBytes (conn 0 0 0)), by decide +kernel⟩,
   ⟨Port.a, 0, 0x000207f2#32, own4 (tx 1 [] emptySlot), by decide +kernel⟩,
   ⟨Port.b, 1, 0x00006000#32, own4 (tx 1 [] emptySlot), by decide +kernel⟩,
   ⟨Port.a, 0, 0x00000000#32, regs4 (tx 1 [] emptySlot) (conn 0 0 0), by dsimp only; rw [settled_iff]; decide +kernel⟩,
   ⟨Port.a, 0, 0x000207f2#32, own4 (tx 1 [] emptySlot), by rw [settled_iff]; decide +kernel⟩,
   ⟨Port.b, 1, 0x00006000#32, own4 (tx 1 [] emptySlot), by rw [settled_iff]; decide +kernel⟩,
   ⟨Port.a, 0, 0x000207f2#32, mir 1 1 (recd 1), by rw [settled_iff]; decide +kernel⟩,
   ⟨Port.b, 1, 1, own4 (tx 1 [] emptySlot), by rw [settled_iff]; decide +kernel⟩,
   ⟨Port.a, 0, 1, (own4 (path0 (tx 1 [] {emptySlot with fetchLeft := 2}))).st 0 (recBytes (conn 0 0 0)), by rw [settled_iff]; decide +kernel⟩,
   ⟨Port.a, 0, 1, regs4 (path0 (tx 1 [] emptySlot)) (conn 0 0 0), by rw [settled_iff]; decide +kernel⟩,
   ⟨0, 0, (own4 (tx 1 [] {emptySlot with fetchLeft := 1})).st 0 (recBytes (conn 0 0 0)), by dsimp only; rw [settled_iff]; decide +kernel⟩,
   ⟨0, 0, own4 (tx 6 [] {emptySlot with fetchLeft := 1}), by rw [settled_iff]; decide +kernel⟩,
   ⟨0, (Ecc.correctable, Ecc.correctable), full64 (own4 (tx 1 [] {emptySlot with fetchLeft := 1})), by rw [settled_iff]; decide +kernel⟩,
   ⟨0, (Ecc.correctable, Ecc.uncorrectable), (own4 (tx 1 [] {emptySlot with fetchLeft := 1})).st 0 (recBytes (conn 0 0 0)),
     by rw [settled_iff]; decide +kernel⟩⟩

theorem witness_asap_closes_at_the_first_frame : ∃ p : Port, ∃ k : Fin 8, ∃ s : State, s.reaches p 0 = true ∧ Settled s ∧ s.grave = false ∧
  s.txnState k = txOPEN ∧ s.copyOfMate k = false ∧ s.leastLead k + 3 < 2 ^ 31 :=
  ⟨Port.b, 0, {tx 1 [(R.TXN_STATUS 0, F.TXN_STATUS_MIRROR, 1)] (recd 1) with frames := 2, ns := 124999}, by rw [settled_iff]; decide +kernel⟩

theorem witness_aborts_with_nothing_to_abort :
  (∃ p : Port, ∃ k : Fin 8, ∃ s : State, s.reaches p 0 = true ∧ Settled s ∧ s.grave = false ∧ (s.txnState k = txABORTED ∨ s.txnState k = txREFUSED)) ∧
  (∃ p : Port, ∃ k : Fin 8, ∃ s : State, s.reaches p 0 = true ∧ Settled s ∧ (s.grave = true ∨ s.txnState k = txFREE)) :=
  ⟨⟨Port.a, 0, tx 7 [] (recd 1), by rw [settled_iff]; decide +kernel⟩,
   ⟨Port.b, 1, tx 6 [] emptySlot, by rw [settled_iff]; decide +kernel⟩⟩

theorem witness_transactions_are_built_and_committed :
  (∃ p : Port, ∃ k : Fin 8, ∃ s : State, s.reaches p 0 = true ∧ Settled s ∧ s.grave = false ∧ s.txnState k = txOPEN ∧ s.copyOfMate k = false) ∧
  (∃ p : Port, ∃ k : Fin 8, ∃ s : State, s.reaches p 0 = true ∧ Settled s ∧ s.grave = false ∧ s.txnState k = txOPEN ∧ s.copyOfMate k = false ∧
    let f := (s.rd (R.TXN_FN k)).toNat; let d := fnDelta s.fn f; f % 4 = 0 ∧ 4 ≤ d ∧ d ≤ 2 ^ 31 - 1 ∧ s.buildBound k + s.ns ≤ 125000 * (d - 2)) ∧
  (∃ k : Fin 8, ∃ _ : Option (Fin 4), ∃ r : Rec, ∃ l : List Rec, ∃ s : State, Settled s ∧ (s.slot k).queue = r :: l) ∧
  (∃ p : Port, ∃ k : Fin 8, ∃ s : State, s.reaches p 0 = true ∧ Settled s ∧ s.grave = false ∧ s.copyOfMate k = false ∧ 1 ≤ s.txnState k ∧
    s.txnState k ≤ 3) ∧
  (∃ p : Port, ∃ k : Fin 8, ∃ s : State, s.reaches p 0 = true ∧ Settled s ∧ s.grave = false ∧ s.copyOfMate k = false ∧
    (s.txnState k = txSEALED ∨ s.txnState k = txCOMMITTED)) ∧
  (∃ k : Fin 8, ∃ s : State, Settled s ∧ s.grave = false ∧ s.copyOfMate k = false ∧ s.reached (fnBefore (s.commitFn k) 2) = true ∧
    s.txnState k = txBUILT) ∧
  (∃ k : Fin 8, ∃ s : State, Settled s ∧ s.grave = false ∧ s.copyOfMate k = false ∧ s.reached (fnBefore (s.commitFn k) 2) = true ∧
    s.txnState k = txBUILDING) ∧
  (∃ k : Fin 8, ∃ _ : Bool, ∃ s : State, Settled s ∧ s.grave = false ∧ s.txnState k = txSEALED ∧ s.reached (s.commitFn k) = true) ∧
  (∃ r : Rec, ∃ _ : State, (r.typ = tyConnect ∨ r.typ = tyDisconnect)) ∧
  (∃ k : Fin 8, ∃ s : State, (∀ u ∈ s.unionHold, u.1 ≠ k.val)) ∧
  (∃ k : Fin 8, ∃ s : State, s.flag (R.TXN_STATUS k) F.TXN_STATUS_CLEANING = true ∧ (s.slot k).relDue = false) ∧
  (∃ k : Fin 8, ∃ s : State, s.flag (R.TXN_STATUS k) F.TXN_STATUS_CLEANING = true ∧ (s.slot k).relDue = true ∧ s.grave = false) :=
  ⟨⟨Port.a, 0, at_ (tx 1 [] (recd 1)) 0x80000004, by rw [settled_iff]; decide +kernel⟩,
   ⟨Port.b, 0, at_ (tx 1 [] (recd 1)) 8, by dsimp only; rw [settled_iff]; decide +kernel⟩,
   ⟨0, some 0, { w0 := 0x000207f2#32, w1 := 0x080007f2#32, w2 := 0x00000000#32, w3 := 0x00000000#32 }, [], at_ (tx 1 [] (recd 1)) 0,
     by rw [settled_iff]; decide +kernel⟩,
   ⟨Port.b, 0, at_ (tx 1 [] (recd 1)) 8, by rw [settled_iff]; decide +kernel⟩,
   ⟨Port.a, 0, at_ (tx 4 [] (recd 0)) 4, by rw [settled_iff]; decide +kernel⟩,
   ⟨0, tx 3 [] (recd 0), by rw [settled_iff]; decide +kernel⟩,
   ⟨0, {at_ (tx 2 [] (recd 1)) 4 with frames := 2}, by rw [settled_iff]; decide +kernel⟩,
   ⟨0, true, tx 4 [] (recd 0), by rw [settled_iff]; decide +kernel⟩,
   ⟨{ w0 := 0x000207f2#32, w1 := 0x080007f2#32, w2 := 0x00000000#32, w3 := 0x00000000#32 }, tx 5 [] (recd 0), by decide +kernel⟩,
   ⟨1, tx 5 [] (recd 0), by decide +kernel⟩,
   ⟨0, tx 6 [(R.TXN_STATUS 0, F.TXN_STATUS_CLEANING, 1)] (recd 0), by decide +kernel⟩,
   ⟨0, tx 6 [(R.TXN_STATUS 0, F.TXN_STATUS_CLEANING, 1)] {recd 0 with relDue := true}, by decide +kernel⟩⟩

theorem witness_transactions_are_mirrored :
  (∃ p : Port, ∃ k : Fin 8, ∃ s : State, s.reaches p 0 = true ∧ Settled s ∧ s.grave = false ∧ s.txnState k = txFREE ∧
    s.flag R.TXN_MIRROR_CTRL F.TXN_MIRROR_CTRL_ENABLE = true ∧ s.flag R.TXN_MIRROR_CTRL F.TXN_MIRROR_CTRL_MATE_OK = true ∧ s.ownSlot k = true) ∧
  (∃ p : Port, ∃ k : Fin 8, ∃ s : State, s.reaches p 0 = true ∧ Settled s ∧ s.grave = false ∧ s.txnState k = txFREE ∧
    s.flag R.TXN_MIRROR_CTRL F.TXN_MIRROR_CTRL_ENABLE = true ∧ s.flag R.TXN_MIRROR_CTRL F.TXN_MIRROR_CTRL_MATE_OK = false) ∧
  (∃ p : Port, ∃ k : Fin 8, ∃ s : State, s.reaches p 0 = true ∧ Settled s ∧ s.grave = false ∧ s.txnState k = txFREE ∧
    s.flag R.TXN_MIRROR_CTRL F.TXN_MIRROR_CTRL_ENABLE = false) ∧
  (∃ p : Port, ∃ _ : Word, ∃ s : State, s.reaches p 0 = true ∧ (∀ k : Fin 8, s.txnLive k = false)) ∧
  (∃ p : Port, ∃ _ : Word, ∃ k : Fin 8, ∃ s : State, s.reaches p 0 = true ∧ s.txnLive k = true) ∧
  (∃ k : Fin 8, ∃ _ : Word, ∃ _ : Word, ∃ _ : Word, ∃ _ : Word, ∃ s : State, Settled s ∧ s.grave = false ∧ s.txnState k = txFREE) ∧
  (∃ k : Fin 8, ∃ _ : Word, ∃ _ : Word, ∃ _ : Word, ∃ _ : Word, ∃ s : State, Settled s ∧ (s.grave = true ∨ s.txnState k ≠ txFREE)) ∧
  (∃ p : Port, ∃ k : Fin 8, ∃ s : State, s.reaches p 0 = true ∧ Settled s ∧ s.grave = false ∧ s.copyOfMate k = true ∧ (s.copyOfMate k = true →
    s.txnState k ≠ txFREE) ∧ s.txnState k ≤ 5) ∧
  (∃ k : Fin 8, ∃ w0 : Word, ∃ w1 : Word, ∃ w2 : Word, ∃ w3 : Word, ∃ s : State, Settled s ∧ s.grave = false ∧ s.copyOfMate k = true ∧
    (s.copyOfMate k = true → s.txnState k ≠ txFREE) ∧ s.txnState k ≤ txBUILT ∧ (s.adm k).check (s.slot k).recs ⟨w0, w1, w2, w3⟩ = none) ∧
  (∃ k : Fin 8, ∃ _ : Word, ∃ _ : Word, ∃ _ : Word, ∃ _ : Word, ∃ s : State, Settled s ∧ s.grave = false ∧ s.copyOfMate k = true ∧
    (s.copyOfMate k = true → s.txnState k ≠ txFREE) ∧ s.txnState k ≤ txBUILT) ∧
  (∃ k : Fin 8, ∃ _ : Word, ∃ _ : Word, ∃ _ : Word, ∃ _ : Word, ∃ s : State, Settled s ∧ s.grave = false ∧ s.copyOfMate k = true ∧
    (s.copyOfMate k = true → s.txnState k ≠ txFREE) ∧ s.txnState k ≤ txBUILT ∧ s.txnState k = txOPEN) ∧
  (∃ k : Fin 8, ∃ _ : Word, ∃ _ : Word, ∃ _ : Word, ∃ _ : Word, ∃ s : State, Settled s ∧ s.grave = false ∧ s.mirrored k = true ∧ 1 ≤ s.txnState k ∧
    s.txnState k ≤ 3 ∧ s.originMate k = false) ∧
  (∃ k : Fin 8, ∃ _ : Word, ∃ _ : Word, ∃ _ : Word, ∃ _ : Word, ∃ s : State, Settled s ∧ s.grave = false ∧ s.mirrored k = true ∧ 1 ≤ s.txnState k ∧
    s.txnState k ≤ 3) ∧
  (∃ k : Fin 8, ∃ _ : Word, ∃ _ : Word, ∃ _ : Word, ∃ _ : Word, ∃ s : State, Settled s ∧ s.grave = false ∧ s.copyOfMate k = true ∧ 5 ≤ s.txnState k) ∧
  (∃ k : Fin 8, ∃ _ : Word, ∃ _ : Word, ∃ _ : Word, ∃ _ : Word, ∃ s : State, Settled s ∧ s.grave = false ∧ s.mirrored k = true ∧
    s.originMate k = false ∧ s.txnState k = txBUILDING ∧ (s.slot k).unbuilt = 0 ∧ s.fetching k = false) ∧
  (∃ k : Fin 8, ∃ _ : Word, ∃ _ : Word, ∃ _ : Word, ∃ _ : Word, ∃ s : State, Settled s ∧ s.grave = false ∧ s.copyOfMate k = true ∧
    s.txnState k = txBUILT ∧ s.mateLimit k = false) ∧
  (∃ k : Fin 8, ∃ _ : Word, ∃ _ : Word, ∃ _ : Word, ∃ _ : Word, ∃ s : State, Settled s ∧ s.grave = false ∧ s.copyOfMate k = true ∧
    s.txnState k = txBUILT ∧ s.mateLimit k = true) ∧
  (∃ k : Fin 8, ∃ _ : Word, ∃ _ : Word, ∃ _ : Word, ∃ _ : Word, ∃ s : State, Settled s ∧ s.mirrored k = true ∧ s.originMate k = false ∧
    s.mateLimit k = false) ∧
  (∃ k : Fin 8, ∃ s : State, Settled s ∧ s.grave = false ∧ s.copyOfMate k = true ∧ (s.txnState k = txBUILDING ∨ s.txnState k = txBUILT) ∧
    s.mateLimit k = true) ∧
  (∃ k : Fin 8, ∃ s : State, Settled s ∧ s.mirrored k = true ∧ s.originMate k = false ∧ (s.txnState k = txSEALED ∨ s.txnState k = txCOMMITTED) ∧
    (s.slot k).mateAck = false ∧ s.mateLimit k = true ∧ s.flag (R.TXN_STATUS k) F.TXN_STATUS_MATE_UNCONF = false) :=
  ⟨⟨Port.a, 0, mok 1 1 (tx 0 [] emptySlot), by rw [settled_iff]; decide +kernel⟩,
   ⟨Port.b, 1, mok 1 0 (tx 0 [] emptySlot), by rw [settled_iff]; decide +kernel⟩,
   ⟨Port.b, 1, mir 1 3 (recd 0), by rw [settled_iff]; decide +kernel⟩,
   ⟨Port.a, 0x55aa1234#32, mok 1 1 (tx 0 [] emptySlot), by decide +kernel⟩,
   ⟨Port.b, 0xffffffff#32, 0, path0 (mir 1 1 emptySlot), by decide +kernel⟩,
   ⟨1, 0x80000001#32, 0x00006000#32, 0x00000006#32, 0x80000001#32, at_ (mir 0 4 (recd 0)) 100, by rw [settled_iff]; decide +kernel⟩,
   ⟨0, 0x01000000#32, 0x00000006#32, 0x00000006#32, 0x00000006#32, mir 0 5 (recd 0), by rw [settled_iff]; decide +kernel⟩,
   ⟨Port.b, 0, path0 (mir 1 1 emptySlot), by rw [settled_iff]; decide +kernel⟩,
   ⟨0, 0x000007f2#32, 0x000207f2#32, 0x00000000#32, 0x00000000#32, mir 1 2 (recd 0), by rw [settled_iff]; decide +kernel⟩,
   ⟨0, 0x00006955#32, 0x00000005#32, 0x00000000#32, 0x000207f2#32, at_ (mir 1 3 (recd 0)) 100, by rw [settled_iff]; decide +kernel⟩,
   ⟨0, 0x01000000#32, 0x55aa1234#32, 0x01000000#32, 0x00000006#32, mir 1 1 emptySlot, by rw [settled_iff]; decide +kernel⟩,
   ⟨0, 0x00000002#32, 0x000007f2#32, 0x00006955#32, 0x80000001#32, mir 0 2 (recd 0), by rw [settled_iff]; decide +kernel⟩,
   ⟨0, 0x00006955#32, 0x00000005#32, 0x00000000#32, 0x000207f2#32, at_ (mir 1 3 (recd 0)) 100, by rw [settled_iff]; decide +kernel⟩,
   ⟨0, 0x01000000#32, 0x000007f0#32, 0x00000005#32, 0x00006000#32, mir 1 5 (recd 0), by rw [settled_iff]; decide +kernel⟩,
   ⟨0, 0x00000002#32, 0x000007f2#32, 0x00006955#32, 0x80000001#32, mir 0 2 (recd 0), by rw [settled_iff]; decide +kernel⟩,
   ⟨0, 0x00006955#32, 0x00000005#32, 0x00000000#32, 0x000207f2#32, at_ (mir 1 3 (recd 0)) 100, by rw [settled_iff]; decide +kernel⟩,
   ⟨0, 0x000007f2#32, 0x00006000#32, 0x80000001#32, 0x00006955#32, mir 1 3 (recd 0), by rw [settled_iff]; decide +kernel⟩,
   ⟨0, 0x000207f2#32, 0x000207f2#32, 0x80000001#32, 0x00000002#32, at_ (mir 0 5 (recd 0)) 100, by rw [settled_iff]; decide +kernel⟩,
   ⟨0, mir 1 3 (recd 0), by rw [settled_iff]; decide +kernel⟩,
   ⟨0, mir 0 5 (recd 0), by rw [settled_iff]; decide +kernel⟩⟩

theorem witness_map_entries_are_read :
  (∃ p : Port, ∃ d : Fin 4, ∃ a3 : Bool, ∃ ta : TA, ∃ s : State, s.reaches p 0 = true ∧ s.diagErr d 0 a3 ta = false) ∧
  (∃ p : Port, ∃ d : Fin 4, ∃ a3 : Bool, ∃ ta : TA, ∃ s : State, s.reaches p 0 = true ∧ s.diagErr d 0 a3 ta = true) ∧
  (∃ p : Port, ∃ d : Fin 4, ∃ a3 : Bool, ∃ ta : TA, ∃ s : State, s.reaches p 0 = true ∧ s.diagErr d 1 a3 ta = false) ∧
  (∃ p : Port, ∃ d : Fin 4, ∃ a3 : Bool, ∃ ta : TA, ∃ s : State, s.reaches p 0 = true ∧ s.diagErr d 1 a3 ta = true) ∧
  (∃ p : Port, ∃ d : Fin 4, ∃ a3 : Bool, ∃ ta : TA, ∃ s : State, s.reaches p 0 = true ∧ s.diagErr d 2 a3 ta = false) ∧
  (∃ p : Port, ∃ d : Fin 4, ∃ a3 : Bool, ∃ ta : TA, ∃ s : State, s.reaches p 0 = true ∧ s.diagErr d 2 a3 ta = true) ∧
  (∃ p : Port, ∃ d : Fin 4, ∃ a3 : Bool, ∃ ta : TA, ∃ s : State, s.reaches p 0 = true ∧ s.diagErr d 3 a3 ta = false) ∧
  (∃ p : Port, ∃ d : Fin 4, ∃ a3 : Bool, ∃ ta : TA, ∃ s : State, s.reaches p 0 = true ∧ s.diagErr d 3 a3 ta = true) ∧
  (∃ d : Fin 4, ∃ w : Word, ∃ s : State, s.mapDiag.find? (fun e => e.1 == d.val) = some (d.val, w)) :=
  ⟨⟨Port.a, 0, true, 0x000006#24, md ((au4 0).toNat) line, by decide +kernel⟩,
   ⟨Port.b, 1, false, 0x000002#24, md ((au4 1).toNat) (mapped (conn 0 0 0)), by decide +kernel⟩,
   ⟨Port.a, 0, true, 0x000006#24, md ((au4 0).toNat) line, by decide +kernel⟩,
   ⟨Port.b, 1, false, 0x000002#24, md ((au4 1).toNat) (mapped (conn 0 0 0)), by decide +kernel⟩,
   ⟨Port.a, 0, false, 0x0007f2#24, md (3*2^25 + (au4 1).toNat) (mapped (conn 0 0 0)), by decide +kernel⟩,
   ⟨Port.b, 1, false, 0x000002#24, md ((au4 1).toNat) (mapped (conn 0 0 0)), by decide +kernel⟩,
   ⟨Port.a, 0, true, 0x000006#24, md ((au4 0).toNat) line, by decide +kernel⟩,
   ⟨Port.b, 1, false, 0x000002#24, md ((au4 1).toNat) (mapped (conn 0 0 0)), by decide +kernel⟩,
   ⟨0, 0x060007f2#32, md (3*2^25 + (au4 0).toNat) line, by decide +kernel⟩⟩

end Memory

namespace Ports

def fw : Fld := ⟨0, 32, .rw, 0⟩

def tmr (s : State) (k : TKey) (n : Nat) : State := { s with timers := [(k, some n)] }

def pa (s : State) (c : PortCfg) : State := { s with portA := c }

def told : State := pa up ⟨false, false, true, true, false, ⟨0,0,0,0⟩⟩

def full (f : Fld) (s : State) : State := s.put R.HOSTIF_MBOX_CTRL f 1

def smb (n : Nat) (w : Nat) : State := { up.put R.HOSTIF_SMB_CTRL F.HOSTIF_SMB_CTRL_WR_EN w with smbPtr := BitVec.ofNat 16 n }

theorem witness_sensors_are_judged :
  (∃ s : State, s.services = false) ∧
  (∃ _ : Fin 32, ∃ _ : BitVec 16, ∃ s : State, s.services = true ∧ s.due = []) ∧
  (∃ _ : Fin 32, ∃ _ : BitVec 16, ∃ s : State, s.services = true ∧ s.due = []) ∧
  (∃ p : Port, ∃ _ : Fin 7, ∃ _ : Bool, ∃ _ : Word, ∃ s : State, s.reaches p 0 = true ∧ s.due = []) ∧
  (∃ _ : Fin 16, ∃ _ : BitVec 16, ∃ _ : Bool, ∃ s : State, s.services = true ∧ s.due = []) ∧
  (∃ _ : Fin 16, ∃ _ : BitVec 16, ∃ _ : Bool, ∃ s : State, s.services = true ∧ s.due = []) ∧
  (∃ _ : Fin 8, ∃ _ : Nat, ∃ _ : Int × Nat, ∃ s : State, s.services = true ∧ s.due = []) ∧
  (∃ _ : Fin 128, ∃ _ : Fin 4, ∃ s : State, Settled s) ∧
  (∃ p : Port, ∃ n : Fin 128, ∃ _ : BitVec 10, ∃ s : State, s.reaches p 0 = true ∧ s.flag (R.LU_SENSE_STATUS n) F.LU_SENSE_STATUS_BUSY = false) ∧
  (∃ p : Port, ∃ n : Fin 128, ∃ _ : BitVec 10, ∃ s : State, s.reaches p 0 = true ∧ s.flag (R.LU_SENSE_STATUS n) F.LU_SENSE_STATUS_BUSY = true) ∧
  (∃ n : Fin 128, ∃ _ : Option (Nat × Int), ∃ s : State, s.flag (R.LU_SENSE_STATUS n) F.LU_SENSE_STATUS_BUSY = true) ∧
  (∃ _ : Fin 129, ∃ _ : Nat, ∃ s : State, s.services = true ∧ s.due = []) ∧
  (∃ _ : Fin 129, ∃ s : State, s.services = true ∧ s.due = []) :=
  ⟨⟨{State.reset with aged := [1]}, by decide +kernel⟩,
   ⟨31, 0x0001#16, {up.put R.MON_CTRL F.MON_CTRL_PAIR_AUTO 1 with trace := [(0, 5000), (128, 3)]}, by decide +kernel⟩,
   ⟨31, 0x0001#16, {up.put R.MON_CTRL F.MON_CTRL_PAIR_AUTO 1 with trace := [(0, 5000), (128, 3)]}, by decide +kernel⟩,
   ⟨Port.b, 1, false, 0x00000006#32, up.put R.CAL_STATUS F.CAL_STATUS_VALID 1, by decide +kernel⟩,
   ⟨15, 0x0001#16, false, {up.put R.CAL_STATUS F.CAL_STATUS_VALID 1 with aged := [0, 1]}, by decide +kernel⟩,
   ⟨15, 0x0001#16, false, {up.put R.CAL_STATUS F.CAL_STATUS_VALID 1 with aged := [0, 1]}, by decide +kernel⟩,
   ⟨1, 2, (1, 5), {up.put R.CAL_STATUS F.CAL_STATUS_VALID 1 with aged := [0, 1]}, by decide +kernel⟩,
   ⟨31, 1, {up.put R.MON_CTRL F.MON_CTRL_PAIR_AUTO 1 with trace := [(0, 5000), (128, 3)]}, by rw [settled_iff]; decide +kernel⟩,
   ⟨Port.b, 0, 0x000#10, {up.put R.CAL_STATUS F.CAL_STATUS_VALID 1 with aged := [0, 1]}, by decide +kernel⟩,
   ⟨Port.a, 0, 0x001#10, (line.put (R.LU_SENSE_STATUS 0) F.LU_SENSE_STATUS_BUSY 1).put (R.LU_SENSE_CTRL 0) F.LU_SENSE_CTRL_VF 660, by decide +kernel⟩,
   ⟨0, some (0, -2147483648), (line.put (R.LU_SENSE_STATUS 0) F.LU_SENSE_STATUS_BUSY 1).put (R.LU_SENSE_CTRL 0) F.LU_SENSE_CTRL_VF 660,
     by decide +kernel⟩,
   ⟨31, 2, {up.put R.MON_CTRL F.MON_CTRL_PAIR_AUTO 1 with trace := [(0, 5000), (128, 3)]}, by decide +kernel⟩,
   ⟨31, up, by decide +kernel⟩⟩

theorem witness_calibration_follows_its_commands :
  (∃ p : Port, ∃ s : State, s.reaches p 9 = true ∧ s.calRun = 0) ∧
  (∃ p : Port, ∃ s : State, s.reaches p 9 = true ∧ s.calRun = 0 ∧ ∃ parts : BitVec 6, ∃ ok : Bool, s.recalOK parts.toNat ok = true) ∧
  (∃ p : Port, ∃ s : State, s.reaches p 9 = true ∧ s.calRun = 0 ∧ ∃ parts : BitVec 6, ∃ ok : Bool, s.recalOK parts.toNat ok = false) ∧
  (∃ p : Port, ∃ s : State, s.reaches p 9 = true ∧ s.calRun = 0 ∧ (s.timerOn calArmKey = false ∨ s.timerDone calArmKey = true)) ∧
  (∃ p : Port, ∃ s : State, s.reaches p 9 = true ∧ s.calRun = 0 ∧ s.timerOn calArmKey = true ∧ s.timerDone calArmKey = false ∧
    s.calStage.valid = false) ∧
  (∃ p : Port, ∃ s : State, s.reaches p 9 = true ∧ s.calRun = 0 ∧ s.timerOn calArmKey = true ∧ s.timerDone calArmKey = false ∧
    s.calStage.valid = true) ∧
  (∃ p : Port, ∃ s : State, s.reaches p 9 = true ∧ s.calRun ≠ 0) ∧
  (∃ s : State, s.calRun = 1) ∧
  (∃ _ : List (Nat × Byte), ∃ s : State, s.calRun = 2) ∧
  (∃ s : State, s.calRun = 2 ∧ s.due = []) ∧
  (∃ s : State, s.calRun = 4 ∧ s.due = []) ∧
  (∃ s : State, s.timerDone calArmKey = true) :=
  ⟨⟨Port.b, tmr up calArmKey 0, by decide +kernel⟩,
   ⟨.a, up, by decide +kernel, by decide +kernel, 0, true, by decide +kernel⟩,
   ⟨.a, up, by decide +kernel, by decide +kernel, 0x30, false, by decide +kernel⟩,
   ⟨Port.b, tmr up calArmKey 0, by decide +kernel⟩,
   ⟨.b, tmr up calArmKey 5, by decide +kernel⟩,
   ⟨Port.a, {tmr up calArmKey 5 with calStage := ⟨true, []⟩}, by decide +kernel⟩,
   ⟨.a, { up with calRun := 1 }, by decide +kernel⟩,
   ⟨{up with calRun := 1}, by decide +kernel⟩,
   ⟨[(0, 0xf0#8), (2, 0x02#8)], {up with calRun := 2, calParts := 5}, by decide +kernel⟩,
   ⟨{up with calRun := 2, calParts := 5}, by decide +kernel⟩,
   ⟨{up with calRun := 4, calNew := ⟨true, []⟩}, by decide +kernel⟩,
   ⟨tmr up calArmKey 0, by decide +kernel⟩⟩

theorem witness_register_writes_follow_their_rules :
  (∃ p : Port, ∃ _ : BitVec 28, ∃ _ : List (Option Byte), ∃ s : State, Settled s ∧ s.answers p = false) ∧
  (∃ p : Port, ∃ a : BitVec 28, ∃ data : List (Option Byte), ∃ s : State, s.due = [] ∧ s.reaches p (regTarget (.registerWrite p a data)) = true ∧
    bar0 a.toNat = .none) ∧
  (∃ p : Port, ∃ a : BitVec 28, ∃ data : List (Option Byte), ∃ k : Blk, ∃ x : Nat, ∃ off : Nat, ∃ s : State, Settled s ∧
    s.reaches p (regTarget (.registerWrite p a data)) = true ∧ bar0 a.toNat = .reg k x off ∧ (8 < data.length ∨ (4 < a.toNat % 4 + data.length ∧
    (a.toNat % 4 ≠ 0 ∨ data.length ≠ 8)))) ∧
  (∃ p : Port, ∃ a : BitVec 28, ∃ data : List (Option Byte), ∃ k : Blk, ∃ x : Nat, ∃ off : Nat, ∃ s : State, Settled s ∧
    s.reaches p (regTarget (.registerWrite p a data)) = true ∧ bar0 a.toNat = .reg k x off ∧ a.toNat % 4 + data.length ≤ 4 ∧
    (data.length < 4 ∨ none ∈ data)) ∧
  (∃ p : Port, ∃ a : BitVec 28, ∃ v : Word, ∃ k : Blk, ∃ x : Nat, ∃ off : Nat, ∃ s : State, Settled s ∧
    s.reaches p (regTarget (.registerWrite p a ((wordBytes v).map some))) = true ∧ bar0 a.toNat = .reg k x off ∧ a.toNat % 4 = 0 ∧
    (findReg k off).isSome = true ∧ ownRule k off = false) ∧
  (∃ p : Port, ∃ a : BitVec 28, ∃ v : Word, ∃ w : Word, ∃ k : Blk, ∃ k' : Blk, ∃ x : Nat, ∃ x' : Nat, ∃ off : Nat, ∃ off' : Nat, ∃ s : State,
    Settled s ∧ s.reaches p (regTarget (.registerWrite p a ((wordBytes v ++ wordBytes w).map some))) = true ∧ a.toNat % 4 = 0 ∧
    bar0 a.toNat = .reg k x off ∧ (findReg k off).isSome = true ∧ ownRule k off = false ∧ bar0 (a.toNat + 4) = .reg k' x' off' ∧
    (findReg k' off').isSome = true ∧ ownRule k' off' = false) ∧
  (∃ p : Port, ∃ a : BitVec 28, ∃ v : Word, ∃ k : Blk, ∃ x : Nat, ∃ off : Nat, ∃ s : State, Settled s ∧
    s.reaches p (regTarget (.registerWrite p a ((wordBytes v).map some))) = true ∧ bar0 a.toNat = .reg k x off ∧ a.toNat % 4 = 0 ∧
    (findReg k off).isNone = true ∧ k ≠ .cal) ∧
  (∃ p : Port, ∃ _ : Fin 7, ∃ _ : Bool, ∃ _ : Word, ∃ s : State, s.reaches p 0 = true) ∧
  (∃ p : Port, ∃ _ : Fin 8, ∃ _ : Word, ∃ s : State, s.reaches p 0 = true) ∧
  (∃ p : Port, ∃ o : Nat, ∃ data : List (Option Byte), ∃ s : State, Settled s ∧ s.reaches p 10 = true ∧ o < 2 ^ 24 ∧ o + data.length ≤ 2 ^ 24) :=
  ⟨⟨Port.a, 0x0000101#28, [none, none, none, none, none, none, none, none, none, none, none, none], State.reset, by rw [settled_iff]; decide +kernel⟩,
   ⟨Port.a, 0x3000000#28, [some 0xff#8, some 0xff#8, some 0xff#8, some 0xff#8], up, by decide +kernel⟩,
   ⟨.a, 0, List.replicate 9 none, .pkg, 0, 0, up, by rw [settled_iff]; decide +kernel⟩,
   ⟨Port.b, 0x4700130#28, [], Blk.pour, 0, 304, line, by rw [settled_iff]; decide +kernel⟩,
   ⟨Port.b, 0x4700130#28, 0x00006000#32, Blk.pour, 0, 304, line, by rw [settled_iff]; decide +kernel⟩,
   ⟨.a, 0x100, 5, 9, .pkg, .pkg, 0, 0, 0x100, 0x104, up, by rw [settled_iff]; decide +kernel⟩,
   ⟨.a, 0x14, 0, .pkg, 0, 0x14, up, by rw [settled_iff]; decide +kernel⟩,
   ⟨Port.b, 1, true, 0x01000000#32, up, by decide +kernel⟩,
   ⟨Port.b, 1, 0x00006000#32, line, by decide +kernel⟩,
   ⟨Port.b, 17, [], line, by rw [settled_iff]; decide +kernel⟩⟩

theorem witness_ports_train_and_reset :
  (∃ p : Port, ∃ _ : Fin 5, ∃ _ : Fin 4, ∃ s : State, s.pwr = .run ∧ (s.port p).perst = false ∧ s.linkUp p = false ∧ s.scanDrives = false) ∧
  (∃ p : Port, ∃ s : State, s.linkUp p = true ∧ s.due = []) ∧
  (∃ p : Port, ∃ _ : Bool, ∃ _ : Bool, ∃ _ : Bool, ∃ _ : Bool × PciCfg, ∃ s : State, s.linkUp p = true ∧ (s.port p).perst = false) ∧
  (∃ p : Port, ∃ _ : Bool, ∃ _ : Bool, ∃ _ : Bool, ∃ _ : Bool × PciCfg, ∃ s : State, (s.linkUp p = false ∨ (s.port p).perst = true)) ∧
  (∃ p : Port, ∃ s : State, Inv s ∧ s.perstIsLow p = false) ∧
  (∃ p : Port, ∃ s : State, s.perstIsLow p = true) ∧
  (∃ p : Port, ∃ s : State, Inv s ∧ s.linkUp p = true ∧ (s.port p).perst = false) ∧
  (∃ p : Port, ∃ s : State, (s.linkUp p = false ∨ (s.port p).perst = true)) :=
  ⟨⟨Port.b, 1, 0, State.reset, by decide +kernel⟩,
   ⟨Port.b, {up with perstLow := (true, true)}, by decide +kernel⟩,
   ⟨Port.b, false, false, false, (true, { mps := 0, bar0 := 0x00000000#32, bar2 := 0x00000000#32, bar3 := 0x00000000#32 }),
     {up with perstLow := (true, true)}, by decide +kernel⟩,
   ⟨Port.b, true, false, true, (true, { mps := 1, bar0 := 0x00000000#32, bar2 := 0x00000000#32, bar3 := 0x00000000#32 }), State.reset,
     by decide +kernel⟩,
   ⟨Port.a, told, by rw [inv_iff]; decide +kernel⟩,
   ⟨Port.b, {up with perstLow := (true, true)}, by decide +kernel⟩,
   ⟨Port.b, {up with perstLow := (true, true)}, by rw [inv_iff]; decide +kernel⟩,
   ⟨Port.a, State.reset, by decide +kernel⟩⟩

theorem witness_mailbox_carries_messages :
  (∃ p : Port, ∃ box : Port, ∃ i : Fin 16, ∃ _ : Word, ∃ s : State, s.reaches p 0 = true ∧
    let r := match box with | .a => R.HOSTIF_MBOX_AB_DATA i | .b => R.HOSTIF_MBOX_BA_DATA i; p = box ∧ s.mboxFull box = false) ∧
  (∃ p : Port, ∃ box : Port, ∃ i : Fin 16, ∃ _ : Word, ∃ s : State, s.reaches p 0 = true ∧
    let r := match box with | .a => R.HOSTIF_MBOX_AB_DATA i | .b => R.HOSTIF_MBOX_BA_DATA i; (p ≠ box ∨ s.mboxFull box = true)) ∧
  (∃ p : Port, ∃ box : Port, ∃ s : State, s.reaches p 0 = true ∧ p = box ∧ s.mboxFull box = false) ∧
  (∃ p : Port, ∃ box : Port, ∃ s : State, s.reaches p 0 = true ∧ (p ≠ box ∨ s.mboxFull box = true)) ∧
  (∃ p : Port, ∃ box : Port, ∃ s : State, s.reaches p 0 = true ∧ p ≠ box ∧ s.mboxFull box = true) ∧
  (∃ p : Port, ∃ box : Port, ∃ s : State, s.reaches p 0 = true ∧ (p = box ∨ s.mboxFull box = false)) :=
  ⟨⟨Port.b, Port.b, 15, 0x00000006#32, {told with portB := ⟨false, false, true, true, false, ⟨0,0,0,0⟩⟩}, by decide +kernel⟩,
   ⟨Port.a, Port.b, 0, 0x00000001#32, (told.wr (R.HOSTIF_MSIX_TABLE .a 175 0) 0x1000).wr (R.HOSTIF_MSIX_TABLE .a 175 3) 0, by decide +kernel⟩,
   ⟨Port.b, Port.b, {pa up ⟨false, false, true, true, false, ⟨0,0,0,0⟩⟩ with portB := ⟨false, false, true, true, false, ⟨0,0,0,0⟩⟩},
     by decide +kernel⟩,
   ⟨Port.b, Port.a, (full F.HOSTIF_MBOX_CTRL_FULL_AB {pa up ⟨false, false, true, true, false, ⟨0,0,0,0⟩⟩ with portB := ⟨false, false, true, true, false, ⟨0,0,0,0⟩⟩}).wr (R.HOSTIF_MSIX_TABLE .a 175 3) 0,
     by decide +kernel⟩,
   ⟨Port.b, Port.a, (full F.HOSTIF_MBOX_CTRL_FULL_AB {pa up ⟨false, false, true, true, false, ⟨0,0,0,0⟩⟩ with portB := ⟨false, false, true, true, false, ⟨0,0,0,0⟩⟩}).wr (R.HOSTIF_MSIX_TABLE .a 175 3) 0,
     by decide +kernel⟩,
   ⟨Port.b, Port.b, {pa up ⟨false, false, true, true, false, ⟨0,0,0,0⟩⟩ with portB := ⟨false, false, true, true, false, ⟨0,0,0,0⟩⟩},
     by decide +kernel⟩⟩

theorem witness_flash_and_smbus_are_served :
  (∃ p : Port, ∃ ab : Fin 4, ∃ dummy : Fin 16, ∃ op : Byte, ∃ len : Fin 512, ∃ s : State, s.reaches p 0 = true ∧
    let v := spiWord false ab dummy op len; (s.spiRun.isSome = true ∨ s.flashLoading = true ∨ ab.val = 3 ∨ 256 < len.val)) ∧
  (∃ p : Port, ∃ ab : Fin 4, ∃ dummy : Fin 16, ∃ op : Byte, ∃ len : Fin 512, ∃ s : State, s.reaches p 0 = true ∧
    let v := spiWord false ab dummy op len; s.spiRun = none ∧ s.flashLoading = false ∧ ab.val ≠ 3 ∧ len.val ≤ 256) ∧
  (∃ p : Port, ∃ ab : Fin 4, ∃ dummy : Fin 16, ∃ op : Byte, ∃ len : Fin 512, ∃ s : State, s.reaches p 0 = true ∧
    let v := spiWord true ab dummy op len; (s.spiRun.isSome = true ∨ s.flashLoading = true ∨ ab.val = 3 ∨ 256 < len.val)) ∧
  (∃ p : Port, ∃ ab : Fin 4, ∃ dummy : Fin 16, ∃ op : Byte, ∃ len : Fin 512, ∃ s : State, s.reaches p 0 = true ∧
    let v := spiWord true ab dummy op len; s.spiRun = none ∧ s.flashLoading = false ∧ ab.val ≠ 3 ∧ len.val ≤ 256) ∧
  (∃ _ : List Byte, ∃ _ : Bool, ∃ x : SpiOp, ∃ s : State, s.spiRun = some x ∧ Settled s) ∧
  (let slaveByte (s : State) (read : Bool) : Byte := BitVec.ofNat 8 (2 * (if s.sideB then 0x5D else 0x5C) + if read then 1 else 0)
   let pecRight (s : State) (sent : List Byte) (pec : Option Byte) : Prop := ∀ c, pec = some c → c = crc8 (slaveByte s false :: sent)
   ∃ v : BitVec 16, ∃ pec : Option Byte, ∃ s : State, s.smbAnswers = true ∧ pecRight s [0x01, v.setWidth 8, (v >>> 8).setWidth 8] pec) ∧
  (let slaveByte (s : State) (read : Bool) : Byte := BitVec.ofNat 8 (2 * (if s.sideB then 0x5D else 0x5C) + if read then 1 else 0)
   let pecRight (s : State) (sent : List Byte) (pec : Option Byte) : Prop := ∀ c, pec = some c → c = crc8 (slaveByte s false :: sent)
   ∃ v : BitVec 16, ∃ pec : Option Byte, ∃ s : State, s.smbAnswers = true ∧ ¬pecRight s [0x01, v.setWidth 8, (v >>> 8).setWidth 8] pec) ∧
  (let slaveByte (s : State) (read : Bool) : Byte := BitVec.ofNat 8 (2 * (if s.sideB then 0x5D else 0x5C) + if read then 1 else 0)
   let pecRight (s : State) (sent : List Byte) (pec : Option Byte) : Prop := ∀ c, pec = some c → c = crc8 (slaveByte s false :: sent)
   ∃ s : State, s.smbAnswers = false) ∧
  (let slaveByte (s : State) (read : Bool) : Byte := BitVec.ofNat 8 (2 * (if s.sideB then 0x5D else 0x5C) + if read then 1 else 0)
   let pecRight (s : State) (sent : List Byte) (pec : Option Byte) : Prop := ∀ c, pec = some c → c = crc8 (slaveByte s false :: sent)
   ∃ s : State, s.smbAnswers = false ∧ ∃ v : Word, ∃ pec : Option Byte, Settled s) ∧
  (let slaveByte (s : State) (read : Bool) : Byte := BitVec.ofNat 8 (2 * (if s.sideB then 0x5D else 0x5C) + if read then 1 else 0)
   let pecRight (s : State) (sent : List Byte) (pec : Option Byte) : Prop := ∀ c, pec = some c → c = crc8 (slaveByte s false :: sent)
   ∃ s : State, s.smbAnswers = true) ∧
  (let slaveByte (s : State) (read : Bool) : Byte := BitVec.ofNat 8 (2 * (if s.sideB then 0x5D else 0x5C) + if read then 1 else 0)
   let pecRight (s : State) (sent : List Byte) (pec : Option Byte) : Prop := ∀ c, pec = some c → c = crc8 (slaveByte s false :: sent)
   ∃ v : Word, ∃ pec : Option Byte, ∃ s : State, s.smbAnswers = true ∧ Settled s ∧ ¬pecRight s ([0x04, 4] ++ wordBytes v) pec) ∧
  (let slaveByte (s : State) (read : Bool) : Byte := BitVec.ofNat 8 (2 * (if s.sideB then 0x5D else 0x5C) + if read then 1 else 0)
   let pecRight (s : State) (sent : List Byte) (pec : Option Byte) : Prop := ∀ c, pec = some c → c = crc8 (slaveByte s false :: sent)
   ∃ v : Word, ∃ pec : Option Byte, ∃ r : Fin 7, ∃ crit : Bool, ∃ s : State, s.smbAnswers = true ∧ s.due = [] ∧ pecRight s ([0x04,
     4] ++ wordBytes v) pec ∧ s.flag R.HOSTIF_SMB_CTRL F.HOSTIF_SMB_CTRL_WR_EN = true ∧
     s.smbPtr.toNat = 0x200 + 8 * r.val + (if crit then 4 else 0)) ∧
  (let slaveByte (s : State) (read : Bool) : Byte := BitVec.ofNat 8 (2 * (if s.sideB then 0x5D else 0x5C) + if read then 1 else 0)
   let pecRight (s : State) (sent : List Byte) (pec : Option Byte) : Prop := ∀ c, pec = some c → c = crc8 (slaveByte s false :: sent)
   ∃ v : Word, ∃ pec : Option Byte, ∃ s : State, s.smbAnswers = true ∧ Settled s ∧ pecRight s ([0x04, 4] ++ wordBytes v) pec ∧
     s.flag R.HOSTIF_SMB_CTRL F.HOSTIF_SMB_CTRL_WR_EN = true ∧ s.smbPtr.toNat = 0x340) ∧
  (let slaveByte (s : State) (read : Bool) : Byte := BitVec.ofNat 8 (2 * (if s.sideB then 0x5D else 0x5C) + if read then 1 else 0)
   let pecRight (s : State) (sent : List Byte) (pec : Option Byte) : Prop := ∀ c, pec = some c → c = crc8 (slaveByte s false :: sent)
   ∃ v : Word, ∃ pec : Option Byte, ∃ s : State, s.smbAnswers = true ∧ Settled s ∧ pecRight s ([0x04, 4] ++ wordBytes v) pec ∧
     (s.flag R.HOSTIF_SMB_CTRL F.HOSTIF_SMB_CTRL_WR_EN = false ∨ (s.smbPtr.toNat < 0x200 ∨ 0x238 ≤ s.smbPtr.toNat) ∧ s.smbPtr.toNat ≠ 0x340)) ∧
  (let slaveByte (s : State) (read : Bool) : Byte := BitVec.ofNat 8 (2 * (if s.sideB then 0x5D else 0x5C) + if read then 1 else 0)
   let pecRight (s : State) (sent : List Byte) (pec : Option Byte) : Prop := ∀ c, pec = some c → c = crc8 (slaveByte s false :: sent)
   ∃ s : State, s.smbAnswers = true ∧ s.due = []) :=
  ⟨⟨Port.b, 1, 15, 0x06#8, 1, { up with spiRun := some ⟨5, [3, 0, 0]⟩, load := some ⟨1, false, false, false, none⟩ }, by decide +kernel⟩,
   ⟨Port.b, 1, 1, 0xff#8, 3, smb 0x340 1, by decide +kernel⟩,
   ⟨Port.b, 1, 15, 0x06#8, 1, { up with spiRun := some ⟨5, [3, 0, 0]⟩, load := some ⟨1, false, false, false, none⟩ }, by decide +kernel⟩,
   ⟨Port.b, 1, 1, 0xff#8, 3, smb 0x340 1, by decide +kernel⟩,
   ⟨[], true, { ctrl := 0x00000005#32, sent := [0x03#8, 0x00#8, 0x00#8] },
     { up with spiRun := some ⟨5, [3, 0, 0]⟩, load := some ⟨2, false, false, false, none⟩ }, by rw [settled_iff]; decide +kernel⟩,
   ⟨0xffff#16, none, smb 0x340 1, by dsimp only; decide +kernel⟩,
   ⟨0x0000#16, some 0xf2#8, smb 0x1004 0, by dsimp only; decide +kernel⟩,
   ⟨State.reset, by decide +kernel⟩,
   ⟨State.reset, by decide +kernel, 5, none, by rw [settled_iff]; decide +kernel⟩,
   ⟨up, by decide +kernel⟩,
   ⟨0x01000000#32, some 0xf2#8, smb 0x1004 0, by dsimp only; rw [settled_iff]; decide +kernel⟩,
   ⟨0x000007f2#32, some 0x00#8, 0, true, smb 0x204 1, by dsimp only; decide +kernel⟩,
   ⟨0xffffffff#32, none, smb 0x340 1, by dsimp only; rw [settled_iff]; decide +kernel⟩,
   ⟨0x000007f0#32, none, smb 0x1000 1, by dsimp only; rw [settled_iff]; decide +kernel⟩,
   ⟨up, by decide +kernel⟩⟩

theorem witness_idcode_names_the_device : ∃ s : State, s.pwr ≠ .off :=
  ⟨State.reset, by decide +kernel⟩

theorem witness_tap_instructions_act :
  (∃ s : State, s.pwr ≠ .off) ∧
  (∃ _ : List Bool, ∃ s : State, s.pwr ≠ .off) ∧
  (∃ op : BitVec 8, ∃ s : State, s.pwr ≠ .off ∧ op ∉ [(0x00 : BitVec 8), 0x01, 0x02, 0x03, 0x04, 0x08, 0x09, 0x3C]) ∧
  (∃ _ : List Bool, ∃ s : State, s.pwr ≠ .off ∧ s.due = []) ∧
  (∃ s : State, s.pwr = .run ∧ s.flag R.PKG_START F.PKG_START_TEST_MODE = true) ∧
  (∃ s : State, s.pwr ≠ .off ∧ s.flag R.PKG_START F.PKG_START_TEST_MODE = false) ∧
  (∃ _ : BitVec 8, ∃ _ : List Bool, ∃ s : State, s.pwr = .off ∧ s.due = [] ∧ s.grave = false) :=
  ⟨⟨told, by decide +kernel⟩,
   ⟨[true, true, true, true, true, true, true, true, true, true, true, true, true, true, true, true, true, true, true, true, true, true, true, true,
     true, true, true, true, true, true, true, true, true, true, true, true, true, true, true, true], {up with scan := [true]}, by decide +kernel⟩,
   ⟨0x55#8, State.reset, by decide +kernel⟩,
   ⟨[true, true, true, true, true, true, true, true, true, true, true, true, true, true, true, true, true, true, true, true, true, true, true, true,
     true, true, true, true, true, true, true, true, true, true, true, true, true, true, true, true], {up with scan := [true]}, by decide +kernel⟩,
   ⟨up.put R.PKG_START F.PKG_START_TEST_MODE 1, by decide +kernel⟩,
   ⟨told, by decide +kernel⟩,
   ⟨0x01#8, [false, true, true], {up with pwr := .off}, by decide +kernel⟩⟩

end Ports

end Sys2Proof.Tests
end

/-!
Refutations of the first family of statements (hierarchy, 01_hierarchy.md): each names a concrete state, which the model evaluates to an outcome
that the statement excludes.
-/

namespace Sys2Proof.Machine

/-- Port A is linked and answered, and severity is enabled. -/
def answeringA : State :=
  { (State.reset.put R.HOSTIF_PORT_STATUS F.HOSTIF_PORT_STATUS_A_UP 1).put R.PKG_START F.PKG_START_STEP 10 with sevOn := true }

-- A link unit's retirement that brings the package into GRAVE (R24, R349)

/-- A slot whose one record connects link 0 to link 1. -/
def slotOfLinks : TxnSlot := { emptySlot with recs := [⟨(linkTA 1).setWidth 32, (linkTA 0).setWidth 32, 0, 0⟩] }

/-- Slot 0 is OPEN and names link 0; the active reference 8 names it too, and the source of that reference is of class GRAVE with N = 1. -/
def graveReference : State :=
  { ((((answeringA.put (R.TXN_STATUS 0) F.TXN_STATUS_STATE txOPEN).put (R.TIME_REF_STATUS 8) F.TIME_REF_STATUS_QSTATE 3).put
      (R.TIME_REF_STATUS 8) F.TIME_REF_STATUS_ACTIVE 1).put (R.EVT_CFG evTime 8) F.EVT_CFG_CLASS clsGrave).put
      (R.EVT_CFG evTime 8) F.EVT_CFG_N 1 with
    txns := [(0, slotOfLinks)] }

/-- The retirement of link 0 fails the reference, the package enters GRAVE, and the slot stays OPEN. -/
theorem graveReference_keeps_slot :
    ((graveReference.answer .done).retireLU 0).settle.graveHealth.txnState 0 = txOPEN := by decide +kernel

/-- LU_RETIRE of a port whose commands reach the registers. -/
theorem exec_luRetire_reaches {p : Port} {n : Fin 128} {s : State} (h : s.reaches p 0 = true) :
    exec (.luRetire p n) s = .next ((s.answer .done).retireLU n).settle.graveHealth := by
  show done (hostReg p (.luRetire p n) (fun t => t.retireLU n) s) = _
  exact congrArg done (hostReg_reaches h)

/-- Refutes O26: the package is not in GRAVE before the command, but the loss of the reference that the link unit feeds brings it there before
the transactions are refused, and in GRAVE no slot changes state. -/
theorem not_linkUnitsRetire : ¬ Obligations.LinkUnitsRetire := by
  unfold Obligations.LinkUnitsRetire
  intro h
  obtain ⟨hretire, -⟩ := h
  have hreach : graveReference.reaches .a 0 = true := by decide +kernel
  obtain ⟨t, ht, -, -, -, -, hslots⟩ := hretire .a 0 graveReference hreach
  obtain ⟨hstate, -⟩ := hslots (by decide +kernel) 0 (by decide +kernel) (by decide +kernel) (by decide +kernel)
  rw [exec_luRetire_reaches hreach] at ht
  rw [← Host.Outcome.next.inj ht] at hstate
  exact absurd (hstate.symm.trans graveReference_keeps_slot) (by decide)

-- A severe transition during a pulse that does not hold FAULT_N low (R343, R350)

/-- Severity enabled, and a pulse of FAULT_N marked as in progress while FAULT_N is high. -/
def pulseWithFaultHigh : State := { State.reset.put R.EVT_SUM_STATUS F.EVT_SUM_STATUS_PULSE 1 with sevOn := true }

/-- A transition during a pulse makes the pulse longer and leaves FAULT_N as it is. -/
theorem pulseWithFaultHigh_stays_high :
    (pulseWithFaultHigh.liveOn evPkg srcTXN).flag R.EVT_SUM_STATUS F.EVT_SUM_STATUS_FAULT_LOW = false := by decide +kernel

/-- Refutes O39: no premise says that FAULT_N is low while its pulse runs, and a transition during a pulse does not drive it low. -/
theorem not_liveConditionTurnsSevere : ¬ Obligations.LiveConditionTurnsSevere := by
  unfold Obligations.LiveConditionTurnsSevere
  intro h
  obtain ⟨-, -, -, -, -, -, -, hlow, -⟩ :=
    h pulseWithFaultHigh evPkg srcTXN (by decide) rfl (by decide +kernel) (by decide +kernel)
  have low := hlow (by decide +kernel)
  rw [pulseWithFaultHigh_stays_high] at low
  cases low

-- A forced event whose reaction counts on its own source (R313, R354)

/-- Dd.WB of die 0 is of class RETIRE with N = 1, and an access of port B waits for bank 0 of that die. -/
def bankAwaited : State :=
  { (answeringA.put (R.EVT_CFG (evDie 0) srcWB) F.EVT_CFG_N 1).put (R.EVT_CFG (evDie 0) srcWB) F.EVT_CFG_CLASS clsRetire with
    wbWait := [⟨1, 0, 0, 0, .bank 0 0 0 (.read 4) .ok none⟩] }

/-- The event, whatever bank its DETAIL names, retires bank 0, and the access that waited there fails, which counts once more on Dd.WB. -/
theorem bankAwaited_counts_twice : ∀ k : Fin 42,
    ((bankAwaited.answer .done).drawn.event (evDie 0) srcWB (BitVec.ofNat 32 k)).settle.graveHealth.ctr (ctrEvTotal (evDie 0) srcWB) = 2 := by
  decide +kernel

/-- The force of Dd.WB is one event on it, of a free bank. -/
theorem exec_evtForce_bankAwaited : exec (.evtForce .a 3 ((1 : Word) <<< 18)) bankAwaited =
    .next ((bankAwaited.answer .done).drawn.event (evDie 0) srcWB (BitVec.ofNat 32 (Config.free 0 % 42))).settle.graveHealth := rfl

/-- Refutes O41: Dd.WB is not among the sources whose reaction can bring about another event on them, but its reaction does where an access
waits for the bank that it retires. -/
theorem not_faultsForcesAndResets : ¬ Obligations.FaultsForcesAndResets := by
  unfold Obligations.FaultsForcesAndResets
  intro h
  obtain ⟨-, hforce, -⟩ := h
  obtain ⟨t, ht, -, -, -, hcount, -⟩ := hforce .a 3 18 bankAwaited (by decide +kernel) (by decide) (by decide) ⟨rfl, by decide +kernel⟩
    (.inl (by decide +kernel))
  have once : t.ctr (ctrEvTotal (evDie 0) srcWB) = (bankAwaited.ctr (ctrEvTotal (evDie 0) srcWB) + 1) % 2 ^ 48 :=
    hcount (by decide) (by decide) fun d => ⟨fun e => absurd (congrArg Prod.snd e) (show 18 ≠ 13 by decide),
      fun e => absurd (congrArg Prod.snd e) (show 18 ≠ 20 by decide)⟩
  have zero : bankAwaited.ctr (ctrEvTotal (evDie 0) srcWB) = 0 := by decide +kernel
  have twice := bankAwaited_counts_twice ⟨Config.free 0 % 42, Nat.mod_lt _ (by decide)⟩
  rw [← Host.Outcome.next.inj (exec_evtForce_bankAwaited.symm.trans ht), zero] at once
  exact absurd (twice.symm.trans once) (by decide)

end Sys2Proof.Machine

/-!
Sticky bits and the counters of Seam ports: what events, retirements and the end of a command leave of them.
-/

namespace Sys2Proof.Machine

-- Sticky bits and Seam counters through events and the end of a command

/-- A counter register of a Seam port (Table 18-5), not its status or its retired lanes. -/
def seamCount (r : RegId) : Bool := r.blk == .seam && decide (0x10 ≤ r.off % 0x100) && decide (r.off < 0xf000)

/-- The register of a die that holds the power of its regions (Table 01-8). -/
def unitState (r : RegId) : Bool := r.blk == .die && r.off == 0x104

def keptReg (r : RegId) : Bool := seamCount r || unitState r

/-- A register that holds sticky bits or the power of regions, or a counter of a Seam port. -/
def tallyReg (r : RegId) : Bool := (r.blk == .evt && r.off == 8) || keptReg r

/-- Every sticky bit that was set is set, and the counters of the Seam ports and the power of the regions stand. -/
structure TallyKept (s t : State) : Prop where
  sticky : ∀ b i, s.bit (R.EVT_STICKY b) i = true → t.bit (R.EVT_STICKY b) i = true
  seam : ∀ r, seamCount r = true → t.rd r = s.rd r
  power : ∀ d i, 22 ≤ i → t.bit (R.DIE_UNIT_STATE d) i = s.bit (R.DIE_UNIT_STATE d) i

theorem TallyKept.of_regs {s t : State} (h : t.regs = s.regs) : TallyKept s t := by
  have hr : ∀ r, t.rd r = s.rd r := fun r => by unfold State.rd; rw [h]
  exact ⟨fun b i hb => by unfold State.bit at hb ⊢; rw [hr]; exact hb, fun r _ => hr r, fun d i _ => by unfold State.bit; rw [hr]⟩

theorem TallyKept.refl (s : State) : TallyKept s s := .of_regs rfl

theorem TallyKept.trans {s t u : State} (h : TallyKept s t) (k : TallyKept t u) : TallyKept s u :=
  ⟨fun b i hb => k.sticky b i (h.sticky b i hb), fun r hr => (k.seam r hr).trans (h.seam r hr),
    fun d i hi => (k.power d i hi).trans (h.power d i hi)⟩

/-- Changes besides the registers before, and after, a step. -/
theorem TallyKept.since {s t u : State} (k : TallyKept t u) (h : t.regs = s.regs) : TallyKept s u := (TallyKept.of_regs h).trans k
theorem TallyKept.into {s t u : State} (k : TallyKept s t) (h : u.regs = t.regs) : TallyKept s u := k.trans (.of_regs h)

theorem TallyKept.startTimerNs (s : State) (k : TKey) (n : Nat) : TallyKept s (s.startTimerNs k n) := .of_regs rfl
theorem TallyKept.startTimer (s : State) (k : TKey) (n : Nat) : TallyKept s (s.startTimer k n) := .of_regs rfl
theorem TallyKept.stopTimer (s : State) (k : TKey) : TallyKept s (s.stopTimer k) := .of_regs rfl
theorem TallyKept.drawn (s : State) : TallyKept s s.drawn := .of_regs rfl
theorem TallyKept.setSlot (s : State) (k : Nat) (x : TxnSlot) : TallyKept s (s.setSlot k x) := .of_regs rfl
theorem TallyKept.withSafe (s : State) (l : List SafeForce) : TallyKept s { s with safe := l } := .of_regs rfl
theorem TallyKept.withDue (s : State) (l : List Due) : TallyKept s { s with due := l } := .of_regs rfl
theorem TallyKept.withUnretire (s : State) (l : List (Nat × Nat)) : TallyKept s { s with unretire := l } := .of_regs rfl
theorem TallyKept.toMate (s : State) (m : MateMsg) : TallyKept s (s.toMate m) := .of_regs rfl
theorem TallyKept.withMainHold (s : State) (b : Bool) : TallyKept s { s with mainHold := b } := .of_regs rfl
theorem TallyKept.setPour (s : State) (d j : Nat) (x : PourJob) : TallyKept s (s.setPour d j x) := .of_regs rfl
theorem TallyKept.answer (s : State) (c : Completion) : TallyKept s (s.answer c) := .of_regs rfl
theorem TallyKept.spareTaken (s : State) (g k : Nat) : TallyKept s (s.spareTaken g k) := .of_regs rfl
theorem TallyKept.withWbWait (s : State) (l : List WbWait) : TallyKept s { s with wbWait := l } := .of_regs rfl

theorem TallyKept.ite {c : Prop} [Decidable c] {s t u : State} (h : TallyKept s t) (k : TallyKept s u) :
    TallyKept s (if c then t else u) := by
  by_cases hc : c <;> simpa [hc]

theorem TallyKept.foldl {α : Type} {f : State → α → State} (l : List α) (h : ∀ t a, TallyKept t (f t a)) :
    ∀ s, TallyKept s (l.foldl f s) := by
  induction l with
  | nil => exact TallyKept.refl
  | cons a l ih => exact fun s => (h s a).trans (ih _)

theorem TallyKept.wr (s : State) (r : RegId) (v : Word) (h : tallyReg r = false) : TallyKept s (s.wr r v) := by
  obtain ⟨hs, hc, hu⟩ : (r.blk == .evt && r.off == 8) = false ∧ seamCount r = false ∧ unitState r = false := by simpa [tallyReg, keptReg] using h
  refine ⟨fun b i hb => ?_, fun q hq => rd_wr_ne s v (by rintro rfl; rw [hc] at hq; cases hq), fun d i _ => ?_⟩
  · unfold State.bit at hb ⊢
    rwa [rd_wr_ne s v (by rintro rfl; cases hs)]
  · unfold State.bit
    rw [rd_wr_ne s v (by rintro rfl; cases hu)]

theorem TallyKept.put (s : State) (r : RegId) (f : Fld) (v : Nat) (h : tallyReg r = false) : TallyKept s (s.put r f v) := .wr s r _ h
theorem TallyKept.clrBit (s : State) (r : RegId) (i : Nat) (h : tallyReg r = false) : TallyKept s (s.clrBit r i) := .wr s r _ h

theorem TallyKept.setBit (s : State) (r : RegId) (i : Nat) (h : keptReg r = false) : TallyKept s (s.setBit r i) := by
  obtain ⟨hc, hu⟩ : seamCount r = false ∧ unitState r = false := by simpa [keptReg] using h
  exact ⟨fun b j hb => by rw [bit_setBit, hb, ite_self],
    fun q hq => rd_wr_ne s _ (by rintro rfl; rw [hc] at hq; cases hq),
    fun d j _ => by rw [bit_setBit, if_neg (by rintro ⟨rfl, -⟩; cases hu)]⟩

/-- Another field of a die's unit state. -/
theorem TallyKept.putUnitState (s : State) (d : Nat) {f : Fld} (v : Nat) (h : f.lo + f.w ≤ 22) : TallyKept s (s.put (R.DIE_UNIT_STATE d) f v) := by
  refine ⟨fun b i hb => ?_, fun q hq => rd_put_ne _ _ _ (by rintro rfl; cases hq), fun d' i hi => ?_⟩
  · rw [bit_eq, rd_put_ne _ _ _ (by simp), ← bit_eq]; exact hb
  · rw [bit_eq, bit_eq, rd_put]
    split
    next he =>
      rw [getLsbD_fset, he]
      simp
      omega
    · rfl

/-- CL_LOCK of a cluster. -/
theorem TallyKept.clusterRuns (s : State) (b : Nat) (on : Bool) : TallyKept s (s.clusterRuns b on) := by
  have low : ∀ i, (8 + (b - 15) % 8) = i → i < 22 := by omega
  have sets : ∀ (t : State) (d j : Nat), j < 22 → TallyKept t (t.setBit (R.DIE_UNIT_STATE d) j) := fun t d j hj =>
    ⟨fun b i hb => by rw [bit_setBit, hb, ite_self], fun q hq => rd_wr_ne _ _ (by rintro rfl; cases hq),
      fun d' i hi => by rw [bit_setBit, if_neg (by omega)]⟩
  have clears : ∀ (t : State) (d j : Nat), j < 22 → TallyKept t (t.clrBit (R.DIE_UNIT_STATE d) j) := fun t d j hj =>
    ⟨fun b i hb => by rw [bit_clrBit, hb, if_neg (by simp)], fun q hq => rd_wr_ne _ _ (by rintro rfl; cases hq),
      fun d' i hi => by rw [bit_clrBit, if_neg (by omega)]⟩
  unfold State.clusterRuns
  refine .ite ?_ (.refl _)
  cases on
  · exact clears _ _ _ (low _ rfl)
  · exact sets _ _ _ (low _ rfl)

theorem TallyKept.putBit (s : State) (r : RegId) (i : Nat) (v : Bool) (h : tallyReg r = false) : TallyKept s (s.putBit r i v) := by
  cases v
  · exact .clrBit _ _ _ h
  · exact .wr s r _ h

theorem tallyReg_cfg (b i : Nat) : tallyReg (R.EVT_CFG b i) = false := by
  have : 0x100 + 8 * i ≠ 8 := by omega
  simp [tallyReg, keptReg, unitState, seamCount, this]
theorem tallyReg_detail (b i : Nat) : tallyReg (R.EVT_DETAIL b i) = false := by
  have : 0x300 + 4 * i ≠ 8 := by omega
  simp [tallyReg, keptReg, unitState, seamCount, this]
theorem tallyReg_total (b i : Nat) : tallyReg (ctrEvTotal b i).lo = false ∧ tallyReg (ctrEvTotal b i).hi = false := by
  have hl : 0x200 + 8 * i ≠ 8 := by omega
  have hh : 0x204 + 8 * i ≠ 8 := by omega
  simp [tallyReg, keptReg, unitState, seamCount, ctrEvTotal, hl, hh]
theorem keptReg_wrap (k : Blk) (x i : Nat) : keptReg (R.CNT_WRAP k x i) = false := by
  have : 0xf000 + 4 * i ≠ 0x104 := by omega
  simp [keptReg, seamCount, unitState, this]

-- Events

theorem TallyKept.msixTo (s : State) (p : Port) (v : Nat) : TallyKept s (s.msixTo p v) := by
  unfold State.msixTo
  exact .ite (TallyKept.since (.clrBit _ _ _ rfl) rfl) (.setBit _ _ _ rfl)

theorem TallyKept.evSend (s : State) (b : Nat) : TallyKept s (s.evSend b) := by
  unfold State.evSend
  split
  · exact .msixTo _ _ _
  · exact .msixTo _ _ _
  · exact (TallyKept.msixTo _ _ _).trans (.msixTo _ _ _)
  · exact .refl _

theorem TallyKept.setPending (s : State) (b : Nat) : TallyKept s (s.setPending b) :=
  .ite (.refl _) ((TallyKept.put _ _ _ _ rfl).trans (.evSend _ _))

theorem TallyKept.addRaw (s : State) (c : Ctr) (n : Nat) (hl : tallyReg c.lo = false) (hh : tallyReg c.hi = false) :
    TallyKept s (s.addRaw c n).1 := by
  have h : ∀ v, TallyKept s (s.setCtr c v) := fun v => (TallyKept.wr _ _ _ hh).trans (.wr _ _ _ hl)
  unfold State.addRaw
  dsimp only
  split
  · exact h _
  · exact (h _).trans (.setBit _ _ _ (keptReg_wrap _ _ _))

theorem TallyKept.faultPulse (s : State) : TallyKept s s.faultPulse := by
  have h : TallyKept s (s.startTimerNs faultKey 2000) := .startTimerNs _ _ _
  exact .ite (.refl _) (.ite h (((h.trans (.put _ _ _ _ rfl)).trans (.put _ _ _ _ rfl)).trans (.addRaw _ _ _ rfl rfl)))

theorem TallyKept.latchFirst (s : State) (b src cls : Nat) (d : Word) : TallyKept s (s.latchFirst b src cls d) := by
  have h : TallyKept s (if s.flag (R.EVT_FIRST0 b) F.EVT_FIRST0_VALID = true then s.put (R.EVT_FIRST0 b) F.EVT_FIRST0_OVF 1
      else s.latching b) := .ite (.put _ _ _ _ rfl) (.of_regs rfl)
  exact .ite h ((((((h.trans (.put _ _ _ _ rfl)).trans (.put _ _ _ _ rfl)).trans (.put _ _ _ _ rfl)).trans (.wr _ _ _ rfl)).trans
    (.put _ _ _ _ rfl)).trans (.wr _ _ _ rfl))

theorem TallyKept.latchPkgFirst (s : State) (b src cls : Nat) : TallyKept s (s.latchPkgFirst b src cls) := by
  have h : TallyKept s (if s.flag R.EVT_PKG_FIRST0 F.EVT_PKG_FIRST0_VALID = true then s.put R.EVT_PKG_FIRST0 F.EVT_PKG_FIRST0_OVF 1
      else s.latching 175) := .ite (.put _ _ _ _ rfl) (.of_regs rfl)
  exact .ite h ((((((h.trans (.put _ _ _ _ rfl)).trans (.put _ _ _ _ rfl)).trans (.put _ _ _ _ rfl)).trans (.put _ _ _ _ rfl)).trans
    (.wr _ _ _ rfl)).trans (.put _ _ _ _ rfl))

theorem TallyKept.enterGrave (s : State) (b src : Nat) : TallyKept s (s.enterGrave b src) :=
  .ite (.refl _) ((((((TallyKept.put _ _ _ _ rfl).trans (.put _ _ _ _ rfl)).trans (.put _ _ _ _ rfl)).trans (.wr _ _ _ rfl)).trans
    (.wr _ _ _ rfl)).trans (.put _ _ _ _ rfl))

theorem TallyKept.safeReact (s : State) (b src : Nat) (d : Word) : TallyKept s (s.safeReact b src d) :=
  (TallyKept.ite (c := s.fence = true) (.clusterRuns _ _ _) (.refl s)).into rfl

theorem TallyKept.react (s : State) (b src cls : Nat) (d : Word) : TallyKept s (s.react b src cls d) :=
  .ite (.enterGrave _ _ _) (.ite (.safeReact _ _ _ _) (.ite (.ite (.of_regs rfl) (.safeReact _ _ _ _)) (.refl _)))

theorem TallyKept.turnSevere (s : State) (b src : Nat) : TallyKept s (s.turnSevere b src) := by
  have h : TallyKept s ((((((((s.setBit (R.EVT_SEVERE b) src).put (R.EVT_CFG b src) F.EVT_CFG_WCOUNT 0).stopTimer
      (evWindowKey b src)).startTimer (evQuietKey b src) 0).latchFirst b src (s.get (R.EVT_CFG b src) F.EVT_CFG_CLASS)
      (s.rd (R.EVT_DETAIL b src))).latchPkgFirst b src (s.get (R.EVT_CFG b src) F.EVT_CFG_CLASS)).faultPulse).react b src
      (s.get (R.EVT_CFG b src) F.EVT_CFG_CLASS) (s.rd (R.EVT_DETAIL b src))) :=
    (((((((TallyKept.setBit _ _ _ rfl).trans (.put _ _ _ _ (tallyReg_cfg _ _))).trans (.stopTimer _ _)).trans (.startTimer _ _ _)).trans
      (.latchFirst _ _ _ _ _)).trans (.latchPkgFirst _ _ _ _)).trans (.faultPulse _)).trans (.react _ _ _ _ _)
  exact .ite (h.trans (.setPending _ _)) h

/-- An event sets its sticky bit, and keeps every other one. -/
theorem TallyKept.eventRaw (s : State) (b src : Nat) (d : Word) (tw : Bool) :
    TallyKept ((s.addRaw (ctrEvTotal b src) 1).1.setBit (R.EVT_STICKY b) src) (s.eventRaw b src d tw).1 := by
  have h1 : TallyKept ((s.addRaw (ctrEvTotal b src) 1).1.setBit (R.EVT_STICKY b) src)
      (((s.addRaw (ctrEvTotal b src) 1).1.setBit (R.EVT_STICKY b) src).wr (R.EVT_DETAIL b src) d) := .wr _ _ _ (tallyReg_detail _ _)
  unfold State.eventRaw
  dsimp only
  generalize (s.addRaw (ctrEvTotal b src) 1).1.setBit (R.EVT_STICKY b) src = s0 at h1 ⊢
  have h2 : TallyKept s0 (if (s0.wr (R.EVT_DETAIL b src) d).bit (R.EVT_ENABLE b) src = true then (s0.wr (R.EVT_DETAIL b src) d).setPending b
      else s0.wr (R.EVT_DETAIL b src) d) := .ite (h1.trans (.setPending _ _)) h1
  generalize (if (s0.wr (R.EVT_DETAIL b src) d).bit (R.EVT_ENABLE b) src = true then (s0.wr (R.EVT_DETAIL b src) d).setPending b
      else s0.wr (R.EVT_DETAIL b src) d) = s2 at h2 ⊢
  split
  · exact h2.trans (.startTimer _ _ _)
  split
  · exact h2
  split
  · exact h2.trans (.turnSevere _ _ _)
  · exact .trans (h2.trans (.put _ _ _ _ (tallyReg_cfg _ _))) (.ite (.startTimer _ _ _) (.refl _))

theorem TallyKept.eventRaw_self (s : State) (b src : Nat) (d : Word) (tw : Bool) : TallyKept s (s.eventRaw b src d tw).1 :=
  ((TallyKept.addRaw s _ 1 (tallyReg_total _ _).1 (tallyReg_total _ _).2).trans (.setBit _ _ _ rfl)).trans (.eventRaw s b src d tw)

theorem TallyKept.skFire (s : State) (d j by_ : Nat) (ts : List Word) : TallyKept s (s.skFire d j by_ ts) :=
  (((((TallyKept.put _ _ _ _ rfl).trans (.put _ _ _ _ rfl)).trans (.put _ _ _ _ rfl)).trans (.wr _ _ _ rfl)).trans (.wr _ _ _ rfl)).trans
    (.wr _ _ _ rfl)

theorem TallyKept.eventLoop : ∀ (n : Nat) (l : List (Nat × Nat × Word × Bool)) (s : State), TallyKept s (State.eventLoop n l s)
  | 0, _, s => by unfold State.eventLoop; exact .refl s
  | n + 1, [], s => by unfold State.eventLoop; exact .refl s
  | n + 1, (b, src, d, tw) :: l, s => by
    unfold State.eventLoop
    exact ((TallyKept.eventRaw_self s b src d tw).trans
      (.foldl _ (fun t e => (TallyKept.drawn t).trans (.skFire _ _ _ _ _)) _)).trans (TallyKept.eventLoop n _ _)

theorem TallyKept.event' (s : State) (b src : Nat) (d : Word) (tw : Bool) : TallyKept s (s.event' b src d tw) := .eventLoop _ _ _
theorem TallyKept.event (s : State) (b src : Nat) (d : Word) : TallyKept s (s.event b src d) := .eventLoop _ _ _
theorem TallyKept.ev (s : State) (b src : Nat) : TallyKept s (s.ev b src) := .eventLoop _ _ _

/-- An event sets the sticky bit of its source (R338). -/
theorem event_sticky (s : State) {b src : Nat} (d : Word) (h : src < 32) : (s.event b src d).bit (R.EVT_STICKY b) src = true := by
  have first : (s.eventRaw b src d true).1.bit (R.EVT_STICKY b) src = true :=
    (TallyKept.eventRaw s b src d true).sticky b src (by rw [bit_setBit, if_pos ⟨rfl, rfl, h⟩])
  show (State.eventLoop (255 + 1) [(b, src, d, true)] s).bit _ _ = true
  unfold State.eventLoop
  exact ((TallyKept.foldl _ (fun t e => (TallyKept.drawn t).trans (.skFire _ _ _ _ _)) _).trans
    (.eventLoop _ _ _)).sticky b src first

theorem ev_sticky (s : State) {b src : Nat} (h : src < 32) : (s.ev b src).bit (R.EVT_STICKY b) src = true := event_sticky s 0 h

theorem TallyKept.addCtr (s : State) (c : Ctr) (n : Nat) (hl : tallyReg c.lo = false) (hh : tallyReg c.hi = false) :
    TallyKept s (s.addCtr c n) := by
  have h := TallyKept.addRaw s c n hl hh
  unfold State.addCtr
  generalize s.addRaw c n = p at h ⊢
  exact .ite (h.trans (.ev _ _ _)) h

theorem TallyKept.liveOn (s : State) (b src : Nat) : TallyKept s (s.liveOn b src) :=
  .ite (.refl _) (.ite ((TallyKept.setBit _ _ _ rfl).trans (.turnSevere _ _ _)) (.setBit _ _ _ rfl))

theorem TallyKept.leaveSevere (s : State) (b src : Nat) : TallyKept s (s.leaveSevere b src) :=
  ((TallyKept.clrBit s (R.EVT_SEVERE b) src rfl).trans (.stopTimer _ _)).trans (.withSafe _ _)

-- Transactions

theorem TallyKept.setTxn (s : State) (k st : Nat) : TallyKept s (s.setTxn k st) := by
  have h : TallyKept s ((s.put (R.TXN_STATUS k) F.TXN_STATUS_STATE st).wr (R.TXN_EVENT_FN k) (BitVec.ofNat 32 s.fn)) :=
    (TallyKept.put _ _ _ _ rfl).trans (.wr _ _ _ rfl)
  exact .ite (h.trans (.ite (.ev _ _ _) (.refl _))) h

theorem TallyKept.updQueue (s : State) : TallyKept s s.updQueue :=
  .foldl _ (fun _ _ => (TallyKept.put _ _ _ _ rfl).trans (.put _ _ _ _ rfl)) _

theorem TallyKept.beginRestore (s : State) (k : Nat) : TallyKept s (s.beginRestore k) :=
  ((TallyKept.setSlot _ _ _).trans (.put _ _ _ _ rfl)).trans (.updQueue _)

theorem TallyKept.refuseFor (s : State) (k code : Nat) (i : Option Nat) : TallyKept s (s.refuseFor k code i) := by
  have h : TallyKept s (((s.put (R.TXN_STATUS k) F.TXN_STATUS_CODE code).setTxn k txREFUSED).beginRestore k) :=
    ((TallyKept.put _ _ _ _ rfl).trans (.setTxn _ _ _)).trans (.beginRestore _ _)
  exact .ite (h.trans (.toMate _ _)) h

theorem TallyKept.refuseHolding (s : State) (code : Nat) (p : Rec → Bool) : TallyKept s (s.refuseHolding code p) :=
  .ite (.refl _) (.foldl _ (fun _ _ => .ite (.refuseFor _ _ _ _) (.refl _)) _)

-- What follows a link unit

theorem TallyKept.mspCond (s : State) (g k c sd : Nat) (raw : Bool) : TallyKept s (s.mspCond g k c sd raw) :=
  .ite ((TallyKept.clrBit _ _ _ rfl).trans (.stopTimer _ _))
    (.ite (.refl _) (.ite (.setBit _ _ _ rfl) (.ite (.refl _) (.startTimer _ _ _))))

theorem TallyKept.mspTouch (s : State) (n : Nat) : TallyKept s (s.mspTouch n) := by
  unfold State.mspTouch
  split
  · exact .foldl _ (fun _ _ => (TallyKept.mspCond _ _ _ _ _ _).trans (.mspCond _ _ _ _ _ _)) _
  · exact .refl _

theorem TallyKept.setDisputed (s : State) (r : Nat) (b : Bool) : TallyKept s (s.setDisputed r b) :=
  .ite (.refl _) (((TallyKept.put _ _ _ _ rfl).trans (.stopTimer _ _)).trans (.ev _ _ _))

theorem TallyKept.refShow (s : State) (r : Nat) : TallyKept s (s.refShow r) := by
  unfold State.refShow
  extract_lets q inv st s1 s2
  have h1 : TallyKept s s1 := .ite (.refl _) (((TallyKept.put _ _ _ _ rfl).trans (.put _ _ _ _ rfl)).trans (.ev _ _ _))
  have h2 : TallyKept s1 s2 := .ite (.put _ _ _ _ rfl) (.refl _)
  exact (h1.trans h2).trans (.ite (.put _ _ _ _ rfl) ((TallyKept.put _ _ _ _ rfl).trans (.setDisputed _ _ _)))

theorem TallyKept.toQState (s : State) (r q : Nat) : TallyKept s (s.toQState r q) := by
  unfold State.toQState
  lift_lets
  extract_lets old st s0 wtr s1
  have h0 : TallyKept s s0 := .ite (.of_regs rfl) (.refl _)
  have h1 : TallyKept s0 s1 := .ite ((TallyKept.startTimerNs _ _ _).trans (.put _ _ _ _ rfl))
    ((TallyKept.stopTimer _ _).trans (.put _ _ _ _ rfl))
  exact .ite (.refl _) ((((h0.trans h1).trans (.put _ _ _ _ rfl)).trans (.ev _ _ _)).trans (.refShow _ _))

theorem TallyKept.refLose (s : State) (r : Nat) : TallyKept s (s.refLose r) := by
  have h : TallyKept s (((s.put (R.TIME_REF_STATUS r) F.TIME_REF_STATUS_ACTIVE 0).stopTimer (refGateKey r)).refFail r) :=
    ((TallyKept.put _ _ _ _ rfl).trans (.stopTimer _ _)).trans (.ite (.toQState _ _ _) (.refl _))
  exact .ite (h.trans (.withMainHold _ _)) h

theorem TallyKept.lineRefFollow (s : State) (r : Nat) : TallyKept s (s.lineRefFollow r) :=
  .ite (.refl _) (.ite (.ite (.refLose _ _) (.refl _)) (.ite (.refl _) ((TallyKept.put _ _ _ _ rfl).trans (.startTimerNs _ _ _))))

theorem TallyKept.luTouch (s : State) (n : Nat) : TallyKept s (s.luTouch n) :=
  (TallyKept.mspTouch _ _).trans (.foldl _ (fun _ _ => .ite (.lineRefFollow _ _) (.refl _)) _)

-- Retirements

theorem TallyKept.retireLU (s : State) (n : Nat) : TallyKept s (s.retireLU n) :=
  (((TallyKept.setBit s (R.DIE_UNIT_RETIRE (n / 32)) (n % 32) rfl).trans (.withUnretire _ _)).trans (.luTouch _ _)).trans (.refuseHolding _ _ _)

theorem TallyKept.assignSpare (s : State) (g bank : Nat) : TallyKept s (s.assignSpare g bank) := by
  unfold State.assignSpare
  split
  · exact (((((TallyKept.put _ _ _ _ rfl).trans (.put _ _ _ _ rfl)).trans (.put _ _ _ _ rfl)).trans (.put _ _ _ _ rfl)).trans
      (.spareTaken _ _ _)).trans (.ev _ _ _)
  · exact .ev _ _ _

theorem tallyReg_seamStatus (d k : Nat) : tallyReg (R.SEAM_STATUS d k) = false := by simp [tallyReg, keptReg, unitState, seamCount]

theorem keptReg_seamLane (d k i : Nat) : keptReg (seamLane d k i).1 = false := by
  unfold seamLane
  split_ifs <;> simp [keptReg, unitState, seamCount, Nat.add_mod]

theorem dieSpareFld_low (k : Nat) : (dieSpareFld k).lo + (dieSpareFld k).w ≤ 22 := by
  unfold dieSpareFld
  split <;> decide

theorem TallyKept.retireLane (s : State) (d k i : Nat) : TallyKept s (s.retireLane d k i) := by
  unfold State.retireLane
  refine .ite (.refl _) ?_
  dsimp only
  have h1 : TallyKept s (s.setBit (seamLane d k i).1 (seamLane d k i).2) := .setBit _ _ _ (keptReg_seamLane _ _ _)
  generalize s.setBit (seamLane d k i).1 (seamLane d k i).2 = s1 at h1 ⊢
  have h2 : TallyKept s (((s1.put (R.SEAM_STATUS d k) F.SEAM_STATUS_LANES_OK (s1.lanesOk d k)).put (R.SEAM_STATUS d k)
      F.SEAM_STATUS_SPARE_USED (s1.sparesUsed d k)).put (R.DIE_UNIT_STATE d) (dieSpareFld k) (s1.sparesUsed d k)) :=
    ((h1.trans (.put _ _ _ _ (tallyReg_seamStatus _ _))).trans (.put _ _ _ _ (tallyReg_seamStatus _ _))).trans (.putUnitState _ _ _ (dieSpareFld_low _))
  exact .ite (((h2.trans (.put _ _ _ _ (tallyReg_seamStatus _ _))).trans (.event _ _ _ _)).trans (.liveOn _ _ _)) h2

theorem TallyKept.sieveAbandon (s : State) (d b : Nat) : TallyKept s (s.sieveAbandon d b) := by
  have he : TallyKept s (s.sieveEnd d b) :=
    .ite (((TallyKept.put _ _ _ _ rfl).trans (.put _ _ _ _ rfl)).trans (.put _ _ _ _ rfl)) (.put _ _ _ _ rfl)
  have h : TallyKept s ((s.sieveEnd d b).setSieveAt d b 0) := he.into rfl
  exact .ite (h.trans (.addCtr _ _ _ rfl rfl)) (.ite h (.refl _))

theorem TallyKept.pourBank (s : State) (d b : Nat) : TallyKept s (s.pourBank d b) := by
  have h : ∀ (t : State) (j c : Nat), TallyKept t (t.pourEnd d j c) := fun t j c =>
    .ite (.refl _) ((((TallyKept.setPour _ _ _ _).trans (.put _ _ _ _ rfl)).trans (.put _ _ _ _ rfl)).trans (.ev _ _ _))
  exact .foldl _ (fun _ _ => .ite (h _ _ _) (.refl _)) _

theorem TallyKept.bankViol (s : State) (m d b : Nat) : TallyKept s (s.bankViol m d b) :=
  ((((TallyKept.addCtr _ _ _ rfl rfl).trans (.put _ _ _ _ rfl)).trans (.put _ _ _ _ rfl)).trans (.put _ _ _ _ rfl)).trans (.event' _ _ _ _ _)

theorem TallyKept.mxRetire (s : State) (m i : Nat) : TallyKept s (s.mxRetire m i) :=
  (TallyKept.put _ _ _ _ rfl).since rfl

theorem TallyKept.failBank (s : State) (d b : Nat) : TallyKept s (s.failBank d b) :=
  (TallyKept.withWbWait _ _).trans (.foldl _ (fun _ _ => (TallyKept.mxRetire _ _ _).trans ((TallyKept.bankViol _ _ _ _).trans (.answer _ _))) _)

theorem TallyKept.retireBank (s : State) (d b : Nat) : TallyKept s (s.retireBank d b) :=
  .ite (.refl _) (((((((TallyKept.sieveAbandon _ _ _).trans (.pourBank _ _ _)).trans (.put _ _ _ _ rfl)).trans (.put _ _ _ _ rfl)).trans
    (.put _ _ _ _ rfl)).trans (.stopTimer _ _)).trans (.failBank _ _ _))

theorem TallyKept.spareRow (s : State) (d : Nat) : TallyKept s (s.spareRow d) := .ite (.put _ _ _ _ rfl) (.event' _ _ _ _ _)

theorem TallyKept.retireTarget (s : State) (u : Due) : TallyKept s (s.retireTarget u) := by
  unfold State.retireTarget
  dsimp only
  refine .trans (.trans (t := if u.blk < 7 then _ else _) ?_ (.ite (.safeReact _ _ _ _) (.refl _))) (.leaveSevere _ _ _)
  exact .ite (.ite (.retireLane _ _ _ _) (.ite (.retireBank _ _ _) (.ite (.retireBank _ _ _) (.spareRow _ _))))
    (.ite (.assignSpare _ _ _) (.ite (.foldl _ (fun t i => TallyKept.retireLU t _) _) (.retireLU _ _)))

theorem TallyKept.settleN : ∀ (n : Nat) (s : State), TallyKept s (State.settleN n s)
  | 0, s => .refl s
  | n + 1, s => by
    unfold State.settleN
    split
    · exact .refl s
    · rename_i u t _
      exact ((TallyKept.withDue s t).trans (.retireTarget _ _)).trans (TallyKept.settleN n _)

theorem TallyKept.graveHealth (s : State) : TallyKept s s.graveHealth := by
  have h : ∀ t : State, TallyKept t t.updHealth := fun t =>
    .ite (.put _ _ _ _ rfl) (((TallyKept.put _ _ _ _ rfl).trans (.put _ _ _ _ rfl)).trans (.ev _ _ _))
  exact .ite ((h { s with syncOut := false }).since rfl) (.refl _)

/-- What the end of a command may change: what retirements may, no sticky bit is cleared, and no counter of a Seam port nor a region's power moves. -/
theorem done_tally (s : State) : ∃ t, done s = .next t ∧ ReactOnly s t ∧ TallyKept s t :=
  ⟨_, rfl, (ReactOnly.settleN _ _).trans (.of_note (.graveHealth _)), (TallyKept.settleN _ _).trans (.graveHealth _)⟩

end Sys2Proof.Machine

/-!
What events and counters leave of memory, the map and the traffic; counters; crossings that fail (R13, R14).
-/

namespace Sys2Proof.Machine

-- Control state: what events, counters and the end of a command change

/-- Nothing differs but registers and what events and retirements may change: memory, the map and the traffic stand. -/
structure ControlOnly (s t : State) : Prop where
  rest : t = { s with regs := t.regs, timers := t.timers, hostWrites := t.hostWrites, safe := t.safe, due := t.due, draw := t.draw,
                      syncOut := t.syncOut, firstClk := t.firstClk, txns := t.txns, mateOut := t.mateOut, unretire := t.unretire, sievePos := t.sievePos,
                      spareLast := t.spareLast, refS1 := t.refS1, mainHold := t.mainHold, wbWait := t.wbWait, resp := t.resp,
                      mxOut := t.mxOut, pourJobs := t.pourJobs }

theorem ControlOnly.of_react {s t : State} (h : ReactOnly s t) : ControlOnly s t := ⟨h.rest⟩
theorem ControlOnly.of_event {s t : State} (h : EvOnly s t) : ControlOnly s t := .of_react (.of_event h)
theorem ControlOnly.refl (s : State) : ControlOnly s s := .of_event (.refl s)
theorem ControlOnly.wr (s : State) (r : RegId) (v : Word) : ControlOnly s (s.wr r v) := ⟨rfl⟩
theorem ControlOnly.put (s : State) (r : RegId) (f : Fld) (v : Nat) : ControlOnly s (s.put r f v) := ⟨rfl⟩
theorem ControlOnly.setBit (s : State) (r : RegId) (i : Nat) : ControlOnly s (s.setBit r i) := ⟨rfl⟩
theorem ControlOnly.event (s : State) (b src : Nat) (d : Word) : ControlOnly s (s.event b src d) := .of_event (event_only _ _ _ _)
theorem ControlOnly.ev (s : State) (b src : Nat) : ControlOnly s (s.ev b src) := .event _ _ _ _

theorem ControlOnly.trans {s t u : State} (h : ControlOnly s t) (k : ControlOnly t u) : ControlOnly s u := ⟨by rw [k.rest, h.rest]⟩

theorem ControlOnly.ite {c : Prop} [Decidable c] {s t u : State} (h : ControlOnly s t) (k : ControlOnly s u) :
    ControlOnly s (if c then t else u) := by
  by_cases hc : c <;> simpa [hc]

theorem ControlOnly.addCtr (s : State) (c : Ctr) (n : Nat) : ControlOnly s (s.addCtr c n) := by
  have h : ControlOnly s (s.addRaw c n).1 := by
    unfold State.addRaw
    dsimp only
    split
    · exact ⟨rfl⟩
    · exact ⟨rfl⟩
  unfold State.addCtr
  generalize s.addRaw c n = p at h ⊢
  exact .ite (h.trans (.ev _ _ _)) h

theorem ControlOnly.evIf (s : State) (c : Bool) (b src : Nat) : ControlOnly s (s.evIf c b src) := .ite (.ev _ _ _) (.refl _)

/-- The end of a command leaves memory, the map and the traffic, every sticky bit and the counters of Seam. -/
theorem done_control (s : State) : ∃ t, done s = .next t ∧ ControlOnly s t ∧ TallyKept s t := by
  obtain ⟨t, ht, hr, hk⟩ := done_tally s
  exact ⟨t, ht, .of_react hr, hk⟩

section
variable {s t : State} (h : ControlOnly s t)
include h

theorem ControlOnly.fabric_eq : t.fabric = s.fabric := by rw [h.rest]
theorem ControlOnly.txGrains_eq : t.txGrains = s.txGrains := by rw [h.rest]
theorem ControlOnly.slabs_eq : t.slabs = s.slabs := by rw [h.rest]
theorem ControlOnly.deskew_eq : t.deskew = s.deskew := by rw [h.rest]
theorem ControlOnly.mem_eq : t.mem = s.mem := by rw [h.rest]
theorem ControlOnly.actMap_eq : t.actMap = s.actMap := by rw [h.rest]
theorem ControlOnly.up_eq : t.up = s.up := by rw [h.rest]
end

-- Counters

theorem ctr_setCtr (s : State) {c : Ctr} {v : Nat} (hne : c.lo ≠ c.hi) (hv : v < 2 ^ 48) : (s.setCtr c v).ctr c = v := by
  have hhi : v / 2 ^ 32 < 2 ^ 16 := by omega
  unfold State.setCtr State.ctr
  rw [rd_wr_same, rd_wr_ne _ _ hne.symm, rd_wr_same, BitVec.toNat_ofNat, BitVec.toNat_ofNat]
  omega

theorem ctr_of_rd {s t : State} {c : Ctr} (hl : t.rd c.lo = s.rd c.lo) (hh : t.rd c.hi = s.rd c.hi) : t.ctr c = s.ctr c := by
  unfold State.ctr; rw [hl, hh]

theorem ctr_lt (s : State) (c : Ctr) : s.ctr c < 2 ^ 48 := by
  have := (s.rd c.lo).isLt
  unfold State.ctr
  omega

/-- A counter whose registers events leave alone. -/
structure Ctr.Quiet (c : Ctr) : Prop where
  apart : c.lo ≠ c.hi
  lo : evReg c.lo = false
  hi : evReg c.hi = false

theorem rd_addRaw (s : State) (c : Ctr) (n : Nat) {r : RegId} (hl : r ≠ c.lo) (hh : r ≠ c.hi) (he : evReg r = false) :
    (s.addRaw c n).1.rd r = s.rd r := by
  have h : ∀ v, (s.setCtr c v).rd r = s.rd r := fun v => by unfold State.setCtr; rw [rd_wr_ne _ _ hl, rd_wr_ne _ _ hh]
  have hw : r ≠ (wrapPlace c.lo).1 := by rintro rfl; rw [evReg_wrapPlace] at he; cases he
  unfold State.addRaw
  dsimp only
  split
  · exact h _
  · exact (rd_wr_ne _ _ hw).trans (h _)

theorem ctr_addRaw (s : State) {c : Ctr} (n : Nat) (hc : c.Quiet) : (s.addRaw c n).1.ctr c = (s.ctr c + n) % 2 ^ 48 := by
  have hw : ∀ r, evReg r = false → r ≠ (wrapPlace c.lo).1 := by
    rintro r he rfl; rw [evReg_wrapPlace] at he; cases he
  unfold State.addRaw
  dsimp only
  split
  · next h => rw [ctr_setCtr s hc.apart h, Nat.mod_eq_of_lt h]
  · exact (ctr_of_rd (rd_wr_ne _ _ (hw _ hc.lo)) (rd_wr_ne _ _ (hw _ hc.hi))).trans (ctr_setCtr s hc.apart (Nat.mod_lt _ (by decide)))

theorem EvOnly.ctr_eq {s t : State} (h : EvOnly s t) {c : Ctr} (hc : c.Quiet) : t.ctr c = s.ctr c :=
  ctr_of_rd (h.regs _ hc.lo) (h.regs _ hc.hi)

theorem addCtr_only_event (s : State) (c : Ctr) (n : Nat) : EvOnly (s.addRaw c n).1 (s.addCtr c n) := by
  unfold State.addCtr
  generalize s.addRaw c n = p
  exact .ite (ev_only _ _ _) (.refl _)

/-- A counter after it was counted up (R273). -/
theorem ctr_addCtr (s : State) {c : Ctr} (n : Nat) (hc : c.Quiet) : (s.addCtr c n).ctr c = (s.ctr c + n) % 2 ^ 48 :=
  ((addCtr_only_event s c n).ctr_eq hc).trans (ctr_addRaw s n hc)

/-- Counting up one counter leaves every other register that events leave. -/
theorem rd_addCtr (s : State) (c : Ctr) (n : Nat) {r : RegId} (hl : r ≠ c.lo) (hh : r ≠ c.hi) (he : evReg r = false) :
    (s.addCtr c n).rd r = s.rd r :=
  ((addCtr_only_event s c n).regs r he).trans (rd_addRaw s c n hl hh he)

-- Crossings (R13, R14)

/-- The counter of a boundary, and the event source (Table 03-12, R423). -/
def Boundary.counter : Boundary → Ctr
  | .region g _ => ⟨R.RG_XING_PARITY_LO g, R.RG_XING_PARITY_HI g⟩
  | .cluster n => ⟨R.CL_XING_PARITY_LO (luCluster n), R.CL_XING_PARITY_HI (luCluster n)⟩
  | .seam d k => ⟨R.SEAM_PARITY_LO d k, R.SEAM_PARITY_HI d k⟩
  | .tap d => ⟨R.DIE_TAP_PARITY_LO d, R.DIE_TAP_PARITY_HI d⟩

def Boundary.source : Boundary → Nat × Nat
  | .region g _ => (evRegion g, srcXING_PARITY)
  | .cluster n => (evCluster (luCluster n), srcTX)
  | .seam d _ => (evDie d, srcSEAM_PARITY)
  | .tap d => (evDie d, srcTAP_PARITY)

/-- A crossing that fails is one count and one event at its boundary. -/
theorem parityFail_eq (s : State) (x : Boundary) :
    ∃ d, s.parityFail x = (s.addCtr x.counter 1).event x.source.1 x.source.2 d := by
  cases x <;> exact ⟨_, rfl⟩

theorem Boundary.source_lt (x : Boundary) : x.source.2 < 32 := by
  cases x <;> simp [Boundary.source, srcXING_PARITY, srcTX, srcSEAM_PARITY, srcTAP_PARITY]

theorem evReg_seam {d o : Nat} (h : o < 0xf000) : evReg ⟨.seam, d, o, 0⟩ = false := by
  have : ¬ 0xf000 ≤ o := by omega
  simp [evReg, this]

theorem seamCount_of {d k o : Nat} (hk : k < 3) (hl : 0x10 ≤ o) (hh : o < 0x100) : seamCount ⟨.seam, d, o + 0x100 * k, 0⟩ = true := by
  have h1 : 16 ≤ (o + 256 * k) % 256 := by omega
  have h2 : o + 256 * k < 0xf000 := by omega
  simp only [seamCount, h1, h2]; rfl

/-- A boundary of the package, whose Seam port is one of three. -/
def Boundary.Real : Boundary → Prop
  | .seam _ k => k < 3
  | _ => True

theorem boundaryOf_real (b u k : Nat) : (boundaryOf b u k).Real := by
  unfold boundaryOf
  split
  · trivial
  · trivial
  · exact Nat.mod_lt _ (by decide)
  · trivial

theorem Boundary.Real.quiet {x : Boundary} (h : x.Real) : x.counter.Quiet := by
  cases x with
  | region g i => exact ⟨by simp [Boundary.counter], rfl, rfl⟩
  | cluster n => exact ⟨by simp [Boundary.counter], rfl, rfl⟩
  | seam d k =>
    have hk : k < 3 := h
    exact ⟨by simp [Boundary.counter], evReg_seam (by omega), evReg_seam (by omega)⟩
  | tap d => exact ⟨by simp [Boundary.counter], rfl, rfl⟩

/-- Retirements at the end of a command leave the counter of a boundary. -/
theorem Boundary.Real.kept {x : Boundary} (h : x.Real) {s t : State} (hr : ReactOnly s t) (hk : TallyKept s t) :
    t.ctr x.counter = s.ctr x.counter := by
  cases x with
  | region g i => exact ctr_of_rd (hr.regs _ rfl) (hr.regs _ rfl)
  | cluster n => exact ctr_of_rd (hr.regs _ rfl) (hr.regs _ rfl)
  | seam d k => exact ctr_of_rd (hk.seam _ (seamCount_of h (by decide) (by decide))) (hk.seam _ (seamCount_of h (by decide) (by decide)))
  | tap d => exact ctr_of_rd (hr.regs _ rfl) (hr.regs _ rfl)

theorem ControlOnly.parityFail (s : State) (x : Boundary) : ControlOnly s (s.parityFail x) := by
  obtain ⟨d, h⟩ := parityFail_eq s x
  rw [h]
  exact (ControlOnly.addCtr _ _ _).trans (.event _ _ _ _)

/-- A crossing that fails counts once on its boundary's counter and sets the sticky bit of its source, by the end of its command too (R14). -/
theorem parityFail_done (s : State) {x : Boundary} (h : x.Real) :
    ∃ t, done (s.parityFail x) = .next t ∧ t.bit (R.EVT_STICKY x.source.1) x.source.2 = true ∧
      t.ctr x.counter = (s.ctr x.counter + 1) % 2 ^ 48 := by
  obtain ⟨d, hp⟩ := parityFail_eq s x
  obtain ⟨t, ht, hr, hk⟩ := done_tally (s.parityFail x)
  rw [hp] at hr hk
  exact ⟨t, ht, hk.sticky _ _ (event_sticky _ d x.source_lt),
    (h.kept hr hk).trans (((event_only _ _ _ d).ctr_eq h.quiet).trans (ctr_addCtr s 1 h.quiet))⟩

/-- What a crossing makes of the grain that it names. -/
def State.crossing (s : State) (b u k : Nat) (i : Option Nat) (g : Grain) : State :=
  match i with
  | none => s
  | some i =>
    match b with
    | 0 => if k = 16 then s.crossRegion (u % 8) i g else s.crossLu (16 * (u % 8) + k) (i % 155520) (decide (155520 ≤ i)) g
    | 1 => { s with txGrains := s.txGrains.map (fun e => if e.1 = 155520 * u + i then (e.1, crossed g) else e) }
    | 2 => s.crossSeam (u % 4) i g
    | _ => s

theorem exec_grainCrossing (b : Fin 4) (u : Fin 128) (k : Fin 17) (i : Option Nat) (g : Grain) (s : State) :
    exec (.grainCrossing b u k i g) s =
      if oddParity g = true then .next (s.crossing b u k i g) else done ((s.crossing b u k i g).parityFail (boundaryOf b u k)) := by
  show execGrainCrossing b u k i g s = _
  unfold execGrainCrossing State.crossing
  rfl

theorem crossing_regs (s : State) (b u k : Nat) (i : Option Nat) (g : Grain) : (s.crossing b u k i g).regs = s.regs := by
  unfold State.crossing State.crossRegion State.crossLu State.crossSeam
  split
  · rfl
  · split
    · split <;> rfl
    all_goals rfl

/-- A crossing leaves of traffic and memory what it makes of its grain. -/
theorem grainCrossing_control (b : Fin 4) (u : Fin 128) (k : Fin 17) (i : Option Nat) (g : Grain) (s : State) :
    ∃ t, exec (.grainCrossing b u k i g) s = .next t ∧ ControlOnly (s.crossing b u k i g) t := by
  rw [exec_grainCrossing]
  split
  · exact ⟨_, rfl, .refl _⟩
  · obtain ⟨t, ht, hc, -⟩ := done_control ((s.crossing b u k i g).parityFail (boundaryOf b u k))
    exact ⟨t, ht, (ControlOnly.parityFail _ _).trans hc⟩

/-- A crossing that fails counts at its boundary. -/
theorem grainCrossing_counts (b : Fin 4) (u : Fin 128) (k : Fin 17) (i : Option Nat) {g : Grain} (s : State) (hg : oddParity g = false) :
    let x := boundaryOf b u k
    ∃ t, exec (.grainCrossing b u k i g) s = .next t ∧ t.bit (R.EVT_STICKY x.source.1) x.source.2 = true ∧
      t.ctr x.counter = (s.ctr x.counter + 1) % 2 ^ 48 := by
  have same : ∀ c, (s.crossing b u k i g).ctr c = s.ctr c := fun c => by
    unfold State.ctr State.rd; rw [crossing_regs]
  intro x
  rw [exec_grainCrossing, if_neg (by simp [hg]), ← same]
  exact parityFail_done _ (boundaryOf_real _ _ _)

end Sys2Proof.Machine

/-!
What a crossing makes of the grain it names, in the list of dispatched grains.
-/

namespace Sys2Proof.Machine

/-- The dispatched grain e is one that LU n gave its region at the position that i names (notes/assumptions/114.md). -/
def State.LuGrain (s : State) (n i : Nat) (e : FabGrain) : Prop :=
  e.link ∈ s.feedNames n ∧ e.pos = i % 155520 ∧ e.eq = false ∧ (if 155520 ≤ i then e.whole else e.trib) = true

/-- The model's own form of that condition. -/
def State.luGrain (s : State) (n i : Nat) (e : FabGrain) : Bool :=
  (s.feedNames n).contains e.link && e.pos == i % 155520 && !e.eq && (if decide (155520 ≤ i) = true then e.whole else e.trib)

theorem luGrain_iff (s : State) (n i : Nat) (e : FabGrain) : s.luGrain n i e = true ↔ s.LuGrain n i e := by
  simp [State.LuGrain, State.luGrain, and_assoc]

/-- The latest departure of a list of grains. -/
def latestDep (l : List FabGrain) : Nat := l.foldl (fun m f => max m f.dep) 0

/-- The latest departure is above the start value and every departure of the list. -/
theorem le_latest (l : List FabGrain) : ∀ m : Nat, m ≤ l.foldl (fun m f => max m f.dep) m ∧ ∀ x ∈ l, x.dep ≤ l.foldl (fun m f => max m f.dep) m := by
  induction l with
  | nil => simp
  | cons a l ih =>
    intro m
    obtain ⟨h0, h⟩ := ih (max m a.dep)
    simp only [List.foldl_cons, List.forall_mem_cons]
    exact ⟨by omega, by omega, h⟩

theorem latest_le {l : List FabGrain} {d : Nat} (h : ∀ x ∈ l, x.dep ≤ d) : ∀ {m : Nat}, m ≤ d → l.foldl (fun m f => max m f.dep) m ≤ d := by
  induction l with
  | nil => intro m hm; simpa using hm
  | cons a l ih =>
    intro m hm
    have ha := h a (by simp)
    exact ih (fun x hx => h x (by simp [hx])) (max_le hm ha)

/-- Where LU n's grain of a position leaves for its region as g, the latest that is made of it takes what the region received. -/
theorem crossLu_fabric (s : State) (n i : Nat) (g : Grain) {j : Nat} {e : FabGrain} (hj : s.fabric[j]? = some e) :
    (s.LuGrain n i e → (∀ x ∈ s.fabric, s.LuGrain n i x → x.dep ≤ e.dep) →
      (s.crossLu n (i % 155520) (decide (155520 ≤ i)) g).fabric[j]? = some { e with g := crossed g }) ∧
    (¬ s.LuGrain n i e ∨ (∃ x ∈ s.fabric, s.LuGrain n i x ∧ e.dep < x.dep) →
      (s.crossLu n (i % 155520) (decide (155520 ≤ i)) g).fabric[j]? = some e) := by
  have fab : (s.crossLu n (i % 155520) (decide (155520 ≤ i)) g).fabric = s.fabric.map (fun f =>
      if (s.luGrain n i f && f.dep == latestDep (s.fabric.filter (s.luGrain n i))) = true then { f with g := crossed g } else f) := rfl
  have upper : ∀ x ∈ s.fabric, s.LuGrain n i x → x.dep ≤ latestDep (s.fabric.filter (s.luGrain n i)) :=
    fun x hx h => (le_latest _ 0).2 x (List.mem_filter.2 ⟨hx, (luGrain_iff s n i x).2 h⟩)
  have least : ∀ d, (∀ x ∈ s.fabric, s.LuGrain n i x → x.dep ≤ d) → latestDep (s.fabric.filter (s.luGrain n i)) ≤ d :=
    fun d h => latest_le (fun x hx => h x (List.mem_filter.1 hx).1 ((luGrain_iff s n i x).1 (List.mem_filter.1 hx).2)) (Nat.zero_le d)
  generalize latestDep (s.fabric.filter (s.luGrain n i)) = last at fab upper least
  rw [fab, List.getElem?_map, hj, Option.map_some]
  constructor
  · intro he hall
    have hd : e.dep = last := le_antisymm (upper e (List.mem_of_getElem? hj) he) (least _ hall)
    simp [(luGrain_iff s n i e).2 he, hd]
  · rintro (he | ⟨x, hx, hlx, hlt⟩)
    · simp [show s.luGrain n i e = false from by simpa using mt (luGrain_iff s n i e).1 he]
    · have : e.dep ≠ last := by have := upper x hx hlx; omega
      simp [this]

theorem crossLu_deskew_names (s : State) (n p : Nat) (raw : Bool) (g : Grain) :
    (s.crossLu n p raw g).deskew.map (fun e => e.1) = s.deskew.map (fun e => e.1) := by
  cases raw
  · show (s.deskew.map (fun e => if (s.feedNames n).contains (taLink (BitVec.ofNat 24 e.1)) then (e.1, _) else e)).map _ = _
    rw [List.map_map]
    refine List.map_congr_left fun e _ => ?_
    dsimp only [Function.comp]
    split <;> rfl
  · rfl

/-- A list of lists of one item each. -/
theorem flatten_mapIdx_singleton {α : Type} (l : List α) : (l.mapIdx (fun _ x => [x])).flatten = l := by
  induction l with
  | nil => rfl
  | cons a l ih => rw [List.mapIdx_cons, List.flatten_cons, ih]; rfl

/-- A list with one place's item replaced by others. -/
theorem flatten_mapIdx_at {α : Type} (l : List α) (i : Nat) (f : α → List α) {e : α} (h : l[i]? = some e) :
    (l.mapIdx (fun j x => if j = i then f x else [x])).flatten = l.take i ++ f e ++ l.drop (i + 1) := by
  induction l generalizing i with
  | nil => simp at h
  | cons a l ih =>
    have tail : ∀ k, (l.mapIdx (fun j x => if j + 1 = k + 1 then f x else [x])) = l.mapIdx (fun j x => if j = k then f x else [x]) := fun k => by simp
    cases i with
    | zero =>
      obtain rfl : a = e := by simpa using h
      rw [List.mapIdx_cons]
      simp [flatten_mapIdx_singleton]
    | succ i =>
      rw [List.mapIdx_cons, tail, List.flatten_cons, ih i (by simpa using h)]
      simp

theorem crossRegion_fabric (s : State) (y i : Nat) (g : Grain) {e : FabGrain} (h : s.fabric[i]? = some e) :
    (s.crossRegion y i g).fabric = s.fabric.take i ++ (if e.regs.contains y = true then
      (if e.regs.all (fun z => z == y) then [{ e with g := crossed g }]
       else [{ e with regs := e.regs.filter (fun z => z != y) }, { e with regs := [y], g := crossed g }]) else [e]) ++ s.fabric.drop (i + 1) := by
  rw [← flatten_mapIdx_at s.fabric i (fun e => if e.regs.contains y = true then
      (if e.regs.all (fun z => z == y) then [{ e with g := crossed g }]
       else [{ e with regs := e.regs.filter (fun z => z != y) }, { e with regs := [y], g := crossed g }]) else [e]) h]
  unfold State.crossRegion
  dsimp only
  congr 2
  funext j x
  by_cases hj : j = i <;> simp [hj]

theorem take_cons_drop_set {α : Type} {l : List α} {i : Nat} {e : α} (h : l[i]? = some e) (x : α) :
    l.take i ++ [x] ++ l.drop (i + 1) = l.set i x := by
  have hi : i < l.length := (List.getElem?_eq_some_iff.1 h).1
  rw [List.set_eq_take_append_cons_drop, if_pos hi]; simp

theorem crossSeam_fabric (s : State) (d i : Nat) (g : Grain) {e : FabGrain} (h : s.fabric[i]? = some e) :
    (s.crossSeam d i g).fabric = if e.die = d then s.fabric.set i { e with g := crossed g } else s.fabric := by
  show s.fabric.mapIdx (fun j e => if j = i ∧ e.die = d then { e with g := crossed g } else e) = _
  refine List.ext_getElem? fun j => ?_
  rw [List.getElem?_mapIdx]
  by_cases hj : j = i
  · subst hj
    have hlt : j < s.fabric.length := (List.getElem?_eq_some_iff.1 h).1
    by_cases hd : e.die = d
    · rw [h, if_pos hd, List.getElem?_set_self hlt]; simp [hd]
    · rw [h, if_neg hd, h]; simp [hd]
  · by_cases hd : e.die = d <;> simp [hd, hj, Ne.symm hj]

end Sys2Proof.Machine

/-!
GRAIN_CROSSING at each boundary (R13, R14).
-/

namespace Sys2Proof.Machine

theorem crossing_lu (s : State) (u k i : Nat) (g : Grain) (h : k ≠ 16) :
    s.crossing 0 u k (some i) g = s.crossLu (16 * (u % 8) + k) (i % 155520) (decide (155520 ≤ i)) g := if_neg h

/-- Where a grain enters one region of a die, the grain that goes on to the other is as it was. -/
theorem crossRegion_cases (s : State) (y i : Nat) (g : Grain) {e : FabGrain} (h : s.fabric[i]? = some e) :
    (y ∉ e.regs → (s.crossRegion y i g).fabric = s.fabric) ∧
    (y ∈ e.regs → (∀ z ∈ e.regs, z = y) → (s.crossRegion y i g).fabric = s.fabric.set i { e with g := crossed g }) ∧
    (y ∈ e.regs → (∃ z ∈ e.regs, z ≠ y) → (s.crossRegion y i g).fabric = s.fabric.take i ++
      [{ e with regs := e.regs.filter (fun z => z != y) }, { e with regs := [y], g := crossed g }] ++ s.fabric.drop (i + 1)) := by
  rw [crossRegion_fabric s y i g h]
  refine ⟨fun hy => ?_, fun hy hall => ?_, fun hy ⟨z, hz, hne⟩ => ?_⟩
  · rw [if_neg (by simpa using hy), take_cons_drop_set h]
    obtain ⟨hi, he⟩ := List.getElem?_eq_some_iff.1 h
    rw [← he, List.set_getElem_self]
  · rw [if_pos (by simpa using hy), if_pos (by simpa using hall), take_cons_drop_set h]
  · rw [if_pos (by simpa using hy), if_neg (by simpa using ⟨z, hz, hne⟩)]

theorem grainCrossing_passes (b : Fin 4) (u : Fin 128) (k : Fin 17) {g : Grain} (s : State) (h : oddParity g = true) :
    exec (.grainCrossing b u k none g) s = .next s := by
  rw [exec_grainCrossing, if_pos h]; rfl

/-- A grain leaves its LU for its region. -/
theorem grainCrossing_leavesLu (u : Fin 128) (k : Fin 17) (i : Nat) (g : Grain) (s : State) (hk : k.val ≠ 16) :
    let n := 16 * (u.val % 8) + k.val
    ∃ t, exec (.grainCrossing 0 u k (some i) g) s = .next t ∧ t.txGrains = s.txGrains ∧ t.slabs = s.slabs ∧ t.mem = s.mem ∧
      (155520 ≤ i → t.deskew = s.deskew) ∧ t.deskew.map (fun e => e.1) = s.deskew.map (fun e => e.1) ∧
      ∀ (j : Nat) (e : FabGrain), s.fabric[j]? = some e →
        (s.LuGrain n i e → (∀ x ∈ s.fabric, s.LuGrain n i x → x.dep ≤ e.dep) → t.fabric[j]? = some { e with g := crossed g }) ∧
        (¬ s.LuGrain n i e ∨ (∃ x ∈ s.fabric, s.LuGrain n i x ∧ e.dep < x.dep) → t.fabric[j]? = some e) := by
  intro n
  obtain ⟨t, ht, hc⟩ := grainCrossing_control 0 u k (some i) g s
  rw [show ((0 : Fin 4) : Nat) = 0 from rfl, crossing_lu s u k i g hk] at hc
  refine ⟨t, ht, hc.txGrains_eq, hc.slabs_eq, hc.mem_eq, fun hi => ?_, ?_, fun j e hj => ?_⟩
  · rw [hc.deskew_eq, decide_eq_true hi]; rfl
  · rw [hc.deskew_eq]; exact crossLu_deskew_names _ _ _ _ _
  · rw [hc.fabric_eq]; exact crossLu_fabric s n i g hj

/-- A grain enters a region from a Seam or from the die common. -/
theorem grainCrossing_entersRegion (u : Fin 128) (i : Nat) (g : Grain) (s : State) :
    ∃ t, exec (.grainCrossing 0 u 16 (some i) g) s = .next t ∧ t.txGrains = s.txGrains ∧ t.slabs = s.slabs ∧ t.mem = s.mem ∧ t.deskew = s.deskew ∧
      t.fabric = (s.crossRegion (u.val % 8) i g).fabric := by
  obtain ⟨t, ht, hc⟩ := grainCrossing_control 0 u 16 (some i) g s
  exact ⟨t, ht, hc.txGrains_eq, hc.slabs_eq, hc.mem_eq, hc.deskew_eq, hc.fabric_eq⟩

/-- A grain enters a die from a Seam. -/
theorem grainCrossing_entersDie (u : Fin 128) (k : Fin 17) (i : Nat) (g : Grain) (e : FabGrain) (s : State) (h : s.fabric[i]? = some e) :
    ∃ t, exec (.grainCrossing 2 u k (some i) g) s = .next t ∧ t.txGrains = s.txGrains ∧ t.slabs = s.slabs ∧ t.mem = s.mem ∧
      t.fabric = (if e.die = u.val % 4 then s.fabric.set i { e with g := crossed g } else s.fabric) := by
  obtain ⟨t, ht, hc⟩ := grainCrossing_control 2 u k (some i) g s
  exact ⟨t, ht, hc.txGrains_eq, hc.slabs_eq, hc.mem_eq, hc.fabric_eq.trans (crossSeam_fabric s _ i g h)⟩

/-- A grain on its way to Skim has left the traffic. -/
theorem grainCrossing_entersSkim (u : Fin 128) (k : Fin 17) (i : Option Nat) (g : Grain) (s : State) :
    ∃ t, exec (.grainCrossing 3 u k i g) s = .next t ∧ t.fabric = s.fabric ∧ t.txGrains = s.txGrains ∧ t.slabs = s.slabs ∧ t.mem = s.mem := by
  have same : s.crossing 3 u k i g = s := by cases i <;> rfl
  obtain ⟨t, ht, hc⟩ := grainCrossing_control 3 u k i g s
  replace hc : ControlOnly (s.crossing 3 u k i g) t := hc
  rw [same] at hc
  exact ⟨t, ht, hc.fabric_eq, hc.txGrains_eq, hc.slabs_eq, hc.mem_eq⟩

/-- A grain arrives at the cluster boundary of its LU. -/
theorem grainCrossing_entersCluster (u : Fin 128) (k : Fin 17) (i : Nat) (g : Grain) (s : State) :
    ∃ t, exec (.grainCrossing 1 u k (some i) g) s = .next t ∧
      t.txGrains = s.txGrains.map (fun e => if e.1 = 155520 * u.val + i then (e.1, crossed g) else e) ∧
      t.fabric = s.fabric ∧ t.slabs = s.slabs ∧ t.mem = s.mem := by
  obtain ⟨t, ht, hc⟩ := grainCrossing_control 1 u k (some i) g s
  exact ⟨t, ht, hc.txGrains_eq, hc.fabric_eq, hc.slabs_eq, hc.mem_eq⟩

/-- A crossing that fails counts on its boundary's counter and source. -/
theorem grainCrossing_countsEach (u : Fin 128) (k : Fin 17) (i : Option Nat) (g : Grain) (s : State) (hg : oddParity g = false) :
    (∃ t, exec (.grainCrossing 0 u k i g) s = .next t ∧ t.bit (R.EVT_STICKY (evRegion (u.val % 8))) srcXING_PARITY = true ∧
      t.ctr ⟨R.RG_XING_PARITY_LO (u.val % 8), R.RG_XING_PARITY_HI (u.val % 8)⟩ =
        (s.ctr ⟨R.RG_XING_PARITY_LO (u.val % 8), R.RG_XING_PARITY_HI (u.val % 8)⟩ + 1) % 2 ^ 48) ∧
    (∃ t, exec (.grainCrossing 1 u k i g) s = .next t ∧ t.bit (R.EVT_STICKY (evCluster (luCluster u))) srcTX = true ∧
      t.ctr ⟨R.CL_XING_PARITY_LO (luCluster u), R.CL_XING_PARITY_HI (luCluster u)⟩ =
        (s.ctr ⟨R.CL_XING_PARITY_LO (luCluster u), R.CL_XING_PARITY_HI (luCluster u)⟩ + 1) % 2 ^ 48) ∧
    (∃ t, exec (.grainCrossing 2 u k i g) s = .next t ∧ t.bit (R.EVT_STICKY (evDie (u.val % 4))) srcSEAM_PARITY = true ∧
      t.ctr ⟨R.SEAM_PARITY_LO (u.val % 4) (k.val % 3), R.SEAM_PARITY_HI (u.val % 4) (k.val % 3)⟩ =
        (s.ctr ⟨R.SEAM_PARITY_LO (u.val % 4) (k.val % 3), R.SEAM_PARITY_HI (u.val % 4) (k.val % 3)⟩ + 1) % 2 ^ 48) ∧
    ∃ t, exec (.grainCrossing 3 u k i g) s = .next t ∧ t.bit (R.EVT_STICKY (evDie (u.val % 4))) srcTAP_PARITY = true ∧
      t.ctr ⟨R.DIE_TAP_PARITY_LO (u.val % 4), R.DIE_TAP_PARITY_HI (u.val % 4)⟩ =
        (s.ctr ⟨R.DIE_TAP_PARITY_LO (u.val % 4), R.DIE_TAP_PARITY_HI (u.val % 4)⟩ + 1) % 2 ^ 48 := by
  have cluster : boundaryOf 1 u k = .cluster u := congrArg Boundary.cluster (Nat.mod_eq_of_lt u.isLt)
  have atCluster := grainCrossing_counts 1 u k i s hg
  rw [show ((1 : Fin 4) : Nat) = 1 from rfl, cluster] at atCluster
  exact ⟨grainCrossing_counts 0 u k i s hg, atCluster, grainCrossing_counts 2 u k i s hg, grainCrossing_counts 3 u k i s hg⟩

end Sys2Proof.Machine

/-!
GRAIN_DISPATCH and SEAM_BLOCK_RECEIVE (R58, R59).
-/

namespace Sys2Proof.Machine

-- Dispatch (R58)

/-- Nothing but what the deskew holds differs. -/
theorem deskewIn_rest (s : State) (n p : Nat) (g : Grain) : s.deskewIn n p g = { s with deskew := (s.deskewIn n p g).deskew } := by
  unfold State.deskewIn
  refine List.foldlRecOn (motive := fun t : State => t = { s with deskew := t.deskew }) _ _ rfl fun t ht e _ => ?_
  dsimp only
  split
  · exact ht
  · exact List.foldlRecOn (motive := fun t : State => t = { s with deskew := t.deskew }) _ _ ht fun v hv w _ => by rw [hv]

/-- A step that appends at most one grain for each die. -/
theorem foldl_append_fabric {α : Type} (none' : α → Bool) (y : α → FabGrain) (l : List α) :
    ∀ s : State, l.foldl (fun u d => if none' d = true then u else { u with fabric := u.fabric ++ [y d] }) s =
      { s with fabric := s.fabric ++ l.filterMap (fun d => if none' d = true then none else some (y d)) } := by
  induction l with
  | nil => intro s; simp
  | cons d l ih =>
    intro s
    rw [List.foldl_cons, ih, List.filterMap_cons]
    by_cases h : none' d = true <;> simp [h]

/-- The regions of die d with an entry that needs a grain of name l, position p. -/
def State.regionsFor (s : State) (l p : Nat) (raw : Bool) (d : Nat) : List Nat :=
  [2 * d, 2 * d + 1].filter (fun x => s.served.any (fun r => luRegion (taLink r.eg) == x &&
    !((s.sourcesAt r l p).filter (fun u => if taKind u = 0 then raw else !raw)).isEmpty))

/-- A grain with no deskew on its way is sent once to each die with a region that needs it and whose Seam is up. -/
theorem dispatchName_plain (s : State) (n l p dep : Nat) (at' : Option Nat) (raw bad : Bool) (g : Grain)
    (h : ∀ r ∈ s.served, ∀ u ∈ s.sourcesAt r l p, (s.equaliser (s.srcAu3 u) u).isSome = false) :
    ∃ dk, s.dispatchName n l p ⟨dep, at', raw, !raw, bad⟩ g =
      { s with deskew := dk, fabric := s.fabric ++ [0, 1, 2, 3].filterMap (fun d =>
        if ((s.regionsFor l p raw d).isEmpty || !s.seamUp (luDie n) d) = true then none
        else some ⟨d, l, p, dep, at', raw, !raw, false, s.regionsFor l p raw d, g⟩) } := by
  have noEqs : s.served.flatMap (fun r => ((s.sourcesAt r l p).filter (servesKind raw (!raw))).filter
      (fun t => (s.equaliser (s.srcAu3 t) t).isSome)) = [] := by
    refine List.flatMap_eq_nil_iff.2 fun r hr => List.filter_eq_nil_iff.2 fun u hu => ?_
    simp [h r hr u (List.mem_filter.1 hu).1]
  have regs : ∀ d, [2 * d, 2 * d + 1].filter (fun y => s.served.any (fun r => luRegion (taLink r.eg) == y &&
      ((s.sourcesAt r l p).filter (servesKind raw (!raw))).any (fun t => !([] : List TA).contains t))) = s.regionsFor l p raw d := by
    intro d
    unfold State.regionsFor
    congr 1; funext y; congr 1; funext r; congr 1
    change _ = !((s.sourcesAt r l p).filter (servesKind raw (!raw))).isEmpty
    cases (s.sourcesAt r l p).filter (servesKind raw (!raw)) <;> simp
  unfold State.dispatchName
  dsimp only
  rw [noEqs]
  simp only [List.eraseDups_nil, List.foldl_nil, regs]
  rw [foldl_append_fabric (fun d => (s.regionsFor l p raw d).isEmpty || !s.seamUp (luDie n) d)]
  cases raw
  · rw [show (if (!false) = true then s.deskewIn l p g else s) = s.deskewIn l p g from rfl, deskewIn_rest]
    exact ⟨_, rfl⟩
  · exact ⟨_, rfl⟩

theorem grainDispatch_sends (n : Fin 128) (p : Fin 155520) (raw map : Bool) (b : Byte) (k : Nat) (s : State) (hk : s.nLink n = some k)
    (htg : s.isTG n = false) (hp : p.val < frameBytes k) (hf : s.feedNames n = [n.val]) (hrx : s.rxStopped n = false)
    (hrg : s.regionStopped (luRegion n) = false)
    (heq : ∀ r ∈ s.served, ∀ u ∈ s.sourcesAt r n p, (s.equaliser (s.srcAu3 u) u).isSome = false) :
    ∃ t, exec (.grainDispatch n p raw map b []) s = .next t ∧
      t.fabric = s.fabric ++ [0, 1, 2, 3].filterMap (fun d =>
        if ((s.regionsFor n p raw d).isEmpty || !s.seamUp (luDie n) d) = true then none
        else some ⟨d, n, p, s.up, none, raw, !raw, false, s.regionsFor n p raw d, mkGrain (!raw && s.markAt n p) b⟩) ∧
      (map = true → t.bit (R.EVT_STICKY (evDie (luDie n))) srcMAP = true) ∧ t.slabs = s.slabs ∧ t.mem = s.mem := by
  obtain ⟨dk, hd⟩ := dispatchName_plain s n n p s.up none raw (anyBad []) (mkGrain (!raw && s.markAt n p) b) heq
  have sent : exec (.grainDispatch n p raw map b []) s =
      done ((s.dispatchName n n p ⟨s.up, none, raw, !raw, anyBad []⟩ (mkGrain (!raw && s.markAt n p) b)).evIf map (evDie (luDie n)) srcMAP) := by
    show execGrainDispatch n p raw map b [] s = _
    unfold execGrainDispatch State.dispatch
    simp [hk, htg, hp, hf, hrx, hrg]
  rw [sent, hd]
  generalize hs1 : ({ s with deskew := dk, fabric := _ } : State) = s1
  obtain ⟨t, ht, hc, hy⟩ := done_control (s1.evIf map (evDie (luDie n)) srcMAP)
  have hall := (ControlOnly.evIf s1 map (evDie (luDie n)) srcMAP).trans hc
  subst hs1
  refine ⟨t, ht, hall.fabric_eq, fun hm => hy.sticky _ _ ?_, hall.slabs_eq, hall.mem_eq⟩
  rw [hm]
  exact ev_sticky _ (by decide)

-- Seams (R59)

/-- A Seam block that passes its check is no event. -/
theorem seamBlock_passes (d : Fin 4) (k : Fin 3) (ok2 : Bool) (grains : List Nat) (s : State) (hs : Settled s) :
    exec (.seamBlockReceive d k true ok2 grains none) s = .next s := by
  show execSeamBlockReceive d k true ok2 grains none s = _
  unfold execSeamBlockReceive
  simp [done_settled hs]

/-- A lane that is retired counts on the die's event source (Table 14-4). -/
theorem seamBlock_lane (d : Fin 4) (k : Fin 3) (grains : List Nat) (x : Fin 66) (s : State)
    (hu : s.flag (R.SEAM_STATUS d k) F.SEAM_STATUS_UP = true) :
    ∃ t, exec (.seamBlockReceive d k true true grains (some x)) s = .next t ∧ t.bit (R.EVT_STICKY (evDie d)) srcSEAM_LANE = true ∧
      ReactOnly s t := by
  have run : exec (.seamBlockReceive d k true true grains (some x)) s = done (s.event (evDie d) srcSEAM_LANE (seamDetail k x)) := by
    show execSeamBlockReceive d k true true grains (some x) s = _
    unfold execSeamBlockReceive
    simp [hu]
  obtain ⟨t, ht, hr, hy⟩ := done_tally (s.event (evDie d) srcSEAM_LANE (seamDetail k x))
  exact ⟨t, run.trans ht, hy.sticky _ _ (event_sticky s _ (by decide)), (ReactOnly.of_event (event_only _ _ _ _)).trans hr⟩

/-- Counting sets no sticky bit back. -/
theorem sticky_addCtr {s : State} {c : Ctr} (n : Nat) {b i : Nat} (hl : R.EVT_STICKY b ≠ c.lo) (hh : R.EVT_STICKY b ≠ c.hi)
    (h : s.bit (R.EVT_STICKY b) i = true) : (s.addCtr c n).bit (R.EVT_STICKY b) i = true := by
  have set : ∀ v, (s.setCtr c v).bit (R.EVT_STICKY b) i = true := fun v => by
    unfold State.setCtr State.bit at *; rw [rd_wr_ne _ _ hl, rd_wr_ne _ _ hh, h]
  have raw : (s.addRaw c n).1.bit (R.EVT_STICKY b) i = true := by
    unfold State.addRaw
    dsimp only
    split
    · exact set _
    · rw [bit_setBit, set, ite_self]
  unfold State.addCtr
  generalize s.addRaw c n = p at raw ⊢
  exact (TallyKept.ite (.ev _ _ _) (.refl _)).sticky b i raw

/-- The counters of a Seam port (R59). -/
def seamReplays (d k : Nat) : Ctr := ⟨R.SEAM_REPLAY_LO d k, R.SEAM_REPLAY_HI d k⟩
def seamLosses (d k : Nat) : Ctr := ⟨R.SEAM_LOST_LO d k, R.SEAM_LOST_HI d k⟩

theorem seamReplays_quiet (d : Nat) {k : Nat} (h : k < 3) : (seamReplays d k).Quiet :=
  ⟨by simp [seamReplays], evReg_seam (by omega), evReg_seam (by omega)⟩
theorem seamLosses_quiet (d : Nat) {k : Nat} (h : k < 3) : (seamLosses d k).Quiet :=
  ⟨by simp [seamLosses], evReg_seam (by omega), evReg_seam (by omega)⟩

/-- The grains that a lost block carried leave the traffic. -/
def lostWith (l : List FabGrain) (mine : Nat → FabGrain → Bool) : List FabGrain :=
  (l.mapIdx (fun j e => if mine j e = true then [] else [e])).flatten

theorem not_mem_lostWith {l : List FabGrain} {mine : Nat → FabGrain → Bool} {j : Nat} {e : FabGrain} (hm : mine j e = true)
    (ho : e ∉ l.eraseIdx j) : e ∉ lostWith l mine := by
  intro he
  obtain ⟨x, hx, hex⟩ := List.mem_flatten.1 he
  obtain ⟨i, hi, rfl⟩ := List.mem_mapIdx.1 hx
  split at hex
  · simp at hex
  next hn =>
    obtain rfl : e = l[i] := by simpa using hex
    refine ho (List.mem_eraseIdx_iff_getElem?.2 ⟨i, ?_, List.getElem?_eq_getElem hi⟩)
    rintro rfl
    exact hn hm

/-- After the replay: a block lost for good takes its grains with it. -/
def State.seamLost (s : State) (d k : Nat) (grains : List Nat) : State :=
  { s with fabric := lostWith s.fabric (fun j e => grains.contains j && e.die == d && luDie e.link == (d + 1 + k) % 4) }.addCtr (seamLosses d k) 1

/-- A Seam block that fails its check. -/
theorem exec_seamBlock_fails (d : Fin 4) (k : Fin 3) (ok2 : Bool) (grains : List Nat) (s : State)
    (hu : s.flag (R.SEAM_STATUS d k) F.SEAM_STATUS_UP = true) :
    exec (.seamBlockReceive d k false ok2 grains none) s =
      let s1 := (s.addCtr (seamReplays d k) 1).event (evDie d) srcSEAM_REPLAY (seamDetail k 0x7F)
      done (if ok2 = true then s1 else s1.seamLost d k grains) := by
  show execSeamBlockReceive d k false ok2 grains none s = _
  unfold execSeamBlockReceive State.seamLost lostWith
  cases ok2 <;> simp only [hu, Bool.not_true, Bool.false_or, Bool.false_eq_true, ↓reduceIte] <;> rfl

theorem seamLost_rest (s : State) (d k : Nat) (grains : List Nat) :
    ControlOnly { s with fabric := lostWith s.fabric (fun j e => grains.contains j && e.die == d && luDie e.link == (d + 1 + k) % 4) }
      (s.seamLost d k grains) := .addCtr _ _ _

/-- A Seam block that fails its check counts a replay, and one whose replay fails too loses its grains and counts as lost. -/
theorem seamBlock_fails (d : Fin 4) (k : Fin 3) (ok2 : Bool) (grains : List Nat) (s : State)
    (hu : s.flag (R.SEAM_STATUS d k) F.SEAM_STATUS_UP = true) :
    ∃ t, exec (.seamBlockReceive d k false ok2 grains none) s = .next t ∧ t.bit (R.EVT_STICKY (evDie d)) srcSEAM_REPLAY = true ∧
      t.ctr (seamReplays d k) = (s.ctr (seamReplays d k) + 1) % 2 ^ 48 ∧
      t.ctr (seamLosses d k) = (s.ctr (seamLosses d k) + (if ok2 then 0 else 1)) % 2 ^ 48 ∧
      (ok2 = true → t.fabric = s.fabric) ∧
      (ok2 = false → ∀ j e, s.fabric[j]? = some e → j ∈ grains → e.die = d.val → luDie e.link = (d.val + 1 + k.val) % 4 → e ∉ s.fabric.eraseIdx j →
        e ∉ t.fabric) ∧ t.slabs = s.slabs := by
  have hk := k.isLt
  have qr := seamReplays_quiet d hk
  have ql := seamLosses_quiet d hk
  have evO := event_only (s.addCtr (seamReplays d k) 1) (evDie d) srcSEAM_REPLAY (seamDetail k 0x7F)
  have co1 : ControlOnly s ((s.addCtr (seamReplays d k) 1).event (evDie d) srcSEAM_REPLAY (seamDetail k 0x7F)) :=
    (ControlOnly.addCtr _ _ _).trans (.event _ _ _ _)
  have st1 : ((s.addCtr (seamReplays d k) 1).event (evDie d) srcSEAM_REPLAY (seamDetail k 0x7F)).bit (R.EVT_STICKY (evDie d)) srcSEAM_REPLAY = true :=
    event_sticky _ _ (by decide)
  have cr1 : ((s.addCtr (seamReplays d k) 1).event (evDie d) srcSEAM_REPLAY (seamDetail k 0x7F)).ctr (seamReplays d k) =
      (s.ctr (seamReplays d k) + 1) % 2 ^ 48 := (evO.ctr_eq qr).trans (ctr_addCtr s 1 qr)
  have cl1 : ((s.addCtr (seamReplays d k) 1).event (evDie d) srcSEAM_REPLAY (seamDetail k 0x7F)).ctr (seamLosses d k) = s.ctr (seamLosses d k) :=
    (evO.ctr_eq ql).trans (ctr_of_rd (rd_addCtr _ _ _ (by simp [seamLosses, seamReplays]) (by simp [seamLosses, seamReplays]) ql.lo)
      (rd_addCtr _ _ _ (by simp [seamLosses, seamReplays]) (by simp [seamLosses, seamReplays]) ql.hi))
  rw [exec_seamBlock_fails d k ok2 grains s hu]
  dsimp only
  generalize (s.addCtr (seamReplays d k) 1).event (evDie d) srcSEAM_REPLAY (seamDetail k 0x7F) = s1 at co1 st1 cr1 cl1 ⊢
  have kept : ∀ {a t : State}, TallyKept a t → t.ctr (seamReplays d k) = a.ctr (seamReplays d k) ∧
      t.ctr (seamLosses d k) = a.ctr (seamLosses d k) :=
    fun hy => ⟨ctr_of_rd (hy.seam _ (seamCount_of hk (by decide) (by decide))) (hy.seam _ (seamCount_of hk (by decide) (by decide))),
      ctr_of_rd (hy.seam _ (seamCount_of hk (by decide) (by decide))) (hy.seam _ (seamCount_of hk (by decide) (by decide)))⟩
  cases ok2 with
  | true =>
    obtain ⟨t, ht, hc, hy⟩ := done_control s1
    obtain ⟨hr, hl⟩ := kept hy
    refine ⟨t, ht, hy.sticky _ _ st1, hr.trans cr1, ?_, fun _ => (co1.trans hc).fabric_eq, nofun, (co1.trans hc).slabs_eq⟩
    rw [hl, cl1]
    exact (Nat.mod_eq_of_lt (ctr_lt s _)).symm
  | false =>
    obtain ⟨t, ht, hc, hy⟩ := done_control (s1.seamLost d k grains)
    obtain ⟨hr, hl⟩ := kept hy
    have hc' := (seamLost_rest s1 d k grains).trans hc
    refine ⟨t, ht, hy.sticky _ _ (sticky_addCtr 1 (by simp [seamLosses]) (by simp [seamLosses]) st1), ?_, ?_, nofun, fun _ j e hj hg hd hl' ho => ?_,
      hc'.slabs_eq.trans co1.slabs_eq⟩
    · exact (hr.trans (ctr_of_rd (rd_addCtr _ _ _ (by simp [seamLosses, seamReplays]) (by simp [seamLosses, seamReplays]) qr.lo)
        (rd_addCtr _ _ _ (by simp [seamLosses, seamReplays]) (by simp [seamLosses, seamReplays]) qr.hi))).trans cr1
    · rw [hl, ← cl1]
      exact ctr_addCtr _ 1 ql
    · rw [hc'.fabric_eq]
      exact not_mem_lostWith (j := j) (by simp [hg, hd, hl']) (co1.fabric_eq ▸ ho)

end Sys2Proof.Machine

/-!
The statement on crossings, dispatch and Seams.
-/

namespace Sys2Proof.Machine

/-- Settles O10: a crossing leaves what `State.crossing` makes of its grain, and a failure counts at its boundary; dispatch appends one grain
for each die; a Seam block that fails counts, and loses its grains where its replay fails too. -/
theorem grainsCrossAndAreSent : Obligations.GrainsCrossAndAreSent := by
  unfold Obligations.GrainsCrossAndAreSent
  refine ⟨⟨?passes, ?leavesLu, ?entersRegion, ?entersDie, ?entersSkim, ?entersCluster, ?counts⟩, ?sent, ?block, ?blockFails, ?lane⟩
  case passes => exact fun b u k g s h => grainCrossing_passes b u k s h
  case leavesLu => exact fun u k i g s h => grainCrossing_leavesLu u k i g s h
  case entersRegion =>
    intro u i g e s h
    obtain ⟨t, ht, htx, hsl, hm, hdk, hf⟩ := grainCrossing_entersRegion u i g s
    obtain ⟨outside, alone, both⟩ := crossRegion_cases s (u.val % 8) i g h
    exact ⟨t, ht, htx, hsl, hm, hdk, fun hy => hf.trans (outside hy), fun hy ha => hf.trans (alone hy ha), fun hy hb => hf.trans (both hy hb)⟩
  case entersDie => exact fun u k i g e s h => grainCrossing_entersDie u k i g e s h
  case entersSkim => exact grainCrossing_entersSkim
  case entersCluster => exact grainCrossing_entersCluster
  case counts => exact grainCrossing_countsEach
  case sent => exact fun n p raw map b k s hk htg hp hf hrx hrg heq => grainDispatch_sends n p raw map b k s hk htg hp hf hrx hrg heq
  case block => exact fun d k grains s _ hs => seamBlock_passes d k true grains s hs
  case blockFails => exact fun d k ok2 grains s hu _ => seamBlock_fails d k ok2 grains s hu
  case lane => exact fun d k grains x s hu => seamBlock_lane d k grains x s hu

end Sys2Proof.Machine

/-!
The words of the slot store: lanes, counters, the check and an armed injection (R64, R70, R73).
-/

namespace Sys2Proof.Machine

-- Lanes of a word (R64)

theorem getLsbD_setLane (x : BitVec 80) (e : Nat) (g : Grain) (i : Nat) :
    (setLane x e g).getLsbD i = if 10 * e ≤ i ∧ i < 10 * e + 10 ∧ i < 80 then g.getLsbD (i - 10 * e) else x.getLsbD i := by
  have ones : ∀ j, (0x3FF : BitVec 80).getLsbD j = decide (j < 10) := fun j => by
    rw [show (0x3FF : BitVec 80) = BitVec.ofNat 80 (2 ^ 10 - 1) from rfl, BitVec.getLsbD_ofNat, Nat.testBit_two_pow_sub_one]
    by_cases h : j < 10
    · simp [h]; omega
    · simp [h]
  unfold setLane
  simp only [BitVec.getLsbD_or, BitVec.getLsbD_and, BitVec.getLsbD_not, BitVec.getLsbD_shiftLeft, ones, BitVec.getLsbD_setWidth]
  by_cases h80 : i < 80
  · by_cases hlo : i < 10 * e
    · simp [h80, hlo, Nat.not_le.2 hlo]
    · by_cases hhi : i - 10 * e < 10
      · have h1 : i < 10 * e + 10 := by omega
        have h2 : i - 10 * e < 80 := by omega
        simp [h80, hlo, hhi, h1, h2, Nat.not_lt.1 hlo]
      · have h1 : ¬ i < 10 * e + 10 := by omega
        have h2 : g.getLsbD (i - 10 * e) = false := BitVec.getLsbD_of_ge _ _ (by omega)
        simp [h80, hlo, hhi, h1, h2]
  · have : x.getLsbD i = false := BitVec.getLsbD_of_ge _ _ (by omega)
    simp [h80, this]

/-- A grain of a word's stored bits. -/
def laneOf (x : BitVec 80) (e : Nat) : Grain := (x >>> (10 * e)).setWidth 10

theorem getLsbD_laneOf (x : BitVec 80) (e i : Nat) : (laneOf x e).getLsbD i = (decide (i < 10) && x.getLsbD (10 * e + i)) := by
  simp [laneOf]

theorem laneOf_setLane_same (x : BitVec 80) {e : Nat} (g : Grain) (h : e < 8) : laneOf (setLane x e g) e = g := by
  refine BitVec.eq_of_getLsbD_eq fun i hi => ?_
  rw [getLsbD_laneOf, getLsbD_setLane, if_pos (by omega), Nat.add_sub_cancel_left]
  simp [hi]

theorem laneOf_setLane_ne (x : BitVec 80) {e e' : Nat} (g : Grain) (h : e' ≠ e) : laneOf (setLane x e g) e' = laneOf x e' := by
  refine BitVec.eq_of_getLsbD_eq fun i hi => ?_
  rw [getLsbD_laneOf, getLsbD_laneOf, getLsbD_setLane, if_neg (by omega)]

theorem laneOf_subWord {e : Nat} (h : e < 8) : laneOf subWord e = subGrain := by
  have all : ∀ e : Fin 8, laneOf subWord e = subGrain := by decide +kernel
  exact all ⟨e, h⟩

theorem cellLane_lt (q : Nat) : cellLane q < 8 := Nat.mod_lt _ (by decide)

-- Words of the store

theorem slab_setSlab_same (s : State) (k : Nat) (x : SlabWord) : (s.setSlab k x).slab k = x := look_store_same _ _ _
theorem slab_setSlab_ne (s : State) {k k' : Nat} (x : SlabWord) (h : k' ≠ k) : (s.setSlab k x).slab k' = s.slab k' := look_store_ne _ _ h
theorem slab_of_slabs {s t : State} (h : t.slabs = s.slabs) (k : Nat) : t.slab k = s.slab k := by unfold State.slab; rw [h]

/-- The data that a word's check lets pass (R70). -/
def SlabWord.checked (x : SlabWord) : BitVec 80 := if flipCount x.flip ≤ 1 then x.data else subWord

theorem laneOf_checked (x : SlabWord) {e : Nat} (h : e < 8) : laneOf x.checked e = if flipCount x.flip ≤ 1 then slabLane x e else subGrain := by
  unfold SlabWord.checked
  split
  · rfl
  · exact laneOf_subWord h

-- Counters of a region's store

def slabCorrected (g : Nat) : Ctr := ⟨R.RG_SLAB_CE_LO g, R.RG_SLAB_CE_HI g⟩
def slabUncorrectable (g : Nat) : Ctr := ⟨R.RG_SLAB_UE_LO g, R.RG_SLAB_UE_HI g⟩
def slabLates (g : Nat) : Ctr := ⟨R.RG_SLAB_LATE_LO g, R.RG_SLAB_LATE_HI g⟩

theorem slabCorrected_quiet (g : Nat) : (slabCorrected g).Quiet := ⟨by simp [slabCorrected], rfl, rfl⟩
theorem slabUncorrectable_quiet (g : Nat) : (slabUncorrectable g).Quiet := ⟨by simp [slabUncorrectable], rfl, rfl⟩
theorem slabLates_quiet (g : Nat) : (slabLates g).Quiet := ⟨by simp [slabLates], rfl, rfl⟩

/-- The counter of an error with a bit to blame, or with none. -/
def slabErrCtr (g : Nat) (bit : Option Nat) : Ctr := if bit.isSome then slabCorrected g else slabUncorrectable g

theorem slabErrCtr_quiet (g : Nat) (bit : Option Nat) : (slabErrCtr g bit).Quiet := by
  cases bit
  · exact slabUncorrectable_quiet g
  · exact slabCorrected_quiet g

/-- A register that neither an event nor a checked error of the store writes. -/
def slabErrLeaves (r : RegId) : Bool := !evReg r && !(r.blk == .region && decide (0x410 ≤ r.off) && decide (r.off ≤ 0x430))

/-- A checked error: what it is made of. -/
theorem slabErr_eq (s : State) (g b w : Nat) (bit : Option Nat) :
    ∃ v d, s.slabErr g b w bit = (if (s.addCtr (slabErrCtr g bit) 1).flag (R.RG_SLAB_ECC_LAST g) F.RG_SLAB_ECC_LAST_UE = true
      then s.addCtr (slabErrCtr g bit) 1 else (s.addCtr (slabErrCtr g bit) 1).wr (R.RG_SLAB_ECC_LAST g) v).event (evRegion g) srcSLAB_ECC d := by
  cases bit <;> exact ⟨_, _, rfl⟩

theorem slabErr_control (s : State) (g b w : Nat) (bit : Option Nat) : ControlOnly s (s.slabErr g b w bit) := by
  obtain ⟨v, d, h⟩ := slabErr_eq s g b w bit
  rw [h]
  exact ((ControlOnly.addCtr _ _ _).trans (.ite (.refl _) (.wr _ _ _))).trans (.event _ _ _ _)

theorem slabErr_tally (s : State) (g b w : Nat) (bit : Option Nat) : TallyKept s (s.slabErr g b w bit) := by
  obtain ⟨v, d, h⟩ := slabErr_eq s g b w bit
  rw [h]
  have hc : TallyKept s (s.addCtr (slabErrCtr g bit) 1) := by cases bit <;> exact .addCtr _ _ _ rfl rfl
  exact (hc.trans (.ite (.refl _) (.wr _ _ _ rfl))).trans (.event _ _ _ _)

theorem slabErr_sticky (s : State) (g b w : Nat) (bit : Option Nat) :
    (s.slabErr g b w bit).bit (R.EVT_STICKY (evRegion g)) srcSLAB_ECC = true := by
  obtain ⟨v, d, h⟩ := slabErr_eq s g b w bit
  rw [h]
  exact event_sticky _ d (by decide)

theorem slabErr_counts (s : State) (g b w : Nat) (bit : Option Nat) :
    (s.slabErr g b w bit).ctr (slabErrCtr g bit) = (s.ctr (slabErrCtr g bit) + 1) % 2 ^ 48 := by
  obtain ⟨v, d, h⟩ := slabErr_eq s g b w bit
  have last : ∀ t : State, (t.wr (R.RG_SLAB_ECC_LAST g) v).ctr (slabErrCtr g bit) = t.ctr (slabErrCtr g bit) := fun t => by
    cases bit <;> exact ctr_of_rd (rd_wr_ne _ _ (by simp [slabErrCtr, slabCorrected, slabUncorrectable]))
      (rd_wr_ne _ _ (by simp [slabErrCtr, slabCorrected, slabUncorrectable]))
  rw [h, (event_only _ _ _ d).ctr_eq (slabErrCtr_quiet g bit)]
  split
  · exact ctr_addCtr s 1 (slabErrCtr_quiet g bit)
  · rw [last, ctr_addCtr s 1 (slabErrCtr_quiet g bit)]

theorem rd_slabErr (s : State) (g b w : Nat) (bit : Option Nat) {r : RegId} (hr : slabErrLeaves r = true) : (s.slabErr g b w bit).rd r = s.rd r := by
  obtain ⟨v, d, h⟩ := slabErr_eq s g b w bit
  have hev : evReg r = false := by
    unfold slabErrLeaves at hr; simp_all
  have hne : ∀ o, 0x410 ≤ o → o ≤ 0x430 → r ≠ ⟨.region, g, o, 0⟩ := by
    rintro o ho ho' rfl
    simp [slabErrLeaves, ho, ho'] at hr
  have hcount : (s.addCtr (slabErrCtr g bit) 1).rd r = s.rd r := by
    cases bit <;> exact rd_addCtr _ _ _ (hne _ (by decide) (by decide)) (hne _ (by decide) (by decide)) hev
  rw [h, (event_only _ _ _ d).regs r hev]
  split
  · exact hcount
  · rw [rd_wr_ne _ _ (hne 0x430 (by decide) (by decide)), hcount]

-- The check and an injection

theorem slabCheck_sound {s : State} {g b w : Nat} (h : flipCount (s.slab (slabKey g (s.pbank g b) w)).flip = 0) :
    s.slabCheck g b w = (s, s.slab (slabKey g (s.pbank g b) w)) := by
  unfold State.slabCheck; simp only [h]

theorem slabCheck_corrected {s : State} {g b w : Nat} (h : flipCount (s.slab (slabKey g (s.pbank g b) w)).flip = 1) :
    s.slabCheck g b w = (s.slabErr g b w ((List.range 88).find? (fun i => (s.slab (slabKey g (s.pbank g b) w)).flip.getLsbD i)),
      { s.slab (slabKey g (s.pbank g b) w) with flip := 0 }) := by
  unfold State.slabCheck; simp only [h]

theorem slabCheck_lost {s : State} {g b w : Nat} (h : 2 ≤ flipCount (s.slab (slabKey g (s.pbank g b) w)).flip) :
    s.slabCheck g b w = (s.slabErr g b w none, { s.slab (slabKey g (s.pbank g b) w) with flip := 0, data := subWord }) := by
  unfold State.slabCheck
  dsimp only
  split
  · omega
  · omega
  · rfl

/-- A flipped bit has a place. -/
theorem find_flipped {f : BitVec 88} (h : flipCount f = 1) : ((List.range 88).find? (fun i => f.getLsbD i)).isSome = true := by
  have hne : (List.range 88).filter (fun i => f.getLsbD i) ≠ [] := fun he => by
    unfold flipCount at h; rw [he] at h; simp at h
  obtain ⟨i, hi⟩ := List.exists_mem_of_ne_nil _ hne
  obtain ⟨hm, hf⟩ := List.mem_filter.1 hi
  exact List.find?_isSome.2 ⟨i, hm, hf⟩

/-- The check of a word is nothing, or one checked error. -/
theorem slabCheck_state (s : State) (g b w : Nat) : (s.slabCheck g b w).1 = s ∨ ∃ bit, (s.slabCheck g b w).1 = s.slabErr g b w bit := by
  rcases Nat.lt_or_ge (flipCount (s.slab (slabKey g (s.pbank g b) w)).flip) 2 with h | h
  · rcases Nat.lt_succ_iff_lt_or_eq.1 h with h | h
    · exact .inl (by rw [slabCheck_sound (by omega)])
    · exact .inr ⟨_, by rw [slabCheck_corrected h]⟩
  · exact .inr ⟨none, by rw [slabCheck_lost h]⟩

theorem slabCheck_data (s : State) (g b w : Nat) : (s.slabCheck g b w).2.data = (s.slab (slabKey g (s.pbank g b) w)).checked := by
  unfold SlabWord.checked
  rcases Nat.lt_or_ge (flipCount (s.slab (slabKey g (s.pbank g b) w)).flip) 2 with h | h
  · rw [if_pos (by omega)]
    rcases Nat.lt_succ_iff_lt_or_eq.1 h with h | h
    · rw [slabCheck_sound (by omega)]
    · rw [slabCheck_corrected h]
  · rw [if_neg (by omega), slabCheck_lost h]

theorem slabCheck_control (s : State) (g b w : Nat) : ControlOnly s (s.slabCheck g b w).1 := by
  rcases slabCheck_state s g b w with h | ⟨bit, h⟩ <;> rw [h]
  · exact .refl s
  · exact slabErr_control _ _ _ _ _

theorem slabCheck_tally (s : State) (g b w : Nat) : TallyKept s (s.slabCheck g b w).1 := by
  rcases slabCheck_state s g b w with h | ⟨bit, h⟩ <;> rw [h]
  · exact .refl s
  · exact slabErr_tally _ _ _ _ _

theorem rd_slabCheck (s : State) (g b w : Nat) {r : RegId} (hr : slabErrLeaves r = true) : (s.slabCheck g b w).1.rd r = s.rd r := by
  rcases slabCheck_state s g b w with h | ⟨bit, h⟩ <;> rw [h]
  exact rd_slabErr _ _ _ _ _ hr

theorem slabInject_state (s : State) (g b w : Nat) :
    (s.slabInject g b w).1 = s ∨ (s.slabInject g b w).1 = s.put (R.RG_SLAB_ECC_INJ g) F.RG_SLAB_ECC_INJ_ARM 0 := by
  unfold State.slabInject
  dsimp only
  split
  · exact .inr rfl
  · exact .inl rfl

theorem slabInject_control (s : State) (g b w : Nat) : ControlOnly s (s.slabInject g b w).1 := by
  rcases slabInject_state s g b w with h | h <;> rw [h]
  · exact .refl s
  · exact .put _ _ _ _

theorem slabInject_tally (s : State) (g b w : Nat) : TallyKept s (s.slabInject g b w).1 := by
  rcases slabInject_state s g b w with h | h <;> rw [h]
  · exact .refl s
  · exact .put _ _ _ _ rfl

theorem rd_slabInject (s : State) (g b w : Nat) {r : RegId} (hr : r ≠ R.RG_SLAB_ECC_INJ g) : (s.slabInject g b w).1.rd r = s.rd r := by
  rcases slabInject_state s g b w with h | h <;> rw [h]
  exact rd_put_ne _ _ _ hr

/-- What an injection strikes rests on its two registers. -/
theorem slabInject_of_rd {s t : State} {g : Nat} (b w : Nat) (hi : t.rd (R.RG_SLAB_ECC_INJ g) = s.rd (R.RG_SLAB_ECC_INJ g))
    (ha : t.rd (R.RG_SLAB_DIAG_ADDR g) = s.rd (R.RG_SLAB_DIAG_ADDR g)) : (t.slabInject g b w).2 = (s.slabInject g b w).2 := by
  unfold State.slabInject State.flag State.get
  dsimp only
  rw [hi, ha]
  split <;> rfl

end Sys2Proof.Machine

/-!
What becomes of a grain for a cell (R60, R61, R63, R65).
-/

namespace Sys2Proof.Machine

-- Late cells (R63)

theorem slabLate_control (s : State) (g b : Nat) : ControlOnly s (s.slabLate g b) := (ControlOnly.addCtr _ _ _).trans (.event _ _ _ _)
theorem slabLate_tally (s : State) (g b : Nat) : TallyKept s (s.slabLate g b) := (TallyKept.addCtr _ _ _ rfl rfl).trans (.event _ _ _ _)
theorem slabLate_sticky (s : State) (g b : Nat) : (s.slabLate g b).bit (R.EVT_STICKY (evRegion g)) srcSLAB_LATE = true :=
  event_sticky _ _ (by decide)
theorem slabLate_counts (s : State) (g b : Nat) : (s.slabLate g b).ctr (slabLates g) = (s.ctr (slabLates g) + 1) % 2 ^ 48 :=
  ((event_only _ _ _ _).ctr_eq (slabLates_quiet g)).trans (ctr_addCtr s 1 (slabLates_quiet g))

-- A grain for a cell (R60, R61, R63, R65)

/-- Bank and store key of the cell of position q of link n for egress frame ef. -/
def State.cellBankOf (s : State) (n q ef : Nat) : Nat := cellBank (s.slabOf (luRegion n) ef) (n % 16) q
def State.cellKey (s : State) (n q ef : Nat) : Nat := slabKey (luRegion n) (s.pbank (luRegion n) (s.cellBankOf n q ef)) (cellWord q)

/-- The write window of egress frame ef is open on the region of link n. -/
def State.WindowOpen (s : State) (n ef : Nat) : Prop := s.slabDepth (luRegion n) ≠ 0 ∧ s.up ≤ ef ∧ ef < s.up + s.slabDepth (luRegion n)

/-- The word takes a grain for egress frame ef in lane e: it was not read for that frame, and holds none there. -/
def SlabWord.takes (x : SlabWord) (ef e : Nat) : Bool := x.ef != ef || (!x.gone && !x.filled.contains e)

/-- A word that has taken a grain. -/
def SlabWord.filledWith (x : SlabWord) (ef e : Nat) (gr : Grain) (flip : BitVec 88) : SlabWord :=
  ⟨setLane x.checked e gr, flip, ef, (if x.ef = ef then x.filled else []) ++ [e], false⟩

section
variable {s : State} {n q ef : Nat}

theorem cellPut_outside (gr : Grain) (h : s.slabDepth (luRegion n) = 0 ∨ s.up + s.slabDepth (luRegion n) ≤ ef) : s.cellPut n q ef gr = s := by
  unfold State.cellPut
  exact if_pos h

theorem cellPut_past (gr : Grain) (hd : s.slabDepth (luRegion n) ≠ 0) (h : ef < s.up) :
    ∃ b, s.cellPut n q ef gr = s.slabLate (luRegion n) b := by
  unfold State.cellPut
  dsimp only
  rw [if_neg (by omega), if_pos h]
  exact ⟨_, rfl⟩

theorem cellPut_read (gr : Grain) (hw : s.WindowOpen n ef) (he : (s.slab (s.cellKey n q ef)).ef = ef)
    (hg : (s.slab (s.cellKey n q ef)).gone = true) : s.cellPut n q ef gr = s.slabLate (luRegion n) (s.cellBankOf n q ef) := by
  obtain ⟨hd, hlo, hhi⟩ := hw
  unfold State.cellPut
  dsimp only
  rw [if_neg (by omega), if_neg (by omega)]
  exact if_pos ⟨he, hg⟩

theorem cellPut_again (gr : Grain) (hw : s.WindowOpen n ef) (he : (s.slab (s.cellKey n q ef)).ef = ef)
    (hg : (s.slab (s.cellKey n q ef)).gone = false) (hf : cellLane q ∈ (s.slab (s.cellKey n q ef)).filled) : s.cellPut n q ef gr = s := by
  obtain ⟨hd, hlo, hhi⟩ := hw
  unfold State.cellPut
  dsimp only
  rw [if_neg (by omega), if_neg (by omega)]
  exact (if_neg (fun h => Bool.false_ne_true (hg.symm.trans h.2))).trans (if_pos ⟨he, List.contains_iff_mem.2 hf⟩)

/-- The grain enters its cell, on the way of the word's check and of an armed injection. -/
theorem cellPut_fills (gr : Grain) (hw : s.WindowOpen n ef) (ht : (s.slab (s.cellKey n q ef)).takes ef (cellLane q) = true) :
    s.cellPut n q ef gr = (((s.slabCheck (luRegion n) (s.cellBankOf n q ef) (cellWord q)).1.slabInject (luRegion n) (s.cellBankOf n q ef) (cellWord q)).1).setSlab
      (s.cellKey n q ef) ((s.slab (s.cellKey n q ef)).filledWith ef (cellLane q) gr (s.slabInject (luRegion n) (s.cellBankOf n q ef) (cellWord q)).2) := by
  obtain ⟨hd, hlo, hhi⟩ := hw
  have notRead : ¬ ((s.slab (s.cellKey n q ef)).ef = ef ∧ (s.slab (s.cellKey n q ef)).gone = true) := by
    rintro ⟨he, hg⟩; simp [SlabWord.takes, he, hg] at ht
  have notHeld : ¬ ((s.slab (s.cellKey n q ef)).ef = ef ∧ (s.slab (s.cellKey n q ef)).filled.contains (cellLane q) = true) := by
    rintro ⟨he, hf⟩; simp [SlabWord.takes, he] at ht; simp [ht.2] at hf
  have inj := slabInject_of_rd (s := s) (t := (s.slabCheck (luRegion n) (s.cellBankOf n q ef) (cellWord q)).1) (s.cellBankOf n q ef) (cellWord q)
    (rd_slabCheck s _ _ _ (r := R.RG_SLAB_ECC_INJ (luRegion n)) rfl) (rd_slabCheck s _ _ _ (r := R.RG_SLAB_DIAG_ADDR (luRegion n)) rfl)
  unfold State.cellPut
  dsimp only
  rw [if_neg (by omega), if_neg (by omega)]
  refine (if_neg notRead).trans ((if_neg notHeld).trans ?_)
  unfold SlabWord.filledWith
  rw [← inj]
  exact congrArg (State.setSlab _ _) (congrArg (fun d => SlabWord.mk (setLane d (cellLane q) gr) _ ef _ false) (slabCheck_data s _ _ _))

end

/-- Nothing differs but the store and what events and counters may change. -/
structure SlabOnly (s t : State) : Prop where
  control : ControlOnly { s with slabs := t.slabs } t
  tally : TallyKept s t

theorem SlabOnly.of_control {s t : State} (h : ControlOnly s t) (k : TallyKept s t) : SlabOnly s t := by
  refine ⟨?_, k⟩
  rw [h.slabs_eq]
  exact h

theorem SlabOnly.refl (s : State) : SlabOnly s s := .of_control (.refl s) (.refl s)
theorem SlabOnly.trans {s t u : State} (h : SlabOnly s t) (k : SlabOnly t u) : SlabOnly s u :=
  ⟨⟨by rw [k.control.rest, h.control.rest]⟩, h.tally.trans k.tally⟩
theorem SlabOnly.setSlab (s : State) (k : Nat) (x : SlabWord) : SlabOnly s (s.setSlab k x) := ⟨.refl _, .of_regs rfl⟩
theorem SlabOnly.slabLate (s : State) (g b : Nat) : SlabOnly s (s.slabLate g b) := .of_control (slabLate_control _ _ _) (slabLate_tally _ _ _)
theorem SlabOnly.slabCheck (s : State) (g b w : Nat) : SlabOnly s (s.slabCheck g b w).1 := .of_control (slabCheck_control _ _ _ _) (slabCheck_tally _ _ _ _)
theorem SlabOnly.slabInject (s : State) (g b w : Nat) : SlabOnly s (s.slabInject g b w).1 := .of_control (slabInject_control _ _ _ _) (slabInject_tally _ _ _ _)

theorem SlabOnly.foldl {α : Type} {f : State → α → State} (l : List α) (h : ∀ t a, SlabOnly t (f t a)) : ∀ s, SlabOnly s (l.foldl f s) := by
  induction l with
  | nil => exact SlabOnly.refl
  | cons a l ih => exact fun s => (h s a).trans (ih _)

section
variable {s t : State} (h : SlabOnly s t)
include h

theorem SlabOnly.fabric_eq : t.fabric = s.fabric := h.control.fabric_eq
theorem SlabOnly.txGrains_eq : t.txGrains = s.txGrains := h.control.txGrains_eq
theorem SlabOnly.mem_eq : t.mem = s.mem := h.control.mem_eq
theorem SlabOnly.actMap_eq : t.actMap = s.actMap := h.control.actMap_eq
end

/-- What can become of a grain for a cell. -/
theorem cellPut_cases (s : State) (n q ef : Nat) (gr : Grain) :
    s.cellPut n q ef gr = s ∨ (∃ b, s.cellPut n q ef gr = s.slabLate (luRegion n) b) ∨
      (s.WindowOpen n ef ∧ (s.slab (s.cellKey n q ef)).takes ef (cellLane q) = true) := by
  by_cases ho : s.slabDepth (luRegion n) = 0 ∨ s.up + s.slabDepth (luRegion n) ≤ ef
  · exact .inl (cellPut_outside gr ho)
  by_cases hl : ef < s.up
  · exact .inr (.inl (cellPut_past gr (by omega) hl))
  have hw : s.WindowOpen n ef := ⟨by omega, by omega, by omega⟩
  by_cases ht : (s.slab (s.cellKey n q ef)).takes ef (cellLane q) = true
  · exact .inr (.inr ⟨hw, ht⟩)
  obtain ⟨he, hgf⟩ : (s.slab (s.cellKey n q ef)).ef = ef ∧ ((s.slab (s.cellKey n q ef)).gone = false → cellLane q ∈ (s.slab (s.cellKey n q ef)).filled) := by
    simpa [SlabWord.takes] using ht
  cases hg : (s.slab (s.cellKey n q ef)).gone
  · exact .inl (cellPut_again gr hw he hg (hgf hg))
  · exact .inr (.inl ⟨_, cellPut_read gr hw he hg⟩)

theorem SlabOnly.cellPut (s : State) (n q ef : Nat) (gr : Grain) : SlabOnly s (s.cellPut n q ef gr) := by
  rcases cellPut_cases s n q ef gr with h | ⟨b, h⟩ | ⟨hw, ht⟩
  · rw [h]; exact .refl s
  · rw [h]; exact .slabLate _ _ _
  · rw [cellPut_fills gr hw ht]
    exact ((SlabOnly.slabCheck _ _ _ _).trans (.slabInject _ _ _ _)).trans (.setSlab _ _ _)

end Sys2Proof.Machine

/-!
What a cell rests on, and the cell write clause by clause.
-/

namespace Sys2Proof.Machine

-- What a cell rests on

/-- Two states with the same store in region g: its words, the place of its banks, its window, and its armed injection. -/
structure SameStore (g : Nat) (s t : State) : Prop where
  up : t.up = s.up
  depth : t.slabDepth g = s.slabDepth g
  read : t.slabRead g = s.slabRead g
  spares : t.spareOn = s.spareOn
  slabs : t.slabs = s.slabs
  armed : t.rd (R.RG_SLAB_ECC_INJ g) = s.rd (R.RG_SLAB_ECC_INJ g)
  aim : t.rd (R.RG_SLAB_DIAG_ADDR g) = s.rd (R.RG_SLAB_DIAG_ADDR g)

theorem cellPut_slabs_takes {s : State} {n q ef : Nat} (gr : Grain) (hw : s.WindowOpen n ef)
    (ht : (s.slab (s.cellKey n q ef)).takes ef (cellLane q) = true) :
    (s.cellPut n q ef gr).slabs = store id (fun _ => emptySlab) s.slabs (s.cellKey n q ef)
      ((s.slab (s.cellKey n q ef)).filledWith ef (cellLane q) gr (s.slabInject (luRegion n) (s.cellBankOf n q ef) (cellWord q)).2) := by
  have same : (((s.slabCheck (luRegion n) (s.cellBankOf n q ef) (cellWord q)).1.slabInject (luRegion n) (s.cellBankOf n q ef) (cellWord q)).1).slabs =
      s.slabs := (slabInject_control _ _ _ _).slabs_eq.trans (slabCheck_control _ _ _ _).slabs_eq
  rw [cellPut_fills gr hw ht, ← same]
  rfl

theorem cellPut_slabs_else {s : State} {n q ef : Nat} (gr : Grain)
    (h : ¬ (s.WindowOpen n ef ∧ (s.slab (s.cellKey n q ef)).takes ef (cellLane q) = true)) : (s.cellPut n q ef gr).slabs = s.slabs := by
  rcases cellPut_cases s n q ef gr with hs | ⟨b, hs⟩ | ht
  · rw [hs]
  · rw [hs]; exact (slabLate_control _ _ _).slabs_eq
  · exact absurd ht h

/-- What a grain makes of the store rests on the store of its region alone. -/
theorem cellPut_slabs_congr {s t : State} {n : Nat} (h : SameStore (luRegion n) s t) (q ef : Nat) (gr : Grain) :
    (t.cellPut n q ef gr).slabs = (s.cellPut n q ef gr).slabs := by
  have hb : t.cellBankOf n q ef = s.cellBankOf n q ef := by
    unfold State.cellBankOf State.slabOf; rw [h.up, h.depth, h.read]
  have hk : t.cellKey n q ef = s.cellKey n q ef := by
    unfold State.cellKey State.pbank State.spareUsed; rw [hb, h.spares]
  have hx : ∀ k, t.slab k = s.slab k := slab_of_slabs h.slabs
  have hw : t.WindowOpen n ef ↔ s.WindowOpen n ef := by unfold State.WindowOpen; rw [h.up, h.depth]
  by_cases hc : s.WindowOpen n ef ∧ (s.slab (s.cellKey n q ef)).takes ef (cellLane q) = true
  · rw [cellPut_slabs_takes gr hc.1 hc.2, cellPut_slabs_takes gr (hw.2 hc.1) (by rw [hk, hx]; exact hc.2), hk, hx, hb, h.slabs,
      slabInject_of_rd _ _ h.armed h.aim]
  · rw [cellPut_slabs_else gr hc, cellPut_slabs_else gr (by rw [hw, hk, hx]; exact hc), h.slabs]

-- The cell write, clause by clause

theorem slabCheck_corrected_counts {s : State} {g b w : Nat} (h : flipCount (s.slab (slabKey g (s.pbank g b) w)).flip = 1) :
    (s.slabCheck g b w).1.bit (R.EVT_STICKY (evRegion g)) srcSLAB_ECC = true ∧
      (s.slabCheck g b w).1.ctr (slabCorrected g) = (s.ctr (slabCorrected g) + 1) % 2 ^ 48 := by
  rw [slabCheck_corrected h]
  dsimp only
  have blamed := find_flipped h
  generalize (List.range 88).find? (fun i => (s.slab (slabKey g (s.pbank g b) w)).flip.getLsbD i) = bit at blamed ⊢
  have counts := slabErr_counts s g b w bit
  rw [show slabErrCtr g bit = slabCorrected g from if_pos blamed] at counts
  exact ⟨slabErr_sticky _ _ _ _ _, counts⟩

theorem slabCheck_lost_counts {s : State} {g b w : Nat} (h : 2 ≤ flipCount (s.slab (slabKey g (s.pbank g b) w)).flip) :
    (s.slabCheck g b w).1.bit (R.EVT_STICKY (evRegion g)) srcSLAB_ECC = true ∧
      (s.slabCheck g b w).1.ctr (slabUncorrectable g) = (s.ctr (slabUncorrectable g) + 1) % 2 ^ 48 := by
  rw [slabCheck_lost h]
  dsimp only
  have counts := slabErr_counts s g b w none
  rw [show slabErrCtr g none = slabUncorrectable g from rfl] at counts
  exact ⟨slabErr_sticky _ _ _ _ _, counts⟩

/-- What becomes of a cell of an open window. -/
theorem cellPut_open {s : State} {n q ef : Nat} (gr : Grain) (hw : s.WindowOpen n ef) :
    let g := luRegion n
    let k := s.cellKey n q ef
    let x := s.slab k
    let t := s.cellPut n q ef gr
    (x.ef = ef → x.gone = false → cellLane q ∈ x.filled → t = s) ∧
    (x.ef = ef → x.gone = true → t.slabs = s.slabs ∧ t.bit (R.EVT_STICKY (evRegion g)) srcSLAB_LATE = true) ∧
    (x.ef ≠ ef ∨ (x.gone = false ∧ cellLane q ∉ x.filled) →
      slabLane (t.slab k) (cellLane q) = gr ∧
      (∀ e < 8, e ≠ cellLane q → slabLane (t.slab k) e = (if flipCount x.flip ≤ 1 then slabLane x e else subGrain)) ∧
      (t.slab k).ef = ef ∧ (t.slab k).gone = false ∧ (t.slab k).filled = (if x.ef = ef then x.filled else []) ++ [cellLane q] ∧
      (∀ k', k' ≠ k → t.slab k' = s.slab k') ∧ t.fabric = s.fabric ∧ t.mem = s.mem ∧
      (flipCount x.flip = 1 → t.bit (R.EVT_STICKY (evRegion g)) srcSLAB_ECC = true ∧
        t.ctr (slabCorrected g) = (s.ctr (slabCorrected g) + 1) % 2 ^ 48) ∧
      (2 ≤ flipCount x.flip → t.bit (R.EVT_STICKY (evRegion g)) srcSLAB_ECC = true ∧
        t.ctr (slabUncorrectable g) = (s.ctr (slabUncorrectable g) + 1) % 2 ^ 48)) := by
  intro g k x t
  refine ⟨fun he hg hf => cellPut_again gr hw he hg hf, fun he hg => ?_, fun hx => ?_⟩
  · have : t = s.slabLate g (s.cellBankOf n q ef) := cellPut_read gr hw he hg
    rw [this]
    exact ⟨(slabLate_control _ _ _).slabs_eq, slabLate_sticky _ _ _⟩
  have ht : x.takes ef (cellLane q) = true := by simpa [SlabWord.takes] using hx
  have fills : t = _ := cellPut_fills gr hw ht
  have slabs : t.slabs = _ := cellPut_slabs_takes gr hw ht
  have word : t.slab k = x.filledWith ef (cellLane q) gr (s.slabInject g (s.cellBankOf n q ef) (cellWord q)).2 := by
    show look _ t.slabs k = _
    rw [slabs]; exact look_store_same _ _ _
  have others : ∀ k', k' ≠ k → t.slab k' = s.slab k' := fun k' hk' => by
    show look _ t.slabs k' = _
    rw [slabs]; exact look_store_ne _ _ hk'
  have only := SlabOnly.cellPut s n q ef gr
  -- the check counts, and an injection moves no counter
  have after : ∀ c : Ctr, c.lo ≠ R.RG_SLAB_ECC_INJ g → c.hi ≠ R.RG_SLAB_ECC_INJ g →
      t.ctr c = (s.slabCheck g (s.cellBankOf n q ef) (cellWord q)).1.ctr c := fun c hl hh => by
    rw [fills]
    exact ctr_of_rd (rd_slabInject _ _ _ _ hl) (rd_slabInject _ _ _ _ hh)
  have sticky : ∀ b i, (s.slabCheck g (s.cellBankOf n q ef) (cellWord q)).1.bit (R.EVT_STICKY b) i = true → t.bit (R.EVT_STICKY b) i = true :=
    fun b i hb => by
      rw [fills]
      exact (slabInject_tally _ _ _ _).sticky b i hb
  refine ⟨?_, fun e he hne => ?_, ?_, ?_, ?_, others, only.fabric_eq, only.mem_eq, fun h1 => ?_, fun h2 => ?_⟩
  · rw [word]; exact laneOf_setLane_same _ _ (cellLane_lt q)
  · rw [word]; exact (laneOf_setLane_ne _ _ hne).trans (laneOf_checked x he)
  · rw [word]; rfl
  · rw [word]; rfl
  · rw [word]; rfl
  · obtain ⟨hs, hc⟩ := slabCheck_corrected_counts (s := s) (g := g) (b := s.cellBankOf n q ef) (w := cellWord q) h1
    exact ⟨sticky _ _ hs, (after _ (by simp [slabCorrected]) (by simp [slabCorrected])).trans hc⟩
  · obtain ⟨hs, hc⟩ := slabCheck_lost_counts (s := s) (g := g) (b := s.cellBankOf n q ef) (w := cellWord q) h2
    exact ⟨sticky _ _ hs, (after _ (by simp [slabUncorrectable]) (by simp [slabUncorrectable])).trans hc⟩

/-- A grain for a frame already read counts as late. -/
theorem cellPut_past_counts {s : State} {n q ef : Nat} (gr : Grain) (hd : s.slabDepth (luRegion n) ≠ 0) (h : ef < s.up) :
    let g := luRegion n
    let t := s.cellPut n q ef gr
    t.slabs = s.slabs ∧ t.bit (R.EVT_STICKY (evRegion g)) srcSLAB_LATE = true ∧ t.ctr (slabLates g) = (s.ctr (slabLates g) + 1) % 2 ^ 48 := by
  intro g t
  obtain ⟨b, hb⟩ := cellPut_past (q := q) gr hd h
  rw [show t = _ from hb]
  exact ⟨(slabLate_control _ _ _).slabs_eq, slabLate_sticky _ _ _, slabLate_counts _ _ _⟩

end Sys2Proof.Machine

/-!
Upsets, and the read of a word lane by lane (R62, R63, R64, R70, R180).
-/

namespace Sys2Proof.Machine

-- Upsets (R70)

theorem upset_rest (s : State) (g : Nat) (l : List (Nat × Nat × Nat)) : s.upset g l = { s with slabs := (s.upset g l).slabs } := by
  unfold State.upset
  exact List.foldlRecOn (motive := fun t : State => t = { s with slabs := t.slabs }) _ _ rfl fun t ht e _ => by
    dsimp only [State.setSlab]
    rw [ht]

theorem upset_nil (s : State) (g : Nat) : s.upset g [] = s := rfl

theorem cellWrite_upset (g : Fin 8) (l : Fin 128) (p : Fin 155520) (pour : Bool) (x : CellFaults) (s : State) :
    exec (.cellWrite g l p pour x) s = exec (.cellWrite g l p pour { x with ups := [] }) (s.upset g x.ups) := by
  have stopped : (s.upset g x.ups).regionStopped g = s.regionStopped g := by rw [upset_rest]; rfl
  show execCellWrite g l p pour x s = execCellWrite g l p pour { x with ups := [] } (s.upset g x.ups)
  unfold execCellWrite
  rw [stopped]
  rfl

theorem cellRead_upset (n : Fin 128) (w : Fin 19440) (ups : List (Nat × Nat × Nat)) (s : State) :
    exec (.cellRead n w ups) s = exec (.cellRead n w []) (s.upset (luRegion n) ups) := rfl

-- The read side (R62, R63, R64, R180)

/-- The LUs to which the cells of link n are sent. -/
def State.readers (s : State) (n : Nat) : List Nat :=
  ((List.range 16).map (fun i => 16 * luRegion n + i)).filter (fun m => s.bridgedFrom m == some n)

theorem mem_readers {s : State} {n m : Nat} (hr : luRegion m = luRegion n) (hb : s.bridgedFrom m = some n) : m ∈ s.readers n := by
  refine List.mem_filter.2 ⟨List.mem_map.2 ⟨m % 16, List.mem_range.2 (Nat.mod_lt _ (by decide)), ?_⟩, by simpa using hb⟩
  unfold luRegion at *
  omega

theorem exec_cellRead {n : Fin 128} {s : State} (w : Fin 19440) (hd : s.slabDepth (luRegion n) ≠ 0) (hs : s.regionStopped (luRegion n) = false) :
    exec (.cellRead n w []) s = done (s.readWord n w (s.readers n)) := by
  show execCellRead n w [] s = _
  unfold execCellRead
  rw [upset_nil]
  exact if_neg (by simp [hd, hs])

/-- Words beyond the positions of the link are never read (R64). -/
theorem cellRead_beyond (n : Fin 128) (w : Fin 19440) {s : State} (hs : Settled s) (h : frameBytes ((s.outN n).getD 0) ≤ 8 * w.val) :
    exec (.cellRead n w []) s = .next s := by
  show execCellRead n w [] s = _
  unfold execCellRead
  rw [upset_nil]
  dsimp only
  split
  · rfl
  · unfold State.readWord
    rw [if_pos (by simp [h])]
    exact done_settled hs

/-- A fold whose step for a establishes P, which every step keeps. -/
theorem foldl_establishes {α β : Type} {P : β → Prop} {f : β → α → β} {a : α} (hset : ∀ t, P (f t a)) :
    ∀ (l : List α) (_ : ∀ t, ∀ b ∈ l, P t → P (f t b)) (_ : a ∈ l) (s : β), P (l.foldl f s) := by
  intro l
  induction l with
  | nil => intro _ h; simp at h
  | cons b l ih =>
    intro hkeep h s
    have hkeep' : ∀ t, ∀ c ∈ l, P t → P (f t c) := fun t c hc => hkeep t c (List.mem_cons_of_mem _ hc)
    rw [List.foldl_cons]
    rcases List.mem_cons.1 h with rfl | h
    · exact List.foldlRecOn (motive := P) _ _ (hset s) fun t ht c hc => hkeep' t c hc ht
    · exact ih hkeep' h _

/-- What the outputs of the LUs hold. -/
def State.outGrain (s : State) (m q : Nat) : Grain := look (fun _ => (0 : Grain)) s.txGrains (155520 * m + q)

theorem outGrain_putOut_same (s : State) (m q : Nat) (gr : Grain) : (s.putOut m q (some gr)).outGrain m q = gr := look_store_same _ _ _

theorem outGrain_putOut_ne (s : State) {m q m' q' : Nat} (gr : Option Grain) (hq : q < 155520) (hq' : q' < 155520) (h : m' ≠ m ∨ q' ≠ q) :
    (s.putOut m' q' gr).outGrain m q = s.outGrain m q := by
  cases gr with
  | none => rfl
  | some gr => exact look_store_ne _ _ (by omega)

theorem putOut_rest (s : State) (m q : Nat) (gr : Option Grain) : s.putOut m q gr = { s with txGrains := (s.putOut m q gr).txGrains } := by
  cases gr <;> rfl

/-- The state in which a word has been read. -/
def State.wordRead (s : State) (n w : Nat) : State :=
  let g := luRegion n
  let b := cellBank (s.slabRead g) (n % 16) (8 * w)
  let key := slabKey g (s.pbank g b) (cellWord (8 * w))
  (s.slabCheck g b (cellWord (8 * w))).1.setSlab key (((s.slabCheck g b (cellWord (8 * w))).1.slab key).taken s.up)

/-- What the check lets pass of the word. -/
def State.wordSeen (s : State) (n w : Nat) : SlabWord :=
  (s.slabCheck (luRegion n) (cellBank (s.slabRead (luRegion n)) (n % 16) (8 * w)) (cellWord (8 * w))).2

/-- Lane e of the word goes to the outputs. -/
def State.laneOut (s : State) (n w : Nat) (outs : List Nat) (t : State) (e : Nat) : State :=
  if frameBytes ((s.outN n).getD 0) ≤ 8 * w + e then t
  else
    outs.foldl (fun u m => u.putOut m (8 * w + e) ((s.wordRead n w).readOut n m (8 * w + e) (s.wordSeen n w)).1)
      (if outs.any (fun m => ((s.wordRead n w).readOut n m (8 * w + e) (s.wordSeen n w)).2) then
        t.slabLate (luRegion n) (cellBank (s.slabRead (luRegion n)) (n % 16) (8 * w)) else t)

theorem readWord_eq {s : State} {n w : Nat} {outs : List Nat} (ho : outs ≠ []) (hw : 8 * w < frameBytes ((s.outN n).getD 0)) :
    s.readWord n w outs = (List.range 8).foldl (s.laneOut n w outs) (s.wordRead n w) := by
  unfold State.readWord State.laneOut State.wordRead State.wordSeen
  exact if_neg (by simp [ho, hw])

/-- What a lane's way to the outputs leaves. -/
theorem laneOut_keeps (s : State) (n w : Nat) (outs : List Nat) (t : State) (e : Nat) :
    (s.laneOut n w outs t e).slabs = t.slabs ∧ (s.laneOut n w outs t e).fabric = t.fabric ∧ (s.laneOut n w outs t e).mem = t.mem := by
  unfold State.laneOut
  split
  · exact ⟨rfl, rfl, rfl⟩
  · refine List.foldlRecOn (motive := fun u : State => u.slabs = t.slabs ∧ u.fabric = t.fabric ∧ u.mem = t.mem) _ _ ?_ fun u hu m _ => ?_
    · split
      · exact ⟨(slabLate_control _ _ _).slabs_eq, (slabLate_control _ _ _).fabric_eq, (slabLate_control _ _ _).mem_eq⟩
      · exact ⟨rfl, rfl, rfl⟩
    · rw [putOut_rest]; exact hu

/-- A lane of another position leaves what an output holds. -/
theorem laneOut_outGrain_ne (s : State) {n w e e' m : Nat} (outs : List Nat) (t : State) (he : 8 * w + e < 155520) (he' : 8 * w + e' < 155520)
    (h : e' ≠ e) : (s.laneOut n w outs t e').outGrain m (8 * w + e) = t.outGrain m (8 * w + e) := by
  unfold State.laneOut
  split
  · rfl
  · refine List.foldlRecOn (motive := fun u : State => u.outGrain m (8 * w + e) = t.outGrain m (8 * w + e)) _ _ ?_ fun u hu m' _ => ?_
    · split
      · unfold State.outGrain; rw [(slabLate_control _ _ _).txGrains_eq]
      · rfl
    · exact (outGrain_putOut_ne u _ he he' (.inr (by omega))).trans hu

/-- A lane's grain is at the output of each LU that reads it. -/
theorem laneOut_outGrain_same {s : State} {n w e m : Nat} {outs : List Nat} {gr : Grain} (t : State) (hm : m ∈ outs) (he : 8 * w + e < 155520)
    (hl : 8 * w + e < frameBytes ((s.outN n).getD 0)) (hg : ((s.wordRead n w).readOut n m (8 * w + e) (s.wordSeen n w)).1 = some gr) :
    (s.laneOut n w outs t e).outGrain m (8 * w + e) = gr := by
  unfold State.laneOut
  rw [if_neg (by omega)]
  refine foldl_establishes (P := fun u : State => u.outGrain m (8 * w + e) = gr) (a := m) (fun u => ?_) outs (fun u m' _ hu => ?_) hm _
  · rw [hg]; exact outGrain_putOut_same _ _ _ _
  · by_cases h : m' = m
    · rw [h, hg]; exact outGrain_putOut_same _ _ _ _
    · exact (outGrain_putOut_ne u _ he he (.inl h)).trans hu

/-- The word as it stays, and the others. -/
theorem wordRead_slab (s : State) (n w : Nat) :
    let k := slabKey (luRegion n) (s.pbank (luRegion n) (cellBank (s.slabRead (luRegion n)) (n % 16) (8 * w))) (cellWord (8 * w))
    (s.wordRead n w).slab k = (s.slab k).taken s.up ∧ ∀ k', k' ≠ k → (s.wordRead n w).slab k' = s.slab k' := by
  intro k
  have same := slab_of_slabs (slabCheck_control s (luRegion n) (cellBank (s.slabRead (luRegion n)) (n % 16) (8 * w)) (cellWord (8 * w))).slabs_eq
  unfold State.wordRead
  exact ⟨by rw [slab_setSlab_same, same], fun k' hk => by rw [slab_setSlab_ne _ _ hk, same]⟩

theorem readOut_setSlab (s : State) (k : Nat) (y : SlabWord) (n m q : Nat) (x : SlabWord) : (s.setSlab k y).readOut n m q x = s.readOut n m q x := rfl

/-- A word with no flipped bit is seen as it is, and what it delivers does not rest on the store. -/
theorem wordRead_sound {s : State} {n w : Nat}
    (h : flipCount (s.slab (slabKey (luRegion n) (s.pbank (luRegion n) (cellBank (s.slabRead (luRegion n)) (n % 16) (8 * w)))
      (cellWord (8 * w)))).flip = 0) (m q : Nat) :
    (s.wordRead n w).readOut n m q (s.wordSeen n w) = s.readOut n m q (s.slab (slabKey (luRegion n)
      (s.pbank (luRegion n) (cellBank (s.slabRead (luRegion n)) (n % 16) (8 * w))) (cellWord (8 * w)))) := by
  unfold State.wordRead State.wordSeen
  dsimp only
  rw [slabCheck_sound h]
  exact readOut_setSlab _ _ _ _ _ _ _

end Sys2Proof.Machine

/-!
CELL_READ, and what a cell delivers.
-/

namespace Sys2Proof.Machine

/-- The read side takes a word once in its frame, and puts its grains at the outputs of the LUs that it feeds. -/
theorem cellRead_takes (n : Fin 128) (w : Fin 19440) (s : State) (hd : s.slabDepth (luRegion n) ≠ 0) (hb : s.bridgedFrom n = some n.val)
    (hs : s.regionStopped (luRegion n) = false) (hw : 8 * w.val < frameBytes ((s.outN n).getD 0)) :
    let k := slabKey (luRegion n) (s.pbank (luRegion n) (cellBank (s.slabRead (luRegion n)) (n % 16) (8 * w))) (cellWord (8 * w))
    ∃ t, exec (.cellRead n w []) s = .next t ∧ (t.slab k).gone = true ∧ (t.slab k).ef = s.up ∧ (t.slab k).data = (s.slab k).data ∧
      (t.slab k).flip = (s.slab k).flip ∧ (∀ k', k' ≠ k → t.slab k' = s.slab k') ∧
      (flipCount (s.slab k).flip = 0 → ∀ m : Fin 128, luRegion m = luRegion n → s.bridgedFrom m = some n.val →
        ∀ e < 8, 8 * w.val + e < frameBytes ((s.outN n).getD 0) →
        ∀ gr, (s.readOut n m (8 * w.val + e) (s.slab k)).1 = some gr →
          look (fun _ => (0 : Grain)) t.txGrains (155520 * m.val + (8 * w.val + e)) = gr) ∧
      t.fabric = s.fabric ∧ t.mem = s.mem := by
  intro k
  have hself : n.val ∈ s.readers n := mem_readers rfl hb
  have hin : ∀ e < 8, 8 * w.val + e < 155520 := fun e he => by have := w.isLt; omega
  have run := exec_cellRead w hd hs
  rw [readWord_eq (List.ne_nil_of_mem hself) hw] at run
  obtain ⟨t, ht, hc, -⟩ := done_control ((List.range 8).foldl (s.laneOut n w (s.readers n)) (s.wordRead n w))
  obtain ⟨word, others⟩ := wordRead_slab s n w
  have only : ControlOnly s (s.slabCheck (luRegion n) (cellBank (s.slabRead (luRegion n)) (n % 16) (8 * w)) (cellWord (8 * w))).1 := slabCheck_control _ _ _ _
  obtain ⟨hslabs, hfab, hmem⟩ : ((List.range 8).foldl (s.laneOut n w (s.readers n)) (s.wordRead n w)).slabs = (s.wordRead n w).slabs ∧
      ((List.range 8).foldl (s.laneOut n w (s.readers n)) (s.wordRead n w)).fabric = s.fabric ∧
      ((List.range 8).foldl (s.laneOut n w (s.readers n)) (s.wordRead n w)).mem = s.mem :=
    List.foldlRecOn (motive := fun u : State => u.slabs = (s.wordRead n w).slabs ∧ u.fabric = s.fabric ∧ u.mem = s.mem) _ _
      ⟨rfl, only.fabric_eq, only.mem_eq⟩ fun u ⟨h1, h2, h3⟩ e _ => by
        obtain ⟨k1, k2, k3⟩ := laneOut_keeps s n w (s.readers n) u e
        exact ⟨k1.trans h1, k2.trans h2, k3.trans h3⟩
  have slab : ∀ j, t.slab j = (s.wordRead n w).slab j := slab_of_slabs (hc.slabs_eq.trans hslabs)
  have taken : t.slab k = (s.slab k).taken s.up := (slab k).trans word
  refine ⟨t, run.trans ht, by rw [taken]; rfl, by rw [taken]; rfl, by rw [taken]; rfl, by rw [taken]; rfl,
    fun k' hk => (slab k').trans (others k' hk), fun hf m hr hbm e he hl gr hg => ?_, hc.fabric_eq.trans hfab, hc.mem_eq.trans hmem⟩
  have hm : m.val ∈ s.readers n := mem_readers hr hbm
  have hgr : ((s.wordRead n w).readOut n m (8 * w + e) (s.wordSeen n w)).1 = some gr := by rw [wordRead_sound hf]; exact hg
  rw [hc.txGrains_eq]
  refine foldl_establishes (P := fun u : State => u.outGrain m (8 * w + e) = gr) (a := e) (fun u => ?_) _ (fun u e' he' hu => ?_)
    (List.mem_range.2 he) _
  · exact laneOut_outGrain_same u hm (hin e he) hl hgr
  · by_cases h : e' = e
    · rw [h]; exact laneOut_outGrain_same u hm (hin e he) hl hgr
    · exact (laneOut_outGrain_ne s _ u (hin e he) (hin e' (List.mem_range.1 he')) h).trans hu

-- What a cell delivers (R25, R62, R63, R80)

/-- What the read side delivers where nothing forces the output and nothing plays there. -/
theorem readOut_cases (n m q : Nat) (x : SlabWord) (s : State) (hf : s.outForced m = false) (hp : s.playAt [poPLAYING, poENDING] n q = none) :
    (s.entryAt n q = none → s.readOut n m q x = (some (mkGrain false 0), false)) ∧
    (∀ r, s.entryAt n q = some r → s.gatherOn m r = .follow → x.ef = s.up → cellLane q ∈ x.filled →
      s.readOut n m q x = (some (slabLane x (cellLane q)), false)) ∧
    (∀ r, s.entryAt n q = some r → s.gatherOn m r = .follow → x.ef ≠ s.up ∨ cellLane q ∉ x.filled → taKind r.eg ≠ 0 →
      slotAt r.egAu3 r.eg r.nc ((s.outN n).getD 0) q (s.fn % 4) ≠ some .ptr →
      slotAt r.egAu3 r.eg r.nc ((s.outN n).getD 0) q (s.fn % 4) ≠ some .fix →
      s.readOut n m q x = (some subGrain, true)) ∧
    (∀ r, s.entryAt n q = some r → s.gatherOn m r = .pathAis → s.readOut n m q x =
      (some (if s.isTG n = true ∧ r.typ = tyConnect ∧ s.srcBenched (s.selected r) = true then voidGrain else subGrain), false)) ∧
    (∀ r, s.entryAt n q = some r → s.gatherOn m r = .unequipped → s.readOut n m q x = (some (mkGrain false 0), false)) := by
  unfold State.readOut
  simp only [hf, hp, Bool.false_and, Bool.false_eq_true, ↓reduceIte]
  refine ⟨fun he => ?_, fun r he hg hx hl => ?_, fun r he hg hx hk h1 h2 => ?_, fun r he hg => ?_, fun r he hg => ?_⟩
  · rw [he]
  · simp only [he, hg]
    rw [if_pos ⟨hx, List.contains_iff_mem.2 hl⟩]
  · simp only [he, hg]
    rw [if_neg (by rintro ⟨hu, hc⟩; exact hx.elim (fun h => h hu) (fun h => h (List.contains_iff_mem.1 hc)))]
    dsimp only
    rw [if_pos (.inl hk)]
  · simp only [he, hg]
    congr 2
    simp [and_assoc]
  · simp only [he, hg]

end Sys2Proof.Machine

/-!
What events leave of the traffic's configuration: links, MSP groups, markers, plays.
-/

namespace Sys2Proof.Machine

-- What events leave of the traffic's configuration

theorem evReg_lu {n o : Nat} (h : o < 0xf000) : evReg ⟨.lu, n, o, 0⟩ = false := by simp [evReg, h]
theorem evReg_region {g o : Nat} (h : o < 0xf000) : evReg ⟨.region, g, o, 0⟩ = false := by simp [evReg, h]
theorem evReg_txn {o : Nat} (h : o < 0xf000) : evReg ⟨.txn, 0, o, 0⟩ = false := by simp [evReg, h]
theorem evReg_pour {d o : Nat} (h : o < 0xf000) : evReg ⟨.pour, d, o, 0⟩ = false := by simp [evReg, h]

theorem findSome?_congr {α β : Type} {f g : α → Option β} {l : List α} (h : ∀ x ∈ l, f x = g x) : l.findSome? f = l.findSome? g := by
  rw [← List.head?_filterMap, ← List.head?_filterMap, List.filterMap_congr h]

theorem any_congr_mem {α : Type} {p q : α → Bool} {l : List α} (h : ∀ x ∈ l, p x = q x) : l.any p = l.any q := by
  have := congrArg (fun m : List Bool => m.any id) (List.map_congr_left h)
  simpa [List.any_map] using this

/-- Group k, k below 8, that an LU acts in. -/
theorem mspOf_lt {s : State} {states : List Nat} {n g k c : Nat} (h : s.mspOf states n = some (g, k, c)) : k < 8 := by
  obtain ⟨j, hj, he⟩ := List.exists_of_findSome?_eq_some h
  split at he
  · obtain ⟨c', -, hc⟩ := Option.map_eq_some_iff.1 he
    simp only [Prod.mk.injEq] at hc
    rw [← hc.2.1]
    exact List.mem_range.1 hj
  · cases he

/-- What plays for a job plays for one of eight. -/
theorem playsIn_job_lt {s : State} {states : List Nat} {n j : Nat} {e : Play} (h : e ∈ s.playsIn states n) (hj : e.job = some j) : j < 8 := by
  unfold State.playsIn at h
  rcases List.mem_append.1 h with h | h
  · obtain ⟨i, hi, he⟩ := List.mem_flatMap.1 h
    split at he
    · obtain ⟨x, -, rfl⟩ := List.mem_map.1 he
      obtain rfl : i = j := Option.some.inj hj
      exact List.mem_range.1 hi
    · simp at he
  · obtain ⟨x, -, he⟩ := List.mem_flatMap.1 h
    obtain ⟨y, -, he⟩ := List.mem_filterMap.1 he
    split at he
    · obtain rfl := Option.some.inj he
      obtain ⟨q, hq, rfl⟩ := Option.map_eq_some_iff.1 hj
      obtain ⟨i, hi, hq⟩ := List.exists_of_findSome?_eq_some hq
      split at hq
      · obtain ⟨a, -, rfl⟩ := Option.map_eq_some_iff.1 hq
        exact List.mem_range.1 hi
      · cases hq
    · cases he

section
variable {s t : State} (h : EvOnly s t)
include h

theorem EvOnly.up_eq : t.up = s.up := by rw [h.rest]
theorem EvOnly.actMap_eq : t.actMap = s.actMap := by rw [h.rest]
theorem EvOnly.fn_eq : t.fn = s.fn := by unfold State.fn; rw [h.frames_eq]
theorem EvOnly.persOf_eq (n : Nat) : t.persOf n = s.persOf n := by rw [h.rest]; rfl
theorem EvOnly.secSt_eq (n : Nat) : t.secSt n = s.secSt n := by rw [h.rest]; rfl
theorem EvOnly.running_eq : t.running = s.running := by rw [h.rest]; rfl
theorem EvOnly.pour_eq (d j : Nat) : t.pour d j = s.pour d j := by rw [h.rest]; rfl
theorem EvOnly.grps_eq : t.grps = s.grps := by rw [h.rest]
theorem EvOnly.grpGone_eq : t.grpGone = s.grpGone := by rw [h.rest]
theorem EvOnly.mspSt_eq (g k : Nat) : t.mspSt g k = s.mspSt g k := by rw [h.rest]; rfl
theorem EvOnly.path_eq (a3 : Bool) (x : TA) : t.path a3 x = s.path a3 x := by rw [h.rest]; rfl
theorem EvOnly.heldFor_eq (a3 : Bool) (x : TA) : t.heldFor a3 x = s.heldFor a3 x := by rw [h.rest]; rfl
theorem EvOnly.mfOf_eq (f : Nat) : t.mfOf f = s.mfOf f := by rw [h.rest]; rfl
theorem EvOnly.periodAt_eq (k u : Nat) : t.periodAt k u = s.periodAt k u := by rw [h.rest]; rfl
theorem EvOnly.sncSt_eq (k : Nat) : t.sncSt k = s.sncSt k := by rw [h.rest]; rfl
theorem EvOnly.equaliser_eq (a3 : Bool) (x : TA) : t.equaliser a3 x = s.equaliser a3 x := by rw [h.rest]; rfl
theorem EvOnly.isTG_eq (n : Nat) : t.isTG n = s.isTG n := by unfold State.isTG; rw [h.persOf_eq]

theorem EvOnly.nLink_eq (n : Nat) : t.nLink n = s.nLink n := by
  unfold State.nLink State.rateCode State.rateUnder State.flag
  rw [h.persOf_eq, h.get_eq (evReg_lu (by decide)), h.get_eq (evReg_lu (by decide))]

theorem EvOnly.outN_eq (n : Nat) : t.outN n = s.outN n := by
  unfold State.outN State.searches
  rw [h.persOf_eq, h.secSt_eq]

theorem EvOnly.outNAt_eq (n ef : Nat) : t.outNAt n ef = s.outNAt n ef := by
  unfold State.outNAt
  rw [h.up_eq, h.outN_eq, h.nLink_eq]

theorem EvOnly.srcAu3_eq (x : TA) : t.srcAu3 x = s.srcAu3 x := by
  have : taAug x < 64 := Nat.mod_lt _ (by decide)
  unfold State.srcAu3
  rw [h.get_eq (evReg_lu (by omega))]

-- MSP groups

theorem EvOnly.mspLink_eq (g c : Nat) {k : Nat} (hk : k < 8) : t.mspLink g k c = s.mspLink g k c := by
  unfold State.mspLink
  rw [h.get_eq (evReg_region (by omega)), h.rd_eq (evReg_region (by omega)), h.rd_eq (evReg_region (by omega))]

theorem EvOnly.mspOf_eq (states : List Nat) (n : Nat) : t.mspOf states n = s.mspOf states n := by
  unfold State.mspOf
  refine findSome?_congr fun k hk => ?_
  have hk := List.mem_range.1 hk
  unfold State.mspState State.mspChannel State.mspN
  rw [h.get_eq (evReg_region (by omega)), h.get_eq (evReg_region (by omega))]
  simp only [h.mspLink_eq _ _ hk]

theorem EvOnly.mspActing_eq (n : Nat) : t.mspActing n = s.mspActing n := by
  unfold State.mspActing
  simp only [h.mspOf_eq, h.mspSt_eq]

theorem EvOnly.feedLU_eq (n : Nat) : t.feedLU n = s.feedLU n := by
  unfold State.feedLU
  rw [h.mspActing_eq]
  split
  next g k c hm =>
    have hk : k < 8 := mspOf_lt (Option.filter_eq_some_iff.1 hm).1
    rw [h.get_eq (evReg_region (by omega)), h.mspLink_eq _ _ hk]
  · rfl

-- Markers

theorem EvOnly.ptrState_eq (a3 : Bool) (x : TA) : t.ptrState a3 x = s.ptrState a3 x := by
  unfold State.ptrState
  rw [h.isTG_eq, h.path_eq]

theorem EvOnly.heldRead_eq (a3 : Bool) (x : TA) (f : Nat) : t.heldRead a3 x f = s.heldRead a3 x f := by
  unfold State.heldRead State.heldMarks
  simp only [h.nLink_eq, h.heldFor_eq, h.mfOf_eq]

theorem EvOnly.shownJust_eq (eq : Bool) (src : TA) (p : Nat) : t.shownJust eq src p = s.shownJust eq src p := by
  unfold State.shownJust
  simp only [h.srcAu3_eq, h.equaliser_eq, h.heldRead_eq, h.feedLU_eq, h.ptrState_eq, h.path_eq]

theorem EvOnly.oppMark_eq (r : Rec) (src : TA) (q m ef : Nat) (f : FabGrain) : t.oppMark r src q m ef f = s.oppMark r src q m ef f := by
  unfold State.oppMark
  simp only [h.feedLU_eq, h.isTG_eq, h.shownJust_eq, h.periodAt_eq, h.srcAu3_eq, h.nLink_eq, h.mfOf_eq]

-- Cells

theorem EvOnly.cellAt_eq (r : Rec) (src : TA) (k : Nat) (f : FabGrain) : t.cellAt r src k f = s.cellAt r src k f := by
  unfold State.cellAt
  simp only [h.srcAu3_eq, h.outN_eq, h.nLink_eq, h.up_eq]

theorem EvOnly.poSt_eq (d : Nat) {j : Nat} (hj : j < 8) : t.poSt d j = s.poSt d j := h.get_eq (evReg_pour (by omega)) _

theorem EvOnly.playsIn_eq (states : List Nat) (n : Nat) : t.playsIn states n = s.playsIn states n := by
  have job : ∀ x, t.grpJob x states = s.grpJob x states := fun x => by
    unfold State.grpJob
    refine findSome?_congr fun j hj => ?_
    rw [h.poSt_eq _ (List.mem_range.1 hj), h.pour_eq]
  unfold State.playsIn
  simp only [h.running_eq, h.pour_eq, job]
  congr 1
  refine List.flatMap_congr fun j hj => ?_
  rw [h.poSt_eq _ (List.mem_range.1 hj)]

theorem EvOnly.pourHolds_eq (n q ef : Nat) : t.pourHolds n q ef = s.pourHolds n q ef := by
  unfold State.pourHolds
  simp only [h.playsIn_eq, h.outNAt_eq, h.grps_eq]
  congr 1
  refine any_congr_mem fun e he => ?_
  have slot : t.playSlot e q = s.playSlot e q := by unfold State.playSlot; rw [h.outN_eq, h.fn_eq]
  have holds : t.playHolds n e ef = s.playHolds n e ef := by
    unfold State.playHolds
    simp only [h.grpGone_eq, h.pour_eq, h.fn_eq, h.up_eq, h.frames_eq]
    cases hj : e.job with
    | none => rfl
    | some j => simp only [h.poSt_eq _ (playsIn_job_lt he hj)]
  rw [slot, holds]

end

end Sys2Proof.Machine

/-!
A grain of the dispatch for the cells of a region, where the map holds one entry (R60, R66).
-/

namespace Sys2Proof.Machine

-- A grain for the cells of a region (R60, R65, R66)

theorem SlabOnly.ite {c : Prop} [Decidable c] {s t u : State} (h : SlabOnly s t) (k : SlabOnly s u) : SlabOnly s (if c then t else u) := by
  by_cases hc : c <;> simpa [hc]

/-- What source src of entry r makes of a grain of the dispatch, in state u. -/
def State.cellFrom (s : State) (f : FabGrain) (k : Nat) (r : Rec) (u : State) (src : TA) : State :=
  if taLink src ≠ f.link ∨ servesKind f.whole f.trib src = false then u
  else
    match s.cellAt r src k f with
    | none => u
    | some (q, ef, m) =>
      if (s.mapAt ef).entry r.key == some r && (s.mapAt ef).cellSource r q m ef == src && f.eq == (s.equaliser (s.srcAu3 src) src).isSome
          && !s.pourHolds (taLink r.eg) q ef then u.cellPut (taLink r.eg) q ef (s.oppMark r src q m ef f)
      else u

theorem cellFabric_eq {s : State} (g : Nat) {f : FabGrain} {k : Nat} (h : s.nLink f.link = some k) :
    s.cellFabric g f = (((s.mapAt f.dep).entries ++ (s.mapAt (f.dep + 1)).entries).eraseDups.filter (fun r =>
      r.typ == tyConnect && luRegion (taLink r.eg) == g)).foldl (fun t r => [r.src, r.alt].eraseDups.foldl (s.cellFrom f k r) t) s := by
  unfold State.cellFabric
  rw [h]
  rfl

theorem cellFabric_none {s : State} (g : Nat) {f : FabGrain} (h : s.nLink f.link = none) : s.cellFabric g f = s := by
  unfold State.cellFabric
  rw [h]

theorem SlabOnly.cellFrom (s : State) (f : FabGrain) (k : Nat) (r : Rec) (u : State) (src : TA) : SlabOnly u (s.cellFrom f k r u src) := by
  unfold State.cellFrom
  refine .ite (.refl u) ?_
  split
  · exact .refl u
  · exact .ite (.cellPut _ _ _ _ _) (.refl u)

theorem SlabOnly.cellFabric (s : State) (g : Nat) (f : FabGrain) : SlabOnly s (s.cellFabric g f) := by
  cases h : s.nLink f.link with
  | none => rw [cellFabric_none g h]; exact .refl s
  | some k =>
    rw [cellFabric_eq g h]
    exact .foldl _ (fun t r => .foldl _ (fun u src => .cellFrom _ _ _ _ _ _) t) s

/-- With no sealed transaction the map of every egress frame is the active one. -/
theorem mapAt_unsealed {s : State} (h : ∀ j : Fin 8, s.txnState j ≠ txSEALED) (ef : Nat) : s.mapAt ef = s := by
  have none' : (List.range 8).filter (fun k => s.txnState k == txSEALED && decide (fnDelta s.fn (s.commitFn k) ≤ ef - s.up)) = [] := by
    refine List.filter_eq_nil_iff.2 fun j hj => ?_
    have := h ⟨j, List.mem_range.1 hj⟩
    simp [this]
  unfold State.mapAt
  rw [none']
  rfl

/-- A connection without an SNC takes its grains from its selected source alone. -/
theorem cellSource_plain {s : State} {r : Rec} (h : r.hasSnc = false) (q m ef : Nat) : s.cellSource r q m ef = s.selected r := by
  unfold State.cellSource
  dsimp only
  split
  · rfl
  · simp [h]

/-- The map holds entry r alone, a connection with no SNC, whose source gave the grain f. -/
structure State.OnlyEntry (s : State) (g : Nat) (f : FabGrain) (r : Rec) (k : Nat) : Prop where
  unsealed : ∀ j : Fin 8, s.txnState j ≠ txSEALED
  entries : s.entries = [r]
  entry : s.entry r.key = some r
  typ : r.typ = tyConnect
  plain : r.hasSnc = false
  selected : s.selected r = r.src
  region : luRegion (taLink r.eg) = g
  link : taLink r.src = f.link
  rate : s.nLink f.link = some k
  serves : (if taKind r.src = 0 then f.whole else f.trib) = true
  eq : f.eq = (s.equaliser (s.srcAu3 r.src) r.src).isSome

section
variable {s : State} {g : Nat} {f : FabGrain} {r : Rec} {k : Nat} (h : s.OnlyEntry g f r k)
include h

/-- The other source of the entry gives its cell nothing. -/
theorem State.OnlyEntry.cellFrom_other (u : State) {src : TA} (hne : src ≠ r.src) : s.cellFrom f k r u src = u := by
  have other : ∀ q m ef, ((s.mapAt ef).cellSource r q m ef == src) = false := fun q m ef => by
    rw [mapAt_unsealed h.unsealed, cellSource_plain h.plain, h.selected]
    simpa using hne.symm
  unfold State.cellFrom
  split
  · rfl
  split
  · rfl
  · simp [other]

theorem State.OnlyEntry.cellFabric_eq_cellFrom : s.cellFabric g f = s.cellFrom f k r s r.src := by
  have one : ([r] ++ [r] : List Rec).eraseDups = [r] := by simp [List.eraseDups_cons]
  rw [cellFabric_eq g h.rate, mapAt_unsealed h.unsealed, mapAt_unsealed h.unsealed, h.entries, one]
  simp only [List.filter_cons, h.typ, h.region, BEq.rfl, Bool.and_self, if_true, List.filter_nil, List.foldl_cons, List.foldl_nil]
  by_cases ha : r.alt = r.src
  · simp [List.eraseDups_cons, ha]
  · have two : [r.src, r.alt].eraseDups = [r.src, r.alt] := by simp [List.eraseDups_cons, ha]
    rw [two, List.foldl_cons, List.foldl_cons, List.foldl_nil, h.cellFrom_other _ ha]

theorem State.OnlyEntry.cellFrom_outside (hc : s.cellAt r r.src k f = none) : s.cellFabric g f = s := by
  rw [h.cellFabric_eq_cellFrom]
  unfold State.cellFrom
  rw [hc]
  split <;> rfl

/-- The entry's cell takes the grain, unless Pour holds it. -/
theorem State.OnlyEntry.cellFabric_takes {q ef m : Nat} (hc : s.cellAt r r.src k f = some (q, ef, m)) :
    s.cellFabric g f = if s.pourHolds (taLink r.eg) q ef = true then s else s.cellPut (taLink r.eg) q ef (s.oppMark r r.src q m ef f) := by
  have serves : ¬ (taLink r.src ≠ f.link ∨ servesKind f.whole f.trib r.src = false) := by
    have := h.serves
    simp [h.link, servesKind, this]
  rw [h.cellFabric_eq_cellFrom]
  unfold State.cellFrom
  rw [if_neg serves, hc]
  dsimp only
  rw [mapAt_unsealed h.unsealed, cellSource_plain h.plain, h.entry, h.selected, h.eq]
  cases s.pourHolds (taLink r.eg) q ef <;> simp

theorem State.OnlyEntry.withFabric (l : List FabGrain) : ({ s with fabric := l } : State).OnlyEntry g f r k :=
  ⟨h.unsealed, h.entries, h.entry, h.typ, h.plain, h.selected, h.region, h.link, h.rate, h.serves, h.eq⟩

theorem State.OnlyEntry.of_event {t : State} (ho : EvOnly s t) : t.OnlyEntry g f r k where
  unsealed j := by
    have hj := j.isLt
    unfold State.txnState
    rw [ho.get_eq (evReg_txn (by omega))]
    exact h.unsealed j
  entries := by unfold State.entries; rw [ho.actMap_eq]; exact h.entries
  entry := by unfold State.entry; rw [ho.actMap_eq]; exact h.entry
  typ := h.typ
  plain := h.plain
  selected := by unfold State.selected; rw [ho.sncSt_eq]; exact h.selected
  region := h.region
  link := h.link
  rate := by rw [ho.nLink_eq]; exact h.rate
  serves := h.serves
  eq := by rw [ho.srcAu3_eq, ho.equaliser_eq]; exact h.eq
end

-- CELL_WRITE

/-- An event leaves the store of every region. -/
theorem EvOnly.sameStore {s t : State} (h : EvOnly s t) (k : TallyKept s t) (g : Nat) : SameStore g s t := by
  have powered : t.regionPowered g = s.regionPowered g := by
    have := k.power (g / 2) (22 + g % 2) (by omega)
    rw [bit_eq, bit_eq] at this
    unfold State.regionPowered State.get
    rw [testBit_fget, testBit_fget, BitVec.testBit_toNat, BitVec.testBit_toNat, this]
  refine ⟨h.up_eq, ?_, h.get_eq (evReg_region (by decide)) _, ?_, ?_, h.rd_eq (evReg_region (by decide)), h.rd_eq (evReg_region (by decide))⟩
  · unfold State.slabDepth State.depthOf
    rw [powered, h.rest]
  · rw [h.rest]
  · rw [h.rest]

theorem SameStore.withFabric {g : Nat} {s t : State} (h : SameStore g s t) (l : List FabGrain) : SameStore g s { t with fabric := l } :=
  ⟨h.up, h.depth, h.read, h.spares, h.slabs, h.armed, h.aim⟩

theorem EvOnly.evIf (s : State) (c : Bool) (b src : Nat) : EvOnly s (s.evIf c b src) := .ite (ev_only _ _ _) (.refl _)
theorem TallyKept.evIf (s : State) (c : Bool) (b src : Nat) : TallyKept s (s.evIf c b src) := .ite (.ev _ _ _) (.refl _)

/-- The grain in place i of the dispatched ones has arrived in region g: it leaves the die common once its last region has it. -/
def State.arrived (s : State) (g i : Nat) (f : FabGrain) (gather : Bool) : State :=
  { s.evIf gather (evRegion g) srcGATHER with
    fabric := if f.regs.filter (fun x => x != g) = [] then s.fabric.eraseIdx i else s.fabric.set i { f with regs := f.regs.filter (fun x => x != g) } }

theorem exec_cellWrite_fabric {g : Fin 8} {l : Fin 128} {p : Fin 155520} {x : CellFaults} {i : Nat} {f : FabGrain} {s : State}
    (hs : s.regionStopped g = false)
    (hi : s.fabric.findIdx? (fun f => f.die == g.val / 2 && f.link == l.val && f.pos == p.val && f.regs.contains g.val) = some i)
    (hf : s.fabric[i]? = some f) :
    exec (.cellWrite g l p false x) s = done (((s.upset g x.ups).arrived g i f x.gather).cellFabric g f) := by
  have hfab : ((s.upset g x.ups).evIf x.gather (evRegion g) srcGATHER).fabric = s.fabric := by
    rw [(ControlOnly.evIf _ _ _ _).fabric_eq, upset_rest]
  show execCellWrite g l p false x s = _
  unfold execCellWrite State.arrived
  dsimp only
  rw [hs, hfab, hi, upset_rest]
  simp [hf]

end Sys2Proof.Machine

/-!
Fetching a grain of Pour takes no time (R303).
-/

namespace Sys2Proof.Machine

-- The uptime frame while Pour fetches a grain (R303)

@[simp] theorem event_up (s : State) (b src : Nat) (d : Word) : (s.event b src d).up = s.up := (ControlOnly.event _ _ _ _).up_eq
@[simp] theorem ev_up (s : State) (b src : Nat) : (s.ev b src).up = s.up := (ControlOnly.ev _ _ _).up_eq
@[simp] theorem event'_up (s : State) (b src : Nat) (d : Word) (tw : Bool) : (s.event' b src d tw).up = s.up :=
  (ControlOnly.of_event (event'_only _ _ _ _ _)).up_eq
@[simp] theorem addCtr_up (s : State) (c : Ctr) (n : Nat) : (s.addCtr c n).up = s.up := (ControlOnly.addCtr _ _ _).up_eq
@[simp] theorem updPour_up (s : State) (d j : Nat) (f : PourJob → PourJob) : (s.updPour d j f).up = s.up := rfl
@[simp] theorem addLoss_up (s : State) (c : Ctr) (n : Nat) : (s.addLoss c n).up = s.up := rfl
@[simp] theorem poStatus_up (s : State) (d j : Nat) (f : Fld) (v : Nat) : (s.poStatus d j f v).up = s.up := rfl

/-- A choice between two states of one uptime frame. -/
theorem up_ite {c : Prop} [Decidable c] {s a b : State} (ha : a.up = s.up) (hb : b.up = s.up) : (if c then a else b).up = s.up := by
  by_cases h : c <;> simp [h, ha, hb]

theorem fst_up_ite {α : Type} {c : Prop} [Decidable c] {s : State} {a b : State × α} (ha : a.1.up = s.up) (hb : b.1.up = s.up) :
    (if c then a else b).1.up = s.up := by
  by_cases h : c <;> simp [h, ha, hb]

theorem foldl_up {α : Type} {f : State → α → State} (h : ∀ t a, (f t a).up = t.up) (l : List α) (s : State) : (l.foldl f s).up = s.up :=
  List.foldlRecOn (motive := fun t : State => t.up = s.up) _ _ rfl fun t ht a _ => (h t a).trans ht

theorem pourEnd_up (s : State) (d j c : Nat) : (s.pourEnd d j c).up = s.up := up_ite rfl (ev_up _ _ _)

theorem sieveEnd_up (s : State) (d b : Nat) : (s.sieveEnd d b).up = s.up := up_ite rfl rfl

theorem bankUse_up (s : State) (d b : Nat) : (s.bankUse d b).up = s.up := by
  have sieve : ((s.sieveEnd d b).setSieveAt d b 0).up = s.up := sieveEnd_up s d b
  have abandon : (s.sieveAbandon d b).up = s.up := up_ite ((addCtr_up _ _ _).trans sieve) (up_ite sieve rfl)
  have used : (if s.flag (R.WB_OWN d b) F.WB_OWN_ON_LOAN = true then s.sieveAbandon d b else s).up = s.up := up_ite abandon rfl
  exact used

theorem bankEcc_up (s : State) (d b w : Nat) (x : Ecc) : (s.bankEcc d b w x).up = s.up := by
  cases x <;> simp [State.bankEcc]

theorem dramEcc_up (s : State) (d w : Nat) (x : Ecc) : (s.dramEcc d w x).up = s.up := by
  cases x <;> simp [State.dramEcc]

theorem matrixDeny_up (s : State) (m t : Nat) : (s.matrixDeny m t).up = s.up := by simp [State.matrixDeny]

theorem bankViolation_up (s : State) (m d b : Nat) : (s.bankViolation m d b).up = s.up := by
  have viol : (s.bankViol m d b).up = s.up := by simp [State.bankViol]
  exact viol

theorem engineOp_up (s : State) (m a : Nat) (op : MemOp) (errs : List (Nat × Ecc)) : (s.engineOp m a op errs).1.up = s.up := by
  have ecc : ∀ (t : State) (e : Nat × Ecc), (t.bar2Ecc e).up = t.up := fun t e => by
    unfold State.bar2Ecc
    split
    · exact bankEcc_up _ _ _ _ _
    · exact dramEcc_up _ _ _ _
    · rfl
  have use : ∀ (t : State) (b : Nat), (t.bar2Use b).up = t.up := fun t b => by
    unfold State.bar2Use
    split
    · exact bankUse_up _ _ _
    · rfl
  have refusal : ∀ b, (s.engineRefusal m op.isWrite b).up = s.up := fun b => by
    unfold State.engineRefusal
    split
    · exact up_ite (bankViolation_up _ _ _ _) (matrixDeny_up _ _ _)
    · exact matrixDeny_up _ _ _
    · rfl
  unfold State.engineOp
  split
  · rfl
  split
  · exact refusal _
  · exact (foldl_up ecc _ _).trans (foldl_up use _ _)

theorem pourFetch1_up (s : State) (d j : Nat) (a : Option Nat) (errs : List (Nat × Ecc)) : (s.pourFetch1 d j a errs).1.up = s.up := by
  unfold State.pourFetch1
  split
  · rfl
  next a =>
    have op : (if s.engineWaits (mPOUR d) a (.read 4) = true then (s, false) else s.engineOp (mPOUR d) a (.read 4) errs).1.up = s.up :=
      fst_up_ite rfl (engineOp_up _ _ _ _ _)
    dsimp only
    generalize (if s.engineWaits (mPOUR d) a (.read 4) = true then (s, false) else s.engineOp (mPOUR d) a (.read 4) errs) = y at op ⊢
    exact fst_up_ite op (fst_up_ite op (fst_up_ite op ((pourEnd_up _ _ _ _).trans op)))

theorem setRun_up (s : State) (x : Nat) (g : Grp) : (s.setRun x g).up = s.up := by
  have mark : ∀ (t : State) (h : Grp), (t.grpMark x h g).up = t.up := fun t h => by
    unfold State.grpMark
    exact up_ite rfl rfl
  unfold State.setRun
  split
  · exact mark _ _
  · exact mark _ _

theorem pourUnder_up (s : State) (d j : Nat) : (s.pourUnder d j).up = s.up := by
  unfold State.pourUnder
  exact up_ite (by simp) (by simp)

theorem pourPlayed_up (s : State) (d j : Nat) : (s.pourPlayed d j).up = s.up := by
  unfold State.pourPlayed
  refine up_ite rfl ?_
  dsimp only
  split
  · exact up_ite (pourEnd_up _ _ _ _) rfl
  · rfl

/-- A position that Pour gives its grain, or not in time. -/
theorem pourDelivers_up {s t : State} (ht : t.up = s.up) (d j : Nat) (miss : Bool) {c : Prop} [Decidable c] :
    (if c then (if miss = true then t.pourUnder d j else t).pourPlayed d j else if miss = true then t.pourUnder d j else t).up = s.up :=
  have filled : (if miss = true then t.pourUnder d j else t).up = s.up := up_ite ((pourUnder_up _ _ _).trans ht) ht
  up_ite ((pourPlayed_up _ _ _).trans filled) filled

theorem pourGrain_up (s : State) (n p : Nat) (late : Bool) (errs : List (Nat × Ecc)) : (s.pourGrain n p late errs).1.up = s.up := by
  unfold State.pourGrain
  dsimp only
  split
  · rfl
  split
  · have member : ∀ x i y, (s.setEgMem x i y).drawn.up = s.up := fun x i y => setRun_up s _ _
    split
    · have fetched : ∀ x i y d j a, ((s.setEgMem x i y).drawn.pourFetch1 d j a errs).1.up = s.up := fun x i y d j a =>
        (pourFetch1_up _ _ _ _ _).trans (member x i y)
      refine fst_up_ite (fetched _ _ _ _ _ _) ?_
      apply pourDelivers_up
      rw [updPour_up, fetched]
    · exact member _ _ _
  split
  · rfl
  split
  · rfl
  · refine fst_up_ite (pourFetch1_up _ _ _ _ _) ?_
    apply pourDelivers_up
    rw [State.drawn_up, updPour_up, pourFetch1_up]

end Sys2Proof.Machine

/-!
CELL_WRITE of a grain of the dispatch and of a grain of Pour.
-/

namespace Sys2Proof.Machine

-- CELL_WRITE of a grain of the dispatch

theorem arrived_control (s : State) (g i : Nat) (f : FabGrain) (gather : Bool) :
    ControlOnly { s with fabric := (s.arrived g i f gather).fabric } (s.arrived g i f gather) := by
  refine ⟨?_⟩
  unfold State.arrived
  rw [(ControlOnly.evIf s gather (evRegion g) srcGATHER).rest]

/-- The grain leaves the die common once its last region has it. -/
theorem cellWrite_takes (g : Fin 8) (l : Fin 128) (p : Fin 155520) (x : CellFaults) (i : Nat) (f : FabGrain) (s : State)
    (hs : s.regionStopped g = false)
    (hi : s.fabric.findIdx? (fun f => f.die == g.val / 2 && f.link == l.val && f.pos == p.val && f.regs.contains g.val) = some i)
    (hf : s.fabric[i]? = some f) :
    ∃ t, exec (.cellWrite g l p false x) s = .next t ∧
      t.fabric = (if f.regs.filter (fun x => x != g.val) = [] then s.fabric.eraseIdx i
        else s.fabric.set i { f with regs := f.regs.filter (fun x => x != g.val) }) ∧
      (x.gather = true → t.bit (R.EVT_STICKY (evRegion g)) srcGATHER = true) ∧
      t.txGrains = s.txGrains ∧ t.mem = s.mem ∧ t.actMap = s.actMap := by
  have hu := upset_rest s g x.ups
  obtain ⟨t, ht, hc, hy⟩ := done_control (((s.upset g x.ups).arrived g i f x.gather).cellFabric g f)
  have cells := SlabOnly.cellFabric ((s.upset g x.ups).arrived g i f x.gather) g f
  have arr := arrived_control (s.upset g x.ups) g i f x.gather
  refine ⟨t, (exec_cellWrite_fabric hs hi hf).trans ht, ?_, fun hg => hy.sticky _ _ (cells.tally.sticky _ _ ?_), ?_, ?_, ?_⟩
  · rw [hc.fabric_eq, cells.fabric_eq, hu]; rfl
  · rw [hg]
    exact ev_sticky (s.upset g x.ups) (by decide)
  · rw [hc.txGrains_eq, cells.txGrains_eq, arr.txGrains_eq, hu]
  · rw [hc.mem_eq, cells.mem_eq, arr.mem_eq, hu]
  · rw [hc.actMap_eq, cells.actMap_eq, arr.actMap_eq, hu]

/-- The one entry of the map takes the grain to its cell, unless Pour holds it. -/
theorem cellWrite_only {g : Fin 8} {l : Fin 128} (p : Fin 155520) {x : CellFaults} {i : Nat} {f : FabGrain} {r : Rec} {k : Nat} {s : State}
    (hi : s.fabric.findIdx? (fun f => f.die == g.val / 2 && f.link == l.val && f.pos == p.val && f.regs.contains g.val) = some i)
    (hf : s.fabric[i]? = some f) (hs : s.regionStopped g = false) (hu : x.ups = []) (ho : s.OnlyEntry g f r k) :
    ∃ t, exec (.cellWrite g l p false x) s = .next t ∧ t.txGrains = s.txGrains ∧ t.mem = s.mem ∧
      (∀ q ef m, s.cellAt r r.src k f = some (q, ef, m) → s.pourHolds (taLink r.eg) q ef = false →
        t.slabs = (s.cellPut (taLink r.eg) q ef (s.oppMark r r.src q m ef f)).slabs) ∧
      (∀ q ef m, s.cellAt r r.src k f = some (q, ef, m) → s.pourHolds (taLink r.eg) q ef = true → t.slabs = s.slabs) ∧
      (s.cellAt r r.src k f = none → t.slabs = s.slabs) := by
  have only := EvOnly.evIf s x.gather (evRegion g) srcGATHER
  have entry : (s.arrived g i f x.gather).OnlyEntry g f r k := (ho.of_event only).withFabric _
  have store : SameStore (luRegion (taLink r.eg)) s (s.arrived g i f x.gather) := (only.sameStore (.evIf _ _ _ _) _).withFabric _
  have cell : (s.arrived g i f x.gather).cellAt r r.src k f = s.cellAt r r.src k f := only.cellAt_eq _ _ _ _
  have held : ∀ n q ef, (s.arrived g i f x.gather).pourHolds n q ef = s.pourHolds n q ef := fun n q ef => only.pourHolds_eq n q ef
  have mark : ∀ q m ef, (s.arrived g i f x.gather).oppMark r r.src q m ef f = s.oppMark r r.src q m ef f := fun q m ef =>
    only.oppMark_eq r r.src q m ef f
  obtain ⟨t, ht, hc, -⟩ := done_control ((s.arrived g i f x.gather).cellFabric g f)
  have cells := SlabOnly.cellFabric (s.arrived g i f x.gather) g f
  have arr := arrived_control s g i f x.gather
  have run : exec (.cellWrite g l p false x) s = .next t := by
    rw [exec_cellWrite_fabric hs hi hf, hu]; exact ht
  refine ⟨t, run, (hc.txGrains_eq.trans cells.txGrains_eq).trans arr.txGrains_eq, (hc.mem_eq.trans cells.mem_eq).trans arr.mem_eq,
    fun q ef m hq hp => ?_, fun q ef m hq hp => ?_, fun hq => ?_⟩
  · rw [hc.slabs_eq, entry.cellFabric_takes (cell.trans hq), held, hp, mark]
    exact cellPut_slabs_congr store _ _ _
  · rw [hc.slabs_eq, entry.cellFabric_takes (cell.trans hq), held, hp]
    exact store.slabs
  · rw [hc.slabs_eq, entry.cellFrom_outside (cell.trans hq)]
    exact store.slabs

/-- Where a grain goes for an entry whose link runs in the present frame as in the next (R65, R95). -/
theorem cellAt_steady {r : Rec} {src : TA} {k m q : Nat} {f : FabGrain} {s : State} (ho : s.outN (taLink r.eg) = some m)
    (hn : s.nLink (taLink r.eg) = some m) (ht : trMap (s.srcAu3 src) src k r.egAu3 r.eg m r.nc f.pos = some q) :
    s.cellAt r src k f = (if taInRate r.eg r.nc m then some (q, egressFrame f.dep f.leave f.pos k q m, m) else none) := by
  unfold State.cellAt
  simp only [ho, hn, ht, Option.bind_some, Option.map_some]
  by_cases hr : taInRate r.eg r.nc m = true
  · by_cases hu : egressFrame f.dep f.leave f.pos k q m ≤ s.up
    · simp [Option.filter, hr, hu]
    · simp [Option.filter, hr, hu, Nat.lt_of_not_le hu]
  · simp [hr]

-- CELL_WRITE of a grain of Pour

theorem pourCross_only (s : State) (g l p : Nat) (x : CellFaults) (gr : Grain) : SlabOnly s (s.pourCross g l p x gr) := by
  have put : ∀ a, SlabOnly s ((s.evIf (x.sram != .ok) (evDie (g / 2)) srcSRAM).cellPut l p s.up (crossed a)) := fun a =>
    (SlabOnly.of_control (.evIf _ _ _ _) (.evIf _ _ _ _)).trans (.cellPut _ _ _ _ _)
  have fails : ∀ t : State, SlabOnly t (t.parityFail (.region g 0xF)) := fun t =>
    .of_control (.parityFail _ _) ((TallyKept.addCtr _ _ _ rfl rfl).trans (.event _ _ _ _))
  exact .ite (put _) ((put _).trans (fails _))

/-- What Pour's grain makes of the store. -/
theorem pourCross_slabs (s : State) (g l p : Nat) (x : CellFaults) (gr : Grain) :
    (s.pourCross g l p x gr).slabs = (s.cellPut l p s.up (crossed ((if x.sram = .uncorrectable then subGrain else gr) ^^^ x.flip))).slabs := by
  have store := (EvOnly.evIf s (x.sram != .ok) (evDie (g / 2)) srcSRAM).sameStore (.evIf _ _ _ _) (luRegion l)
  unfold State.pourCross
  dsimp only
  generalize (if x.sram = .uncorrectable then subGrain else gr) ^^^ x.flip = a
  split
  · exact cellPut_slabs_congr store _ _ _
  · exact (ControlOnly.parityFail _ _).slabs_eq.trans (cellPut_slabs_congr store _ _ _)

/-- Pour's grain fails its check where it crosses into the region (R14). -/
theorem pourCross_fails (s : State) (g l p : Nat) (x : CellFaults) (gr : Grain)
    (h : oddParity ((if x.sram = .uncorrectable then subGrain else gr) ^^^ x.flip) = false) :
    (s.pourCross g l p x gr).bit (R.EVT_STICKY (evRegion g)) srcXING_PARITY = true := by
  unfold State.pourCross
  dsimp only
  rw [h]
  exact event_sticky _ _ (by decide)

theorem cellWrite_pour (g : Fin 8) (l : Fin 128) (p : Fin 155520) (x : CellFaults) (s : State) (hs : s.regionStopped g = false)
    (hl : luRegion l = g.val) (hu : x.ups = []) (hg : x.gather = false) (gr : Grain) (hgr : (s.pourGrain l p x.late x.errs).2 = some gr) :
    let u := (s.pourGrain l p x.late x.errs).1
    let a := (if x.sram = .uncorrectable then subGrain else gr) ^^^ x.flip
    ∃ t, exec (.cellWrite g l p true x) s = .next t ∧ t.slabs = (u.cellPut l p s.up (if oddParity a then a else subGrain)).slabs ∧
      t.fabric = u.fabric ∧ t.txGrains = u.txGrains ∧ t.mem = u.mem ∧
      (oddParity a = false → t.bit (R.EVT_STICKY (evRegion g)) srcXING_PARITY = true) := by
  have run : exec (.cellWrite g l p true x) s = done ((s.pourGrain l p x.late x.errs).1.pourCross g l p x gr) := by
    show execCellWrite g l p true x s = _
    unfold execCellWrite
    dsimp only
    rw [hs, hu, upset_nil, hg, show s.evIf false (evRegion g) srcGATHER = s from rfl]
    generalize s.pourGrain l p x.late x.errs = y at hgr ⊢
    obtain ⟨u, o⟩ := y
    obtain rfl : o = some gr := hgr
    simp [hl]
  have up := pourGrain_up s l p x.late x.errs
  intro u a
  obtain ⟨t, ht, hc, hy⟩ := done_control (u.pourCross g l p x gr)
  have only := pourCross_only u g l p x gr
  refine ⟨t, run.trans ht, ?_, hc.fabric_eq.trans only.fabric_eq, hc.txGrains_eq.trans only.txGrains_eq, hc.mem_eq.trans only.mem_eq,
    fun ha => hy.sticky _ _ (pourCross_fails u g l p x gr ha)⟩
  rw [hc.slabs_eq, pourCross_slabs, show u.up = s.up from up]
  rfl

end Sys2Proof.Machine

/-!
The statement on cells.
-/

namespace Sys2Proof.Machine

/-- Settles O11: a grain for a cell of an open window enters its word alone, on the way of the word's check; the read side takes each word
once, and what it delivers rests on the word and the map alone. -/
theorem cellsAreWrittenAndRead : Obligations.CellsAreWrittenAndRead := by
  unfold Obligations.CellsAreWrittenAndRead
  refine ⟨⟨?takes, ?upsets, ?only, ?steady, ?pour, ?opened, ?past⟩, ?readUpsets, ?read, ?beyond, ?delivers⟩
  case takes => exact fun g l p x i f s hs hi hf => cellWrite_takes g l p x i f s hs hi hf
  case upsets => exact cellWrite_upset
  case only =>
    intro g l p x i f r k s hi hf hs hu hsealed hentries hentry htyp hsnc hsel hreg hlink hrate hserves heq
    have link : f.link = l.val := by
      have found := (List.findIdx?_eq_some_iff_getElem.1 hi).2.1
      rw [(List.getElem?_eq_some_iff.1 hf).2] at found
      simp only [Bool.and_eq_true, beq_iff_eq] at found
      obtain ⟨⟨⟨-, hl⟩, -⟩, -⟩ := found
      exact hl
    exact cellWrite_only p hi hf hs hu ⟨hsealed, hentries, hentry, htyp, hsnc, hsel, hreg, hlink.trans link.symm, link ▸ hrate, hserves, heq⟩
  case steady => exact fun r src k m q f s ho hn ht => cellAt_steady ho hn ht
  case pour => exact fun g l p x s hs hl hu hg gr hgr => cellWrite_pour g l p x s hs hl hu hg gr hgr
  case opened => exact fun n q ef gr s hd hlo hhi => cellPut_open gr ⟨hd, hlo, hhi⟩
  case past => exact fun n q ef gr s hd h => cellPut_past_counts gr hd h
  case readUpsets => exact cellRead_upset
  case read => exact fun n w s hd hb hs hw => cellRead_takes n w s hd hb hs hw
  case beyond => exact fun n w s hs h => cellRead_beyond n w hs h
  case delivers => exact fun n m q x s hf hp => readOut_cases n m q x s hf hp

end Sys2Proof.Machine

/-!
Refutation of the statement on re-benches (02_bench_image.md): the groups of protection are freed before the transactions are aborted, and an
event of theirs can bring the package into GRAVE, in which no slot changes state (R48, R349).
-/

namespace Sys2Proof.Machine

-- What MODE to SLAB of an image leave of transactions (R47)

/-- A register of the transaction slots, or the status of a DRAM stack. -/
def slotReg (r : RegId) : Bool := r.blk == .txn || (r.blk == .die && r.off == 0x1100)

/-- The registers of transaction slots and of DRAM stacks stand, and what waits for a bank or for retirement. -/
structure SlotsKept (s t : State) : Prop where
  regs : ∀ r, slotReg r = true → t.rd r = s.rd r
  waits : t.wbWait = s.wbWait
  due : t.due = s.due

theorem SlotsKept.of_regs {s t : State} (hr : t.regs = s.regs) (hw : t.wbWait = s.wbWait) (hd : t.due = s.due) : SlotsKept s t :=
  ⟨fun r _ => by unfold State.rd; rw [hr], hw, hd⟩

theorem SlotsKept.refl (s : State) : SlotsKept s s := .of_regs rfl rfl rfl

theorem SlotsKept.trans {s t u : State} (h : SlotsKept s t) (k : SlotsKept t u) : SlotsKept s u :=
  ⟨fun r hr => (k.regs r hr).trans (h.regs r hr), k.waits.trans h.waits, k.due.trans h.due⟩

theorem SlotsKept.ite {c : Prop} [Decidable c] {s t u : State} (h : SlotsKept s t) (k : SlotsKept s u) : SlotsKept s (if c then t else u) := by
  by_cases hc : c <;> simpa [hc]

theorem SlotsKept.foldl {α : Type} {f : State → α → State} (h : ∀ t a, SlotsKept t (f t a)) (l : List α) (s : State) : SlotsKept s (l.foldl f s) :=
  List.foldlRecOn (motive := SlotsKept s) _ _ (.refl s) fun _ ht a _ => ht.trans (h _ a)

theorem SlotsKept.wr (s : State) (r : RegId) (v : Word) (h : slotReg r = false) : SlotsKept s (s.wr r v) :=
  ⟨fun q hq => rd_wr_ne s v (by rintro rfl; rw [h] at hq; cases hq), rfl, rfl⟩

theorem SlotsKept.put (s : State) (r : RegId) (f : Fld) (v : Nat) (h : slotReg r = false) : SlotsKept s (s.put r f v) := .wr s r _ h

theorem SlotsKept.putBit (s : State) (r : RegId) (i : Nat) (b : Bool) (h : slotReg r = false) : SlotsKept s (s.putBit r i b) := by
  cases b <;> exact .wr s r _ h

theorem SlotsKept.classify (s : State) (b i : Nat) (e : Nat × Nat × Nat × Bool) : SlotsKept s (s.classify b i e) :=
  ((((SlotsKept.put _ _ _ _ rfl).trans (.put _ _ _ _ rfl)).trans (.put _ _ _ _ rfl)).trans (.put _ _ _ _ rfl)).trans (.putBit _ _ _ _ rfl)

theorem SlotsKept.withFence (s : State) (b : Bool) : SlotsKept s { s with fence := b } := .of_regs rfl rfl rfl
theorem SlotsKept.withSlabs (s : State) (l : List (Nat × SlabWord)) : SlotsKept s { s with slabs := l } := .of_regs rfl rfl rfl
theorem SlotsKept.restartRegion (s : State) (g : Nat) : SlotsKept s (s.restartRegion g) := .of_regs rfl rfl rfl
theorem SlotsKept.startTimerNs (s : State) (k : TKey) (n : Nat) : SlotsKept s (s.startTimerNs k n) := .of_regs rfl rfl rfl
theorem SlotsKept.zeroMem (s : State) (p : Nat → Bool) : SlotsKept s (s.zeroMem p) := .of_regs rfl rfl rfl

theorem SlotsKept.applyModes (s : State) (x : Img) : SlotsKept s (s.applyModes x) := by
  unfold State.applyModes
  refine .trans (.trans (.withFence _ _) (.foldl (fun _ _ => .foldl (fun _ _ => ?_) _ _) _ _)) (.put _ _ _ _ rfl)
  exact .classify _ _ _ _

theorem SlotsKept.powerRg (s : State) (g : Nat) (on lock : Bool) : SlotsKept s (s.powerRg g on lock) :=
  (SlotsKept.putBit _ _ _ _ rfl).trans (.putBit _ _ _ _ rfl)

theorem SlotsKept.powerCl (s : State) (c : Nat) (on lock : Bool) : SlotsKept s (s.powerCl c on lock) :=
  (SlotsKept.putBit _ _ _ _ rfl).trans (.putBit _ _ _ _ rfl)

theorem SlotsKept.clearSlabs (s : State) (g : Nat) : SlotsKept s (s.clearSlabs g) :=
  ((SlotsKept.withSlabs s _).trans (.put _ _ _ _ rfl)).trans (.put _ _ _ _ rfl)

theorem SlotsKept.dropBank (s : State) (d b : Nat) : SlotsKept s (s.dropBank d b) := by
  have ends : SlotsKept s (s.sieveEnd d b) :=
    .ite (((SlotsKept.put _ _ _ _ rfl).trans (.put _ _ _ _ rfl)).trans (.put _ _ _ _ rfl)) (.put _ _ _ _ rfl)
  exact ends.trans (.of_regs rfl rfl rfl)

/-- A bank for which nothing waits wakes nothing. -/
theorem wakeBank_none {s : State} (h : s.wbWait = []) (d b : Nat) : s.wakeBank d b = s := by
  unfold State.wakeBank
  rw [h]
  show { s with wbWait := [] } = s
  rw [← h]

theorem SlotsKept.banksGone {s : State} (h : s.wbWait = []) (d : Nat) : SlotsKept s (s.banksGone d) := by
  unfold State.banksGone
  refine List.foldlRecOn (motive := SlotsKept s) _ _ (.refl s) fun t ht b _ => ht.trans (.ite ?_ (.refl t))
  have gone : SlotsKept t (((((t.dropBank d b).zeroMem (inBank d b)).put (R.WB_OWN d b) F.WB_OWN_PRESENT 0).put (R.WB_OWN d b) F.WB_OWN_OWNER 0).put
      (R.WB_OWN d b) F.WB_OWN_PENDING 0) :=
    ((((SlotsKept.dropBank _ _ _).trans (.zeroMem _ _)).trans (.put _ _ _ _ rfl)).trans (.put _ _ _ _ rfl)).trans (.put _ _ _ _ rfl)
  rw [wakeBank_none (gone.waits.trans (ht.waits.trans h))]
  exact gone

theorem SlotsKept.applyPower {s : State} (h : s.wbWait = []) (x : Img) : SlotsKept s (s.applyPower x) := by
  unfold State.applyPower
  extract_lets s1 s2 s3 s4
  have regions : SlotsKept s s1 := .foldl (fun _ _ => .powerRg _ _ _ _) _ _
  have clusters : SlotsKept s1 s2 := .foldl (fun _ _ => .powerCl _ _ _ _) _ _
  have depth : SlotsKept s2 s3 := .of_regs rfl rfl rfl
  have slabs : SlotsKept s3 s4 := by
    refine .foldl (fun t g => (SlotsKept.clearSlabs t g).trans (.ite ?_ (.refl _))) _ _
    exact (SlotsKept.restartRegion _ _).trans (.startTimerNs _ _ _)
  have all := ((regions.trans clusters).trans depth).trans slabs
  exact List.foldlRecOn (motive := SlotsKept s) _ _ all fun t ht d _ => ht.trans (.banksGone (ht.waits.trans h) d)

theorem dramReady_congr {s t : State} (h : SlotsKept s t) : t.dramReady = s.dramReady := by
  have flag : ∀ d, t.flag (R.DRAM_STATUS d) F.DRAM_STATUS_INIT_DONE = s.flag (R.DRAM_STATUS d) F.DRAM_STATUS_INIT_DONE := fun d => by
    unfold State.flag State.get; rw [h.regs _ rfl]
  unfold State.dramReady
  simp only [flag]

/-- A stack whose status has its reset value is not ready (Table 13-9). -/
theorem dramReady_of_reset {s : State} (h : s.rd (R.DRAM_STATUS 0) = resetVal (R.DRAM_STATUS 0)) : s.dramReady = false := by
  have spares : resetVal (R.DRAM_STATUS 0) = (Config.dramSpares 0).setWidth 32 := rfl
  have unready : s.flag (R.DRAM_STATUS 0) F.DRAM_STATUS_INIT_DONE = false := by
    rw [flag_eq_bit s _ _ rfl, bit_eq, h, spares, BitVec.getLsbD_setWidth, BitVec.getLsbD_of_ge _ _ (by decide), Bool.and_false]
  unfold State.dramReady
  rw [List.all_eq_false]
  exact ⟨0, by decide, by simp [unready]⟩

/-- Step 9 of a start-up whose stacks are not ready leaves the transaction slots. -/
theorem SlotsKept.fullApply {s : State} (hw : s.wbWait = []) (hd : s.dramReady = false) (a : Applying) : SlotsKept s (s.fullApply a) := by
  unfold State.fullApply
  extract_lets b s1
  have begun : SlotsKept s s1 := (SlotsKept.put _ _ _ _ rfl).trans (.put _ _ _ _ rfl)
  have modes := begun.trans (.applyModes s1 a.img)
  have power := modes.trans (.applyPower (modes.waits.trans hw) a.img)
  have applied : SlotsKept s { (s1.applyModes a.img).applyPower a.img with applying := some b } := power.trans (.of_regs rfl rfl rfl)
  generalize ({ (s1.applyModes a.img).applyPower a.img with applying := some b } : State) = u at applied ⊢
  unfold State.fullDram
  rw [dramReady_congr applied, hd]
  exact applied

-- A group of protection whose source is of class GRAVE (R48, R349)

/-- A full image of no section, accepted. -/
def emptyBench : Applying := ⟨⟨true, 255, 7, []⟩, false, .waiting, 0⟩

/-- Slot 0 is OPEN, and protection group 0 of region 0 is PENDING, whose event source is of class GRAVE with N = 1; the image waits for this
boundary. -/
def graveProtection : State :=
  { ((((answeringA.put (R.MSP_STATUS 0 0) F.MSP_STATUS_STATE 1).put (R.TXN_STATUS 0) F.TXN_STATUS_STATE txOPEN).put
      (R.EVT_CFG (evRegion 0) srcMSP) F.EVT_CFG_CLASS clsGrave).put (R.EVT_CFG (evRegion 0) srcMSP) F.EVT_CFG_N 1) with
    applying := some emptyBench }

/-- The re-bench of that state up to its step 9. -/
def graveProtectionFreed : State :=
  ({ graveProtection with fullForced := true }.mspFreeAll.abortAll).dropMap.pmFree (fun _ => true)

/-- Freeing the group brings the package into GRAVE, and the slot is not aborted. -/
theorem graveProtectionFreed_slot : graveProtectionFreed.rd (R.TXN_STATUS 0) = graveProtection.rd (R.TXN_STATUS 0) ∧
    graveProtectionFreed.wbWait = [] ∧ graveProtectionFreed.due = [] := by decide +kernel

theorem graveProtectionFreed_dramReady : graveProtectionFreed.dramReady = false := by
  have unset : ∀ e ∈ graveProtectionFreed.regs, e.1 ≠ R.DRAM_STATUS 0 := by decide +kernel
  exact dramReady_of_reset (look_eq_default_of_not_mem unset)

theorem exec_graveProtection : exec .fullRebenchApply graveProtection = done (graveProtectionFreed.fullApply emptyBench) := rfl

theorem graveProtection_keeps_slot {t : State} (ht : exec .fullRebenchApply graveProtection = .next t) : t.txnLive 0 = true := by
  obtain ⟨hslot, hwait, hdue⟩ := graveProtectionFreed_slot
  have applied := SlotsKept.fullApply hwait graveProtectionFreed_dramReady emptyBench
  obtain ⟨u, hu, note⟩ := done_note (applied.due.trans hdue)
  obtain rfl : t = u := Host.Outcome.next.inj (ht.symm.trans (exec_graveProtection.trans hu))
  have stands : t.rd (R.TXN_STATUS 0) = graveProtection.rd (R.TXN_STATUS 0) :=
    (note.regs _ (by decide)).trans ((applied.regs _ rfl).trans hslot)
  have live : graveProtection.txnLive 0 = true := by decide +kernel
  unfold State.txnLive State.txnState State.get at live ⊢
  rwa [stands]

/-- Refutes O9: the package is not in GRAVE before the command, but a protection group that the re-bench frees counts an event that brings it
there before the transactions are aborted, and in GRAVE no slot changes state. -/
theorem not_rebenchSteps : ¬ Obligations.RebenchSteps := by
  unfold Obligations.RebenchSteps
  intro h
  obtain ⟨hfull, -⟩ := h
  obtain ⟨t, ht, -, -, -, -, -, hslots⟩ := hfull emptyBench graveProtection rfl rfl rfl (by decide +kernel) (by decide +kernel)
  exact absurd ((hslots (by decide +kernel) 0).symm.trans (graveProtection_keeps_slot ht)) (by decide)

end Sys2Proof.Machine

/-!
The loader of bench images: a START, the header, and the refusal of an image (02_bench_image.md: R43, R45, R46, R50, R440; R397).
-/

namespace Sys2Proof.Machine

-- Registers after retirements

theorem ReactOnly.get_eq {s t : State} (h : ReactOnly s t) {r : RegId} (hr : reactReg r = false) (f : Fld) : t.get r f = s.get r f := by
  unfold State.get; rw [h.regs r hr]

theorem ControlOnly.load_eq {s t : State} (h : ControlOnly s t) : t.load = s.load := by rw [h.rest]
theorem ControlOnly.applying_eq {s t : State} (h : ControlOnly s t) : t.applying = s.applying := by rw [h.rest]

theorem ControlOnly.withLoad {s t : State} (h : ControlOnly s t) (l : Option Load) (lg : List SpiCmd) :
    ControlOnly { s with load := l, spiLog := lg } { t with load := l, spiLog := lg } :=
  ⟨congrArg (fun u : State => { u with load := l, spiLog := lg }) h.rest⟩

/-- Nothing differs but the load in progress, the commands that the flash has been given, and what control leaves open. -/
structure LoadOnly (s t : State) : Prop where
  rest : ControlOnly { s with load := t.load, spiLog := t.spiLog } t

theorem LoadOnly.trans {s t u : State} (h : LoadOnly s t) (k : LoadOnly t u) : LoadOnly s u := ⟨(h.rest.withLoad _ _).trans k.rest⟩
theorem LoadOnly.of_control {s t : State} (h : ControlOnly s t) : LoadOnly s t := ⟨h.withLoad t.load t.spiLog⟩
theorem LoadOnly.of_react {s t : State} (h : ReactOnly s t) : LoadOnly s t := .of_control (.of_react h)
theorem LoadOnly.refl (s : State) : LoadOnly s s := .of_control (.refl s)
theorem LoadOnly.withLoad (s : State) (l : Option Load) (lg : List SpiCmd) : LoadOnly s { s with load := l, spiLog := lg } := ⟨.refl _⟩

theorem LoadOnly.ite {c : Prop} [Decidable c] {s t u : State} (h : LoadOnly s t) (k : LoadOnly s u) : LoadOnly s (if c then t else u) := by
  by_cases hc : c <;> simpa [hc]

theorem LoadOnly.foldl {α : Type} {f : State → α → State} (h : ∀ t a, LoadOnly t (f t a)) (l : List α) (s : State) : LoadOnly s (l.foldl f s) :=
  List.foldlRecOn (motive := fun t => LoadOnly s t) _ _ (.refl s) fun _ ht a _ => ht.trans (h _ a)

theorem LoadOnly.mem_eq {s t : State} (h : LoadOnly s t) : t.mem = s.mem := h.rest.mem_eq
theorem LoadOnly.applying_eq {s t : State} (h : LoadOnly s t) : t.applying = s.applying := h.rest.applying_eq
theorem LoadOnly.actMap_eq {s t : State} (h : LoadOnly s t) : t.actMap = s.actMap := by rw [h.rest.rest]
theorem LoadOnly.inFrames_eq {s t : State} (h : LoadOnly s t) (n : Nat) : t.inFrames n = s.inFrames n := by rw [h.rest.rest]; rfl

-- Reading the flash (R397)

theorem askHeader_rest (s : State) (l : Load) : s.askHeader l = { s with spiLog := (s.askHeader l).spiLog } := by
  unfold State.askHeader
  split <;> rfl

@[simp] theorem rd_askHeader (s : State) (l : Load) (r : RegId) : (s.askHeader l).rd r = s.rd r := by rw [askHeader_rest]; rfl
@[simp] theorem get_askHeader (s : State) (l : Load) (r : RegId) (f : Fld) : (s.askHeader l).get r f = s.get r f := by rw [askHeader_rest]; rfl

/-- A read command rests on the straps alone. -/
theorem flashRead_spiLog_congr {s t : State} (hr : t.rd R.PKG_START = s.rd R.PKG_START) (hl : t.spiLog = s.spiLog) (a n : Nat) :
    (t.flashRead a n).spiLog = (s.flashRead a n).spiLog := by
  unfold State.flashRead State.spiMHz State.get
  rw [hr, hl]

-- A load begins (R43, R45)

theorem beginRead_eq (s : State) (l : Load) :
    s.beginRead l = { ({ s with load := some l }.bench F.BENCH_STATUS_LAST_SOURCE l.source).benchState bsLOADING with
      spiLog := (s.beginRead l).spiLog } := askHeader_rest _ _

theorem beginRead_load (s : State) (l : Load) : (s.beginRead l).load = some l := by rw [beginRead_eq]; rfl

theorem beginRead_only (s : State) (l : Load) : LoadOnly s (s.beginRead l) := by
  rw [beginRead_eq]
  exact (((LoadOnly.withLoad s (some l) s.spiLog).trans (.of_control (.put _ _ _ _))).trans (.of_control (.put _ _ _ _))).trans (.withLoad _ (some l) _)

theorem rd_beginRead_ne (s : State) (l : Load) {r : RegId} (h : r ≠ R.BENCH_STATUS) : (s.beginRead l).rd r = s.rd r := by
  unfold State.beginRead State.benchState State.bench
  rw [rd_askHeader, rd_put_ne _ _ _ h, rd_put_ne _ _ _ h]
  rfl

theorem beginRead_state (s : State) (l : Load) : (s.beginRead l).get R.BENCH_STATUS F.BENCH_STATUS_STATE = bsLOADING := by
  unfold State.beginRead State.benchState
  rw [get_askHeader]
  exact get_put_same _ _ (by decide)

theorem beginRead_source (s : State) (l : Load) : (s.beginRead l).get R.BENCH_STATUS F.BENCH_STATUS_LAST_SOURCE = l.source % 8 := by
  unfold State.beginRead State.benchState State.bench
  rw [get_askHeader, get_put_field _ _ (by decide)]
  exact get_put_same _ _ (by decide)

theorem beginRead_staging (s : State) {l : Load} (h : l.source = 0) : (s.beginRead l).spiLog = s.spiLog := by
  unfold State.beginRead State.askHeader
  rw [if_pos (.inl h)]
  rfl

/-- A read of a flash slot begins with a read command for the header where the bus is free. -/
theorem beginRead_flash (s : State) {l : Load} (h : l.source ≠ 0) (hf : s.spiRun = none) :
    (s.beginRead l).spiLog = (s.flashRead l.base 64).spiLog := by
  unfold State.beginRead State.askHeader
  rw [if_neg (by simp [State.benchState, State.bench, State.put, h, hf])]
  have straps : (({ s with load := some l }.bench F.BENCH_STATUS_LAST_SOURCE l.source).benchState bsLOADING).rd R.PKG_START =
      s.rd R.PKG_START := (rd_put_ne _ _ _ (by decide)).trans (rd_put_ne _ _ _ (by decide))
  exact flashRead_spiLog_congr straps rfl _ _

/-- The registers that a START clears. -/
def State.startCleared (s : State) : State :=
  (((s.wr R.BENCH_REFUSE 0).wr R.BENCH_REFUSE_OFFSET 0).bench F.BENCH_STATUS_FALLBACK 0).bench F.BENCH_STATUS_REREADS 0

theorem beginLoad_eq (s : State) (l : Load) : s.beginLoad l = s.startCleared.beginRead l := rfl

theorem startCleared_refuse (s : State) : s.startCleared.rd R.BENCH_REFUSE = 0 := by
  unfold State.startCleared State.bench
  rw [rd_put_ne _ _ _ (by decide), rd_put_ne _ _ _ (by decide), rd_wr_ne _ _ (by decide), rd_wr_same]

-- A refusal (R45, R46, R440)

def BRef.word (r : BRef) : Word := BitVec.ofNat 32 (2 ^ 24 * r.step + 2 ^ 8 * (r.sect % 2 ^ 16) + r.code)

/-- The state shows the refusal, and its event has been counted. -/
structure ShowsRefusal (r : BRef) (s : State) : Prop where
  code : s.rd R.BENCH_REFUSE = r.word
  offset : s.rd R.BENCH_REFUSE_OFFSET = BitVec.ofNat 32 r.off
  sticky : s.bit (R.EVT_STICKY evPkg) srcBENCH = true

theorem recordRefusal_control (s : State) (r : BRef) : ControlOnly s (s.recordRefusal r) :=
  (((ControlOnly.wr _ _ _).trans (.wr _ _ _)).trans (.put _ _ _ _)).trans (.ev _ _ _)

theorem recordRefusal_shows (s : State) (r : BRef) : ShowsRefusal r (s.recordRefusal r) := by
  have event : ∀ t : State, EvOnly t (t.ev evPkg srcBENCH) := fun t => ev_only t _ _
  refine ⟨?_, ?_, ev_sticky _ (by decide)⟩
  · refine ((event _).regs _ rfl).trans ?_
    unfold State.benchState State.bench
    rw [rd_put_ne _ _ _ (by decide), rd_wr_ne _ _ (by decide), rd_wr_same]
    rfl
  · refine ((event _).regs _ rfl).trans ?_
    unfold State.benchState State.bench
    rw [rd_put_ne _ _ _ (by decide), rd_wr_same]

theorem recordRefusal_state (s : State) (r : BRef) : (s.recordRefusal r).get R.BENCH_STATUS F.BENCH_STATUS_STATE = bsREFUSED :=
  ((ev_only _ _ _).get_eq rfl _).trans (get_put_same _ _ (by decide))

theorem ShowsRefusal.of_rd {r : BRef} {s t : State} (h : ShowsRefusal r s) (hc : t.rd R.BENCH_REFUSE = s.rd R.BENCH_REFUSE)
    (ho : t.rd R.BENCH_REFUSE_OFFSET = s.rd R.BENCH_REFUSE_OFFSET) (he : t.rd (R.EVT_STICKY evPkg) = s.rd (R.EVT_STICKY evPkg)) :
    ShowsRefusal r t :=
  ⟨hc.trans h.code, ho.trans h.offset, by have := h.sticky; unfold State.bit at this ⊢; rwa [he]⟩

/-- The end of a command leaves a refusal shown. -/
theorem ShowsRefusal.done {r : BRef} {s t : State} (h : ShowsRefusal r s) (hr : ReactOnly s t) (hy : TallyKept s t) : ShowsRefusal r t :=
  ⟨(hr.regs _ rfl).trans h.code, (hr.regs _ rfl).trans h.offset, hy.sticky _ _ h.sticky⟩

theorem ControlOnly.toStep (s : State) (n : Nat) : ControlOnly s (s.toStep n) := by
  unfold State.toStep
  split
  · exact .put _ _ _ _
  · exact .refl s

theorem rd_toStep_ne (s : State) (n : Nat) {r : RegId} (h : r ≠ R.PKG_START) : (s.toStep n).rd r = s.rd r := by
  unfold State.toStep
  split
  · exact rd_put_ne _ _ _ h
  · rfl

theorem le_startStep_toStep (s : State) {n : Nat} (h : n < 16) : n ≤ (s.toStep n).startStep := by
  unfold State.toStep
  split
  · refine le_of_eq (Eq.symm ?_)
    unfold State.startStep
    rw [get_put_same _ _ (by decide)]
    exact Nat.mod_eq_of_lt h
  · omega

/-- What a load shows whose image was refused for good. -/
structure LoadRefused (r : BRef) (s t : State) : Prop where
  only : LoadOnly s t
  load : t.load = none
  shows : ShowsRefusal r t
  state : t.get R.BENCH_STATUS F.BENCH_STATUS_STATE = bsREFUSED

theorem loadRefused_record (s : State) (r : BRef) : LoadRefused r s { s.recordRefusal r with load := none } where
  only := (LoadOnly.of_control (recordRefusal_control s r)).trans (.withLoad _ none _)
  load := rfl
  shows := (recordRefusal_shows s r).of_rd rfl rfl rfl
  state := recordRefusal_state s r

theorem LoadRefused.toStep {r : BRef} {s t : State} (h : LoadRefused r s t) (n : Nat) : LoadRefused r s (t.toStep n) where
  only := h.only.trans (.of_control (.toStep _ _))
  load := (ControlOnly.toStep _ _).load_eq.trans h.load
  shows := h.shows.of_rd (rd_toStep_ne _ _ (by decide)) (rd_toStep_ne _ _ (by decide)) (rd_toStep_ne _ _ (by decide))
  state := Eq.trans (by unfold State.get; rw [rd_toStep_ne _ _ (by decide)]) h.state

theorem LoadRefused.done {r : BRef} {s t u : State} (h : LoadRefused r s t) (hr : ReactOnly t u) (hy : TallyKept t u) : LoadRefused r s u where
  only := h.only.trans (.of_react hr)
  load := (ControlOnly.of_react hr).load_eq.trans h.load
  shows := h.shows.done hr hy
  state := (hr.get_eq rfl _).trans h.state

/-- A refused load that ends: nothing is taken from the image, and a load of the start-up passes on to step 8 (R45, R46). -/
theorem refuseLoad_ends (s : State) {l : Load} (r : BRef) (h : (l.fallback && !l.fell) = false) :
    LoadRefused r s (s.refuseLoad l r) ∧ (l.boot = true → 8 ≤ (s.refuseLoad l r).startStep) := by
  unfold State.refuseLoad
  rw [h]
  cases l.boot with
  | false => exact ⟨loadRefused_record s r, nofun⟩
  | true => exact ⟨(loadRefused_record s r).toStep 8, fun _ => le_startStep_toStep _ (by decide)⟩

theorem refuseLoad_done (s : State) {l : Load} (r : BRef) (h : (l.fallback && !l.fell) = false) :
    ∃ t, done (s.refuseLoad l r) = .next t ∧ LoadRefused r s t ∧ (l.boot = true → 8 ≤ t.startStep) := by
  obtain ⟨refused, step⟩ := refuseLoad_ends s r h
  obtain ⟨t, ht, hr, hy⟩ := done_tally (s.refuseLoad l r)
  exact ⟨t, ht, refused.done hr hy, fun hb => (step hb).trans_eq (hr.get_eq (r := R.PKG_START) rfl _).symm⟩

/-- The load of slot 1 that follows the refusal of slot 0. -/
def Load.fallen (l : Load) : Load := { l with source := 2, fell := true, header := none }

theorem refuseLoad_falls (s : State) {l : Load} (r : BRef) (h : (l.fallback && !l.fell) = true) :
    s.refuseLoad l r = (s.recordRefusal r).beginRead l.fallen := by
  unfold State.refuseLoad
  rw [h]
  rfl

/-- What a load shows that fell back to slot 1: slot 0's refusal, and a read that has begun (R45). -/
structure LoadFallen (l : Load) (r : BRef) (s t : State) : Prop where
  only : LoadOnly s t
  load : t.load = some l.fallen
  shows : ShowsRefusal r t
  state : t.get R.BENCH_STATUS F.BENCH_STATUS_STATE = bsLOADING
  source : t.get R.BENCH_STATUS F.BENCH_STATUS_LAST_SOURCE = 2

theorem loadFallen_beginRead (s : State) (l : Load) (r : BRef) : LoadFallen l r s ((s.recordRefusal r).beginRead l.fallen) where
  only := (LoadOnly.of_control (recordRefusal_control s r)).trans (beginRead_only _ _)
  load := beginRead_load _ _
  shows := (recordRefusal_shows s r).of_rd (rd_beginRead_ne _ _ (by decide)) (rd_beginRead_ne _ _ (by decide)) (rd_beginRead_ne _ _ (by decide))
  state := beginRead_state _ _
  source := beginRead_source _ _

theorem refuseLoad_fallsBack (s : State) {l : Load} (r : BRef) (h : (l.fallback && !l.fell) = true) :
    ∃ t, done (s.refuseLoad l r) = .next t ∧ LoadFallen l r s t := by
  obtain ⟨only, load, shows, state, source⟩ := loadFallen_beginRead s l r
  obtain ⟨t, ht, hr, hy⟩ := done_tally (s.refuseLoad l r)
  rw [refuseLoad_falls s r h] at hr hy
  exact ⟨t, ht, only.trans (.of_react hr), (ControlOnly.of_react hr).load_eq.trans load, shows.done hr hy, (hr.get_eq rfl _).trans state,
    (hr.get_eq rfl _).trans source⟩

end Sys2Proof.Machine

/-!
A START (02_bench_image.md: R43, R50, R440; 17_host_management.md: R397).
-/

namespace Sys2Proof.Machine

section
variable {p : RegId → Bool} {s t u : State}

theorem RegsOnly.trans (h : RegsOnly p s t) (k : RegsOnly p t u) : RegsOnly p s u :=
  ⟨by rw [k.rest, h.rest], fun r hr => (k.regs r hr).trans (h.regs r hr)⟩
theorem RegsOnly.answer (s : State) (c : Completion) : RegsOnly p s (s.answer c) := ⟨rfl, fun _ _ => rfl⟩
theorem RegsOnly.wr (s : State) {r : RegId} (v : Word) (hr : p r = true) : RegsOnly p s (s.wr r v) :=
  ⟨rfl, fun _ h => rd_wr_ne _ _ (by rintro rfl; simp [hr] at h)⟩
theorem RegsOnly.put (s : State) {r : RegId} (f : Fld) (v : Nat) (hr : p r = true) : RegsOnly p s (s.put r f v) := .wr _ _ hr
theorem RegsOnly.control (h : RegsOnly p s t) : ControlOnly s t := ⟨by rw [h.rest]⟩
theorem RegsOnly.withLoad (h : RegsOnly p s t) (l : Option Load) (lg : List SpiCmd) :
    RegsOnly p { s with load := l, spiLog := lg } { t with load := l, spiLog := lg } :=
  ⟨congrArg (fun u : State => { u with load := l, spiLog := lg }) h.rest, h.regs⟩

end

-- The registers of a load

def benchReg (r : RegId) : Bool := r.blk == .bench

theorem startCleared_regs (s : State) : RegsOnly benchReg s s.startCleared :=
  (((RegsOnly.wr _ _ rfl).trans (.wr _ _ rfl)).trans (.put _ _ _ rfl)).trans (.put _ _ _ rfl)

theorem beginRead_regs (s : State) (l : Load) :
    RegsOnly benchReg { s with load := (s.beginRead l).load, spiLog := (s.beginRead l).spiLog } (s.beginRead l) := by
  have shown : RegsOnly benchReg { s with load := some l } (({ s with load := some l }.bench F.BENCH_STATUS_LAST_SOURCE l.source).benchState bsLOADING) :=
    (RegsOnly.put _ _ _ rfl).trans (.put _ _ _ rfl)
  have asked := shown.withLoad (some l) (s.beginRead l).spiLog
  rw [beginRead_load, beginRead_eq]
  exact asked

-- The write of BENCH_CTRL

/-- The word of a START carries its source. -/
theorem wrRW_benchCtrl (s : State) {n : Nat} (h : n < 4) : s.wrRW R.BENCH_CTRL (benchWord n) = s.put R.BENCH_CTRL F.BENCH_CTRL_SOURCE n := by
  have hm : accMask R.BENCH_CTRL (fun a => a == .rw) = 6#32 := by decide +kernel
  unfold State.wrRW State.put
  rw [hm]
  have source : benchWord n &&& 6#32 = BitVec.ofNat 32 (n % 2 ^ F.BENCH_CTRL_SOURCE.w) <<< F.BENCH_CTRL_SOURCE.lo := by interval_cases n <;> decide
  dsimp only
  rw [source]
  rfl

theorem benchWord_start {n : Nat} (h : n < 4) : fget (benchWord n) F.BENCH_CTRL_START ≠ 0 := by interval_cases n <;> decide

/-- The state with the source of a START written. -/
def State.sourced (s : State) (n : Nat) : State := s.put R.BENCH_CTRL F.BENCH_CTRL_SOURCE n

theorem sourced_source (s : State) {n : Nat} (h : n < 4) : (s.sourced n).get R.BENCH_CTRL F.BENCH_CTRL_SOURCE = n :=
  (get_put_same _ _ (by decide)).trans (Nat.mod_eq_of_lt h)

theorem sourced_regs (s : State) (n : Nat) : RegsOnly benchReg s (s.sourced n) := .put _ _ _ rfl

theorem sourced_grave (s : State) (n : Nat) : (s.sourced n).grave = s.grave := by
  unfold State.grave State.flag State.get
  rw [(sourced_regs s n).regs _ rfl]

/-- START_IGNORED is set while a load or a re-bench is in progress, and in GRAVE (R50). -/
theorem writeBenchCtrl_ignored {s : State} {n : Nat} (h : n < 4) (hb : s.benchBusy = true ∨ s.grave = true) :
    s.writeBenchCtrl (benchWord n) = (s.sourced n).bench F.BENCH_STATUS_START_IGNORED 1 := by
  have busy : ((s.sourced n).benchBusy || (s.sourced n).grave) = true := by
    rw [sourced_grave, Bool.or_eq_true]
    exact hb
  unfold State.writeBenchCtrl
  rw [wrRW_benchCtrl s h]
  simp only [benchWord_start h, if_false]
  exact if_pos busy

theorem writeBenchCtrl_begins {s : State} {n : Nat} (h : n < 4) (hb : s.benchBusy = false) (hg : s.grave = false) :
    s.writeBenchCtrl (benchWord n) =
      if n = 3 then (((s.sourced n).bench F.BENCH_STATUS_FALLBACK 0).bench F.BENCH_STATUS_REREADS 0).recordRefusal ⟨0, 0x0D, 0, 0⟩
      else (s.sourced n).beginLoad ⟨n, false, false, false, none⟩ := by
  have idle : ¬ ((s.sourced n).benchBusy || (s.sourced n).grave) = true := by
    rw [sourced_grave, hg, Bool.or_false]
    exact Bool.eq_false_iff.mp hb
  have source := sourced_source s h
  unfold State.sourced at idle source ⊢
  unfold State.writeBenchCtrl
  rw [wrRW_benchCtrl s h]
  simp only [benchWord_start h, if_false, if_neg idle, source]

/-- A START from a source that holds an image begins the read of it. -/
theorem writeBenchCtrl_loads {s : State} {n : Nat} (h : n < 3) (hb : s.benchBusy = false) (hg : s.grave = false) :
    s.writeBenchCtrl (benchWord n) = (s.sourced n).startCleared.beginRead ⟨n, false, false, false, none⟩ :=
  ((writeBenchCtrl_begins (by omega) hb hg).trans (if_neg (by omega))).trans (beginLoad_eq _ _)

/-- What a START of a load shows. -/
structure LoadBegun (n : Nat) (s t : State) : Prop where
  load : t.load = some ⟨n, false, false, false, none⟩
  refuse : t.rd R.BENCH_REFUSE = 0
  state : t.get R.BENCH_STATUS F.BENCH_STATUS_STATE = bsLOADING
  source : t.get R.BENCH_STATUS F.BENCH_STATUS_LAST_SOURCE = n
  regs : RegsOnly benchReg { s with load := t.load, spiLog := t.spiLog } t
  staging : n = 0 → t.spiLog = s.spiLog
  flash : n ≠ 0 → s.spiRun = none → t.spiLog = (s.flashRead (Load.base ⟨n, false, false, false, none⟩) 64).spiLog

theorem loadBegun_writeBenchCtrl {s : State} {n : Nat} (h : n < 3) (hb : s.benchBusy = false) (hg : s.grave = false) (c : Completion) :
    LoadBegun n s ((s.answer c).writeBenchCtrl (benchWord n)) := by
  have ready : RegsOnly benchReg s ((s.answer c).sourced n).startCleared :=
    ((RegsOnly.answer s c).trans (sourced_regs _ _)).trans (startCleared_regs _)
  rw [writeBenchCtrl_loads (s := s.answer c) h hb hg]
  exact {
    load := beginRead_load _ _
    refuse := (rd_beginRead_ne _ _ (by decide)).trans (startCleared_refuse _)
    state := beginRead_state _ _
    source := (beginRead_source _ _).trans (Nat.mod_eq_of_lt (by show n < 8; omega))
    regs := (ready.withLoad _ _).trans (beginRead_regs _ _)
    staging := fun hn => (beginRead_staging _ hn).trans (by rw [ready.rest])
    flash := fun hn hf => (beginRead_flash _ hn (by rw [ready.rest]; exact hf)).trans
      (flashRead_spiLog_congr (ready.regs _ rfl) (by rw [ready.rest]) _ _) }

/-- An ignored START leaves all but BENCH_CTRL and START_IGNORED. -/
theorem startIgnored_writeBenchCtrl {s : State} {n : Nat} (h : n < 4) (hb : s.benchBusy = true ∨ s.grave = true) (c : Completion) :
    ((s.answer c).writeBenchCtrl (benchWord n)).flag R.BENCH_STATUS F.BENCH_STATUS_START_IGNORED = true ∧
      RegsOnly (fun r => r == R.BENCH_CTRL || r == R.BENCH_STATUS) s ((s.answer c).writeBenchCtrl (benchWord n)) := by
  rw [writeBenchCtrl_ignored (s := s.answer c) h hb]
  constructor
  · unfold State.flag State.bench
    rw [get_put_same _ _ (by decide)]
    rfl
  · exact ((RegsOnly.answer s c).trans (.put _ _ _ rfl)).trans (.put _ _ _ rfl)

theorem RegsOnly.settled {p : RegId → Bool} {s t : State} (h : RegsOnly p s t) (he : p R.EVT_SUM_STATUS = false)
    (hh : p R.PAIR_HEALTH_CAUSE = false) (hs : Settled s) : Settled t :=
  hs.of_eq (by rw [h.rest]) (by unfold State.get; rw [h.regs _ he]) (by unfold State.bit; rw [h.regs _ hh])

-- The START commands of a port that reaches the registers

section
variable {p : Port} {s : State} (h : s.reaches p 0 = true)
include h

theorem exec_benchStartStaging : exec (.benchStartStaging p) s = .next ((s.answer .done).writeBenchCtrl (benchWord 0)) :=
  congrArg Host.Outcome.next (hostReg_reaches h)
theorem exec_benchStartSlot0 : exec (.benchStartSlot0 p) s = .next ((s.answer .done).writeBenchCtrl (benchWord 1)) :=
  congrArg Host.Outcome.next (hostReg_reaches h)
theorem exec_benchStartSlot1 : exec (.benchStartSlot1 p) s = .next ((s.answer .done).writeBenchCtrl (benchWord 2)) :=
  congrArg Host.Outcome.next (hostReg_reaches h)
theorem exec_benchStartInvalidSource : exec (.benchStartInvalidSource p) s = done ((s.answer .done).writeBenchCtrl (benchWord 3)) :=
  congrArg done (hostReg_reaches h)

/-- SOURCE 3 is refused, and counted, and nothing is loaded (R440). -/
theorem benchStartInvalidSource_refused (hb : s.benchBusy = false) (hg : s.grave = false) :
    ∃ t, exec (.benchStartInvalidSource p) s = .next t ∧ ControlOnly s t ∧ ShowsRefusal ⟨0, 0x0D, 0, 0⟩ t ∧
      t.get R.BENCH_STATUS F.BENCH_STATUS_STATE = bsREFUSED := by
  rw [exec_benchStartInvalidSource h, writeBenchCtrl_begins (s := s.answer .done) (by omega) hb hg, if_pos rfl]
  have cleared : ControlOnly s ((((s.answer .done).sourced 3).bench F.BENCH_STATUS_FALLBACK 0).bench F.BENCH_STATUS_REREADS 0) :=
    (((RegsOnly.answer s .done).trans (sourced_regs _ _)).control.trans (.put _ _ _ _)).trans (.put _ _ _ _)
  generalize (((s.answer .done).sourced 3).bench F.BENCH_STATUS_FALLBACK 0).bench F.BENCH_STATUS_REREADS 0 = s1 at cleared ⊢
  obtain ⟨t, ht, hr, hy⟩ := done_tally (s1.recordRefusal ⟨0, 0x0D, 0, 0⟩)
  exact ⟨t, ht, (cleared.trans (recordRefusal_control _ _)).trans (.of_react hr), (recordRefusal_shows _ _).done hr hy,
    (hr.get_eq rfl _).trans (recordRefusal_state _ _)⟩

/-- A START that comes while a load or a re-bench is in progress, or in GRAVE, does nothing else than set START_IGNORED (R50). -/
theorem benchStart_ignored (hs : Settled s) (hb : s.benchBusy = true ∨ s.grave = true) :
    ∀ c ∈ [Instr.benchStartStaging p, .benchStartSlot0 p, .benchStartSlot1 p, .benchStartInvalidSource p],
    ∃ t, exec c s = .next t ∧ t.flag R.BENCH_STATUS F.BENCH_STATUS_START_IGNORED = true ∧
      RegsOnly (fun r => r == R.BENCH_CTRL || r == R.BENCH_STATUS) s t := by
  have ignored := fun n (hn : n < 4) => startIgnored_writeBenchCtrl hn hb .done
  simp only [List.forall_mem_cons, List.not_mem_nil, false_imp_iff, implies_true, and_true]
  refine ⟨⟨_, exec_benchStartStaging h, ignored 0 (by omega)⟩, ⟨_, exec_benchStartSlot0 h, ignored 1 (by omega)⟩,
    ⟨_, exec_benchStartSlot1 h, ignored 2 (by omega)⟩, ⟨_, ?_, ignored 3 (by omega)⟩⟩
  rw [exec_benchStartInvalidSource h, done_settled ((ignored 3 (by omega)).2.settled (by decide) (by decide) hs)]

end

end Sys2Proof.Machine

/-!
What Skim and Pour do when a full image is accepted leaves the loader as it is (R48, R292, R304).
-/

namespace Sys2Proof.Machine

/-- The loader's image and state, and the time, stand. -/
structure LoaderKept (s t : State) : Prop where
  load : t.load = s.load
  up : t.up = s.up
  ns : t.ns = s.ns
  status : t.rd R.BENCH_STATUS = s.rd R.BENCH_STATUS

theorem LoaderKept.refl (s : State) : LoaderKept s s := ⟨rfl, rfl, rfl, rfl⟩
theorem LoaderKept.trans {s t u : State} (h : LoaderKept s t) (k : LoaderKept t u) : LoaderKept s u :=
  ⟨k.load.trans h.load, k.up.trans h.up, k.ns.trans h.ns, k.status.trans h.status⟩

theorem LoaderKept.ite {c : Prop} [Decidable c] {s t u : State} (h : LoaderKept s t) (k : LoaderKept s u) : LoaderKept s (if c then t else u) := by
  by_cases hc : c <;> simpa [hc]

theorem LoaderKept.foldl {α : Type} {f : State → α → State} (h : ∀ t a, LoaderKept t (f t a)) (l : List α) (s : State) :
    LoaderKept s (l.foldl f s) :=
  List.foldlRecOn (motive := fun t => LoaderKept s t) _ _ (.refl s) fun _ ht a _ => ht.trans (h _ a)

theorem LoaderKept.of_react {s t : State} (h : ReactOnly s t) : LoaderKept s t :=
  ⟨by rw [h.rest], by rw [h.rest], by rw [h.rest], h.regs _ rfl⟩

theorem LoaderKept.get_status {s t : State} (h : LoaderKept s t) (f : Fld) : t.get R.BENCH_STATUS f = s.get R.BENCH_STATUS f := by
  unfold State.get
  rw [h.status]

theorem LoaderKept.inFrames {s t : State} (h : LoaderKept s t) (n : Nat) : t.inFrames n = s.inFrames n := by
  unfold State.inFrames
  rw [h.up, h.ns]

theorem LoaderKept.wr (s : State) (r : RegId) (v : Word) (h : (r.blk == .bench) = false) : LoaderKept s (s.wr r v) :=
  ⟨rfl, rfl, rfl, rd_wr_ne s v (by rintro rfl; cases h)⟩

theorem LoaderKept.put (s : State) (r : RegId) (f : Fld) (v : Nat) (h : (r.blk == .bench) = false) : LoaderKept s (s.put r f v) := .wr s r _ h
theorem LoaderKept.ev (s : State) (b src : Nat) : LoaderKept s (s.ev b src) := .of_react (.ev _ _ _)
theorem LoaderKept.event (s : State) (b src : Nat) (d : Word) : LoaderKept s (s.event b src d) := .of_react (.of_event (event_only _ _ _ _))

theorem LoaderKept.setCtr (s : State) (c : Ctr) (v : Nat) (hl : (c.lo.blk == .bench) = false) (hh : (c.hi.blk == .bench) = false) :
    LoaderKept s (s.setCtr c v) := (LoaderKept.wr _ _ _ hh).trans (.wr _ _ _ hl)

theorem LoaderKept.addLoss (s : State) (c : Ctr) (n : Nat) (hl : (c.lo.blk == .bench) = false) (hh : (c.hi.blk == .bench) = false) :
    LoaderKept s (s.addLoss c n) := .setCtr _ _ _ hl hh

theorem LoaderKept.addCtr (s : State) (c : Ctr) (n : Nat) (hl : (c.lo.blk == .bench) = false) (hh : (c.hi.blk == .bench) = false) :
    LoaderKept s (s.addCtr c n) := by
  have h1 : ∀ v, LoaderKept s (s.setCtr c v) := fun v => .setCtr _ _ _ hl hh
  have h2 : ∀ v, LoaderKept s ((s.setCtr c v).setBit (wrapPlace c.lo).1 (wrapPlace c.lo).2) := fun v =>
    (h1 v).trans (.of_react (.setBit _ _ _ (reactReg_of_ev (evReg_wrapPlace _))))
  have h3 : LoaderKept s (s.addRaw c n).1 := by
    unfold State.addRaw
    dsimp only
    split
    · exact h1 _
    · exact h2 _
  unfold State.addCtr
  generalize s.addRaw c n = p at h3 ⊢
  exact .ite (h3.trans (.ev _ _ _)) h3

-- An engine's operation (R311, R313, R319, R325)

theorem LoaderKept.bankUse (s : State) (d b : Nat) : LoaderKept s (s.bankUse d b) :=
  (LoaderKept.ite (.of_react (.sieveAbandon s d b)) (.refl s)).trans ⟨rfl, rfl, rfl, rfl⟩

theorem LoaderKept.bankEcc (s : State) (d b w : Nat) (x : Ecc) : LoaderKept s (s.bankEcc d b w x) := by
  cases x with
  | ok => exact .refl s
  | correctable => exact (LoaderKept.addCtr _ _ _ rfl rfl).trans (.event _ _ _ _)
  | uncorrectable =>
    exact ((((LoaderKept.addCtr _ _ _ rfl rfl).trans (.put _ _ _ _ rfl)).trans (.put _ _ _ _ rfl)).trans (.put _ _ _ _ rfl)).trans (.event _ _ _ _)

theorem LoaderKept.dramEcc (s : State) (d l : Nat) (x : Ecc) : LoaderKept s (s.dramEcc d l x) := by
  cases x with
  | ok => exact .refl s
  | correctable => exact (LoaderKept.addCtr _ _ _ rfl rfl).trans (.event _ _ _ _)
  | uncorrectable =>
    exact (((LoaderKept.addCtr _ _ _ rfl rfl).trans (.put _ _ _ _ rfl)).trans (.put _ _ _ _ rfl)).trans (.event _ _ _ _)

theorem LoaderKept.bankViolation (s : State) (m d b : Nat) : LoaderKept s (s.bankViolation m d b) :=
  .of_react ((ReactOnly.bankViol _ _ _ _).trans (.answer _ _))

theorem LoaderKept.matrixDeny (s : State) (m t : Nat) : LoaderKept s (s.matrixDeny m t) :=
  ((((LoaderKept.addCtr _ _ _ rfl rfl).trans (.put _ _ _ _ rfl)).trans (.put _ _ _ _ rfl)).trans (.put _ _ _ _ rfl)).trans (.ev _ _ _)

theorem LoaderKept.bar2Ecc (s : State) (e : Nat × Ecc) : LoaderKept s (s.bar2Ecc e) := by
  unfold State.bar2Ecc
  split
  · exact .bankEcc _ _ _ _ _
  · exact .dramEcc _ _ _ _
  · exact .refl s

theorem LoaderKept.bar2Use (s : State) (a : Nat) : LoaderKept s (s.bar2Use a) := by
  unfold State.bar2Use
  split
  · exact .bankUse _ _ _
  · exact .refl s

theorem LoaderKept.engineRefusal (s : State) (m : Nat) (w : Bool) (a : Nat) : LoaderKept s (s.engineRefusal m w a) := by
  unfold State.engineRefusal
  split
  · exact .ite (.bankViolation _ _ _ _) (.matrixDeny _ _ _)
  · exact .matrixDeny _ _ _
  · exact .refl s

theorem LoaderKept.engineOp (s : State) (m a : Nat) (op : MemOp) (errs : List (Nat × Ecc)) : LoaderKept s (s.engineOp m a op errs).1 := by
  unfold State.engineOp
  split
  · exact .refl s
  split
  · exact .engineRefusal _ _ _ _
  · exact (LoaderKept.foldl LoaderKept.bar2Use _ _).trans (.foldl .bar2Ecc _ _)

-- Skim's jobs end (R289, R292, R294)

theorem LoaderKept.setSk (s : State) (d j : Nat) (x : SkJob) : LoaderKept s (s.setSk d j x) := ⟨rfl, rfl, rfl, rfl⟩
theorem LoaderKept.updSk (s : State) (d j : Nat) (f : SkJob → SkJob) : LoaderKept s (s.updSk d j f) := .setSk _ _ _ _

theorem LoaderKept.skStatus (s : State) (d j : Nat) (f : Fld) (v : Nat) : LoaderKept s (s.skStatus d j f v) := .put _ _ _ _ rfl

theorem LoaderKept.skShow (s : State) (d : Nat) : LoaderKept s (s.skShow d) :=
  (((LoaderKept.foldl (fun _ _ => (LoaderKept.put _ _ _ _ rfl).trans (.put _ _ _ _ rfl)) _ _).trans (.put _ _ _ _ rfl)).trans
    (.put _ _ _ _ rfl)).trans (.put _ _ _ _ rfl)

theorem LoaderKept.skClose (s : State) (d j i : Nat) (last flushed : Bool) : LoaderKept s (s.skClose d j i last flushed) := by
  unfold State.skClose
  dsimp only
  split
  · exact .refl s
  · exact .ite ((LoaderKept.setSk _ _ _ _).trans (.wr _ _ _ rfl)) (.setSk _ _ _ _)

theorem LoaderKept.skLastOf (s : State) (d j i : Nat) : LoaderKept s (s.skLastOf d j i) := by
  unfold State.skLastOf
  dsimp only
  split
  · exact .refl s
  split
  · exact .setSk _ _ _ _
  · refine .ite (.refl s) (.trans ?_ (.skClose _ _ _ _ _ _))
    exact ⟨rfl, rfl, rfl, rfl⟩

theorem LoaderKept.skFlush (s : State) (d j : Nat) : LoaderKept s (s.skFlush d j) :=
  .foldl (fun _ _ => .ite (.skClose _ _ _ _ _ _) (.skLastOf _ _ _ _)) _ _

theorem LoaderKept.skEnd (s : State) (d j st cause : Nat) : LoaderKept s (s.skEnd d j st cause) :=
  (((((LoaderKept.skStatus _ _ _ _ _).trans (.skStatus _ _ _ _ _)).trans (.skFlush _ _ _)).trans (.updSk _ _ _ _)).trans (.skShow _ _)).trans
    (.ev _ _ _)

theorem LoaderKept.skOver (s : State) (d j n : Nat) : LoaderKept s (s.skOver d j n) :=
  .ite (.refl s) ((LoaderKept.wr _ _ _ rfl).trans (.addLoss _ _ _ rfl rfl))

theorem LoaderKept.skDropEvent (s : State) (d j : Nat) : LoaderKept s (s.skDropEvent d j) :=
  .ite (.refl s) ((LoaderKept.updSk _ _ _ _).trans (.ev _ _ _))

theorem LoaderKept.skDropRecord (s : State) (d j : Nat) (r : SkRec) : LoaderKept s (s.skDropRecord d j r) :=
  (((LoaderKept.updSk _ _ _ _).trans (.addLoss _ _ _ rfl rfl)).trans (.addLoss _ _ _ rfl rfl)).trans (.skDropEvent _ _ _)

theorem LoaderKept.st : ∀ (l : List Byte) (s : State) (a : Nat), LoaderKept s (s.st a l)
  | [], s, _ => .refl s
  | b :: l, s, a => .trans (t := s.stb a b) ⟨rfl, rfl, rfl, rfl⟩ (.st l _ _)

theorem LoaderKept.skPutRecord (s : State) (d j : Nat) (r : SkRec) : LoaderKept s (s.skPutRecord d j r) := by
  unfold State.skPutRecord
  extract_lets mine x lost a y bytes
  have issued : LoaderKept s (if s.engineWaits (mSKIM d) a (.write (bytes.map some)) then (s, false)
      else s.engineOp (mSKIM d) a (.write (bytes.map some)) []).1 := by
    split
    · exact .refl s
    · exact .engineOp _ _ _ _ _
  generalize (if s.engineWaits (mSKIM d) a (.write (bytes.map some)) then (s, false)
    else s.engineOp (mSKIM d) a (.write (bytes.map some)) []) = p at issued ⊢
  exact .ite issued (((issued.trans (.setSk _ _ _ _)).trans (.st _ _ _)).trans (.wr _ _ _ rfl))

theorem LoaderKept.skFull (s : State) (d j : Nat) : LoaderKept s (s.skFull d j) := .ite (.skEnd _ _ _ _ _) (.refl s)

theorem LoaderKept.skWrite (s : State) (d j : Nat) : LoaderKept s (s.skWrite d j) := by
  unfold State.skWrite
  split
  · exact .refl s
  · extract_lets n s0 full gives s1
    have passed : LoaderKept s s0 := .skOver _ _ _ _
    have put : LoaderKept s s1 := passed.trans (.skPutRecord _ _ _ _)
    exact .ite ((LoaderKept.ite (put.trans (.skOver _ _ _ _)) put).trans (.skFull _ _ _))
      (.ite passed (.ite ((passed.trans (.updSk _ _ _ _)).trans (.skDropRecord _ _ _ _)) ((passed.trans (.skOver _ _ _ _)).trans (.skPutRecord _ _ _ _))))

theorem LoaderKept.skWriteAll (d j : Nat) : ∀ (n : Nat) (s : State), LoaderKept s (State.skWriteAll d j n s)
  | 0, s => .refl s
  | n + 1, s => (LoaderKept.skWrite s d j).trans (.skWriteAll d j n _)

theorem LoaderKept.skBench (s : State) (d : Nat) : LoaderKept s (s.skBench d) :=
  .foldl (fun _ _ => .ite ((LoaderKept.skEnd _ _ _ _ _).trans (.skWriteAll _ _ _ _)) (.refl _)) _ _

theorem LoaderKept.pourEnd (s : State) (d j cause : Nat) : LoaderKept s (s.pourEnd d j cause) :=
  .of_react (.ite (.refl _) ((((ReactOnly.setPour _ _ _ _).trans (.put _ _ _ _ (reactReg_pour _ _))).trans
    (.put _ _ _ _ (reactReg_pour _ _))).trans (.ev _ _ _)))

theorem LoaderKept.poBench (s : State) (d : Nat) : LoaderKept s (s.poBench d) := .foldl (fun _ _ => .pourEnd _ _ _ _) _ _

end Sys2Proof.Machine

/-!
The header and the image are judged, and an image is accepted (02_bench_image.md: R43, R45, R46, R48).
-/

namespace Sys2Proof.Machine

-- The header (R45)

/-- The header of the image that load l reads. -/
def State.headerBytes (s : State) (l : Load) (flash : List Byte) : List Byte :=
  if l.source = 0 then s.ld stagingBase 64 else (List.range 64).map (fun i => flash.getD i 0)

/-- What steps 1 and 2 find in the header. -/
def State.headerVerdict (s : State) (l : Load) (h : List Byte) : Option BRef := (headerBad h).or (lengthBad h (s.stagedLen l))

section
variable {s : State} {l : Load} {flash : List Byte} (hl : s.load = some l) (hh : l.header = none)
include hl hh

theorem imageHeaderRead_refused {r : BRef} (hf : l.source = 0 ∨ s.spiRun = none)
    (hv : s.headerVerdict l (s.headerBytes l flash) = some r) :
    exec (.imageHeaderRead flash) s = done (s.refuseLoad l r) := by
  have turn : ¬ (l.header.isSome || (l.source != 0 && s.spiRun.isSome)) = true := by
    rcases hf with h | h <;> simp [hh, h]
  unfold State.headerVerdict State.headerBytes at hv
  show execImageHeaderRead flash s = _
  unfold execImageHeaderRead
  rw [hl]
  dsimp only
  rw [if_neg turn, hv]

theorem imageHeaderRead_accepted (h0 : l.source = 0) (hv : s.headerVerdict l (s.ld stagingBase 64) = none) :
    exec (.imageHeaderRead flash) s = .next ({ s with load := some { l with header := some (s.ld stagingBase 64) } }.benchState bsVALIDATING) := by
  have turn : ¬ (l.header.isSome || (l.source != 0 && s.spiRun.isSome)) = true := by simp [hh, h0]
  unfold State.headerVerdict at hv
  show execImageHeaderRead flash s = _
  unfold execImageHeaderRead
  rw [hl]
  dsimp only
  rw [if_neg turn, if_pos h0, hv]
  dsimp only
  rw [if_pos h0]

end

-- The image is read (R43, R46)

/-- The bytes of the image that load l has read. -/
def State.imageBytes (s : State) (l : Load) (h flash : List Byte) : List Byte :=
  if l.source = 0 then s.ld stagingBase (le h 8 4) else h ++ (List.range (le h 8 4 - 64)).map (fun i => flash.getD (64 + i) 0)

/-- What steps 3 to 10 find in the image; a section is read again from flash alone. -/
def State.imageVerdict (s : State) (l : Load) (h flash : List Byte) (again : List (List Byte)) : CrcPass :=
  s.imageCheck (if l.source = 0 then 0 else 3) again (s.imageBytes l h flash)

/-- The sections that fail their CRC have been read again, the start-up has reached step 7, and a failed ROM has been counted. -/
def State.imageReread (s : State) (l : Load) (v : CrcPass) (rom : Bool) : State :=
  let s1 := v.reread.foldl (fun t e => (t.flashRead (l.base + e.off) e.len).satInc R.BENCH_STATUS F.BENCH_STATUS_REREADS) s
  (if l.boot then s1.toStep 7 else s1).evIf rom evPkg srcROM

theorem LoadOnly.flashRead (s : State) (a n : Nat) : LoadOnly s (s.flashRead a n) := .withLoad s s.load _
theorem ControlOnly.satInc (s : State) (r : RegId) (f : Fld) : ControlOnly s (s.satInc r f) := .ite (.put _ _ _ _) (.refl s)

theorem imageReread_only (s : State) (l : Load) (v : CrcPass) (rom : Bool) : LoadOnly s (s.imageReread l v rom) := by
  have reread : LoadOnly s (v.reread.foldl (fun t e => (t.flashRead (l.base + e.off) e.len).satInc R.BENCH_STATUS F.BENCH_STATUS_REREADS) s) :=
    .foldl (fun _ _ => (LoadOnly.flashRead _ _ _).trans (.of_control (.satInc _ _ _))) _ _
  exact (LoadOnly.ite (reread.trans (.of_control (.toStep _ _))) reread).trans (.of_control (.evIf _ _ _ _))

section
variable {s : State} {l : Load} {h flash : List Byte} {again : List (List Byte)} (rom : Bool) (hl : s.load = some l) (hh : l.header = some h)
include hl hh

theorem imageReadDone_refused {r : BRef} (hv : (s.imageVerdict l h flash again).bad = some r) :
    exec (.imageReadDone flash again rom) s = done ((s.imageReread l (s.imageVerdict l h flash again) rom).refuseLoad l r) := by
  unfold State.imageVerdict State.imageBytes at hv ⊢
  show execImageReadDone flash again rom s = _
  unfold execImageReadDone
  rw [hl]
  dsimp only
  rw [hh]
  dsimp only
  rw [hv]
  rfl

theorem imageReadDone_accepted (hv : (s.imageVerdict l h flash again).bad = none) :
    exec (.imageReadDone flash again rom) s = done (((s.imageReread l (s.imageVerdict l h flash again) rom).hkPlace l
      (s.imageVerdict l h flash again).img).accept l (imgOf (s.imageVerdict l h flash again).img)) := by
  unfold State.imageVerdict State.imageBytes at hv ⊢
  show execImageReadDone flash again rom s = _
  unfold execImageReadDone
  rw [hl]
  dsimp only
  rw [hh]
  dsimp only
  rw [hv]
  rfl

end

-- Acceptance (R48)

/-- BENCH_STATUS shows the scope and the region of an accepted image, whose load is over. -/
def State.acceptShown (s : State) (l : Load) (x : Img) : State :=
  let s1 := ({ s with load := none }.bench F.BENCH_STATUS_FALLBACK (if l.fell then 1 else 0)).bench F.BENCH_STATUS_SCOPE (if x.full then 0 else 1)
  if x.full then s1 else s1.bench F.BENCH_STATUS_REGION x.region

/-- The jobs of Skim and Pour end when a full image is accepted. -/
def State.jobsEnd (s : State) : State := (List.range 4).foldl (fun t d => (t.skBench d).poBench d) s

/-- The boundary at which a region image is applied: the next, or that of the last sealed transaction that names its region. -/
def State.regionBoundary (s : State) (x : Img) : Nat :=
  (((List.range 8).filter (fun k => s.txnState k == txSEALED && (s.slot k).recs.any (fun r => r.namesRegion x.region))).map
    (fun k => s.up + fnDelta s.fn (s.commitFn k))).foldl max (s.inFrames 0)

theorem inFrames_le_regionBoundary (s : State) (x : Img) : s.inFrames 0 ≤ s.regionBoundary x :=
  List.foldlRecOn (motive := fun m => s.inFrames 0 ≤ m) _ _ le_rfl fun _ hm _ _ => hm.trans (le_max_left _ _)

theorem accept_full (s : State) {l : Load} {x : Img} (hb : l.boot = false) (hx : x.full = true) :
    s.accept l x = { ((s.acceptShown l x).benchState bsWAITING).jobsEnd with
      applying := some ⟨x, false, .waiting, ((s.acceptShown l x).benchState bsWAITING).jobsEnd.inFrames 0⟩ } := by
  unfold State.accept State.acceptShown
  rw [hb, hx]
  rfl

theorem accept_region (s : State) {l : Load} {x : Img} (hb : l.boot = false) (hx : x.full = false) :
    s.accept l x = { (s.acceptShown l x).benchState bsWAITING with
      applying := some ⟨x, false, .waiting, (s.acceptShown l x).regionBoundary x⟩ } := by
  unfold State.accept State.acceptShown
  rw [hb, hx]
  rfl

/-- Ending the jobs of Skim and Pour leaves the loader as it is. -/
theorem LoaderKept.jobsEnd (s : State) : LoaderKept s s.jobsEnd :=
  .foldl (fun _ _ => (LoaderKept.skBench _ _).trans (.poBench _ _)) _ _

theorem acceptShown_control (s : State) (l : Load) (x : Img) : ControlOnly { s with load := none } (s.acceptShown l x) :=
  .ite ((ControlOnly.put _ _ _ _).trans (.put _ _ _ _)) (((ControlOnly.put _ _ _ _).trans (.put _ _ _ _)).trans (.put _ _ _ _))

theorem acceptShown_only (s : State) (l : Load) (x : Img) : LoadOnly s (s.acceptShown l x) :=
  (LoadOnly.withLoad s none s.spiLog).trans (.of_control (acceptShown_control s l x))

theorem acceptShown_scope (s : State) (l : Load) (x : Img) :
    (s.acceptShown l x).get R.BENCH_STATUS F.BENCH_STATUS_SCOPE = if x.full then 0 else 1 := by
  unfold State.acceptShown
  cases x.full with
  | true => exact get_put_same _ _ (by decide)
  | false => exact (get_put_field _ _ (by decide)).trans (get_put_same _ _ (by decide))

theorem acceptShown_region (s : State) (l : Load) {x : Img} (hx : x.full = false) :
    (s.acceptShown l x).get R.BENCH_STATUS F.BENCH_STATUS_REGION = x.region % 2 ^ F.BENCH_STATUS_REGION.w := by
  unfold State.acceptShown
  rw [hx]
  exact get_put_same _ _ (by decide)

/-- What an accepted image shows until its boundary. -/
structure ImageAccepted (x : Img) (s t : State) : Prop where
  load : t.load = none
  applying : ∃ f, t.applying = some ⟨x, false, .waiting, f⟩ ∧ s.inFrames 0 ≤ f ∧ (x.full = true → f = s.inFrames 0)
  state : t.get R.BENCH_STATUS F.BENCH_STATUS_STATE = bsWAITING
  scope : t.get R.BENCH_STATUS F.BENCH_STATUS_SCOPE = if x.full then 0 else 1
  region : x.full = false → t.get R.BENCH_STATUS F.BENCH_STATUS_REGION = x.region % 2 ^ F.BENCH_STATUS_REGION.w ∧ t.mem = s.mem

theorem imageAccepted_full (s : State) {l : Load} {x : Img} (hb : l.boot = false) (hx : x.full = true) : ImageAccepted x s (s.accept l x) := by
  have kept := LoaderKept.jobsEnd ((s.acceptShown l x).benchState bsWAITING)
  have frame : ((s.acceptShown l x).benchState bsWAITING).jobsEnd.inFrames 0 = s.inFrames 0 :=
    (kept.inFrames 0).trans ((acceptShown_only s l x).inFrames_eq 0)
  rw [accept_full s hb hx]
  exact {
    load := kept.load.trans (acceptShown_control s l x).load_eq
    applying := ⟨_, rfl, frame.ge, fun _ => frame⟩
    state := (kept.get_status _).trans (get_put_same _ _ (by decide))
    scope := ((kept.get_status _).trans (get_put_field _ _ (by decide))).trans (acceptShown_scope s l x)
    region := fun h => absurd h (by simp [hx]) }

theorem imageAccepted_region (s : State) {l : Load} {x : Img} (hb : l.boot = false) (hx : x.full = false) : ImageAccepted x s (s.accept l x) := by
  rw [accept_region s hb hx]
  exact {
    load := (acceptShown_control s l x).load_eq
    applying := ⟨_, rfl, ((acceptShown_only s l x).inFrames_eq 0).symm.trans_le (inFrames_le_regionBoundary _ _), fun h => absurd h (by simp [hx])⟩
    state := get_put_same _ _ (by decide)
    scope := (get_put_field _ _ (by decide)).trans (acceptShown_scope s l x)
    region := fun _ => ⟨(get_put_field _ _ (by decide)).trans (acceptShown_region s l hx), (acceptShown_only s l x).mem_eq⟩ }

theorem imageAccepted_accept (s : State) {l : Load} (x : Img) (hb : l.boot = false) : ImageAccepted x s (s.accept l x) := by
  cases hx : x.full with
  | true => exact imageAccepted_full s hb hx
  | false => exact imageAccepted_region s hb hx

theorem ImageAccepted.done {x : Img} {s t u : State} (h : ImageAccepted x s t) (hr : ReactOnly t u) : ImageAccepted x s u := by
  have control := ControlOnly.of_react hr
  obtain ⟨load, ⟨f, applying, bound⟩, state, scope, region⟩ := h
  exact {
    load := control.load_eq.trans load
    applying := ⟨f, control.applying_eq.trans applying, bound⟩
    state := (hr.get_eq rfl _).trans state
    scope := (hr.get_eq rfl _).trans scope
    region := fun hx => ⟨(hr.get_eq rfl _).trans (region hx).1, control.mem_eq.trans (region hx).2⟩ }

theorem hkPlace_inFrames (s : State) (l : Load) (b : List Byte) (n : Nat) : (s.hkPlace l b).inFrames n = s.inFrames n := by
  unfold State.hkPlace
  split
  · rfl
  · split <;> rfl

theorem hkPlace_mem (s : State) (l : Load) (b : List Byte) : (s.hkPlace l b).mem = s.mem := by
  unfold State.hkPlace
  split
  · rfl
  · split <;> rfl

theorem ImageAccepted.of_read {x : Img} {s s1 t : State} (h : ImageAccepted x s1 t) (hf : s1.inFrames 0 = s.inFrames 0) (hm : s1.mem = s.mem) :
    ImageAccepted x s t := by
  obtain ⟨load, applying, state, scope, region⟩ := h
  rw [hf] at applying
  rw [hm] at region
  exact ⟨load, applying, state, scope, region⟩

/-- An image in which every check passes is accepted, and waits for its boundary. -/
theorem imageReadDone_accepts {s : State} {l : Load} {h flash : List Byte} {again : List (List Byte)} (rom : Bool) (hl : s.load = some l)
    (hh : l.header = some h) (hb : l.boot = false) (hv : (s.imageVerdict l h flash again).bad = none) :
    ∃ t, exec (.imageReadDone flash again rom) s = .next t ∧ ImageAccepted (imgOf (s.imageVerdict l h flash again).img) s t := by
  rw [imageReadDone_accepted rom hl hh hv]
  generalize s.imageVerdict l h flash again = v
  have only := imageReread_only s l v rom
  obtain ⟨t, ht, hr⟩ := done_only (((s.imageReread l v rom).hkPlace l v.img).accept l (imgOf v.img))
  exact ⟨t, ht, ((imageAccepted_accept _ _ hb).done hr).of_read ((hkPlace_inFrames _ _ _ _).trans (only.inFrames_eq 0))
    ((hkPlace_mem _ _ _).trans only.mem_eq)⟩

-- The obligation

/-- Settles O8: a START begins its load or is refused or ignored; the header and the image are judged by the checks, and the load ends, falls
back to slot 1, or leaves the accepted image to its boundary. -/
theorem imagesAreLoadedAndJudged : Obligations.ImagesAreLoadedAndJudged := by
  unfold Obligations.ImagesAreLoadedAndJudged
  refine ⟨⟨?staging, ?slot0, ?slot1, ?invalid, ?ignored⟩, ?headerAccepted, ?headerRefused, ?imageAccepted, ?imageRefused, ?fallsBack⟩
  case staging =>
    intro p s hp hb hg
    obtain ⟨load, refuse, state, source, regs, staging, -⟩ := loadBegun_writeBenchCtrl (n := 0) (by omega) hb hg .done
    rw [staging rfl] at regs
    exact ⟨_, exec_benchStartStaging hp, load, refuse, state, source, regs⟩
  case slot0 =>
    intro p s hp hb hg
    obtain ⟨load, refuse, state, source, regs, -, flash⟩ := loadBegun_writeBenchCtrl (n := 1) (by omega) hb hg .done
    exact ⟨_, exec_benchStartSlot0 hp, load, refuse, state, source, flash (by omega), regs⟩
  case slot1 =>
    intro p s hp hb hg
    obtain ⟨load, refuse, state, source, regs, -, flash⟩ := loadBegun_writeBenchCtrl (n := 2) (by omega) hb hg .done
    exact ⟨_, exec_benchStartSlot1 hp, load, refuse, state, source, flash (by omega), regs⟩
  case invalid =>
    intro p s hp hb hg
    obtain ⟨t, ht, control, shows, state⟩ := benchStartInvalidSource_refused hp hb hg
    have idle : s.load = none := by
      unfold State.benchBusy at hb
      simpa using (Bool.or_eq_false_iff.mp hb).1
    exact ⟨t, ht, shows.code, control.load_eq.trans idle, state, shows.sticky, control.mem_eq⟩
  case ignored => exact fun p s hp hs hb => benchStart_ignored hp hs hb
  case headerAccepted =>
    intro flash l s hl hh h0 hbad hlen
    have verdict : s.headerVerdict l (s.ld stagingBase 64) = none := by
      unfold State.headerVerdict State.stagedLen
      rw [if_pos h0, hbad, hlen]
      rfl
    exact ⟨_, imageHeaderRead_accepted hl hh h0 verdict, rfl, get_put_same _ _ (by decide), .put _ _ _ rfl⟩
  case headerRefused =>
    intro flash l r s hl hh h0 hf hv hfb hb
    have verdict : s.headerVerdict l (s.headerBytes l flash) = some r := by
      unfold State.headerVerdict State.headerBytes State.stagedLen
      rw [if_neg h0, if_neg h0]
      exact hv
    rw [imageHeaderRead_refused hl hh (.inr hf) verdict]
    obtain ⟨t, ht, ⟨-, load, shows, state⟩, -⟩ := refuseLoad_done s r (l := l) (by rw [hfb]; rfl)
    exact ⟨t, ht, load, state, shows.code, shows.offset, shows.sticky⟩
  case imageAccepted =>
    intro flash again rom l h s hl hh hb b v hv
    obtain ⟨t, ht, load, ⟨f, applying, le, eq⟩, state, scope, region⟩ := imageReadDone_accepts rom hl hh hb hv
    exact ⟨t, f, ht, load, applying, le, eq, state, scope, region⟩
  case imageRefused =>
    intro flash again rom l h r s hl hh hfb hv
    have read := imageReread_only s l (s.imageVerdict l h flash again) rom
    rw [imageReadDone_refused rom hl hh hv]
    obtain ⟨t, ht, ⟨only, load, shows, state⟩, step⟩ := refuseLoad_done (s.imageReread l (s.imageVerdict l h flash again) rom) r (l := l)
      (by rw [hfb]; rfl)
    have only := read.trans only
    exact ⟨t, ht, load, only.applying_eq, state, step, only.mem_eq, only.actMap_eq, shows.code⟩
  case fallsBack =>
    intro flash again rom l h r s hl hh hfb hfell hv
    have read := imageReread_only s l (s.imageVerdict l h flash again) rom
    rw [imageReadDone_refused rom hl hh hv]
    obtain ⟨t, ht, only, load, shows, state, source⟩ := refuseLoad_fallsBack (s.imageReread l (s.imageVerdict l h flash again) rom) r (l := l)
      (by rw [hfb, hfell]; rfl)
    have fallen : l.fallen = ⟨2, l.boot, true, true, none⟩ := by
      unfold Load.fallen
      rw [hfb]
    exact ⟨t, ht, load.trans (congrArg some fallen), (read.trans only).applying_eq, state, source, shows.code⟩

end Sys2Proof.Machine

/-!
Checks of slab words, spare banks, diagnostic reads and armed injections (R70, R71, R73).
-/

namespace Sys2Proof.Machine

-- The check of a word (R70)

/-- The check of a word with bits that flipped, clause by clause. -/
theorem slabCheck_result (g b w : Nat) (s : State) :
    let x := s.slab (slabKey g (s.pbank g b) w)
    (flipCount x.flip = 0 → s.slabCheck g b w = (s, x)) ∧
    (flipCount x.flip = 1 →
      (s.slabCheck g b w).2 = { x with flip := 0 } ∧ (s.slabCheck g b w).1.bit (R.EVT_STICKY (evRegion g)) srcSLAB_ECC = true ∧
      (s.slabCheck g b w).1.ctr (slabCorrected g) = (s.ctr (slabCorrected g) + 1) % 2 ^ 48 ∧ (s.slabCheck g b w).1.slabs = s.slabs) ∧
    (2 ≤ flipCount x.flip →
      (s.slabCheck g b w).2.flip = 0 ∧ (∀ e < 8, slabLane (s.slabCheck g b w).2 e = subGrain) ∧
      (s.slabCheck g b w).1.bit (R.EVT_STICKY (evRegion g)) srcSLAB_ECC = true ∧
      (s.slabCheck g b w).1.ctr (slabUncorrectable g) = (s.ctr (slabUncorrectable g) + 1) % 2 ^ 48 ∧
      (s.slabCheck g b w).1.slabs = s.slabs) := by
  have stands := (slabCheck_control s g b w).slabs_eq
  refine ⟨slabCheck_sound, fun h => ?_, fun h => ?_⟩
  · obtain ⟨sticky, counts⟩ := slabCheck_corrected_counts h
    exact ⟨by rw [slabCheck_corrected h], sticky, counts, stands⟩
  · obtain ⟨sticky, counts⟩ := slabCheck_lost_counts h
    refine ⟨by rw [slabCheck_lost h], fun e he => ?_, sticky, counts, stands⟩
    rw [slabCheck_lost h]
    exact laneOf_subWord he

-- Spare banks (R71)

/-- A flag of a word that is put or written whole. -/
theorem flag_put_same (s : State) (r : RegId) {f : Fld} (v : Nat) (hf : f.lo + f.w ≤ 32) : (s.put r f v).flag r f = (v % 2 ^ f.w == 1) := by
  unfold State.flag
  rw [get_put_same s v hf]

theorem flag_put_field (s : State) (r : RegId) {f g : Fld} (v : Nat) (h : f.lo + f.w ≤ g.lo ∨ g.lo + g.w ≤ f.lo) :
    (s.put r f v).flag r g = s.flag r g := by
  unfold State.flag
  rw [get_put_field s v h]

/-- The word that RG_SLAB_SPAREk holds for a bank that the host assigned. -/
theorem spareWord_fields {bank : Nat} (h : bank < 128) :
    fget (BitVec.ofNat 32 (2 ^ 31 + bank)) F.RG_SLAB_SPARE_VALID = 1 ∧ fget (BitVec.ofNat 32 (2 ^ 31 + bank)) F.RG_SLAB_SPARE_ORIGIN = 0 ∧
      fget (BitVec.ofNat 32 (2 ^ 31 + bank)) F.RG_SLAB_SPARE_LOGICAL = bank := by
  unfold fget
  simp only [BitVec.toNat_ofNat]
  omega

theorem writeSpare_assigns {s : State} {g k : Nat} {v : Word} (hv : fget v F.RG_SLAB_SPARE_VALID = 1)
    (hb : fget v F.RG_SLAB_SPARE_LOGICAL < 32 * s.slabDepth g)
    (ho : s.flag (R.RG_SLAB_SPARE g (1 - k)) F.RG_SLAB_SPARE_VALID = true →
      s.get (R.RG_SLAB_SPARE g (1 - k)) F.RG_SLAB_SPARE_LOGICAL ≠ fget v F.RG_SLAB_SPARE_LOGICAL) :
    s.writeSpare g k v =
      ((s.wr (R.RG_SLAB_SPARE g k) (BitVec.ofNat 32 (2 ^ 31 + fget v F.RG_SLAB_SPARE_LOGICAL))).updSpareFree g).spareTaken g k := by
  unfold State.writeSpare
  dsimp only
  rw [if_pos hv, if_neg]
  simp only [Bool.or_eq_true, Bool.and_eq_true, beq_iff_eq, decide_eq_true_eq]
  rintro (⟨h, he⟩ | h)
  · exact ho h he
  · omega

theorem writeSpare_rejects {s : State} {g k : Nat} {v : Word} (hv : fget v F.RG_SLAB_SPARE_VALID = 1)
    (h : 32 * s.slabDepth g ≤ fget v F.RG_SLAB_SPARE_LOGICAL ∨ (s.flag (R.RG_SLAB_SPARE g (1 - k)) F.RG_SLAB_SPARE_VALID = true ∧
      s.get (R.RG_SLAB_SPARE g (1 - k)) F.RG_SLAB_SPARE_LOGICAL = fget v F.RG_SLAB_SPARE_LOGICAL)) :
    s.writeSpare g k v = s.put (R.RG_SLAB_STATUS g) F.RG_SLAB_STATUS_SPARE_REJ 1 := by
  unfold State.writeSpare
  dsimp only
  rw [if_pos hv, if_pos]
  simp only [Bool.or_eq_true, Bool.and_eq_true, beq_iff_eq, decide_eq_true_eq]
  exact h.symm

/-- The spare that the host assigns reads back as assigned. -/
theorem rd_assigned (s : State) (g k : Nat) (w : Word) :
    (((s.wr (R.RG_SLAB_SPARE g k) w).updSpareFree g).spareTaken g k).rd (R.RG_SLAB_SPARE g k) = w := by
  show ((s.wr (R.RG_SLAB_SPARE g k) w).updSpareFree g).rd (R.RG_SLAB_SPARE g k) = w
  unfold State.updSpareFree
  rw [rd_put_ne _ _ _ (by simp; omega), rd_wr_same]

theorem assigned_regs (s : State) (g k : Nat) (w : Word) {q : RegId} (hk : q ≠ R.RG_SLAB_SPARE g k) (hs : q ≠ R.RG_SLAB_STATUS g) :
    (((s.wr (R.RG_SLAB_SPARE g k) w).updSpareFree g).spareTaken g k).rd q = s.rd q := by
  show ((s.wr (R.RG_SLAB_SPARE g k) w).updSpareFree g).rd q = s.rd q
  unfold State.updSpareFree
  rw [rd_put_ne _ _ _ hs, rd_wr_ne _ _ hk]

theorem exec_slabSpareWrite {p : Port} (g : Fin 8) (k : Fin 2) (v : Word) {s : State} (hp : s.reaches p 0 = true) :
    exec (.slabSpareWrite p g k v) s = .next ((s.answer .done).writeSpare g k v) := by
  show Host.Outcome.next (hostReg p (.slabSpareWrite p g k v) (fun t => t.writeSpare g k v) s) = _
  exact congrArg Host.Outcome.next (hostReg_reaches hp)

/-- A spare that is to replace a bank which no other spare is to replace. -/
theorem spareWant_alone {s : State} {g k : Nat} (hv : s.flag (R.RG_SLAB_SPARE g k) F.RG_SLAB_SPARE_VALID = true)
    (ho : s.flag (R.RG_SLAB_SPARE g (1 - k)) F.RG_SLAB_SPARE_VALID = true →
      s.get (R.RG_SLAB_SPARE g (1 - k)) F.RG_SLAB_SPARE_LOGICAL ≠ s.get (R.RG_SLAB_SPARE g k) F.RG_SLAB_SPARE_LOGICAL) :
    s.spareWant g k = s.get (R.RG_SLAB_SPARE g k) F.RG_SLAB_SPARE_LOGICAL + 1 := by
  unfold State.spareWant
  dsimp only
  rw [if_neg, if_pos hv]
  rw [if_pos hv]
  rintro ⟨he, -⟩
  split at he
  next h => exact ho h (by omega)
  · omega

/-- The spare replaces its bank, which no other spare replaces any longer. -/
theorem slabSpareApply_replaces {g : Fin 8} {k : Fin 2} {s : State} {bank : Nat} (hw : s.spareWant g k = bank + 1) (hn : bank + 1 ≠ s.spareUsed g k)
    (hd : s.slabDepth g ≠ 0) (h0 : s.ns = 0) (hr : s.slabRead g = (bank / 32 + 1) % s.slabDepth g) :
    ∃ t, exec (.slabSpareApply g k) s = .next t ∧ t.spareUsed g k = bank + 1 ∧ t.spareUsed g (1 - k.val) ≠ bank + 1 ∧
      t = { s with spareOn := t.spareOn } := by
  have apart : 2 * g.val + (1 - k.val) ≠ 2 * g.val + k.val := by omega
  have run : exec (.slabSpareApply g k) s = .next { s with
      spareOn := store id (fun _ => 0) (if s.spareUsed g (1 - k.val) = bank + 1 then store id (fun _ => 0) s.spareOn (2 * g.val + (1 - k.val)) 0
        else s.spareOn) (2 * g.val + k.val) (bank + 1) } := by
    show execSlabSpareApply g k s = _
    unfold execSlabSpareApply
    dsimp only
    rw [hw, if_neg (Nat.succ_ne_zero bank), Nat.add_sub_cancel, if_pos ⟨hn, hd, h0, hr⟩]
    simp
  refine ⟨_, run, ?_, ?_, rfl⟩
  · unfold State.spareUsed
    rw [look_store_same]
  unfold State.spareUsed
  rw [look_store_ne _ _ apart]
  split
  · rw [look_store_same]; omega
  next h => exact h

-- Diagnostic reads (R73)

/-- What the mask of RG_SLAB_DIAG_ADDR leaves of a word. -/
theorem and_diagMask (x : Nat) : x &&& 0x7FFFFC00 = 2 ^ 10 * (x / 2 ^ 10 % 2 ^ 21) := by
  refine Nat.eq_of_testBit_eq fun i => ?_
  rw [show 0x7FFFFC00 = 2 ^ 10 * (2 ^ 21 - 1) from rfl, Nat.testBit_and, Nat.testBit_two_pow_mul, Nat.testBit_two_pow_mul,
    Nat.testBit_two_pow_sub_one, Nat.testBit_mod_two_pow, Nat.testBit_div_two_pow]
  by_cases h : 10 ≤ i
  · simp [h, Bool.and_comm]
  · simp [h]

/-- The fields of RG_SLAB_DIAG_ADDR with GO, and what of it the register keeps. -/
theorem diagWord_fields {b w : Nat} (hb : b < 128) (hw : w < 16384) :
    let v := BitVec.ofNat 32 (2 ^ 31 + 2 ^ 24 * b + 2 ^ 10 * w)
    fget v F.RG_SLAB_DIAG_ADDR_GO = 1 ∧ fget v F.RG_SLAB_DIAG_ADDR_WORD = w ∧ fget v F.RG_SLAB_DIAG_ADDR_LOGICAL = b ∧
      (v &&& 0x7FFFFC00).toNat = 2 ^ 24 * b + 2 ^ 10 * w := by
  intro v
  have hv : v.toNat = 2 ^ 31 + 2 ^ 24 * b + 2 ^ 10 * w := by
    simp only [v, BitVec.toNat_ofNat]
    omega
  unfold fget
  rw [BitVec.toNat_and, hv]
  refine ⟨?_, ?_, ?_, ?_⟩
  · dsimp only; omega
  · dsimp only; omega
  · dsimp only; omega
  · exact (and_diagMask _).trans (by omega)

/-- GO for a word: the word that is read, or the error that ends the access at once. -/
theorem exec_slabDiagRead {p : Port} (g : Fin 8) (b : Fin 128) (w : Fin 16384) {s : State} (hp : s.reaches p 0 = true) :
    exec (.slabDiagRead p g b w) s =
      .next ((s.answer .done).writeSlabAddr g (BitVec.ofNat 32 (2 ^ 31 + 2 ^ 24 * b.val + 2 ^ 10 * w.val))) := by
  show Host.Outcome.next (hostReg p (.slabDiagRead p g b w) (fun t => t.writeSlabAddr g (BitVec.ofNat 32 (2 ^ 31 + 2 ^ 24 * b.val + 2 ^ 10 * w.val))) s) = _
  exact congrArg Host.Outcome.next (hostReg_reaches hp)

theorem writeSlabAddr_begins {s : State} {g b w : Nat} (hb : b < 128) (hw : w < 16384)
    (hbusy : s.flag (R.RG_SLAB_DIAG_STATUS g) F.RG_SLAB_DIAG_STATUS_BUSY = false) (hin : w ≤ 9719 ∧ b < 32 * s.slabDepth g) :
    ∃ a : Word, s.writeSlabAddr g (BitVec.ofNat 32 (2 ^ 31 + 2 ^ 24 * b + 2 ^ 10 * w)) =
      { (s.wr (R.RG_SLAB_DIAG_ADDR g) a).put (R.RG_SLAB_DIAG_STATUS g) F.RG_SLAB_DIAG_STATUS_BUSY 1 with
        slabDiag := store id (fun _ => 0) s.slabDiag g (2 ^ 24 * b + 2 ^ 10 * w + 1) } := by
  obtain ⟨go, word, logical, kept⟩ := diagWord_fields hb hw
  refine ⟨BitVec.ofNat 32 (2 ^ 31 + 2 ^ 24 * b + 2 ^ 10 * w) &&& 0x7FFFFC00, ?_⟩
  unfold State.writeSlabAddr
  dsimp only
  rw [go, word, logical, hbusy, kept, if_neg (by simp), if_neg (by omega)]
  rfl

theorem writeSlabAddr_fails {s : State} {g b w : Nat} (hb : b < 128) (hw : w < 16384)
    (hbusy : s.flag (R.RG_SLAB_DIAG_STATUS g) F.RG_SLAB_DIAG_STATUS_BUSY = false) (hout : 9719 < w ∨ 32 * s.slabDepth g ≤ b) :
    ∃ a : Word, s.writeSlabAddr g (BitVec.ofNat 32 (2 ^ 31 + 2 ^ 24 * b + 2 ^ 10 * w)) =
      ((s.wr (R.RG_SLAB_DIAG_ADDR g) a).put (R.RG_SLAB_DIAG_STATUS g) F.RG_SLAB_DIAG_STATUS_ERR 1).put (R.RG_SLAB_DIAG_STATUS g)
        F.RG_SLAB_DIAG_STATUS_DONE 1 := by
  obtain ⟨go, word, logical, -⟩ := diagWord_fields hb hw
  refine ⟨BitVec.ofNat 32 (2 ^ 31 + 2 ^ 24 * b + 2 ^ 10 * w) &&& 0x7FFFFC00, ?_⟩
  unfold State.writeSlabAddr
  dsimp only
  rw [go, word, logical, hbusy, if_neg (by simp), if_pos hout]

/-- The registers of region g after a diagnostic read that found the stored word y. -/
def State.diagShown (s : State) (g : Nat) (y : BitVec 88) (bad sl fn : Nat) : State :=
  (((((((s.put (R.RG_SLAB_DIAG_STATUS g) F.RG_SLAB_DIAG_STATUS_BUSY 0).put (R.RG_SLAB_DIAG_STATUS g) F.RG_SLAB_DIAG_STATUS_DONE 1).put
    (R.RG_SLAB_DIAG_STATUS g) F.RG_SLAB_DIAG_STATUS_ECC_BAD bad).put (R.RG_SLAB_DIAG_STATUS g) F.RG_SLAB_DIAG_STATUS_SLAB sl).put
    (R.RG_SLAB_DIAG_STATUS g) F.RG_SLAB_DIAG_STATUS_FN_LOW fn).wr (R.RG_SLAB_DIAG_DATA0 g) (y.setWidth 32)).wr
    (R.RG_SLAB_DIAG_DATA1 g) ((y >>> 32).setWidth 32)).wr (R.RG_SLAB_DIAG_DATA2 g) ((y >>> 64).setWidth 32)

theorem diagShown_status (s : State) (g : Nat) (y : BitVec 88) (bad sl fn : Nat) :
    (s.diagShown g y bad sl fn).flag (R.RG_SLAB_DIAG_STATUS g) F.RG_SLAB_DIAG_STATUS_BUSY = false ∧
      (s.diagShown g y bad sl fn).flag (R.RG_SLAB_DIAG_STATUS g) F.RG_SLAB_DIAG_STATUS_DONE = true := by
  have data : ∀ (t : State) (u v w : Word) (f : Fld), (((t.wr (R.RG_SLAB_DIAG_DATA0 g) u).wr (R.RG_SLAB_DIAG_DATA1 g) v).wr
      (R.RG_SLAB_DIAG_DATA2 g) w).flag (R.RG_SLAB_DIAG_STATUS g) f = t.flag (R.RG_SLAB_DIAG_STATUS g) f := fun t u v w f => by
    unfold State.flag State.get
    rw [rd_wr_ne _ _ (by simp), rd_wr_ne _ _ (by simp), rd_wr_ne _ _ (by simp)]
  unfold State.diagShown
  rw [data, data, flag_put_field _ _ _ (by decide), flag_put_field _ _ _ (by decide), flag_put_field _ _ _ (by decide),
    flag_put_field _ _ _ (by decide), flag_put_same _ _ _ (by decide), flag_put_field _ _ _ (by decide), flag_put_field _ _ _ (by decide),
    flag_put_field _ _ _ (by decide), flag_put_same _ _ _ (by decide)]
  exact ⟨rfl, rfl⟩

theorem diagShown_data (s : State) (g : Nat) (y : BitVec 88) (bad sl fn : Nat) :
    (s.diagShown g y bad sl fn).rd (R.RG_SLAB_DIAG_DATA0 g) = y.setWidth 32 ∧
      (s.diagShown g y bad sl fn).rd (R.RG_SLAB_DIAG_DATA1 g) = (y >>> 32).setWidth 32 ∧
      (s.diagShown g y bad sl fn).rd (R.RG_SLAB_DIAG_DATA2 g) = (y >>> 64).setWidth 32 := by
  unfold State.diagShown
  refine ⟨?_, ?_, rd_wr_same _ _ _⟩
  · rw [rd_wr_ne _ _ (by simp), rd_wr_ne _ _ (by simp), rd_wr_same]
  · rw [rd_wr_ne _ _ (by simp), rd_wr_same]

/-- The diagnostic read of the word that waits ends, and shows it as stored. -/
theorem exec_slabDiagDone {g : Fin 8} {b w : Nat} {s : State} (hw : w < 16384)
    (h : look (fun _ => 0) s.slabDiag g.val = 2 ^ 24 * b + 2 ^ 10 * w + 1) :
    ∃ bad sl fn, exec (.slabDiagDone g) s =
      .next { s.diagShown g (s.slab (slabKey g (s.pbank g b) w)).stored bad sl fn with slabDiag := drop g.val s.slabDiag } := by
  have bank : (2 ^ 24 * b + 2 ^ 10 * w) / 2 ^ 24 = b := by omega
  have word : (2 ^ 24 * b + 2 ^ 10 * w) / 2 ^ 10 % 2 ^ 14 = w := by omega
  have run : exec (.slabDiagDone g) s = execSlabDiagDone g s := rfl
  unfold execSlabDiagDone at run
  rw [h] at run
  dsimp only at run
  rw [bank, word] at run
  exact ⟨_, _, _, run⟩

/-- A diagnostic read that ends. -/
theorem slabDiagDone_shows (g : Fin 8) (b : Fin 128) (w : Fin 16384) (s : State)
    (h : look (fun _ => 0) s.slabDiag g.val = 2 ^ 24 * b.val + 2 ^ 10 * w.val + 1) :
    ∃ t, exec (.slabDiagDone g) s = .next t ∧ t.flag (R.RG_SLAB_DIAG_STATUS g) F.RG_SLAB_DIAG_STATUS_BUSY = false ∧
      t.flag (R.RG_SLAB_DIAG_STATUS g) F.RG_SLAB_DIAG_STATUS_DONE = true ∧
      (let y := (s.slab (slabKey g (s.pbank g b) w)).stored
       t.rd (R.RG_SLAB_DIAG_DATA0 g) = y.setWidth 32 ∧ t.rd (R.RG_SLAB_DIAG_DATA1 g) = (y >>> 32).setWidth 32 ∧
       t.rd (R.RG_SLAB_DIAG_DATA2 g) = (y >>> 64).setWidth 32) ∧
      look (fun _ => 0) t.slabDiag g.val = 0 ∧ t.slabs = s.slabs := by
  obtain ⟨bad, sl, fn, run⟩ := exec_slabDiagDone w.isLt h
  have status := diagShown_status s g (s.slab (slabKey g (s.pbank g b) w)).stored bad sl fn
  have data := diagShown_data s g (s.slab (slabKey g (s.pbank g b) w)).stored bad sl fn
  have slabs : (s.diagShown g (s.slab (slabKey g (s.pbank g b) w)).stored bad sl fn).slabs = s.slabs := rfl
  generalize s.diagShown g (s.slab (slabKey g (s.pbank g b) w)).stored bad sl fn = u at run status data slabs
  exact ⟨_, run, status.1, status.2, data, look_drop_same, slabs⟩

-- Armed injections (R73)

theorem exec_slabEccInjArm {p : Port} (g : Fin 8) (a b : Fin 128) {s : State} (hp : s.reaches p 0 = true) :
    exec (.slabEccInjArm p g a b) s = .next ((s.answer .done).wr (R.RG_SLAB_ECC_INJ g) (BitVec.ofNat 32 (2 ^ 31 + 2 ^ 8 * b.val + a.val))) := by
  show Host.Outcome.next (hostReg p (.slabEccInjArm p g a b) (fun t => t.wr (R.RG_SLAB_ECC_INJ g) (BitVec.ofNat 32 (2 ^ 31 + 2 ^ 8 * b.val + a.val))) s) = _
  exact congrArg Host.Outcome.next (hostReg_reaches hp)

theorem injWord_fields {a b : Nat} (ha : a < 128) (hb : b < 128) :
    fget (BitVec.ofNat 32 (2 ^ 31 + 2 ^ 8 * b + a)) F.RG_SLAB_ECC_INJ_ARM = 1 ∧
      fget (BitVec.ofNat 32 (2 ^ 31 + 2 ^ 8 * b + a)) F.RG_SLAB_ECC_INJ_BIT_A = a ∧
      fget (BitVec.ofNat 32 (2 ^ 31 + 2 ^ 8 * b + a)) F.RG_SLAB_ECC_INJ_BIT_B = b := by
  unfold fget
  simp only [BitVec.toNat_ofNat]
  omega

/-- Settles O12: the check of a word is sound, corrects or substitutes; the commands of spares, of diagnostic reads and of injections write
their own registers alone. -/
theorem slabsAreCheckedAndSpared : Obligations.SlabsAreCheckedAndSpared := by
  unfold Obligations.SlabsAreCheckedAndSpared
  refine ⟨slabCheck_result, ?assigns, ?rejects, ?applies, ?begins, ?fails, ?shows, ?arms⟩
  case assigns =>
    intro p g k v s hp hv hb ho
    have small : fget v F.RG_SLAB_SPARE_LOGICAL < 128 := fget_lt v F.RG_SLAB_SPARE_LOGICAL
    obtain ⟨valid, origin, logical⟩ := spareWord_fields small
    have run := exec_slabSpareWrite g k v hp
    rw [writeSpare_assigns (s := s.answer .done) hv hb ho] at run
    refine ⟨_, run, ?_, ?_, ?_, rfl, fun q hq => ?_⟩
    · unfold State.flag State.get
      rw [rd_assigned, valid]
      rfl
    · unfold State.flag State.get
      rw [rd_assigned, origin]
      rfl
    · unfold State.get
      rw [rd_assigned, logical]
    · simp only [Bool.or_eq_false_iff, beq_eq_false_iff_ne] at hq
      exact assigned_regs _ _ _ _ hq.1 hq.2
  case rejects =>
    intro p g k v s hp hv h
    have run := exec_slabSpareWrite g k v hp
    rw [writeSpare_rejects (s := s.answer .done) hv h] at run
    exact ⟨_, run, flag_put_same _ _ _ (by decide), rfl, fun q hq => rd_put_ne _ _ _ (beq_eq_false_iff_ne.1 hq)⟩
  case applies =>
    intro g k s hv ho hn hd h0 hr
    exact slabSpareApply_replaces (spareWant_alone hv ho) hn hd h0 hr
  case begins =>
    intro p g b w s hp hbusy hw hb
    have run := exec_slabDiagRead g b w hp
    obtain ⟨a, ha⟩ := writeSlabAddr_begins (s := s.answer .done) (g := g) b.isLt w.isLt hbusy ⟨hw, hb⟩
    rw [ha] at run
    refine ⟨_, run, flag_put_same _ _ _ (by decide), ?_, rfl, fun q hq => ?_⟩
    · dsimp only
      exact look_store_same _ _ _
    simp only [Bool.or_eq_false_iff, beq_eq_false_iff_ne] at hq
    exact (rd_put_ne _ _ _ hq.2).trans (rd_wr_ne _ _ hq.1)
  case fails =>
    intro p g b w s hp hbusy hout
    have run := exec_slabDiagRead g b w hp
    obtain ⟨a, ha⟩ := writeSlabAddr_fails (s := s.answer .done) (g := g) b.isLt w.isLt hbusy hout
    rw [ha] at run
    refine ⟨_, run, ?_, flag_put_same _ _ _ (by decide), rfl, fun q hq => ?_⟩
    · exact (flag_put_field _ _ _ (by decide)).trans (flag_put_same _ _ _ (by decide))
    · simp only [Bool.or_eq_false_iff, beq_eq_false_iff_ne] at hq
      exact (rd_put_ne _ _ _ hq.2).trans ((rd_put_ne _ _ _ hq.2).trans (rd_wr_ne _ _ hq.1))
  case shows => exact slabDiagDone_shows
  case arms =>
    intro p g a b s hp
    obtain ⟨arm, bitA, bitB⟩ := injWord_fields a.isLt b.isLt
    refine ⟨_, exec_slabEccInjArm g a b hp, ?_, ?_, ?_, rfl, fun q hq => rd_wr_ne _ _ (beq_eq_false_iff_ne.1 hq)⟩
    · unfold State.flag State.get
      rw [rd_wr_same, arm]
      rfl
    · unfold State.get
      rw [rd_wr_same, bitA]
    · unfold State.get
      rw [rd_wr_same, bitB]

end Sys2Proof.Machine

/-!
The cell commands of any map with one entry, as they complete (R60 to R65, R303).
-/

namespace Sys2Proof.Machine

/-- A word, open for its frame, that has taken its first grain in lane e. -/
structure SlabWord.HoldsNow (y : SlabWord) (ef e : Nat) (gr : Grain) : Prop where
  grain : slabLane y e = gr
  frame : y.ef = ef
  filled : e ∈ y.filled
  unread : y.gone = false

/-- A cell of an open window that takes a grain holds it, and no other word differs. -/
theorem cellPut_holds {s t : State} {n q ef : Nat} (gr : Grain) (hw : s.WindowOpen n ef)
    (hx : (s.slab (s.cellKey n q ef)).ef ≠ ef ∨ ((s.slab (s.cellKey n q ef)).gone = false ∧ cellLane q ∉ (s.slab (s.cellKey n q ef)).filled))
    (ht : t.slabs = (s.cellPut n q ef gr).slabs) :
    (t.slab (s.cellKey n q ef)).HoldsNow ef (cellLane q) gr ∧ ∀ k', k' ≠ s.cellKey n q ef → t.slab k' = s.slab k' := by
  have same := slab_of_slabs ht
  obtain ⟨-, -, takes⟩ := cellPut_open (q := q) gr hw
  obtain ⟨grain, -, frame, unread, filled, others, -⟩ := takes hx
  rw [← same] at grain frame unread filled
  exact ⟨⟨grain, frame, filled ▸ List.mem_append_right _ (List.mem_singleton.2 rfl), unread⟩, fun k' hk => (same k').trans (others k' hk)⟩

/-- Upsets flip stored bits and leave the data and the place of every word. -/
theorem upset_data (s : State) (g : Nat) (l : List (Nat × Nat × Nat)) (k : Nat) : ((s.upset g l).slab k).data = (s.slab k).data := by
  unfold State.upset
  refine List.foldlRecOn (motive := fun t : State => (t.slab k).data = (s.slab k).data) _ _ rfl fun t ht e _ => ?_
  by_cases hk : k = slabKey g e.1 e.2.1
  · subst hk
    dsimp only
    rw [slab_setSlab_same]
    exact ht
  · exact (congrArg SlabWord.data (slab_setSlab_ne t _ hk)).trans ht

/-- The fabric's grain that a cell write of link l names came from link l. -/
theorem found_link {s : State} {g l p i : Nat} {f : FabGrain}
    (hi : s.fabric.findIdx? (fun f => f.die == g / 2 && f.link == l && f.pos == p && f.regs.contains g) = some i)
    (hf : s.fabric[i]? = some f) : f.link = l := by
  have found := (List.findIdx?_eq_some_iff_getElem.1 hi).2.1
  rw [(List.getElem?_eq_some_iff.1 hf).2] at found
  simp only [Bool.and_eq_true, beq_iff_eq] at found
  exact found.1.1.2

/-- CELL_READ with upsets: the word has been read for the present egress frame. -/
theorem cellRead_upsets_takes (n : Fin 128) (w : Fin 19440) (ups : List (Nat × Nat × Nat)) (s : State) (hd : s.slabDepth (luRegion n) ≠ 0)
    (hb : s.bridgedFrom n = some n.val) (hs : s.regionStopped (luRegion n) = false) (hw : 8 * w.val < frameBytes ((s.outN n).getD 0)) :
    let k := slabKey (luRegion n) (s.pbank (luRegion n) (cellBank (s.slabRead (luRegion n)) (n % 16) (8 * w))) (cellWord (8 * w))
    ∃ t, exec (.cellRead n w ups) s = .next t ∧ (t.slab k).gone = true ∧ (t.slab k).ef = s.up ∧ (t.slab k).data = (s.slab k).data ∧
      (∀ k', k' ≠ k → t.slab k' = (s.upset (luRegion n) ups).slab k') ∧ t.fabric = s.fabric ∧ t.mem = s.mem := by
  have rest := upset_rest s (luRegion n) ups
  have data := upset_data s (luRegion n) ups
  rw [cellRead_upset]
  generalize s.upset (luRegion n) ups = u at rest data ⊢
  have takes := cellRead_takes n w u (by rw [rest]; exact hd) (by rw [rest]; exact hb) (by rw [rest]; exact hs) (by rw [rest]; exact hw)
  have up : u.up = s.up := by rw [rest]
  have place : ∀ b, u.pbank (luRegion n) b = s.pbank (luRegion n) b := fun b => by rw [rest]; rfl
  have read : u.slabRead (luRegion n) = s.slabRead (luRegion n) := by rw [rest]; rfl
  have fabric : u.fabric = s.fabric := by rw [rest]
  have mem : u.mem = s.mem := by rw [rest]
  rw [place, read, up, fabric, mem] at takes
  obtain ⟨t, ht, hgone, hef, hdata, -, hothers, -, hfab, hmem⟩ := takes
  exact ⟨t, ht, hgone, hef, hdata.trans (data _), hothers, hfab, hmem⟩

/-- Settles O13: a grain that its cell takes enters one word alone, from the dispatch or from Pour, and the read side takes the word that its
command names. -/
theorem cellCommandsComplete : Obligations.CellCommandsComplete := by
  unfold Obligations.CellCommandsComplete
  refine ⟨?dispatch, ?pour, ?read⟩
  case dispatch =>
    intro g l p x i f r k q ef m s hi hf hs hu hsealed hentries hentry htyp hsnc hsel hreg hlink hrate hserves heq hcell hpour hd hlo hhi key hx
    have link : f.link = l.val := found_link hi hf
    have only : s.OnlyEntry g f r k :=
      ⟨hsealed, hentries, hentry, htyp, hsnc, hsel, hreg, hlink.trans link.symm, link ▸ hrate, hserves, heq⟩
    obtain ⟨t, ht, htx, hmem, takes, -⟩ := cellWrite_only p hi hf hs hu only
    obtain ⟨t', ht', hfab, -⟩ := cellWrite_takes g l p x i f s hs hi hf
    obtain rfl : t' = t := Host.Outcome.next.inj (ht'.symm.trans ht)
    have key_eq : s.cellKey (taLink r.eg) q ef = key := by
      unfold State.cellKey State.cellBankOf
      rw [hreg]
    obtain ⟨⟨grain, frame, filled, unread⟩, others⟩ := cellPut_holds (s.oppMark r r.src q m ef f)
      (⟨hreg ▸ hd, hlo, hreg ▸ hhi⟩ : s.WindowOpen (taLink r.eg) ef) (key_eq ▸ hx) (takes q ef m hcell hpour)
    rw [key_eq] at grain frame filled unread others
    exact ⟨t', ht, grain, frame, filled, unread, others, hfab, htx, hmem⟩
  case pour =>
    intro g l p x gr s hs hl hu hg hsram hflip hodd hgr u hd key hx
    obtain ⟨t, ht, slabs, hfab, htx, hmem, -⟩ := cellWrite_pour g l p x s hs hl hu hg gr hgr
    have up : u.up = s.up := pourGrain_up s l p x.late x.errs
    have intact : (if x.sram = .uncorrectable then subGrain else gr) ^^^ x.flip = gr := by simp [hsram, hflip]
    have slabs : t.slabs = (u.cellPut l p u.up gr).slabs := by
      rw [up, slabs, intact, hodd]
      rfl
    have key_eq : u.cellKey l p u.up = key := by
      unfold State.cellKey State.cellBankOf
      rw [hl]
    obtain ⟨⟨grain, frame, filled, -⟩, others⟩ := cellPut_holds gr
      (⟨hl ▸ hd, Nat.le_refl _, by rw [hl]; omega⟩ : u.WindowOpen l u.up) (key_eq ▸ hx) slabs
    rw [key_eq] at grain frame filled others
    exact ⟨t, ht, grain, frame, filled, others, hfab, htx, hmem⟩
  case read => exact fun n w ups s hd hb hs hw => cellRead_upsets_takes n w ups s hd hb hs hw

end Sys2Proof.Machine

/-!
What a frame boundary and a step of the time base leave of the clocks, the epoch, the history and the slab indices.
-/

namespace Sys2Proof.Machine

-- Clocks, epoch and slab indices

/-- The instants and what waits on them: frames since power-up and since the epoch, the second last ended, SYNC_IN, the commands that wait, the
egress grains of the frame, the depth of the slabs. -/
def State.clocks (s : State) := (s.up, s.clk, s.frames, s.ns, s.secUp, s.syncLast, s.pending, s.txGrains, s.depth)

/-- The samples of the Main DPLL. -/
def State.mainHist (s : State) : List Int × Nat := (s.hist, s.histRun)

/-- The clocks; with `w`, the samples too. -/
def State.clockView (s : State) (w : Bool) := (s.clocks, if w then s.mainHist else ([], 0))

/-- TB_SET and TIME_SYNC_STATUS; with `w`, TIME_STATUS. -/
def epochReg (w : Bool) (r : RegId) : Bool := r.blk == .time && ([0x64, 0x80, 0x84].contains r.off || (r.off == 4 && w))

/-- A register of the epoch, or one of which a field gives the power of regions or the slab index. -/
def clockReg (w : Bool) (r : RegId) : Bool := epochReg w r || unitState r || (r.blk == .region && r.off == 0x400)

/-- The clocks, the epoch, the power of the regions and the slab indices stand; with `w`, the history and the state of the Main DPLL too. -/
structure ClockKept (w : Bool) (s t : State) : Prop where
  view : t.clockView w = s.clockView w
  regs : ∀ r, epochReg w r = true → t.rd r = s.rd r
  power : ∀ d i, 22 ≤ i → t.bit (R.DIE_UNIT_STATE d) i = s.bit (R.DIE_UNIT_STATE d) i
  slab : ∀ g, t.slabRead g = s.slabRead g

theorem evReg_of_epochReg {w : Bool} {r : RegId} (h : epochReg w r = true) : evReg r = false := by
  obtain ⟨k, x, o, c⟩ := r
  simp only [epochReg, Bool.and_eq_true, beq_iff_eq, Bool.or_eq_true, List.contains_eq_mem, List.mem_cons, List.not_mem_nil,
    or_false, decide_eq_true_eq] at h
  obtain ⟨rfl, ho⟩ := h
  have : o < 0xf000 := by omega
  simp [evReg, this]

theorem txnReg_of_epochReg {w : Bool} {r : RegId} (h : epochReg w r = true) : txnReg r = false := by
  have hb : r.blk = .time := by
    unfold epochReg at h
    simpa using (Bool.and_eq_true_iff.1 h).1
  simp [txnReg, noteReg, evReg_of_epochReg h, hb]

section
variable {w : Bool} {s t u : State}

/-- The registers and the view decide. -/
theorem ClockKept.of_same (h : t.regs = s.regs) (hv : t.clockView w = s.clockView w) : ClockKept w s t := by
  have hr : ∀ r, t.rd r = s.rd r := fun r => by unfold State.rd; rw [h]
  exact ⟨hv, fun r _ => hr r, fun d i _ => by unfold State.bit; rw [hr], fun g => by unfold State.slabRead State.get; rw [hr]⟩

theorem ClockKept.refl (s : State) : ClockKept w s s := .of_same rfl rfl

theorem ClockKept.trans (h : ClockKept w s t) (k : ClockKept w t u) : ClockKept w s u :=
  ⟨k.view.trans h.view, fun r hr => (k.regs r hr).trans (h.regs r hr), fun d i hi => (k.power d i hi).trans (h.power d i hi),
    fun g => (k.slab g).trans (h.slab g)⟩

/-- Changes besides the registers and the view before, and after, a step. -/
theorem ClockKept.since (k : ClockKept w t u) (h : t.regs = s.regs) (hv : t.clockView w = s.clockView w) : ClockKept w s u :=
  (ClockKept.of_same h hv).trans k
theorem ClockKept.into (k : ClockKept w s t) (h : u.regs = t.regs) (hv : u.clockView w = t.clockView w) : ClockKept w s u :=
  k.trans (.of_same h hv)

theorem ClockKept.ite {c : Prop} [Decidable c] (h : ClockKept w s t) (k : ClockKept w s u) : ClockKept w s (if c then t else u) := by
  by_cases hc : c <;> simpa [hc]

theorem ClockKept.foldl {α : Type} {f : State → α → State} (l : List α) (h : ∀ t a, ClockKept w t (f t a)) :
    ∀ s, ClockKept w s (l.foldl f s) := by
  induction l with
  | nil => exact fun s => .refl s
  | cons a l ih => exact fun s => (h s a).trans (ih _)

theorem ClockKept.of_event (h : EvOnly s t) (k : TallyKept s t) : ClockKept w s t :=
  ⟨by rw [h.rest]; rfl, fun r hr => h.regs r (evReg_of_epochReg hr), k.power, fun g => h.get_eq (evReg_region (by decide)) _⟩

theorem ClockKept.of_txn (h : TxnOnly s t) (k : TallyKept s t) : ClockKept w s t :=
  ⟨by rw [h.rest]; rfl, fun r hr => h.regs r (txnReg_of_epochReg hr), k.power,
    fun g => by unfold State.slabRead State.get; rw [h.regs _ (by simp [txnReg, noteReg, evReg_region])]⟩

theorem ClockKept.wr (s : State) (r : RegId) (v : Word) (h : clockReg w r = false) : ClockKept w s (s.wr r v) := by
  obtain ⟨⟨he, hu⟩, hg⟩ : (epochReg w r = false ∧ unitState r = false) ∧ (r.blk == .region && r.off == 0x400) = false := by
    simpa only [clockReg, Bool.or_eq_false_iff] using h
  refine ⟨rfl, fun q hq => rd_wr_ne s v (by rintro rfl; rw [he] at hq; cases hq), fun d i _ => ?_, fun g => ?_⟩
  · unfold State.bit
    rw [rd_wr_ne s v (by rintro rfl; cases hu)]
  · unfold State.slabRead State.get
    rw [rd_wr_ne s v (by rintro rfl; cases hg)]

end

section
variable {w : Bool} (s : State)

theorem ClockKept.put (r : RegId) (f : Fld) (v : Nat) (h : clockReg w r = false) : ClockKept w s (s.put r f v) := .wr s r _ h
theorem ClockKept.setBit (r : RegId) (i : Nat) (h : clockReg w r = false) : ClockKept w s (s.setBit r i) := .wr s r _ h
theorem ClockKept.clrBit (r : RegId) (i : Nat) (h : clockReg w r = false) : ClockKept w s (s.clrBit r i) := .wr s r _ h
theorem ClockKept.putBit (r : RegId) (i : Nat) (v : Bool) (h : clockReg w r = false) : ClockKept w s (s.putBit r i v) := by
  cases v
  · exact .clrBit s r i h
  · exact .setBit s r i h

theorem ClockKept.startTimerNs (k : TKey) (n : Nat) : ClockKept w s (s.startTimerNs k n) := .of_same rfl rfl
theorem ClockKept.startTimer (k : TKey) (n : Nat) : ClockKept w s (s.startTimer k n) := .of_same rfl rfl
theorem ClockKept.stopTimer (k : TKey) : ClockKept w s (s.stopTimer k) := .of_same rfl rfl
theorem ClockKept.drawn : ClockKept w s s.drawn := .of_same rfl rfl
theorem ClockKept.answer (c : Completion) : ClockKept w s (s.answer c) := .of_same rfl rfl
theorem ClockKept.withUnretire (l : List (Nat × Nat)) : ClockKept w s { s with unretire := l } := .of_same rfl rfl
theorem ClockKept.withDue (l : List Due) : ClockKept w s { s with due := l } := .of_same rfl rfl
theorem ClockKept.withWbWait (l : List WbWait) : ClockKept w s { s with wbWait := l } := .of_same rfl rfl
theorem ClockKept.withMainHold (b : Bool) : ClockKept w s { s with mainHold := b } := .of_same rfl rfl
theorem ClockKept.withSyncOut (b : Bool) : ClockKept w s { s with syncOut := b } := .of_same rfl rfl
theorem ClockKept.spareTaken (g k : Nat) : ClockKept w s (s.spareTaken g k) := .of_same rfl rfl
theorem ClockKept.setSlot (k : Nat) (x : TxnSlot) : ClockKept w s (s.setSlot k x) := .of_same rfl rfl
theorem ClockKept.setPour (d j : Nat) (x : PourJob) : ClockKept w s (s.setPour d j x) := .of_same rfl rfl

/-- Another field of RG_SLAB_STATUS. -/
theorem ClockKept.putSlabStatus (g : Nat) {f : Fld} (v : Nat)
    (h : f.lo + f.w ≤ F.RG_SLAB_STATUS_SLAB_READ.lo ∨ F.RG_SLAB_STATUS_SLAB_READ.lo + F.RG_SLAB_STATUS_SLAB_READ.w ≤ f.lo) :
    ClockKept w s (s.put (R.RG_SLAB_STATUS g) f v) := by
  refine ⟨rfl, fun q hq => rd_put_ne _ _ _ (by rintro rfl; cases hq), fun d i _ => ?_, fun g' => ?_⟩
  · unfold State.bit
    rw [rd_put_ne _ _ _ (by simp)]
  · unfold State.slabRead
    by_cases hg : g' = g
    · rw [hg, get_put_field s v h]
    · rw [get_put_reg _ _ _ _ (by simpa using hg)]

/-- Another field of a die's unit state. -/
theorem ClockKept.putUnitState (d : Nat) {f : Fld} (v : Nat) (h : f.lo + f.w ≤ 22) : ClockKept w s (s.put (R.DIE_UNIT_STATE d) f v) :=
  ⟨rfl, fun q hq => rd_put_ne _ _ _ (by rintro rfl; cases hq), (TallyKept.putUnitState s d v h).power,
    fun g => get_put_reg _ _ _ _ (by simp)⟩

-- Registers that are none of these

theorem clockReg_region (w : Bool) (g : Nat) {o : Nat} (h : 0x400 < o) : clockReg w ⟨.region, g, o, 0⟩ = false := by
  have : o ≠ 0x400 := by omega
  simp [clockReg, epochReg, unitState, this]
theorem clockReg_die (w : Bool) (d : Nat) {o : Nat} (h : 0x104 < o) : clockReg w ⟨.die, d, o, 0⟩ = false := by
  have : o ≠ 0x104 := by omega
  simp [clockReg, epochReg, unitState, this]
theorem clockReg_time (w : Bool) {o : Nat} (h : 0x84 < o) : clockReg w ⟨.time, 0, o, 0⟩ = false := by
  have h1 : o ≠ 0x64 := by omega
  have h2 : o ≠ 0x80 := by omega
  have h3 : o ≠ 0x84 := by omega
  have h4 : o ≠ 4 := by omega
  simp [clockReg, epochReg, unitState, h1, h2, h3, h4]
theorem clockReg_wrap (w : Bool) (k : Blk) (x i : Nat) : clockReg w (R.CNT_WRAP k x i) = false := by
  have h1 : 0xf000 + 4 * i ≠ 0x64 := by omega
  have h2 : 0xf000 + 4 * i ≠ 0x80 := by omega
  have h3 : 0xf000 + 4 * i ≠ 0x84 := by omega
  have h4 : 0xf000 + 4 * i ≠ 4 := by omega
  have h5 : 0xf000 + 4 * i ≠ 0x104 := by omega
  have h6 : 0xf000 + 4 * i ≠ 0x400 := by omega
  simp [clockReg, epochReg, unitState, h1, h2, h3, h4, h5, h6]

-- Events and counters

theorem ClockKept.ev (b src : Nat) : ClockKept w s (s.ev b src) := .of_event (ev_only _ _ _) (.ev _ _ _)
theorem ClockKept.event (b src : Nat) (d : Word) : ClockKept w s (s.event b src d) := .of_event (event_only _ _ _ _) (.event _ _ _ _)
theorem ClockKept.event' (b src : Nat) (d : Word) (tw : Bool) : ClockKept w s (s.event' b src d tw) := .of_event (.eventLoop _ _ _) (.event' _ _ _ _ _)
theorem ClockKept.evIf (c : Bool) (b src : Nat) : ClockKept w s (s.evIf c b src) := .ite (.ev _ _ _) (.refl _)
theorem ClockKept.liveOn (b src : Nat) : ClockKept w s (s.liveOn b src) := .of_event (.liveOn _ _ _) (.liveOn _ _ _)
theorem ClockKept.leaveSevere (b src : Nat) : ClockKept w s (s.leaveSevere b src) := .of_event (.leaveSevere _ _ _) (.leaveSevere _ _ _)
theorem ClockKept.safeReact (b src : Nat) (d : Word) : ClockKept w s (s.safeReact b src d) := .of_event (.safeReact _ _ _ _) (.safeReact _ _ _ _)
theorem ClockKept.skFire (d j by_ : Nat) (ts : List Word) : ClockKept w s (s.skFire d j by_ ts) := .of_event (.skFire _ _ _ _ _) (.skFire _ _ _ _ _)
theorem ClockKept.skTrig (d j by_ : Nat) (ts : List Word) : ClockKept w s (s.skTrig d j by_ ts) :=
  ((ClockKept.skFire _ _ _ _ _).trans (.ev _ _ _)).trans (.ev _ _ _)
theorem ClockKept.skDefect (tap : Word) (o n : Nat) : ClockKept w s (s.skDefect tap o n) :=
  .foldl _ (fun t _ => (ClockKept.drawn t).trans (.skTrig _ _ _ _ _)) _

theorem ClockKept.setCtr (c : Ctr) (v : Nat) (hl : clockReg w c.lo = false) (hh : clockReg w c.hi = false) : ClockKept w s (s.setCtr c v) :=
  (ClockKept.wr _ _ _ hh).trans (.wr _ _ _ hl)
theorem ClockKept.addLoss (c : Ctr) (n : Nat) (hl : clockReg w c.lo = false) (hh : clockReg w c.hi = false) : ClockKept w s (s.addLoss c n) :=
  .setCtr _ _ _ hl hh

theorem ClockKept.addCtr (c : Ctr) (n : Nat) (hl : clockReg w c.lo = false) (hh : clockReg w c.hi = false) : ClockKept w s (s.addCtr c n) := by
  have raw : ClockKept w s (s.addRaw c n).1 := by
    unfold State.addRaw
    dsimp only
    split
    · exact .setCtr _ _ _ hl hh
    · exact (ClockKept.setCtr _ _ _ hl hh).trans (.setBit _ _ _ (clockReg_wrap _ _ _ _))
  unfold State.addCtr
  generalize s.addRaw c n = p at raw ⊢
  exact .ite (raw.trans (.ev _ _ _)) raw

theorem ClockKept.st (a : Nat) (l : List Byte) : ClockKept w s (s.st a l) := by
  induction l generalizing s a with
  | nil => exact .refl s
  | cons b l ih => exact (ih (s.stb a b) (a + 1)).since rfl rfl

theorem ClockKept.updHealth : ClockKept w s s.updHealth :=
  .ite (.put _ _ _ _ rfl) (((ClockKept.put _ _ _ _ rfl).trans (.put _ _ _ _ rfl)).trans (.ev _ _ _))

end

end Sys2Proof.Machine

/-!
Transactions, references, link units and retirements leave the clocks, the epoch and the slab indices.
-/

namespace Sys2Proof.Machine

section
variable {w : Bool} (s : State)

-- Transactions

theorem ClockKept.setTxn (k st : Nat) : ClockKept w s (s.setTxn k st) := .of_txn (.setTxn _ _ _) (.setTxn _ _ _)
theorem ClockKept.beginRestore (k : Nat) : ClockKept w s (s.beginRestore k) := .of_txn (.beginRestore _ _) (.beginRestore _ _)
theorem ClockKept.refuseTxn (k code : Nat) : ClockKept w s (s.refuseTxn k code) := .of_txn (.refuseTxn _ _ _) (.refuseFor _ _ _ _)
theorem ClockKept.refuseHolding (code : Nat) (p : Rec → Bool) : ClockKept w s (s.refuseHolding code p) :=
  .of_txn (.refuseHolding _ _ _) (.refuseHolding _ _ _)
theorem ClockKept.toMate (m : MateMsg) : ClockKept w s (s.toMate m) := .of_same rfl rfl

-- References

theorem ClockKept.setDisputed (r : Nat) (b : Bool) : ClockKept w s (s.setDisputed r b) :=
  .ite (.refl _) (((ClockKept.put _ _ _ _ (clockReg_time _ (by omega))).trans (.stopTimer _ _)).trans (.ev _ _ _))

theorem ClockKept.showSelectable (r : Nat) : ClockKept w s (s.showSelectable r) :=
  have h : ClockKept w s (s.put (R.TIME_REF_STATUS r) F.TIME_REF_STATUS_SELECTABLE (if s.selectable r then 1 else 0)) :=
    .put _ _ _ _ (clockReg_time _ (by omega))
  .ite h (h.trans (.setDisputed _ _ _))

theorem ClockKept.refShow (r : Nat) : ClockKept false s (s.refShow r) := by
  unfold State.refShow
  extract_lets q inv st s1 s2
  have h1 : ClockKept false s s1 :=
    .ite (.refl _) (((ClockKept.put _ _ _ _ (clockReg_time _ (by omega))).trans (.put _ _ _ _ (clockReg_time _ (by omega)))).trans (.ev _ _ _))
  have h2 : ClockKept false s1 s2 := .ite (.put _ _ _ _ rfl) (.refl _)
  exact (h1.trans h2).trans (.showSelectable _ _)

theorem ClockKept.refShowAll : ClockKept false s s.refShowAll := .foldl _ (fun _ _ => .refShow _ _) _

theorem ClockKept.toQState (r q : Nat) : ClockKept false s (s.toQState r q) := by
  unfold State.toQState
  lift_lets
  extract_lets old st s0 wtr s1
  have status : ∀ (t : State) (f : Fld) (v : Nat), ClockKept false t (t.put st f v) := fun t f v =>
    .put _ _ _ _ (clockReg_time _ (by omega))
  have h0 : ClockKept false s s0 := .ite (.of_same rfl rfl) (.refl _)
  have h1 : ClockKept false s0 s1 := .ite ((ClockKept.startTimerNs _ _ _).trans (status _ _ _))
    ((ClockKept.stopTimer _ _).trans (status _ _ _))
  exact .ite (.refl _) ((((h0.trans h1).trans (status _ _ _)).trans (.ev _ _ _)).trans (.refShow _ _))

theorem ClockKept.refFail (r : Nat) : ClockKept false s (s.refFail r) := .ite (.toQState _ _ _) (.refl _)
theorem ClockKept.gateBegin (r : Nat) : ClockKept w s (s.gateBegin r) := .startTimerNs _ _ _

theorem ClockKept.refLose (r : Nat) : ClockKept false s (s.refLose r) := by
  have h : ClockKept false s (((s.put (R.TIME_REF_STATUS r) F.TIME_REF_STATUS_ACTIVE 0).stopTimer (refGateKey r)).refFail r) :=
    ((ClockKept.put _ _ _ _ (clockReg_time _ (by omega))).trans (.stopTimer _ _)).trans (.refFail _ _)
  exact .ite (h.trans (.withMainHold _ _)) h

theorem ClockKept.lineRefFollow (r : Nat) : ClockKept false s (s.lineRefFollow r) :=
  .ite (.refl _) (.ite (.ite (.refLose _ _) (.refl _)) (.ite (.refl _)
    ((ClockKept.put _ _ _ _ (clockReg_time _ (by omega))).trans (.gateBegin _ _))))

-- Link units

theorem ClockKept.mspCond (g k c sd : Nat) (raw : Bool) : ClockKept w s (s.mspCond g k c sd raw) :=
  .ite ((ClockKept.clrBit _ _ _ (clockReg_region _ _ (by omega))).trans (.stopTimer _ _))
    (.ite (.refl _) (.ite (.setBit _ _ _ (clockReg_region _ _ (by omega))) (.ite (.refl _) (.startTimer _ _ _))))

theorem ClockKept.mspConds (g k : Nat) : ClockKept w s (s.mspConds g k) :=
  .foldl _ (fun _ _ => (ClockKept.mspCond _ _ _ _ _ _).trans (.mspCond _ _ _ _ _ _)) _

theorem ClockKept.luTouch (n : Nat) : ClockKept false s (s.luTouch n) := by
  have h : ClockKept false s (s.mspTouch n) := by
    unfold State.mspTouch
    split
    · exact .mspConds _ _ _
    · exact .refl _
  exact h.trans (.foldl _ (fun _ _ => .ite (.lineRefFollow _ _) (.refl _)) _)

-- Retirements

theorem ClockKept.retireLU (n : Nat) : ClockKept false s (s.retireLU n) :=
  (((ClockKept.setBit s (R.DIE_UNIT_RETIRE (n / 32)) (n % 32) rfl).trans (.withUnretire _ _)).trans (.luTouch _ _)).trans (.refuseHolding _ _ _)

theorem ClockKept.assignSpare (g bank : Nat) : ClockKept w s (s.assignSpare g bank) := by
  unfold State.assignSpare
  split
  · have spare : ∀ (t : State) (k : Nat) (f : Fld) (v : Nat), ClockKept w t (t.put (R.RG_SLAB_SPARE g k) f v) := fun t k f v =>
      .put _ _ _ _ (clockReg_region _ _ (by omega))
    exact (((((spare _ _ _ _).trans (spare _ _ _ _)).trans (spare _ _ _ _)).trans (.putSlabStatus _ _ _ (by decide))).trans
      (.spareTaken _ _ _)).trans (.ev _ _ _)
  · exact .ev _ _ _

theorem ClockKept.retireLane (d k i : Nat) : ClockKept w s (s.retireLane d k i) := by
  unfold State.retireLane
  refine .ite (.refl _) ?_
  dsimp only
  have h1 : ClockKept w s (s.setBit (seamLane d k i).1 (seamLane d k i).2) :=
    .setBit _ _ _ (by unfold seamLane; split_ifs <;> rfl)
  generalize s.setBit (seamLane d k i).1 (seamLane d k i).2 = s1 at h1 ⊢
  have h2 : ClockKept w s (((s1.put (R.SEAM_STATUS d k) F.SEAM_STATUS_LANES_OK (s1.lanesOk d k)).put (R.SEAM_STATUS d k)
      F.SEAM_STATUS_SPARE_USED (s1.sparesUsed d k)).put (R.DIE_UNIT_STATE d) (dieSpareFld k) (s1.sparesUsed d k)) :=
    ((h1.trans (.put _ _ _ _ rfl)).trans (.put _ _ _ _ rfl)).trans (.putUnitState _ _ _ (dieSpareFld_low _))
  exact .ite (((h2.trans (.put _ _ _ _ rfl)).trans (.event _ _ _ _)).trans (.liveOn _ _ _)) h2

theorem ClockKept.sieveAbandon (d b : Nat) : ClockKept w s (s.sieveAbandon d b) := by
  have he : ClockKept w s (s.sieveEnd d b) :=
    .ite (((ClockKept.put _ _ _ _ rfl).trans (.put _ _ _ _ rfl)).trans (.put _ _ _ _ rfl)) (.put _ _ _ _ rfl)
  have h : ClockKept w s ((s.sieveEnd d b).setSieveAt d b 0) := he.into rfl rfl
  exact .ite (h.trans (.addCtr _ _ _ rfl rfl)) (.ite h (.refl _))

theorem ClockKept.pourBank (d b : Nat) : ClockKept w s (s.pourBank d b) := by
  have h : ∀ (t : State) (j c : Nat), ClockKept w t (t.pourEnd d j c) := fun t j c =>
    .ite (.refl _) ((((ClockKept.setPour _ _ _ _).trans (.put _ _ _ _ rfl)).trans (.put _ _ _ _ rfl)).trans (.ev _ _ _))
  exact .foldl _ (fun _ _ => .ite (h _ _ _) (.refl _)) _

theorem ClockKept.bankViol (m d b : Nat) : ClockKept w s (s.bankViol m d b) :=
  ((((ClockKept.addCtr _ _ _ rfl rfl).trans (.put _ _ _ _ rfl)).trans (.put _ _ _ _ rfl)).trans (.put _ _ _ _ rfl)).trans (.event' _ _ _ _ _)

theorem ClockKept.mxRetire (m i : Nat) : ClockKept w s (s.mxRetire m i) := (ClockKept.put _ _ _ _ rfl).since rfl rfl

theorem ClockKept.failBank (d b : Nat) : ClockKept w s (s.failBank d b) :=
  (ClockKept.withWbWait _ _).trans (.foldl _ (fun _ _ => (ClockKept.mxRetire _ _ _).trans ((ClockKept.bankViol _ _ _ _).trans (.answer _ _))) _)

theorem ClockKept.retireBank (d b : Nat) : ClockKept w s (s.retireBank d b) :=
  .ite (.refl _) (((((((ClockKept.sieveAbandon _ _ _).trans (.pourBank _ _ _)).trans (.put _ _ _ _ rfl)).trans (.put _ _ _ _ rfl)).trans
    (.put _ _ _ _ rfl)).trans (.stopTimer _ _)).trans (.failBank _ _ _))

theorem ClockKept.spareRow (d : Nat) : ClockKept w s (s.spareRow d) := .ite (.put _ _ _ _ rfl) (.event' _ _ _ _ _)

theorem ClockKept.retireTarget (u : Due) : ClockKept false s (s.retireTarget u) := by
  unfold State.retireTarget
  dsimp only
  refine .trans (.trans (t := if u.blk < 7 then _ else _) ?_ (.ite (.safeReact _ _ _ _) (.refl _))) (.leaveSevere _ _ _)
  exact .ite (.ite (.retireLane _ _ _ _) (.ite (.retireBank _ _ _) (.ite (.retireBank _ _ _) (.spareRow _ _))))
    (.ite (.assignSpare _ _ _) (.ite (.foldl _ (fun t i => .retireLU t _) _) (.retireLU _ _)))

theorem ClockKept.settleN : ∀ (n : Nat) (s : State), ClockKept false s (State.settleN n s)
  | 0, s => .refl s
  | n + 1, s => by
    unfold State.settleN
    split
    · exact .refl s
    · exact ((ClockKept.withDue _ _).trans (.retireTarget _ _)).trans (ClockKept.settleN n _)

theorem ClockKept.graveHealth : ClockKept w s s.graveHealth := .ite ((ClockKept.withSyncOut _ _).trans (.updHealth _)) (.refl _)

/-- The end of a command leaves the clocks too. -/
theorem done_clock : ∃ t, done s = .next t ∧ ReactOnly s t ∧ TallyKept s t ∧ ClockKept false s t :=
  ⟨_, rfl, (ReactOnly.settleN _ _).trans (.of_note (.graveHealth _)), (TallyKept.settleN _ _).trans (.graveHealth _),
    (ClockKept.settleN _ _).trans (.graveHealth _)⟩

end

end Sys2Proof.Machine

/-!
Groups, paths, the journal and performance monitoring leave the clocks, the epoch and the slab indices.
-/

namespace Sys2Proof.Machine

section
variable {w : Bool} (s : State)

-- Groups

theorem ClockKept.grpMark (x : Nat) (g h : Grp) : ClockKept w s (s.grpMark x g h) := by
  unfold State.grpMark
  dsimp only
  refine .ite (.refl _) (.trans (ClockKept.setBit s (R.GRP_CHANGED (grpDie x) (x % 1024 / 32)) (x % 32) (clockReg_die _ _ (by omega))) ?_)
  exact .of_same rfl rfl

theorem ClockKept.setGrp (x : Nat) (g : Grp) : ClockKept w s (s.setGrp x g) := (ClockKept.grpMark _ _ _ _).since rfl rfl

theorem ClockKept.setRun (x : Nat) (g : Grp) : ClockKept w s (s.setRun x g) := by
  unfold State.setRun
  split
  · exact (ClockKept.grpMark _ _ _ _).since rfl rfl
  · exact .setGrp _ _ _

theorem ClockKept.memClear (a3 : Bool) (t : TA) : ClockKept w s (s.memClear a3 t) := .foldl _ (fun _ _ => .setRun _ _ _) _

-- The journal

theorem ClockKept.setStaged (d : Nat) (l : List JrnRec) : ClockKept w s (s.setStaged d l) := .of_same rfl rfl
theorem ClockKept.withJrnLoss (l : List Nat) : ClockKept w s { s with jrnLoss := l } := .of_same rfl rfl

theorem ClockKept.jrnLose (d : Nat) : ClockKept w s (s.jrnLose d) := by
  have h : ClockKept w s (s.addLoss ⟨R.DIE_JRN_LOST_LO d, R.DIE_JRN_LOST_HI d⟩ 1) := .addLoss _ _ _ rfl rfl
  unfold State.jrnLose
  extract_lets s1
  exact .ite h ((h.trans (.withJrnLoss _ _)).trans (.ev _ _ _))

theorem ClockKept.jrnWrite (a3 : Bool) (t : TA) (now ch : Nat) : ClockKept w s (s.jrnWrite a3 t now ch) :=
  .ite (.refl _) (.ite (.jrnLose _ _) (.setStaged _ _ _))

theorem ClockKept.jrnPut (d : Nat) (x : JrnRec) : ClockKept w s (s.jrnPut d x) := by
  unfold State.jrnPut
  extract_lets wr loss s1
  have h : ClockKept w s s1 := (ClockKept.st _ _ _).trans (.wr _ _ _ rfl)
  clear_value s1
  exact .ite (.jrnLose _ _) (h.into rfl rfl)

theorem ClockKept.jrnStep (d : Nat) : ClockKept w s (s.jrnStep d) := by
  unfold State.jrnStep
  split
  · exact .refl s
  · exact (ClockKept.setStaged _ _ _).trans (.jrnPut _ _ _)

theorem ClockKept.jrnFlush : ClockKept w s s.jrnFlush := .foldl _ (fun _ _ => .foldl _ (fun _ _ => .jrnStep _ _) _) _

-- Paths

theorem ClockKept.setPath (a3 : Bool) (t : TA) (x : PathSt) : ClockKept w s (s.setPath a3 t x) := .of_same rfl rfl
theorem ClockKept.pmUpd (k : Nat) (f : PmEnt → PmEnt) : ClockKept w s (s.pmUpd k f) := .of_same rfl rfl
theorem ClockKept.pmNeDef (k : Nat) : ClockKept w s (s.pmNeDef k) := .pmUpd _ _ _
theorem ClockKept.pmFeDef (k : Nat) : ClockKept w s (s.pmFeDef k) := .pmUpd _ _ _

theorem ClockKept.settlePath (a3 : Bool) (t : TA) : ClockKept w s (s.settlePath a3 t) := by
  unfold State.settlePath
  extract_lets x line lom x1 s1 own x2 x3 s2
  have h1 : ClockKept w s s1 := .ite (.refl _) (.setPath _ _ _ _)
  have h2 : ClockKept w s1 s2 := .ite (.refl _) (.setPath _ _ _ _)
  exact (h1.trans h2).trans (.foldl _ (fun _ _ => .ite (.memClear _ _ _) (.refl _)) _)

theorem ClockKept.pmPath (a3 : Bool) (t : TA) : ClockKept w s (s.pmPath a3 t) := by
  unfold State.pmPath
  extract_lets k d near s1
  have h1 : ClockKept w s s1 := .ite (.pmNeDef _ _) (.refl _)
  exact .ite (.refl _) (.ite (h1.trans (.pmFeDef _ _)) h1)

/-- A change of paths leaves what the change itself leaves. -/
theorem ClockKept.watchPaths (ks : List (Bool × TA)) (ind : Nat) {f : State → State} (h : ClockKept w s (f s)) :
    ClockKept w s (s.watchPaths ks ind f) := by
  unfold State.watchPaths
  extract_lets old s1
  have h1 : ClockKept w s s1 := h.trans (.foldl _ (fun _ _ => .settlePath _ _ _) _)
  refine h1.trans (.foldl _ (fun u e => ?_) _)
  extract_lets now ch v
  have hv : ClockKept w u v := .ite (.refl _) ((ClockKept.jrnWrite _ _ _ _ _).trans (.skDefect _ _ _ _))
  exact hv.trans (.pmPath _ _ _)

theorem ClockKept.changePath (a3 : Bool) (t : TA) (ind : Nat) (f : PathSt → PathSt) : ClockKept w s (s.changePath a3 t ind f) :=
  .watchPaths _ _ _ (.setPath _ _ _ _)

theorem ClockKept.pathTurn (a3 : Bool) (t : TA) : ClockKept w s (s.pathTurn a3 t) := by
  unfold State.pathTurn
  extract_lets x s1
  have h1 : ClockKept w s s1 := .setPath _ _ _ _
  have follows : ClockKept w s1 (s1.failFollows a3 t) := by
    unfold State.failFollows
    exact .watchPaths _ _ _ (.setPath _ _ _ _)
  exact .ite (.ite (.refl _) (.setPath _ _ _ _)) (.ite (h1.trans follows) h1)

theorem ClockKept.pathBoundary : ClockKept w s s.pathBoundary := .foldl _ (fun _ _ => .pathTurn _ _ _) _

theorem ClockKept.degSecond (a3 : Bool) (t : TA) : ClockKept w s (s.degSecond a3 t) := by
  unfold State.degSecond
  exact .changePath _ _ _ _ _
theorem ClockKept.degSeconds : ClockKept w s s.degSeconds := .foldl _ (fun _ _ => .degSecond _ _ _) _

-- Performance monitoring

theorem ClockKept.pmSection (n : Nat) : ClockKept w s (s.pmSection n) := by
  unfold State.pmSection
  extract_lets base s1 s2
  have h1 : ClockKept w s s1 := .ite ((ClockKept.pmNeDef _ _).trans (.pmNeDef _ _)) (.refl _)
  have h2 : ClockKept w s1 s2 := .ite (.pmNeDef _ _) (.refl _)
  exact .ite ((h1.trans h2).trans (.ite (.pmFeDef _ _) (.refl _))) (.refl _)

theorem ClockKept.pmStanding (k : Nat) : ClockKept w s (s.pmStanding k) :=
  .ite (.pmPath _ _ _) (.ite (.ite (.pmNeDef _ _) (.refl _)) (.pmSection _ _))

theorem ClockKept.setTca (d : Nat) (l : List (Word × Word × Word)) : ClockKept w s (s.setTca d l) := (ClockKept.put _ _ _ _ rfl).since rfl rfl
theorem ClockKept.withTcaLost (l : List Nat) : ClockKept w s { s with tcaLost := l } := .of_same rfl rfl

theorem ClockKept.tcaWrite (k i : Nat) (bin : Int) (v : Nat) : ClockKept w s (s.tcaWrite k i bin v) := by
  unfold State.tcaWrite
  extract_lets d s1 w0 s2
  have h1 : ClockKept w s s1 := .addLoss _ _ _ rfl rfl
  have h2 : ClockKept w s s2 := .setTca _ _ _
  clear_value s1 s2
  exact .ite (.ite h1 ((h1.trans (.withTcaLost _ _)).trans (.ev _ _ _))) (h2.into rfl rfl)

theorem ClockKept.pmCommit (k sec : Nat) : ClockKept w s (s.pmCommit k sec) := by
  unfold State.pmCommit
  split
  · exact .refl s
  split
  · exact .refl s
  · exact ((ClockKept.pmUpd _ _ _).trans (.foldl _ (fun _ _ => .tcaWrite _ _ _ _ _) _)).trans (.foldl _ (fun _ _ => .tcaWrite _ _ _ _ _) _)

theorem ClockKept.tcaEvents : ClockKept w s s.tcaEvents := by
  unfold State.tcaEvents
  extract_lets s1
  have h : ClockKept w s s1 := .foldl _ (fun _ _ => .ev _ _ _) _
  clear_value s1
  exact h.into rfl rfl

theorem ClockKept.pmPut (k slot off : Nat) (l : List Word) : ClockKept w s (s.pmPut k slot off l) := .st _ _ _

theorem ClockKept.pmCloseEnt (k q : Nat) (day : Option Int) (short mid : Bool) (how : PmEnd) (cur next : Int) :
    ClockKept w s (s.pmCloseEnt k q day short mid how cur next) := by
  unfold State.pmCloseEnt
  split
  · exact .refl s
  extract_lets _ qBin _ dayBin follow s1
  have h1 : ClockKept w s s1 := (ClockKept.pmPut _ _ _ _ _).trans (.pmPut _ _ _ _ _)
  split
  · exact h1.trans (.pmUpd _ _ _)
  · exact ((h1.trans (.pmPut _ _ _ _ _)).trans (.pmPut _ _ _ _ _)).trans (.pmUpd _ _ _)

theorem ClockKept.pmCloseDie (d q q' : Nat) (how : PmEnd) : ClockKept w s (s.pmCloseDie d q q' how) := by
  unfold State.pmCloseDie
  split
  extract_lets cur ends closes next s1
  have h1 : ClockKept w s s1 := .foldl _ (fun _ _ => .pmCloseEnt _ _ _ _ _ _ _ _ _) _
  clear_value s1
  exact h1.into rfl rfl

theorem ClockKept.pmCloseAll (q' : Nat) (how : PmEnd) : ClockKept w s (s.pmCloseAll q' how) := by
  unfold State.pmCloseAll
  extract_lets s1
  have h1 : ClockKept w s s1 := .foldl _ (fun _ _ => .pmCloseDie _ _ _ _ _) _
  clear_value s1
  exact h1.into rfl rfl

theorem ClockKept.pmCloseDue : ClockKept w s s.pmCloseDue := by
  unfold State.pmCloseDue
  split
  · exact .pmCloseAll _ _ _
  · exact .refl s

theorem ClockKept.withPm (l : List (Nat × PmEnt)) : ClockKept w s { s with pm := l } := .of_same rfl rfl

theorem ClockKept.withPmOfs (l : List (Nat × Nat × Nat)) : ClockKept w s { s with pmOfs := l } := .of_same rfl rfl

theorem ClockKept.standing (l : List Nat) : ClockKept w s (l.foldl (fun t k => t.pmStanding k) s) := .foldl _ (fun _ _ => .pmStanding _ _) _

theorem ClockKept.pmSecond (cur : Nat) : ClockKept w s (s.pmSecond cur) := by
  unfold State.pmSecond
  extract_lets s0 s1 s2 s3 s4
  have h1 : ClockKept w s s1 := (ClockKept.pmCloseDue s).trans (.withPm _ _)
  have h2 : ClockKept w s1 s2 := .foldl _ (fun t k => by
    split
    · exact .ite (.pmCommit _ _ _) (.refl _)
    · exact .refl _) _
  have h3 : ClockKept w s2 s3 := (ClockKept.tcaEvents _).trans (.standing _ _)
  have h4 : ClockKept w s3 s4 := .ite (.withPmOfs _ _) (.refl _)
  have h5 : ClockKept w s s4 := (h1.trans h2).trans (h3.trans h4)
  clear_value s4
  exact h5.trans (.ite (.of_same rfl rfl) (.refl _))

theorem ClockKept.pmCommitQ (last : Nat) : ClockKept w s (s.pmCommitQ last) :=
  .foldl _ (fun t k => by
    split
    · exact .foldl _ (fun _ _ => .ite (.pmCommit _ _ _) (.refl _)) _
    · exact .refl _) _

theorem ClockKept.pmTimeStep (cur next : Nat) (part : Bool) : ClockKept w s (s.pmTimeStep cur next part) := by
  unfold State.pmTimeStep
  extract_lets s0 s1 last s2 s3
  have h0 : ClockKept w s s0 := .pmCloseDue _
  have h1 : ClockKept w s0 s1 := .ite ((ClockKept.withPm _ _).trans (.standing _ _)) (.refl _)
  have h2 : ClockKept w s1 s2 := .pmCommitQ _ _
  have h3 : ClockKept w s2 s3 := .ite ((ClockKept.pmCloseAll _ _ _).trans (.pmCommitQ _ _)) (.refl _)
  exact ((h0.trans h1).trans (h2.trans h3)).trans ((ClockKept.pmCloseAll _ _ _).trans (.tcaEvents _))

end

end Sys2Proof.Machine

/-!
The section layer, protection groups, selectors and transactions at a frame boundary leave the clocks, the epoch and the slab indices.
-/

namespace Sys2Proof.Machine

section
variable {w : Bool} (s : State)

-- The section layer

theorem ClockKept.setSec (n : Nat) (x : LuSec) : ClockKept w s (s.setSec n x) := .of_same rfl rfl
theorem ClockKept.updSec (n : Nat) (f : LuSec → LuSec) : ClockKept w s (s.updSec n f) := .setSec _ _ _

theorem ClockKept.secInd (n i : Nat) : ClockKept w s (s.secInd n i) := by
  have h : ClockKept w s (s.setBit (R.LU_SEC_STICKY n) i) := .setBit _ _ _ rfl
  exact .ite (h.trans (.ev _ _ _)) h

theorem ClockKept.secSet (n i : Nat) (v : Bool) : ClockKept false s (s.secSet n i v) := by
  unfold State.secSet
  extract_lets s1 s2
  have h1 : ClockKept false s s1 := .ite (.watchPaths _ _ _ (.putBit _ _ _ _ rfl)) (.putBit _ _ _ _ rfl)
  have h2 : ClockKept false s1 s2 := (ClockKept.secInd _ _ _).trans (.skDefect _ _ _ _)
  exact .ite (.refl _) ((h1.trans h2).trans ((ClockKept.pmSection _ _).trans (.luTouch _ _)))

theorem ClockKept.putPartner (n k side lu cap : Nat) (ser : Word) : ClockKept w s (s.putPartner n k side lu cap ser) := by
  unfold State.putPartner
  extract_lets loop rate r ch s1
  have h : ClockKept w s s1 := (ClockKept.wr _ _ _ rfl).trans (.wr _ _ _ rfl)
  exact .ite (h.trans (.put _ _ _ _ rfl)) h

theorem ClockKept.partner (n : Nat) : ClockKept w s (s.partner n) := by
  unfold State.partner
  exact .ite (.ite (.putPartner _ _ _ _ _ _ _) (.refl _)) (.putPartner _ _ _ _ _ _ _)

theorem ClockKept.showCands (n : Nat) : ClockKept w s (s.showCands n) := .put _ _ _ _ rfl

theorem ClockKept.setOof (n : Nat) : ClockKept false s (s.setOof n) := by
  unfold State.setOof
  extract_lets s1
  have h1 : ClockKept false s s1 := .ite (.refl _) (.startTimer _ _ _)
  exact (h1.trans (.stopTimer _ _)).trans (.secSet _ _ _ _)

theorem ClockKept.toSearch (n : Nat) : ClockKept false s (s.toSearch n) :=
  (((ClockKept.updSec _ _ _).trans (.showCands _ _)).trans (.setOof _ _)).trans (.partner _ _)

theorem ClockKept.txRateStep (n : Nat) : ClockKept false s (s.txRateStep n) := by
  unfold State.txRateStep
  extract_lets s0 s1
  have h0 : ClockKept false s s0 := .updSec _ _ _
  have h1 : ClockKept false s0 s1 := .updSec _ _ _
  exact .ite (.refl _) (.ite h0 ((h0.trans h1).trans (.ite (.toSearch _ _) (.refl _))))

theorem ClockKept.actsStep (n : Nat) : ClockKept w s (s.actsStep n) := .ite (.updSec _ _ _) (.ite (.updSec _ _ _) (.updSec _ _ _))

theorem ClockKept.secBoundary : ClockKept false s s.secBoundary :=
  .foldl _ (fun _ _ => ((ClockKept.txRateStep _ _).trans (.updSec _ _ _)).trans (.actsStep _ _)) _

-- Protection groups

/-- A register of protection group k of region g. -/
theorem clockReg_msp (w : Bool) (g k : Nat) {o : Nat} (h : 0x1000 ≤ o) : clockReg w ⟨.region, g, o + 0x40 * k, 0⟩ = false :=
  clockReg_region _ _ (by omega)

theorem ClockKept.setMspSt (g k : Nat) (m : MspSt) : ClockKept w s (s.setMspSt g k m) := .of_same rfl rfl

theorem ClockKept.putMsp (g k : Nat) (f : Fld) (v : Nat) : ClockKept w s (s.put (R.MSP_STATUS g k) f v) :=
  .put _ _ _ _ (clockReg_msp _ _ _ (by omega))

theorem ClockKept.mspField (g k : Nat) (f : Fld) (v : Nat) : ClockKept w s (s.mspField g k f v) :=
  .ite (.refl _) ((ClockKept.putMsp _ _ _ _ _).trans (.ev _ _ _))

theorem ClockKept.mspSelect (g k c : Nat) : ClockKept w s (s.mspSelect g k c) :=
  .ite (.refl _) ((ClockKept.mspField _ _ _ _ _).trans
    (.addCtr _ _ _ (clockReg_msp _ _ _ (by omega)) (clockReg_msp _ _ _ (by omega))))

theorem ClockKept.mspLeave (g k : Nat) : ClockKept w s (s.mspLeave g k) := by
  unfold State.mspLeave
  extract_lets m sel was
  exact .ite ((ClockKept.stopTimer _ _).trans (.setMspSt _ _ _ _))
    (.ite (.ite (.ite (.refl _) ((ClockKept.startTimer _ _ _).trans (.setMspSt _ _ _ _))) (.setMspSt _ _ _ _))
      (.ite (.setMspSt _ _ _ _) (.ite (.setMspSt _ _ _ _) (.refl _))))

theorem ClockKept.mspUnhold (g k : Nat) : ClockKept w s (s.mspUnhold g k) :=
  ((ClockKept.putMsp _ _ _ _ _).trans (.putMsp _ _ _ _ _)).trans (.stopTimer _ _)

theorem ClockKept.mspDrop (g k : Nat) (win : Nat × Nat) : ClockKept w s (s.mspDrop g k win) :=
  .ite ((ClockKept.mspUnhold _ _ _).trans (.putMsp _ _ _ _ _)) (.refl _)

theorem ClockKept.mspCommand (g k c cmd : Nat) : ClockKept w s (s.mspCommand g k c cmd) := by
  unfold State.mspCommand
  extract_lets t s1
  have ht : ClockKept w s t := .mspUnhold _ _ _
  have h1 : ClockKept w s s1 := ht.trans ((ClockKept.putMsp _ _ _ _ _).trans (.putMsp _ _ _ _ _))
  exact .ite (.ite ht (ht.trans (.clrBit _ _ _ (clockReg_msp _ _ _ (by omega))))) (.ite (.setBit _ _ _ (clockReg_msp _ _ _ (by omega)))
    (.ite (((h1.trans (.putMsp _ _ _ _ _)).trans (.startTimer _ _ _)).trans (.setMspSt _ _ _ _)) h1))

theorem ClockKept.fopWatch (g k i : Nat) (raw : Bool) : ClockKept w s (s.fopWatch g k i raw) :=
  .ite (.stopTimer _ _) (.ite (.refl _) (.startTimer _ _ _))

theorem ClockKept.mspFops (g k : Nat) : ClockKept w s (s.mspFops g k) :=
  (((ClockKept.fopWatch _ _ _ _ _).trans (.fopWatch _ _ _ _ _)).trans (.mspField _ _ _ _ _)).trans (.putMsp _ _ _ _ _)

theorem ClockKept.mspTimers (g k : Nat) : ClockKept w s (s.mspTimers g k) :=
  (ClockKept.put _ _ _ _ (clockReg_msp _ _ _ (by omega))).trans (.put _ _ _ _ (clockReg_msp _ _ _ (by omega)))

theorem ClockKept.mspStep (g k : Nat) : ClockKept w s (s.mspStep g k) := by
  unfold State.mspStep
  extract_lets s1 w0 s2 loc rem r
  split
  split
  extract_lets k2 s3 s4 exer m s5
  have h1 : ClockKept w s s1 := ((ClockKept.mspConds _ _ _).trans (.mspFops _ _ _)).trans (.mspLeave _ _ _)
  have h2 : ClockKept w s1 s2 := .mspDrop _ _ _ _
  have h3 : ClockKept w s2 s3 := .wr _ _ _ (clockReg_msp _ _ _ (by omega))
  have h4 : ClockKept w s3 s4 := .wr _ _ _ (clockReg_msp _ _ _ (by omega))
  have h5 : ClockKept w s4 s5 := .setMspSt _ _ _ _
  exact ((h1.trans h2).trans (h3.trans (h4.trans h5))).trans
    (((ClockKept.mspField _ _ _ _ _).trans (.mspSelect _ _ _ _)).trans (.mspTimers _ _ _))

theorem ClockKept.mspStepAll : ClockKept w s s.mspStepAll := .foldl _ (fun _ _ => .ite (.mspStep _ _ _) (.refl _)) _

-- Selectors

theorem ClockKept.setSnc (k : Nat) (x : SncSt) : ClockKept w s (s.setSnc k x) := .of_same rfl rfl

theorem ClockKept.sncCond (r : Rec) (i : Nat) (raw : Bool) : ClockKept w s (s.sncCond r i raw) :=
  .ite ((ClockKept.setSnc _ _ _).trans (.stopTimer _ _)) (.ite (.refl _) (.ite (.setSnc _ _ _) (.ite (.refl _) (.startTimer _ _ _))))

theorem ClockKept.sncConds (r : Rec) : ClockKept w s (s.sncConds r) :=
  (((ClockKept.sncCond _ _ _ _).trans (.sncCond _ _ _ _)).trans (.sncCond _ _ _ _)).trans (.sncCond _ _ _ _)

theorem ClockKept.sncEnd (k : Nat) : ClockKept w s (s.sncEnd k) :=
  ((ClockKept.setSnc _ _ _).trans (.foldl _ (fun _ _ => .stopTimer _ _) _)).trans (.stopTimer _ _)

-- Merges

theorem ClockKept.setFeed (d j : Nat) (f : Fld) (b : Bool) : ClockKept w s (s.setFeed d j f b) :=
  .ite (.refl _) ((ClockKept.put _ _ _ _ (clockReg_die _ _ (by omega))).trans (.ev _ _ _))

theorem ClockKept.mrgShow (n m : Nat) (on : Bool) : ClockKept w s (s.mrgShow n m on) := by
  have shows : ∀ (t : State) (f : Fld) (v : Nat), ClockKept w t (t.put (R.MRG_STATUS (luDie n) (n % 32)) f v) := fun t f v =>
    .put _ _ _ _ (clockReg_die _ _ (by omega))
  exact .ite ((shows _ _ _).trans (shows _ _ _)) ((((shows _ _ _).trans (shows _ _ _)).trans (.setFeed _ _ _ _ _)).trans (.setFeed _ _ _ _ _))

-- Transactions

theorem ClockKept.setEntry (k : Nat) (r : Option Rec) : ClockKept w s (s.setEntry k r) := .of_same rfl rfl
theorem ClockKept.withHitAis (l : List (Nat × Nat)) : ClockKept w s { s with hitAis := l } := .of_same rfl rfl
theorem ClockKept.withMerges (l : List (Nat × Nat)) : ClockKept w s { s with merges := l } := .of_same rfl rfl

theorem ClockKept.mapRec (r : Rec) : ClockKept w s (s.mapRec r) :=
  .ite ((ClockKept.foldl _ (fun _ _ => .setEntry _ _ _) _).trans (.setEntry _ _ _)) (.refl _)

theorem ClockKept.commitRec (r : Rec) : ClockKept w s (s.commitRec r) := by
  unfold State.commitRec
  extract_lets keep gone s1 s2
  have h1 : ClockKept w s s1 := (ClockKept.foldl _ (fun _ _ => .sncEnd _ _) _).trans (.mapRec _ _)
  have h2 : ClockKept w s1 s2 := .ite ((ClockKept.setSnc _ _ _).trans (.sncConds _ _)) (.refl _)
  refine .ite ((h1.trans h2).trans (.ite (.withHitAis _ _) (.withHitAis _ _))) (.ite ?_ (.ite ?_ ?_))
  · split
    · exact .mspCommand _ _ _ _ _
    · exact .setSnc _ _ _
  · exact (ClockKept.withMerges _ _).trans (.mrgShow _ _ _ _)
  · exact (ClockKept.withMerges _ _).trans (.mrgShow _ _ _ _)

theorem ClockKept.withSyncing (l : List (Nat × List Rec)) : ClockKept w s { s with syncing := l } := .of_same rfl rfl

theorem ClockKept.seal (k : Nat) : ClockKept w s (s.seal k) := by
  unfold State.seal
  extract_lets st t s1
  have h1 : ClockKept w s s1 := (ClockKept.setTxn s k txSEALED).into rfl rfl
  exact .ite (.refl _) (.ite (.refuseTxn _ _ _) (.ite (.ite (h1.trans (.toMate _ _)) h1)
    (.ite (.ite (.refuseTxn _ _ _) (.refuseTxn _ _ _)) (.refl _))))

theorem ClockKept.refuseByMate (k : Nat) (idx : Word) : ClockKept w s (s.refuseByMate k idx) :=
  .ite (.refl _) ((((ClockKept.wr _ _ _ rfl).trans (.put _ _ _ _ rfl)).trans (.setTxn _ _ _)).trans (.beginRestore _ _))

theorem ClockKept.mateSealDue (k : Nat) : ClockKept w s (s.mateSealDue k) := .ite (.refuseByMate _ _ _) (.refl _)
theorem ClockKept.mateAckDue (k : Nat) : ClockKept w s (s.mateAckDue k) :=
  .ite ((ClockKept.put _ _ _ _ rfl).trans (.ev _ _ _)) (.refl _)

theorem ClockKept.commitTxn (k : Nat) : ClockKept w s (s.commitTxn k) := by
  unfold State.commitTxn
  extract_lets rs s1
  have h1 : ClockKept w s s1 := (ClockKept.foldl _ (fun _ _ => .commitRec _ _) _).trans (.setTxn _ _ _)
  exact .ite (.refl _) ((h1.trans (.wr _ _ _ rfl)).trans (.withSyncing _ _))

theorem ClockKept.txnBoundary : ClockKept w s s.txnBoundary :=
  .foldl _ (fun _ _ => (((ClockKept.seal _ _).trans (.mateSealDue _ _)).trans (.mateAckDue _ _)).trans (.commitTxn _ _)) _

end

end Sys2Proof.Machine

/-!
Timing, Pour, PRBS analysers, groups, TG links and the transmit side at a frame boundary leave the clocks, the epoch and the slab indices.
-/

namespace Sys2Proof.Machine

section
variable {w : Bool} (s : State)

-- Timing

theorem ClockKept.withRefEff (l : List (Nat × Word × Word)) : ClockKept w s { s with refEff := l } := .of_same rfl rfl

theorem ClockKept.refApply (r : Nat) : ClockKept w s (s.refApply r) := by
  unfold State.refApply
  extract_lets c f anew s1
  have h1 : ClockKept w s s1 := .withRefEff _ _
  exact .ite (h1.trans (.gateBegin _ _)) h1

theorem ClockKept.disputeOf (s0 : State) (r : Nat) : ClockKept w s (s0.disputeOf s r).1 := by
  unfold State.disputeOf
  extract_lets ps
  split_ifs
  · exact .setDisputed _ _ _
  · exact (ClockKept.setDisputed _ _ _).trans (.stopTimer _ _)
  · exact .refl _
  · exact .setDisputed _ _ _
  · exact .stopTimer _ _
  · exact .refl _
  · exact .startTimerNs _ _ _

/-- A fold that carries a second value beside the state. -/
theorem ClockKept.foldlPair {α β : Type} {f : State × β → α → State × β} (l : List α) (h : ∀ x a, ClockKept w x.1 (f x a).1) :
    ∀ x, ClockKept w x.1 (l.foldl f x).1 := by
  induction l with
  | nil => exact fun x => .refl _
  | cons a l ih => exact fun x => (h x a).trans (ih _)

theorem ClockKept.disputes : ClockKept w s s.disputes := by
  unfold State.disputes
  have h : ∀ x : State × Bool, ClockKept w x.1 ((List.range 16).foldl (fun (x : State × Bool) r =>
      let (t, b) := s.disputeOf x.1 r; (t, x.2 || b)) x).1 := .foldlPair _ (fun x r => .disputeOf _ _ _)
  have := h (s, false)
  generalize (List.range 16).foldl (fun (x : State × Bool) r => let (t, b) := s.disputeOf x.1 r; (t, x.2 || b)) (s, false) = x at this
  exact .ite (this.trans (.ev _ _ _)) this

theorem ClockKept.setSwitching (b : Bool) : ClockKept false s (s.setSwitching b) := .put _ _ _ _ rfl

theorem ClockKept.withHist (l : List Int) (n : Nat) : ClockKept false s { s with hist := l, histRun := n } := .of_same rfl rfl

theorem ClockKept.histClear : ClockKept false s s.histClear :=
  ((ClockKept.put _ _ _ _ rfl).trans (.wr _ _ _ rfl)).trans (.withHist _ _ _)

theorem ClockKept.mainGo (q : Nat) (b : Bool) : ClockKept false s (s.mainGo q b) := by
  unfold State.mainGo
  extract_lets s1 s2
  have h1 : ClockKept false s s1 := .setSwitching _ _
  have h2 : ClockKept false s1 s2 := .ite (.histClear _) (.refl _)
  exact .ite h1 ((h1.trans h2).trans (((ClockKept.put _ _ _ _ rfl).trans (.ev _ _ _)).trans (.updHealth _)))

theorem ClockKept.leaveFollow : ClockKept false s s.leaveFollow := by
  unfold State.leaveFollow
  split <;> exact .mainGo _ _ _

theorem ClockKept.mainChoose (c : Option Nat) : ClockKept false s (s.mainChoose c) := by
  unfold State.mainChoose
  extract_lets changed s1 s2
  have h1 : ClockKept false s s1 := .ite (((ClockKept.put _ _ _ _ rfl).trans (.put _ _ _ _ rfl)).trans (.ev _ _ _)) (.refl _)
  have h2 : ClockKept false s1 s2 := .withMainHold _ _
  refine (h1.trans h2).trans (.ite (.mainGo _ _ _) (.ite (.ite (.refl _) (.leaveFollow _)) (.ite (.mainGo _ _ _) ?_)))
  split
  · exact .mainGo _ _ _
  · exact .mainGo _ _ _
  · exact .mainGo _ _ _
  · exact .ite (.setSwitching _ _) (.refl _)
  · exact .mainGo _ _ _
  · exact .refl _

theorem ClockKept.dpllGo (aux : Bool) (q : Nat) : ClockKept false s (s.dpllGo aux q) :=
  .ite (.refl _) ((ClockKept.put _ _ _ _ rfl).trans (.ev _ _ _))

theorem ClockKept.dplls : ClockKept false s s.dplls := (ClockKept.dpllGo _ _ _).trans (.dpllGo _ _ _)

theorem ClockKept.s1Step : ClockKept w s s.s1Step := .of_same rfl rfl

theorem ClockKept.foldlMem {α : Type} {f : State → α → State} (l : List α) (h : ∀ t, ∀ a ∈ l, ClockKept w t (f t a)) :
    ∀ s, ClockKept w s (l.foldl f s) := by
  induction l with
  | nil => exact fun s => .refl s
  | cons a l ih => exact fun s => (h s a (by simp)).trans (ih (fun t b hb => h t b (by simp [hb])) _)

theorem ClockKept.stationEval : ClockKept false s s.stationEval := by
  refine .foldlMem _ (fun t k hk => ?_) _
  have hr : clockReg false (R.TIME_STN_OUT k) = false := by
    fin_cases hk <;> rfl
  extract_lets v f
  exact .ite (.refl _) ((ClockKept.put _ _ _ _ hr).trans (.ev _ _ _))

theorem ClockKept.wtrShow : ClockKept w s s.wtrShow :=
  .foldl _ (fun _ _ => .ite (.put _ _ _ _ (clockReg_time _ (by omega))) (.refl _)) _

theorem ClockKept.withMainCmdIn (n : Nat) : ClockKept w s { s with mainCmdIn := n } := .of_same rfl rfl

theorem ClockKept.timingBoundary : ClockKept false s s.timingBoundary := by
  unfold State.timingBoundary
  extract_lets s1 t s2 s3 s4
  have h1 : ClockKept false s s1 := .foldl _ (fun _ _ => .refApply _ _) _
  have h2 : ClockKept false s1 s2 := (ClockKept.disputes _).trans (.withMainCmdIn _ _)
  have h3 : ClockKept false s2 s3 := ((ClockKept.mainChoose _ _).trans (.dplls _)).trans (.s1Step _)
  have h4 : ClockKept false s3 s4 := .foldl _ (fun _ _ => .ite (.refFail _ _) (.lineRefFollow _ _)) _
  exact ((h1.trans h2).trans (h3.trans h4)).trans (((ClockKept.refShowAll _).trans (.wtrShow _)).trans (.stationEval _))

theorem ClockKept.syncPulse : ClockKept w s s.syncPulse := by
  unfold State.syncPulse
  exact .withSyncOut _ _

-- Pour and PRBS analysers

theorem ClockKept.updPour (d j : Nat) (f : PourJob → PourJob) : ClockKept w s (s.updPour d j f) := .setPour _ _ _ _

theorem ClockKept.pourFrame : ClockKept w s s.pourFrame := by
  refine .foldl _ (fun t e => ?_) _
  extract_lets d j low turn mx move t1 t2
  have h1 : ClockKept w t t1 := .ite (.updPour _ _ _ _) (.refl _)
  have h2 : ClockKept w t1 t2 := .updPour _ _ _ _
  refine .ite (.refl _) ((h1.trans h2).trans ?_)
  split
  · exact .ite (.put _ _ _ _ rfl) (.refl _)
  · exact .refl _

theorem ClockKept.setPrbs (d i : Nat) (x : Prbs) : ClockKept w s (s.setPrbs d i x) := .of_same rfl rfl
theorem ClockKept.withPrbsDirty (l : List Nat) : ClockKept w s { s with prbsDirty := l } := .of_same rfl rfl

theorem ClockKept.prbsPut (d i : Nat) (x : Prbs) (err : Bool) : ClockKept w s (s.prbsPut d i x err) := by
  unfold State.prbsPut
  extract_lets old s1 t s2 lost hit
  have h1 : ClockKept w s s1 := .setPrbs _ _ _ _
  have h2 : ClockKept w s1 s2 := .ite (.refl _) ((ClockKept.setBit _ _ _ rfl).trans (.withPrbsDirty _ _))
  exact (h1.trans h2).trans (.foldl _ (fun t _ => (ClockKept.drawn t).trans (.skTrig _ _ _ _ _)) _)

theorem ClockKept.prbsSettle : ClockKept w s s.prbsSettle := .foldl _ (fun _ _ => .ite (.prbsPut _ _ _ _ _) (.refl _)) _

-- Members of groups

theorem ClockKept.holdStep (x i : Nat) (f : Bool) : ClockKept w s (s.holdStep x i f) :=
  .ite (.stopTimer _ _) (.ite (.refl _) (.startTimer _ _ _))

theorem ClockKept.sinkStep (x i : Nat) : ClockKept w s (s.sinkStep x i) := by
  unfold State.sinkStep
  extract_lets g m f wtr set s1 lasting
  have hset : ∀ t v, ClockKept w t (set t v) := fun t v => .setRun _ _ _
  have h1 : ClockKept w s s1 := .holdStep _ _ _ _
  have ends : ClockKept w s (s1.stopTimer (wtrKey x i)) := h1.trans (.stopTimer _ _)
  exact .ite (hset _ _) (.ite (ends.trans (hset _ _)) (.ite (h1.trans (hset _ _)) (.ite (ends.trans (hset _ _))
    (.ite (h1.trans (hset _ _)) (.ite (h1.trans (hset _ _)) ((h1.trans (.startTimer _ _ _)).trans (hset _ _)))))))

theorem ClockKept.grpEval (x : Nat) : ClockKept w s (s.grpEval x) := by
  unfold State.grpEval
  extract_lets s1 g c failed al
  have h1 : ClockKept w s s1 := .foldl _ (fun _ _ => .sinkStep _ _ _) _
  exact .ite (.refl _) (h1.trans (.setRun _ _ _))

theorem ClockKept.grpFrame : ClockKept w s s.grpFrame := .foldl _ (fun _ _ => .grpEval _ _) _

-- The end of the frame

theorem ClockKept.mergeFrame (m : Nat × Nat) : ClockKept w s (s.mergeFrame m) := by
  unfold State.mergeFrame
  extract_lets d j s1
  have h1 : ClockKept w s s1 := (ClockKept.setFeed _ _ _ _ _).trans (.setFeed _ _ _ _ _)
  exact .ite (h1.trans (.put _ _ _ _ (clockReg_die _ _ (by omega)))) h1

theorem ClockKept.withTg (l : List (Nat × TgRx)) : ClockKept w s { s with tg := l } := .of_same rfl rfl

theorem ClockKept.tgBoundary : ClockKept w s s.tgBoundary := by
  unfold State.tgBoundary
  extract_lets s1
  have h1 : ClockKept w s s1 := .foldl _ (fun _ _ => .mergeFrame _ _) _
  exact h1.trans (.withTg _ _)

theorem ClockKept.frameNotify : ClockKept w s s.frameNotify := by
  unfold State.frameNotify
  extract_lets s1 s2 s3 s4
  have count : ∀ (t : State) (l : List Nat) (b : Nat → Nat) (src : Nat), ClockKept w t (l.foldl (fun u n => u.ev (b n) src) t) :=
    fun t l b src => .foldl _ (fun _ _ => .ev _ _ _) _
  have h : ClockKept w s s4 := ((count s _ _ _).trans (count s1 _ _ _)).trans ((count s2 _ _ _).trans (count s3 _ _ _))
  clear_value s4
  exact h.into rfl rfl

theorem ClockKept.hitStep : ClockKept w s s.hitStep := .withHitAis _ _
theorem ClockKept.trimGens : ClockKept w s s.trimGens := .of_same rfl rfl

-- The transmit side

theorem ClockKept.keepB3 (n : Nat) (l : List (Nat × Nat)) : ClockKept w s (s.keepB3 n l) := .of_same rfl rfl

theorem ClockKept.addShadow (n : Nat) (crc : Word) : ClockKept w s (s.addShadow n crc) := by
  unfold State.addShadow
  split
  · exact .ite (.of_same rfl rfl) (.of_same rfl rfl)
  · exact .of_same rfl rfl

theorem ClockKept.withLineOut (l : List (Nat × List Byte)) (n : Nat) : ClockKept w s { s with lineOut := l, draw := n } := .of_same rfl rfl

theorem ClockKept.sendLine (n : Nat) : ClockKept w s (s.sendLine n) := by
  unfold State.sendLine
  extract_lets x
  split
  · exact .refl s
  extract_lets f line s1 s2 s3
  have h1 : ClockKept w s s1 := .setSec _ _ _
  have h2 : ClockKept w s1 s2 := .keepB3 _ _ _
  have h3 : ClockKept w s2 s3 := .ite (.addShadow _ _ _) (.refl _)
  exact ((h1.trans h2).trans h3).trans (.withLineOut _ _ _)

theorem ClockKept.sendTg (n : Nat) : ClockKept w s (s.sendTg n) := by
  unfold State.sendTg
  extract_lets blocks f g s1 s2
  have h1 : ClockKept w s s1 := (ClockKept.updSec _ _ _).trans (.keepB3 _ _ _)
  have h2 : ClockKept w s1 s2 := .ite (.addShadow _ _ _) (.refl _)
  exact (h1.trans h2).trans (.withLineOut _ _ _)

theorem ClockKept.shadowJudge (own crcs : List (Nat × Word)) : ClockKept w s (s.shadowJudge own crcs) := by
  unfold State.shadowJudge
  split
  · exact .refl s
  · exact ((ClockKept.addCtr _ _ _ rfl rfl).trans (.put _ _ _ _ rfl)).trans (.ev _ _ _)

theorem ClockKept.withShadowRx (l : List (Nat × List (Nat × Word))) : ClockKept w s { s with shadowRx := l } := .of_same rfl rfl

theorem ClockKept.shadowSent : ClockKept w s s.shadowSent := by
  unfold State.shadowSent
  split
  · extract_lets s1
    have h1 : ClockKept w s s1 := .withShadowRx _ _
    exact .ite (h1.trans (.shadowJudge _ _ _)) h1
  · exact .refl s

theorem ClockKept.sendMate : ClockKept w s s.sendMate := .of_same rfl rfl

theorem ClockKept.sendAll : ClockKept w s s.sendAll := by
  have sent : ClockKept w s (s.pers.foldl (fun (t : State) e => if t.isTG e.1 then t.sendTg e.1 else if t.isLine e.1 then t.sendLine e.1 else t)
      { s with lineOut := s.lineOut.filter (fun e => s.persOf e.1 != 0) }) :=
    (ClockKept.withLineOut s _ _).trans (.foldl _ (fun _ _ => .ite (.sendTg _ _) (.ite (.sendLine _ _) (.refl _))) _)
  exact (sent.trans (.shadowSent _)).trans (.sendMate _)

/-- What is decided for the frame that begins. -/
theorem ClockKept.frameBegin : ClockKept false s s.frameBegin :=
  (((((((((ClockKept.pathBoundary _).trans (.txnBoundary _)).trans (.mspStepAll _)).trans (.timingBoundary _)).trans (.syncPulse _)).trans
    (.pourFrame _)).trans (.prbsSettle _)).trans (.grpFrame _)).trans (.trimGens _))

/-- What is concluded of the frame that ends. -/
theorem ClockKept.frameEnd : ClockKept false s s.tgBoundary.secBoundary.jrnFlush.frameNotify :=
  (((ClockKept.tgBoundary _).trans (.secBoundary _)).trans (.jrnFlush _)).trans (.frameNotify _)

end

end Sys2Proof.Machine

/-!
The turn of a frame (R65, R254): clocks, epoch and slab indices at a frame boundary.
-/

namespace Sys2Proof.Machine

-- Components of the view

theorem tbSet_congr {w : Bool} {s t : State} (h : ∀ r, epochReg w r = true → t.rd r = s.rd r) : t.tbSet = s.tbSet := by
  unfold State.tbSet State.get
  rw [h _ rfl, h _ rfl]

section
variable {w : Bool} {s t : State} (h : ClockKept w s t)
include h

theorem ClockKept.clocks_eq : t.clocks = s.clocks := congrArg Prod.fst h.view
theorem ClockKept.up_eq : t.up = s.up := congrArg (·.1) h.clocks_eq
theorem ClockKept.clk_eq : t.clk = s.clk := congrArg (·.2.1) h.clocks_eq
theorem ClockKept.frames_eq : t.frames = s.frames := congrArg (·.2.2.1) h.clocks_eq
theorem ClockKept.ns_eq : t.ns = s.ns := congrArg (·.2.2.2.1) h.clocks_eq
theorem ClockKept.secUp_eq : t.secUp = s.secUp := congrArg (·.2.2.2.2.1) h.clocks_eq
theorem ClockKept.syncLast_eq : t.syncLast = s.syncLast := congrArg (·.2.2.2.2.2.1) h.clocks_eq
theorem ClockKept.pending_eq : t.pending = s.pending := congrArg (·.2.2.2.2.2.2.1) h.clocks_eq
theorem ClockKept.depth_eq : t.depth = s.depth := congrArg (·.2.2.2.2.2.2.2.2) h.clocks_eq

theorem ClockKept.syncFlag_eq (f : Fld) : t.flag R.TIME_SYNC_STATUS f = s.flag R.TIME_SYNC_STATUS f := by
  unfold State.flag State.get
  rw [h.regs _ rfl]

theorem ClockKept.tbSet_eq : t.tbSet = s.tbSet := tbSet_congr h.regs
end

/-- The depth of a region rests on the power of the region and the depth of its die. -/
theorem slabDepth_congr {s t : State} (hd : t.depth = s.depth)
    (hp : ∀ d i, 22 ≤ i → t.bit (R.DIE_UNIT_STATE d) i = s.bit (R.DIE_UNIT_STATE d) i) (g : Nat) : t.slabDepth g = s.slabDepth g := by
  have powered : t.regionPowered g = s.regionPowered g := by
    have := hp (g / 2) (22 + g % 2) (by omega)
    rw [bit_eq, bit_eq] at this
    unfold State.regionPowered State.get
    rw [testBit_fget, testBit_fget, BitVec.testBit_toNat, BitVec.testBit_toNat, this]
  unfold State.slabDepth State.depthOf
  rw [powered, hd]

theorem ClockKept.slabDepth_eq {w : Bool} {s t : State} (h : ClockKept w s t) (g : Nat) : t.slabDepth g = s.slabDepth g :=
  slabDepth_congr h.depth_eq h.power g

-- The slab indices (R65)

/-- The slab index of region g advances, if it has slabs. -/
def State.turnSlab (s : State) (g : Nat) : State :=
  if s.slabDepth g = 0 then s
  else s.put (R.RG_SLAB_STATUS g) F.RG_SLAB_STATUS_SLAB_READ ((s.slabRead g + 1) % s.slabDepth g)

theorem slabRotate_eq (s : State) : s.slabRotate = (List.range 8).foldl State.turnSlab s := rfl

/-- The slab index that the next frame reads. -/
def State.nextSlab (s : State) (g : Nat) : Nat :=
  if s.slabDepth g = 0 then s.slabRead g else (s.slabRead g + 1) % s.slabDepth g % 4

/-- The slab indices of the regions of l have advanced, and nothing else of what `ClockKept` names has changed. -/
structure SlabsTurned (l : List Nat) (s t : State) : Prop where
  clocks : t.clocks = s.clocks
  regs : ∀ r, epochReg false r = true → t.rd r = s.rd r
  power : ∀ d i, 22 ≤ i → t.bit (R.DIE_UNIT_STATE d) i = s.bit (R.DIE_UNIT_STATE d) i
  turned : ∀ g ∈ l, t.slabRead g = s.nextSlab g
  others : ∀ g, g ∉ l → t.slabRead g = s.slabRead g

theorem SlabsTurned.turnSlab (s : State) (g : Nat) : SlabsTurned [g] s (s.turnSlab g) := by
  unfold State.turnSlab
  by_cases hd : s.slabDepth g = 0
  · rw [if_pos hd]
    exact ⟨rfl, fun _ _ => rfl, fun _ _ _ => rfl, by simp [State.nextSlab, hd], fun _ _ => rfl⟩
  · rw [if_neg hd]
    refine ⟨rfl, fun r hr => rd_put_ne _ _ _ (by rintro rfl; cases hr), fun d i _ => ?_, fun g' hg => ?_, fun g' hg => ?_⟩
    · unfold State.bit
      rw [rd_put_ne _ _ _ (by simp)]
    · rw [List.mem_singleton.1 hg]
      exact (get_put_same s _ (by decide)).trans (by simp [State.nextSlab, hd])
    · exact get_put_reg _ _ _ _ (by simpa using hg)

/-- Regions turn one after another. -/
theorem SlabsTurned.cons {g : Nat} {l : List Nat} {s t u : State} (hg : g ∉ l) (h : SlabsTurned [g] s t) (k : SlabsTurned l t u) :
    SlabsTurned (g :: l) s u := by
  have kept : ∀ g', g' ≠ g → t.slabRead g' = s.slabRead g' := fun g' hne => h.others g' (by simpa using hne)
  refine ⟨k.clocks.trans h.clocks, fun r hr => (k.regs r hr).trans (h.regs r hr), fun d i hi => (k.power d i hi).trans (h.power d i hi),
    fun g' hg' => ?_, fun g' hg' => ?_⟩
  · rcases List.mem_cons.1 hg' with rfl | hl
    · exact (k.others g' hg).trans (h.turned g' (by simp))
    · have hne : g' ≠ g := fun he => hg (he ▸ hl)
      rw [k.turned g' hl, State.nextSlab, State.nextSlab, kept g' hne,
        slabDepth_congr (congrArg (·.2.2.2.2.2.2.2.2) h.clocks) h.power]
  · obtain ⟨hne, hl⟩ : g' ≠ g ∧ g' ∉ l := by simpa using hg'
    exact (k.others g' hl).trans (kept g' hne)

theorem SlabsTurned.foldl : ∀ (l : List Nat) (s : State), l.Nodup → SlabsTurned l s (l.foldl State.turnSlab s)
  | [], _, _ => ⟨rfl, fun _ _ => rfl, fun _ _ _ => rfl, by simp, fun _ _ => rfl⟩
  | g :: l, s, hl => (SlabsTurned.turnSlab s g).cons (List.nodup_cons.1 hl).1 (SlabsTurned.foldl l _ (List.nodup_cons.1 hl).2)

-- The boundary

/-- A frame boundary has passed, dt ns on, and frame f of the epoch begins. -/
structure FrameTurned (f dt : Nat) (s t : State) : Prop where
  clocks : t.clocks = (s.up + 1, s.clk + dt, f, 0, s.secUp, s.syncLast, s.pending, [], s.depth)
  regs : ∀ r, epochReg false r = true → t.rd r = s.rd r
  slab : ∀ g < 8, t.slabRead g = s.nextSlab g

theorem FrameTurned.frameTurn (s : State) (f dt : Nat) : FrameTurned f dt s (s.frameTurn f dt).slabRotate := by
  have turned := SlabsTurned.foldl (List.range 8) (s.frameTurn f dt) List.nodup_range
  rw [← slabRotate_eq] at turned
  exact ⟨turned.clocks, turned.regs, fun g hg => turned.turned g (List.mem_range.2 hg)⟩

section
variable {f dt : Nat} {s t u : State}

theorem FrameTurned.after (h : ClockKept false s t) (k : FrameTurned f dt t u) : FrameTurned f dt s u := by
  refine ⟨?_, fun r hr => (k.regs r hr).trans (h.regs r hr), fun g hg => ?_⟩
  · rw [k.clocks, h.up_eq, h.clk_eq, h.secUp_eq, h.syncLast_eq, h.pending_eq, h.depth_eq]
  · rw [k.slab g hg, State.nextSlab, State.nextSlab, h.slab, h.slabDepth_eq]

theorem FrameTurned.before (k : FrameTurned f dt s t) (h : ClockKept false t u) : FrameTurned f dt s u :=
  ⟨h.clocks_eq.trans k.clocks, fun r hr => (h.regs r hr).trans (k.regs r hr), fun g hg => (h.slab g).trans (k.slab g hg)⟩

end

section
variable {f dt : Nat} {s t : State} (h : FrameTurned f dt s t)
include h

theorem FrameTurned.up_eq : t.up = s.up + 1 := congrArg (·.1) h.clocks
theorem FrameTurned.clk_eq : t.clk = s.clk + dt := congrArg (·.2.1) h.clocks
theorem FrameTurned.frames_eq : t.frames = f := congrArg (·.2.2.1) h.clocks
theorem FrameTurned.ns_eq : t.ns = 0 := congrArg (·.2.2.2.1) h.clocks
theorem FrameTurned.syncLast_eq : t.syncLast = s.syncLast := congrArg (·.2.2.2.2.2.1) h.clocks
theorem FrameTurned.pending_eq : t.pending = s.pending := congrArg (·.2.2.2.2.2.2.1) h.clocks
theorem FrameTurned.txGrains_eq : t.txGrains = [] := congrArg (·.2.2.2.2.2.2.2.1) h.clocks
theorem FrameTurned.tbSet_eq : t.tbSet = s.tbSet := tbSet_congr h.regs
theorem FrameTurned.syncFlag_eq (g : Fld) : t.flag R.TIME_SYNC_STATUS g = s.flag R.TIME_SYNC_STATUS g := by
  unfold State.flag State.get
  rw [h.regs _ rfl]
end

theorem FrameTurned.boundary (s : State) (f dt : Nat) : FrameTurned f dt s (s.boundary f dt) :=
  ((FrameTurned.frameTurn _ f dt).after (.frameEnd s)).before ((ClockKept.hitStep _).trans (.frameBegin _))

/-- The next slab of a region whose depth SLAB_READ can hold. -/
theorem nextSlab_of_depth {s : State} {g : Nat} (h0 : 0 < s.slabDepth g) (h3 : s.slabDepth g ≤ 3) :
    s.nextSlab g = (s.slabRead g + 1) % s.slabDepth g := by
  have : (s.slabRead g + 1) % s.slabDepth g < s.slabDepth g := Nat.mod_lt _ h0
  rw [State.nextSlab, if_neg (by omega), Nat.mod_eq_of_lt (by omega)]

/-- The end of a frame, as the command carries it out. -/
theorem execFrameBoundary_turns (xchk : Bool) {s : State} (hs : s.services = true) :
    ∃ t, exec (.frameBoundary xchk) s = .next t ∧ FrameTurned (s.frames + 1) (125000 - s.ns) s t := by
  obtain ⟨t, ht, -, -, kept⟩ := done_clock ((s.sendAll.boundary (s.frames + 1) (125000 - s.ns)).evIf xchk evPkg srcXCHK)
  have runs : exec (.frameBoundary xchk) s = .next t := (if_pos hs).trans ht
  exact ⟨t, runs, ((FrameTurned.boundary s.sendAll _ _).after (.sendAll s)).before ((ClockKept.evIf _ _ _ _).trans kept)⟩

theorem frameBoundary_turns (xchk : Bool) (s : State) (hs : s.services = true) :
    ∃ t, exec (.frameBoundary xchk) s = .next t ∧ t.up = s.up + 1 ∧ t.frames = s.frames + 1 ∧ t.ns = 0 ∧ t.clk = s.clk + (125000 - s.ns) ∧
      t.pending = s.pending ∧ t.txGrains = [] ∧
      (∀ g : Fin 8, 0 < s.slabDepth g → s.slabDepth g ≤ 3 → t.slabRead g = (s.slabRead g + 1) % s.slabDepth g) ∧
      (∀ g : Fin 8, s.slabDepth g = 0 → t.slabRead g = s.slabRead g) := by
  obtain ⟨t, ht, turned⟩ := execFrameBoundary_turns xchk hs
  refine ⟨t, ht, turned.up_eq, turned.frames_eq, turned.ns_eq, turned.clk_eq, turned.pending_eq, turned.txGrains_eq,
    fun g h0 h3 => ?_, fun g h0 => ?_⟩
  · rw [turned.slab g g.isLt, nextSlab_of_depth h0 h3]
  · rw [turned.slab g g.isLt, State.nextSlab, if_pos h0]

end Sys2Proof.Machine

/-!
The second and the epoch (R248, R258, R259, R264).
-/

namespace Sys2Proof.Machine

-- The second

section
variable {s t : State} (h : ClockKept true s t)
include h

theorem ClockKept.hist_eq : t.hist = s.hist := congrArg (·.2.1) h.view
theorem ClockKept.histRun_eq : t.histRun = s.histRun := congrArg (·.2.2) h.view
theorem ClockKept.timeStatus_eq (f : Fld) : t.get R.TIME_STATUS f = s.get R.TIME_STATUS f := by
  unfold State.get
  rw [h.regs _ rfl]
end

/-- The sample of a second while the Main DPLL is LOCKED or in FOLLOW. -/
theorem histSample_records {s : State} (f : Int) (hm : s.mainState = 2 ∨ s.mainState = 4)
    (hs : s.flag R.TIME_STATUS F.TIME_STATUS_SWITCHING = false) :
    (s.histSample f).hist = (f :: s.hist).take 3615 ∧ (s.histSample f).histRun = s.histRun + 1 := by
  unfold State.histSample
  rw [if_pos ⟨hm, hs⟩]
  extract_lets win guard s1 s2
  have h2 : s2.hist = (f :: s.hist).take 3615 ∧ s2.histRun = s.histRun + 1 := by
    unfold s2
    split <;> exact ⟨rfl, rfl⟩
  clear_value s2
  split <;> exact h2

/-- In any other state of the Main DPLL the run of samples ends. -/
theorem histSample_rests {s : State} (f : Int) (h2 : s.mainState ≠ 2) (h4 : s.mainState ≠ 4) : s.histSample f = { s with histRun := 0 } := by
  unfold State.histSample
  rw [if_neg]
  simp [h2, h4]

theorem histSample_clocks (s : State) (f : Int) : (s.histSample f).clocks = s.clocks := by
  unfold State.histSample
  split
  · extract_lets win guard s1 s2
    have h2 : s2.clocks = s.clocks := by
      unfold s2
      split <;> rfl
    clear_value s2
    split <;> exact h2
  · rfl

theorem ReactOnly.clocks_eq {s t : State} (h : ReactOnly s t) : t.clocks = s.clocks := by rw [h.rest]; rfl
theorem ReactOnly.mainHist_eq {s t : State} (h : ReactOnly s t) : t.mainHist = s.mainHist := by rw [h.rest]; rfl

/-- What the second's readings leave by the end of the command. -/
theorem timeSecond_shows (s : State) (f ph : Int) {t : State} (h : ReactOnly (s.timeSecond f ph) t) :
    t.rd R.TIME_MAIN_FREQ = wordOfInt f ∧ t.rd R.TIME_MAIN_PHASE = wordOfInt ph ∧ t.clocks = s.clocks ∧
      t.hist = (s.histSample f).hist ∧ t.histRun = (s.histSample f).histRun := by
  have stands : (s.timeSecond f ph).clocks = (s.histSample f).clocks ∧ (s.timeSecond f ph).mainHist = (s.histSample f).mainHist := by
    unfold State.timeSecond
    generalize s.histSample f = u
    exact ⟨rfl, rfl⟩
  have hist := h.mainHist_eq.trans stands.2
  refine ⟨?_, ?_, h.clocks_eq.trans (stands.1.trans (histSample_clocks s f)), congrArg Prod.fst hist, congrArg Prod.snd hist⟩
  · rw [h.regs _ rfl]
    exact (rd_wr_ne _ _ (by simp)).trans (rd_wr_same _ _ _)
  · rw [h.regs _ rfl]
    exact rd_wr_same _ _ _

theorem secondBoundary_reads (f ph : Int) (s : State) (hon : s.onSecond = true) (hne : s.secUp ≠ s.up) :
    ∃ t, exec (.secondBoundary f ph) s = .next t ∧ t.secUp = s.up ∧ t.rd R.TIME_MAIN_FREQ = wordOfInt f ∧
      t.rd R.TIME_MAIN_PHASE = wordOfInt ph ∧ t.frames = s.frames ∧
      (s.mainState = 2 → s.flag R.TIME_STATUS F.TIME_STATUS_SWITCHING = false →
        t.hist = (f :: s.hist).take 3615 ∧ t.histRun = s.histRun + 1) ∧
      (s.mainState ≠ 2 → s.mainState ≠ 4 → t.hist = s.hist ∧ t.histRun = 0) := by
  have kept : ClockKept true { s with secUp := s.up } ({ s with secUp := s.up }.degSeconds.pmSecond s.tbSec) :=
    (ClockKept.degSeconds _).trans (.pmSecond _ _)
  obtain ⟨t, ht, react, -⟩ := done_tally (({ s with secUp := s.up }.degSeconds.pmSecond s.tbSec).timeSecond f ph)
  have runs : exec (.secondBoundary f ph) s = .next t := (if_pos (by simp [hon, hne])).trans ht
  generalize { s with secUp := s.up }.degSeconds.pmSecond s.tbSec = u at kept react
  have main : u.mainState = s.mainState := kept.timeStatus_eq _
  have switching : u.flag R.TIME_STATUS F.TIME_STATUS_SWITCHING = s.flag R.TIME_STATUS F.TIME_STATUS_SWITCHING :=
    congrArg (· == 1) (kept.timeStatus_eq _)
  have samples : u.hist = s.hist ∧ u.histRun = s.histRun := ⟨kept.hist_eq, kept.histRun_eq⟩
  obtain ⟨freq, phase, clocks, hist, run⟩ := timeSecond_shows u f ph react
  refine ⟨t, runs, ?_, freq, phase, ?_, fun hm hs => ?_, fun h2 h4 => ?_⟩
  · exact (congrArg (·.2.2.2.2.1) clocks).trans kept.secUp_eq
  · exact (congrArg (·.2.2.1) clocks).trans kept.frames_eq
  · obtain ⟨hh, hr⟩ := histSample_records (s := u) f (.inl (main.trans hm)) (switching.trans hs)
    rw [hist, run, hh, hr, samples.1, samples.2]
    exact ⟨rfl, rfl⟩
  · rw [hist, run, histSample_rests f (by rwa [main]) (by rwa [main])]
    exact ⟨samples.1, rfl⟩

theorem secondBoundary_rests (f ph : Int) (s : State) (h : s.onSecond = false ∨ s.secUp = s.up) :
    exec (.secondBoundary f ph) s = .next s :=
  if_neg (by rcases h with h | h <;> simp [h])

-- SET_SEC (R259)

theorem tbSet_putSync (s : State) (f : Fld) (v : Nat) : (s.put R.TIME_SYNC_STATUS f v).tbSet = s.tbSet := by
  unfold State.tbSet
  rw [rd_put_ne _ _ _ (by simp), get_put_reg _ _ _ _ (by simp)]

/-- The epoch begins anew from TB_SET, and an event tells. -/
theorem setEpoch_shows {s t : State} (h : ClockKept false s t) :
    let u := t.setEpoch.ev evTime srcTB
    u.frames = 8000 * s.tbSet ∧ u.ns = 0 ∧ u.up = s.up ∧ u.secUp = s.up ∧ u.syncLast = s.syncLast ∧
      (∀ f, u.flag R.TIME_SYNC_STATUS f = s.flag R.TIME_SYNC_STATUS f) ∧ u.bit (R.EVT_STICKY evTime) srcTB = true := by
  intro u
  have after : ClockKept false t.setEpoch u := .ev _ _ _
  refine ⟨?_, after.ns_eq, after.up_eq.trans h.up_eq, after.secUp_eq.trans h.up_eq, after.syncLast_eq.trans h.syncLast_eq,
    fun f => (after.syncFlag_eq f).trans (h.syncFlag_eq f), ev_sticky _ (by decide)⟩
  rw [after.frames_eq, ← h.tbSet_eq]
  rfl

theorem setSecApply_sets (s : State) (hon : s.onSecond = true) (hu : s.secUp = s.up)
    (hp : s.flag R.TIME_SYNC_STATUS F.TIME_SYNC_STATUS_SET_PEND = true) (hl : s.anyLive = false) :
    ∃ t, exec .setSecApply s = .next t ∧ t.frames = 8000 * s.tbSet ∧ t.ns = 0 ∧ t.secUp = s.up ∧
      t.flag R.TIME_SYNC_STATUS F.TIME_SYNC_STATUS_SET_PEND = false ∧ t.bit (R.EVT_STICKY evTime) srcTB = true := by
  have step : ClockKept false (s.put R.TIME_SYNC_STATUS F.TIME_SYNC_STATUS_SET_PEND 0)
      ((s.put R.TIME_SYNC_STATUS F.TIME_SYNC_STATUS_SET_PEND 0).pmTimeStep s.tbSec s.tbSet false) := .pmTimeStep _ _ _ _
  obtain ⟨frames, ns, -, secUp, -, status, sticky⟩ := setEpoch_shows step
  obtain ⟨t, ht, -, tally, kept⟩ := done_clock
    (((s.put R.TIME_SYNC_STATUS F.TIME_SYNC_STATUS_SET_PEND 0).pmTimeStep s.tbSec s.tbSet false).setEpoch.ev evTime srcTB)
  have ok : s.setSecOK = true := by unfold State.setSecOK; simp [hl]
  have runs : exec .setSecApply s = .next t := by
    refine (if_pos (by simp [hon, hu, hp])).trans ?_
    rw [if_pos ok]
    exact ht
  refine ⟨t, runs, ?_, kept.ns_eq.trans ns, kept.secUp_eq.trans secUp, ?_, tally.sticky _ _ sticky⟩
  · rw [kept.frames_eq, frames, tbSet_putSync]
  · rw [kept.syncFlag_eq, status]
    exact flag_put_same _ _ _ (by decide)

theorem setSecApply_refuses (s : State) (hon : s.onSecond = true) (hu : s.secUp = s.up)
    (hp : s.flag R.TIME_SYNC_STATUS F.TIME_SYNC_STATUS_SET_PEND = true) (hl : s.anyLive = true) :
    ∃ t, exec .setSecApply s = .next t ∧ t.frames = s.frames ∧ t.ns = s.ns ∧ t.mem = s.mem ∧
      t.flag R.TIME_SYNC_STATUS F.TIME_SYNC_STATUS_SET_PEND = false ∧ t.flag R.TIME_SYNC_STATUS F.TIME_SYNC_STATUS_REJ = true ∧
      t.bit (R.EVT_STICKY evTime) srcSYNC_IN = true := by
  obtain ⟨t, ht, react, tally, kept⟩ := done_clock (s.epochRefuse F.TIME_SYNC_STATUS_SET_PEND)
  have ok : s.setSecOK = false := by unfold State.setSecOK; simp [hl]
  have runs : exec .setSecApply s = .next t := by
    refine (if_pos (by simp [hon, hu, hp])).trans ?_
    rw [if_neg (by simp [ok])]
    exact ht
  have event := ev_only ((s.put R.TIME_SYNC_STATUS F.TIME_SYNC_STATUS_REJ 1).put R.TIME_SYNC_STATUS F.TIME_SYNC_STATUS_SET_PEND 0)
    evTime srcSYNC_IN
  have status : ∀ f, t.flag R.TIME_SYNC_STATUS f = ((s.put R.TIME_SYNC_STATUS F.TIME_SYNC_STATUS_REJ 1).put R.TIME_SYNC_STATUS
      F.TIME_SYNC_STATUS_SET_PEND 0).flag R.TIME_SYNC_STATUS f := fun f => by
    rw [kept.syncFlag_eq]
    exact congrArg (· == 1) (event.get_eq (by rfl) f)
  refine ⟨t, runs, kept.frames_eq.trans event.frames_eq, kept.ns_eq.trans event.ns_eq, ?_, ?_, ?_, tally.sticky _ _ (ev_sticky _ (by decide))⟩
  · have : t.mem = (s.epochRefuse F.TIME_SYNC_STATUS_SET_PEND).mem := by rw [react.rest]
    exact this.trans event.mem_eq
  · rw [status]
    exact flag_put_same _ _ _ (by decide)
  · rw [status, flag_put_field _ _ _ (by decide)]
    exact flag_put_same _ _ _ (by decide)

end Sys2Proof.Machine

/-!
An edge at SYNC_IN and an ALIGN (R258).
-/

namespace Sys2Proof.Machine

-- What an edge changes

/-- Nothing differs but what an edge at SYNC_IN shows: its offset, TIME_SYNC_STATUS but ALIGN_PEND, the run of good edges, the timer of SYNC_LOS,
and what events may change. -/
structure SyncShown (s t : State) : Prop where
  rest : t = { s with regs := t.regs, timers := t.timers, hostWrites := t.hostWrites, safe := t.safe, due := t.due, draw := t.draw,
                      firstClk := t.firstClk, syncOk := t.syncOk }
  regs : ∀ r, evReg r = false → r ≠ R.TIME_SYNC_OFS → r ≠ R.TIME_SYNC_STATUS → t.rd r = s.rd r
  pend : t.flag R.TIME_SYNC_STATUS F.TIME_SYNC_STATUS_ALIGN_PEND = s.flag R.TIME_SYNC_STATUS F.TIME_SYNC_STATUS_ALIGN_PEND

theorem SyncShown.of_event {s t : State} (h : EvOnly s t) : SyncShown s t :=
  ⟨by rw [h.rest], fun r hr _ _ => h.regs r hr, congrArg (· == 1) (h.get_eq (by rfl) _)⟩

theorem SyncShown.refl (s : State) : SyncShown s s := .of_event (.refl s)

theorem SyncShown.trans {s t u : State} (h : SyncShown s t) (k : SyncShown t u) : SyncShown s u :=
  ⟨by rw [k.rest, h.rest], fun r hr ho hs => (k.regs r hr ho hs).trans (h.regs r hr ho hs), k.pend.trans h.pend⟩

theorem SyncShown.ite {c : Prop} [Decidable c] {s t u : State} (h : SyncShown s t) (k : SyncShown s u) : SyncShown s (if c then t else u) := by
  by_cases hc : c <;> simpa [hc]

theorem SyncShown.ofs (s : State) (v : Word) : SyncShown s (s.wr R.TIME_SYNC_OFS v) :=
  ⟨rfl, fun _ _ ho _ => rd_wr_ne _ _ ho, by unfold State.flag State.get; rw [rd_wr_ne _ _ (by simp)]⟩

/-- Another field of TIME_SYNC_STATUS. -/
theorem SyncShown.status (s : State) {f : Fld} (v : Nat) (h : f.lo + f.w ≤ 31) : SyncShown s (s.put R.TIME_SYNC_STATUS f v) :=
  ⟨rfl, fun _ _ _ hs => rd_put_ne _ _ _ hs, flag_put_field _ _ _ (.inl h)⟩

theorem SyncShown.withSyncOk (s : State) (n : Nat) : SyncShown s { s with syncOk := n } := ⟨rfl, fun _ _ _ _ => rfl, rfl⟩
theorem SyncShown.startTimerNs (s : State) (k : TKey) (n : Nat) : SyncShown s (s.startTimerNs k n) := ⟨rfl, fun _ _ _ _ => rfl, rfl⟩

theorem SyncShown.setSyncBit (s : State) {f : Fld} (b : Bool) (h : f.lo + f.w ≤ 31) : SyncShown s (s.setSyncBit f b) :=
  .ite (.refl _) ((SyncShown.status _ _ h).trans (.of_event (ev_only _ _ _)))

section
variable {s t : State} (h : SyncShown s t)
include h

theorem SyncShown.rd_eq {r : RegId} (hr : evReg r = false) (ho : r.off ≠ 0x64) (hf : r.off ≠ 0x68) : t.rd r = s.rd r :=
  h.regs r hr (by rintro rfl; exact hf rfl) (by rintro rfl; exact ho rfl)

theorem SyncShown.tbSet_eq : t.tbSet = s.tbSet := by
  unfold State.tbSet State.get
  rw [h.rd_eq (by rfl) (by decide) (by decide), h.rd_eq (by rfl) (by decide) (by decide)]

theorem SyncShown.anyLive_eq : t.anyLive = s.anyLive := by
  unfold State.anyLive State.txnLive State.txnState State.get
  rw [Bool.eq_iff_iff, List.any_eq_true, List.any_eq_true]
  refine exists_congr fun k => and_congr_right fun hk => ?_
  have hk8 : k < 8 := List.mem_range.1 hk
  rw [h.rd_eq (evReg_txn (by omega)) (by simp; omega) (by simp; omega)]

theorem SyncShown.alignOK_eq : t.alignOK = s.alignOK := by
  have mode : t.syncIn = s.syncIn := by
    unfold State.syncIn State.get
    rw [h.rd_eq (by rfl) (by decide) (by decide)]
  have driving : t.driving = s.driving := by rw [h.rest]; rfl
  unfold State.alignOK
  rw [mode, driving, h.anyLive_eq]

theorem SyncShown.clocks_eq : t.clocks = s.clocks := by rw [h.rest]; rfl

/-- The instant of the edge is kept besides. -/
theorem SyncShown.withSyncLast (l : Option Nat) :
    let u : State := { t with syncLast := l }
    u.flag R.TIME_SYNC_STATUS F.TIME_SYNC_STATUS_ALIGN_PEND = s.flag R.TIME_SYNC_STATUS F.TIME_SYNC_STATUS_ALIGN_PEND ∧
      u.alignOK = s.alignOK ∧ u.tbSet = s.tbSet ∧ u.up = s.up ∧ u.syncLast = l :=
  ⟨h.pend, h.alignOK_eq, h.tbSet_eq, congrArg (·.1) h.clocks_eq, rfl⟩
end

-- Bits of TIME_SYNC_STATUS

theorem flag_setSyncBit (s : State) {f : Fld} (b : Bool) (hf : f.lo + f.w ≤ 32) (hw : f.w = 1) :
    (s.setSyncBit f b).flag R.TIME_SYNC_STATUS f = b := by
  unfold State.setSyncBit
  split
  · assumption
  · have put := flag_put_same s R.TIME_SYNC_STATUS (if b then 1 else 0) hf
    rw [hw] at put
    refine (congrArg (· == 1) ((ev_only _ _ _).get_eq (by rfl) f)).trans (put.trans ?_)
    cases b <;> rfl

/-- The count of misses stands, as does the offset. -/
theorem setSyncBit_leaves (s : State) {f : Fld} (b : Bool) (hf : 8 ≤ f.lo) :
    (s.setSyncBit f b).get R.TIME_SYNC_STATUS F.TIME_SYNC_STATUS_MISS = s.get R.TIME_SYNC_STATUS F.TIME_SYNC_STATUS_MISS ∧
      (s.setSyncBit f b).rd R.TIME_SYNC_OFS = s.rd R.TIME_SYNC_OFS := by
  unfold State.setSyncBit
  split
  · exact ⟨rfl, rfl⟩
  · have event := ev_only (s.put R.TIME_SYNC_STATUS f (if b then 1 else 0)) evTime srcSYNC_IN
    exact ⟨(event.get_eq (by rfl) _).trans (get_put_field _ _ (.inr hf)), (event.rd_eq (by rfl)).trans (rd_put_ne _ _ _ (by simp))⟩

-- The edge

/-- The offset of an edge from the nearest second boundary, in ps. -/
def State.edgeOfs (s : State) (ps : Nat) : Int :=
  if s.secPs ps ≤ 5 * 10 ^ 11 then (s.secPs ps : Int) else (s.secPs ps : Int) - 10 ^ 12

/-- The edge lies outside the window. -/
def State.edgeOut (s : State) (ps : Nat) : Bool :=
  decide (10 ^ 5 * (s.get R.TIME_SYNC_CTRL F.TIME_SYNC_CTRL_WIN) < (s.edgeOfs ps).natAbs)

/-- The offset is shown. -/
def State.showOfs (s : State) (ps : Nat) : State :=
  if -(2 ^ 31) ≤ s.edgeOfs ps ∧ s.edgeOfs ps < 2 ^ 31 then s.wr R.TIME_SYNC_OFS (wordOfInt (s.edgeOfs ps))
  else (s.wr R.TIME_SYNC_OFS (BitVec.ofNat 32 s.freeNat)).drawn

/-- The edge counts as a miss or not. -/
def State.countEdge (s : State) (out : Bool) : State :=
  if out then { s.satInc R.TIME_SYNC_STATUS F.TIME_SYNC_STATUS_MISS with syncOk := 0 }
  else { s.put R.TIME_SYNC_STATUS F.TIME_SYNC_STATUS_MISS 0 with syncOk := min 3 (s.syncOk + 1) }

/-- SYNC_ERR follows the misses. -/
def State.followErr (s : State) : State :=
  if 3 ≤ s.get R.TIME_SYNC_STATUS F.TIME_SYNC_STATUS_MISS then s.setSyncBit F.TIME_SYNC_STATUS_SYNC_ERR true
  else if 3 ≤ s.syncOk then s.setSyncBit F.TIME_SYNC_STATUS_SYNC_ERR false else s

/-- All that an edge shows, before its instant is kept. -/
def State.showEdge (s : State) (ps : Nat) : State :=
  ((((s.showOfs ps).countEdge (s.edgeOut ps)).followErr).setSyncBit F.TIME_SYNC_STATUS_SYNC_LOS false).startTimerNs syncLosKey 2500000000

theorem syncEdge_eq (s : State) (ps : Nat) : s.syncEdge ps = { s.showEdge ps with syncLast := some s.clk } := rfl

theorem SyncShown.showEdge (s : State) (ps : Nat) : SyncShown s (s.showEdge ps) := by
  have ofs : SyncShown s (s.showOfs ps) := .ite (.ofs _ _) ((SyncShown.ofs _ _).trans (.of_event (.drawn _)))
  have count : ∀ (t : State) (out : Bool), SyncShown t (t.countEdge out) := fun t out =>
    .ite ((SyncShown.ite (.status _ _ (by decide)) (.refl _)).trans (.withSyncOk _ _)) ((SyncShown.status _ _ (by decide)).trans (.withSyncOk _ _))
  have err : ∀ t : State, SyncShown t t.followErr := fun t =>
    .ite (.setSyncBit _ _ (by decide)) (.ite (.setSyncBit _ _ (by decide)) (.refl _))
  exact (((ofs.trans (count _ _)).trans (err _)).trans (.setSyncBit _ _ (by decide))).trans (.startTimerNs _ _ _)

/-- SYNC_ERR leaves the misses and the offset. -/
theorem followErr_leaves (s : State) :
    s.followErr.get R.TIME_SYNC_STATUS F.TIME_SYNC_STATUS_MISS = s.get R.TIME_SYNC_STATUS F.TIME_SYNC_STATUS_MISS ∧
      s.followErr.rd R.TIME_SYNC_OFS = s.rd R.TIME_SYNC_OFS := by
  unfold State.followErr
  split
  · exact setSyncBit_leaves _ _ (by decide)
  split
  · exact setSyncBit_leaves _ _ (by decide)
  · exact ⟨rfl, rfl⟩

theorem rd_ofs_countEdge (s : State) (out : Bool) : (s.countEdge out).rd R.TIME_SYNC_OFS = s.rd R.TIME_SYNC_OFS := by
  unfold State.countEdge State.satInc
  split
  · show (if _ then _ else _ : State).rd _ = _
    split
    · exact rd_put_ne _ _ _ (by simp)
    · rfl
  · exact rd_put_ne _ _ _ (by simp)

/-- The misses, the offset and SYNC_LOS after an edge. -/
theorem showEdge_shows (s : State) (ps : Nat) :
    (s.showEdge ps).flag R.TIME_SYNC_STATUS F.TIME_SYNC_STATUS_SYNC_LOS = false ∧
      (-(2 ^ 31) ≤ s.edgeOfs ps → s.edgeOfs ps < 2 ^ 31 → (s.showEdge ps).rd R.TIME_SYNC_OFS = wordOfInt (s.edgeOfs ps)) ∧
      (s.edgeOut ps = false → (s.showEdge ps).get R.TIME_SYNC_STATUS F.TIME_SYNC_STATUS_MISS = 0) := by
  obtain ⟨missLos, ofsLos⟩ := setSyncBit_leaves (f := F.TIME_SYNC_STATUS_SYNC_LOS) (((s.showOfs ps).countEdge (s.edgeOut ps)).followErr)
    false (by decide)
  obtain ⟨missErr, ofsErr⟩ := followErr_leaves ((s.showOfs ps).countEdge (s.edgeOut ps))
  refine ⟨flag_setSyncBit _ _ (by decide) rfl, fun hl hu => ?_, fun hin => ?_⟩
  · refine ofsLos.trans (ofsErr.trans ((rd_ofs_countEdge _ _).trans ?_))
    unfold State.showOfs
    rw [if_pos ⟨hl, hu⟩]
    exact rd_wr_same _ _ _
  · refine missLos.trans (missErr.trans ?_)
    rw [hin]
    exact get_put_same _ _ (by decide)

/-- What an edge leaves for ALIGN. -/
theorem syncEdge_leaves (s : State) (ps : Nat) :
    let u := s.syncEdge ps
    u.flag R.TIME_SYNC_STATUS F.TIME_SYNC_STATUS_ALIGN_PEND = s.flag R.TIME_SYNC_STATUS F.TIME_SYNC_STATUS_ALIGN_PEND ∧
      u.alignOK = s.alignOK ∧ u.tbSet = s.tbSet ∧ u.up = s.up ∧ u.syncLast = some s.clk := by
  rw [syncEdge_eq]
  exact (SyncShown.showEdge s ps).withSyncLast _

/-- Time within the second stays below one second. -/
theorem secPs_lt {s : State} (hns : s.ns < 125000) (ps : Fin 1000) : s.secPs ps < 10 ^ 12 := by
  have := ps.isLt
  unfold State.secPs
  omega

-- The command

section
variable {s : State} (ps : Fin 1000) (hs : s.services = true) (ha : s.syncAccepts = true)
include hs ha

theorem exec_syncInEdge_of_pend {b : Bool} (hp : s.flag R.TIME_SYNC_STATUS F.TIME_SYNC_STATUS_ALIGN_PEND = b) :
    exec (.syncInEdge ps) s = done (if b then
        (if s.alignOK then (s.syncEdge ps).alignApply else (s.syncEdge ps).epochRefuse F.TIME_SYNC_STATUS_ALIGN_PEND)
      else s.syncEdge ps) := by
  obtain ⟨pend, ok, -⟩ := syncEdge_leaves s ps
  show (if s.services && s.syncAccepts then _ else _) = _
  rw [if_pos (by simp [hs, ha])]
  rw [pend, ok, hp]

theorem syncInEdge_shows (hns : s.ns < 125000) (hp : s.flag R.TIME_SYNC_STATUS F.TIME_SYNC_STATUS_ALIGN_PEND = false) :
    ∃ t, exec (.syncInEdge ps) s = .next t ∧ t.syncLast = some s.clk ∧ t.frames = s.frames ∧ t.ns = s.ns ∧
      t.flag R.TIME_SYNC_STATUS F.TIME_SYNC_STATUS_SYNC_LOS = false ∧
      (s.secPs ps < 2 ^ 31 → t.rd R.TIME_SYNC_OFS = wordOfInt (s.secPs ps)) ∧
      (10 ^ 12 - 2 ^ 31 ≤ s.secPs ps → t.rd R.TIME_SYNC_OFS = wordOfInt ((s.secPs ps : Int) - 10 ^ 12)) ∧
      (s.secPs ps ≤ 10 ^ 5 * s.get R.TIME_SYNC_CTRL F.TIME_SYNC_CTRL_WIN → s.secPs ps ≤ 5 * 10 ^ 11 →
        t.get R.TIME_SYNC_STATUS F.TIME_SYNC_STATUS_MISS = 0) := by
  obtain ⟨t, ht, react, -, kept⟩ := done_clock (s.syncEdge ps)
  have runs : exec (.syncInEdge ps) s = .next t := (exec_syncInEdge_of_pend ps hs ha hp).trans ht
  have shown := SyncShown.showEdge s ps
  obtain ⟨los, ofs, miss⟩ := showEdge_shows s ps
  have below := secPs_lt hns ps
  rw [syncEdge_eq] at react kept
  generalize s.showEdge ps = x at shown los ofs miss react kept
  have ofsT : t.rd R.TIME_SYNC_OFS = x.rd R.TIME_SYNC_OFS := react.regs _ rfl
  refine ⟨t, runs, kept.syncLast_eq, kept.frames_eq.trans (congrArg (·.2.2.1) shown.clocks_eq),
    kept.ns_eq.trans (congrArg (·.2.2.2.1) shown.clocks_eq), (kept.syncFlag_eq _).trans los, fun hlt => ?_, fun hge => ?_, fun hw hh => ?_⟩
  · have value : s.edgeOfs ps = s.secPs ps := if_pos (by omega)
    rw [ofsT, ofs (by omega) (by omega), value]
  · have value : s.edgeOfs ps = (s.secPs ps : Int) - 10 ^ 12 := if_neg (by omega)
    rw [ofsT, ofs (by omega) (by omega), value]
  · have value : s.edgeOfs ps = s.secPs ps := if_pos hh
    have inside : s.edgeOut ps = false := by
      unfold State.edgeOut
      rw [value]
      simpa using hw
    exact (react.get_eq rfl _).trans (miss inside)

end

/-- The epoch is set at a boundary that an edge has cut. -/
def State.alignEpoch (s : State) : State :=
  let t := s.setEpoch.ev evTime srcTB
  if t.mainState = 2 ∧ t.mainRef.isSome then t.setSwitching true else t

theorem alignApply_eq (s : State) :
    s.alignApply = (((s.put R.TIME_SYNC_STATUS F.TIME_SYNC_STATUS_ALIGN_PEND 0).pmTimeStep s.tbSec s.tbSet true).boundary
      (8000 * s.tbSet) 0).alignEpoch := rfl

theorem alignEpoch_shows (s : State) :
    s.alignEpoch.frames = 8000 * s.tbSet ∧ s.alignEpoch.ns = 0 ∧ s.alignEpoch.up = s.up ∧ s.alignEpoch.syncLast = s.syncLast ∧
      ∀ f, s.alignEpoch.flag R.TIME_SYNC_STATUS f = s.flag R.TIME_SYNC_STATUS f := by
  obtain ⟨frames, ns, up, -, last, status, -⟩ := setEpoch_shows (ClockKept.refl s)
  unfold State.alignEpoch
  generalize s.setEpoch.ev evTime srcTB = t at frames ns up last status ⊢
  have kept : ClockKept false t (if t.mainState = 2 ∧ t.mainRef.isSome then t.setSwitching true else t) := .ite (.setSwitching _ _) (.refl _)
  exact ⟨kept.frames_eq.trans frames, kept.ns_eq.trans ns, kept.up_eq.trans up, kept.syncLast_eq.trans last,
    fun f => (kept.syncFlag_eq f).trans (status f)⟩

/-- What ALIGN makes of the clocks. -/
theorem alignApply_shows (s : State) :
    s.alignApply.frames = 8000 * s.tbSet ∧ s.alignApply.ns = 0 ∧ s.alignApply.up = s.up + 1 ∧ s.alignApply.syncLast = s.syncLast ∧
      s.alignApply.flag R.TIME_SYNC_STATUS F.TIME_SYNC_STATUS_ALIGN_PEND = false := by
  have turned : FrameTurned (8000 * s.tbSet) 0 (s.put R.TIME_SYNC_STATUS F.TIME_SYNC_STATUS_ALIGN_PEND 0)
      (((s.put R.TIME_SYNC_STATUS F.TIME_SYNC_STATUS_ALIGN_PEND 0).pmTimeStep s.tbSec s.tbSet true).boundary (8000 * s.tbSet) 0) :=
    (FrameTurned.boundary _ _ _).after (.pmTimeStep _ _ _ _)
  rw [alignApply_eq]
  generalize ((s.put R.TIME_SYNC_STATUS F.TIME_SYNC_STATUS_ALIGN_PEND 0).pmTimeStep s.tbSec s.tbSet true).boundary (8000 * s.tbSet) 0 = t
    at turned ⊢
  obtain ⟨frames, ns, up, last, status⟩ := alignEpoch_shows t
  refine ⟨?_, ns, up.trans turned.up_eq, last.trans turned.syncLast_eq, ?_⟩
  · rw [frames, turned.tbSet_eq, tbSet_putSync]
  · rw [status, turned.syncFlag_eq]
    exact flag_put_same _ _ _ (by decide)

theorem syncInEdge_aligns (ps : Fin 1000) (s : State) (hs : s.services = true) (ha : s.syncAccepts = true) (hok : s.alignOK = true)
    (hp : s.flag R.TIME_SYNC_STATUS F.TIME_SYNC_STATUS_ALIGN_PEND = true) :
    ∃ t, exec (.syncInEdge ps) s = .next t ∧ t.frames = 8000 * s.tbSet ∧ t.ns = 0 ∧ t.up = s.up + 1 ∧ t.syncLast = some s.clk ∧
      t.flag R.TIME_SYNC_STATUS F.TIME_SYNC_STATUS_ALIGN_PEND = false := by
  obtain ⟨t, ht, -, -, kept⟩ := done_clock (s.syncEdge ps).alignApply
  have runs : exec (.syncInEdge ps) s = .next t := by
    rw [exec_syncInEdge_of_pend ps hs ha hp, if_pos rfl, if_pos hok]
    exact ht
  obtain ⟨-, -, tb, upE, lastE⟩ := syncEdge_leaves s ps
  obtain ⟨frames, ns, up, last, pend⟩ := alignApply_shows (s.syncEdge ps)
  refine ⟨t, runs, ?_, kept.ns_eq.trans ns, ?_, kept.syncLast_eq.trans (last.trans lastE), (kept.syncFlag_eq _).trans pend⟩
  · rw [kept.frames_eq, frames, tb]
  · rw [kept.up_eq, up, upE]

theorem syncInEdge_rests (ps : Fin 1000) (s : State) (h : s.syncAccepts = false) : exec (.syncInEdge ps) s = .next s :=
  if_neg (by simp [h])

/-- Settles O27: every step of a boundary leaves the clocks, so what the boundary itself sets stands. -/
theorem framesAndSecondsTurn : Obligations.FramesAndSecondsTurn :=
  ⟨frameBoundary_turns, secondBoundary_reads, secondBoundary_rests, setSecApply_sets, setSecApply_refuses,
    fun ps _ hs ha => syncInEdge_shows ps hs ha, syncInEdge_aligns, syncInEdge_rests⟩

end Sys2Proof.Machine

/-!
The refutation of a statement about transactions: a counter that wraps while a record is built can bring the package into GRAVE, in which no
slot changes state (R85, R275, R349).
-/

namespace Sys2Proof.Machine

/-- The count of the records built on die 0. -/
def builtOnDie0 : Ctr := ⟨R.MAP_BUILT_LO 0, R.MAP_BUILT_HI 0⟩

/-- Slot 0 is BUILDING with one record of link 0 left to build; the count of built records of die 0 is at its end, its wrap counts an event, and
that event's source is of class GRAVE with N = 1. -/
def graveWrap : State :=
  { (((((answeringA.put (R.TXN_STATUS 0) F.TXN_STATUS_STATE txBUILDING).put (R.EVT_CFG evPkg srcCNT_WRAP) F.EVT_CFG_CLASS clsGrave).put
      (R.EVT_CFG evPkg srcCNT_WRAP) F.EVT_CFG_N 1).setCtr builtOnDie0 (2 ^ 48 - 1)).setBit (R.CNT_WRAP_EN .map 0 0) 0) with
    txns := [(0, { slotOfLinks with unbuilt := 1 })] }

/-- The wrap brings the package into GRAVE before the slot is looked at, and the slot stays BUILDING. -/
theorem graveWrap_keeps_slot : (graveWrap.recBuilt 0).settle.graveHealth.txnState 0 = txBUILDING := by decide +kernel

theorem exec_mapRecordBuilt_graveWrap : exec (.mapRecordBuilt 0 none) graveWrap = .next (graveWrap.recBuilt 0).settle.graveHealth := rfl

/-- Refutes O50: the package is not in GRAVE before the command, and no record of the slot is left unbuilt after it, but the wrap of the
count of built records brings the package into GRAVE on the way, in which the slot does not become BUILT. -/
theorem not_transactionsAreBuiltAndCommitted : ¬ Obligations.TransactionsAreBuiltAndCommitted := by
  unfold Obligations.TransactionsAreBuiltAndCommitted
  intro h
  obtain ⟨-, hbuilt, -⟩ := h
  have settled : Settled graveWrap := ⟨rfl, by decide +kernel⟩
  obtain ⟨t, ht, -, -, -, -, hstate, -⟩ := hbuilt 0 none _ _ graveWrap settled rfl
  rw [exec_mapRecordBuilt_graveWrap] at ht
  have built : t.txnState 0 = txBUILT :=
    hstate (by decide +kernel) (by decide +kernel) (by decide +kernel) (by decide +kernel) (by decide +kernel)
  rw [← Host.Outcome.next.inj ht] at built
  exact absurd (built.symm.trans graveWrap_keeps_slot) (by decide)

end Sys2Proof.Machine

/-!
Transaction slots: what the shared operations of a slot leave of the other slots, of the registers of transactions and of the rest (R85, R87,
R92, R97).
-/

namespace Sys2Proof.Machine

-- What a command about slot k may change

/-- Of transactions nothing differs but slot k, its register set and what goes to the mate; nothing becomes due to be retired. -/
structure SlotStep (k : Nat) (s t : State) : Prop where
  txn : TxnOnly s t
  slot : SlotOnly k s t
  due : t.due = s.due

/-- The slots, what goes to the mate, and the registers of transactions stand. -/
structure SlotsStand (s t : State) : Prop where
  txns : t.txns = s.txns
  mateOut : t.mateOut = s.mateOut
  unionHold : t.unionHold = s.unionHold
  map : t.actMap = s.actMap
  mem : t.mem = s.mem
  rd : ∀ {i : Nat} (o x : Nat), o < 0xf000 → t.rd ⟨.txn, i, o, x⟩ = s.rd ⟨.txn, i, o, x⟩

section
variable {s t u : State} {k : Nat}

theorem noteReg_txn {i o x : Nat} (h : o < 0xf000) : noteReg ⟨.txn, i, o, x⟩ = false := by simp [noteReg, evReg, h]

theorem SlotsStand.of_note (h : NoteOnly s t) : SlotsStand s t where
  txns := by rw [h.rest]
  mateOut := by rw [h.rest]
  unionHold := by rw [h.rest]
  map := by rw [h.rest]
  mem := by rw [h.rest]
  rd _ _ ho := h.regs _ (noteReg_txn ho)

theorem SlotsStand.of_event (h : EvOnly s t) : SlotsStand s t := .of_note (.of_event h)
theorem SlotsStand.refl (s : State) : SlotsStand s s := .of_note (.refl s)
theorem SlotsStand.trans (h : SlotsStand s t) (g : SlotsStand t u) : SlotsStand s u where
  txns := g.txns.trans h.txns
  mateOut := g.mateOut.trans h.mateOut
  unionHold := g.unionHold.trans h.unionHold
  map := g.map.trans h.map
  mem := g.mem.trans h.mem
  rd o x ho := (g.rd o x ho).trans (h.rd o x ho)

theorem SlotsStand.ite {c : Prop} [Decidable c] (h : SlotsStand s t) (g : SlotsStand s u) : SlotsStand s (if c then t else u) := by
  by_cases hc : c <;> simpa [hc]

theorem SlotsStand.slot_eq (h : SlotsStand s t) (j : Nat) : t.slot j = s.slot j := by unfold State.slot; rw [h.txns]

theorem SlotsStand.get_eq (h : SlotsStand s t) {o x : Nat} (ho : o < 0xf000) (f : Fld) :
    t.get ⟨.txn, 0, o, x⟩ f = s.get ⟨.txn, 0, o, x⟩ f := by unfold State.get; rw [h.rd o x ho]

/-- Where the slots stand, so does all but slot k. -/
theorem SlotsStand.slotOnly (h : SlotsStand s t) : SlotOnly k s t where
  slots j _ := h.slot_eq j
  regs r hb ho _ := by obtain ⟨b, i, o, x⟩ := r; subst hb; exact h.rd _ _ (Nat.lt_trans ho (by decide))
  map := h.map
  mem := h.mem

theorem SlotOnly.trans (h : SlotOnly k s t) (g : SlotOnly k t u) : SlotOnly k s u where
  slots j hj := (g.slots j hj).trans (h.slots j hj)
  regs r hb ho hw := (g.regs r hb ho hw).trans (h.regs r hb ho hw)
  map := g.map.trans h.map
  mem := g.mem.trans h.mem

theorem SlotOnly.since {c : Completion} (h : SlotOnly k (s.answer c) t) : SlotOnly k s t := ⟨h.slots, h.regs, h.map, h.mem⟩

theorem SlotStep.of_note (h : NoteOnly s t) (hd : SameDue s t) : SlotStep k s t := ⟨.of_note h, (SlotsStand.of_note h).slotOnly, hd⟩
theorem SlotStep.refl (s : State) : SlotStep k s s := .of_note (.refl s) rfl
theorem SlotStep.trans (h : SlotStep k s t) (g : SlotStep k t u) : SlotStep k s u :=
  ⟨h.txn.trans g.txn, h.slot.trans g.slot, g.due.trans h.due⟩
theorem SlotStep.ite {c : Prop} [Decidable c] (h : SlotStep k s t) (g : SlotStep k s u) : SlotStep k s (if c then t else u) := by
  by_cases hc : c <;> simpa [hc]

theorem SlotStep.ev (s : State) {b src : Nat} (h : hasTarget b src = false) : SlotStep k s (s.ev b src) := .of_note (.ev _ _ _) (.ev _ h)

/-- A register of slot k's own set. -/
theorem SlotStep.wr (s : State) (c x : Nat) (v : Word) (hl : 0x100 ≤ c := by decide) (hh : c < 0x140 := by decide) :
    SlotStep k s (s.wr ⟨.txn, 0, c + 0x40 * k, x⟩ v) where
  txn := .wr _ _ _ (txnReg_txn _ _ _)
  slot := ⟨fun _ _ => rfl, fun r _ _ hw => rd_wr_ne s v (by rintro rfl; dsimp only at hw; omega), rfl, rfl⟩
  due := rfl

theorem SlotStep.put (s : State) (c x : Nat) (f : Fld) (v : Nat) (hl : 0x100 ≤ c := by decide) (hh : c < 0x140 := by decide) :
    SlotStep k s (s.put ⟨.txn, 0, c + 0x40 * k, x⟩ f v) := .wr s c x _ hl hh

theorem SlotStep.setSlot (s : State) (x : TxnSlot) : SlotStep k s (s.setSlot k x) where
  txn := .setSlot _ _ _
  slot := ⟨fun _ hj => look_store_ne _ _ hj, fun _ _ _ _ => rfl, rfl, rfl⟩
  due := rfl

theorem SlotStep.toMate (s : State) (m : MateMsg) : SlotStep k s (s.toMate m) where
  txn := .toMate _ _
  slot := ⟨fun _ _ => rfl, fun _ _ _ _ => rfl, rfl, rfl⟩
  due := rfl

theorem SlotStep.txnNotify (s : State) : SlotStep k s (s.txnNotify k) := .ite (.ev _ rfl) (.refl _)

theorem SlotStep.setTxn (s : State) (st : Nat) : SlotStep k s (s.setTxn k st) :=
  have h := (SlotStep.put s 0x108 0 F.TXN_STATUS_STATE st).trans (.wr _ 0x130 0 (BitVec.ofNat 32 s.fn))
  .ite (h.trans (.txnNotify _)) h

theorem RegsOnly.foldl {p : RegId → Bool} {α : Type} {f : State → α → State} (h : ∀ t a, RegsOnly p t (f t a)) (l : List α) :
    ∀ s, RegsOnly p s (l.foldl f s) := by
  induction l with
  | nil => exact fun _ => ⟨rfl, fun _ _ => rfl⟩
  | cons a l ih => exact fun s => (h s a).trans (ih _)

/-- Only MAP_STATUS follows the queues. -/
theorem updQueue_regs (s : State) : RegsOnly (fun r => r.blk == .map) s s.updQueue :=
  .foldl (fun _ _ => (RegsOnly.put _ _ _ rfl).trans (.put _ _ _ rfl)) _ s

theorem SlotsStand.updQueue (s : State) : SlotsStand s s.updQueue :=
  have h := updQueue_regs s
  ⟨by rw [h.rest], by rw [h.rest], by rw [h.rest], by rw [h.rest], by rw [h.rest], fun _ _ _ => h.regs _ rfl⟩

theorem SlotStep.updQueue (s : State) : SlotStep k s s.updQueue where
  txn := .updQueue _
  slot := (SlotsStand.updQueue s).slotOnly
  due := SameDue.updQueue _

theorem SlotStep.beginRestore (s : State) : SlotStep k s (s.beginRestore k) :=
  ((SlotStep.setSlot s _).trans (.put _ 0x108 0 _ _)).trans (.updQueue _)

theorem SlotStep.refuseFor (s : State) (c : Nat) (i : Option Nat) : SlotStep k s (s.refuseFor k c i) :=
  have h := ((SlotStep.put s 0x108 0 F.TXN_STATUS_CODE c).trans (.setTxn _ _)).trans (.beginRestore _)
  .ite (h.trans (.toMate _ _)) h

theorem SlotStep.refuseTxn (s : State) (c : Nat) : SlotStep k s (s.refuseTxn k c) := .refuseFor s c none

theorem SlotStep.refuseRec (s : State) (c i : Nat) : SlotStep k s (s.refuseRec k c i) := (SlotStep.wr s 0x110 0 _).trans (.refuseFor _ _ _)

theorem SlotStep.abortTxn (s : State) (c : Nat) : SlotStep k s (s.abortTxn k c) :=
  ((SlotStep.put s 0x108 0 F.TXN_STATUS_ABORT_CAUSE c).trans (.setTxn _ _)).trans (.beginRestore _)

theorem SlotStep.freeSlot (s : State) : SlotStep k s (s.freeSlot k) := (SlotStep.setTxn s _).trans (.setSlot _ _)

theorem SlotStep.openSlot (s : State) : SlotStep k s (s.openSlot k) :=
  ((((SlotStep.wr s 0x108 0 _).trans (.wr _ 0x10c 0 _)).trans (.wr _ 0x110 0 _)).trans (.setSlot _ _)).trans (.setTxn _ _)

theorem SlotStep.tryBuilt (s : State) : SlotStep k s (s.tryBuilt k) :=
  .ite (.ite ((SlotStep.setTxn s _).trans (.toMate _ _)) (.setTxn s _)) (.refl s)

theorem SlotStep.tellClose (s : State) : SlotStep k s (s.tellClose k) := .ite (.toMate _ _) (.refl s)

/-- A command about slot k that leaves no retirement due ends with what it did. -/
theorem SlotStep.done (h : SlotStep k s u) (hd : s.due = []) :
    ∃ t, done u = .next t ∧ SlotOnly k s t ∧ TxnOnly s t ∧ SlotsStand u t := by
  obtain ⟨t, ht, hn⟩ := done_note (h.due.trans hd)
  exact ⟨t, ht, h.slot.trans (SlotsStand.of_note hn).slotOnly, h.txn.trans (.of_note hn), .of_note hn⟩

end

-- What the operations leave in the registers of slot k

section
variable (s : State) (k : Fin 8)

@[simp] theorem slot_put (r : RegId) (f : Fld) (v j : Nat) : (s.put r f v).slot j = s.slot j := rfl
@[simp] theorem slot_wr (r : RegId) (v : Word) (j : Nat) : (s.wr r v).slot j = s.slot j := rfl
@[simp] theorem rd_setSlot (x : TxnSlot) (j : Nat) (r : RegId) : (s.setSlot j x).rd r = s.rd r := rfl
@[simp] theorem rd_toMate (m : MateMsg) (r : RegId) : (s.toMate m).rd r = s.rd r := rfl
@[simp] theorem mateOut_toMate (m : MateMsg) : (s.toMate m).mateOut = m :: s.mateOut := rfl
@[simp] theorem slot_toMate (m : MateMsg) (j : Nat) : (s.toMate m).slot j = s.slot j := rfl
@[simp] theorem slot_setSlot_same (x : TxnSlot) : (s.setSlot k x).slot k = x := look_store_same _ _ _

theorem setTxn_stands (st : Nat) :
    SlotsStand ((s.put (R.TXN_STATUS k) F.TXN_STATUS_STATE st).wr (R.TXN_EVENT_FN k) (BitVec.ofNat 32 s.fn)) (s.setTxn k st) :=
  .ite (.ite (.of_event (ev_only _ _ _)) (.refl _)) (.refl _)

@[simp] theorem slot_setTxn (st j : Nat) : (s.setTxn k st).slot j = s.slot j := (setTxn_stands s k st).slot_eq j
@[simp] theorem mateOut_setTxn (st : Nat) : (s.setTxn k st).mateOut = s.mateOut := (setTxn_stands s k st).mateOut
@[simp] theorem unionHold_setTxn (st : Nat) : (s.setTxn k st).unionHold = s.unionHold := (setTxn_stands s k st).unionHold

theorem rd_setTxn_status (st : Nat) : (s.setTxn k st).rd (R.TXN_STATUS k) = fset (s.rd (R.TXN_STATUS k)) F.TXN_STATUS_STATE st := by
  rw [(setTxn_stands s k st).rd _ _ (by omega), rd_wr_ne _ _ (by simp), rd_put_same]

theorem rd_setTxn_ne (st : Nat) {o x : Nat} (ho : o < 0xf000) (hs : o ≠ 0x108 + 0x40 * k) (he : o ≠ 0x130 + 0x40 * k) :
    (s.setTxn k st).rd ⟨.txn, 0, o, x⟩ = s.rd ⟨.txn, 0, o, x⟩ := by
  rw [(setTxn_stands s k st).rd _ _ ho, rd_wr_ne _ _ (by simp [he]), rd_put_ne _ _ _ (by simp [hs])]

/-- CLEANING of a restore that begins. -/
def TxnSlot.restores (x : TxnSlot) : Nat := if x.recs.isEmpty then 0 else 1

theorem beginRestore_stands : SlotsStand ((s.setSlot k { s.slot k with unbuilt := 0 }).put (R.TXN_STATUS k) F.TXN_STATUS_CLEANING
    (s.slot k).restores) (s.beginRestore k) := .updQueue _

@[simp] theorem slot_beginRestore : (s.beginRestore k).slot k = { s.slot k with unbuilt := 0 } :=
  ((beginRestore_stands s k).slot_eq k).trans (slot_setSlot_same s k _)
@[simp] theorem mateOut_beginRestore : (s.beginRestore k).mateOut = s.mateOut := (beginRestore_stands s k).mateOut

theorem rd_beginRestore_status :
    (s.beginRestore k).rd (R.TXN_STATUS k) = fset (s.rd (R.TXN_STATUS k)) F.TXN_STATUS_CLEANING (s.slot k).restores := by
  rw [(beginRestore_stands s k).rd _ _ (by omega), rd_put_same, rd_setSlot]

theorem rd_beginRestore_ne {o x : Nat} (ho : o < 0xf000) (hs : o ≠ 0x108 + 0x40 * k) :
    (s.beginRestore k).rd ⟨.txn, 0, o, x⟩ = s.rd ⟨.txn, 0, o, x⟩ := by
  rw [(beginRestore_stands s k).rd _ _ ho, rd_put_ne _ _ _ (by simp [hs]), rd_setSlot]

/-- A transaction ends before its commit: the field f says why, and its restore begins (Table 04-5). -/
def State.endTxn (s : State) (k : Nat) (f : Fld) (v st : Nat) : State := ((s.put (R.TXN_STATUS k) f v).setTxn k st).beginRestore k

/-- Two fields have no bit in common. -/
def Fld.apart (f g : Fld) : Bool := decide (f.lo + f.w ≤ g.lo) || decide (g.lo + g.w ≤ f.lo)

theorem fget_fset_apart {f g : Fld} (w : Word) (v : Nat) (h : f.apart g = true) : fget (fset w f v) g = fget w g :=
  fget_fset_ne _ _ _ _ (by simpa [Fld.apart] using h)

/-- What a slot shows whose transaction ended before its commit, by its cause in field f. -/
structure Ended (k : Fin 8) (f : Fld) (v st : Nat) (s t : State) : Prop where
  state : t.txnState k = st
  cause : t.get (R.TXN_STATUS k) f = v % 2 ^ f.w
  cleaning : t.flag (R.TXN_STATUS k) F.TXN_STATUS_CLEANING = !(s.slot k).recs.isEmpty
  other : ∀ g : Fld, f.apart g = true → F.TXN_STATUS_STATE.apart g = true → F.TXN_STATUS_CLEANING.apart g = true →
    t.get (R.TXN_STATUS k) g = s.get (R.TXN_STATUS k) g
  slot : t.slot k = { s.slot k with unbuilt := 0 }
  rest : ∀ o x : Nat, o < 0xf000 → o ≠ 0x108 + 0x40 * k → o ≠ 0x130 + 0x40 * k → t.rd ⟨.txn, 0, o, x⟩ = s.rd ⟨.txn, 0, o, x⟩

theorem rd_endTxn_status (f : Fld) (v st : Nat) : (s.endTxn k f v st).rd (R.TXN_STATUS k) =
    fset (fset (fset (s.rd (R.TXN_STATUS k)) f v) F.TXN_STATUS_STATE st) F.TXN_STATUS_CLEANING (s.slot k).restores := by
  rw [State.endTxn, rd_beginRestore_status, rd_setTxn_status, rd_put_same, slot_setTxn, slot_put]

@[simp] theorem mateOut_endTxn (f : Fld) (v st : Nat) : (s.endTxn k f v st).mateOut = s.mateOut := by simp [State.endTxn]

theorem Ended.endTxn {f : Fld} (v : Nat) {st : Nat} (hst : st < 16) (hf : f.lo + f.w ≤ 32) (hs : F.TXN_STATUS_STATE.apart f = true)
    (hc : F.TXN_STATUS_CLEANING.apart f = true) : Ended k f v st s (s.endTxn k f v st) where
  state := by
    rw [State.txnState, State.get, rd_endTxn_status, fget_fset_apart _ _ (by decide), fget_fset_same _ _ _ (by decide)]
    exact Nat.mod_eq_of_lt hst
  cause := by
    rw [State.get, rd_endTxn_status, fget_fset_apart _ _ hc, fget_fset_apart _ _ hs, fget_fset_same _ _ _ hf]
  cleaning := by
    rw [State.flag, State.get, rd_endTxn_status, fget_fset_same _ _ _ (by decide), TxnSlot.restores]
    cases (s.slot k).recs.isEmpty <;> rfl
  other g hg hs hc := by
    rw [State.get, rd_endTxn_status, fget_fset_apart _ _ hc, fget_fset_apart _ _ hs, fget_fset_apart _ _ hg]; rfl
  slot := by rw [State.endTxn, slot_beginRestore, slot_setTxn, slot_put]
  rest o x ho hs he := by
    rw [State.endTxn, rd_beginRestore_ne _ _ ho hs, rd_setTxn_ne _ _ _ ho hs he, rd_put_ne _ _ _ (by simp [hs])]

theorem Ended.toMate {f : Fld} {v st : Nat} {s t : State} {k : Fin 8} (h : Ended k f v st s t) (m : MateMsg) :
    Ended k f v st s (t.toMate m) := ⟨h.state, h.cause, h.cleaning, h.other, h.slot, h.rest⟩

theorem Ended.ite {f : Fld} {v st : Nat} {s t u : State} {k : Fin 8} {c : Prop} [Decidable c] (h : Ended k f v st s t)
    (g : Ended k f v st s u) : Ended k f v st s (if c then t else u) := by
  by_cases hc : c <;> simpa [hc]

/-- A refusal that names its check (R87, Table 04-8). -/
abbrev Refused (k : Fin 8) (c : Nat) (s t : State) : Prop := Ended k F.TXN_STATUS_CODE c txREFUSED s t

/-- An abort that names its cause (R92). -/
abbrev Aborted (k : Fin 8) (c : Nat) (s t : State) : Prop := Ended k F.TXN_STATUS_ABORT_CAUSE c txABORTED s t

theorem refuseFor_eq (c : Nat) (i : Option Nat) : s.refuseFor k c i = if s.mirrored k then
    (s.endTxn k F.TXN_STATUS_CODE c txREFUSED).toMate (.refused k i) else s.endTxn k F.TXN_STATUS_CODE c txREFUSED := rfl

theorem refused_endTxn (c : Nat) : Refused k c s (s.endTxn k F.TXN_STATUS_CODE c txREFUSED) :=
  .endTxn _ _ _ (by decide) (by decide) (by decide) (by decide)

theorem refused_refuseFor (c : Nat) (i : Option Nat) : Refused k c s (s.refuseFor k c i) := by
  rw [refuseFor_eq]
  exact .ite ((refused_endTxn s k c).toMate _) (refused_endTxn s k c)

theorem mateOut_refuseFor (c : Nat) (i : Option Nat) :
    (s.refuseFor k c i).mateOut = if s.mirrored k then .refused k i :: s.mateOut else s.mateOut := by
  rw [refuseFor_eq, apply_ite (fun t : State => t.mateOut), mateOut_toMate, mateOut_endTxn]

theorem aborted_abortTxn (c : Nat) : Aborted k c s (s.abortTxn k c) :=
  Ended.endTxn _ _ _ (by decide) (by decide) (by decide) (by decide)

@[simp] theorem mateOut_abortTxn (c : Nat) : (s.abortTxn k c).mateOut = s.mateOut := mateOut_endTxn _ _ _ _ _

-- OPEN, RELEASE and operations that are refused (R86, R87)

/-- The fields of TXN_STATUS above OP_REFUSED read 0 where they are cleared. -/
theorem fget_lowHalf (w : Word) {f : Fld} (h : 16 ≤ f.lo) : fget (w &&& 0x0000FFFF) f = 0 := by
  apply Nat.eq_of_testBit_eq
  intro i
  rw [testBit_fget, BitVec.testBit_toNat, BitVec.getLsbD_and, Nat.zero_testBit]
  have high : (0x0000FFFF : Word).getLsbD (f.lo + i) = false := by
    rw [← BitVec.testBit_toNat]
    exact Nat.testBit_lt_two_pow (Nat.lt_of_lt_of_le (by decide) (Nat.pow_le_pow_right (by decide) (show 16 ≤ f.lo + i by omega)))
  rw [high, Bool.and_false, Bool.and_false]

/-- What a slot shows that has just entered OPEN. -/
structure Opened (k : Fin 8) (s t : State) : Prop where
  state : t.txnState k = txOPEN
  slot : t.slot k = (s.slot k).cleared
  count : t.rd (R.TXN_COUNT k) = 0
  index : t.rd (R.TXN_ERR_INDEX k) = 0xFFFFFFFF
  fields : ∀ f : Fld, 16 ≤ f.lo → t.get (R.TXN_STATUS k) f = 0

theorem opened_openSlot : Opened k s (s.openSlot k) := by
  have status : (s.openSlot k).rd (R.TXN_STATUS k) = fset (s.rd (R.TXN_STATUS k) &&& 0x0000FFFF) F.TXN_STATUS_STATE txOPEN := by
    rw [State.openSlot, rd_setTxn_status, rd_setSlot, rd_wr_ne _ _ (by simp), rd_wr_ne _ _ (by simp), rd_wr_same]
  refine ⟨?_, ?_, ?_, ?_, fun f hf => ?_⟩
  · rw [State.txnState, State.get, status, fget_fset_same _ _ _ (by decide)]; rfl
  · rw [State.openSlot, slot_setTxn, slot_setSlot_same]
  · rw [State.openSlot, rd_setTxn_ne _ _ _ (by omega) (by omega) (by omega), rd_setSlot, rd_wr_ne _ _ (by simp), rd_wr_same]
  · rw [State.openSlot, rd_setTxn_ne _ _ _ (by omega) (by omega) (by omega), rd_setSlot, rd_wr_same]
  · rw [State.get, status, fget_fset_ne _ _ _ _ (.inl (by simpa using Nat.le_trans (by decide) hf)), fget_lowHalf _ hf]

@[simp] theorem mateOut_openSlot : (s.openSlot k).mateOut = s.mateOut := by simp [State.openSlot, State.setSlot]

theorem Opened.mirrored {s t : State} {k : Fin 8} (h : Opened k s t) : t.mirrored k = false := by
  rw [State.mirrored, State.flag, h.fields _ (by decide)]; rfl

theorem Opened.originMate {s t : State} {k : Fin 8} (h : Opened k s t) : t.originMate k = false := by
  rw [State.originMate, State.flag, h.fields _ (by decide)]; rfl

theorem txnState_freeSlot : (s.freeSlot k).txnState k = txFREE := by
  rw [State.freeSlot, State.txnState, State.get, rd_setSlot, rd_setTxn_status, fget_fset_same _ _ _ (by decide)]; rfl

theorem slot_freeSlot : (s.freeSlot k).slot k = (s.slot k).cleared := by rw [State.freeSlot, slot_setSlot_same]

@[simp] theorem mateOut_setSlot (j : Nat) (x : TxnSlot) : (s.setSlot j x).mateOut = s.mateOut := rfl
@[simp] theorem mateOut_freeSlot : (s.freeSlot k).mateOut = s.mateOut := by rw [State.freeSlot, mateOut_setSlot, mateOut_setTxn]

/-- An operation that does not apply: OP_REFUSED is set, and nothing else changes. -/
structure OpRefused (k : Fin 8) (s t : State) : Prop where
  flag : t.flag (R.TXN_STATUS k) F.TXN_STATUS_OP_REFUSED = true
  state : t.txnState k = s.txnState k
  slot : t.slot k = s.slot k
  regs : RegsOnly (fun r => r == R.TXN_STATUS k) s t

theorem opRefused_shows (c : Completion) : OpRefused k s ((s.answer c).opRefused k) where
  flag := by rw [State.opRefused, flag_put_same _ _ _ (by decide)]; rfl
  state := get_put_field _ _ (by decide)
  slot := rfl
  regs := (RegsOnly.answer s c).trans (.put _ _ _ (beq_self_eq_true _))

theorem OpRefused.settled {s t : State} {k : Fin 8} (h : OpRefused k s t) (hs : Settled s) : Settled t :=
  h.regs.settled rfl rfl hs

end
end Sys2Proof.Machine

/-!
What a host asks of a slot: the operations of TXN_CMD, ABORT where there is nothing to abort (R93), and CLOSE with ASAP (R89).
-/

namespace Sys2Proof.Machine

-- TXN_CMD of a port that reaches the registers

section
variable {p : Port} {s : State} (h : s.reaches p 0 = true) (k : Fin 8)
include h

theorem exec_txnOpen : exec (.txnOpen p k) s = .next ((s.answer .done).txnOpen k false) := congrArg Host.Outcome.next (hostReg_reaches h)
theorem exec_txnOpenMirror : exec (.txnOpenMirror p k) s = done ((s.answer .done).txnOpen k true) := congrArg done (hostReg_reaches h)
theorem exec_txnCloseAsap : exec (.txnCloseAsap p k) s = done ((s.answer .done).txnClose k true) := congrArg done (hostReg_reaches h)
theorem exec_txnAbort : exec (.txnAbort p k) s = done ((s.answer .done).hostAbort p k) := congrArg done (hostReg_reaches h)
theorem exec_txnRelease : exec (.txnRelease p k) s = .next ((s.answer .done).txnRelease k) := congrArg Host.Outcome.next (hostReg_reaches h)
theorem exec_txnOpInvalid : exec (.txnOpInvalid p k) s = .next ((s.answer .done).opRefused k) := congrArg Host.Outcome.next (hostReg_reaches h)
theorem exec_txnRecordAppend (v : Word) : exec (.txnRecordAppend p k v) s = done ((s.answer .done).hostRecord p k v) :=
  congrArg done (hostReg_reaches h)
theorem exec_txnFnWrite (v : Word) : exec (.txnFnWrite p k v) s = .next ((s.answer .done).writeTxnFn k v) :=
  congrArg Host.Outcome.next (hostReg_reaches h)
theorem exec_txnFetchStart (n : Fin 1048576) : exec (.txnFetchStart p k n) s = done ((s.answer .done).fetchStart k n) :=
  congrArg done (hostReg_reaches h)

end

/-- The end of a command that a slot's state does not take. -/
theorem done_opRefused {s : State} (hs : Settled s) (k : Fin 8) :
    done ((s.answer .done).opRefused k) = .next ((s.answer .done).opRefused k) := done_settled ((opRefused_shows s k .done).settled hs)

theorem hostAbort_refused {s : State} {k : Nat} (p : Port) (h : s.grave = true ∨ s.txnState k = txFREE) : s.hostAbort p k = s.opRefused k := by
  unfold State.hostAbort State.copyOfMate State.txnAbort
  rcases Bool.eq_false_or_eq_true s.grave with hg | hg
  · rw [if_pos hg]
  · have hf : s.txnState k = txFREE := h.resolve_left (by simp [hg])
    simp [hg, hf]

theorem hostAbort_over {s : State} {k : Nat} (p : Port) (hg : s.grave = false) (h : s.txnState k = txABORTED ∨ s.txnState k = txREFUSED) :
    s.hostAbort p k = s := by
  unfold State.hostAbort State.txnAbort
  rcases h with h | h <;> simp [hg, h, txABORTED, txREFUSED, txFREE]

/-- Settles O49, by the cases of a host's ABORT. -/
theorem abortsWithNothingToAbort : Obligations.AbortsWithNothingToAbort := by
  refine ⟨fun p k s hp hs hg h => ?_, fun p k s hp hs h => ?_⟩
  · rw [exec_txnAbort hp, hostAbort_over (s := s.answer .done) p hg h]
    exact done_settled ⟨hs.due, hs.health⟩
  · have shown := opRefused_shows s k .done
    rw [exec_txnAbort hp, hostAbort_refused (s := s.answer .done) p h, done_opRefused hs]
    exact ⟨_, rfl, shown.flag, shown.state, shown.regs⟩

-- CLOSE with ASAP (R89)

/-- What a commit frame passes R88 by. -/
theorem fnCheck_none {s : State} {k f : Nat} :
    s.fnCheck k f = none ↔ f % 4 = 0 ∧ s.leastLead k ≤ fnDelta s.fn f ∧ fnDelta s.fn f < 2 ^ 31 := by
  unfold State.fnCheck
  dsimp only
  split_ifs <;> simp <;> omega

theorem fn_lt (s : State) : s.fn < 2 ^ 32 := Nat.mod_lt _ (by decide)

theorem asapFn_lt (s : State) (k : Nat) : s.asapFn k < 2 ^ 32 := Nat.mod_lt _ (by decide)

/-- The frame that ASAP chooses passes R88. -/
theorem asapFn_passes {s : State} {k : Nat} (h : s.leastLead k + 3 < 2 ^ 31) : s.fnCheck k (s.asapFn k) = none := by
  have hfn := fn_lt s
  rw [fnCheck_none]
  unfold State.asapFn fnDelta
  omega

/-- No multiple of 4 that passes R88 comes before it. -/
theorem asapFn_first {s : State} {k : Nat} (h : s.leastLead k + 3 < 2 ^ 31) {f : Nat} (hf : f < 2 ^ 32) (hp : s.fnCheck k f = none) :
    fnDelta s.fn (s.asapFn k) ≤ fnDelta s.fn f := by
  have hfn := fn_lt s
  obtain ⟨halign, hlead, -⟩ := fnCheck_none.1 hp
  unfold State.asapFn fnDelta at *
  omega

theorem rd_tellClose (s : State) (k : Nat) (r : RegId) : (s.tellClose k).rd r = s.rd r := by
  unfold State.tellClose
  split <;> rfl

theorem slot_tellClose (s : State) (k j : Nat) : (s.tellClose k).slot j = s.slot j := by
  unfold State.tellClose
  split <;> rfl

theorem mirrored_congr {s t : State} {k : Nat} (h : t.rd (R.TXN_STATUS k) = s.rd (R.TXN_STATUS k)) : t.mirrored k = s.mirrored k := by
  unfold State.mirrored State.flag State.get; rw [h]

theorem leastLead_wr_fn (s : State) (k : Nat) (v : Word) : (s.wr (R.TXN_FN k) v).leastLead k = s.leastLead k := by
  have hm : (s.wr (R.TXN_FN k) v).mirrored k = s.mirrored k := mirrored_congr (rd_wr_ne _ _ (by simp))
  unfold State.leastLead State.buildBound
  rw [hm]; rfl

theorem fnCheck_wr_fn (s : State) (k f : Nat) (v : Word) : (s.wr (R.TXN_FN k) v).fnCheck k f = s.fnCheck k f := by
  unfold State.fnCheck
  rw [leastLead_wr_fn]; rfl

/-- A slot that CLOSE takes, with its commit frame in TXN_FN. -/
def State.closed (s : State) (k : Nat) : State :=
  (s.tellClose k).setTxn k (if (s.tellClose k).allBuilt k then txBUILT else txBUILDING)

theorem txnClose_eq {s : State} {k : Nat} (asap : Bool) (hg : s.grave = false) (ho : s.txnState k = txOPEN) (hc : s.copyOfMate k = false) :
    s.txnClose k asap = (let s1 := if asap then s.wr (R.TXN_FN k) (BitVec.ofNat 32 (s.asapFn k)) else s
      match s1.fnCheck k (s1.rd (R.TXN_FN k)).toNat with
      | some c => s1.refuseTxn k c
      | none => s1.closed k) := by
  unfold State.txnClose State.closed
  rw [if_neg (by simp [hg, ho, hc])]
  dsimp only
  generalize (if asap then s.wr (R.TXN_FN k) (BitVec.ofNat 32 (s.asapFn k)) else s) = s1
  cases s1.fnCheck k (s1.rd (R.TXN_FN k)).toNat with
  | some c => rfl
  | none => exact (apply_ite (State.setTxn _ k) _ _ _).symm

/-- What a slot shows that has been closed. -/
structure Closed (k : Fin 8) (s t : State) : Prop where
  state : t.txnState k = if (s.tellClose k).allBuilt k then txBUILT else txBUILDING
  slot : t.slot k = s.slot k
  fn : t.rd (R.TXN_FN k) = s.rd (R.TXN_FN k)
  mateOut : t.mateOut = (s.tellClose k).mateOut

theorem closed_shows (s : State) (k : Fin 8) : Closed k s (s.closed k) where
  state := by
    rw [State.closed, State.txnState, State.get, rd_setTxn_status, fget_fset_same _ _ _ (by decide)]
    split <;> rfl
  slot := by rw [State.closed, slot_setTxn, slot_tellClose]
  fn := by rw [State.closed, rd_setTxn_ne _ _ _ (by omega) (by omega) (by omega), rd_tellClose]
  mateOut := mateOut_setTxn _ _ _

theorem SlotStep.closed {k : Nat} (s : State) : SlotStep k s (s.closed k) := (SlotStep.tellClose s).trans (.setTxn _ _)

/-- Settles O48: the frame that ASAP chooses passes R88, and no multiple of 4 before it does. -/
theorem asapClosesAtTheFirstFrame : Obligations.AsapClosesAtTheFirstFrame := by
  intro p k s hp hs hg ho hc hl
  have toNat : (BitVec.ofNat 32 (s.asapFn k)).toNat = s.asapFn k := by rw [BitVec.toNat_ofNat, Nat.mod_eq_of_lt (asapFn_lt s k)]
  have passes : s.fnCheck k (s.asapFn k) = none := asapFn_passes hl
  have closes : (s.answer .done).txnClose k true = ((s.answer .done).wr (R.TXN_FN k) (BitVec.ofNat 32 (s.asapFn k))).closed k := by
    rw [txnClose_eq (s := s.answer .done) true hg ho hc]
    dsimp only
    rw [if_pos rfl, fnCheck_wr_fn, rd_wr_same]
    have passes' : (s.answer .done).fnCheck k (BitVec.ofNat 32 ((s.answer .done).asapFn k)).toNat = none :=
      (congrArg (s.fnCheck k) toNat).trans passes
    rw [passes']; rfl
  have step := (SlotStep.wr (s.answer .done) 0x104 0 (BitVec.ofNat 32 (s.asapFn k))).trans (.closed (k := k) _)
  have shown := closed_shows ((s.answer .done).wr (R.TXN_FN k) (BitVec.ofNat 32 (s.asapFn k))) k
  obtain ⟨t, ht, hslot, htxn, hsame⟩ := step.done hs.due
  have fn : t.rd (R.TXN_FN k) = BitVec.ofNat 32 (s.asapFn k) := by rw [hsame.rd _ _ (by omega), shown.fn, rd_wr_same]
  refine ⟨t, ?_, ?_, ?_, ?_, ?_, fun f _ hf => ?_, hslot.since, htxn⟩
  · rw [exec_txnCloseAsap hp, closes]; exact ht
  · rw [State.txnState, hsame.get_eq (by omega)]
    have st := shown.state
    unfold State.txnState at st
    rw [st]
    split
    · exact .inr rfl
    · exact .inl rfl
  · rw [hsame.slot_eq, shown.slot]; rfl
  · rw [fn, toNat]; exact (fnCheck_none.1 passes).1
  · rw [fn, toNat]; exact passes
  · rw [fn, toNat]; exact asapFn_first hl f.isLt hf

end Sys2Proof.Machine

/-! Diagnostic reads of the map (R98). -/

namespace Sys2Proof.Machine

theorem mapDiag_removed (s : State) (d : Nat) : (s.mapDiag.filter (fun e => e.1 != d)).find? (fun e => e.1 == d) = none := by
  rw [List.find?_eq_none]
  intro e he
  simpa using (List.mem_filter.1 he).2

/-- A GO that is not refused at once. -/
theorem diagGo_begins {s : State} {d sel : Nat} {a3 : Bool} {ta : TA} (h : s.diagErr d sel a3 ta = false) :
    s.diagGo d sel a3 ta = { s.wr (R.MAP_DIAG_CTRL d) (BitVec.ofNat 32 (2 ^ 25 * sel + egName a3 ta)) with
      mapDiag := (d, BitVec.ofNat 32 (2 ^ 25 * sel + egName a3 ta)) :: s.mapDiag.filter (fun e => e.1 != d) } := by
  unfold State.diagGo
  rw [if_neg (by simp [h])]

/-- A GO that is refused at once. -/
theorem diagGo_err {s : State} {d sel : Nat} {a3 : Bool} {ta : TA} (h : s.diagErr d sel a3 ta = true) :
    s.diagGo d sel a3 ta = { ((s.wr (R.MAP_DIAG_CTRL d) (BitVec.ofNat 32 (2 ^ 25 * sel + egName a3 ta))).put (R.MAP_DIAG_STATUS d)
      F.MAP_DIAG_STATUS_ERR 1).put (R.MAP_DIAG_STATUS d) F.MAP_DIAG_STATUS_DONE 1 with
        mapDiag := s.mapDiag.filter (fun e => e.1 != d) } := by
  unfold State.diagGo
  rw [if_pos h]

/-- What a GO of SEL shows (Table 04-20). -/
structure DiagBegun (d sel : Nat) (a3 : Bool) (ta : TA) (s t : State) : Prop where
  read : t.mapDiag.find? (fun e => e.1 == d) = some (d, BitVec.ofNat 32 (2 ^ 25 * sel + egName a3 ta))
  ctrl : t.rd (R.MAP_DIAG_CTRL d) = BitVec.ofNat 32 (2 ^ 25 * sel + egName a3 ta)
  regs : RegsOnly (fun r => r == R.MAP_DIAG_CTRL d) { s with mapDiag := t.mapDiag } t

theorem diagBegun_diagGo {s : State} {d sel : Nat} {a3 : Bool} {ta : TA} (h : s.diagErr d sel a3 ta = false) :
    DiagBegun d sel a3 ta s ((s.answer .done).diagGo d sel a3 ta) := by
  rw [diagGo_begins (s := s.answer .done) h]
  refine ⟨List.find?_cons_of_pos (by simp), rd_wr_same _ _ _, rfl, fun r hr => rd_wr_ne (s.answer .done) _ (by simpa using hr)⟩

/-- What a GO shows that is refused at once. -/
structure DiagErred (d : Nat) (s t : State) : Prop where
  err : t.flag (R.MAP_DIAG_STATUS d) F.MAP_DIAG_STATUS_ERR = true
  finished : t.flag (R.MAP_DIAG_STATUS d) F.MAP_DIAG_STATUS_DONE = true
  regs : RegsOnly (fun r => r == R.MAP_DIAG_CTRL d || r == R.MAP_DIAG_STATUS d) { s with mapDiag := t.mapDiag } t

theorem diagErred_diagGo {s : State} {d sel : Nat} {a3 : Bool} {ta : TA} (h : s.diagErr d sel a3 ta = true) :
    DiagErred d s ((s.answer .done).diagGo d sel a3 ta) := by
  rw [diagGo_err (s := s.answer .done) h]
  have shown (u : State) : ((u.put (R.MAP_DIAG_STATUS d) F.MAP_DIAG_STATUS_ERR 1).put (R.MAP_DIAG_STATUS d)
      F.MAP_DIAG_STATUS_DONE 1).flag (R.MAP_DIAG_STATUS d) F.MAP_DIAG_STATUS_ERR = true := by
    rw [flag_put_field _ _ _ (by decide), flag_put_same _ _ _ (by decide)]; rfl
  refine ⟨shown _, flag_put_same _ _ _ (by decide), rfl, fun r hr => ?_⟩
  simp only [Bool.or_eq_false_iff, beq_eq_false_iff_ne, ne_eq] at hr
  exact (rd_put_ne _ _ _ hr.2).trans ((rd_put_ne _ _ _ hr.2).trans (rd_wr_ne (s.answer .done) _ hr.1))

-- A read that completes

/-- The state in which a read completes with its words and its fields of STATUS. -/
def State.diagResult (s : State) (d : Nat) (ws : List Word) (cov : Bool) (claim : Nat) : State :=
  (((({ s with mapDiag := s.mapDiag.filter (fun e => e.1 != d) } : State).putData d ws).put (R.MAP_DIAG_STATUS d)
    F.MAP_DIAG_STATUS_COVERED (if cov then 1 else 0)).put (R.MAP_DIAG_STATUS d) F.MAP_DIAG_STATUS_CLAIM claim).put (R.MAP_DIAG_STATUS d)
    F.MAP_DIAG_STATUS_DONE 1

/-- DATA0 to DATA3 are apart from each other. -/
theorem rd_putData (s : State) (d : Nat) (ws : List Word) (i : Fin 4) : (s.putData d ws).rd (R.MAP_DIAG_DATA d i) = ws.getD i 0 := by
  unfold State.putData
  simp only [List.foldl_cons, List.foldl_nil]
  fin_cases i <;> simp [rd_wr]

theorem putData_regs (s : State) (d : Nat) (ws : List Word) :
    RegsOnly (fun r => r.blk == .map && r.inst == d && decide (0x14 ≤ r.off) && decide (r.off < 0x30)) s (s.putData d ws) := by
  unfold State.putData
  simp only [List.foldl_cons, List.foldl_nil]
  exact (((RegsOnly.wr _ _ (by simp)).trans (.wr _ _ (by simp))).trans (.wr _ _ (by simp))).trans (.wr _ _ (by simp))

/-- What a read shows that has completed. -/
structure DiagRead (d : Nat) (ws : List Word) (cov : Bool) (claim : Nat) (s t : State) : Prop where
  finished : t.flag (R.MAP_DIAG_STATUS d) F.MAP_DIAG_STATUS_DONE = true
  idle : t.mapDiag.find? (fun e => e.1 == d) = none
  data : ∀ i : Fin 4, t.rd (R.MAP_DIAG_DATA d i) = ws.getD i 0
  covered : t.flag (R.MAP_DIAG_STATUS d) F.MAP_DIAG_STATUS_COVERED = cov
  claim : t.get (R.MAP_DIAG_STATUS d) F.MAP_DIAG_STATUS_CLAIM = claim % 16
  regs : RegsOnly (fun r => r.blk == .map && r.inst == d && decide (0x14 ≤ r.off) && decide (r.off < 0x30)) { s with mapDiag := t.mapDiag } t

theorem diagRead_diagResult (s : State) (d : Nat) (ws : List Word) (cov : Bool) (claim : Nat) :
    DiagRead d ws cov claim s (s.diagResult d ws cov claim) where
  finished := flag_put_same _ _ _ (by decide)
  idle := mapDiag_removed s d
  data i := by
    have apart (u : State) (f : Fld) (v : Nat) : (u.put (R.MAP_DIAG_STATUS d) f v).rd (R.MAP_DIAG_DATA d i) = u.rd (R.MAP_DIAG_DATA d i) :=
      rd_put_ne _ _ _ (by simp; omega)
    rw [State.diagResult, apart, apart, apart, rd_putData]
  covered := by
    rw [State.diagResult, flag_put_field _ _ _ (by decide), flag_put_field _ _ _ (by decide), flag_put_same _ _ _ (by decide)]
    cases cov <;> rfl
  claim := by rw [State.diagResult, get_put_field _ _ (by decide), get_put_same _ _ (by decide)]; rfl
  regs := (((putData_regs _ d ws).trans (.put _ _ _ (by simp))).trans (.put _ _ _ (by simp))).trans (.put _ _ _ (by simp))

/-- The words of a read, by its SEL. -/
def State.diagWords (s : State) (sel : Nat) (a3 : Bool) (ta : TA) : List Word :=
  if sel ≤ 1 then entryWords ((if sel = 1 then s.shadowMap else s).covering a3 ta)
  else if sel = 2 then s.dispatchWords ta else s.gatherWords a3 ta

theorem diagDone_eq {s : State} {d : Nat} {w : Word} (h : s.mapDiag.find? (fun e => e.1 == d) = some (d, w)) :
    s.diagDone d = (let sel := bitsOf w 26 25; let a3 := w.toNat.testBit 24; let ta : TA := w.setWidth 24
      let m := if sel = 1 then s.shadowMap else s
      s.diagResult d (s.diagWords sel a3 ta)
        (decide (sel ≤ 1) && (m.entry (egName a3 ta)).isNone && (m.covering a3 ta).isSome) (if sel = 2 then 15 else s.claimant a3 ta)) := by
  unfold State.diagDone
  rw [h]; rfl

/-- A claim is named in 4 bits. -/
theorem claimant_lt (s : State) (a3 : Bool) (ta : TA) : s.claimant a3 ta < 16 := by
  have named (q : Nat → Bool) : ((List.range 8).find? q).getD 15 < 16 := by
    cases hf : (List.range 8).find? q with
    | none => decide
    | some k => exact Nat.lt_trans (List.mem_range.1 (List.mem_of_find?_eq_some hf)) (by decide)
  exact named _

/-- Settles O52: a GO begins a read or ends it with ERR, and a read that completes shows its words by SEL. -/
theorem mapEntriesAreRead : Obligations.MapEntriesAreRead := by
  refine ⟨fun p d a3 ta s hp => ?_, fun d w s hw => ?_⟩
  · intro begins
    have go (c : Instr) (sel : Nat) (hc : exec c s = .next ((s.answer .done).diagGo d sel a3 ta)) : begins c sel := by
      refine ⟨fun h => ?_, fun h => ?_⟩
      · obtain ⟨read, ctrl, regs⟩ := diagBegun_diagGo h
        exact ⟨_, hc, read, ctrl, regs⟩
      · obtain ⟨err, finished, regs⟩ := diagErred_diagGo h
        exact ⟨_, hc, err, finished, regs⟩
    exact ⟨go _ 0 (congrArg Host.Outcome.next (hostReg_reaches hp)), go _ 1 (congrArg Host.Outcome.next (hostReg_reaches hp)),
      go _ 2 (congrArg Host.Outcome.next (hostReg_reaches hp)), go _ 3 (congrArg Host.Outcome.next (hostReg_reaches hp))⟩
  · intro ta a3 sel m
    obtain ⟨t, ht, finished, idle, data, covered, claim, regs⟩ : ∃ t, exec (.mapDiagDone d) s = .next t ∧
        DiagRead d (s.diagWords sel a3 ta) (decide (sel ≤ 1) && (m.entry (egName a3 ta)).isNone && (m.covering a3 ta).isSome)
          (if sel = 2 then 15 else s.claimant a3 ta) s t :=
      ⟨_, congrArg Host.Outcome.next (diagDone_eq hw), diagRead_diagResult _ _ _ _ _⟩
    refine ⟨t, ht, finished, idle, fun r hsel hr => ?_, fun hsel hr => ?_, fun hsel => ?_, fun r hsel hr => ?_, fun hsel hr => ?_,
      claim.trans ?_, regs⟩
    · have words : s.diagWords sel a3 ta = entryWords (some r) := by rw [State.diagWords, if_pos hsel]; exact congrArg entryWords hr
      rw [words] at data
      refine ⟨data 0, data 1, data 2, data 3, covered.trans ?_⟩
      rw [hr]; simp [hsel]
    · have words : s.diagWords sel a3 ta = entryWords none := by rw [State.diagWords, if_pos hsel]; exact congrArg entryWords hr
      rw [words] at data
      exact ⟨data 0, data 1, data 2, data 3⟩
    · have words : s.diagWords sel a3 ta = s.dispatchWords ta := by rw [State.diagWords, if_neg (by omega), if_pos hsel]
      rw [words] at data
      refine ⟨(data 0).trans ?_, data 1⟩
      unfold State.dispatchWords
      cases s.unionHold.isEmpty <;> rfl
    · have words : s.diagWords sel a3 ta = s.gatherWords a3 ta := by rw [State.diagWords, if_neg (by omega), if_neg (by omega)]
      rw [words] at data
      refine (data 0).trans ?_
      rw [State.gatherWords, hr]; rfl
    · have words : s.diagWords sel a3 ta = s.gatherWords a3 ta := by rw [State.diagWords, if_neg (by omega), if_neg (by omega)]
      rw [words] at data
      refine (data 0).trans ?_
      rw [State.gatherWords, hr]; rfl
    · have := claimant_lt s a3 ta
      exact Nat.mod_eq_of_lt (by split <;> omega)

end Sys2Proof.Machine

/-!
Faults of the dies and the package: what events, and the retirements of a die's units, leave of transactions, and that they never end GRAVE
(R338, R346, R349).
-/

namespace Sys2Proof.Machine

-- What faults of a die leave

/-- The registers of the transactions, the event summary, and the count of PAIR.MIRROR. -/
def heldReg (r : RegId) : Bool :=
  (r.blk == .evtsum && r.off == 0) || (r.blk == .txn && decide (r.off < 0xf000))
    || (r.blk == .evt && (r.off == 0x208 || r.off == 0x20c) && r.inst == 1)

/-- The slots and their registers stand, and so does the count of PAIR.MIRROR; GRAVE does not end; what becomes due is a die's or the package's. -/
structure DieFault (s t : State) : Prop where
  stands : SlotsStand s t
  mirror : t.ctr (ctrEvTotal evPair srcMIRROR) = s.ctr (ctrEvTotal evPair srcMIRROR)
  grave : s.grave = true → t.grave = true
  due : ∀ u ∈ t.due, u ∈ s.due ∨ u.blk < 7

/-- Slots, what goes to the mate, the map and memory are those of another state. -/
structure SlotParts (s t : State) : Prop where
  txns : t.txns = s.txns := by rfl
  mateOut : t.mateOut = s.mateOut := by rfl
  unionHold : t.unionHold = s.unionHold := by rfl
  map : t.actMap = s.actMap := by rfl
  mem : t.mem = s.mem := by rfl

theorem DieFault.of_held {s t : State} (p : SlotParts s t) (hr : ∀ r, heldReg r = true → t.rd r = s.rd r) (hd : t.due = s.due) : DieFault s t where
  stands := ⟨p.txns, p.mateOut, p.unionHold, p.map, p.mem, fun o x ho => hr _ (by simp [heldReg, ho])⟩
  mirror := ctr_of_rd (hr _ rfl) (hr _ rfl)
  grave h := by unfold State.grave State.flag State.get at h ⊢; rwa [hr _ rfl]
  due u hu := .inl (hd ▸ hu)

theorem DieFault.of_regs {s t : State} (h : t.regs = s.regs) (p : SlotParts s t) (hd : t.due = s.due) : DieFault s t :=
  .of_held p (fun r _ => by unfold State.rd; rw [h]) hd

theorem DieFault.refl (s : State) : DieFault s s := .of_regs rfl {} rfl

theorem DieFault.trans {s t u : State} (h : DieFault s t) (g : DieFault t u) : DieFault s u where
  stands := h.stands.trans g.stands
  mirror := g.mirror.trans h.mirror
  grave hs := g.grave (h.grave hs)
  due x hx := (g.due x hx).elim (h.due x) .inr

/-- Changes besides the registers and the slots before a step. -/
theorem DieFault.since {s t u : State} (g : DieFault t u) (h : t.regs = s.regs) (p : SlotParts s t) (hd : t.due = s.due) : DieFault s u :=
  (DieFault.of_regs h p hd).trans g

theorem DieFault.ite {c : Prop} [Decidable c] {s t u : State} (h : DieFault s t) (g : DieFault s u) : DieFault s (if c then t else u) := by
  by_cases hc : c <;> simpa [hc]

theorem DieFault.foldl {α : Type} {f : State → α → State} : ∀ (l : List α), (∀ t, ∀ a ∈ l, DieFault t (f t a)) → ∀ s, DieFault s (l.foldl f s)
  | [], _, s => .refl s
  | a :: l, h, s => (h s a (by simp)).trans (DieFault.foldl l (fun t b hb => h t b (by simp [hb])) _)

theorem DieFault.wr (s : State) (r : RegId) (v : Word) (h : heldReg r = false) : DieFault s (s.wr r v) :=
  .of_held {} (fun q hq => rd_wr_ne s v (by rintro rfl; rw [h] at hq; cases hq)) rfl

theorem DieFault.put (s : State) (r : RegId) (f : Fld) (v : Nat) (h : heldReg r = false) : DieFault s (s.put r f v) := .wr s r _ h
theorem DieFault.clrBit (s : State) (r : RegId) (i : Nat) (h : heldReg r = false) : DieFault s (s.clrBit r i) := .wr s r _ h
theorem DieFault.setBit (s : State) (r : RegId) (i : Nat) (h : heldReg r = false) : DieFault s (s.setBit r i) := .wr s r _ h
theorem DieFault.startTimer (s : State) (k : TKey) (n : Nat) : DieFault s (s.startTimer k n) := .of_regs rfl {} rfl
theorem DieFault.startTimerNs (s : State) (k : TKey) (n : Nat) : DieFault s (s.startTimerNs k n) := .of_regs rfl {} rfl
theorem DieFault.stopTimer (s : State) (k : TKey) : DieFault s (s.stopTimer k) := .of_regs rfl {} rfl
theorem DieFault.drawn (s : State) : DieFault s s.drawn := .of_regs rfl {} rfl
theorem DieFault.withSafe (s : State) (l : List SafeForce) : DieFault s { s with safe := l } := .of_regs rfl {} rfl
theorem DieFault.answer (s : State) (c : Completion) : DieFault s (s.answer c) := .of_regs rfl {} rfl
theorem DieFault.withWbWait (s : State) (l : List WbWait) : DieFault s { s with wbWait := l } := .of_regs rfl {} rfl
theorem DieFault.setPour (s : State) (d j : Nat) (x : PourJob) : DieFault s (s.setPour d j x) := .of_regs rfl {} rfl
theorem DieFault.bankTouched (s : State) (d b : Nat) : DieFault s (s.bankTouched d b) := .of_regs rfl {} rfl

/-- Another field of the event summary than GRAVE, or GRAVE itself set. -/
theorem DieFault.putSum (s : State) {f : Fld} (v : Nat) (h : f.lo + f.w ≤ 31 ∨ (f = F.EVT_SUM_STATUS_GRAVE ∧ v = 1)) :
    DieFault s (s.put R.EVT_SUM_STATUS f v) where
  stands := ⟨rfl, rfl, rfl, rfl, rfl, fun _ _ _ => rd_put_ne _ _ _ (by simp)⟩
  mirror := ctr_of_rd (rd_put_ne _ _ _ (by simp [ctrEvTotal])) (rd_put_ne _ _ _ (by simp [ctrEvTotal]))
  grave hs := by
    rcases h with h | ⟨rfl, rfl⟩
    · unfold State.grave at hs ⊢
      rwa [flag_put_field _ _ _ (.inl h)]
    · exact flag_put_same _ _ _ (by decide)
  due _ hu := .inl hu

-- Events

theorem heldReg_cfg (b : Nat) {i : Nat} (h : i < 32) : heldReg (R.EVT_CFG b i) = false := by
  have hl : 0x100 + 8 * i ≠ 0x208 := by omega
  have hh : 0x100 + 8 * i ≠ 0x20c := by omega
  simp [heldReg, hl, hh]

theorem heldReg_detail (b i : Nat) : heldReg (R.EVT_DETAIL b i) = false := by
  have hl : 0x300 + 4 * i ≠ 0x208 := by omega
  have hh : 0x300 + 4 * i ≠ 0x20c := by omega
  simp [heldReg, hl, hh]

theorem heldReg_wrap (k : Blk) (x i : Nat) : heldReg (R.CNT_WRAP k x i) = false := by
  have hs : 0xf000 + 4 * i ≠ 0 := by omega
  have hl : 0xf000 + 4 * i ≠ 0x208 := by omega
  have hh : 0xf000 + 4 * i ≠ 0x20c := by omega
  simp [heldReg, hl, hh]

/-- The counts of a source other than PAIR.MIRROR. -/
theorem heldReg_total {b i : Nat} (h : ¬(b = evPair ∧ i = srcMIRROR)) :
    heldReg (ctrEvTotal b i).lo = false ∧ heldReg (ctrEvTotal b i).hi = false := by
  have h : ¬(b = 1 ∧ i = 1) := h
  constructor
  · simp only [heldReg, ctrEvTotal, Bool.or_eq_false_iff, Bool.and_eq_false_iff, beq_eq_false_iff_ne]
    simp
    omega
  · simp only [heldReg, ctrEvTotal, Bool.or_eq_false_iff, Bool.and_eq_false_iff, beq_eq_false_iff_ne]
    simp
    omega

theorem DieFault.msixTo (s : State) (p : Port) (v : Nat) : DieFault s (s.msixTo p v) := by
  unfold State.msixTo
  exact .ite (DieFault.since (.clrBit _ _ _ rfl) rfl {} rfl) (.setBit _ _ _ rfl)

theorem DieFault.evSend (s : State) (b : Nat) : DieFault s (s.evSend b) := by
  unfold State.evSend
  split
  · exact .msixTo _ _ _
  · exact .msixTo _ _ _
  · exact (DieFault.msixTo _ _ _).trans (.msixTo _ _ _)
  · exact .refl _

theorem DieFault.setPending (s : State) (b : Nat) : DieFault s (s.setPending b) := .ite (.refl _) ((DieFault.put _ _ _ _ rfl).trans (.evSend _ _))

theorem DieFault.addRaw (s : State) (c : Ctr) (n : Nat) (hl : heldReg c.lo = false) (hh : heldReg c.hi = false) :
    DieFault s (s.addRaw c n).1 := by
  have h : ∀ v, DieFault s (s.setCtr c v) := fun v => (DieFault.wr _ _ _ hh).trans (.wr _ _ _ hl)
  unfold State.addRaw
  dsimp only
  split
  · exact h _
  · exact (h _).trans (.setBit _ _ _ (heldReg_wrap _ _ _))

theorem DieFault.faultPulse (s : State) : DieFault s s.faultPulse := by
  have h : DieFault s (s.startTimerNs faultKey 2000) := .startTimerNs _ _ _
  exact .ite (.refl _) (.ite h (((h.trans (.putSum _ _ (.inl (by decide)))).trans (.putSum _ _ (.inl (by decide)))).trans (.addRaw _ _ _ rfl rfl)))

theorem DieFault.latchFirst (s : State) (b src cls : Nat) (d : Word) : DieFault s (s.latchFirst b src cls d) := by
  have h : DieFault s (if s.flag (R.EVT_FIRST0 b) F.EVT_FIRST0_VALID = true then s.put (R.EVT_FIRST0 b) F.EVT_FIRST0_OVF 1
      else s.latching b) := .ite (.put _ _ _ _ rfl) (.of_regs rfl {} rfl)
  exact .ite h ((((((h.trans (.put _ _ _ _ rfl)).trans (.put _ _ _ _ rfl)).trans (.put _ _ _ _ rfl)).trans (.wr _ _ _ rfl)).trans
    (.put _ _ _ _ rfl)).trans (.wr _ _ _ rfl))

theorem DieFault.latchPkgFirst (s : State) (b src cls : Nat) : DieFault s (s.latchPkgFirst b src cls) := by
  have h : DieFault s (if s.flag R.EVT_PKG_FIRST0 F.EVT_PKG_FIRST0_VALID = true then s.put R.EVT_PKG_FIRST0 F.EVT_PKG_FIRST0_OVF 1
      else s.latching 175) := .ite (.put _ _ _ _ rfl) (.of_regs rfl {} rfl)
  exact .ite h ((((((h.trans (.put _ _ _ _ rfl)).trans (.put _ _ _ _ rfl)).trans (.put _ _ _ _ rfl)).trans (.put _ _ _ _ rfl)).trans
    (.wr _ _ _ rfl)).trans (.put _ _ _ _ rfl))

theorem DieFault.enterGrave (s : State) (b src : Nat) : DieFault s (s.enterGrave b src) :=
  .ite (.refl _) ((((((DieFault.putSum _ _ (.inr ⟨rfl, rfl⟩)).trans (.putSum _ _ (.inl (by decide)))).trans
    (.putSum _ _ (.inl (by decide)))).trans (.wr _ _ _ rfl)).trans (.wr _ _ _ rfl)).trans (.put _ _ _ _ rfl))

theorem DieFault.clusterRuns (s : State) (b : Nat) (on : Bool) : DieFault s (s.clusterRuns b on) :=
  .ite (by cases on; exacts [.clrBit _ _ _ rfl, .setBit _ _ _ rfl]) (.refl _)

theorem DieFault.safeReact (s : State) (b src : Nat) (d : Word) : DieFault s (s.safeReact b src d) :=
  (DieFault.ite (c := s.fence = true) (.clusterRuns s b false) (.refl s)).trans (.withSafe _ _)

theorem DieFault.react (s : State) {b : Nat} (src cls : Nat) (d : Word) (hb : b < 7) : DieFault s (s.react b src cls d) := by
  have owes : DieFault s { s with due := s.due ++ [⟨b, src, d⟩] } := by
    refine ⟨⟨rfl, rfl, rfl, rfl, rfl, fun _ _ _ => rfl⟩, rfl, fun h => h, fun u hu => ?_⟩
    rcases List.mem_append.1 hu with hu | hu
    · exact .inl hu
    · obtain rfl := List.mem_singleton.1 hu; exact .inr hb
  exact .ite (.enterGrave _ _ _) (.ite (.safeReact _ _ _ _) (.ite (.ite owes (.safeReact _ _ _ _)) (.refl _)))

theorem DieFault.turnSevere (s : State) {b src : Nat} (hb : b < 7) (hs : src < 32) : DieFault s (s.turnSevere b src) := by
  have h : DieFault s ((((((((s.setBit (R.EVT_SEVERE b) src).put (R.EVT_CFG b src) F.EVT_CFG_WCOUNT 0).stopTimer
      (evWindowKey b src)).startTimer (evQuietKey b src) 0).latchFirst b src (s.get (R.EVT_CFG b src) F.EVT_CFG_CLASS)
      (s.rd (R.EVT_DETAIL b src))).latchPkgFirst b src (s.get (R.EVT_CFG b src) F.EVT_CFG_CLASS)).faultPulse).react b src
      (s.get (R.EVT_CFG b src) F.EVT_CFG_CLASS) (s.rd (R.EVT_DETAIL b src))) :=
    (((((((DieFault.setBit _ _ _ rfl).trans (.put _ _ _ _ (heldReg_cfg _ hs))).trans (.stopTimer _ _)).trans (.startTimer _ _ _)).trans
      (.latchFirst _ _ _ _ _)).trans (.latchPkgFirst _ _ _ _)).trans (.faultPulse _)).trans (.react _ _ _ _ hb)
  exact .ite (h.trans (.setPending _ _)) h

/-- An event, beside its count. -/
theorem DieFault.eventRaw (s : State) {b src : Nat} (d : Word) (tw : Bool) (hb : b < 7) (hs : src < 32) :
    DieFault (s.addRaw (ctrEvTotal b src) 1).1 (s.eventRaw b src d tw).1 := by
  unfold State.eventRaw
  dsimp only
  generalize (s.addRaw (ctrEvTotal b src) 1).1 = s0
  have h1 : DieFault s0 ((s0.setBit (R.EVT_STICKY b) src).wr (R.EVT_DETAIL b src) d) :=
    (DieFault.setBit _ _ _ rfl).trans (.wr _ _ _ (heldReg_detail _ _))
  generalize (s0.setBit (R.EVT_STICKY b) src).wr (R.EVT_DETAIL b src) d = s1 at h1 ⊢
  have h2 : DieFault s0 (if s1.bit (R.EVT_ENABLE b) src = true then s1.setPending b else s1) := .ite (h1.trans (.setPending _ _)) h1
  generalize (if s1.bit (R.EVT_ENABLE b) src = true then s1.setPending b else s1) = s2 at h2 ⊢
  split
  · exact h2.trans (.startTimer _ _ _)
  split
  · exact h2
  split
  · exact h2.trans (.turnSevere _ hb hs)
  · exact (h2.trans (.put _ _ _ _ (heldReg_cfg _ hs))).trans (.ite (.startTimer _ _ _) (.refl _))

theorem DieFault.skFire (s : State) (d j by_ : Nat) (ts : List Word) : DieFault s (s.skFire d j by_ ts) :=
  (((((DieFault.put _ _ _ _ rfl).trans (.put _ _ _ _ rfl)).trans (.put _ _ _ _ rfl)).trans (.wr _ _ _ rfl)).trans (.wr _ _ _ rfl)).trans
    (.wr _ _ _ rfl)

/-- A source of a die or of the package, other than PAIR.MIRROR. -/
def dieSource (b src : Nat) : Prop := b < 7 ∧ src < 32 ∧ ¬(b = evPair ∧ src = srcMIRROR)

/-- A source of die d. -/
theorem dieSource_die {d src : Nat} (hd : d < 4) (hs : src < 32 := by decide) : dieSource (evDie d) src :=
  ⟨by unfold evDie; omega, hs, fun h => absurd h.1 (by unfold evDie evPair; omega)⟩

/-- What events bring about are events of the package and of the dies' Skimmers. -/
theorem dieSource_caused {s : State} {w : Bool} {kind : Nat} {p : Nat → Nat → Bool} {e : Nat × Nat × Word × Bool}
    (he : e ∈ (if w then [(evPkg, srcCNT_WRAP, (0 : Word), true)] else []) ++
      (s.skWaiting kind p).flatMap (fun e => [(evDie e.1, srcSKIM, (0 : Word), true), (evDie e.1, srcSKIM, (0 : Word), true)])) :
    dieSource e.1 e.2.1 := by
  rcases List.mem_append.1 he with he | he
  · cases w
    · simp at he
    · obtain rfl : e = (evPkg, srcCNT_WRAP, (0 : Word), true) := by simpa using he
      exact ⟨by decide, by decide, by decide⟩
  · obtain ⟨x, hx, hx2⟩ := List.mem_flatMap.1 he
    obtain rfl : e = (evDie x.1, srcSKIM, (0 : Word), true) := by simpa using hx2
    have hd := skWaiting_die hx
    exact dieSource_die hd (src := srcSKIM)

theorem DieFault.eventLoop : ∀ (n : Nat) (l : List (Nat × Nat × Word × Bool)) (s : State), (∀ e ∈ l, dieSource e.1 e.2.1) →
    DieFault s (State.eventLoop n l s)
  | 0, _, s, _ => by unfold State.eventLoop; exact .refl s
  | n + 1, [], s, _ => by unfold State.eventLoop; exact .refl s
  | n + 1, (b, src, d, tw) :: l, s, h => by
    obtain ⟨hb, hs, hm⟩ : dieSource b src := h (b, src, d, tw) (by simp)
    unfold State.eventLoop
    refine ((((DieFault.addRaw s _ 1 (heldReg_total hm).1 (heldReg_total hm).2).trans (.eventRaw s d tw hb hs)).trans
      (.foldl _ (fun t e _ => (DieFault.drawn t).trans (.skFire _ _ _ _ _)) _))).trans (DieFault.eventLoop n _ _ fun e he => ?_)
    rcases List.mem_append.1 he with he | he
    · exact h e (by simp [he])
    · exact dieSource_caused he

theorem DieFault.event' (s : State) {b src : Nat} (d : Word) (tw : Bool) (h : dieSource b src) : DieFault s (s.event' b src d tw) :=
  .eventLoop _ _ _ (by simpa using h)
theorem DieFault.event (s : State) {b src : Nat} (d : Word) (h : dieSource b src) : DieFault s (s.event b src d) := .event' s d true h
theorem DieFault.ev (s : State) {b src : Nat} (h : dieSource b src) : DieFault s (s.ev b src) := .event s 0 h

/-- An event on PAIR.MIRROR, beside its count. -/
theorem DieFault.evMirror (s : State) : DieFault (s.addRaw (ctrEvTotal evPair srcMIRROR) 1).1 (s.ev evPair srcMIRROR) := by
  show DieFault _ (State.eventLoop (255 + 1) [(evPair, srcMIRROR, 0, true)] s)
  unfold State.eventLoop
  exact ((DieFault.eventRaw s 0 true (by decide) (by decide)).trans (.foldl _ (fun t e _ => (DieFault.drawn t).trans (.skFire _ _ _ _ _)) _)).trans
    (.eventLoop _ _ _ fun e he => dieSource_caused he)

theorem DieFault.addCtr (s : State) (c : Ctr) (n : Nat) (hl : heldReg c.lo = false) (hh : heldReg c.hi = false) :
    DieFault s (s.addCtr c n) := by
  have h := DieFault.addRaw s c n hl hh
  unfold State.addCtr
  generalize s.addRaw c n = p at h ⊢
  exact .ite (h.trans (.ev _ ⟨by decide, by decide, by decide⟩)) h

theorem DieFault.liveOn (s : State) {b src : Nat} (hb : b < 7) (hs : src < 32) : DieFault s (s.liveOn b src) :=
  .ite (.refl _) (.ite ((DieFault.setBit _ _ _ rfl).trans (.turnSevere _ hb hs)) (.setBit _ _ _ rfl))

theorem DieFault.leaveSevere (s : State) (b src : Nat) : DieFault s (s.leaveSevere b src) :=
  ((DieFault.clrBit s (R.EVT_SEVERE b) src rfl).trans (.stopTimer _ _)).trans (.withSafe _ _)

-- Retirements of a die's units

theorem heldReg_seamLane (d k i : Nat) : heldReg (seamLane d k i).1 = false := by
  unfold seamLane
  split_ifs <;> rfl

theorem DieFault.retireLane (s : State) {d : Nat} (k i : Nat) (hd : d < 4) : DieFault s (s.retireLane d k i) := by
  unfold State.retireLane
  refine .ite (.refl _) ?_
  dsimp only
  have h1 : DieFault s (s.setBit (seamLane d k i).1 (seamLane d k i).2) := .setBit _ _ _ (heldReg_seamLane _ _ _)
  generalize s.setBit (seamLane d k i).1 (seamLane d k i).2 = s1 at h1 ⊢
  have h2 : DieFault s (((s1.put (R.SEAM_STATUS d k) F.SEAM_STATUS_LANES_OK (s1.lanesOk d k)).put (R.SEAM_STATUS d k)
      F.SEAM_STATUS_SPARE_USED (s1.sparesUsed d k)).put (R.DIE_UNIT_STATE d) (dieSpareFld k) (s1.sparesUsed d k)) :=
    ((h1.trans (.put _ _ _ _ rfl)).trans (.put _ _ _ _ rfl)).trans (.put _ _ _ _ rfl)
  have source : dieSource (evDie d) srcSEAM_DOWN := dieSource_die hd
  exact .ite (((h2.trans (.put _ _ _ _ rfl)).trans (.event _ _ source)).trans (.liveOn _ source.1 source.2.1)) h2

theorem DieFault.sieveAbandon (s : State) (d b : Nat) : DieFault s (s.sieveAbandon d b) := by
  have he : DieFault s (s.sieveEnd d b) :=
    .ite (((DieFault.put _ _ _ _ rfl).trans (.put _ _ _ _ rfl)).trans (.put _ _ _ _ rfl)) (.put _ _ _ _ rfl)
  have h : DieFault s ((s.sieveEnd d b).setSieveAt d b 0) := he.trans (.of_regs rfl {} rfl)
  exact .ite (h.trans (.addCtr _ _ _ rfl rfl)) (.ite h (.refl _))

theorem DieFault.bankUse (s : State) (d b : Nat) : DieFault s (s.bankUse d b) :=
  (DieFault.ite (c := s.flag (R.WB_OWN d b) F.WB_OWN_ON_LOAN = true) (.sieveAbandon s d b) (.refl s)).trans (.bankTouched _ _ _)

theorem DieFault.pourBank (s : State) {d : Nat} (b : Nat) (hd : d < 4) : DieFault s (s.pourBank d b) := by
  have h : ∀ (t : State) (j c : Nat), DieFault t (t.pourEnd d j c) := fun t j c =>
    .ite (.refl _) ((((DieFault.setPour _ _ _ _).trans (.put _ _ _ _ rfl)).trans (.put _ _ _ _ rfl)).trans (.ev _ (dieSource_die hd)))
  exact .foldl _ (fun _ _ _ => .ite (h _ _ _) (.refl _)) _

theorem DieFault.bankViol (s : State) (m : Nat) {d : Nat} (b : Nat) (hd : d < 4) : DieFault s (s.bankViol m d b) :=
  ((((DieFault.addCtr _ _ _ rfl rfl).trans (.put _ _ _ _ rfl)).trans (.put _ _ _ _ rfl)).trans (.put _ _ _ _ rfl)).trans
    (.event' _ _ _ (dieSource_die hd))

theorem DieFault.mxRetire (s : State) (m i : Nat) : DieFault s (s.mxRetire m i) := (DieFault.put _ _ _ _ rfl).since rfl {} rfl

theorem DieFault.failBank (s : State) {d : Nat} (b : Nat) (hd : d < 4) : DieFault s (s.failBank d b) :=
  (DieFault.withWbWait _ _).trans
    (.foldl _ (fun _ _ _ => (DieFault.mxRetire _ _ _).trans ((DieFault.bankViol _ _ _ hd).trans (.answer _ _))) _)

theorem DieFault.retireBank (s : State) {d : Nat} (b : Nat) (hd : d < 4) : DieFault s (s.retireBank d b) :=
  .ite (.refl _) (((((((DieFault.sieveAbandon _ _ _).trans (.pourBank _ _ hd)).trans (.put _ _ _ _ rfl)).trans (.put _ _ _ _ rfl)).trans
    (.put _ _ _ _ rfl)).trans (.stopTimer _ _)).trans (.failBank _ _ hd))

theorem DieFault.spareRow (s : State) {d : Nat} (hd : d < 4) : DieFault s (s.spareRow d) :=
  .ite (.put _ _ _ _ rfl) (.event' _ _ _ (dieSource_die hd))

theorem DieFault.retireTarget (s : State) {u : Due} (hu : u.blk < 7) : DieFault s (s.retireTarget u) := by
  have hd : u.blk - 3 < 4 := by omega
  unfold State.retireTarget
  dsimp only
  refine .trans (.trans (t := if u.blk < 7 then _ else _) ?_ (.ite (.safeReact _ _ _ _) (.refl _))) (.leaveSevere _ _ _)
  rw [if_pos hu]
  exact .ite (.retireLane _ _ _ hd) (.ite (.retireBank _ _ hd) (.ite (.retireBank _ _ hd) (.spareRow _ hd)))

theorem DieFault.settleN : ∀ (n : Nat) (s : State), (∀ u ∈ s.due, u.blk < 7) → DieFault s (State.settleN n s)
  | 0, s, _ => .refl s
  | n + 1, s, h => by
    unfold State.settleN
    split
    · exact .refl s
    next u l hl =>
      have first : u.blk < 7 := h u (by simp [hl])
      have rest : ∀ x ∈ l, x.blk < 7 := fun x hx => h x (by simp [hl, hx])
      have taken : DieFault s { s with due := l } :=
        ⟨⟨rfl, rfl, rfl, rfl, rfl, fun _ _ _ => rfl⟩, rfl, fun g => g, fun x hx => .inl (by rw [hl]; exact List.mem_cons_of_mem _ hx)⟩
      have step := DieFault.retireTarget { s with due := l } first
      exact (taken.trans step).trans (DieFault.settleN n _ fun x hx => (step.due x hx).elim (rest x) id)

theorem DieFault.graveHealth (s : State) : DieFault s s.graveHealth := by
  have h : ∀ t : State, DieFault t t.updHealth := fun t =>
    .ite (.put _ _ _ _ rfl) (((DieFault.put _ _ _ _ rfl).trans (.put _ _ _ _ rfl)).trans (.ev _ ⟨by decide, by decide, by decide⟩))
  exact .ite ((h { s with syncOut := false }).since rfl {} rfl) (.refl _)

/-- The end of a command after which retirements of a die's units alone are due. -/
theorem done_dieFault {s : State} (h : ∀ u ∈ s.due, u.blk < 7) : ∃ t, done s = .next t ∧ DieFault s t :=
  ⟨_, rfl, (DieFault.settleN _ _ h).trans (.graveHealth _)⟩

end Sys2Proof.Machine

/-!
What a record is checked against (R95), and what the operations of a slot leave of it: a slot's own record and register set are no part of it.
-/

namespace Sys2Proof.Machine

/-- What the records of slot k are checked against is the same in both states. -/
structure AdmSame (k : Nat) (s t : State) : Prop where
  pers : t.pers = s.pers
  depth : t.depth = s.depth
  unretire : t.unretire = s.unretire
  failed : t.rgFailed = s.rgFailed
  applying : t.applying = s.applying
  map : t.actMap = s.actMap
  merges : t.merges = s.merges
  line : ∀ b i o, (b = .lu ∨ b = .region) → o < 0xf000 → t.rd ⟨b, i, o, 0⟩ = s.rd ⟨b, i, o, 0⟩
  retired : ∀ d, t.rd (R.DIE_UNIT_RETIRE d) = s.rd (R.DIE_UNIT_RETIRE d)
  power : ∀ d i, 22 ≤ i → t.bit (R.DIE_UNIT_STATE d) i = s.bit (R.DIE_UNIT_STATE d) i
  status : ∀ j, j < 8 → j ≠ k → t.rd (R.TXN_STATUS j) = s.rd (R.TXN_STATUS j)
  slots : ∀ j, j ≠ k → t.slot j = s.slot j

section
variable {k : Nat} {s t : State}

theorem AdmSame.trans {u : State} (h : AdmSame k s t) (g : AdmSame k t u) : AdmSame k s u where
  pers := g.pers.trans h.pers
  depth := g.depth.trans h.depth
  unretire := g.unretire.trans h.unretire
  failed := g.failed.trans h.failed
  applying := g.applying.trans h.applying
  map := g.map.trans h.map
  merges := g.merges.trans h.merges
  line b i o hb ho := (g.line b i o hb ho).trans (h.line b i o hb ho)
  retired d := (g.retired d).trans (h.retired d)
  power d i hi := (g.power d i hi).trans (h.power d i hi)
  status j hj hk := (g.status j hj hk).trans (h.status j hj hk)
  slots j hj := (g.slots j hj).trans (h.slots j hj)

theorem txnReg_line {b : Blk} {i o : Nat} (hb : b = .lu ∨ b = .region) (ho : o < 0xf000) : txnReg ⟨b, i, o, 0⟩ = false := by
  rcases hb with rfl | rfl <;> simp [txnReg, noteReg, evReg, ho]

/-- A command about slot k leaves what its records are checked against. -/
theorem AdmSame.of_step (h : SlotStep k s t) (hp : TallyKept s t) : AdmSame k s t where
  pers := by rw [h.txn.rest]
  depth := by rw [h.txn.rest]
  unretire := by rw [h.txn.rest]
  failed := by rw [h.txn.rest]
  applying := by rw [h.txn.rest]
  map := by rw [h.txn.rest]
  merges := by rw [h.txn.rest]
  line b i o hb ho := h.txn.regs _ (txnReg_line hb ho)
  retired d := h.txn.regs _ rfl
  power := hp.power
  status j hj hk := h.slot.regs _ rfl (by simp; omega) (by simp; omega)
  slots := h.slot.slots

end

section
variable {k : Nat} {s t : State} (h : AdmSame k s t)
include h

theorem AdmSame.lu_get {n o : Nat} (ho : o < 0xf000) (f : Fld) : t.get ⟨.lu, n, o, 0⟩ f = s.get ⟨.lu, n, o, 0⟩ f := by
  unfold State.get; rw [h.line _ _ _ (.inl rfl) ho]

theorem AdmSame.region_rd {n o : Nat} (ho : o < 0xf000) : t.rd ⟨.region, n, o, 0⟩ = s.rd ⟨.region, n, o, 0⟩ :=
  h.line _ _ _ (.inr rfl) ho

theorem AdmSame.persOf_eq (n : Nat) : t.persOf n = s.persOf n := by unfold State.persOf; rw [h.pers]

theorem AdmSame.nLink_eq (n : Nat) : t.nLink n = s.nLink n := by
  unfold State.nLink State.rateCode State.rateUnder State.flag
  rw [h.persOf_eq, h.lu_get (by decide), h.lu_get (by decide)]

/-- Bits 22 and 23 of a die's unit state. -/
theorem AdmSame.regionPowered_eq (g : Nat) : t.regionPowered g = s.regionPowered g := by
  unfold State.regionPowered State.get
  rw [testBit_fget, testBit_fget]
  have same := h.power (g / 2) (22 + g % 2) (by omega)
  rw [bit_eq, bit_eq] at same
  simp only [BitVec.testBit_toNat]
  rw [same]

theorem AdmSame.retiredLU_eq (n : Nat) : t.retiredLU n = s.retiredLU n := by
  unfold State.retiredLU State.bit
  rw [h.retired, h.unretire]

theorem AdmSame.underRebench_eq (g : Nat) : t.underRebench g = s.underRebench g := by
  unfold State.underRebench
  rw [h.failed, h.applying]

theorem AdmSame.srcExists_eq (x : TA) (nc : Nat) : t.srcExists x nc = s.srcExists x nc := by
  have aug : taAug x < 64 := Nat.mod_lt _ (by decide)
  have h0 : 0x800 + 0x8 * taAug x < 0xf000 := by omega
  have h1 : 0x804 + 0x8 * taAug x < 0xf000 := by omega
  unfold State.srcExists
  dsimp only
  simp only [h.lu_get h0, h.lu_get h1]

theorem AdmSame.srcHead_eq (x : TA) : t.srcHead x = s.srcHead x := by
  have aug : taAug x < 64 := Nat.mod_lt _ (by decide)
  unfold State.srcHead
  dsimp only
  simp only [h.lu_get (o := 0x800 + 0x8 * taAug x) (by omega)]

theorem AdmSame.mspLink_eq (g c : Nat) {i : Nat} (hi : i < 8) : t.mspLink g i c = s.mspLink g i c := by
  unfold State.mspLink State.get
  rw [h.region_rd (by omega), h.region_rd (by omega), h.region_rd (by omega)]

theorem AdmSame.mspOf_eq (states : List Nat) (n : Nat) : t.mspOf states n = s.mspOf states n := by
  unfold State.mspOf
  refine findSome?_congr fun i hi => ?_
  have hi := List.mem_range.1 hi
  unfold State.mspState State.mspChannel State.mspN State.get
  rw [h.region_rd (by omega), h.region_rd (by omega)]
  simp only [h.mspLink_eq _ _ hi]

theorem AdmSame.txnClaims_eq {j : Nat} (hj : j < 8) (hk : j ≠ k) : t.txnClaims j = s.txnClaims j := by
  unfold State.txnClaims State.txnLive State.txnState State.flag State.get
  rw [h.status j hj hk]

/-- What the records of the slot are checked against. -/
theorem AdmSame.adm_eq : t.adm k = s.adm k := by
  have others : ((List.range 8).filter (fun j => j != k && t.txnClaims j)).flatMap (fun j => (t.slot j).recs) =
      ((List.range 8).filter (fun j => j != k && s.txnClaims j)).flatMap (fun j => (s.slot j).recs) := by
    have claims : (List.range 8).filter (fun j => j != k && t.txnClaims j) = (List.range 8).filter (fun j => j != k && s.txnClaims j) := by
      refine List.filter_congr fun j hj => ?_
      by_cases hk : j = k
      · simp [hk]
      · rw [h.txnClaims_eq (List.mem_range.1 hj) hk]
    rw [claims]
    refine List.flatMap_congr fun j hj => ?_
    rw [h.slots j (by simpa using (Bool.and_eq_true_iff.1 (List.mem_filter.1 hj).2).1)]
  have msp (n : Nat) : (t.mspOf [2] n).map (fun m => (t.arch1n m.1 m.2.1, m.2.2)) = (s.mspOf [2] n).map (fun m => (s.arch1n m.1 m.2.1, m.2.2)) := by
    rw [h.mspOf_eq]
    refine Option.map_congr fun m hm => ?_
    obtain ⟨g, i, c⟩ := m
    have hi : i < 8 := mspOf_lt hm
    unfold State.arch1n State.flag State.get
    dsimp only
    rw [h.region_rd (by omega)]
  unfold State.adm
  rw [others]
  simp only [Adm.mk.injEq]
  exact ⟨funext h.persOf_eq, funext h.nLink_eq, funext h.regionPowered_eq, funext h.retiredLU_eq, funext h.underRebench_eq,
    by unfold State.depthOf; rw [h.depth], by unfold State.entries; rw [h.map], h.merges, trivial,
    funext fun x => funext (h.srcExists_eq x), funext h.srcHead_eq, funext msp⟩

end
end Sys2Proof.Machine

/-! Records of a slot, and a slot that is built: what APPEND and the entry to BUILT do (R85, R87, R95). -/

namespace Sys2Proof.Machine

section
variable (s : State) (k : Fin 8)

/-- A change of state that is not terminal is no event (R97). -/
theorem setTxn_low {st : Nat} (h : st < 5) :
    s.setTxn k st = (s.put (R.TXN_STATUS k) F.TXN_STATUS_STATE st).wr (R.TXN_EVENT_FN k) (BitVec.ofNat 32 s.fn) := by
  unfold State.setTxn
  exact if_neg (by omega)

theorem grave_setTxn {st : Nat} (h : st < 5) : (s.setTxn k st).grave = s.grave := by
  rw [setTxn_low s k h]
  unfold State.grave State.flag State.get
  rw [rd_wr_ne _ _ (by simp), rd_put_ne _ _ _ (by simp)]

theorem txnState_setTxn {st : Nat} (h : st < 16) : (s.setTxn k st).txnState k = st := by
  rw [State.txnState, State.get, rd_setTxn_status, fget_fset_same _ _ _ (by decide)]
  exact Nat.mod_eq_of_lt h

theorem flag_setTxn (st : Nat) {f : Fld} (h : F.TXN_STATUS_STATE.apart f = true) :
    (s.setTxn k st).flag (R.TXN_STATUS k) f = s.flag (R.TXN_STATUS k) f := by
  rw [State.flag, State.flag, State.get, State.get, rd_setTxn_status, fget_fset_apart _ _ h]

@[simp] theorem mirrored_setTxn (st : Nat) : (s.setTxn k st).mirrored k = s.mirrored k := flag_setTxn s k st (by decide)
@[simp] theorem originMate_setTxn (st : Nat) : (s.setTxn k st).originMate k = s.originMate k := flag_setTxn s k st (by decide)

theorem allBuilt_congr {s t : State} {k : Nat} (hs : t.slot k = s.slot k) (hm : t.mirrored k = s.mirrored k)
    (ho : t.originMate k = s.originMate k) : t.allBuilt k = s.allBuilt k := by
  unfold State.allBuilt State.fetching
  rw [hs, hm, ho]

theorem allBuilt_setTxn (st : Nat) : (s.setTxn k st).allBuilt k = s.allBuilt k := allBuilt_congr (by simp) (by simp) (by simp)

-- The entry to BUILT

theorem tryBuilt_eq {s : State} {k : Nat} (h : s.txnState k = txBUILDING) (hg : s.grave = false) : s.tryBuilt k = if s.allBuilt k then
    (if (s.setTxn k txBUILT).mirrored k && (s.setTxn k txBUILT).originMate k then (s.setTxn k txBUILT).toMate (.built k) else s.setTxn k txBUILT)
    else s := by
  unfold State.tryBuilt
  cases s.allBuilt k
  · exact if_neg (by simp)
  · exact if_pos ⟨h, rfl, by simp [hg]⟩

theorem txnState_tryBuilt {s : State} {k : Fin 8} (h : s.txnState k = txBUILDING) (hg : s.grave = false) :
    (s.tryBuilt k).txnState k = if s.allBuilt k then txBUILT else txBUILDING := by
  have built : (s.setTxn k txBUILT).txnState k = txBUILT := txnState_setTxn s k (by decide)
  rw [tryBuilt_eq h hg]
  generalize s.setTxn k txBUILT = u at built ⊢
  cases s.allBuilt k
  · simpa using h
  · simp only [if_true]
    split
    · exact built
    · exact built

theorem tryBuilt_other {s : State} {k : Nat} (h : s.txnState k ≠ txBUILDING) : s.tryBuilt k = s := by
  unfold State.tryBuilt
  exact if_neg (fun g => h g.1)

/-- Entering BUILT is a change of state, and a message. -/
theorem tryBuilt_stands : SlotsStand s ((s.tryBuilt k)) ∨ SlotsStand ((s.setTxn k txBUILT)) (s.tryBuilt k) ∨
    SlotsStand ((s.setTxn k txBUILT).toMate (.built k)) (s.tryBuilt k) := by
  unfold State.tryBuilt
  split
  · dsimp only
    split
    · exact .inr (.inr (.refl _))
    · exact .inr (.inl (.refl _))
  · exact .inl (.refl _)

@[simp] theorem slot_tryBuilt (j : Nat) : (s.tryBuilt k).slot j = s.slot j := by
  rcases tryBuilt_stands s k with h | h | h
  · exact h.slot_eq j
  · rw [h.slot_eq, slot_setTxn]
  · rw [h.slot_eq, slot_toMate, slot_setTxn]

theorem rd_tryBuilt_ne {o x : Nat} (ho : o < 0xf000) (hs : o ≠ 0x108 + 0x40 * k) (he : o ≠ 0x130 + 0x40 * k) :
    (s.tryBuilt k).rd ⟨.txn, 0, o, x⟩ = s.rd ⟨.txn, 0, o, x⟩ := by
  rcases tryBuilt_stands s k with h | h | h
  · exact h.rd _ _ ho
  · rw [h.rd _ _ ho, rd_setTxn_ne _ _ _ ho hs he]
  · rw [h.rd _ _ ho, rd_toMate, rd_setTxn_ne _ _ _ ho hs he]

-- Records

/-- What a slot shows that has taken a record, before its copy is told. -/
structure Appended (k : Fin 8) (r : Rec) (s t : State) : Prop where
  slot : t.slot k = { s.slot k with recs := (s.slot k).recs ++ [r], unbuilt := (s.slot k).unbuilt + 1 }
  count : t.get (R.TXN_COUNT k) F.TXN_COUNT_RECORDS = ((s.slot k).recs.length + 1) % 2 ^ 20
  mateOut : t.mateOut = if s.mirrored k && !s.originMate k then .record k r :: s.mateOut else s.mateOut
  rest : ∀ o x : Nat, o < 0xf000 → o ≠ 0x10c + 0x40 * k → t.rd ⟨.txn, 0, o, x⟩ = s.rd ⟨.txn, 0, o, x⟩
  step : SlotStep k s t

/-- The record in its slot and in COUNT. -/
def State.recordIn (s : State) (k : Nat) (r : Rec) : State :=
  (s.setSlot k { s.slot k with recs := (s.slot k).recs ++ [r], unbuilt := (s.slot k).unbuilt + 1 }).put (R.TXN_COUNT k) F.TXN_COUNT_RECORDS
    ((s.slot k).recs.length + 1)

theorem append_admits {s : State} {k : Nat} {r : Rec} {fetched : Bool} (ht : s.takesRec k fetched = true)
    (hc : (s.adm k).check (s.slot k).recs r = none) : s.append k r fetched =
      (if (s.recordIn k r).mirrored k && !(s.recordIn k r).originMate k then (s.recordIn k r).toMate (.record k r) else s.recordIn k r).updQueue := by
  unfold State.append
  rw [if_neg (by simp [ht])]
  dsimp only
  rw [hc]; rfl

theorem append_refuses {s : State} {k : Nat} {r : Rec} {fetched : Bool} {c : Nat} (ht : s.takesRec k fetched = true)
    (hc : (s.adm k).check (s.slot k).recs r = some c) (hg : s.grave = false) :
    s.append k r fetched = s.refuseRec k c (s.slot k).recs.length := by
  unfold State.append
  rw [if_neg (by simp [ht])]
  dsimp only
  rw [hc]
  exact if_neg (by simp [hg])

theorem append_discards {s : State} {k : Nat} {r : Rec} {fetched : Bool} (ht : s.takesRec k fetched = false) :
    s.append k r fetched = s.discard k := by
  unfold State.append
  exact if_pos (by simp [ht])

theorem appended_append {s : State} {k : Fin 8} {r : Rec} {fetched : Bool} (ht : s.takesRec k fetched = true)
    (hc : (s.adm k).check (s.slot k).recs r = none) : Appended k r s (s.append k r fetched) := by
  have status : (s.recordIn k r).rd (R.TXN_STATUS k) = s.rd (R.TXN_STATUS k) := by
    rw [State.recordIn, rd_put_ne _ _ _ (by simp), rd_setSlot]
  have mirrored : (s.recordIn k r).mirrored k = s.mirrored k := mirrored_congr status
  have origin : (s.recordIn k r).originMate k = s.originMate k := by
    unfold State.originMate State.flag State.get; rw [status]
  have slot : (s.recordIn k r).slot k = { s.slot k with recs := (s.slot k).recs ++ [r], unbuilt := (s.slot k).unbuilt + 1 } := by
    rw [State.recordIn, slot_put, slot_setSlot_same]
  have count : (s.recordIn k r).get (R.TXN_COUNT k) F.TXN_COUNT_RECORDS = ((s.slot k).recs.length + 1) % 2 ^ 20 :=
    get_put_same _ _ (by decide)
  have rest : ∀ o x : Nat, o ≠ 0x10c + 0x40 * k → (s.recordIn k r).rd ⟨.txn, 0, o, x⟩ = s.rd ⟨.txn, 0, o, x⟩ := fun o x ho => by
    rw [State.recordIn, rd_put_ne _ _ _ (by simp [ho]), rd_setSlot]
  have step : SlotStep k s (s.recordIn k r) := (SlotStep.setSlot s _).trans (.put _ 0x10c 0 _ _)
  have out : (s.recordIn k r).mateOut = s.mateOut := rfl
  rw [append_admits ht hc, mirrored, origin]
  generalize s.recordIn k r = u at slot count rest step out ⊢
  have queued := SlotsStand.updQueue (if s.mirrored k && !s.originMate k then u.toMate (.record k r) else u)
  have steps : SlotStep k u (if s.mirrored k && !s.originMate k then u.toMate (.record k r) else u) := .ite (.toMate _ _) (.refl _)
  have same : ∀ r', (if s.mirrored k && !s.originMate k then u.toMate (.record k r) else u).rd r' = u.rd r' := fun r' => by
    split <;> rfl
  refine ⟨?_, ?_, ?_, fun o x ho hne => ?_, (step.trans steps).trans (.updQueue _)⟩
  · rw [queued.slot_eq, ← slot]; split <;> rfl
  · rw [queued.get_eq (by omega), State.get, same, ← count]; rfl
  · rw [queued.mateOut]; split
    · rw [mateOut_toMate, out]
    · exact out
  · rw [queued.rd _ _ ho, same, rest _ _ hne]

theorem Appended.get_status {r : Rec} {s t : State} {k : Fin 8} (h : Appended k r s t) (f : Fld) :
    t.get (R.TXN_STATUS k) f = s.get (R.TXN_STATUS k) f := by
  unfold State.get; rw [h.rest _ _ (by omega) (by omega)]

/-- A refusal for a record names it. -/
structure RefusedRec (k : Fin 8) (c i : Nat) (s t : State) : Prop where
  refused : Refused k c (s.wr (R.TXN_ERR_INDEX k) (BitVec.ofNat 32 i)) t
  index : t.rd (R.TXN_ERR_INDEX k) = BitVec.ofNat 32 i
  mateOut : t.mateOut = if s.mirrored k then .refused k (some i) :: s.mateOut else s.mateOut

theorem refusedRec_refuseRec (c i : Nat) : RefusedRec k c i s (s.refuseRec k c i) where
  refused := refused_refuseFor _ _ _ _
  index := by
    rw [State.refuseRec, (refused_refuseFor _ k c _).rest _ _ (by omega) (by omega) (by omega), rd_wr_same]
  mateOut := by
    have same : (s.wr (R.TXN_ERR_INDEX k) (BitVec.ofNat 32 i)).mirrored k = s.mirrored k := mirrored_congr (rd_wr_ne _ _ (by simp))
    rw [State.refuseRec, mateOut_refuseFor, same]; rfl

theorem takesRec_open {s : State} {k : Nat} (h : s.txnState k = txOPEN) (fetched : Bool) : s.takesRec k fetched = true := by
  simp [State.takesRec, h]

end
end Sys2Proof.Machine

/-! Mirrored transactions (R94): what the mate's messages, and a host's OPEN with MIRROR, leave in a slot. -/

namespace Sys2Proof.Machine

-- OPEN with MIRROR

theorem txnOpen_mirror {s : State} {k : Nat} (hg : s.grave = false) (hf : s.txnState k = txFREE) (ho : s.ownSlot k = true)
    (he : s.flag R.TXN_MIRROR_CTRL F.TXN_MIRROR_CTRL_ENABLE = true) (hm : s.flag R.TXN_MIRROR_CTRL F.TXN_MIRROR_CTRL_MATE_OK = true) :
    s.txnOpen k true = ((s.openSlot k).put (R.TXN_STATUS k) F.TXN_STATUS_MIRROR 1).toMate (.opn k) := by
  unfold State.txnOpen
  rw [if_neg (by simp [hg, hf, ho]), if_neg (by simp), if_neg (by simp [he]), if_pos hm]

/-- With the mate not there the slots of both sides are this side's. -/
theorem ownSlot_of_mate_absent {s : State} (k : Nat) (h : s.flag R.TXN_MIRROR_CTRL F.TXN_MIRROR_CTRL_MATE_OK = false) : s.ownSlot k = true := by
  simp [State.ownSlot, State.mirrorOn, h]

theorem txnOpen_mirror_absent {s : State} {k : Nat} (hg : s.grave = false) (hf : s.txnState k = txFREE)
    (he : s.flag R.TXN_MIRROR_CTRL F.TXN_MIRROR_CTRL_ENABLE = true) (hm : s.flag R.TXN_MIRROR_CTRL F.TXN_MIRROR_CTRL_MATE_OK = false) :
    s.txnOpen k true = (s.openSlot k).refuseTxn k rcMATE := by
  unfold State.txnOpen
  rw [if_neg (by simp [hg, hf, ownSlot_of_mate_absent k hm]), if_neg (by simp), if_neg (by simp [he]), if_neg (by simp [hm])]

theorem txnOpen_mirror_off {s : State} {k : Nat} (he : s.flag R.TXN_MIRROR_CTRL F.TXN_MIRROR_CTRL_ENABLE = false) :
    s.txnOpen k true = s.opRefused k := by
  unfold State.txnOpen
  split
  · rfl
  · rw [if_neg (by simp), if_pos (by simp [he])]

/-- A slot that has just entered OPEN, with a field above its state put beside. -/
theorem Opened.put {k : Fin 8} {s t : State} (h : Opened k s t) {f : Fld} (v : Nat) (hf : F.TXN_STATUS_STATE.apart f = true) :
    (t.put (R.TXN_STATUS k) f v).txnState k = txOPEN ∧ (t.put (R.TXN_STATUS k) f v).slot k = (s.slot k).cleared := by
  refine ⟨?_, h.slot⟩
  rw [← h.state]
  refine get_put_field _ _ ?_
  have apart : F.TXN_STATUS_STATE.lo + F.TXN_STATUS_STATE.w ≤ f.lo ∨ f.lo + f.w ≤ F.TXN_STATUS_STATE.lo := by simpa [Fld.apart] using hf
  exact apart.symm

/-- R94, item 1: an OPEN with MIRROR. -/
theorem openMirror_steps {p : Port} {k : Fin 8} {s : State} (hp : s.reaches p 0 = true) (hs : Settled s) (hg : s.grave = false)
    (hf : s.txnState k = txFREE) :
    (s.flag R.TXN_MIRROR_CTRL F.TXN_MIRROR_CTRL_ENABLE = true → s.flag R.TXN_MIRROR_CTRL F.TXN_MIRROR_CTRL_MATE_OK = true →
      s.ownSlot k = true →
      ∃ t, exec (.txnOpenMirror p k) s = .next t ∧ t.txnState k = txOPEN ∧ t.mirrored k = true ∧ t.originMate k = false ∧
        t.slot k = (s.slot k).cleared ∧ t.mateOut = .opn k.val :: s.mateOut ∧ SlotOnly k s t ∧ TxnOnly (s.answer .done) t) ∧
    (s.flag R.TXN_MIRROR_CTRL F.TXN_MIRROR_CTRL_ENABLE = true → s.flag R.TXN_MIRROR_CTRL F.TXN_MIRROR_CTRL_MATE_OK = false →
      ∃ t, exec (.txnOpenMirror p k) s = .next t ∧ t.txnState k = txREFUSED ∧ t.get (R.TXN_STATUS k) F.TXN_STATUS_CODE = rcMATE ∧
        t.mateOut = s.mateOut ∧ SlotOnly k s t ∧ TxnOnly (s.answer .done) t) ∧
    (s.flag R.TXN_MIRROR_CTRL F.TXN_MIRROR_CTRL_ENABLE = false →
      ∃ t, exec (.txnOpenMirror p k) s = .next t ∧ t.txnState k = txFREE ∧
        t.flag (R.TXN_STATUS k) F.TXN_STATUS_OP_REFUSED = true ∧ RegsOnly (fun r => r == R.TXN_STATUS k) s t) := by
  have opened := opened_openSlot (s.answer .done) k
  have step : SlotStep k (s.answer .done) ((s.answer .done).openSlot k) := .openSlot _
  have out : ((s.answer .done).openSlot k).mateOut = s.mateOut := mateOut_openSlot _ _
  refine ⟨fun he hm ho => ?_, fun he hm => ?_, fun he => ?_⟩
  · rw [exec_txnOpenMirror hp, txnOpen_mirror (s := s.answer .done) hg hf ho he hm]
    generalize (s.answer .done).openSlot k = u at opened step out
    obtain ⟨state, slot⟩ := opened.put 1 (f := F.TXN_STATUS_MIRROR) (by decide)
    obtain ⟨t, ht, hslot, htxn, same⟩ := ((step.trans (.put _ 0x108 0 F.TXN_STATUS_MIRROR 1)).trans (.toMate _ (.opn k))).done hs.due
    refine ⟨t, ht, ?_, ?_, ?_, ?_, ?_, hslot.since, htxn⟩
    · exact (same.get_eq (by omega) _).trans state
    · rw [State.mirrored, State.flag, same.get_eq (by omega)]
      exact flag_put_same _ _ _ (by decide)
    · rw [State.originMate, State.flag, same.get_eq (by omega)]
      exact (flag_put_field _ _ _ (by decide)).trans opened.originMate
    · exact (same.slot_eq k).trans slot
    · rw [same.mateOut, mateOut_toMate]; exact congrArg _ out
  · rw [exec_txnOpenMirror hp, txnOpen_mirror_absent (s := s.answer .done) hg hf he hm]
    generalize (s.answer .done).openSlot k = u at opened step out
    have refused : Refused k rcMATE u (u.refuseTxn k rcMATE) := refused_refuseFor _ _ _ _
    have told : (u.refuseTxn k rcMATE).mateOut = s.mateOut := by
      rw [State.refuseTxn, mateOut_refuseFor, opened.mirrored]; exact out
    obtain ⟨t, ht, hslot, htxn, same⟩ := (step.trans (.refuseTxn _ rcMATE)).done hs.due
    exact ⟨t, ht, (same.get_eq (by omega) _).trans refused.state, (same.get_eq (by omega) _).trans refused.cause,
      same.mateOut.trans told, hslot.since, htxn⟩
  · have shown := opRefused_shows s k .done
    rw [exec_txnOpenMirror hp, txnOpen_mirror_off (s := s.answer .done) he, done_opRefused hs]
    exact ⟨_, rfl, shown.state.trans hf, shown.flag, shown.regs⟩

-- MIRROR_ENABLE

theorem writeMirror_idle {s : State} (v : Word) (h : ∀ k : Fin 8, s.txnLive k = false) :
    s.writeMirror v = s.put R.TXN_MIRROR_CTRL F.TXN_MIRROR_CTRL_ENABLE (v.toNat % 2) := by
  have idle : (List.range 8).any (fun k => s.txnLive k) = false := by
    rw [List.any_eq_false]
    intro k hk
    simp [h ⟨k, List.mem_range.1 hk⟩]
  unfold State.writeMirror
  exact if_neg (by simp [idle])

theorem writeMirror_live {s : State} (v : Word) {k : Fin 8} (h : s.txnLive k = true) : s.writeMirror v = s := by
  unfold State.writeMirror
  exact if_pos (List.any_eq_true.2 ⟨k.val, List.mem_range.2 k.isLt, h⟩)

theorem exec_mirrorEnableWrite {p : Port} {s : State} (hp : s.reaches p 0 = true) (v : Word) :
    exec (.mirrorEnableWrite p v) s = .next ((s.answer .done).writeMirror v) := congrArg Host.Outcome.next (hostReg_reaches hp)

-- Messages about a slot

theorem exec_mateTxn {kind : Fin 10} {k : Fin 8} {w0 w1 w2 w3 : Word} {s u : State} (h : s.mateTxn kind k w0 w1 w2 w3 = u) :
    exec (.mateTxnReceive kind k w0 w1 w2 w3) s = done u := congrArg done h

theorem copy_origin {s : State} {k : Nat} (h : s.copyOfMate k = true) : s.originMate k = true ∧ s.txnState k ≠ txFREE := by
  simpa [State.copyOfMate] using h

section
variable {s : State} {k : Fin 8}

/-- The mate opens a slot that is free here. -/
theorem mateOpen_free (w0 w1 w2 w3 : Word) (hs : Settled s) (hg : s.grave = false) (hf : s.txnState k = txFREE) :
    ∃ t, exec (.mateTxnReceive 0 k w0 w1 w2 w3) s = .next t ∧ t.txnState k = txOPEN ∧ t.copyOfMate k = true ∧ t.mirrored k = true ∧
      t.slot k = (s.slot k).cleared ∧ SlotOnly k s t ∧ TxnOnly s t := by
  have opened := opened_openSlot s k
  have step : SlotStep k s (s.openSlot k) := .openSlot _
  have opens : s.mateTxn 0 k w0 w1 w2 w3 =
      ((s.openSlot k).put (R.TXN_STATUS k) F.TXN_STATUS_MIRROR 1).put (R.TXN_STATUS k) F.TXN_STATUS_ORIGIN 1 := if_pos ⟨hf, by simp [hg]⟩
  rw [exec_mateTxn (kind := 0) opens]
  generalize s.openSlot k = u at opened step
  obtain ⟨t, ht, hslot, htxn, same⟩ := ((step.trans (.put _ 0x108 0 F.TXN_STATUS_MIRROR 1)).trans (.put _ 0x108 0 F.TXN_STATUS_ORIGIN 1)).done hs.due
  have state : t.txnState k = txOPEN := by
    rw [State.txnState, same.get_eq (by omega), get_put_field _ _ (by decide), get_put_field _ _ (by decide)]
    exact opened.state
  have mirrored : t.mirrored k = true := by
    rw [State.mirrored, State.flag, same.get_eq (by omega), get_put_field _ _ (by decide)]
    exact flag_put_same _ _ _ (by decide)
  have origin : t.originMate k = true := by
    rw [State.originMate, State.flag, same.get_eq (by omega)]
    exact flag_put_same _ _ _ (by decide)
  exact ⟨t, ht, state, by rw [State.copyOfMate, origin, state]; rfl, mirrored, (same.slot_eq k).trans opened.slot, hslot, htxn⟩

/-- The mate opens a slot that is not free here, or in GRAVE. -/
theorem mateOpen_busy (w0 w1 w2 w3 : Word) (hs : Settled s) (h : s.grave = true ∨ s.txnState k ≠ txFREE) :
    exec (.mateTxnReceive 0 k w0 w1 w2 w3) s = .next (s.toMate (.refused k none)) := by
  have busy : s.mateTxn 0 k w0 w1 w2 w3 = s.toMate (.refused k none) := if_neg (by rcases h with h | h <;> simp [h])
  rw [exec_mateTxn (kind := 0) busy]
  exact done_settled ⟨hs.due, hs.health⟩

theorem hostAbort_copy {s : State} {k : Nat} (p : Port) (hg : s.grave = false) (hc : s.copyOfMate k = true) (h : s.txnState k ≤ 5) :
    s.hostAbort p k = s.toMate (.abort k) := by
  unfold State.hostAbort
  rw [if_neg (by simp [hg]), if_pos (by simp [hc, h])]

-- What the mate sends about its copy here

/-- What the copy takes records in, once BUILT or OPEN or BUILDING. -/
def State.reopened (s : State) (k : Nat) : State := if s.txnState k = txBUILT ∧ !s.grave then s.setTxn k txBUILDING else s

theorem mateTxn_record (hc : s.copyOfMate k = true) (w0 w1 w2 w3 : Word) :
    s.mateTxn 1 k w0 w1 w2 w3 = (s.reopened k).append k ⟨w0, w1, w2, w3⟩ true := if_pos hc

/-- A copy that takes a record: nothing that the record is checked against changes, and the slot is OPEN or BUILDING. -/
structure Reopened (k : Fin 8) (s t : State) : Prop where
  state : t.txnState k = if s.txnState k = txOPEN then txOPEN else txBUILDING
  slot : t.slot k = s.slot k
  adm : t.adm k = s.adm k
  grave : t.grave = s.grave
  step : SlotStep k s t

theorem reopened_shows (hg : s.grave = false) (h1 : s.txnState k ≠ txFREE) (h3 : s.txnState k ≤ txBUILT) : Reopened k s (s.reopened k) := by
  unfold State.reopened
  split
  next hb =>
    have ne : s.txnState k ≠ txOPEN := by rw [hb.1]; decide
    exact ⟨by rw [txnState_setTxn _ _ (by decide), if_neg ne], slot_setTxn _ _ _ _,
      (AdmSame.of_step (.setTxn s _) (.setTxn s _ _)).adm_eq, grave_setTxn _ _ (by decide), .setTxn s _⟩
  next hb =>
    have hb : s.txnState k ≠ txBUILT := fun e => hb ⟨e, by simp [hg]⟩
    refine ⟨?_, rfl, rfl, rfl, .refl s⟩
    unfold txFREE txBUILT txOPEN txBUILDING at *
    split <;> omega

theorem Reopened.takesRec {t : State} (h : Reopened k s t) : t.takesRec k true = true := by
  unfold State.takesRec
  rw [h.state]
  split <;> rfl

/-- R94, item 2: a record that the mate forwards. -/
theorem mateRecord_steps (w0 w1 w2 w3 : Word) (hs : Settled s) (hg : s.grave = false) (hc : s.copyOfMate k = true)
    (h3 : s.txnState k ≤ txBUILT) :
    ((s.adm k).check (s.slot k).recs ⟨w0, w1, w2, w3⟩ = none →
      ∃ t, exec (.mateTxnReceive 1 k w0 w1 w2 w3) s = .next t ∧ (t.slot k).recs = (s.slot k).recs ++ [⟨w0, w1, w2, w3⟩] ∧
        t.txnState k = (if s.txnState k = txOPEN then txOPEN else txBUILDING) ∧ SlotOnly k s t ∧ TxnOnly s t) ∧
    (∀ c, (s.adm k).check (s.slot k).recs ⟨w0, w1, w2, w3⟩ = some c →
      ∃ t, exec (.mateTxnReceive 1 k w0 w1 w2 w3) s = .next t ∧ t.txnState k = txREFUSED ∧
        t.get (R.TXN_STATUS k) F.TXN_STATUS_CODE = c % 256 ∧ t.rd (R.TXN_ERR_INDEX k) = BitVec.ofNat 32 (s.slot k).recs.length ∧
        SlotOnly k s t ∧ TxnOnly s t) := by
  have re := reopened_shows hg (copy_origin hc).2 h3
  rw [exec_mateTxn (kind := 1) (mateTxn_record hc w0 w1 w2 w3)]
  generalize s.reopened k = u at re
  refine ⟨fun hn => ?_, fun c hn => ?_⟩
  · have taken := appended_append re.takesRec (r := ⟨w0, w1, w2, w3⟩) (by rw [re.adm, re.slot]; exact hn)
    obtain ⟨t, ht, hslot, htxn, same⟩ := (re.step.trans taken.step).done hs.due
    refine ⟨t, ht, ?_, ?_, hslot, htxn⟩
    · rw [same.slot_eq, taken.slot, re.slot]
    · rw [← re.state]
      exact (same.get_eq (by omega) _).trans (taken.get_status _)
  · have refuses := append_refuses re.takesRec (r := ⟨w0, w1, w2, w3⟩) (c := c) (by rw [re.adm, re.slot]; exact hn) (re.grave.trans hg)
    have shown := refusedRec_refuseRec u k c (u.slot k).recs.length
    obtain ⟨t, ht, hslot, htxn, same⟩ := (re.step.trans (.refuseRec u c (u.slot k).recs.length)).done hs.due
    rw [refuses]
    refine ⟨t, ht, (same.get_eq (by omega) _).trans shown.refused.state, (same.get_eq (by omega) _).trans shown.refused.cause, ?_, hslot, htxn⟩
    rw [same.rd _ _ (by omega), shown.index, re.slot]

/-- R94: the mate's CLOSE of a copy. -/
theorem mateClose_steps (w0 w1 w2 w3 : Word) (hs : Settled s) (hg : s.grave = false) (hc : s.copyOfMate k = true) (ho : s.txnState k = txOPEN) :
    ∃ t, exec (.mateTxnReceive 2 k w0 w1 w2 w3) s = .next t ∧ t.rd (R.TXN_FN k) = w0 ∧
      t.txnState k = (if (s.slot k).unbuilt = 0 ∧ s.fetching k = false then txBUILT else txBUILDING) ∧ SlotOnly k s t ∧ TxnOnly s t := by
  have closes : s.mateTxn 2 k w0 w1 w2 w3 = ((s.wr (R.TXN_FN k) w0).setTxn k txBUILDING).tryBuilt k :=
    if_pos (by simp [hc, ho, hg])
  have built : s.allBuilt k = decide ((s.slot k).unbuilt = 0 ∧ s.fetching k = false) := by
    unfold State.allBuilt
    rw [(copy_origin hc).1]
    cases s.fetching k <;> simp
  have all : ((s.wr (R.TXN_FN k) w0).setTxn k txBUILDING).allBuilt k = s.allBuilt k := by
    have status : (s.wr (R.TXN_FN k) w0).rd (R.TXN_STATUS k) = s.rd (R.TXN_STATUS k) := rd_wr_ne _ _ (by simp)
    rw [allBuilt_setTxn]
    exact allBuilt_congr rfl (mirrored_congr status) (by unfold State.originMate State.flag State.get; rw [status])
  have state : ((s.wr (R.TXN_FN k) w0).setTxn k txBUILDING).txnState k = txBUILDING := txnState_setTxn _ _ (by decide)
  have grave : ((s.wr (R.TXN_FN k) w0).setTxn k txBUILDING).grave = false := by
    rw [grave_setTxn _ _ (by decide), ← hg]
    unfold State.grave State.flag State.get
    rw [rd_wr_ne _ _ (by simp)]
  have fn : ((s.wr (R.TXN_FN k) w0).setTxn k txBUILDING).rd (R.TXN_FN k) = w0 := by
    rw [rd_setTxn_ne _ _ _ (by omega) (by omega) (by omega), rd_wr_same]
  have step : SlotStep k s ((s.wr (R.TXN_FN k) w0).setTxn k txBUILDING) := (SlotStep.wr s 0x104 0 w0).trans (.setTxn _ _)
  rw [exec_mateTxn (kind := 2) closes]
  generalize (s.wr (R.TXN_FN k) w0).setTxn k txBUILDING = u at all state grave fn step
  obtain ⟨t, ht, hslot, htxn, same⟩ := (step.trans (.tryBuilt u)).done hs.due
  refine ⟨t, ht, ?_, ?_, hslot, htxn⟩
  · rw [same.rd _ _ (by omega), rd_tryBuilt_ne _ _ (by omega) (by omega) (by omega), fn]
  · have entered := txnState_tryBuilt state grave
    rw [all, built] at entered
    exact (same.get_eq (by omega) _).trans (entered.trans (by simp))

/-- The mate has aborted its transaction. -/
theorem mateAborted_steps (w0 w1 w2 w3 : Word) (hs : Settled s) (hg : s.grave = false) (hc : s.copyOfMate k = true)
    (h3 : s.txnState k ≤ txBUILT) :
    ∃ t, exec (.mateTxnReceive 6 k w0 w1 w2 w3) s = .next t ∧ t.txnState k = txABORTED ∧
      t.get (R.TXN_STATUS k) F.TXN_STATUS_ABORT_CAUSE = 3 ∧ SlotOnly k s t ∧ TxnOnly s t := by
  have aborts : s.mateTxn 6 k w0 w1 w2 w3 = s.abortTxn k 3 := if_pos (by rw [hc, hg]; simpa [txBUILT] using h3)
  have shown := aborted_abortTxn s k 3
  rw [exec_mateTxn (kind := 6) aborts]
  obtain ⟨t, ht, hslot, htxn, same⟩ := (SlotStep.abortTxn (k := k) s 3).done hs.due
  exact ⟨t, ht, (same.get_eq (by omega) _).trans shown.state, (same.get_eq (by omega) _).trans shown.cause, hslot, htxn⟩

-- What the mate says of a mirrored slot

theorem txnAbort_early {s : State} {k : Nat} (cause : Nat) (h1 : 1 ≤ s.txnState k) (h3 : s.txnState k ≤ 3) :
    s.txnAbort k cause = (let s2 := ((s.wr (R.TXN_ABORT_FN k) (BitVec.ofNat 32 s.fn)).put (R.TXN_ABORT_NS k) F.TXN_ABORT_NS_NS s.ns).abortTxn k cause
      if s2.mirrored k then s2.toMate (.aborted k) else s2) := by
  unfold State.txnAbort txFREE txABORTED txREFUSED txSEALED txCOMMITTED
  dsimp only
  rw [if_neg (by omega), if_neg (by omega), if_neg (by omega)]

theorem Ended.mirrored {f : Fld} {v st : Nat} {s t : State} {k : Fin 8} (h : Ended k f v st s t) (hf : f.apart F.TXN_STATUS_MIRROR = true) :
    t.mirrored k = s.mirrored k := by
  unfold State.mirrored State.flag
  rw [h.other _ hf (by decide) (by decide)]

/-- R94: an ABORT that was written on the mate. -/
theorem mateAbort_steps (w0 w1 w2 w3 : Word) (hs : Settled s) (hg : s.grave = false) (hm : s.mirrored k = true) (h1 : 1 ≤ s.txnState k)
    (h3 : s.txnState k ≤ 3) (ho : s.originMate k = false) :
    ∃ t, exec (.mateTxnReceive 3 k w0 w1 w2 w3) s = .next t ∧ t.txnState k = txABORTED ∧
      t.get (R.TXN_STATUS k) F.TXN_STATUS_ABORT_CAUSE = 3 ∧ t.mateOut = .aborted k.val :: s.mateOut ∧ SlotOnly k s t ∧ TxnOnly s t := by
  have aborts : s.mateTxn 3 k w0 w1 w2 w3 = s.txnAbort k 3 := if_pos (by simp [hm, ho, hg])
  rw [exec_mateTxn (kind := 3) (aborts.trans (txnAbort_early 3 h1 h3))]
  have noted : SlotStep k s ((s.wr (R.TXN_ABORT_FN k) (BitVec.ofNat 32 s.fn)).put (R.TXN_ABORT_NS k) F.TXN_ABORT_NS_NS s.ns) :=
    (SlotStep.wr s 0x134 0 _).trans (.put _ 0x138 0 _ _)
  have mirrored : ((s.wr (R.TXN_ABORT_FN k) (BitVec.ofNat 32 s.fn)).put (R.TXN_ABORT_NS k) F.TXN_ABORT_NS_NS s.ns).mirrored k = true :=
    (mirrored_congr ((rd_put_ne _ _ _ (by simp)).trans (rd_wr_ne _ _ (by simp)))).trans hm
  have out : ((s.wr (R.TXN_ABORT_FN k) (BitVec.ofNat 32 s.fn)).put (R.TXN_ABORT_NS k) F.TXN_ABORT_NS_NS s.ns).mateOut = s.mateOut := rfl
  generalize (s.wr (R.TXN_ABORT_FN k) (BitVec.ofNat 32 s.fn)).put (R.TXN_ABORT_NS k) F.TXN_ABORT_NS_NS s.ns = u at noted mirrored out
  have shown := aborted_abortTxn u k 3
  dsimp only
  rw [if_pos ((shown.mirrored (by decide)).trans mirrored)]
  obtain ⟨t, ht, hslot, htxn, same⟩ := ((noted.trans (.abortTxn u 3)).trans (.toMate _ (.aborted k))).done hs.due
  have shown := shown.toMate (.aborted k)
  refine ⟨t, ht, (same.get_eq (by omega) _).trans shown.state, (same.get_eq (by omega) _).trans shown.cause, ?_, hslot, htxn⟩
  rw [same.mateOut, mateOut_toMate, mateOut_abortTxn, out]

/-- A slot that the mate refuses, or that it does not answer for. -/
theorem refuseByMate_eq {s : State} {k : Nat} (i : Word) (hg : s.grave = false) (h1 : 1 ≤ s.txnState k) (h3 : s.txnState k ≤ 3) :
    s.refuseByMate k i = (s.wr (R.TXN_ERR_INDEX k) i).endTxn k F.TXN_STATUS_CODE rcMATE txREFUSED := by
  unfold State.refuseByMate
  exact if_neg (by simp [hg, h1, h3])

theorem refuseByMate_done (i : Word) (hs : Settled s) (hg : s.grave = false) (h1 : 1 ≤ s.txnState k) (h3 : s.txnState k ≤ 3) :
    ∃ t, done (s.refuseByMate k i) = .next t ∧ t.txnState k = txREFUSED ∧ t.get (R.TXN_STATUS k) F.TXN_STATUS_CODE = rcMATE ∧
      t.rd (R.TXN_ERR_INDEX k) = i ∧ SlotOnly k s t ∧ TxnOnly s t := by
  rw [refuseByMate_eq i hg h1 h3]
  have shown := refused_endTxn (s.wr (R.TXN_ERR_INDEX k) i) k rcMATE
  have step : SlotStep k s ((s.wr (R.TXN_ERR_INDEX k) i).endTxn k F.TXN_STATUS_CODE rcMATE txREFUSED) :=
    (((SlotStep.wr s 0x110 0 i).trans (.put _ 0x108 0 F.TXN_STATUS_CODE rcMATE)).trans (.setTxn _ _)).trans (.beginRestore _)
  obtain ⟨t, ht, hslot, htxn, same⟩ := step.done hs.due
  refine ⟨t, ht, (same.get_eq (by omega) _).trans shown.state, (same.get_eq (by omega) _).trans shown.cause, ?_, hslot, htxn⟩
  rw [same.rd _ _ (by omega), shown.rest _ _ (by omega) (by omega) (by omega), rd_wr_same]

/-- R94, item 4: the mate has refused its copy, or the origin of this one. -/
theorem mateRefused_steps (w0 w1 w2 w3 : Word) (hs : Settled s) (hg : s.grave = false) (hm : s.mirrored k = true) (h1 : 1 ≤ s.txnState k)
    (h3 : s.txnState k ≤ 3) :
    ∃ t, exec (.mateTxnReceive 5 k w0 w1 w2 w3) s = .next t ∧ t.txnState k = txREFUSED ∧
      t.get (R.TXN_STATUS k) F.TXN_STATUS_CODE = rcMATE ∧ t.rd (R.TXN_ERR_INDEX k) = w0 ∧ SlotOnly k s t ∧ TxnOnly s t := by
  have refuses : s.mateTxn 5 k w0 w1 w2 w3 = s.refuseByMate k w0 := if_pos hm
  rw [exec_mateTxn (kind := 5) refuses]
  exact refuseByMate_done w0 hs hg h1 h3

/-- R94: the mate releases the origin of a copy. -/
theorem mateRelease_steps (w0 w1 w2 w3 : Word) (hs : Settled s) (hg : s.grave = false) (hc : s.copyOfMate k = true) (h5 : 5 ≤ s.txnState k) :
    ∃ t, exec (.mateTxnReceive 4 k w0 w1 w2 w3) s = .next t ∧
      (s.flag (R.TXN_STATUS k) F.TXN_STATUS_CLEANING = false → t.txnState k = txFREE ∧ t.slot k = (s.slot k).cleared) ∧
      (s.flag (R.TXN_STATUS k) F.TXN_STATUS_CLEANING = true → t.txnState k = s.txnState k ∧ (t.slot k).relDue = true) ∧
      SlotOnly k s t ∧ TxnOnly s t := by
  have releases : s.mateTxn 4 k w0 w1 w2 w3 = if s.flag (R.TXN_STATUS k) F.TXN_STATUS_CLEANING then
      s.setSlot k { s.slot k with relDue := true } else s.freeSlot k := if_neg (by simp [hc, hg, h5])
  rw [exec_mateTxn (kind := 4) releases]
  cases hclean : s.flag (R.TXN_STATUS k) F.TXN_STATUS_CLEANING
  · obtain ⟨t, ht, hslot, htxn, same⟩ := (SlotStep.freeSlot (k := k) s).done hs.due
    exact ⟨t, ht, fun _ => ⟨(same.get_eq (by omega) _).trans (txnState_freeSlot s k), (same.slot_eq k).trans (slot_freeSlot s k)⟩,
      fun h => absurd h (by simp), hslot, htxn⟩
  · obtain ⟨t, ht, hslot, htxn, same⟩ := (SlotStep.setSlot (k := k) s { s.slot k with relDue := true }).done hs.due
    refine ⟨t, ht, fun h => absurd h (by simp), fun _ => ⟨same.get_eq (by omega) _, ?_⟩, hslot, htxn⟩
    rw [same.slot_eq, slot_setSlot_same]

/-- R94: the mate's copy is BUILT. -/
theorem mateBuilt_steps (w0 w1 w2 w3 : Word) (hs : Settled s) (hg : s.grave = false) (hm : s.mirrored k = true) (ho : s.originMate k = false)
    (hb : s.txnState k = txBUILDING) (hu : (s.slot k).unbuilt = 0) (hf : s.fetching k = false) :
    ∃ t, exec (.mateTxnReceive 7 k w0 w1 w2 w3) s = .next t ∧ t.txnState k = txBUILT ∧ (t.slot k).mateBuilt = true ∧ SlotOnly k s t ∧
      TxnOnly s t := by
  have reports : s.mateTxn 7 k w0 w1 w2 w3 = (s.setSlot k { s.slot k with mateBuilt := true }).tryBuilt k := if_pos (by simp [hm, ho])
  have slot := slot_setSlot_same s k { s.slot k with mateBuilt := true }
  have all : (s.setSlot k { s.slot k with mateBuilt := true }).allBuilt k = true := by
    have fetching : (s.setSlot k { s.slot k with mateBuilt := true }).fetching k = s.fetching k := by
      unfold State.fetching; rw [slot]
    unfold State.allBuilt
    rw [fetching, slot, hf]
    simp [hu]
  have state : (s.setSlot k { s.slot k with mateBuilt := true }).txnState k = txBUILDING := hb
  have grave : (s.setSlot k { s.slot k with mateBuilt := true }).grave = false := hg
  have step := SlotStep.setSlot (k := k) s { s.slot k with mateBuilt := true }
  rw [exec_mateTxn (kind := 7) reports]
  generalize s.setSlot k { s.slot k with mateBuilt := true } = u at slot all state grave step
  obtain ⟨t, ht, hslot, htxn, same⟩ := (step.trans (.tryBuilt u)).done hs.due
  refine ⟨t, ht, (same.get_eq (by omega) _).trans ((txnState_tryBuilt state grave).trans (if_pos all)), ?_, hslot, htxn⟩
  rw [same.slot_eq, slot_tryBuilt, slot]

/-- Nothing of a change of state that is no event reads the union. -/
theorem setTxn_union {st : Nat} (l : List (Nat × Word × List Rec)) (h : st < 5) :
    { s.setTxn k st with unionHold := l } = ({ s with unionHold := l } : State).setTxn k st := by
  rw [setTxn_low _ _ h, setTxn_low _ _ h]; rfl

/-- R94, item 5: the mate has sealed the origin of a copy. -/
theorem mateSeal_steps (w0 w1 w2 w3 : Word) (hs : Settled s) (hg : s.grave = false) (hc : s.copyOfMate k = true) (hb : s.txnState k = txBUILT) :
    (s.mateLimit k = false → ∃ t, exec (.mateTxnReceive 8 k w0 w1 w2 w3) s = .next t ∧ t.txnState k = txSEALED ∧ (t.slot k).sealRx = true ∧
      t.mateOut = .sealAck k.val :: s.mateOut ∧ t.unionHold = s.unionHold ++ [(k.val, s.rd (R.TXN_FN k), s.unionRecs k)] ∧
      SlotOnly k s t ∧ TxnOnly { s with unionHold := t.unionHold } t) ∧
    (s.mateLimit k = true → ∃ t, exec (.mateTxnReceive 8 k w0 w1 w2 w3) s = .next t ∧ t.txnState k = txREFUSED ∧
      t.get (R.TXN_STATUS k) F.TXN_STATUS_CODE = rcMATE ∧ SlotOnly k s t ∧ TxnOnly s t) := by
  refine ⟨fun hl => ?_, fun hl => ?_⟩
  · have seals : s.mateTxn 8 k w0 w1 w2 w3 = (({ s with unionHold := s.unionHold ++ [(k.val, s.rd (R.TXN_FN k), s.unionRecs k)] } : State).setTxn k
        txSEALED |>.setSlot k { s.slot k with sealRx := true }).toMate (.sealAck k) := by
      rw [← setTxn_union _ (by decide)]
      exact (if_neg (by simp [hl])).trans (if_pos (by simp [hc, hb, hg]))
    rw [exec_mateTxn (kind := 8) seals]
    generalize hU : s.unionHold ++ [(k.val, s.rd (R.TXN_FN k), s.unionRecs k)] = l
    have state : ((({ s with unionHold := l } : State).setTxn k txSEALED).setSlot k { s.slot k with sealRx := true }).txnState k = txSEALED :=
      txnState_setTxn _ k (by decide)
    have slot := slot_setSlot_same (({ s with unionHold := l } : State).setTxn k txSEALED) k { s.slot k with sealRx := true }
    have out : ((({ s with unionHold := l } : State).setTxn k txSEALED).setSlot k { s.slot k with sealRx := true }).mateOut = s.mateOut :=
      mateOut_setTxn _ _ _
    have union : ((({ s with unionHold := l } : State).setTxn k txSEALED).setSlot k { s.slot k with sealRx := true }).unionHold = l :=
      unionHold_setTxn _ _ _
    have step : SlotStep k { s with unionHold := l } ((({ s with unionHold := l } : State).setTxn k txSEALED).setSlot k
      { s.slot k with sealRx := true }) := (SlotStep.setTxn _ _).trans (.setSlot _ _)
    generalize (({ s with unionHold := l } : State).setTxn k txSEALED).setSlot k { s.slot k with sealRx := true } = u at state slot out union step
    obtain ⟨t, ht, hslot, htxn, same⟩ := (step.trans (.toMate u (.sealAck k))).done hs.due
    have held : t.unionHold = l := same.unionHold.trans union
    refine ⟨t, ht, (same.get_eq (by omega) _).trans state, ?_, ?_, held, ⟨hslot.slots, hslot.regs, hslot.map, hslot.mem⟩, ?_⟩
    · rw [same.slot_eq, slot_toMate, slot]
    · rw [same.mateOut, mateOut_toMate, out]
    · rw [held]; exact htxn
  · have refuses : s.mateTxn 8 k w0 w1 w2 w3 = s.refuseByMate k 0xFFFFFFFF := if_pos (by simp [hc, hb, hg, hl])
    rw [exec_mateTxn (kind := 8) refuses]
    obtain ⟨t, ht, state, code, -, hslot, htxn⟩ := refuseByMate_done 0xFFFFFFFF hs hg (by rw [hb]; decide) (by rw [hb]; decide)
    exact ⟨t, ht, state, code, hslot, htxn⟩

/-- R94, item 6: the mate acknowledges the seal. -/
theorem mateAck_steps (w0 w1 w2 w3 : Word) (hs : Settled s) (hm : s.mirrored k = true) (ho : s.originMate k = false)
    (hl : s.mateLimit k = false) :
    ∃ t, exec (.mateTxnReceive 9 k w0 w1 w2 w3) s = .next t ∧ t.slot k = { s.slot k with mateAck := true } ∧
      t.txnState k = s.txnState k ∧ SlotOnly k s t ∧ TxnOnly s t := by
  have acks : s.mateTxn 9 k w0 w1 w2 w3 = s.setSlot k { s.slot k with mateAck := true } := if_pos (by simp [hm, ho, hl])
  rw [exec_mateTxn (kind := 9) acks]
  obtain ⟨t, ht, hslot, htxn, same⟩ := (SlotStep.setSlot (k := k) s { s.slot k with mateAck := true }).done hs.due
  exact ⟨t, ht, (same.slot_eq k).trans (slot_setSlot_same _ _ _), same.get_eq (by omega) _, hslot, htxn⟩

-- The time-outs of a seal

theorem mateSealTimeout_steps (hs : Settled s) (hg : s.grave = false) (hc : s.copyOfMate k = true)
    (h : s.txnState k = txBUILDING ∨ s.txnState k = txBUILT) (hl : s.mateLimit k = true) :
    ∃ t, exec (.mateSealTimeout k) s = .next t ∧ t.txnState k = txREFUSED ∧ t.get (R.TXN_STATUS k) F.TXN_STATUS_CODE = rcMATE ∧
      SlotOnly k s t ∧ TxnOnly s t := by
  have refuses : s.mateSealDue k = s.refuseByMate k 0xFFFFFFFF := if_pos (by rcases h with h | h <;> simp [hc, h, hl])
  have early : 1 ≤ s.txnState k ∧ s.txnState k ≤ 3 := by rcases h with h | h <;> rw [h] <;> decide
  rw [show exec (.mateSealTimeout k) s = done (s.refuseByMate k 0xFFFFFFFF) from congrArg done refuses]
  obtain ⟨t, ht, state, code, -, hslot, htxn⟩ := refuseByMate_done 0xFFFFFFFF hs hg early.1 early.2
  exact ⟨t, ht, state, code, hslot, htxn⟩

theorem off_wrapPlace (r : RegId) : 0xf000 ≤ (wrapPlace r).1.off := Nat.le_add_right _ _

/-- A counter below the words of wraps, after it was counted up. -/
theorem ctr_addRaw_low (s : State) {c : Ctr} (n : Nat) (hne : c.lo ≠ c.hi) (hl : c.lo.off < 0xf000) (hh : c.hi.off < 0xf000) :
    (s.addRaw c n).1.ctr c = (s.ctr c + n) % 2 ^ 48 := by
  have apart : ∀ r : RegId, r.off < 0xf000 → r ≠ (wrapPlace c.lo).1 := by
    rintro r h rfl; exact absurd h (Nat.not_lt.2 (off_wrapPlace _))
  unfold State.addRaw
  dsimp only
  split
  next h => rw [ctr_setCtr s hne h, Nat.mod_eq_of_lt h]
  next => exact (ctr_of_rd (rd_wr_ne _ _ (apart _ hl)) (rd_wr_ne _ _ (apart _ hh))).trans (ctr_setCtr s hne (Nat.mod_lt _ (by decide)))

theorem mateAckTimeout_steps (hs : Settled s) (hm : s.mirrored k = true) (ho : s.originMate k = false)
    (h : s.txnState k = txSEALED ∨ s.txnState k = txCOMMITTED) (ha : (s.slot k).mateAck = false) (hl : s.mateLimit k = true)
    (hu : s.flag (R.TXN_STATUS k) F.TXN_STATUS_MATE_UNCONF = false) :
    ∃ t, exec (.mateAckTimeout k) s = .next t ∧ t.flag (R.TXN_STATUS k) F.TXN_STATUS_MATE_UNCONF = true ∧ t.txnState k = s.txnState k ∧
      t.bit (R.EVT_STICKY evPair) srcMIRROR = true ∧
      t.ctr (ctrEvTotal evPair srcMIRROR) = (s.ctr (ctrEvTotal evPair srcMIRROR) + 1) % 2 ^ 48 ∧ SlotOnly k s t ∧ TxnOnly s t := by
  have raises : s.mateAckDue k = (s.put (R.TXN_STATUS k) F.TXN_STATUS_MATE_UNCONF 1).ev evPair srcMIRROR :=
    if_pos (by rcases h with h | h <;> simp [hm, ho, h, ha, hl, hu])
  have flag : (s.put (R.TXN_STATUS k) F.TXN_STATUS_MATE_UNCONF 1).flag (R.TXN_STATUS k) F.TXN_STATUS_MATE_UNCONF = true :=
    flag_put_same _ _ _ (by decide)
  have state : (s.put (R.TXN_STATUS k) F.TXN_STATUS_MATE_UNCONF 1).txnState k = s.txnState k := get_put_field _ _ (by decide)
  have count : (s.put (R.TXN_STATUS k) F.TXN_STATUS_MATE_UNCONF 1).ctr (ctrEvTotal evPair srcMIRROR) = s.ctr (ctrEvTotal evPair srcMIRROR) :=
    ctr_of_rd (rd_put_ne _ _ _ (by simp [ctrEvTotal])) (rd_put_ne _ _ _ (by simp [ctrEvTotal]))
  have step : SlotStep k s (s.put (R.TXN_STATUS k) F.TXN_STATUS_MATE_UNCONF 1) := .put s 0x108 0 _ _
  rw [show exec (.mateAckTimeout k) s = done ((s.put (R.TXN_STATUS k) F.TXN_STATUS_MATE_UNCONF 1).ev evPair srcMIRROR) from congrArg done raises]
  generalize s.put (R.TXN_STATUS k) F.TXN_STATUS_MATE_UNCONF 1 = u at flag state count step
  have stands : SlotsStand u (u.ev evPair srcMIRROR) := .of_event (ev_only _ _ _)
  have sticky : (u.ev evPair srcMIRROR).bit (R.EVT_STICKY evPair) srcMIRROR = true := ev_sticky u (by decide)
  have counted := (DieFault.evMirror u).mirror.trans (ctr_addRaw_low u 1 (by decide) (by decide) (by decide))
  have steps : SlotStep k s (u.ev evPair srcMIRROR) := step.trans (.ev u rfl)
  generalize u.ev evPair srcMIRROR = v at stands sticky counted steps
  have settled : v.due = [] := steps.due.trans hs.due
  have ends : done v = .next v.graveHealth := by unfold done; rw [settle_nil settled]
  have same := DieFault.graveHealth v
  have note : NoteOnly v v.graveHealth := by
    obtain ⟨t, ht, hn⟩ := done_note settled
    rwa [← Host.Outcome.next.inj (ends.symm.trans ht)] at hn
  refine ⟨_, ends, ?_, ?_, (TallyKept.graveHealth v).sticky _ _ sticky, ?_,
    steps.slot.trans (SlotsStand.of_note note).slotOnly, steps.txn.trans (.of_note note)⟩
  · rw [State.flag, same.stands.get_eq (by omega), stands.get_eq (by omega)]; exact flag
  · rw [State.txnState, same.stands.get_eq (by omega), stands.get_eq (by omega)]; exact state
  · rw [same.mirror, counted, count]

end

/-- Settles O51: each clause is what one message, one command or one time-out leaves. -/
theorem transactionsAreMirrored : Obligations.TransactionsAreMirrored := by
  refine ⟨fun p k s hp hs hg hf => openMirror_steps hp hs hg hf, fun p v s hp hk => ?_, fun p v k s hp hk => ?_,
    fun k w0 w1 w2 w3 s hs hg hf => mateOpen_free w0 w1 w2 w3 hs hg hf, fun k w0 w1 w2 w3 s hs h => mateOpen_busy w0 w1 w2 w3 hs h,
    fun p k s hp hs hg hc _ h5 => ?_, fun k w0 w1 w2 w3 s hs hg hc _ h3 => ?_, fun k w0 w1 w2 w3 s hs hg hm h1 h3 => ?_,
    fun k w0 w1 w2 w3 s hs hg hc h5 => mateRelease_steps w0 w1 w2 w3 hs hg hc h5,
    fun k w0 w1 w2 w3 s hs hg hm ho hb hu hf => mateBuilt_steps w0 w1 w2 w3 hs hg hm ho hb hu hf,
    fun k w0 w1 w2 w3 s hs hg hc hb => mateSeal_steps w0 w1 w2 w3 hs hg hc hb,
    fun k w0 w1 w2 w3 s hs hm ho hl => mateAck_steps w0 w1 w2 w3 hs hm ho hl,
    fun k s hs hg hc hb hl => mateSealTimeout_steps hs hg hc hb hl, fun k s hs hm ho h ha hl hu => mateAckTimeout_steps hs hm ho h ha hl hu⟩
  · rw [exec_mirrorEnableWrite hp, writeMirror_idle (s := s.answer .done) v hk]
    refine ⟨_, rfl, ?_, get_put_field _ _ (by decide), (RegsOnly.answer s _).trans (.put _ _ _ (beq_self_eq_true _))⟩
    rw [get_put_same _ _ (by decide)]
    exact Nat.mod_mod _ _
  · rw [exec_mirrorEnableWrite hp, writeMirror_live (s := s.answer .done) v hk]
  · rw [exec_txnAbort hp, hostAbort_copy (s := s.answer .done) p hg hc h5]
    exact done_settled ⟨hs.due, hs.health⟩
  · obtain ⟨admits, refuses⟩ := mateRecord_steps w0 w1 w2 w3 hs hg hc h3
    exact ⟨admits, refuses, mateAborted_steps w0 w1 w2 w3 hs hg hc h3, mateClose_steps w0 w1 w2 w3 hs hg hc⟩
  · exact ⟨mateAbort_steps w0 w1 w2 w3 hs hg hm h1 h3, mateRefused_steps w0 w1 w2 w3 hs hg hm h1 h3⟩

end Sys2Proof.Machine

/-! The block a fetch reads, and one record of it: every byte is in MAP's reach, so its read uses the bank and counts what it finds (R86, R313). -/

namespace Sys2Proof.Machine

-- The bytes of a fetch

/-- The offsets of SCRATCH. -/
theorem partAt_scratch {s : State} {d o : Nat} : s.partAt d o = some 4 ↔
    let p := s.partsOf d
    o / unitBytes < Config.dramUnits ∧ p.capture + p.pattern + p.deskew + p.pmhist ≤ o / unitBytes ∧
      o / unitBytes < p.capture + p.pattern + p.deskew + p.pmhist + p.scratch := by
  unfold State.partAt
  dsimp only
  split_ifs <;> simp <;> omega

/-- What lies between two offsets of SCRATCH lies in it. -/
theorem partAt_between {s : State} {d a o z : Nat} (ha : s.partAt d a = some 4) (hz : s.partAt d z = some 4) (h1 : a ≤ o) (h2 : o ≤ z) :
    s.partAt d o = some 4 := by
  rw [partAt_scratch] at *
  have low := Nat.div_le_div_right (c := unitBytes) h1
  have high := Nat.div_le_div_right (c := unitBytes) h2
  omega

/-- The master that reads an address of die d. -/
theorem mapMaster_of_target {a d : Nat} (hd : d < 4) (h : bar2Target a = some (1 + d) ∨ bar2Target a = some (5 + d)) : mapMaster a = mMAP d := by
  unfold mapMaster
  rcases h with h | h <;> rw [h, Option.getD_some] <;> congr 1 <;> omega

/-- The MAP master of die d has a path to its banks and to its DRAM (Table 13-4). -/
theorem matrixPath_map {d t : Nat} (hd : d < 4) (h : t = 1 + d ∨ t = 5 + d) : matrixPath (mMAP d) t false = true := by
  unfold matrixPath mMAP
  rw [if_neg (by omega), if_neg (by omega)]
  simp
  omega

/-- A byte of a block in a work bank is in the reach of the MAP master of its die. -/
theorem fetchable_reach_bank {s : State} {a i : Nat} (h : s.fetchable a 1 = true) (hb : a < 0x40000000) (hi : i < 16) :
    s.engineReach (mapMaster a) false (a + i) = true := by
  unfold State.fetchable at h
  dsimp only at h
  rw [if_pos hb] at h
  simp only [Bool.and_eq_true, beq_iff_eq, decide_eq_true_eq, Bool.not_eq_true'] at h
  obtain ⟨⟨⟨⟨⟨hz, hk⟩, he⟩, hr⟩, hp⟩, ho⟩ := h
  have hd : a / 0x10000000 < 4 := by omega
  have unit (x : Nat) (h1 : a ≤ x) (h2 : x ≤ a + 15) : bar2Unit x = .bank (a / 0x10000000) (a % 0x10000000 / 0x40000) (x % 0x40000) := by
    have die : x / 0x10000000 = a / 0x10000000 := by omega
    have bank : x % 0x10000000 / 0x40000 = a % 0x10000000 / 0x40000 := by omega
    unfold bar2Unit
    rw [if_pos (by omega), bank, if_pos hk, die]
  have master : mapMaster a = mMAP (a / 0x10000000) :=
    mapMaster_of_target hd (.inl (by unfold bar2Target; rw [unit a (by omega) (by omega)]))
  unfold State.engineReach bar2Target State.bar2Admits
  rw [unit _ (by omega) (by omega), master]
  simp [matrixPath_map hd (.inl rfl), State.bankAdmits, he, hr, hp, ho, ownerAdmits]

/-- A byte of a block in SCRATCH is in the reach of the MAP master of its die. -/
theorem fetchable_reach_dram {s : State} {a i : Nat} (h : s.fetchable a 1 = true) (hb : ¬a < 0x40000000) (hi : i < 16) :
    s.engineReach (mapMaster a) false (a + i) = true := by
  unfold State.fetchable at h
  dsimp only at h
  have above : ¬a < 0x1000000000 := fun hd => by rw [if_neg hb, if_pos hd] at h; cases h
  rw [if_neg hb, if_neg above] at h
  simp only [Bool.and_eq_true, beq_iff_eq, decide_eq_true_eq] at h
  obtain ⟨⟨⟨hd, hz⟩, hlow⟩, hhigh⟩ := h
  unfold dramBase at hz hlow hhigh
  have unit (x : Nat) (h1 : a ≤ x) (h2 : x ≤ a + 15) :
      bar2Unit x = .dram (a / 0x400000000 - 4) (x - (0x1000000000 + 0x400000000 * (a / 0x400000000 - 4))) := by
    have die : x / 0x400000000 - 4 = a / 0x400000000 - 4 := by omega
    have off : x % 0x400000000 = x - (0x1000000000 + 0x400000000 * (a / 0x400000000 - 4)) := by omega
    unfold bar2Unit
    rw [if_neg (by omega), if_neg (by omega), if_pos (by omega), die, off]
  have master : mapMaster a = mMAP (a / 0x400000000 - 4) :=
    mapMaster_of_target hd (.inr (by unfold bar2Target; rw [unit a (by omega) (by omega)]))
  have scratch : s.partAt (a / 0x400000000 - 4) (a + i - (0x1000000000 + 0x400000000 * (a / 0x400000000 - 4))) = some 4 :=
    partAt_between hlow hhigh (by omega) (by omega)
  have admits : partAdmits (mMAP (a / 0x400000000 - 4)) 4 false = true := by
    unfold partAdmits mMAP
    rw [if_neg (by omega), if_neg (by omega), if_neg (by omega), if_neg (by omega), if_pos (by omega)]
    rfl
  unfold State.engineReach bar2Target State.bar2Admits
  rw [unit _ (by omega) (by omega), master]
  dsimp only
  rw [matrixPath_map hd (.inr rfl), scratch]
  exact admits

/-- A byte of a block that may be fetched is in the reach of the MAP master of its die. -/
theorem fetchable_reach {s : State} {a i : Nat} (h : s.fetchable a 1 = true) (hi : i < 16) : s.engineReach (mapMaster a) false (a + i) = true := by
  by_cases hb : a < 0x40000000
  · exact fetchable_reach_bank h hb hi
  · exact fetchable_reach_dram h hb hi

/-- The words of a record, each with what its check finds. -/
theorem errsFound_record (a : Nat) (e1 e2 : Ecc) : errsFound (.read 16) a [(a, e1), (a + 8, e2)] = [(a, e1), (a + 8, e2)] := by
  have first : (MemOp.addrs a (.read 16)).any (fun x => x / 8 == a / 8) = true :=
    List.any_eq_true.2 ⟨a, List.mem_map.2 ⟨0, by decide, rfl⟩, by simp⟩
  have second : (MemOp.addrs a (.read 16)).any (fun x => x / 8 == (a + 8) / 8) = true :=
    List.any_eq_true.2 ⟨a + 8, List.mem_map.2 ⟨8, by decide, rfl⟩, by simp⟩
  have reads : [(a, e1), (a + 8, e2)].filter (fun e => readsWord (.read 16) a && (MemOp.addrs a (.read 16)).any (fun x => x / 8 == e.1 / 8)) =
      [(a, e1), (a + 8, e2)] := by
    rw [List.filter_eq_self]
    intro e he
    obtain rfl | rfl : e = (a, e1) ∨ e = (a + 8, e2) := by simpa using he
    · exact first
    · exact second
  unfold errsFound
  rw [reads]
  simp

/-- The state after the banks of a record have been read. -/
def State.recordRead (s : State) (a : Nat) : State := (MemOp.addrs a (.read 16)).foldl State.bar2Use s

/-- The read of a record that may be fetched. -/
theorem engineOp_record {s : State} {a : Nat} (h : s.fetchable a 1 = true) (hm : s.bit R.MATRIX_MRST_BUSY (mapMaster a) = false) (e1 e2 : Ecc) :
    s.engineOp (mapMaster a) a (.read 16) [(a, e1), (a + 8, e2)] =
      (((s.recordRead a).bar2Ecc (a, e1)).bar2Ecc (a + 8, e2), !(e1 == .uncorrectable || e2 == .uncorrectable)) := by
  have reach : (MemOp.addrs a (.read 16)).find? (fun x => !s.engineReach (mapMaster a) (MemOp.read 16).isWrite x) = none := by
    rw [List.find?_eq_none]
    intro x hx
    obtain ⟨i, hi, rfl⟩ := List.mem_map.1 hx
    have reaches := fetchable_reach h (List.mem_range.1 hi)
    simp [MemOp.isWrite, reaches]
  unfold State.engineOp
  rw [if_neg (by simp [hm]), reach]
  dsimp only
  rw [errsFound_record]
  simp [anyBad, State.recordRead]

-- What the use of a bank leaves

/-- Nothing differs but the registers of work banks, SIEVE's places, the last use of banks, and what events may change. -/
structure BankOnly (s t : State) : Prop where
  rest : t = { s with regs := t.regs, timers := t.timers, hostWrites := t.hostWrites, safe := t.safe, due := t.due, draw := t.draw,
                      firstClk := t.firstClk, sievePos := t.sievePos, wbLast := t.wbLast }
  regs : ∀ r, evReg r = false → r.blk ≠ .wb → t.rd r = s.rd r
  tally : TallyKept s t
  due : t.due = s.due

theorem BankOnly.refl (s : State) : BankOnly s s := ⟨rfl, fun _ _ _ => rfl, .refl s, rfl⟩

theorem BankOnly.trans {s t u : State} (h : BankOnly s t) (g : BankOnly t u) : BankOnly s u :=
  ⟨by rw [g.rest, h.rest], fun r he hw => (g.regs r he hw).trans (h.regs r he hw), h.tally.trans g.tally, g.due.trans h.due⟩

theorem BankOnly.ite {c : Prop} [Decidable c] {s t u : State} (h : BankOnly s t) (g : BankOnly s u) : BankOnly s (if c then t else u) := by
  by_cases hc : c <;> simpa [hc]

theorem BankOnly.foldl {α : Type} {f : State → α → State} (h : ∀ t a, BankOnly t (f t a)) : ∀ (l : List α) (s : State), BankOnly s (l.foldl f s)
  | [], s => .refl s
  | a :: l, s => (h s a).trans (BankOnly.foldl h l _)

theorem BankOnly.put (s : State) (d o : Nat) (f : Fld) (v : Nat) (ht : tallyReg ⟨.wb, d, o, 0⟩ = false) :
    BankOnly s (s.put ⟨.wb, d, o, 0⟩ f v) :=
  ⟨rfl, fun r _ hw => rd_put_ne _ _ _ (by rintro rfl; exact hw rfl), .put _ _ _ _ ht, rfl⟩

theorem BankOnly.addCtr (s : State) {c : Ctr} (n : Nat) (hl : c.lo.blk = .wb) (hh : c.hi.blk = .wb) (tl : tallyReg c.lo = false)
    (th : tallyReg c.hi = false) : BankOnly s (s.addCtr c n) where
  rest := by
    have raw : (s.addRaw c n).1 = { s with regs := (s.addRaw c n).1.regs } := by
      unfold State.addRaw
      dsimp only
      split <;> rfl
    have ev := (addCtr_only_event s c n).rest
    rw [raw] at ev
    rw [ev]
  regs r he hw := rd_addCtr _ _ _ (by rintro rfl; exact hw hl) (by rintro rfl; exact hw hh) he
  tally := .addCtr _ _ _ tl th
  due := SameDue.addCtr _ _ _

theorem BankOnly.setSieveAt (s : State) (d b g : Nat) : BankOnly s (s.setSieveAt d b g) := ⟨rfl, fun _ _ _ => rfl, .of_regs rfl, rfl⟩
theorem BankOnly.bankTouched (s : State) (d b : Nat) : BankOnly s (s.bankTouched d b) := ⟨rfl, fun _ _ _ => rfl, .of_regs rfl, rfl⟩

theorem BankOnly.sieveAbandon (s : State) (d b : Nat) : BankOnly s (s.sieveAbandon d b) := by
  have he : BankOnly s (s.sieveEnd d b) :=
    .ite (((BankOnly.put _ _ _ _ _ rfl).trans (.put _ _ _ _ _ rfl)).trans (.put _ _ _ _ _ rfl)) (.put _ _ _ _ _ rfl)
  have h : BankOnly s ((s.sieveEnd d b).setSieveAt d b 0) := he.trans (.setSieveAt _ _ _ _)
  exact .ite (h.trans (.addCtr _ _ rfl rfl rfl rfl)) (.ite h (.refl s))

theorem BankOnly.bankUse (s : State) (d b : Nat) : BankOnly s (s.bankUse d b) :=
  (BankOnly.ite (c := s.flag (R.WB_OWN d b) F.WB_OWN_ON_LOAN = true) (.sieveAbandon s d b) (.refl s)).trans (.bankTouched _ _ _)

theorem BankOnly.recordRead (s : State) (a : Nat) : BankOnly s (s.recordRead a) :=
  .foldl (fun t x => by unfold State.bar2Use; split; exacts [.bankUse _ _ _, .refl t]) _ _

theorem BankOnly.stands {s t : State} (h : BankOnly s t) : SlotsStand s t :=
  ⟨by rw [h.rest], by rw [h.rest], by rw [h.rest], by rw [h.rest], by rw [h.rest], fun _ _ ho => h.regs _ (by simp [evReg, ho]) (by simp)⟩

/-- The use of banks leaves what records are checked against. -/
theorem BankOnly.adm {s t : State} (k : Nat) (h : BankOnly s t) : AdmSame k s t where
  pers := by rw [h.rest]
  depth := by rw [h.rest]
  unretire := by rw [h.rest]
  failed := by rw [h.rest]
  applying := by rw [h.rest]
  map := h.stands.map
  merges := by rw [h.rest]
  line b i o hb ho := h.regs _ (by rcases hb with rfl | rfl <;> simp [evReg, ho]) (by rcases hb with rfl | rfl <;> simp)
  retired d := h.regs _ rfl (by simp)
  power := h.tally.power
  status j hj _ := h.stands.rd _ _ (by omega)
  slots j _ := h.stands.slot_eq j

theorem bar2Ecc_ok (s : State) (a : Nat) : s.bar2Ecc (a, .ok) = s := by
  unfold State.bar2Ecc
  split <;> rfl

-- Words that are found in error

theorem DieFault.bar2Use (s : State) (a : Nat) : DieFault s (s.bar2Use a) := by
  unfold State.bar2Use
  split
  · exact .bankUse _ _ _
  · exact .refl s

/-- The unit of a BAR2 address is on one of the four dies. -/
theorem bar2Unit_die {a : Nat} : (∀ d b o, bar2Unit a = .bank d b o → d < 4) ∧ (∀ d o, bar2Unit a = .dram d o → d < 4) := by
  unfold bar2Unit
  split_ifs <;> simp <;> omega

theorem DieFault.bar2Ecc (s : State) (a : Nat) (e : Ecc) : DieFault s (s.bar2Ecc (a, e)) := by
  unfold State.bar2Ecc
  split
  next d b off hu =>
    have source : dieSource (evDie d) srcWB := dieSource_die (bar2Unit_die.1 _ _ _ hu)
    cases e
    · exact .refl s
    · exact (DieFault.addCtr _ _ _ rfl rfl).trans (.event _ _ source)
    · exact ((((DieFault.addCtr _ _ _ rfl rfl).trans (.put _ _ _ _ rfl)).trans (.put _ _ _ _ rfl)).trans (.put _ _ _ _ rfl)).trans
        (.event _ _ source)
  next d off hu =>
    have source : dieSource (evDie d) srcDRAM := dieSource_die (bar2Unit_die.2 _ _ hu)
    cases e
    · exact .refl s
    · exact (DieFault.addCtr _ _ _ rfl rfl).trans (.event _ _ source)
    · exact (((DieFault.addCtr _ _ _ rfl rfl).trans (.put _ _ _ _ rfl)).trans (.put _ _ _ _ rfl)).trans (.event _ _ source)
  next => exact .refl s

end Sys2Proof.Machine

/-! How a slot is filled: OPEN and RELEASE, records of the host, and fetches (R86, R87). -/

namespace Sys2Proof.Machine

-- OPEN, RELEASE and TXN_FN

theorem txnOpen_opens {s : State} {k : Nat} (hg : s.grave = false) (hf : s.txnState k = txFREE) (ho : s.ownSlot k = true) :
    s.txnOpen k false = s.openSlot k := by
  unfold State.txnOpen
  rw [if_neg (by simp [hg, hf, ho])]
  exact if_pos rfl

theorem txnOpen_refused {s : State} {k : Nat} (mirror : Bool) (h : s.grave = true ∨ s.txnState k ≠ txFREE ∨ s.ownSlot k = false) :
    s.txnOpen k mirror = s.opRefused k := by
  unfold State.txnOpen
  exact if_pos (by rcases h with h | h | h <;> simp [h])

theorem txnRelease_frees {s : State} {k : Nat} (hg : s.grave = false) (h5 : txCOMMITTED ≤ s.txnState k)
    (hn : s.flag (R.TXN_STATUS k) F.TXN_STATUS_CLEANING = false) (hc : s.copyOfMate k = false) :
    s.txnRelease k = (if s.mirrored k then s.toMate (.release k) else s).freeSlot k := by
  unfold txCOMMITTED at h5
  unfold State.txnRelease
  exact if_neg (by simp [hg, hn, hc]; omega)

theorem txnRelease_refused {s : State} {k : Nat} (h : s.grave = true ∨ s.txnState k < txCOMMITTED ∨
    s.flag (R.TXN_STATUS k) F.TXN_STATUS_CLEANING = true ∨ s.copyOfMate k = true) : s.txnRelease k = s.opRefused k := by
  unfold txCOMMITTED at h
  unfold State.txnRelease
  exact if_pos (by rcases h with h | h | h | h <;> simp [h])

theorem writeTxnFn_takes {s : State} {k : Nat} (v : Word) (ho : s.txnState k = txOPEN) (hc : s.copyOfMate k = false) :
    s.writeTxnFn k v = s.wr (R.TXN_FN k) v := by
  unfold State.writeTxnFn
  exact if_pos ⟨ho, by simp [hc]⟩

theorem writeTxnFn_refused {s : State} {k : Nat} (v : Word) (h : s.txnState k ≠ txOPEN ∨ s.copyOfMate k = true) :
    s.writeTxnFn k v = s.opRefused k := by
  unfold State.writeTxnFn
  exact if_neg (by rcases h with h | h <;> simp [h])

-- Records that are discarded

/-- DISCARDED counts up to its end (R87). -/
theorem discard_count (s : State) (k : Nat) : (s.discard k).get (R.TXN_COUNT k) F.TXN_COUNT_DISCARDED =
    min 4095 (s.get (R.TXN_COUNT k) F.TXN_COUNT_DISCARDED + 1) := by
  have bound : s.get (R.TXN_COUNT k) F.TXN_COUNT_DISCARDED < 2 ^ 12 := fget_lt _ _
  unfold State.discard State.satInc
  split
  next h =>
    have h : s.get (R.TXN_COUNT k) F.TXN_COUNT_DISCARDED < 2 ^ 12 - 1 := h
    rw [get_put_same _ _ (by decide), Nat.mod_eq_of_lt (show _ < 2 ^ 12 by omega)]
    omega
  next h =>
    have h : ¬ s.get (R.TXN_COUNT k) F.TXN_COUNT_DISCARDED < 2 ^ 12 - 1 := h
    omega

theorem discard_regs (s : State) (k : Nat) : RegsOnly (fun r => r == R.TXN_COUNT k) s (s.discard k) := by
  unfold State.discard State.satInc
  split
  · exact .put _ _ _ (beq_self_eq_true _)
  · exact ⟨rfl, fun _ _ => rfl⟩

theorem SlotStep.discard {k : Nat} (s : State) : SlotStep k s (s.discard k) := .ite (.put s 0x10c 0 _ _) (.refl s)

theorem slot_discard (s : State) (k j : Nat) : (s.discard k).slot j = s.slot j := by
  unfold State.slot; rw [(discard_regs s k).rest]

theorem hostRecord_host {s : State} {k : Nat} (p : Port) (v : Word) (hc : s.copyOfMate k = false) : s.hostRecord p k v =
    s.append k ⟨s.rd (R.TXN_REC p k 0), s.rd (R.TXN_REC p k 1), s.rd (R.TXN_REC p k 2), v⟩ false := by
  unfold State.hostRecord
  exact if_neg (by simp [hc])

theorem hostRecord_copy {s : State} {k : Nat} (p : Port) (v : Word) (hc : s.copyOfMate k = true) : s.hostRecord p k v = s.opRefused k := by
  unfold State.hostRecord
  exact if_pos hc

/-- A record that the host appends to an OPEN slot. -/
theorem hostRecord_steps {p : Port} {k : Fin 8} {v : Word} {s : State} (hp : s.reaches p 0 = true) (hs : Settled s) (ho : s.txnState k = txOPEN)
    (hc : s.copyOfMate k = false) :
    let r : Rec := ⟨s.rd (R.TXN_REC p k 0), s.rd (R.TXN_REC p k 1), s.rd (R.TXN_REC p k 2), v⟩
    let x := s.slot k
    ((s.adm k).check x.recs r = none →
      ∃ t, exec (.txnRecordAppend p k v) s = .next t ∧ t.slot k = { x with recs := x.recs ++ [r], unbuilt := x.unbuilt + 1 } ∧
        t.get (R.TXN_COUNT k) F.TXN_COUNT_RECORDS = (x.recs.length + 1) % 2 ^ 20 ∧ t.txnState k = txOPEN ∧
        t.mateOut = (if s.mirrored k && !s.originMate k then .record k.val r :: s.mateOut else s.mateOut) ∧ SlotOnly k s t ∧
        TxnOnly (s.answer .done) t) ∧
    (∀ c, (s.adm k).check x.recs r = some c → s.grave = false →
      ∃ t, exec (.txnRecordAppend p k v) s = .next t ∧ t.txnState k = txREFUSED ∧
        t.get (R.TXN_STATUS k) F.TXN_STATUS_CODE = c % 256 ∧ t.rd (R.TXN_ERR_INDEX k) = BitVec.ofNat 32 x.recs.length ∧
        t.slot k = { x with unbuilt := 0 } ∧
        t.mateOut = (if s.mirrored k then .refused k.val (some x.recs.length) :: s.mateOut else s.mateOut) ∧
        t.flag (R.TXN_STATUS k) F.TXN_STATUS_CLEANING = !x.recs.isEmpty ∧ SlotOnly k s t ∧ TxnOnly (s.answer .done) t) := by
  intro r x
  have takes : (s.answer .done).takesRec k false = true := takesRec_open (s := s.answer .done) ho _
  have appends : exec (.txnRecordAppend p k v) s = done ((s.answer .done).append k r false) := by
    rw [exec_txnRecordAppend hp, hostRecord_host (s := s.answer .done) p v hc]; rfl
  refine ⟨fun hn => ?_, fun c hn hg => ?_⟩
  · have taken := appended_append takes (r := r) hn
    obtain ⟨t, ht, hslot, htxn, same⟩ := taken.step.done hs.due
    refine ⟨t, appends.trans ht, ?_, ?_, ?_, same.mateOut.trans taken.mateOut, hslot.since, htxn⟩
    · rw [same.slot_eq, taken.slot]; rfl
    · rw [same.get_eq (by omega), taken.count]; rfl
    · exact (same.get_eq (by omega) _).trans ((taken.get_status _).trans ho)
  · have shown := refusedRec_refuseRec (s.answer .done) k c x.recs.length
    obtain ⟨t, ht, hslot, htxn, same⟩ := (SlotStep.refuseRec (k := k) (s.answer .done) c x.recs.length).done hs.due
    refine ⟨t, (appends.trans (congrArg done (append_refuses takes hn hg))).trans ht, (same.get_eq (by omega) _).trans shown.refused.state,
      (same.get_eq (by omega) _).trans shown.refused.cause, ?_, ?_, same.mateOut.trans shown.mateOut, ?_, hslot.since, htxn⟩
    · rw [same.rd _ _ (by omega), shown.index]
    · rw [same.slot_eq, shown.refused.slot]; rfl
    · rw [State.flag, same.get_eq (by omega)]; exact shown.refused.cleaning

-- The start of a fetch

/-- Nothing of a transaction's registers says what may be fetched. -/
theorem fetchable_put (s : State) (o : Nat) (f : Fld) (v a n : Nat) : (s.put ⟨.txn, 0, o, 0⟩ f v).fetchable a n = s.fetchable a n := by
  have own (d b : Nat) (g : Fld) : (s.put ⟨.txn, 0, o, 0⟩ f v).get (R.WB_OWN d b) g = s.get (R.WB_OWN d b) g := get_put_reg _ _ _ _ (by simp)
  unfold State.fetchable State.bankExists State.bankRetired State.bankPending State.bankOwner State.flag
  simp only [own]
  rfl

theorem fetchStart_refused {s : State} {k : Nat} (n : Nat) (h : s.txnState k ≠ txOPEN ∨ s.copyOfMate k = true ∨
    s.flag (R.TXN_FETCH_CTRL k) F.TXN_FETCH_CTRL_BUSY = true) : s.fetchStart k n = s.opRefused k := by
  unfold State.fetchStart
  exact if_pos (by rcases h with h | h | h <;> simp [h])

/-- The block that TXN_FETCH_HI and _LO name. -/
def State.fetchBlock (s : State) (k : Nat) : Nat :=
  2 ^ 32 * ((s.rd (R.TXN_FETCH_HI k)).toNat % 32) + (s.rd (R.TXN_FETCH_LO k)).toNat / 16 * 16

theorem fetchStart_begins {s : State} {k n : Nat} (ho : s.txnState k = txOPEN) (hc : s.copyOfMate k = false)
    (hb : s.flag (R.TXN_FETCH_CTRL k) F.TXN_FETCH_CTRL_BUSY = false) (hn : n ≠ 0) (hf : s.fetchable (s.fetchBlock k) n = true) :
    s.fetchStart k n = ((s.put (R.TXN_FETCH_CTRL k) F.TXN_FETCH_CTRL_COUNT n).setSlot k
      { s.slot k with fetchLeft := n, fetchAddr := s.fetchBlock k }).put (R.TXN_FETCH_CTRL k) F.TXN_FETCH_CTRL_BUSY 1 := by
  unfold State.fetchBlock at hf
  unfold State.fetchStart
  dsimp only
  rw [if_neg (by simp [ho, hc, hb]), if_neg hn, fetchable_put, hf]
  rfl

theorem fetchStart_fails {s : State} {k n : Nat} (ho : s.txnState k = txOPEN) (hc : s.copyOfMate k = false)
    (hb : s.flag (R.TXN_FETCH_CTRL k) F.TXN_FETCH_CTRL_BUSY = false) (hn : n ≠ 0) (hf : s.fetchable (s.fetchBlock k) n = false)
    (hg : s.grave = false) : s.fetchStart k n = (s.put (R.TXN_FETCH_CTRL k) F.TXN_FETCH_CTRL_COUNT n).refuseTxn k rcFETCH := by
  have grave : (s.put (R.TXN_FETCH_CTRL k) F.TXN_FETCH_CTRL_COUNT n).grave = false := by
    unfold State.grave State.flag at hg ⊢
    rwa [get_put_reg _ _ _ _ (by simp)]
  unfold State.fetchBlock at hf
  unfold State.fetchStart
  dsimp only
  rw [if_neg (by simp [ho, hc, hb]), if_neg hn, fetchable_put, hf, grave]
  rfl

theorem fetchStart_steps {p : Port} {k : Fin 8} {n : Fin 1048576} {s : State} (hp : s.reaches p 0 = true) (hs : Settled s)
    (ho : s.txnState k = txOPEN) (hc : s.copyOfMate k = false) (hb : s.flag (R.TXN_FETCH_CTRL k) F.TXN_FETCH_CTRL_BUSY = false)
    (hn : n.val ≠ 0) :
    (s.fetchable (s.fetchBlock k) n = true →
      ∃ t, exec (.txnFetchStart p k n) s = .next t ∧ t.slot k = { s.slot k with fetchLeft := n.val, fetchAddr := s.fetchBlock k } ∧
        t.flag (R.TXN_FETCH_CTRL k) F.TXN_FETCH_CTRL_BUSY = true ∧ t.get (R.TXN_FETCH_CTRL k) F.TXN_FETCH_CTRL_COUNT = n.val ∧
        SlotOnly k s t ∧ TxnOnly (s.answer .done) t) ∧
    (s.fetchable (s.fetchBlock k) n = false → s.grave = false →
      ∃ t, exec (.txnFetchStart p k n) s = .next t ∧ t.txnState k = txREFUSED ∧
        t.get (R.TXN_STATUS k) F.TXN_STATUS_CODE = rcFETCH ∧ SlotOnly k s t ∧ TxnOnly (s.answer .done) t) := by
  have counted : SlotStep k (s.answer .done) ((s.answer .done).put (R.TXN_FETCH_CTRL k) F.TXN_FETCH_CTRL_COUNT n) := .put _ 0x11c 0 _ _
  refine ⟨fun hf => ?_, fun hf hg => ?_⟩
  · rw [exec_txnFetchStart hp, fetchStart_begins (s := s.answer .done) ho hc hb hn hf]
    have count : ((s.answer .done).put (R.TXN_FETCH_CTRL k) F.TXN_FETCH_CTRL_COUNT n).get (R.TXN_FETCH_CTRL k) F.TXN_FETCH_CTRL_COUNT = n.val :=
      (get_put_same _ _ (by decide)).trans (Nat.mod_eq_of_lt n.isLt)
    generalize (s.answer .done).put (R.TXN_FETCH_CTRL k) F.TXN_FETCH_CTRL_COUNT n = u at counted count
    obtain ⟨t, ht, hslot, htxn, same⟩ := ((counted.trans (.setSlot u { s.slot k with fetchLeft := n.val, fetchAddr := s.fetchBlock k })).trans
      (.put _ 0x11c 0 F.TXN_FETCH_CTRL_BUSY 1)).done hs.due
    refine ⟨t, ht, ?_, ?_, ?_, hslot.since, htxn⟩
    · rw [same.slot_eq, slot_put, slot_setSlot_same]
    · rw [State.flag, same.get_eq (by omega)]
      exact flag_put_same _ _ _ (by decide)
    · rw [same.get_eq (by omega), get_put_field _ _ (by decide)]; exact count
  · rw [exec_txnFetchStart hp, fetchStart_fails (s := s.answer .done) ho hc hb hn hf hg]
    generalize (s.answer .done).put (R.TXN_FETCH_CTRL k) F.TXN_FETCH_CTRL_COUNT n = u at counted
    have refused : Refused k rcFETCH u (u.refuseTxn k rcFETCH) := refused_refuseFor _ _ _ _
    obtain ⟨t, ht, hslot, htxn, same⟩ := (counted.trans (.refuseTxn u rcFETCH)).done hs.due
    exact ⟨t, ht, (same.get_eq (by omega) _).trans refused.state, (same.get_eq (by omega) _).trans refused.cause, hslot.since, htxn⟩

end Sys2Proof.Machine

/-! One record of a fetch arrives (R87, R313), and what a slot is filled with in all. -/

namespace Sys2Proof.Machine

/-- The fetch has moved on by one record; at its last it ends. -/
def State.fetchMoved (s : State) (k : Nat) (x : TxnSlot) : State :=
  let u := s.setSlot k { x with fetchLeft := x.fetchLeft - 1, fetchAddr := x.fetchAddr + 16 }
  if x.fetchLeft = 1 then u.fetchEnd k else u

/-- What the banks and their checks leave of a record's read. -/
def State.recordChecked (s : State) (a : Nat) (ecc : Ecc × Ecc) : State := ((s.recordRead a).bar2Ecc (a, ecc.1)).bar2Ecc (a + 8, ecc.2)

section
variable {s : State} {k : Fin 8}

theorem fetchRecord_waits (ecc : Ecc × Ecc) (hw : s.engineWaits (mapMaster (s.slot k).fetchAddr) (s.slot k).fetchAddr (.read 16) = true) :
    s.fetchRecord k ecc = s := by
  unfold State.fetchRecord
  exact if_pos (.inr hw)

section
variable (hn : (s.slot k).fetchLeft ≠ 0) (hf : s.fetchable (s.slot k).fetchAddr 1 = true)
  (hm : s.bit R.MATRIX_MRST_BUSY (mapMaster (s.slot k).fetchAddr) = false)
  (hw : s.engineWaits (mapMaster (s.slot k).fetchAddr) (s.slot k).fetchAddr (.read 16) = false)
include hn hf hm hw

theorem fetchRecord_discards (ht : s.takesFetch k = false) :
    s.fetchRecord k (.ok, .ok) = ((s.recordRead (s.slot k).fetchAddr).fetchMoved k (s.slot k)).discard k := by
  unfold State.fetchRecord
  dsimp only
  rw [if_neg (by simp [hn, hw]), engineOp_record hf hm, bar2Ecc_ok, bar2Ecc_ok, ht]
  rfl

theorem fetchRecord_takes (ht : s.takesFetch k = true) : s.fetchRecord k (.ok, .ok) =
    (let u := ((s.recordRead (s.slot k).fetchAddr).fetchMoved k (s.slot k)).append k (recOfBytes (s.ld (s.slot k).fetchAddr 16)) true;
      (if (s.slot k).fetchLeft = 1 ∧ u.txnState k = txBUILDING then u.tellClose k else u).tryBuilt k) := by
  unfold State.fetchRecord
  dsimp only
  rw [if_neg (by simp [hn, hw]), engineOp_record hf hm, bar2Ecc_ok, bar2Ecc_ok, ht]
  rfl

theorem fetchRecord_fails {ecc : Ecc × Ecc} (he : ecc.1 = .uncorrectable ∨ ecc.2 = .uncorrectable) :
    s.fetchRecord k ecc = (s.recordChecked (s.slot k).fetchAddr ecc).fetchFail k := by
  have bad : (ecc.1 == .uncorrectable || ecc.2 == .uncorrectable) = true := by rcases he with h | h <;> simp [h]
  unfold State.fetchRecord
  dsimp only
  rw [if_neg (by simp [hn, hw]), engineOp_record hf hm, bad]
  rfl

end

-- The fetch moves on

theorem SlotStep.fetchEnd (u : State) : SlotStep k u (u.fetchEnd k) := (SlotStep.setSlot u _).trans (.put _ 0x11c 0 _ _)

theorem fetchEnd_slot (u : State) : (u.fetchEnd k).slot k = { u.slot k with fetchLeft := 0, stale := false } := by
  rw [State.fetchEnd, slot_put, slot_setSlot_same]

theorem fetchEnd_busy (u : State) : (u.fetchEnd k).flag (R.TXN_FETCH_CTRL k) F.TXN_FETCH_CTRL_BUSY = false := flag_put_same _ _ _ (by decide)

theorem fetchEnd_rest (u : State) {o x : Nat} (ho : o ≠ 0x11c + 0x40 * k) : (u.fetchEnd k).rd ⟨.txn, 0, o, x⟩ = u.rd ⟨.txn, 0, o, x⟩ := by
  rw [State.fetchEnd, rd_put_ne _ _ _ (by simp [ho]), rd_setSlot]

theorem TallyKept.fetchEnd (u : State) : TallyKept u (u.fetchEnd k) := (TallyKept.setSlot _ _ _).trans (.put _ _ _ _ rfl)

/-- What a slot shows whose fetch has moved on to n records left. -/
structure Moved (k : Fin 8) (n : Nat) (s t : State) : Prop where
  slot : t.slot k = { s.slot k with fetchLeft := n, fetchAddr := (s.slot k).fetchAddr + 16, stale := (s.slot k).stale && decide (n ≠ 0) }
  busy : n = 0 → t.flag (R.TXN_FETCH_CTRL k) F.TXN_FETCH_CTRL_BUSY = false
  rest : ∀ o x : Nat, o < 0xf000 → o ≠ 0x11c + 0x40 * k → t.rd ⟨.txn, 0, o, x⟩ = s.rd ⟨.txn, 0, o, x⟩
  only : SlotOnly k s t
  adm : AdmSame k s t
  due : t.due = s.due

theorem moved_fetchMoved {n : Nat} (hn : (s.slot k).fetchLeft = n + 1) :
    Moved k n s ((s.recordRead (s.slot k).fetchAddr).fetchMoved k (s.slot k)) := by
  have read := BankOnly.recordRead s (s.slot k).fetchAddr
  generalize s.recordRead (s.slot k).fetchAddr = u at read
  have step := SlotStep.setSlot (k := k) u { s.slot k with fetchLeft := (s.slot k).fetchLeft - 1, fetchAddr := (s.slot k).fetchAddr + 16 }
  have tally := TallyKept.setSlot u k { s.slot k with fetchLeft := (s.slot k).fetchLeft - 1, fetchAddr := (s.slot k).fetchAddr + 16 }
  have slot := slot_setSlot_same u k { s.slot k with fetchLeft := (s.slot k).fetchLeft - 1, fetchAddr := (s.slot k).fetchAddr + 16 }
  have regs : ∀ o x : Nat, o < 0xf000 → (u.setSlot k { s.slot k with
      fetchLeft := (s.slot k).fetchLeft - 1, fetchAddr := (s.slot k).fetchAddr + 16 }).rd ⟨.txn, 0, o, x⟩ = s.rd ⟨.txn, 0, o, x⟩ :=
    fun o x ho => (rd_setSlot _ _ _ _).trans (read.stands.rd _ _ ho)
  unfold State.fetchMoved
  dsimp only
  generalize u.setSlot k { s.slot k with fetchLeft := (s.slot k).fetchLeft - 1, fetchAddr := (s.slot k).fetchAddr + 16 } = v
    at step tally slot regs
  rw [hn, Nat.add_sub_cancel] at slot
  rw [hn]
  cases n with
  | zero =>
    rw [if_pos rfl]
    refine ⟨?_, fun _ => fetchEnd_busy v, fun o x ho hne => (fetchEnd_rest v hne).trans (regs o x ho),
      read.stands.slotOnly.trans (step.trans (.fetchEnd v)).slot,
      (read.adm k).trans (.of_step (step.trans (.fetchEnd v)) (tally.trans (.fetchEnd v))), ((step.trans (.fetchEnd v)).due).trans read.due⟩
    rw [fetchEnd_slot, slot]
    simp
  | succ n =>
    rw [if_neg (by omega)]
    refine ⟨?_, fun h => absurd h (by omega), fun o x ho _ => regs o x ho, read.stands.slotOnly.trans step.slot,
      (read.adm k).trans (.of_step step tally), step.due.trans read.due⟩
    rw [slot]
    simp

theorem Moved.get_eq {n : Nat} {t : State} (h : Moved k n s t) {o : Nat} (f : Fld) (ho : o < 0xf000) (hne : o ≠ 0x11c + 0x40 * k) :
    t.get ⟨.txn, 0, o, 0⟩ f = s.get ⟨.txn, 0, o, 0⟩ f := by unfold State.get; rw [h.rest _ _ ho hne]

/-- A record that an OPEN slot takes from its fetch. -/
theorem fetchRecord_steps {n : Nat} (hs : Settled s) (ho : s.txnState k = txOPEN) (hn : (s.slot k).fetchLeft = n + 1)
    (hst : (s.slot k).stale = false) (hf : s.fetchable (s.slot k).fetchAddr 1 = true)
    (hm : s.bit R.MATRIX_MRST_BUSY (mapMaster (s.slot k).fetchAddr) = false)
    (hw : s.engineWaits (mapMaster (s.slot k).fetchAddr) (s.slot k).fetchAddr (.read 16) = false)
    (hc : (s.adm k).check (s.slot k).recs (recOfBytes (s.ld (s.slot k).fetchAddr 16)) = none) :
    ∃ t, exec (.txnFetchRecord k (.ok, .ok)) s = .next t ∧
      t.slot k = { s.slot k with
        recs := (s.slot k).recs ++ [recOfBytes (s.ld (s.slot k).fetchAddr 16)], unbuilt := (s.slot k).unbuilt + 1,
        fetchLeft := n, fetchAddr := (s.slot k).fetchAddr + 16 } ∧
      (n = 0 → t.flag (R.TXN_FETCH_CTRL k) F.TXN_FETCH_CTRL_BUSY = false) ∧ SlotOnly k s t := by
  have takes : s.takesFetch k = true := by simp [State.takesFetch, takesRec_open ho, hst]
  have fetched := fetchRecord_takes (by omega) hf hm hw takes
  have moved := moved_fetchMoved hn
  generalize (s.recordRead (s.slot k).fetchAddr).fetchMoved k (s.slot k) = u at fetched moved
  generalize hr : recOfBytes (s.ld (s.slot k).fetchAddr 16) = r at *
  have stillOpen : u.txnState k = txOPEN := (moved.get_eq _ (by omega) (by omega)).trans ho
  have taken := appended_append (takesRec_open stillOpen true) (r := r) (by rw [moved.adm.adm_eq, moved.slot]; exact hc)
  generalize u.append k r true = v at fetched taken
  have opened : v.txnState k = txOPEN := (taken.get_status _).trans stillOpen
  have ends : s.fetchRecord k (.ok, .ok) = v := by
    rw [fetched]
    dsimp only
    rw [if_neg (by rw [opened]; exact fun h => absurd h.2 (by decide)), tryBuilt_other (by rw [opened]; decide)]
  obtain ⟨t, ht, hslot, -, same⟩ := taken.step.done (moved.due.trans hs.due)
  refine ⟨t, (congrArg done ends).trans ht, ?_, fun h0 => ?_, moved.only.trans hslot⟩
  · rw [same.slot_eq, taken.slot, moved.slot]; simp [hst]
  · rw [State.flag, same.get_eq (by omega), State.get, taken.rest _ _ (by omega) (by omega)]
    exact moved.busy h0

/-- A record of a fetch that its slot takes no more. -/
theorem fetchDiscard_steps {n : Nat} (hs : Settled s) (ht : s.takesFetch k = false) (hn : (s.slot k).fetchLeft = n + 1)
    (hf : s.fetchable (s.slot k).fetchAddr 1 = true) (hm : s.bit R.MATRIX_MRST_BUSY (mapMaster (s.slot k).fetchAddr) = false)
    (hw : s.engineWaits (mapMaster (s.slot k).fetchAddr) (s.slot k).fetchAddr (.read 16) = false) :
    ∃ t, exec (.txnFetchRecord k (.ok, .ok)) s = .next t ∧ (t.slot k).fetchLeft = n ∧ (t.slot k).recs = (s.slot k).recs ∧
      t.txnState k = s.txnState k ∧
      t.get (R.TXN_COUNT k) F.TXN_COUNT_DISCARDED = min 4095 (s.get (R.TXN_COUNT k) F.TXN_COUNT_DISCARDED + 1) ∧ SlotOnly k s t := by
  have fetched := fetchRecord_discards (by omega) hf hm hw ht
  have moved := moved_fetchMoved hn
  generalize (s.recordRead (s.slot k).fetchAddr).fetchMoved k (s.slot k) = u at fetched moved
  obtain ⟨t, hd, hslot, -, same⟩ := (SlotStep.discard (k := k) u).done (moved.due.trans hs.due)
  refine ⟨t, (congrArg done fetched).trans hd, ?_, ?_, ?_, ?_, moved.only.trans hslot⟩
  · rw [same.slot_eq, slot_discard, moved.slot]
  · rw [same.slot_eq, slot_discard, moved.slot]
  · rw [State.txnState, same.get_eq (by omega), State.get, (discard_regs u k).regs _ (by simp)]
    exact moved.get_eq _ (by omega) (by omega)
  · rw [same.get_eq (by omega), discard_count, moved.get_eq _ (by omega) (by omega)]

/-- A read that fails ends the fetch, and refuses the transaction unless its event has brought GRAVE about. -/
theorem fetchFault_steps {ecc : Ecc × Ecc} (hs : Settled s) (ho : s.txnState k = txOPEN) (hn : (s.slot k).fetchLeft ≠ 0)
    (hst : (s.slot k).stale = false) (hf : s.fetchable (s.slot k).fetchAddr 1 = true)
    (hm : s.bit R.MATRIX_MRST_BUSY (mapMaster (s.slot k).fetchAddr) = false)
    (hw : s.engineWaits (mapMaster (s.slot k).fetchAddr) (s.slot k).fetchAddr (.read 16) = false)
    (he : ecc.1 = .uncorrectable ∨ ecc.2 = .uncorrectable) :
    ∃ t, exec (.txnFetchRecord k ecc) s = .next t ∧ (t.slot k).fetchLeft = 0 ∧ (t.slot k).recs = (s.slot k).recs ∧
      (t.grave = false → t.txnState k = txREFUSED ∧ t.get (R.TXN_STATUS k) F.TXN_STATUS_CODE = rcFETCH) ∧
      t.flag (R.TXN_FETCH_CTRL k) F.TXN_FETCH_CTRL_BUSY = false ∧ SlotOnly k s t := by
  have fault : DieFault s (s.recordChecked (s.slot k).fetchAddr ecc) :=
    ((DieFault.foldl _ (fun t x _ => .bar2Use t x) s).trans (.bar2Ecc _ _ _)).trans (.bar2Ecc _ _ _)
  have fails : exec (.txnFetchRecord k ecc) s = done ((s.recordChecked (s.slot k).fetchAddr ecc).fetchFail k) :=
    congrArg done (fetchRecord_fails hn hf hm hw he)
  rw [fails]
  generalize s.recordChecked (s.slot k).fetchAddr ecc = u at fault
  have owed : ∀ x ∈ u.due, x.blk < 7 := fun x hx => (fault.due x hx).resolve_left (by rw [hs.due]; simp)
  have takes : u.takesFetch k = true := by
    have isOpen : u.txnState k = txOPEN := (fault.stands.get_eq (by omega) _).trans ho
    rw [State.takesFetch, takesRec_open isOpen, fault.stands.slot_eq, hst]; rfl
  have ended := SlotStep.fetchEnd (k := k) u
  have grave : (u.fetchEnd k).grave = u.grave := by
    unfold State.fetchEnd State.grave State.flag
    rw [get_put_reg _ _ _ _ (by simp)]; rfl
  have slot : (u.fetchEnd k).slot k = { s.slot k with fetchLeft := 0, stale := false } := by rw [fetchEnd_slot, fault.stands.slot_eq]
  have busy := fetchEnd_busy (k := k) u
  unfold State.fetchFail
  dsimp only
  rw [takes]
  generalize u.fetchEnd k = v at ended grave slot busy
  cases hg : u.grave
  · rw [if_neg (by simp)]
    have refused : Refused k rcFETCH v (v.refuseTxn k rcFETCH) := refused_refuseFor _ _ _ _
    have step := ended.trans (.refuseTxn v rcFETCH)
    obtain ⟨t, ht, end_⟩ := done_dieFault (s := v.refuseTxn k rcFETCH) (by rw [step.due]; exact owed)
    refine ⟨t, ht, ?_, ?_, fun _ => ⟨(end_.stands.get_eq (by omega) _).trans refused.state, (end_.stands.get_eq (by omega) _).trans refused.cause⟩,
      ?_, (fault.stands.slotOnly.trans step.slot).trans end_.stands.slotOnly⟩
    · rw [end_.stands.slot_eq, refused.slot, slot]
    · rw [end_.stands.slot_eq, refused.slot, slot]
    · rw [State.flag, end_.stands.get_eq (by omega), State.get, refused.rest _ _ (by omega) (by omega) (by omega)]
      exact busy
  · rw [if_pos (by simp)]
    obtain ⟨t, ht, end_⟩ := done_dieFault (s := v) (by rw [ended.due]; exact owed)
    refine ⟨t, ht, ?_, ?_, fun h => ?_, ?_, (fault.stands.slotOnly.trans ended.slot).trans end_.stands.slotOnly⟩
    · rw [end_.stands.slot_eq, slot]
    · rw [end_.stands.slot_eq, slot]
    · rw [end_.grave (grave.trans hg)] at h; cases h
    · rw [State.flag, end_.stands.get_eq (by omega)]; exact busy

end

/-- What a slot shows by an operation that its state does not list. -/
theorem opRefused_next {s : State} {k : Fin 8} {i : Instr} (h : exec i s = .next ((s.answer .done).opRefused k)) :
    ∃ t, exec i s = .next t ∧ t.flag (R.TXN_STATUS k) F.TXN_STATUS_OP_REFUSED = true ∧ t.txnState k = s.txnState k ∧ t.slot k = s.slot k ∧
      RegsOnly (fun r => r == R.TXN_STATUS k) s t := by
  have shown := opRefused_shows s k .done
  exact ⟨_, h, shown.flag, shown.state, shown.slot, shown.regs⟩

/-- Settles O47: each operation that fills a slot, by the state of the slot and by what a record or a read meets. -/
theorem transactionsAreFilled : Obligations.TransactionsAreFilled := by
  refine ⟨fun p k s hp hg hf ho => ?_, fun p k s hp h => ?_, fun p k s hp hg h5 hn hc => ?_, fun p k s hp h => ?_, fun p k s hp => ?_,
    fun p k v s hp ho hc => ?_, fun p k v s hp h => ?_, fun p k v s hp hs ho hc => hostRecord_steps hp hs ho hc, fun p k v s hp hs ho hc => ?_,
    fun p k v s hp hs hc => ?_, fun p k n s hp hs h => ?_, fun p k n s hp hs ho hc hb hn => fetchStart_steps hp hs ho hc hb hn,
    fun k n s hs ho hn hst hf hm hw => fetchRecord_steps hs ho hn hst hf hm hw, fun k n s hs ht hn hf hm hw => fetchDiscard_steps hs ht hn hf hm hw,
    fun k ecc s hs _ hw => ?_, fun k ecc s hs ho hn hst hf hm hw he => fetchFault_steps hs ho hn hst hf hm hw he⟩
  · have opened := opened_openSlot (s.answer .done) k
    have step := SlotStep.openSlot (k := k) (s.answer .done)
    exact ⟨_, (exec_txnOpen hp k).trans (congrArg Host.Outcome.next (txnOpen_opens (s := s.answer .done) hg hf ho)), opened.state, opened.slot,
      opened.count, opened.index, opened.fields _ (by decide), opened.mirrored, opened.originMate, step.slot.since, step.txn⟩
  · obtain ⟨t, ht, flag, state, -, regs⟩ := opRefused_next
      ((exec_txnOpen hp k).trans (congrArg Host.Outcome.next (txnOpen_refused (s := s.answer .done) false h)))
    exact ⟨t, ht, flag, state, regs⟩
  · have told : SlotStep k (s.answer .done) (if (s.answer .done).mirrored k then (s.answer .done).toMate (.release k) else s.answer .done) :=
      .ite (.toMate _ _) (.refl _)
    have out : (if (s.answer .done).mirrored k then (s.answer .done).toMate (.release k) else s.answer .done).mateOut =
        if s.mirrored k then .release k.val :: s.mateOut else s.mateOut := apply_ite (fun u : State => u.mateOut) _ _ _
    have slot : (if (s.answer .done).mirrored k then (s.answer .done).toMate (.release k) else s.answer .done).slot k = s.slot k := by
      split <;> rfl
    have releases := (exec_txnRelease hp k).trans (congrArg Host.Outcome.next (txnRelease_frees (s := s.answer .done) hg h5 hn hc))
    generalize (if (s.answer .done).mirrored k then (s.answer .done).toMate (.release k) else s.answer .done) = u at told out slot releases
    have step := told.trans (.freeSlot u)
    exact ⟨_, releases, txnState_freeSlot u k, by rw [slot_freeSlot, slot], by rw [mateOut_freeSlot, out], step.slot.since, step.txn⟩
  · obtain ⟨t, ht, flag, state, -, regs⟩ := opRefused_next
      ((exec_txnRelease hp k).trans (congrArg Host.Outcome.next (txnRelease_refused (s := s.answer .done) h)))
    exact ⟨t, ht, flag, state, regs⟩
  · obtain ⟨t, ht, flag, state, -, regs⟩ := opRefused_next (exec_txnOpInvalid hp k)
    exact ⟨t, ht, flag, state, regs⟩
  · exact ⟨_, (exec_txnFnWrite hp k v).trans (congrArg Host.Outcome.next (writeTxnFn_takes (s := s.answer .done) v ho hc)), rd_wr_same _ _ _,
      (RegsOnly.answer s _).trans (.wr _ _ (beq_self_eq_true _))⟩
  · obtain ⟨t, ht, flag, -, -, regs⟩ := opRefused_next
      ((exec_txnFnWrite hp k v).trans (congrArg Host.Outcome.next (writeTxnFn_refused (s := s.answer .done) v h)))
    exact ⟨t, ht, flag, regs⟩
  · have takes : (s.answer .done).takesRec k false = false := by
      have closed : (s.answer .done).txnState k ≠ txOPEN := ho
      simp [State.takesRec, closed]
    have regs := (RegsOnly.answer s .done).trans (discard_regs (s.answer .done) k)
    have discards : exec (.txnRecordAppend p k v) s = done ((s.answer .done).discard k) := by
      rw [exec_txnRecordAppend hp, hostRecord_host (s := s.answer .done) p v hc, append_discards takes]
    exact ⟨_, discards.trans (done_settled (regs.settled rfl rfl hs)), discard_count (s.answer .done) k, regs⟩
  · obtain ⟨t, ht, flag, -, slot, regs⟩ := opRefused_next
      (((exec_txnRecordAppend hp k v).trans (congrArg done (hostRecord_copy (s := s.answer .done) p v hc))).trans (done_opRefused hs k))
    exact ⟨t, ht, flag, slot, regs⟩
  · obtain ⟨t, ht, flag, -, slot, regs⟩ := opRefused_next
      (((exec_txnFetchStart hp k n).trans (congrArg done (fetchStart_refused (s := s.answer .done) n h))).trans (done_opRefused hs k))
    exact ⟨t, ht, flag, slot, regs⟩
  · exact (congrArg done (fetchRecord_waits ecc hw)).trans (done_settled hs)

end Sys2Proof.Machine

/-!
Refutation of the statement on section defects and error rates (05_line_framing.md).
-/

namespace Sys2Proof.Machine

-- A receive side that a fence holds (R348)

/-- LU 0 is an STM-1 link in OOF whose LOF_SET has run out, and a severe source of the LU has stopped it in fence mode. -/
def fencedLink : State :=
  { State.reset.setBit (R.LU_SEC_STATUS 0) sOOF with
    fence := true, pers := [(0, 1)], timers := [(lofKey 0 0, some 0)], safe := [⟨evLu 0, srcSECTION, 0, true, none⟩] }

/-- LOF_DECLARE changes nothing while the LU receives nothing. -/
theorem exec_lofDeclare_stopped {n : Fin 128} {s : State} (h : s.rxStopped n = true) : exec (.lofDeclare n) s = .next s := by
  show execLofDeclare n s = _
  unfold execLofDeclare
  simp [h]

/-- Refutes O16: no premise of the clause on LOF says that the LU receives, and while a fence holds it the end of LOF_SET declares no LOF. -/
theorem not_sectionDefectsAndErrorRates : ¬ Obligations.SectionDefectsAndErrorRates := by
  unfold Obligations.SectionDefectsAndErrorRates
  intro h
  obtain ⟨⟨-, hlof, -⟩, -⟩ := h
  obtain ⟨t, ht, declared, -⟩ := hlof 0 fencedLink (by decide +kernel) (by decide +kernel) (by decide +kernel)
  rw [← Host.Outcome.next.inj ((exec_lofDeclare_stopped (by decide +kernel)).symm.trans ht)] at declared
  exact absurd declared (by decide +kernel)

end Sys2Proof.Machine

/-!
What the section layer of the link units shows, and what leaves it: events, references, protection groups, paths, the journal, performance
monitoring, the partner's summary and the TG registers (05_line_framing.md).
-/

namespace Sys2Proof.Machine

-- The section layer

/-- A register of the section layer of a link unit below its messages, but for LU_SEC_STICKY, which every change of a live bit sets. -/
def sectionReg (r : RegId) : Bool := r.blk == .lu && decide (r.off < 0x60) && r.off != 0x14

/-- The registers, the section layer beside them, the personalities and memory. -/
def State.sectionStores (s : State) := (s.regs, s.sec, s.pers, s.mem)

/-- Two states show the same section layer of every LU; memory is the same too. -/
structure SameSection (s t : State) : Prop where
  sec : t.sec = s.sec
  pers : t.pers = s.pers
  mem : t.mem = s.mem
  regs : ∀ r, sectionReg r = true → t.rd r = s.rd r

theorem lu_of_sectionReg {r : RegId} (h : sectionReg r = true) : r.blk = .lu ∧ r.off < 0x60 := by
  obtain ⟨hl, -⟩ : (r.blk == .lu && decide (r.off < 0x60)) = true ∧ (r.off != 0x14) = true := Bool.and_eq_true_iff.1 h
  simpa using hl

theorem reactReg_of_sectionReg {r : RegId} (h : sectionReg r = true) : reactReg r = false := by
  obtain ⟨hb, ho⟩ := lu_of_sectionReg h
  have hw : r.off < 0xf000 := by omega
  simp [reactReg, txnReg, noteReg, evReg, hb, hw]

section
variable {s t u : State}

theorem SameSection.of_stores (h : t.sectionStores = s.sectionStores) : SameSection s t := by
  obtain ⟨hr, hs, hp, hm⟩ : t.regs = s.regs ∧ t.sec = s.sec ∧ t.pers = s.pers ∧ t.mem = s.mem := by
    simpa only [State.sectionStores, Prod.mk.injEq] using h
  exact ⟨hs, hp, hm, fun r _ => by unfold State.rd; rw [hr]⟩

theorem SameSection.refl (s : State) : SameSection s s := .of_stores rfl
theorem SameSection.trans (h : SameSection s t) (k : SameSection t u) : SameSection s u :=
  ⟨k.sec.trans h.sec, k.pers.trans h.pers, k.mem.trans h.mem, fun r hr => (k.regs r hr).trans (h.regs r hr)⟩

/-- Changes beside the stores before, and after, a step. -/
theorem SameSection.since (k : SameSection t u) (h : t.sectionStores = s.sectionStores) : SameSection s u := (SameSection.of_stores h).trans k
theorem SameSection.into (k : SameSection s t) (h : u.sectionStores = t.sectionStores) : SameSection s u := k.trans (.of_stores h)

theorem SameSection.ite {c : Prop} [Decidable c] (h : SameSection s t) (k : SameSection s u) : SameSection s (if c then t else u) := by
  by_cases hc : c <;> simpa [hc]

theorem SameSection.foldl {α : Type} {f : State → α → State} (l : List α) (h : ∀ t a, SameSection t (f t a)) :
    ∀ s, SameSection s (l.foldl f s) := by
  induction l with
  | nil => exact fun s => .refl s
  | cons a l ih => exact fun s => (h s a).trans (ih _)

theorem SameSection.of_react (h : ReactOnly s t) : SameSection s t :=
  ⟨by rw [h.rest], by rw [h.rest], by rw [h.rest], fun r hr => h.regs r (reactReg_of_sectionReg hr)⟩
theorem SameSection.of_event (h : EvOnly s t) : SameSection s t := .of_react (.of_event h)

theorem SameSection.secSt_eq (h : SameSection s t) (n : Nat) : t.secSt n = s.secSt n := by unfold State.secSt; rw [h.sec]
theorem SameSection.bit_eq (h : SameSection s t) {r : RegId} (hr : sectionReg r = true) (i : Nat) : t.bit r i = s.bit r i := by
  unfold State.bit; rw [h.regs r hr]
theorem SameSection.secBit_eq (h : SameSection s t) (n i : Nat) : t.secBit n i = s.secBit n i := h.bit_eq rfl i
-- One change made to two states that show the same

theorem SameSection.wr_both (h : SameSection s t) (r : RegId) {v w : Word} (hv : sectionReg r = true → w = v) :
    SameSection (s.wr r v) (t.wr r w) :=
  ⟨h.sec, h.pers, h.mem, fun q hq => by
    rw [rd_wr, rd_wr]
    split
    · next e => exact hv (e ▸ hq)
    · exact h.regs q hq⟩

theorem SameSection.putBit_both (h : SameSection s t) (r : RegId) (i : Nat) (v : Bool) : SameSection (s.putBit r i v) (t.putBit r i v) := by
  cases v
  · exact h.wr_both r fun hr => by rw [h.regs r hr]
  · exact h.wr_both r fun hr => by rw [h.regs r hr]

theorem SameSection.updSec_both (h : SameSection s t) (n : Nat) (f : LuSec → LuSec) : SameSection (s.updSec n f) (t.updSec n f) :=
  ⟨by unfold State.updSec State.setSec; rw [h.secSt_eq, h.sec], h.pers, h.mem, h.regs⟩

end

section
variable (s : State)

theorem SameSection.wr (r : RegId) (v : Word) (h : sectionReg r = false) : SameSection s (s.wr r v) :=
  ⟨rfl, rfl, rfl, fun q hq => rd_wr_ne s v (by rintro rfl; rw [h] at hq; cases hq)⟩
theorem SameSection.put (r : RegId) (f : Fld) (v : Nat) (h : sectionReg r = false) : SameSection s (s.put r f v) := .wr s r _ h
theorem SameSection.setBit (r : RegId) (i : Nat) (h : sectionReg r = false) : SameSection s (s.setBit r i) := .wr s r _ h
theorem SameSection.putBit (r : RegId) (i : Nat) (v : Bool) (h : sectionReg r = false) : SameSection s (s.putBit r i v) :=
  .ite (.wr s r _ h) (.wr s r _ h)
theorem SameSection.startTimerNs (k : TKey) (n : Nat) : SameSection s (s.startTimerNs k n) := .of_stores rfl
theorem SameSection.startTimer (k : TKey) (n : Nat) : SameSection s (s.startTimer k n) := .of_stores rfl
theorem SameSection.stopTimer (k : TKey) : SameSection s (s.stopTimer k) := .of_stores rfl
theorem SameSection.ev (b src : Nat) : SameSection s (s.ev b src) := .of_event (ev_only _ _ _)
theorem SameSection.addLoss (c : Ctr) (n : Nat) (hl : sectionReg c.lo = false) (hh : sectionReg c.hi = false) : SameSection s (s.addLoss c n) :=
  (SameSection.wr _ _ _ hh).trans (.wr _ _ _ hl)

-- Performance monitoring, groups and the journal

theorem SameSection.pmUpd (k : Nat) (f : PmEnt → PmEnt) : SameSection s (s.pmUpd k f) := .of_stores rfl
theorem SameSection.pmNeDef (k : Nat) : SameSection s (s.pmNeDef k) := .pmUpd _ _ _
theorem SameSection.pmFeDef (k : Nat) : SameSection s (s.pmFeDef k) := .pmUpd _ _ _
theorem SameSection.pmNear (k blocks cv : Nat) : SameSection s (s.pmNear k blocks cv) := .pmUpd _ _ _
theorem SameSection.pmFar (k : Nat) : SameSection s (s.pmFar k) := .pmUpd _ _ _

theorem SameSection.pmSection (n : Nat) : SameSection s (s.pmSection n) := by
  unfold State.pmSection
  extract_lets base s1 s2
  have h1 : SameSection s s1 := .ite ((SameSection.pmNeDef _ _).trans (.pmNeDef _ _)) (.refl _)
  have h2 : SameSection s1 s2 := .ite (.pmNeDef _ _) (.refl _)
  exact .ite ((h1.trans h2).trans (.ite (.pmFeDef _ _) (.refl _))) (.refl _)

theorem SameSection.pmPath (a3 : Bool) (t : TA) : SameSection s (s.pmPath a3 t) := by
  unfold State.pmPath
  extract_lets k d near s1
  have h1 : SameSection s s1 := .ite (.pmNeDef _ _) (.refl _)
  exact .ite (.refl _) (.ite (h1.trans (.pmFeDef _ _)) h1)

theorem SameSection.grpMark (x : Nat) (g h : Grp) : SameSection s (s.grpMark x g h) := by
  have hs : SameSection s (s.setBit (R.GRP_CHANGED (grpDie x) (x % 1024 / 32)) (x % 32)) := .setBit _ _ _ rfl
  exact .ite (.refl _) (hs.into rfl)

theorem SameSection.setRun (x : Nat) (g : Grp) : SameSection s (s.setRun x g) := by
  unfold State.setRun
  split
  · exact (SameSection.grpMark _ _ _ _).since rfl
  · exact (SameSection.grpMark _ _ _ _).since rfl

theorem SameSection.memClear (a3 : Bool) (t : TA) : SameSection s (s.memClear a3 t) := .foldl _ (fun _ _ => .setRun _ _ _) _

theorem SameSection.jrnLose (d : Nat) : SameSection s (s.jrnLose d) := by
  have h : SameSection s (s.addLoss ⟨R.DIE_JRN_LOST_LO d, R.DIE_JRN_LOST_HI d⟩ 1) := .addLoss _ _ _ rfl rfl
  unfold State.jrnLose
  extract_lets s1
  have h1 : SameSection s { s1 with jrnLoss := d :: s1.jrnLoss } := h.into rfl
  exact .ite h (h1.trans (.ev _ _ _))

theorem SameSection.jrnWrite (a3 : Bool) (t : TA) (now ch : Nat) : SameSection s (s.jrnWrite a3 t now ch) :=
  .ite (.refl _) (.ite (.jrnLose _ _) (.of_stores rfl))

-- Paths

theorem SameSection.skDefect (tap : Word) (o n : Nat) : SameSection s (s.skDefect tap o n) := .of_event (.skDefect _ _ _ _)
theorem SameSection.setPath (a3 : Bool) (t : TA) (x : PathSt) : SameSection s (s.setPath a3 t x) := .of_stores rfl

theorem SameSection.settlePath (a3 : Bool) (t : TA) : SameSection s (s.settlePath a3 t) := by
  unfold State.settlePath
  extract_lets x line lom x1 s1 own x2 x3 s2
  have h1 : SameSection s s1 := .ite (.refl _) (.setPath _ _ _ _)
  have h2 : SameSection s1 s2 := .ite (.refl _) (.setPath _ _ _ _)
  exact (h1.trans h2).trans (.foldl _ (fun _ _ => .ite (.memClear _ _ _) (.refl _)) _)

/-- What follows a change of paths leaves what the change itself makes of the section layer. -/
theorem SameSection.watchPaths (ks : List (Bool × TA)) (ind : Nat) {f : State → State} {s t : State} (h : SameSection t (f s)) :
    SameSection t (s.watchPaths ks ind f) := by
  unfold State.watchPaths
  extract_lets old s1
  have h1 : SameSection t s1 := h.trans (.foldl _ (fun _ _ => .settlePath _ _ _) _)
  refine h1.trans (.foldl _ (fun u e => ?_) _)
  extract_lets now ch v
  have hv : SameSection u v := .ite (.refl _) ((SameSection.jrnWrite _ _ _ _ _).trans (.skDefect _ _ _ _))
  exact hv.trans (.pmPath _ _ _)

-- The link unit's followers

theorem SameSection.luTouch (n : Nat) : SameSection s (s.luTouch n) := .of_react (.luTouch _ _)
theorem SameSection.lineRefTouch (n : Nat) : SameSection s (s.lineRefTouch n) :=
  .foldl _ (fun _ _ => .ite (.of_react (.lineRefFollow _ _)) (.refl _)) _

theorem SameSection.secInd (n i : Nat) : SameSection s (s.secInd n i) := by
  have h : SameSection s (s.setBit (R.LU_SEC_STICKY n) i) := .setBit _ _ _ rfl
  exact .ite (h.trans (.ev _ _ _)) h

theorem SameSection.putPartner (n k side lu cap : Nat) (ser : Word) : SameSection s (s.putPartner n k side lu cap ser) := by
  unfold State.putPartner
  extract_lets loop rate r ch s1
  have h : SameSection s s1 := (SameSection.wr _ _ _ rfl).trans (.wr _ _ _ rfl)
  exact .ite (h.trans (.put _ _ _ _ rfl)) h

theorem SameSection.partner (n : Nat) : SameSection s (s.partner n) :=
  .ite (.ite (.putPartner _ _ _ _ _ _ _) (.refl _)) (.putPartner _ _ _ _ _ _ _)

theorem SameSection.tgSet (n i : Nat) (v : Bool) : SameSection s (s.tgSet n i v) := by
  have ind : ∀ u : State, SameSection u (u.tgInd n i) := fun u =>
    have h : SameSection u (u.setBit (R.LU_TG_STICKY n) i) := .setBit _ _ _ rfl
    .ite (h.trans (.ev _ _ _)) h
  exact .ite (.refl _) ((SameSection.putBit _ _ _ _ rfl).trans (ind _))

theorem SameSection.setTg (n : Nat) (x : TgRx) : SameSection s (s.setTg n x) := .of_stores rfl

theorem SameSection.tgSettle (n : Nat) : SameSection s (s.tgSettle n) := by
  unfold State.tgSettle
  extract_lets dark _ s1 failed s2
  have h1 : SameSection s s1 := .ite ((SameSection.foldl _ (fun _ _ => .tgSet _ _ _ _) _).trans (.setTg _ _ _)) (.refl _)
  have h2 : SameSection s s2 := h1.trans ((SameSection.tgSet _ _ _ _).trans (.lineRefTouch _ _))
  exact .ite (.refl _) (.ite (h2.trans (.pmNeDef _ _)) h2)

theorem SameSection.rateHold (n : Nat) : SameSection s (s.rateHold n) := .ite (.ite (.refl _) (.startTimer _ _ _)) (.stopTimer _ _)

end

/-- The end of a command leaves the section layer. -/
theorem done_section (s : State) : ∃ t, done s = .next t ∧ SameSection s t := by
  obtain ⟨t, ht, hr⟩ := done_only s
  exact ⟨t, ht, .of_react hr⟩

-- The bits of LU_SEC_STATUS

section
variable (s : State)

theorem bit_putBit_same (r : RegId) {i : Nat} (v : Bool) (h : i < 32) : (s.putBit r i v).bit r i = v := by
  cases v
  · exact (bit_clrBit _ _ _ _ _).trans (if_pos ⟨rfl, rfl⟩)
  · exact (bit_setBit _ _ _ _ _).trans (if_pos ⟨rfl, rfl, h⟩)

theorem bit_putBit_ne (r : RegId) {i j : Nat} (v : Bool) (h : j ≠ i) : (s.putBit r i v).bit r j = s.bit r j := by
  cases v
  · exact (bit_clrBit _ _ _ _ _).trans (if_neg fun e => h e.2.symm)
  · exact (bit_setBit _ _ _ _ _).trans (if_neg fun e => h e.2.1.symm)

theorem rd_putBit_ne {r r' : RegId} (i : Nat) (v : Bool) (h : r' ≠ r) : (s.putBit r i v).rd r' = s.rd r' := by
  cases v
  · exact rd_wr_ne _ _ h
  · exact rd_wr_ne _ _ h

/-- A bit put to what it is. -/
theorem rd_putBit_self {r : RegId} {i : Nat} {v : Bool} (h : s.bit r i = v) (q : RegId) : (s.putBit r i v).rd q = s.rd q := by
  by_cases hq : q = r
  · subst hq
    refine BitVec.eq_of_getLsbD_eq fun j hj => ?_
    rw [← bit_eq, ← bit_eq]
    by_cases hji : j = i
    · subst hji
      rw [bit_putBit_same _ _ _ hj, h]
    · exact bit_putBit_ne _ _ _ hji
  · exact rd_putBit_ne _ _ _ hq

theorem putBit_sec (r : RegId) (i : Nat) (v : Bool) : (s.putBit r i v).sec = s.sec := by cases v <;> rfl
theorem putBit_pers (r : RegId) (i : Nat) (v : Bool) : (s.putBit r i v).pers = s.pers := by cases v <;> rfl
theorem putBit_mem (r : RegId) (i : Nat) (v : Bool) : (s.putBit r i v).mem = s.mem := by cases v <;> rfl

/-- A live bit takes its value (R122), and what follows it leaves the section layer. -/
theorem secSet_section (n i : Nat) (v : Bool) : SameSection (s.putBit (R.LU_SEC_STATUS n) i v) (s.secSet n i v) := by
  unfold State.secSet
  extract_lets s1 s2
  split
  · next h => exact ⟨(putBit_sec _ _ _ _).symm, (putBit_pers _ _ _ _).symm, (putBit_mem _ _ _ _).symm, fun q _ => (rd_putBit_self s h q).symm⟩
  · have h1 : SameSection (s.putBit (R.LU_SEC_STATUS n) i v) s1 := .ite (.watchPaths _ _ (.refl _)) (.refl _)
    have h2 : SameSection s1 s2 := (SameSection.secInd _ _ _).trans (.skDefect _ _ _ _)
    exact (h1.trans h2).trans ((SameSection.pmSection _ _).trans (.luTouch _ _))

/-- OOF is set, whatever timers start or stop with it. -/
theorem setOof_section (n : Nat) : SameSection (s.putBit (R.LU_SEC_STATUS n) sOOF true) (s.setOof n) := by
  unfold State.setOof
  extract_lets s1
  have h1 : SameSection s (s1.stopTimer (lofKey n 1)) := .trans (.ite (.refl _) (.startTimer _ _ _)) (.stopTimer _ _)
  exact (h1.putBit_both _ _ _).trans (secSet_section _ _ _ _)

/-- SEARCHING takes its value, whatever paths and references follow. -/
theorem setSearching_section (n : Nat) (v : Bool) :
    SameSection (s.put (R.LU_SEC_RATE n) F.LU_SEC_RATE_SEARCHING (if v then 1 else 0)) (s.setSearching n v) :=
  .trans (.watchPaths (s.luPaths n) 0 (.refl _)) (.lineRefTouch _ n)

end

end Sys2Proof.Machine

/-!
The framer in SEARCH (R103, Table 05-2), and the rate search that brings it there (R100, R101).
-/

namespace Sys2Proof.Machine

-- The state of one link unit

section
variable (s : State)

@[simp] theorem secSt_setSec_same (n : Nat) (x : LuSec) : (s.setSec n x).secSt n = x := look_store_same _ _ _
theorem secSt_setSec_ne {n m : Nat} (x : LuSec) (h : m ≠ n) : (s.setSec n x).secSt m = s.secSt m := look_store_ne _ _ h
@[simp] theorem secSt_updSec_same (n : Nat) (f : LuSec → LuSec) : (s.updSec n f).secSt n = f (s.secSt n) := secSt_setSec_same _ _ _
theorem secSt_updSec_ne {n m : Nat} (f : LuSec → LuSec) (h : m ≠ n) : (s.updSec n f).secSt m = s.secSt m := secSt_setSec_ne _ _ h
@[simp] theorem secSt_put (n : Nat) (r : RegId) (f : Fld) (v : Nat) : (s.put r f v).secSt n = s.secSt n := rfl
@[simp] theorem secSt_putBit (n : Nat) (r : RegId) (i : Nat) (v : Bool) : (s.putBit r i v).secSt n = s.secSt n := by
  unfold State.secSt; rw [putBit_sec]

end

-- SEARCH

/-- What SEARCH makes of the state of a link unit. -/
def LuSec.inSearch (x : LuSec) : LuSec := { x with inFrame := false, cands := [], errRun := 0 }

/-- The framer of LU n has gone to SEARCH, with OOF set; the rest of the section layer stands. -/
structure GoneToSearch (n : Nat) (s t : State) : Prop where
  own : t.secSt n = (s.secSt n).inSearch
  others : ∀ m, m ≠ n → t.secSt m = s.secSt m
  oof : t.secBit n sOOF = true
  los : t.secBit n sLOS = s.secBit n sLOS
  rate : t.rd (R.LU_SEC_RATE n) = s.rd (R.LU_SEC_RATE n)
  pers : t.pers = s.pers
  mem : t.mem = s.mem

section
variable {n : Nat} {s t u : State}

theorem GoneToSearch.inFrame (h : GoneToSearch n s t) : (t.secSt n).inFrame = false := by rw [h.own]; rfl
theorem GoneToSearch.cands (h : GoneToSearch n s t) : (t.secSt n).cands = [] := by rw [h.own]; rfl
theorem GoneToSearch.get_rate (h : GoneToSearch n s t) (f : Fld) : t.get (R.LU_SEC_RATE n) f = s.get (R.LU_SEC_RATE n) f := by
  unfold State.get; rw [h.rate]
theorem GoneToSearch.searching (h : GoneToSearch n s t) : t.searching n = s.searching n := by
  unfold State.searching State.flag; rw [h.get_rate]

theorem GoneToSearch.since (k : GoneToSearch n t u) (h : SameSection s t) : GoneToSearch n s u :=
  ⟨by rw [k.own, h.secSt_eq], fun m hm => (k.others m hm).trans (h.secSt_eq m), k.oof, k.los.trans (h.secBit_eq _ _),
    k.rate.trans (h.regs _ rfl), k.pers.trans h.pers, k.mem.trans h.mem⟩

theorem GoneToSearch.into (k : GoneToSearch n s t) (h : SameSection t u) : GoneToSearch n s u :=
  ⟨by rw [h.secSt_eq, k.own], fun m hm => (h.secSt_eq m).trans (k.others m hm), (h.secBit_eq _ _).trans k.oof, (h.secBit_eq _ _).trans k.los,
    (h.regs _ rfl).trans k.rate, h.pers.trans k.pers, h.mem.trans k.mem⟩

end

section
variable (s : State) (n : Nat)

/-- The row "Any" of Table 05-2. -/
theorem toSearch_gone : GoneToSearch n s (s.toSearch n) := by
  have shown : SameSection (((s.updSec n LuSec.inSearch).showCands n).putBit (R.LU_SEC_STATUS n) sOOF true) (s.toSearch n) :=
    (setOof_section _ _).trans (.partner _ _)
  refine .into ⟨?_, fun m hm => ?_, ?_, ?_, ?_, ?_, ?_⟩ shown
  · rw [secSt_putBit]
    exact secSt_updSec_same _ _ _
  · rw [secSt_putBit]
    exact secSt_updSec_ne _ _ hm
  · exact bit_putBit_same _ _ _ (by decide)
  · exact (bit_putBit_ne _ _ _ (by decide)).trans (by unfold State.bit State.showCands; rw [rd_put_ne _ _ _ (by simp)]; rfl)
  · exact (rd_putBit_ne _ _ _ (by simp)).trans (rd_put_ne _ _ _ (by simp))
  · exact putBit_pers _ _ _ _
  · exact putBit_mem _ _ _ _

/-- The state of a link unit whose search tries rate i. -/
def LuSec.tries (i : Nat) (x : LuSec) : LuSec := { x with trial := i }

theorem tryRate_gone (i : Nat) : GoneToSearch n (s.updSec n (LuSec.tries i)) (s.tryRate n i) :=
  (toSearch_gone _ _).since (.startTimerNs _ _ _)

/-- A search that starts again, with FOUND kept (R100). -/
theorem rateRestart_gone :
    GoneToSearch n ((s.put (R.LU_SEC_RATE n) F.LU_SEC_RATE_SEARCHING 1).updSec n (LuSec.tries 0)) (s.rateRestart n) :=
  (tryRate_gone _ _ _).since ((setSearching_section s n true).updSec_both n _)

end

/-- What a search that has started again shows. -/
theorem GoneToSearch.restarted {n : Nat} {s t : State}
    (h : GoneToSearch n ((s.put (R.LU_SEC_RATE n) F.LU_SEC_RATE_SEARCHING 1).updSec n (LuSec.tries 0)) t) :
    t.searching n = true ∧ (t.secSt n).trial = 0 ∧ (t.secSt n).inFrame = false ∧ t.secBit n sOOF = true ∧
      t.get (R.LU_SEC_RATE n) F.LU_SEC_RATE_FOUND = s.get (R.LU_SEC_RATE n) F.LU_SEC_RATE_FOUND := by
  have trial : (t.secSt n).trial = 0 := by rw [h.own, secSt_updSec_same]; rfl
  have searching : (s.put (R.LU_SEC_RATE n) F.LU_SEC_RATE_SEARCHING 1).searching n = true := by
    unfold State.searching State.flag
    rw [get_put_same _ _ (by decide)]
    rfl
  exact ⟨h.searching.trans searching, trial, h.inFrame, h.oof, (h.get_rate _).trans (get_put_field _ _ (by decide))⟩

-- The commands

/-- The end of a command keeps SEARCH. -/
theorem GoneToSearch.finished {n : Nat} {s t : State} (h : GoneToSearch n s t) : ∃ u, done t = .next u ∧ GoneToSearch n s u := by
  obtain ⟨u, hu, same⟩ := done_section t
  exact ⟨u, hu, h.into same⟩

section
variable {n : Fin 128} {s : State}

theorem exec_framerResync {p : Port} (hp : s.reaches p 0 = true) : exec (.framerResync p n) s =
    done (if (s.answer .done).persOf n = 0 then s.answer .done else (s.answer .done).toSearch n) := congrArg done (hostReg_reaches hp)

theorem exec_rateSearchRestart {p : Port} (hp : s.reaches p 0 = true) : exec (.rateSearchRestart p n) s =
    done (if (s.answer .done).searches n then (s.answer .done).rateRestart n else s.answer .done) := congrArg done (hostReg_reaches hp)

/-- RESYNC written. -/
theorem framerResync_gone {p : Port} (hp : s.reaches p 0 = true) (h : s.persOf n ≠ 0) :
    ∃ t, exec (.framerResync p n) s = .next t ∧ GoneToSearch n s t := by
  have pers : (s.answer .done).persOf n ≠ 0 := h
  have gone : GoneToSearch n s ((s.answer .done).toSearch n) := (toSearch_gone _ _).since (.of_stores rfl)
  rw [exec_framerResync hp, if_neg pers]
  exact gone.finished

/-- The signal is lost. -/
theorem losDeclare_gone {low : Bool} {quiet : Nat} (h : s.persOf n ≠ 0) (hl : s.secBit n sLOS = false) (hr : s.rxStopped n = false)
    (hq : low = true ∨ s.losSet n ≤ quiet) :
    ∃ t, exec (.losDeclare n low quiet) s = .next t ∧ GoneToSearch n (s.putBit (R.LU_SEC_STATUS n) sLOS true) t := by
  have run : exec (.losDeclare n low quiet) s = done (((((s.secSet n sLOS true).toSearch n).rateHold n).partner n).tgSettle n) := by
    show execLosDeclare n low quiet s = _
    unfold execLosDeclare
    exact if_pos (by simpa [h, hl, hr] using hq)
  rw [run]
  exact (((((toSearch_gone _ _).since (secSet_section _ _ _ _)).into (.rateHold _ _)).into (.partner _ _)).into (.tgSettle _ _)).finished

/-- The trial of a rate ends. -/
theorem rateTryTimeout_gone {lock : Option Nat} (h : s.searching n = true) (hr : s.rxStopped n = false) (hl : s.trialOver n lock = true) :
    ∃ t, exec (.rateTryTimeout n lock) s = .next t ∧ GoneToSearch n (s.updSec n (LuSec.tries (((s.secSt n).trial + 1) % 4))) t := by
  have run : exec (.rateTryTimeout n lock) s = done (s.tryRate n (((s.secSt n).trial + 1) % 4)) := by
    show execRateTryTimeout n lock s = _
    unfold execRateTryTimeout
    exact if_pos (by simp [h, hr, hl])
  rw [run]
  exact (tryRate_gone _ _ _).finished

/-- The search restarts of itself. -/
theorem rateSearchAutoRestart_gone (h : s.searches n = true) (ht : s.timerDone (rateHoldKey n) = true) (hr : s.rxStopped n = false) :
    ∃ t, exec (.rateSearchAutoRestart n) s = .next t ∧
      GoneToSearch n ((s.put (R.LU_SEC_RATE n) F.LU_SEC_RATE_SEARCHING 1).updSec n (LuSec.tries 0)) t := by
  have run : exec (.rateSearchAutoRestart n) s = done ((s.startTimer (rateHoldKey n) (msFrames 100)).rateRestart n) := by
    show execRateSearchAutoRestart n s = _
    unfold execRateSearchAutoRestart
    exact if_pos (by simp [h, hr, ht])
  have same : SameSection (s.put (R.LU_SEC_RATE n) F.LU_SEC_RATE_SEARCHING 1)
      ((s.startTimer (rateHoldKey n) (msFrames 100)).put (R.LU_SEC_RATE n) F.LU_SEC_RATE_SEARCHING 1) := .of_stores rfl
  rw [run]
  exact ((rateRestart_gone _ _).since (same.updSec_both n _)).finished

/-- RESTART written. -/
theorem rateSearchRestart_gone {p : Port} (hp : s.reaches p 0 = true) (h : s.searches n = true) :
    ∃ t, exec (.rateSearchRestart p n) s = .next t ∧
      GoneToSearch n ((s.put (R.LU_SEC_RATE n) F.LU_SEC_RATE_SEARCHING 1).updSec n (LuSec.tries 0)) t := by
  have same : SameSection (s.put (R.LU_SEC_RATE n) F.LU_SEC_RATE_SEARCHING 1)
      ((s.answer .done).put (R.LU_SEC_RATE n) F.LU_SEC_RATE_SEARCHING 1) := .of_stores rfl
  have searches : (s.answer .done).searches n = true := h
  rw [exec_rateSearchRestart hp, if_pos searches]
  exact ((rateRestart_gone _ _).since (same.updSec_both n _)).finished

end

-- The transmit rate (R101)

section
variable (s : State)

/-- LU n sends at the rate that R101 gives now. -/
def State.atWantTx (s : State) (n : Nat) : State :=
  (s.updSec n (fun x => { x with txFound := s.rateValid n })).updSec n (fun x => { x with txRate := s.wantTx n, txB1 := 0, txB2 := [] })

@[simp] theorem txRate_atWantTx (n : Nat) : ((s.atWantTx n).secSt n).txRate = s.wantTx n := by
  unfold State.atWantTx
  rw [secSt_updSec_same]

theorem secSt_atWantTx_ne {n m : Nat} (h : m ≠ n) : (s.atWantTx n).secSt m = s.secSt m :=
  (secSt_updSec_ne _ _ h).trans (secSt_updSec_ne _ _ h)

/-- A rate that differs from what the LU sends takes its place, and with a found rate the framer goes to SEARCH. -/
theorem txRateStep_changes {n : Nat} (h : s.searches n = true) (hw : s.wantTx n ≠ (s.secSt n).txRate) :
    s.txRateStep n = if s.rateValid n then (s.atWantTx n).toSearch n else s.atWantTx n := by
  unfold State.txRateStep
  rw [if_neg (by simp [h]), if_neg hw]
  rfl

end

theorem txRateChange_sends {n : Fin 128} {s : State} (h : s.searches n = true) (hw : s.wantTx n ≠ (s.secSt n).txRate) (h0 : s.ns = 0)
    (hu : (s.secSt n).rateUp < s.up) :
    ∃ t, exec (.txRateChange n) s = .next t ∧ (t.secSt n).txRate = s.wantTx n ∧
      (s.rateValid n = true → (t.secSt n).inFrame = false ∧ t.secBit n sOOF = true) ∧ t.mem = s.mem ∧
      ∀ m, m ≠ n.val → t.secSt m = s.secSt m := by
  have run : exec (.txRateChange n) s = done (s.txRateStep n) := if_pos ⟨h0, hu⟩
  rw [run, txRateStep_changes s h hw]
  split
  · obtain ⟨t, ht, gone⟩ := (toSearch_gone (s.atWantTx n) n).finished
    have rate : (t.secSt n).txRate = s.wantTx n := by
      rw [gone.own]
      exact txRate_atWantTx s n
    exact ⟨t, ht, rate, fun _ => ⟨gone.inFrame, gone.oof⟩, gone.mem, fun m hm => (gone.others m hm).trans (secSt_atWantTx_ne s hm)⟩
  · next hv =>
    obtain ⟨t, ht, same⟩ := done_section (s.atWantTx n)
    have rate : (t.secSt n).txRate = s.wantTx n := by rw [same.secSt_eq, txRate_atWantTx]
    exact ⟨t, ht, rate, fun h => absurd h hv, same.mem, fun m hm => (same.secSt_eq m).trans (secSt_atWantTx_ne s hm)⟩

/-- Settles O14: each cause brings the framer to SEARCH by the row "Any" of Table 05-2, after what else it changes. -/
theorem framerGoesToSearch : Obligations.FramerGoesToSearch := by
  refine ⟨fun p n s hp h => ?_, fun n low quiet s h hl hr hq => ?_, fun n lock s h hr hl => ?_, fun n s h ht hr => ?_, fun p n s hp h => ?_,
    fun n s h hw h0 hu => txRateChange_sends h hw h0 hu⟩
  · obtain ⟨t, ht, gone⟩ := framerResync_gone hp h
    exact ⟨t, ht, gone.inFrame, gone.cands, gone.oof, gone.mem, gone.pers, gone.others⟩
  · obtain ⟨t, ht, gone⟩ := losDeclare_gone h hl hr hq
    exact ⟨t, ht, gone.los.trans (bit_putBit_same _ _ _ (by decide)), gone.inFrame, gone.cands, gone.oof,
      gone.pers.trans (putBit_pers _ _ _ _), fun m hm => (gone.others m hm).trans (secSt_putBit _ _ _ _ _)⟩
  · obtain ⟨t, ht, gone⟩ := rateTryTimeout_gone h hr hl
    have trial : (t.secSt n).trial = ((s.secSt n).trial + 1) % 4 := by rw [gone.own, secSt_updSec_same]; rfl
    exact ⟨t, ht, trial, gone.inFrame, gone.oof, gone.mem, fun m hm => (gone.others m hm).trans (secSt_updSec_ne _ _ hm)⟩
  · obtain ⟨t, ht, gone⟩ := rateSearchAutoRestart_gone h ht hr
    exact ⟨t, ht, gone.restarted⟩
  · obtain ⟨t, ht, gone⟩ := rateSearchRestart_gone hp h
    exact ⟨t, ht, gone.restarted⟩

end Sys2Proof.Machine

/-!
The framer's candidates: a sighting, a confirmation time, and the way to IF (R103, R104, R214, Table 05-2).
-/

namespace Sys2Proof.Machine

-- Slots

/-- No candidate holds slot k. -/
theorem slotFree_iff {x : LuSec} {k : Nat} :
    (!x.cands.any (fun c => c.1 == k)) = true ↔ x.cands.all (fun c => c.1 != k) = true := by rw [List.not_any_eq_all_not]; rfl

/-- A sighting takes a free slot. -/
theorem openCand_free {x : LuSec} (pos : Nat) (h : ∃ k ∈ [0, 1, 2, 3], x.cands.all (fun c => c.1 != k) = true) :
    ∃ k < 4, x.openCand pos = { x with cands := x.cands ++ [(k, pos, 0)] } ∧ x.cands.all (fun c => c.1 != k) = true := by
  unfold LuSec.openCand
  split
  · next k hk =>
    have lt : ∀ i ∈ [0, 1, 2, 3], i < 4 := by decide
    have free := List.find?_some hk
    exact ⟨k, lt k (List.mem_of_find?_eq_some hk), rfl, slotFree_iff.1 free⟩
  · next hn =>
    obtain ⟨k, hk, free⟩ := h
    exact absurd (slotFree_iff.2 free) (List.find?_eq_none.1 hn k hk)

/-- With four candidates open, a sighting opens none. -/
theorem openCand_full {x : LuSec} (pos : Nat) (h : ∀ k ∈ [0, 1, 2, 3], x.cands.any (fun c => c.1 == k) = true) : x.openCand pos = x := by
  have noSlot : [0, 1, 2, 3].find? (fun k => !x.cands.any (fun c => c.1 == k)) = none :=
    List.find?_eq_none.2 fun k hk => by simp [h k hk]
  unfold LuSec.openCand
  rw [noSlot]

/-- The state of a link unit whose candidate of slot k is closed. -/
def LuSec.closeCand (k : Nat) (x : LuSec) : LuSec := { x with cands := x.cands.filter (fun e => e.1 != k) }

/-- The state of a link unit whose candidate of slot k has so many confirmations. -/
def LuSec.confirm (k conf : Nat) (x : LuSec) : LuSec :=
  { x with cands := x.cands.map (fun e => if e.1 = k then (e.1, e.2.1, conf) else e) }

theorem mem_confirm {x : LuSec} {k pos conf : Nat} (c : Nat) (h : x.cands.find? (fun e => e.1 == k) = some (k, pos, conf)) :
    (k, pos, c) ∈ (x.confirm k c).cands :=
  List.mem_map.2 ⟨(k, pos, conf), List.mem_of_find?_eq_some h, if_pos rfl⟩

-- FRAMING_PATTERN_SIGHTED

section
variable {n : Fin 128} {pos : Nat} {s : State}

/-- A sighting at a new position of a framer in SEARCH. -/
theorem exec_framingPatternSighted_new (hp : s.persOf n ≠ 0) (hi : (s.secSt n).inFrame = false) (hl : s.secBit n sLOS = false)
    (hr : s.rxStopped n = false) (hn : (s.secSt n).cands.all (fun c => c.2.1 != pos) = true) :
    exec (.framingPatternSighted n pos) s = .next ((s.setSec n ((s.secSt n).openCand pos)).showCands n) := by
  have new : (s.secSt n).cands.any (fun c => c.2.1 == pos) = false := by simpa using hn
  exact if_pos (by simp [hp, hi, hl, hr, new])

theorem exec_framingPatternSighted_cases : exec (.framingPatternSighted n pos) s = .next ((s.setSec n ((s.secSt n).openCand pos)).showCands n) ∨
    exec (.framingPatternSighted n pos) s = .next s := by
  show execFramingPatternSighted n pos s = _ ∨ execFramingPatternSighted n pos s = _
  unfold execFramingPatternSighted
  dsimp only
  split
  · exact .inl rfl
  · exact .inr rfl

end

@[simp] theorem secSt_setSec_showCands (s : State) (n : Nat) (x : LuSec) : ((s.setSec n x).showCands n).secSt n = x := secSt_setSec_same _ _ _

/-- Beside the state of the link unit, only FRAME.CAND follows the candidates. -/
theorem setSec_showCands_regs (s : State) (n : Nat) (x : LuSec) :
    RegsOnly (fun r => r == R.LU_SEC_FRAME n) { s with sec := ((s.setSec n x).showCands n).sec } ((s.setSec n x).showCands n) :=
  .put (s.setSec n x) _ _ (beq_self_eq_true _)

-- CANDIDATE_CONFIRM_TIME

section
variable {n : Fin 128} {k : Fin 4} {pos conf : Nat} {s : State}
  (hf : (s.secSt n).cands.find? (fun c => c.1 == k.val) = some (k.val, pos, conf)) (hl : s.secBit n sLOS = false)
  (hi : (s.secSt n).inFrame = false) (hr : s.rxStopped n = false)
include hf hl hi hr

/-- The confirmation that is the last one. -/
theorem exec_candidateConfirmTime_last (hc : 2 + s.get (R.LU_SEC_CTRL n) F.LU_SEC_CTRL_CONFIRM ≤ conf + 1) :
    exec (.candidateConfirmTime n k true true) s = done (s.acquire n pos) := by
  show execCandidateConfirmTime n k true true s = _
  unfold execCandidateConfirmTime
  simp [hf, hl, hi, hr, hc]

/-- A confirmation with others still to come. -/
theorem exec_candidateConfirmTime_more (hc : conf + 1 < 2 + s.get (R.LU_SEC_CTRL n) F.LU_SEC_CTRL_CONFIRM) :
    exec (.candidateConfirmTime n k true true) s = .next (s.setSec n ((s.secSt n).confirm k (conf + 1))) := by
  show execCandidateConfirmTime n k true true s = _
  unfold execCandidateConfirmTime
  simp [hf, hl, hi, hr, Nat.not_le.2 hc, LuSec.confirm]

/-- The pattern is absent. -/
theorem exec_candidateConfirmTime_absent (b1 : Bool) :
    exec (.candidateConfirmTime n k false b1) s = .next ((s.setSec n ((s.secSt n).closeCand k)).showCands n) := by
  show execCandidateConfirmTime n k false b1 s = _
  unfold execCandidateConfirmTime
  simp [hf, hl, hi, hr, LuSec.closeCand]

/-- The pattern is there, but B1, or a TG link's header CRC, does not agree. -/
theorem exec_candidateConfirmTime_disagrees (hq : s.isTG n = true ∨ s.flag (R.LU_SEC_CTRL n) F.LU_SEC_CTRL_B1_QUALIFY = true) :
    exec (.candidateConfirmTime n k true false) s =
      .next (if !s.isTG n then ((s.setSec n ((s.secSt n).closeCand k)).showCands n).satInc (R.LU_SEC_FRAME n) F.LU_SEC_FRAME_B1_DROPS
        else (s.setSec n ((s.secSt n).closeCand k)).showCands n) := by
  have asked : (!s.isTG n && !s.flag (R.LU_SEC_CTRL n) F.LU_SEC_CTRL_B1_QUALIFY) = false := by
    rcases hq with h | h
    · rw [h]; rfl
    · rw [h, Bool.not_true, Bool.and_false]
  show execCandidateConfirmTime n k true false s = _
  unfold execCandidateConfirmTime
  simp only [hf, asked]
  simp [hl, hi, hr, LuSec.closeCand]

end

-- IF

section
variable (s : State)

/-- What Table 05-2 decides of a framer. -/
def State.framer (n : Nat) : Bool × Nat × List (Nat × Nat × Nat) × Bool :=
  ((s.secSt n).inFrame, (s.secSt n).align, (s.secSt n).cands, s.secBit n sOOF)

theorem SameSection.framer_eq {s t : State} (h : SameSection s t) (n : Nat) : t.framer n = s.framer n := by
  unfold State.framer; rw [h.secSt_eq, h.secBit_eq]

theorem framer_put (n : Nat) {r : RegId} (f : Fld) (v : Nat) (h : R.LU_SEC_STATUS n ≠ r) : (s.put r f v).framer n = s.framer n := by
  unfold State.framer State.secBit State.bit
  rw [rd_put_ne _ _ _ h, secSt_put]

/-- A rate that is found leaves the framer where it is. -/
theorem framer_rateFound (n : Nat) : (s.rateFound n).framer n = s.framer n := by
  unfold State.rateFound
  extract_lets c
  split
  · rw [(SameSection.secInd _ _ _).framer_eq, framer_put _ _ _ _ (by simp), framer_put _ _ _ _ (by simp)]
    have stopped : (((s.setSearching n false).stopTimer (rateTryKey n)).updSec n (fun x => { x with rateUp := s.up })).framer n =
        (s.setSearching n false).framer n := by
      unfold State.framer
      rw [secSt_updSec_same]
      rfl
    exact stopped.trans (((setSearching_section s n false).framer_eq n).trans (framer_put _ _ _ _ (by simp)))
  · rfl

/-- The state of a link unit that frames at bit position `pos`. -/
def LuSec.framedAt (pos : Nat) (x : LuSec) : LuSec :=
  let x1 := { x with inFrame := true, cands := [], errRun := 0, align := pos }
  if pos = x.align then x1 else { x1 with bip8 := none, bip24 := none }

theorem framedAt_framer (pos : Nat) (x : LuSec) :
    ((x.framedAt pos).inFrame, (x.framedAt pos).align, (x.framedAt pos).cands) = (true, pos, []) := by
  unfold LuSec.framedAt
  dsimp only
  split <;> rfl

theorem framer_putOof (n : Nat) (v : Bool) : (s.putBit (R.LU_SEC_STATUS n) sOOF v).framer n =
    ((s.secSt n).inFrame, (s.secSt n).align, (s.secSt n).cands, v) := by
  unfold State.framer State.secBit
  rw [secSt_putBit, bit_putBit_same _ _ _ (by decide)]

@[simp] theorem secSt_satInc (n : Nat) (r : RegId) (f : Fld) : (s.satInc r f).secSt n = s.secSt n := by
  unfold State.satInc
  split <;> rfl

theorem satInc_regs {p : RegId → Bool} {r : RegId} (f : Fld) (hr : p r = true) : RegsOnly p s (s.satInc r f) := by
  unfold State.satInc
  split
  · exact .put _ _ _ hr
  · exact ⟨rfl, fun _ _ => rfl⟩

theorem satInc_sec (r : RegId) (f : Fld) : (s.satInc r f).sec = s.sec := by
  unfold State.satInc
  split <;> rfl

/-- The framer reaches IF at the candidate (Table 05-2). -/
theorem framer_acquire (n pos : Nat) : (s.acquire n pos).framer n = (true, pos, [], false) := by
  unfold State.acquire
  extract_lets x x1 x2 s1 s2
  have own : s1.secSt n = x.framedAt pos := (secSt_satInc _ _ _ _).trans (secSt_setSec_same _ _ _)
  have timed : SameSection s1 ((s1.stopTimer (lofKey n 0)).startTimer (lofKey n 1) (s1.get (R.LU_SEC_TIMERS n) F.LU_SEC_TIMERS_LOF_CLR)) :=
    .trans (.stopTimer _ _) (.startTimer _ _ _)
  have cleared : SameSection (s1.putBit (R.LU_SEC_STATUS n) sOOF false) s2 := (timed.putBit_both _ _ _).trans (secSet_section _ _ _ _)
  obtain ⟨hi, ha, hc⟩ : (x.framedAt pos).inFrame = true ∧ (x.framedAt pos).align = pos ∧ (x.framedAt pos).cands = [] := by
    simpa only [Prod.mk.injEq] using framedAt_framer pos x
  rw [(SameSection.partner _ _).framer_eq, framer_rateFound, cleared.framer_eq, framer_putOof, own, hi, ha, hc]

end

theorem candidateConfirmTime_frames {n : Fin 128} {k : Fin 4} {pos : Nat} {s : State}
    (run : exec (.candidateConfirmTime n k true true) s = done (s.acquire n pos)) :
    ∃ t, exec (.candidateConfirmTime n k true true) s = .next t ∧ (t.secSt n).inFrame = true ∧ (t.secSt n).align = pos ∧
      (t.secSt n).cands = [] ∧ t.secBit n sOOF = false := by
  obtain ⟨t, ht, same⟩ := done_section (s.acquire n pos)
  have framed := (same.framer_eq n).trans (framer_acquire s n pos)
  exact ⟨t, run.trans ht, by simpa only [State.framer, Prod.mk.injEq] using framed⟩

theorem candidateConfirmTime_disagrees {n : Fin 128} {k : Fin 4} {pos conf : Nat} {s : State}
    (hf : (s.secSt n).cands.find? (fun c => c.1 == k.val) = some (k.val, pos, conf)) (hl : s.secBit n sLOS = false)
    (hi : (s.secSt n).inFrame = false) (hr : s.rxStopped n = false)
    (hq : s.isTG n = true ∨ s.flag (R.LU_SEC_CTRL n) F.LU_SEC_CTRL_B1_QUALIFY = true) :
    ∃ t, exec (.candidateConfirmTime n k true false) s = .next t ∧ (t.secSt n).cands = (s.secSt n).cands.filter (fun e => e.1 != k.val) ∧
      RegsOnly (fun r => r == R.LU_SEC_FRAME n) { s with sec := t.sec } t := by
  have closed := setSec_showCands_regs s n ((s.secSt n).closeCand k)
  refine ⟨_, exec_candidateConfirmTime_disagrees hf hl hi hr hq, ?_⟩
  split
  · refine ⟨by rw [secSt_satInc, secSt_setSec_showCands]; rfl, ?_⟩
    rw [satInc_sec]
    exact closed.trans (satInc_regs _ _ (beq_self_eq_true _))
  · exact ⟨by rw [secSt_setSec_showCands]; rfl, closed⟩

/-- Settles O15: each clause is one row of Table 05-2, by the slots, the confirmations and the agreement that it names. -/
theorem candidatesAreConfirmed : Obligations.CandidatesAreConfirmed := by
  refine ⟨fun n pos s hp hi hl hr hn hk => ?_, fun n pos s hk => ?_, fun n k b1 pos conf s hf hl hi hr => ?_,
    fun n k pos conf s hf hl hi hc hr => ?_,
    fun n k pos conf s hf hl hi hr hc => candidateConfirmTime_frames (exec_candidateConfirmTime_last hf hl hi hr hc),
    fun n k pos conf s hf hl hi hr hq => candidateConfirmTime_disagrees hf hl hi hr hq⟩
  · obtain ⟨k, hk4, opened, free⟩ := openCand_free pos hk
    exact ⟨_, k, exec_framingPatternSighted_new hp hi hl hr hn, hk4, by rw [secSt_setSec_showCands, opened], free,
      setSec_showCands_regs _ _ _⟩
  · rcases exec_framingPatternSighted_cases (n := n) (pos := pos) (s := s) with run | run
    · exact ⟨_, run, by rw [secSt_setSec_showCands, openCand_full pos hk]⟩
    · exact ⟨s, run, rfl⟩
  · exact ⟨_, exec_candidateConfirmTime_absent hf hl hi hr b1, by rw [secSt_setSec_showCands]; rfl, setSec_showCands_regs _ _ _⟩
  · exact ⟨_, exec_candidateConfirmTime_more hf hl hi hr hc, by rw [secSt_setSec_same]; exact mem_confirm _ hf,
      by rw [secSt_setSec_same]; exact hi, rfl⟩

end Sys2Proof.Machine

/-!
What a frame that is received leaves: the parity, the run of errored patterns, and the accepted K1 (R103, R110, R112).
-/

namespace Sys2Proof.Machine

-- What the checks of a frame decide

/-- The parity held for the next frame, the framer and its run of errored patterns, the run of K1, the B1 counter, K_FILT, LOF, and the
accepted K1. -/
structure RxView where
  bip8 : Option Byte
  inFrame : Bool
  errRun : Nat
  k1 : Nat × Nat
  b1 : Nat
  kFilt : Nat
  lof : Bool
  k1Acc : Nat

def State.rxView (s : State) (n : Nat) : RxView :=
  ⟨(s.secSt n).bip8, (s.secSt n).inFrame, (s.secSt n).errRun, (s.secSt n).k1, s.ctr (ctrB1 n), s.kFilt n, s.secBit n sLOF,
    s.get (R.LU_SEC_KRX n) F.LU_SEC_KRX_K1_ACC⟩

/-- The part of the view that stands beside the registers. -/
def LuSec.rx (x : LuSec) : Option Byte × Bool × Nat × (Nat × Nat) := (x.bip8, x.inFrame, x.errRun, x.k1)

/-- The view after a frame whose B1 differs in e bits, and whose own parity is p (R110). -/
def RxView.takesParity (v : RxView) (p : Byte) (e : Nat) : RxView := { v with bip8 := some p, b1 := (v.b1 + e) % 2 ^ 48 }

/-- The view after a K1 of b (R112). -/
def RxView.takesK1 (v : RxView) (b : Nat) : RxView :=
  { v with k1 := runStep v.k1 b, k1Acc := if v.kFilt ≤ (runStep v.k1 b).2 then b else v.k1Acc }

/-- The registers of the view. -/
def rxRegs (n : Nat) : List RegId := [R.LU_SEC_TIMERS n, R.LU_SEC_STATUS n, R.LU_SEC_KRX n, R.LU_SEC_B1_LO n, R.LU_SEC_B1_HI n]

theorem sectionReg_of_rxRegs {n : Nat} {r : RegId} (h : r ∈ rxRegs n) : sectionReg r = true := by
  simp only [rxRegs, List.mem_cons, List.not_mem_nil, or_false] at h
  rcases h with rfl | rfl | rfl | rfl | rfl <;> rfl

theorem evReg_of_rxRegs {n : Nat} {r : RegId} (h : r ∈ rxRegs n) : evReg r = false := by
  obtain ⟨hb, ho⟩ := lu_of_sectionReg (sectionReg_of_rxRegs h)
  have hw : r.off < 0xf000 := by omega
  simp [evReg, hb, hw]

theorem rxView_of_rd {s t : State} {n : Nat} (hx : (t.secSt n).rx = (s.secSt n).rx) (hr : ∀ r ∈ rxRegs n, t.rd r = s.rd r) :
    t.rxView n = s.rxView n := by
  obtain ⟨hb, hi, he, hk⟩ : (t.secSt n).bip8 = (s.secSt n).bip8 ∧ (t.secSt n).inFrame = (s.secSt n).inFrame ∧
      (t.secSt n).errRun = (s.secSt n).errRun ∧ (t.secSt n).k1 = (s.secSt n).k1 := by simpa only [LuSec.rx, Prod.mk.injEq] using hx
  have timers := hr (R.LU_SEC_TIMERS n) (by simp [rxRegs])
  have status := hr (R.LU_SEC_STATUS n) (by simp [rxRegs])
  have krx := hr (R.LU_SEC_KRX n) (by simp [rxRegs])
  have b1 : t.ctr (ctrB1 n) = s.ctr (ctrB1 n) := ctr_of_rd (hr _ (by simp [rxRegs, ctrB1])) (hr _ (by simp [rxRegs, ctrB1]))
  unfold State.rxView State.kFilt State.secBit State.bit State.get
  rw [hb, hi, he, hk, b1, timers, status, krx]

theorem SameSection.rxView_eq {s t : State} (h : SameSection s t) (n : Nat) : t.rxView n = s.rxView n :=
  rxView_of_rd (by rw [h.secSt_eq]) fun r hr => h.regs r (sectionReg_of_rxRegs hr)

section
variable (s : State) (n : Nat)

theorem rxView_setSec {x : LuSec} (h : x.rx = (s.secSt n).rx) : (s.setSec n x).rxView n = s.rxView n :=
  rxView_of_rd (by rw [secSt_setSec_same, h]) fun _ _ => rfl

theorem rxView_wr {r : RegId} (v : Word) (h : r ∉ rxRegs n) : (s.wr r v).rxView n = s.rxView n :=
  rxView_of_rd rfl fun _ hq => rd_wr_ne s v fun e => h (e ▸ hq)

theorem rxView_foldl {α : Type} {f : State → α → State} (l : List α) (h : ∀ t, ∀ a ∈ l, (f t a).rxView n = t.rxView n) :
    ∀ s, (l.foldl f s).rxView n = s.rxView n := by
  induction l with
  | nil => exact fun _ => rfl
  | cons a l ih =>
    exact fun s => (ih (fun t b hb => h t b (List.mem_cons_of_mem _ hb)) _).trans (h s a List.mem_cons_self)

theorem rxView_secSet {i : Nat} (v : Bool) (h : i ≠ sLOF) : (s.secSet n i v).rxView n = s.rxView n := by
  have put : (s.putBit (R.LU_SEC_STATUS n) i v).rxView n = s.rxView n := by
    have lof : (s.putBit (R.LU_SEC_STATUS n) i v).secBit n sLOF = s.secBit n sLOF := bit_putBit_ne _ _ _ h.symm
    have rd : ∀ r, r ≠ R.LU_SEC_STATUS n → (s.putBit (R.LU_SEC_STATUS n) i v).rd r = s.rd r := fun r hr => rd_putBit_ne _ _ _ hr
    have b1 : (s.putBit (R.LU_SEC_STATUS n) i v).ctr (ctrB1 n) = s.ctr (ctrB1 n) := ctr_of_rd (rd _ (by simp [ctrB1])) (rd _ (by simp [ctrB1]))
    unfold State.rxView State.kFilt State.get
    rw [secSt_putBit, lof, b1, rd _ (by simp), rd _ (by simp)]
  exact ((secSet_section s n i v).rxView_eq n).trans put

@[simp] theorem secSt_addCtr (c : Ctr) (v : Nat) : (s.addCtr c v).secSt n = s.secSt n := by
  have raw : (s.addRaw c v).1.secSt n = s.secSt n := by
    unfold State.addRaw
    dsimp only
    split <;> rfl
  exact ((SameSection.of_event (addCtr_only_event s c v)).secSt_eq n).trans raw

theorem rxView_addCtr {c : Ctr} (v : Nat) (hl : c.lo ∉ rxRegs n) (hh : c.hi ∉ rxRegs n) : (s.addCtr c v).rxView n = s.rxView n :=
  rxView_of_rd (by rw [secSt_addCtr]) fun _ hr =>
    rd_addCtr _ _ _ (fun e => hl (e ▸ hr)) (fun e => hh (e ▸ hr)) (evReg_of_rxRegs hr)

theorem ctrB1_quiet : (ctrB1 n).Quiet := ⟨by simp [ctrB1], rfl, rfl⟩

/-- Of the view a field of LU_SEC_KRX can change the accepted K1 alone. -/
theorem rxView_putKrx (g : Fld) (v : Nat) : (s.put (R.LU_SEC_KRX n) g v).rxView n =
    { s.rxView n with k1Acc := (s.put (R.LU_SEC_KRX n) g v).get (R.LU_SEC_KRX n) F.LU_SEC_KRX_K1_ACC } := by
  have rd : ∀ r, r ≠ R.LU_SEC_KRX n → (s.put (R.LU_SEC_KRX n) g v).rd r = s.rd r := fun r => rd_put_ne s g v
  have b1 : (s.put (R.LU_SEC_KRX n) g v).ctr (ctrB1 n) = s.ctr (ctrB1 n) := ctr_of_rd (rd _ (by simp [ctrB1])) (rd _ (by simp [ctrB1]))
  unfold State.rxView State.kFilt State.secBit State.bit
  rw [b1, rd _ (by simp)]
  unfold State.get
  rw [rd (R.LU_SEC_TIMERS n) (by simp)]
  rfl

/-- The B1 counter counts up (R110). -/
theorem rxView_addB1 (v : Nat) : (s.addCtr (ctrB1 n) v).rxView n = { s.rxView n with b1 := (s.ctr (ctrB1 n) + v) % 2 ^ 48 } := by
  have rd : ∀ r, r ≠ R.LU_SEC_B1_LO n → r ≠ R.LU_SEC_B1_HI n → evReg r = false → (s.addCtr (ctrB1 n) v).rd r = s.rd r :=
    fun r => rd_addCtr s (ctrB1 n) v
  unfold State.rxView State.kFilt State.secBit State.bit State.get
  rw [secSt_addCtr, ctr_addCtr _ _ (ctrB1_quiet n), rd _ (by simp) (by simp) rfl, rd _ (by simp) (by simp) rfl, rd _ (by simp) (by simp) rfl]

theorem rxView_putMsg {r : RegId} (m : List Byte) (h : ∀ i, { r with off := r.off + 4 * i } ∉ rxRegs n) : (s.putMsg r m).rxView n = s.rxView n :=
  rxView_foldl _ _ (fun t i _ => rxView_wr t n _ (h i)) _

theorem refsS1_react : ReactOnly s (s.refsS1 n) := by
  refine .foldl _ (fun t i _ => ?_) _
  dsimp only
  exact .ite (.trans (.withRefS1 _ _) (.refShow _ _)) (.refl _)

-- The checks of one frame

section
variable (k : Nat) (f : List Byte)

/-- The framing pattern is there. -/
theorem rxView_rxFraming (hi : (s.secSt n).inFrame = true) (hf : framingOK k f = true) :
    (s.rxFraming n k f).rxView n = { s.rxView n with errRun := 0 } := by
  unfold State.rxFraming
  extract_lets x x1
  rw [if_neg (by simp [x, hi]), if_pos hf]
  unfold State.rxView
  rw [secSt_setSec_same]
  rfl

/-- B1 adds the bits that differ, and the parity of this frame is held for the next (R110). -/
theorem rxView_rxB1 (line : List Byte) {b : Byte} (hi : (s.secSt n).inFrame = true) (hb : (s.secSt n).bip8 = some b) :
    (s.rxB1 n k line f).rxView n = (s.rxView n).takesParity (bip8 line) (popc 8 (b ^^^ ohByte k f 1 0).toNat) := by
  unfold State.rxB1
  extract_lets x e s1
  have he : popc 8 (b ^^^ ohByte k f 1 0).toNat = e := by simp [e, x, hb, hi]
  have h1 : s1.rxView n = { s.rxView n with bip8 := some (bip8 line) } := by
    unfold State.rxView
    rw [secSt_setSec_same]
    rfl
  have uncounted : (s.ctr (ctrB1 n) + 0) % 2 ^ 48 = s.ctr (ctrB1 n) := Nat.mod_eq_of_lt (ctr_lt _ _)
  rw [he]
  split
  · next h0 =>
    rw [h1, h0]
    exact congrArg (fun c => { s.rxView n with bip8 := some (bip8 line), b1 := c }) uncounted.symm
  · rw [(SameSection.pmNear _ _ _ _).rxView_eq n, rxView_addB1, h1]
    rfl

theorem rxView_rxB2 : (s.rxB2 n k f).rxView n = s.rxView n := by
  unfold State.rxB2
  extract_lets x e quiet blk s1 s2
  have h1 : s1.rxView n = s.rxView n := rxView_setSec _ _ rfl
  have h2 : s2.rxView n = s1.rxView n := rxView_addCtr _ _ _ (by simp [rxRegs, ctrB2]) (by simp [rxRegs, ctrB2])
  split
  · exact h1
  · split
    · exact ((SameSection.pmNear _ _ _ _).rxView_eq n).trans (h2.trans h1)
    · exact h2.trans h1

theorem rxView_rxM1 : (s.rxM1 n k f).rxView n = s.rxView n := by
  unfold State.rxM1
  extract_lets v s1
  have h1 : s1.rxView n = s.rxView n := rxView_addCtr _ _ _ (by simp [rxRegs, ctrREI]) (by simp [rxRegs, ctrREI])
  split
  · rfl
  · split
    · exact ((SameSection.pmFar _ _).rxView_eq n).trans h1
    · exact h1

theorem rxView_rxK2last : (s.rxK2last n k f).rxView n = s.rxView n :=
  (rxView_putKrx _ _ _ _).trans (congrArg (fun a => { s.rxView n with k1Acc := a }) (get_put_field _ _ (by decide)))

/-- A K1 received in K_FILT frames in a row is accepted (R112). -/
theorem rxView_rxK : (s.rxK n k f).rxView n = (s.rxView n).takesK1 (ohByte k f 4 (3 * k)).toNat := by
  unfold State.rxK
  extract_lets x k1 k2 r1 r2 a1 a2 n1 n2 s1
  have byte : n1 % 2 ^ F.LU_SEC_KRX_K1_ACC.w = n1 := by
    refine Nat.mod_eq_of_lt ?_
    unfold n1
    split
    · exact (ohByte k f 4 (3 * k)).isLt
    · exact fget_lt _ _
  have h1 : s1.rxView n = { s.rxView n with k1 := r1, k1Acc := n1 } := by
    have state : (s.setSec n { x with k1 := r1, k2 := r2 }).rxView n = { s.rxView n with k1 := r1 } := by
      unfold State.rxView
      rw [secSt_setSec_same]
      rfl
    rw [rxView_putKrx, get_put_field _ _ (by decide), get_put_same _ _ (by decide), byte, rxView_putKrx, state]
  split
  · exact ((SameSection.secInd _ _ _).rxView_eq n).trans h1
  · exact h1

theorem rxView_rxK2low : (s.rxK2low n k f).rxView n = s.rxView n := by
  unfold State.rxK2low
  extract_lets x v ra rr s1 ais s2
  have h1 : s1.rxView n = s.rxView n := rxView_setSec _ _ rfl
  have h2 : s2.rxView n = s1.rxView n := rxView_secSet _ _ _ (by decide)
  split
  · exact (rxView_foldl n _ (fun t i hi => rxView_secSet t n _ (by rintro rfl; exact absurd hi (by decide))) _).trans (h2.trans h1)
  · exact (rxView_secSet _ _ _ (by decide)).trans (h2.trans h1)

theorem rxView_rxS1 : (s.rxS1 n k f).rxView n = s.rxView n := by
  unfold State.rxS1
  extract_lets x b r acc s1 s2
  have h1 : s1.rxView n = s.rxView n := rxView_setSec _ _ rfl
  have h2 : s2.rxView n = s1.rxView n := rxView_secSet _ _ _ (by decide)
  have refs : ∀ t : State, (t.refsS1 n).rxView n = t.rxView n := fun t => (SameSection.of_react (refsS1_react t n)).rxView_eq n
  have new : (s2.put (R.LU_SEC_S1 n) F.LU_SEC_S1_S1_ACC b).rxView n = s2.rxView n := rxView_wr _ _ _ (by simp [rxRegs])
  split
  · exact h1
  · split
    · exact (refs _).trans (h2.trans h1)
    · exact (refs _).trans (((SameSection.secInd _ _ _).rxView_eq n).trans (new.trans (h2.trans h1)))

theorem rxView_secTim : (s.secTim n).rxView n = s.rxView n := by
  unfold State.secTim
  extract_lets fmt tim
  split
  · rfl
  · split
    · rfl
    · exact rxView_secSet _ _ _ (by decide)

theorem rxView_rxJ0 : (s.rxJ0 n k f).rxView n = s.rxView n := by
  unfold State.rxJ0
  extract_lets x
  split
  next tr msg _ =>
    extract_lets s1
    have h1 : s1.rxView n = s.rxView n := rxView_setSec _ _ rfl
    split
    · exact h1
    · next m =>
      extract_lets full s2
      have h2 : s2.rxView n = s1.rxView n := by
        unfold s2
        split
        · rfl
        · exact ((SameSection.secInd _ _ _).rxView_eq n).trans (rxView_putMsg _ _ _ fun i => by simp [rxRegs]; omega)
      exact (rxView_secTim _ _).trans (h2.trans h1)

theorem rxView_berEnd (sd : Bool) : (s.berEnd n k sd).rxView n = s.rxView n := by
  unfold State.berEnd
  extract_lets x e b bit s1
  have h1 : s1.rxView n = s.rxView n := rxView_setSec _ _ (by cases sd <;> rfl)
  have hbit : bit ≠ sLOF := by cases sd <;> decide
  split
  · exact h1
  · split
    · exact (rxView_secSet _ _ _ hbit).trans h1
    · split
      · exact h1
      · exact (rxView_secSet _ _ _ hbit).trans h1

theorem rxView_berStep : (s.berStep n k).rxView n = s.rxView n :=
  rxView_foldl _ _ (fun t sd _ => by
    split
    · exact rxView_berEnd _ _ _ _
    · rfl) _

theorem rxView_rxBeacon : (s.rxBeacon n k f).rxView n = s.rxView n := by
  unfold State.rxBeacon
  extract_lets x b i l broke s1 s2
  have h1 : s1.rxView n = s.rxView n := rxView_setSec _ _ rfl
  have h2 : s2.rxView n = s1.rxView n := (SameSection.ite (.startTimer _ _ _) (.refl _)).rxView_eq n
  have taken : ((s2.putMsg (R.LU_SEC_BEACON_RX n 0) l).startTimer (beaconKey n) 64).rxView n = s2.rxView n :=
    ((SameSection.startTimer _ _ _).rxView_eq n).trans (rxView_putMsg _ _ _ fun i => by simp [rxRegs]; omega)
  split
  · exact rxView_setSec _ _ rfl
  · split
    · exact rxView_setSec _ _ rfl
    · split
      · exact h2.trans h1
      · exact ((SameSection.secInd _ _ _).rxView_eq n).trans ((rxView_secSet _ _ _ (by decide)).trans (taken.trans (h2.trans h1)))

end

-- The frame

/-- The view after the framing pattern and the B1 of a frame in IF. -/
def RxView.checked (v : RxView) (p : Byte) (e : Nat) : RxView := { v with errRun := 0 }.takesParity p e

/-- The view after a frame in IF whose B1 differs in e bits, with the parity p and a K1 of b; LOF suspends K1 (R118). -/
def RxView.afterFrame (v : RxView) (p : Byte) (e b : Nat) : RxView := if v.lof then v.checked p e else (v.checked p e).takesK1 b

/-- What a frame leaves, whatever LOF suspends. -/
theorem RxView.afterFrame_checked (v : RxView) (p : Byte) (e b : Nat) :
    (v.afterFrame p e b).b1 = (v.b1 + e) % 2 ^ 48 ∧ (v.afterFrame p e b).bip8 = some p ∧ (v.afterFrame p e b).inFrame = v.inFrame ∧
      (v.afterFrame p e b).errRun = 0 := by
  unfold RxView.afterFrame
  split
  · exact ⟨rfl, rfl, rfl, rfl⟩
  · exact ⟨rfl, rfl, rfl, rfl⟩

theorem RxView.afterFrame_k1Acc {v : RxView} {b : Nat} (p : Byte) (e : Nat) (hl : v.lof = false) (hk : v.kFilt ≤ (runStep v.k1 b).2) :
    (v.afterFrame p e b).k1Acc = b := by
  unfold RxView.afterFrame
  rw [if_neg (by simp [hl])]
  exact if_pos hk

/-- A frame that is received (R102 to R116). -/
theorem rxView_lineFrame {k : Nat} {line : List Byte} {b : Byte} (hi : (s.secSt n).inFrame = true) (hb : (s.secSt n).bip8 = some b)
    {f : List Byte} (hd : (if (s.secSt n).rxOff then line else scramble k line) = f) (hf : framingOK k f = true) :
    (s.lineFrame n k line).rxView n =
      (s.rxView n).afterFrame (bip8 line) (popc 8 (b ^^^ ohByte k f 1 0).toNat) (ohByte k f 4 (3 * k)).toNat := by
  unfold State.lineFrame
  rw [hd]
  extract_lets g s1 s2
  have framed := rxView_rxFraming s n k f hi hf
  have inFrame : ((s.rxFraming n k f).secSt n).inFrame = true := (congrArg RxView.inFrame framed).trans hi
  have held : ((s.rxFraming n k f).secSt n).bip8 = some b := (congrArg RxView.bip8 framed).trans hb
  have h1 : s1.rxView n = (s.rxView n).checked (bip8 line) (popc 8 (b ^^^ ohByte k f 1 0).toNat) := by
    rw [rxView_rxK2last, rxView_rxM1, rxView_rxB2, rxView_rxB1 _ _ _ _ _ inFrame held, framed]
    rfl
  have lof : s1.secBit n sLOF = (s.rxView n).lof := congrArg RxView.lof h1
  have h2 : s2.rxView n = (s.rxView n).afterFrame (bip8 line) (popc 8 (b ^^^ ohByte k f 1 0).toNat) (ohByte k f 4 (3 * k)).toNat := by
    unfold s2 RxView.afterFrame
    rw [lof]
    split
    · exact h1
    · rw [rxView_rxJ0, rxView_rxS1, rxView_rxK2low, rxView_rxK, h1]
  have latched : ∀ t : State, (t.latchRx n).rxView n = t.rxView n := fun t => rxView_setSec _ _ rfl
  rw [(SameSection.partner _ _).rxView_eq, latched, rxView_rxBeacon, rxView_berStep, h2]

end

/-- Settles O17: of the view that a received frame leaves, each clause is a part. -/
theorem lineFramesAreChecked : Obligations.LineFramesAreChecked := by
  intro n k frame b s hk hline hlos hlen hi hb hr f hf
  have run : exec (.lineFrameReceive n frame) s = done (s.lineFrame n k frame) := by
    show execLineFrameReceive n frame s = _
    unfold execLineFrameReceive
    simp [hk, hline, hlos, hlen, hr]
  rw [run]
  obtain ⟨t, ht, same⟩ := done_section (s.lineFrame n k frame)
  have view := (same.rxView_eq n).trans (rxView_lineFrame s n hi hb rfl hf)
  obtain ⟨counted, held, framed, sound⟩ := (s.rxView n).afterFrame_checked (bip8 frame) (popc 8 (b ^^^ ohByte k f 1 0).toNat)
    (ohByte k f 4 (3 * k)).toNat
  exact ⟨t, ht, (congrArg RxView.b1 view).trans counted, (congrArg RxView.bip8 view).trans held,
    ((congrArg RxView.inFrame view).trans framed).trans hi, (congrArg RxView.errRun view).trans sound,
    fun hlof hk1 => (congrArg RxView.k1Acc view).trans (RxView.afterFrame_k1Acc _ _ hlof hk1)⟩

end Sys2Proof.Machine

/-!
Refutation of the statement on pointers that follow the line and are generated (06_pointers_paths.md).
-/

namespace Sys2Proof.Machine

/-- LU 0 is an STM-1 link whose AU-4 has lost its multiframe for 8 frames, and a severe source of the LU has stopped its receive side in fence
mode. -/
def fencedPath : State :=
  { (State.reset.put (R.LU_PATH_STRUCT0 0 0) F.LU_PATH_STRUCT0_MODE 2).put (R.LU_PATH_STRUCT0 0 0) F.LU_PATH_STRUCT0_TUG2MAP 7 with
    fence := true, pers := [(0, 1)], safe := [⟨evLu 0, srcSECTION, 0, true, none⟩],
    paths := [(egName false (mkTA 0 0 3 7 3 2), { freshPath with ptr := 0, oom := true, oomFrames := 8 })] }

/-- LOM_DECLARE changes nothing while the LU receives nothing (Table 14-11). -/
theorem exec_lomDeclare_stopped {a3 : Bool} {u : TA} {s : State} (h : s.rxStopped (taLink u) = true) :
    exec (.lomDeclare a3 u) s = .next s := by
  show execLomDeclare a3 u s = _
  unfold execLomDeclare
  simp [h]

/-- Refutes O19: no premise of the clause on LOM says that the LU receives, and while a fence holds it 8 frames of OOM declare no LOM. -/
theorem not_pointersFollowTheLineAndAreGenerated : ¬ Obligations.PointersFollowTheLineAndAreGenerated := by
  unfold Obligations.PointersFollowTheLineAndAreGenerated
  intro h
  obtain ⟨⟨-, -, -, hlom⟩, -⟩ := h
  obtain ⟨t, ht, declared, -⟩ := hlom false (mkTA 0 0 3 7 3 2) fencedPath (by decide +kernel) (by decide +kernel) (by decide +kernel)
    (by decide +kernel) (by decide +kernel) (by decide +kernel) (by decide +kernel)
  rw [← Host.Outcome.next.inj ((exec_lomDeclare_stopped (by decide +kernel)).symm.trans ht)] at declared
  exact absurd declared (by decide +kernel)

end Sys2Proof.Machine

/-!
Pointer words and what they yield, and the states that runs of indications lead to (06_pointers_paths.md: R130, R131, Tables 06-4 and 06-5).
-/

namespace Sys2Proof.Machine

-- Pointer words

theorem ptrWord_offset (ndf ss : Nat) {v : Nat} (hv : v < 1024) : ptrWord ndf ss v % 1024 = v := by unfold ptrWord; omega
theorem ptrWord_ss (ndf : Nat) {ss : Nat} (v : Nat) (hs : ss < 4) : ptrWord ndf ss v / 1024 % 4 = ss := by unfold ptrWord; omega
theorem ptrWord_ndf (ndf : Nat) {ss : Nat} (v : Nat) (hs : ss < 4) : ptrWord ndf ss v / 4096 = ndf := by unfold ptrWord; omega
theorem ptrWord_ne_ones {ndf ss : Nat} (v : Nat) (hn : ndf < 15) (hs : ss < 4) : ptrWord ndf ss v ≠ 0xFFFF := by unfold ptrWord; omega

theorem maxOff_lt (kind : Nat) : maxOff kind < 1024 := by unfold maxOff; split <;> decide

-- Table 06-4

section
variable {kind since ss v : Nat} {ssCheck : Bool} {x : PathSt}

/-- The SS bits pass: they are those of the kind, or are not looked at. -/
theorem ss_passes (ndf : Nat) (v : Nat) (hs : ss < 4) (hc : ssCheck = true → 5 ≤ kind → ss = tuSS kind) :
    (ssCheck && decide (5 ≤ kind) && ptrWord ndf ss v / 1024 % 4 != tuSS kind) = false := by
  rw [ptrWord_ss ndf v hs]
  cases ssCheck
  · rfl
  · by_cases hk : 5 ≤ kind
    · simp [hc rfl hk]
    · simp [hk]

theorem ptrIndication_ones : ptrIndication kind ssCheck x since 0xFFFF = .ais := by simp [ptrIndication]

/-- An enabled NDF gives its offset, whatever the state. -/
theorem ptrIndication_enabled (hs : ss < 4) (hc : ssCheck = true → 5 ≤ kind → ss = tuSS kind) (hv : v < 1024) :
    ptrIndication kind ssCheck x since (ptrWord 9 ss v) = if v ≤ maxOff kind then .ndf v else .inv := by
  have hm : 3 ≤ matching 4 9 9 := by decide
  unfold ptrIndication
  simp [ptrWord_ne_ones v (by decide : 9 < 15) hs, ss_passes 9 v hs hc, ptrWord_ndf 9 v hs, ptrWord_offset 9 ss hv, hm]

/-- In NORM a word without NDF is read against the accepted offset: `diff` is how the offset bits differ from it. -/
theorem ptrIndication_normal (hs : ss < 4) (hc : ssCheck = true → 5 ≤ kind → ss = tuSS kind) (hp : x.ptr = 0) (ho : x.off < 1024)
    {diff : Nat} (hd : diff < 1024) :
    ptrIndication kind ssCheck x since (ptrWord 6 ss (x.off ^^^ diff)) =
      if diff = 0 then .norm
      else if 3 ≤ popc 10 (diff &&& iMask) ∧ popc 10 (diff &&& dMask) < 3 then (if 3 ≤ since then .inc else .inv)
      else if 3 ≤ popc 10 (diff &&& dMask) ∧ popc 10 (diff &&& iMask) < 3 then (if 3 ≤ since then .dec else .inv)
      else if x.off ^^^ diff ≤ maxOff kind then .new (x.off ^^^ diff) else .inv := by
  have hv : x.off ^^^ diff < 1024 := Nat.xor_lt_two_pow (n := 10) ho hd
  have hx : x.off ^^^ diff ^^^ x.off = diff := by rw [Nat.xor_comm, ← Nat.xor_assoc, Nat.xor_self, Nat.zero_xor]
  have h0 : x.off ^^^ diff = x.off ↔ diff = 0 := by
    constructor
    · intro h
      rw [← hx, h, Nat.xor_self]
    · rintro rfl
      exact Nat.xor_zero _
  have hn : ¬ 3 ≤ matching 4 6 9 := by decide
  have hy : ¬ matching 4 6 6 < 3 := by decide
  unfold ptrIndication
  simp [ptrWord_ne_ones (x.off ^^^ diff) (by decide : 6 < 15) hs, ss_passes 6 (x.off ^^^ diff) hs hc, ptrWord_ndf 6 _ hs,
    ptrWord_offset 6 ss hv, hn, hy, hp, h0, hx]

end

-- Table 06-5

section
variable (kind : Nat) (x : PathSt)

theorem ptrStep_ais : (ptrStep kind x .ais).1.aisRun = x.aisRun + 1 ∧
    (ptrStep kind x .ais).1.ptr = if 3 ≤ x.aisRun + 1 then 1 else x.ptr := by
  by_cases h3 : 3 ≤ x.aisRun + 1
  · by_cases h1 : x.ptr = 1 <;> simp [ptrStep, h3, h1]
  · simp [ptrStep, h3]

/-- Three AIS indications in a row. -/
theorem threeAis_ptr : ([PtrInd.ais, .ais, .ais].foldl (fun y i => (ptrStep kind y i).1) x).ptr = 1 := by
  have h1 := (ptrStep_ais kind x).1
  have h2 := (ptrStep_ais kind (ptrStep kind x .ais).1).1
  refine (ptrStep_ais kind (ptrStep kind (ptrStep kind x .ais).1 .ais).1).2.trans (if_pos ?_)
  omega

/-- A pointer word that gives no indication brings a pointer nearer to LOP, or finds it there. -/
theorem ptrStep_inv {n : Nat} (h : x.ptr = 2 ∨ n ≤ x.invRun) :
    (ptrStep kind x .inv).1.ptr = 2 ∨ n + 1 ≤ (ptrStep kind x .inv).1.invRun ∧ (ptrStep kind x .inv).1.invRun < 8 := by
  by_cases h2 : x.ptr = 2
  · simp [ptrStep, h2]
  · have hn : n ≤ x.invRun := h.resolve_left h2
    by_cases h8 : 8 ≤ x.invRun + 1
    · simp [ptrStep, h2, h8]
    · refine .inr ?_
      simp [ptrStep, h8]
      omega

theorem invRun_after (n : Nat) : let y := (List.replicate (n + 1) PtrInd.inv).foldl (fun y i => (ptrStep kind y i).1) x
    y.ptr = 2 ∨ n + 1 ≤ y.invRun ∧ y.invRun < 8 := by
  induction n with
  | zero => exact ptrStep_inv kind x (.inr (Nat.zero_le _))
  | succ n ih =>
    rw [List.replicate_succ', List.foldl_append]
    exact ptrStep_inv kind _ (ih.imp_right (fun h => h.1))

/-- Eight invalid indications in a row. -/
theorem eightInv_ptr : ((List.replicate 8 PtrInd.inv).foldl (fun y i => (ptrStep kind y i).1) x).ptr = 2 :=
  (invRun_after kind x 7).resolve_right (by omega)

/-- How many NEW_POINT indications of offset v the pointer has had in a row. -/
def PathSt.newRun (x : PathSt) (v : Nat) : Nat := if x.new.2 ≠ 0 ∧ x.new.1 = v then x.new.2 else 0

/-- The count after one more. -/
theorem newCount_eq (v : Nat) : (if x.new.2 ≠ 0 ∧ x.new.1 = v then x.new.2 + 1 else 1) = x.newRun v + 1 := by
  unfold PathSt.newRun
  split <;> rfl

/-- In NORM at offset v, with at most m invalid indications in a row. -/
structure PathSt.NormAt (x : PathSt) (v m : Nat) : Prop where
  norm : x.ptr = 0
  off : x.off = v
  inv : x.invRun ≤ m

/-- A third NEW_POINT of one offset is accepted. -/
theorem ptrStep_new_accepts {v : Nat} (h : 2 ≤ x.newRun v) :
    (ptrStep kind x (.new v)).1.NormAt v 0 ∧ (ptrStep kind x (.new v)).1.newRun v = 0 := by
  unfold PathSt.newRun at h
  split at h
  · next hr =>
    have h3 : 3 ≤ x.new.2 + 1 := by omega
    constructor
    · constructor <;> simp [ptrStep, PathSt.accept, hr, h3]
    · simp [ptrStep, PathSt.accept, PathSt.newRun, hr, h3]
  · omega

/-- An earlier one is counted. -/
theorem ptrStep_new_counts {v : Nat} (h : x.newRun v < 2) : (ptrStep kind x (.new v)).1.newRun v = x.newRun v + 1 := by
  have h3 : ¬ 3 ≤ x.newRun v + 1 := by omega
  unfold ptrStep
  simp only [newCount_eq, h3, if_false]
  split <;> simp [PathSt.newRun]

/-- A pointer in NORM at v stays there for a few more of them. -/
theorem ptrStep_new_stays {v m : Nat} (h : x.NormAt v m) (hm : m < 7) : (ptrStep kind x (.new v)).1.NormAt v (m + 1) := by
  obtain ⟨hn, ho, hi⟩ := h
  by_cases h2 : 2 ≤ x.newRun v
  · obtain ⟨hn', ho', hi'⟩ := (ptrStep_new_accepts kind x h2).1
    exact ⟨hn', ho', by omega⟩
  · have h3 : ¬ 3 ≤ x.newRun v + 1 := by omega
    have h8 : ¬ 8 ≤ x.invRun + 1 := by omega
    unfold ptrStep
    simp only [newCount_eq, h3, h8, if_false, false_and]
    exact ⟨hn, ho, Nat.succ_le_succ hi⟩

/-- Three equal new offsets in a row: one of them is accepted, and the rest leave the pointer there. -/
theorem threeNew_norm (v : Nat) : ∃ m, ([PtrInd.new v, .new v, .new v].foldl (fun y i => (ptrStep kind y i).1) x).NormAt v m := by
  let y1 := (ptrStep kind x (.new v)).1
  let y2 := (ptrStep kind y1 (.new v)).1
  by_cases h2 : 2 ≤ x.newRun v
  · have hy1 : y1.NormAt v 0 := (ptrStep_new_accepts kind x h2).1
    have hy2 : y2.NormAt v 1 := ptrStep_new_stays kind y1 hy1 (by decide)
    exact ⟨2, ptrStep_new_stays kind y2 hy2 (by decide)⟩
  have c1 : y1.newRun v = x.newRun v + 1 := ptrStep_new_counts kind x (by omega)
  by_cases h1 : x.newRun v = 1
  · have hy2 : y2.NormAt v 0 := (ptrStep_new_accepts kind y1 (by omega)).1
    exact ⟨1, ptrStep_new_stays kind y2 hy2 (by decide)⟩
  · have c2 : y2.newRun v = y1.newRun v + 1 := ptrStep_new_counts kind y1 (by omega)
    exact ⟨0, (ptrStep_new_accepts kind y2 (by omega)).1⟩

/-- A positive justification: one offset up, round the range. -/
theorem ptrStep_inc (ho : x.off ≤ maxOff kind) :
    (ptrStep kind x .inc).1.off = (x.off + 1) % (maxOff kind + 1) ∧ (ptrStep kind x .inc).2 = .pos := by
  refine ⟨?_, rfl⟩
  show (if x.off = maxOff kind then 0 else x.off + 1) = _
  split
  · next h => rw [h, Nat.mod_self]
  · exact (Nat.mod_eq_of_lt (by omega)).symm

/-- A negative justification: one offset down, round the range. -/
theorem ptrStep_dec (ho : x.off ≤ maxOff kind) :
    (ptrStep kind x .dec).1.off = (x.off + maxOff kind) % (maxOff kind + 1) ∧ (ptrStep kind x .dec).2 = .neg := by
  refine ⟨?_, rfl⟩
  show (if x.off = 0 then maxOff kind else x.off - 1) = _
  split
  · next h => rw [h, Nat.zero_add, Nat.mod_eq_of_lt (Nat.lt_succ_self _)]
  · rw [show x.off + maxOff kind = x.off - 1 + (maxOff kind + 1) by omega, Nat.add_mod_right, Nat.mod_eq_of_lt (by omega)]

end

/-- Settles O18: a word by its NDF and by the offset bits that differ, and each run of indications by what one of them does to its count. -/
theorem pointersAreInterpreted : Obligations.PointersAreInterpreted := by
  unfold Obligations.PointersAreInterpreted
  refine ⟨?_, ?_⟩
  · intro kind ssCheck x since ss hs hc hp ho
    have ho' : x.off < 1024 := lt_of_le_of_lt ho (maxOff_lt kind)
    have norm := ptrIndication_normal (kind := kind) (since := since) hs hc hp ho' (diff := 0) (by decide)
    have inc := ptrIndication_normal (kind := kind) (since := since) hs hc hp ho' (diff := 0x2AA) (by decide)
    have dec := ptrIndication_normal (kind := kind) (since := since) hs hc hp ho' (diff := 0x155) (by decide)
    refine ⟨ptrIndication_ones, ?_, ?_, ?_, ?_, ?_, ?_⟩
    · simpa using norm
    · intro h3
      rw [inc, if_neg (by decide), if_pos (by decide), if_pos h3]
    · intro h3
      rw [dec, if_neg (by decide), if_neg (by decide), if_pos (by decide), if_pos h3]
    · intro h3
      rw [inc, if_neg (by decide), if_pos (by decide), if_neg (by omega)]
    · intro v hv
      rw [ptrIndication_enabled hs hc (lt_of_le_of_lt hv (maxOff_lt kind)), if_pos hv]
    · intro v hv hv'
      rw [ptrIndication_enabled hs hc hv', if_neg (by omega)]
  · intro kind x run
    refine ⟨threeAis_ptr kind x, eightInv_ptr kind x, fun v => ?_, fun ho => ?_⟩
    · obtain ⟨m, hn, hoff, -⟩ := threeNew_norm kind x v
      exact ⟨hn, hoff⟩
    · obtain ⟨ioff, icount⟩ := ptrStep_inc kind x ho
      obtain ⟨doff, dcount⟩ := ptrStep_dec kind x ho
      exact ⟨ioff, doff, icount, dcount⟩

end Sys2Proof.Machine

/-!
What stands of the paths while others change: the paths themselves, the registers of the link units, the personalities, the map and the pending
structure pairs (06_pointers_paths.md).
-/

namespace Sys2Proof.Machine

-- Names of paths

theorem egName_inj {a b : Bool} {u v : TA} (h : egName a u = egName b v) : (a, u) = (b, v) := by
  have hu : u.toNat < 2 ^ 24 := u.isLt
  have hv : v.toNat < 2 ^ 24 := v.isLt
  unfold egName at h
  cases a <;> cases b <;> simp only [Bool.false_eq_true, if_true, if_false] at h
  · exact congrArg _ (BitVec.eq_of_toNat_eq (by omega))
  · omega
  · omega
  · exact congrArg _ (BitVec.eq_of_toNat_eq (by omega))

theorem taKind_mkTA (l a t3 t2 tu : Nat) {k : Nat} (hk : k < 16) : taKind (mkTA l a t3 t2 tu k) = k := by
  unfold taKind mkTA
  rw [BitVec.toNat_ofNat]
  omega

/-- A container is of a kind that none contains. -/
theorem container_kind {a3 : Bool} {u : TA} {q : Bool × TA} (h : container a3 u = some q) : 3 < taKind u ∧ taKind q.2 ≤ 3 := by
  unfold container at h
  split at h
  · cases h
  next hk =>
    split at h
    · cases h
      exact ⟨Nat.lt_of_not_le hk, (taKind_mkTA _ _ _ _ _ (by decide)).le⟩
    · cases h
      exact ⟨Nat.lt_of_not_le hk, (taKind_mkTA _ _ _ _ _ (by decide)).le.trans (by decide)⟩

theorem container_ne_self {a3 : Bool} {u : TA} {q : Bool × TA} (h : container a3 u = some q) : q ≠ (a3, u) := by
  rintro rfl
  obtain ⟨inner, outer⟩ := container_kind h
  exact absurd outer (Nat.not_le.2 inner)

/-- No path lies inside itself. -/
theorem not_mem_inside (s : State) (a3 : Bool) (u : TA) : (a3, u) ∉ s.inside a3 u := by
  intro h
  obtain ⟨-, hc⟩ := List.mem_filter.1 h
  exact container_ne_self (eq_of_beq hc) rfl

theorem path_setPath_same (s : State) (a3 : Bool) (u : TA) (x : PathSt) : (s.setPath a3 u x).path a3 u = x := look_store_same _ _ _
theorem path_setPath_ne (s : State) {a3 b3 : Bool} {u v : TA} (x : PathSt) (h : (b3, v) ≠ (a3, u)) :
    (s.setPath a3 u x).path b3 v = s.path b3 v := look_store_ne _ _ fun e => h (egName_inj e)

-- What stands

/-- A register of a link unit below its counter-wrap words. -/
def luReg (r : RegId) : Bool := r.blk == .lu && decide (r.off < 0xf000)

/-- The registers, the paths, the personalities, the map and the pending structure pairs. -/
def State.pathStores (s : State) := (s.regs, s.paths, s.pers, s.actMap, s.structPend)

/-- The paths that `ps` names stand; so do the registers of the link units, their personalities, the map and the pending structure pairs. -/
structure PathsKept (ps : Bool × TA → Prop) (s t : State) : Prop where
  paths : ∀ a3 u, ps (a3, u) → t.path a3 u = s.path a3 u
  regs : ∀ r, luReg r = true → t.rd r = s.rd r
  pers : t.pers = s.pers
  map : t.actMap = s.actMap
  pend : t.structPend = s.structPend

theorem reactReg_of_luReg {r : RegId} (h : luReg r = true) : reactReg r = false := by
  obtain ⟨hb, ho⟩ : r.blk = .lu ∧ r.off < 0xf000 := by simpa [luReg] using h
  simp [reactReg, txnReg, noteReg, evReg, hb, ho]

section
variable {ps : Bool × TA → Prop} {s t u : State}

theorem PathsKept.of_stores (h : t.pathStores = s.pathStores) : PathsKept ps s t := by
  obtain ⟨hr, hp, hl, hm, hs⟩ : t.regs = s.regs ∧ t.paths = s.paths ∧ t.pers = s.pers ∧ t.actMap = s.actMap ∧
      t.structPend = s.structPend := by
    simpa only [State.pathStores, Prod.mk.injEq] using h
  exact ⟨fun _ _ _ => by unfold State.path; rw [hp], fun r _ => by unfold State.rd; rw [hr], hl, hm, hs⟩

theorem PathsKept.refl (s : State) : PathsKept ps s s := .of_stores rfl
theorem PathsKept.trans (h : PathsKept ps s t) (k : PathsKept ps t u) : PathsKept ps s u :=
  ⟨fun a3 u hq => (k.paths a3 u hq).trans (h.paths a3 u hq), fun r hr => (k.regs r hr).trans (h.regs r hr), k.pers.trans h.pers,
    k.map.trans h.map, k.pend.trans h.pend⟩

theorem PathsKept.mono {qs : Bool × TA → Prop} (h : PathsKept ps s t) (hq : ∀ q, qs q → ps q) : PathsKept qs s t :=
  ⟨fun a3 u hu => h.paths a3 u (hq _ hu), h.regs, h.pers, h.map, h.pend⟩

/-- Changes beside the stores before, and after, a step. -/
theorem PathsKept.since (k : PathsKept ps t u) (h : t.pathStores = s.pathStores) : PathsKept ps s u := (PathsKept.of_stores h).trans k
theorem PathsKept.into (k : PathsKept ps s t) (h : u.pathStores = t.pathStores) : PathsKept ps s u := k.trans (.of_stores h)

theorem PathsKept.ite {c : Prop} [Decidable c] (h : PathsKept ps s t) (k : PathsKept ps s u) : PathsKept ps s (if c then t else u) := by
  by_cases hc : c <;> simpa [hc]

theorem PathsKept.foldl {α : Type} {f : State → α → State} (l : List α) (h : ∀ t, ∀ a ∈ l, PathsKept ps t (f t a)) :
    ∀ s, PathsKept ps s (l.foldl f s) := by
  induction l with
  | nil => exact fun s => .refl s
  | cons a l ih => exact fun s => (h s a (by simp)).trans (ih (fun t b hb => h t b (by simp [hb])) _)

theorem PathsKept.of_react (h : ReactOnly s t) : PathsKept ps s t :=
  ⟨fun _ _ _ => by rw [h.rest]; rfl, fun r hr => h.regs r (reactReg_of_luReg hr), by rw [h.rest], by rw [h.rest], by rw [h.rest]⟩
theorem PathsKept.of_event (h : EvOnly s t) : PathsKept ps s t := .of_react (.of_event h)

theorem PathsKept.get_eq (h : PathsKept ps s t) {r : RegId} (hr : luReg r = true) (f : Fld) : t.get r f = s.get r f := by
  unfold State.get; rw [h.regs r hr]
theorem PathsKept.flag_eq (h : PathsKept ps s t) {r : RegId} (hr : luReg r = true) (f : Fld) : t.flag r f = s.flag r f := by
  unfold State.flag; rw [h.get_eq hr]

end

section
variable {ps : Bool × TA → Prop} (s : State)

theorem PathsKept.wr (r : RegId) (v : Word) (h : luReg r = false) : PathsKept ps s (s.wr r v) :=
  ⟨fun _ _ _ => rfl, fun q hq => rd_wr_ne s v (by rintro rfl; rw [h] at hq; cases hq), rfl, rfl, rfl⟩
theorem PathsKept.put (r : RegId) (f : Fld) (v : Nat) (h : luReg r = false) : PathsKept ps s (s.put r f v) := .wr s r _ h
theorem PathsKept.setBit (r : RegId) (i : Nat) (h : luReg r = false) : PathsKept ps s (s.setBit r i) := .wr s r _ h
theorem PathsKept.addLoss (c : Ctr) (n : Nat) (hl : luReg c.lo = false) (hh : luReg c.hi = false) : PathsKept ps s (s.addLoss c n) :=
  (PathsKept.wr _ _ _ hh).trans (.wr _ _ _ hl)
theorem PathsKept.ev (b src : Nat) : PathsKept ps s (s.ev b src) := .of_event (ev_only _ _ _)
theorem PathsKept.startTimer (k : TKey) (n : Nat) : PathsKept ps s (s.startTimer k n) := .of_stores rfl
theorem PathsKept.stopTimer (k : TKey) : PathsKept ps s (s.stopTimer k) := .of_stores rfl

-- Performance monitoring

theorem PathsKept.pmUpd (k : Nat) (f : PmEnt → PmEnt) : PathsKept ps s (s.pmUpd k f) := .of_stores rfl
theorem PathsKept.pmNeDef (k : Nat) : PathsKept ps s (s.pmNeDef k) := .pmUpd _ _ _
theorem PathsKept.pmFeDef (k : Nat) : PathsKept ps s (s.pmFeDef k) := .pmUpd _ _ _
theorem PathsKept.pmNear (k blocks cv : Nat) : PathsKept ps s (s.pmNear k blocks cv) := .pmUpd _ _ _
theorem PathsKept.pmFar (k : Nat) : PathsKept ps s (s.pmFar k) := .pmUpd _ _ _
theorem PathsKept.pmSuspect (k : Nat) : PathsKept ps s (s.pmSuspect k) := .ite (.pmUpd _ _ _) (.pmUpd _ _ _)
theorem PathsKept.pmShow (d : Nat) : PathsKept ps s (s.pmShow d) := (PathsKept.put _ _ _ _ rfl).trans (.put _ _ _ _ rfl)

theorem PathsKept.withPm (l : List (Nat × PmEnt)) : PathsKept ps s { s with pm := l } := .of_stores rfl
theorem PathsKept.zeroMem (p : Nat → Bool) : PathsKept ps s (s.zeroMem p) := .of_stores rfl
theorem PathsKept.stb (a : Nat) (b : Byte) : PathsKept ps s (s.stb a b) := .of_stores rfl

theorem PathsKept.pmFree (q : Nat → Bool) : PathsKept ps s (s.pmFree q) :=
  (PathsKept.withPm s (s.pm.filter (fun e => !q e.1))).trans (.foldl _ (fun _ _ _ => .pmShow _ _) _)

theorem PathsKept.pmEmptySlot (d i : Nat) : PathsKept ps s (s.pmEmptySlot d i) :=
  (PathsKept.zeroMem _ _).trans (.foldl _ (fun _ _ _ => .stb _ _ _) _)

theorem PathsKept.pmBind (k i : Nat) (cfg : Word) : PathsKept ps s (s.pmBind k i cfg) := by
  unfold State.pmBind
  extract_lets d s1
  have h1 : PathsKept ps s s1 := .pmEmptySlot _ _ _
  exact (h1.trans (.withPm _ _)).trans (.pmShow _ _)

theorem PathsKept.pmAutoBind (a3 : Bool) (t : TA) : PathsKept ps s (s.pmAutoBind a3 t) := by
  unfold State.pmAutoBind
  refine .ite (.refl _) ?_
  split
  · exact .pmBind _ _ _ _
  · exact (PathsKept.addLoss _ _ _ rfl rfl).trans (.ev _ _ _)

theorem PathsKept.pmPath (a3 : Bool) (t : TA) : PathsKept ps s (s.pmPath a3 t) := by
  unfold State.pmPath
  extract_lets k d near s1
  have h1 : PathsKept ps s s1 := .ite (.pmNeDef _ _) (.refl _)
  exact .ite (.refl _) (.ite (h1.trans (.pmFeDef _ _)) h1)

-- Groups and the journal

theorem PathsKept.grpMark (x : Nat) (g h : Grp) : PathsKept ps s (s.grpMark x g h) := by
  have hs : PathsKept ps s (s.setBit (R.GRP_CHANGED (grpDie x) (x % 1024 / 32)) (x % 32)) := .setBit _ _ _ rfl
  exact .ite (.refl _) (hs.into rfl)

theorem PathsKept.setRun (x : Nat) (g : Grp) : PathsKept ps s (s.setRun x g) := by
  unfold State.setRun
  split
  · exact (PathsKept.grpMark _ _ _ _).since rfl
  · exact (PathsKept.grpMark _ _ _ _).since rfl

theorem PathsKept.memClear (a3 : Bool) (t : TA) : PathsKept ps s (s.memClear a3 t) := .foldl _ (fun _ _ _ => .setRun _ _ _) _

theorem PathsKept.holdStep (x i : Nat) (f : Bool) : PathsKept ps s (s.holdStep x i f) :=
  .ite (.stopTimer _ _) (.ite (.refl _) (.startTimer _ _ _))

theorem PathsKept.sinkStep (x i : Nat) : PathsKept ps s (s.sinkStep x i) := by
  unfold State.sinkStep
  extract_lets g m f wtr set s1 lasting
  have hset : ∀ t v, PathsKept ps t (set t v) := fun t v => .setRun _ _ _
  have h1 : PathsKept ps s s1 := .holdStep _ _ _ _
  have ends : PathsKept ps s (s1.stopTimer (wtrKey x i)) := h1.trans (.stopTimer _ _)
  exact .ite (hset _ _) (.ite (ends.trans (hset _ _)) (.ite (h1.trans (hset _ _)) (.ite (ends.trans (hset _ _))
    (.ite (h1.trans (hset _ _)) (.ite (h1.trans (hset _ _)) ((h1.trans (.startTimer _ _ _)).trans (hset _ _)))))))

theorem PathsKept.grpEval (x : Nat) : PathsKept ps s (s.grpEval x) := by
  unfold State.grpEval
  extract_lets s1 g c failed al
  have h1 : PathsKept ps s s1 := .foldl _ (fun _ _ _ => .sinkStep _ _ _) _
  exact .ite (.refl _) (h1.trans (.setRun _ _ _))

theorem PathsKept.jrnLose (d : Nat) : PathsKept ps s (s.jrnLose d) := by
  have h : PathsKept ps s (s.addLoss ⟨R.DIE_JRN_LOST_LO d, R.DIE_JRN_LOST_HI d⟩ 1) := .addLoss _ _ _ rfl rfl
  unfold State.jrnLose
  extract_lets s1
  have h1 : PathsKept ps s { s1 with jrnLoss := d :: s1.jrnLoss } := h.into rfl
  exact .ite h (h1.trans (.ev _ _ _))

theorem PathsKept.jrnWrite (a3 : Bool) (t : TA) (now ch : Nat) : PathsKept ps s (s.jrnWrite a3 t now ch) :=
  .ite (.refl _) (.ite (.jrnLose _ _) (.of_stores rfl))

-- Changes of paths

theorem PathsKept.setPath {a3 : Bool} {u : TA} (x : PathSt) (h : ¬ps (a3, u)) : PathsKept ps s (s.setPath a3 u x) :=
  ⟨fun _ _ hq => path_setPath_ne s x (by rintro e; exact h (e ▸ hq)), fun _ _ => rfl, rfl, rfl, rfl⟩

theorem PathsKept.settlePath {a3 : Bool} {u : TA} (h : ¬ps (a3, u)) : PathsKept ps s (s.settlePath a3 u) := by
  unfold State.settlePath
  extract_lets x line lom x1 s1 own x2 x3 s2
  have h1 : PathsKept ps s s1 := .ite (.refl _) (.setPath _ _ h)
  have h2 : PathsKept ps s1 s2 := .ite (.refl _) (.setPath _ _ h)
  exact (h1.trans h2).trans (.foldl _ (fun _ _ _ => .ite (.memClear _ _ _) (.refl _)) _)

variable (ks : List (Bool × TA)) (ind : Nat) (f : State → State)

/-- Once they are settled, the paths that a change may have moved are only reported. -/
theorem PathsKept.watchPaths_settled :
    PathsKept ps (ks.foldl (fun u k => u.settlePath k.1 k.2) (f s)) (s.watchPaths ks ind f) := by
  unfold State.watchPaths
  extract_lets old s1
  refine .foldl _ (fun u e _ => ?_) _
  extract_lets now ch v
  have hv : PathsKept ps u v := .ite (.refl _) ((PathsKept.jrnWrite _ _ _ _ _).trans (.of_event (.skDefect _ _ _ _)))
  exact hv.trans (.pmPath _ _ _)

/-- The paths that are not settled stand as the change leaves them. -/
theorem PathsKept.watchPaths (h : ∀ k ∈ ks, ¬ps k) : PathsKept ps (f s) (s.watchPaths ks ind f) :=
  (PathsKept.foldl _ (fun u k hk => .settlePath u (h k hk)) _).trans (.watchPaths_settled _ _ _ _)

/-- The first path that is settled stands as its settling leaves it. -/
theorem PathsKept.watchPaths_head (a3 : Bool) (u : TA) (h : (a3, u) ∉ ks) :
    PathsKept (· = (a3, u)) ((f s).settlePath a3 u) (s.watchPaths ((a3, u) :: ks) ind f) :=
  (PathsKept.foldl ks (fun t k hk => .settlePath t (fun e : k = (a3, u) => h (e ▸ hk))) _).trans (.watchPaths_settled _ ((a3, u) :: ks) _ _)

theorem PathsKept.restartPath {a3 : Bool} {u : TA} (h : ¬ps (a3, u)) : PathsKept ps s (s.restartPath a3 u) :=
  ((PathsKept.setPath s _ h).trans
    (.watchPaths s _ _ (fun v => v.setPath a3 u { freshPath with failed := (s.path a3 u).failed }) (by simpa using h))).trans
    (.pmSuspect _ _)

end

end Sys2Proof.Machine

/-!
What one period of overhead and a change of causes make of a path (06_pointers_paths.md: R140 to R147).
-/

namespace Sys2Proof.Machine

-- Settling

section
variable {s t : State} {a3 : Bool} {u : TA}

theorem PathsKept.lineHeld_eq {ps : Bool × TA → Prop} (h : PathsKept ps s t) (n : Nat) : t.lineHeld n = s.lineHeld n := by
  unfold State.lineHeld
  simp only [h.flag_eq (r := R.LU_SEC_STATUS n) rfl, h.flag_eq (r := R.LU_SEC_RATE n) rfl]

/-- Whether a path is suspended is a matter of its pointer state, its line and the paths around it (R146). -/
theorem PathsKept.suspended_eq (h : PathsKept (· ≠ (a3, u)) s t) (hs : (t.path a3 u).state = (s.path a3 u).state) :
    t.suspended a3 u = s.suspended a3 u := by
  have hp : ∀ b v, t.ptrState b v = if s.isTG (taLink v) then 0 else (t.path b v).state := fun b v => by
    unfold State.ptrState State.isTG State.persOf
    rw [h.pers]
  have own : t.ptrState a3 u = s.ptrState a3 u := by rw [hp, hs]; rfl
  unfold State.suspended
  rw [h.lineHeld_eq, own]
  cases hc : container a3 u with
  | none => rfl
  | some q =>
    have hq : t.path q.1 q.2 = s.path q.1 q.2 := h.paths _ _ (container_ne_self hc)
    have around : t.ptrState q.1 q.2 = s.ptrState q.1 q.2 := by rw [hp, hq]; rfl
    simp only [hq, around]

/-- A path that is not suspended: the line carries it, its pointer is in NORM, and its container has its multiframe. -/
theorem of_not_suspended (h : s.suspended a3 u = false) : s.lineHeld (taLink u) = false ∧ s.ptrState a3 u = 0 ∧
    ∀ q, container a3 u = some q → (s.path q.1 q.2).lom = false := by
  unfold State.suspended at h
  cases hc : container a3 u with
  | none => simpa [hc] using h
  | some q => simp [hc] at h ⊢; tauto

end

/-- What the overhead of a period decides of a path. -/
def PathSt.overhead (x : PathSt) := (x.viol, x.feBits, x.secErr, x.lab, x.accLabel, x.labOk, x.off)

section
variable {s : State} {a3 : Bool} {u : TA}

/-- Settling leaves the failure at source. -/
theorem failed_settlePath : ((s.settlePath a3 u).path a3 u).failed = (s.path a3 u).failed := by
  unfold State.settlePath
  extract_lets x line lom x1 s1 own x2 x3 s2
  have h1 : x1.failed = x.failed := by simp only [x1]; split <;> rfl
  have h3 : x3.failed = x.failed := by
    have h2 : x2.failed = x.failed := by simp only [x2]; split <;> exact h1
    simp only [x3]
    split
    · exact h2
    · split <;> exact h2
  have hs1 : (s1.path a3 u).failed = x.failed := by
    simp only [s1]
    split
    · rfl
    · rw [path_setPath_same, h1]
  have hs2 : (s2.path a3 u).failed = x.failed := by
    simp only [s2]
    split
    · exact hs1
    · rw [path_setPath_same, h3]
  rw [(PathsKept.foldl (ps := fun _ => True) _ (fun _ _ _ => .ite (.memClear _ _ _) (.refl _)) s2).paths a3 u trivial, hs2]

/-- Settling leaves what the overhead decided of a path that is not suspended. -/
theorem overhead_settlePath (h : s.suspended a3 u = false) : ((s.settlePath a3 u).path a3 u).overhead = (s.path a3 u).overhead := by
  obtain ⟨line0, ptr0, lom0⟩ := of_not_suspended h
  unfold State.settlePath
  extract_lets x line lom x1 s1 own x2 x3 s2
  have hlom : lom = false := by
    simp only [lom]
    split
    · next q hc => exact lom0 _ hc
    · rfl
  have h1 : x1 = x := if_neg (by simp [line, line0, hlom])
  have hs1 : s1 = s := if_pos h1
  have hown : own = false := by simp only [own, hs1, line, line0, ptr0]; rfl
  have h2 : x2 = x := by simp only [x2, hown, h1]; rfl
  have h3 : x3.overhead = x.overhead := by
    simp only [x3, hs1, h, h2]
    split
    · contradiction
    · split <;> rfl
  have hs2 : (s2.path a3 u).overhead = x.overhead := by
    simp only [s2]
    split
    · rw [hs1]
    · rw [path_setPath_same, h3]
  rw [(PathsKept.foldl (ps := fun _ => True) _ (fun _ _ _ => .ite (.memClear _ _ _) (.refl _)) s2).paths a3 u trivial, hs2]

/-- A change that leaves the pointer state of a path that is not suspended. -/
theorem overhead_changePath (ind : Nat) {f : PathSt → PathSt} (h : s.suspended a3 u = false)
    (hf : (f (s.path a3 u)).state = (s.path a3 u).state) :
    ((s.changePath a3 u ind f).path a3 u).overhead = (f (s.path a3 u)).overhead := by
  have set : PathsKept (· ≠ (a3, u)) s (s.setPath a3 u (f (s.path a3 u))) := .setPath _ _ (by simp)
  have own := path_setPath_same s a3 u (f (s.path a3 u))
  unfold State.changePath
  rw [(PathsKept.watchPaths_head s (s.inside a3 u) ind _ a3 u (not_mem_inside s a3 u)).paths a3 u rfl,
    overhead_settlePath ((set.suspended_eq (by rw [own, hf])).trans h), own]

theorem changePath_map (ind : Nat) (f : PathSt → PathSt) : (s.changePath a3 u ind f).actMap = s.actMap :=
  (PathsKept.watchPaths (ps := fun _ => False) s _ ind (fun v => v.setPath a3 u (f (v.path a3 u))) (fun _ _ h => h)).map

end

-- Overhead of a period

section
variable {s t : State}

theorem ControlOnly.foldl {α : Type} {f : State → α → State} (l : List α) (h : ∀ t a, ControlOnly t (f t a)) :
    ∀ s, ControlOnly s (l.foldl f s) := by
  induction l with
  | nil => exact .refl
  | cons a l ih => exact fun s => (h s a).trans (ih _)

theorem ControlOnly.path_eq (h : ControlOnly s t) (a3 : Bool) (u : TA) : t.path a3 u = s.path a3 u := by rw [h.rest]; rfl

theorem ControlOnly.traceCapture (s : State) (a3 : Bool) (u : TA) (m : List Byte) : ControlOnly s (s.traceCapture a3 u m) :=
  .ite (((ControlOnly.foldl _ (fun _ _ => .wr _ _ _) _).trans (.put _ _ _ _)).trans (.put _ _ _ _)) (.refl _)

end

theorem rdiStep_overhead (filt : Nat) (x : PathSt) (b : Bool) : (rdiStep filt x b).overhead = x.overhead := rfl
theorem rdiStep_state (filt : Nat) (x : PathSt) (b : Bool) : (rdiStep filt x b).state = x.state := rfl

/-- The label of a period judged by a filter of `filt` equal ones (R141). -/
def PathSt.labelled (x : PathSt) (filt label : Nat) : PathSt :=
  { x with lab := runStep x.lab label, labOk := x.labOk || decide (filt ≤ (runStep x.lab label).2),
           accLabel := if filt ≤ (runStep x.lab label).2 then label else x.accLabel }

theorem labelled_accepts {x : PathSt} {filt label : Nat} (h : filt ≤ (runStep x.lab label).2) :
    (x.labelled filt label).accLabel = label ∧ (x.labelled filt label).labOk = true := by simp [PathSt.labelled, h]

theorem labelled_waits {x : PathSt} {filt label : Nat} (h : (runStep x.lab label).2 < filt) :
    (x.labelled filt label).accLabel = x.accLabel ∧ (x.labelled filt label).labOk = x.labOk := by
  simp [PathSt.labelled, Nat.not_le.2 h]

/-- The filter of the labels of a path (Table 06-12). -/
def State.labelFilter (s : State) (u : TA) (x : PathSt) : Nat := s.profile (taLink u) x F.LU_PATH_PROFILE_LBL_FILT + 3

section
variable {s : State} {a3 : Bool} {u : TA} (j : Byte) (label : Nat) (rdi : Bool)

/-- Label, trace and RDI of a period: the label is judged, and what is judged besides leaves it. -/
theorem ohAccept_labels (h : s.suspended a3 u = false) : ((s.ohAccept a3 u j label rdi).path a3 u).overhead =
    ((s.path a3 u).governed.labelled (s.labelFilter u (s.path a3 u).governed) label).overhead := by
  unfold State.ohAccept
  extract_lets n x lab lacc lnew fmt
  generalize traceStep fmt x.trace j = p
  obtain ⟨tr, msg⟩ := p
  dsimp -zeta only
  extract_lets sig tnew y y1 s1
  have hy : y1.overhead = y.overhead ∧ y1.state = y.state := by
    simp only [y1]
    split
    · exact ⟨rfl, rfl⟩
    · exact ⟨rdiStep_overhead _ _ _, rdiStep_state _ _ _⟩
  have hs1 : (s1.path a3 u).overhead = (x.labelled (s.labelFilter u x) label).overhead := by
    refine (overhead_changePath _ h (f := fun _ => y1) hy.2).trans (hy.1.trans ?_)
    simp only [y, lacc, lab, PathSt.overhead, PathSt.labelled, State.labelFilter, n, decide_eq_true_eq]
    congr
  split
  · rw [(ControlOnly.traceCapture _ _ _ _).path_eq, hs1]
  · exact hs1

theorem ohAccept_map : (s.ohAccept a3 u j label rdi).actMap = s.actMap := by
  unfold State.ohAccept
  extract_lets n x lab lacc lnew fmt
  generalize traceStep fmt x.trace j = p
  obtain ⟨tr, msg⟩ := p
  dsimp -zeta only
  extract_lets sig tnew y y1 s1
  have hs1 : s1.actMap = s.actMap := changePath_map _ _
  split
  · rw [(ControlOnly.traceCapture _ _ _ _).actMap_eq, hs1]
  · exact hs1

end

/-- The label, the violations and the far end's bit errors that a period of overhead brings, by the layer (Tables 06-7, 06-8). -/
def ohLabel (u : TA) (a : Byte) : Nat := if 5 ≤ taKind u then a.toNat / 2 % 8 else a.toNat
def ohErrs (u : TA) (bip : Byte) : Nat := if 5 ≤ taKind u then popc 2 bip.toNat else popc 8 bip.toNat
def ohFarBits (u : TA) (g : Byte) : Nat := if 5 ≤ taKind u then 0 else if g.toNat / 16 ≤ 8 then g.toNat / 16 else 0

/-- The errors of a period counted (R144). -/
def PathSt.errored (x : PathSt) (errs far : Nat) : PathSt :=
  { x with viol := errs, secErr := x.secErr + (if errs = 0 then 0 else 1), feBits := x.feBits + far }

section
variable {s : State} {a3 : Bool} {u : TA} (j a g bip : Byte)

theorem luReg_profile (n : Nat) (w : Word) : luReg (R.LU_PATH_PROFILE n (fget w ⟨30, 2, .rw, 0⟩)) = true := by
  have : fget w ⟨30, 2, .rw, 0⟩ < 4 := fget_lt _ _
  simp only [luReg, beq_self_eq_true, Bool.true_and, decide_eq_true_eq]
  omega

/-- A period of overhead counts its errors, and its label is judged. -/
theorem pathOh_steps (h : s.suspended a3 u = false) : ((s.pathOh a3 u j a g bip).path a3 u).overhead =
    (((s.path a3 u).governed.errored (ohErrs u bip) (ohFarBits u g)).labelled (s.labelFilter u (s.path a3 u).governed)
      (ohLabel u a)).overhead ∧ (s.pathOh a3 u j a g bip).actMap = s.actMap := by
  unfold State.pathOh
  extract_lets k lo errs rei src s1 s2 s3
  have herr : errs = ohErrs u bip := by simp only [errs, lo, ohErrs, decide_eq_true_eq]
  have hfar : (if lo = true then 0 else rei) = ohFarBits u g := by simp only [lo, rei, ohFarBits, decide_eq_true_eq]; split <;> rfl
  have counted : PathsKept (· ≠ (a3, u)) s s1 := .setPath _ _ (by simp)
  have shown : PathsKept (fun _ => True) s1 s3 :=
    (PathsKept.ite (.refl _) (.pmNear _ _ _ _) : PathsKept _ s1 s2).trans (.ite (.refl _) (.pmFar _ _))
  have hp : s3.path a3 u = (s.path a3 u).errored (ohErrs u bip) (ohFarBits u g) := by
    rw [shown.paths a3 u trivial, path_setPath_same, ← herr, ← hfar]
    rfl
  have kept : PathsKept (· ≠ (a3, u)) s s3 := counted.trans (shown.mono fun _ _ => trivial)
  have open3 : s3.suspended a3 u = false := (kept.suspended_eq (by rw [hp]; rfl)).trans h
  have hx : (s3.path a3 u).governed = (s.path a3 u).governed.errored (ohErrs u bip) (ohFarBits u g) := by rw [hp]; rfl
  have hfilt : s3.labelFilter u (s3.path a3 u).governed = s.labelFilter u (s.path a3 u).governed := by
    rw [hx]
    exact congrArg (· + 3) (kept.get_eq (luReg_profile _ _) _)
  have hmap : s3.actMap = s.actMap := kept.map
  rw [if_neg (by simp [open3])]
  by_cases hk : 5 ≤ taKind u
  · have hlo : lo = true := decide_eq_true hk
    have hl : ohLabel u a = a.toNat / 2 % 8 := if_pos hk
    rw [if_pos hlo, ohAccept_labels _ _ _ open3, ohAccept_map, hfilt, hx, hl]
    exact ⟨rfl, hmap⟩
  · have hlo : ¬lo = true := by simpa [lo] using hk
    have hl : ohLabel u a = a.toNat := if_neg hk
    rw [if_neg hlo, ohAccept_labels _ _ _ open3, ohAccept_map, hfilt, hx, hl]
    exact ⟨rfl, hmap⟩

end

-- Failure at source

section
variable {s : State} {a3 : Bool} {u : TA}

theorem failFollows_failed : ((s.failFollows a3 u).path a3 u).failed = s.pathCause a3 u ∧ (s.failFollows a3 u).actMap = s.actMap := by
  unfold State.failFollows
  extract_lets c
  constructor
  · rw [(PathsKept.watchPaths_head s [] 0 _ a3 u (List.not_mem_nil)).paths a3 u rfl, failed_settlePath, path_setPath_same]
  · exact (PathsKept.watchPaths (ps := fun _ => False) s _ 0 (fun v => v.setPath a3 u { v.path a3 u with failed := c, failRun := 0 })
      (fun _ _ h => h)).map

/-- The groups that hold the path see its failure; the path and the map stand as the failure leaves them. -/
theorem exec_pathFailApply : ∃ t, exec (.pathFailApply a3 u) s = .next t ∧ (t.path a3 u).failed = ((s.pathFail a3 u).path a3 u).failed ∧
    t.actMap = (s.pathFail a3 u).actMap := by
  obtain ⟨t, ht, hr⟩ := done_only (((s.pathFail a3 u).grpsOf a3 u).foldl (fun v x => v.grpEval x) (s.pathFail a3 u))
  have kept : PathsKept (fun _ => True) (s.pathFail a3 u) t := (PathsKept.foldl _ (fun _ _ _ => .grpEval _ _) _).trans (.of_react hr)
  exact ⟨t, ht, congrArg PathSt.failed (kept.paths a3 u trivial), kept.map⟩

end

/-- Settles O21: the overhead of a period as `PathSt.errored` and `PathSt.labelled` say it, and the failure at source as `failFollows` does. -/
theorem pathOverheadIsJudged : Obligations.PathOverheadIsJudged := by
  unfold Obligations.PathOverheadIsJudged
  refine ⟨?_, ?_, ?_⟩
  · intro a3 u j a g bip s hpath hptr hopen hrx x label errs
    obtain ⟨t, ht, hr⟩ := done_only (s.pathOh a3 u j a g bip)
    have run : exec (.pathOverheadReceive a3 u j a g bip) s = done (s.pathOh a3 u j a g bip) := by
      show execPathOverheadReceive a3 u j a g bip s = _
      unfold execPathOverheadReceive
      simp [hpath, hptr, hrx]
    have kept : PathsKept (fun _ => True) (s.pathOh a3 u j a g bip) t := .of_react hr
    obtain ⟨judged, hmap⟩ := pathOh_steps j a g bip hopen
    rw [← kept.paths a3 u trivial] at judged
    simp only [PathSt.overhead, Prod.mk.injEq] at judged
    obtain ⟨hviol, hfe, hsec, hlab, hacc, hok, hoff⟩ := judged
    refine ⟨t, run.trans ht, hviol, hfe, hsec, hlab, fun hf => ?_, fun hf => ?_, hoff, kept.map.trans hmap⟩
    · rw [hacc, hok]
      exact labelled_accepts hf
    · rw [hacc, hok]
      exact labelled_waits hf
  · intro a3 u s hpath hdue
    obtain ⟨t, ht, hfail, hmap⟩ := exec_pathFailApply (s := s) (a3 := a3) (u := u)
    have due : s.pathFail a3 u = s.failFollows a3 u := if_pos (by simpa [hpath] using hdue)
    rw [due] at hfail hmap
    exact ⟨t, ht, hfail.trans failFollows_failed.1, hmap.trans failFollows_failed.2⟩
  · intro a3 u s hpath hk hdue hs
    obtain ⟨t, ht, hfail, hmap⟩ := exec_pathFailApply (s := s) (a3 := a3) (u := u)
    have waits : s.pathFail a3 u = s := if_neg (by simp [hdue]; omega)
    rw [waits] at hfail hmap
    exact ⟨t, ht, hfail, hmap⟩

end Sys2Proof.Machine

/-!
Structure pairs: how they are written, and what the ones due make of a structure (06_pointers_paths.md: R125, R126).
-/

namespace Sys2Proof.Machine

section
variable {s : State} {n a : Nat}

theorem insDue_congr {s t : State} (h : t.structDue = s.structDue) (e : Nat × Nat × Word × Word) (l : List (Nat × Nat × Word × Word)) :
    t.insDue e l = s.insDue e l := by
  induction l with
  | nil => rfl
  | cons f l ih =>
    unfold State.insDue
    rw [h, ih]

/-- The structure to come is a matter of the pending pairs, of when each takes effect and of the structure that holds. -/
theorem structSoon_congr {s t : State} {n : Nat} (hp : t.structPend = s.structPend) (hd : t.structDue = s.structDue)
    (ho : t.structOf n = s.structOf n) : t.structSoon n = s.structSoon n := by
  unfold State.structSoon
  simp only [insDue_congr hd, hp, ho]

/-- Word 1 is written while word 0 of the same pair is held alone. -/
theorem writeStruct1_held {w0 : Word} (v : Word) (h : s.structW0 = [(64 * n + a, w0)]) :
    s.writeStruct1 n a v =
      if structOK (s.structSoon n) a (w0, v &&& accMask (R.LU_PATH_STRUCT1 n a) (fun x => x == .rw)) then
        { s with structW0 := [], structPend := insPend (s.inFrames 1, 64 * n + a, w0,
            v &&& accMask (R.LU_PATH_STRUCT1 n a) (fun x => x == .rw)) s.structPend }
      else { s with structW0 := [] }.put (R.LU_PATH_CTRL n) F.LU_PATH_CTRL_STRUCT_REJ 1 := by
  have hf : s.structW0.find? (fun e => e.1 == 64 * n + a) = some (64 * n + a, w0) := by simp [h]
  have he : s.structW0.filter (fun e => e.1 != 64 * n + a) = [] := by simp [h]
  unfold State.writeStruct1
  rw [hf, he]
  dsimp only
  rw [structSoon_congr (s := s) (t := { s with structW0 := [] }) rfl rfl rfl]
  rfl

-- The words of a structure

/-- The pair of AUG-1 a of link n as in effect. -/
def State.structAt (s : State) (n a : Nat) : Word × Word := (s.rd (R.LU_PATH_STRUCT0 n a), s.rd (R.LU_PATH_STRUCT1 n a))

/-- Puts the pair of AUG-1 a of link n. -/
def State.putStruct (s : State) (n a : Nat) (w : Word × Word) : State :=
  (s.wr (R.LU_PATH_STRUCT0 n a) w.1).wr (R.LU_PATH_STRUCT1 n a) w.2

theorem structAt_putStruct (s : State) (n a b : Nat) (w : Word × Word) :
    (s.putStruct n a w).structAt n b = if b = a then w else s.structAt n b := by
  have h01 : R.LU_PATH_STRUCT0 n b ≠ R.LU_PATH_STRUCT1 n a := by simp; omega
  have h10 : R.LU_PATH_STRUCT1 n b ≠ R.LU_PATH_STRUCT0 n a := by simp; omega
  unfold State.structAt State.putStruct
  rw [rd_wr_ne _ _ h01, rd_wr, rd_wr, rd_wr_ne _ _ h10]
  by_cases h : b = a
  · subst h; simp
  · have h0 : R.LU_PATH_STRUCT0 n b ≠ R.LU_PATH_STRUCT0 n a := by simpa using h
    have h1 : R.LU_PATH_STRUCT1 n b ≠ R.LU_PATH_STRUCT1 n a := by simpa using h
    rw [if_neg h0, if_neg h1, if_neg h]

theorem structAt_foldl_putStruct (n b : Nat) (f : Nat → Word × Word) (ch : List Nat) : ∀ s : State,
    (ch.foldl (fun u a => u.putStruct n a (f a)) s).structAt n b = if b ∈ ch then f b else s.structAt n b := by
  induction ch with
  | nil => exact fun s => rfl
  | cons a ch ih =>
    intro s
    rw [List.foldl_cons, ih, structAt_putStruct]
    by_cases hb : b ∈ ch
    · simp [hb]
    · by_cases ha : b = a <;> simp [hb, ha]

theorem structOf_getD (s : State) (n : Nat) {b : Nat} (h : b < 64) (d : Word × Word) : (s.structOf n).getD b d = s.structAt n b := by
  simp [State.structOf, State.structAt, h]

theorem PathsKept.structAt_eq {ps : Bool × TA → Prop} {s t : State} (h : PathsKept ps s t) (n : Nat) {b : Nat} (hb : b < 64) :
    t.structAt n b = s.structAt n b := by
  have h0 : luReg (R.LU_PATH_STRUCT0 n b) = true := by simp [luReg]; omega
  have h1 : luReg (R.LU_PATH_STRUCT1 n b) = true := by simp [luReg]; omega
  unfold State.structAt
  rw [h.regs _ h0, h.regs _ h1]

/-- The pair that has taken effect stands in the structure. -/
theorem structSet_getD {l : List (Word × Word)} (w d : Word × Word) (h : a < l.length) : (structSet l a w).getD a d = w := by
  unfold structSet
  extract_lets old l1 l2
  have h1 : a < l1.length := by
    simp only [l1]
    split
    · simpa using h
    · exact h
  have h2 : l2[a]? = some w := List.getElem?_set_self h1
  split
  · simp [List.getD_eq_getElem?_getD, h2]
  · simp [List.getD_eq_getElem?_getD, h2]

-- A structure takes effect

/-- A new structure is what the registers give; the map and the pending pairs stand. -/
theorem applyStruct_structAt (s : State) (n : Nat) (l : List (Word × Word)) :
    (∀ b < 64, (s.applyStruct n l).structAt n b = l.getD b (modeWord 1)) ∧ (s.applyStruct n l).actMap = s.actMap ∧
      (s.applyStruct n l).structPend = s.structPend := by
  unfold State.applyStruct
  extract_lets old ch before s1 after gone s2 s3 s4
  have written : ∀ b < 64, s1.structAt n b = l.getD b (modeWord 1) := fun b hb => by
    refine (structAt_foldl_putStruct n b (fun a => l.getD a (modeWord 1)) ch s).trans ?_
    split
    · rfl
    · next hm =>
      have same : old.getD b (modeWord 1) = l.getD b (modeWord 1) := by simpa [ch, hb] using hm
      rw [← same, structOf_getD s n hb]
  have stand : s1.actMap = s.actMap ∧ s1.structPend = s.structPend := by
    refine List.foldlRecOn (motive := fun u : State => u.actMap = s.actMap ∧ u.structPend = s.structPend) ch _ ⟨rfl, rfl⟩ ?_
    intro u hu a _
    exact hu
  have k2 : PathsKept (fun _ => False) s1 s2 := .foldl _ (fun _ _ _ => .setPath _ _ id) _
  have k4 : PathsKept (fun _ => False) s3 s4 := .foldl _ (fun _ _ _ => .restartPath _ id) _
  have kept := ((k2.trans (.pmFree _ _)).trans k4).trans
    (.foldl (after.filter (fun e => s4.isPath e.1 e.2 && !before.contains e))
      (fun u (e : Bool × TA) _ => (PathsKept.pmAutoBind u e.1 e.2).trans (.pmPath _ e.1 e.2)) s4)
  exact ⟨fun b hb => (kept.structAt_eq n hb).trans (written b hb), kept.map.trans stand.1, kept.pend.trans stand.2⟩

/-- One pair is pending, and its boundary has come. -/
theorem structApply_one {f : Nat} {w : Word × Word} (ha : a < 64) (h : s.structPend = [(f, 64 * n + a, w)]) (hf : f ≤ s.up) :
    s.structApply n =
      if structOK (s.structOf n) a w then { s with structPend := [] }.applyStruct n (structSet (s.structOf n) a w)
      else { s with structPend := [] }.put (R.LU_PATH_CTRL n) F.LU_PATH_CTRL_STRUCT_REJ 1 := by
  have hn : (64 * n + a) / 64 = n := by omega
  have hm : (64 * n + a) % 64 = a := by omega
  unfold State.structApply
  simp only [h, List.filter_cons, hn, hf, beq_self_eq_true, decide_true, Bool.and_true, if_true, Bool.not_true,
    List.filter_nil, List.foldl_cons, List.foldl_nil, hm]
  rfl

end

-- The commands

/-- A pair that passes takes effect at its boundary. -/
theorem structApply_takes {n : Fin 128} {a : Fin 64} {f : Nat} {w : Word × Word} {s : State} (hfn : s.fn % 4 = 0)
    (h : s.structPend = [(f, 64 * n.val + a.val, w)]) (hf : f ≤ s.up) (hok : structOK (s.structOf n) a w = true) :
    ∃ t, exec (.structApply n) s = .next t ∧ t.structAt n a = w ∧ t.structPend = [] ∧ t.actMap = s.actMap := by
  obtain ⟨t, ht, hr⟩ := done_only (s.structApply n)
  have kept : PathsKept (fun _ => True) (s.structApply n) t := .of_react hr
  rw [structApply_one a.isLt h hf, if_pos hok] at kept
  obtain ⟨held, hmap, hpend⟩ := applyStruct_structAt { s with structPend := [] } n (structSet (s.structOf n) a w)
  have hlen : (s.structOf n).length = 64 := by simp [State.structOf]
  refine ⟨t, (if_pos hfn).trans ht, ?_, kept.pend.trans hpend, kept.map.trans hmap⟩
  rw [kept.structAt_eq n a.isLt, held a a.isLt]
  exact structSet_getD w _ (by rw [hlen]; exact a.isLt)

/-- A pair that no longer passes is rejected. -/
theorem structApply_rejects {n : Fin 128} {a : Fin 64} {f : Nat} {w : Word × Word} {s : State} (hfn : s.fn % 4 = 0)
    (h : s.structPend = [(f, 64 * n.val + a.val, w)]) (hf : f ≤ s.up) (hok : structOK (s.structOf n) a w = false) :
    ∃ t, exec (.structApply n) s = .next t ∧ t.flag (R.LU_PATH_CTRL n) F.LU_PATH_CTRL_STRUCT_REJ = true ∧
      t.rd (R.LU_PATH_STRUCT0 n a) = s.rd (R.LU_PATH_STRUCT0 n a) ∧ t.structPend = [] ∧ t.paths = s.paths := by
  obtain ⟨t, ht, hr⟩ := done_only (s.structApply n)
  have kept : PathsKept (fun _ => True) (s.structApply n) t := .of_react hr
  have paths : t.paths = (s.structApply n).paths := by rw [hr.rest]
  rw [structApply_one a.isLt h hf, if_neg (by simp [hok])] at kept paths
  have h0 : R.LU_PATH_STRUCT0 n a ≠ R.LU_PATH_CTRL n := by simp; omega
  have held : t.structAt n a = _ := kept.structAt_eq n a.isLt
  refine ⟨t, (if_pos hfn).trans ht, ?_, (congrArg Prod.fst held).trans (rd_put_ne _ _ _ h0), kept.pend, paths⟩
  rw [kept.flag_eq rfl]
  exact flag_put_same _ _ _ (by decide)

end Sys2Proof.Machine

/-!
The journal's control words, per-path access and the trace capture (06_pointers_paths.md: R150, R152, R154, R155).
-/

namespace Sys2Proof.Machine

-- Fields of words that are put together

theorem fget_or (v w : Word) (f : Fld) : fget (v ||| w) f = fget v f ||| fget w f := by
  apply Nat.eq_of_testBit_eq
  intro i
  simp only [Nat.testBit_or, testBit_fget, BitVec.toNat_or, Bool.and_or_distrib_left]

theorem fget_and (v w : Word) (f : Fld) : fget (v &&& w) f = fget v f &&& fget w f := by
  apply Nat.eq_of_testBit_eq
  intro i
  simp only [Nat.testBit_and, testBit_fget, BitVec.toNat_and]
  cases decide (i < f.w) <;> simp

/-- A mask that has the whole field. -/
theorem fget_masked {v m : Word} {f : Fld} (h : fget m f = 2 ^ f.w - 1) : fget (v &&& m) f = fget v f := by
  rw [fget_and, h, Nat.and_two_pow_sub_one_eq_mod, Nat.mod_eq_of_lt (fget_lt v f)]

/-- Bits from elsewhere that leave the field out. -/
theorem fget_beside {v m w : Word} {f : Fld} (h : fget m f = 0) : fget ((v &&& m) ||| w) f = fget w f := by
  rw [fget_or, fget_and, h, Nat.and_zero, Nat.zero_or]

-- A word that names a path below bit 25

section
variable (k : Nat) (a3 : Bool) (u : TA)

/-- AU3 and TA of a path below bit 25, and k above. -/
def namedWord : Word := BitVec.ofNat 32 (2 ^ 25 * k + egName a3 u)

theorem namedWord_toNat : (namedWord k a3 u).toNat = (2 ^ 25 * k + (if a3 then 2 ^ 24 else 0) + u.toNat) % 2 ^ 32 := by
  unfold namedWord egName
  rw [BitVec.toNat_ofNat, Nat.add_assoc]

theorem namedWord_ta (acc : Access) (r : Nat) : fget (namedWord k a3 u) ⟨0, 24, acc, r⟩ = u.toNat := by
  have hu : u.toNat < 2 ^ 24 := u.isLt
  unfold fget
  rw [namedWord_toNat]
  cases a3 <;> simp only [Bool.false_eq_true, if_true, if_false] <;> omega

theorem namedWord_au3 (acc : Access) (r : Nat) : fget (namedWord k a3 u) ⟨24, 1, acc, r⟩ = if a3 then 1 else 0 := by
  have hu : u.toNat < 2 ^ 24 := u.isLt
  unfold fget
  rw [namedWord_toNat]
  cases a3 <;> simp only [Bool.false_eq_true, if_true, if_false] <;> omega

theorem namedWord_bit30 (acc : Access) (r : Nat) : fget (namedWord k a3 u) ⟨30, 1, acc, r⟩ = k / 32 % 2 := by
  have hu : u.toNat < 2 ^ 24 := u.isLt
  unfold fget
  rw [namedWord_toNat]
  cases a3 <;> simp only [Bool.false_eq_true, if_true, if_false] <;> omega

theorem namedWord_bit31 (acc : Access) (r : Nat) : fget (namedWord k a3 u) ⟨31, 1, acc, r⟩ = k / 64 % 2 := by
  have hu : u.toNat < 2 ^ 24 := u.isLt
  unfold fget
  rw [namedWord_toNat]
  cases a3 <;> simp only [Bool.false_eq_true, if_true, if_false] <;> omega

end

theorem indWord_named (op : Nat) (a3 : Bool) (u : TA) : indWord op a3 u = namedWord (32 * op) a3 u := by
  unfold indWord namedWord
  rw [show 2 ^ 30 * op = 2 ^ 25 * (32 * op) by omega]

-- Per-path access

/-- What GO leaves of the control word: WRITE, AU3 and TA. -/
theorem indCtrl_mask (n : Nat) : accMask (R.LU_PATH_IND_CTRL n) (fun a => a == .rw) = 0x41FFFFFF :=
  (by decide +kernel : accMask (R.LU_PATH_IND_CTRL 0) (fun a => a == .rw) = 0x41FFFFFF)

/-- An access of path (a3, u) has joined the queue of LU n: a write where op is 1. -/
structure AccessQueued (n op : Nat) (a3 : Bool) (u : TA) (s t : State) : Prop where
  write : t.get (R.LU_PATH_IND_CTRL n) F.LU_PATH_IND_CTRL_WRITE = op
  ta : t.get (R.LU_PATH_IND_CTRL n) F.LU_PATH_IND_CTRL_TA = u.toNat
  au3 : t.flag (R.LU_PATH_IND_CTRL n) F.LU_PATH_IND_CTRL_AU3 = a3
  queue : t.pathInd = s.pathInd ++ [(n, t.rd (R.LU_PATH_IND_CTRL n), s.rd (R.LU_PATH_IND_DATA0 n))]
  rest : RegsOnly (fun r => r == R.LU_PATH_IND_CTRL n) { s with pathInd := t.pathInd } t

theorem pathGo_queues (s : State) (n : Nat) {op : Nat} (a3 : Bool) (u : TA) (hop : op < 2) (c : Completion) :
    AccessQueued n op a3 u s ((s.answer c).pathGo n (indWord op a3 u)) := by
  have held : ((s.answer c).pathGo n (indWord op a3 u)).rd (R.LU_PATH_IND_CTRL n) = namedWord (32 * op) a3 u &&& 0x41FFFFFF :=
    (rd_wr_same _ _ _).trans (by rw [indCtrl_mask, indWord_named])
  have hget : ∀ f : Fld, fget 0x41FFFFFF f = 2 ^ f.w - 1 →
      ((s.answer c).pathGo n (indWord op a3 u)).get (R.LU_PATH_IND_CTRL n) f = fget (namedWord (32 * op) a3 u) f := fun f hf => by
    unfold State.get
    rw [held, fget_masked hf]
  constructor
  · rw [hget _ (by decide), namedWord_bit30]
    omega
  · rw [hget _ (by decide), namedWord_ta]
  · unfold State.flag
    rw [hget _ (by decide), namedWord_au3]
    cases a3 <;> rfl
  · have hd : R.LU_PATH_IND_DATA0 n ≠ R.LU_PATH_IND_CTRL n := by simp
    show s.pathInd ++ [(n, _, ((s.answer c).wr (R.LU_PATH_IND_CTRL n) _).rd (R.LU_PATH_IND_DATA0 n))] = _
    rw [rd_wr_ne _ _ hd]
    rfl
  · exact ⟨rfl, fun r hr => rd_wr_ne _ _ (by rintro rfl; simp at hr)⟩

theorem exec_pathIndRead {p : Port} {s : State} (hp : s.reaches p 0 = true) (n : Fin 128) (a3 : Bool) (u : TA) :
    exec (.pathIndRead p n a3 u) s = .next ((s.answer .done).pathGo n (indWord 0 a3 u)) := congrArg Host.Outcome.next (hostReg_reaches hp)
theorem exec_pathIndWrite {p : Port} {s : State} (hp : s.reaches p 0 = true) (n : Fin 128) (a3 : Bool) (u : TA) :
    exec (.pathIndWrite p n a3 u) s = .next ((s.answer .done).pathGo n (indWord 1 a3 u)) := congrArg Host.Outcome.next (hostReg_reaches hp)

-- The trace capture

theorem traceCaptureArm_arms {p : Port} {s : State} (hp : s.reaches p 0 = true) (n : Fin 128) (a3 : Bool) (u : TA) :
    ∃ t, exec (.traceCaptureArm p n a3 u) s = .next t ∧ t.flag (R.LU_PATH_TCAP_CTRL n) F.LU_PATH_TCAP_CTRL_ARM = true ∧
      t.get (R.LU_PATH_TCAP_CTRL n) F.LU_PATH_TCAP_CTRL_TA = u.toNat ∧ t.flag (R.LU_PATH_TCAP_CTRL n) F.LU_PATH_TCAP_CTRL_AU3 = a3 ∧
      RegsOnly (fun r => r == R.LU_PATH_TCAP_CTRL n) s t := by
  let r := R.LU_PATH_TCAP_CTRL n
  have hget : ∀ f : Fld, fget 0x40000000 f = 0 →
      ((s.answer .done).wr r ((s.rd r &&& 0x40000000) ||| namedWord 64 a3 u)).get r f = fget (namedWord 64 a3 u) f := fun f hf => by
    unfold State.get
    rw [rd_wr_same, fget_beside hf]
  refine ⟨(s.answer .done).wr r ((s.rd r &&& 0x40000000) ||| namedWord 64 a3 u), congrArg Host.Outcome.next (hostReg_reaches hp), ?_, ?_, ?_,
    (RegsOnly.answer _ _).trans (.wr _ _ (by simp [r]))⟩
  · unfold State.flag
    rw [hget _ (by decide), namedWord_bit31]
    rfl
  · rw [hget _ (by decide), namedWord_ta]
  · unfold State.flag
    rw [hget _ (by decide), namedWord_au3]
    cases a3 <;> rfl

-- The journal

theorem jrnEnable_word (size : Fin 32) : fget (BitVec.ofNat 32 (2 ^ 31 + size.val)) F.DIE_JRN_CTRL_ENABLE = 1 ∧
    fget (BitVec.ofNat 32 (2 ^ 31 + size.val)) F.DIE_JRN_CTRL_ERR = 0 ∧
    fget (BitVec.ofNat 32 (2 ^ 31 + size.val)) F.DIE_JRN_CTRL_SIZE_LOG2 = size.val := by
  revert size
  decide

theorem clampNat_size (v : Nat) : clampNat 12 24 v % 2 ^ 5 = clampNat 12 24 v := by
  unfold clampNat
  split
  · rfl
  · split <;> omega

/-- The journal of a die takes its size, and is enabled where the ring fits; otherwise ERR is set. -/
theorem writeJrnCtrl_enables {s : State} {d : Nat} (size : Fin 32) (h : s.flag (R.DIE_JRN_CTRL d) F.DIE_JRN_CTRL_ENABLE = false) :
    s.writeJrnCtrl d (BitVec.ofNat 32 (2 ^ 31 + size.val)) =
      if (s.put (R.DIE_JRN_CTRL d) F.DIE_JRN_CTRL_SIZE_LOG2 (clampNat 12 24 size)).jrnFits d then
        (((s.put (R.DIE_JRN_CTRL d) F.DIE_JRN_CTRL_SIZE_LOG2 (clampNat 12 24 size)).put (R.DIE_JRN_CTRL d) F.DIE_JRN_CTRL_ENABLE 1).wr
          (R.DIE_JRN_WR d) 0).wr (R.DIE_JRN_RD d) 0
      else (s.put (R.DIE_JRN_CTRL d) F.DIE_JRN_CTRL_SIZE_LOG2 (clampNat 12 24 size)).put (R.DIE_JRN_CTRL d) F.DIE_JRN_CTRL_ERR 1 := by
  obtain ⟨enable, err, len⟩ := jrnEnable_word size
  unfold State.writeJrnCtrl
  simp only [enable, err, len, h]
  rfl

/-- The registers of the journal that a host's ENABLE may change. -/
def jrnReg (d : Nat) (r : RegId) : Bool := r == R.DIE_JRN_CTRL d || r == R.DIE_JRN_WR d || r == R.DIE_JRN_RD d

theorem journalEnable_steps {p : Port} {d : Fin 4} {size : Fin 32} {s : State} (hp : s.reaches p 0 = true)
    (h : s.flag (R.DIE_JRN_CTRL d) F.DIE_JRN_CTRL_ENABLE = false) :
    let s1 := s.put (R.DIE_JRN_CTRL d) F.DIE_JRN_CTRL_SIZE_LOG2 (clampNat 12 24 size)
    ∃ t, exec (.journalEnable p d size) s = .next t ∧ t.get (R.DIE_JRN_CTRL d) F.DIE_JRN_CTRL_SIZE_LOG2 = clampNat 12 24 size ∧
      (s1.jrnFits d = true → t.flag (R.DIE_JRN_CTRL d) F.DIE_JRN_CTRL_ENABLE = true ∧ t.rd (R.DIE_JRN_WR d) = 0 ∧ t.rd (R.DIE_JRN_RD d) = 0) ∧
      (s1.jrnFits d = false → t.flag (R.DIE_JRN_CTRL d) F.DIE_JRN_CTRL_ENABLE = false ∧
        t.flag (R.DIE_JRN_CTRL d) F.DIE_JRN_CTRL_ERR = true ∧ t.rd (R.DIE_JRN_WR d) = s.rd (R.DIE_JRN_WR d)) ∧
      RegsOnly (jrnReg d) s t := by
  intro s1
  have hcw : R.DIE_JRN_CTRL d ≠ R.DIE_JRN_WR d := by simp
  have hcr : R.DIE_JRN_CTRL d ≠ R.DIE_JRN_RD d := by simp
  have hwr : R.DIE_JRN_WR d ≠ R.DIE_JRN_RD d := by simp
  have run : exec (.journalEnable p d size) s = .next ((s.answer .done).writeJrnCtrl d (BitVec.ofNat 32 (2 ^ 31 + size.val))) :=
    congrArg Host.Outcome.next (hostReg_reaches hp)
  rw [writeJrnCtrl_enables (s := s.answer .done) size h] at run
  have sized : RegsOnly (jrnReg d) s ((s.answer .done).put (R.DIE_JRN_CTRL d) F.DIE_JRN_CTRL_SIZE_LOG2 (clampNat 12 24 size)) :=
    (RegsOnly.answer _ _).trans (.put _ _ _ (by simp [jrnReg]))
  have hsize : s1.get (R.DIE_JRN_CTRL d) F.DIE_JRN_CTRL_SIZE_LOG2 = clampNat 12 24 size :=
    (get_put_same _ _ (by decide)).trans (clampNat_size _)
  by_cases hfit : s1.jrnFits d = true
  · refine ⟨_, run.trans (congrArg _ (if_pos hfit)), ?_, fun _ => ⟨?_, ?_, ?_⟩, fun hn => ?_,
      ((sized.trans (.put _ _ _ (by simp [jrnReg]))).trans (.wr _ _ (by simp [jrnReg]))).trans (.wr _ _ (by simp [jrnReg]))⟩
    · rw [get_wr, if_neg hcr, get_wr, if_neg hcw, get_put_field _ _ (by decide)]
      exact hsize
    · unfold State.flag
      rw [get_wr, if_neg hcr, get_wr, if_neg hcw, get_put_same _ _ (by decide)]
      rfl
    · rw [rd_wr_ne _ _ hwr, rd_wr_same]
    · rw [rd_wr_same]
    · rw [hfit] at hn
      cases hn
  · refine ⟨_, run.trans (congrArg _ (if_neg hfit)), ?_, fun hy => absurd hy hfit, fun _ => ⟨?_, ?_, ?_⟩,
      sized.trans (.put _ _ _ (by simp [jrnReg]))⟩
    · rw [get_put_field _ _ (by decide)]
      exact hsize
    · rw [flag_put_field _ _ _ (by decide), flag_put_field _ _ _ (by decide)]
      exact h
    · exact flag_put_same _ _ _ (by decide)
    · rw [rd_put_ne _ _ _ hcw.symm, rd_put_ne _ _ _ hcw.symm]
      rfl

theorem journalRdWrite_steps {p : Port} (d : Fin 4) (v : Word) {s : State} (hp : s.reaches p 0 = true) :
    ∃ t, exec (.journalRdWrite p d v) s = .next t ∧
      t.rd (R.DIE_JRN_RD d) = (if fnDelta v.toNat (s.rd (R.DIE_JRN_WR d)).toNat ≤ jrnSize s d then v else s.rd (R.DIE_JRN_RD d)) ∧
      RegsOnly (fun r => r == R.DIE_JRN_RD d) s t := by
  have run : exec (.journalRdWrite p d v) s = .next ((s.answer .done).writeJrnRd d v) := congrArg Host.Outcome.next (hostReg_reaches hp)
  by_cases hin : fnDelta v.toNat (s.rd (R.DIE_JRN_WR d)).toNat ≤ jrnSize s d
  · refine ⟨_, run.trans (congrArg _ (if_pos hin)), ?_, (RegsOnly.answer _ _).trans (.wr _ _ (by simp))⟩
    rw [rd_wr_same, if_pos hin]
  · refine ⟨_, run.trans (congrArg _ (if_neg hin)), ?_, RegsOnly.answer _ _⟩
    rw [if_neg hin]
    rfl

end Sys2Proof.Machine

/-!
The completion of a per-path access, and the registers of paths as a whole (06_pointers_paths.md: R125, R126, R150 to R155).
-/

namespace Sys2Proof.Machine

-- An access completes

/-- The oldest access of LU n is taken from the queue, and DONE is set. -/
def State.accessTaken (s : State) (n : Nat) : State :=
  { s with pathInd := s.pathInd.eraseP (fun e => e.1 == n) }.put (R.LU_PATH_IND_STATUS n) F.LU_PATH_IND_STATUS_DONE 1

/-- The words of path (a3, u) are shown in the DATA words of LU n. -/
def State.showPath (s : State) (n : Nat) (a3 : Bool) (u : TA) : State :=
  (((s.wr (R.LU_PATH_IND_DATA0 n) ((s.path a3 u).cfgNext.getD (s.path a3 u).cfg)).wr (R.LU_PATH_IND_DATA1 n) (s.pathStat a3 u).1).wr
    (R.LU_PATH_IND_DATA2 n) (s.pathStat a3 u).2.1).wr (R.LU_PATH_IND_DATA3 n) (s.pathStat a3 u).2.2

/-- The registers that the completion of an access may change. -/
def pathIndReg (n : Nat) (r : RegId) : Bool :=
  r == R.LU_PATH_IND_STATUS n || r == R.LU_PATH_IND_DATA0 n || r == R.LU_PATH_IND_DATA1 n || r == R.LU_PATH_IND_DATA2 n ||
    r == R.LU_PATH_IND_DATA3 n

section
variable {s t : State} {n : Nat}

/-- What every completed access leaves: the queue without it, and DONE. -/
structure AccessDone (n : Nat) (s t : State) : Prop where
  queue : t.pathInd = s.pathInd.eraseP (fun e => e.1 == n)
  done : t.flag (R.LU_PATH_IND_STATUS n) F.LU_PATH_IND_STATUS_DONE = true
  settled : Settled s → Settled t

theorem AccessDone.taken (s : State) (n : Nat) : AccessDone n s (s.accessTaken n) :=
  ⟨rfl, flag_put_same _ _ _ (by decide), fun h =>
    (RegsOnly.put (p := pathIndReg n) _ _ _ (by simp [pathIndReg])).settled (by simp [pathIndReg]) (by simp [pathIndReg]) (h.of_eq rfl rfl rfl)⟩

theorem AccessDone.setPath (h : AccessDone n s t) (a3 : Bool) (u : TA) (x : PathSt) : AccessDone n s (t.setPath a3 u x) :=
  ⟨h.queue, h.done, fun hs => (h.settled hs).of_eq rfl rfl rfl⟩

theorem AccessDone.refused (h : AccessDone n s t) : AccessDone n s (t.put (R.LU_PATH_IND_STATUS n) F.LU_PATH_IND_STATUS_ERR 1) :=
  ⟨h.queue, (flag_put_field _ _ _ (by decide)).trans h.done, fun hs =>
    (RegsOnly.put (p := pathIndReg n) _ _ _ (by simp [pathIndReg])).settled (by simp [pathIndReg]) (by simp [pathIndReg]) (h.settled hs)⟩

theorem RegsOnly.showPath (s : State) (n : Nat) (a3 : Bool) (u : TA) : RegsOnly (pathIndReg n) s (s.showPath n a3 u) :=
  (((RegsOnly.wr _ _ (by simp [pathIndReg])).trans (.wr _ _ (by simp [pathIndReg]))).trans (.wr _ _ (by simp [pathIndReg]))).trans
    (.wr _ _ (by simp [pathIndReg]))

theorem AccessDone.showPath (h : AccessDone n s t) (a3 : Bool) (u : TA) : AccessDone n s (t.showPath n a3 u) :=
  ⟨h.queue, by
    unfold State.showPath State.flag
    rw [get_wr, if_neg (by simp), get_wr, if_neg (by simp), get_wr, if_neg (by simp), get_wr, if_neg (by simp)]
    exact h.done, fun hs => (RegsOnly.showPath t n a3 u).settled (by simp [pathIndReg]) (by simp [pathIndReg]) (h.settled hs)⟩

-- What DATA0 to DATA3 then hold

theorem showPath_data0 (a3 : Bool) (u : TA) :
    (s.showPath n a3 u).rd (R.LU_PATH_IND_DATA0 n) = (s.path a3 u).cfgNext.getD (s.path a3 u).cfg := by
  unfold State.showPath
  rw [rd_wr_ne _ _ (by simp), rd_wr_ne _ _ (by simp), rd_wr_ne _ _ (by simp), rd_wr_same]

theorem showPath_inPtr (a3 : Bool) (u : TA) :
    (s.showPath n a3 u).get (R.LU_PATH_IND_DATA2 n) F.LU_PATH_IND_DATA2_IN_PTR = (s.path a3 u).off % 1024 := by
  unfold State.showPath
  rw [get_wr, if_neg (by simp), get_wr, if_pos rfl]
  unfold State.pathStat fget
  rw [BitVec.toNat_ofNat]
  dsimp only
  omega

theorem showPath_data3 (a3 : Bool) (u : TA) : (s.showPath n a3 u).rd (R.LU_PATH_IND_DATA3 n) = (s.path a3 u).traceSig :=
  rd_wr_same _ _ _

-- The three ends of an access: no such path, a write, a read

variable {c v : Word} (h : s.pathInd.find? (fun e => e.1 == n) = some (n, c, v))
include h

theorem pathIndDone_refused (hno : (taLink (c.setWidth 24) == n && s.isPath (c.toNat.testBit 24) (c.setWidth 24)) = false) :
    s.pathIndDone n = (s.accessTaken n).put (R.LU_PATH_IND_STATUS n) F.LU_PATH_IND_STATUS_ERR 1 := by
  unfold State.pathIndDone
  rw [h]
  dsimp only
  rw [hno]
  rfl

theorem pathIndDone_write (hyes : (taLink (c.setWidth 24) == n && s.isPath (c.toNat.testBit 24) (c.setWidth 24)) = true)
    (hw : c.toNat.testBit 30 = true) :
    s.pathIndDone n = (s.accessTaken n).setPath (c.toNat.testBit 24) (c.setWidth 24)
      { s.path (c.toNat.testBit 24) (c.setWidth 24) with cfgNext := some (v &&& cfgMask) } := by
  unfold State.pathIndDone
  rw [h]
  dsimp only
  rw [hyes, hw]
  rfl

theorem pathIndDone_read (hyes : (taLink (c.setWidth 24) == n && s.isPath (c.toNat.testBit 24) (c.setWidth 24)) = true)
    (hr : c.toNat.testBit 30 = false) :
    s.pathIndDone n = (s.accessTaken n).showPath n (c.toNat.testBit 24) (c.setWidth 24) := by
  unfold State.pathIndDone
  rw [h]
  dsimp only
  rw [hyes, hr]
  rfl

theorem pathIndDone_done : AccessDone n s (s.pathIndDone n) := by
  cases hq : taLink (c.setWidth 24) == n && s.isPath (c.toNat.testBit 24) (c.setWidth 24) with
  | false => exact pathIndDone_refused h hq ▸ (AccessDone.taken s n).refused
  | true =>
    cases hb : c.toNat.testBit 30 with
    | true => exact pathIndDone_write h hq hb ▸ (AccessDone.taken s n).setPath _ _ _
    | false => exact pathIndDone_read h hq hb ▸ (AccessDone.taken s n).showPath _ _

end

theorem pathIndDone_steps {n : Fin 128} {c v : Word} {s : State} (h : s.pathInd.find? (fun e => e.1 == n.val) = some (n.val, c, v))
    (hs : Settled s) :
    let a3 := c.toNat.testBit 24
    let u : TA := c.setWidth 24
    ∃ t, exec (.pathIndDone n) s = .next t ∧ t.flag (R.LU_PATH_IND_STATUS n) F.LU_PATH_IND_STATUS_DONE = true ∧
      t.pathInd = s.pathInd.eraseP (fun e => e.1 == n.val) ∧
      (taLink u ≠ n.val ∨ s.isPath a3 u = false → t.flag (R.LU_PATH_IND_STATUS n) F.LU_PATH_IND_STATUS_ERR = true ∧ t.paths = s.paths) ∧
      (taLink u = n.val → s.isPath a3 u = true → c.toNat.testBit 30 = true →
        (t.path a3 u).cfgNext = some (v &&& cfgMask) ∧ (t.path a3 u).cfg = (s.path a3 u).cfg) ∧
      (taLink u = n.val → s.isPath a3 u = true → c.toNat.testBit 30 = false →
        t.rd (R.LU_PATH_IND_DATA0 n) = (s.path a3 u).cfgNext.getD (s.path a3 u).cfg ∧
        t.get (R.LU_PATH_IND_DATA2 n) F.LU_PATH_IND_DATA2_IN_PTR = (s.path a3 u).off % 1024 ∧
        t.rd (R.LU_PATH_IND_DATA3 n) = (s.path a3 u).traceSig ∧ t.paths = s.paths) := by
  intro a3 u
  have completed := pathIndDone_done h
  refine ⟨s.pathIndDone n, done_settled (completed.settled hs), completed.done, completed.queue, fun hno => ?_, fun hl hp hw => ?_,
    fun hl hp hr => ?_⟩
  · rw [pathIndDone_refused h (by rcases hno with hl | hp <;> simp [u, a3] at * <;> tauto)]
    exact ⟨flag_put_same _ _ _ (by decide), rfl⟩
  · rw [pathIndDone_write h (by rw [Bool.and_eq_true, beq_iff_eq]; exact ⟨hl, hp⟩) hw, path_setPath_same]
    exact ⟨rfl, rfl⟩
  · rw [pathIndDone_read h (by rw [Bool.and_eq_true, beq_iff_eq]; exact ⟨hl, hp⟩) hr]
    exact ⟨showPath_data0 a3 u, showPath_inPtr a3 u, showPath_data3 a3 u, rfl⟩

-- A structure pair is written

theorem exec_structWrite {p : Port} {s : State} (hp : s.reaches p 0 = true) (n : Fin 128) (a : Fin 64) (v : Word) :
    exec (.structWrite p n a v) s = .next ((s.answer .done).writeStruct1 n a v) := congrArg Host.Outcome.next (hostReg_reaches hp)

/-- An answer changes nothing of what is judged of a pair. -/
theorem structOK_answer (s : State) (c : Completion) (n a : Nat) (w : Word × Word) :
    structOK ((s.answer c).structSoon n) a w = structOK (s.structSoon n) a w := by
  rw [structSoon_congr (s := s) (t := s.answer c) rfl rfl rfl]

theorem structWrite_taken {p : Port} {n : Fin 128} {a : Fin 64} {v w0 : Word} {s : State} (hp : s.reaches p 0 = true)
    (h : s.structW0 = [(64 * n.val + a.val, w0)])
    (hok : structOK (s.structSoon n) a (w0, v &&& accMask (R.LU_PATH_STRUCT1 n a) (fun x => x == .rw)) = true) :
    let e := (s.inFrames 1, 64 * n.val + a.val, w0, v &&& accMask (R.LU_PATH_STRUCT1 n a) (fun x => x == .rw))
    exec (.structWrite p n a v) s = .next { s with resp := .done, structW0 := [], structPend := insPend e s.structPend } := by
  rw [exec_structWrite hp, writeStruct1_held (s := s.answer .done) v h, structOK_answer, if_pos hok]
  rfl

theorem structWrite_rejected {p : Port} {n : Fin 128} {a : Fin 64} {v w0 : Word} {s : State} (hp : s.reaches p 0 = true)
    (h : s.structW0 = [(64 * n.val + a.val, w0)])
    (hok : structOK (s.structSoon n) a (w0, v &&& accMask (R.LU_PATH_STRUCT1 n a) (fun x => x == .rw)) = false) :
    ∃ t, exec (.structWrite p n a v) s = .next t ∧ t.flag (R.LU_PATH_CTRL n) F.LU_PATH_CTRL_STRUCT_REJ = true ∧
      RegsOnly (fun r => r == R.LU_PATH_CTRL n) { s with structW0 := [] } t := by
  rw [exec_structWrite hp, writeStruct1_held (s := s.answer .done) v h, structOK_answer, if_neg (by simp [hok])]
  exact ⟨_, rfl, flag_put_same _ _ _ (by decide), (RegsOnly.answer _ .done).trans (.put _ _ _ (by simp))⟩

/-- Settles O20: structure pairs where they are written and where they take effect, the control words of the journal, and each end of a per-path
access. -/
theorem pathRegistersAreWrittenAndRead : Obligations.PathRegistersAreWrittenAndRead := by
  unfold Obligations.PathRegistersAreWrittenAndRead
  refine ⟨⟨fun _ _ _ _ _ _ hp h hok => structWrite_taken hp h hok, fun _ _ _ _ _ _ hp h hok => structWrite_rejected hp h hok,
      fun n a f w s hfn h hf hok => ?_, fun _ _ _ _ _ hfn h hf hok => structApply_rejects hfn h hf hok⟩,
    fun _ _ _ _ hp h => journalEnable_steps hp h, fun _ d v _ hp => journalRdWrite_steps d v hp, fun p n a3 u s hp => ?_,
    fun p n a3 u s hp => ?_, fun _ _ _ _ h hs => pathIndDone_steps h hs, fun _ n a3 u _ hp => traceCaptureArm_arms hp n a3 u⟩
  · obtain ⟨t, ht, held, hpend, hmap⟩ := structApply_takes hfn h hf hok
    exact ⟨t, ht, congrArg Prod.fst held, congrArg Prod.snd held, hpend, hmap⟩
  · have q := pathGo_queues s n a3 u (op := 0) (by decide) .done
    exact ⟨_, exec_pathIndRead hp n a3 u, q.write, q.ta, q.au3, q.queue, q.rest⟩
  · have q := pathGo_queues s n a3 u (op := 1) (by decide) .done
    exact ⟨_, exec_pathIndWrite hp n a3 u, q.write, q.ta, q.au3, q.queue, q.rest⟩

end Sys2Proof.Machine

/-!
The rules of the operations on groups: where a group and its members are read after they were put, and what a command on a group leaves in GRP_CMD
and GRP_STATUS (07_concatenation.md: R174, Table 07-10).
-/

namespace Sys2Proof.Machine

-- A group among the others

section
variable (s : State) (x : Nat) (g : Grp)

@[simp] theorem grpMark_grps (h : Grp) : (s.grpMark x g h).grps = s.grps := by
  unfold State.grpMark
  dsimp only
  split <;> rfl

@[simp] theorem grpMark_mem (h : Grp) : (s.grpMark x g h).mem = s.mem := by
  unfold State.grpMark
  dsimp only
  split <;> rfl

@[simp] theorem setGrp_mem : (s.setGrp x g).mem = s.mem := grpMark_mem _ _ _ _

@[simp] theorem grp_setGrp_same : (s.setGrp x g).grp x = g := by
  unfold State.grp State.setGrp
  rw [grpMark_grps]
  exact look_store_same _ _ _

theorem grp_setGrp_ne {y : Nat} (h : y ≠ x) : (s.setGrp x g).grp y = s.grp y := by
  unfold State.grp State.setGrp
  rw [grpMark_grps]
  exact look_store_ne _ _ h

end

theorem grp_congr {s t : State} (h : t.grps = s.grps) (x : Nat) : t.grp x = s.grp x := by unfold State.grp; rw [h]

-- A member among the others

theorem member_setMem_same {g : Grp} {i : Nat} (f : GrpMem → GrpMem) (h : i < g.mem.length) : (g.setMem i f).member i = f (g.member i) := by
  unfold Grp.member Grp.setMem
  simp [List.getD_eq_getElem?_getD, h]

theorem member_setMem_ne (g : Grp) {i j : Nat} (f : GrpMem → GrpMem) (h : j ≠ i) : (g.setMem i f).member j = g.member j := by
  unfold Grp.member Grp.setMem
  simp [List.getD_eq_getElem?_getD, Ne.symm h]

/-- A member whose source is not IDLE is one of the group's entries. -/
theorem lt_of_src_ne_idle {g : Grp} {i : Nat} (h : (g.member i).src ≠ 0) : i < g.mem.length := by
  by_contra hi
  refine h ?_
  unfold Grp.member
  rw [List.getD_eq_default _ _ (Nat.le_of_not_lt hi)]
  rfl

-- The word of a command, its result, and what the die shows of its groups

section
variable (s : State) (p : Port) (d op x : Nat)

theorem grpDone_code {code : Nat} (h : code < 256) : (s.grpDone p d op x code).get (R.GRP_STATUS p d) F.GRP_STATUS_CODE = code := by
  unfold State.grpDone
  rw [get_put_field _ _ (by decide), get_put_same _ _ (by decide)]
  exact Nat.mod_eq_of_lt h

theorem grpDone_flag (code : Nat) : (s.grpDone p d op x code).flag (R.GRP_STATUS p d) F.GRP_STATUS_DONE = true := by
  unfold State.grpDone
  rw [flag_put_same _ _ _ (by decide)]
  rfl

theorem grpDone_regs {q : RegId → Bool} (hc : q (R.GRP_CMD d) = true) (hs : q (R.GRP_STATUS p d) = true) (code : Nat) :
    RegsOnly q s (s.grpDone p d op x code) :=
  (((RegsOnly.put _ _ _ hc).trans (.put _ _ _ hc)).trans (.put _ _ _ hs)).trans (.put _ _ _ hs)

theorem grpDone_rest (code : Nat) :
    s.grpDone p d op x code = { s with regs := (s.grpDone p d op x code).regs, resp := (s.grpDone p d op x code).resp } :=
  (grpDone_regs (q := fun _ => true) s p d op x rfl rfl code).rest

theorem grpDone_grps (code : Nat) : (s.grpDone p d op x code).grps = s.grps := by rw [grpDone_rest]
theorem grpDone_grpGone (code : Nat) : (s.grpDone p d op x code).grpGone = s.grpGone := by rw [grpDone_rest]
theorem grpDone_timers (code : Nat) : (s.grpDone p d op x code).timers = s.timers := by rw [grpDone_rest]
theorem grpDone_mem (code : Nat) : (s.grpDone p d op x code).mem = s.mem := by rw [grpDone_rest]

theorem rd_grpDone (code : Nat) {r : RegId} (hc : r ≠ R.GRP_CMD d) (hs : r ≠ R.GRP_STATUS p d) : (s.grpDone p d op x code).rd r = s.rd r :=
  (grpDone_regs (q := fun r => r == R.GRP_CMD d || r == R.GRP_STATUS p d) s p d op x (by simp) (by simp) code).regs r (by simp [hc, hs])

theorem grpShow_regs : RegsOnly (fun _ => true) s (s.grpShow d) := ((RegsOnly.put _ _ _ rfl).trans (.put _ _ _ rfl)).trans (.put _ _ _ rfl)

theorem grpShow_grps : (s.grpShow d).grps = s.grps := by rw [(grpShow_regs s d).rest]
theorem grpShow_grpGone : (s.grpShow d).grpGone = s.grpGone := by rw [(grpShow_regs s d).rest]
theorem grpShow_mem : (s.grpShow d).mem = s.mem := by rw [(grpShow_regs s d).rest]

theorem rd_grpIndex (i : Nat) {r : RegId} (h : r ≠ R.GRP_CMD d) : (s.grpIndex d i).rd r = s.rd r := rd_put_ne _ _ _ h

end

-- What refuses a command

theorem ite_code_lt {c : Prop} [Decidable c] {a b : Nat} (ha : a < 256) (hb : b < 256) : (if c then a else b) < 256 := by split <;> assumption

theorem activateCode_lt (s : State) (x : Nat) : s.activateCode x < 256 := by
  unfold State.activateCode
  extract_lets
  repeat' apply ite_code_lt
  all_goals decide

theorem lcasCode_lt (g : Grp) (i : Nat) (want : Nat → Bool) : g.lcasCode i want < 256 := by
  unfold Grp.lcasCode
  repeat' apply ite_code_lt
  all_goals decide

end Sys2Proof.Machine

/-!
The commands on groups that a port's writes of GRP_CMD give, each by the row of Table 07-8 that it follows (07_concatenation.md: R174, R175).
-/

namespace Sys2Proof.Machine

-- What a command that is taken, and one that only shows its result, leaves

/-- The command was taken: GRP_STATUS shows no refusal, group x stands as g, and the other groups and memory stand. -/
structure GrpTaken (p : Port) (d x : Nat) (g : Grp) (s t : State) : Prop where
  code : t.get (R.GRP_STATUS p d) F.GRP_STATUS_CODE = 0
  shown : t.flag (R.GRP_STATUS p d) F.GRP_STATUS_DONE = true
  grp : t.grp x = g
  others : ∀ y, y ≠ x → t.grp y = s.grp y
  mem : t.mem = s.mem

theorem GrpTaken.of_put {s u : State} (p : Port) (d op : Nat) {x : Nat} {g : Grp} (hg : u.grps = (s.setGrp x g).grps) (hm : u.mem = s.mem) :
    GrpTaken p d x g s (u.grpDone p d op x 0) :=
  have grps := (grpDone_grps u p d op x 0).trans hg
  { code := grpDone_code _ _ _ _ _ (by decide)
    shown := grpDone_flag _ _ _ _ _ _
    grp := (grp_congr grps x).trans (grp_setGrp_same _ _ _)
    others := fun y hy => (grp_congr grps y).trans (grp_setGrp_ne _ _ _ hy)
    mem := (grpDone_mem ..).trans hm }

/-- What a command that shows a code leaves besides. -/
structure GrpShows (p : Port) (d code : Nat) (s t : State) : Prop where
  code : t.get (R.GRP_STATUS p d) F.GRP_STATUS_CODE = code
  shown : t.flag (R.GRP_STATUS p d) F.GRP_STATUS_DONE = true
  regs : RegsOnly (fun r => r == R.GRP_CMD d || r == R.GRP_STATUS p d) s t

theorem GrpShows.done (s : State) (p : Port) (d op x : Nat) {code : Nat} (h : code < 256) : GrpShows p d code s (s.grpDone p d op x code) :=
  ⟨grpDone_code _ _ _ _ _ h, grpDone_flag _ _ _ _ _ _, grpDone_regs _ _ _ _ _ (by simp) (by simp) _⟩

/-- The answer to the port, and the INDEX of a command that names a member, come before. -/
theorem GrpShows.answered {p : Port} {d code : Nat} {s t : State} (h : GrpShows p d code (s.answer .done) t) : GrpShows p d code s t :=
  ⟨h.code, h.shown, (RegsOnly.answer _ _).trans h.regs⟩
theorem GrpShows.indexed {p : Port} {d i code : Nat} {s t : State} (h : GrpShows p d code ((s.answer .done).grpIndex d i) t) :
    GrpShows p d code s t :=
  ⟨h.code, h.shown, ((RegsOnly.answer s .done).trans (.put _ _ _ (by simp))).trans h.regs⟩

-- Each command by its row of Table 07-8

section
variable {s : State} (p : Port) (d : Nat) {x i : Nat}

theorem grpDefine_takes (h : (s.grp x).st < 2) :
    ∃ l, GrpTaken p d x { freeGrp with st := 1, cfg0 := s.rd (R.GRP_CFG0 p d), cfg1 := s.rd (R.GRP_CFG1 p d), mem := l } s (s.grpDefine p d x) := by
  unfold State.grpDefine
  rw [if_neg (by omega)]
  exact ⟨_, .of_put _ _ _ (grpShow_grps _ _) ((grpShow_mem _ _).trans (setGrp_mem _ _ _))⟩

theorem grpDefine_refused (h : 2 ≤ (s.grp x).st) : GrpShows p d grSTATE s (s.grpDefine p d x) := by
  unfold State.grpDefine
  rw [if_pos h]
  exact .done _ _ _ _ _ (by decide)

/-- The group with the tributaries of its member i set: ingress w and egress e. -/
def Grp.named (g : Grp) (i : Nat) (w e : Word) : Grp := g.setMem i (fun _ => { emptyMem with ing := some w, eg := e })

theorem named_member {g : Grp} {w e : Word} (hi : i < g.mem.length) : (g.named i w e).member i = { emptyMem with ing := some w, eg := e } :=
  member_setMem_same (g := g) _ hi

theorem grpSetMember_takes (hs : (s.grp x).st = 1) (hi : i < (s.grp x).x) :
    GrpTaken p d x ((s.grp x).named i (s.rd (R.GRP_MEMBER p d)) (if (s.grp x).mode = 3 then s.rd (R.GRP_MEMBER_EG p d) else 0)) s
      (s.grpSetMember p d x i) := by
  unfold State.grpSetMember
  rw [if_neg (not_not.2 hs), if_neg (Nat.not_le.2 hi)]
  exact .of_put _ _ _ rfl (setGrp_mem _ _ _)

theorem grpActivate_takes (h : s.activateCode x = 0) :
    GrpTaken p d x { s.grp x with st := 2, pages := (s.grp x).need, eff := s.fnFour 2 } s (s.grpActivate p d x) := by
  unfold State.grpActivate
  rw [if_pos h]
  exact .of_put _ _ _ (grpShow_grps _ _) ((grpShow_mem _ _).trans (setGrp_mem _ _ _))

/-- A refused ACTIVATE shows the first check that fails, and for DESKEW_SPACE the pages that the group needs (R175). -/
theorem grpActivate_refused (h : s.activateCode x ≠ 0) :
    (s.grpActivate p d x).get (R.GRP_STATUS p d) F.GRP_STATUS_CODE = s.activateCode x ∧
      RegsOnly (fun r => r == R.GRP_CMD d || r == R.GRP_STATUS p d || r == R.GRP_DESKEW_REQ d) s (s.grpActivate p d x) := by
  unfold State.grpActivate
  rw [if_neg h]
  refine ⟨grpDone_code _ _ _ _ _ (activateCode_lt _ _), .trans ?_ (grpDone_regs _ _ _ _ _ (by simp) (by simp) _)⟩
  split
  · exact .put _ _ _ (by simp)
  · exact ⟨rfl, fun _ _ => rfl⟩

theorem grpDelete_takes (h : (s.grp x).st ≠ 0) : GrpTaken p d x freeGrp s (s.grpDelete p d x) ∧
    (s.grpDelete p d x).grpGone = s.grpGone ++ [(x, s.fnFour 2, s.grp x)] := by
  unfold State.grpDelete
  rw [if_neg h]
  refine ⟨.of_put _ _ _ ?_ ?_, ?_⟩
  · rw [grpShow_grps]
  · rw [grpShow_mem]
    simp
  · rw [grpDone_grpGone, grpShow_grpGone]

/-- The group after an ADD of member i. -/
def Grp.added (g : Grp) (i : Nat) : Grp :=
  { g.setMem i (fun m => { m with src := 1, srcSq := g.nextSq, addFail := false }) with busy := some i }

theorem added_member {g : Grp} (hi : i < g.mem.length) :
    (g.added i).member i = { g.member i with src := 1, srcSq := g.nextSq, addFail := false } := member_setMem_same (g := g) _ hi

theorem grpAdd_takes (h : (s.grp x).lcasCode i (fun v => v == 0) = 0) :
    GrpTaken p d x ((s.grp x).added i) s (s.grpAdd p d x i) ∧ (s.grpAdd p d x i).timerOn (addKey x) = true := by
  unfold State.grpAdd
  rw [if_neg (not_not.2 h)]
  unfold State.startTimer
  refine ⟨.of_put _ _ _ ?_ ?_, ?_⟩
  · rw [State.startTimerNs_grps]
    rfl
  · rw [State.startTimerNs_mem, setGrp_mem]
  · unfold State.timerOn State.timer
    rw [grpDone_timers]
    simp [State.startTimerNs]

/-- The group after a REMOVE of member i. -/
def Grp.removed (g : Grp) (i : Nat) : Grp :=
  { g.setMem i (fun m => { m with src := 0 }) with busy := some i, gaps := g.gaps ++ [(g.member i).srcSq] }

theorem removed_member {g : Grp} (hi : i < g.mem.length) : (g.removed i).member i = { g.member i with src := 0 } :=
  member_setMem_same (g := g) _ hi

theorem grpRemove_takes (h : (s.grp x).lcasCode i (fun _ => true) = 0) (hi : ((s.grp x).member i).src ≠ 0) :
    GrpTaken p d x ((s.grp x).removed i) s (s.grpRemove p d x i) := by
  unfold State.grpRemove
  rw [if_neg (not_or.2 ⟨not_not.2 h, hi⟩)]
  exact .of_put _ _ _ rfl (setGrp_mem _ _ _)

/-- A REMOVE that is refused, and one of an IDLE member, only shows its code. -/
theorem grpRemove_shows (h : (s.grp x).lcasCode i (fun _ => true) ≠ 0 ∨ ((s.grp x).member i).src = 0) :
    GrpShows p d ((s.grp x).lcasCode i (fun _ => true)) s (s.grpRemove p d x i) := by
  unfold State.grpRemove
  rw [if_pos h]
  exact .done _ _ _ _ _ (lcasCode_lt _ _ _)

end

-- READ

section
variable (s : State) (p : Port) (d : Nat) (g : Grp) (m : GrpMem) (ms gs : Word)

/-- The registers that a READ loads, with what MSTATE and GSTATE show. -/
def State.grpLoaded : State :=
  (((((s.wr (R.GRP_CFG0 p d) g.cfg0).wr (R.GRP_CFG1 p d) g.cfg1).wr (R.GRP_MEMBER p d) (m.ing.getD 0)).wr (R.GRP_MEMBER_EG p d) m.eg).wr
    (R.GRP_MSTATE d) ms).wr (R.GRP_GSTATE d) gs

theorem grpLoaded_cfg0 : (s.grpLoaded p d g m ms gs).rd (R.GRP_CFG0 p d) = g.cfg0 := by simp [State.grpLoaded, rd_wr]
theorem grpLoaded_cfg1 : (s.grpLoaded p d g m ms gs).rd (R.GRP_CFG1 p d) = g.cfg1 := by simp [State.grpLoaded, rd_wr]
theorem grpLoaded_member : (s.grpLoaded p d g m ms gs).rd (R.GRP_MEMBER p d) = m.ing.getD 0 := by simp [State.grpLoaded, rd_wr]
theorem grpLoaded_memberEg : (s.grpLoaded p d g m ms gs).rd (R.GRP_MEMBER_EG p d) = m.eg := by simp [State.grpLoaded, rd_wr]

/-- The registers that a READ may change. -/
def grpReadReg (r : RegId) : Bool :=
  r == R.GRP_CMD d || r == R.GRP_STATUS p d || r == R.GRP_CFG0 p d || r == R.GRP_CFG1 p d || r == R.GRP_MEMBER p d
    || r == R.GRP_MEMBER_EG p d || r == R.GRP_MSTATE d || r == R.GRP_GSTATE d

theorem grpLoaded_regs : RegsOnly (grpReadReg p d) s (s.grpLoaded p d g m ms gs) :=
  (((((RegsOnly.wr _ _ (by simp [grpReadReg])).trans (.wr _ _ (by simp [grpReadReg]))).trans (.wr _ _ (by simp [grpReadReg]))).trans
    (.wr _ _ (by simp [grpReadReg]))).trans (.wr _ _ (by simp [grpReadReg]))).trans (.wr _ _ (by simp [grpReadReg]))

theorem grpRead_loads {x i : Nat} (h : (s.grp x).st = 0 ∨ i < (s.grp x).x) :
    ∃ ms gs, s.grpRead p d x i = (s.grpLoaded p d (s.grp x) ((s.grp x).member i) ms gs).grpDone p d 0 x 0 :=
  ⟨_, _, if_neg (by omega)⟩

end

-- The commands of a port that reaches the registers

section
variable {p : Port} {s : State} (hp : s.reaches p 0 = true) (d : Fin 4) (g : Fin 1024) (i : Fin 256)
include hp

theorem exec_grpOpInvalid : exec (.grpOpInvalid p d g i) s =
    .next (((s.answer .done).grpIndex d i).grpDone p d 7 (1024 * d.val + g.val) grFIELD) := congrArg Host.Outcome.next (hostReg_reaches hp)
theorem exec_grpDefine : exec (.grpDefine p d g) s = .next ((s.answer .done).grpDefine p d (1024 * d.val + g.val)) :=
  congrArg Host.Outcome.next (hostReg_reaches hp)
theorem exec_grpSetMember : exec (.grpSetMember p d g i) s =
    .next (((s.answer .done).grpIndex d i).grpSetMember p d (1024 * d.val + g.val) i) := congrArg Host.Outcome.next (hostReg_reaches hp)
theorem exec_grpActivate : exec (.grpActivate p d g) s = .next ((s.answer .done).grpActivate p d (1024 * d.val + g.val)) :=
  congrArg Host.Outcome.next (hostReg_reaches hp)
theorem exec_grpDelete : exec (.grpDelete p d g) s = .next ((s.answer .done).grpDelete p d (1024 * d.val + g.val)) :=
  congrArg Host.Outcome.next (hostReg_reaches hp)
theorem exec_grpAdd : exec (.grpAdd p d g i) s = .next (((s.answer .done).grpIndex d i).grpAdd p d (1024 * d.val + g.val) i) :=
  congrArg Host.Outcome.next (hostReg_reaches hp)
theorem exec_grpRemove : exec (.grpRemove p d g i) s = .next (((s.answer .done).grpIndex d i).grpRemove p d (1024 * d.val + g.val) i) :=
  congrArg Host.Outcome.next (hostReg_reaches hp)
theorem exec_grpRead : exec (.grpRead p d g i) s = .next (((s.answer .done).grpIndex d i).grpRead p d (1024 * d.val + g.val) i) :=
  congrArg Host.Outcome.next (hostReg_reaches hp)

end

/-- Settles O22: each command on a group by what its row of Table 07-8 makes of the group, and by the code that GRP_STATUS then shows. -/
theorem groupCommands : Obligations.GroupCommands := by
  unfold Obligations.GroupCommands
  refine ⟨fun p d g i s hp => ?invalid, fun p d g s hp h => ?define, fun p d g s hp h => ?defineRefused, fun p d g i s hp h hx hi => ?setMember,
    fun p d g s hp h => ?activate, fun p d g s hp h => ?activateRefused, fun p d g s hp h => ?delete, fun p d g i s hp h hi => ?add,
    fun p d g i s hp h hsrc => ?remove, fun p d g i s hp h hsrc => ?removeIdle, fun p d g i s hp h => ?removeRefused, fun p d g i s hp h => ?read⟩
  case invalid =>
    have shows := (GrpShows.done ((s.answer .done).grpIndex d i) p d 7 (1024 * d.val + g.val) (code := grFIELD) (by decide)).indexed
    exact ⟨_, exec_grpOpInvalid hp d g i, shows.code, shows.shown, shows.regs⟩
  case define =>
    obtain ⟨l, taken⟩ := grpDefine_takes (s := s.answer .done) p d h
    exact ⟨_, exec_grpDefine hp d g, taken.code, taken.shown, congrArg Grp.st taken.grp, congrArg Grp.cfg0 taken.grp, congrArg Grp.cfg1 taken.grp,
      taken.others, taken.mem⟩
  case defineRefused =>
    have shows := (grpDefine_refused (s := s.answer .done) p d h).answered
    exact ⟨_, exec_grpDefine hp d g, shows.code, shows.regs⟩
  case setMember =>
    have taken := grpSetMember_takes (s := (s.answer .done).grpIndex d i) p d h hx
    rw [rd_grpIndex _ _ _ (by simp), rd_grpIndex _ _ _ (by simp)] at taken
    refine ⟨_, exec_grpSetMember hp d g i, taken.code, ?_, ?_, fun j hj => ?_, taken.others⟩ <;> rw [taken.grp]
    · exact congrArg GrpMem.ing (named_member hi)
    · exact congrArg GrpMem.eg (named_member hi)
    · exact member_setMem_ne _ _ hj
  case activate =>
    have taken := grpActivate_takes (s := s.answer .done) p d h
    exact ⟨_, exec_grpActivate hp d g, taken.code, taken.grp, taken.others⟩
  case activateRefused =>
    obtain ⟨code, regs⟩ := grpActivate_refused (s := s.answer .done) p d h
    exact ⟨_, exec_grpActivate hp d g, code, (RegsOnly.answer _ _).trans regs⟩
  case delete =>
    obtain ⟨taken, gone⟩ := grpDelete_takes (s := s.answer .done) p d h
    exact ⟨_, exec_grpDelete hp d g, taken.code, taken.grp, gone, taken.others⟩
  case add =>
    obtain ⟨taken, timed⟩ := grpAdd_takes (s := (s.answer .done).grpIndex d i) p d h
    refine ⟨_, exec_grpAdd hp d g i, taken.code, ?_, ?_, congrArg Grp.busy taken.grp, timed⟩ <;> rw [taken.grp]
    · exact congrArg GrpMem.src (added_member hi)
    · exact congrArg GrpMem.srcSq (added_member hi)
  case remove =>
    have taken := grpRemove_takes (s := (s.answer .done).grpIndex d i) p d h hsrc
    refine ⟨_, exec_grpRemove hp d g i, taken.code, ?_, congrArg Grp.busy taken.grp, congrArg Grp.gaps taken.grp⟩
    rw [taken.grp]
    exact congrArg GrpMem.src (removed_member (lt_of_src_ne_idle hsrc))
  case removeIdle =>
    have shows := (grpRemove_shows (s := (s.answer .done).grpIndex d i) p d (.inr hsrc)).indexed
    exact ⟨_, exec_grpRemove hp d g i, shows.code.trans h, shows.regs⟩
  case removeRefused =>
    have shows := (grpRemove_shows (s := (s.answer .done).grpIndex d i) p d (.inl h)).indexed
    exact ⟨_, exec_grpRemove hp d g i, shows.code, shows.regs⟩
  case read =>
    obtain ⟨ms, gs, loads⟩ := grpRead_loads ((s.answer .done).grpIndex d i) p d h
    refine ⟨_, exec_grpRead hp d g i, ?_⟩
    rw [loads]
    refine ⟨grpDone_code _ _ _ _ _ (by decide), grpDone_flag _ _ _ _ _ _, (rd_grpDone _ _ _ _ _ _ (by simp) (by simp)).trans (grpLoaded_cfg0 ..),
      (rd_grpDone _ _ _ _ _ _ (by simp) (by simp)).trans (grpLoaded_cfg1 ..),
      (rd_grpDone _ _ _ _ _ _ (by simp) (by simp)).trans (grpLoaded_member ..),
      (rd_grpDone _ _ _ _ _ _ (by simp) (by simp)).trans (grpLoaded_memberEg ..), ?_⟩
    have read : RegsOnly (grpReadReg p d) s _ := (((RegsOnly.answer s .done).trans (.put _ _ _ (by simp [grpReadReg]))).trans
      (grpLoaded_regs ((s.answer .done).grpIndex d i) p d (s.grp (1024 * d.val + g.val)) ((s.grp (1024 * d.val + g.val)).member i) ms gs)).trans
      (grpDone_regs _ p d 0 (1024 * d.val + g.val) (by simp [grpReadReg]) (by simp [grpReadReg]) 0)
    exact read

end Sys2Proof.Machine

/-!
Refutation of the statement on groups that follow times and members (07_concatenation.md).
-/

namespace Sys2Proof.Machine

/-- No group is deleted, and the retirement of link unit 0, whose SERDES source has turned severe, is still to be carried out (R346). -/
def retirementDue : State := { State.reset with due := [⟨evLu 0, srcSERDES, 0⟩] }

/-- The end of every command carries out the retirements that are due: that of a deletion's effect, too, retires the link unit. -/
theorem grpDeleteEffect_retires : ((retirementDue.grpLeave 0).settle.graveHealth).bit (R.DIE_UNIT_RETIRE 0) 0 = true := by decide +kernel

/-- Refutes O23: no premise of the clause on a deletion's effect says that the state is settled, and where a retirement is due the command carries
it out, so that a register besides those of the group changes. -/
theorem not_groupsFollowTimesAndMembers : ¬ Obligations.GroupsFollowTimesAndMembers := by
  unfold Obligations.GroupsFollowTimesAndMembers
  intro h
  obtain ⟨⟨-, hdelete, -⟩, -⟩ := h
  obtain ⟨t, ht, -, only⟩ := hdelete 0 0 retirementDue
  have retired : t.bit (R.DIE_UNIT_RETIRE 0) 0 = true := by
    rw [← Host.Outcome.next.inj ht]
    exact grpDeleteEffect_retires
  have inService : retirementDue.bit (R.DIE_UNIT_RETIRE 0) 0 = false := by decide +kernel
  unfold State.bit at retired inService
  rw [only.regs (R.DIE_UNIT_RETIRE 0) (by decide)] at retired
  exact absurd (retired.symm.trans inService) (by decide)

end Sys2Proof.Machine

/-!
The rules of a protection group: its status word and its state where they are read after they were put, what a change of a field leaves, and what
the operations of MSP_CMD are judged by (08_protection.md: R189, Tables 08-6, 08-7, 08-15).
-/

namespace Sys2Proof.Machine

-- Registers of a group

/-- A register of a group below MSP_COND is none that retirements change. -/
theorem reactReg_msp (g : Nat) {k o : Nat} (hk : k < 8) (h1 : 0x1000 ≤ o) (h2 : o < 0x1030) : reactReg ⟨.region, g, o + 0x40 * k, 0⟩ = false := by
  have hw : o + 0x40 * k < 0xf000 := by omega
  have hs : o + 0x40 * k ≠ 0x400 ∧ o + 0x40 * k ≠ 0x408 ∧ o + 0x40 * k ≠ 0x40c := by omega
  have hc : 0x1030 ≤ o + 0x40 * k → (o + 0x40 * k - 0x1030) % 0x40 ≠ 0 := by omega
  simp [reactReg, txnReg, noteReg, evReg, hw, hs]
  exact hc

theorem evReg_msp (g : Nat) {k o : Nat} (hk : k < 8) (h : o < 0x1040) : evReg ⟨.region, g, o + 0x40 * k, 0⟩ = false := evReg_region (by omega)

/-- A field put to what it is. -/
theorem fset_fget_self (w : Word) (f : Fld) : fset w f (fget w f) = w := by
  refine BitVec.eq_of_getLsbD_eq fun i hi => ?_
  rw [getLsbD_fset]
  split
  next h =>
    rw [testBit_fget, BitVec.testBit_toNat, Nat.add_sub_cancel' h.1, decide_eq_true (by omega), Bool.true_and]
  · rfl

-- What a change of a field of MSP_STATUS leaves

section
variable (s : State) (g k : Nat) (f : Fld) (v : Nat) {r : RegId}

/-- Whether the field changes or not, a register that events leave reads as if it was put (R188, R206). -/
theorem rd_mspField (he : evReg r = false) : (s.mspField g k f v).rd r = (s.put (R.MSP_STATUS g k) f v).rd r := by
  unfold State.mspField
  split
  next h =>
    rw [rd_put]
    split
    next hr => rw [← h, hr]; exact (fset_fget_self _ _).symm
    · rfl
  · exact (ev_only _ _ _).rd_eq he

theorem rd_mspField_ne (he : evReg r = false) (h : r ≠ R.MSP_STATUS g k) : (s.mspField g k f v).rd r = s.rd r :=
  (rd_mspField s g k f v he).trans (rd_put_ne _ _ _ h)

theorem get_mspField {k : Nat} (hk : k < 8) (h : f.lo + f.w ≤ 32) : (s.mspField g k f v).get (R.MSP_STATUS g k) f = v % 2 ^ f.w := by
  unfold State.get
  rw [rd_mspField _ _ _ _ _ (evReg_msp g hk (by decide))]
  exact get_put_same _ _ h

theorem get_mspField_apart {k : Nat} (hk : k < 8) {e : Fld} (h : f.apart e = true) :
    (s.mspField g k f v).get (R.MSP_STATUS g k) e = s.get (R.MSP_STATUS g k) e := by
  unfold State.get
  rw [rd_mspField _ _ _ _ _ (evReg_msp g hk (by decide)), rd_put_same, fget_fset_apart _ _ h]

theorem ControlOnly.mspField : ControlOnly s (s.mspField g k f v) := .ite (.refl _) ((ControlOnly.put _ _ _ _).trans (.ev _ _ _))

theorem ControlOnly.mspSelect (c : Nat) : ControlOnly s (s.mspSelect g k c) :=
  .ite (.refl _) ((ControlOnly.mspField _ _ _ _ _).trans (.addCtr _ _ _))

/-- A selection is a change of SEL_CHAN, beside MSP_SW (Table 08-16). -/
theorem rd_mspSelect (c : Nat) (he : evReg r = false) (hl : r ≠ R.MSP_SW_LO g k) (hh : r ≠ R.MSP_SW_HI g k) :
    (s.mspSelect g k c).rd r = (s.mspField g k F.MSP_STATUS_SEL_CHAN c).rd r := by
  unfold State.mspSelect
  split
  next h => rw [State.mspField, if_pos h]
  · exact rd_addCtr _ _ _ hl hh he

end

theorem get_put_apart (s : State) (r : RegId) {f e : Fld} (v : Nat) (h : f.apart e = true) : (s.put r f v).get r e = s.get r e := by
  unfold State.get
  rw [rd_put_same, fget_fset_apart _ _ h]

theorem ControlOnly.mspSt_eq {s t : State} (h : ControlOnly s t) (g k : Nat) : t.mspSt g k = s.mspSt g k := by rw [h.rest]; rfl
theorem ControlOnly.sncSt_eq {s t : State} (h : ControlOnly s t) (k : Nat) : t.sncSt k = s.sncSt k := by rw [h.rest]; rfl

section
variable (s : State) (r : RegId) (f : Fld)

@[simp] theorem rd_stopTimer (j : TKey) : (s.stopTimer j).rd r = s.rd r := rfl
@[simp] theorem get_stopTimer (j : TKey) : (s.stopTimer j).get r f = s.get r f := rfl
@[simp] theorem rd_setMspSt (g k : Nat) (m : MspSt) : (s.setMspSt g k m).rd r = s.rd r := rfl
@[simp] theorem get_setMspSt (g k : Nat) (m : MspSt) : (s.setMspSt g k m).get r f = s.get r f := rfl
@[simp] theorem setMspSt_mem (g k : Nat) (m : MspSt) : (s.setMspSt g k m).mem = s.mem := rfl
@[simp] theorem setMspSt_regs (g k : Nat) (m : MspSt) : (s.setMspSt g k m).regs = s.regs := rfl

end

@[simp] theorem mspSt_setMspSt (s : State) (g k : Nat) (m : MspSt) : (s.setMspSt g k m).mspSt g k = m := look_store_same _ _ _

-- What an operation of MSP_CMD is judged by

/-- The operation as MSP_CMD keeps it (Table 08-15), once the port is answered. -/
def State.mspOp (s : State) (g k op : Nat) : State := (s.answer .done).put (R.MSP_CMD g k) F.MSP_CMD_OP op

section
variable (s : State) (g k op : Nat)

theorem rd_mspOp {x o : Nat} (h : o % 0x40 ≠ 0x10) : (s.mspOp g k op).rd ⟨.region, x, o, 0⟩ = s.rd ⟨.region, x, o, 0⟩ :=
  rd_put_ne _ _ _ fun e => by simp at e; omega

theorem rd_mspOp_blk {r : RegId} (h : r.blk ≠ .region) : (s.mspOp g k op).rd r = s.rd r :=
  rd_put_ne _ _ _ fun e => h (by rw [e])

theorem mspLink_mspOp (x i c : Nat) : (s.mspOp g k op).mspLink x i c = s.mspLink x i c := by
  unfold State.mspLink State.get
  rw [rd_mspOp _ _ _ _ (by omega), rd_mspOp _ _ _ _ (by omega), rd_mspOp _ _ _ _ (by omega)]

theorem mspN_mspOp (x i : Nat) : (s.mspOp g k op).mspN x i = s.mspN x i := by
  unfold State.mspN State.get; rw [rd_mspOp _ _ _ _ (by omega)]

theorem mspState_mspOp (x i : Nat) : (s.mspOp g k op).mspState x i = s.mspState x i := by
  unfold State.mspState State.get; rw [rd_mspOp _ _ _ _ (by omega)]

theorem mspChannel_mspOp (x i n : Nat) : (s.mspOp g k op).mspChannel x i n = s.mspChannel x i n := by
  unfold State.mspChannel; simp only [mspN_mspOp, mspLink_mspOp]

theorem mspOf_mspOp (states : List Nat) (n : Nat) : (s.mspOp g k op).mspOf states n = s.mspOf states n := by
  unfold State.mspOf; simp only [mspState_mspOp, mspChannel_mspOp]

theorem retiredLU_mspOp (n : Nat) : (s.mspOp g k op).retiredLU n = s.retiredLU n := by
  unfold State.retiredLU State.bit; rw [rd_mspOp_blk _ _ _ _ (by simp)]; rfl

/-- ACTIVATE is judged by the state before it (Table 08-7). -/
theorem mspCode_mspOp (x i : Nat) : (s.mspOp g k op).mspCode x i = s.mspCode x i := by
  have cfg : (s.mspOp g k op).rd (R.MSP_CFG x i) = s.rd (R.MSP_CFG x i) := rd_mspOp _ _ _ _ (by omega)
  unfold State.mspCode State.arch1n State.flag State.get
  simp only [cfg, mspN_mspOp, mspLink_mspOp, mspState_mspOp, mspOf_mspOp, retiredLU_mspOp]
  rfl

/-- DELETE is judged by the transactions before it (Table 08-6). -/
theorem mspClaimed_mspOp (x i : Nat) : (s.mspOp g k op).mspClaimed x i = s.mspClaimed x i := by
  have live : ∀ j, (s.mspOp g k op).txnLive j = s.txnLive j := fun j => by
    unfold State.txnLive State.txnState State.get
    rw [rd_mspOp_blk _ _ _ _ (by simp)]
  unfold State.mspClaimed
  simp only [live, mspChannel_mspOp]
  rfl

theorem mspCode_lt : s.mspCode g k < 64 := by
  have lt : ∀ {c : Prop} [Decidable c] {a b : Nat}, a < 64 → b < 64 → (if c then a else b) < 64 := fun ha hb => by split <;> assumption
  unfold State.mspCode
  extract_lets
  repeat' apply lt
  all_goals decide

end

end Sys2Proof.Machine

/-!
The operations of MSP_CMD and the writes of a group's configuration (08_protection.md: R189, Tables 08-6, 08-15).
-/

namespace Sys2Proof.Machine

-- An operation that is taken, and one that only shows its code

/-- An operation was taken: the group goes to state st at its effect frame, MSP_STATUS shows no refusal and MSP_CMD the operation; memory and the
map stand. -/
structure MspTaken (g k op st : Nat) (s t : State) : Prop where
  state : t.mspState g k = st
  code : t.get (R.MSP_STATUS g k) F.MSP_STATUS_CODE = 0
  op : t.get (R.MSP_CMD g k) F.MSP_CMD_OP = op
  eff : (t.mspSt g k).eff = s.inFrames 2
  mem : t.mem = s.mem
  map : t.actMap = s.actMap

/-- An operation shows a code, and the group stays as it is. -/
structure MspShows (g k op code : Nat) (s t : State) : Prop where
  code : t.get (R.MSP_STATUS g k) F.MSP_STATUS_CODE = code
  state : t.mspState g k = s.mspState g k
  op : t.get (R.MSP_CMD g k) F.MSP_CMD_OP = op
  regs : RegsOnly (fun r => r == R.MSP_STATUS g k || r == R.MSP_CMD g k) s t

section
variable (s : State) (g : Nat) {k op : Nat}

theorem get_mspOp (h : op < 4) : (s.mspOp g k op).get (R.MSP_CMD g k) F.MSP_CMD_OP = op :=
  (get_put_same _ _ (by decide)).trans (Nat.mod_eq_of_lt h)

theorem MspTaken.of_field (hk : k < 8) (hop : op < 4) {st : Nat} (hst : st < 4) {m : MspSt} (hm : m.eff = s.inFrames 2) :
    MspTaken g k op st s ((((s.mspOp g k op).mspSetCode g k 0).setMspSt g k m).mspField g k F.MSP_STATUS_STATE st) where
  state := (get_mspField _ _ _ _ hk (by decide)).trans (Nat.mod_eq_of_lt hst)
  code := (get_mspField_apart _ _ _ _ hk (by decide)).trans (get_put_same _ _ (by decide))
  op := by
    unfold State.get
    rw [rd_mspField_ne _ _ _ _ _ (evReg_msp g hk (by decide)) (by simp)]
    exact (get_put_reg _ _ _ _ (by simp)).trans (get_mspOp s g hop)
  eff := by rw [(ControlOnly.mspField _ _ _ _ _).mspSt_eq, mspSt_setMspSt, hm]
  mem := (ControlOnly.mspField _ _ _ _ _).mem_eq
  map := (ControlOnly.mspField _ _ _ _ _).actMap_eq

theorem MspShows.of_code (hop : op < 4) {code : Nat} (hc : code < 64) : MspShows g k op code s ((s.mspOp g k op).mspSetCode g k code) where
  code := (get_put_same _ _ (by decide)).trans (Nat.mod_eq_of_lt hc)
  state := (get_put_apart _ _ _ (by decide)).trans (mspState_mspOp _ _ _ _ _ _)
  op := (get_put_reg _ _ _ _ (by simp)).trans (get_mspOp s g hop)
  regs := ((RegsOnly.answer s .done).trans (.put _ _ _ (by simp))).trans (.put _ _ _ (by simp))

-- ACTIVATE and DELETE (Table 08-6)

theorem mspActivate_takes (hk : k < 8) (h : s.mspCode g k = 0) : MspTaken g k 1 1 s ((s.mspOp g k 1).mspActivate g k) := by
  unfold State.mspActivate
  rw [mspCode_mspOp, h]
  exact .of_field s g hk (by decide) (by decide) rfl

theorem mspActivate_refused (h : s.mspCode g k ≠ 0) : MspShows g k 1 (s.mspCode g k) s ((s.mspOp g k 1).mspActivate g k) := by
  unfold State.mspActivate
  rw [mspCode_mspOp]
  dsimp only
  rw [if_pos h]
  exact .of_code s g (by decide) (mspCode_lt _ _ _)

theorem mspDelete_takes (hk : k < 8) (h : s.mspState g k = 1 ∨ s.mspState g k = 2) (hc : s.mspClaimed g k = false) :
    MspTaken g k 2 3 s ((s.mspOp g k 2).mspDelete g k) := by
  unfold State.mspDelete
  rw [mspState_mspOp, mspClaimed_mspOp, if_pos ⟨h, by simp [hc]⟩]
  exact .of_field s g hk (by decide) (by decide) rfl

theorem mspDelete_refused (h : (s.mspState g k ≠ 1 ∧ s.mspState g k ≠ 2) ∨ s.mspClaimed g k = true) :
    MspShows g k 2 2 s ((s.mspOp g k 2).mspDelete g k) := by
  have fails : ¬((s.mspState g k = 1 ∨ s.mspState g k = 2) ∧ (!s.mspClaimed g k) = true) := by
    rintro ⟨hst, hc⟩
    rcases h with ⟨h1, h2⟩ | h
    · exact hst.elim h1 h2
    · simp [h] at hc
  unfold State.mspDelete
  rw [mspState_mspOp, mspClaimed_mspOp, if_neg fails]
  exact .of_code s g (by decide) (by decide)

end

/-- The end of a command leaves what an operation made of the group (R346). -/
theorem MspTaken.done {g k op st : Nat} {s u : State} (hk : k < 8) (h : MspTaken g k op st s u) : ∃ t, done u = .next t ∧ MspTaken g k op st s t := by
  obtain ⟨t, ht, only⟩ := done_only u
  have status : ∀ f, t.get (R.MSP_STATUS g k) f = u.get (R.MSP_STATUS g k) f := only.get_eq (reactReg_msp g hk (by decide) (by decide))
  exact ⟨t, ht, (status _).trans h.state, (status _).trans h.code, (only.get_eq (reactReg_msp g hk (by decide) (by decide)) _).trans h.op,
    by rw [(ControlOnly.of_react only).mspSt_eq, h.eff], (ControlOnly.of_react only).mem_eq.trans h.mem,
    (ControlOnly.of_react only).actMap_eq.trans h.map⟩

/-- An operation that only shows its code leaves a settled state settled. -/
theorem MspShows.done {g k op code : Nat} {s u : State} (hs : Settled s) (h : MspShows g k op code s u) : done u = .next u :=
  done_settled (h.regs.settled (by simp) (by simp) hs)

-- Configuration words (R189)

/-- The configuration word that MSP_CONFIG_WRITE names: 0 CFG, 1 CHAN0, 2 CHAN1, 3 PRIO. -/
def mspConfigReg (g k : Nat) (which : Fin 4) : RegId :=
  if which = 0 then R.MSP_CFG g k else if which = 1 then R.MSP_CHAN0 g k else if which = 2 then R.MSP_CHAN1 g k else R.MSP_PRIO g k

theorem mspConfig_free {s : State} {g k : Nat} (h : s.mspState g k = 0) (which : Fin 4) (v : Word) : s.mspConfig g k which v =
    s.wr (mspConfigReg g k which) (v &&& accMask (mspConfigReg g k which) (fun a => a == .rw)) := by
  unfold State.mspConfig
  rw [if_neg (not_not.2 h)]
  fin_cases which <;> rfl

theorem mspConfig_held {s : State} {g k : Nat} (h : s.mspState g k ≠ 0) (which : Fin 4) (v : Word) :
    s.mspConfig g k which v = s.put (R.MSP_STATUS g k) F.MSP_STATUS_WR_REJ 1 := if_pos h

-- The commands of a port that reaches the registers

section
variable {p : Port} {s : State} (hp : s.reaches p 0 = true) (g k : Fin 8)
include hp

theorem exec_mspActivate : exec (.mspActivate p g k) s = done ((s.mspOp g k 1).mspActivate g k) := congrArg done (hostReg_reaches hp)
theorem exec_mspDelete : exec (.mspDelete p g k) s = done ((s.mspOp g k 2).mspDelete g k) := congrArg done (hostReg_reaches hp)
theorem exec_mspOpInvalid (op3 : Bool) : exec (.mspOpInvalid p g k op3) s = .next ((s.mspOp g k (if op3 then 3 else 0)).mspSetCode g k 1) :=
  congrArg Host.Outcome.next (hostReg_reaches hp)
theorem exec_mspConfigWrite (which : Fin 4) (v : Word) :
    exec (.mspConfigWrite p g k which v) s = .next ((s.answer .done).mspConfig g k which v) := congrArg Host.Outcome.next (hostReg_reaches hp)

end

end Sys2Proof.Machine

/-!
The end of a command leaves the conditions of a group that is not ACTIVE: of what retirements bring about, only a link unit's conditions reach a
group, and only one that is ACTIVE (08_protection.md: R182; 14_faults.md: R346).
-/

namespace Sys2Proof.Machine

/-- The status of group k of region g stands, and so do its conditions unless the group is ACTIVE. -/
structure IdleKept (g : Nat) (k : Fin 8) (s t : State) : Prop where
  status : t.rd (R.MSP_STATUS g k) = s.rd (R.MSP_STATUS g k)
  cond : s.mspState g k ≠ 2 → t.rd (R.MSP_COND g k) = s.rd (R.MSP_COND g k)

/-- A register of the protection groups of a region. -/
def groupReg (r : RegId) : Bool := r.blk == .region && decide (0x1000 ≤ r.off)

section
variable {g : Nat} {k : Fin 8} {s t u : State}

theorem IdleKept.of_rd (h : ∀ o : Nat, o < 0x1040 → t.rd ⟨.region, g, o + 0x40 * k.val, 0⟩ = s.rd ⟨.region, g, o + 0x40 * k.val, 0⟩) :
    IdleKept g k s t := ⟨h _ (by decide), fun _ => h _ (by decide)⟩

theorem IdleKept.of_regs (h : t.regs = s.regs) : IdleKept g k s t := .of_rd fun _ _ => by unfold State.rd; rw [h]
theorem IdleKept.refl (s : State) : IdleKept g k s s := .of_regs rfl

theorem IdleKept.trans (h : IdleKept g k s t) (j : IdleKept g k t u) : IdleKept g k s u :=
  ⟨j.status.trans h.status, fun hs => (j.cond (by unfold State.mspState State.get; rwa [h.status])).trans (h.cond hs)⟩

theorem IdleKept.since (j : IdleKept g k t u) (h : t.regs = s.regs) : IdleKept g k s u := (IdleKept.of_regs h).trans j

theorem IdleKept.ite {c : Prop} [Decidable c] (h : IdleKept g k s t) (j : IdleKept g k s u) : IdleKept g k s (if c then t else u) := by
  by_cases hc : c <;> simpa [hc]

theorem IdleKept.foldl {α : Type} {f : State → α → State} (l : List α) (h : ∀ t a, IdleKept g k t (f t a)) (s : State) :
    IdleKept g k s (l.foldl f s) := List.foldlRecOn (motive := IdleKept g k s) _ _ (.refl s) fun _ ht a _ => ht.trans (h _ a)

theorem IdleKept.of_txn (h : TxnOnly s t) : IdleKept g k s t := .of_rd fun o ho => h.regs _ (by
  simp only [txnReg, noteReg, evReg_msp g k.isLt ho]; rfl)
theorem IdleKept.of_event (h : EvOnly s t) : IdleKept g k s t := .of_txn (.of_note (.of_event h))

end

section
variable {g : Nat} {k : Fin 8} (s : State)

theorem IdleKept.wr (r : RegId) (v : Word) (h : groupReg r = false) : IdleKept g k s (s.wr r v) :=
  have ne : ∀ o, 0x1000 ≤ o → (⟨.region, g, o, 0⟩ : RegId) ≠ r := fun o ho e => by subst e; simp [groupReg, ho] at h
  ⟨rd_wr_ne _ _ (ne _ (by omega)), fun _ => rd_wr_ne _ _ (ne _ (by omega))⟩

theorem IdleKept.put (r : RegId) (f : Fld) (v : Nat) (h : groupReg r = false) : IdleKept g k s (s.put r f v) := .wr s r _ h
theorem IdleKept.setBit (r : RegId) (i : Nat) (h : groupReg r = false) : IdleKept g k s (s.setBit r i) := .wr s r _ h
theorem IdleKept.stopTimer (j : TKey) : IdleKept g k s (s.stopTimer j) := .of_regs rfl
theorem IdleKept.startTimer (j : TKey) (n : Nat) : IdleKept g k s (s.startTimer j n) := .of_regs rfl
theorem IdleKept.startTimerNs (j : TKey) (n : Nat) : IdleKept g k s (s.startTimerNs j n) := .of_regs rfl
theorem IdleKept.answer (c : Completion) : IdleKept g k s (s.answer c) := .of_regs rfl
theorem IdleKept.spareTaken (x j : Nat) : IdleKept g k s (s.spareTaken x j) := .of_regs rfl
theorem IdleKept.setPour (d j : Nat) (x : PourJob) : IdleKept g k s (s.setPour d j x) := .of_regs rfl
theorem IdleKept.withDue (l : List Due) : IdleKept g k s { s with due := l } := .of_regs rfl
theorem IdleKept.withUnretire (l : List (Nat × Nat)) : IdleKept g k s { s with unretire := l } := .of_regs rfl
theorem IdleKept.withWbWait (l : List WbWait) : IdleKept g k s { s with wbWait := l } := .of_regs rfl
theorem IdleKept.ev (b src : Nat) : IdleKept g k s (s.ev b src) := .of_event (ev_only _ _ _)
theorem IdleKept.event' (b src : Nat) (d : Word) (tw : Bool) : IdleKept g k s (s.event' b src d tw) := .of_event (event'_only _ _ _ _ _)

theorem IdleKept.addCtr (c : Ctr) (n : Nat) (hl : groupReg c.lo = false) (hh : groupReg c.hi = false) : IdleKept g k s (s.addCtr c n) := by
  have ne : ∀ o : Nat, 0x1000 ≤ o → ∀ q : RegId, groupReg q = false → (⟨.region, g, o, 0⟩ : RegId) ≠ q := fun o ho q hq e => by
    subst e; simp [groupReg, ho] at hq
  exact ⟨rd_addCtr _ _ _ (ne _ (by omega) _ hl) (ne _ (by omega) _ hh) (evReg_msp g k.isLt (by decide)),
    fun _ => rd_addCtr _ _ _ (ne _ (by omega) _ hl) (ne _ (by omega) _ hh) (evReg_msp g k.isLt (by decide))⟩

-- Link units (R182, R235)

/-- A condition of another group. -/
theorem IdleKept.mspCond {x i : Nat} (h : ¬(x = g ∧ i = k.val)) (c sd : Nat) (raw : Bool) : IdleKept g k s (s.mspCond x i c sd raw) := by
  have other : ∀ v, IdleKept g k s (s.wr (R.MSP_COND x i) v) := fun v =>
    ⟨rd_wr_ne _ _ fun e => by simp at e; omega, fun _ => rd_wr_ne _ _ fun e => by simp at e; omega⟩
  exact .ite ((other _).trans (.stopTimer _ _)) (.ite (.refl _) (.ite (other _) (.ite (.refl _) (.startTimer _ _ _))))

/-- The group that acts on a link is in one of the states asked for. -/
theorem mspOf_state {states : List Nat} {n x i c : Nat} (h : s.mspOf states n = some (x, i, c)) : s.mspState x i ∈ states := by
  obtain ⟨j, -, he⟩ := List.exists_of_findSome?_eq_some h
  split at he
  next hm =>
    obtain ⟨c', -, hc⟩ := Option.map_eq_some_iff.1 he
    obtain ⟨rfl, rfl, -⟩ : luRegion n = x ∧ j = i ∧ c' = c := by simpa using hc
    exact List.contains_iff_mem.1 hm
  · cases he

/-- The conditions of a link reach a group only while it is ACTIVE. -/
theorem IdleKept.mspTouch (n : Nat) : IdleKept g k s (s.mspTouch n) := by
  refine ⟨(ReactOnly.mspTouch s n).regs _ (reactReg_msp g k.isLt (by decide) (by decide)), fun idle => ?_⟩
  unfold State.mspTouch
  split
  next x i c h =>
    have other : ¬(x = g ∧ i = k.val) := by
      rintro ⟨rfl, rfl⟩
      exact idle (List.mem_singleton.1 (mspOf_state s h))
    have conds : IdleKept g k s (s.mspConds x i) := .foldl _ (fun _ _ => (IdleKept.mspCond _ other _ _ _).trans (.mspCond _ other _ _ _)) _
    exact conds.cond idle
  · rfl

theorem IdleKept.setDisputed (r : Nat) (b : Bool) : IdleKept g k s (s.setDisputed r b) :=
  .ite (.refl _) (((IdleKept.put _ _ _ _ rfl).trans (.stopTimer _ _)).trans (.ev _ _ _))

theorem IdleKept.refShow (r : Nat) : IdleKept g k s (s.refShow r) := by
  unfold State.refShow
  extract_lets q inv st s1 s2
  have h1 : IdleKept g k s s1 := .ite (.refl _) (((IdleKept.put _ _ _ _ rfl).trans (.put _ _ _ _ rfl)).trans (.ev _ _ _))
  have h2 : IdleKept g k s1 s2 := .ite (.put _ _ _ _ rfl) (.refl _)
  exact (h1.trans h2).trans (.ite (.put _ _ _ _ rfl) ((IdleKept.put _ _ _ _ rfl).trans (.setDisputed _ _ _)))

theorem IdleKept.toQState (r q : Nat) : IdleKept g k s (s.toQState r q) := by
  unfold State.toQState
  lift_lets
  extract_lets old st s0 wtr s1
  have h0 : IdleKept g k s s0 := .ite (.of_regs rfl) (.refl _)
  have h1 : IdleKept g k s0 s1 := .ite ((IdleKept.startTimerNs _ _ _).trans (.put _ _ _ _ rfl)) ((IdleKept.stopTimer _ _).trans (.put _ _ _ _ rfl))
  exact .ite (.refl _) ((((h0.trans h1).trans (.put _ _ _ _ rfl)).trans (.ev _ _ _)).trans (.refShow _ _))

theorem IdleKept.lineRefFollow (r : Nat) : IdleKept g k s (s.lineRefFollow r) := by
  have fails : IdleKept g k s (((s.put (R.TIME_REF_STATUS r) F.TIME_REF_STATUS_ACTIVE 0).stopTimer (refGateKey r)).refFail r) :=
    ((IdleKept.put _ _ _ _ rfl).trans (.stopTimer _ _)).trans (.ite (.toQState _ _ _) (.refl _))
  have loses : IdleKept g k s (s.refLose r) := .ite (fails.trans (.of_regs rfl)) fails
  exact .ite (.refl _) (.ite (.ite loses (.refl _)) (.ite (.refl _) ((IdleKept.put _ _ _ _ rfl).trans (.startTimerNs _ _ _))))

theorem IdleKept.retireLU (n : Nat) : IdleKept g k s (s.retireLU n) := by
  have touch : ∀ t : State, IdleKept g k t (t.luTouch n) := fun t =>
    (IdleKept.mspTouch t n).trans (.foldl _ (fun _ _ => .ite (.lineRefFollow _ _) (.refl _)) _)
  exact (((IdleKept.setBit s _ _ rfl).trans (.withUnretire _ _)).trans (touch _)).trans (.of_txn (.refuseHolding _ _ _))

-- Spares, lanes, banks and rows

theorem IdleKept.assignSpare (x bank : Nat) : IdleKept g k s (s.assignSpare x bank) := by
  unfold State.assignSpare
  split
  next j hj =>
    have low : groupReg (R.RG_SLAB_SPARE x j) = false := by rcases freeSpare_lt hj with rfl | rfl <;> rfl
    exact (((((IdleKept.put _ _ _ _ low).trans (.put _ _ _ _ low)).trans (.put _ _ _ _ low)).trans (.put _ _ _ _ rfl)).trans (.spareTaken _ _ _)).trans
      (.ev _ _ _)
  · exact .ev _ _ _

theorem IdleKept.retireLane (d j i : Nat) : IdleKept g k s (s.retireLane d j i) := by
  have lane : groupReg (seamLane d j i).1 = false := by unfold seamLane; split_ifs <;> rfl
  unfold State.retireLane
  refine .ite (.refl _) ?_
  extract_lets s1 s2
  have h2 : IdleKept g k s s2 :=
    (((IdleKept.setBit s _ _ lane).trans (.put _ _ _ _ rfl)).trans (.put _ _ _ _ rfl)).trans (.put _ _ _ _ rfl)
  exact .ite (((h2.trans (.put _ _ _ _ rfl)).trans (.of_event (event_only _ _ _ _))).trans (.of_event (.liveOn _ _ _))) h2

theorem IdleKept.sieveAbandon (d b : Nat) : IdleKept g k s (s.sieveAbandon d b) := by
  have ends : IdleKept g k s (s.sieveEnd d b) :=
    .ite (((IdleKept.put _ _ _ _ rfl).trans (.put _ _ _ _ rfl)).trans (.put _ _ _ _ rfl)) (.put _ _ _ _ rfl)
  have h : IdleKept g k s ((s.sieveEnd d b).setSieveAt d b 0) := ends.trans (.of_regs rfl)
  exact .ite (h.trans (.addCtr _ _ _ rfl rfl)) (.ite h (.refl _))

theorem IdleKept.pourBank (d b : Nat) : IdleKept g k s (s.pourBank d b) := by
  have ends : ∀ (t : State) (j c : Nat), IdleKept g k t (t.pourEnd d j c) := fun t j c =>
    .ite (.refl _) ((((IdleKept.setPour _ _ _ _).trans (.put _ _ _ _ rfl)).trans (.put _ _ _ _ rfl)).trans (.ev _ _ _))
  exact .foldl _ (fun _ _ => .ite (ends _ _ _) (.refl _)) _

theorem IdleKept.bankViol (m d b : Nat) : IdleKept g k s (s.bankViol m d b) :=
  ((((IdleKept.addCtr _ _ _ rfl rfl).trans (.put _ _ _ _ rfl)).trans (.put _ _ _ _ rfl)).trans (.put _ _ _ _ rfl)).trans (.event' _ _ _ _ _)

theorem IdleKept.mxRetire (m i : Nat) : IdleKept g k s (s.mxRetire m i) := (IdleKept.put _ _ _ _ rfl).since rfl

theorem IdleKept.failBank (d b : Nat) : IdleKept g k s (s.failBank d b) :=
  (IdleKept.withWbWait _ _).trans (.foldl _ (fun _ _ => (IdleKept.mxRetire _ _ _).trans ((IdleKept.bankViol _ _ _ _).trans (.answer _ _))) _)

theorem IdleKept.retireBank (d b : Nat) : IdleKept g k s (s.retireBank d b) :=
  .ite (.refl _) (((((((IdleKept.sieveAbandon _ _ _).trans (.pourBank _ _ _)).trans (.put _ _ _ _ rfl)).trans (.put _ _ _ _ rfl)).trans
    (.put _ _ _ _ rfl)).trans (.stopTimer _ _)).trans (.failBank _ _ _))

theorem IdleKept.retireTarget (u : Due) : IdleKept g k s (s.retireTarget u) := by
  unfold State.retireTarget
  dsimp only
  refine .trans (.trans (t := if u.blk < 7 then _ else _) ?_ (.ite (.of_event (.safeReact _ _ _ _)) (.refl _))) (.of_event (.leaveSevere _ _ _))
  have row : ∀ d, IdleKept g k s (s.spareRow d) := fun d => .ite (.put _ _ _ _ rfl) (.event' _ _ _ _ _)
  exact .ite (.ite (.retireLane _ _ _ _) (.ite (.retireBank _ _ _) (.ite (.retireBank _ _ _) (row _))))
    (.ite (.assignSpare _ _ _) (.ite (.foldl _ (fun t _ => .retireLU t _) _) (.retireLU _ _)))

end

theorem IdleKept.settleN {g : Nat} {k : Fin 8} : ∀ (n : Nat) (s : State), IdleKept g k s (State.settleN n s)
  | 0, s => .refl s
  | n + 1, s => by
    unfold State.settleN
    split
    · exact .refl s
    · exact ((IdleKept.withDue _ _).trans (.retireTarget _ _)).trans (IdleKept.settleN n _)

/-- The end of a command leaves the conditions of a group that is not ACTIVE. -/
theorem done_idle (g : Nat) (k : Fin 8) (s : State) : ∃ t, done s = .next t ∧ ReactOnly s t ∧ IdleKept g k s t :=
  ⟨_, rfl, (ReactOnly.settleN _ _).trans (.of_note (.graveHealth _)), (IdleKept.settleN _ _).trans (.of_txn (.of_note (.graveHealth _)))⟩

end Sys2Proof.Machine

/-!
The effect frame of an ACTIVATE, which begins with one step of the group's controller, and that of a DELETE (08_protection.md: R185, R189,
Table 08-6).
-/

namespace Sys2Proof.Machine

-- What a step of the controller leaves of its group

/-- The channels that are locked out, and the registers of the link units. -/
def stepReg (g k : Nat) (r : RegId) : Bool := r == R.MSP_LOCKW g k || (r.blk == .lu && decide (r.off < 0xf000))

/-- The group stays in its state and as active as it was; its locks, the registers of the link units and memory stand. -/
structure StepKept (g : Nat) (k : Fin 8) (s t : State) : Prop where
  state : t.mspState g k = s.mspState g k
  regs : ∀ r, stepReg g k r = true → t.rd r = s.rd r
  act : (t.mspSt g k).act = (s.mspSt g k).act
  mem : t.mem = s.mem

/-- The registers, the groups and memory. -/
def State.groupStores (s : State) := (s.regs, s.msp, s.mem)

theorem evReg_of_stepReg {g : Nat} {k : Fin 8} {r : RegId} (h : stepReg g k r = true) : evReg r = false := by
  rcases Bool.or_eq_true_iff.1 h with h | h
  · obtain rfl := eq_of_beq h
    exact evReg_msp g k.isLt (by decide)
  · obtain ⟨hb, ho⟩ : r.blk = .lu ∧ r.off < 0xf000 := by simpa using h
    simp [evReg, hb, ho]

section
variable {g : Nat} {k : Fin 8} {s t u : State}

theorem StepKept.of_stores (h : t.groupStores = s.groupStores) : StepKept g k s t := by
  obtain ⟨hr, hm, hmem⟩ : t.regs = s.regs ∧ t.msp = s.msp ∧ t.mem = s.mem := by simpa only [State.groupStores, Prod.mk.injEq] using h
  have rd : ∀ r, t.rd r = s.rd r := fun r => by unfold State.rd; rw [hr]
  exact ⟨by unfold State.mspState State.get; rw [rd], fun r _ => rd r, by unfold State.mspSt; rw [hm], hmem⟩

theorem StepKept.refl (s : State) : StepKept g k s s := .of_stores rfl
theorem StepKept.trans (h : StepKept g k s t) (j : StepKept g k t u) : StepKept g k s u :=
  ⟨j.state.trans h.state, fun r hr => (j.regs r hr).trans (h.regs r hr), j.act.trans h.act, j.mem.trans h.mem⟩

theorem StepKept.ite {c : Prop} [Decidable c] (h : StepKept g k s t) (j : StepKept g k s u) : StepKept g k s (if c then t else u) := by
  by_cases hc : c <;> simpa [hc]

theorem StepKept.foldl {α : Type} {f : State → α → State} (l : List α) (h : ∀ t a, StepKept g k t (f t a)) (s : State) :
    StepKept g k s (l.foldl f s) := List.foldlRecOn (motive := StepKept g k s) _ _ (.refl s) fun _ ht a _ => ht.trans (h _ a)

theorem StepKept.of_control (h : ControlOnly s t) (hs : t.get (R.MSP_STATUS g k) F.MSP_STATUS_STATE = s.get (R.MSP_STATUS g k) F.MSP_STATUS_STATE)
    (hr : ∀ r, stepReg g k r = true → t.rd r = s.rd r) : StepKept g k s t :=
  ⟨hs, hr, congrArg MspSt.act (h.mspSt_eq g k), h.mem_eq⟩

end

section
variable {g : Nat} {k : Fin 8} (s : State)

theorem StepKept.wr (r : RegId) (v : Word) (hs : R.MSP_STATUS g k ≠ r) (h : stepReg g k r = false) : StepKept g k s (s.wr r v) :=
  .of_control (.wr _ _ _) (by unfold State.get; rw [rd_wr_ne _ _ hs]) fun q hq => rd_wr_ne _ _ (by rintro rfl; rw [h] at hq; cases hq)

/-- Another field of MSP_STATUS. -/
theorem StepKept.putStatus (f : Fld) (v : Nat) (h : f.apart F.MSP_STATUS_STATE = true) : StepKept g k s (s.put (R.MSP_STATUS g k) f v) :=
  .of_control (.put _ _ _ _) (get_put_apart _ _ _ h) fun q hq => rd_put_ne _ _ _ (by rintro rfl; simp [stepReg] at hq)

theorem StepKept.setMspSt (m : MspSt) (h : m.act = (s.mspSt g k).act) : StepKept g k s (s.setMspSt g k m) :=
  ⟨rfl, fun _ _ => rfl, by rw [mspSt_setMspSt, h], rfl⟩

theorem StepKept.startTimer (j : TKey) (n : Nat) : StepKept g k s (s.startTimer j n) := .of_stores rfl
theorem StepKept.stopTimer (j : TKey) : StepKept g k s (s.stopTimer j) := .of_stores rfl

theorem StepKept.mspField (f : Fld) (v : Nat) (h : f.apart F.MSP_STATUS_STATE = true) : StepKept g k s (s.mspField g k f v) :=
  .of_control (.mspField _ _ _ _ _) (get_mspField_apart _ _ _ _ k.isLt h)
    fun q hq => rd_mspField_ne _ _ _ _ _ (evReg_of_stepReg hq) (by rintro rfl; simp [stepReg] at hq)

theorem StepKept.mspSelect (c : Nat) : StepKept g k s (s.mspSelect g k c) := by
  have field : StepKept g k s (s.mspField g k F.MSP_STATUS_SEL_CHAN c) := .mspField _ _ _ (by decide)
  refine .of_control (.mspSelect _ _ _ _) ?_ fun q hq => ?_
  · unfold State.get
    rw [rd_mspSelect _ _ _ _ (evReg_msp g k.isLt (by decide)) (by simp) (by simp)]
    exact field.state
  · rw [rd_mspSelect _ _ _ _ (evReg_of_stepReg hq) (by rintro rfl; simp [stepReg] at hq) (by rintro rfl; simp [stepReg] at hq)]
    exact field.regs q hq

theorem StepKept.mspCond (c sd : Nat) (raw : Bool) : StepKept g k s (s.mspCond g k c sd raw) := by
  have cond : ∀ v, StepKept g k s (s.wr (R.MSP_COND g k) v) := fun v => .wr _ _ _ (by simp) (by simp [stepReg])
  exact .ite ((cond _).trans (.stopTimer _ _)) (.ite (.refl _) (.ite (cond _) (.ite (.refl _) (.startTimer _ _ _))))

theorem StepKept.mspConds : StepKept g k s (s.mspConds g k) :=
  .foldl _ (fun _ _ => (StepKept.mspCond _ _ _ _).trans (.mspCond _ _ _ _)) _

theorem StepKept.mspFops : StepKept g k s (s.mspFops g k) := by
  have watch : ∀ (t : State) (i : Nat) (raw : Bool), StepKept g k t (t.fopWatch g k i raw) := fun t i raw =>
    .ite (.stopTimer _ _) (.ite (.refl _) (.startTimer _ _ _))
  exact (((watch _ _ _).trans (watch _ _ _)).trans (.mspField _ _ _ (by decide))).trans (.putStatus _ _ _ (by decide))

theorem StepKept.mspLeave : StepKept g k s (s.mspLeave g k) := by
  unfold State.mspLeave
  extract_lets m sel was
  exact .ite ((StepKept.stopTimer _ _).trans (.setMspSt _ _ rfl))
    (.ite (.ite (.ite (.refl _) ((StepKept.startTimer _ _ _).trans (.setMspSt _ _ rfl))) (.setMspSt _ _ rfl))
      (.ite (.setMspSt _ _ rfl) (.ite (.setMspSt _ _ rfl) (.refl _))))

theorem StepKept.mspUnhold : StepKept g k s (s.mspUnhold g k) :=
  ((StepKept.putStatus _ _ _ (by decide)).trans (.putStatus _ _ _ (by decide))).trans (.stopTimer _ _)

theorem StepKept.mspDrop (win : Nat × Nat) : StepKept g k s (s.mspDrop g k win) :=
  .ite ((StepKept.mspUnhold _).trans (.putStatus _ _ _ (by decide))) (.refl _)

theorem StepKept.mspTimers : StepKept g k s (s.mspTimers g k) :=
  (StepKept.wr _ _ _ (by simp) (by simp [stepReg])).trans (.wr _ _ _ (by simp) (by simp [stepReg]))

/-- A step of the controller (R185). -/
theorem StepKept.mspStep : StepKept g k s (s.mspStep g k) := by
  unfold State.mspStep
  extract_lets s1 w0 s2 loc rem r
  split
  split
  extract_lets k2 s3 s4 exer m s5
  have h1 : StepKept g k s s1 := ((StepKept.mspConds _).trans (.mspFops _)).trans (.mspLeave _)
  have h2 : StepKept g k s1 s2 := .mspDrop _ _
  have h3 : StepKept g k s2 s3 := .wr _ _ _ (by simp) (by simp [stepReg])
  have h4 : StepKept g k s3 s4 := .wr _ _ _ (by simp) (by simp [stepReg])
  have h5 : StepKept g k s4 s5 := .setMspSt _ _ rfl
  exact ((h1.trans h2).trans (h3.trans (h4.trans h5))).trans (((StepKept.mspField _ _ _ (by decide)).trans (.mspSelect _ _)).trans (.mspTimers _))

end

-- The links of a group send its K bytes, or their own (Table 05-10)

/-- MSP of LU_SEC_KTX at the links of the first n channels of a group. -/
def State.mspMarks (s : State) (g k n v : Nat) : State :=
  (List.range n).foldl (fun t c => t.put (R.LU_SEC_KTX (t.mspLink g k c)) F.LU_SEC_KTX_MSP v) s

section
variable (s : State) (g k : Nat) (v : Nat)

theorem mspMarks_succ (n : Nat) : s.mspMarks g k (n + 1) v =
    (s.mspMarks g k n v).put (R.LU_SEC_KTX ((s.mspMarks g k n v).mspLink g k n)) F.LU_SEC_KTX_MSP v := by
  unfold State.mspMarks
  rw [List.range_succ, List.foldl_append]
  rfl

theorem mspMarks_regs (n : Nat) : RegsOnly (fun r => r.blk == .lu) s (s.mspMarks g k n v) :=
  .foldl (fun _ _ => .put _ _ _ rfl) _ _

theorem rd_mspMarks (n : Nat) {r : RegId} (h : r.blk ≠ .lu) : (s.mspMarks g k n v).rd r = s.rd r :=
  (mspMarks_regs s g k v n).regs r (by simpa using h)

theorem mspLink_mspMarks (n c : Nat) : (s.mspMarks g k n v).mspLink g k c = s.mspLink g k c := by
  unfold State.mspLink State.get
  rw [rd_mspMarks _ _ _ _ _ (by simp), rd_mspMarks _ _ _ _ _ (by simp), rd_mspMarks _ _ _ _ _ (by simp)]

/-- Every link of the first n channels is marked, whether another channel has the same link or not. -/
theorem mspMarks_flag (n : Nat) : ∀ c < n, (s.mspMarks g k n 1).flag (R.LU_SEC_KTX (s.mspLink g k c)) F.LU_SEC_KTX_MSP = true := by
  induction n with
  | zero => exact fun c hc => absurd hc (Nat.not_lt_zero c)
  | succ n ih =>
    intro c hc
    rw [mspMarks_succ, mspLink_mspMarks]
    by_cases he : s.mspLink g k c = s.mspLink g k n
    · rw [he, flag_put_same _ _ _ (by decide)]
      rfl
    · have earlier : c < n := lt_of_le_of_ne (Nat.le_of_lt_succ hc) (by rintro rfl; exact he rfl)
      unfold State.flag at ih ⊢
      rw [get_put_reg _ _ _ _ (by simpa using he)]
      exact ih c earlier

end

-- A group becomes ACTIVE (Table 08-6)

/-- The group is ACTIVE, its links send its K bytes, no channel is locked out, and memory stands. -/
structure MspActive (g : Nat) (k : Fin 8) (s t : State) : Prop where
  state : t.mspState g k = 2
  act : (t.mspSt g k).act = true
  marks : ∀ c ≤ s.mspN g k, t.flag (R.LU_SEC_KTX (s.mspLink g k c)) F.LU_SEC_KTX_MSP = true
  lock : t.rd (R.MSP_LOCKW g k) = 0
  mem : t.mem = s.mem

section
variable {g : Nat} {k : Fin 8} {s t u : State}

theorem StepKept.of_react (h : ReactOnly s t) : StepKept g k s t := by
  refine .of_control (.of_react h) (h.get_eq (reactReg_msp g k.isLt (by decide) (by decide)) _) fun r hr => h.regs r ?_
  rcases Bool.or_eq_true_iff.1 hr with hr | hr
  · obtain rfl := eq_of_beq hr
    exact reactReg_msp g k.isLt (by decide) (by decide)
  · exact reactReg_of_luReg hr

theorem MspActive.trans (h : MspActive g k s t) (j : StepKept g k t u) : MspActive g k s u where
  state := j.state.trans h.state
  act := j.act.trans h.act
  marks c hc := by
    have stands : u.rd (R.LU_SEC_KTX (s.mspLink g k c)) = t.rd (R.LU_SEC_KTX (s.mspLink g k c)) := j.regs _ (by simp [stepReg])
    unfold State.flag State.get
    rw [stands]
    exact h.marks c hc
  lock := (j.regs _ (by simp [stepReg])).trans h.lock
  mem := j.mem.trans h.mem

variable (s) in
/-- The effect frame of an ACTIVATE, up to the first step of the controller. -/
theorem mspEffect_begins (h : s.mspState g k = 1) : ∃ t, MspActive g k s t ∧ s.mspEffect g k = t.mspStep g k := by
  unfold State.mspEffect
  rw [if_neg (by omega)]
  extract_lets s1 m s2
  have held : StepKept g k s1 (s1.mspUnhold g k) := .mspUnhold _
  have lu : ∀ n, (s2.mspField g k F.MSP_STATUS_STATE 2).rd (R.LU_SEC_KTX n) = s1.rd (R.LU_SEC_KTX n) := fun n =>
    calc (s2.mspField g k F.MSP_STATUS_STATE 2).rd (R.LU_SEC_KTX n)
      _ = s2.rd (R.LU_SEC_KTX n) := rd_mspField_ne _ _ _ _ _ (evReg_lu (by decide)) (by simp)
      _ = (s1.mspUnhold g k).rd (R.LU_SEC_KTX n) := (rd_put_ne _ _ _ (by simp)).trans (rd_wr_ne _ _ (by simp))
      _ = s1.rd (R.LU_SEC_KTX n) := held.regs _ (by simp [stepReg])
  refine ⟨_, { state := ?_, act := ?_, marks := fun c hc => ?_, lock := ?_, mem := ?_ }, rfl⟩
  · exact get_mspField _ _ _ _ k.isLt (by decide)
  · rw [(ControlOnly.mspField _ _ _ _ _).mspSt_eq, mspSt_setMspSt]
  · unfold State.flag State.get
    rw [lu]
    exact mspMarks_flag s g k _ c (Nat.lt_succ_of_le hc)
  · rw [rd_mspField_ne _ _ _ _ _ (evReg_msp g k.isLt (by decide)) (by simp)]
    exact (rd_put_ne _ _ _ (by simp)).trans (rd_wr_same _ _ _)
  · have marks : s1.mem = s.mem := (mspMarks_regs s g k 1 (s.mspN g k + 1)).control.mem_eq
    rw [(ControlOnly.mspField _ _ _ _ _).mem_eq, setMspSt_mem, State.put_mem, State.wr_mem, held.mem, marks]

variable (s) in
theorem mspEffect_activates (h : s.mspState g k = 1) : MspActive g k s (s.mspEffect g k) := by
  obtain ⟨t, begun, effect⟩ := mspEffect_begins s h
  rw [effect]
  exact begun.trans (.mspStep t)

-- A group becomes FREE (Table 08-6)

/-- The group is FREE: its selector is on working, and it holds no lock and no condition; memory stands. -/
structure MspFreed (g k : Nat) (s t : State) : Prop where
  state : t.mspState g k = 0
  sel : t.get (R.MSP_STATUS g k) F.MSP_STATUS_SEL_CHAN = 0
  lock : t.rd (R.MSP_LOCKW g k) = 0
  cond : t.rd (R.MSP_COND g k) = 0
  mem : t.mem = s.mem

/-- The selector goes to working, the bridge is released, and no protocol defect stands. -/
def State.mspReverted (s : State) (g k : Nat) : State :=
  ((((s.mspSelect g k 0).mspField g k F.MSP_STATUS_BRIDGE_CHAN 0).mspField g k F.MSP_STATUS_FOP_PM 0).mspField g k F.MSP_STATUS_FOP_CM 0).mspField g k
    F.MSP_STATUS_FOP_IV 0

/-- The registers in which a group holds commands, locks, conditions and requests are cleared. -/
def State.mspCleared (s : State) (g k : Nat) : State :=
  (((((((s.mspUnhold g k).put (R.MSP_STATUS g k) F.MSP_STATUS_UNI_FALLBACK 0).wr (R.MSP_LOCKW g k) 0).wr (R.MSP_COND g k) 0).wr (R.MSP_REQ g k) 0).wr
    (R.MSP_APS g k) 0).wr (R.MSP_TIMER g k) 0)

/-- The timers and the state of a group end. -/
def State.mspStopped (s : State) (g k : Nat) : State :=
  (List.range 15).foldl (fun t c => (t.stopTimer (mspHoldKey g k c 0)).stopTimer (mspHoldKey g k c 1))
    ([0, 1].foldl (fun t w => t.stopTimer (mspFopKey g k w)) ((s.stopTimer (mspWtrKey g k)).setMspSt g k emptyMsp))

end

section
variable (s : State) (g : Nat)

theorem mspFree_eq (k : Nat) : s.mspFree g k =
    ((((s.mspReverted g k).mspCleared g k).mspStopped g k).mspMarks g k ((((s.mspReverted g k).mspCleared g k).mspStopped g k).mspN g k + 1) 0).mspField
      g k F.MSP_STATUS_STATE 0 := by
  unfold State.mspFree State.mspMarks State.mspStopped State.mspCleared State.mspReverted
  rfl

theorem ControlOnly.mspReverted (k : Nat) : ControlOnly s (s.mspReverted g k) := by
  unfold State.mspReverted
  exact ((((ControlOnly.mspSelect s g k 0).trans (.mspField _ _ _ _ _)).trans (.mspField _ _ _ _ _)).trans (.mspField _ _ _ _ _)).trans (.mspField _ _ _ _ _)

theorem mspReverted_sel {k : Nat} (hk : k < 8) : (s.mspReverted g k).get (R.MSP_STATUS g k) F.MSP_STATUS_SEL_CHAN = 0 := by
  have word := rd_mspSelect s g k 0 (evReg_msp g hk (by decide) : evReg (R.MSP_STATUS g k) = false) (by simp) (by simp)
  unfold State.mspReverted
  iterate 4 rw [get_mspField_apart _ _ _ _ hk (by decide)]
  unfold State.get
  rw [word]
  exact get_mspField _ _ _ _ hk (by decide)

theorem mspUnhold_sel (k : Nat) :
    (s.mspUnhold g k).get (R.MSP_STATUS g k) F.MSP_STATUS_SEL_CHAN = s.get (R.MSP_STATUS g k) F.MSP_STATUS_SEL_CHAN := by
  unfold State.mspUnhold
  rw [get_stopTimer, get_put_apart _ _ _ (by decide), get_put_apart _ _ _ (by decide)]

theorem mspCleared_sel (k : Nat) :
    (s.mspCleared g k).get (R.MSP_STATUS g k) F.MSP_STATUS_SEL_CHAN = s.get (R.MSP_STATUS g k) F.MSP_STATUS_SEL_CHAN := by
  unfold State.mspCleared
  iterate 5 rw [get_wr, if_neg (by simp)]
  rw [get_put_apart _ _ _ (by decide), mspUnhold_sel]

theorem mspCleared_lock (k : Nat) : (s.mspCleared g k).rd (R.MSP_LOCKW g k) = 0 := by simp [State.mspCleared, rd_wr]
theorem mspCleared_cond (k : Nat) : (s.mspCleared g k).rd (R.MSP_COND g k) = 0 := by simp [State.mspCleared, rd_wr]
theorem mspCleared_mem (k : Nat) : (s.mspCleared g k).mem = s.mem := by simp [State.mspCleared, State.mspUnhold]

theorem mspStopped_regs (k : Nat) : (s.mspStopped g k).regs = s.regs :=
  List.foldlRecOn (motive := fun t : State => t.regs = s.regs) _ _ (by simp) fun _ ht _ _ => by simpa using ht
theorem mspStopped_mem (k : Nat) : (s.mspStopped g k).mem = s.mem :=
  List.foldlRecOn (motive := fun t : State => t.mem = s.mem) _ _ (by simp) fun _ ht _ _ => by simpa using ht
theorem rd_mspStopped (k : Nat) (r : RegId) : (s.mspStopped g k).rd r = s.rd r := by unfold State.rd; rw [mspStopped_regs]

theorem mspFree_frees (k : Fin 8) : MspFreed g k s (s.mspFree g k) := by
  rw [mspFree_eq]
  generalize hu : (s.mspReverted g k).mspCleared g k = u
  have memory : u.mem = s.mem := by rw [← hu, mspCleared_mem, (ControlOnly.mspReverted s g k).mem_eq]
  have free : ∀ n, ((u.mspStopped g k).mspMarks g k n 0).mem = s.mem := fun n =>
    (mspMarks_regs _ g k 0 n).control.mem_eq.trans ((mspStopped_mem u g k).trans memory)
  have stands : ∀ {o : Nat} (n : Nat), ((u.mspStopped g k).mspMarks g k n 0).rd ⟨.region, g, o, 0⟩ = u.rd ⟨.region, g, o, 0⟩ := fun n =>
    (rd_mspMarks _ _ _ _ n (by simp)).trans (rd_mspStopped u g k _)
  refine { state := ?_, sel := ?_, lock := ?_, cond := ?_, mem := ?_ }
  · exact get_mspField _ _ _ _ k.isLt (by decide)
  · rw [get_mspField_apart _ _ _ _ k.isLt (by decide), State.get, stands, ← hu]
    exact (mspCleared_sel _ _ _).trans (mspReverted_sel _ _ k.isLt)
  · rw [rd_mspField_ne _ _ _ _ _ (evReg_msp g k.isLt (by decide)) (by simp), stands, ← hu, mspCleared_lock]
  · rw [rd_mspField_ne _ _ _ _ _ (evReg_msp g k.isLt (by decide)) (by simp), stands, ← hu, mspCleared_cond]
  · rw [(ControlOnly.mspField _ _ _ _ _).mem_eq, free]

end

/-- A group that is FREE stays as the effect frame leaves it, whatever retirements the end of the command carries out (R346). -/
theorem MspFreed.done {g : Nat} {k : Fin 8} {s u : State} (h : MspFreed g k s u) : ∃ t, done u = .next t ∧ MspFreed g k s t := by
  obtain ⟨t, ht, only, idle⟩ := done_idle g k u
  have status : ∀ f, t.get (R.MSP_STATUS g k) f = u.get (R.MSP_STATUS g k) f := fun f => by unfold State.get; rw [idle.status]
  exact ⟨t, ht, (status _).trans h.state, (status _).trans h.sel, (only.regs _ (reactReg_msp g k.isLt (by decide) (by decide))).trans h.lock,
    (idle.cond (by rw [h.state]; decide)).trans h.cond, (ControlOnly.of_react only).mem_eq.trans h.mem⟩

theorem MspActive.done {g : Nat} {k : Fin 8} {s u : State} (h : MspActive g k s u) : ∃ t, done u = .next t ∧ MspActive g k s t := by
  obtain ⟨t, ht, only⟩ := done_only u
  exact ⟨t, ht, h.trans (.of_react only)⟩

end Sys2Proof.Machine

/-!
The ends of a group's times, and the statement on protection groups (08_protection.md: R182, R187, R188, R189, R200).
-/

namespace Sys2Proof.Machine

section
variable (s : State)

theorem timer_mspField (g k : Nat) (f : Fld) (v : Nat) {j : TKey} (h : evTimer j = false) : (s.mspField g k f v).timer j = s.timer j := by
  unfold State.mspField
  split
  · rfl
  · exact (ev_only _ _ _).timers j h

theorem timer_put (r : RegId) (f : Fld) (v : Nat) (j : TKey) : (s.put r f v).timer j = s.timer j := rfl

theorem timer_stopTimer_same (j : TKey) : (s.stopTimer j).timer j = none := (timer_stopTimer _ _ _).trans (if_pos rfl)

end

section
variable {s : State} (g k : Fin 8)

-- A held condition enters the requests (R182), and a wait-to-restore ends (R187)

theorem exec_mspHoldoffExpire (c : Fin 15) (sd : Bool) (h : s.timerDone (mspHoldKey g k c (if sd then 1 else 0)) = true) :
    exec (.mspHoldoffExpire g k c sd) s =
      .next ((s.stopTimer (mspHoldKey g k c (if sd then 1 else 0))).setBit (R.MSP_COND g k) ((if sd then 16 else 0) + c)) := if_pos h

theorem exec_mspWtrExpire (h : s.timerDone (mspWtrKey g k) = true) :
    exec (.mspWtrExpire g k) s = .next ((s.stopTimer (mspWtrKey g k)).setMspSt g k { s.mspSt g k with wtr := 0 }) := if_pos h

-- An exercise ends (R200)

/-- EXER_RESULT of an exercise that ends. -/
def State.exerResult (s : State) (g k : Nat) : Nat := if (s.mspSt g k).exerOk then 1 else 2

theorem exec_mspExerEnd (h : s.timerDone (mspExerKey g k) = true) :
    exec (.mspExerEnd g k) s = .next ((s.mspUnhold g k).put (R.MSP_STATUS g k) F.MSP_STATUS_EXER_RESULT (s.exerResult g k)) := if_pos h

theorem mspUnhold_cmd : (s.mspUnhold g k).get (R.MSP_STATUS g k) F.MSP_STATUS_EXT_CMD = 0 := by
  unfold State.mspUnhold
  rw [get_stopTimer, get_put_apart _ _ _ (by decide), get_put_same _ _ (by decide)]
  rfl

/-- The timer of the exercise stops as the command ends. -/
theorem mspUnhold_eq : s.mspUnhold g k =
    ((s.stopTimer (mspExerKey g k)).put (R.MSP_STATUS g k) F.MSP_STATUS_EXT_CMD 0).put (R.MSP_STATUS g k) F.MSP_STATUS_EXT_CHAN 0 := (rfl)

theorem mspUnhold_timer : (s.mspUnhold g k).timer (mspExerKey g k) = none := timer_stopTimer_same _ _

theorem exerEnd_regs (v : Nat) : RegsOnly (fun r => r == R.MSP_STATUS g k) (s.stopTimer (mspExerKey g k))
    ((s.mspUnhold g k).put (R.MSP_STATUS g k) F.MSP_STATUS_EXER_RESULT v) := by
  rw [mspUnhold_eq]
  exact ((RegsOnly.put _ _ _ (by simp)).trans (.put _ _ _ (by simp))).trans (.put _ _ _ (by simp))

theorem exerResult_lt : s.exerResult g k < 4 := by unfold State.exerResult; split <;> decide

-- A protocol defect is set or cleared (R188)

theorem fopFld_apart (w : Nat) : (fopFld w).lo + (fopFld w).w ≤ 32 ∧ (fopFld w).w = 1 ∧ F.MSP_STATUS_UNI_FALLBACK.apart (fopFld w) = true := by
  unfold fopFld
  split <;> decide

/-- A defect becomes what it was not. -/
def State.fopTurned (s : State) (g k w : Nat) : State :=
  (s.stopTimer (mspFopKey g k w)).mspField g k (fopFld w) (if s.flag (R.MSP_STATUS g k) (fopFld w) then 0 else 1)

/-- UNI_FALLBACK follows the defects. -/
def State.fopShown (s : State) (g k : Nat) : State :=
  s.put (R.MSP_STATUS g k) F.MSP_STATUS_UNI_FALLBACK (if s.bidir g k && s.anyFop g k then 1 else 0)

theorem exec_fopTimerExpire (cm : Bool) (h : s.timerDone (mspFopKey g k (if cm then 1 else 0)) = true) :
    exec (.fopTimerExpire g k cm) s = done ((s.fopTurned g k (if cm then 1 else 0)).fopShown g k) := if_pos h

theorem fopTurned_flag (w : Nat) : (s.fopTurned g k w).flag (R.MSP_STATUS g k) (fopFld w) = !s.flag (R.MSP_STATUS g k) (fopFld w) := by
  obtain ⟨fits, one, -⟩ := fopFld_apart w
  unfold State.fopTurned
  conv_lhs => rw [State.flag, get_mspField _ _ _ _ k.isLt fits, one]
  cases s.flag (R.MSP_STATUS g k) (fopFld w) <;> rfl

theorem fopTurned_timer (w : Nat) : (s.fopTurned g k w).timer (mspFopKey g k w) = none :=
  (timer_mspField _ _ _ _ _ rfl).trans (timer_stopTimer_same _ _)

theorem fopTurned_mem (w : Nat) : (s.fopTurned g k w).mem = s.mem := (ControlOnly.mspField _ _ _ _ _).mem_eq

theorem fopShown_flag (w : Nat) : (s.fopShown g k).flag (R.MSP_STATUS g k) (fopFld w) = s.flag (R.MSP_STATUS g k) (fopFld w) := by
  unfold State.fopShown State.flag
  rw [get_put_apart _ _ _ (fopFld_apart w).2.2]

end

/-- The effect frame of a group whose ACTIVATE or DELETE waits for it. -/
theorem exec_mspEffectFrame {s : State} (g k : Fin 8) (h : s.mspState g k = 1 ∨ s.mspState g k = 3) (hf : s.fn % 4 = 0) (hn : s.ns = 0)
    (he : (s.mspSt g k).eff ≤ s.up) : exec (.mspEffectFrame g k) s = done (s.mspEffect g k) := if_pos ⟨h, hf, hn, he⟩

/-- Settles O24: the operations of MSP_CMD by what Table 08-6 makes of the group, its effect frame with the step of the controller that follows,
and each end of a time by the field that it changes; what the end of a command then carries out leaves the group. -/
theorem mspGroupsFollowCommandsAndTimers : Obligations.MspGroupsFollowCommandsAndTimers := by
  unfold Obligations.MspGroupsFollowCommandsAndTimers
  refine ⟨⟨fun p g k s hp h => ?activate, fun p g k s hp hs h => ?activateRefused, fun p g k s hp h hc => ?delete,
    fun p g k s hp hs h => ?deleteRefused, fun p g k op3 s hp => ?invalid, fun g k s h hf hn he => ?frees, fun g k s h hf hn he => ?activates,
    fun p g k which v s hp h => ?config, fun p g k which v s hp h => ?configHeld⟩,
    fun g k c sd s h => ?holdoff, fun g k s h => ?wtr, fun g k s h => ?exercise, fun g k cm s h => ?defect⟩
  case activate =>
    obtain ⟨t, ht, taken⟩ := (mspActivate_takes s g k.isLt h).done k.isLt
    exact ⟨t, (exec_mspActivate hp g k).trans ht, taken.state, taken.code, taken.op, taken.eff, taken.mem, taken.map⟩
  case activateRefused =>
    have shows := mspActivate_refused s g h
    exact ⟨_, (exec_mspActivate hp g k).trans (shows.done hs), shows.code, shows.state, shows.op, shows.regs⟩
  case delete =>
    obtain ⟨t, ht, taken⟩ := (mspDelete_takes s g k.isLt h hc).done k.isLt
    exact ⟨t, (exec_mspDelete hp g k).trans ht, taken.state, taken.eff, taken.code, taken.op, taken.mem⟩
  case deleteRefused =>
    have shows := mspDelete_refused s g h
    exact ⟨_, (exec_mspDelete hp g k).trans (shows.done hs), shows.code, shows.state, shows.op, shows.regs⟩
  case invalid =>
    have shows := MspShows.of_code s g (k := k) (op := if op3 then 3 else 0) (by cases op3 <;> decide) (code := 1) (by decide)
    exact ⟨_, exec_mspOpInvalid hp g k op3, shows.code, shows.op, shows.regs⟩
  case frees =>
    have effect : s.mspEffect g k = s.mspFree g k := if_pos h
    obtain ⟨t, ht, freed⟩ := (mspFree_frees s g k).done
    exact ⟨t, (exec_mspEffectFrame g k (.inr h) hf hn he).trans (effect ▸ ht), freed.state, freed.lock, freed.cond, freed.sel, freed.mem⟩
  case activates =>
    obtain ⟨t, ht, active⟩ := (mspEffect_activates s h).done
    exact ⟨t, (exec_mspEffectFrame g k (.inl h) hf hn he).trans ht, active.state, active.act, active.marks, active.lock, active.mem⟩
  case config =>
    refine ⟨_, (exec_mspConfigWrite hp g k which v).trans (congrArg _ (mspConfig_free (s := s.answer .done) h which v)), rd_wr_same _ _ _, ?_⟩
    exact (RegsOnly.answer s .done).trans (.wr _ _ (beq_self_eq_true _))
  case configHeld =>
    refine ⟨_, (exec_mspConfigWrite hp g k which v).trans (congrArg _ (mspConfig_held (s := s.answer .done) h which v)), flag_put_same _ _ _ (by decide), ?_⟩
    exact (RegsOnly.answer s .done).trans (.put _ _ _ (beq_self_eq_true _))
  case holdoff =>
    have small : (if sd then 16 else 0) + c.val < 32 := by split <;> omega
    exact ⟨_, exec_mspHoldoffExpire g k c sd h, (bit_setBit _ _ _ _ _).trans (if_pos ⟨rfl, rfl, small⟩), timer_stopTimer_same _ _,
      RegsOnly.wr (s.stopTimer _) _ (beq_self_eq_true _)⟩
  case wtr =>
    exact ⟨_, exec_mspWtrExpire g k h, congrArg MspSt.wtr (mspSt_setMspSt _ _ _ _), timer_stopTimer_same _ _, rfl⟩
  case exercise =>
    refine ⟨_, exec_mspExerEnd g k h, ?_, ?_, (timer_put _ _ _ _ _).trans (mspUnhold_timer g k), exerEnd_regs g k _⟩
    · rw [get_put_apart _ _ _ (by decide), mspUnhold_cmd]
    · exact (get_put_same _ _ (by decide)).trans (Nat.mod_eq_of_lt (exerResult_lt g k))
  case defect =>
    obtain ⟨t, ht, only⟩ := done_only ((s.fopTurned g k (if cm then 1 else 0)).fopShown g k)
    refine ⟨t, (exec_fopTimerExpire g k cm h).trans ht, ?_, ?_, ?_⟩
    · rw [State.flag, only.get_eq (reactReg_msp g k.isLt (by decide) (by decide)), ← State.flag, fopShown_flag, fopTurned_flag]
    · exact (only.timers _ rfl).trans (fopTurned_timer g k _)
    · rw [(ControlOnly.of_react only).mem_eq, State.fopShown, State.put_mem, fopTurned_mem]

end Sys2Proof.Machine

/-!
The rules of a selector: its conditions and their hold-off, what its governing request selects, and what its evaluation leaves (08_protection.md:
R192 to R195, R198, Tables 08-10 and 08-11).
-/

namespace Sys2Proof.Machine

-- Conditions (R192)

/-- Changing bit i replaces the digit of weight 2 ^ i. -/
theorem SncSt.cond_putBit (x : SncSt) (i : Nat) (v : Bool) :
    (x.putBit i v).cond = 2 ^ i * (2 * (x.cond / 2 ^ i / 2) + v.toNat) + x.cond % 2 ^ i := by
  have parts := Nat.div_add_mod x.cond (2 ^ i)
  have half := Nat.div_add_mod (x.cond / 2 ^ i) 2
  simp only [SncSt.putBit, Nat.testBit_eq_decide_div_mod_eq, decide_eq_true_eq]
  generalize x.cond / 2 ^ i = high at parts half ⊢
  generalize x.cond % 2 ^ i = low at parts ⊢
  generalize high / 2 = above at half ⊢
  rw [← parts]
  rcases Nat.mod_two_eq_zero_or_one high with h | h <;> rw [h] at half ⊢ <;> subst half <;> cases v <;>
    simp [Nat.mul_add] <;> omega

theorem SncSt.bit_putBit (x : SncSt) (i j : Nat) (v : Bool) : (x.putBit i v).bit j = if j = i then v else x.bit j := by
  have low : x.cond % 2 ^ i < 2 ^ i := Nat.mod_lt _ (Nat.two_pow_pos i)
  have parts : x.cond.testBit j = (2 ^ i * (x.cond / 2 ^ i) + x.cond % 2 ^ i).testBit j := by rw [Nat.div_add_mod]
  unfold SncSt.bit
  rw [SncSt.cond_putBit, parts, Nat.testBit_two_pow_mul_add _ low, Nat.testBit_two_pow_mul_add _ low]
  rcases Nat.lt_trichotomy j i with h | rfl | h
  · simp [h, h.ne]
  · cases v <;> simp [Nat.testBit_zero]
  · obtain ⟨n, hn⟩ := Nat.exists_eq_add_of_lt h
    have diff : j - i = n + 1 := by omega
    have same (q : Nat) : (2 * (q / 2) + v.toNat) / 2 = q / 2 := by cases v <;> simp; omega
    rw [if_neg (by omega), if_neg (by omega), if_neg (by omega), diff, Nat.testBit_succ, same, Nat.testBit_succ]

theorem SncSt.bit_putBit_same (x : SncSt) (i : Nat) (v : Bool) : (x.putBit i v).bit i = v := (SncSt.bit_putBit _ _ _ _).trans (if_pos rfl)

-- The state of one selector

@[simp] theorem sncSt_setSnc (s : State) (k : Nat) (x : SncSt) : (s.setSnc k x).sncSt k = x := look_store_same _ _ _
theorem sncSt_setSnc_ne (s : State) {k j : Nat} (x : SncSt) (h : j ≠ k) : (s.setSnc k x).sncSt j = s.sncSt j := look_store_ne _ _ h
@[simp] theorem sncSt_stopTimer (s : State) (j : TKey) (k : Nat) : (s.stopTimer j).sncSt k = s.sncSt k := rfl
@[simp] theorem sncSt_startTimer (s : State) (j : TKey) (n k : Nat) : (s.startTimer j n).sncSt k = s.sncSt k := rfl
@[simp] theorem timer_setSnc (s : State) (k : Nat) (x : SncSt) (j : TKey) : (s.setSnc k x).timer j = s.timer j := rfl

theorem timer_stopTimer_ne (s : State) {i j : TKey} (h : j ≠ i) : (s.stopTimer i).timer j = s.timer j := (timer_stopTimer _ _ _).trans (if_neg h)
theorem timer_startTimer_ne (s : State) {i j : TKey} (n : Nat) (h : j ≠ i) : (s.startTimer i n).timer j = s.timer j :=
  (timer_startTimerNs _ _ _ _).trans (if_neg h)

/-- Of the selectors only that at k differs; memory and the map stand. -/
structure SncKept (k : Nat) (s t : State) : Prop where
  others : ∀ j, j ≠ k → t.sncSt j = s.sncSt j
  mem : t.mem = s.mem
  map : t.actMap = s.actMap

section
variable {k : Nat} {s t u : State}

theorem SncKept.refl (s : State) : SncKept k s s := ⟨fun _ _ => rfl, rfl, rfl⟩
theorem SncKept.trans (h : SncKept k s t) (h' : SncKept k t u) : SncKept k s u :=
  ⟨fun j hj => (h'.others j hj).trans (h.others j hj), h'.mem.trans h.mem, h'.map.trans h.map⟩
theorem SncKept.setSnc (s : State) (x : SncSt) : SncKept k s (s.setSnc k x) := ⟨fun _ hj => sncSt_setSnc_ne _ _ hj, rfl, rfl⟩
theorem SncKept.stopTimer (s : State) (j : TKey) : SncKept k s (s.stopTimer j) := ⟨fun _ _ => rfl, rfl, rfl⟩
theorem SncKept.startTimer (s : State) (j : TKey) (n : Nat) : SncKept k s (s.startTimer j n) := ⟨fun _ _ => rfl, rfl, rfl⟩
theorem SncKept.control (h : ControlOnly s t) : SncKept k s t := ⟨fun j _ => h.sncSt_eq j, h.mem_eq, h.actMap_eq⟩

end

/-- Conditions l of the selector of entry r are taken as `raw`, each at once where it has no hold-off left: nothing else of the selector changes, a
hold-off that does not run starts for none of them that is in already or is clear, and no other timer changes. -/
structure CondsTaken (r : Rec) (raw : Nat → Bool) (l : List Nat) (s t : State) : Prop where
  taken : ∀ i ∈ l, r.holdoff = 0 ∨ (s.sncSt r.key).bit i = true ∨ raw i = false → (t.sncSt r.key).bit i = raw i
  bits : ∀ i, i ∉ l → (t.sncSt r.key).bit i = (s.sncSt r.key).bit i
  rest : ∃ c, t.sncSt r.key = { s.sncSt r.key with cond := c }
  held : ∀ i, s.timer (sncHoldKey r.key i) = none → (s.sncSt r.key).bit i = true ∨ raw i = false → t.timer (sncHoldKey r.key i) = none
  timers : ∀ j, (∀ i ∈ l, j ≠ sncHoldKey r.key i) → t.timer j = s.timer j
  kept : SncKept r.key s t

section
variable (s : State) (r : Rec) (raw : Nat → Bool) (i : Nat)

/-- The outcomes of one condition against its hold-off. -/
theorem sncCond_cases :
    (raw i = false ∧ s.sncCond r i (raw i) = (s.setSnc r.key ((s.sncSt r.key).putBit i false)).stopTimer (sncHoldKey r.key i)) ∨
    (raw i = true ∧ (s.sncSt r.key).bit i = true ∧ s.sncCond r i (raw i) = s) ∨
    (raw i = true ∧ r.holdoff = 0 ∧ s.sncCond r i (raw i) = s.setSnc r.key ((s.sncSt r.key).putBit i true)) ∨
    (raw i = true ∧ (s.sncSt r.key).bit i = false ∧ r.holdoff ≠ 0 ∧
      (s.sncCond r i (raw i) = s ∨ s.sncCond r i (raw i) = s.startTimer (sncHoldKey r.key i) (msFrames 100 * r.holdoff))) := by
  unfold State.sncCond
  cases raw i with
  | false => exact .inl ⟨rfl, rfl⟩
  | true =>
    cases hb : (s.sncSt r.key).bit i with
    | true => exact .inr (.inl ⟨rfl, rfl, by simp [hb]⟩)
    | false =>
      by_cases h : r.holdoff = 0
      · exact .inr (.inr (.inl ⟨rfl, h, by simp [hb, h]⟩))
      · refine .inr (.inr (.inr ⟨rfl, rfl, h, ?_⟩))
        by_cases on : s.timerOn (sncHoldKey r.key i) = true <;> simp [hb, h, on]

theorem sncCond_takes : CondsTaken r raw [i] s (s.sncCond r i (raw i)) := by
  have other {v : Bool} : ∀ j, j ∉ [i] → ((s.sncSt r.key).putBit i v).bit j = (s.sncSt r.key).bit j := fun j hj => by
    rw [SncSt.bit_putBit, if_neg (by simpa using hj)]
  rcases sncCond_cases s r raw i with ⟨hr, h⟩ | ⟨hr, hb, h⟩ | ⟨hr, h0, h⟩ | ⟨hr, hb, h0, h | h⟩ <;> rw [h]
  case inl =>
    refine ⟨?_, ?_, ?_, ?_, ?_, (SncKept.setSnc _ _).trans (.stopTimer _ _)⟩
    · simp [hr, SncSt.bit_putBit]
    · simpa using other
    · exact ⟨_, sncSt_setSnc _ _ _⟩
    · intro j hj _
      rw [timer_stopTimer]
      split
      · rfl
      · exact hj
    · intro j hj
      exact timer_stopTimer_ne _ (hj i (by simp))
  case inr.inl => exact ⟨by simp [hr, hb], fun _ _ => rfl, ⟨_, rfl⟩, fun _ h _ => h, fun _ _ => rfl, .refl _⟩
  case inr.inr.inl =>
    exact ⟨by simp [hr, SncSt.bit_putBit], by simpa using other, ⟨_, sncSt_setSnc _ _ _⟩, fun _ h _ => h, fun _ _ => rfl, .setSnc _ _⟩
  case inr.inr.inr.inl => exact ⟨by simp [hr, hb, h0], fun _ _ => rfl, ⟨_, rfl⟩, fun _ h _ => h, fun _ _ => rfl, .refl _⟩
  case inr.inr.inr.inr =>
    refine ⟨by simp [hr, hb, h0], fun _ _ => rfl, ⟨_, rfl⟩, fun j hj hor => ?_, fun j hj => timer_startTimer_ne _ _ (hj i (by simp)), .startTimer _ _ _⟩
    have ne : j ≠ i := by rintro rfl; simp [hr, hb] at hor
    exact (timer_startTimer_ne _ _ (by simpa [sncHoldKey] using ne)).trans hj

end

section
variable {s t u : State} {r : Rec} {raw : Nat → Bool} {l l' : List Nat}

theorem CondsTaken.trans (h : CondsTaken r raw l s t) (h' : CondsTaken r raw l' t u) : CondsTaken r raw (l ++ l') s u := by
  have ready (i : Nat) (hi : (s.sncSt r.key).bit i = true ∨ raw i = false) : (t.sncSt r.key).bit i = true ∨ raw i = false := by
    by_cases hl : i ∈ l
    · rw [h.taken i hl (.inr hi)]; cases raw i <;> simp
    · rwa [h.bits i hl]
  refine ⟨fun i hi hor => ?_, fun i hi => ?_, ?_, fun i hi hor => h'.held i (h.held i hi hor) (ready i hor), fun j hj => ?_, h.kept.trans h'.kept⟩
  · by_cases hl : i ∈ l'
    · exact h'.taken i hl (hor.imp_right (ready i))
    · rw [h'.bits i hl]
      exact h.taken i ((List.mem_append.mp hi).resolve_right hl) hor
  · rw [List.mem_append, not_or] at hi
    exact (h'.bits i hi.2).trans (h.bits i hi.1)
  · obtain ⟨c, hc⟩ := h.rest
    obtain ⟨c', hc'⟩ := h'.rest
    exact ⟨c', by rw [hc', hc]⟩
  · exact (h'.timers j fun i hi => hj i (List.mem_append_right _ hi)).trans (h.timers j fun i hi => hj i (List.mem_append_left _ hi))

end

/-- The conditions of both sources by their bits of COND. -/
def State.sncRaw (s : State) (r : Rec) (i : Nat) : Bool :=
  [(s.srcCond r r.alt).2, (s.srcCond r r.alt).1, (s.srcCond r r.src).2, (s.srcCond r r.src).1].getD i false

theorem sncConds_takes (s : State) (r : Rec) : CondsTaken r (s.sncRaw r) [3, 2, 1, 0] s (s.sncConds r) :=
  (((sncCond_takes s r _ 3).trans (sncCond_takes _ r _ 2)).trans (sncCond_takes _ r _ 1)).trans (sncCond_takes _ r _ 0)

-- The switch log (R198)

theorem SncKept.sncLogWrite {j : Nat} (s : State) (k : Nat) (alt : Bool) (rank : Nat) : SncKept j s (s.sncLogWrite k alt rank) := by
  unfold State.sncLogWrite
  extract_lets d l s1 e s2
  have lost : SncKept j s s1 := ⟨fun _ _ => rfl, rfl, rfl⟩
  split
  · split
    · exact lost
    · exact (lost.trans (⟨fun _ _ => rfl, rfl, rfl⟩ : SncKept j s1 { s1 with sncLost := d :: s1.sncLost })).trans (.control (.ev _ _ _))
  · exact ⟨fun _ _ => rfl, rfl, rfl⟩

theorem timer_sncLogWrite (s : State) (k : Nat) (alt : Bool) (rank : Nat) {j : TKey} (h : evTimer j = false) :
    (s.sncLogWrite k alt rank).timer j = s.timer j := by
  unfold State.sncLogWrite
  extract_lets d l s1 e s2
  split
  · split
    · rfl
    · exact (ev_only _ _ _).timers j h
  · rfl

theorem sncSt_sncLogWrite (s : State) (k : Nat) (alt : Bool) (rank j : Nat) : (s.sncLogWrite k alt rank).sncSt j = s.sncSt j :=
  (SncKept.sncLogWrite (j := j + 1) s k alt rank).others j (by omega)

-- Selection (Tables 08-10 and 08-11)

/-- What a rank selects stays when it is selected. -/
theorem SncSt.select_selected (x : SncSt) (q : Nat) (c : Option (Nat × Nat)) :
    ({ x with alt := x.select q, rank := q, chg := c } : SncSt).select q = x.select q := by
  unfold SncSt.select
  split
  case h_5 =>
    change (if (x.bit 2 && !x.bit 0) = true then true else if (x.bit 0 && !x.bit 2) = true then false
      else if (x.bit 2 && !x.bit 0) = true then true else if (x.bit 0 && !x.bit 2) = true then false else x.alt) = _
    cases x.bit 2 <;> cases x.bit 0 <;> rfl
  all_goals rfl

/-- The selector of entry r has judged its requests: a request that is present governs, and what the governing rank selects is selected. -/
structure Selects (r : Rec) (s t : State) : Prop where
  cond : (t.sncSt r.key).cond = (s.sncSt r.key).cond
  alt : (t.sncSt r.key).alt = (t.sncSt r.key).select (t.sncSt r.key).rank
  rank : ∀ q, (t.sncSt r.key).top = some q → (t.sncSt r.key).rank = q
  timers : ∀ j, evTimer j = false → j ≠ sncWtrKey r.key → t.timer j = s.timer j
  kept : SncKept r.key s t

theorem sncSelect_selects (s : State) (r : Rec) : Selects r s (s.sncSelect r) := by
  unfold State.sncSelect
  extract_lets k x0 x begins s1 rank alt s2
  have cond : x.cond = x0.cond := by
    simp only [x]
    split
    · split <;> rfl
    · rfl
  have timed : SncKept r.key s s1 ∧ ∀ j, j ≠ sncWtrKey k → s1.timer j = s.timer j := by
    simp only [s1]
    split
    · exact ⟨.startTimer _ _ _, fun j hj => timer_startTimer_ne _ _ hj⟩
    · split
      · exact ⟨.stopTimer _ _, fun j hj => timer_stopTimer_ne _ hj⟩
      · exact ⟨.refl _, fun _ _ => rfl⟩
  have selects : Selects r s s2 := by
    refine ⟨?_, ?_, fun q hq => ?_, fun j _ hj => timed.2 j hj, timed.1.trans (.setSnc _ _)⟩ <;> simp only [s2, k, sncSt_setSnc] at *
    · exact cond
    · exact (SncSt.select_selected _ _ _).symm
    · have top : x.top = some q := hq
      simp [rank, top]
  split
  · exact selects
  · refine ⟨?_, ?_, ?_, fun j he hj => (timer_sncLogWrite _ _ _ _ he).trans (selects.timers j he hj), selects.kept.trans (.sncLogWrite _ _ _ _)⟩ <;>
      rw [sncSt_sncLogWrite]
    · exact selects.cond
    · exact selects.alt
    · exact selects.rank

/-- No request of rank 1 to 6 without a condition or a command. -/
theorem SncSt.top_none {x : SncSt} (bits : ∀ i < 4, x.bit i = false) (cmd : x.cmd = 0) : x.top = none := by
  simp [SncSt.top, SncSt.present, bits, cmd]

/-- Without a request, when the wait-to-restore is over, a revertive selector is back on its first source (R194). -/
theorem sncSelect_reverts {s : State} {r : Rec} (revert : r.revert = true) (top : (s.sncSt r.key).top = none)
    (waited : (s.sncSt r.key).rank = 7) (stopped : s.timer (sncWtrKey r.key) = none) :
    ((s.sncSelect r).sncSt r.key).alt = false ∧ ((s.sncSelect r).sncSt r.key).rank = 9 ∧ (s.sncSelect r).timer (sncWtrKey r.key) = none := by
  unfold State.sncSelect
  extract_lets k x0 x begins s1 rank alt s2
  have same : x = x0 := by simp only [x]; rw [show x0.top = none from top]
  have starts : begins = false := by simp [begins, same, x0, k, waited]
  have stays : s1 = s := by simp [s1, starts, same, x0, k, top]
  have nine : rank = 9 := by
    simp only [rank, same, stays]
    rw [show x0.top = none from top]
    simp [State.timerOn, k, stopped, revert]
  have selects : (s2.sncSt k).alt = false ∧ (s2.sncSt k).rank = 9 ∧ s2.timer (sncWtrKey k) = none := by
    simp only [s2, sncSt_setSnc, timer_setSnc, stays]
    exact ⟨by simp [alt, nine, SncSt.select], nine, stopped⟩
  split
  · exact selects
  · rw [sncSt_sncLogWrite, timer_sncLogWrite _ _ _ _ rfl]
    exact selects

-- An evaluation

theorem sncEval_eq {s : State} {k : Nat} {r : Rec} (h : s.selector k = some r) : s.sncEval k = (s.sncConds r).sncSelect r := by
  unfold State.sncEval; rw [h]

theorem sncEval_none {s : State} {k : Nat} (h : s.selector k = none) : s.sncEval k = s := by unfold State.sncEval; rw [h]

/-- The conditions that an evaluation takes stand when it has selected. -/
theorem bit_sncEval (s : State) (r : Rec) (i : Nat) : (((s.sncConds r).sncSelect r).sncSt r.key).bit i = ((s.sncConds r).sncSt r.key).bit i :=
  congrArg (Nat.testBit · i) (sncSelect_selects _ _).cond

theorem sncEval_kept (s : State) (r : Rec) : SncKept r.key s ((s.sncConds r).sncSelect r) :=
  (sncConds_takes s r).kept.trans (sncSelect_selects _ r).kept

end Sys2Proof.Machine

/-!
What a GO of the indirect access and a read of the switch log leave, and the statement on selectors (08_protection.md: R192 to R195, R198, R207).
-/

namespace Sys2Proof.Machine

-- A GO reads a selector (R207)

/-- The name is held and the access is over. -/
def State.sncAsked (s : State) (d : Nat) (a3 : Bool) (u : TA) : State :=
  ((s.put (R.SNCP_IND_CTRL d) F.SNCP_IND_CTRL_AU3 (if a3 then 1 else 0)).put (R.SNCP_IND_CTRL d) F.SNCP_IND_CTRL_TA u.toNat).put
    (R.SNCP_IND_STATUS d) F.SNCP_IND_STATUS_DONE 1

/-- SNCP_IND_DATA0 shows a selector. -/
def State.sncShown (s : State) (d : Nat) (x : SncSt) : State :=
  let r0 := R.SNCP_IND_DATA0 d
  ((((s.put r0 F.SNCP_IND_DATA0_REQ x.rank).put r0 F.SNCP_IND_DATA0_ALT (if x.alt then 1 else 0)).put r0 F.SNCP_IND_DATA0_COND x.cond).put r0
    F.SNCP_IND_DATA0_EXT_CMD x.cmd).put r0 F.SNCP_IND_DATA0_CMD_DROPPED (if x.dropped then 1 else 0)

/-- SNCP_IND_DATA1 shows what is left of its times. -/
def State.sncLeft (s : State) (d hold wait : Nat) : State :=
  (s.put (R.SNCP_IND_DATA1 d) F.SNCP_IND_DATA1_HOLD_LEFT hold).put (R.SNCP_IND_DATA1 d) F.SNCP_IND_DATA1_WTR_LEFT wait

section
variable (s : State) (d : Nat) (a3 : Bool) (u : TA) (x : SncSt) (hold wait : Nat)

theorem sncRead_missing (h : (s.selector (egName a3 u)).isNone ∨ luDie (taLink u) ≠ d) :
    s.sncRead d a3 u = (s.sncAsked d a3 u).put (R.SNCP_IND_STATUS d) F.SNCP_IND_STATUS_ERR 1 := if_pos h

theorem sncRead_found (h : (s.selector (egName a3 u)).isSome = true) (hd : luDie (taLink u) = d) :
    s.sncRead d a3 u = ((s.sncAsked d a3 u).sncShown d (s.sncSt (egName a3 u))).sncLeft d (s.sncHoldLeft (egName a3 u))
      (cdiv (s.timerLeft (sncWtrKey (egName a3 u))) (msFrames 1000)) :=
  if_neg (by simp [hd, Option.isSome_iff_ne_none.mp h])

theorem sncAsked_done : (s.sncAsked d a3 u).flag (R.SNCP_IND_STATUS d) F.SNCP_IND_STATUS_DONE = true := flag_put_same _ _ _ (by decide)

theorem RegsOnly.sncAsked {p : RegId → Bool} (hc : p (R.SNCP_IND_CTRL d) = true) (hs : p (R.SNCP_IND_STATUS d) = true) :
    RegsOnly p s (s.sncAsked d a3 u) := ((RegsOnly.put _ _ _ hc).trans (.put _ _ _ hc)).trans (.put _ _ _ hs)

theorem RegsOnly.sncShown {p : RegId → Bool} (h : p (R.SNCP_IND_DATA0 d) = true) : RegsOnly p s (s.sncShown d x) :=
  ((((RegsOnly.put _ _ _ h).trans (.put _ _ _ h)).trans (.put _ _ _ h)).trans (.put _ _ _ h)).trans (.put _ _ _ h)

theorem RegsOnly.sncLeft {p : RegId → Bool} (h : p (R.SNCP_IND_DATA1 d) = true) : RegsOnly p s (s.sncLeft d hold wait) :=
  (RegsOnly.put _ _ _ h).trans (.put _ _ _ h)

theorem rd_sncShown {r : RegId} (h : r ≠ R.SNCP_IND_DATA0 d) : (s.sncShown d x).rd r = s.rd r := by
  simp [State.sncShown, rd_put_ne _ _ _ h]

theorem rd_sncLeft {r : RegId} (h : r ≠ R.SNCP_IND_DATA1 d) : (s.sncLeft d hold wait).rd r = s.rd r := by
  simp [State.sncLeft, rd_put_ne _ _ _ h]

/-- What DATA0 shows of a selector, each field by its width. -/
theorem sncShown_fields :
    (s.sncShown d x).get (R.SNCP_IND_DATA0 d) F.SNCP_IND_DATA0_REQ = x.rank % 16 ∧
    (s.sncShown d x).flag (R.SNCP_IND_DATA0 d) F.SNCP_IND_DATA0_ALT = x.alt ∧
    (s.sncShown d x).get (R.SNCP_IND_DATA0 d) F.SNCP_IND_DATA0_COND = x.cond % 16 ∧
    (s.sncShown d x).get (R.SNCP_IND_DATA0 d) F.SNCP_IND_DATA0_EXT_CMD = x.cmd % 8 := by
  unfold State.sncShown State.flag
  refine ⟨?_, ?_, ?_, ?_⟩
  · rw [get_put_apart _ _ _ (by decide), get_put_apart _ _ _ (by decide), get_put_apart _ _ _ (by decide), get_put_apart _ _ _ (by decide)]
    exact get_put_same _ _ (by decide)
  · rw [get_put_apart _ _ _ (by decide), get_put_apart _ _ _ (by decide), get_put_apart _ _ _ (by decide), get_put_same _ _ (by decide)]
    cases x.alt <;> rfl
  · rw [get_put_apart _ _ _ (by decide), get_put_apart _ _ _ (by decide)]
    exact get_put_same _ _ (by decide)
  · rw [get_put_apart _ _ _ (by decide)]
    exact get_put_same _ _ (by decide)

end

-- A read of the switch log (R198, R207)

section
variable (s : State) (d : Nat)

theorem sncPop_nil (h : s.sncLogOf d = []) :
    s.sncPop d = (s.put (R.SNCP_LOG_DATA0 d) F.SNCP_LOG_DATA0_VALID 0).answer
      (.word ((s.put (R.SNCP_LOG_DATA0 d) F.SNCP_LOG_DATA0_VALID 0).rd (R.SNCP_LOG_DATA0 d))) := by
  unfold State.sncPop; rw [h]

theorem sncPop_cons {e : Word × Word × Word} {l : List (Word × Word × Word)} (h : s.sncLogOf d = e :: l) :
    s.sncPop d = ((((s.setSncLog d l).wr (R.SNCP_LOG_DATA0 d) e.1).wr (R.SNCP_LOG_DATA1 d) e.2.1).wr (R.SNCP_LOG_DATA2 d) e.2.2).answer
      (.word e.1) := by
  unfold State.sncPop; rw [h]

/-- A pop leaves a rest of the log, its count, and the words of the entry that it took. -/
structure LogPopped (d : Nat) (e : Word × Word × Word) (l : List (Word × Word × Word)) (s t : State) : Prop where
  resp : t.resp = .word e.1
  log : t.sncLogOf d = l
  data0 : t.rd (R.SNCP_LOG_DATA0 d) = e.1
  data1 : t.rd (R.SNCP_LOG_DATA1 d) = e.2.1
  data2 : t.rd (R.SNCP_LOG_DATA2 d) = e.2.2
  count : t.get (R.SNCP_LOG_STATUS d) F.SNCP_LOG_STATUS_COUNT = l.length % 1024
  regs : RegsOnly (fun r => r == R.SNCP_LOG_STATUS d || r == R.SNCP_LOG_DATA0 d || r == R.SNCP_LOG_DATA1 d || r == R.SNCP_LOG_DATA2 d)
    { s with sncLog := t.sncLog } t

theorem sncPop_pops {e : Word × Word × Word} {l : List (Word × Word × Word)} (h : s.sncLogOf d = e :: l) : LogPopped d e l s (s.sncPop d) := by
  rw [sncPop_cons s d h]
  refine ⟨rfl, look_store_same _ _ _, ?_, ?_, rd_wr_same _ _ _, ?_, ?_⟩
  · rw [rd_answer, rd_wr_ne _ _ (by simp), rd_wr_ne _ _ (by simp), rd_wr_same]
  · rw [rd_answer, rd_wr_ne _ _ (by simp), rd_wr_same]
  · rw [get_answer, get_wr, if_neg (by simp), get_wr, if_neg (by simp), get_wr, if_neg (by simp)]
    exact get_put_same _ _ (by decide)
  · refine ⟨rfl, fun r hr => ?_⟩
    simp only [Bool.or_eq_false_iff, beq_eq_false_iff_ne] at hr
    obtain ⟨⟨⟨hs, h0⟩, h1⟩, h2⟩ := hr
    rw [rd_answer, rd_wr_ne _ _ h2, rd_wr_ne _ _ h1, rd_wr_ne _ _ h0]
    exact rd_put_ne _ _ _ hs

end

-- The commands

theorem exec_sncpIndRead {p : Port} {s : State} (hp : s.reaches p 0 = true) (d : Fin 4) (a3 : Bool) (u : TA) :
    exec (.sncpIndRead p d a3 u) s = .next ((s.answer .done).sncRead d a3 u) := congrArg Host.Outcome.next (hostReg_reaches hp)

theorem exec_sncpLogPop {p : Port} {s : State} (hp : s.reaches p 0 = true) (d : Fin 4) :
    exec (.sncpLogPop p d) s = .next ((s.answer .done).sncPop d) := congrArg Host.Outcome.next (hostReg_reaches hp)

theorem exec_sncpEvaluate {a3 : Bool} {u : TA} {r : Rec} {s : State} (h : s.selector (egName a3 u) = some r) :
    exec (.sncpEvaluate a3 u) s = done ((s.sncConds r).sncSelect r) := congrArg done (sncEval_eq h)

/-- The state of a selector whose condition has had its hold-off. -/
def State.sncEntered (s : State) (k i : Nat) : State := (s.stopTimer (sncHoldKey k i)).setSnc k ((s.sncSt k).putBit i true)

theorem exec_sncpHoldoffExpire (a3 : Bool) (u : TA) (i : Fin 4) {s : State} (h : s.timerDone (sncHoldKey (egName a3 u) i) = true) :
    exec (.sncpHoldoffExpire a3 u i) s = done ((s.sncEntered (egName a3 u) i).sncEval (egName a3 u)) := if_pos h

theorem exec_sncpWtrExpire (a3 : Bool) (u : TA) {r : Rec} {s : State} (h : s.timerDone (sncWtrKey (egName a3 u)) = true)
    (hr : s.selector (egName a3 u) = some r) :
    exec (.sncpWtrExpire a3 u) s = done (((s.stopTimer (sncWtrKey (egName a3 u))).sncConds r).sncSelect r) :=
  (if_pos h).trans (congrArg done (sncEval_eq hr))

-- The end of a hold-off (R192)

section
variable (s : State) (k i : Nat)

theorem sncEntered_bit : ((s.sncEntered k i).sncSt k).bit i = true := by
  unfold State.sncEntered; rw [sncSt_setSnc, SncSt.bit_putBit_same]

theorem sncEntered_timer : (s.sncEntered k i).timer (sncHoldKey k i) = none := timer_stopTimer_same _ _

theorem sncEval_stands : (s.sncEval k).actMap = s.actMap ∧ (s.sncEval k).mem = s.mem := by
  cases h : s.selector k with
  | none => rw [sncEval_none h]; exact ⟨rfl, rfl⟩
  | some r => rw [sncEval_eq h]; exact ⟨(sncEval_kept s r).map, (sncEval_kept s r).mem⟩

/-- Whatever selector stands at the name, an evaluation starts no hold-off for a condition that has just entered. -/
theorem sncEval_entered_timer : ((s.sncEntered k i).sncEval k).timer (sncHoldKey k i) = none := by
  cases h : (s.sncEntered k i).selector k with
  | none => rw [sncEval_none h]; exact sncEntered_timer s k i
  | some r =>
    have takes := sncConds_takes (s.sncEntered k i) r
    have selects := sncSelect_selects ((s.sncEntered k i).sncConds r) r
    rw [sncEval_eq h]
    rw [selects.timers _ rfl (by simp [sncHoldKey, sncWtrKey])]
    by_cases hk : r.key = k
    · subst hk
      exact takes.held i (sncEntered_timer _ _ _) (.inl (sncEntered_bit _ _ _))
    · rw [takes.timers _ fun j _ => by simp [sncHoldKey, Ne.symm hk]]
      exact sncEntered_timer _ _ _

end

-- What stands when an evaluation's command ends

section
variable {s t : State} {r : Rec}

/-- A command evaluated a selector: its state is what the evaluation gave it. -/
structure Evaluated (r : Rec) (s t : State) : Prop where
  state : t.sncSt r.key = ((s.sncConds r).sncSelect r).sncSt r.key
  timers : ∀ j, reactTimer j = false → t.timer j = ((s.sncConds r).sncSelect r).timer j
  kept : SncKept r.key s t

theorem evaluated_done (s : State) (r : Rec) : ∃ t, done ((s.sncConds r).sncSelect r) = .next t ∧ Evaluated r s t := by
  obtain ⟨t, ht, only⟩ := done_only ((s.sncConds r).sncSelect r)
  have control := ControlOnly.of_react only
  exact ⟨t, ht, control.sncSt_eq _, only.timers, (sncEval_kept s r).trans (.control control)⟩

theorem Evaluated.bit (h : Evaluated r s t) {i : Nat} (hi : i ∈ [3, 2, 1, 0])
    (now : r.holdoff = 0 ∨ (s.sncSt r.key).bit i = true ∨ s.sncRaw r i = false) : (t.sncSt r.key).bit i = s.sncRaw r i := by
  rw [h.state, bit_sncEval, (sncConds_takes s r).taken i hi now]

theorem Evaluated.selects (h : Evaluated r s t) :
    (t.sncSt r.key).alt = (t.sncSt r.key).select (t.sncSt r.key).rank ∧ ∀ q, (t.sncSt r.key).top = some q → (t.sncSt r.key).rank = q := by
  have selects := sncSelect_selects (s.sncConds r) r
  rw [h.state]
  exact ⟨selects.alt, selects.rank⟩

/-- With neither a condition nor a command left, a revertive selector whose wait-to-restore is over is back (R194). -/
theorem Evaluated.reverts (h : Evaluated r s t) (revert : r.revert = true) (waited : (s.sncSt r.key).rank = 7) (cmd : (s.sncSt r.key).cmd = 0)
    (clear : ∀ i, s.sncRaw r i = false) (stopped : s.timer (sncWtrKey r.key) = none) :
    (t.sncSt r.key).alt = false ∧ (t.sncSt r.key).rank = 9 ∧ t.timer (sncWtrKey r.key) = none := by
  have takes := sncConds_takes s r
  obtain ⟨c, hc⟩ := takes.rest
  have bits (i : Nat) (hi : i < 4) : ((s.sncConds r).sncSt r.key).bit i = false :=
    (takes.taken i (by simp; omega) (.inr (.inr (clear i)))).trans (clear i)
  have untimed : (s.sncConds r).timer (sncWtrKey r.key) = none :=
    (takes.timers _ fun i _ => by simp [sncHoldKey, sncWtrKey]).trans stopped
  rw [h.state, h.timers _ rfl]
  exact sncSelect_reverts revert (SncSt.top_none bits (by rw [hc]; exact cmd)) (by rw [hc]; exact waited) untimed

end

/-- Settles O25: an evaluation takes each condition that has no hold-off left and selects by the request that then governs, and what the end of its
command then carries out leaves the selector; the accesses by what they put. -/
theorem selectorsFollowRequestsAndAreRead : Obligations.SelectorsFollowRequestsAndAreRead := by
  unfold Obligations.SelectorsFollowRequestsAndAreRead
  refine ⟨⟨fun a3 u r s h hk h0 => ?evaluate, fun a3 u i s h => ?holdoff, fun a3 u r s h hr hk revert waited cmd clear => ?wtr⟩,
    fun p d a3 u s hp h => ?missing, fun p d a3 u s hp h hd => ?found, fun p d e l s hp h hl => ?pop, fun p d s hp h => ?empty⟩
  case evaluate =>
    obtain ⟨t, ht, ev⟩ := evaluated_done s r
    refine ⟨t, (exec_sncpEvaluate h).trans ht, ?_⟩
    rw [← hk]
    exact ⟨⟨ev.bit (i := 3) (by simp) (.inl h0), ev.bit (i := 2) (by simp) (.inl h0), ev.bit (i := 1) (by simp) (.inl h0),
      ev.bit (i := 0) (by simp) (.inl h0), ev.selects⟩, ev.kept.map, ev.kept.mem, ev.kept.others⟩
  case holdoff =>
    obtain ⟨t, ht, only⟩ := done_only ((s.sncEntered (egName a3 u) i).sncEval (egName a3 u))
    have control := ControlOnly.of_react only
    refine ⟨t, (exec_sncpHoldoffExpire a3 u i h).trans ht, (only.timers _ rfl).trans (sncEval_entered_timer s _ i), fun none => ?_,
      fun r hr hk => ?_, ?_⟩
    · rw [control.sncSt_eq, sncEval_none (s := s.sncEntered _ _) none, sncEntered_bit]
    · have takes := sncConds_takes (s.sncEntered (egName a3 u) i) r
      rw [control.sncSt_eq, sncEval_eq (s := s.sncEntered _ _) hr]
      rw [← hk] at takes ⊢
      rw [bit_sncEval]
      exact takes.taken i (by simp; omega) (.inr (.inl (sncEntered_bit _ _ _)))
    · obtain ⟨map, mem⟩ := sncEval_stands (s.sncEntered (egName a3 u) i) (egName a3 u)
      exact ⟨control.actMap_eq.trans map, control.mem_eq.trans mem⟩
  case wtr =>
    obtain ⟨t, ht, ev⟩ := evaluated_done (s.stopTimer (sncWtrKey (egName a3 u))) r
    obtain ⟨hsrc, halt⟩ := clear
    have none (i : Nat) : (s.stopTimer (sncWtrKey (egName a3 u))).sncRaw r i = false := by
      unfold State.sncRaw
      rw [hsrc, halt]
      rcases i with _ | _ | _ | _ | i <;> rfl
    refine ⟨t, (exec_sncpWtrExpire a3 u h hr).trans ht, ?_⟩
    rw [← hk] at waited cmd none ev ⊢
    obtain ⟨alt, rank, timer⟩ := ev.reverts revert waited cmd none (timer_stopTimer_same _ _)
    exact ⟨alt, rank, timer, ev.kept.map, ev.kept.mem⟩
  case missing =>
    refine ⟨_, (exec_sncpIndRead hp d a3 u).trans (congrArg _ (sncRead_missing _ _ _ _ h)), ?_, flag_put_same _ _ _ (by decide), ?_⟩
    · rw [flag_put_field _ _ _ (by decide), sncAsked_done]
    · exact ((RegsOnly.answer s .done).trans (.sncAsked _ _ _ _ (by simp) (by simp))).trans (.put _ _ _ (by simp))
  case found =>
    have elsewhere : R.SNCP_IND_STATUS d.val ≠ R.SNCP_IND_DATA0 d.val ∧ R.SNCP_IND_STATUS d.val ≠ R.SNCP_IND_DATA1 d.val ∧
      R.SNCP_IND_DATA0 d.val ≠ R.SNCP_IND_DATA1 d.val := by simp
    obtain ⟨ne0, ne1, ne⟩ := elsewhere
    obtain ⟨rank, alt, cond, cmd⟩ := sncShown_fields ((s.answer .done).sncAsked d a3 u) d (s.sncSt (egName a3 u))
    refine ⟨_, (exec_sncpIndRead hp d a3 u).trans (congrArg _ (sncRead_found (s.answer .done) _ _ _ h hd)), ?_, ?_, ?_, ?_, ?_, ?_⟩
    · rw [State.flag, State.get, rd_sncLeft _ _ _ _ ne1, rd_sncShown _ _ _ ne0]
      exact sncAsked_done _ _ _ _
    · rw [State.get, rd_sncLeft _ _ _ _ ne]
      exact rank
    · rw [State.flag, State.get, rd_sncLeft _ _ _ _ ne]
      exact alt
    · rw [State.get, rd_sncLeft _ _ _ _ ne]
      exact cond
    · rw [State.get, rd_sncLeft _ _ _ _ ne]
      exact cmd
    · exact (((RegsOnly.answer s .done).trans (.sncAsked _ _ _ _ (by simp) (by simp))).trans (.sncShown _ _ _ (by simp))).trans
        (.sncLeft _ _ _ _ (by simp))
  case pop =>
    have popped := sncPop_pops (s.answer .done) d h
    exact ⟨_, exec_sncpLogPop hp d, popped.resp, popped.log, popped.data0, popped.data1, popped.data2,
      popped.count.trans (Nat.mod_eq_of_lt (by omega)), (RegsOnly.answer { s with sncLog := _ } .done).trans popped.regs⟩
  case empty =>
    refine ⟨_, (exec_sncpLogPop hp d).trans (congrArg _ (sncPop_nil (s.answer .done) d h)), ?_, ?_⟩
    · exact flag_put_same _ _ _ (by decide)
    · exact ((RegsOnly.answer s .done).trans (.put _ _ _ (by simp))).trans (.answer _ _)

end Sys2Proof.Machine
